-- ==== Sys2Proof/Word.lean ====
section
/-!
DEFINITION. The word types of the block: bytes, 32-bit register words, 64-bit words and ZLP blocks.
Spec: 00 R8 (little-endian fields), R10 (32-bit registers), R13 (64-bit pairs), 03 R67 (66-bit blocks).
-/
namespace Sys2Proof

/-- A byte (00 R8). -/
abbrev Byte := BitVec 8

/-- A 32-bit register word (00, section "Registers"). -/
abbrev Word := BitVec 32

/-- A 64-bit quantity: a register pair (00 R13) or a block payload (03 R67). -/
abbrev Word64 := BitVec 64

end Sys2Proof
end

