-- ==== Sys2Proof/Types.lean ====
section
/-!
DEFINITION. The operand types of the commands: indices of the block's arrays, units, and what the outside answers to the
block's own requests.  Spec: 00 "Instance and signal names", 01 R29, 02 R46, 08 R213-R215, 06 R157.
-/
namespace Sys2Proof

/-- A lane: L000-L255 are 0-255, PL0 and PL1 are 256 and 257 (00, 03). -/
abbrev LaneIx := Fin 258
/-- A port P00-P31 (00). -/
abbrev PortIx := Fin 32
/-- A galley segment S0-S15 (04 R114). -/
abbrev SegIx := Fin 16
/-- A trigger input 0-7 (00). -/
abbrev TrigIx := Fin 8
/-- A compositor cluster C00-C31 (00). -/
abbrev ClusterIx := Fin 32
/-- A compositor 0-511, number 16c + k (05 R128). -/
abbrev CompIx := Fin 512
/-- A galley stack G0-G3 (00). -/
abbrev StackIx := Fin 4
/-- A submission or completion ring (09 R225). -/
abbrev RingIx := Fin 1024
/-- A magazine channel M00-M31 (00). -/
abbrev ChannelIx := Fin 32
/-- A servo loop: 0 focus, 1 tracking, 2 tilt, 3 skew (01 R29, 14). -/
abbrev LoopIx := Fin 4
/-- A read beam or write beam 0-15 (13). -/
abbrev BeamIx := Fin 16
/-- A motion axis: 0 sled, 1 lift, 2 shuttle (15; the spec numbers them 1-3). -/
abbrev AxisIx := Fin 3
/-- A PCIe function (08). -/
abbrev FnIx := Fin 2

/-- A unit with an enable bit and a state field (02 R46). -/
inductive UnitRef where
  | port (p : PortIx) | cap | cluster (c : ClusterIx) | pair | sq (n : RingIx) | cq (m : RingIx)
  | mag | och | srv | mot | col
  deriving DecidableEq, Repr

/-- A PLL (02 R33, R35). -/
inductive Pll where
  | core | gphy (g : StackIx) | lane (p : PortIx) | pairing | pcie | colophon
  deriving DecidableEq, Repr

/-- Who makes a register, mailbox or window access (04 R127, 19 R474). -/
inductive Requester where
  | host0 | host1 | mc0 | mc1 | mc2 | mc3 | sc | cc | dbg | aos
  deriving DecidableEq, Repr

/-- Why a read that the device issued failed (08 R213, R215; 09 R233, R247). -/
inductive ReadFail where
  | timeout | poisoned | unsupported | abort
  deriving DecidableEq, Repr

/-- Errors that the link reports as it trains or retrains (08 R217). -/
inductive LinkErr where
  | receiver | badTlp | badDllp | replayRollover | replayTimeout | dataLinkProtocol | receiverOverflow | malformedTlp
  deriving DecidableEq, Repr

/-- What host memory answers to a read of the device (09 R233, R247). -/
inductive HostRead where
  | data (bytes : List Byte)
  /-- It failed; the bytes that had arrived before (09 R247). -/
  | failed (arrived : List Byte) (why : ReadFail)
  deriving DecidableEq, Repr

/-- Errors that have come about in galley lines since they were last damaged or written: a line number, and each damaged place with the
bits that changed there.  Places 0-71 are the bytes of the codeword (06 R157); 72, 73 and 74 are the line's bit in the three copies
of the row's POISON tag (06 R156).  Given with commands that read the galley. -/
abbrev Damage := List (Nat × List (Nat × Byte))

/-- What the receive elastic stage of a lane did at this block (03 R75). -/
inductive RxElastic where
  | none | inserted | deleted | dropped
  deriving DecidableEq, Repr

/-- What goes with a received block: the block slot of its arrival, the transmit slots that passed on the lane since the
block before it, and the action of the receive elastic stage (03 R75, R79, R88). -/
structure RxInfo where
  slot : Nat
  txSlots : Nat
  elastic : RxElastic
  deriving DecidableEq, Repr

/-- What a poisoned TLP was (08 R213). -/
inductive PoisonKind where
  | bar0Write (addr : Nat) | bar2Write (addr : Nat) (bytes : List (Option Byte)) | configWrite (off : Nat)
  | readCompletion (tag : Nat)
  deriving DecidableEq, Repr

/-- Bits corrected in a NAND codeword by a read: mapping unit, 4 KiB sector, corrected bits; more than 120 means that no
retry level decodes it (10 R270, R271).  Given with every command that reads the NAND. -/
abbrev NandEcc := List (Nat × Nat × Nat)

/-- New places that the flash translation layer chose: mapping unit and physical unit number (10 R262, R280). -/
abbrev Puns := List (Nat × Nat)

/-- Damage met when a folio is read: errors and erasures of each damaged row (12 R315, 13 R341), and the wrong rows that
the outer code then sees; a row not listed decodes.  One per pass over the folio. -/
structure FolioPass where
  /-- Row, byte errors, byte erasures. -/
  rows : List (Nat × Nat × Nat)
  /-- Samples of the pass that were flagged (13 R341). -/
  flagged : Nat := 0
  deriving DecidableEq, Repr

/-- What one write/read spot saw at a wedge: beam, the wedge ID word if its SAM was found, bursts A-D (12 R310, R311) measured over the
samples that are not flagged, the gains that its channel's gain control asks for, and the samples of the wedge, counted from its first
bit, that a dropout flags (13 R340, R341). -/
structure SpotWedge where
  beam : Nat
  id : Option (BitVec 48)
  a : Int
  b : Int
  c : Int
  d : Int
  coarse : Nat := 0
  fine : Nat := 0
  dropouts : List Nat := []
  deriving DecidableEq, Repr

/-- A service input as it was measured (14 R374, 15 R389): the averaged 14-bit code, high time and period of one period, or the
frequency in Hz counted over its gate. -/
inductive AuxIn where
  | analog (code : Nat) | duty (high period : Nat) | freq (hz : Nat)
  deriving DecidableEq, Repr

/-- What a servo loop's sample brings (14 R356, R363, R364, R366): the normalized measured signal in codes, the sum signal, the
mean coil current since the last sample, whether the sample is the zero crossing at which acquisition closes the loop, the angles
as 32-bit fractions of a turn, and AUX_REF when it was updated. -/
structure LoopInput where
  x : Int
  sum : Int
  imeas : Int
  cross : Bool
  disc : BitVec 32
  rotor : BitVec 32
  aux : Option AuxIn
  deriving DecidableEq, Repr

/-- What a MOT PWM period brings (15 R379-R393): requested on-times by half-bridge, peak of each current input in thousandths of
the LOW full scale, voltage magnitude in 1/1,024 of VBUS / sqrt 3, the speed controller's iq in 0.01 A, the rotor angle, and each
moving axis's position and speed (microsteps, full steps/s) along its profile. -/
structure PwmInput where
  /-- SPINDLE_REF as it was measured, where it was (15 R389). -/
  ref : Option AuxIn := none
  treq : List (Nat × Int)
  peaks : List (Nat × Nat)
  vmag : Nat
  iq : Int
  rotor : BitVec 32
  axes : List (Nat × Int × Nat)
  deriving DecidableEq, Repr

/-- An SRAM error met by a map-cache access (11 R300). -/
inductive SramErr where
  | none | single | double
  deriving DecidableEq, Repr

/-- A PCIe reset kind that the matrix of 02 R40 tells apart. -/
inductive ResetKind where
  | por | perst | sys | hot | flr0 | flr1
  deriving DecidableEq, Repr

end Sys2Proof
end

