-- ==== Sys2Proof/Media.lean ====
section
/-!
DEFINITION. The removable media as plain data: the magazine's NAND (10) and the ZAD-3 discs (12).  They come and go with
the commands that insert and remove them.
-/
namespace Sys2Proof

/-- A NAND die as discovery finds it (10 R259). -/
structure Die where
  /-- 16 * channel + index within the channel (10 R262). -/
  num : Nat
  /-- The parameter page has a valid signature and CRC and reports the sizes that R259 asks for. -/
  sane : Bool
  /-- The die is on the firmware's die table. -/
  qualified : Bool
  blocks : Nat
  pages : Nat
  planes : Nat
  ratedPe : Nat
  uid : List Byte
  factoryBad : List Nat
  deriving DecidableEq, Repr

/-- A poison record: logical unit, sector mask, cause, device time (10 R272, R287). -/
structure PoisonRec where
  unit : Nat
  mask : Nat
  cause : Nat
  time : Nat
  deriving DecidableEq, Repr

/-- The binding record (10 R282); `key` is the at-rest key that SC unwraps from it, `valid` says that its signature verifies
against the magazine-controller identity of the device named by `serial`. -/
structure Binding where
  magId : List Byte
  serial : List Byte
  key : List Byte
  gen : Nat
  valid : Bool
  deriving DecidableEq, Repr

/-- A root generation (10, "Roots and the journal"). -/
structure Root where
  gen : Nat
  lbs : Nat
  exportUnits : Nat
  /-- Map snapshot: logical unit and physical unit number. -/
  snapshot : List (Nat × Nat)
  /-- Sequence number of the first journal page to replay. -/
  journalFrom : Nat
  bad : List Nat
  binding : Binding
  deriving DecidableEq, Repr

/-- A journal page: sequence, whether its CRC is good, and its changes; `none` is UNMAPPED (10 R278, R274). -/
structure JournalPage where
  seq : Nat
  good : Bool
  maps : List (Nat × Option Nat)
  deriving DecidableEq, Repr

/-- A programmed physical unit: its metadata and its 16,384 bytes as encrypted at rest (10, "The read path"; R281). -/
structure PhysUnit where
  lun : Nat
  seq : Nat
  poison : Nat
  slc : Bool
  data : List Byte
  /-- Sectors that no read-retry level decodes (10 R270). -/
  ue : Nat := 0
  /-- Sectors exported under a take key (01 R23). -/
  keyed : Nat := 0
  deriving DecidableEq, Repr

/-- A NAND block: erase count and whether it was retired (10 R279, R280). -/
structure NandBlock where
  erase : Nat := 0
  grownBad : Bool := false
  deriving DecidableEq, Repr

/-- The magazine module (10). -/
structure Module where
  dies : List Die
  /-- Four copies of two slots; `none` is a slot whose CRC fails (10 R278). -/
  roots : List (List (Option Root))
  journal : List JournalPage
  /-- Programmed units by physical unit number, and blocks by die * B + block. -/
  units : List (Nat × PhysUnit)
  blocks : List (Nat × NandBlock)
  /-- The chrysalis slot and the poison list of the reserved area (10 R277, R273); the list was full once a record had to be left out. -/
  chrysalis : List Byte := []
  poison : List PoisonRec := []
  overflow : Bool := false
  deriving DecidableEq, Repr

/-- A ZAD-3 disc (12). -/
structure Disc where
  /-- A wedge ID on L0 passes R310, and none contradicts R303 and R305 (12 R329). -/
  wedgesGood : Bool
  /-- Recorded folios by physical folio address: the 65,664 bytes of the data area (12 R316). -/
  folios : List (Nat × List Byte)
  /-- Recorded folios that do not count as written (13 R343). -/
  failed : List Nat := []
  deriving DecidableEq, Repr

/-- The cartridge's twelve slots (12 R303). -/
abbrev Cartridge := List (Option Disc)

end Sys2Proof
end

