-- ==== Sys2Proof/Syntax.lean ====
section
/-!
DEFINITION. The commands the block takes: one constructor per row of spec/opcode_table.json, in the table's order.  Each is
whole and indivisible (95, opening lines); its docstring names the rule the table gives it.
-/
namespace Sys2Proof

/-- A command: a register access, a bus or protocol event, an event on a pin, or an event of the block itself. -/
inductive Instr where
  /-- R10. A host write to a register that has no row of its own takes effect per its fields' access types, with reserved
  encodings kept out under R12.
  `hi` is the high word of an aligned 8-byte write. -/
  | registerWrite (q : Requester) (addr : Nat) (v : Word) (hi : Option Word := none)
  /-- R208. A host write of 1 to a W1C event bit clears it, and the event vector is signalled again if the unit event OR
  stays at 1. -/
  | eventBitClear (q : Requester) (addr : Nat) (v : Word)
  /-- R127. A read of the low word of a 64-bit pair returns the low half and copies the high half into the requester's
  shadow.
  `wide` says that the read is an aligned 8-byte read. -/
  | read64bitLowWord (q : Requester) (addr : Nat) (wide : Bool := false)
  /-- R39. A PCIe configuration request is served, or answered with Request Retry Status until FAULT_N is released and any
  reset commit has ended. -/
  | configRequest (f : FnIx) (off : Nat) (v : Option Word)
  /-- R21. A write to TOP.MODE changes ROLE only while no take is live and pairing is IDLE, and otherwise sets REJECTED. -/
  | topModeWrite (v : Word)
  /-- R46. A write to a unit's enable bit starts start-up or drain, or is held while the unit is in a transition. -/
  | unitEnableWrite (u : UnitRef) (v : Bool)
  /-- R46. A unit's start-up completes, and the unit enters RUNNING, or enters STOPPING if a disable is held. -/
  | unitStartupComplete (u : UnitRef)
  /-- R46. A unit's drain completes, and the unit enters IDLE, or STARTING if an enable is held. -/
  | unitDrainComplete (u : UnitRef)
  /-- R45. A write of 1 to a bit of RST.UNIT_RESET disables the unit with a drain of at most 1 ms and then resets it. -/
  | unitReset (v : Word)
  /-- R45. The 1 ms drain of a unit reset expires, so work still in flight is cut and its commands complete with UNIT_RESET.
  -/
  | unitResetDrainTimeout
  /-- R40. A main rail stays out of range for 1 µs, so POR is asserted and clears or stops what the reset matrix lists. -/
  | powerOnReset
  /-- R38. POR is released and the power-up sequence runs: AOS self-test, PLL locks, standing image, MC0 start, calibration
  and FAULT_N release. -/
  | porRelease (selfTest fw0 fw1 : Bool)
  /-- R41. PERST_N is asserted, and capture stops, lanes idle, the write buffer is committed or kept, the galley enters
  self-refresh and the cores are reset. -/
  | perstNAssert
  /-- R41. SYS_RST_N is asserted and runs the same ordered steps as PERST_N while keeping the PCIe link and configuration
  space. -/
  | sysRstNAssert
  /-- R41. PERST_N or SYS_RST_N is deasserted after the reset steps complete, and the galley leaves self-refresh once its
  PHY PLL locks. -/
  | resetDeassert (sys fw0 fw1 : Bool)
  /-- R42. A PCIe hot reset or link disable clears both functions and HQ and abandons outstanding ring commands, while
  capture, relay and drains continue. -/
  | hotReset
  /-- R222. An FLR of function 0 resets that function and HQ within 100 ms, while work inside the device continues. -/
  | flrFunction0
  /-- R222. An FLR of function 1 clears its configuration space and MSI-X table and leaves the colophon state untouched. -/
  | flrFunction1
  /-- R37. A PLL achieves lock, and the outputs it clocks leave their power-up state, such as lanes that begin sending IDLE
  blocks. -/
  | pllLock (p : Pll)
  /-- R35. A PLL loses lock and the device takes the action the table gives for that PLL. -/
  | pllLossOfLock (p : Pll)
  /-- R36. A port's lane PLL loses lock, so the port enable is cleared, the end of frame is reported at once, relay ends and
  the port goes IDLE. -/
  | lanePllLoss (p : PortIx)
  /-- R35. REFCLK shows no edge for 80 ns, so all PLLs enter holdover, AON moves to the ring oscillator and the AOS safe-
  states the machine. -/
  | refclkLost
  /-- R50. The two AOS copies disagree, so FAULT_N falls within 160 ns, actuators take their power-up state and the galley
  enters self-refresh. -/
  | aosLockstepMismatch
  /-- R48. No MC0 heartbeat arrives for 100 ms after a restart of MC0, and the AOS safe-states the machine. -/
  | mc0HeartbeatTimeout
  /-- R51. VBUS is below VBUS_FAIL for 2 consecutive samples, so FAIL is declared and the chrysalis state leaves NORMAL. -/
  | supplyFailDeclared (vbus holdup ibus : Nat)
  /-- R51. VBUS is below VBUS_WARN for 16 consecutive samples, so WARN is declared, an event is raised and the limit
  governor is fed. -/
  | supplyWarnDeclared (vbus : Nat)
  /-- R51. VBUS stays at or above VBUS_WARN + 0.5 V for 1 ms, and WARN clears. -/
  | supplyWarnClear (vbus : Nat)
  /-- R52. VBUS and IBUS stay above their return levels for 10 ms, and a device in RIDE returns to NORMAL. -/
  | supplyReturned (vbus holdup ibus : Nat)
  /-- R54. The bank energy falls to RESERVE during RIDE, or a reset is asserted in RIDE, and the device enters SAVE. -/
  | holdupReserveReached (holdup : Nat)
  /-- R54. The SAVE steps complete, the state becomes SAVED and the AOS safe state is entered. -/
  | chrysalisSaveComplete
  /-- R57. HOLDUP_SENSE falls below HOLDUP_MIN during SAVE, so the save ends early and the AOS safe state is entered at
  once. -/
  | holdupBelowMinimum (holdup : Nat)
  /-- R53. A write to PWR.BUS_THRESH that would leave the thresholds out of order is discarded whole. -/
  | pwrBusThreshWrite (v : Word)
  /-- R59. Dirty write-buffer bytes fall below the hold-up bound, and a block write waiting for buffer space proceeds.
  `ecc` gives what correction does in the NAND codewords read on the way. -/
  | writeBufferSpaceFreed (c : Nat) (h : HostRead) (ecc : NandEcc := [])
  /-- R62. The junction reaches 100 °C, so an event is raised and the limit governor is fed. -/
  | tWarnReached (temp : Nat)
  /-- R62. The junction falls below 95 °C, and the T_WARN condition clears. -/
  | tWarnClear (temp : Nat)
  /-- R63. The junction reaches 110 °C, so capture stops, takes close and shutdown is deferred by up to 2 ms. -/
  | tShutReached (temp : Nat)
  /-- R63. The T_SHUT deferral ends and the AOS safe state is entered, with the write buffer kept in the galley. -/
  | tShutDeferralEnd
  /-- R64. The junction reaches 125 °C, so the comparator stops every PLL except AON, actuators take their power-up state
  and FAULT_N falls. -/
  | tTrip (temp : Nat)
  /-- R65. After T_SHUT or T_TRIP the junction reaches 95 °C or below, and the device stops holding itself in reset. -/
  | thermalResetRelease (temp : Nat) (fw0 fw1 : Bool)
  /-- R76. After the adaptation interval a lane receiver sees 64 consecutive valid sync headers and enters LOCKED. -/
  | rxBlockLock (l : LaneIx)
  /-- R93. A block arrives with an invalid sync header, and it is counted in ERR_SH and the HI_BER window. -/
  | receiveInvalidSyncHeader (l : LaneIx) (ones : Bool) (payload : Word64) (info : RxInfo)
  /-- R93. 50,000 locked block times pass with fewer than 16 invalid headers, and HI_BER clears. -/
  | hiBerClear (l : LaneIx)
  /-- R71. A received IDLE block is consumed without effect on content, and it may advance a LOCKED receiver to SYNCED. -/
  | receiveIdle (l : LaneIx) (payload : Word64) (info : RxInfo)
  /-- R76. A CT ALIGN block is received, checked for identity and used for lane alignment, port deskew and the slip check.
  -/
  | receiveAlign (l : LaneIx) (payload : Word64) (info : RxInfo)
  /-- R100. A port delivers an FS block, which opens a frame, joins an open frame, or is discarded as stale. -/
  | receiveFs (l : LaneIx) (payload : Word64) (info : RxInfo)
  /-- R100. The SKEW window after a frame opening expires, and enabled ports without a matching FS count their lines as not
  received. -/
  | fsSkewTimeout (frame : Nat)
  /-- R99. A line start arrives and the line is judged against the stripe map's expected line, then accepted or rejected. -/
  | receiveLs (l : LaneIx) (payload : Word64) (info : RxInfo)
  /-- R72. A data block of a packing group is received, and the group's 32 samples are delivered once all seven blocks
  arrive. -/
  | receiveDataBlock (l : LaneIx) (payload : Word64) (info : RxInfo)
  /-- R102. A frame end arrives from a port, and the frame closes once every enabled port has ended it. -/
  | receiveFe (l : LaneIx) (payload : Word64) (info : RxInfo)
  /-- R102. TIMEOUT elapses after a frame opened, and the frame closes with its unreceived lines missing. -/
  | frameTimeout (frame : Nat)
  /-- R69. An MK marker block is received and passed to the capture unit for its use. -/
  | receiveMk (l : LaneIx) (payload : Word64) (info : RxInfo)
  /-- R87. A CT TRAIN block is received and consumed, and it is never relayed. -/
  | receiveTrain (l : LaneIx) (payload : Word64) (info : RxInfo)
  /-- R82. A lane of a STOPPING port has not finished its line after 100 µs and stops, so the port reports the end of frame
  and goes IDLE once all its lanes finish. -/
  | laneDrainTimeout (l : LaneIx)
  /-- R83. A write to LANE.PORT.CTL is checked: WIDTH, ID_CHECK and RX_POL changes outside IDLE, and invalid TX_SRC HEAD
  values, are discarded with CFG_REJ. -/
  | lanePortCtlWrite (p : PortIx) (v : Word)
  /-- R85. A write changes a lane's EGRESS, which starts a training burst when leaving IDLE and otherwise switches at the
  next block boundary. -/
  | laneEgressChange (l : LaneIx) (v : Word)
  /-- R85. A write of RETRAIN sends a training burst at once. -/
  | laneRetrain (l : LaneIx)
  /-- R85. A lane's training burst ends, and its content begins. -/
  | trainingBurstEnd (l : LaneIx)
  /-- R94. A write of CNT_CLR clears all counters of a lane. -/
  | laneCntClr (l : LaneIx)
  /-- R95. Setting PRBS_TX makes the transmitter send raw PRBS31, which ends relay on the lane. -/
  | prbsTxEnable (l : LaneIx)
  /-- R95. Setting PRBS_RX makes the receiver check PRBS31 and deliver nothing. -/
  | prbsRxEnable (l : LaneIx)
  /-- R86. ALIGN_PERIOD blocks have passed, and a non-relay transmitter sends an ALIGN block. -/
  | transmitAlign (p : Fin 33)
  /-- R91. A line assembled from ingest port p leaves on the head-transmit lanes within 2 µs of its last group. -/
  | headTransmitLine (p : PortIx) (frame line : Nat)
  /-- R97. A pairing lane leaves SYNCED or sees no valid control block for 400 blocks, and is reported down.
  `peer` is the level of PAIR_PEER_N. -/
  | pairingLaneDown (k : Fin 2) (peer : Bool := true)
  /-- R110. A transition arrives on a trigger input and its MIN_WIDTH glitch filter begins. -/
  | triggerEdge (t : TrigIx) (level : Bool)
  /-- R110. A transition persists MIN_WIDTH ticks and qualifies, so COUNT and LAST update, a MARK may be written and trigger
  logic is evaluated. -/
  | triggerQualifyingEvent (t : TrigIx)
  /-- R164. Every non-absent sort of a forme has reached its final offset, so the directory is written and the take's counts
  advance. -/
  | formeComplete (frame : Nat)
  /-- R442. The signed colophon record arrives and is written to the record slot, and the take enters CLOSED with its
  summary. -/
  | colophonRecordReceived (seg : SegIx)
  /-- R122. A CLOSING take waits 10 ms without its colophon record, and it closes with UNCERTIFIED set. -/
  | colophonRecordTimeout (seg : SegIx)
  /-- R109. The colophon returns a frame's certified time, and the capture unit writes it into CERT_TIME. -/
  | certTimeReturned
  /-- R125. A write to CAP geometry, frame, stripe or segment configuration is discarded with CFG_REJ while takes are live,
  and otherwise takes effect at the next frame. -/
  | capConfigWrite (addr : Nat) (v : Word)
  /-- R126. Writing CAP.CTL.EN to 0 opens no further frame, closes the open ones, ends the current take at its last forme
  and goes IDLE when the store empties. -/
  | capDisable
  /-- R125. A write of CAP.CTL.CNT_CLR clears the CAP counters. -/
  | capCntClr
  /-- R131. A free compositor requests the oldest sort of the first non-empty queue in its search, and the queue grants by
  R132. -/
  | compositorTakeSort
  /-- R128. A compositor finishes reading its sort from the assembly store 112 cycles after the grant, and the slot is
  freed. -/
  | assemblyReadComplete (k : CompIx) (damaged : List Nat)
  /-- R140. A compositor finishes coding a sort, with raw fallback if needed, and delivers it to the galley. -/
  | sortCoded (k : CompIx)
  /-- R137. A write to a cluster MASK withdraws or admits compositors from the next search, with 0x0000 rejected. -/
  | compositorMaskWrite (c : ClusterIx) (v : Word)
  /-- R133. A write of CMP.CFG.CNT_CLR clears the CMP counters. -/
  | cmpCntClr
  /-- R163. The forme writer accepts a coded sort, writes it at the frontier or parks it in its worst-case slot. -/
  | codedSortDelivery
  /-- R169. The forme store falls to LOW, and the paused drain classes resume. -/
  | drainThrottleRelease
  /-- R175. Background initialization zeros the next never-written granule when no other class waits. -/
  | backgroundInitGranule
  /-- R178. The scrubber reads the next written line in the SCRUB class and counts or logs what it finds. -/
  | patrolScrubRead (dmg : Damage)
  /-- R174. Writing VALID = 1 in GAL.ERR_INFO frees the error log for the next error. -/
  | galErrorLogFree (v : Word)
  /-- R169. A write to GAL.ARB_WM that would leave HIGH above 16,384 or LOW at or above HIGH is discarded whole. -/
  | galArbWmWrite (v : Word)
  /-- R174. A write of GAL.CTL.CNT_CLR clears the GAL counters. -/
  | galCntClr
  /-- R180. After the galley-PHY PLL locks the galley leaves self-refresh within 10 µs. -/
  | selfRefreshExit
  /-- R181. After self-refresh exit following PERST_N or SYS_RST_N, each live segment's take is closed and given a summary
  built from its slot and a walk. -/
  | takeRecovery (dmg : Damage)
  /-- R184. A starting pairing unit evaluates PAIR_PEER_N, at once for PRIMARY or after 1 ms for SECONDARY, and claims or
  becomes STANDBY. -/
  | pairRoleEvaluation (peerHigh : Bool)
  /-- R184. 1 µs after driving its claim the member re-samples PAIR_PEER_N and becomes ACTIVE, STANDBY or CONTENDED. -/
  | pairClaimResample (peerHigh : Bool)
  /-- R195. PAIR_PEER_N has read high for 2 µs, and a standby evaluates the takeover condition. -/
  | peerHigh
  /-- R188. A record is pending and EPOCH_US has passed, so the active sends an epoch on PL0 and PL1. -/
  | epochSend
  /-- R190. An EPOCH_END completes an epoch, which the standby commits and applies, or discards as partial. -/
  | receiveEpochEnd (k : Fin 2) (blocks : List Word64)
  /-- R191. A pairing HEARTBEAT is received, which acknowledges epochs and reports the peer's role and SYNC.
  `peer` is the level of PAIR_PEER_N. -/
  | receivePairHeartbeat (k : Fin 2) (payload : Word64) (peer : Bool := true)
  /-- R96. 256 blocks have passed, and a pairing lane sends a CT HEARTBEAT. -/
  | pairHeartbeatSend (k : Fin 2)
  /-- R191. Acknowledgement lags by more than 4 epochs for 100 µs, and the active sends a RESYNC epoch. -/
  | epochAckTimeout
  /-- R197. A disabled active's 10 µs of LEAVING heartbeats ends, and it releases its claim and continues unpaired. -/
  | pairLeavingEnd
  /-- R191. A write of PAIR.CTL.CNT_CLR clears the PAIR counters. -/
  | pairCntClr
  /-- R200. The PCIe link trains or retrains, and LINK_DEGRADED_EV is set below 64 GT/s ×16.
  `errs` are the link errors that the link reports. -/
  | linkTrained (speed width : Nat) (flit : Bool) (errs : List LinkErr := [])
  /-- R203. A BAR0 or BAR4 request of an unsupported shape completes with Completer Abort or is discarded, and is logged. -/
  | bar0AccessBadShape (f : FnIx) (write : Bool) (addr : Nat)
  /-- R205. A BAR2 read is mapped directly or through a window to a galley address and returns data, or zeros on a miss. -/
  | bar2Read (addr len : Nat) (dmg : Damage)
  /-- R179. A BAR2 write is judged line by line and performed or discarded by region and segment state. -/
  | bar2Write (addr : Nat) (bytes : List (Option Byte)) (poisoned : Bool) (dmg : Damage)
  /-- R204. A write to the BAR2 Resizable BAR size takes effect only while Memory Space Enable is 0. -/
  | resizableBarWrite (v : Word)
  /-- R206. Writing a window's EN to 1 checks its size and alignment, and it stays 0 with XWIN_REJ on failure. -/
  | xwinEnable (w : Nat)
  /-- R209. A vector's masks clear while its PBA bit is set, and one message is sent and the PBA bit cleared. -/
  | msixPendingSend (f : FnIx) (vec : Nat)
  /-- R213. A poisoned TLP is received and logged, and the target lines are poisoned or the data is refused. -/
  | poisonedTlpReceived (f : FnIx) (kind : PoisonKind)
  /-- R215. A device read times out, so it is logged and counted, and the issuing operation fails or is retried. -/
  | completionTimeout (tag : Nat)
  /-- R216. A completion for a timed-out or pre-reset request is discarded as an Unexpected Completion. -/
  | lateCompletion (tag : Nat)
  /-- R218. An uncorrectable endpoint or HQ datapath error is logged in both functions and contains both.
  `corrected` says that the error was correctable. -/
  | internalDatapathError (corrected : Bool := false)
  /-- R219. A write of FREEZE puts a function into containment with cause HOST. -/
  | containmentFreeze (f : FnIx)
  /-- R221. A write of RELEASE with a matching FREEZE_SEQ and no remaining cause releases the function, or sets RELEASE_REJ.
  -/
  | containmentRelease (f : FnIx) (v : Word)
  /-- R223. The link reaches DL_Down without a reset, which is treated as a hot reset, and retraining continues. -/
  | surpriseLinkDown
  /-- R224. A function enters D3hot, so it issues no requests and holds completion entries. -/
  | d3hotEntry (f : FnIx)
  /-- R224. A function returns from D3hot to D0 and writes its held completion entries. -/
  | d0Return (f : FnIx)
  /-- R534. Bus Master Enable is cleared, so the function issues no requests and holds its work as in containment. -/
  | busMasterEnableClear (f : FnIx)
  /-- R534. Bus Master Enable is set, and the function resumes within 10 µs as on release. -/
  | busMasterEnableSet (f : FnIx)
  /-- R216. A write of PCIE.CFG.CNT_CLR clears the PCIE counters. -/
  | pcieCntClr
  /-- R231. The scan interval expires and a doorbell scan reads the summary line. -/
  | doorbellScan
  /-- R231. The summary line arrives, nonzero bytes are zeroed and their doorbell lines are read. -/
  | summaryLineReceived (r : HostRead)
  /-- R231. A doorbell line arrives, and new TAIL values make entries fetchable, or bad values freeze rings. -/
  | doorbellLineReceived (j : Fin 64) (r : HostRead)
  /-- R232. A write to HQ.WAKE makes scanning ACTIVE and starts a scan within 250 ns. -/
  | hqWake (v : Word)
  /-- R235. A head-doorbell read of a full completion ring returns, and a valid HEAD frees entries or the read is discarded
  with CQ_HEAD_ERR. -/
  | cqHeadDoorbellReceived (m : RingIx) (r : HostRead)
  /-- R229. HQ fetches fetchable entries, SQ0 first and then by weighted round robin. -/
  | submissionEntryFetch
  /-- R237. A fetched entry is checked for opcode, reserved fields, ranges and absent units, and then passed to its unit. -/
  | submissionEntryReceived (n : RingIx) (slot : Nat) (r : HostRead)
  /-- R241. The 2^c µs coalescing interval expires, and the completion ring's vector is sent for the entries written. -/
  | cqCoalesceExpiry (m : RingIx)
  /-- R248. A write of RESUME, optionally with SKIP, to HQ.SQ.CMD clears the ring's freeze. -/
  | sqResume (n : RingIx) (skip : Bool)
  /-- R249. A write of HQ.CTL.CNT_CLR clears the HQ counters. -/
  | hqCntClr
  /-- R242. The WRITE command writes logical blocks and completes at the durability point of its row.
  `ecc` gives what correction does in the NAND codewords read on the way. -/
  | write (c : Nat) (h : HostRead) (ecc : NandEcc := [])
  /-- R245. The READ command reads logical blocks to host memory. -/
  | read (c : Nat) (ecc : NandEcc)
  /-- R243. The FLUSH command completes once earlier writes and discards have reached NAND durability. -/
  | flush (c : Nat)
  /-- R274. The DISCARD command unmaps units or merges zeros into blocks.
  `ecc` gives what correction does in the NAND codewords read on the way. -/
  | discard (c : Nat) (ecc : NandEcc := [])
  /-- R246. The ATOMIC_WRITE command writes up to 1 MiB within one aligned span, all or nothing.
  `ecc` gives what correction does in the NAND codewords read on the way. -/
  | atomicWrite (c : Nat) (h : HostRead) (ecc : NandEcc := [])
  /-- R115. The ARM command checks the stripe map, segment, slots, parameters and capacity, then assigns a TAKE_ID and
  queues, arms or runs the take. -/
  | arm (c : Nat)
  /-- R532. The STOP command closes or cancels the named take, or completes at once if it is already closing or closed. -/
  | stop (c : Nat)
  /-- R116. The RELEASE command frees a CLOSED take's segment, or holds the release while drains are in progress. -/
  | release (c : Nat)
  /-- R116. The last drain or read of a take with a held release ends, and the take becomes IDLE. -/
  | releaseHeldComplete (seg : SegIx)
  /-- R238. The EXPORT_TAKE command copies a take's formes and summary to the magazine, optionally following it and
  encrypting under a take key.
  `ecc` gives what correction does in the NAND codewords read on the way. -/
  | exportTake (c : Nat) (dmg : Damage) (puns : Puns) (ecc : NandEcc := [])
  /-- R239. The GALLEY_READ command writes stored formes of a take to host memory back to back. -/
  | galleyRead (c : Nat) (dmg : Damage)
  /-- R239. The EGRESS_PLAY command sends stored formes on a PLAYBACK port, paced, optionally looping. -/
  | egressPlay (c : Nat) (dmg : Damage)
  /-- R398. The DISC_LOAD command homes, picks and clamps the disc from a slot, spins it up and acquires the servo loops. -/
  | discLoad (c : Nat)
  /-- R398. The DISC_EJECT command stops the disc and returns it to its cartridge slot. -/
  | discEject (c : Nat)
  /-- R326. The ARCHIVE_WRITE command records magazine blocks as a new or resumed extent of proofed folios. -/
  | archiveWrite (c : Nat) (ecc : NandEcc) (opc : List (List Bool)) (pass : FolioPass)
  /-- R351. The ARCHIVE_READ command reads resolved folios to host memory. -/
  | archiveRead (c : Nat) (pass : FolioPass)
  /-- R325. The SEAL_IMAGO command writes the relocation table and the signed manifest and records a directory entry. -/
  | sealImago (c : Nat)
  /-- R327. The ARCHIVE_VERIFY command reads an imago back and checks it against its manifest. -/
  | archiveVerify (c : Nat) (pass : FolioPass)
  /-- R407. The KEY_LOAD command loads a clear or wrapped key blob into a host slot with its USE mask. -/
  | keyLoad (c : Nat) (h : HostRead)
  /-- R403. The KEY_CLEAR command empties a host slot and completes once no bound copy remains. -/
  | keyClear (c : Nat)
  /-- R410. The CIPHER command encrypts or decrypts whole blocks from DATA_ADDR to DEST_ADDR. -/
  | cipher (c : Nat) (h : HostRead)
  /-- R409. The MAC command computes a CBC-MAC and writes 16 bytes to DEST_ADDR. -/
  | mac (c : Nat) (h : HostRead)
  /-- R427. The ATTEST command writes a signed 416-byte attestation report. -/
  | attest (c : Nat)
  /-- R250. The ABORT command fetches the named ring and catches or misses the target command by CID and epoch. -/
  | abort (c : Nat)
  /-- R249. The LOG_READ command returns the error log or the magazine health page. -/
  | logRead (c : Nat)
  /-- R239. The FEATURE_GET command returns the value of a feature. -/
  | featureGet (c : Nat)
  /-- R239. The FEATURE_SET command sets a writable feature such as WRITE_CACHE. -/
  | featureSet (c : Nat)
  /-- R226. The RING_CREATE command sets a ring's registers and enables it. -/
  | ringCreate (c : Nat)
  /-- R251. The RING_DELETE command stops a ring, aborts its catchable commands and returns it to IDLE. -/
  | ringDelete (c : Nat)
  /-- R248. The RING_RESUME command clears a ring freeze, optionally skipping unfetched entries. -/
  | ringResume (c : Nat)
  /-- R252. The SANITIZE command erases the magazine by block or crypto erase as a magazine barrier, optionally zeroing idle
  segments. -/
  | sanitize (c : Nat)
  /-- R252. The FORMAT command sets the logical block size and rebinds the magazine with every block reading zeros. -/
  | format (c : Nat)
  /-- R424. The CERT_READ command writes a DER certificate chain. -/
  | certRead (c : Nat)
  /-- R253. After a reset or power loss an interrupted SANITIZE or FORMAT resumes from its newest journal entry. -/
  | sanitizeResume
  /-- R257. MAG_PRESENT_N has been low for 50 ms, and the magazine is taken as inserted. -/
  | magazineInserted (m : Module)
  /-- R276. MAG_PRESENT_N goes high, so the channels return to their power-up levels and magazine commands complete with
  NO_MEDIA. -/
  | magazineRemoved
  /-- R258. 10 ms after insertion, or when MAG enters RUNNING, mounting begins with discovery and channel training. -/
  | mountStart (rates : List (Nat × Nat))
  /-- R278. Root selection and journal replay end, the retained buffer is handled, and the magazine becomes READY,
  READ_ONLY, BLANK, FOREIGN or FAILED. -/
  | mountComplete
  /-- R265. MC1 commits a buffered unit to NAND and journals its mapping, then releases it from the buffer. -/
  | bufferUnitCommit (puns : Puns) (dmg : Damage)
  /-- R242. A NAND program completes, and durability is reached for FUA writes or exports whose blocks it holds. -/
  | nandProgramComplete (c : Nat)
  /-- R279. A program or erase reports failure, so the block is retired as grown bad and its data is relocated.
  `ecc` gives what correction does in the NAND codewords read on the way. -/
  | programEraseFail (block : Nat) (moves : Puns) (ecc : NandEcc := [])
  /-- R268. Background folding moves SLC data into TLC using idle program capacity. -/
  | fold (block : Nat) (moves : Puns) (ecc : NandEcc)
  /-- R271. A queued block has its valid units moved and is erased. -/
  | blockRefresh (block : Nat) (moves : Puns) (ecc : NandEcc)
  /-- R271. MC2 reads one page of a block in its PATROL_DAYS cycle and queues a refresh above the threshold. -/
  | patrolRead (u : Nat) (ecc : NandEcc)
  /-- R278. After a checkpoint or 60 s, the FTL writes a new root generation to the four copies in turn. -/
  | rootWrite
  /-- R256. The junction has moved 10 °C since a channel's training, and MC1 trains the channel again. -/
  | channelRetrain (m : ChannelIx) (rate : Nat)
  /-- R284. After CRYPTO_ERASE, blocks that held old data are erased in the background. -/
  | backgroundErase (block : Nat)
  /-- R286. Writing MAG.CTL.EN to 0 completes started commands, commits the buffer, writes the journal and a root, and
  unmounts. -/
  | magDisable
  /-- R275. A write of MAG.CTL.CNT_CLR clears the MAG counters and restarts the lost-byte count. -/
  | magCntClr
  /-- R292. A requester's 4-, 8- or 64-byte map-cache access hits or starts or joins a fill. -/
  | mapCacheAccess (r : Fin 5) (addr size : Nat) (w : Option (List Byte)) (err : SramErr) (streaming : Bool)
  /-- R294. A miss fill arrives, a victim is chosen and offered, and joined requesters are served. -/
  | mapFillComplete (line : Nat)
  /-- R295. A fill with no candidate way retries the victim choice each MGMT cycle and counts STALL. -/
  | mapFillRetry (line : Nat)
  /-- R298. A set reaches DIRTY_CLEAN dirty lines, or a checkpoint runs, and MC1 rewrites their map pages. -/
  | mapDirtyClean (set : Nat)
  /-- R301. Invalidation has cleared all 262,144 lines, and INVAL_BUSY reads 0. -/
  | mapInvalidationComplete
  /-- R291. A write to MAP.WAYMASK applies from the requester's next victim choice, with 0x0000 rejected. -/
  | mapWaymaskWrite (r : Fin 5) (v : Word)
  /-- R301. A write of MAP.CTL.CNT_CLR clears the MAP counters. -/
  | mapCntClr
  /-- R331. Eight consecutive clock-track SAMs arrive in place, and the pilot is locked. -/
  | pilotLock
  /-- R331. Four missed SAMs or 64 bits of large phase error lose pilot lock, which is a write fault on all beams. -/
  | pilotLockLoss
  /-- R332. A beam detects a SAM at a wedge, which sets its bit-clock phase and feeds the burst measurements. -/
  | samDetected (pilot : Option (BitVec 48)) (phase : Int) (spots : List SpotWedge)
  /-- R335. Power control needs more than IMAX for 4 segments, so the laser is held at IMAX and the beam stops writing. -/
  | laserFault (b : BeamIx)
  /-- R336. With a disc clamped and spinning, LD_EN goes high and the laser drives ramp to read level over 100 µs. -/
  | laserPowerOn
  /-- R342. A proof spot's inner codeword has been decoded, and the row is judged failing, exceeding or good.
  `flagged` counts the flagged samples of its row. -/
  | proofRowVerdict (b : BeamIx) (row : Nat) (corrected : Option Nat) (flagged : Nat := 0)
  /-- R343. At wedge k + 2 after a folio's last bit, the folio counts as written or fails and is queued for relocation. -/
  | folioProofVerdict (b : BeamIx)
  /-- R347. A servo, laser, SAM or pilot fault drops the affected lasers to read power within 200 ns and cuts their folios.
  -/
  | writeFault (beams : List Nat)
  /-- R347. The fault has cleared and 2 good SAMs are read, so the affected beams resume at the next folio index. -/
  | writeFaultRecovery (b : BeamIx)
  /-- R351. A folio with uncorrectable outer codewords is read again on the next revolution. -/
  | folioReadRetry (pass : FolioPass)
  /-- R355. Writing OCH.CTL.EN to 0 stops a write resumably or a read at a folio boundary, then turns the lasers off. -/
  | ochDisable
  /-- R355. A write of OCH.CTL.CNT_CLR clears the OCH counters. -/
  | ochCntClr
  /-- R360. MC3 starts or restarts acquisition of a servo loop, which enables its coil bridge. -/
  | loopAcquireStart (l : LoopIx)
  /-- R360. A loop's error stays within LOCK_THR for 64 samples, and the loop locks.
  `radius` is the one the wedge ID reports, in sled microsteps. -/
  | loopLocked (l : LoopIx) (radius : Int := 0)
  /-- R360. The sum is not good, focus holds, or a jump starts, and a locked loop enters HOLD with its output frozen. -/
  | loopHoldEntry (l : LoopIx)
  /-- R360. The sum is good for 16 samples, and a held loop returns to LOCKED. -/
  | loopHoldExit (l : LoopIx)
  /-- R360. A loop stays in HOLD for HOLD_MAX samples and enters FAULT. -/
  | loopHoldTimeout (l : LoopIx)
  /-- R360. A locked loop's error exceeds OFF_THR for 16 samples, and it enters FAULT with cause LOSS. -/
  | loopLoss (l : LoopIx)
  /-- R364. An acquisition step passes its limit and is retried, or leaves the loop in FAULT after three attempts. -/
  | acquisitionTimeout (l : LoopIx)
  /-- R359. A write of COMMIT copies a loop's shadowed coefficients into use at the next sample. -/
  | loopCommit (l : LoopIx)
  /-- R362. The coil current crosses a band threshold, and the bridge reverses after dead time. -/
  | coilReversal (l : LoopIx) (pos : Bool)
  /-- R363. MIN_DWELL elapses, and a deferred coil reversal is performed. -/
  | coilDwellExpiry (l : LoopIx)
  /-- R363. A write to SRV.COIL.CFG while its loop is not OFF is discarded with CFG_REJ. -/
  | coilCfgWrite (l : LoopIx) (v : Word)
  /-- R365. A jump starts at a wedge with no beam writing, holding the other loops and kicking focus. -/
  | layerJumpStart (down : Bool)
  /-- R365. KICK_US elapses, and the lens coasts with zero output. -/
  | jumpKickEnd
  /-- R365. The focus error passes the next S-curve peak, and the brake begins. -/
  | jumpScurvePeak
  /-- R365. The brake ends, and focus closes at the next zero crossing and reacquires. -/
  | jumpBrakeEnd
  /-- R365. Focus is LOCKED and the wedge ID reports the target layer, so the jump completes. -/
  | jumpComplete (layer : Nat)
  /-- R365. A jump is not complete within 1 ms or lands on a wrong layer, so it is counted and retried, with FAULT after 3
  failures. -/
  | jumpTimeout (layer : Nat)
  /-- R368. A write of SWAP requests the other table bank. -/
  | ffBankSwap (t : Fin 6)
  /-- R368. At the next index wrap or sample the inactive bank becomes active. -/
  | ffSwapApply (t : Fin 6)
  /-- R369. Every 1 µs the governor computes candidates, lowers G to the target and sets GOV_EV. -/
  | governorUpdate (vbus ibus : Nat)
  /-- R370. 100 µs elapse, and G rises by at most RISE toward the target. -/
  | governorRise
  /-- R369. A write to GOV_TEMP or GOV_IBUS that leaves end ≤ start is discarded whole. -/
  | governorThresholdWrite (ibus : Bool) (v : Word)
  /-- R372. SAT_ACC reaches SAT_COUNT, so the fault is counted and the loop's ACTION is applied. -/
  | saturationFault (l : LoopIx)
  /-- R375. A write of SRV.SVC.EN starts service mode, or is discarded while OCH is writing. -/
  | serviceModeEnable (v : Word)
  /-- R375. 10 ms pass without an edge in DUTY or FREQ mode, so the set-point holds and SVC_LOST_EV is set. -/
  | serviceInputLost (spindle : Bool)
  /-- R376. Writing SRV.CTL.EN to 0 stops any archive write and turns the loops and coil bridges off in order. -/
  | srvDisable
  /-- R376. A write of SRV.CTL.CNT_CLR clears the SRV counters. -/
  | srvCntClr
  /-- R385. MC3 sets a target speed, and a stopped spindle enters SPINUP if the interlocks allow it. -/
  | spindleStart (zone : Fin 32)
  /-- R385. The speed stays within 0.05 % of target for 10 ms, and the spindle enters FREQ_LOCK. -/
  | spindleFreqLock
  /-- R385. The OCH clock is set and pilot SAMs arrive, so phase error feeds the speed reference. -/
  | spindlePhaseAcquire
  /-- R385. The phase error stays within 4 bits for 480 marks, and the spindle enters PHASE_LOCK. -/
  | spindlePhaseLock
  /-- R385. A large phase error or absent SAMs for 8 marks return the spindle to FREQ_LOCK. -/
  | spindlePhaseLoss
  /-- R386. MC3 requests a new zone target, and the spindle returns to SPINUP for the new speed. -/
  | spindleZoneChange (zone : Fin 32)
  /-- R387. A stop request, RIDE or MOT STOPPING starts regenerative braking. -/
  | spindleBrakeRegen
  /-- R387. The speed falls below SHORT_RPM, and all low sides conduct. -/
  | spindleBrakeShort (speed : Nat)
  /-- R385. No Hall edge arrives for 100 ms in BRAKE_SHORT, and the bridge is disabled. -/
  | spindleStopped
  /-- R389. A write of MOT.SPN.SVC.EN starts or ends spindle service mode, or is discarded while the mechanism is held. -/
  | spindleServiceEnable (q : Requester) (v : Word)
  /-- R382. After PRED_MAX predicted periods the voltage vector is scaled down and PREDICT_EV is set. -/
  | currentPredictionLimit
  /-- R388. Every 1 ms the spindle kinetic energy is computed for the ride-through estimate. -/
  | kineticEnergyUpdate (speed : Nat)
  /-- R393. The SEEK axis command moves to TARGET along the jerk-limited profile. -/
  | seek (q : Requester) (a : AxisIx)
  /-- R393. The SWEEP axis command moves toward TARGET at SWEEP_V, with sled tracking follow. -/
  | sweep (q : Requester) (a : AxisIx)
  /-- R393. The STOP axis command decelerates along the profile and sets REMAIN for a sweep. -/
  | axisStop (q : Requester) (a : AxisIx)
  /-- R393. The RESUME axis command restarts a stopped sweep if REMAIN is nonzero and nothing was moved since. -/
  | axisResume (q : Requester) (a : AxisIx)
  /-- R394. The HOME axis command seeks the home switch, backs off, re-approaches and sets POS_VALID. -/
  | home (q : Requester) (a : AxisIx)
  /-- R395. The PARK command seeks the sled to PARK_POS and holds it. -/
  | park (q : Requester) (a : AxisIx)
  /-- R392. A stepper move or stop reaches its end along the profile. -/
  | axisMoveComplete (a : AxisIx) (pos : Int)
  /-- R390. An axis has been at standstill for 100 ms, and its current drops to HOLD_I. -/
  | axisStandstill (a : AxisIx)
  /-- R394. A home switch asserts or deasserts during homing, and the homing moves to its next phase. -/
  | homeSwitchEdge (a : AxisIx) (asserted : Bool)
  /-- R394. The home switch is not found within HOME_MAX, so the axis enters FAULT with HOME_FAIL_EV.
  `pos` is the position where the axis stopped. -/
  | homeFail (a : AxisIx) (pos : Int := 0)
  /-- R398. An exchange step exceeds its limit, and the command completes with MEDIA_ERROR. -/
  | exchangeStepTimeout
  /-- R398. DISC_SENSE_N changes during an exchange, which confirms pick or clamp. -/
  | discSenseChange (asserted : Bool)
  /-- R399. After a reset with a disc on the fork, MC3 homes the axes and returns the disc to its journalled slot. -/
  | discReturnAfterReset
  /-- R526. VDRV falls below 10 V, so every high side turns off and BRAKE_SHORT stays in place. -/
  | vdrvUndervoltage
  /-- R526. VDRV rises above 11 V, and the bridges recover. -/
  | vdrvRecovery
  /-- R378. A write to MOT.PWM is discarded if inconsistent or while any bridge is enabled. -/
  | motPwmWrite (v : Word)
  /-- R400. Writing MOT.CTL.EN to 0 stops any archive write, brakes the spindle and parks the sled. -/
  | motDisable
  /-- R400. A write of MOT.CTL.CNT_CLR clears the MOT counters. -/
  | motCntClr
  /-- R419. A free AES engine takes the next 64 KiB piece by class priority. -/
  | enginePieceDispatch (e : Fin 16)
  /-- R419. An engine finishes its piece and becomes free. -/
  | enginePieceComplete (e : Fin 16)
  /-- R421. A TRNG window fails a health test and is discarded, and three consecutive failures mark SEC failed. -/
  | trngWindowFail (consecutive : Bool)
  /-- R421. A write of SEC.CTL.CNT_CLR clears the SEC counters. -/
  | secCntClr
  /-- R430. COL_VDD leaves its range, so every COL register resets, the time base restarts at 0 and the seal counter is
  repaired. -/
  | colophonPowerOnReset
  /-- R432. The colophon's start-up tests pass or fail, and held messages are processed or the colophon enters FAILED. -/
  | colophonStartupComplete (pass : Bool)
  /-- R432. Writing COL.CTL.EN to 0 closes open records with DISABLED and stops strobe answers. -/
  | colophonDisable
  /-- R434. The 1 s gate ends, and the 10 MHz reference is judged and steers the increment. -/
  | disciplineGate (good : Bool) (inc : Nat)
  /-- R434. A PPS edge is timed, which moves the discipline state and applies an armed TOD set. -/
  | ppsEdge (elapsed inc : Nat)
  /-- R434. No PPS for 3 s sends a LOCKED discipline into HOLDOVER. -/
  | ppsLoss
  /-- R434. 24 h in HOLDOVER return the discipline to FREE. -/
  | holdoverExpiry
  /-- R436. A write of TOD_CMD.ARM arms a time-of-day set for the next PPS, or is discarded with CFG_REJ. -/
  | todArm
  /-- R437. The colophon times a frame strobe and returns its certified time within 200 ns, or leaves it unanswered. -/
  | frameStrobe
  /-- R438. A TDC channel times an edge at its trigger ball, or counts an overrun. -/
  | tdcEdge (inp : TrigIx) (rising : Bool) (fine : Fin 10)
  /-- R439. The colophon receives OPEN for a take and opens its record. -/
  | takeOpenMessage
  /-- R440. The colophon receives a frame's membership decision and hashes it into FRAME_SHA. -/
  | membershipDecision
  /-- R441. The colophon receives CLOSE and signs the record within 2 ms. -/
  | takeCloseMessage
  /-- R443. Every 100 µs the capture unit sends a heartbeat to the colophon. -/
  | colophonHeartbeatSend
  /-- R443. No heartbeat arrives for 1 ms, so open records close with LINK_LOST and LINK_EV is set. -/
  | colophonLinkLost
  /-- R446. A write of AUTH.PROVISION checks the authority key and burns it once. -/
  | authProvision
  /-- R447. A write of CHANGE_CMD.GO checks a signed configuration entry, advances the seal counter and applies it. -/
  | changeGo (cell : Fin 3) (entryOk : Bool)
  /-- R438. A write of COL.CTL.CNT_CLR clears the COL counters. -/
  | colCntClr
  /-- R454. A write to EFC.KEY advances the unlock sequence, or abandons it with SEQ_ERR. -/
  | efcKeyWrite (q : Requester) (v : Word)
  /-- R455. The PROGRAM operation programs a blank granule at the eighth DATA write and verifies it. -/
  | program (q : Requester) (v : Word)
  /-- R456. The SECTOR_ERASE operation starts at the ADDR write and erases a 4 KiB sector. -/
  | sectorErase (q : Requester) (v : Word)
  /-- R460. The OTP_PROGRAM operation programs an OTP granule while the lock is clear. -/
  | otpProgram (q : Requester) (v : Word)
  /-- R455. The BLANK_CHECK operation tests a whole sector for blank. -/
  | blankCheck (q : Requester) (v : Word)
  /-- R455. A flash operation ends, its RESULT is set and DONE_EV raised. -/
  | efcOperationComplete (verified : Bool)
  /-- R457. A firmware request during a host erase suspends it within 20 µs, runs, and resumes the erase. -/
  | efcEraseSuspend (resume : Bool)
  /-- R452. A read of the flash window returns data, zeros for slots, or a bus fault for a busy bank or an uncorrectable
  error. -/
  | efcWindowRead (q : Requester) (addr len : Nat) (errs : List (Nat × Nat))
  /-- R449. A write to the flash window is discarded with PROT_VIOL. -/
  | efcWindowWrite (q : Requester) (addr : Nat) (v : Word)
  /-- R453. Writing VALID = 1 in EFC.ECC_LOG frees the log. -/
  | efcEccLogFree (v : Word)
  /-- R458. A write of CLR clears ABORT_ADDR. -/
  | efcAbortAddrClr (v : Word)
  /-- R453. A write of EFC.CTL.CNT_CLR clears the EFC counters. -/
  | efcCntClr
  /-- R463. Firmware appends an entry at the first blank granule after the last valid entry. -/
  | journalAppend (journal kind : Nat) (payload : List Byte)
  /-- R476. A core hits a stack, double, memory or watchdog cause and enters LOCKED, and the AOS releases its quoins and
  holds it in reset. -/
  | coreLockup (k : Fin 5) (cause : Nat) (info : Word)
  /-- R476. No heartbeat for 100 ms makes a core lock up with cause WDOG. -/
  | coreWatchdogTimeout (k : Fin 5) (info : Word)
  /-- R477. The reset hold ends, and the core enters RESTART and reloads from the standing slot. -/
  | coreRestart (k : Fin 5) (fw0 fw1 : Bool)
  /-- R475. A core's first heartbeat moves it to RUN, posts RESTARTED and releases waiting commands. -/
  | coreFirstHeartbeat (k : Fin 5) (engines : BitVec 16) (tests : Bool)
  /-- R475. Firmware idles a core, and its clock is gated. -/
  | coreSleep (k : Fin 5)
  /-- R479. CC locks up and is restarted by the colophon die, while hardware timing continues. -/
  | colophonCoreLockup
  /-- R481. A write to a mailbox WORD stores the word and updates SENDER and SEQ, or is rejected or overrun. -/
  | mailboxWrite (q : Requester) (n : Fin 64) (v : Word)
  /-- R481. A receiver's read of a full mailbox returns the word and clears FULL. -/
  | mailboxRead (q : Requester) (n : Fin 64)
  /-- R484. MBX[40] is clear, and the AOS posts the oldest queued core notice. -/
  | aosNoticePost
  /-- R485. A read of QUOIN.TAKE takes a free quoin and returns the previous ORPHANED, or reports the owner. -/
  | quoinTake (q : Requester) (n : Fin 64)
  /-- R485. A write of RELEASE by the owner frees the quoin, and otherwise it is rejected. -/
  | quoinRelease (q : Requester) (n : Fin 64)
  /-- R487. A write of MBX.CTL.CNT_CLR clears the MBX counters. -/
  | mbxCntClr
  /-- R489. Every 10 ms MC0 compares each block's temperature with TEMP_LAST and marks runs pending. -/
  | calTemperatureCheck (temps : List Nat)
  /-- R489. A write of CAL.BLK.RUN requests a run, ignoring HOLD. -/
  | calRunRequest (b : Fin 6)
  /-- R490. No block is running and one is pending, so the lowest pending block starts its run. -/
  | calRunStart
  /-- R490. A calibration run ends, sets new targets, updates COUNT and LAST and sets RUN_EV. -/
  | calRunComplete (codes : List (Nat × Byte))
  /-- R492. A SLEW interval passes, and each field moves one code toward its target at the next application point. -/
  | calSlewStep (b : Fin 6)
  /-- R496. A host write to a calibration value word sets new targets, or is discarded while the block runs. -/
  | calValueWrite (addr : Nat) (v : Word)
  /-- R474. The TAP enters Test-Logic-Reset, and the DBG incarnation increments and its quoins are released. -/
  | tapReset
  /-- R530. The BYPASS boundary-scan instruction selects the bypass register. -/
  | bypass (tdi : List Bool)
  /-- R530. The IDCODE instruction returns 0x1425_6A7B. -/
  | idcode (tdi : List Bool)
  /-- R530. The SAMPLE/PRELOAD instruction samples or preloads the boundary chain. -/
  | samplePreload (pins tdi : List Bool)
  /-- R530. The EXTEST instruction drives the boundary chain with LD_EN low and bridges off. -/
  | extest (tdi : List Bool)
  /-- R530. The CLAMP instruction holds outputs from the boundary chain with bypass selected. -/
  | clamp (tdi : List Bool)
  /-- R530. The HIGHZ instruction places the covered outputs in high impedance. -/
  | highz (tdi : List Bool)
  /-- R431. COL_VDD comes back into range, the colophon leaves its own reset, POWER reads 1 and the colophon enters
  STARTING. -/
  | colVddReturn
  /-- R399. CART_PRESENT_N changes as the cartridge is removed or reinserted, which clears the MEDIA_ERROR condition left
  when no journal entry named the disc's slot. -/
  | cartPresentChange (cart : Option Cartridge)
  /-- R375. After a lost DUTY or FREQ service input, two edges arrive and the set-point or spindle target tracks AUX_REF or
  SPINDLE_REF again. -/
  | serviceInputReturn (spindle : Bool) (n : Nat)
  /-- R358. At each loop sample the compensator computes its output, updates the integrator and biquad states, and updates
  SAT_ACC. -/
  | loopSample (l : LoopIx) (inp : LoopInput)
  /-- R379. At the start of each MOT PWM period, carries, current sampling and control, ADC range changes, field weakening
  and stepper phase regulation are updated. -/
  | pwmPeriod (inp : PwmInput)
  /-- R110. A counted transition out of the selected level ends a HIGH or LOW trigger input's activity, which affects ALL
  logic without being a qualifying event. -/
  | triggerLevelInactive (t : TrigIx)
  /-- R20. MC1 reclaims NAND blocks in the background by moving their valid units and erasing them. -/
  | garbageCollection (block : Nat) (moves : Puns) (ecc : NandEcc)
  deriving DecidableEq, Repr

end Sys2Proof
end

