-- ==== Sys2Proof/Decode.lean ====
section
/-!
DEFINITION. Commands spelled by bits.  No row of spec/opcode_table.json gives a command bits: the block takes its commands from
outside, so no word spells one.
-/
namespace Sys2Proof

/-- The command that a word of `nbits` bits spells by the table: none, since no row of the table has bits. -/
def decodeTableWord (_nbits _w : Nat) : Option Instr := none

end Sys2Proof
end

