-- ==== Sys2Proof/Machine/RegTable.lean ====
section
/-!
DEFINITION. The register table: every register of function 0 BAR0, of function 1 BAR0, of the configuration spaces and of the
MSI-X tables, with its fields, their access types and reset values.  Spec: the field tables of 01-20 and 21 R497-R504;
configuration space 08 R201, R202 and the containment structure; the layout of the base specification where 08 names it only (log 3).
Keys: function 0 BAR0 offset; 2^32 + offset for function 1 BAR0; (2 + f) * 2^32 + offset for the configuration space of function f;
4 * 2^32 + offset for BAR4.
-/
namespace Sys2Proof.Machine

/-- Access types (00 R10). -/
inductive Access where
  | ro | rw | wo | w1c | w1s | rws | rwl
  deriving DecidableEq, Repr

/-- One field: bits `hi..lo`, its access type, whether the standing image gives its reset value (18 R472), and its reserved
encodings as closed ranges (00 R12). -/
structure RField where
  hi : Nat
  lo : Nat
  acc : Access
  standing : Bool
  bad : List (Nat × Nat)
  deriving DecidableEq, Repr

/-- One register or register array: its name, the key of its first element, its dimensions (count, stride), its reset value with
factory defaults (21 R498) and its fields. -/
structure RReg where
  name : String
  base : Nat
  dims : List (Nat × Nat)
  reset : Nat
  fields : List RField
  deriving DecidableEq, Repr

/-- Registers of page 0x0 (key / 1 MiB), part 0. -/
def regPage0_0 : List RReg := [
  ⟨"TOP.ID", 0, [], 0x425600a1, [⟨31, 16, .ro, false, []⟩, ⟨7, 0, .ro, false, []⟩]⟩,
  ⟨"TOP.MODE", 16, [], 0, [⟨8, 8, .w1c, false, []⟩, ⟨1, 0, .rw, true, [(3, 3)]⟩]⟩,
  ⟨"TOP.UNIT_FAILED", 32, [], 0, [⟨18, 1, .ro, false, []⟩]⟩,
  ⟨"PCIE.CFG", 0x10000, [], 0xa083, [⟨16, 16, .wo, false, []⟩, ⟨15, 12, .ro, true, []⟩, ⟨9, 8, .ro, true, [(2, 2), (3, 3)]⟩, ⟨7, 5, .ro, true, []⟩, ⟨1, 0, .ro, true, []⟩]⟩,
  ⟨"PCIE.STATUS", 0x10004, [], 0, [⟨15, 12, .ro, false, []⟩, ⟨11, 7, .ro, false, []⟩, ⟨6, 6, .ro, false, []⟩, ⟨5, 5, .w1c, false, []⟩, ⟨4, 4, .w1c, false, []⟩, ⟨3, 3, .w1c, false, []⟩, ⟨2, 2, .w1c, false, []⟩, ⟨1, 1, .w1c, false, []⟩, ⟨0, 0, .w1c, false, []⟩]⟩,
  ⟨"PCIE.CPL_TIMEOUT", 0x10010, [], 0, [⟨31, 0, .ro, false, []⟩]⟩,
  ⟨"PCIE.LATE_CPL", 0x10014, [], 0, [⟨31, 0, .ro, false, []⟩]⟩,
  ⟨"PCIE.BAR2_MISS", 0x10018, [], 0, [⟨31, 0, .ro, false, []⟩]⟩,
  ⟨"PCIE.POISON_TX", 0x1001c, [], 0, [⟨31, 0, .ro, false, []⟩]⟩,
  ⟨"PCIE.POISON_RX", 0x10020, [], 0, [⟨31, 0, .ro, false, []⟩]⟩,
  ⟨"PCIE.XWIN.BASE_LO", 0x10100, [(16, 32)], 0, [⟨31, 20, .rw, false, []⟩]⟩,
  ⟨"PCIE.XWIN.BASE_HI", 0x10104, [(16, 32)], 0, [⟨5, 0, .rw, false, []⟩]⟩,
  ⟨"PCIE.XWIN.TARGET_LO", 0x10108, [(16, 32)], 0, [⟨31, 20, .rw, false, []⟩]⟩,
  ⟨"PCIE.XWIN.TARGET_HI", 0x1010c, [(16, 32)], 0, [⟨5, 0, .rw, false, []⟩]⟩,
  ⟨"PCIE.XWIN.CTL", 0x10110, [(16, 32)], 0x1400, [⟨13, 8, .rw, false, [(0, 19), (39, 63)]⟩, ⟨0, 0, .rw, false, []⟩]⟩
]

/-- Registers of page 0x1 (key / 1 MiB), part 0. -/
def regPage1_0 : List RReg := [
  ⟨"CLK.PLL_STATUS", 0x100000, [], 0, [⟨10, 10, .ro, true, []⟩, ⟨9, 9, .w1c, false, []⟩, ⟨8, 8, .w1c, false, []⟩, ⟨7, 7, .ro, false, []⟩, ⟨6, 6, .ro, false, []⟩, ⟨5, 5, .ro, false, []⟩, ⟨4, 1, .ro, false, []⟩, ⟨0, 0, .ro, false, []⟩]⟩,
  ⟨"CLK.LANE_PLL_LOCK", 0x100004, [], 0, [⟨31, 0, .ro, false, []⟩]⟩,
  ⟨"CLK.SENS_REFCLK", 0x100008, [], 0, [⟨0, 0, .rw, true, []⟩]⟩,
  ⟨"RST.CAUSE", 0x100100, [], 1, [⟨14, 14, .w1c, false, []⟩, ⟨13, 13, .w1c, false, []⟩, ⟨12, 12, .w1c, false, []⟩, ⟨11, 11, .w1c, false, []⟩, ⟨10, 10, .w1c, false, []⟩, ⟨9, 9, .w1c, false, []⟩, ⟨8, 8, .w1c, false, []⟩, ⟨7, 7, .w1c, false, []⟩, ⟨6, 6, .w1c, false, []⟩, ⟨5, 5, .w1c, false, []⟩, ⟨4, 4, .w1c, false, []⟩, ⟨3, 3, .w1c, false, []⟩, ⟨2, 2, .w1c, false, []⟩, ⟨1, 1, .w1c, false, []⟩, ⟨0, 0, .w1c, false, []⟩]⟩,
  ⟨"RST.UNIT_RESET", 0x100104, [], 0, [⟨18, 1, .w1s, false, []⟩]⟩,
  ⟨"PWR.BUS_THRESH", 0x100200, [], 0xc32bc78, [⟨29, 20, .rw, true, []⟩, ⟨19, 10, .rw, true, []⟩, ⟨9, 0, .rw, true, []⟩]⟩,
  ⟨"PWR.SENSE_CFG", 0x100204, [], 0x5001428, [⟨31, 24, .rw, true, []⟩, ⟨23, 8, .rw, true, []⟩, ⟨7, 0, .rw, true, []⟩]⟩,
  ⟨"PWR.HOLDUP_CFG", 0x100210, [], 0x8000012c, [⟨31, 31, .rw, true, []⟩, ⟨27, 16, .rw, true, []⟩, ⟨15, 0, .rw, true, []⟩]⟩,
  ⟨"PWR.HOLDUP_LOAD", 0x100214, [], 0x2593603c, [⟨31, 22, .rw, true, []⟩, ⟨21, 12, .rw, true, []⟩, ⟨6, 0, .rw, true, [(101, 127)]⟩]⟩,
  ⟨"PWR.HOLDUP_STATUS", 0x100218, [], 0, [⟨31, 16, .ro, false, []⟩, ⟨15, 4, .ro, false, []⟩, ⟨3, 3, .ro, false, []⟩, ⟨1, 0, .ro, false, []⟩]⟩,
  ⟨"PWR.TEMP", 0x100240, [], 0, [⟨11, 0, .ro, false, []⟩]⟩
]

/-- Registers of page 0x2 (key / 1 MiB), part 0. -/
def regPage2_0 : List RReg := [
  ⟨"LANE.TX_CFG", 0x200000, [], 0x40004000, [⟨31, 24, .rw, false, [(0, 63)]⟩, ⟨15, 0, .rw, false, [(0, 1023)]⟩]⟩,
  ⟨"LANE.PORT.CTL", 0x201000, [(32, 32)], 0x8c6, [⟨11, 11, .rw, true, []⟩, ⟨7, 6, .rw, true, []⟩, ⟨5, 4, .rw, true, [(3, 3)]⟩, ⟨2, 1, .rw, true, []⟩, ⟨0, 0, .rw, true, []⟩]⟩,
  ⟨"LANE.PORT.STATUS", 0x201004, [(32, 32)], 0, [⟨31, 24, .ro, false, []⟩, ⟨23, 16, .ro, false, []⟩, ⟨11, 11, .w1c, false, []⟩, ⟨10, 10, .w1c, false, []⟩, ⟨9, 9, .w1c, false, []⟩, ⟨8, 8, .w1c, false, []⟩, ⟨3, 3, .ro, false, []⟩, ⟨2, 0, .ro, false, []⟩]⟩,
  ⟨"LANE.L.CTL", 0x210000, [(256, 256)], 64, [⟨15, 15, .wo, false, []⟩, ⟨14, 14, .wo, false, []⟩, ⟨13, 13, .rw, true, []⟩, ⟨12, 12, .rw, true, []⟩, ⟨9, 9, .rw, false, []⟩, ⟨8, 8, .rw, false, []⟩, ⟨7, 2, .rw, false, [(0, 7), (33, 63)]⟩, ⟨1, 0, .rw, true, [(3, 3)]⟩]⟩,
  ⟨"LANE.L.STATUS", 0x210004, [(256, 256)], 0, [⟨11, 11, .w1c, false, []⟩, ⟨10, 10, .w1c, false, []⟩, ⟨9, 9, .w1c, false, []⟩, ⟨8, 8, .w1c, false, []⟩, ⟨7, 7, .ro, false, []⟩, ⟨5, 3, .ro, false, []⟩, ⟨2, 0, .ro, false, []⟩]⟩,
  ⟨"LANE.L.BLOCKS_LO", 0x210010, [(256, 256)], 0, [⟨31, 0, .ro, false, []⟩]⟩,
  ⟨"LANE.L.BLOCKS_HI", 0x210014, [(256, 256)], 0, [⟨31, 0, .ro, false, []⟩]⟩,
  ⟨"LANE.L.ERR_SH", 0x210018, [(256, 256)], 0, [⟨31, 0, .ro, false, []⟩]⟩,
  ⟨"LANE.L.ERR_CTL", 0x21001c, [(256, 256)], 0, [⟨31, 0, .ro, false, []⟩]⟩,
  ⟨"LANE.L.LOCK_LOSS", 0x210020, [(256, 256)], 0, [⟨15, 0, .ro, false, []⟩]⟩,
  ⟨"LANE.L.EB_ADJ", 0x210024, [(256, 256)], 0, [⟨31, 16, .ro, false, []⟩, ⟨15, 0, .ro, false, []⟩]⟩,
  ⟨"LANE.L.EB_SLIPS", 0x210028, [(256, 256)], 0, [⟨31, 0, .ro, false, []⟩]⟩,
  ⟨"LANE.L.PRBS_ERR", 0x21002c, [(256, 256)], 0, [⟨31, 0, .ro, false, []⟩]⟩,
  ⟨"LANE.L.PRBS_BITS_LO", 0x210030, [(256, 256)], 0, [⟨31, 0, .ro, false, []⟩]⟩,
  ⟨"LANE.L.PRBS_BITS_HI", 0x210034, [(256, 256)], 0, [⟨31, 0, .ro, false, []⟩]⟩,
  ⟨"LANE.PL.CTL", 0x230000, [(2, 256)], 64, [⟨15, 15, .wo, false, []⟩, ⟨14, 14, .wo, false, []⟩, ⟨13, 13, .rw, true, []⟩, ⟨12, 12, .rw, true, []⟩, ⟨9, 9, .rw, false, []⟩, ⟨8, 8, .rw, false, []⟩, ⟨7, 2, .rw, false, [(0, 7), (33, 63)]⟩, ⟨1, 0, .ro, true, [(3, 3)]⟩]⟩,
  ⟨"LANE.PL.STATUS", 0x230004, [(2, 256)], 0, [⟨11, 11, .w1c, false, []⟩, ⟨10, 10, .w1c, false, []⟩, ⟨9, 9, .w1c, false, []⟩, ⟨8, 8, .w1c, false, []⟩, ⟨7, 7, .ro, false, []⟩, ⟨5, 3, .ro, false, []⟩, ⟨2, 0, .ro, false, []⟩]⟩,
  ⟨"LANE.PL.BLOCKS_LO", 0x230010, [(2, 256)], 0, [⟨31, 0, .ro, false, []⟩]⟩,
  ⟨"LANE.PL.BLOCKS_HI", 0x230014, [(2, 256)], 0, [⟨31, 0, .ro, false, []⟩]⟩,
  ⟨"LANE.PL.ERR_SH", 0x230018, [(2, 256)], 0, [⟨31, 0, .ro, false, []⟩]⟩,
  ⟨"LANE.PL.ERR_CTL", 0x23001c, [(2, 256)], 0, [⟨31, 0, .ro, false, []⟩]⟩,
  ⟨"LANE.PL.LOCK_LOSS", 0x230020, [(2, 256)], 0, [⟨15, 0, .ro, false, []⟩]⟩,
  ⟨"LANE.PL.EB_ADJ", 0x230024, [(2, 256)], 0, [⟨31, 16, .ro, false, []⟩, ⟨15, 0, .ro, false, []⟩]⟩,
  ⟨"LANE.PL.EB_SLIPS", 0x230028, [(2, 256)], 0, [⟨31, 0, .ro, false, []⟩]⟩,
  ⟨"LANE.PL.PRBS_ERR", 0x23002c, [(2, 256)], 0, [⟨31, 0, .ro, false, []⟩]⟩,
  ⟨"LANE.PL.PRBS_BITS_LO", 0x230030, [(2, 256)], 0, [⟨31, 0, .ro, false, []⟩]⟩,
  ⟨"LANE.PL.PRBS_BITS_HI", 0x230034, [(2, 256)], 0, [⟨31, 0, .ro, false, []⟩]⟩
]

/-- Registers of page 0x3 (key / 1 MiB), part 0. -/
def regPage3_0 : List RReg := [
  ⟨"CAP.CTL", 0x300000, [], 0, [⟨8, 8, .wo, false, []⟩, ⟨0, 0, .rw, true, []⟩]⟩,
  ⟨"CAP.STATUS", 0x300004, [], 0, [⟨10, 10, .w1c, false, []⟩, ⟨9, 9, .w1c, false, []⟩, ⟨8, 8, .w1c, false, []⟩, ⟨3, 3, .ro, false, []⟩, ⟨2, 0, .ro, false, []⟩]⟩,
  ⟨"CAP.GEOM", 0x300010, [], 0x400040, [⟨30, 16, .rw, true, [(0, 0), (1, 1)]⟩, ⟨15, 0, .rw, true, [(0, 0), (1, 1), (65521, 65535)]⟩]⟩,
  ⟨"CAP.FRAME_CFG", 0x300014, [], 0x27100a01, [⟨31, 16, .rw, true, [(0, 0)]⟩, ⟨15, 8, .rw, true, [(0, 0)]⟩, ⟨1, 0, .rw, true, [(2, 2), (3, 3)]⟩]⟩,
  ⟨"CAP.DEVTIME_LO", 0x300020, [], 0, [⟨31, 0, .ro, false, []⟩]⟩,
  ⟨"CAP.DEVTIME_HI", 0x300024, [], 0, [⟨31, 0, .ro, false, []⟩]⟩,
  ⟨"CAP.FRAME_NUM_LO", 0x300028, [], 0, [⟨31, 0, .ro, false, []⟩]⟩,
  ⟨"CAP.FRAME_NUM_HI", 0x30002c, [], 0, [⟨31, 0, .ro, false, []⟩]⟩,
  ⟨"CAP.LINE_ERR", 0x300040, [], 0, [⟨31, 0, .ro, false, []⟩]⟩,
  ⟨"CAP.SEQ_ERR", 0x300044, [], 0, [⟨31, 0, .ro, false, []⟩]⟩,
  ⟨"CAP.DROP_ASSEMBLY", 0x300048, [], 0, [⟨31, 0, .ro, false, []⟩]⟩,
  ⟨"CAP.DROP_FULL", 0x30004c, [], 0, [⟨31, 0, .ro, false, []⟩]⟩,
  ⟨"CAP.SLOT_PEAK", 0x300050, [], 0, [⟨12, 0, .ro, false, []⟩]⟩,
  ⟨"CAP.SEQ_SKIP", 0x300054, [], 0, [⟨31, 0, .ro, false, []⟩]⟩,
  ⟨"CAP.STRIPE.MAP", 0x300100, [(32, 8)], 0, [⟨31, 31, .rw, true, []⟩, ⟨30, 16, .rw, true, []⟩, ⟨14, 0, .rw, true, []⟩]⟩,
  ⟨"CAP.STRIPE.STEP", 0x300104, [(32, 8)], 1, [⟨14, 0, .rw, true, [(0, 0)]⟩]⟩,
  ⟨"CAP.TRIG.CFG", 0x300200, [(8, 16)], 0, [⟨31, 31, .rw, true, []⟩, ⟨23, 16, .rw, true, []⟩, ⟨2, 0, .rw, true, [(5, 7)]⟩]⟩,
  ⟨"CAP.TRIG.COUNT", 0x300204, [(8, 16)], 0, [⟨31, 0, .ro, false, []⟩]⟩,
  ⟨"CAP.TRIG.LAST_LO", 0x300208, [(8, 16)], 0, [⟨31, 0, .ro, false, []⟩]⟩,
  ⟨"CAP.TRIG.LAST_HI", 0x30020c, [(8, 16)], 0, [⟨31, 0, .ro, false, []⟩]⟩,
  ⟨"CAP.SEG.CFG", 0x300300, [(16, 16)], 0, [⟨31, 16, .rw, true, []⟩, ⟨15, 0, .rw, true, []⟩]⟩,
  ⟨"CAP.SEG.TAKE", 0x300304, [(16, 16)], 0, [⟨31, 16, .ro, false, []⟩, ⟨3, 3, .ro, false, []⟩, ⟨2, 0, .ro, false, []⟩]⟩,
  ⟨"CAP.SEG.FCAP", 0x300308, [(16, 16)], 0, [⟨31, 0, .ro, false, []⟩]⟩,
  ⟨"CAP.SEG.PRE", 0x30030c, [(16, 16)], 0, [⟨31, 0, .ro, false, []⟩]⟩
]

/-- Registers of page 0x4 (key / 1 MiB), part 0. -/
def regPage4_0 : List RReg := [
  ⟨"CMP.CFG", 0x400000, [], 4, [⟨8, 8, .wo, false, []⟩, ⟨4, 0, .rw, true, [(17, 31)]⟩]⟩,
  ⟨"CMP.STATUS", 0x400004, [], 0, [⟨25, 16, .ro, false, []⟩, ⟨8, 8, .w1c, false, []⟩, ⟨5, 0, .ro, false, []⟩]⟩,
  ⟨"CMP.SORTS_LO", 0x400010, [], 0, [⟨31, 0, .ro, false, []⟩]⟩,
  ⟨"CMP.SORTS_HI", 0x400014, [], 0, [⟨31, 0, .ro, false, []⟩]⟩,
  ⟨"CMP.FALLBACK_LO", 0x400018, [], 0, [⟨31, 0, .ro, false, []⟩]⟩,
  ⟨"CMP.FALLBACK_HI", 0x40001c, [], 0, [⟨31, 0, .ro, false, []⟩]⟩,
  ⟨"CMP.ASM_UE", 0x400020, [], 0, [⟨31, 0, .ro, false, []⟩]⟩,
  ⟨"CMP.CLUSTER.CTL", 0x401000, [(32, 64)], 0xffff0001, [⟨31, 16, .rw, true, [(0, 0)]⟩, ⟨0, 0, .rw, true, []⟩]⟩,
  ⟨"CMP.CLUSTER.STATUS", 0x401004, [(32, 64)], 0, [⟨28, 16, .ro, false, []⟩, ⟨3, 3, .ro, false, []⟩, ⟨2, 0, .ro, false, []⟩]⟩,
  ⟨"CMP.CLUSTER.CODED_LO", 0x401008, [(32, 64)], 0, [⟨31, 0, .ro, false, []⟩]⟩,
  ⟨"CMP.CLUSTER.CODED_HI", 0x40100c, [(32, 64)], 0, [⟨31, 0, .ro, false, []⟩]⟩,
  ⟨"CMP.CLUSTER.STOLEN_IN", 0x401010, [(32, 64)], 0, [⟨31, 0, .ro, false, []⟩]⟩,
  ⟨"CMP.CLUSTER.STOLEN_OUT", 0x401014, [(32, 64)], 0, [⟨31, 0, .ro, false, []⟩]⟩,
  ⟨"CMP.CLUSTER.QUEUE_PEAK", 0x401018, [(32, 64)], 0, [⟨12, 0, .ro, false, []⟩]⟩
]

/-- Registers of page 0x5 (key / 1 MiB), part 0. -/
def regPage5_0 : List RReg := [
  ⟨"GAL.STATUS", 0x500000, [], 0xf0000, [⟨19, 16, .ro, false, []⟩, ⟨12, 12, .ro, false, []⟩, ⟨11, 10, .ro, false, []⟩, ⟨5, 5, .w1c, false, []⟩, ⟨4, 4, .w1c, false, []⟩, ⟨3, 3, .w1c, false, []⟩, ⟨2, 2, .w1c, false, []⟩, ⟨1, 1, .w1c, false, []⟩, ⟨0, 0, .w1c, false, []⟩]⟩,
  ⟨"GAL.CTL", 0x500004, [], 0, [⟨0, 0, .wo, false, []⟩]⟩,
  ⟨"GAL.REGION", 0x500010, [], 0x80000d7f, [⟨31, 28, .ro, true, []⟩, ⟨27, 27, .ro, true, []⟩, ⟨11, 0, .ro, false, []⟩]⟩,
  ⟨"GAL.ARB", 0x500020, [], 0x44622000, [⟨31, 28, .rw, true, [(0, 0)]⟩, ⟨27, 24, .rw, true, [(0, 0)]⟩, ⟨23, 20, .rw, true, [(0, 0)]⟩, ⟨19, 16, .rw, true, [(0, 0)]⟩, ⟨15, 12, .rw, true, [(0, 0)]⟩]⟩,
  ⟨"GAL.ARB_WM", 0x500024, [], 0x30001000, [⟨31, 16, .rw, true, []⟩, ⟨15, 0, .rw, true, []⟩]⟩,
  ⟨"GAL.SCRUB", 0x500030, [], 0x80000018, [⟨31, 31, .rw, true, []⟩, ⟨7, 0, .rw, true, [(0, 0)]⟩]⟩,
  ⟨"GAL.ERR_ADDR_LO", 0x500040, [], 0, [⟨31, 0, .ro, false, []⟩]⟩,
  ⟨"GAL.ERR_ADDR_HI", 0x500044, [], 0, [⟨31, 0, .ro, false, []⟩]⟩,
  ⟨"GAL.ERR_INFO", 0x500048, [], 0x1fffff, [⟨31, 31, .w1c, false, []⟩, ⟨30, 30, .ro, false, []⟩, ⟨29, 27, .ro, false, []⟩, ⟨26, 25, .ro, false, []⟩, ⟨20, 14, .ro, false, []⟩, ⟨13, 7, .ro, false, []⟩, ⟨6, 0, .ro, false, []⟩]⟩,
  ⟨"GAL.INIT_PROGRESS", 0x500050, [], 0, [⟨31, 0, .ro, false, []⟩]⟩,
  ⟨"GAL.THROTTLE_LO", 0x500060, [], 0, [⟨31, 0, .ro, false, []⟩]⟩,
  ⟨"GAL.THROTTLE_HI", 0x500064, [], 0, [⟨31, 0, .ro, false, []⟩]⟩,
  ⟨"GAL.SPILLS", 0x500068, [], 0, [⟨31, 0, .ro, false, []⟩]⟩,
  ⟨"GAL.WR_DISCARD", 0x50006c, [], 0, [⟨31, 0, .ro, false, []⟩]⟩,
  ⟨"GAL.STORE_PEAK", 0x500070, [], 0, [⟨14, 0, .ro, false, []⟩]⟩,
  ⟨"GAL.STACK.CE", 0x500100, [(4, 32)], 0, [⟨31, 0, .ro, false, []⟩]⟩,
  ⟨"GAL.STACK.UE", 0x500104, [(4, 32)], 0, [⟨31, 0, .ro, false, []⟩]⟩,
  ⟨"GAL.STACK.SCRUB_CE", 0x500108, [(4, 32)], 0, [⟨31, 0, .ro, false, []⟩]⟩,
  ⟨"GAL.STACK.SCRUB_UE", 0x50010c, [(4, 32)], 0, [⟨31, 0, .ro, false, []⟩]⟩,
  ⟨"GAL.STACK.POISON_RD", 0x500110, [(4, 32)], 0, [⟨31, 0, .ro, false, []⟩]⟩
]

/-- Registers of page 0x6 (key / 1 MiB), part 0. -/
def regPage6_0 : List RReg := [
  ⟨"PAIR.CTL", 0x600000, [], 0x8040000, [⟨31, 24, .rw, true, [(0, 0)]⟩, ⟨23, 16, .rw, true, [(0, 0)]⟩, ⟨8, 8, .wo, false, []⟩, ⟨0, 0, .rw, true, []⟩]⟩,
  ⟨"PAIR.STATUS", 0x600004, [], 0, [⟨15, 15, .w1c, false, []⟩, ⟨14, 14, .w1c, false, []⟩, ⟨13, 13, .w1c, false, []⟩, ⟨12, 12, .w1c, false, []⟩, ⟨11, 11, .ro, false, []⟩, ⟨10, 8, .ro, false, []⟩, ⟨3, 3, .ro, false, []⟩, ⟨2, 0, .ro, false, []⟩]⟩,
  ⟨"PAIR.PINS", 0x600008, [], 0, [⟨2, 2, .ro, false, []⟩, ⟨1, 1, .ro, false, []⟩, ⟨0, 0, .ro, false, []⟩]⟩,
  ⟨"PAIR.EPOCH_SENT", 0x600010, [], 0, [⟨31, 0, .ro, false, []⟩]⟩,
  ⟨"PAIR.EPOCH_COMMIT", 0x600014, [], 0, [⟨31, 0, .ro, false, []⟩]⟩,
  ⟨"PAIR.CRC_ERR", 0x600018, [], 0, [⟨31, 0, .ro, false, []⟩]⟩,
  ⟨"PAIR.COPY_MISMATCH", 0x60001c, [], 0, [⟨31, 0, .ro, false, []⟩]⟩,
  ⟨"PAIR.LATE_APPLY", 0x600020, [], 0, [⟨31, 0, .ro, false, []⟩]⟩,
  ⟨"PAIR.APPLY_ERR", 0x600024, [], 0, [⟨31, 0, .ro, false, []⟩]⟩,
  ⟨"PAIR.TAKEOVERS", 0x600028, [], 0, [⟨31, 0, .ro, false, []⟩]⟩,
  ⟨"PAIR.RESYNCS", 0x60002c, [], 0, [⟨31, 0, .ro, false, []⟩]⟩
]

/-- Registers of page 0x7 (key / 1 MiB), part 0. -/
def regPage7_0 : List RReg := [
  ⟨"HQ.CTL", 0x700000, [], 0, [⟨8, 8, .wo, false, []⟩, ⟨0, 0, .rw, false, []⟩]⟩,
  ⟨"HQ.STATUS", 0x700004, [], 0, [⟨10, 10, .w1c, false, []⟩, ⟨9, 9, .w1c, false, []⟩, ⟨8, 8, .ro, false, []⟩]⟩,
  ⟨"HQ.DB_BASE_LO", 0x700010, [], 0, [⟨31, 12, .rw, false, []⟩]⟩,
  ⟨"HQ.DB_BASE_HI", 0x700014, [], 0, [⟨31, 0, .rw, false, []⟩]⟩,
  ⟨"HQ.SUM_ADDR_LO", 0x700018, [], 0, [⟨31, 6, .rw, false, []⟩]⟩,
  ⟨"HQ.SUM_ADDR_HI", 0x70001c, [], 0, [⟨31, 0, .rw, false, []⟩]⟩,
  ⟨"HQ.WAKE", 0x700020, [], 0, [⟨31, 0, .wo, false, []⟩]⟩,
  ⟨"HQ.SANITIZE", 0x700030, [], 0, [⟨23, 16, .ro, false, []⟩, ⟨5, 4, .ro, false, []⟩, ⟨3, 3, .ro, false, []⟩, ⟨2, 0, .ro, false, []⟩]⟩,
  ⟨"HQ.COMMANDS_LO", 0x700040, [], 0, [⟨31, 0, .ro, false, []⟩]⟩,
  ⟨"HQ.COMMANDS_HI", 0x700044, [], 0, [⟨31, 0, .ro, false, []⟩]⟩,
  ⟨"HQ.FREEZES", 0x700048, [], 0, [⟨31, 0, .ro, false, []⟩]⟩,
  ⟨"HQ.SUM_FAIL", 0x70004c, [], 0, [⟨31, 0, .ro, false, []⟩]⟩,
  ⟨"HQ.CQ_HEAD_ERRS", 0x700050, [], 0, [⟨31, 0, .ro, false, []⟩]⟩,
  ⟨"HQ.SQ.BASE_LO", 0x710000, [(1024, 32)], 0, [⟨31, 12, .rw, false, []⟩]⟩,
  ⟨"HQ.SQ.BASE_HI", 0x710004, [(1024, 32)], 0, [⟨31, 0, .rw, false, []⟩]⟩,
  ⟨"HQ.SQ.CTL", 0x710008, [(1024, 32)], 0x400000f, [⟨31, 31, .rw, false, []⟩, ⟨30, 30, .rw, false, []⟩, ⟨29, 26, .rw, false, [(0, 0)]⟩, ⟨25, 16, .rw, false, []⟩, ⟨15, 0, .rw, false, [(0, 14)]⟩]⟩,
  ⟨"HQ.SQ.STATUS", 0x71000c, [(1024, 32)], 0, [⟨31, 16, .ro, false, []⟩, ⟨15, 12, .ro, false, []⟩, ⟨8, 8, .ro, false, []⟩, ⟨3, 3, .ro, false, []⟩, ⟨2, 0, .ro, false, []⟩]⟩,
  ⟨"HQ.SQ.CMD", 0x710010, [(1024, 32)], 0, [⟨1, 1, .wo, false, []⟩, ⟨0, 0, .wo, false, []⟩]⟩,
  ⟨"HQ.CQ.BASE_LO", 0x720000, [(1024, 32)], 0, [⟨31, 12, .rw, false, []⟩]⟩,
  ⟨"HQ.CQ.BASE_HI", 0x720004, [(1024, 32)], 0, [⟨31, 0, .rw, false, []⟩]⟩,
  ⟨"HQ.CQ.CTL", 0x720008, [(1024, 32)], 0x20000f, [⟨31, 31, .rw, false, []⟩, ⟨30, 28, .rw, false, []⟩, ⟨27, 27, .rw, false, []⟩, ⟨26, 16, .rw, false, [(0, 31)]⟩, ⟨15, 0, .rw, false, [(0, 14)]⟩]⟩,
  ⟨"HQ.CQ.STATUS", 0x72000c, [(1024, 32)], 256, [⟨31, 16, .ro, false, []⟩, ⟨9, 9, .ro, false, []⟩, ⟨8, 8, .ro, false, []⟩, ⟨3, 3, .ro, false, []⟩, ⟨2, 0, .ro, false, []⟩]⟩
]

/-- Registers of page 0x8 (key / 1 MiB), part 0. -/
def regPage8_0 : List RReg := [
  ⟨"MAG.CTL", 0x800000, [], 1, [⟨8, 8, .wo, false, []⟩, ⟨0, 0, .rw, true, []⟩]⟩,
  ⟨"MAG.STATUS", 0x800004, [], 0, [⟨15, 15, .w1c, false, []⟩, ⟨14, 14, .w1c, false, []⟩, ⟨13, 13, .w1c, false, []⟩, ⟨12, 12, .w1c, false, []⟩, ⟨11, 11, .w1c, false, []⟩, ⟨10, 10, .w1c, false, []⟩, ⟨9, 9, .w1c, false, []⟩, ⟨8, 8, .w1c, false, []⟩, ⟨7, 4, .ro, false, []⟩, ⟨3, 3, .ro, false, []⟩, ⟨2, 0, .ro, false, []⟩]⟩,
  ⟨"MAG.GEOM", 0x800010, [], 0, [⟨25, 16, .ro, false, []⟩, ⟨8, 8, .ro, false, []⟩, ⟨5, 0, .ro, false, []⟩]⟩,
  ⟨"MAG.EXPORT_LO", 0x800018, [], 0, [⟨31, 0, .ro, false, []⟩]⟩,
  ⟨"MAG.EXPORT_HI", 0x80001c, [], 0, [⟨31, 0, .ro, false, []⟩]⟩,
  ⟨"MAG.SLC", 0x800020, [], 0, [⟨31, 16, .ro, false, []⟩, ⟨15, 0, .ro, false, []⟩]⟩,
  ⟨"MAG.SAVE", 0x800024, [], 0, [⟨31, 16, .ro, false, []⟩, ⟨9, 0, .ro, false, []⟩]⟩,
  ⟨"MAG.REFRESH", 0x800030, [], 0x70048, [⟨23, 16, .rw, true, []⟩, ⟨6, 0, .rw, true, [(0, 0), (121, 127)]⟩]⟩,
  ⟨"MAG.HOST_WR_LO", 0x800040, [], 0, [⟨31, 0, .ro, false, []⟩]⟩,
  ⟨"MAG.HOST_WR_HI", 0x800044, [], 0, [⟨31, 0, .ro, false, []⟩]⟩,
  ⟨"MAG.NAND_WR_LO", 0x800048, [], 0, [⟨31, 0, .ro, false, []⟩]⟩,
  ⟨"MAG.NAND_WR_HI", 0x80004c, [], 0, [⟨31, 0, .ro, false, []⟩]⟩,
  ⟨"MAG.UE", 0x800050, [], 0, [⟨31, 0, .ro, false, []⟩]⟩,
  ⟨"MAG.REFRESHES", 0x800054, [], 0, [⟨31, 0, .ro, false, []⟩]⟩,
  ⟨"MAG.GROWN_BAD", 0x800058, [], 0, [⟨31, 0, .ro, false, []⟩]⟩,
  ⟨"MAG.LOST_MIB", 0x80005c, [], 0, [⟨31, 0, .ro, false, []⟩]⟩,
  ⟨"MAG.CH.CTL", 0x801000, [(32, 64)], 3, [⟨1, 0, .rw, true, []⟩]⟩,
  ⟨"MAG.CH.STATUS", 0x801004, [(32, 64)], 7, [⟨31, 16, .ro, false, []⟩, ⟨2, 0, .ro, false, []⟩]⟩
]

/-- Registers of page 0x9 (key / 1 MiB), part 0. -/
def regPage9_0 : List RReg := [
  ⟨"MAP.CTL", 0x900000, [], 0, [⟨8, 8, .wo, false, []⟩]⟩,
  ⟨"MAP.STATUS", 0x900004, [], 3, [⟨9, 9, .w1c, false, []⟩, ⟨8, 8, .w1c, false, []⟩, ⟨1, 1, .ro, false, []⟩, ⟨0, 0, .ro, false, []⟩]⟩,
  ⟨"MAP.CFG", 0x900010, [], 0x804, [⟨11, 8, .rw, true, [(0, 0)]⟩, ⟨3, 0, .rw, true, []⟩]⟩,
  ⟨"MAP.WAYMASK", 0x900020, [], 3, [⟨15, 0, .rw, true, [(0, 0)]⟩]⟩,
  ⟨"MAP.WAYMASK", 0x900024, [], 0xffff, [⟨15, 0, .rw, true, [(0, 0)]⟩]⟩,
  ⟨"MAP.WAYMASK", 0x900028, [], 0xffff, [⟨15, 0, .rw, true, [(0, 0)]⟩]⟩,
  ⟨"MAP.WAYMASK", 0x90002c, [], 3, [⟨15, 0, .rw, true, [(0, 0)]⟩]⟩,
  ⟨"MAP.WAYMASK", 0x900030, [], 0xffff, [⟨15, 0, .rw, true, [(0, 0)]⟩]⟩,
  ⟨"MAP.CE", 0x900040, [], 0, [⟨31, 0, .ro, false, []⟩]⟩,
  ⟨"MAP.UE_CLEAN", 0x900044, [], 0, [⟨31, 0, .ro, false, []⟩]⟩,
  ⟨"MAP.UE_DIRTY", 0x900048, [], 0, [⟨31, 0, .ro, false, []⟩]⟩,
  ⟨"MAP.OFFERED", 0x900050, [], 0, [⟨31, 0, .ro, false, []⟩]⟩,
  ⟨"MAP.DECLINED", 0x900054, [], 0, [⟨31, 0, .ro, false, []⟩]⟩,
  ⟨"MAP.WRITEBACKS", 0x900058, [], 0, [⟨31, 0, .ro, false, []⟩]⟩,
  ⟨"MAP.DIRTY", 0x900060, [], 0, [⟨18, 0, .ro, false, []⟩]⟩,
  ⟨"MAP.REQ.HITS_LO", 0x900100, [(5, 32)], 0, [⟨31, 0, .ro, false, []⟩]⟩,
  ⟨"MAP.REQ.HITS_HI", 0x900104, [(5, 32)], 0, [⟨31, 0, .ro, false, []⟩]⟩,
  ⟨"MAP.REQ.MISSES_LO", 0x900108, [(5, 32)], 0, [⟨31, 0, .ro, false, []⟩]⟩,
  ⟨"MAP.REQ.MISSES_HI", 0x90010c, [(5, 32)], 0, [⟨31, 0, .ro, false, []⟩]⟩,
  ⟨"MAP.REQ.STREAM_FILLS", 0x900110, [(5, 32)], 0, [⟨31, 0, .ro, false, []⟩]⟩,
  ⟨"MAP.REQ.STALL", 0x900114, [(5, 32)], 0, [⟨31, 0, .ro, false, []⟩]⟩
]

/-- Registers of page 0xA (key / 1 MiB), part 0. -/
def regPage10_0 : List RReg := [
  ⟨"OCH.CTL", 0xa00000, [], 1, [⟨8, 8, .wo, false, []⟩, ⟨0, 0, .rw, true, []⟩]⟩,
  ⟨"OCH.STATUS", 0xa00004, [], 0, [⟨14, 14, .w1c, false, []⟩, ⟨13, 13, .w1c, false, []⟩, ⟨12, 12, .w1c, false, []⟩, ⟨11, 11, .w1c, false, []⟩, ⟨10, 10, .w1c, false, []⟩, ⟨9, 9, .w1c, false, []⟩, ⟨8, 8, .w1c, false, []⟩, ⟨7, 5, .ro, false, []⟩, ⟨3, 3, .ro, false, []⟩, ⟨2, 0, .ro, false, []⟩]⟩,
  ⟨"OCH.ZONE", 0xa00008, [], 0, [⟨23, 20, .ro, false, []⟩, ⟨19, 15, .ro, false, []⟩, ⟨14, 9, .ro, false, []⟩, ⟨8, 8, .ro, false, []⟩]⟩,
  ⟨"OCH.PROOF", 0xa00010, [], 0x44280, [⟨19, 16, .rw, true, [(0, 0)]⟩, ⟨15, 12, .rw, true, [(13, 15)]⟩, ⟨11, 0, .rw, true, []⟩]⟩,
  ⟨"OCH.OPC", 0xa00014, [], 0x3008, [⟨15, 12, .rw, true, [(0, 0), (1, 1)]⟩, ⟨7, 0, .rw, true, [(0, 0)]⟩]⟩,
  ⟨"OCH.READ", 0xa00018, [], 0x1903, [⟨15, 8, .rw, true, [(0, 0), (100, 255)]⟩, ⟨3, 0, .rw, true, []⟩]⟩,
  ⟨"OCH.FAULT", 0xa0001c, [], 8, [⟨7, 0, .rw, true, [(0, 0)]⟩]⟩,
  ⟨"OCH.FOLIOS_LO", 0xa00040, [], 0, [⟨31, 0, .ro, false, []⟩]⟩,
  ⟨"OCH.FOLIOS_HI", 0xa00044, [], 0, [⟨31, 0, .ro, false, []⟩]⟩,
  ⟨"OCH.PROOF_FAIL", 0xa00048, [], 0, [⟨31, 0, .ro, false, []⟩]⟩,
  ⟨"OCH.RELOCS", 0xa0004c, [], 0, [⟨31, 0, .ro, false, []⟩]⟩,
  ⟨"OCH.OPC_RUNS", 0xa00050, [], 0, [⟨31, 0, .ro, false, []⟩]⟩,
  ⟨"OCH.WRITE_FAULTS", 0xa00054, [], 0, [⟨31, 0, .ro, false, []⟩]⟩,
  ⟨"OCH.READ_UE", 0xa00058, [], 0, [⟨31, 0, .ro, false, []⟩]⟩,
  ⟨"OCH.BLANK_READ", 0xa0005c, [], 0, [⟨31, 0, .ro, false, []⟩]⟩,
  ⟨"OCH.SPARES_FREE", 0xa00060, [], 0, [⟨11, 0, .ro, false, []⟩]⟩,
  ⟨"OCH.LASER.PWR", 0xa00100, [(16, 16)], 50, [⟨31, 20, .rw, false, []⟩, ⟨19, 14, .rw, false, []⟩, ⟨13, 8, .rw, false, []⟩, ⟨7, 0, .rw, true, []⟩]⟩,
  ⟨"OCH.LASER.LIM", 0xa00104, [(16, 16)], 0x9c4, [⟨11, 0, .rw, true, []⟩]⟩,
  ⟨"OCH.LASER.DRIVE", 0xa00108, [(16, 16)], 0, [⟨27, 16, .ro, false, []⟩, ⟨11, 0, .ro, false, []⟩]⟩,
  ⟨"OCH.WS.E", 0xa01000, [(16, 64), (16, 4)], 0, [⟨31, 26, .rw, false, []⟩, ⟨25, 20, .rw, false, []⟩, ⟨19, 15, .rw, false, []⟩, ⟨14, 9, .rw, false, []⟩, ⟨8, 3, .rw, false, []⟩]⟩,
  ⟨"OCH.RD.CTL", 0xa02000, [(16, 64)], 0xa200, [⟨31, 28, .ro, false, []⟩, ⟨27, 16, .ro, false, []⟩, ⟨15, 15, .rw, true, []⟩, ⟨14, 12, .rw, true, []⟩, ⟨9, 0, .rw, true, [(0, 0)]⟩]⟩,
  ⟨"OCH.RD.TARGET", 0xa02004, [(16, 64)], 0x12321, [⟨19, 16, .rw, true, []⟩, ⟨15, 12, .rw, true, []⟩, ⟨11, 8, .rw, true, []⟩, ⟨7, 4, .rw, true, []⟩, ⟨3, 0, .rw, true, []⟩]⟩,
  ⟨"OCH.RD.FLAGGED", 0xa02008, [(16, 64)], 0, [⟨31, 0, .ro, false, []⟩]⟩,
  ⟨"OCH.RD.ROW_CE", 0xa0200c, [(16, 64)], 0, [⟨31, 0, .ro, false, []⟩]⟩,
  ⟨"OCH.RD.ROW_UE", 0xa02010, [(16, 64)], 0, [⟨31, 0, .ro, false, []⟩]⟩
]

/-- Registers of page 0xB (key / 1 MiB), part 0. -/
def regPage11_0 : List RReg := [
  ⟨"SRV.CTL", 0xb00000, [], 1, [⟨8, 8, .wo, false, []⟩, ⟨0, 0, .rw, true, []⟩]⟩,
  ⟨"SRV.STATUS", 0xb00004, [], 0, [⟨13, 13, .w1c, false, []⟩, ⟨12, 12, .w1c, false, []⟩, ⟨11, 11, .w1c, false, []⟩, ⟨10, 10, .w1c, false, []⟩, ⟨9, 9, .w1c, false, []⟩, ⟨8, 8, .w1c, false, []⟩, ⟨3, 3, .ro, false, []⟩, ⟨2, 0, .ro, false, []⟩]⟩,
  ⟨"SRV.SVC", 0xb00010, [], 0x64001, [⟨31, 31, .rw, false, []⟩, ⟨29, 28, .rw, false, []⟩, ⟨25, 24, .rw, false, [(3, 3)]⟩, ⟨23, 12, .rw, false, []⟩, ⟨11, 0, .rw, false, []⟩]⟩,
  ⟨"SRV.SVC_MAP", 0xb00014, [], 0, [⟨29, 16, .rw, false, []⟩, ⟨13, 0, .rw, false, []⟩]⟩,
  ⟨"SRV.SVC_IN", 0xb00018, [], 0, [⟨13, 0, .ro, false, []⟩]⟩,
  ⟨"SRV.JUMP", 0xb00020, [], 0xbb83c0a, [⟨29, 16, .rw, true, []⟩, ⟨15, 8, .rw, true, [(0, 0)]⟩, ⟨7, 0, .rw, true, [(0, 0)]⟩]⟩,
  ⟨"SRV.JUMPS", 0xb00040, [], 0, [⟨31, 0, .ro, false, []⟩]⟩,
  ⟨"SRV.JUMP_FAILS", 0xb00044, [], 0, [⟨31, 0, .ro, false, []⟩]⟩,
  ⟨"SRV.SAT_FAULTS", 0xb00048, [], 0, [⟨31, 0, .ro, false, []⟩]⟩,
  ⟨"SRV.LOOP_FAULTS", 0xb0004c, [], 0, [⟨31, 0, .ro, false, []⟩]⟩,
  ⟨"SRV.GOV_FLOOR", 0xb00100, [], 0x10040100, [⟨29, 20, .rw, true, []⟩, ⟨19, 10, .rw, true, []⟩, ⟨9, 0, .rw, true, []⟩]⟩,
  ⟨"SRV.GOV_TEMP", 0xb00104, [], 0x1b0017c, [⟨27, 16, .rw, true, []⟩, ⟨11, 0, .rw, true, []⟩]⟩,
  ⟨"SRV.GOV_IBUS", 0xb00108, [], 0x96078, [⟨23, 12, .rw, true, []⟩, ⟨11, 0, .rw, true, []⟩]⟩,
  ⟨"SRV.GOV_OUT", 0xb0010c, [], 0x40000040, [⟨31, 26, .rw, true, [(0, 0)]⟩, ⟨25, 16, .rw, true, []⟩, ⟨9, 0, .rw, true, []⟩]⟩,
  ⟨"SRV.GOV_HOST", 0xb00110, [], 0x400, [⟨10, 0, .rw, false, [(1025, 2047)]⟩]⟩,
  ⟨"SRV.GOV_STATUS", 0xb00114, [], 0x4000400, [⟨31, 29, .ro, false, []⟩, ⟨26, 16, .ro, false, []⟩, ⟨10, 0, .ro, false, []⟩]⟩,
  ⟨"SRV.LOOP.CTL", 0xb01000, [(4, 256)], 1, [⟨16, 16, .wo, false, []⟩, ⟨1, 0, .rw, true, [(3, 3)]⟩]⟩,
  ⟨"SRV.LOOP.SETPT", 0xb01004, [(4, 256)], 0, [⟨13, 0, .rw, true, []⟩]⟩,
  ⟨"SRV.LOOP.GAIN", 0xb01008, [(4, 256)], 0, [⟨17, 0, .rw, true, []⟩]⟩,
  ⟨"SRV.LOOP.KI", 0xb0100c, [(4, 256)], 0, [⟨17, 0, .rw, true, []⟩]⟩,
  ⟨"SRV.LOOP.LIMITS", 0xb01010, [(4, 256)], 0x10001fff, [⟨29, 16, .rw, true, []⟩, ⟨13, 0, .rw, true, []⟩]⟩,
  ⟨"SRV.LOOP.SAT", 0xb01014, [(4, 256)], 200, [⟨15, 0, .rw, true, [(0, 0)]⟩]⟩,
  ⟨"SRV.LOOP.ACQ", 0xb01018, [(4, 256)], 0x10000200, [⟨29, 16, .rw, true, []⟩, ⟨13, 0, .rw, true, []⟩]⟩,
  ⟨"SRV.LOOP.SUM", 0xb0101c, [(4, 256)], 0x7d00800, [⟨31, 16, .rw, true, [(0, 0)]⟩, ⟨13, 0, .rw, true, []⟩]⟩,
  ⟨"SRV.LOOP.STATUS", 0xb01020, [(4, 256)], 0, [⟨31, 16, .ro, false, []⟩, ⟨6, 4, .ro, false, []⟩, ⟨2, 0, .ro, false, []⟩]⟩,
  ⟨"SRV.LOOP.ERR", 0xb01024, [(4, 256)], 0, [⟨13, 0, .ro, false, []⟩]⟩,
  ⟨"SRV.LOOP.OUT", 0xb01028, [(4, 256)], 0, [⟨13, 0, .ro, false, []⟩]⟩,
  ⟨"SRV.LOOP.BURST", 0xb0102c, [(4, 256)], 16, [⟨7, 0, .rw, true, []⟩]⟩,
  ⟨"SRV.LOOP.BQ", 0xb01040, [(4, 256), (3, 20)], 0x10000, [⟨17, 0, .rw, true, []⟩]⟩,
  ⟨"SRV.LOOP.BQ", 0xb01044, [(4, 256), (3, 20), (4, 4)], 0, [⟨17, 0, .rw, true, []⟩]⟩,
  ⟨"SRV.COIL.CFG", 0xb02000, [(4, 32)], 0x7d00a0a4, [⟨31, 20, .rw, true, [(0, 0)]⟩, ⟨19, 10, .rw, true, [(0, 0)]⟩, ⟨9, 4, .rw, true, [(0, 0)]⟩, ⟨3, 0, .rw, true, [(0, 0)]⟩]⟩,
  ⟨"SRV.COIL.STATUS", 0xb02004, [(4, 32)], 0, [⟨31, 30, .ro, false, []⟩, ⟨13, 0, .ro, false, []⟩]⟩,
  ⟨"SRV.FF.CTL", 0xb03000, [], 0x80000000, [⟨31, 31, .rw, true, []⟩, ⟨30, 30, .ro, false, []⟩, ⟨29, 29, .wo, false, []⟩, ⟨28, 28, .rw, true, []⟩, ⟨27, 24, .rw, true, [(5, 15)]⟩, ⟨23, 20, .rw, true, [(8, 15)]⟩, ⟨19, 16, .rw, true, []⟩]⟩,
  ⟨"SRV.FF.ORIGIN", 0xb03004, [(6, 16)], 0, [⟨31, 0, .rw, false, []⟩]⟩,
  ⟨"SRV.FF.CTL", 0xb03010, [], 0x80100000, [⟨31, 31, .rw, true, []⟩, ⟨30, 30, .ro, false, []⟩, ⟨29, 29, .wo, false, []⟩, ⟨28, 28, .rw, true, []⟩, ⟨27, 24, .rw, true, [(5, 15)]⟩, ⟨23, 20, .rw, true, [(8, 15)]⟩, ⟨19, 16, .rw, true, []⟩]⟩,
  ⟨"SRV.FF.CTL", 0xb03020, [], 0x81400000, [⟨31, 31, .rw, true, []⟩, ⟨30, 30, .ro, false, []⟩, ⟨29, 29, .wo, false, []⟩, ⟨28, 28, .rw, true, []⟩, ⟨27, 24, .rw, true, [(5, 15)]⟩, ⟨23, 20, .rw, true, [(8, 15)]⟩, ⟨19, 16, .rw, true, []⟩]⟩,
  ⟨"SRV.FF.CTL", 0xb03030, [], 0x92500000, [⟨31, 31, .rw, true, []⟩, ⟨30, 30, .ro, false, []⟩, ⟨29, 29, .wo, false, []⟩, ⟨28, 28, .rw, true, []⟩, ⟨27, 24, .rw, true, [(5, 15)]⟩, ⟨23, 20, .rw, true, [(8, 15)]⟩, ⟨19, 16, .rw, true, []⟩]⟩,
  ⟨"SRV.FF.CTL", 0xb03040, [], 0x93600000, [⟨31, 31, .rw, true, []⟩, ⟨30, 30, .ro, false, []⟩, ⟨29, 29, .wo, false, []⟩, ⟨28, 28, .rw, true, []⟩, ⟨27, 24, .rw, true, [(5, 15)]⟩, ⟨23, 20, .rw, true, [(8, 15)]⟩, ⟨19, 16, .rw, true, []⟩]⟩,
  ⟨"SRV.FF.CTL", 0xb03050, [], 0x94700000, [⟨31, 31, .rw, true, []⟩, ⟨30, 30, .ro, false, []⟩, ⟨29, 29, .wo, false, []⟩, ⟨28, 28, .rw, true, []⟩, ⟨27, 24, .rw, true, [(5, 15)]⟩, ⟨23, 20, .rw, true, [(8, 15)]⟩, ⟨19, 16, .rw, true, []⟩]⟩,
  ⟨"SRV.FFTAB", 0xb10000, [(6, 0x2000), (2, 0x1000), (1024, 4)], 0, [⟨13, 0, .rw, false, []⟩]⟩
]

/-- Registers of page 0xC (key / 1 MiB), part 0. -/
def regPage12_0 : List RReg := [
  ⟨"MOT.CTL", 0xc00000, [], 1, [⟨8, 8, .wo, false, []⟩, ⟨0, 0, .rw, true, []⟩]⟩,
  ⟨"MOT.STATUS", 0xc00004, [], 0, [⟨14, 14, .w1c, false, []⟩, ⟨13, 13, .w1c, false, []⟩, ⟨12, 12, .w1c, false, []⟩, ⟨11, 11, .w1c, false, []⟩, ⟨10, 10, .w1c, false, []⟩, ⟨9, 9, .w1c, false, []⟩, ⟨3, 3, .ro, false, []⟩, ⟨2, 0, .ro, false, []⟩]⟩,
  ⟨"MOT.PWM", 0xc00010, [], 0x13886428, [⟨31, 16, .rw, true, [(0, 1999)]⟩, ⟨15, 8, .rw, true, []⟩, ⟨7, 0, .rw, true, [(0, 0)]⟩]⟩,
  ⟨"MOT.SPN_SAMPLE", 0xc00014, [], 0x12c0004, [⟨31, 16, .rw, true, []⟩, ⟨7, 0, .rw, true, [(0, 0)]⟩]⟩,
  ⟨"MOT.SPN_MOTOR", 0xc00018, [], 0x412c012c, [⟨31, 28, .rw, true, [(0, 0)]⟩, ⟨27, 16, .rw, true, []⟩, ⟨11, 0, .rw, true, []⟩]⟩,
  ⟨"MOT.SPN_INERTIA", 0xc0001c, [], 0x2710, [⟨31, 0, .rw, true, []⟩]⟩,
  ⟨"MOT.SPN_FW", 0xc00020, [], 0x3cd0096, [⟨25, 16, .rw, true, []⟩, ⟨11, 0, .rw, true, []⟩]⟩,
  ⟨"MOT.SPN_BRAKE", 0xc00024, [], 0x15e0012c, [⟨29, 20, .rw, true, []⟩, ⟨15, 0, .rw, true, []⟩]⟩,
  ⟨"MOT.SPN_CUR_PI", 0xc00028, [], 0, [⟨31, 16, .rw, true, []⟩, ⟨15, 0, .rw, true, []⟩]⟩,
  ⟨"MOT.SPN_SPD_PI", 0xc0002c, [], 0, [⟨31, 16, .rw, true, []⟩, ⟨15, 0, .rw, true, []⟩]⟩,
  ⟨"MOT.SPN_ACC", 0xc00030, [], 0x10007d0, [⟨31, 16, .rw, true, []⟩, ⟨15, 0, .rw, true, [(0, 0)]⟩]⟩,
  ⟨"MOT.SPN_OBS", 0xc00034, [], 500, [⟨15, 0, .rw, true, []⟩]⟩,
  ⟨"MOT.SPN_STATUS", 0xc00038, [], 0, [⟨31, 16, .ro, false, []⟩, ⟨9, 8, .ro, false, []⟩, ⟨3, 0, .ro, false, []⟩]⟩,
  ⟨"MOT.SPN_TARGET", 0xc0003c, [], 0, [⟨15, 0, .ro, false, []⟩]⟩,
  ⟨"MOT.SPN_PHASE", 0xc00040, [], 0, [⟨15, 0, .ro, false, []⟩]⟩,
  ⟨"MOT.SPN_SVC", 0xc00044, [], 0x64001, [⟨31, 31, .rw, false, []⟩, ⟨25, 24, .rw, false, [(3, 3)]⟩, ⟨23, 12, .rw, false, []⟩, ⟨11, 0, .rw, false, []⟩]⟩,
  ⟨"MOT.SPN_SVC_MAP", 0xc00048, [], 0x17700000, [⟨31, 16, .rw, false, [(6001, 65535)]⟩, ⟨15, 0, .rw, false, []⟩]⟩,
  ⟨"MOT.SPN_SVC_IN", 0xc0004c, [], 0, [⟨13, 0, .ro, false, []⟩]⟩,
  ⟨"MOT.SPN_KE", 0xc00050, [], 0, [⟨15, 0, .ro, false, []⟩]⟩,
  ⟨"MOT.SKIPS", 0xc00080, [], 0, [⟨31, 0, .ro, false, []⟩]⟩,
  ⟨"MOT.PREDICTS", 0xc00084, [], 0, [⟨31, 0, .ro, false, []⟩]⟩,
  ⟨"MOT.CLAMPS", 0xc00088, [], 0, [⟨31, 0, .ro, false, []⟩]⟩,
  ⟨"MOT.PHASE_LOSS", 0xc0008c, [], 0, [⟨31, 0, .ro, false, []⟩]⟩,
  ⟨"MOT.REGEN_LIMITS", 0xc00090, [], 0, [⟨31, 0, .ro, false, []⟩]⟩,
  ⟨"MOT.AXIS.CFG", 0xc00100, [(3, 64)], 0x6402864, [⟨31, 20, .rw, true, []⟩, ⟨19, 8, .rw, true, []⟩, ⟨7, 1, .rw, true, [(0, 0)]⟩, ⟨0, 0, .rw, true, []⟩]⟩,
  ⟨"MOT.AXIS.VMAX", 0xc00104, [(3, 64)], 0x1f40, [⟨15, 0, .rw, true, []⟩]⟩,
  ⟨"MOT.AXIS.AMAX", 0xc00108, [(3, 64)], 0x4e20, [⟨15, 0, .rw, true, []⟩]⟩,
  ⟨"MOT.AXIS.JMAX", 0xc0010c, [(3, 64)], 0x4e20, [⟨15, 0, .rw, true, []⟩]⟩,
  ⟨"MOT.AXIS.CMD", 0xc00110, [(3, 64)], 0, [⟨3, 0, .wo, false, []⟩]⟩,
  ⟨"MOT.AXIS.TARGET", 0xc00114, [(3, 64)], 0, [⟨31, 0, .rw, false, []⟩]⟩,
  ⟨"MOT.AXIS.POS", 0xc00118, [(3, 64)], 0, [⟨31, 0, .ro, false, []⟩]⟩,
  ⟨"MOT.AXIS.REMAIN", 0xc0011c, [(3, 64)], 0, [⟨31, 0, .ro, false, []⟩]⟩,
  ⟨"MOT.AXIS.SWEEP_V", 0xc00120, [(3, 64)], 0, [⟨31, 0, .rw, false, []⟩]⟩,
  ⟨"MOT.AXIS.FOLLOW", 0xc00124, [(3, 64)], 4, [⟨7, 0, .rw, true, []⟩]⟩,
  ⟨"MOT.AXIS.HOME", 0xc00128, [(3, 64)], 0, [⟨31, 0, .rw, true, []⟩]⟩,
  ⟨"MOT.AXIS.HOME_LIM", 0xc0012c, [(3, 64)], 0x3e8ffff, [⟨31, 16, .rw, true, []⟩, ⟨15, 0, .rw, true, []⟩]⟩,
  ⟨"MOT.AXIS.PARK", 0xc00130, [(3, 64)], 0, [⟨31, 0, .rw, true, []⟩]⟩,
  ⟨"MOT.AXIS.STATUS", 0xc00134, [(3, 64)], 0, [⟨31, 31, .ro, false, []⟩, ⟨30, 30, .ro, false, []⟩, ⟨29, 28, .ro, false, []⟩, ⟨11, 8, .ro, false, []⟩, ⟨2, 0, .ro, false, []⟩]⟩,
  ⟨"MOT.XCHG.SLOT0", 0xc00200, [], 0, [⟨31, 0, .rw, true, []⟩]⟩,
  ⟨"MOT.XCHG.SLOT_PITCH", 0xc00204, [], 0, [⟨31, 0, .rw, true, []⟩]⟩
]

/-- Registers of page 0xC (key / 1 MiB), part 1. -/
def regPage12_1 : List RReg := [
  ⟨"MOT.XCHG.SHUTTLE_CLEAR", 0xc00208, [], 0, [⟨31, 0, .rw, true, []⟩]⟩,
  ⟨"MOT.XCHG.LIFT_CART", 0xc0020c, [], 0, [⟨31, 0, .rw, true, []⟩]⟩,
  ⟨"MOT.XCHG.LIFT_XFER", 0xc00210, [], 0, [⟨31, 0, .rw, true, []⟩]⟩,
  ⟨"MOT.XCHG.LIFT_SPIN", 0xc00214, [], 0, [⟨31, 0, .rw, true, []⟩]⟩
]

/-- Registers of page 0xD (key / 1 MiB), part 0. -/
def regPage13_0 : List RReg := [
  ⟨"SEC.CTL", 0xd00000, [], 0, [⟨8, 8, .wo, false, []⟩]⟩,
  ⟨"SEC.STATUS", 0xd00004, [], 1, [⟨20, 16, .ro, false, []⟩, ⟨10, 10, .w1c, false, []⟩, ⟨9, 9, .w1c, false, []⟩, ⟨8, 8, .w1c, false, []⟩, ⟨2, 0, .ro, false, []⟩]⟩,
  ⟨"SEC.POLICY", 0xd00008, [], 3, [⟨1, 1, .rwl, true, []⟩, ⟨0, 0, .rwl, true, []⟩]⟩,
  ⟨"SEC.ARB", 0xd0000c, [], 1, [⟨3, 0, .rw, true, [(9, 15)]⟩]⟩,
  ⟨"SEC.TRNG", 0xd00010, [], 0, [⟨1, 0, .ro, false, []⟩]⟩,
  ⟨"SEC.BLOCKS_LO", 0xd00040, [], 0, [⟨31, 0, .ro, false, []⟩]⟩,
  ⟨"SEC.BLOCKS_HI", 0xd00044, [], 0, [⟨31, 0, .ro, false, []⟩]⟩,
  ⟨"SEC.KEY_LOADS", 0xd00048, [], 0, [⟨31, 0, .ro, false, []⟩]⟩,
  ⟨"SEC.UNWRAP_FAIL", 0xd0004c, [], 0, [⟨31, 0, .ro, false, []⟩]⟩,
  ⟨"SEC.TRNG_FAIL", 0xd00050, [], 0, [⟨31, 0, .ro, false, []⟩]⟩,
  ⟨"SEC.SLOT", 0xd01000, [(248, 4)], 0, [⟨31, 31, .ro, false, []⟩, ⟨30, 30, .ro, false, []⟩, ⟨29, 29, .ro, false, []⟩, ⟨27, 26, .ro, false, []⟩, ⟨15, 8, .ro, false, []⟩, ⟨4, 0, .ro, false, []⟩]⟩,
  ⟨"SEC.SLOT", 0xd013e0, [(8, 4)], 0x40000000, [⟨31, 31, .ro, false, []⟩, ⟨30, 30, .ro, false, []⟩, ⟨29, 29, .ro, false, []⟩, ⟨27, 26, .ro, false, []⟩, ⟨15, 8, .ro, false, []⟩, ⟨4, 0, .ro, false, []⟩]⟩,
  ⟨"SEC.ENG.STATUS", 0xd02000, [(16, 16)], 0, [⟨31, 31, .ro, false, []⟩, ⟨30, 30, .ro, false, []⟩, ⟨29, 27, .ro, false, []⟩, ⟨7, 0, .ro, false, []⟩]⟩
]

/-- Registers of page 0xE (key / 1 MiB), part 0. -/
def regPage14_0 : List RReg := [
  ⟨"EFC.CTL", 0xe00000, [], 0, [⟨8, 8, .wo, false, []⟩]⟩,
  ⟨"EFC.STATUS", 0xe00004, [], 0, [⟨15, 15, .w1c, false, []⟩, ⟨14, 14, .w1c, false, []⟩, ⟨13, 13, .w1c, false, []⟩, ⟨12, 12, .w1c, false, []⟩, ⟨11, 11, .w1c, false, []⟩, ⟨10, 10, .w1c, false, []⟩, ⟨9, 9, .w1c, false, []⟩, ⟨8, 8, .w1c, false, []⟩, ⟨7, 7, .ro, false, []⟩, ⟨6, 6, .ro, false, []⟩, ⟨5, 5, .ro, false, []⟩, ⟨4, 4, .ro, false, []⟩, ⟨3, 3, .ro, false, []⟩, ⟨2, 0, .ro, false, []⟩]⟩,
  ⟨"EFC.KEY", 0xe00008, [], 0, [⟨15, 0, .wo, false, []⟩]⟩,
  ⟨"EFC.CMD", 0xe0000c, [], 0, [⟨2, 0, .wo, false, []⟩]⟩,
  ⟨"EFC.ADDR", 0xe00010, [], 0, [⟨24, 0, .rw, false, []⟩]⟩,
  ⟨"EFC.DATA", 0xe00014, [], 0, [⟨31, 0, .wo, false, []⟩]⟩,
  ⟨"EFC.RESULT", 0xe00018, [], 0, [⟨2, 0, .ro, false, []⟩]⟩,
  ⟨"EFC.ECC_CFG", 0xe0001c, [], 2, [⟨2, 0, .rw, true, [(0, 0), (5, 7)]⟩]⟩,
  ⟨"EFC.ECC_LOG", 0xe00020, [], 0, [⟨31, 31, .w1c, false, []⟩, ⟨30, 30, .ro, false, []⟩, ⟨29, 27, .ro, false, []⟩, ⟨24, 0, .ro, false, []⟩]⟩,
  ⟨"EFC.STANDING", 0xe00024, [], 0, [⟨9, 9, .ro, false, []⟩, ⟨8, 8, .ro, false, []⟩, ⟨7, 7, .ro, false, []⟩, ⟨6, 6, .ro, false, []⟩, ⟨5, 5, .ro, false, []⟩, ⟨4, 4, .ro, false, []⟩, ⟨1, 0, .ro, false, []⟩]⟩,
  ⟨"EFC.STANDING_SEQ", 0xe00028, [], 0, [⟨31, 0, .ro, false, []⟩]⟩,
  ⟨"EFC.FW", 0xe0002c, [], 0, [⟨8, 8, .ro, false, []⟩, ⟨4, 4, .ro, false, []⟩, ⟨0, 0, .ro, false, []⟩]⟩,
  ⟨"EFC.ABORT_ADDR", 0xe00030, [], 0, [⟨31, 31, .ro, false, []⟩, ⟨30, 30, .wo, false, []⟩, ⟨24, 0, .ro, false, []⟩]⟩,
  ⟨"EFC.PROGRAMS", 0xe00040, [], 0, [⟨31, 0, .ro, false, []⟩]⟩,
  ⟨"EFC.ERASES", 0xe00044, [], 0, [⟨31, 0, .ro, false, []⟩]⟩,
  ⟨"EFC.CORRECTED", 0xe00048, [], 0, [⟨31, 0, .ro, false, []⟩]⟩,
  ⟨"EFC.UE", 0xe0004c, [], 0, [⟨31, 0, .ro, false, []⟩]⟩
]

/-- Registers of page 0xF (key / 1 MiB), part 0. -/
def regPage15_0 : List RReg := [
  ⟨"MBX.CTL", 0xf00000, [], 0, [⟨8, 8, .wo, false, []⟩]⟩,
  ⟨"MBX.STATUS", 0xf00004, [], 0, [⟨10, 10, .w1c, false, []⟩, ⟨9, 9, .w1c, false, []⟩, ⟨8, 8, .w1c, false, []⟩]⟩,
  ⟨"MBX.ARRIVED", 0xf00008, [], 0, [⟨23, 0, .w1c, false, []⟩]⟩,
  ⟨"MBX.REJECT", 0xf00010, [], 0, [⟨31, 0, .ro, false, []⟩]⟩,
  ⟨"MBX.OVERRUNS", 0xf00014, [], 0, [⟨31, 0, .ro, false, []⟩]⟩,
  ⟨"MBX.CORE.STATUS", 0xf00100, [], 0x8000000, [⟨31, 24, .ro, false, []⟩, ⟨17, 16, .ro, false, []⟩, ⟨10, 8, .ro, false, []⟩, ⟨2, 0, .ro, false, []⟩]⟩,
  ⟨"MBX.CORE.RESTARTS", 0xf00104, [(5, 32)], 0, [⟨31, 0, .ro, false, []⟩]⟩,
  ⟨"MBX.CORE.LOCK_TIME_LO", 0xf00108, [(5, 32)], 0, [⟨31, 0, .ro, false, []⟩]⟩,
  ⟨"MBX.CORE.LOCK_TIME_HI", 0xf0010c, [(5, 32)], 0, [⟨31, 0, .ro, false, []⟩]⟩,
  ⟨"MBX.CORE.LOCK_INFO", 0xf00110, [(5, 32)], 0, [⟨31, 0, .ro, false, []⟩]⟩,
  ⟨"MBX.CORE.STATUS", 0xf00120, [], 0x9000000, [⟨31, 24, .ro, false, []⟩, ⟨17, 16, .ro, false, []⟩, ⟨10, 8, .ro, false, []⟩, ⟨2, 0, .ro, false, []⟩]⟩,
  ⟨"MBX.CORE.STATUS", 0xf00140, [], 0xa000000, [⟨31, 24, .ro, false, []⟩, ⟨17, 16, .ro, false, []⟩, ⟨10, 8, .ro, false, []⟩, ⟨2, 0, .ro, false, []⟩]⟩,
  ⟨"MBX.CORE.STATUS", 0xf00160, [], 0xb000000, [⟨31, 24, .ro, false, []⟩, ⟨17, 16, .ro, false, []⟩, ⟨10, 8, .ro, false, []⟩, ⟨2, 0, .ro, false, []⟩]⟩,
  ⟨"MBX.CORE.STATUS", 0xf00180, [], 0xc000000, [⟨31, 24, .ro, false, []⟩, ⟨17, 16, .ro, false, []⟩, ⟨10, 8, .ro, false, []⟩, ⟨2, 0, .ro, false, []⟩]⟩,
  ⟨"MBX.BOX.WORD", 0xf01000, [(64, 16)], 0, [⟨31, 0, .rw, false, []⟩]⟩,
  ⟨"MBX.BOX.STATUS", 0xf01004, [(8, 16)], 8, [⟨31, 31, .ro, false, []⟩, ⟨30, 30, .ro, false, []⟩, ⟨29, 29, .w1c, false, []⟩, ⟨15, 8, .ro, false, []⟩, ⟨4, 0, .ro, false, []⟩]⟩,
  ⟨"MBX.BOX.STATUS", 0xf01084, [(8, 16)], 9, [⟨31, 31, .ro, false, []⟩, ⟨30, 30, .ro, false, []⟩, ⟨29, 29, .w1c, false, []⟩, ⟨15, 8, .ro, false, []⟩, ⟨4, 0, .ro, false, []⟩]⟩,
  ⟨"MBX.BOX.STATUS", 0xf01104, [(8, 16)], 10, [⟨31, 31, .ro, false, []⟩, ⟨30, 30, .ro, false, []⟩, ⟨29, 29, .w1c, false, []⟩, ⟨15, 8, .ro, false, []⟩, ⟨4, 0, .ro, false, []⟩]⟩,
  ⟨"MBX.BOX.STATUS", 0xf01184, [(8, 16)], 11, [⟨31, 31, .ro, false, []⟩, ⟨30, 30, .ro, false, []⟩, ⟨29, 29, .w1c, false, []⟩, ⟨15, 8, .ro, false, []⟩, ⟨4, 0, .ro, false, []⟩]⟩,
  ⟨"MBX.BOX.STATUS", 0xf01204, [(8, 16)], 12, [⟨31, 31, .ro, false, []⟩, ⟨30, 30, .ro, false, []⟩, ⟨29, 29, .w1c, false, []⟩, ⟨15, 8, .ro, false, []⟩, ⟨4, 0, .ro, false, []⟩]⟩,
  ⟨"MBX.BOX.STATUS", 0xf01284, [(2, 16)], 1, [⟨31, 31, .ro, false, []⟩, ⟨30, 30, .ro, false, []⟩, ⟨29, 29, .w1c, false, []⟩, ⟨15, 8, .ro, false, []⟩, ⟨4, 0, .ro, false, []⟩]⟩,
  ⟨"MBX.BOX.STATUS", 0xf012a4, [(22, 16)], 0, [⟨31, 31, .ro, false, []⟩, ⟨30, 30, .ro, false, []⟩, ⟨29, 29, .w1c, false, []⟩, ⟨15, 8, .ro, false, []⟩, ⟨4, 0, .ro, false, []⟩]⟩,
  ⟨"MBX.QUOIN.TAKE", 0xf02000, [(64, 8)], 0, [⟨31, 31, .ro, false, []⟩, ⟨30, 30, .ro, false, []⟩, ⟨15, 8, .ro, false, []⟩]⟩,
  ⟨"MBX.QUOIN.STATE", 0xf02004, [(64, 8)], 0, [⟨31, 31, .ro, false, []⟩, ⟨30, 30, .ro, false, []⟩, ⟨15, 8, .ro, false, []⟩, ⟨0, 0, .wo, false, []⟩]⟩
]

/-- Registers of page 0x10 (key / 1 MiB), part 0. -/
def regPage16_0 : List RReg := [
  ⟨"CAL.STATUS", 0x1000000, [], 7, [⟨9, 9, .w1c, false, []⟩, ⟨8, 8, .w1c, false, []⟩, ⟨2, 0, .ro, false, []⟩]⟩,
  ⟨"CAL.CFG", 0x1000010, [], 0x140004, [⟨23, 16, .rw, true, [(0, 0)]⟩, ⟨7, 0, .rw, true, [(0, 0)]⟩]⟩,
  ⟨"CAL.BLK.CTL", 0x1000100, [(6, 32)], 0, [⟨31, 31, .rw, true, []⟩, ⟨0, 0, .wo, false, []⟩]⟩,
  ⟨"CAL.BLK.STATUS", 0x1000104, [(6, 32)], 0, [⟨31, 31, .ro, false, []⟩, ⟨30, 30, .ro, false, []⟩, ⟨29, 29, .ro, false, []⟩, ⟨11, 0, .ro, false, []⟩]⟩,
  ⟨"CAL.BLK.COUNT", 0x1000108, [(6, 32)], 0, [⟨31, 0, .ro, false, []⟩]⟩,
  ⟨"CAL.BLK.TEMP", 0x100010c, [(6, 32)], 0, [⟨11, 0, .ro, false, []⟩]⟩,
  ⟨"CAL.BLK.LAST_LO", 0x1000110, [(6, 32)], 0, [⟨31, 0, .ro, false, []⟩]⟩,
  ⟨"CAL.BLK.LAST_HI", 0x1000114, [(6, 32)], 0, [⟨31, 0, .ro, false, []⟩]⟩,
  ⟨"CAL.VAL.LANE_RX", 0x1010000, [(258, 12), (2, 4)], 0x80808080, [⟨31, 0, .rw, false, []⟩]⟩,
  ⟨"CAL.VAL.LANE_RX", 0x1010008, [(258, 12)], 0x880, [⟨15, 8, .rw, false, [(9, 255)]⟩, ⟨7, 0, .rw, false, []⟩]⟩,
  ⟨"CAL.VAL.LANE_TX", 0x1020000, [(258, 4)], 0x80808080, [⟨31, 0, .rw, false, []⟩]⟩,
  ⟨"CAL.VAL.GPHY", 0x1030000, [(128, 36), (8, 4)], 0x80808080, [⟨31, 0, .rw, false, []⟩]⟩,
  ⟨"CAL.VAL.GPHY", 0x1030020, [(128, 36)], 0x8080, [⟨15, 8, .rw, false, []⟩, ⟨7, 0, .rw, false, []⟩]⟩,
  ⟨"CAL.VAL.OCH_ADC", 0x1040000, [(17, 4)], 0x808080, [⟨23, 16, .rw, false, []⟩, ⟨15, 8, .rw, false, []⟩, ⟨7, 0, .rw, false, []⟩]⟩,
  ⟨"CAL.VAL.OCH_DLY", 0x1050000, [(16, 4)], 0x808080, [⟨23, 16, .rw, false, []⟩, ⟨15, 8, .rw, false, []⟩, ⟨7, 0, .rw, false, []⟩]⟩,
  ⟨"CAL.VAL.ISENSE", 0x1060000, [(13, 4)], 0x8080, [⟨16, 16, .rw, false, []⟩, ⟨15, 8, .rw, false, []⟩, ⟨7, 0, .rw, false, []⟩]⟩
]

/-- Registers of page 0x11 (key / 1 MiB), part 0. -/
def regPage17_0 : List RReg := [
  ⟨"DBG.STATUS", 0x1100000, [], 0, [⟨8, 8, .w1c, false, []⟩, ⟨0, 0, .ro, false, []⟩]⟩,
  ⟨"DBG.SCRATCH", 0x1100010, [(4, 4)], 0, [⟨31, 0, .rw, false, []⟩]⟩
]

/-- Registers of page 0x1000 (key / 1 MiB), part 0. -/
def regPage4096_0 : List RReg := [
  ⟨"COL.CTL", 0x100000000, [], 1, [⟨8, 8, .wo, false, []⟩, ⟨0, 0, .rw, false, []⟩]⟩,
  ⟨"COL.STATUS", 0x100000004, [], 512, [⟨16, 16, .w1c, false, []⟩, ⟨15, 15, .w1c, false, []⟩, ⟨14, 14, .w1c, false, []⟩, ⟨13, 13, .w1c, false, []⟩, ⟨12, 12, .w1c, false, []⟩, ⟨11, 11, .w1c, false, []⟩, ⟨10, 10, .w1c, false, []⟩, ⟨9, 9, .ro, false, []⟩, ⟨8, 6, .ro, false, []⟩, ⟨3, 3, .ro, false, []⟩, ⟨2, 0, .ro, false, []⟩]⟩,
  ⟨"COL.UNC", 0x100000008, [], 0xffffffff, [⟨31, 0, .ro, false, []⟩]⟩,
  ⟨"COL.TIME_LO", 0x100000010, [], 0, [⟨31, 0, .ro, false, []⟩]⟩,
  ⟨"COL.TIME_HI", 0x100000014, [], 0, [⟨31, 0, .ro, false, []⟩]⟩,
  ⟨"COL.TOD_NEXT_LO", 0x100000018, [], 0, [⟨31, 0, .rw, false, []⟩]⟩,
  ⟨"COL.TOD_NEXT_HI", 0x10000001c, [], 0, [⟨31, 0, .rw, false, []⟩]⟩,
  ⟨"COL.TOD_CMD", 0x100000020, [], 0, [⟨0, 0, .wo, false, []⟩]⟩,
  ⟨"COL.TOD_SETS", 0x100000024, [], 0, [⟨31, 0, .ro, false, []⟩]⟩,
  ⟨"COL.SEAL", 0x100000030, [], 0, [⟨16, 16, .ro, false, []⟩, ⟨8, 0, .ro, false, []⟩]⟩,
  ⟨"COL.AUTH", 0x100000040, [], 0, [⟨4, 4, .wo, false, []⟩, ⟨0, 0, .ro, false, []⟩]⟩,
  ⟨"COL.CHANGE_CMD", 0x100000044, [], 0, [⟨0, 0, .wo, false, []⟩]⟩,
  ⟨"COL.CHANGE_STATUS", 0x100000048, [], 0, [⟨2, 0, .ro, false, []⟩]⟩,
  ⟨"COL.REC_HEAD_LO", 0x100000050, [], 0, [⟨31, 0, .ro, false, []⟩]⟩,
  ⟨"COL.REC_HEAD_HI", 0x100000054, [], 0, [⟨31, 0, .ro, false, []⟩]⟩,
  ⟨"COL.CERT_LEN", 0x100000058, [], 0, [⟨31, 0, .ro, false, []⟩]⟩,
  ⟨"COL.STROBES_LO", 0x100000060, [], 0, [⟨31, 0, .ro, false, []⟩]⟩,
  ⟨"COL.STROBES_HI", 0x100000064, [], 0, [⟨31, 0, .ro, false, []⟩]⟩,
  ⟨"COL.UNANSWERED", 0x100000068, [], 0, [⟨31, 0, .ro, false, []⟩]⟩,
  ⟨"COL.AUTH_KEY", 0x100000100, [(24, 4)], 0, [⟨31, 0, .rw, false, []⟩]⟩,
  ⟨"COL.CHANGE", 0x100000200, [(56, 4)], 0, [⟨31, 0, .rw, false, []⟩]⟩,
  ⟨"COL.CH.LAST_LO", 0x100000400, [(8, 32)], 0, [⟨31, 0, .ro, false, []⟩]⟩,
  ⟨"COL.CH.LAST_HI", 0x100000404, [(8, 32)], 0, [⟨31, 0, .ro, false, []⟩]⟩,
  ⟨"COL.CH.LAST_FINE", 0x100000408, [(8, 32)], 0, [⟨8, 8, .ro, false, []⟩, ⟨3, 0, .ro, false, []⟩]⟩,
  ⟨"COL.CH.COUNT", 0x10000040c, [(8, 32)], 0, [⟨31, 0, .ro, false, []⟩]⟩,
  ⟨"COL.CH.OVERRUN", 0x100000410, [(8, 32)], 0, [⟨31, 0, .ro, false, []⟩]⟩,
  ⟨"MSIX1.ADDR_LO", 0x1000f0000, [(8, 16)], 0, [⟨31, 2, .rw, false, []⟩]⟩,
  ⟨"MSIX1.ADDR_HI", 0x1000f0004, [(8, 16)], 0, [⟨31, 0, .rw, false, []⟩]⟩,
  ⟨"MSIX1.DATA", 0x1000f0008, [(8, 16)], 0, [⟨31, 0, .rw, false, []⟩]⟩,
  ⟨"MSIX1.CTL", 0x1000f000c, [(8, 16)], 1, [⟨0, 0, .rw, false, []⟩]⟩,
  ⟨"MSIX1.PBA", 0x1000f8000, [(1, 4)], 0, [⟨31, 0, .ro, false, []⟩]⟩
]

/-- Registers of page 0x2000 (key / 1 MiB), part 0. -/
def regPage8192_0 : List RReg := [
  ⟨"CFG.ID", 0x200000000, [], 0x42561f7d, [⟨31, 16, .ro, false, []⟩, ⟨15, 0, .ro, false, []⟩]⟩,
  ⟨"CFG.COMMAND", 0x200000004, [(2, 0x100000000)], 0x100000, [⟨31, 31, .w1c, false, []⟩, ⟨30, 30, .w1c, false, []⟩, ⟨29, 29, .w1c, false, []⟩, ⟨28, 28, .w1c, false, []⟩, ⟨27, 27, .w1c, false, []⟩, ⟨24, 24, .w1c, false, []⟩, ⟨20, 20, .ro, false, []⟩, ⟨10, 10, .rw, false, []⟩, ⟨8, 8, .rw, false, []⟩, ⟨6, 6, .rw, false, []⟩, ⟨2, 2, .rw, false, []⟩, ⟨1, 1, .rw, false, []⟩]⟩,
  ⟨"CFG.CLASS", 0x200000008, [], 0x48000a1, [⟨31, 8, .ro, false, []⟩, ⟨7, 0, .ro, false, []⟩]⟩,
  ⟨"CFG.HEADER", 0x20000000c, [], 0x800000, [⟨23, 16, .ro, false, []⟩, ⟨7, 0, .rw, false, []⟩]⟩,
  ⟨"CFG.BAR0_LO", 0x200000010, [], 4, [⟨31, 26, .rw, false, []⟩, ⟨3, 0, .ro, false, []⟩]⟩,
  ⟨"CFG.BAR0_HI", 0x200000014, [(2, 0x100000000)], 0, [⟨31, 0, .rw, false, []⟩]⟩,
  ⟨"CFG.BAR2_LO", 0x200000018, [], 12, [⟨31, 28, .rw, false, []⟩, ⟨3, 0, .ro, false, []⟩]⟩,
  ⟨"CFG.BAR2_HI", 0x20000001c, [], 0, [⟨31, 0, .rw, false, []⟩]⟩,
  ⟨"CFG.BAR4_LO", 0x200000020, [], 4, [⟨31, 16, .rw, false, []⟩, ⟨3, 0, .ro, false, []⟩]⟩,
  ⟨"CFG.BAR4_HI", 0x200000024, [], 0, [⟨31, 0, .rw, false, []⟩]⟩,
  ⟨"CFG.SUBSYS", 0x20000002c, [(2, 0x100000000)], 0, [⟨31, 0, .ro, false, []⟩]⟩,
  ⟨"CFG.CAPPTR", 0x200000034, [(2, 0x100000000)], 64, [⟨7, 0, .ro, false, []⟩]⟩,
  ⟨"CFG.INTERRUPT", 0x20000003c, [(2, 0x100000000)], 0, [⟨15, 8, .ro, false, []⟩, ⟨7, 0, .rw, false, []⟩]⟩,
  ⟨"CFG.PMCAP", 0x200000040, [(2, 0x100000000)], 0x35001, [⟨18, 16, .ro, false, []⟩, ⟨15, 8, .ro, false, []⟩, ⟨7, 0, .ro, false, []⟩]⟩,
  ⟨"CFG.PMCSR", 0x200000044, [(2, 0x100000000)], 8, [⟨3, 3, .ro, false, []⟩, ⟨1, 0, .rw, false, [(1, 2)]⟩]⟩,
  ⟨"CFG.PCIECAP", 0x200000050, [(2, 0x100000000)], 0x2b010, [⟨19, 16, .ro, false, []⟩, ⟨15, 8, .ro, false, []⟩, ⟨7, 0, .ro, false, []⟩]⟩,
  ⟨"CFG.DEVCAP", 0x200000054, [(2, 0x100000000)], 0x10008022, [⟨28, 28, .ro, false, []⟩, ⟨15, 15, .ro, false, []⟩, ⟨5, 5, .ro, false, []⟩, ⟨2, 0, .ro, false, []⟩]⟩,
  ⟨"CFG.DEVCTL", 0x200000058, [(2, 0x100000000)], 0x2110, [⟨19, 19, .w1c, false, []⟩, ⟨18, 18, .w1c, false, []⟩, ⟨17, 17, .w1c, false, []⟩, ⟨16, 16, .w1c, false, []⟩, ⟨15, 15, .wo, false, []⟩, ⟨14, 12, .rw, false, [(6, 7)]⟩, ⟨8, 8, .rw, false, []⟩, ⟨7, 5, .rw, false, [(3, 7)]⟩, ⟨4, 4, .rw, false, []⟩, ⟨3, 3, .rw, false, []⟩, ⟨2, 2, .rw, false, []⟩, ⟨1, 1, .rw, false, []⟩, ⟨0, 0, .rw, false, []⟩]⟩,
  ⟨"CFG.LNKCAP", 0x20000005c, [(2, 0x100000000)], 0x400106, [⟨22, 22, .ro, false, []⟩, ⟨11, 10, .ro, false, []⟩, ⟨9, 4, .ro, false, []⟩, ⟨3, 0, .ro, false, []⟩]⟩,
  ⟨"CFG.LNKCTL", 0x200000060, [(2, 0x100000000)], 0, [⟨7, 7, .rw, false, []⟩, ⟨6, 6, .rw, false, []⟩, ⟨5, 5, .wo, false, []⟩, ⟨4, 4, .rw, false, []⟩, ⟨3, 3, .rw, false, []⟩]⟩,
  ⟨"CFG.DEVCAP2", 0x200000074, [(2, 0x100000000)], 0x3000f, [⟨17, 17, .ro, false, []⟩, ⟨16, 16, .ro, false, []⟩, ⟨4, 4, .ro, false, []⟩, ⟨3, 0, .ro, false, []⟩]⟩,
  ⟨"CFG.DEVCTL2", 0x200000078, [(2, 0x100000000)], 0, [⟨12, 12, .rw, false, []⟩, ⟨9, 9, .rw, false, []⟩, ⟨8, 8, .rw, false, []⟩, ⟨3, 0, .rw, false, [(3, 4), (7, 8), (11, 12), (15, 15)]⟩]⟩,
  ⟨"CFG.LNKCAP2", 0x20000007c, [(2, 0x100000000)], 0x180007e, [⟨24, 24, .ro, false, []⟩, ⟨23, 23, .ro, false, []⟩, ⟨7, 1, .ro, false, []⟩]⟩,
  ⟨"CFG.LNKCTL2", 0x200000080, [(2, 0x100000000)], 6, [⟨3, 0, .rw, false, [(0, 0), (7, 15)]⟩]⟩,
  ⟨"CFG.MSIX", 0x2000000b0, [], 0x7ff0011, [⟨31, 31, .rw, false, []⟩, ⟨30, 30, .rw, false, []⟩, ⟨26, 16, .ro, false, []⟩, ⟨15, 8, .ro, false, []⟩, ⟨7, 0, .ro, false, []⟩]⟩,
  ⟨"CFG.MSIX_TABLE", 0x2000000b4, [], 4, [⟨31, 0, .ro, false, []⟩]⟩,
  ⟨"CFG.MSIX_PBA", 0x2000000b8, [], 0x8004, [⟨31, 0, .ro, false, []⟩]⟩,
  ⟨"CFG.AERCAP", 0x200000100, [(2, 0x100000000)], 0x14820001, [⟨31, 20, .ro, false, []⟩, ⟨19, 16, .ro, false, []⟩, ⟨15, 0, .ro, false, []⟩]⟩,
  ⟨"CFG.UNC_STATUS", 0x200000104, [(2, 0x100000000)], 0, [⟨22, 22, .w1c, false, []⟩, ⟨20, 20, .w1c, false, []⟩, ⟨18, 18, .w1c, false, []⟩, ⟨17, 17, .w1c, false, []⟩, ⟨16, 16, .w1c, false, []⟩, ⟨15, 15, .w1c, false, []⟩, ⟨14, 14, .w1c, false, []⟩, ⟨12, 12, .w1c, false, []⟩, ⟨4, 4, .w1c, false, []⟩]⟩,
  ⟨"CFG.UNC_MASK", 0x200000108, [(2, 0x100000000)], 0x400000, [⟨22, 22, .rw, false, []⟩, ⟨20, 20, .rw, false, []⟩, ⟨18, 18, .rw, false, []⟩, ⟨17, 17, .rw, false, []⟩, ⟨16, 16, .rw, false, []⟩, ⟨15, 15, .rw, false, []⟩, ⟨14, 14, .rw, false, []⟩, ⟨12, 12, .rw, false, []⟩, ⟨4, 4, .rw, false, []⟩]⟩,
  ⟨"CFG.UNC_SEV", 0x20000010c, [(2, 0x100000000)], 0x460010, [⟨22, 22, .rw, false, []⟩, ⟨20, 20, .rw, false, []⟩, ⟨18, 18, .rw, false, []⟩, ⟨17, 17, .rw, false, []⟩, ⟨16, 16, .rw, false, []⟩, ⟨15, 15, .rw, false, []⟩, ⟨14, 14, .rw, false, []⟩, ⟨12, 12, .rw, false, []⟩, ⟨4, 4, .rw, false, []⟩]⟩,
  ⟨"CFG.COR_STATUS", 0x200000110, [(2, 0x100000000)], 0, [⟨15, 15, .w1c, false, []⟩, ⟨14, 14, .w1c, false, []⟩, ⟨13, 13, .w1c, false, []⟩, ⟨12, 12, .w1c, false, []⟩, ⟨8, 8, .w1c, false, []⟩, ⟨7, 7, .w1c, false, []⟩, ⟨6, 6, .w1c, false, []⟩, ⟨0, 0, .w1c, false, []⟩]⟩,
  ⟨"CFG.COR_MASK", 0x200000114, [(2, 0x100000000)], 0xe000, [⟨15, 15, .rw, false, []⟩, ⟨14, 14, .rw, false, []⟩, ⟨13, 13, .rw, false, []⟩, ⟨12, 12, .rw, false, []⟩, ⟨8, 8, .rw, false, []⟩, ⟨7, 7, .rw, false, []⟩, ⟨6, 6, .rw, false, []⟩, ⟨0, 0, .rw, false, []⟩]⟩,
  ⟨"CFG.AERCTL", 0x200000118, [(2, 0x100000000)], 0, [⟨4, 0, .ro, false, []⟩]⟩,
  ⟨"CFG.HDRLOG", 0x20000011c, [(2, 0x100000000), (4, 4)], 0, [⟨31, 0, .ro, false, []⟩]⟩,
  ⟨"CFG.HDRLOG2", 0x200000138, [(2, 0x100000000), (4, 4)], 0, [⟨31, 0, .ro, false, []⟩]⟩,
  ⟨"CFG.EXT_DSN", 0x200000148, [], 0x15810003, [⟨31, 20, .ro, false, []⟩, ⟨19, 16, .ro, false, []⟩, ⟨15, 0, .ro, false, []⟩]⟩,
  ⟨"CFG.EXT_SECPCIE", 0x200000158, [], 0x1a010019, [⟨31, 20, .ro, false, []⟩, ⟨19, 16, .ro, false, []⟩, ⟨15, 0, .ro, false, []⟩]⟩,
  ⟨"CFG.LNKCTL3", 0x20000015c, [], 0, [⟨1, 1, .rw, false, []⟩, ⟨0, 0, .wo, false, []⟩]⟩,
  ⟨"CFG.LANE_ERR", 0x200000160, [], 0, [⟨15, 0, .w1c, false, []⟩]⟩
]

/-- Registers of page 0x2000 (key / 1 MiB), part 1. -/
def regPage8192_1 : List RReg := [
  ⟨"CFG.EXT_DLF", 0x2000001a0, [], 0x1b010025, [⟨31, 20, .ro, false, []⟩, ⟨19, 16, .ro, false, []⟩, ⟨15, 0, .ro, false, []⟩]⟩,
  ⟨"CFG.DLF_CAP", 0x2000001a4, [], 0x80000001, [⟨31, 31, .rw, false, []⟩, ⟨22, 0, .ro, false, []⟩]⟩,
  ⟨"CFG.DLF_STATUS", 0x2000001a8, [], 0, [⟨31, 31, .ro, false, []⟩, ⟨22, 0, .ro, false, []⟩]⟩,
  ⟨"CFG.EXT_PL16", 0x2000001b0, [], 0x20010026, [⟨31, 20, .ro, false, []⟩, ⟨19, 16, .ro, false, []⟩, ⟨15, 0, .ro, false, []⟩]⟩,
  ⟨"CFG.PL16_STATUS", 0x2000001bc, [], 0, [⟨31, 0, .ro, false, []⟩]⟩,
  ⟨"CFG.EXT_PL32", 0x200000200, [], 0x2401002a, [⟨31, 20, .ro, false, []⟩, ⟨19, 16, .ro, false, []⟩, ⟨15, 0, .ro, false, []⟩]⟩,
  ⟨"CFG.PL32_STATUS", 0x20000020c, [], 0, [⟨31, 0, .ro, false, []⟩]⟩,
  ⟨"CFG.EXT_PL64", 0x200000240, [], 0x28010031, [⟨31, 20, .ro, false, []⟩, ⟨19, 16, .ro, false, []⟩, ⟨15, 0, .ro, false, []⟩]⟩,
  ⟨"CFG.PL64_STATUS", 0x20000024c, [], 0, [⟨31, 0, .ro, false, []⟩]⟩,
  ⟨"CFG.EXT_MARGIN", 0x200000280, [], 0x30010027, [⟨31, 20, .ro, false, []⟩, ⟨19, 16, .ro, false, []⟩, ⟨15, 0, .ro, false, []⟩]⟩,
  ⟨"CFG.MARGIN_PORT", 0x200000284, [], 0x10000, [⟨17, 17, .ro, false, []⟩, ⟨16, 16, .ro, false, []⟩, ⟨0, 0, .ro, false, []⟩]⟩,
  ⟨"CFG.MARGIN_LANE", 0x200000288, [(16, 4)], 0, [⟨31, 16, .ro, false, []⟩, ⟨15, 0, .rw, false, []⟩]⟩,
  ⟨"CFG.EXT_DEV3", 0x200000300, [], 0x3101002f, [⟨31, 20, .ro, false, []⟩, ⟨19, 16, .ro, false, []⟩, ⟨15, 0, .ro, false, []⟩]⟩,
  ⟨"CFG.DEVCAP3", 0x200000304, [(2, 0x100000000)], 6, [⟨2, 2, .ro, false, []⟩, ⟨1, 1, .ro, false, []⟩]⟩,
  ⟨"CFG.DEVCTL3", 0x200000308, [(2, 0x100000000)], 0, [⟨2, 2, .rw, false, []⟩]⟩,
  ⟨"CFG.DEVSTA3", 0x20000030c, [(2, 0x100000000)], 0, [⟨31, 0, .ro, false, []⟩]⟩,
  ⟨"CFG.EXT_FLITLOG", 0x200000310, [], 0x34010032, [⟨31, 20, .ro, false, []⟩, ⟨19, 16, .ro, false, []⟩, ⟨15, 0, .ro, false, []⟩]⟩,
  ⟨"CFG.FLITLOG", 0x200000314, [(7, 4)], 0, [⟨31, 0, .ro, false, []⟩]⟩,
  ⟨"CFG.EXT_RBAR", 0x200000340, [], 0x38010015, [⟨31, 20, .ro, false, []⟩, ⟨19, 16, .ro, false, []⟩, ⟨15, 0, .ro, false, []⟩]⟩,
  ⟨"CFG.RBAR_CAP", 0x200000344, [], 0x7ff000, [⟨31, 4, .ro, false, []⟩]⟩,
  ⟨"CFG.RBAR_CTL", 0x200000348, [], 0x1222, [⟨13, 8, .rw, false, [(0, 7), (19, 63)]⟩, ⟨7, 5, .ro, false, []⟩, ⟨2, 0, .ro, false, []⟩]⟩,
  ⟨"CFG.EXT_CONT", 0x200000380, [], 0x1000b, [⟨31, 20, .ro, false, []⟩, ⟨19, 16, .ro, false, []⟩, ⟨15, 0, .ro, false, []⟩]⟩,
  ⟨"CFG.VSEC", 0x200000384, [(2, 0x100000000)], 0x1810001, [⟨31, 0, .ro, false, []⟩]⟩,
  ⟨"CFG.CONT_CTL", 0x200000388, [(2, 0x100000000)], 2, [⟨16, 16, .wo, false, []⟩, ⟨15, 8, .wo, false, []⟩, ⟨1, 1, .rw, false, []⟩, ⟨0, 0, .w1s, false, []⟩]⟩,
  ⟨"CFG.CONT_STATUS", 0x20000038c, [(2, 0x100000000)], 0, [⟨31, 24, .ro, false, []⟩, ⟨15, 8, .ro, false, []⟩, ⟨7, 7, .w1c, false, []⟩, ⟨4, 4, .ro, false, []⟩, ⟨3, 3, .ro, false, []⟩, ⟨2, 2, .ro, false, []⟩, ⟨1, 1, .ro, false, []⟩, ⟨0, 0, .ro, false, []⟩]⟩,
  ⟨"CFG.ENTRY_TIME_LO", 0x200000390, [(2, 0x100000000)], 0, [⟨31, 0, .ro, false, []⟩]⟩,
  ⟨"CFG.ENTRY_TIME_HI", 0x200000394, [(2, 0x100000000)], 0, [⟨31, 0, .ro, false, []⟩]⟩
]

/-- Registers of page 0x3000 (key / 1 MiB), part 0. -/
def regPage12288_0 : List RReg := [
  ⟨"CFG.ID", 0x300000000, [], 0x42571f7d, [⟨31, 16, .ro, false, []⟩, ⟨15, 0, .ro, false, []⟩]⟩,
  ⟨"CFG.CLASS", 0x300000008, [], 0x111000a1, [⟨31, 8, .ro, false, []⟩, ⟨7, 0, .ro, false, []⟩]⟩,
  ⟨"CFG.HEADER", 0x30000000c, [], 0, [⟨23, 16, .ro, false, []⟩, ⟨7, 0, .rw, false, []⟩]⟩,
  ⟨"CFG.F1_BAR0_LO", 0x300000010, [], 4, [⟨31, 20, .rw, false, []⟩, ⟨3, 0, .ro, false, []⟩]⟩,
  ⟨"CFG.MSIX", 0x3000000b0, [], 0x70011, [⟨31, 31, .rw, false, []⟩, ⟨30, 30, .rw, false, []⟩, ⟨26, 16, .ro, false, []⟩, ⟨15, 8, .ro, false, []⟩, ⟨7, 0, .ro, false, []⟩]⟩,
  ⟨"CFG.MSIX_TABLE", 0x3000000b4, [], 0xf0000, [⟨31, 0, .ro, false, []⟩]⟩,
  ⟨"CFG.MSIX_PBA", 0x3000000b8, [], 0xf8000, [⟨31, 0, .ro, false, []⟩]⟩,
  ⟨"CFG.EXT_DSN", 0x300000148, [], 0x30010003, [⟨31, 20, .ro, false, []⟩, ⟨19, 16, .ro, false, []⟩, ⟨15, 0, .ro, false, []⟩]⟩,
  ⟨"CFG.EXT_DEV3", 0x300000300, [], 0x3801002f, [⟨31, 20, .ro, false, []⟩, ⟨19, 16, .ro, false, []⟩, ⟨15, 0, .ro, false, []⟩]⟩,
  ⟨"CFG.EXT_CONT", 0x300000380, [], 0x1000b, [⟨31, 20, .ro, false, []⟩, ⟨19, 16, .ro, false, []⟩, ⟨15, 0, .ro, false, []⟩]⟩
]

/-- Registers of page 0x4000 (key / 1 MiB), part 0. -/
def regPage16384_0 : List RReg := [
  ⟨"MSIX0.ADDR_LO", 0x400000000, [(2048, 16)], 0, [⟨31, 2, .rw, false, []⟩]⟩,
  ⟨"MSIX0.ADDR_HI", 0x400000004, [(2048, 16)], 0, [⟨31, 0, .rw, false, []⟩]⟩,
  ⟨"MSIX0.DATA", 0x400000008, [(2048, 16)], 0, [⟨31, 0, .rw, false, []⟩]⟩,
  ⟨"MSIX0.CTL", 0x40000000c, [(2048, 16)], 1, [⟨0, 0, .rw, false, []⟩]⟩,
  ⟨"MSIX0.PBA", 0x400008000, [(64, 4)], 0, [⟨31, 0, .ro, false, []⟩]⟩
]

/-- The table rows of a page of keys (key / 1 MiB). -/
def regPage (p : Nat) : List RReg :=
  if p = 0 then regPage0_0 else
  if p = 1 then regPage1_0 else
  if p = 2 then regPage2_0 else
  if p = 3 then regPage3_0 else
  if p = 4 then regPage4_0 else
  if p = 5 then regPage5_0 else
  if p = 6 then regPage6_0 else
  if p = 7 then regPage7_0 else
  if p = 8 then regPage8_0 else
  if p = 9 then regPage9_0 else
  if p = 10 then regPage10_0 else
  if p = 11 then regPage11_0 else
  if p = 12 then regPage12_0 ++ regPage12_1 else
  if p = 13 then regPage13_0 else
  if p = 14 then regPage14_0 else
  if p = 15 then regPage15_0 else
  if p = 16 then regPage16_0 else
  if p = 17 then regPage17_0 else
  if p = 4096 then regPage4096_0 else
  if p = 8192 then regPage8192_0 ++ regPage8192_1 else
  if p = 12288 then regPage12288_0 ++ regPage8192_0 ++ regPage8192_1 else
  if p = 16384 then regPage16384_0 else
  []

end Sys2Proof.Machine
end

