-- ==== Sys2Proof/Machine/RegNames.lean ====
section
/-!
DEFINITION. The register fields that the meanings read or write, by the names the spec gives them.
Spec: the field tables of 01-20; offsets 21.  `Reg.A_B_F` is field F of register A.B; a name without a field is a whole register or a 64-bit pair.
-/
namespace Sys2Proof.Machine

/-- A register field: the key of the first element, the stride of its array, its bits, and the number of elements. -/
structure Fld where
  base : Nat
  stride : Nat
  hi : Nat
  lo : Nat
  count : Nat
  deriving DecidableEq, Repr

/-- The field of the element `off` bytes further on (an inner array dimension). -/
def Fld.off (f : Fld) (off : Nat) : Fld := { f with base := f.base + off }

/-- TOP.MODE whole register (spec/01_architecture.md). -/
def Reg.TOP_MODE_WORD : Fld := ⟨16, 0, 31, 0, 1⟩
/-- TOP.MODE REJECTED (spec/01_architecture.md). -/
def Reg.TOP_MODE_REJECTED : Fld := ⟨16, 0, 8, 8, 1⟩
/-- TOP.MODE ROLE (spec/01_architecture.md). -/
def Reg.TOP_MODE_ROLE : Fld := ⟨16, 0, 1, 0, 1⟩
/-- TOP.UNIT_FAILED whole register (spec/01_architecture.md). -/
def Reg.TOP_UNIT_FAILED_WORD : Fld := ⟨32, 0, 31, 0, 1⟩
/-- PCIE.CFG BAR2_SIZE (spec/08_pcie_endpoint.md). -/
def Reg.PCIE_CFG_BAR2_SIZE : Fld := ⟨0x10000, 0, 15, 12, 1⟩
/-- PCIE.CFG BAR2_MODE (spec/08_pcie_endpoint.md). -/
def Reg.PCIE_CFG_BAR2_MODE : Fld := ⟨0x10000, 0, 9, 8, 1⟩
/-- PCIE.CFG MAX_WIDTH (spec/08_pcie_endpoint.md). -/
def Reg.PCIE_CFG_MAX_WIDTH : Fld := ⟨0x10000, 0, 7, 5, 1⟩
/-- PCIE.CFG MAX_RATE (spec/08_pcie_endpoint.md). -/
def Reg.PCIE_CFG_MAX_RATE : Fld := ⟨0x10000, 0, 1, 0, 1⟩
/-- PCIE.STATUS whole register (spec/08_pcie_endpoint.md). -/
def Reg.PCIE_STATUS_WORD : Fld := ⟨0x10004, 0, 31, 0, 1⟩
/-- PCIE.STATUS RATE (spec/08_pcie_endpoint.md). -/
def Reg.PCIE_STATUS_RATE : Fld := ⟨0x10004, 0, 15, 12, 1⟩
/-- PCIE.STATUS WIDTH (spec/08_pcie_endpoint.md). -/
def Reg.PCIE_STATUS_WIDTH : Fld := ⟨0x10004, 0, 11, 7, 1⟩
/-- PCIE.STATUS FLIT (spec/08_pcie_endpoint.md). -/
def Reg.PCIE_STATUS_FLIT : Fld := ⟨0x10004, 0, 6, 6, 1⟩
/-- PCIE.STATUS XWIN_REJ (spec/08_pcie_endpoint.md). -/
def Reg.PCIE_STATUS_XWIN_REJ : Fld := ⟨0x10004, 0, 5, 5, 1⟩
/-- PCIE.STATUS BAR2_MISS_EV (spec/08_pcie_endpoint.md). -/
def Reg.PCIE_STATUS_BAR2_MISS_EV : Fld := ⟨0x10004, 0, 4, 4, 1⟩
/-- PCIE.STATUS LATE_CPL_EV (spec/08_pcie_endpoint.md). -/
def Reg.PCIE_STATUS_LATE_CPL_EV : Fld := ⟨0x10004, 0, 3, 3, 1⟩
/-- PCIE.STATUS CPL_TIMEOUT_EV (spec/08_pcie_endpoint.md). -/
def Reg.PCIE_STATUS_CPL_TIMEOUT_EV : Fld := ⟨0x10004, 0, 2, 2, 1⟩
/-- PCIE.STATUS SURPRISE_DOWN_EV (spec/08_pcie_endpoint.md). -/
def Reg.PCIE_STATUS_SURPRISE_DOWN_EV : Fld := ⟨0x10004, 0, 1, 1, 1⟩
/-- PCIE.STATUS LINK_DEGRADED_EV (spec/08_pcie_endpoint.md). -/
def Reg.PCIE_STATUS_LINK_DEGRADED_EV : Fld := ⟨0x10004, 0, 0, 0, 1⟩
/-- PCIE.CPL_TIMEOUT COUNT (spec/08_pcie_endpoint.md). -/
def Reg.PCIE_CPL_TIMEOUT : Fld := ⟨0x10010, 0, 31, 0, 1⟩
/-- PCIE.LATE_CPL COUNT (spec/08_pcie_endpoint.md). -/
def Reg.PCIE_LATE_CPL : Fld := ⟨0x10014, 0, 31, 0, 1⟩
/-- PCIE.BAR2_MISS COUNT (spec/08_pcie_endpoint.md). -/
def Reg.PCIE_BAR2_MISS : Fld := ⟨0x10018, 0, 31, 0, 1⟩
/-- PCIE.POISON_TX COUNT (spec/08_pcie_endpoint.md). -/
def Reg.PCIE_POISON_TX : Fld := ⟨0x1001c, 0, 31, 0, 1⟩
/-- PCIE.POISON_RX COUNT (spec/08_pcie_endpoint.md). -/
def Reg.PCIE_POISON_RX : Fld := ⟨0x10020, 0, 31, 0, 1⟩
/-- PCIE.XWIN.BASE 64-bit pair (spec/08_pcie_endpoint.md). -/
def Reg.PCIE_XWIN_BASE : Fld := ⟨0x10100, 32, 31, 0, 16⟩
/-- PCIE.XWIN.TARGET 64-bit pair (spec/08_pcie_endpoint.md). -/
def Reg.PCIE_XWIN_TARGET : Fld := ⟨0x10108, 32, 31, 0, 16⟩
/-- PCIE.XWIN.CTL whole register (spec/08_pcie_endpoint.md). -/
def Reg.PCIE_XWIN_CTL_WORD : Fld := ⟨0x10110, 32, 31, 0, 16⟩
/-- PCIE.XWIN.CTL SIZE (spec/08_pcie_endpoint.md). -/
def Reg.PCIE_XWIN_CTL_SIZE : Fld := ⟨0x10110, 32, 13, 8, 16⟩
/-- PCIE.XWIN.CTL EN (spec/08_pcie_endpoint.md). -/
def Reg.PCIE_XWIN_CTL_EN : Fld := ⟨0x10110, 32, 0, 0, 16⟩
/-- CLK.PLL_STATUS whole register (spec/02_supply_clocks_resets.md). -/
def Reg.CLK_PLL_STATUS_WORD : Fld := ⟨0x100000, 0, 31, 0, 1⟩
/-- CLK.PLL_STATUS LOSS_EVENT (spec/02_supply_clocks_resets.md). -/
def Reg.CLK_PLL_STATUS_LOSS_EVENT : Fld := ⟨0x100000, 0, 9, 9, 1⟩
/-- CLK.PLL_STATUS REF_LOST (spec/02_supply_clocks_resets.md). -/
def Reg.CLK_PLL_STATUS_REF_LOST : Fld := ⟨0x100000, 0, 8, 8, 1⟩
/-- CLK.PLL_STATUS PAIR_LOCK (spec/02_supply_clocks_resets.md). -/
def Reg.CLK_PLL_STATUS_PAIR_LOCK : Fld := ⟨0x100000, 0, 7, 7, 1⟩
/-- CLK.PLL_STATUS COL_LOCK (spec/02_supply_clocks_resets.md). -/
def Reg.CLK_PLL_STATUS_COL_LOCK : Fld := ⟨0x100000, 0, 6, 6, 1⟩
/-- CLK.PLL_STATUS PCIE_LOCK (spec/02_supply_clocks_resets.md). -/
def Reg.CLK_PLL_STATUS_PCIE_LOCK : Fld := ⟨0x100000, 0, 5, 5, 1⟩
/-- CLK.PLL_STATUS GPHY_LOCK (spec/02_supply_clocks_resets.md). -/
def Reg.CLK_PLL_STATUS_GPHY_LOCK : Fld := ⟨0x100000, 0, 4, 1, 1⟩
/-- CLK.PLL_STATUS CORE_LOCK (spec/02_supply_clocks_resets.md). -/
def Reg.CLK_PLL_STATUS_CORE_LOCK : Fld := ⟨0x100000, 0, 0, 0, 1⟩
/-- CLK.LANE_PLL_LOCK LOCK (spec/02_supply_clocks_resets.md). -/
def Reg.CLK_LANE_PLL_LOCK_LOCK : Fld := ⟨0x100004, 0, 31, 0, 1⟩
/-- CLK.LANE_PLL_LOCK whole register (spec/02_supply_clocks_resets.md). -/
def Reg.CLK_LANE_PLL_LOCK_WORD : Fld := ⟨0x100004, 0, 31, 0, 1⟩
/-- CLK.SENS_REFCLK EN (spec/21_register_map.md). -/
def Reg.CLK_SENS_REFCLK_EN : Fld := ⟨0x100008, 0, 0, 0, 1⟩
/-- RST.CAUSE whole register (spec/02_supply_clocks_resets.md). -/
def Reg.RST_CAUSE_WORD : Fld := ⟨0x100100, 0, 31, 0, 1⟩
/-- RST.CAUSE WDOG (spec/02_supply_clocks_resets.md). -/
def Reg.RST_CAUSE_WDOG : Fld := ⟨0x100100, 0, 14, 14, 1⟩
/-- RST.CAUSE PLL_LOSS (spec/02_supply_clocks_resets.md). -/
def Reg.RST_CAUSE_PLL_LOSS : Fld := ⟨0x100100, 0, 13, 13, 1⟩
/-- RST.CAUSE REF_LOST (spec/02_supply_clocks_resets.md). -/
def Reg.RST_CAUSE_REF_LOST : Fld := ⟨0x100100, 0, 12, 12, 1⟩
/-- RST.CAUSE GALLEY_KEPT (spec/02_supply_clocks_resets.md). -/
def Reg.RST_CAUSE_GALLEY_KEPT : Fld := ⟨0x100100, 0, 11, 11, 1⟩
/-- RST.CAUSE CHRYSALIS (spec/02_supply_clocks_resets.md). -/
def Reg.RST_CAUSE_CHRYSALIS : Fld := ⟨0x100100, 0, 10, 10, 1⟩
/-- RST.CAUSE T_TRIP (spec/02_supply_clocks_resets.md). -/
def Reg.RST_CAUSE_T_TRIP : Fld := ⟨0x100100, 0, 9, 9, 1⟩
/-- RST.CAUSE T_SHUT (spec/02_supply_clocks_resets.md). -/
def Reg.RST_CAUSE_T_SHUT : Fld := ⟨0x100100, 0, 8, 8, 1⟩
/-- RST.CAUSE LOCKSTEP (spec/02_supply_clocks_resets.md). -/
def Reg.RST_CAUSE_LOCKSTEP : Fld := ⟨0x100100, 0, 7, 7, 1⟩
/-- RST.CAUSE AOS_SAFE (spec/02_supply_clocks_resets.md). -/
def Reg.RST_CAUSE_AOS_SAFE : Fld := ⟨0x100100, 0, 6, 6, 1⟩
/-- RST.CAUSE FLR1 (spec/02_supply_clocks_resets.md). -/
def Reg.RST_CAUSE_FLR1 : Fld := ⟨0x100100, 0, 5, 5, 1⟩
/-- RST.CAUSE FLR0 (spec/02_supply_clocks_resets.md). -/
def Reg.RST_CAUSE_FLR0 : Fld := ⟨0x100100, 0, 4, 4, 1⟩
/-- RST.CAUSE HOT (spec/02_supply_clocks_resets.md). -/
def Reg.RST_CAUSE_HOT : Fld := ⟨0x100100, 0, 3, 3, 1⟩
/-- RST.CAUSE SYS (spec/02_supply_clocks_resets.md). -/
def Reg.RST_CAUSE_SYS : Fld := ⟨0x100100, 0, 2, 2, 1⟩
/-- RST.CAUSE PERST (spec/02_supply_clocks_resets.md). -/
def Reg.RST_CAUSE_PERST : Fld := ⟨0x100100, 0, 1, 1, 1⟩
/-- RST.CAUSE POR (spec/02_supply_clocks_resets.md). -/
def Reg.RST_CAUSE_POR : Fld := ⟨0x100100, 0, 0, 0, 1⟩
/-- RST.UNIT_RESET whole register (spec/02_supply_clocks_resets.md). -/
def Reg.RST_UNIT_RESET_WORD : Fld := ⟨0x100104, 0, 31, 0, 1⟩
/-- RST.UNIT_RESET RESET (spec/02_supply_clocks_resets.md). -/
def Reg.RST_UNIT_RESET_RESET : Fld := ⟨0x100104, 0, 18, 1, 1⟩
/-- PWR.BUS_THRESH whole register (spec/02_supply_clocks_resets.md). -/
def Reg.PWR_BUS_THRESH_WORD : Fld := ⟨0x100200, 0, 31, 0, 1⟩
/-- PWR.BUS_THRESH VBUS_WARN (spec/02_supply_clocks_resets.md). -/
def Reg.PWR_BUS_THRESH_VBUS_WARN : Fld := ⟨0x100200, 0, 29, 20, 1⟩
/-- PWR.BUS_THRESH VBUS_FAIL (spec/02_supply_clocks_resets.md). -/
def Reg.PWR_BUS_THRESH_VBUS_FAIL : Fld := ⟨0x100200, 0, 19, 10, 1⟩
/-- PWR.BUS_THRESH HOLDUP_MIN (spec/02_supply_clocks_resets.md). -/
def Reg.PWR_BUS_THRESH_HOLDUP_MIN : Fld := ⟨0x100200, 0, 9, 0, 1⟩
/-- PWR.SENSE_CFG IBUS_RETURN (spec/02_supply_clocks_resets.md). -/
def Reg.PWR_SENSE_CFG_IBUS_RETURN : Fld := ⟨0x100204, 0, 31, 24, 1⟩
/-- PWR.SENSE_CFG IDIV (spec/02_supply_clocks_resets.md). -/
def Reg.PWR_SENSE_CFG_IDIV : Fld := ⟨0x100204, 0, 23, 8, 1⟩
/-- PWR.SENSE_CFG VDIV (spec/02_supply_clocks_resets.md). -/
def Reg.PWR_SENSE_CFG_VDIV : Fld := ⟨0x100204, 0, 7, 0, 1⟩
/-- PWR.HOLDUP_CFG ENFORCE (spec/02_supply_clocks_resets.md). -/
def Reg.PWR_HOLDUP_CFG_ENFORCE : Fld := ⟨0x100210, 0, 31, 31, 1⟩
/-- PWR.HOLDUP_CFG CAP_MF (spec/02_supply_clocks_resets.md). -/
def Reg.PWR_HOLDUP_CFG_CAP_MF : Fld := ⟨0x100210, 0, 27, 16, 1⟩
/-- PWR.HOLDUP_CFG RESERVE (spec/02_supply_clocks_resets.md). -/
def Reg.PWR_HOLDUP_CFG_RESERVE : Fld := ⟨0x100210, 0, 15, 0, 1⟩
/-- PWR.HOLDUP_LOAD SAVE_LOAD (spec/02_supply_clocks_resets.md). -/
def Reg.PWR_HOLDUP_LOAD_SAVE_LOAD : Fld := ⟨0x100214, 0, 31, 22, 1⟩
/-- PWR.HOLDUP_LOAD RIDE_LOAD (spec/02_supply_clocks_resets.md). -/
def Reg.PWR_HOLDUP_LOAD_RIDE_LOAD : Fld := ⟨0x100214, 0, 21, 12, 1⟩
/-- PWR.HOLDUP_LOAD REGEN_EFF (spec/02_supply_clocks_resets.md). -/
def Reg.PWR_HOLDUP_LOAD_REGEN_EFF : Fld := ⟨0x100214, 0, 6, 0, 1⟩
/-- PWR.HOLDUP_STATUS BUF_MAX_MIB (spec/02_supply_clocks_resets.md). -/
def Reg.PWR_HOLDUP_STATUS_BUF_MAX_MIB : Fld := ⟨0x100218, 0, 31, 16, 1⟩
/-- PWR.HOLDUP_STATUS whole register (spec/02_supply_clocks_resets.md). -/
def Reg.PWR_HOLDUP_STATUS_WORD : Fld := ⟨0x100218, 0, 31, 0, 1⟩
/-- PWR.HOLDUP_STATUS RIDE_EST (spec/02_supply_clocks_resets.md). -/
def Reg.PWR_HOLDUP_STATUS_RIDE_EST : Fld := ⟨0x100218, 0, 15, 4, 1⟩
/-- PWR.HOLDUP_STATUS INSUFFICIENT (spec/02_supply_clocks_resets.md). -/
def Reg.PWR_HOLDUP_STATUS_INSUFFICIENT : Fld := ⟨0x100218, 0, 3, 3, 1⟩
/-- PWR.HOLDUP_STATUS STATE (spec/02_supply_clocks_resets.md). -/
def Reg.PWR_HOLDUP_STATUS_STATE : Fld := ⟨0x100218, 0, 1, 0, 1⟩
/-- PWR.TEMP whole register (spec/02_supply_clocks_resets.md). -/
def Reg.PWR_TEMP_WORD : Fld := ⟨0x100240, 0, 31, 0, 1⟩
/-- PWR.TEMP TEMP (spec/02_supply_clocks_resets.md). -/
def Reg.PWR_TEMP_TEMP : Fld := ⟨0x100240, 0, 11, 0, 1⟩
/-- LANE.TX_CFG TRAIN_LEN (spec/03_lanes.md). -/
def Reg.LANE_TX_CFG_TRAIN_LEN : Fld := ⟨0x200000, 0, 31, 24, 1⟩
/-- LANE.PORT.CTL whole register (spec/03_lanes.md). -/
def Reg.LANE_PORT_CTL_WORD : Fld := ⟨0x201000, 32, 31, 0, 32⟩
/-- LANE.PORT.CTL ID_CHECK (spec/03_lanes.md). -/
def Reg.LANE_PORT_CTL_ID_CHECK : Fld := ⟨0x201000, 32, 11, 11, 32⟩
/-- LANE.PORT.CTL TX_WIDTH (spec/03_lanes.md). -/
def Reg.LANE_PORT_CTL_TX_WIDTH : Fld := ⟨0x201000, 32, 7, 6, 32⟩
/-- LANE.PORT.CTL TX_SRC (spec/03_lanes.md). -/
def Reg.LANE_PORT_CTL_TX_SRC : Fld := ⟨0x201000, 32, 5, 4, 32⟩
/-- LANE.PORT.CTL WIDTH (spec/03_lanes.md). -/
def Reg.LANE_PORT_CTL_WIDTH : Fld := ⟨0x201000, 32, 2, 1, 32⟩
/-- LANE.PORT.CTL EN (spec/03_lanes.md). -/
def Reg.LANE_PORT_CTL_EN : Fld := ⟨0x201000, 32, 0, 0, 32⟩
/-- LANE.PORT.STATUS SKEW (spec/03_lanes.md). -/
def Reg.LANE_PORT_STATUS_SKEW : Fld := ⟨0x201004, 32, 31, 24, 32⟩
/-- LANE.PORT.STATUS whole register (spec/03_lanes.md). -/
def Reg.LANE_PORT_STATUS_WORD : Fld := ⟨0x201004, 32, 31, 0, 32⟩
/-- LANE.PORT.STATUS ALIGN_SLIPS (spec/03_lanes.md). -/
def Reg.LANE_PORT_STATUS_ALIGN_SLIPS : Fld := ⟨0x201004, 32, 23, 16, 32⟩
/-- LANE.PORT.STATUS TX_GAP (spec/03_lanes.md). -/
def Reg.LANE_PORT_STATUS_TX_GAP : Fld := ⟨0x201004, 32, 11, 11, 32⟩
/-- LANE.PORT.STATUS CFG_REJ (spec/03_lanes.md). -/
def Reg.LANE_PORT_STATUS_CFG_REJ : Fld := ⟨0x201004, 32, 10, 10, 32⟩
/-- LANE.PORT.STATUS ALIGN_SLIP_EV (spec/03_lanes.md). -/
def Reg.LANE_PORT_STATUS_ALIGN_SLIP_EV : Fld := ⟨0x201004, 32, 9, 9, 32⟩
/-- LANE.PORT.STATUS SKEW_ERR (spec/03_lanes.md). -/
def Reg.LANE_PORT_STATUS_SKEW_ERR : Fld := ⟨0x201004, 32, 8, 8, 32⟩
/-- LANE.PORT.STATUS HELD (spec/03_lanes.md). -/
def Reg.LANE_PORT_STATUS_HELD : Fld := ⟨0x201004, 32, 3, 3, 32⟩
/-- LANE.PORT.STATUS STATE (spec/03_lanes.md). -/
def Reg.LANE_PORT_STATUS_STATE : Fld := ⟨0x201004, 32, 2, 0, 32⟩
/-- LANE.L.CTL whole register (spec/03_lanes.md). -/
def Reg.LANE_L_CTL_WORD : Fld := ⟨0x210000, 256, 31, 0, 514⟩
/-- LANE.L.CTL TX_POL (spec/03_lanes.md). -/
def Reg.LANE_L_CTL_TX_POL : Fld := ⟨0x210000, 256, 13, 13, 514⟩
/-- LANE.L.CTL RX_POL (spec/03_lanes.md). -/
def Reg.LANE_L_CTL_RX_POL : Fld := ⟨0x210000, 256, 12, 12, 514⟩
/-- LANE.L.CTL PRBS_RX (spec/03_lanes.md). -/
def Reg.LANE_L_CTL_PRBS_RX : Fld := ⟨0x210000, 256, 9, 9, 514⟩
/-- LANE.L.CTL PRBS_TX (spec/03_lanes.md). -/
def Reg.LANE_L_CTL_PRBS_TX : Fld := ⟨0x210000, 256, 8, 8, 514⟩
/-- LANE.L.CTL EB_CENTRE (spec/03_lanes.md). -/
def Reg.LANE_L_CTL_EB_CENTRE : Fld := ⟨0x210000, 256, 7, 2, 514⟩
/-- LANE.L.CTL EGRESS (spec/03_lanes.md). -/
def Reg.LANE_L_CTL_EGRESS : Fld := ⟨0x210000, 256, 1, 0, 514⟩
/-- LANE.L.STATUS whole register (spec/03_lanes.md). -/
def Reg.LANE_L_STATUS_WORD : Fld := ⟨0x210004, 256, 31, 0, 514⟩
/-- LANE.L.STATUS EB_SLIP (spec/03_lanes.md). -/
def Reg.LANE_L_STATUS_EB_SLIP : Fld := ⟨0x210004, 256, 11, 11, 514⟩
/-- LANE.L.STATUS ID_ERR (spec/03_lanes.md). -/
def Reg.LANE_L_STATUS_ID_ERR : Fld := ⟨0x210004, 256, 10, 10, 514⟩
/-- LANE.L.STATUS LOCK_LOSS_EV (spec/03_lanes.md). -/
def Reg.LANE_L_STATUS_LOCK_LOSS_EV : Fld := ⟨0x210004, 256, 9, 9, 514⟩
/-- LANE.L.STATUS HI_BER_EV (spec/03_lanes.md). -/
def Reg.LANE_L_STATUS_HI_BER_EV : Fld := ⟨0x210004, 256, 8, 8, 514⟩
/-- LANE.L.STATUS HI_BER (spec/03_lanes.md). -/
def Reg.LANE_L_STATUS_HI_BER : Fld := ⟨0x210004, 256, 7, 7, 514⟩
/-- LANE.L.STATUS TX_STATE (spec/03_lanes.md). -/
def Reg.LANE_L_STATUS_TX_STATE : Fld := ⟨0x210004, 256, 5, 3, 514⟩
/-- LANE.L.STATUS RX_STATE (spec/03_lanes.md). -/
def Reg.LANE_L_STATUS_RX_STATE : Fld := ⟨0x210004, 256, 2, 0, 514⟩
/-- LANE.L.BLOCKS_LO LO (spec/03_lanes.md). -/
def Reg.LANE_L_BLOCKS_LO : Fld := ⟨0x210010, 256, 31, 0, 514⟩
/-- LANE.L.BLOCKS 64-bit pair (spec/03_lanes.md). -/
def Reg.LANE_L_BLOCKS : Fld := ⟨0x210010, 256, 31, 0, 514⟩
/-- LANE.L.BLOCKS_HI HI (spec/03_lanes.md). -/
def Reg.LANE_L_BLOCKS_HI : Fld := ⟨0x210014, 256, 31, 0, 514⟩
/-- LANE.L.ERR_SH COUNT (spec/03_lanes.md). -/
def Reg.LANE_L_ERR_SH : Fld := ⟨0x210018, 256, 31, 0, 514⟩
/-- LANE.L.ERR_CTL COUNT (spec/03_lanes.md). -/
def Reg.LANE_L_ERR_CTL : Fld := ⟨0x21001c, 256, 31, 0, 514⟩
/-- LANE.L.LOCK_LOSS COUNT (spec/03_lanes.md). -/
def Reg.LANE_L_LOCK_LOSS : Fld := ⟨0x210020, 256, 15, 0, 514⟩
/-- LANE.L.EB_ADJ DEL (spec/03_lanes.md). -/
def Reg.LANE_L_EB_ADJ_DEL : Fld := ⟨0x210024, 256, 31, 16, 514⟩
/-- LANE.L.EB_ADJ whole register (spec/03_lanes.md). -/
def Reg.LANE_L_EB_ADJ_WORD : Fld := ⟨0x210024, 256, 31, 0, 514⟩
/-- LANE.L.EB_ADJ INS (spec/03_lanes.md). -/
def Reg.LANE_L_EB_ADJ_INS : Fld := ⟨0x210024, 256, 15, 0, 514⟩
/-- LANE.L.EB_SLIPS COUNT (spec/03_lanes.md). -/
def Reg.LANE_L_EB_SLIPS : Fld := ⟨0x210028, 256, 31, 0, 514⟩
/-- LANE.L.PRBS_ERR COUNT (spec/03_lanes.md). -/
def Reg.LANE_L_PRBS_ERR : Fld := ⟨0x21002c, 256, 31, 0, 514⟩
/-- LANE.L.PRBS_BITS 64-bit pair (spec/03_lanes.md). -/
def Reg.LANE_L_PRBS_BITS : Fld := ⟨0x210030, 256, 31, 0, 514⟩
/-- LANE.L.PRBS_BITS_LO LO (spec/03_lanes.md). -/
def Reg.LANE_L_PRBS_BITS_LO : Fld := ⟨0x210030, 256, 31, 0, 514⟩
/-- LANE.L.PRBS_BITS_HI HI (spec/03_lanes.md). -/
def Reg.LANE_L_PRBS_BITS_HI : Fld := ⟨0x210034, 256, 31, 0, 514⟩
/-- CAP.CTL whole register (spec/04_capture_and_takes.md). -/
def Reg.CAP_CTL_WORD : Fld := ⟨0x300000, 0, 31, 0, 1⟩
/-- CAP.CTL EN (spec/04_capture_and_takes.md). -/
def Reg.CAP_CTL_EN : Fld := ⟨0x300000, 0, 0, 0, 1⟩
/-- CAP.STATUS whole register (spec/04_capture_and_takes.md). -/
def Reg.CAP_STATUS_WORD : Fld := ⟨0x300004, 0, 31, 0, 1⟩
/-- CAP.STATUS LINE_EV (spec/04_capture_and_takes.md). -/
def Reg.CAP_STATUS_LINE_EV : Fld := ⟨0x300004, 0, 10, 10, 1⟩
/-- CAP.STATUS DROP_EV (spec/04_capture_and_takes.md). -/
def Reg.CAP_STATUS_DROP_EV : Fld := ⟨0x300004, 0, 9, 9, 1⟩
/-- CAP.STATUS CFG_REJ (spec/04_capture_and_takes.md). -/
def Reg.CAP_STATUS_CFG_REJ : Fld := ⟨0x300004, 0, 8, 8, 1⟩
/-- CAP.STATUS HELD (spec/04_capture_and_takes.md). -/
def Reg.CAP_STATUS_HELD : Fld := ⟨0x300004, 0, 3, 3, 1⟩
/-- CAP.STATUS STATE (spec/04_capture_and_takes.md). -/
def Reg.CAP_STATUS_STATE : Fld := ⟨0x300004, 0, 2, 0, 1⟩
/-- CAP.GEOM whole register (spec/04_capture_and_takes.md). -/
def Reg.CAP_GEOM_WORD : Fld := ⟨0x300010, 0, 31, 0, 1⟩
/-- CAP.GEOM HEIGHT (spec/04_capture_and_takes.md). -/
def Reg.CAP_GEOM_HEIGHT : Fld := ⟨0x300010, 0, 30, 16, 1⟩
/-- CAP.GEOM WIDTH (spec/04_capture_and_takes.md). -/
def Reg.CAP_GEOM_WIDTH : Fld := ⟨0x300010, 0, 15, 0, 1⟩
/-- CAP.FRAME_CFG TIMEOUT (spec/04_capture_and_takes.md). -/
def Reg.CAP_FRAME_CFG_TIMEOUT : Fld := ⟨0x300014, 0, 31, 16, 1⟩
/-- CAP.FRAME_CFG whole register (spec/04_capture_and_takes.md). -/
def Reg.CAP_FRAME_CFG_WORD : Fld := ⟨0x300014, 0, 31, 0, 1⟩
/-- CAP.FRAME_CFG SKEW (spec/04_capture_and_takes.md). -/
def Reg.CAP_FRAME_CFG_SKEW : Fld := ⟨0x300014, 0, 15, 8, 1⟩
/-- CAP.FRAME_CFG CFA (spec/04_capture_and_takes.md). -/
def Reg.CAP_FRAME_CFG_CFA : Fld := ⟨0x300014, 0, 1, 0, 1⟩
/-- CAP.DEVTIME_LO LO (spec/04_capture_and_takes.md). -/
def Reg.CAP_DEVTIME_LO : Fld := ⟨0x300020, 0, 31, 0, 1⟩
/-- CAP.DEVTIME 64-bit pair (spec/04_capture_and_takes.md). -/
def Reg.CAP_DEVTIME : Fld := ⟨0x300020, 0, 31, 0, 1⟩
/-- CAP.DEVTIME_HI HI (spec/04_capture_and_takes.md). -/
def Reg.CAP_DEVTIME_HI : Fld := ⟨0x300024, 0, 31, 0, 1⟩
/-- CAP.FRAME_NUM_LO LO (spec/04_capture_and_takes.md). -/
def Reg.CAP_FRAME_NUM_LO : Fld := ⟨0x300028, 0, 31, 0, 1⟩
/-- CAP.FRAME_NUM 64-bit pair (spec/04_capture_and_takes.md). -/
def Reg.CAP_FRAME_NUM : Fld := ⟨0x300028, 0, 31, 0, 1⟩
/-- CAP.FRAME_NUM_HI HI (spec/04_capture_and_takes.md). -/
def Reg.CAP_FRAME_NUM_HI : Fld := ⟨0x30002c, 0, 31, 0, 1⟩
/-- CAP.LINE_ERR COUNT (spec/04_capture_and_takes.md). -/
def Reg.CAP_LINE_ERR : Fld := ⟨0x300040, 0, 31, 0, 1⟩
/-- CAP.SEQ_ERR COUNT (spec/04_capture_and_takes.md). -/
def Reg.CAP_SEQ_ERR : Fld := ⟨0x300044, 0, 31, 0, 1⟩
/-- CAP.DROP_ASSEMBLY COUNT (spec/04_capture_and_takes.md). -/
def Reg.CAP_DROP_ASSEMBLY : Fld := ⟨0x300048, 0, 31, 0, 1⟩
/-- CAP.DROP_FULL COUNT (spec/04_capture_and_takes.md). -/
def Reg.CAP_DROP_FULL : Fld := ⟨0x30004c, 0, 31, 0, 1⟩
/-- CAP.SLOT_PEAK COUNT (spec/04_capture_and_takes.md). -/
def Reg.CAP_SLOT_PEAK : Fld := ⟨0x300050, 0, 12, 0, 1⟩
/-- CAP.SEQ_SKIP COUNT (spec/04_capture_and_takes.md). -/
def Reg.CAP_SEQ_SKIP : Fld := ⟨0x300054, 0, 31, 0, 1⟩
/-- CAP.STRIPE.MAP whole register (spec/04_capture_and_takes.md). -/
def Reg.CAP_STRIPE_MAP_WORD : Fld := ⟨0x300100, 8, 31, 0, 32⟩
/-- CAP.STRIPE.MAP EN (spec/04_capture_and_takes.md). -/
def Reg.CAP_STRIPE_MAP_EN : Fld := ⟨0x300100, 8, 31, 31, 32⟩
/-- CAP.STRIPE.MAP COUNT (spec/04_capture_and_takes.md). -/
def Reg.CAP_STRIPE_MAP_COUNT : Fld := ⟨0x300100, 8, 30, 16, 32⟩
/-- CAP.STRIPE.MAP BASE (spec/04_capture_and_takes.md). -/
def Reg.CAP_STRIPE_MAP_BASE : Fld := ⟨0x300100, 8, 14, 0, 32⟩
/-- CAP.STRIPE.STEP whole register (spec/04_capture_and_takes.md). -/
def Reg.CAP_STRIPE_STEP_WORD : Fld := ⟨0x300104, 8, 31, 0, 32⟩
/-- CAP.STRIPE.STEP STRIDE (spec/04_capture_and_takes.md). -/
def Reg.CAP_STRIPE_STEP_STRIDE : Fld := ⟨0x300104, 8, 14, 0, 32⟩
/-- CAP.TRIG.CFG EN (spec/04_capture_and_takes.md). -/
def Reg.CAP_TRIG_CFG_EN : Fld := ⟨0x300200, 16, 31, 31, 8⟩
/-- CAP.TRIG.CFG whole register (spec/04_capture_and_takes.md). -/
def Reg.CAP_TRIG_CFG_WORD : Fld := ⟨0x300200, 16, 31, 0, 8⟩
/-- CAP.TRIG.CFG MIN_WIDTH (spec/04_capture_and_takes.md). -/
def Reg.CAP_TRIG_CFG_MIN_WIDTH : Fld := ⟨0x300200, 16, 23, 16, 8⟩
/-- CAP.TRIG.CFG MODE (spec/04_capture_and_takes.md). -/
def Reg.CAP_TRIG_CFG_MODE : Fld := ⟨0x300200, 16, 2, 0, 8⟩
/-- CAP.TRIG.COUNT COUNT (spec/04_capture_and_takes.md). -/
def Reg.CAP_TRIG_COUNT : Fld := ⟨0x300204, 16, 31, 0, 8⟩
/-- CAP.TRIG.LAST 64-bit pair (spec/04_capture_and_takes.md). -/
def Reg.CAP_TRIG_LAST : Fld := ⟨0x300208, 16, 31, 0, 8⟩
/-- CAP.TRIG.LAST_LO LO (spec/04_capture_and_takes.md). -/
def Reg.CAP_TRIG_LAST_LO : Fld := ⟨0x300208, 16, 31, 0, 8⟩
/-- CAP.TRIG.LAST_HI HI (spec/04_capture_and_takes.md). -/
def Reg.CAP_TRIG_LAST_HI : Fld := ⟨0x30020c, 16, 31, 0, 8⟩
/-- CAP.SEG.CFG whole register (spec/04_capture_and_takes.md). -/
def Reg.CAP_SEG_CFG_WORD : Fld := ⟨0x300300, 16, 31, 0, 16⟩
/-- CAP.SEG.CFG SIZE (spec/04_capture_and_takes.md). -/
def Reg.CAP_SEG_CFG_SIZE : Fld := ⟨0x300300, 16, 31, 16, 16⟩
/-- CAP.SEG.CFG BASE (spec/04_capture_and_takes.md). -/
def Reg.CAP_SEG_CFG_BASE : Fld := ⟨0x300300, 16, 15, 0, 16⟩
/-- CAP.SEG.TAKE whole register (spec/04_capture_and_takes.md). -/
def Reg.CAP_SEG_TAKE_WORD : Fld := ⟨0x300304, 16, 31, 0, 16⟩
/-- CAP.SEG.TAKE TAKE_ID (spec/04_capture_and_takes.md). -/
def Reg.CAP_SEG_TAKE_TAKE_ID : Fld := ⟨0x300304, 16, 31, 16, 16⟩
/-- CAP.SEG.TAKE RELEASE_HELD (spec/04_capture_and_takes.md). -/
def Reg.CAP_SEG_TAKE_RELEASE_HELD : Fld := ⟨0x300304, 16, 3, 3, 16⟩
/-- CAP.SEG.TAKE STATE (spec/04_capture_and_takes.md). -/
def Reg.CAP_SEG_TAKE_STATE : Fld := ⟨0x300304, 16, 2, 0, 16⟩
/-- CAP.SEG.FCAP VALUE (spec/04_capture_and_takes.md). -/
def Reg.CAP_SEG_FCAP : Fld := ⟨0x300308, 16, 31, 0, 16⟩
/-- CAP.SEG.PRE VALUE (spec/04_capture_and_takes.md). -/
def Reg.CAP_SEG_PRE : Fld := ⟨0x30030c, 16, 31, 0, 16⟩
/-- CMP.CFG STEAL_RADIUS (spec/05_compositors.md). -/
def Reg.CMP_CFG_STEAL_RADIUS : Fld := ⟨0x400000, 0, 4, 0, 1⟩
/-- CMP.STATUS whole register (spec/05_compositors.md). -/
def Reg.CMP_STATUS_WORD : Fld := ⟨0x400004, 0, 31, 0, 1⟩
/-- CMP.STATUS BUSY (spec/05_compositors.md). -/
def Reg.CMP_STATUS_BUSY : Fld := ⟨0x400004, 0, 25, 16, 1⟩
/-- CMP.STATUS ASM_UE_EV (spec/05_compositors.md). -/
def Reg.CMP_STATUS_ASM_UE_EV : Fld := ⟨0x400004, 0, 8, 8, 1⟩
/-- CMP.STATUS RUNNING (spec/05_compositors.md). -/
def Reg.CMP_STATUS_RUNNING : Fld := ⟨0x400004, 0, 5, 0, 1⟩
/-- CMP.SORTS 64-bit pair (spec/05_compositors.md). -/
def Reg.CMP_SORTS : Fld := ⟨0x400010, 0, 31, 0, 1⟩
/-- CMP.SORTS_LO LO (spec/05_compositors.md). -/
def Reg.CMP_SORTS_LO : Fld := ⟨0x400010, 0, 31, 0, 1⟩
/-- CMP.SORTS_HI HI (spec/05_compositors.md). -/
def Reg.CMP_SORTS_HI : Fld := ⟨0x400014, 0, 31, 0, 1⟩
/-- CMP.FALLBACK_LO LO (spec/05_compositors.md). -/
def Reg.CMP_FALLBACK_LO : Fld := ⟨0x400018, 0, 31, 0, 1⟩
/-- CMP.FALLBACK 64-bit pair (spec/05_compositors.md). -/
def Reg.CMP_FALLBACK : Fld := ⟨0x400018, 0, 31, 0, 1⟩
/-- CMP.FALLBACK_HI HI (spec/05_compositors.md). -/
def Reg.CMP_FALLBACK_HI : Fld := ⟨0x40001c, 0, 31, 0, 1⟩
/-- CMP.ASM_UE COUNT (spec/05_compositors.md). -/
def Reg.CMP_ASM_UE : Fld := ⟨0x400020, 0, 31, 0, 1⟩
/-- CMP.CLUSTER.CTL MASK (spec/05_compositors.md). -/
def Reg.CMP_CLUSTER_CTL_MASK : Fld := ⟨0x401000, 64, 31, 16, 32⟩
/-- CMP.CLUSTER.CTL whole register (spec/05_compositors.md). -/
def Reg.CMP_CLUSTER_CTL_WORD : Fld := ⟨0x401000, 64, 31, 0, 32⟩
/-- CMP.CLUSTER.CTL EN (spec/05_compositors.md). -/
def Reg.CMP_CLUSTER_CTL_EN : Fld := ⟨0x401000, 64, 0, 0, 32⟩
/-- CMP.CLUSTER.STATUS whole register (spec/05_compositors.md). -/
def Reg.CMP_CLUSTER_STATUS_WORD : Fld := ⟨0x401004, 64, 31, 0, 32⟩
/-- CMP.CLUSTER.STATUS QUEUE (spec/05_compositors.md). -/
def Reg.CMP_CLUSTER_STATUS_QUEUE : Fld := ⟨0x401004, 64, 28, 16, 32⟩
/-- CMP.CLUSTER.STATUS HELD (spec/05_compositors.md). -/
def Reg.CMP_CLUSTER_STATUS_HELD : Fld := ⟨0x401004, 64, 3, 3, 32⟩
/-- CMP.CLUSTER.STATUS STATE (spec/05_compositors.md). -/
def Reg.CMP_CLUSTER_STATUS_STATE : Fld := ⟨0x401004, 64, 2, 0, 32⟩
/-- CMP.CLUSTER.CODED_LO LO (spec/05_compositors.md). -/
def Reg.CMP_CLUSTER_CODED_LO : Fld := ⟨0x401008, 64, 31, 0, 32⟩
/-- CMP.CLUSTER.CODED 64-bit pair (spec/05_compositors.md). -/
def Reg.CMP_CLUSTER_CODED : Fld := ⟨0x401008, 64, 31, 0, 32⟩
/-- CMP.CLUSTER.CODED_HI HI (spec/05_compositors.md). -/
def Reg.CMP_CLUSTER_CODED_HI : Fld := ⟨0x40100c, 64, 31, 0, 32⟩
/-- CMP.CLUSTER.STOLEN_IN COUNT (spec/05_compositors.md). -/
def Reg.CMP_CLUSTER_STOLEN_IN : Fld := ⟨0x401010, 64, 31, 0, 32⟩
/-- CMP.CLUSTER.STOLEN_OUT COUNT (spec/05_compositors.md). -/
def Reg.CMP_CLUSTER_STOLEN_OUT : Fld := ⟨0x401014, 64, 31, 0, 32⟩
/-- CMP.CLUSTER.QUEUE_PEAK COUNT (spec/05_compositors.md). -/
def Reg.CMP_CLUSTER_QUEUE_PEAK : Fld := ⟨0x401018, 64, 12, 0, 32⟩
/-- GAL.STATUS whole register (spec/06_galley.md). -/
def Reg.GAL_STATUS_WORD : Fld := ⟨0x500000, 0, 31, 0, 1⟩
/-- GAL.STATUS STACK_PRESENT (spec/06_galley.md). -/
def Reg.GAL_STATUS_STACK_PRESENT : Fld := ⟨0x500000, 0, 19, 16, 1⟩
/-- GAL.STATUS INIT_DONE (spec/06_galley.md). -/
def Reg.GAL_STATUS_INIT_DONE : Fld := ⟨0x500000, 0, 12, 12, 1⟩
/-- GAL.STATUS SR (spec/06_galley.md). -/
def Reg.GAL_STATUS_SR : Fld := ⟨0x500000, 0, 11, 10, 1⟩
/-- GAL.STATUS WR_DISCARD_EV (spec/06_galley.md). -/
def Reg.GAL_STATUS_WR_DISCARD_EV : Fld := ⟨0x500000, 0, 5, 5, 1⟩
/-- GAL.STATUS THROTTLE_EV (spec/06_galley.md). -/
def Reg.GAL_STATUS_THROTTLE_EV : Fld := ⟨0x500000, 0, 4, 4, 1⟩
/-- GAL.STATUS SPILL_EV (spec/06_galley.md). -/
def Reg.GAL_STATUS_SPILL_EV : Fld := ⟨0x500000, 0, 3, 3, 1⟩
/-- GAL.STATUS POISON_EV (spec/06_galley.md). -/
def Reg.GAL_STATUS_POISON_EV : Fld := ⟨0x500000, 0, 2, 2, 1⟩
/-- GAL.STATUS UE_EV (spec/06_galley.md). -/
def Reg.GAL_STATUS_UE_EV : Fld := ⟨0x500000, 0, 1, 1, 1⟩
/-- GAL.STATUS CE_EV (spec/06_galley.md). -/
def Reg.GAL_STATUS_CE_EV : Fld := ⟨0x500000, 0, 0, 0, 1⟩
/-- GAL.CTL CNT_CLR (spec/06_galley.md). -/
def Reg.GAL_CTL_CNT_CLR : Fld := ⟨0x500004, 0, 0, 0, 1⟩
/-- GAL.REGION WB_GIB (spec/06_galley.md). -/
def Reg.GAL_REGION_WB_GIB : Fld := ⟨0x500010, 0, 31, 28, 1⟩
/-- GAL.REGION whole register (spec/06_galley.md). -/
def Reg.GAL_REGION_WORD : Fld := ⟨0x500010, 0, 31, 0, 1⟩
/-- GAL.REGION MAP_RES (spec/06_galley.md). -/
def Reg.GAL_REGION_MAP_RES : Fld := ⟨0x500010, 0, 27, 27, 1⟩
/-- GAL.REGION CAP_UNITS (spec/06_galley.md). -/
def Reg.GAL_REGION_CAP_UNITS : Fld := ⟨0x500010, 0, 11, 0, 1⟩
/-- GAL.ARB_WM whole register (spec/06_galley.md). -/
def Reg.GAL_ARB_WM_WORD : Fld := ⟨0x500024, 0, 31, 0, 1⟩
/-- GAL.ARB_WM HIGH (spec/06_galley.md). -/
def Reg.GAL_ARB_WM_HIGH : Fld := ⟨0x500024, 0, 31, 16, 1⟩
/-- GAL.ARB_WM LOW (spec/06_galley.md). -/
def Reg.GAL_ARB_WM_LOW : Fld := ⟨0x500024, 0, 15, 0, 1⟩
/-- GAL.SCRUB EN (spec/06_galley.md). -/
def Reg.GAL_SCRUB_EN : Fld := ⟨0x500030, 0, 31, 31, 1⟩
/-- GAL.ERR_ADDR 64-bit pair (spec/06_galley.md). -/
def Reg.GAL_ERR_ADDR : Fld := ⟨0x500040, 0, 31, 0, 1⟩
/-- GAL.ERR_ADDR_LO LO (spec/06_galley.md). -/
def Reg.GAL_ERR_ADDR_LO : Fld := ⟨0x500040, 0, 31, 0, 1⟩
/-- GAL.ERR_ADDR_HI HI (spec/06_galley.md). -/
def Reg.GAL_ERR_ADDR_HI : Fld := ⟨0x500044, 0, 31, 0, 1⟩
/-- GAL.ERR_INFO VALID (spec/06_galley.md). -/
def Reg.GAL_ERR_INFO_VALID : Fld := ⟨0x500048, 0, 31, 31, 1⟩
/-- GAL.ERR_INFO whole register (spec/06_galley.md). -/
def Reg.GAL_ERR_INFO_WORD : Fld := ⟨0x500048, 0, 31, 0, 1⟩
/-- GAL.ERR_INFO UE (spec/06_galley.md). -/
def Reg.GAL_ERR_INFO_UE : Fld := ⟨0x500048, 0, 30, 30, 1⟩
/-- GAL.ERR_INFO SRC (spec/06_galley.md). -/
def Reg.GAL_ERR_INFO_SRC : Fld := ⟨0x500048, 0, 29, 27, 1⟩
/-- GAL.ERR_INFO NBYTES (spec/06_galley.md). -/
def Reg.GAL_ERR_INFO_NBYTES : Fld := ⟨0x500048, 0, 26, 25, 1⟩
/-- GAL.ERR_INFO POS2 (spec/06_galley.md). -/
def Reg.GAL_ERR_INFO_POS2 : Fld := ⟨0x500048, 0, 20, 14, 1⟩
/-- GAL.ERR_INFO POS1 (spec/06_galley.md). -/
def Reg.GAL_ERR_INFO_POS1 : Fld := ⟨0x500048, 0, 13, 7, 1⟩
/-- GAL.ERR_INFO POS0 (spec/06_galley.md). -/
def Reg.GAL_ERR_INFO_POS0 : Fld := ⟨0x500048, 0, 6, 0, 1⟩
/-- GAL.INIT_PROGRESS VALUE (spec/06_galley.md). -/
def Reg.GAL_INIT_PROGRESS : Fld := ⟨0x500050, 0, 31, 0, 1⟩
/-- GAL.THROTTLE_LO LO (spec/06_galley.md). -/
def Reg.GAL_THROTTLE_LO : Fld := ⟨0x500060, 0, 31, 0, 1⟩
/-- GAL.THROTTLE 64-bit pair (spec/06_galley.md). -/
def Reg.GAL_THROTTLE : Fld := ⟨0x500060, 0, 31, 0, 1⟩
/-- GAL.THROTTLE_HI HI (spec/06_galley.md). -/
def Reg.GAL_THROTTLE_HI : Fld := ⟨0x500064, 0, 31, 0, 1⟩
/-- GAL.SPILLS COUNT (spec/06_galley.md). -/
def Reg.GAL_SPILLS : Fld := ⟨0x500068, 0, 31, 0, 1⟩
/-- GAL.WR_DISCARD COUNT (spec/06_galley.md). -/
def Reg.GAL_WR_DISCARD : Fld := ⟨0x50006c, 0, 31, 0, 1⟩
/-- GAL.STORE_PEAK COUNT (spec/06_galley.md). -/
def Reg.GAL_STORE_PEAK : Fld := ⟨0x500070, 0, 14, 0, 1⟩
/-- GAL.STACK.CE COUNT (spec/06_galley.md). -/
def Reg.GAL_STACK_CE : Fld := ⟨0x500100, 32, 31, 0, 4⟩
/-- GAL.STACK.UE COUNT (spec/06_galley.md). -/
def Reg.GAL_STACK_UE : Fld := ⟨0x500104, 32, 31, 0, 4⟩
/-- GAL.STACK.SCRUB_CE COUNT (spec/06_galley.md). -/
def Reg.GAL_STACK_SCRUB_CE : Fld := ⟨0x500108, 32, 31, 0, 4⟩
/-- GAL.STACK.SCRUB_UE COUNT (spec/06_galley.md). -/
def Reg.GAL_STACK_SCRUB_UE : Fld := ⟨0x50010c, 32, 31, 0, 4⟩
/-- GAL.STACK.POISON_RD COUNT (spec/06_galley.md). -/
def Reg.GAL_STACK_POISON_RD : Fld := ⟨0x500110, 32, 31, 0, 4⟩
/-- PAIR.CTL whole register (spec/07_pairing.md). -/
def Reg.PAIR_CTL_WORD : Fld := ⟨0x600000, 0, 31, 0, 1⟩
/-- PAIR.CTL GUARD_FRAMES (spec/07_pairing.md). -/
def Reg.PAIR_CTL_GUARD_FRAMES : Fld := ⟨0x600000, 0, 23, 16, 1⟩
/-- PAIR.CTL EN (spec/07_pairing.md). -/
def Reg.PAIR_CTL_EN : Fld := ⟨0x600000, 0, 0, 0, 1⟩
/-- PAIR.STATUS whole register (spec/07_pairing.md). -/
def Reg.PAIR_STATUS_WORD : Fld := ⟨0x600004, 0, 31, 0, 1⟩
/-- PAIR.STATUS PIN_ERR_EV (spec/07_pairing.md). -/
def Reg.PAIR_STATUS_PIN_ERR_EV : Fld := ⟨0x600004, 0, 15, 15, 1⟩
/-- PAIR.STATUS APPLY_ERR_EV (spec/07_pairing.md). -/
def Reg.PAIR_STATUS_APPLY_ERR_EV : Fld := ⟨0x600004, 0, 14, 14, 1⟩
/-- PAIR.STATUS TAKEOVER_EV (spec/07_pairing.md). -/
def Reg.PAIR_STATUS_TAKEOVER_EV : Fld := ⟨0x600004, 0, 13, 13, 1⟩
/-- PAIR.STATUS PEER_LOST_EV (spec/07_pairing.md). -/
def Reg.PAIR_STATUS_PEER_LOST_EV : Fld := ⟨0x600004, 0, 12, 12, 1⟩
/-- PAIR.STATUS SYNC (spec/07_pairing.md). -/
def Reg.PAIR_STATUS_SYNC : Fld := ⟨0x600004, 0, 11, 11, 1⟩
/-- PAIR.STATUS ROLE (spec/07_pairing.md). -/
def Reg.PAIR_STATUS_ROLE : Fld := ⟨0x600004, 0, 10, 8, 1⟩
/-- PAIR.STATUS HELD (spec/07_pairing.md). -/
def Reg.PAIR_STATUS_HELD : Fld := ⟨0x600004, 0, 3, 3, 1⟩
/-- PAIR.STATUS STATE (spec/07_pairing.md). -/
def Reg.PAIR_STATUS_STATE : Fld := ⟨0x600004, 0, 2, 0, 1⟩
/-- PAIR.PINS whole register (spec/07_pairing.md). -/
def Reg.PAIR_PINS_WORD : Fld := ⟨0x600008, 0, 31, 0, 1⟩
/-- PAIR.PINS CLAIM (spec/07_pairing.md). -/
def Reg.PAIR_PINS_CLAIM : Fld := ⟨0x600008, 0, 2, 2, 1⟩
/-- PAIR.PINS PEER (spec/07_pairing.md). -/
def Reg.PAIR_PINS_PEER : Fld := ⟨0x600008, 0, 1, 1, 1⟩
/-- PAIR.PINS STRAP (spec/07_pairing.md). -/
def Reg.PAIR_PINS_STRAP : Fld := ⟨0x600008, 0, 0, 0, 1⟩
/-- PAIR.EPOCH_SENT VALUE (spec/07_pairing.md). -/
def Reg.PAIR_EPOCH_SENT : Fld := ⟨0x600010, 0, 31, 0, 1⟩
/-- PAIR.EPOCH_COMMIT VALUE (spec/07_pairing.md). -/
def Reg.PAIR_EPOCH_COMMIT : Fld := ⟨0x600014, 0, 31, 0, 1⟩
/-- PAIR.CRC_ERR COUNT (spec/07_pairing.md). -/
def Reg.PAIR_CRC_ERR : Fld := ⟨0x600018, 0, 31, 0, 1⟩
/-- PAIR.COPY_MISMATCH COUNT (spec/07_pairing.md). -/
def Reg.PAIR_COPY_MISMATCH : Fld := ⟨0x60001c, 0, 31, 0, 1⟩
/-- PAIR.LATE_APPLY COUNT (spec/07_pairing.md). -/
def Reg.PAIR_LATE_APPLY : Fld := ⟨0x600020, 0, 31, 0, 1⟩
/-- PAIR.APPLY_ERR COUNT (spec/07_pairing.md). -/
def Reg.PAIR_APPLY_ERR : Fld := ⟨0x600024, 0, 31, 0, 1⟩
/-- PAIR.TAKEOVERS COUNT (spec/07_pairing.md). -/
def Reg.PAIR_TAKEOVERS : Fld := ⟨0x600028, 0, 31, 0, 1⟩
/-- PAIR.RESYNCS COUNT (spec/07_pairing.md). -/
def Reg.PAIR_RESYNCS : Fld := ⟨0x60002c, 0, 31, 0, 1⟩
/-- HQ.CTL whole register (spec/09_command_rings.md). -/
def Reg.HQ_CTL_WORD : Fld := ⟨0x700000, 0, 31, 0, 1⟩
/-- HQ.CTL SCAN_EN (spec/09_command_rings.md). -/
def Reg.HQ_CTL_SCAN_EN : Fld := ⟨0x700000, 0, 0, 0, 1⟩
/-- HQ.STATUS whole register (spec/09_command_rings.md). -/
def Reg.HQ_STATUS_WORD : Fld := ⟨0x700004, 0, 31, 0, 1⟩
/-- HQ.STATUS CQ_HEAD_ERR (spec/09_command_rings.md). -/
def Reg.HQ_STATUS_CQ_HEAD_ERR : Fld := ⟨0x700004, 0, 10, 10, 1⟩
/-- HQ.STATUS CFG_REJ (spec/09_command_rings.md). -/
def Reg.HQ_STATUS_CFG_REJ : Fld := ⟨0x700004, 0, 9, 9, 1⟩
/-- HQ.STATUS SCAN_IDLE (spec/09_command_rings.md). -/
def Reg.HQ_STATUS_SCAN_IDLE : Fld := ⟨0x700004, 0, 8, 8, 1⟩
/-- HQ.DB_BASE 64-bit pair (spec/09_command_rings.md). -/
def Reg.HQ_DB_BASE : Fld := ⟨0x700010, 0, 31, 0, 1⟩
/-- HQ.SUM_ADDR 64-bit pair (spec/09_command_rings.md). -/
def Reg.HQ_SUM_ADDR : Fld := ⟨0x700018, 0, 31, 0, 1⟩
/-- HQ.SANITIZE whole register (spec/09_command_rings.md). -/
def Reg.HQ_SANITIZE_WORD : Fld := ⟨0x700030, 0, 31, 0, 1⟩
/-- HQ.SANITIZE PROGRESS (spec/09_command_rings.md). -/
def Reg.HQ_SANITIZE_PROGRESS : Fld := ⟨0x700030, 0, 23, 16, 1⟩
/-- HQ.SANITIZE KIND (spec/09_command_rings.md). -/
def Reg.HQ_SANITIZE_KIND : Fld := ⟨0x700030, 0, 5, 4, 1⟩
/-- HQ.SANITIZE RESUMED (spec/09_command_rings.md). -/
def Reg.HQ_SANITIZE_RESUMED : Fld := ⟨0x700030, 0, 3, 3, 1⟩
/-- HQ.SANITIZE STATE (spec/09_command_rings.md). -/
def Reg.HQ_SANITIZE_STATE : Fld := ⟨0x700030, 0, 2, 0, 1⟩
/-- HQ.COMMANDS_LO LO (spec/09_command_rings.md). -/
def Reg.HQ_COMMANDS_LO : Fld := ⟨0x700040, 0, 31, 0, 1⟩
/-- HQ.COMMANDS 64-bit pair (spec/09_command_rings.md). -/
def Reg.HQ_COMMANDS : Fld := ⟨0x700040, 0, 31, 0, 1⟩
/-- HQ.COMMANDS_HI HI (spec/09_command_rings.md). -/
def Reg.HQ_COMMANDS_HI : Fld := ⟨0x700044, 0, 31, 0, 1⟩
/-- HQ.FREEZES COUNT (spec/09_command_rings.md). -/
def Reg.HQ_FREEZES : Fld := ⟨0x700048, 0, 31, 0, 1⟩
/-- HQ.SUM_FAIL COUNT (spec/09_command_rings.md). -/
def Reg.HQ_SUM_FAIL : Fld := ⟨0x70004c, 0, 31, 0, 1⟩
/-- HQ.CQ_HEAD_ERRS COUNT (spec/09_command_rings.md). -/
def Reg.HQ_CQ_HEAD_ERRS : Fld := ⟨0x700050, 0, 31, 0, 1⟩
/-- HQ.SQ.BASE_LO LO (spec/09_command_rings.md). -/
def Reg.HQ_SQ_BASE_LO : Fld := ⟨0x710000, 32, 31, 12, 1024⟩
/-- HQ.SQ.BASE 64-bit pair (spec/09_command_rings.md). -/
def Reg.HQ_SQ_BASE : Fld := ⟨0x710000, 32, 31, 0, 1024⟩
/-- HQ.SQ.BASE_HI HI (spec/09_command_rings.md). -/
def Reg.HQ_SQ_BASE_HI : Fld := ⟨0x710004, 32, 31, 0, 1024⟩
/-- HQ.SQ.CTL whole register (spec/09_command_rings.md). -/
def Reg.HQ_SQ_CTL_WORD : Fld := ⟨0x710008, 32, 31, 0, 1024⟩
/-- HQ.SQ.CTL EN (spec/09_command_rings.md). -/
def Reg.HQ_SQ_CTL_EN : Fld := ⟨0x710008, 32, 31, 31, 1024⟩
/-- HQ.SQ.CTL FREEZE_ON_ERR (spec/09_command_rings.md). -/
def Reg.HQ_SQ_CTL_FREEZE_ON_ERR : Fld := ⟨0x710008, 32, 30, 30, 1024⟩
/-- HQ.SQ.CTL WEIGHT (spec/09_command_rings.md). -/
def Reg.HQ_SQ_CTL_WEIGHT : Fld := ⟨0x710008, 32, 29, 26, 1024⟩
/-- HQ.SQ.CTL CQ (spec/09_command_rings.md). -/
def Reg.HQ_SQ_CTL_CQ : Fld := ⟨0x710008, 32, 25, 16, 1024⟩
/-- HQ.SQ.CTL DEPTH_M1 (spec/09_command_rings.md). -/
def Reg.HQ_SQ_CTL_DEPTH_M1 : Fld := ⟨0x710008, 32, 15, 0, 1024⟩
/-- HQ.SQ.STATUS whole register (spec/09_command_rings.md). -/
def Reg.HQ_SQ_STATUS_WORD : Fld := ⟨0x71000c, 32, 31, 0, 1024⟩
/-- HQ.SQ.STATUS HEAD (spec/09_command_rings.md). -/
def Reg.HQ_SQ_STATUS_HEAD : Fld := ⟨0x71000c, 32, 31, 16, 1024⟩
/-- HQ.SQ.STATUS EPOCH (spec/09_command_rings.md). -/
def Reg.HQ_SQ_STATUS_EPOCH : Fld := ⟨0x71000c, 32, 15, 12, 1024⟩
/-- HQ.SQ.STATUS FROZEN (spec/09_command_rings.md). -/
def Reg.HQ_SQ_STATUS_FROZEN : Fld := ⟨0x71000c, 32, 8, 8, 1024⟩
/-- HQ.SQ.STATUS HELD (spec/09_command_rings.md). -/
def Reg.HQ_SQ_STATUS_HELD : Fld := ⟨0x71000c, 32, 3, 3, 1024⟩
/-- HQ.SQ.STATUS STATE (spec/09_command_rings.md). -/
def Reg.HQ_SQ_STATUS_STATE : Fld := ⟨0x71000c, 32, 2, 0, 1024⟩
/-- HQ.CQ.BASE_LO LO (spec/09_command_rings.md). -/
def Reg.HQ_CQ_BASE_LO : Fld := ⟨0x720000, 32, 31, 12, 1024⟩
/-- HQ.CQ.BASE 64-bit pair (spec/09_command_rings.md). -/
def Reg.HQ_CQ_BASE : Fld := ⟨0x720000, 32, 31, 0, 1024⟩
/-- HQ.CQ.BASE_HI HI (spec/09_command_rings.md). -/
def Reg.HQ_CQ_BASE_HI : Fld := ⟨0x720004, 32, 31, 0, 1024⟩
/-- HQ.CQ.CTL whole register (spec/09_command_rings.md). -/
def Reg.HQ_CQ_CTL_WORD : Fld := ⟨0x720008, 32, 31, 0, 1024⟩
/-- HQ.CQ.CTL EN (spec/09_command_rings.md). -/
def Reg.HQ_CQ_CTL_EN : Fld := ⟨0x720008, 32, 31, 31, 1024⟩
/-- HQ.CQ.CTL COAL (spec/09_command_rings.md). -/
def Reg.HQ_CQ_CTL_COAL : Fld := ⟨0x720008, 32, 30, 28, 1024⟩
/-- HQ.CQ.CTL IEN (spec/09_command_rings.md). -/
def Reg.HQ_CQ_CTL_IEN : Fld := ⟨0x720008, 32, 27, 27, 1024⟩
/-- HQ.CQ.CTL VECTOR (spec/09_command_rings.md). -/
def Reg.HQ_CQ_CTL_VECTOR : Fld := ⟨0x720008, 32, 26, 16, 1024⟩
/-- HQ.CQ.CTL DEPTH_M1 (spec/09_command_rings.md). -/
def Reg.HQ_CQ_CTL_DEPTH_M1 : Fld := ⟨0x720008, 32, 15, 0, 1024⟩
/-- HQ.CQ.STATUS whole register (spec/09_command_rings.md). -/
def Reg.HQ_CQ_STATUS_WORD : Fld := ⟨0x72000c, 32, 31, 0, 1024⟩
/-- HQ.CQ.STATUS TAIL (spec/09_command_rings.md). -/
def Reg.HQ_CQ_STATUS_TAIL : Fld := ⟨0x72000c, 32, 31, 16, 1024⟩
/-- HQ.CQ.STATUS FULL (spec/09_command_rings.md). -/
def Reg.HQ_CQ_STATUS_FULL : Fld := ⟨0x72000c, 32, 9, 9, 1024⟩
/-- HQ.CQ.STATUS PHASE (spec/09_command_rings.md). -/
def Reg.HQ_CQ_STATUS_PHASE : Fld := ⟨0x72000c, 32, 8, 8, 1024⟩
/-- HQ.CQ.STATUS HELD (spec/09_command_rings.md). -/
def Reg.HQ_CQ_STATUS_HELD : Fld := ⟨0x72000c, 32, 3, 3, 1024⟩
/-- HQ.CQ.STATUS STATE (spec/09_command_rings.md). -/
def Reg.HQ_CQ_STATUS_STATE : Fld := ⟨0x72000c, 32, 2, 0, 1024⟩
/-- MAG.CTL whole register (spec/10_magazine.md). -/
def Reg.MAG_CTL_WORD : Fld := ⟨0x800000, 0, 31, 0, 1⟩
/-- MAG.CTL EN (spec/10_magazine.md). -/
def Reg.MAG_CTL_EN : Fld := ⟨0x800000, 0, 0, 0, 1⟩
/-- MAG.STATUS whole register (spec/10_magazine.md). -/
def Reg.MAG_STATUS_WORD : Fld := ⟨0x800004, 0, 31, 0, 1⟩
/-- MAG.STATUS LOST_EV (spec/10_magazine.md). -/
def Reg.MAG_STATUS_LOST_EV : Fld := ⟨0x800004, 0, 15, 15, 1⟩
/-- MAG.STATUS SPARE_LOW_EV (spec/10_magazine.md). -/
def Reg.MAG_STATUS_SPARE_LOW_EV : Fld := ⟨0x800004, 0, 14, 14, 1⟩
/-- MAG.STATUS REFRESH_EV (spec/10_magazine.md). -/
def Reg.MAG_STATUS_REFRESH_EV : Fld := ⟨0x800004, 0, 13, 13, 1⟩
/-- MAG.STATUS POISON_EV (spec/10_magazine.md). -/
def Reg.MAG_STATUS_POISON_EV : Fld := ⟨0x800004, 0, 12, 12, 1⟩
/-- MAG.STATUS UE_EV (spec/10_magazine.md). -/
def Reg.MAG_STATUS_UE_EV : Fld := ⟨0x800004, 0, 11, 11, 1⟩
/-- MAG.STATUS GROWN_BAD_EV (spec/10_magazine.md). -/
def Reg.MAG_STATUS_GROWN_BAD_EV : Fld := ⟨0x800004, 0, 10, 10, 1⟩
/-- MAG.STATUS REMOVE_EV (spec/10_magazine.md). -/
def Reg.MAG_STATUS_REMOVE_EV : Fld := ⟨0x800004, 0, 9, 9, 1⟩
/-- MAG.STATUS INSERT_EV (spec/10_magazine.md). -/
def Reg.MAG_STATUS_INSERT_EV : Fld := ⟨0x800004, 0, 8, 8, 1⟩
/-- MAG.STATUS MAG_STATE (spec/10_magazine.md). -/
def Reg.MAG_STATUS_MAG_STATE : Fld := ⟨0x800004, 0, 7, 4, 1⟩
/-- MAG.STATUS HELD (spec/10_magazine.md). -/
def Reg.MAG_STATUS_HELD : Fld := ⟨0x800004, 0, 3, 3, 1⟩
/-- MAG.STATUS STATE (spec/10_magazine.md). -/
def Reg.MAG_STATUS_STATE : Fld := ⟨0x800004, 0, 2, 0, 1⟩
/-- MAG.GEOM whole register (spec/10_magazine.md). -/
def Reg.MAG_GEOM_WORD : Fld := ⟨0x800010, 0, 31, 0, 1⟩
/-- MAG.GEOM DIES (spec/10_magazine.md). -/
def Reg.MAG_GEOM_DIES : Fld := ⟨0x800010, 0, 25, 16, 1⟩
/-- MAG.GEOM LBS (spec/10_magazine.md). -/
def Reg.MAG_GEOM_LBS : Fld := ⟨0x800010, 0, 8, 8, 1⟩
/-- MAG.GEOM CHANNELS (spec/10_magazine.md). -/
def Reg.MAG_GEOM_CHANNELS : Fld := ⟨0x800010, 0, 5, 0, 1⟩
/-- MAG.EXPORT 64-bit pair (spec/10_magazine.md). -/
def Reg.MAG_EXPORT : Fld := ⟨0x800018, 0, 31, 0, 1⟩
/-- MAG.EXPORT_LO LO (spec/10_magazine.md). -/
def Reg.MAG_EXPORT_LO : Fld := ⟨0x800018, 0, 31, 0, 1⟩
/-- MAG.EXPORT_HI HI (spec/10_magazine.md). -/
def Reg.MAG_EXPORT_HI : Fld := ⟨0x80001c, 0, 31, 0, 1⟩
/-- MAG.SLC SIZE (spec/10_magazine.md). -/
def Reg.MAG_SLC_SIZE : Fld := ⟨0x800020, 0, 31, 16, 1⟩
/-- MAG.SLC whole register (spec/10_magazine.md). -/
def Reg.MAG_SLC_WORD : Fld := ⟨0x800020, 0, 31, 0, 1⟩
/-- MAG.SLC FILL (spec/10_magazine.md). -/
def Reg.MAG_SLC_FILL : Fld := ⟨0x800020, 0, 15, 0, 1⟩
/-- MAG.SAVE BUF_EFF_MIB (spec/10_magazine.md). -/
def Reg.MAG_SAVE_BUF_EFF_MIB : Fld := ⟨0x800024, 0, 31, 16, 1⟩
/-- MAG.SAVE whole register (spec/10_magazine.md). -/
def Reg.MAG_SAVE_WORD : Fld := ⟨0x800024, 0, 31, 0, 1⟩
/-- MAG.SAVE SAVE_RATE (spec/10_magazine.md). -/
def Reg.MAG_SAVE_SAVE_RATE : Fld := ⟨0x800024, 0, 9, 0, 1⟩
/-- MAG.REFRESH PATROL_DAYS (spec/10_magazine.md). -/
def Reg.MAG_REFRESH_PATROL_DAYS : Fld := ⟨0x800030, 0, 23, 16, 1⟩
/-- MAG.REFRESH THRESH (spec/10_magazine.md). -/
def Reg.MAG_REFRESH_THRESH : Fld := ⟨0x800030, 0, 6, 0, 1⟩
/-- MAG.HOST_WR_LO LO (spec/10_magazine.md). -/
def Reg.MAG_HOST_WR_LO : Fld := ⟨0x800040, 0, 31, 0, 1⟩
/-- MAG.HOST_WR 64-bit pair (spec/10_magazine.md). -/
def Reg.MAG_HOST_WR : Fld := ⟨0x800040, 0, 31, 0, 1⟩
/-- MAG.HOST_WR_HI HI (spec/10_magazine.md). -/
def Reg.MAG_HOST_WR_HI : Fld := ⟨0x800044, 0, 31, 0, 1⟩
/-- MAG.NAND_WR_LO LO (spec/10_magazine.md). -/
def Reg.MAG_NAND_WR_LO : Fld := ⟨0x800048, 0, 31, 0, 1⟩
/-- MAG.NAND_WR 64-bit pair (spec/10_magazine.md). -/
def Reg.MAG_NAND_WR : Fld := ⟨0x800048, 0, 31, 0, 1⟩
/-- MAG.NAND_WR_HI HI (spec/10_magazine.md). -/
def Reg.MAG_NAND_WR_HI : Fld := ⟨0x80004c, 0, 31, 0, 1⟩
/-- MAG.UE COUNT (spec/10_magazine.md). -/
def Reg.MAG_UE : Fld := ⟨0x800050, 0, 31, 0, 1⟩
/-- MAG.REFRESHES COUNT (spec/10_magazine.md). -/
def Reg.MAG_REFRESHES : Fld := ⟨0x800054, 0, 31, 0, 1⟩
/-- MAG.GROWN_BAD COUNT (spec/10_magazine.md). -/
def Reg.MAG_GROWN_BAD : Fld := ⟨0x800058, 0, 31, 0, 1⟩
/-- MAG.LOST_MIB COUNT (spec/10_magazine.md). -/
def Reg.MAG_LOST_MIB : Fld := ⟨0x80005c, 0, 31, 0, 1⟩
/-- MAG.CH.CTL MAX_RATE (spec/10_magazine.md). -/
def Reg.MAG_CH_CTL_MAX_RATE : Fld := ⟨0x801000, 64, 1, 0, 32⟩
/-- MAG.CH.STATUS DIE_MASK (spec/10_magazine.md). -/
def Reg.MAG_CH_STATUS_DIE_MASK : Fld := ⟨0x801004, 64, 31, 16, 32⟩
/-- MAG.CH.STATUS whole register (spec/10_magazine.md). -/
def Reg.MAG_CH_STATUS_WORD : Fld := ⟨0x801004, 64, 31, 0, 32⟩
/-- MAG.CH.STATUS RATE (spec/10_magazine.md). -/
def Reg.MAG_CH_STATUS_RATE : Fld := ⟨0x801004, 64, 2, 0, 32⟩
/-- MAP.CTL CNT_CLR (spec/11_map_cache.md). -/
def Reg.MAP_CTL_CNT_CLR : Fld := ⟨0x900000, 0, 8, 8, 1⟩
/-- MAP.STATUS whole register (spec/11_map_cache.md). -/
def Reg.MAP_STATUS_WORD : Fld := ⟨0x900004, 0, 31, 0, 1⟩
/-- MAP.STATUS UE_EV (spec/11_map_cache.md). -/
def Reg.MAP_STATUS_UE_EV : Fld := ⟨0x900004, 0, 9, 9, 1⟩
/-- MAP.STATUS CE_EV (spec/11_map_cache.md). -/
def Reg.MAP_STATUS_CE_EV : Fld := ⟨0x900004, 0, 8, 8, 1⟩
/-- MAP.STATUS PAGED (spec/11_map_cache.md). -/
def Reg.MAP_STATUS_PAGED : Fld := ⟨0x900004, 0, 1, 1, 1⟩
/-- MAP.STATUS INVAL_BUSY (spec/11_map_cache.md). -/
def Reg.MAP_STATUS_INVAL_BUSY : Fld := ⟨0x900004, 0, 0, 0, 1⟩
/-- MAP.CFG STREAM_RUN (spec/11_map_cache.md). -/
def Reg.MAP_CFG_STREAM_RUN : Fld := ⟨0x900010, 0, 3, 0, 1⟩
/-- MAP.WAYMASK whole register (spec/11_map_cache.md). -/
def Reg.MAP_WAYMASK_WORD : Fld := ⟨0x900020, 4, 31, 0, 5⟩
/-- MAP.WAYMASK MASK (spec/11_map_cache.md). -/
def Reg.MAP_WAYMASK_MASK : Fld := ⟨0x900020, 4, 15, 0, 5⟩
/-- MAP.CE COUNT (spec/11_map_cache.md). -/
def Reg.MAP_CE : Fld := ⟨0x900040, 0, 31, 0, 1⟩
/-- MAP.UE_CLEAN COUNT (spec/11_map_cache.md). -/
def Reg.MAP_UE_CLEAN : Fld := ⟨0x900044, 0, 31, 0, 1⟩
/-- MAP.UE_DIRTY COUNT (spec/11_map_cache.md). -/
def Reg.MAP_UE_DIRTY : Fld := ⟨0x900048, 0, 31, 0, 1⟩
/-- MAP.OFFERED COUNT (spec/11_map_cache.md). -/
def Reg.MAP_OFFERED : Fld := ⟨0x900050, 0, 31, 0, 1⟩
/-- MAP.DECLINED COUNT (spec/11_map_cache.md). -/
def Reg.MAP_DECLINED : Fld := ⟨0x900054, 0, 31, 0, 1⟩
/-- MAP.WRITEBACKS COUNT (spec/11_map_cache.md). -/
def Reg.MAP_WRITEBACKS : Fld := ⟨0x900058, 0, 31, 0, 1⟩
/-- MAP.DIRTY VALUE (spec/11_map_cache.md). -/
def Reg.MAP_DIRTY : Fld := ⟨0x900060, 0, 18, 0, 1⟩
/-- MAP.REQ.HITS_LO LO (spec/11_map_cache.md). -/
def Reg.MAP_REQ_HITS_LO : Fld := ⟨0x900100, 32, 31, 0, 5⟩
/-- MAP.REQ.HITS 64-bit pair (spec/11_map_cache.md). -/
def Reg.MAP_REQ_HITS : Fld := ⟨0x900100, 32, 31, 0, 5⟩
/-- MAP.REQ.HITS_HI HI (spec/11_map_cache.md). -/
def Reg.MAP_REQ_HITS_HI : Fld := ⟨0x900104, 32, 31, 0, 5⟩
/-- MAP.REQ.MISSES_LO LO (spec/11_map_cache.md). -/
def Reg.MAP_REQ_MISSES_LO : Fld := ⟨0x900108, 32, 31, 0, 5⟩
/-- MAP.REQ.MISSES 64-bit pair (spec/11_map_cache.md). -/
def Reg.MAP_REQ_MISSES : Fld := ⟨0x900108, 32, 31, 0, 5⟩
/-- MAP.REQ.MISSES_HI HI (spec/11_map_cache.md). -/
def Reg.MAP_REQ_MISSES_HI : Fld := ⟨0x90010c, 32, 31, 0, 5⟩
/-- MAP.REQ.STREAM_FILLS COUNT (spec/11_map_cache.md). -/
def Reg.MAP_REQ_STREAM_FILLS : Fld := ⟨0x900110, 32, 31, 0, 5⟩
/-- MAP.REQ.STALL COUNT (spec/11_map_cache.md). -/
def Reg.MAP_REQ_STALL : Fld := ⟨0x900114, 32, 31, 0, 5⟩
/-- OCH.CTL whole register (spec/13_optical_channel.md). -/
def Reg.OCH_CTL_WORD : Fld := ⟨0xa00000, 0, 31, 0, 1⟩
/-- OCH.CTL EN (spec/13_optical_channel.md). -/
def Reg.OCH_CTL_EN : Fld := ⟨0xa00000, 0, 0, 0, 1⟩
/-- OCH.STATUS whole register (spec/13_optical_channel.md). -/
def Reg.OCH_STATUS_WORD : Fld := ⟨0xa00004, 0, 31, 0, 1⟩
/-- OCH.STATUS SPARE_LOW_EV (spec/13_optical_channel.md). -/
def Reg.OCH_STATUS_SPARE_LOW_EV : Fld := ⟨0xa00004, 0, 14, 14, 1⟩
/-- OCH.STATUS PILOT_EV (spec/13_optical_channel.md). -/
def Reg.OCH_STATUS_PILOT_EV : Fld := ⟨0xa00004, 0, 13, 13, 1⟩
/-- OCH.STATUS LASER_FAULT_EV (spec/13_optical_channel.md). -/
def Reg.OCH_STATUS_LASER_FAULT_EV : Fld := ⟨0xa00004, 0, 12, 12, 1⟩
/-- OCH.STATUS WRITE_FAULT_EV (spec/13_optical_channel.md). -/
def Reg.OCH_STATUS_WRITE_FAULT_EV : Fld := ⟨0xa00004, 0, 11, 11, 1⟩
/-- OCH.STATUS OPC_FAIL_EV (spec/13_optical_channel.md). -/
def Reg.OCH_STATUS_OPC_FAIL_EV : Fld := ⟨0xa00004, 0, 10, 10, 1⟩
/-- OCH.STATUS RELOC_EV (spec/13_optical_channel.md). -/
def Reg.OCH_STATUS_RELOC_EV : Fld := ⟨0xa00004, 0, 9, 9, 1⟩
/-- OCH.STATUS READ_UE_EV (spec/13_optical_channel.md). -/
def Reg.OCH_STATUS_READ_UE_EV : Fld := ⟨0xa00004, 0, 8, 8, 1⟩
/-- OCH.STATUS MODE (spec/13_optical_channel.md). -/
def Reg.OCH_STATUS_MODE : Fld := ⟨0xa00004, 0, 7, 5, 1⟩
/-- OCH.STATUS HELD (spec/13_optical_channel.md). -/
def Reg.OCH_STATUS_HELD : Fld := ⟨0xa00004, 0, 3, 3, 1⟩
/-- OCH.STATUS STATE (spec/13_optical_channel.md). -/
def Reg.OCH_STATUS_STATE : Fld := ⟨0xa00004, 0, 2, 0, 1⟩
/-- OCH.ZONE whole register (spec/13_optical_channel.md). -/
def Reg.OCH_ZONE_WORD : Fld := ⟨0xa00008, 0, 31, 0, 1⟩
/-- OCH.ZONE LAYER (spec/13_optical_channel.md). -/
def Reg.OCH_ZONE_LAYER : Fld := ⟨0xa00008, 0, 23, 20, 1⟩
/-- OCH.ZONE ZONE (spec/13_optical_channel.md). -/
def Reg.OCH_ZONE_ZONE : Fld := ⟨0xa00008, 0, 19, 15, 1⟩
/-- OCH.ZONE CLK_NUM (spec/13_optical_channel.md). -/
def Reg.OCH_ZONE_CLK_NUM : Fld := ⟨0xa00008, 0, 14, 9, 1⟩
/-- OCH.ZONE PILOT_LOCK (spec/13_optical_channel.md). -/
def Reg.OCH_ZONE_PILOT_LOCK : Fld := ⟨0xa00008, 0, 8, 8, 1⟩
/-- OCH.PROOF RELOC_LIM (spec/13_optical_channel.md). -/
def Reg.OCH_PROOF_RELOC_LIM : Fld := ⟨0xa00010, 0, 19, 16, 1⟩
/-- OCH.PROOF ROW_LIM (spec/13_optical_channel.md). -/
def Reg.OCH_PROOF_ROW_LIM : Fld := ⟨0xa00010, 0, 15, 12, 1⟩
/-- OCH.PROOF FOLIO_LIM (spec/13_optical_channel.md). -/
def Reg.OCH_PROOF_FOLIO_LIM : Fld := ⟨0xa00010, 0, 11, 0, 1⟩
/-- OCH.OPC MIN_RUN (spec/13_optical_channel.md). -/
def Reg.OCH_OPC_MIN_RUN : Fld := ⟨0xa00014, 0, 15, 12, 1⟩
/-- OCH.OPC STEP (spec/13_optical_channel.md). -/
def Reg.OCH_OPC_STEP : Fld := ⟨0xa00014, 0, 7, 0, 1⟩
/-- OCH.READ RETRY (spec/13_optical_channel.md). -/
def Reg.OCH_READ_RETRY : Fld := ⟨0xa00018, 0, 3, 0, 1⟩
/-- OCH.FAULT FAULT_LIM (spec/13_optical_channel.md). -/
def Reg.OCH_FAULT_FAULT_LIM : Fld := ⟨0xa0001c, 0, 7, 0, 1⟩
/-- OCH.FOLIOS 64-bit pair (spec/13_optical_channel.md). -/
def Reg.OCH_FOLIOS : Fld := ⟨0xa00040, 0, 31, 0, 1⟩
/-- OCH.FOLIOS_LO LO (spec/13_optical_channel.md). -/
def Reg.OCH_FOLIOS_LO : Fld := ⟨0xa00040, 0, 31, 0, 1⟩
/-- OCH.FOLIOS_HI HI (spec/13_optical_channel.md). -/
def Reg.OCH_FOLIOS_HI : Fld := ⟨0xa00044, 0, 31, 0, 1⟩
/-- OCH.PROOF_FAIL COUNT (spec/13_optical_channel.md). -/
def Reg.OCH_PROOF_FAIL : Fld := ⟨0xa00048, 0, 31, 0, 1⟩
/-- OCH.RELOCS COUNT (spec/13_optical_channel.md). -/
def Reg.OCH_RELOCS : Fld := ⟨0xa0004c, 0, 31, 0, 1⟩
/-- OCH.OPC_RUNS COUNT (spec/13_optical_channel.md). -/
def Reg.OCH_OPC_RUNS : Fld := ⟨0xa00050, 0, 31, 0, 1⟩
/-- OCH.WRITE_FAULTS COUNT (spec/13_optical_channel.md). -/
def Reg.OCH_WRITE_FAULTS : Fld := ⟨0xa00054, 0, 31, 0, 1⟩
/-- OCH.READ_UE COUNT (spec/13_optical_channel.md). -/
def Reg.OCH_READ_UE : Fld := ⟨0xa00058, 0, 31, 0, 1⟩
/-- OCH.BLANK_READ COUNT (spec/13_optical_channel.md). -/
def Reg.OCH_BLANK_READ : Fld := ⟨0xa0005c, 0, 31, 0, 1⟩
/-- OCH.SPARES_FREE VALUE (spec/13_optical_channel.md). -/
def Reg.OCH_SPARES_FREE : Fld := ⟨0xa00060, 0, 11, 0, 1⟩
/-- OCH.LASER.PWR PW (spec/13_optical_channel.md). -/
def Reg.OCH_LASER_PWR_PW : Fld := ⟨0xa00100, 16, 31, 20, 16⟩
/-- OCH.LASER.PWR whole register (spec/13_optical_channel.md). -/
def Reg.OCH_LASER_PWR_WORD : Fld := ⟨0xa00100, 16, 31, 0, 16⟩
/-- OCH.LASER.LIM IMAX (spec/13_optical_channel.md). -/
def Reg.OCH_LASER_LIM_IMAX : Fld := ⟨0xa00104, 16, 11, 0, 16⟩
/-- OCH.LASER.DRIVE whole register (spec/13_optical_channel.md). -/
def Reg.OCH_LASER_DRIVE_WORD : Fld := ⟨0xa00108, 16, 31, 0, 16⟩
/-- OCH.LASER.DRIVE IW (spec/13_optical_channel.md). -/
def Reg.OCH_LASER_DRIVE_IW : Fld := ⟨0xa00108, 16, 27, 16, 16⟩
/-- OCH.LASER.DRIVE IR (spec/13_optical_channel.md). -/
def Reg.OCH_LASER_DRIVE_IR : Fld := ⟨0xa00108, 16, 11, 0, 16⟩
/-- OCH.WS.E DTOP (spec/13_optical_channel.md). -/
def Reg.OCH_WS_E_DTOP : Fld := ⟨0xa01000, 64, 31, 26, 16⟩
/-- OCH.RD.CTL whole register (spec/13_optical_channel.md). -/
def Reg.OCH_RD_CTL_WORD : Fld := ⟨0xa02000, 64, 31, 0, 16⟩
/-- OCH.RD.CTL COARSE (spec/13_optical_channel.md). -/
def Reg.OCH_RD_CTL_COARSE : Fld := ⟨0xa02000, 64, 31, 28, 16⟩
/-- OCH.RD.CTL FINE (spec/13_optical_channel.md). -/
def Reg.OCH_RD_CTL_FINE : Fld := ⟨0xa02000, 64, 27, 16, 16⟩
/-- OCH.RD.CTL MU (spec/13_optical_channel.md). -/
def Reg.OCH_RD_CTL_MU : Fld := ⟨0xa02000, 64, 14, 12, 16⟩
/-- OCH.RD.FLAGGED COUNT (spec/13_optical_channel.md). -/
def Reg.OCH_RD_FLAGGED : Fld := ⟨0xa02008, 64, 31, 0, 16⟩
/-- OCH.RD.ROW_CE COUNT (spec/13_optical_channel.md). -/
def Reg.OCH_RD_ROW_CE : Fld := ⟨0xa0200c, 64, 31, 0, 16⟩
/-- OCH.RD.ROW_UE COUNT (spec/13_optical_channel.md). -/
def Reg.OCH_RD_ROW_UE : Fld := ⟨0xa02010, 64, 31, 0, 16⟩
/-- SRV.CTL whole register (spec/14_pickup_servo.md). -/
def Reg.SRV_CTL_WORD : Fld := ⟨0xb00000, 0, 31, 0, 1⟩
/-- SRV.CTL EN (spec/14_pickup_servo.md). -/
def Reg.SRV_CTL_EN : Fld := ⟨0xb00000, 0, 0, 0, 1⟩
/-- SRV.STATUS whole register (spec/14_pickup_servo.md). -/
def Reg.SRV_STATUS_WORD : Fld := ⟨0xb00004, 0, 31, 0, 1⟩
/-- SRV.STATUS CFG_REJ (spec/14_pickup_servo.md). -/
def Reg.SRV_STATUS_CFG_REJ : Fld := ⟨0xb00004, 0, 13, 13, 1⟩
/-- SRV.STATUS SVC_LOST_EV (spec/14_pickup_servo.md). -/
def Reg.SRV_STATUS_SVC_LOST_EV : Fld := ⟨0xb00004, 0, 12, 12, 1⟩
/-- SRV.STATUS GOV_EV (spec/14_pickup_servo.md). -/
def Reg.SRV_STATUS_GOV_EV : Fld := ⟨0xb00004, 0, 11, 11, 1⟩
/-- SRV.STATUS JUMP_FAIL_EV (spec/14_pickup_servo.md). -/
def Reg.SRV_STATUS_JUMP_FAIL_EV : Fld := ⟨0xb00004, 0, 10, 10, 1⟩
/-- SRV.STATUS SAT_EV (spec/14_pickup_servo.md). -/
def Reg.SRV_STATUS_SAT_EV : Fld := ⟨0xb00004, 0, 9, 9, 1⟩
/-- SRV.STATUS LOOP_FAULT_EV (spec/14_pickup_servo.md). -/
def Reg.SRV_STATUS_LOOP_FAULT_EV : Fld := ⟨0xb00004, 0, 8, 8, 1⟩
/-- SRV.STATUS HELD (spec/14_pickup_servo.md). -/
def Reg.SRV_STATUS_HELD : Fld := ⟨0xb00004, 0, 3, 3, 1⟩
/-- SRV.STATUS STATE (spec/14_pickup_servo.md). -/
def Reg.SRV_STATUS_STATE : Fld := ⟨0xb00004, 0, 2, 0, 1⟩
/-- SRV.SVC whole register (spec/14_pickup_servo.md). -/
def Reg.SRV_SVC_WORD : Fld := ⟨0xb00010, 0, 31, 0, 1⟩
/-- SRV.SVC EN (spec/14_pickup_servo.md). -/
def Reg.SRV_SVC_EN : Fld := ⟨0xb00010, 0, 31, 31, 1⟩
/-- SRV.SVC LOOP (spec/14_pickup_servo.md). -/
def Reg.SRV_SVC_LOOP : Fld := ⟨0xb00010, 0, 29, 28, 1⟩
/-- SRV.SVC SRC (spec/14_pickup_servo.md). -/
def Reg.SRV_SVC_SRC : Fld := ⟨0xb00010, 0, 25, 24, 1⟩
/-- SRV.SVC F_MAX (spec/14_pickup_servo.md). -/
def Reg.SRV_SVC_F_MAX : Fld := ⟨0xb00010, 0, 23, 12, 1⟩
/-- SRV.SVC F_MIN (spec/14_pickup_servo.md). -/
def Reg.SRV_SVC_F_MIN : Fld := ⟨0xb00010, 0, 11, 0, 1⟩
/-- SRV.SVC_MAP AT_MAX (spec/14_pickup_servo.md). -/
def Reg.SRV_SVC_MAP_AT_MAX : Fld := ⟨0xb00014, 0, 29, 16, 1⟩
/-- SRV.SVC_MAP AT_MIN (spec/14_pickup_servo.md). -/
def Reg.SRV_SVC_MAP_AT_MIN : Fld := ⟨0xb00014, 0, 13, 0, 1⟩
/-- SRV.SVC_IN whole register (spec/14_pickup_servo.md). -/
def Reg.SRV_SVC_IN_WORD : Fld := ⟨0xb00018, 0, 31, 0, 1⟩
/-- SRV.SVC_IN N (spec/14_pickup_servo.md). -/
def Reg.SRV_SVC_IN_N : Fld := ⟨0xb00018, 0, 13, 0, 1⟩
/-- SRV.JUMP KICK (spec/14_pickup_servo.md). -/
def Reg.SRV_JUMP_KICK : Fld := ⟨0xb00020, 0, 29, 16, 1⟩
/-- SRV.JUMPS COUNT (spec/14_pickup_servo.md). -/
def Reg.SRV_JUMPS : Fld := ⟨0xb00040, 0, 31, 0, 1⟩
/-- SRV.JUMP_FAILS COUNT (spec/14_pickup_servo.md). -/
def Reg.SRV_JUMP_FAILS : Fld := ⟨0xb00044, 0, 31, 0, 1⟩
/-- SRV.SAT_FAULTS COUNT (spec/14_pickup_servo.md). -/
def Reg.SRV_SAT_FAULTS : Fld := ⟨0xb00048, 0, 31, 0, 1⟩
/-- SRV.LOOP_FAULTS COUNT (spec/14_pickup_servo.md). -/
def Reg.SRV_LOOP_FAULTS : Fld := ⟨0xb0004c, 0, 31, 0, 1⟩
/-- SRV.GOV_FLOOR VBUS_FLOOR (spec/14_pickup_servo.md). -/
def Reg.SRV_GOV_FLOOR_VBUS_FLOOR : Fld := ⟨0xb00100, 0, 29, 20, 1⟩
/-- SRV.GOV_FLOOR TEMP_FLOOR (spec/14_pickup_servo.md). -/
def Reg.SRV_GOV_FLOOR_TEMP_FLOOR : Fld := ⟨0xb00100, 0, 19, 10, 1⟩
/-- SRV.GOV_FLOOR IBUS_FLOOR (spec/14_pickup_servo.md). -/
def Reg.SRV_GOV_FLOOR_IBUS_FLOOR : Fld := ⟨0xb00100, 0, 9, 0, 1⟩
/-- SRV.GOV_TEMP whole register (spec/14_pickup_servo.md). -/
def Reg.SRV_GOV_TEMP_WORD : Fld := ⟨0xb00104, 0, 31, 0, 1⟩
/-- SRV.GOV_TEMP T_END (spec/14_pickup_servo.md). -/
def Reg.SRV_GOV_TEMP_T_END : Fld := ⟨0xb00104, 0, 27, 16, 1⟩
/-- SRV.GOV_TEMP T_START (spec/14_pickup_servo.md). -/
def Reg.SRV_GOV_TEMP_T_START : Fld := ⟨0xb00104, 0, 11, 0, 1⟩
/-- SRV.GOV_IBUS whole register (spec/14_pickup_servo.md). -/
def Reg.SRV_GOV_IBUS_WORD : Fld := ⟨0xb00108, 0, 31, 0, 1⟩
/-- SRV.GOV_IBUS I_END (spec/14_pickup_servo.md). -/
def Reg.SRV_GOV_IBUS_I_END : Fld := ⟨0xb00108, 0, 23, 12, 1⟩
/-- SRV.GOV_IBUS I_START (spec/14_pickup_servo.md). -/
def Reg.SRV_GOV_IBUS_I_START : Fld := ⟨0xb00108, 0, 11, 0, 1⟩
/-- SRV.GOV_OUT RISE (spec/14_pickup_servo.md). -/
def Reg.SRV_GOV_OUT_RISE : Fld := ⟨0xb0010c, 0, 31, 26, 1⟩
/-- SRV.GOV_OUT TORQUE_FLOOR (spec/14_pickup_servo.md). -/
def Reg.SRV_GOV_OUT_TORQUE_FLOOR : Fld := ⟨0xb0010c, 0, 25, 16, 1⟩
/-- SRV.GOV_OUT FLASH_FLOOR (spec/14_pickup_servo.md). -/
def Reg.SRV_GOV_OUT_FLASH_FLOOR : Fld := ⟨0xb0010c, 0, 9, 0, 1⟩
/-- SRV.GOV_HOST HOST_LIM (spec/14_pickup_servo.md). -/
def Reg.SRV_GOV_HOST_HOST_LIM : Fld := ⟨0xb00110, 0, 10, 0, 1⟩
/-- SRV.GOV_STATUS WINNER (spec/14_pickup_servo.md). -/
def Reg.SRV_GOV_STATUS_WINNER : Fld := ⟨0xb00114, 0, 31, 29, 1⟩
/-- SRV.GOV_STATUS whole register (spec/14_pickup_servo.md). -/
def Reg.SRV_GOV_STATUS_WORD : Fld := ⟨0xb00114, 0, 31, 0, 1⟩
/-- SRV.GOV_STATUS G (spec/14_pickup_servo.md). -/
def Reg.SRV_GOV_STATUS_G : Fld := ⟨0xb00114, 0, 26, 16, 1⟩
/-- SRV.GOV_STATUS TARGET (spec/14_pickup_servo.md). -/
def Reg.SRV_GOV_STATUS_TARGET : Fld := ⟨0xb00114, 0, 10, 0, 1⟩
/-- SRV.LOOP.CTL ACTION (spec/14_pickup_servo.md). -/
def Reg.SRV_LOOP_CTL_ACTION : Fld := ⟨0xb01000, 256, 1, 0, 4⟩
/-- SRV.LOOP.SETPT SETPT (spec/14_pickup_servo.md). -/
def Reg.SRV_LOOP_SETPT_SETPT : Fld := ⟨0xb01004, 256, 13, 0, 4⟩
/-- SRV.LOOP.GAIN K (spec/14_pickup_servo.md). -/
def Reg.SRV_LOOP_GAIN_K : Fld := ⟨0xb01008, 256, 17, 0, 4⟩
/-- SRV.LOOP.KI KI (spec/14_pickup_servo.md). -/
def Reg.SRV_LOOP_KI_KI : Fld := ⟨0xb0100c, 256, 17, 0, 4⟩
/-- SRV.LOOP.LIMITS ILIM (spec/14_pickup_servo.md). -/
def Reg.SRV_LOOP_LIMITS_ILIM : Fld := ⟨0xb01010, 256, 29, 16, 4⟩
/-- SRV.LOOP.LIMITS OUT_LIM (spec/14_pickup_servo.md). -/
def Reg.SRV_LOOP_LIMITS_OUT_LIM : Fld := ⟨0xb01010, 256, 13, 0, 4⟩
/-- SRV.LOOP.SAT SAT_COUNT (spec/14_pickup_servo.md). -/
def Reg.SRV_LOOP_SAT_SAT_COUNT : Fld := ⟨0xb01014, 256, 15, 0, 4⟩
/-- SRV.LOOP.ACQ OFF_THR (spec/14_pickup_servo.md). -/
def Reg.SRV_LOOP_ACQ_OFF_THR : Fld := ⟨0xb01018, 256, 29, 16, 4⟩
/-- SRV.LOOP.ACQ LOCK_THR (spec/14_pickup_servo.md). -/
def Reg.SRV_LOOP_ACQ_LOCK_THR : Fld := ⟨0xb01018, 256, 13, 0, 4⟩
/-- SRV.LOOP.SUM HOLD_MAX (spec/14_pickup_servo.md). -/
def Reg.SRV_LOOP_SUM_HOLD_MAX : Fld := ⟨0xb0101c, 256, 31, 16, 4⟩
/-- SRV.LOOP.SUM SUM_THR (spec/14_pickup_servo.md). -/
def Reg.SRV_LOOP_SUM_SUM_THR : Fld := ⟨0xb0101c, 256, 13, 0, 4⟩
/-- SRV.LOOP.STATUS whole register (spec/14_pickup_servo.md). -/
def Reg.SRV_LOOP_STATUS_WORD : Fld := ⟨0xb01020, 256, 31, 0, 4⟩
/-- SRV.LOOP.STATUS SAT_ACC (spec/14_pickup_servo.md). -/
def Reg.SRV_LOOP_STATUS_SAT_ACC : Fld := ⟨0xb01020, 256, 31, 16, 4⟩
/-- SRV.LOOP.STATUS CAUSE (spec/14_pickup_servo.md). -/
def Reg.SRV_LOOP_STATUS_CAUSE : Fld := ⟨0xb01020, 256, 6, 4, 4⟩
/-- SRV.LOOP.STATUS LSTATE (spec/14_pickup_servo.md). -/
def Reg.SRV_LOOP_STATUS_LSTATE : Fld := ⟨0xb01020, 256, 2, 0, 4⟩
/-- SRV.LOOP.ERR whole register (spec/14_pickup_servo.md). -/
def Reg.SRV_LOOP_ERR_WORD : Fld := ⟨0xb01024, 256, 31, 0, 4⟩
/-- SRV.LOOP.ERR E (spec/14_pickup_servo.md). -/
def Reg.SRV_LOOP_ERR_E : Fld := ⟨0xb01024, 256, 13, 0, 4⟩
/-- SRV.LOOP.OUT whole register (spec/14_pickup_servo.md). -/
def Reg.SRV_LOOP_OUT_WORD : Fld := ⟨0xb01028, 256, 31, 0, 4⟩
/-- SRV.LOOP.OUT OUT (spec/14_pickup_servo.md). -/
def Reg.SRV_LOOP_OUT_OUT : Fld := ⟨0xb01028, 256, 13, 0, 4⟩
/-- SRV.LOOP.BURST BGAIN (spec/14_pickup_servo.md). -/
def Reg.SRV_LOOP_BURST_BGAIN : Fld := ⟨0xb0102c, 256, 7, 0, 4⟩
/-- SRV.LOOP.BQ C (spec/14_pickup_servo.md). -/
def Reg.SRV_LOOP_BQ_C : Fld := ⟨0xb01040, 256, 17, 0, 4⟩
/-- SRV.COIL.CFG IFS (spec/14_pickup_servo.md). -/
def Reg.SRV_COIL_CFG_IFS : Fld := ⟨0xb02000, 32, 31, 20, 4⟩
/-- SRV.COIL.CFG whole register (spec/14_pickup_servo.md). -/
def Reg.SRV_COIL_CFG_WORD : Fld := ⟨0xb02000, 32, 31, 0, 4⟩
/-- SRV.COIL.CFG BAND (spec/14_pickup_servo.md). -/
def Reg.SRV_COIL_CFG_BAND : Fld := ⟨0xb02000, 32, 19, 10, 4⟩
/-- SRV.COIL.STATUS BRIDGE (spec/14_pickup_servo.md). -/
def Reg.SRV_COIL_STATUS_BRIDGE : Fld := ⟨0xb02004, 32, 31, 30, 4⟩
/-- SRV.COIL.STATUS whole register (spec/14_pickup_servo.md). -/
def Reg.SRV_COIL_STATUS_WORD : Fld := ⟨0xb02004, 32, 31, 0, 4⟩
/-- SRV.COIL.STATUS IMEAS (spec/14_pickup_servo.md). -/
def Reg.SRV_COIL_STATUS_IMEAS : Fld := ⟨0xb02004, 32, 13, 0, 4⟩
/-- SRV.FF.CTL EN (spec/14_pickup_servo.md). -/
def Reg.SRV_FF_CTL_EN : Fld := ⟨0xb03000, 16, 31, 31, 6⟩
/-- SRV.FF.CTL whole register (spec/14_pickup_servo.md). -/
def Reg.SRV_FF_CTL_WORD : Fld := ⟨0xb03000, 16, 31, 0, 6⟩
/-- SRV.FF.CTL ACTIVE (spec/14_pickup_servo.md). -/
def Reg.SRV_FF_CTL_ACTIVE : Fld := ⟨0xb03000, 16, 30, 30, 6⟩
/-- SRV.FF.CTL KIND (spec/14_pickup_servo.md). -/
def Reg.SRV_FF_CTL_KIND : Fld := ⟨0xb03000, 16, 28, 28, 6⟩
/-- SRV.FF.CTL SRC (spec/14_pickup_servo.md). -/
def Reg.SRV_FF_CTL_SRC : Fld := ⟨0xb03000, 16, 27, 24, 6⟩
/-- SRV.FF.CTL DEST (spec/14_pickup_servo.md). -/
def Reg.SRV_FF_CTL_DEST : Fld := ⟨0xb03000, 16, 23, 20, 6⟩
/-- SRV.FF.CTL SHIFT (spec/14_pickup_servo.md). -/
def Reg.SRV_FF_CTL_SHIFT : Fld := ⟨0xb03000, 16, 19, 16, 6⟩
/-- SRV.FF.ORIGIN VALUE (spec/14_pickup_servo.md). -/
def Reg.SRV_FF_ORIGIN : Fld := ⟨0xb03004, 16, 31, 0, 6⟩
/-- SRV.FFTAB E (spec/14_pickup_servo.md). -/
def Reg.SRV_FFTAB_E : Fld := ⟨0xb10000, 0x2000, 13, 0, 6⟩
/-- MOT.CTL whole register (spec/15_spindle_sled_picker.md). -/
def Reg.MOT_CTL_WORD : Fld := ⟨0xc00000, 0, 31, 0, 1⟩
/-- MOT.CTL EN (spec/15_spindle_sled_picker.md). -/
def Reg.MOT_CTL_EN : Fld := ⟨0xc00000, 0, 0, 0, 1⟩
/-- MOT.STATUS whole register (spec/15_spindle_sled_picker.md). -/
def Reg.MOT_STATUS_WORD : Fld := ⟨0xc00004, 0, 31, 0, 1⟩
/-- MOT.STATUS INTERLOCK_EV (spec/15_spindle_sled_picker.md). -/
def Reg.MOT_STATUS_INTERLOCK_EV : Fld := ⟨0xc00004, 0, 14, 14, 1⟩
/-- MOT.STATUS HOME_FAIL_EV (spec/15_spindle_sled_picker.md). -/
def Reg.MOT_STATUS_HOME_FAIL_EV : Fld := ⟨0xc00004, 0, 13, 13, 1⟩
/-- MOT.STATUS PHASE_LOSS_EV (spec/15_spindle_sled_picker.md). -/
def Reg.MOT_STATUS_PHASE_LOSS_EV : Fld := ⟨0xc00004, 0, 12, 12, 1⟩
/-- MOT.STATUS PREDICT_EV (spec/15_spindle_sled_picker.md). -/
def Reg.MOT_STATUS_PREDICT_EV : Fld := ⟨0xc00004, 0, 11, 11, 1⟩
/-- MOT.STATUS SVC_LOST_EV (spec/15_spindle_sled_picker.md). -/
def Reg.MOT_STATUS_SVC_LOST_EV : Fld := ⟨0xc00004, 0, 10, 10, 1⟩
/-- MOT.STATUS CFG_REJ (spec/15_spindle_sled_picker.md). -/
def Reg.MOT_STATUS_CFG_REJ : Fld := ⟨0xc00004, 0, 9, 9, 1⟩
/-- MOT.STATUS HELD (spec/15_spindle_sled_picker.md). -/
def Reg.MOT_STATUS_HELD : Fld := ⟨0xc00004, 0, 3, 3, 1⟩
/-- MOT.STATUS STATE (spec/15_spindle_sled_picker.md). -/
def Reg.MOT_STATUS_STATE : Fld := ⟨0xc00004, 0, 2, 0, 1⟩
/-- MOT.PWM whole register (spec/15_spindle_sled_picker.md). -/
def Reg.MOT_PWM_WORD : Fld := ⟨0xc00010, 0, 31, 0, 1⟩
/-- MOT.PWM PERIOD (spec/15_spindle_sled_picker.md). -/
def Reg.MOT_PWM_PERIOD : Fld := ⟨0xc00010, 0, 31, 16, 1⟩
/-- MOT.PWM MIN_PULSE (spec/15_spindle_sled_picker.md). -/
def Reg.MOT_PWM_MIN_PULSE : Fld := ⟨0xc00010, 0, 15, 8, 1⟩
/-- MOT.SPN_SAMPLE SAMPLE_MIN (spec/15_spindle_sled_picker.md). -/
def Reg.MOT_SPN_SAMPLE_SAMPLE_MIN : Fld := ⟨0xc00014, 0, 31, 16, 1⟩
/-- MOT.SPN_SAMPLE PRED_MAX (spec/15_spindle_sled_picker.md). -/
def Reg.MOT_SPN_SAMPLE_PRED_MAX : Fld := ⟨0xc00014, 0, 7, 0, 1⟩
/-- MOT.SPN_MOTOR I_RATED (spec/15_spindle_sled_picker.md). -/
def Reg.MOT_SPN_MOTOR_I_RATED : Fld := ⟨0xc00018, 0, 27, 16, 1⟩
/-- MOT.SPN_MOTOR BRAKE_I (spec/15_spindle_sled_picker.md). -/
def Reg.MOT_SPN_MOTOR_BRAKE_I : Fld := ⟨0xc00018, 0, 11, 0, 1⟩
/-- MOT.SPN_INERTIA J (spec/15_spindle_sled_picker.md). -/
def Reg.MOT_SPN_INERTIA_J : Fld := ⟨0xc0001c, 0, 31, 0, 1⟩
/-- MOT.SPN_FW FW_THR (spec/15_spindle_sled_picker.md). -/
def Reg.MOT_SPN_FW_FW_THR : Fld := ⟨0xc00020, 0, 25, 16, 1⟩
/-- MOT.SPN_FW ID_MIN (spec/15_spindle_sled_picker.md). -/
def Reg.MOT_SPN_FW_ID_MIN : Fld := ⟨0xc00020, 0, 11, 0, 1⟩
/-- MOT.SPN_BRAKE V_REGEN_MAX (spec/15_spindle_sled_picker.md). -/
def Reg.MOT_SPN_BRAKE_V_REGEN_MAX : Fld := ⟨0xc00024, 0, 29, 20, 1⟩
/-- MOT.SPN_BRAKE SHORT_RPM (spec/15_spindle_sled_picker.md). -/
def Reg.MOT_SPN_BRAKE_SHORT_RPM : Fld := ⟨0xc00024, 0, 15, 0, 1⟩
/-- MOT.SPN_ACC PH_GAIN (spec/15_spindle_sled_picker.md). -/
def Reg.MOT_SPN_ACC_PH_GAIN : Fld := ⟨0xc00030, 0, 31, 16, 1⟩
/-- MOT.SPN_ACC ACC (spec/15_spindle_sled_picker.md). -/
def Reg.MOT_SPN_ACC_ACC : Fld := ⟨0xc00030, 0, 15, 0, 1⟩
/-- MOT.SPN_STATUS whole register (spec/15_spindle_sled_picker.md). -/
def Reg.MOT_SPN_STATUS_WORD : Fld := ⟨0xc00038, 0, 31, 0, 1⟩
/-- MOT.SPN_STATUS SPEED (spec/15_spindle_sled_picker.md). -/
def Reg.MOT_SPN_STATUS_SPEED : Fld := ⟨0xc00038, 0, 31, 16, 1⟩
/-- MOT.SPN_STATUS RANGE (spec/15_spindle_sled_picker.md). -/
def Reg.MOT_SPN_STATUS_RANGE : Fld := ⟨0xc00038, 0, 9, 8, 1⟩
/-- MOT.SPN_STATUS SSTATE (spec/15_spindle_sled_picker.md). -/
def Reg.MOT_SPN_STATUS_SSTATE : Fld := ⟨0xc00038, 0, 3, 0, 1⟩
/-- MOT.SPN_TARGET whole register (spec/15_spindle_sled_picker.md). -/
def Reg.MOT_SPN_TARGET_WORD : Fld := ⟨0xc0003c, 0, 31, 0, 1⟩
/-- MOT.SPN_TARGET TARGET (spec/15_spindle_sled_picker.md). -/
def Reg.MOT_SPN_TARGET_TARGET : Fld := ⟨0xc0003c, 0, 15, 0, 1⟩
/-- MOT.SPN_PHASE whole register (spec/15_spindle_sled_picker.md). -/
def Reg.MOT_SPN_PHASE_WORD : Fld := ⟨0xc00040, 0, 31, 0, 1⟩
/-- MOT.SPN_PHASE PHASE_ERR (spec/15_spindle_sled_picker.md). -/
def Reg.MOT_SPN_PHASE_PHASE_ERR : Fld := ⟨0xc00040, 0, 15, 0, 1⟩
/-- MOT.SPN_SVC whole register (spec/15_spindle_sled_picker.md). -/
def Reg.MOT_SPN_SVC_WORD : Fld := ⟨0xc00044, 0, 31, 0, 1⟩
/-- MOT.SPN_SVC EN (spec/15_spindle_sled_picker.md). -/
def Reg.MOT_SPN_SVC_EN : Fld := ⟨0xc00044, 0, 31, 31, 1⟩
/-- MOT.SPN_SVC SRC (spec/15_spindle_sled_picker.md). -/
def Reg.MOT_SPN_SVC_SRC : Fld := ⟨0xc00044, 0, 25, 24, 1⟩
/-- MOT.SPN_SVC F_MAX (spec/15_spindle_sled_picker.md). -/
def Reg.MOT_SPN_SVC_F_MAX : Fld := ⟨0xc00044, 0, 23, 12, 1⟩
/-- MOT.SPN_SVC F_MIN (spec/15_spindle_sled_picker.md). -/
def Reg.MOT_SPN_SVC_F_MIN : Fld := ⟨0xc00044, 0, 11, 0, 1⟩
/-- MOT.SPN_SVC_MAP RPM_MAX (spec/15_spindle_sled_picker.md). -/
def Reg.MOT_SPN_SVC_MAP_RPM_MAX : Fld := ⟨0xc00048, 0, 31, 16, 1⟩
/-- MOT.SPN_SVC_MAP RPM_MIN (spec/15_spindle_sled_picker.md). -/
def Reg.MOT_SPN_SVC_MAP_RPM_MIN : Fld := ⟨0xc00048, 0, 15, 0, 1⟩
/-- MOT.SPN_SVC_IN whole register (spec/15_spindle_sled_picker.md). -/
def Reg.MOT_SPN_SVC_IN_WORD : Fld := ⟨0xc0004c, 0, 31, 0, 1⟩
/-- MOT.SPN_SVC_IN N (spec/15_spindle_sled_picker.md). -/
def Reg.MOT_SPN_SVC_IN_N : Fld := ⟨0xc0004c, 0, 13, 0, 1⟩
/-- MOT.SPN_KE whole register (spec/15_spindle_sled_picker.md). -/
def Reg.MOT_SPN_KE_WORD : Fld := ⟨0xc00050, 0, 31, 0, 1⟩
/-- MOT.SPN_KE KE (spec/15_spindle_sled_picker.md). -/
def Reg.MOT_SPN_KE_KE : Fld := ⟨0xc00050, 0, 15, 0, 1⟩
/-- MOT.SKIPS COUNT (spec/15_spindle_sled_picker.md). -/
def Reg.MOT_SKIPS : Fld := ⟨0xc00080, 0, 31, 0, 1⟩
/-- MOT.PREDICTS COUNT (spec/15_spindle_sled_picker.md). -/
def Reg.MOT_PREDICTS : Fld := ⟨0xc00084, 0, 31, 0, 1⟩
/-- MOT.CLAMPS COUNT (spec/15_spindle_sled_picker.md). -/
def Reg.MOT_CLAMPS : Fld := ⟨0xc00088, 0, 31, 0, 1⟩
/-- MOT.PHASE_LOSS COUNT (spec/15_spindle_sled_picker.md). -/
def Reg.MOT_PHASE_LOSS : Fld := ⟨0xc0008c, 0, 31, 0, 1⟩
/-- MOT.REGEN_LIMITS COUNT (spec/15_spindle_sled_picker.md). -/
def Reg.MOT_REGEN_LIMITS : Fld := ⟨0xc00090, 0, 31, 0, 1⟩
/-- MOT.AXIS.CFG RUN_I (spec/15_spindle_sled_picker.md). -/
def Reg.MOT_AXIS_CFG_RUN_I : Fld := ⟨0xc00100, 64, 31, 20, 3⟩
/-- MOT.AXIS.CFG HOLD_I (spec/15_spindle_sled_picker.md). -/
def Reg.MOT_AXIS_CFG_HOLD_I : Fld := ⟨0xc00100, 64, 19, 8, 3⟩
/-- MOT.AXIS.CFG MS_BASE (spec/15_spindle_sled_picker.md). -/
def Reg.MOT_AXIS_CFG_MS_BASE : Fld := ⟨0xc00100, 64, 7, 1, 3⟩
/-- MOT.AXIS.CFG HOME_DIR (spec/15_spindle_sled_picker.md). -/
def Reg.MOT_AXIS_CFG_HOME_DIR : Fld := ⟨0xc00100, 64, 0, 0, 3⟩
/-- MOT.AXIS.TARGET TARGET (spec/15_spindle_sled_picker.md). -/
def Reg.MOT_AXIS_TARGET_TARGET : Fld := ⟨0xc00114, 64, 31, 0, 3⟩
/-- MOT.AXIS.POS whole register (spec/15_spindle_sled_picker.md). -/
def Reg.MOT_AXIS_POS_WORD : Fld := ⟨0xc00118, 64, 31, 0, 3⟩
/-- MOT.AXIS.POS POS (spec/15_spindle_sled_picker.md). -/
def Reg.MOT_AXIS_POS_POS : Fld := ⟨0xc00118, 64, 31, 0, 3⟩
/-- MOT.AXIS.REMAIN whole register (spec/15_spindle_sled_picker.md). -/
def Reg.MOT_AXIS_REMAIN_WORD : Fld := ⟨0xc0011c, 64, 31, 0, 3⟩
/-- MOT.AXIS.REMAIN REMAIN (spec/15_spindle_sled_picker.md). -/
def Reg.MOT_AXIS_REMAIN_REMAIN : Fld := ⟨0xc0011c, 64, 31, 0, 3⟩
/-- MOT.AXIS.SWEEP_V SWEEP_V (spec/15_spindle_sled_picker.md). -/
def Reg.MOT_AXIS_SWEEP_V_SWEEP_V : Fld := ⟨0xc00120, 64, 31, 0, 3⟩
/-- MOT.AXIS.FOLLOW FOLLOW (spec/15_spindle_sled_picker.md). -/
def Reg.MOT_AXIS_FOLLOW_FOLLOW : Fld := ⟨0xc00124, 64, 7, 0, 3⟩
/-- MOT.AXIS.HOME HOME_POS (spec/15_spindle_sled_picker.md). -/
def Reg.MOT_AXIS_HOME_HOME_POS : Fld := ⟨0xc00128, 64, 31, 0, 3⟩
/-- MOT.AXIS.HOME_LIM HOME_MAX (spec/15_spindle_sled_picker.md). -/
def Reg.MOT_AXIS_HOME_LIM_HOME_MAX : Fld := ⟨0xc0012c, 64, 15, 0, 3⟩
/-- MOT.AXIS.PARK PARK_POS (spec/15_spindle_sled_picker.md). -/
def Reg.MOT_AXIS_PARK_PARK_POS : Fld := ⟨0xc00130, 64, 31, 0, 3⟩
/-- MOT.AXIS.STATUS POS_VALID (spec/15_spindle_sled_picker.md). -/
def Reg.MOT_AXIS_STATUS_POS_VALID : Fld := ⟨0xc00134, 64, 31, 31, 3⟩
/-- MOT.AXIS.STATUS whole register (spec/15_spindle_sled_picker.md). -/
def Reg.MOT_AXIS_STATUS_WORD : Fld := ⟨0xc00134, 64, 31, 0, 3⟩
/-- MOT.AXIS.STATUS MOVING (spec/15_spindle_sled_picker.md). -/
def Reg.MOT_AXIS_STATUS_MOVING : Fld := ⟨0xc00134, 64, 30, 30, 3⟩
/-- MOT.AXIS.STATUS KIND (spec/15_spindle_sled_picker.md). -/
def Reg.MOT_AXIS_STATUS_KIND : Fld := ⟨0xc00134, 64, 29, 28, 3⟩
/-- MOT.AXIS.STATUS MS_K (spec/15_spindle_sled_picker.md). -/
def Reg.MOT_AXIS_STATUS_MS_K : Fld := ⟨0xc00134, 64, 11, 8, 3⟩
/-- MOT.AXIS.STATUS ASTATE (spec/15_spindle_sled_picker.md). -/
def Reg.MOT_AXIS_STATUS_ASTATE : Fld := ⟨0xc00134, 64, 2, 0, 3⟩
/-- MOT.XCHG.SLOT0 VALUE (spec/15_spindle_sled_picker.md). -/
def Reg.MOT_XCHG_SLOT0 : Fld := ⟨0xc00200, 0, 31, 0, 1⟩
/-- MOT.XCHG.SLOT_PITCH VALUE (spec/15_spindle_sled_picker.md). -/
def Reg.MOT_XCHG_SLOT_PITCH : Fld := ⟨0xc00204, 0, 31, 0, 1⟩
/-- MOT.XCHG.SHUTTLE_CLEAR VALUE (spec/15_spindle_sled_picker.md). -/
def Reg.MOT_XCHG_SHUTTLE_CLEAR : Fld := ⟨0xc00208, 0, 31, 0, 1⟩
/-- MOT.XCHG.LIFT_CART VALUE (spec/15_spindle_sled_picker.md). -/
def Reg.MOT_XCHG_LIFT_CART : Fld := ⟨0xc0020c, 0, 31, 0, 1⟩
/-- MOT.XCHG.LIFT_XFER VALUE (spec/15_spindle_sled_picker.md). -/
def Reg.MOT_XCHG_LIFT_XFER : Fld := ⟨0xc00210, 0, 31, 0, 1⟩
/-- MOT.XCHG.LIFT_SPIN VALUE (spec/15_spindle_sled_picker.md). -/
def Reg.MOT_XCHG_LIFT_SPIN : Fld := ⟨0xc00214, 0, 31, 0, 1⟩
/-- SEC.CTL CNT_CLR (spec/16_cipher_and_identity.md). -/
def Reg.SEC_CTL_CNT_CLR : Fld := ⟨0xd00000, 0, 8, 8, 1⟩
/-- SEC.STATUS whole register (spec/16_cipher_and_identity.md). -/
def Reg.SEC_STATUS_WORD : Fld := ⟨0xd00004, 0, 31, 0, 1⟩
/-- SEC.STATUS ENGINES (spec/16_cipher_and_identity.md). -/
def Reg.SEC_STATUS_ENGINES : Fld := ⟨0xd00004, 0, 20, 16, 1⟩
/-- SEC.STATUS KAT_EV (spec/16_cipher_and_identity.md). -/
def Reg.SEC_STATUS_KAT_EV : Fld := ⟨0xd00004, 0, 10, 10, 1⟩
/-- SEC.STATUS UNWRAP_EV (spec/16_cipher_and_identity.md). -/
def Reg.SEC_STATUS_UNWRAP_EV : Fld := ⟨0xd00004, 0, 9, 9, 1⟩
/-- SEC.STATUS TRNG_EV (spec/16_cipher_and_identity.md). -/
def Reg.SEC_STATUS_TRNG_EV : Fld := ⟨0xd00004, 0, 8, 8, 1⟩
/-- SEC.STATUS STATE (spec/16_cipher_and_identity.md). -/
def Reg.SEC_STATUS_STATE : Fld := ⟨0xd00004, 0, 2, 0, 1⟩
/-- SEC.POLICY COMPAT_OK (spec/16_cipher_and_identity.md). -/
def Reg.SEC_POLICY_COMPAT_OK : Fld := ⟨0xd00008, 0, 1, 1, 1⟩
/-- SEC.POLICY PLAIN_OK (spec/16_cipher_and_identity.md). -/
def Reg.SEC_POLICY_PLAIN_OK : Fld := ⟨0xd00008, 0, 0, 0, 1⟩
/-- SEC.ARB HOST_MIN (spec/16_cipher_and_identity.md). -/
def Reg.SEC_ARB_HOST_MIN : Fld := ⟨0xd0000c, 0, 3, 0, 1⟩
/-- SEC.TRNG whole register (spec/16_cipher_and_identity.md). -/
def Reg.SEC_TRNG_WORD : Fld := ⟨0xd00010, 0, 31, 0, 1⟩
/-- SEC.TRNG TSTATE (spec/16_cipher_and_identity.md). -/
def Reg.SEC_TRNG_TSTATE : Fld := ⟨0xd00010, 0, 1, 0, 1⟩
/-- SEC.BLOCKS 64-bit pair (spec/16_cipher_and_identity.md). -/
def Reg.SEC_BLOCKS : Fld := ⟨0xd00040, 0, 31, 0, 1⟩
/-- SEC.BLOCKS_LO LO (spec/16_cipher_and_identity.md). -/
def Reg.SEC_BLOCKS_LO : Fld := ⟨0xd00040, 0, 31, 0, 1⟩
/-- SEC.BLOCKS_HI HI (spec/16_cipher_and_identity.md). -/
def Reg.SEC_BLOCKS_HI : Fld := ⟨0xd00044, 0, 31, 0, 1⟩
/-- SEC.KEY_LOADS COUNT (spec/16_cipher_and_identity.md). -/
def Reg.SEC_KEY_LOADS : Fld := ⟨0xd00048, 0, 31, 0, 1⟩
/-- SEC.UNWRAP_FAIL COUNT (spec/16_cipher_and_identity.md). -/
def Reg.SEC_UNWRAP_FAIL : Fld := ⟨0xd0004c, 0, 31, 0, 1⟩
/-- SEC.TRNG_FAIL COUNT (spec/16_cipher_and_identity.md). -/
def Reg.SEC_TRNG_FAIL : Fld := ⟨0xd00050, 0, 31, 0, 1⟩
/-- SEC.SLOT LOADED (spec/16_cipher_and_identity.md). -/
def Reg.SEC_SLOT_LOADED : Fld := ⟨0xd01000, 4, 31, 31, 256⟩
/-- SEC.SLOT whole register (spec/16_cipher_and_identity.md). -/
def Reg.SEC_SLOT_WORD : Fld := ⟨0xd01000, 4, 31, 0, 256⟩
/-- SEC.SLOT SPENT (spec/16_cipher_and_identity.md). -/
def Reg.SEC_SLOT_SPENT : Fld := ⟨0xd01000, 4, 29, 29, 256⟩
/-- SEC.SLOT BITS (spec/16_cipher_and_identity.md). -/
def Reg.SEC_SLOT_BITS : Fld := ⟨0xd01000, 4, 27, 26, 256⟩
/-- SEC.SLOT USE (spec/16_cipher_and_identity.md). -/
def Reg.SEC_SLOT_USE : Fld := ⟨0xd01000, 4, 15, 8, 256⟩
/-- SEC.SLOT BOUND (spec/16_cipher_and_identity.md). -/
def Reg.SEC_SLOT_BOUND : Fld := ⟨0xd01000, 4, 4, 0, 256⟩
/-- SEC.ENG.STATUS whole register (spec/16_cipher_and_identity.md). -/
def Reg.SEC_ENG_STATUS_WORD : Fld := ⟨0xd02000, 16, 31, 0, 16⟩
/-- SEC.ENG.STATUS OK (spec/16_cipher_and_identity.md). -/
def Reg.SEC_ENG_STATUS_OK : Fld := ⟨0xd02000, 16, 31, 31, 16⟩
/-- SEC.ENG.STATUS BUSY (spec/16_cipher_and_identity.md). -/
def Reg.SEC_ENG_STATUS_BUSY : Fld := ⟨0xd02000, 16, 30, 30, 16⟩
/-- SEC.ENG.STATUS CLASS (spec/16_cipher_and_identity.md). -/
def Reg.SEC_ENG_STATUS_CLASS : Fld := ⟨0xd02000, 16, 29, 27, 16⟩
/-- SEC.ENG.STATUS SLOT (spec/16_cipher_and_identity.md). -/
def Reg.SEC_ENG_STATUS_SLOT : Fld := ⟨0xd02000, 16, 7, 0, 16⟩
/-- EFC.CTL CNT_CLR (spec/18_embedded_flash.md). -/
def Reg.EFC_CTL_CNT_CLR : Fld := ⟨0xe00000, 0, 8, 8, 1⟩
/-- EFC.STATUS whole register (spec/18_embedded_flash.md). -/
def Reg.EFC_STATUS_WORD : Fld := ⟨0xe00004, 0, 31, 0, 1⟩
/-- EFC.STATUS ERASE_ABORT_EV (spec/18_embedded_flash.md). -/
def Reg.EFC_STATUS_ERASE_ABORT_EV : Fld := ⟨0xe00004, 0, 15, 15, 1⟩
/-- EFC.STATUS UE_EV (spec/18_embedded_flash.md). -/
def Reg.EFC_STATUS_UE_EV : Fld := ⟨0xe00004, 0, 14, 14, 1⟩
/-- EFC.STATUS ECC_WARN_EV (spec/18_embedded_flash.md). -/
def Reg.EFC_STATUS_ECC_WARN_EV : Fld := ⟨0xe00004, 0, 13, 13, 1⟩
/-- EFC.STATUS BUSY_FAULT (spec/18_embedded_flash.md). -/
def Reg.EFC_STATUS_BUSY_FAULT : Fld := ⟨0xe00004, 0, 12, 12, 1⟩
/-- EFC.STATUS XO_VIOL (spec/18_embedded_flash.md). -/
def Reg.EFC_STATUS_XO_VIOL : Fld := ⟨0xe00004, 0, 11, 11, 1⟩
/-- EFC.STATUS PROT_VIOL (spec/18_embedded_flash.md). -/
def Reg.EFC_STATUS_PROT_VIOL : Fld := ⟨0xe00004, 0, 10, 10, 1⟩
/-- EFC.STATUS SEQ_ERR (spec/18_embedded_flash.md). -/
def Reg.EFC_STATUS_SEQ_ERR : Fld := ⟨0xe00004, 0, 9, 9, 1⟩
/-- EFC.STATUS DONE_EV (spec/18_embedded_flash.md). -/
def Reg.EFC_STATUS_DONE_EV : Fld := ⟨0xe00004, 0, 8, 8, 1⟩
/-- EFC.STATUS MAKER_KEY (spec/18_embedded_flash.md). -/
def Reg.EFC_STATUS_MAKER_KEY : Fld := ⟨0xe00004, 0, 7, 7, 1⟩
/-- EFC.STATUS LOCKED (spec/18_embedded_flash.md). -/
def Reg.EFC_STATUS_LOCKED : Fld := ⟨0xe00004, 0, 6, 6, 1⟩
/-- EFC.STATUS SUSPENDED (spec/18_embedded_flash.md). -/
def Reg.EFC_STATUS_SUSPENDED : Fld := ⟨0xe00004, 0, 5, 5, 1⟩
/-- EFC.STATUS BUSY1 (spec/18_embedded_flash.md). -/
def Reg.EFC_STATUS_BUSY1 : Fld := ⟨0xe00004, 0, 4, 4, 1⟩
/-- EFC.STATUS BUSY0 (spec/18_embedded_flash.md). -/
def Reg.EFC_STATUS_BUSY0 : Fld := ⟨0xe00004, 0, 3, 3, 1⟩
/-- EFC.STATUS SEQ (spec/18_embedded_flash.md). -/
def Reg.EFC_STATUS_SEQ : Fld := ⟨0xe00004, 0, 2, 0, 1⟩
/-- EFC.KEY KEY (spec/18_embedded_flash.md). -/
def Reg.EFC_KEY_KEY : Fld := ⟨0xe00008, 0, 15, 0, 1⟩
/-- EFC.CMD OP (spec/18_embedded_flash.md). -/
def Reg.EFC_CMD_OP : Fld := ⟨0xe0000c, 0, 2, 0, 1⟩
/-- EFC.ADDR whole register (spec/18_embedded_flash.md). -/
def Reg.EFC_ADDR_WORD : Fld := ⟨0xe00010, 0, 31, 0, 1⟩
/-- EFC.ADDR ADDR (spec/18_embedded_flash.md). -/
def Reg.EFC_ADDR_ADDR : Fld := ⟨0xe00010, 0, 24, 0, 1⟩
/-- EFC.RESULT whole register (spec/18_embedded_flash.md). -/
def Reg.EFC_RESULT_WORD : Fld := ⟨0xe00018, 0, 31, 0, 1⟩
/-- EFC.RESULT CODE (spec/18_embedded_flash.md). -/
def Reg.EFC_RESULT_CODE : Fld := ⟨0xe00018, 0, 2, 0, 1⟩
/-- EFC.ECC_CFG WARN_THR (spec/18_embedded_flash.md). -/
def Reg.EFC_ECC_CFG_WARN_THR : Fld := ⟨0xe0001c, 0, 2, 0, 1⟩
/-- EFC.ECC_LOG VALID (spec/18_embedded_flash.md). -/
def Reg.EFC_ECC_LOG_VALID : Fld := ⟨0xe00020, 0, 31, 31, 1⟩
/-- EFC.ECC_LOG whole register (spec/18_embedded_flash.md). -/
def Reg.EFC_ECC_LOG_WORD : Fld := ⟨0xe00020, 0, 31, 0, 1⟩
/-- EFC.ECC_LOG UE (spec/18_embedded_flash.md). -/
def Reg.EFC_ECC_LOG_UE : Fld := ⟨0xe00020, 0, 30, 30, 1⟩
/-- EFC.ECC_LOG CBITS (spec/18_embedded_flash.md). -/
def Reg.EFC_ECC_LOG_CBITS : Fld := ⟨0xe00020, 0, 29, 27, 1⟩
/-- EFC.ECC_LOG ADDR (spec/18_embedded_flash.md). -/
def Reg.EFC_ECC_LOG_ADDR : Fld := ⟨0xe00020, 0, 24, 0, 1⟩
/-- EFC.STANDING whole register (spec/18_embedded_flash.md). -/
def Reg.EFC_STANDING_WORD : Fld := ⟨0xe00024, 0, 31, 0, 1⟩
/-- EFC.STANDING KEY_BAD (spec/18_embedded_flash.md). -/
def Reg.EFC_STANDING_KEY_BAD : Fld := ⟨0xe00024, 0, 9, 9, 1⟩
/-- EFC.STANDING NO_IMAGE (spec/18_embedded_flash.md). -/
def Reg.EFC_STANDING_NO_IMAGE : Fld := ⟨0xe00024, 0, 8, 8, 1⟩
/-- EFC.STANDING CONFLICT (spec/18_embedded_flash.md). -/
def Reg.EFC_STANDING_CONFLICT : Fld := ⟨0xe00024, 0, 7, 7, 1⟩
/-- EFC.STANDING B_VALID (spec/18_embedded_flash.md). -/
def Reg.EFC_STANDING_B_VALID : Fld := ⟨0xe00024, 0, 6, 6, 1⟩
/-- EFC.STANDING A_VALID (spec/18_embedded_flash.md). -/
def Reg.EFC_STANDING_A_VALID : Fld := ⟨0xe00024, 0, 5, 5, 1⟩
/-- EFC.STANDING SIGNED (spec/18_embedded_flash.md). -/
def Reg.EFC_STANDING_SIGNED : Fld := ⟨0xe00024, 0, 4, 4, 1⟩
/-- EFC.STANDING SELECTED (spec/18_embedded_flash.md). -/
def Reg.EFC_STANDING_SELECTED : Fld := ⟨0xe00024, 0, 1, 0, 1⟩
/-- EFC.STANDING_SEQ VALUE (spec/18_embedded_flash.md). -/
def Reg.EFC_STANDING_SEQ : Fld := ⟨0xe00028, 0, 31, 0, 1⟩
/-- EFC.FW whole register (spec/18_embedded_flash.md). -/
def Reg.EFC_FW_WORD : Fld := ⟨0xe0002c, 0, 31, 0, 1⟩
/-- EFC.FW RECOVERY (spec/18_embedded_flash.md). -/
def Reg.EFC_FW_RECOVERY : Fld := ⟨0xe0002c, 0, 8, 8, 1⟩
/-- EFC.FW FALLBACK (spec/18_embedded_flash.md). -/
def Reg.EFC_FW_FALLBACK : Fld := ⟨0xe0002c, 0, 4, 4, 1⟩
/-- EFC.FW BOOT_SLOT (spec/18_embedded_flash.md). -/
def Reg.EFC_FW_BOOT_SLOT : Fld := ⟨0xe0002c, 0, 0, 0, 1⟩
/-- EFC.ABORT_ADDR VALID (spec/18_embedded_flash.md). -/
def Reg.EFC_ABORT_ADDR_VALID : Fld := ⟨0xe00030, 0, 31, 31, 1⟩
/-- EFC.ABORT_ADDR whole register (spec/18_embedded_flash.md). -/
def Reg.EFC_ABORT_ADDR_WORD : Fld := ⟨0xe00030, 0, 31, 0, 1⟩
/-- EFC.ABORT_ADDR ADDR (spec/18_embedded_flash.md). -/
def Reg.EFC_ABORT_ADDR_ADDR : Fld := ⟨0xe00030, 0, 24, 0, 1⟩
/-- EFC.PROGRAMS COUNT (spec/18_embedded_flash.md). -/
def Reg.EFC_PROGRAMS : Fld := ⟨0xe00040, 0, 31, 0, 1⟩
/-- EFC.ERASES COUNT (spec/18_embedded_flash.md). -/
def Reg.EFC_ERASES : Fld := ⟨0xe00044, 0, 31, 0, 1⟩
/-- EFC.CORRECTED COUNT (spec/18_embedded_flash.md). -/
def Reg.EFC_CORRECTED : Fld := ⟨0xe00048, 0, 31, 0, 1⟩
/-- EFC.UE COUNT (spec/18_embedded_flash.md). -/
def Reg.EFC_UE : Fld := ⟨0xe0004c, 0, 31, 0, 1⟩
/-- MBX.CTL CNT_CLR (spec/19_management_mailboxes.md). -/
def Reg.MBX_CTL_CNT_CLR : Fld := ⟨0xf00000, 0, 8, 8, 1⟩
/-- MBX.STATUS whole register (spec/19_management_mailboxes.md). -/
def Reg.MBX_STATUS_WORD : Fld := ⟨0xf00004, 0, 31, 0, 1⟩
/-- MBX.STATUS CORE_FAIL_EV (spec/19_management_mailboxes.md). -/
def Reg.MBX_STATUS_CORE_FAIL_EV : Fld := ⟨0xf00004, 0, 10, 10, 1⟩
/-- MBX.STATUS CORE_LOCK_EV (spec/19_management_mailboxes.md). -/
def Reg.MBX_STATUS_CORE_LOCK_EV : Fld := ⟨0xf00004, 0, 9, 9, 1⟩
/-- MBX.STATUS REJ_EV (spec/19_management_mailboxes.md). -/
def Reg.MBX_STATUS_REJ_EV : Fld := ⟨0xf00004, 0, 8, 8, 1⟩
/-- MBX.ARRIVED whole register (spec/19_management_mailboxes.md). -/
def Reg.MBX_ARRIVED_WORD : Fld := ⟨0xf00008, 0, 31, 0, 1⟩
/-- MBX.ARRIVED BIT (spec/19_management_mailboxes.md). -/
def Reg.MBX_ARRIVED_BIT : Fld := ⟨0xf00008, 0, 23, 0, 1⟩
/-- MBX.REJECT COUNT (spec/19_management_mailboxes.md). -/
def Reg.MBX_REJECT : Fld := ⟨0xf00010, 0, 31, 0, 1⟩
/-- MBX.OVERRUNS COUNT (spec/19_management_mailboxes.md). -/
def Reg.MBX_OVERRUNS : Fld := ⟨0xf00014, 0, 31, 0, 1⟩
/-- MBX.CORE.STATUS whole register (spec/19_management_mailboxes.md). -/
def Reg.MBX_CORE_STATUS_WORD : Fld := ⟨0xf00100, 32, 31, 0, 5⟩
/-- MBX.CORE.STATUS STAMP (spec/19_management_mailboxes.md). -/
def Reg.MBX_CORE_STATUS_STAMP : Fld := ⟨0xf00100, 32, 31, 24, 5⟩
/-- MBX.CORE.STATUS LOCKS_10S (spec/19_management_mailboxes.md). -/
def Reg.MBX_CORE_STATUS_LOCKS_10S : Fld := ⟨0xf00100, 32, 17, 16, 5⟩
/-- MBX.CORE.STATUS CAUSE (spec/19_management_mailboxes.md). -/
def Reg.MBX_CORE_STATUS_CAUSE : Fld := ⟨0xf00100, 32, 10, 8, 5⟩
/-- MBX.CORE.STATUS STATE (spec/19_management_mailboxes.md). -/
def Reg.MBX_CORE_STATUS_STATE : Fld := ⟨0xf00100, 32, 2, 0, 5⟩
/-- MBX.CORE.RESTARTS COUNT (spec/19_management_mailboxes.md). -/
def Reg.MBX_CORE_RESTARTS : Fld := ⟨0xf00104, 32, 31, 0, 5⟩
/-- MBX.CORE.LOCK_TIME 64-bit pair (spec/19_management_mailboxes.md). -/
def Reg.MBX_CORE_LOCK_TIME : Fld := ⟨0xf00108, 32, 31, 0, 5⟩
/-- MBX.CORE.LOCK_TIME_LO LO (spec/19_management_mailboxes.md). -/
def Reg.MBX_CORE_LOCK_TIME_LO : Fld := ⟨0xf00108, 32, 31, 0, 5⟩
/-- MBX.CORE.LOCK_TIME_HI HI (spec/19_management_mailboxes.md). -/
def Reg.MBX_CORE_LOCK_TIME_HI : Fld := ⟨0xf0010c, 32, 31, 0, 5⟩
/-- MBX.CORE.LOCK_INFO VALUE (spec/19_management_mailboxes.md). -/
def Reg.MBX_CORE_LOCK_INFO : Fld := ⟨0xf00110, 32, 31, 0, 5⟩
/-- MBX.BOX.WORD VALUE (spec/19_management_mailboxes.md). -/
def Reg.MBX_BOX_WORD : Fld := ⟨0xf01000, 16, 31, 0, 64⟩
/-- MBX.BOX.STATUS FULL (spec/19_management_mailboxes.md). -/
def Reg.MBX_BOX_STATUS_FULL : Fld := ⟨0xf01004, 16, 31, 31, 64⟩
/-- MBX.BOX.STATUS whole register (spec/19_management_mailboxes.md). -/
def Reg.MBX_BOX_STATUS_WORD : Fld := ⟨0xf01004, 16, 31, 0, 64⟩
/-- MBX.BOX.STATUS SEQ (spec/19_management_mailboxes.md). -/
def Reg.MBX_BOX_STATUS_SEQ : Fld := ⟨0xf01004, 16, 30, 30, 64⟩
/-- MBX.BOX.STATUS OVERRUN (spec/19_management_mailboxes.md). -/
def Reg.MBX_BOX_STATUS_OVERRUN : Fld := ⟨0xf01004, 16, 29, 29, 64⟩
/-- MBX.BOX.STATUS SENDER (spec/19_management_mailboxes.md). -/
def Reg.MBX_BOX_STATUS_SENDER : Fld := ⟨0xf01004, 16, 15, 8, 64⟩
/-- MBX.QUOIN.STATE whole register (spec/19_management_mailboxes.md). -/
def Reg.MBX_QUOIN_STATE_WORD : Fld := ⟨0xf02004, 8, 31, 0, 64⟩
/-- MBX.QUOIN.STATE HELD (spec/19_management_mailboxes.md). -/
def Reg.MBX_QUOIN_STATE_HELD : Fld := ⟨0xf02004, 8, 31, 31, 64⟩
/-- MBX.QUOIN.STATE ORPHANED (spec/19_management_mailboxes.md). -/
def Reg.MBX_QUOIN_STATE_ORPHANED : Fld := ⟨0xf02004, 8, 30, 30, 64⟩
/-- MBX.QUOIN.STATE OWNER (spec/19_management_mailboxes.md). -/
def Reg.MBX_QUOIN_STATE_OWNER : Fld := ⟨0xf02004, 8, 15, 8, 64⟩
/-- CAL.STATUS whole register (spec/20_calibration.md). -/
def Reg.CAL_STATUS_WORD : Fld := ⟨0x1000000, 0, 31, 0, 1⟩
/-- CAL.STATUS CFG_REJ (spec/20_calibration.md). -/
def Reg.CAL_STATUS_CFG_REJ : Fld := ⟨0x1000000, 0, 9, 9, 1⟩
/-- CAL.STATUS RUN_EV (spec/20_calibration.md). -/
def Reg.CAL_STATUS_RUN_EV : Fld := ⟨0x1000000, 0, 8, 8, 1⟩
/-- CAL.STATUS ACTIVE (spec/20_calibration.md). -/
def Reg.CAL_STATUS_ACTIVE : Fld := ⟨0x1000000, 0, 2, 0, 1⟩
/-- CAL.CFG DELTA (spec/20_calibration.md). -/
def Reg.CAL_CFG_DELTA : Fld := ⟨0x1000010, 0, 23, 16, 1⟩
/-- CAL.BLK.CTL HOLD (spec/20_calibration.md). -/
def Reg.CAL_BLK_CTL_HOLD : Fld := ⟨0x1000100, 32, 31, 31, 6⟩
/-- CAL.BLK.STATUS PENDING (spec/20_calibration.md). -/
def Reg.CAL_BLK_STATUS_PENDING : Fld := ⟨0x1000104, 32, 31, 31, 6⟩
/-- CAL.BLK.STATUS whole register (spec/20_calibration.md). -/
def Reg.CAL_BLK_STATUS_WORD : Fld := ⟨0x1000104, 32, 31, 0, 6⟩
/-- CAL.BLK.STATUS RUNNING (spec/20_calibration.md). -/
def Reg.CAL_BLK_STATUS_RUNNING : Fld := ⟨0x1000104, 32, 30, 30, 6⟩
/-- CAL.BLK.STATUS SLEWING (spec/20_calibration.md). -/
def Reg.CAL_BLK_STATUS_SLEWING : Fld := ⟨0x1000104, 32, 29, 29, 6⟩
/-- CAL.BLK.STATUS TEMP_LAST (spec/20_calibration.md). -/
def Reg.CAL_BLK_STATUS_TEMP_LAST : Fld := ⟨0x1000104, 32, 11, 0, 6⟩
/-- CAL.BLK.COUNT VALUE (spec/20_calibration.md). -/
def Reg.CAL_BLK_COUNT : Fld := ⟨0x1000108, 32, 31, 0, 6⟩
/-- CAL.BLK.TEMP VALUE (spec/20_calibration.md). -/
def Reg.CAL_BLK_TEMP : Fld := ⟨0x100010c, 32, 11, 0, 6⟩
/-- CAL.BLK.LAST_LO LO (spec/20_calibration.md). -/
def Reg.CAL_BLK_LAST_LO : Fld := ⟨0x1000110, 32, 31, 0, 6⟩
/-- CAL.BLK.LAST 64-bit pair (spec/20_calibration.md). -/
def Reg.CAL_BLK_LAST : Fld := ⟨0x1000110, 32, 31, 0, 6⟩
/-- CAL.BLK.LAST_HI HI (spec/20_calibration.md). -/
def Reg.CAL_BLK_LAST_HI : Fld := ⟨0x1000114, 32, 31, 0, 6⟩
/-- DBG.STATUS whole register (spec/21_register_map.md). -/
def Reg.DBG_STATUS_WORD : Fld := ⟨0x1100000, 0, 31, 0, 1⟩
/-- DBG.STATUS TAP_RESET_EV (spec/21_register_map.md). -/
def Reg.DBG_STATUS_TAP_RESET_EV : Fld := ⟨0x1100000, 0, 8, 8, 1⟩
/-- DBG.STATUS TAP_ACTIVE (spec/21_register_map.md). -/
def Reg.DBG_STATUS_TAP_ACTIVE : Fld := ⟨0x1100000, 0, 0, 0, 1⟩
/-- DBG.SCRATCH VALUE (spec/21_register_map.md). -/
def Reg.DBG_SCRATCH : Fld := ⟨0x1100010, 4, 31, 0, 4⟩
/-- COL.CTL whole register (spec/17_colophon.md). -/
def Reg.COL_CTL_WORD : Fld := ⟨0x100000000, 0, 31, 0, 1⟩
/-- COL.CTL EN (spec/17_colophon.md). -/
def Reg.COL_CTL_EN : Fld := ⟨0x100000000, 0, 0, 0, 1⟩
/-- COL.STATUS whole register (spec/17_colophon.md). -/
def Reg.COL_STATUS_WORD : Fld := ⟨0x100000004, 0, 31, 0, 1⟩
/-- COL.STATUS CFG_REJ (spec/17_colophon.md). -/
def Reg.COL_STATUS_CFG_REJ : Fld := ⟨0x100000004, 0, 16, 16, 1⟩
/-- COL.STATUS SEAL_REPAIR_EV (spec/17_colophon.md). -/
def Reg.COL_STATUS_SEAL_REPAIR_EV : Fld := ⟨0x100000004, 0, 15, 15, 1⟩
/-- COL.STATUS LINK_EV (spec/17_colophon.md). -/
def Reg.COL_STATUS_LINK_EV : Fld := ⟨0x100000004, 0, 14, 14, 1⟩
/-- COL.STATUS OVERRUN_EV (spec/17_colophon.md). -/
def Reg.COL_STATUS_OVERRUN_EV : Fld := ⟨0x100000004, 0, 13, 13, 1⟩
/-- COL.STATUS CHANGE_EV (spec/17_colophon.md). -/
def Reg.COL_STATUS_CHANGE_EV : Fld := ⟨0x100000004, 0, 12, 12, 1⟩
/-- COL.STATUS RECORD_EV (spec/17_colophon.md). -/
def Reg.COL_STATUS_RECORD_EV : Fld := ⟨0x100000004, 0, 11, 11, 1⟩
/-- COL.STATUS DISC_EV (spec/17_colophon.md). -/
def Reg.COL_STATUS_DISC_EV : Fld := ⟨0x100000004, 0, 10, 10, 1⟩
/-- COL.STATUS POWER (spec/17_colophon.md). -/
def Reg.COL_STATUS_POWER : Fld := ⟨0x100000004, 0, 9, 9, 1⟩
/-- COL.STATUS DISC (spec/17_colophon.md). -/
def Reg.COL_STATUS_DISC : Fld := ⟨0x100000004, 0, 8, 6, 1⟩
/-- COL.STATUS HELD (spec/17_colophon.md). -/
def Reg.COL_STATUS_HELD : Fld := ⟨0x100000004, 0, 3, 3, 1⟩
/-- COL.STATUS STATE (spec/17_colophon.md). -/
def Reg.COL_STATUS_STATE : Fld := ⟨0x100000004, 0, 2, 0, 1⟩
/-- COL.UNC VALUE (spec/17_colophon.md). -/
def Reg.COL_UNC : Fld := ⟨0x100000008, 0, 31, 0, 1⟩
/-- COL.TIME_LO LO (spec/17_colophon.md). -/
def Reg.COL_TIME_LO : Fld := ⟨0x100000010, 0, 31, 0, 1⟩
/-- COL.TIME 64-bit pair (spec/17_colophon.md). -/
def Reg.COL_TIME : Fld := ⟨0x100000010, 0, 31, 0, 1⟩
/-- COL.TIME_HI HI (spec/17_colophon.md). -/
def Reg.COL_TIME_HI : Fld := ⟨0x100000014, 0, 31, 0, 1⟩
/-- COL.TOD_NEXT 64-bit pair (spec/17_colophon.md). -/
def Reg.COL_TOD_NEXT : Fld := ⟨0x100000018, 0, 31, 0, 1⟩
/-- COL.TOD_CMD ARM (spec/17_colophon.md). -/
def Reg.COL_TOD_CMD_ARM : Fld := ⟨0x100000020, 0, 0, 0, 1⟩
/-- COL.TOD_SETS VALUE (spec/17_colophon.md). -/
def Reg.COL_TOD_SETS : Fld := ⟨0x100000024, 0, 31, 0, 1⟩
/-- COL.SEAL whole register (spec/17_colophon.md). -/
def Reg.COL_SEAL_WORD : Fld := ⟨0x100000030, 0, 31, 0, 1⟩
/-- COL.SEAL EXHAUSTED (spec/17_colophon.md). -/
def Reg.COL_SEAL_EXHAUSTED : Fld := ⟨0x100000030, 0, 16, 16, 1⟩
/-- COL.SEAL COUNT (spec/17_colophon.md). -/
def Reg.COL_SEAL_COUNT : Fld := ⟨0x100000030, 0, 8, 0, 1⟩
/-- COL.AUTH whole register (spec/17_colophon.md). -/
def Reg.COL_AUTH_WORD : Fld := ⟨0x100000040, 0, 31, 0, 1⟩
/-- COL.AUTH PROVISIONED (spec/17_colophon.md). -/
def Reg.COL_AUTH_PROVISIONED : Fld := ⟨0x100000040, 0, 0, 0, 1⟩
/-- COL.CHANGE_STATUS whole register (spec/17_colophon.md). -/
def Reg.COL_CHANGE_STATUS_WORD : Fld := ⟨0x100000048, 0, 31, 0, 1⟩
/-- COL.CHANGE_STATUS RESULT (spec/17_colophon.md). -/
def Reg.COL_CHANGE_STATUS_RESULT : Fld := ⟨0x100000048, 0, 2, 0, 1⟩
/-- COL.REC_HEAD 64-bit pair (spec/17_colophon.md). -/
def Reg.COL_REC_HEAD : Fld := ⟨0x100000050, 0, 31, 0, 1⟩
/-- COL.REC_HEAD_LO LO (spec/17_colophon.md). -/
def Reg.COL_REC_HEAD_LO : Fld := ⟨0x100000050, 0, 31, 0, 1⟩
/-- COL.REC_HEAD_HI HI (spec/17_colophon.md). -/
def Reg.COL_REC_HEAD_HI : Fld := ⟨0x100000054, 0, 31, 0, 1⟩
/-- COL.STROBES 64-bit pair (spec/17_colophon.md). -/
def Reg.COL_STROBES : Fld := ⟨0x100000060, 0, 31, 0, 1⟩
/-- COL.STROBES_LO LO (spec/17_colophon.md). -/
def Reg.COL_STROBES_LO : Fld := ⟨0x100000060, 0, 31, 0, 1⟩
/-- COL.STROBES_HI HI (spec/17_colophon.md). -/
def Reg.COL_STROBES_HI : Fld := ⟨0x100000064, 0, 31, 0, 1⟩
/-- COL.UNANSWERED COUNT (spec/17_colophon.md). -/
def Reg.COL_UNANSWERED : Fld := ⟨0x100000068, 0, 31, 0, 1⟩
/-- COL.AUTH_KEY VALUE (spec/17_colophon.md). -/
def Reg.COL_AUTH_KEY : Fld := ⟨0x100000100, 4, 31, 0, 24⟩
/-- COL.CHANGE VALUE (spec/17_colophon.md). -/
def Reg.COL_CHANGE : Fld := ⟨0x100000200, 4, 31, 0, 56⟩
/-- COL.CH.LAST_LO LO (spec/17_colophon.md). -/
def Reg.COL_CH_LAST_LO : Fld := ⟨0x100000400, 32, 31, 0, 8⟩
/-- COL.CH.LAST 64-bit pair (spec/17_colophon.md). -/
def Reg.COL_CH_LAST : Fld := ⟨0x100000400, 32, 31, 0, 8⟩
/-- COL.CH.LAST_HI HI (spec/17_colophon.md). -/
def Reg.COL_CH_LAST_HI : Fld := ⟨0x100000404, 32, 31, 0, 8⟩
/-- COL.CH.LAST_FINE whole register (spec/17_colophon.md). -/
def Reg.COL_CH_LAST_FINE_WORD : Fld := ⟨0x100000408, 32, 31, 0, 8⟩
/-- COL.CH.LAST_FINE EDGE (spec/17_colophon.md). -/
def Reg.COL_CH_LAST_FINE_EDGE : Fld := ⟨0x100000408, 32, 8, 8, 8⟩
/-- COL.CH.LAST_FINE FINE (spec/17_colophon.md). -/
def Reg.COL_CH_LAST_FINE_FINE : Fld := ⟨0x100000408, 32, 3, 0, 8⟩
/-- COL.CH.COUNT COUNT (spec/17_colophon.md). -/
def Reg.COL_CH_COUNT : Fld := ⟨0x10000040c, 32, 31, 0, 8⟩
/-- COL.CH.OVERRUN COUNT (spec/17_colophon.md). -/
def Reg.COL_CH_OVERRUN : Fld := ⟨0x100000410, 32, 31, 0, 8⟩
/-- MSIX1.CTL MASK (spec/08_pcie_endpoint.md). -/
def Reg.MSIX1_CTL_MASK : Fld := ⟨0x1000f000c, 16, 0, 0, 8⟩
/-- MSIX1.PBA VALUE (spec/08_pcie_endpoint.md). -/
def Reg.MSIX1_PBA : Fld := ⟨0x1000f8000, 4, 31, 0, 1⟩
/-- CFG.ID whole register (spec/08_pcie_endpoint.md). -/
def Reg.CFG_ID_WORD : Fld := ⟨0x200000000, 0x100000000, 31, 0, 2⟩
/-- CFG.ID VENDOR (spec/08_pcie_endpoint.md). -/
def Reg.CFG_ID_VENDOR : Fld := ⟨0x200000000, 0x100000000, 15, 0, 2⟩
/-- CFG.COMMAND DPE (spec/08_pcie_endpoint.md). -/
def Reg.CFG_COMMAND_DPE : Fld := ⟨0x200000004, 0x100000000, 31, 31, 2⟩
/-- CFG.COMMAND whole register (spec/08_pcie_endpoint.md). -/
def Reg.CFG_COMMAND_WORD : Fld := ⟨0x200000004, 0x100000000, 31, 0, 2⟩
/-- CFG.COMMAND SSE (spec/08_pcie_endpoint.md). -/
def Reg.CFG_COMMAND_SSE : Fld := ⟨0x200000004, 0x100000000, 30, 30, 2⟩
/-- CFG.COMMAND RMA (spec/08_pcie_endpoint.md). -/
def Reg.CFG_COMMAND_RMA : Fld := ⟨0x200000004, 0x100000000, 29, 29, 2⟩
/-- CFG.COMMAND RTA (spec/08_pcie_endpoint.md). -/
def Reg.CFG_COMMAND_RTA : Fld := ⟨0x200000004, 0x100000000, 28, 28, 2⟩
/-- CFG.COMMAND STA (spec/08_pcie_endpoint.md). -/
def Reg.CFG_COMMAND_STA : Fld := ⟨0x200000004, 0x100000000, 27, 27, 2⟩
/-- CFG.COMMAND MDPE (spec/08_pcie_endpoint.md). -/
def Reg.CFG_COMMAND_MDPE : Fld := ⟨0x200000004, 0x100000000, 24, 24, 2⟩
/-- CFG.COMMAND SERR (spec/08_pcie_endpoint.md). -/
def Reg.CFG_COMMAND_SERR : Fld := ⟨0x200000004, 0x100000000, 8, 8, 2⟩
/-- CFG.COMMAND PERR (spec/08_pcie_endpoint.md). -/
def Reg.CFG_COMMAND_PERR : Fld := ⟨0x200000004, 0x100000000, 6, 6, 2⟩
/-- CFG.COMMAND BME (spec/08_pcie_endpoint.md). -/
def Reg.CFG_COMMAND_BME : Fld := ⟨0x200000004, 0x100000000, 2, 2, 2⟩
/-- CFG.COMMAND MSE (spec/08_pcie_endpoint.md). -/
def Reg.CFG_COMMAND_MSE : Fld := ⟨0x200000004, 0x100000000, 1, 1, 2⟩
/-- CFG.BAR2_LO whole register (spec/08_pcie_endpoint.md). -/
def Reg.CFG_BAR2_LO_WORD : Fld := ⟨0x200000018, 0, 31, 0, 1⟩
/-- CFG.BAR2_LO ADDR (spec/08_pcie_endpoint.md). -/
def Reg.CFG_BAR2_LO_ADDR : Fld := ⟨0x200000018, 0, 31, 28, 1⟩
/-- CFG.BAR2_HI whole register (spec/08_pcie_endpoint.md). -/
def Reg.CFG_BAR2_HI_WORD : Fld := ⟨0x20000001c, 0, 31, 0, 1⟩
/-- CFG.BAR2_HI ADDR (spec/08_pcie_endpoint.md). -/
def Reg.CFG_BAR2_HI_ADDR : Fld := ⟨0x20000001c, 0, 31, 0, 1⟩
/-- CFG.SUBSYS VALUE (spec/08_pcie_endpoint.md). -/
def Reg.CFG_SUBSYS : Fld := ⟨0x20000002c, 0x100000000, 31, 0, 2⟩
/-- CFG.PMCSR whole register (spec/08_pcie_endpoint.md). -/
def Reg.CFG_PMCSR_WORD : Fld := ⟨0x200000044, 0x100000000, 31, 0, 2⟩
/-- CFG.PMCSR STATE (spec/08_pcie_endpoint.md). -/
def Reg.CFG_PMCSR_STATE : Fld := ⟨0x200000044, 0x100000000, 1, 0, 2⟩
/-- CFG.DEVCTL whole register (spec/08_pcie_endpoint.md). -/
def Reg.CFG_DEVCTL_WORD : Fld := ⟨0x200000058, 0x100000000, 31, 0, 2⟩
/-- CFG.DEVCTL UR_DET (spec/08_pcie_endpoint.md). -/
def Reg.CFG_DEVCTL_UR_DET : Fld := ⟨0x200000058, 0x100000000, 19, 19, 2⟩
/-- CFG.DEVCTL FATAL_DET (spec/08_pcie_endpoint.md). -/
def Reg.CFG_DEVCTL_FATAL_DET : Fld := ⟨0x200000058, 0x100000000, 18, 18, 2⟩
/-- CFG.DEVCTL NONFATAL_DET (spec/08_pcie_endpoint.md). -/
def Reg.CFG_DEVCTL_NONFATAL_DET : Fld := ⟨0x200000058, 0x100000000, 17, 17, 2⟩
/-- CFG.DEVCTL COR_DET (spec/08_pcie_endpoint.md). -/
def Reg.CFG_DEVCTL_COR_DET : Fld := ⟨0x200000058, 0x100000000, 16, 16, 2⟩
/-- CFG.DEVCTL MPS (spec/08_pcie_endpoint.md). -/
def Reg.CFG_DEVCTL_MPS : Fld := ⟨0x200000058, 0x100000000, 7, 5, 2⟩
/-- CFG.DEVCTL RO_EN (spec/08_pcie_endpoint.md). -/
def Reg.CFG_DEVCTL_RO_EN : Fld := ⟨0x200000058, 0x100000000, 4, 4, 2⟩
/-- CFG.DEVCTL FATAL_EN (spec/08_pcie_endpoint.md). -/
def Reg.CFG_DEVCTL_FATAL_EN : Fld := ⟨0x200000058, 0x100000000, 2, 2, 2⟩
/-- CFG.DEVCTL NONFATAL_EN (spec/08_pcie_endpoint.md). -/
def Reg.CFG_DEVCTL_NONFATAL_EN : Fld := ⟨0x200000058, 0x100000000, 1, 1, 2⟩
/-- CFG.DEVCTL COR_EN (spec/08_pcie_endpoint.md). -/
def Reg.CFG_DEVCTL_COR_EN : Fld := ⟨0x200000058, 0x100000000, 0, 0, 2⟩
/-- CFG.MSIX ENABLE (spec/08_pcie_endpoint.md). -/
def Reg.CFG_MSIX_ENABLE : Fld := ⟨0x2000000b0, 0x100000000, 31, 31, 2⟩
/-- CFG.MSIX FMASK (spec/08_pcie_endpoint.md). -/
def Reg.CFG_MSIX_FMASK : Fld := ⟨0x2000000b0, 0x100000000, 30, 30, 2⟩
/-- CFG.UNC_STATUS whole register (spec/08_pcie_endpoint.md). -/
def Reg.CFG_UNC_STATUS_WORD : Fld := ⟨0x200000104, 0x100000000, 31, 0, 2⟩
/-- CFG.UNC_MASK whole register (spec/08_pcie_endpoint.md). -/
def Reg.CFG_UNC_MASK_WORD : Fld := ⟨0x200000108, 0x100000000, 31, 0, 2⟩
/-- CFG.UNC_SEV whole register (spec/08_pcie_endpoint.md). -/
def Reg.CFG_UNC_SEV_WORD : Fld := ⟨0x20000010c, 0x100000000, 31, 0, 2⟩
/-- CFG.COR_STATUS whole register (spec/08_pcie_endpoint.md). -/
def Reg.CFG_COR_STATUS_WORD : Fld := ⟨0x200000110, 0x100000000, 31, 0, 2⟩
/-- CFG.COR_MASK whole register (spec/08_pcie_endpoint.md). -/
def Reg.CFG_COR_MASK_WORD : Fld := ⟨0x200000114, 0x100000000, 31, 0, 2⟩
/-- CFG.AERCTL whole register (spec/08_pcie_endpoint.md). -/
def Reg.CFG_AERCTL_WORD : Fld := ⟨0x200000118, 0x100000000, 31, 0, 2⟩
/-- CFG.AERCTL FEP (spec/08_pcie_endpoint.md). -/
def Reg.CFG_AERCTL_FEP : Fld := ⟨0x200000118, 0x100000000, 4, 0, 2⟩
/-- CFG.HDRLOG VALUE (spec/08_pcie_endpoint.md). -/
def Reg.CFG_HDRLOG : Fld := ⟨0x20000011c, 0x100000000, 31, 0, 2⟩
/-- CFG.HDRLOG2 VALUE (spec/08_pcie_endpoint.md). -/
def Reg.CFG_HDRLOG2 : Fld := ⟨0x200000138, 0x100000000, 31, 0, 2⟩
/-- CFG.RBAR_CTL whole register (spec/08_pcie_endpoint.md). -/
def Reg.CFG_RBAR_CTL_WORD : Fld := ⟨0x200000348, 0, 31, 0, 1⟩
/-- CFG.RBAR_CTL SIZE (spec/08_pcie_endpoint.md). -/
def Reg.CFG_RBAR_CTL_SIZE : Fld := ⟨0x200000348, 0, 13, 8, 1⟩
/-- CFG.CONT_CTL whole register (spec/08_pcie_endpoint.md). -/
def Reg.CFG_CONT_CTL_WORD : Fld := ⟨0x200000388, 0x100000000, 31, 0, 2⟩
/-- CFG.CONT_CTL AUTO_EN (spec/08_pcie_endpoint.md). -/
def Reg.CFG_CONT_CTL_AUTO_EN : Fld := ⟨0x200000388, 0x100000000, 1, 1, 2⟩
/-- CFG.CONT_CTL FREEZE (spec/08_pcie_endpoint.md). -/
def Reg.CFG_CONT_CTL_FREEZE : Fld := ⟨0x200000388, 0x100000000, 0, 0, 2⟩
/-- CFG.CONT_STATUS HELD_CPL (spec/08_pcie_endpoint.md). -/
def Reg.CFG_CONT_STATUS_HELD_CPL : Fld := ⟨0x20000038c, 0x100000000, 31, 24, 2⟩
/-- CFG.CONT_STATUS whole register (spec/08_pcie_endpoint.md). -/
def Reg.CFG_CONT_STATUS_WORD : Fld := ⟨0x20000038c, 0x100000000, 31, 0, 2⟩
/-- CFG.CONT_STATUS FREEZE_SEQ (spec/08_pcie_endpoint.md). -/
def Reg.CFG_CONT_STATUS_FREEZE_SEQ : Fld := ⟨0x20000038c, 0x100000000, 15, 8, 2⟩
/-- CFG.CONT_STATUS RELEASE_REJ (spec/08_pcie_endpoint.md). -/
def Reg.CFG_CONT_STATUS_RELEASE_REJ : Fld := ⟨0x20000038c, 0x100000000, 7, 7, 2⟩
/-- CFG.CONT_STATUS CAUSE_AOS (spec/08_pcie_endpoint.md). -/
def Reg.CFG_CONT_STATUS_CAUSE_AOS : Fld := ⟨0x20000038c, 0x100000000, 4, 4, 2⟩
/-- CFG.CONT_STATUS CAUSE_INTERNAL (spec/08_pcie_endpoint.md). -/
def Reg.CFG_CONT_STATUS_CAUSE_INTERNAL : Fld := ⟨0x20000038c, 0x100000000, 3, 3, 2⟩
/-- CFG.CONT_STATUS CAUSE_ERR (spec/08_pcie_endpoint.md). -/
def Reg.CFG_CONT_STATUS_CAUSE_ERR : Fld := ⟨0x20000038c, 0x100000000, 2, 2, 2⟩
/-- CFG.CONT_STATUS CAUSE_HOST (spec/08_pcie_endpoint.md). -/
def Reg.CFG_CONT_STATUS_CAUSE_HOST : Fld := ⟨0x20000038c, 0x100000000, 1, 1, 2⟩
/-- CFG.CONT_STATUS CONTAINED (spec/08_pcie_endpoint.md). -/
def Reg.CFG_CONT_STATUS_CONTAINED : Fld := ⟨0x20000038c, 0x100000000, 0, 0, 2⟩
/-- CFG.ENTRY_TIME_LO LO (spec/08_pcie_endpoint.md). -/
def Reg.CFG_ENTRY_TIME_LO : Fld := ⟨0x200000390, 0x100000000, 31, 0, 2⟩
/-- CFG.ENTRY_TIME 64-bit pair (spec/08_pcie_endpoint.md). -/
def Reg.CFG_ENTRY_TIME : Fld := ⟨0x200000390, 0x100000000, 31, 0, 2⟩
/-- CFG.ENTRY_TIME_HI HI (spec/08_pcie_endpoint.md). -/
def Reg.CFG_ENTRY_TIME_HI : Fld := ⟨0x200000394, 0x100000000, 31, 0, 2⟩
/-- MSIX0.CTL MASK (spec/08_pcie_endpoint.md). -/
def Reg.MSIX0_CTL_MASK : Fld := ⟨0x40000000c, 16, 0, 0, 2048⟩
/-- MSIX0.PBA VALUE (spec/08_pcie_endpoint.md). -/
def Reg.MSIX0_PBA : Fld := ⟨0x400008000, 4, 31, 0, 64⟩

end Sys2Proof.Machine
end

