-- ==== Sys2Proof/Machine/Sparse.lean ====
section
/-!
DEFINITION. Sparse maps in one canonical form: a list of key and value pairs, keys strictly rising, no entry equal to
what an unlisted key reads as.  Memory, the register file and every array of the block are held so.
MODEL's own representation (log 1).
-/
namespace Sys2Proof.Machine

/-- What key `k` reads as; `dflt` is what an unlisted key reads as. -/
def sget {α : Type} (dflt : Nat → α) : List (Nat × α) → Nat → α
  | [], k => dflt k
  | (k', v) :: r, k => if k = k' then v else sget dflt r k

/-- Drop the entry of a key: it reads as its default afterwards. -/
def sdrop {α : Type} : List (Nat × α) → Nat → List (Nat × α)
  | [], _ => []
  | (k', v) :: r, k => if k = k' then sdrop r k else (k', v) :: sdrop r k

/-- Insert an entry before the first greater key. -/
def sinsert {α : Type} : List (Nat × α) → Nat → α → List (Nat × α)
  | [], k, v => [(k, v)]
  | (k', v') :: r, k, v => if k < k' then (k, v) :: (k', v') :: r else (k', v') :: sinsert r k v

/-- Put `v` at `k`, keeping the canonical form: the value an unlisted key reads as removes the entry. -/
def sput {α : Type} [DecidableEq α] (dflt : Nat → α) (m : List (Nat × α)) (k : Nat) (v : α) : List (Nat × α) :=
  if v = dflt k then sdrop m k else sinsert (sdrop m k) k v

/-- All keys of the list lie above `b` (a strictly rising list). -/
def srising {α : Type} : Option Nat → List (Nat × α) → Bool
  | _, [] => true
  | none, (k, _) :: r => srising (some k) r
  | some b, (k, _) :: r => decide (b < k) && srising (some k) r

/-- The canonical form: keys strictly rising, no entry equal to its default. -/
def swf {α : Type} [DecidableEq α] (dflt : Nat → α) (m : List (Nat × α)) : Bool :=
  srising none m && m.all (fun e => !decide (e.2 = dflt e.1))

/-- Drop every entry whose key lies in `[lo, hi)`: each reads as its default afterwards. -/
def sclear {α : Type} (m : List (Nat × α)) (lo hi : Nat) : List (Nat × α) :=
  m.filter (fun e => decide (e.1 < lo) || decide (hi ≤ e.1))

/-- Keep only the entries that `p` accepts; every other key reads as its default afterwards. -/
def skeep {α : Type} (m : List (Nat × α)) (p : Nat → Bool) : List (Nat × α) :=
  m.filter (fun e => p e.1)

/-- Apply `f` to every listed value (for a default that `f` fixes). -/
def smap {α : Type} [DecidableEq α] (dflt : Nat → α) (m : List (Nat × α)) (f : Nat → α → α) : List (Nat × α) :=
  (m.map (fun e => (e.1, f e.1 e.2))).filter (fun e => !decide (e.2 = dflt e.1))

end Sys2Proof.Machine
end

