-- ==== Sys2Proof/Config.lean ====
section
/-!
DEFINITION. What an implementation fixes and the free values: constants with no body for every value that the spec leaves
open while the machine goes on.  A free value is applied to the counter `State.fresh`, which a step reads and advances, or to
the operands it depends on.  Log 4.
-/
namespace Sys2Proof

/-- The parts of the family (00, table "Family members and optional units"; 01 R29). -/
structure Part where
  lanes : Nat
  clusters : Nat
  stackCount : Nat
  archive : Bool
  colophon : Bool
  deriving DecidableEq, Repr

/-- The full ZY-4256, the part the manual describes (00). -/
def Part.zy4256 : Part := ⟨256, 32, 4, true, true⟩
/-- ZY-4128 (00). -/
def Part.zy4128 : Part := ⟨128, 16, 2, false, true⟩
/-- ZY-4256-C (00). -/
def Part.zy4256C : Part := ⟨256, 32, 4, true, false⟩

/-- A free value: the spec gives it no value (log 4). -/
opaque Config.free : Nat → BitVec 64
/-- Byte `i` of a free byte string: signatures, nonces, TRNG output (16 R420, R426, 17 R433; log 4). -/
opaque Config.freeByte : Nat → Nat → Byte
/-- Content bytes of the device identity's serial number (16 R423, R425): fixed at manufacture, not in the spec (log 4). -/
opaque Config.serial : Nat → Byte
/-- A DER certificate chain by identity: 0 DEVICE, 1 COLOPHON, 2 ARCHIVE, 3 MAGAZINE (16 R424, 17; log 4). -/
opaque Config.cert : Nat → List Byte
/-- Public point of the leaf of a certificate chain that leads to the Gedumond root, `none` where it does not: parsing and
checking of X.509 certificates is not in the spec (12 R327; log 4). -/
opaque Config.leafKey : List Byte → Option (List Byte)
/-- What the decoder makes of an error pattern in 6 or more byte positions of a galley codeword: `none` where it reports it, else the
corrections that it applies in error, none where it sees no error.  06 R157 says only that detection is not guaranteed; the decoder
is one function of the codeword, so every read of the line answers the same (06 R171; log 4). -/
opaque Config.rsBeyond : List (Nat × Byte) → Option (List (Nat × Byte))
/-- Bytes of the colophon's factory configuration entry that the spec does not give (17 R445; log 4). -/
opaque Config.factoryByte : Nat → Byte

end Sys2Proof
end

