-- ==== Sys2Proof/Machine/StateFront.lean ====
section
/-!
DEFINITION. State of the front of the block that no register shows: lanes and ports (03), capture and takes (04), compositors
(05), the galley (06) and pairing (07).  Every array is a sparse map in canonical form (Machine/Sparse.lean); the value a
structure's fields take by default is the value after power-on reset.
-/
namespace Sys2Proof.Machine

/-- A line block as it stands in the relay buffer or leaves a transmitter: header bits and unscrambled payload (03 R67). -/
structure LineBlock where
  /-- First header bit. -/
  h0 : Bool
  /-- Second header bit. -/
  h1 : Bool
  payload : Word64
  deriving DecidableEq, Repr

/-- One lane's receiver and transmitter (03 R68-R95). -/
structure LaneSt where
  /-- Block times with block lock since the receiver left OFF (03 R93). -/
  lockTime : Nat := 0
  /-- Lock times of the 16 newest invalid sync headers, newest first (03 R76, R93). -/
  bad : List Nat := []
  /-- Blocks begun since LOCKED was reached (03 R76). -/
  sinceLock : Nat := 0
  /-- Blocks of the packing group in progress, oldest first (03 R72). -/
  group : List Word64 := []
  /-- A block of the packing group had an invalid sync header (03 R74). -/
  groupBad : Bool := false
  /-- LINE of its latest LS of the frame, and whether the capture unit accepted that line (03 R73; 04 R99). -/
  line : Option Nat := none
  accepted : Bool := false
  /-- Packing groups of that line that this lane has finished (03 R73). -/
  groupsDone : Nat := 0
  /-- The lane delivers in its port's deskewed slot (03 R79-R81). -/
  joined : Bool := false
  /-- It matched a later ALIGN and rejoins at its next LS (03 R81). -/
  rejoining : Bool := false
  /-- The relay forwards since an FS block (03 R87). -/
  relayOn : Bool := false
  /-- Relay elastic buffer, oldest first (03 R88). -/
  relayBuf : List LineBlock := []
  /-- Training bursts sent, modulo 65,536 (03 R85). -/
  bursts : Nat := 0
  /-- A training burst is being sent (03 R85). -/
  inBurst : Bool := false
  /-- Head or playback content waits for or flows on this lane (03 R84, R91, R92). -/
  content : Bool := false
  /-- PRBS31 checker: reference generator and bits taken since the receiver entered PRBS (03 R95). -/
  prbs : BitVec 31 := 0
  prbsBits : Nat := 0
  /-- The last 58 received payload bits, and the last 58 that the transmitter sent (03 R68). -/
  descrambler : BitVec 58 := BitVec.allOnes 58
  scrambler : BitVec 58 := BitVec.allOnes 58
  /-- PRBS31 generator while PRBS_TX is set: the last 31 bits sent, newest in bit 0 (03 R95). -/
  prbsGen : BitVec 31 := 0
  /-- Blocks since the last valid control block (03 R97). -/
  ctlGap : Nat := 0
  deriving DecidableEq, Repr

/-- One port's deskew and delivery (03 R79-R82, R86, R91). -/
structure PortSt where
  /-- Deskew delay by lane position, blocks (03 R79). -/
  delays : List (Nat × Nat) := []
  /-- The port holds a deskewed slot (03 R79, R81). -/
  deskewed : Bool := false
  /-- ALIGN arrivals not yet paired: SEQ, lane position, slot (03 R79). -/
  aligns : List (Nat × Nat × Nat) := []
  /-- The deskewed slot of the latest ALIGN and the positions that hit it (03 R80). -/
  slot : Option Nat := none
  slotSeen : List Nat := []
  /-- FS blocks of the coming frame: lane position and FRAME_SEQ (03 R74). -/
  fs : List (Nat × Nat) := []
  /-- The port delivers a frame: an FS on which its lanes agreed has arrived (03 R74, R79). -/
  delivering : Bool := false
  /-- The frame number to which the capture unit takes the port's lines (04 R100). -/
  frame : Option Nat := none
  /-- Its lines are discarded and counted (04 R99, R101). -/
  stale : Bool := false
  /-- The latest line that the port delivered and whether the capture unit accepted it (04 R99). -/
  line : Option (Nat × Bool) := none
  /-- Positions whose FE of the frame arrived (03 R74). -/
  fe : List Nat := []
  /-- Positions that have finished their line while STOPPING (03 R82). -/
  drained : List Nat := []
  /-- SEQ of the next ALIGN sent by the port's transmit lanes (03 R86); port 32 stands for PL0 and PL1. -/
  alignSeq : Nat := 0
  /-- Frame that head transmit sends, and its lines sent (03 R91). -/
  head : Option Nat := none
  headSent : List Nat := []
  /-- Frames below this number are done with, for head transmit (03 R91). -/
  headFrom : Nat := 0
  deriving DecidableEq, Repr

/-- What the rules say of a sort's samples (04 R105). -/
inductive SortState where
  | complete | incomplete | absent
  deriving DecidableEq, Repr

/-- One stripe map entry as an open frame keeps it (04 R98, R125). -/
structure Stripe where
  en : Bool
  base : Nat
  count : Nat
  stride : Nat
  deriving DecidableEq, Repr

/-- A sort placed in its forme: offset, length, state and poison (06 R162). -/
structure Placed where
  off : Nat
  len : Nat
  state : SortState
  poisoned : Bool
  deriving DecidableEq, Repr

/-- A coded sort between its compositor and its final place (05 R134, 06 R163). -/
structure CodedSort where
  frame : Nat
  sort : Nat
  bytes : List Byte
  state : SortState
  poisoned : Bool
  deriving DecidableEq, Repr

/-- A frame from its opening until its forme is complete or it is discarded (04 R98-R112, 06 R161-R165). -/
structure Frame where
  num : Nat
  seq : Nat
  devtime : Nat
  /-- Certified time once the colophon returned it (04 R109). -/
  cert : Option Nat := none
  width : Nat
  height : Nat
  cfa : Nat
  stripes : List Stripe
  /-- SKEW and TIMEOUT as they stood at the opening (04 R100, R102, R125). -/
  skew : Nat := 0
  timeout : Nat := 0
  isOpen : Bool := true
  /-- Ports whose matching FS arrived, whose end arrived, and which are excluded (04 R100, R102). -/
  fsPorts : List Nat := []
  ended : List Nat := []
  excluded : List Nat := []
  /-- Index of the next expected line of each port's entry (04 R99). -/
  expect : List (Nat × Nat) := []
  /-- Lines: 1 in progress, 2 received, 3 not received (04 R99, R103). -/
  lines : List (Nat × Nat) := []
  /-- Packing groups received: key line * 2048 + group (03 R72). -/
  groups : List (Nat × BitVec 448) := []
  /-- Tile rows that took assembly slots, and the slots held (04 R104). -/
  rowsHeld : List Nat := []
  slots : Nat := 0
  /-- Tile rows already cut into sorts (04 R103). -/
  rowsReady : List Nat := []
  /-- States of the sorts that are ready; key sort number (04 R105). -/
  sorts : List (Nat × SortState) := []
  /-- Segment of the take that receives the frame (04 R117). -/
  take : Option Nat := none
  /-- Offset of the forme's span in the segment (06 R164). -/
  span : Option Nat := none
  /-- No forme of it is stored: dropped, or no longer wanted (04 R121, R123). -/
  dropped : Bool := false
  /-- It found no assembly slot and is not assembled further (04 R104). -/
  noSlot : Bool := false
  /-- It is counted in one of the drop counters, or is to be counted once a line arrives for it (04 R123). -/
  counted : Bool := false
  owed : Bool := false
  marks : List Nat := [0, 0, 0, 0, 0, 0, 0, 0]
  /-- Frontier of the forme writer, and the offset there (06 R163). -/
  frontier : Nat := 0
  nextOff : Nat := 0
  /-- Bytes of the directory's last line that belong to sorts, and of the line being filled (06 R173). -/
  lead : List Byte := []
  tail : List Byte := []
  placed : List (Nat × Placed) := []
  /-- Lines that hold a byte of a poisoned sort in its final place (06 R171). -/
  bad : List Nat := []
  /-- Sorts held in the forme store and sorts parked (06 R163). -/
  held : List CodedSort := []
  parked : List CodedSort := []
  /-- Every sort has reached its final offset; TAKE_SEQ and the count of missing sorts (04 R106). -/
  complete : Bool := false
  takeSeq : Nat := 0
  missing : Nat := 0
  headerDone : Bool := false
  deriving DecidableEq, Repr

/-- What occupies a span of a segment's ring (06 R161, R165). -/
inductive SpanKind where
  | openForme | forme | gap | padding
  deriving DecidableEq, Repr

/-- A span of a segment's ring, in the order of the walk (06 R165, R167). -/
structure Span where
  off : Nat
  len : Nat
  kind : SpanKind
  frame : Nat
  /-- FORME_BYTES of a complete forme (04 R106). -/
  bytes : Nat := 0
  /-- SRC_SEQ of its frame (07 R185). -/
  seq : Nat := 0
  /-- An export copied it (04 R120); the colophon was told that it is stored (17 R439). -/
  exported : Bool := false
  told : Bool := false
  /-- Its forme is complete, with missing sorts, with an UNCERTIFIED header (04 R106, R124; 17 R439). -/
  done : Bool := false
  incomplete : Bool := false
  uncert : Bool := false
  deriving DecidableEq, Repr

/-- Take parameters (04 R114). -/
structure TakeParams where
  start : Nat := 0
  trigSel : Nat := 0
  trigLogic : Nat := 0
  preFrac : Nat := 0
  basis : Nat := 0
  post : Nat := 0
  full : Nat := 0
  codeMode : Nat := 0
  bound : Nat := 0
  deriving DecidableEq, Repr

/-- The take in a segment, beside its registers (04 R114-R124). -/
structure TakeSt where
  p : TakeParams := {}
  /-- Order of the arm command (04 R117). -/
  order : Nat := 0
  formeMax : Nat := 0
  segBytes : Nat := 0
  segCfg : Nat := 0
  /-- Device time of the entry to ARMED, and inputs that had a qualifying event since (04 R111). -/
  armedAt : Nat := 0
  qualified : List Nat := []
  /-- Time of the event that joined them last (04 R111). -/
  qualTime : Nat := 0
  trigTime : Nat := 0
  trigInput : Nat := 255
  triggered : Bool := false
  /-- The trigger frame is the next frame to open (04 R112). -/
  trigNext : Bool := false
  trigFrame : Nat := 0
  spans : List Span := []
  reserveOff : Nat := 0
  /-- Frames opened for the take from the trigger frame on or from arm, less dropped ones (04 R114). -/
  postOpened : Nat := 0
  /-- Formes completed since arm (04 R106). -/
  seqNext : Nat := 0
  dropped : Nat := 0
  cut : Bool := false
  uncertified : Bool := false
  fromArmed : Bool := false
  closeTime : Nat := 0
  /-- CLOSE was sent; its record was written (04 R122, 17 R442). -/
  closeSent : Bool := false
  recordArrived : Bool := false
  /-- The 64 bytes of the summary, once CLOSED (04 R124). -/
  summary : List Byte := []
  /-- STOP and RELEASE commands that wait for the take (04 R116, R532). -/
  waiting : List Nat := []
  /-- The newest and oldest offsets that the latest slot copy holds (06 R167). -/
  slotOldest : Option Nat := none
  slotNewest : Option Nat := none
  /-- Scheduled start and stop SRC_SEQ (07 R186, R192). -/
  firstSeq : Option Nat := none
  stopSeq : Option Nat := none
  /-- SRC_SEQ of the trigger frame (07 R189). -/
  trigSeq : Option Nat := none
  /-- Shadow trigger: time, latest opened SRC_SEQ, input, and the frame that it names (07 R194). -/
  shadow : Option (Nat × Nat × Nat × Nat) := none
  deriving DecidableEq, Repr

/-- One trigger input's filter (04 R110). -/
structure TrigSt where
  pin : Bool := false
  filtered : Bool := false
  /-- Time of a transition that has not yet persisted (04 R110). -/
  since : Option Nat := none
  /-- When the filtered level, or the input's configuration, last changed (04 R111). -/
  settled : Nat := 0
  deriving DecidableEq, Repr

/-- The capture unit (04). -/
structure CapSt where
  /-- Frames not yet retired, oldest first (04 R100). -/
  frames : List Frame := []
  takes : List (Nat × TakeSt) := []
  trig : List (Nat × TrigSt) := []
  /-- Last assigned TAKE_ID (04 R116). -/
  takeId : Nat := 0
  /-- Arm orders given (04 R117). -/
  orders : Nat := 0
  /-- SRC_SEQ of the latest opened frame (07 R186). -/
  lastSeq : Option Nat := none
  /-- Segment of the take that closes at its last forme because the unit was disabled (04 R126). -/
  stopSeg : Option Nat := none
  /-- High-word shadows: key 16 * low-word key + requester (04 R127). -/
  shadows : List (Nat × Nat) := []
  deriving DecidableEq, Repr

/-- A sort held by a compositor (05 R128). -/
structure Held where
  frame : Nat
  sort : Nat
  /-- The read of the assembly slot has ended (05 R128). -/
  read : Bool := false
  /-- The local copy: 4,096 samples as the store delivered them (05 R128, R139), with what else R133 makes the coding depend on. -/
  samples : List Nat := []
  mode : Nat := 0
  bound : Nat := 0
  cfa : Nat := 0
  state : SortState := .complete
  poisoned : Bool := false
  deriving DecidableEq, Repr

/-- The compositor array (05). -/
structure CmpSt where
  /-- Cluster queues, oldest sort first: frame and sort number (05 R129). -/
  queues : List (Nat × List (Nat × Nat)) := []
  /-- Compositors that hold a sort. -/
  held : List (Nat × Held) := []
  /-- Ready sorts with no RUNNING cluster (05 R129). -/
  unqueued : List (Nat × Nat) := []
  /-- Coded sorts on their way to the forme writer (05 R134). -/
  out : List CodedSort := []
  deriving DecidableEq, Repr

/-- A BAR2 access at the galley: its galley address, and the bytes of a write, `none` where a byte enable is 0, or the length of a
read (08 R204; 06 R179); with `fw` a write of housekeeping by the device itself. -/
structure HostAccess where
  fw : Bool := false
  addr : Nat
  len : Nat := 0
  bytes : Option (List (Option Byte)) := none
  poisoned : Bool := false
  deriving DecidableEq, Repr

/-- The galley (06). -/
structure GalSt where
  /-- Data bytes; an unlisted byte reads 0 (06 R175; log 5). -/
  mem : List (Nat × Byte) := []
  /-- POISON tags by line number (06 R156). -/
  poison : List (Nat × Bool) := []
  /-- Errors by line number, as `Damage` gives them: the bits that differ from what was written (06 R156, R157). -/
  errs : List (Nat × List (Nat × Byte)) := []
  /-- Granules written or initialized; an unlisted granule is never-written (06 R175). -/
  written : List (Nat × Bool) := []
  /-- Drain classes are paused (06 R169), and for how many FAB cycles so far. -/
  paused : Bool := false
  pausedTicks : Nat := 0
  /-- BAR2 and housekeeping accesses that wait while their class is not served, oldest first (06 R168, R169). -/
  delayed : List HostAccess := []
  /-- Next line of the patrol scrubber (06 R178). -/
  scrubLine : Nat := 0
  /-- The AOS holds the galley in self-refresh (06 R180). -/
  kept : Bool := false
  /-- Takes have to be recovered before capture runs (06 R181). -/
  recover : Bool := false
  deriving DecidableEq, Repr

/-- One pairing lane's reception of an epoch (07 R188, R190). -/
structure EpochRx where
  /-- SEQ and PARAM of the EPOCH_BEGIN. -/
  begun : Option (Nat × Nat) := none
  /-- Data blocks since it, oldest first. -/
  blocks : List Word64 := []
  deriving DecidableEq, Repr

/-- The pairing unit (07). -/
structure PairSt where
  rx : List (Nat × EpochRx) := []
  /-- Record bytes committed from one lane while the other copy may still differ: epoch and bytes (07 R190). -/
  lastCopy : Option (Nat × Nat × List Byte) := none
  /-- Records that wait for the next epoch, each 32 bytes (07 R188). -/
  records : List (List Byte) := []
  /-- The next epoch is a RESYNC epoch (07 R191). -/
  resync : Bool := false
  /-- Role of the peer's last HEARTBEAT, and its SYNC bit (07 R191). -/
  peerRole : Nat := 0
  peerSync : Bool := false
  /-- PAIR_PEER_N has read high for 2 us (07 R184). -/
  peerHigh : Bool := false
  /-- The evaluation drove the claim and waits for the re-sample (07 R184). -/
  resampling : Bool := false
  /-- A contended claim was seen at the first re-sample (07 R184). -/
  contended : Bool := false
  /-- LEAVING heartbeats are being sent (07 R197). -/
  leaving : Bool := false
  /-- Lanes reported down (03 R97). -/
  down : List Nat := [0, 1]
  /-- Records of an epoch committed from PL1, which wait for the copy of PL0: record count and bytes (07 R190). -/
  heldCopy : Option (Nat × List Byte) := none
  /-- Arms that could not be applied: segment and TAKE_ID (07 R193). -/
  failedArms : List (Nat × Nat) := []
  /-- A partial epoch at takeover (07 R196). -/
  partialEpoch : Nat := 0
  deriving DecidableEq, Repr

end Sys2Proof.Machine
end

