-- ==== Sys2Proof/Machine/StateHost.lean ====
section
/-!
DEFINITION. State of the host side that no register shows: what the block sent out, the PCIe endpoint (08), the host queue
engine (09), and supply, clocks and resets (02).  Field defaults are the values after power-on reset.
-/
namespace Sys2Proof.Machine

/-- What leaves the block, newest first in `State.outbox` (MODEL's own record of outputs, log 6). -/
inductive Output where
  /-- An MSI-X message of a function's vector (08 R209). -/
  | msix (fn vec : Nat)
  /-- A memory write to the host: address, data, poisoned TLP (08 R212), Relaxed Ordering attribute (08 R211). -/
  | hostWrite (addr : Nat) (bytes : List Byte) (poisoned relaxed : Bool)
  /-- A memory read of host memory (09 R231, R229). -/
  | hostRead (addr len : Nat)
  /-- Data of a read completion, with the 64-byte lines of it that are poisoned (08 R205, R212). -/
  | reply (bytes : List Byte) (poisoned : List Nat)
  /-- A register read's value. -/
  | value (v : Nat)
  /-- Completer Abort (08 R203), Unsupported Request (08 R220), Request Retry Status (02 R39). -/
  | completerAbort
  | unsupported
  | retry
  /-- A successful configuration write completion. -/
  | cplOk
  /-- A line block sent on a lane, and its payload as scrambled on the line (03 R67, R68). -/
  | block (lane : Nat) (b : LineBlock) (line : Word64)
  /-- The 66 raw bits of a block time of a lane that sends PRBS31 (03 R95). -/
  | prbs (lane : Nat) (bits : List Bool)
  /-- A bus fault answered to firmware (18 R452). -/
  | busFault
  /-- A folio recorded at a physical folio address: the channel bits of its 320 rows (12 R307, R314). -/
  | folio (pfa : Nat) (rows : List (List Bool))
  /-- Laser pulses of one data-field piece on a beam: its power register's word, and marks as write pulses with the end of their cooling, in
  units of T/32 from the piece's first bit (13 R334). -/
  | pulses (beam : Nat) (power : BitVec 32) (marks : List (List (Int × Int) × Int))
  /-- TDO data of the boundary scan (22 R530). -/
  | tdo (bits : List Bool)
  /-- An error message of a function: 0 correctable, 1 non-fatal, 2 fatal (08 R217). -/
  | errMessage (fn kind : Nat)
  deriving DecidableEq, Repr

/-- A command taken from a ring and not yet completed (09 R237-R251). -/
structure Cmd where
  tag : Nat
  sq : Nat
  cid : Nat
  epoch : Nat
  entry : List Byte
  /-- The unit has begun it (09 R245). -/
  begun : Bool := false
  /-- Its completion is determined; the entry is due or held (09 R241). -/
  determined : Bool := false
  /-- Past the point up to which ABORT can catch it (09 R250). -/
  pastAbort : Bool := false
  /-- An ABORT or a ring delete caught it while its unit finishes (09 R250, R251): the status it will have. -/
  caught : Option Nat := none
  /-- Its ring was cleared by a reset: it goes on without a completion (02 R42). -/
  abandoned : Bool := false
  /-- Blocks, formes, folios or bytes done so far. -/
  progress : Nat := 0
  /-- 7-block units of the forme being played that have been sent (03 R92). -/
  unit : Nat := 0
  /-- Data moved so far was delivered poisoned, and the first such place (09 R247, R249). -/
  poisoned : Bool := false
  detail : Nat := 0
  deriving DecidableEq, Repr

/-- A completion entry that is due (09 R241). -/
structure CplEntry where
  cid : Nat
  sq : Nat
  epoch : Nat
  status : Nat
  flags : Nat
  result : Nat
  deriving DecidableEq, Repr

/-- Fields that a RING_CREATE sets (09, "Administration"): base, DEPTH_M1, target CQ or vector, WEIGHT or COAL, FREEZE_ON_ERR
or IEN. -/
structure RingFields where
  base : Nat
  depth : Nat
  target : Nat
  rate : Nat
  opt : Bool
  deriving DecidableEq, Repr

/-- A submission ring beside its registers (09 R227, R244). -/
structure SqSt where
  tail : Nat := 0
  wraps : Nat := 0
  /-- RING_CREATE and RING_DELETE commands that wait for the ring (09 R239, R251), and a held create's fields. -/
  creating : List Nat := []
  deleting : List Nat := []
  heldCreate : Option RingFields := none
  /-- Commands completed ABORTED_BY_DELETE by the delete in progress (09 RING_DELETE RESULT). -/
  aborted : Nat := 0
  deriving DecidableEq, Repr

/-- A completion ring beside its registers (09 R234, R241). -/
structure CqSt where
  head : Nat := 0
  held : List CplEntry := []
  /-- Entries written since the last message (09 R241). -/
  owed : Bool := false
  /-- A coalescing interval runs (09 R241). -/
  coalescing : Bool := false
  creating : List Nat := []
  deleting : List Nat := []
  heldCreate : Option RingFields := none
  deriving DecidableEq, Repr

/-- An error log entry (09 R249). -/
structure LogEntry where
  seq : Nat
  time : Nat
  ring : Nat
  cid : Nat
  epoch : Nat
  opcode : Nat
  status : Nat
  flags : Nat
  detail : Nat
  deriving DecidableEq, Repr

/-- The host queue engine (09). -/
structure HqSt where
  sq : List (Nat × SqSt) := []
  cq : List (Nat × CqSt) := []
  /-- Outstanding commands in fetch order (09 R245). -/
  cmds : List Cmd := []
  nextTag : Nat := 0
  /-- Ring that the weighted round robin serves next (09 R229). -/
  rr : Nat := 1
  /-- Consecutive scans that found nothing, consecutive failed summary reads (09 R232, R233). -/
  emptyScans : Nat := 0
  sumFails : Nat := 0
  /-- A summary line that arrived while function 0 may not write (08 R220), and doorbell lines to be read when it may. -/
  sumHeld : Option (List Byte) := none
  lineWait : List Nat := []
  /-- ABORTs that wait for their target: its tag, the target's tag, CAUGHT (09 R250). -/
  aborts : List (Nat × Nat × Bool) := []
  log : List LogEntry := []
  logSeq : Nat := 1
  /-- Feature WRITE_CACHE (09 R239). -/
  writeCache : Bool := true
  /-- Fetching has stopped for SAVE (02 R56). -/
  stopped : Bool := false
  deriving DecidableEq, Repr

/-- What a read of host memory by HQ is for (09 R231, R229, R234); a `stale` read of an entry is one whose entry is not taken (09
R248). -/
inductive ReadUse where
  | summary | line (j : Nat) | head (m : Nat) | entry (n slot : Nat) | stale (n slot : Nat)
  deriving DecidableEq, Repr

/-- A read that HQ has issued and whose completion is outstanding (08 R199, R215). -/
structure ReadTag where
  tag : Nat
  use : ReadUse
  deriving DecidableEq, Repr

/-- The PCIe endpoint (08). -/
structure PcieSt where
  /-- The link is in L0 (08 R534). -/
  linkUp : Bool := false
  /-- Reads outstanding, oldest first; tags whose read timed out or was issued before a reset, with the device time of that (08 R215,
  R216). -/
  reads : List ReadTag := []
  late : List (Nat × Nat) := []
  /-- FLRs that run: function and device time of the end (08 R222). -/
  flr : List (Nat × Nat) := []
  deriving DecidableEq, Repr

/-- The chrysalis record (02 R58). -/
structure Chrysalis where
  cause : Nat := 0
  failTime : Nat := 0
  saveTime : Nat := 0
  committed : Nat := 0
  unsaved : Nat := 0
  /-- Closed takes: TAKE_ID and frame number of the last complete forme. -/
  takes : List (Nat × Nat) := []
  lastStep : Nat := 0
  deriving DecidableEq, Repr

/-- Supply, clocks, resets and the always-on supervisor (02), and the actuator outputs of R37. -/
structure PowerSt where
  /-- POR is asserted or the power-up sequence has not begun (02 R38). -/
  por : Bool := true
  /-- FAULT_N is driven low (02 R38). -/
  faultLow : Bool := true
  /-- The power-up sequence stopped at a failed AOS self-test (02 R38). -/
  selfTestFailed : Bool := false
  /-- The standing image is applied (02 R38). -/
  imageApplied : Bool := false
  /-- PERST_N and SYS_RST_N levels: asserted (02 R41). -/
  perst : Bool := false
  sysRst : Bool := false
  /-- The steps of R41 have run and the device is held in reset. -/
  inReset : Bool := true
  aosSafe : Bool := false
  lockstep : Bool := false
  trip : Bool := false
  /-- After T_SHUT or T_TRIP, until 95 degrees (02 R65). -/
  thermalHold : Bool := false
  tWarn : Bool := false
  /-- The T_SHUT deferral runs; FAIL was declared during it (02 R63, R66). -/
  deferral : Bool := false
  failInDeferral : Bool := false
  warn : Bool := false
  fail : Bool := false
  /-- Latest 14-bit samples of VBUS_SENSE, HOLDUP_SENSE and IBUS_SENSE (02, "Supply sensing"). -/
  vbus : Nat := 0
  holdup : Nat := 0
  ibus : Nat := 0
  /-- HOLDUP_SENSE when NORMAL was left (02 R60; log 20). -/
  holdupFull : Nat := 0
  /-- A reset or unit resets wait for SAVED (02 R44). -/
  pendingReset : Option ResetKind := none
  pendingUnits : Nat := 0
  record : Chrysalis := {}
  /-- Outputs of R37: LD_EN, coil bridges, spindle bridge, axis bridges, NAND channels started, SENS_REFCLK toggling. -/
  ldEn : Bool := false
  coils : List Nat := []
  spindleOn : Bool := false
  axesOn : List Nat := []
  nandOn : Bool := false
  sensRefclk : Bool := false
  /-- MON_DAC0-3 codes (02 R37). -/
  monDac : List Nat := [0, 0, 0, 0]
  /-- Units whose unit reset drains (02 R45), by feature ID. -/
  unitReset : List Nat := []
  /-- VDRV is below its threshold (22 R526). -/
  vdrvLow : Bool := false
  /-- Configuration space holds reset values for which the image's BAR2 size is still due (08 R204). -/
  cfgFresh : Bool := true
  deriving DecidableEq, Repr

end Sys2Proof.Machine
end

