-- ==== Sys2Proof/Machine/StateMag.lean ====
section
/-!
DEFINITION. State of the recording magazine (10), the map cache (11) and the archive channel (12, 13) that no register
shows.  Field defaults are the values after power-on reset.
-/
namespace Sys2Proof.Machine

/-- Where a buffered unit's bytes are: at a galley address of the write-buffer region, or in on-chip staging where there is no such
region (10 R265; 06 R160). -/
inductive BufData where
  | galley (addr : Nat)
  | staged (bytes : List Byte)
  deriving DecidableEq, Repr

/-- A unit in the write buffer, as its index lists it (10 R265, R267). -/
structure BufUnit where
  unit : Nat
  /-- The unit's bytes, or `none` for a discarded unit (10 R274). -/
  content : Option BufData
  /-- Sectors that were poisoned before they came into the buffer (10 R272). -/
  poison : Nat
  /-- Sectors that hold take ciphertext (01 R23). -/
  keyed : Nat := 0
  /-- The ATOMIC_WRITE group it belongs to (10 R267). -/
  group : Option Nat
  /-- Commands that wrote it, and FLUSH commands that wait for it (09 R242, R243). -/
  writers : List Nat
  flushes : List Nat := []
  deriving DecidableEq, Repr

/-- A SANITIZE or FORMAT in progress, as the embedded-flash journal keeps it (09 R252, R253). -/
structure SanitizeJob where
  /-- 1 BLOCK_ERASE, 2 CRYPTO_ERASE, 3 FORMAT. -/
  kind : Nat
  lbs : Nat
  galley : Bool
  /-- Phases that have ended. -/
  phase : Nat := 0
  /-- Tag of the command, if it is still outstanding. -/
  cmd : Option Nat
  deriving DecidableEq, Repr

/-- The recording magazine (10). -/
structure MagSt where
  /-- The module in the connector, once it counts as inserted (10 R257). -/
  module : Option Module := none
  /-- Used dies found by discovery (10 R259). -/
  dies : List Die := []
  /-- A die that holds data named by the root is excluded (10 R260). -/
  missing : Bool := false
  /-- The mounted map: logical unit to physical unit number; an unlisted unit is UNMAPPED (10 R262). -/
  map : List (Nat × Nat) := []
  lbs : Nat := 0
  exportUnits : Nat := 0
  root : Option Root := none
  /-- Next write sequence of unit metadata, next journal sequence, next root generation (10). -/
  unitSeq : Nat := 1
  journalSeq : Nat := 1
  generation : Nat := 1
  /-- Write buffer, oldest first, and its binding tag (10 R265, R275). -/
  buf : List BufUnit := []
  bufTag : List Byte := []
  /-- Bytes lost since the MAG counters last cleared (10 R275). -/
  lost : Nat := 0
  /-- `MAG.CH[c].CTL.MAX_RATE` as the present mount took it (10 R256). -/
  maxRates : List Nat := []
  /-- Units programmed by host writes and exports, all programs, refreshes, sectors delivered poisoned (10 R287). -/
  hostUnits : Nat := 0
  nandUnits : Nat := 0
  refreshes : Nat := 0
  ueSectors : Nat := 0
  /-- Blocks queued for refresh, and blocks to erase in the background (10 R271, R284). -/
  refreshQ : List Nat := []
  eraseQ : List Nat := []
  /-- Blocks unmapped or mapped since the SLC capacity was computed (10 R268). -/
  slcBytes : Nat := 0
  slcMapped : Nat := 0
  spareLow : Bool := false
  /-- Magazine commands wait for buffer space (02 R59). -/
  spaceWait : List Nat := []
  sanitize : Option SanitizeJob := none
  deriving DecidableEq, Repr

/-- A line of the map cache (11 R289, R295). -/
structure MapLine where
  tag : Nat
  age : Nat
  dirty : Bool
  data : List Byte
  deriving DecidableEq, Repr

/-- A fill in flight (11 R293). -/
structure MapFill where
  line : Nat
  /-- Requesters joined, in the order in which they will be served. -/
  reqs : List Nat
  streaming : Bool
  /-- The requester whose mask the victim choice uses. -/
  owner : Nat
  /-- Data has arrived but no candidate way was free (11 R295). -/
  arrived : Bool
  deriving DecidableEq, Repr

/-- An access that waits for a fill (11 R292, R293). -/
structure MapAccess where
  req : Nat
  addr : Nat
  size : Nat
  write : Option (List Byte)
  deriving DecidableEq, Repr

/-- The map cache (11). -/
structure MapSt where
  /-- Valid lines; key 16 * set + way. -/
  lines : List (Nat × MapLine) := []
  fills : List MapFill := []
  waiting : List MapAccess := []
  /-- Stream detectors: requester, last missed line, run length, active (11 R296). -/
  streams : List (Nat × Nat × Nat × Bool) := []
  /-- Round-robin pointers of the four banks (11 R292). -/
  rr : List Nat := [0, 0, 0, 0]
  /-- Map pages written again, and housekeeping data; key line, bytes of the line. -/
  store : List (Nat × List Byte) := []
  /-- Lines whose copy stands in the galley's map area (10 R264; 11 R297; log 136). -/
  loaded : List (Nat × Bool) := []
  /-- STALL cycles below the 1,024-cycle unit, per requester (11). -/
  stall : List (Nat × Nat) := []
  /-- Lines under repair after a double-bit error (11 R300). -/
  repair : List Nat := []
  deriving DecidableEq, Repr

/-- A folio in flight on a beam, or waiting for its verdict (13 R343). -/
structure FolioJob where
  beam : Nat
  pfa : Nat
  lfn : Nat
  /-- The 65,664 bytes of its data area. -/
  area : List Byte
  spare : Bool
  /-- Its last bit has been written (13 R343, R349). -/
  ended : Bool
  /-- A row failed or exceeded, bytes corrected and rows judged so far (13 R342, R343). -/
  rowFailed : Bool
  rowExceeded : Bool
  corrected : Nat
  rows : Nat
  deriving DecidableEq, Repr

/-- An extent of the open session (12 R326, R327). -/
structure Extent where
  sourceLba : Nat
  blocks : Nat
  encrypted : Bool := false
  takeCipher : Bool := false
  poisoned : Bool := false
  resumed : Bool := false
  firstLfn : Nat
  folios : Nat
  time : Nat
  deriving DecidableEq, Repr

/-- A resume entry of the ARCHIVE journal (13 R349). -/
structure ResumeEntry where
  discId : List Byte
  lastLfn : Option Nat
  queue : List Nat
  unknown : List Nat
  deriving DecidableEq, Repr

/-- The ARCHIVE_WRITE or SEAL_IMAGO in progress. -/
structure ArchiveJob where
  cmd : Nat
  /-- A SEAL_IMAGO. -/
  sealing : Bool := false
  lba : Nat := 0
  blocks : Nat := 0
  /-- First and one past the last LFN of the command's folios, and the next to be written. -/
  firstLfn : Nat
  endLfn : Nat
  nextLfn : Nat
  /-- Its extent within the session. -/
  extent : Nat := 0
  written : Nat := 0
  faults : Nat := 0
  /-- The archive key bound at the start (16 R403). -/
  key : Option (List Byte) := none
  /-- LFNs to read back first (13 R350). -/
  readBack : List Nat := []
  /-- Proof failures by LFN (13 R346). -/
  fails : List (Nat × Nat) := []
  /-- Layer whose disc information is to be written next (12 R324). -/
  info : Option Nat := none
  /-- User data of the folios of a seal (12 R326), and the number of its relocation-table folios. -/
  image : List (List Byte) := []
  tables : Nat := 0
  /-- Directory user data, the slot being written, and its copies that count as written (12 R325). -/
  dir : Option (List Byte) := none
  dirSlot : Option Nat := none
  dirGood : Nat := 0
  deriving DecidableEq, Repr

/-- The archive channel (12, 13). -/
structure OchSt where
  /-- The disc on the hub, its slot, and whether archive writes are allowed (12 R329). -/
  disc : Option Disc := none
  slot : Nat := 0
  readOnly : Bool := false
  discId : List Byte := []
  /-- The cartridge, and the disc on the fork (15 R398). -/
  cartridge : Option Cartridge := none
  fork : Option Disc := none
  /-- Zones of layers (32 * layer + zone) written since DISC_LOAD: scanned (13 R345) and calibrated (13 R338). -/
  scanned : List Nat := []
  opcDone : List Nat := []
  job : Option ArchiveJob := none
  flight : List FolioJob := []
  /-- LFNs queued for relocation with their data areas (13 R346). -/
  relocQ : List (Nat × List Byte) := []
  /-- The open session is known: its first LFN and its extents (12 R328). -/
  known : Bool := false
  sessionLfn : Nat := 0
  extents : List Extent := []
  resume : List ResumeEntry := []
  /-- Consecutive good and missed clock-track SAMs; missed and good SAMs of each beam (13 R331, R332, R347). -/
  pilotGood : Nat := 0
  missed : List (Nat × Nat) := []
  good : List (Nat × Nat) := []
  /-- Beams at write power, and beams held at read power by a fault (13 R347). -/
  writing : List Nat := []
  faulted : List Nat := []
  /-- Laser faults since DISC_LOAD by laser (13 R335). -/
  laserFaults : List (Nat × Nat) := []
  /-- Read power is on (13 R336). -/
  lasersOn : Bool := false
  /-- Register values waiting for the beam's next wedge: register key, value (13 R337). -/
  applied : List (Nat × BitVec 32) := []
  /-- Passes over the folio being read, and its LFN and PFA (13 R351). -/
  passes : List FolioPass := []
  reading : Option (Nat × Nat) := none
  /-- User data read so far by an ARCHIVE_VERIFY, and whether it met a difference (12 R327, 13 R353). -/
  readBuf : List (List Byte) := []
  differs : Bool := false
  deriving DecidableEq, Repr

end Sys2Proof.Machine
end

