-- ==== Sys2Proof/Machine/StateMech.lean ====
section
/-!
DEFINITION. State of the servo loops (14) and the motion unit (15) that no register shows.  Servo quantities are integers
with 10 fraction bits (14 R358).  Field defaults are the values after power-on reset.
-/
namespace Sys2Proof.Machine

/-- Coefficients of a loop in use (14 R359): K, KI, ILIM, OUT_LIM and the three biquads. -/
structure Coeffs where
  k : Int := 0
  ki : Int := 0
  ilim : Int := 4096
  outLim : Int := 8191
  bq : List (List Int) := [[65536, 0, 0, 0, 0], [65536, 0, 0, 0, 0], [65536, 0, 0, 0, 0]]
  deriving DecidableEq, Repr

/-- A biquad's delay line, 10 fraction bits (14 R358). -/
structure Delay where
  v1 : Int := 0
  v2 : Int := 0
  y1 : Int := 0
  y2 : Int := 0
  deriving DecidableEq, Repr

/-- A layer jump's step (14 R365). -/
inductive JumpStep where
  | kick | coast | brake | close
  deriving DecidableEq, Repr

/-- A layer jump in progress (14 R365). -/
structure Jump where
  step : JumpStep
  down : Bool
  target : Nat
  fails : Nat
  deriving DecidableEq, Repr

/-- One servo loop beside its registers (14). -/
structure LoopSt where
  active : Coeffs := {}
  /-- Shadows are to be copied at the next sample (14 R359). -/
  commit : Bool := false
  integ : Int := 0
  delays : List Delay := [{}, {}, {}]
  clamped : Bool := false
  clampPos : Bool := false
  /-- Set-point in use, codes, and whether it still returns to SETPT after service mode (14 R374). -/
  setpt : Int := 0
  returning : Bool := false
  /-- The loop is closed (14 R360, R364). -/
  closed : Bool := false
  /-- Consecutive samples within LOCK_THR, beyond OFF_THR, with a good sum, and in HOLD (14 R360). -/
  lockRun : Nat := 0
  offRun : Nat := 0
  sumRun : Nat := 0
  holdCnt : Nat := 0
  sumGood : Bool := false
  /-- Attempts of the acquisition step (14 R364). -/
  attempts : Nat := 0
  /-- Feed-forward in use, codes (14 R367). -/
  ff : Int := 0
  /-- A coil reversal waits for MIN_DWELL, and the polarity it asks for (14 R363). -/
  deferred : Option Bool := none
  /-- MIN_DWELL since the latest reversal has not elapsed (14 R363). -/
  dwell : Bool := false
  deriving DecidableEq, Repr

/-- The control engine (14). -/
structure SrvSt where
  loops : List LoopSt := [{}, {}, {}, {}]
  /-- Accumulated tracking offset, codes, and skew estimate (14 R357). -/
  trackOfs : Int := 0
  skew : Int := 0
  skewCount : Nat := 0
  jump : Option Jump := none
  /-- Feed-forward banks active, and swaps requested (14 R368). -/
  bank : List Bool := [false, false, false, false, false, false]
  swap : List Bool := [false, false, false, false, false, false]
  /-- Service inputs lost: loop service, spindle service (14 R375, 15 R389). -/
  svcLost : Bool := false
  /-- Layer and p that the pilot's wedge ID reports, and the layer that focus is to reach (14 R364, R365). -/
  pilotLayer : Nat := 0
  pilotP : Nat := 0
  target : Nat := 0
  deriving DecidableEq, Repr

/-- An enabled half-bridge's carry and the on-time of its latest pulse (15 R379). -/
structure HalfBridge where
  carry : Int := 0
  out : Int := 0
  deriving DecidableEq, Repr

/-- Homing phases (15 R394). -/
inductive HomePhase where
  | approach | backOff | final
  deriving DecidableEq, Repr

/-- A stepper axis beside its registers (15). -/
structure AxisSt where
  /-- Target and speed of the move in progress (15 R392, R393). -/
  target : Int := 0
  sweepV : Int := 0
  homing : Option HomePhase := none
  switchOn : Bool := false
  /-- Position at which homing began (15 R394). -/
  homeStart : Int := 0
  /-- Standstill lasts (15 R390): amplitude is HOLD_I. -/
  held : Bool := false
  /-- Target and speed of the sweep that RESUME would restart (15 R393). -/
  resume : Option (Int × Int) := none
  /-- A move was written since the stop. -/
  moved : Bool := false
  /-- Commanded sweep velocity, microsteps/s (15 R393), and current amplitude in 0.01 A / 8,191 (15 R390). -/
  cmdV : Int := 0
  amp : Int := 0
  deriving DecidableEq, Repr

/-- An action of a disc exchange (15 R398, R399). -/
inductive XAct where
  | homeAxis (a : Nat) | parkSled | liftCart | liftXfer | liftSpin | shuttleSlot (slot : Nat) | shuttleClear | journal (slot : Nat)
  /-- The disc is picked from the cartridge, clamped, lifted from the hub, put back: DISC_SENSE_N must change. -/
  | pick | clamp | unclamp | putBack
  | spin | lock (l : Nat) | opticsOff | brake
  deriving DecidableEq, Repr

/-- A disc exchange in progress: its command, whether it loads, its slot, and the actions left with the step number of each; the
first one may have been issued (15 R398). -/
structure Exchange where
  cmd : Option Nat
  load : Bool
  slot : Nat
  acts : List (Nat × XAct)
  issued : Bool
  deriving DecidableEq, Repr

/-- The motion unit (15). -/
structure MotSt where
  /-- Half-bridges: 0-2 spindle phases, then two per phase of the sled, lift and shuttle (15 R378). -/
  bridges : List (Nat × HalfBridge) := []
  axes : List AxisSt := [{}, {}, {}]
  /-- Consecutive predicted periods, and whether the next voltage vector is scaled down (15 R382). -/
  predicted : Nat := 0
  scale : Bool := false
  /-- Field-weakening id reference in units of I_RATED / 1,024 (15 R383). -/
  idRef : Int := 0
  /-- iq reference, 0.01 A / 8,191 (15 R384). -/
  iqRef : Int := 0
  /-- PWM periods modulo 8, the speed controller's reference and the phase feed that is added to it, in 10^-9 rpm (15 R384, R386). -/
  periods : Nat := 0
  speedRef : Nat := 0
  phaseFeed : Int := 0
  /-- The braking current is being limited at V_REGEN_MAX (15 R387). -/
  regenLim : Bool := false
  /-- Consecutive marks within 4 bits, and beyond 64 bits (15 R385). -/
  phaseGood : Nat := 0
  phaseBad : Nat := 0
  /-- Consecutive low-peak periods of each current input, and the inputs in LOW range (15 R380). -/
  lowRuns : List (Nat × Nat) := []
  low : List Nat := []
  /-- A Hall edge was seen within the last 100 ms (15 R385, R396). -/
  hall : Bool := false
  /-- Zone of the target (15 R386), and the zone that MC3 asked for during SERVICE (15 R385). -/
  zone : Nat := 0
  mcZone : Option Nat := none
  discSense : Bool := false
  cartPresent : Bool := false
  exchange : Option Exchange := none
  /-- The exchange stopped in a failed state and archive commands complete with MEDIA_ERROR (15 R399). -/
  noSlot : Bool := false
  /-- The latest reset found a disc on the fork, which is to go back to its slot (15 R399; 01 R20). -/
  forkFound : Bool := false
  /-- A disc is clamped on the hub (15 R398). -/
  clamped : Bool := false
  /-- Archive commands in progress hold the mechanism (15 R397). -/
  held : List Nat := []
  svcLost : Bool := false
  deriving DecidableEq, Repr

end Sys2Proof.Machine
end

