-- ==== Sys2Proof/Machine/StateMgmt.lean ====
section
/-!
DEFINITION. State of the security unit (16), the colophon (17), the embedded flash (18), cores, mailboxes and quoins (19),
calibration (20) and the boundary scan (22) that no register shows.  Field defaults are the values after power-on reset.
-/
namespace Sys2Proof.Machine

/-- A loaded key slot (16 R401, R402). -/
structure KeySlot where
  bits : Nat
  use : Nat
  key : List Byte
  /-- A KEY_LOAD or KEY_CLEAR changed it: distinguishes contents for bound copies (16 R403). -/
  serial : Nat
  deriving DecidableEq, Repr

/-- Work classes of the engines (16 R419). -/
inductive EngClass where
  | mag | take | archive | host | fw
  deriving DecidableEq, Repr

/-- A piece of AES work (16 R419). -/
structure Piece where
  cls : EngClass
  slot : Nat
  /-- The command it belongs to. -/
  cmd : Option Nat
  blocks : Nat
  /-- It belongs to a feedback-mode stream, and the engine that serves the stream. -/
  feedback : Bool := false
  pin : Option Nat := none
  deriving DecidableEq, Repr

/-- A bound copy of a key (16 R403): the operation's command, the slot, the serial of its content, the key. -/
structure BoundKey where
  cmd : Nat
  slot : Nat
  serial : Nat
  key : List Byte
  deriving DecidableEq, Repr

/-- The security unit (16). -/
structure SecSt where
  slots : List (Nat × KeySlot) := []
  keySerial : Nat := 0
  /-- Bound copies (16 R403). -/
  bound : List BoundKey := []
  /-- KEY_CLEAR commands that wait for bound copies: command, content serial (16 R403). -/
  clears : List (Nat × Nat) := []
  /-- Pieces waiting in arrival order, and the pieces that the engines hold (16 R419). -/
  waiting : List Piece := []
  engines : List (Nat × Piece) := []
  /-- Consecutive failing TRNG windows (16 R421). -/
  trngFails : Nat := 0
  deriving DecidableEq, Repr

/-- A message from the capture unit to the colophon (17 R437, R439-R443). -/
inductive ColMsg where
  | strobe (frame time : Nat)
  | openTake (seg takeId : Nat)
  | member (seg : Nat) (frame : Nat) (stored uncert : Bool)
  | closeTake (seg takeId first trig last : Nat) (save : Bool)
  deriving DecidableEq, Repr

/-- A trigger event listed in a record (17 R441). -/
structure ColEvent where
  time : Nat
  fine : Nat
  ch : Nat
  falling : Bool
  index : Nat
  deriving DecidableEq, Repr

/-- An open take record (17 R441). -/
structure OpenRec where
  seg : Nat
  takeId : Nat
  flags : Nat := 0
  discWorst : Nat := 0
  openCert : Nat := 0
  /-- Frames decided stored: frame number and certified time, 0 for a header written UNCERTIFIED (17 R440). -/
  stored : List (Nat × Nat) := []
  notStored : Nat := 0
  uncMax : Nat := 0
  counts : List Nat := [0, 0, 0, 0, 0, 0, 0, 0]
  expCount : Nat := 0
  expMin : Nat := 0
  expMax : Nat := 0
  expSum : Nat := 0
  events : List ColEvent := []
  deriving DecidableEq, Repr

/-- The colophon (17). -/
structure ColSt where
  /-- COL_VDD is in range and the colophon's own reset is over (17 R431). -/
  powered : Bool := true
  /-- Certified time at which its PLL lost lock, while it is lost (17 R435). -/
  lossAt : Option Nat := none
  /-- 32-bit fraction of certified time (`COL.TIME`, ticks of 100 ps) and the increment (17, "Time base"). -/
  frac : Nat := 0
  inc : Nat := 25 * 2 ^ 32
  bootNonce : Nat := 0
  recordSeq : Nat := 0
  records : List (Nat × List Byte) := []
  /-- Messages on the link, oldest first, and answers on their way back: frame and certified time (17 R437). -/
  toCol : List ColMsg := []
  answers : List (Nat × Nat) := []
  /-- Records on their way to the capture unit: segment, bytes (17 R442). -/
  outRecords : List (Nat × List Byte) := []
  /-- Frame openings: frame, certified time (0: unanswered); the latest 65,536 (17 R440). -/
  opens : List (Nat × Nat) := []
  recs : List OpenRec := []
  /-- Takes whose OPEN was discarded (17 R432). -/
  discarded : List Nat := []
  tenMhzGood : Bool := false
  /-- Consecutive PPS edges that meet the present state's condition, and those that fail it (17 R434). -/
  ppsGood : Nat := 0
  ppsBad : Nat := 0
  lastPps : Option Nat := none
  phaseErr : Nat := 0
  holdUnc : Nat := 0
  holdStart : Nat := 0
  todArmed : Bool := false
  /-- OTP: seal cells that fail the strict margin, configuration entries by index, authority key (17 R444-R446). -/
  sealWeak : List Nat := []
  sealCount : Nat := 0
  entries : List (Nat × List Byte) := []
  authKey : Option (List Byte) := none
  /-- TDC channels: time of the latest timed edge in 10 ps units, exposure start (17 R438). -/
  lastEdge : List (Nat × Nat) := []
  expStart : List (Nat × Nat) := []
  /-- CC lockups (19 R479). -/
  ccLockups : List Nat := []
  heartbeatSeen : Bool := true
  deriving DecidableEq, Repr

/-- A flash operation (18 R454, R455). -/
inductive FlashOp where
  | program | sectorErase | otpProgram | blankCheck
  deriving DecidableEq, Repr

/-- The operation that runs on the host port (18 R454, R457). -/
structure FlashRun where
  op : FlashOp
  addr : Nat
  data : List Byte
  deriving DecidableEq, Repr

/-- The embedded flash (18). -/
structure EfcSt where
  /-- Flash bytes by flash address; an unlisted byte is blank, 0xFF (18 R448, R463). -/
  flash : List (Nat × Byte) := []
  otp : List (Nat × Byte) := []
  /-- Sectors unusable until erased again (18 R458). -/
  dead : List Nat := []
  /-- Unlock sequence: the requester, the operation and the words so far (18 R454). -/
  owner : Option Requester := none
  op : Option FlashOp := none
  words : List Word := []
  run : Option FlashRun := none
  /-- New host commands are refused until a reset (18 R458). -/
  refuse : Bool := false
  /-- Standing image selected: its bytes (18 R471, R472). -/
  image : List Byte := []
  deriving DecidableEq, Repr

/-- Cores, mailboxes and quoins (19). -/
structure MbxSt where
  /-- Notices waiting for `MBX[40]`, oldest first (19 R484). -/
  notices : List Nat := []
  /-- Incarnations of the host and DBG (19 R474); those of the cores are in their STAMP. -/
  hostInc : Nat := 0
  dbgInc : Nat := 0
  /-- Device times of lockup entries of each core that still count (19 R478). -/
  lockups : List (Nat × List Nat) := []
  /-- Lockups that MC0 has not yet counted in the COUNTERS journal (19 R477; 18 R466). -/
  uncounted : Nat := 0
  deriving DecidableEq, Repr

/-- Calibration (20). -/
structure CalSt where
  /-- Codes in use where they differ from the targets, by the byte's address in `CAL.VAL` (20 R492). -/
  applied : List (Nat × Byte) := []
  /-- Blocks whose due or present run is a reset run (20 R489). -/
  resetRuns : List Nat := []
  deriving DecidableEq, Repr

/-- The boundary scan (22 R530) and the debug port (19 R474). -/
structure JtagSt where
  /-- Instruction in force: BYPASS after Test-Logic-Reset. -/
  instr : Nat := 1
  bypass : Bool := false
  chain : List Bool := []
  deriving DecidableEq, Repr

end Sys2Proof.Machine
end

