-- ==== Sys2Proof/Machine/State.lean ====
section
/-!
DEFINITION. The whole state of the block as plain data, its faults and refusals, and the state right after reset.  Every
register that the spec lays out is held in `regs`; what no register shows is in the units' own structures.
-/
namespace Sys2Proof.Machine

/-- Faults: none of the block's commands stops the model with a fault; the type has one constructor for a command that names
a register space that no function has (01 R25, 08 R203), raised by no meaning today: safe. -/
inductive Fault where
  /-- Reserved for an access outside every space of the block; safe. -/
  | noSuchSpace
  deriving DecidableEq, Repr

/-- Refusals. -/
inductive Refusal where
  /-- A command that has no meaning in this model, by the mnemonic of its row; safe: nothing is claimed of it. -/
  | notModelled (mnemonic : String)
  deriving DecidableEq, Repr

/-- The block. -/
structure State where
  /-- Which part of the family it is (00, "Family members"; 01 R29). -/
  part : Part
  /-- Registers, configuration space and MSI-X tables: key and 32-bit value, in canonical form with respect to the reset
  values of Machine/RegTable.lean (21). -/
  regs : List (Nat × Word)
  /-- MODEL's own counter: the index of the next free value (log 4). -/
  fresh : Nat
  lanes : List (Nat × LaneSt)
  ports : List (Nat × PortSt)
  cap : CapSt
  cmp : CmpSt
  gal : GalSt
  pair : PairSt
  pcie : PcieSt
  hq : HqSt
  mag : MagSt
  map : MapSt
  och : OchSt
  srv : SrvSt
  mot : MotSt
  sec : SecSt
  col : ColSt
  efc : EfcSt
  mbx : MbxSt
  cal : CalSt
  jtag : JtagSt
  pwr : PowerSt
  /-- MODEL's own record of what left the block, newest first (log 6). -/
  outbox : List Output
  /-- Commands that wait, first in, first out. -/
  pending : List Instr
  deriving DecidableEq, Repr

/-- The machine right after power-on reset (02 R38, R40): every register at its reset value, nothing in any memory, no
command waiting.  Log 2 names the registers whose reset value the spec does not give. -/
def State.reset : State :=
  { part := Part.zy4256, regs := [], fresh := 0, lanes := [], ports := [], cap := {}, cmp := {}, gal := {}, pair := {},
    pcie := {}, hq := {}, mag := {}, map := {}, och := {}, srv := {}, mot := {}, sec := {}, col := {}, efc := {}, mbx := {},
    cal := {}, jtag := {}, pwr := {}, outbox := [], pending := [] }

end Sys2Proof.Machine
end

