-- ==== Sys2Proof/Machine/Operands.lean ====
section
/-!
DEFINITION. Reading and writing registers: the table lookup, named fields, saturating counters, and a requester's write under
the access types of 00 R10-R12.
-/
namespace Sys2Proof.Machine

/-- The offset `off` lies on an element of an array of the given dimensions (count, stride), outermost first. -/
def onElement : List (Nat × Nat) → Nat → Bool
  | [], off => off == 0
  | (n, st) :: ds, off => decide (off / st < n) && onElement ds (off % st)

/-- The register that has a word at key `k` (21). -/
def regFind (k : Nat) : Option RReg :=
  (regPage (k / 0x100000)).find? (fun r => decide (r.base ≤ k) && onElement r.dims (k - r.base))

/-- Reset value of the word at key `k`; reserved words read 0 (00 R11). -/
def regReset (k : Nat) : Word :=
  match regFind k with
  | some r => BitVec.ofNat 32 r.reset
  | none => 0

/-- The word at key `k` as the hardware holds it. -/
def State.rd (s : State) (k : Nat) : Word := sget regReset s.regs k

/-- Set the word at key `k`. -/
def State.wr (s : State) (k : Nat) (v : Word) : State := { s with regs := sput regReset s.regs k v }

/-- Width of a field. -/
def Fld.width (f : Fld) : Nat := f.hi + 1 - f.lo

/-- Bits `hi..lo` of a word. -/
def bitsOf (w : Word) (hi lo : Nat) : Nat := (w.toNat >>> lo) % 2 ^ (hi + 1 - lo)

/-- A word with bits `hi..lo` replaced by `v`. -/
def setBits (w : Word) (hi lo v : Nat) : Word :=
  let m := 2 ^ (hi + 1 - lo)
  BitVec.ofNat 32 (w.toNat - (bitsOf w hi lo) * 2 ^ lo + (v % m) * 2 ^ lo)

/-- Value of a field of element `i`. -/
def State.get (s : State) (f : Fld) (i : Nat := 0) : Nat := bitsOf (s.rd (f.base + f.stride * i)) f.hi f.lo

/-- Set a field of element `i`; other fields of the word stay, and an array has no element beyond its last. -/
def State.put (s : State) (f : Fld) (v : Nat) (i : Nat := 0) : State :=
  if i < f.count then s.wr (f.base + f.stride * i) (setBits (s.rd (f.base + f.stride * i)) f.hi f.lo v) else s

/-- A one-bit field is 1. -/
def State.flag (s : State) (f : Fld) (i : Nat := 0) : Bool := s.get f i != 0

/-- Set a one-bit field. -/
def State.setFlag (s : State) (f : Fld) (b : Bool) (i : Nat := 0) : State := s.put f (if b then 1 else 0) i

/-- A field read as a two's-complement integer. -/
def State.getInt (s : State) (f : Fld) (i : Nat := 0) : Int :=
  let v := s.get f i
  if v < 2 ^ (f.width - 1) then (v : Int) else (v : Int) - 2 ^ f.width

/-- Set a field to a two's-complement integer, narrowed to its width. -/
def State.putInt (s : State) (f : Fld) (v : Int) (i : Nat := 0) : State := s.put f (v % 2 ^ f.width).toNat i

/-- A counter that saturates at its maximum (the opening of each chapter's "Registers"). -/
def State.add (s : State) (f : Fld) (n : Nat) (i : Nat := 0) : State := s.put f (min (s.get f i + n) (2 ^ f.width - 1)) i

/-- Count one. -/
def State.inc (s : State) (f : Fld) (i : Nat := 0) : State := s.add f 1 i

/-- A 64-bit pair, low word at the lower offset (00 R13). -/
def State.get64 (s : State) (f : Fld) (i : Nat := 0) : Nat :=
  (s.rd (f.base + f.stride * i)).toNat + 2 ^ 32 * (s.rd (f.base + f.stride * i + 4)).toNat

/-- Set a 64-bit pair. -/
def State.put64 (s : State) (f : Fld) (v : Nat) (i : Nat := 0) : State :=
  if i < f.count then
    (s.wr (f.base + f.stride * i) (BitVec.ofNat 32 v)).wr (f.base + f.stride * i + 4) (BitVec.ofNat 32 (v / 2 ^ 32))
  else s

/-- A saturating 64-bit counter. -/
def State.add64 (s : State) (f : Fld) (n : Nat) (i : Nat := 0) : State :=
  s.put64 f (min (s.get64 f i + n) (2 ^ 64 - 1)) i

/-- Zero `n` words from key `k` on (counters cleared together). -/
def State.zeroWords (s : State) (k : Nat) : Nat → State
  | 0 => s
  | n + 1 => (s.wr k 0).zeroWords (k + 4) n

/-- Zero the `n` words from element `i` of an array on. -/
def State.zeroRow (s : State) (f : Fld) (i n : Nat) : State :=
  if i < f.count then s.zeroWords (f.base + f.stride * i) n else s

/-- The EFC lock is set (18 R460): `EFC.STATUS.LOCKED`. -/
def State.locked (s : State) : Bool := s.flag Reg.EFC_STATUS_LOCKED

/-- A value is one of a field's reserved encodings (00 R12). -/
def badValue (f : RField) (v : Nat) : Bool := f.bad.any (fun r => decide (r.1 ≤ v) && decide (v ≤ r.2))

/-- What a requester's write of `v` leaves in one field of a word that holds `w` (00 R10, R12). -/
def fieldWrite (locked : Bool) (v : Word) (w : Word) (f : RField) : Word :=
  let n := bitsOf v f.hi f.lo
  match f.acc with
  | .ro => w
  | .wo => w
  | .rw | .rws => if badValue f n then w else setBits w f.hi f.lo n
  | .rwl => if locked || badValue f n then w else setBits w f.hi f.lo n
  | .w1c => setBits w f.hi f.lo (bitsOf w f.hi f.lo &&& (2 ^ (f.hi + 1 - f.lo) - 1 - n))
  | .w1s => setBits w f.hi f.lo (bitsOf w f.hi f.lo ||| n)

/-- The word that a requester's write of `v` leaves at key `k`, by the access types of its fields (00 R10-R12). -/
def State.written (s : State) (k : Nat) (v : Word) : Word :=
  match regFind k with
  | none => s.rd k
  | some r => r.fields.foldl (fieldWrite s.locked v) (s.rd k)

/-- A requester's write by access types (00 R10-R12). -/
def State.write (s : State) (k : Nat) (v : Word) : State := s.wr k (s.written k v)

/-- A requester's write of element `i` of an array. -/
def State.writeAt (s : State) (f : Fld) (i : Nat) (v : Word) : State :=
  if i < f.count then s.write (f.base + f.stride * i) v else s

/-- A requester's write that leaves out the fields whose bits `keep` marks (00 R533: the discarded fields). -/
def State.writeExcept (s : State) (k : Nat) (v keep : Word) : State :=
  s.wr k ((s.written k v &&& ~~~keep) ||| (s.rd k &&& keep))

/-- The integer `k`-th root of `v`, by its bits from bit `n` - 1 down. -/
def rootDown (k v : Nat) : Nat → Nat → Nat
  | 0, r => r
  | n + 1, r => rootDown k v n (if (r + 2 ^ n) ^ k ≤ v then r + 2 ^ n else r)

/-- Device time, the count of 0.625 ns ticks (04 R107). -/
def State.now (s : State) : Nat := s.get64 Reg.CAP_DEVTIME

/-- The device takes register writes: it is not held in reset (log 73). -/
def State.awake (s : State) : Bool := !s.pwr.por && !s.pwr.inReset

/-- The device may drive its actuators and its lanes beyond their power-up state: it runs, outside the AOS safe state, a lockstep
disagreement and a trip (02 R37, R49, R50, R64). -/
def State.driven (s : State) : Bool := s.awake && !s.pwr.aosSafe && !s.pwr.lockstep && !s.pwr.trip

/-- Read shadows of the words that a reset clears are 0 (04 R127); `p` holds of the keys kept. -/
def State.clearShadows (s : State) (p : Nat → Bool) : State :=
  { s with cap := { s.cap with shadows := s.cap.shadows.filter (fun e => p (e.1 / 16)) } }

/-- Take the next free value (log 4). -/
def State.free (s : State) : BitVec 64 × State := (Config.free s.fresh, { s with fresh := s.fresh + 1 })

/-- Take `n` bytes of a free byte string (log 4). -/
def State.freeBytes (s : State) (n : Nat) : List Byte × State :=
  ((List.range n).map (Config.freeByte s.fresh), { s with fresh := s.fresh + 1 })

/-- Send something out of the block (log 6). -/
def State.emit (s : State) (o : Output) : State := { s with outbox := o :: s.outbox }

/-- The outcome of every meaning of this model. -/
abbrev Result := Host.Outcome State Fault Refusal

/-- A next state. -/
abbrev go (s : State) : Result := .next s

/-- Little-endian bytes of a number (00 R8). -/
def leBytes : Nat → Nat → List Byte
  | 0, _ => []
  | n + 1, v => BitVec.ofNat 8 v :: leBytes n (v / 256)

/-- The number that little-endian bytes spell (00 R8). -/
def leNat : List Byte → Nat
  | [] => 0
  | b :: r => b.toNat + 256 * leNat r

/-- Big-endian bytes of a number. -/
def beBytes (n v : Nat) : List Byte := (leBytes n v).reverse

/-- The number that big-endian bytes spell. -/
def beNat (b : List Byte) : Nat := leNat b.reverse

/-- `len` bytes at offset `off` of a byte string, read as a little-endian number. -/
def fieldAt (b : List Byte) (off len : Nat) : Nat := leNat ((b.drop off).take len)

/-- Write bytes into a byte string at an offset. -/
def patch (b : List Byte) (off : Nat) (v : List Byte) : List Byte := b.take off ++ v ++ b.drop (off + v.length)

/-- A byte string of zeros. -/
def zeros (n : Nat) : List Byte := List.replicate n 0

/-- Pad with zeros to a length. -/
def padTo (n : Nat) (b : List Byte) : List Byte := b ++ zeros (n - b.length)

/-- Round up to a multiple. -/
def roundUp (n m : Nat) : Nat := (n + m - 1) / m * m

/-- Value of a key in an association list with a default. -/
def lookupD {α : Type} (d : α) (m : List (Nat × α)) (k : Nat) : α := (m.lookup k).getD d

/-- Set a key of an association list kept in ascending key order. -/
def insertKey {α : Type} : List (Nat × α) → Nat → α → List (Nat × α)
  | [], k, v => [(k, v)]
  | (k', v') :: r, k, v =>
    if k < k' then (k, v) :: (k', v') :: r
    else if k = k' then (k, v) :: r
    else (k', v') :: insertKey r k v

/-- Remove a key of an association list. -/
def eraseKey {α : Type} (m : List (Nat × α)) (k : Nat) : List (Nat × α) := m.filter (fun e => e.1 != k)

end Sys2Proof.Machine
end

