-- ==== Sys2Proof/Machine/Caps.lean ====
section
/-!
DEFINITION. The feature capability list (01 R25-R30, 21 R501): fixed words computed from the part, and the identity words.
-/
namespace Sys2Proof.Machine

/-- Feature IDs present on a part with unit bases and instance counts (01 R26, R29, R30). -/
def capEntries (p : Part) : List (Nat × Nat × Nat) :=
  [(0x01, 0x00100000, 1), (0x02, 0x00200000, p.lanes), (0x03, 0x00300000, 8), (0x04, 0x00400000, p.clusters),
   (0x05, 0x00500000, p.stackCount), (0x06, 0x00600000, 2), (0x07, 0x00700000, 1024), (0x08, 0x00800000, 32),
   (0x09, 0x00900000, 1)] ++
  (if p.archive then [(0x0A, 0x00A00000, 16), (0x0B, 0x00B00000, 4), (0x0C, 0x00C00000, 4)] else []) ++
  [(0x0D, 0x00D00000, 16), (0x0E, 0x00E00000, 2), (0x0F, 0x00F00000, 64), (0x10, 0x01000000, 1), (0x11, 0x01100000, 1)] ++
  (if p.colophon then [(0x12, 0xFFFFFFFF, 1)] else [])

/-- The four words of entry `i` of `n` (21 R501): version 1, the next pointer, 0 at the end. -/
def capWords (n i : Nat) (e : Nat × Nat × Nat) : List Word :=
  [BitVec.ofNat 32 (0x10000 + e.1), BitVec.ofNat 32 (if i + 1 = n then 0 else 0x100 + 16 * (i + 1)), BitVec.ofNat 32 e.2.1,
   BitVec.ofNat 32 e.2.2]

/-- The list's words from TOP offset 0x100 on. -/
def capList (p : Part) : List Word :=
  let es := capEntries p
  ((List.range es.length).map (fun i => capWords es.length i (es.getD i (0, 0, 0)))).flatten

/-- The list's bytes, as measured by attestation (16 R427, M_CAPLIST). -/
def capBytes (p : Part) : List Byte := ((capList p).map (fun w => leBytes 4 w.toNat)).flatten

/-- The PCIe Device Serial Number: the last 8 content bytes of the device serial, big-endian (16 R425). -/
def deviceSerialNumber : Nat := beNat ((List.range 8).map (fun i => Config.serial (8 + i)))

/-- The word that a register read returns (21): the capability list in TOP, else the register as it stands.  Reads with an
effect have rows of their own. -/
def State.busWord (s : State) (k : Nat) : Word :=
  if 0x100 ≤ k ∧ k < 0x1000 then (capList s.part).getD ((k - 0x100) / 4) 0 else s.rd k

/-- An element of an array: base, count, stride. -/
def indexIn (k base count stride : Nat) : Option Nat :=
  if base ≤ k ∧ k < base + count * stride then some ((k - base) / stride) else none

/-- Index in an array at which `p` holds. -/
def indexHas (k base count stride : Nat) (p : Nat → Bool) : Bool :=
  match indexIn k base count stride with
  | some i => p i
  | none => false

/-- The word at key `k` belongs to an absent unit or to an absent lane, port, stack or cluster (00 R5). -/
def State.absentAt (s : State) (k : Nat) : Bool :=
  let a := s.part
  (decide (0xA00000 ≤ k) && decide (k < 0xD00000) && !a.archive) ||
  (decide (2 ^ 32 ≤ k) && decide (k < 2 * 2 ^ 32) && !a.colophon) ||
  indexHas k 0x201000 32 32 (fun p => decide (a.lanes ≤ 8 * p)) ||
  indexHas k 0x210000 256 256 (fun n => decide (a.lanes ≤ n)) ||
  indexHas k 0x300100 32 8 (fun p => decide (a.lanes ≤ 8 * p)) ||
  indexHas k 0x401000 32 64 (fun c => decide (a.clusters ≤ c)) ||
  indexHas k 0x500100 4 32 (fun g => decide (a.stackCount ≤ g)) ||
  indexHas k 0x1010000 256 12 (fun n => decide (a.lanes ≤ n)) ||
  indexHas k 0x1020000 256 4 (fun n => decide (a.lanes ≤ n)) ||
  indexHas k 0x1030000 128 36 (fun c => decide (a.stackCount ≤ c / 32))

/-- An instance of an array is present: ports by lanes, clusters (00 R5). -/
def State.hasUnit (s : State) (u : UnitRef) : Bool :=
  match u with
  | .port p => decide (8 * p.val < s.part.lanes)
  | .cluster c => decide (c.val < s.part.clusters)
  | .och => s.part.archive
  | .srv => s.part.archive
  | .mot => s.part.archive
  | .col => s.part.colophon
  | _ => true

/-- The registers of the archive channel's units answer: the part has the channel, and the device is not held in reset (00 R5; log 73). -/
def State.archived (s : State) : Bool := s.part.archive && s.awake

end Sys2Proof.Machine
end

