-- ==== Sys2Proof/Machine/Codes.lean ====
section
/-!
DEFINITION. Check codes: CRC-8 (03 R70), CRC-32 (05 R141), Reed-Solomon encoding over GF(2^8) (06 R157, 12 R315), and the
ZAD-3 modulation code (12 R307).
-/
namespace Sys2Proof.Machine

/-- One bit of the CRC-8 of 03 R70. -/
def crc8Bit (crc : Nat) (b : Bool) : Nat :=
  let fb := (crc / 128 % 2 == 1) != b
  let c := crc * 2 % 256
  if fb then c ^^^ 0x07 else c

/-- CRC-8 over bits in the order given (03 R70, 12 R310). -/
def crc8 (bits : List Bool) : Nat := bits.foldl crc8Bit 0

/-- One bit of the reflected CRC-32 (05 R141). -/
def crc32Step (c : Nat) : Nat := if c % 2 = 1 then (c / 2) ^^^ 0xEDB88320 else c / 2

/-- One byte of the CRC-32 (05 R141). -/
def crc32Byte (c : Nat) (b : Byte) : Nat := Nat.repeat crc32Step 8 (c ^^^ b.toNat)

/-- CRC-32 of a byte string (05 R141). -/
def crc32 (b : List Byte) : Nat := (b.foldl crc32Byte 0xFFFFFFFF) ^^^ 0xFFFFFFFF

/-- Multiplication by alpha = 0x02 in GF(2^8) with polynomial 0x11D (06 R157). -/
def gfDouble (a : Nat) : Nat := if 128 ≤ a then (2 * a) ^^^ 0x11D else 2 * a

/-- Multiplication in GF(2^8) (06 R157). -/
def gfMul (a b : Nat) : Nat :=
  ((List.range 8).foldl (fun (p : Nat × Nat) i => (if b.testBit i then p.1 ^^^ p.2 else p.1, gfDouble p.2)) (0, a)).1

/-- Power of alpha. -/
def gfPow (n : Nat) : Nat := Nat.repeat gfDouble n 1

/-- Multiply a polynomial (highest coefficient first) by x - root. -/
def polyMulRoot (p : List Nat) (root : Nat) : List Nat :=
  List.zipWith (· ^^^ ·) (p ++ [0]) (0 :: p.map (gfMul root))

/-- The generator with roots alpha^0 to alpha^(n-1), highest coefficient first (06 R157, 12 R315). -/
def rsGenerator (n : Nat) : List Nat := (List.range n).foldl (fun p i => polyMulRoot p (gfPow i)) [1]

/-- One step of the division that yields the check bytes. -/
def rsStep (gen : List Nat) (rem : List Nat) (d : Nat) : List Nat :=
  let f := d ^^^ rem.headD 0
  List.zipWith (· ^^^ ·) (rem.drop 1 ++ [0]) (gen.map (gfMul f))

/-- The `n` check bytes of a data string whose first byte is the highest coefficient (06 R157, 12 R315). -/
def rsCheck (n : Nat) (data : List Nat) : List Nat :=
  data.foldl (rsStep ((rsGenerator n).drop 1)) (List.replicate n 0)

/-- Channel word of a modulator input (12 R307). -/
def baseWord (i : Nat) : List Bool :=
  match i with
  | 0 => [false, true, false]
  | 1 => [false, false, true]
  | 2 => [true, false, true]
  | _ => [true, false, false]

/-- Substitute of a violating pair, or none (12 R307). -/
def substitute (c n : Nat) : Option (List Bool) :=
  if c = 1 && n = 2 then some [false, false, true, false, false, false]
  else if c = 1 && n = 3 then some [false, true, false, false, false, false]
  else if c = 2 && n = 2 then some [true, false, true, false, false, false]
  else if c = 2 && n = 3 then some [true, false, false, false, false, false]
  else none

/-- Modulate a coded field of 2-bit inputs (12 R307). -/
def modulate : List Nat → List Bool
  | [] => []
  | [c] => baseWord c
  | c :: n :: r =>
    match substitute c n with
    | some w => w ++ modulate r
    | none => baseWord c ++ modulate (n :: r)

/-- The 2-bit inputs of a byte, most significant bits first (12 R307). -/
def byteInputs (b : Byte) : List Nat := [b.toNat / 64, b.toNat / 16 % 4, b.toNat / 4 % 4, b.toNat % 4]

/-- Base-table decoding of a word (12 R307). -/
def baseInput (w : List Bool) : Nat :=
  if w = baseWord 0 then 0 else if w = baseWord 1 then 1 else if w = baseWord 2 then 2 else 3

/-- Demodulate words with one word of look-ahead; `prevOne` says that the preceding word ended in 1 (12 R307). -/
def demodulate : Bool → List (List Bool) → List Nat
  | _, [] => []
  | prevOne, w :: r =>
    let last := w.getLastD false
    let here :=
      if w = [false, false, false] then (if prevOne then 2 else 3)
      else if r.head? = some [false, false, false] then
        (if w = [false, false, true] || w = [false, true, false] then 1 else 2)
      else baseInput w
    here :: demodulate last r

end Sys2Proof.Machine
end

