-- ==== Sys2Proof/Machine/Flags.lean ====
section
/-!
DEFINITION. Event bits and the messages they raise: unit events (08 R208), the vectors of both functions (08 R207, 17), MSI-X
masking and pending bits (08 R209), and what a function may send (08 R220, R224, R534).
-/
namespace Sys2Proof.Machine

/-- A function may issue memory requests and messages: not contained (08 R220), D0 (08 R224), Bus Master Enable set and the
link in L0 (08 R534). -/
def State.canSend (s : State) (fn : Nat) : Bool :=
  !s.flag Reg.CFG_CONT_STATUS_CONTAINED fn && s.get Reg.CFG_PMCSR_STATE fn == 0 &&
    s.flag Reg.CFG_COMMAND_BME fn && s.pcie.linkUp

/-- The Mask bit of a vector's table entry is set. -/
def State.vecMasked (s : State) (fn vec : Nat) : Bool :=
  if fn = 0 then s.flag Reg.MSIX0_CTL_MASK vec else s.flag Reg.MSIX1_CTL_MASK vec

/-- Field of the PBA word that holds a vector's pending bit. -/
def pbaFld (fn : Nat) : Fld := if fn = 0 then Reg.MSIX0_PBA else Reg.MSIX1_PBA

/-- The vector's PBA bit. -/
def State.pba (s : State) (fn vec : Nat) : Bool := (s.get (pbaFld fn) (vec / 32) >>> (vec % 32)) % 2 == 1

/-- Set or clear the vector's PBA bit. -/
def State.setPba (s : State) (fn vec : Nat) (b : Bool) : State :=
  let w := s.get (pbaFld fn) (vec / 32)
  let bit := 2 ^ (vec % 32)
  s.put (pbaFld fn) (if b then w ||| bit else w - (w &&& bit)) (vec / 32)

/-- A vector is signalled, and the function may send if `may` holds (08 R209): nothing while MSI-X Enable is 0; the PBA bit
while a mask is set or the function may not send; else one message. -/
def State.signalIf (s : State) (may : Bool) (fn vec : Nat) : State :=
  if !s.flag Reg.CFG_MSIX_ENABLE fn then s
  else if s.flag Reg.CFG_MSIX_FMASK fn || s.vecMasked fn vec || !may then s.setPba fn vec true
  else (s.emit (.msix fn vec)).setPba fn vec false

/-- A vector is signalled (08 R209). -/
def State.signal (s : State) (fn vec : Nat) : State := s.signalIf (s.canSend fn) fn vec

/-- Vector of function 0 that a register page's event bits raise (08 R207, R208). -/
def pageVector (page : Nat) : Option Nat :=
  match page with
  | 0x0 => some 15
  | 0x2 => some 3
  | 0x3 => some 4
  | 0x4 => some 5
  | 0x5 => some 6
  | 0x6 => some 7
  | 0x8 => some 8
  | 0x9 => some 8
  | 0xA => some 9
  | 0xB => some 9
  | 0xC => some 9
  | 0xD => some 10
  | 0xE => some 11
  | 0xF => some 12
  | 0x10 => some 13
  | _ => none

/-- W1C bits of a register that its chapter ties to the unit event: all but the valid bits of the two error logs and the
bits that no vector names (06, 18: `GAL.ERR_INFO`, `EFC.ECC_LOG`; 01 `TOP.MODE`). -/
def eventMask (r : RReg) : Nat :=
  if r.base == Reg.GAL_ERR_INFO_VALID.base || r.base == Reg.EFC_ECC_LOG_VALID.base || r.base == Reg.TOP_MODE_ROLE.base then 0
  else r.fields.foldl (fun m f => if f.acc = .w1c then m ||| ((2 ^ (f.hi + 1 - f.lo) - 1) * 2 ^ f.lo) else m) 0

/-- Event bits set in the word at key `k`. -/
def eventsAt (k : Nat) (w : Word) : Bool :=
  match regFind k with
  | some r => (w.toNat &&& eventMask r) != 0
  | none => false

/-- The unit event of a vector of function 0: the OR of its event bits (08 R208).  Every event bit resets to 0, so the listed
words are all that can hold one. -/
def State.unitEvent (s : State) (vec : Nat) : Bool :=
  s.regs.any (fun e => decide (pageVector (e.1 / 0x100000) = some vec) && eventsAt e.1 e.2)

/-- Set an event bit of function 0 and signal its vector when the unit event rises (08 R208). -/
def State.event (s : State) (f : Fld) (i : Nat := 0) : State :=
  let s' := s.setFlag f true i
  match pageVector (f.base / 0x100000) with
  | none => s'
  | some vec => if s.unitEvent vec then s' else s'.signal 0 vec

/-- Vector of function 1 that a bit of `COL.STATUS` raises (17, "Registers"). -/
def colVector (bit : Nat) : Option Nat :=
  match bit with
  | 10 => some 2
  | 11 => some 3
  | 12 => some 4
  | 16 => some 4
  | 13 => some 5
  | 14 => some 6
  | 15 => some 7
  | _ => none

/-- The OR of the bits of `COL.STATUS` that raise a vector of function 1. -/
def State.colEventOr (s : State) (vec : Nat) : Bool :=
  let w := s.rd Reg.COL_STATUS_STATE.base
  (List.range 32).any (fun b => decide (colVector b = some vec) && bitsOf w b b == 1)

/-- Set an event bit of `COL.STATUS` and signal its vector of function 1 when the OR rises (08 R208, 17). -/
def State.colEvent (s : State) (f : Fld) : State :=
  let s' := s.setFlag f true
  match colVector f.lo with
  | none => s'
  | some vec => if s.colEventOr vec then s' else s'.signal 1 vec

/-- After a host write to event bits of the word at key `k`: signal again each vector whose OR stays 1 (08 R208). -/
def State.resignal (s : State) (k : Nat) : State :=
  if k / 0x100000 = 0x1000 then
    [2, 3, 4, 5, 6, 7].foldl (fun t vec => if t.colEventOr vec then t.signal 1 vec else t) s
  else
    match pageVector (k / 0x100000) with
    | none => s
    | some vec => if s.unitEvent vec then s.signal 0 vec else s

/-- A unit is marked failed: its bit of `TOP.UNIT_FAILED` (feature ID `id`) is set and vector 14 is signalled when it was
clear (02 R46, 08 R207). -/
def State.markUnitFailed (s : State) (id : Nat) : State :=
  let w := s.rd Reg.TOP_UNIT_FAILED_WORD.base
  let bit := 2 ^ id
  if w.toNat &&& bit != 0 then s
  else (s.wr Reg.TOP_UNIT_FAILED_WORD.base (BitVec.ofNat 32 (w.toNat ||| bit))).signal 0 14

/-- The unit with feature ID `id` is marked failed (01 R19, 02 R46). -/
def State.unitFailed (s : State) (id : Nat) : Bool := (s.rd Reg.TOP_UNIT_FAILED_WORD.base).toNat &&& 2 ^ id != 0

end Sys2Proof.Machine
end

