-- ==== Sys2Proof/Machine/Ops.lean ====
section
/-!
DEFINITION. Shared operations of the command rings: submission-entry fields (09 R236), completion entries and their messages
(09 R241), the error log (09 R249), ring freezes (09 R248), when a command may begin (09 R245, 01 R19) and how it ends.
-/
namespace Sys2Proof.Machine

/-- OPCODE of a submission entry (09 R236). -/
def Cmd.op (c : Cmd) : Nat := fieldAt c.entry 0 1
/-- FLAGS bit 0, ORDERED. -/
def Cmd.ordered (c : Cmd) : Bool := fieldAt c.entry 1 1 % 2 == 1
/-- FLAGS bit 1, LIST. -/
def Cmd.list (c : Cmd) : Bool := fieldAt c.entry 1 1 / 2 % 2 == 1
/-- FLAGS bit 2, FUA. -/
def Cmd.fua (c : Cmd) : Bool := fieldAt c.entry 1 1 / 4 % 2 == 1
/-- KEY_SLOT. -/
def Cmd.keySlot (c : Cmd) : Nat := fieldAt c.entry 6 2
/-- DATA_ADDR. -/
def Cmd.dataAddr (c : Cmd) : Nat := fieldAt c.entry 8 8
/-- DATA_LEN. -/
def Cmd.dataLen (c : Cmd) : Nat := fieldAt c.entry 16 4
/-- A field of the entry. -/
def Cmd.fld (c : Cmd) (off len : Nat) : Nat := fieldAt c.entry off len

/-- A submission ring beside its registers. -/
def State.sq (s : State) (n : Nat) : SqSt := sget (fun _ => {}) s.hq.sq n
/-- Set a submission ring. -/
def State.setSq (s : State) (n : Nat) (q : SqSt) : State :=
  { s with hq := { s.hq with sq := sput (fun _ => {}) s.hq.sq n q } }
/-- A completion ring beside its registers. -/
def State.cq (s : State) (m : Nat) : CqSt := sget (fun _ => {}) s.hq.cq m
/-- Set a completion ring. -/
def State.setCq (s : State) (m : Nat) (q : CqSt) : State :=
  { s with hq := { s.hq with cq := sput (fun _ => {}) s.hq.cq m q } }

/-- The chrysalis save has begun: outstanding commands receive no completion (09 R242; 02 R54). -/
def State.saving (s : State) : Bool := decide (2 ≤ s.get Reg.PWR_HOLDUP_STATUS_STATE)

/-- Completion ring `m` has no free entry (09 R228, R234). -/
def State.cqFull (s : State) (m : Nat) : Bool :=
  (s.get Reg.HQ_CQ_STATUS_TAIL m + 1) % (s.get Reg.HQ_CQ_CTL_DEPTH_M1 m + 1) == (s.cq m).head

/-- Tags of function 0: numbers below what the mode allows (08 R199; log 119), and those not in use: neither outstanding nor timed out
less than 1 ms, 1,600,000 device-time units, ago (08 R216). -/
def State.tagSpace (s : State) : Nat := if s.flag Reg.PCIE_STATUS_FLIT then 16384 else 768
def State.tagsInUse (s : State) : List Nat :=
  s.pcie.reads.map ReadTag.tag ++ (s.pcie.late.filter (fun l => decide (s.now < l.2 + 1600000))).map Prod.fst

/-- The tag of the next read: the lowest number that is not in use. -/
def State.freeTag (s : State) : Nat :=
  ((List.range (s.tagsInUse.length + 1)).find? (fun t => !s.tagsInUse.contains t)).getD 0

/-- Reads that function 0 may still issue (08 R199). -/
def State.readRoom (s : State) : Nat :=
  min ((if s.flag Reg.PCIE_STATUS_FLIT then 1024 else 768) - s.pcie.reads.length) (s.tagSpace - s.tagsInUse.length)

/-- HQ reads host memory (09 R229, R231, R234). -/
def State.issueRead (s : State) (use : ReadUse) (addr len : Nat) : State :=
  let t := s.emit (.hostRead addr len)
  { t with pcie := { t.pcie with
      reads := t.pcie.reads ++ [{ tag := s.freeTag, use }], late := t.pcie.late.filter (fun l => l.1 != s.freeTag) } }

/-- A read for this use is outstanding. -/
def State.reading (s : State) (use : ReadUse) : Bool := s.pcie.reads.any (fun r => r.use == use)

/-- The oldest read for a use, and the read with a tag, end. -/
def State.endRead (s : State) (use : ReadUse) : State :=
  { s with pcie := { s.pcie with reads := s.pcie.reads.eraseP (fun r => r.use == use) } }
def State.endTag (s : State) (tag : Nat) : State :=
  { s with pcie := { s.pcie with reads := s.pcie.reads.eraseP (fun r => r.tag == tag) } }

/-- Read completion ring `m`'s head doorbell, unless that read is under way (09 R234). -/
def State.readHead (s : State) (m : Nat) : State :=
  if s.reading (.head m) || !s.canSend 0 || s.readRoom = 0 then s
  else s.issueRead (.head m) (s.get64 Reg.HQ_DB_BASE + 0x1000 + 4 * m) 4

/-- The 16 bytes of a completion entry (09 R241). -/
def cplBytes (e : CplEntry) (phase sqHead : Nat) : List Byte :=
  leBytes 2 e.cid ++ leBytes 2 (e.sq + 4096 * e.epoch) ++ leBytes 1 e.status ++ leBytes 1 (e.flags + phase) ++
    leBytes 2 sqHead ++ leBytes 8 e.result

/-- Write a completion entry at the ring's tail and advance it; PHASE inverts when the tail wraps to 0 (09 R241). -/
def State.writeCpl (s : State) (m : Nat) (e : CplEntry) : State :=
  let tail := s.get Reg.HQ_CQ_STATUS_TAIL m
  let next := (tail + 1) % (s.get Reg.HQ_CQ_CTL_DEPTH_M1 m + 1)
  let phase := s.get Reg.HQ_CQ_STATUS_PHASE m
  let s1 := s.emit (.hostWrite (s.get64 Reg.HQ_CQ_BASE m + 16 * tail)
    (cplBytes e phase (s.get Reg.HQ_SQ_STATUS_HEAD e.sq)) false false)
  (s1.put Reg.HQ_CQ_STATUS_TAIL next m).put Reg.HQ_CQ_STATUS_PHASE (if next = 0 then 1 - phase else phase) m

/-- The message that follows entries written: at once without coalescing, else owed until the interval ends (09 R241). -/
def State.cplMessage (s : State) (m : Nat) : State :=
  if !s.flag Reg.HQ_CQ_CTL_IEN m then s
  else if s.get Reg.HQ_CQ_CTL_COAL m = 0 then s.signal 0 (s.get Reg.HQ_CQ_CTL_VECTOR m)
  else s.setCq m { s.cq m with owed := true, coalescing := true }

/-- Completion entries of function 0 now held, as `HELD_CPL` counts them (08, containment status). -/
def State.countHeld (s : State) : State :=
  s.put Reg.CFG_CONT_STATUS_HELD_CPL (min 255 (s.hq.cq.foldl (fun n e => n + e.2.held.length) 0)) 0

/-- A completion entry is due: written, or held in order while the ring is full or the function may not send
(09 R241, 08 R220). -/
def State.postCpl (s : State) (m : Nat) (e : CplEntry) : State :=
  let q := s.cq m
  if q.held.isEmpty && !s.cqFull m && s.canSend 0 then (s.writeCpl m e).cplMessage m
  else
    let s1 := s.setCq m { q with held := q.held ++ [e] }
    (if s.cqFull m then (s1.setFlag Reg.HQ_CQ_STATUS_FULL true m).readHead m else s1).countHeld

/-- Write held entries while the ring has room; `n` bounds their number. -/
def State.writeHeld (s : State) (m : Nat) : Nat → State
  | 0 => s
  | n + 1 =>
    match (s.cq m).held with
    | [] => s.setFlag Reg.HQ_CQ_STATUS_FULL false m
    | e :: r =>
      if s.cqFull m then s.setFlag Reg.HQ_CQ_STATUS_FULL true m
      else ((s.setCq m { s.cq m with held := r }).writeCpl m e).writeHeld m n

/-- Write a ring's held entries as far as it has room, with the message that follows (09 R234, R241; 08 R221). -/
def State.releaseHeld (s : State) (m : Nat) : State :=
  let n := (s.cq m).held.length
  if n = 0 || !s.canSend 0 then s
  else
    let s1 := (s.writeHeld m (n + 1)).countHeld
    if (s1.cq m).held.length < n then s1.cplMessage m else s1

/-- Write an entry of the error log, which keeps the 256 newest (09 R249). -/
def State.logError (s : State) (ring cid epoch opcode status flags detail : Nat) : State :=
  { s with hq := { s.hq with
      log := ({ seq := s.hq.logSeq, time := s.now, ring, cid, epoch, opcode, status, flags, detail } :: s.hq.log).take 256,
      logSeq := s.hq.logSeq + 1 } }

/-- Entries of ring `n` that are being read are not taken: they are read again when fetching goes on (09 R248).  The reads stay
outstanding (08 R215, R216). -/
def State.dropFetches (s : State) (n : Nat) : State :=
  { s with pcie := { s.pcie with reads := s.pcie.reads.map (fun r =>
      match r.use with | .entry k i => if k = n then { r with use := .stale k i } else r | _ => r) } }

/-- Freeze submission ring `n` (09 R248). -/
def State.freezeRing (s : State) (n : Nat) : State :=
  ((s.setFlag Reg.HQ_SQ_STATUS_FROZEN true n).inc Reg.HQ_FREEZES).dropFetches n

/-- A ring fault: the ring freezes, a log entry and a completion entry with CID 0xFFFF and EPOCH 0 are written
(09 R248, R249). -/
def State.ringFault (s : State) (n status detail : Nat) : State :=
  if s.flag Reg.HQ_SQ_STATUS_FROZEN n then s
  else
    let seq := s.hq.logSeq
    let s1 := (s.freezeRing n).logError n 0xFFFF 0 0 status 1 detail
    s1.postCpl (s1.get Reg.HQ_SQ_CTL_CQ n)
      { cid := 0xFFFF, sq := n, epoch := 0, status, flags := 2 + 8, result := seq % 2 ^ 32 * 2 ^ 32 }

/-- End a command that is outstanding: its completion entry, its log entry and freeze for a status other than SUCCESS
(09 R241, R248, R249).  Nothing is written once the chrysalis save has begun (09 R242). -/
def State.complete (s : State) (c : Cmd) (status result : Nat) (poisoned : Bool) (detail : Nat) : State :=
  let s0 := { s with hq := { s.hq with cmds := s.hq.cmds.filter (fun d => d.tag != c.tag) },
                     mot := { s.mot with held := s.mot.held.filter (· != c.tag) } }
  if s.saving || c.abandoned then s0
  else if status = 0 then
    s0.postCpl (s0.get Reg.HQ_SQ_CTL_CQ c.sq)
      { cid := c.cid, sq := c.sq, epoch := c.epoch, status := 0, flags := if poisoned then 4 else 0, result }
  else
    let froze := s0.flag Reg.HQ_SQ_CTL_FREEZE_ON_ERR c.sq && !s0.flag Reg.HQ_SQ_STATUS_FROZEN c.sq
    let seq := s0.hq.logSeq
    let s1 := s0.logError c.sq c.cid c.epoch c.op status ((if froze then 1 else 0) + (if poisoned then 2 else 0)) detail
    let s2 := if froze then s1.freezeRing c.sq else s1
    s2.postCpl (s2.get Reg.HQ_SQ_CTL_CQ c.sq)
      { cid := c.cid, sq := c.sq, epoch := c.epoch, status,
        flags := 2 + (if poisoned then 4 else 0) + (if froze then 8 else 0),
        result := result % 2 ^ 32 + seq % 2 ^ 32 * 2 ^ 32 }

/-- The outstanding command with a tag. -/
def State.cmd (s : State) (tag : Nat) : Option Cmd := s.hq.cmds.find? (fun c => c.tag == tag)

/-- Change an outstanding command. -/
def State.setCmd (s : State) (c : Cmd) : State :=
  { s with hq := { s.hq with cmds := s.hq.cmds.map (fun d => if d.tag == c.tag then c else d) } }

/-- Number of operations holding a bound copy of a slot's key, saturating at 31 (16, `SEC.SLOT.BOUND`). -/
def State.countBound (s : State) (slot : Nat) : State :=
  s.put Reg.SEC_SLOT_BOUND (min 31 (s.sec.bound.countP (fun b => b.slot == slot))) slot

/-- Give back the bound copies of an operation, drop its waiting pieces, and complete the KEY_CLEAR commands that waited for
the last of the copies (16 R403). -/
def State.unbind (s : State) (tag : Nat) : State :=
  let gone := s.sec.bound.filter (fun b => b.cmd == tag)
  let s1 := { s with sec := { s.sec with bound := s.sec.bound.filter (fun b => b.cmd != tag),
                                         waiting := s.sec.waiting.filter (fun p => p.cmd != some tag) } }
  let s2 := gone.foldl (fun t b => t.countBound b.slot) s1
  let held := fun (k : Nat × Nat) => s2.sec.bound.any (fun b => b.serial == k.2)
  let s3 := { s2 with sec := { s2.sec with clears := s2.sec.clears.filter held } }
  (s2.sec.clears.filter (fun k => !held k)).foldl (fun t k =>
    match t.cmd k.1 with
    | some c => t.complete c 0 0 false 0
    | none => t) s3

/-- A command's completion is determined: it ends, its bound key copies go back (09 R241; 16 R403). -/
def State.finish (s : State) (tag status result : Nat) (poisoned : Bool := false) (detail : Nat := 0) : State :=
  let s1 := match s.cmd tag with
    | some c => s.complete c status result poisoned detail
    | none => s
  s1.unbind tag

/-- A command may begin: no earlier ORDERED command of its ring is undetermined, and an ORDERED one is the oldest of its ring
(09 R245). -/
def State.mayBegin (s : State) (c : Cmd) : Bool :=
  c.begun || !s.hq.cmds.any (fun d => d.sq == c.sq && !d.abandoned && decide (d.tag < c.tag) && (d.ordered || c.ordered))

/-- Feature ID of the unit that executes an opcode (09 R240; 01 "Units and their work": HQ executes capture, galley and egress
commands). -/
def opUnit (op : Nat) : Nat :=
  if op ≤ 0x05 || op = 0x13 || op = 0x47 || op = 0x48 then 8
  else if op ≤ 0x15 then 7
  else if op = 0x20 || op = 0x21 then 12
  else if op ≤ 0x25 then 10
  else if op ≤ 0x34 || op = 0x49 then 13
  else 7

/-- Units that a command needs, by feature ID (01 R18, R19; 09 R240; 16 R421): its own; SEC for the at-rest layer of the magazine and for
an imago's signature; the magazine for an archive write. -/
def Cmd.units (c : Cmd) : List Nat :=
  opUnit c.op :: (if opUnit c.op = 8 || c.op = 0x24 then [13] else if c.op = 0x22 then [8, 13] else [])

/-- Cores that serve a unit (01, "Management cores"): MC1 and MC2, MC3, SC. -/
def unitCores (id : Nat) : List Nat :=
  match id with
  | 8 => [1, 2]
  | 10 => [3]
  | 12 => [3]
  | 13 => [4]
  | _ => []

/-- A command that has not begun binds a key, or signs when it goes on: SC has to run (16 R403, R421). -/
def Cmd.asksSc (c : Cmd) : Bool := c.op == 0x24 || ((c.op == 0x13 || c.op == 0x22) && c.keySlot != 0xFFFF && !c.begun)

/-- Cores that a command needs: those of its unit, of the magazine for an archive write, SC for a new binding or a signature; MC0 for the
administration opcodes that it performs. -/
def Cmd.cores (c : Cmd) : List Nat :=
  (if c.op = 0x41 || c.op = 0x42 || c.op = 0x43 then [0] else if c.op = 0x47 || c.op = 0x48 then [0, 1, 2] else unitCores (opUnit c.op)) ++
    (if c.op = 0x22 then [1, 2] else []) ++ (if c.asksSc then [4] else [])

/-- A core runs: RUN or SLEEP (19 R475; 01 R19). -/
def State.coreRuns (s : State) (k : Nat) : Bool := s.get Reg.MBX_CORE_STATUS_STATE k == 2 || s.get Reg.MBX_CORE_STATUS_STATE k == 3

/-- The cores of a unit run. -/
def State.unitRuns (s : State) (id : Nat) : Bool := (unitCores id).all s.coreRuns

/-- Every core that a command needs runs. -/
def State.coresRun (s : State) (c : Cmd) : Bool := c.cores.all s.coreRuns

/-- A unit that a command needs is marked failed (09 R240; 16 R421). -/
def State.opFailed (s : State) (c : Cmd) : Bool := c.units.any s.unitFailed

/-- A command ends because a unit that it needs has failed or is reset (09 R240, R241, R247): RESULT counts what it has done. -/
def State.cutCmd (s : State) (c : Cmd) (status : Nat) : State :=
  let n := match s.och.job with
    | some j => if j.cmd = c.tag then j.written else c.progress
    | none => c.progress
  s.finish c.tag status (if opUnit c.op = 7 then 0 else n) c.poisoned

/-- The command moves its data to or from host memory (09, opcode tables). -/
def movesData (op : Nat) : Bool :=
  [0x01, 0x02, 0x05, 0x14, 0x23, 0x30, 0x32, 0x33, 0x34, 0x41, 0x49].contains op

/-- The command reads its data from host memory. -/
def readsData (op : Nat) : Bool := [0x01, 0x05, 0x30, 0x32, 0x33].contains op

/-- The place where a command works has stopped: its data lies in a galley that is in self-refresh (06 R180), or it moves a mechanism
in the AOS safe state (02 R49). -/
def State.opHeld (s : State) (op : Nat) : Bool :=
  (s.get Reg.GAL_STATUS_SR != 0 && (opUnit op == 8 || (decide (0x10 ≤ op) && decide (op ≤ 0x15)))) ||
    ((s.pwr.aosSafe || s.pwr.lockstep || s.pwr.trip) && [10, 12].contains (opUnit op))

/-- An archive command fetched while the spindle's SERVICE is on waits until EN is written 0 (15 R389). -/
def State.serviceHeld (s : State) (c : Cmd) : Bool := s.flag Reg.MOT_SPN_SVC_EN && !c.begun && [10, 12].contains (opUnit c.op)

/-- Run a ring command's meaning on the outstanding command `tag` with opcode `op`: nothing happens where no such command is
outstanding, where it may not begin yet (09 R245), while its core restarts (01 R19), or while its host transfer has to wait
(08 R199, R220, R224, R534); with a failed unit it completes with DEVICE_DEGRADED (09 R240). -/
def State.onCmd (s : State) (tag op : Nat) (f : State → Cmd → State) : Result :=
  match s.cmd tag with
  | none => .next s
  | some c =>
    if c.op != op || !s.mayBegin c || s.saving then .next s
    else if s.opFailed c then .next (s.cutCmd c 0x04)
    else if !s.coresRun c || (movesData op && !s.canSend 0) || (readsData op && s.readRoom = 0) || s.opHeld op ||
        s.serviceHeld c then .next s
    else .next (f (s.setCmd { c with begun := true }) c)

/-- Descriptors of a list: address and length (09, after R236). -/
def descriptors (b : List Byte) : Nat → List (Nat × Nat)
  | 0 => []
  | n + 1 => (fieldAt b 0 8, fieldAt b 8 4) :: descriptors (b.drop 16) n

/-- Where a command's data lies in host memory: its buffer, or the descriptors that stand behind its entry (09 R236). -/
def Cmd.places (c : Cmd) : List (Nat × Nat) :=
  if c.list then descriptors (c.entry.drop 64) (c.fld 4 2) else [(c.dataAddr, c.dataLen)]

/-- Host address of byte `o` of a command's data: where a failed read lies (09 R249, DETAIL). -/
def addrAt : List (Nat × Nat) → Nat → Nat
  | [], _ => 0
  | (a, n) :: r, o => if o < n then a + o else addrAt r (o - n)

/-- The address at which a data read failed after `n` bytes (09 R247, R249). -/
def Cmd.failedAt (c : Cmd) (n : Nat) : Nat := addrAt c.places n

/-- Max_Payload_Size in bytes (08 R199). -/
def State.maxPayload (s : State) : Nat := 128 * 2 ^ min 2 (s.get Reg.CFG_DEVCTL_MPS 0)

/-- Runs of bytes that are poisoned or not: offset, length, poisoned.  The `n` bytes begin at byte `o` of a transfer, `bad` lists the
64-byte lines of the transfer that are poisoned (08 R212). -/
def poisonRuns (o n : Nat) (bad : List Nat) : List (Nat × Nat × Bool) :=
  (List.range ((o + n + 63) / 64 - o / 64)).foldl (fun (acc : List (Nat × Nat × Bool)) i =>
    let j := o / 64 + i
    let lo := max o (64 * j) - o
    let k := min (o + n) (64 * j + 64) - o - lo
    let p := bad.contains j
    match acc.getLast? with
    | some (a, m, q) => if q == p then acc.dropLast ++ [(a, m + k, q)] else acc ++ [(lo, k, p)]
    | none => [(lo, k, p)]) []

/-- Count the poisoned TLPs of a transfer's runs (08, `PCIE.POISON_TX`). -/
def State.countPoisonTx (s : State) (runs : List (Nat × Nat × Bool)) : State :=
  let m := s.maxPayload
  let n := runs.foldl (fun a r => if r.2.2 then a + (r.2.1 + m - 1) / m else a) 0
  if n = 0 then s else s.add Reg.PCIE_POISON_TX n

/-- One memory write of command data, poisoned or not (08 R211, R212). -/
def State.hostPiece (s : State) (addr : Nat) (bytes : List Byte) (poisoned : Bool) : State :=
  if bytes.isEmpty then s else s.emit (.hostWrite addr bytes poisoned (s.flag Reg.CFG_DEVCTL_RO_EN 0))

/-- Write `bytes` (data from byte `o` of the transfer on) at `addr`, split where the data becomes poisoned or ceases to be; `bad` lists
the 64-byte lines of the transfer that are (08 R212). -/
def State.dataWrite (s : State) (addr o : Nat) (bytes : List Byte) (bad : List Nat) : State :=
  let runs := poisonRuns o bytes.length bad
  runs.foldl (fun (t : State) r => t.hostPiece (addr + r.1) ((bytes.drop r.1).take r.2.1) r.2.2) (s.countPoisonTx runs)

/-- Write a command's data to its places in host memory, from the first on (09 R236). -/
def State.scatter (s : State) (bytes : List Byte) (bad : List Nat) : Nat → List (Nat × Nat) → State
  | _, [] => s
  | o, (a, n) :: r => (s.dataWrite a o ((bytes.drop o).take n) bad).scatter bytes bad (o + n) r

/-- Deliver a command's data to the host. -/
def State.deliver (s : State) (c : Cmd) (bytes : List Byte) (bad : List Nat) : State := s.scatter bytes bad 0 c.places

/-- The take in a segment, beside its registers. -/
def State.take (s : State) (seg : Nat) : TakeSt := (s.cap.takes.lookup seg).getD {}
def State.setTake (s : State) (seg : Nat) (t : TakeSt) : State :=
  { s with cap := { s.cap with takes := insertKey s.cap.takes seg t } }
/-- STATE of the take in a segment (04 R116). -/
def State.takeState (s : State) (seg : Nat) : Nat := s.get Reg.CAP_SEG_TAKE_STATE seg
def State.takeId (s : State) (seg : Nat) : Nat := s.get Reg.CAP_SEG_TAKE_TAKE_ID seg

/-- `TOP.MODE.ROLE` is PAIRED, and the member's pair role. -/
def State.paired (s : State) : Bool := s.get Reg.TOP_MODE_ROLE == 2
def State.pairActive (s : State) : Bool := s.paired && s.get Reg.PAIR_STATUS_ROLE == 1
/-- STANDBY, ISOLATED or TAKEOVER: decisions come from the peer (07 R194). -/
def State.pairPassive (s : State) : Bool :=
  s.paired && decide (2 ≤ s.get Reg.PAIR_STATUS_ROLE) && decide (s.get Reg.PAIR_STATUS_ROLE ≤ 4)
/-- A SEGSTATE record of a segment (07 R189). -/
def State.segRecord (s : State) (seg : Nat) : List Byte :=
  let t := s.take seg
  let p := t.p
  let bit := fun (b : Bool) (n : Nat) => if b then n else 0
  leBytes 1 1 ++ leBytes 1 seg ++ leBytes 1 (s.takeState seg) ++
    leBytes 1 (bit t.trigSeq.isSome 1 + bit t.stopSeq.isSome 2 + bit t.firstSeq.isSome 4) ++ leBytes 2 (s.takeId seg) ++
    leBytes 2 (p.start + 2 * p.trigLogic + 4 * p.basis + 8 * p.full + 16 * p.codeMode + 64 * p.bound) ++
    leBytes 1 p.trigSel ++ leBytes 1 p.preFrac ++ zeros 2 ++ leBytes 4 p.post ++ leBytes 4 (t.firstSeq.getD 0) ++
    leBytes 4 (t.trigSeq.getD 0) ++ leBytes 4 (t.stopSeq.getD 0) ++ zeros 4

/-- The active has a record to send (07 R188). -/
def State.noteSeg (s : State) (seg : Nat) : State :=
  if s.pairActive then { s with pair := { s.pair with records := s.pair.records ++ [s.segRecord seg] } } else s

end Sys2Proof.Machine
end

