-- ==== Sys2Proof/Machine/Journal.lean ====
section
/-!
DEFINITION. The flash array's bytes and the journals of firmware (18 R448, R462-R466).
-/
namespace Sys2Proof.Machine

/-- What an unlisted flash or OTP byte reads as: blank (18 R463). -/
def flashBlank : Nat → Byte := fun _ => 0xFF

/-- `n` flash bytes from flash address `a` (18 R448). -/
def State.flashRead (s : State) (a n : Nat) : List Byte := (List.range n).map (fun i => sget flashBlank s.efc.flash (a + i))

/-- Put bytes into the flash array. -/
def State.flashPut (s : State) (a : Nat) (b : List Byte) : State :=
  { s with efc := { s.efc with
      flash := (b.foldl (fun (p : List (Nat × Byte) × Nat) x => (sput flashBlank p.1 p.2 x, p.2 + 1)) (s.efc.flash, a)).1 } }

/-- Every byte is blank. -/
def allBlank (b : List Byte) : Bool := b.all (fun x => x == 0xFF)

/-- A sector was cut or aborted in an erase and not erased since (18 R458). -/
def State.deadSector (s : State) (a : Nat) : Bool := s.efc.dead.contains (a / 4096)

/-- Flash address of a journal's ring (18 R448, R466). -/
def journalBase (j : Nat) : Option Nat :=
  match j with
  | 1 => some 0xE00000
  | 2 => some 0xE40000
  | 3 => some 0xE80000
  | 4 => some 0x1E00000
  | _ => none

/-- A journal entry (18 R463). -/
def journalEntry (seq kind : Nat) (payload : List Byte) : List Byte :=
  let n := (payload.length + 16 + 31) / 32
  let body := leBytes 4 seq ++ leBytes 1 kind ++ leBytes 1 n ++ zeros 2 ++ padTo (32 * n - 16) payload
  let c := crc32 body
  body ++ leBytes 4 c ++ leBytes 4 (2 ^ 32 - 1 - c)

/-- A sector header (18 R462). -/
def sectorHeader (j eraseSeq : Nat) : List Byte :=
  leBytes 4 0x4A53595A ++ leBytes 1 j ++ zeros 3 ++ leBytes 4 eraseSeq ++ leBytes 4 (2 ^ 32 - 1 - eraseSeq % 2 ^ 32) ++
    zeros 16

/-- ERASE_SEQ of a sector with a valid header of journal `j` (18 R462). -/
def State.headerSeq (s : State) (j a : Nat) : Option Nat :=
  let e := fieldAt (s.flashRead a 32) 8 4
  if !s.deadSector a && s.flashRead a 32 == sectorHeader j e then some e else none

/-- A valid entry as a reader finds it: granule, granules, SEQ, KIND. -/
abbrev FoundEntry := Nat × Nat × Nat × Nat

/-- Scan a sector from a granule on (18 R463): the valid entries, and the blank granule that ends the sector. -/
def State.scanSector (s : State) (a : Nat) : Nat → Nat → List FoundEntry × Nat
  | 0, g => ([], g)
  | fuel + 1, g =>
    if 128 ≤ g then ([], 128)
    else
      let b := s.flashRead (a + 32 * g) 32
      if allBlank b then ([], g)
      else
        let n := fieldAt b 5 1
        let e := s.flashRead (a + 32 * g) (32 * n)
        let ok := decide (1 ≤ n ∧ n ≤ 8 ∧ g + n ≤ 128) && fieldAt e (32 * n - 8) 4 == crc32 (e.take (32 * n - 8)) &&
          fieldAt e (32 * n - 4) 4 == 2 ^ 32 - 1 - fieldAt e (32 * n - 8) 4
        if ok then
          let r := s.scanSector a fuel (g + n)
          ((g, n, fieldAt e 0 4, fieldAt e 4 1) :: r.1, r.2)
        else s.scanSector a fuel (g + 1)

/-- The valid entries of a journal: sector index and entry (18 R463, R464). -/
def State.journalEntries (s : State) (j base : Nat) : List (Nat × FoundEntry) :=
  (List.range 64).foldl (fun l i =>
    match s.headerSeq j (base + 4096 * i) with
    | some _ => l ++ ((s.scanSector (base + 4096 * i) 128 1).1.map (fun e => (i, e)))
    | none => l) []

/-- What tells the entries of a journal apart: KIND, and the ID of a COUNTER (18 R464, R466; log 144). -/
def State.journalKey (s : State) (j base : Nat) (e : Nat × FoundEntry) : Nat :=
  if j = 3 then fieldAt (s.flashRead (base + 4096 * e.1 + 32 * e.2.1 + 8) 2) 0 2 else e.2.2.2.2

/-- The current entry among some: the valid one with the highest SEQ (18 R464). -/
def currentEntry (es : List (Nat × FoundEntry)) : Option (Nat × FoundEntry) :=
  es.foldl (fun m e =>
    match m with
    | none => some e
    | some x => if x.2.2.2.1 < e.2.2.2.1 then some e else some x) none

/-- The current entry of a KIND (18 R464). -/
def currentOf (es : List (Nat × FoundEntry)) (kind : Nat) : Option (Nat × FoundEntry) :=
  currentEntry (es.filter (fun e => e.2.2.2.2 == kind))

/-- Highest ERASE_SEQ in a ring. -/
def State.maxErase (s : State) (j base : Nat) : Nat :=
  (List.range 64).foldl (fun m i => max m ((s.headerSeq j (base + 4096 * i)).getD 0)) 0

/-- Append one entry at the first blank granule after the last valid entry, moving to the next sector, whose header is
programmed first, where it does not fit (18 R462, R463). -/
def State.journalPut (s : State) (j base kind : Nat) (payload : List Byte) : State :=
  let es := s.journalEntries j base
  let seq := es.foldl (fun m e => max m (e.2.2.2.1 + 1)) 1
  let last := es.foldl (fun (m : Option (Nat × Nat)) e =>
    match m with
    | none => some (e.2.2.2.1, e.1)
    | some x => if x.1 < e.2.2.2.1 then some (e.2.2.2.1, e.1) else some x) none
  let e := journalEntry seq kind payload
  let n := e.length / 32
  let cur := match last with | some x => x.2 | none => 63
  let pos := match last with | some x => (s.scanSector (base + 4096 * x.2) 128 1).2 | none => 128
  if pos + n ≤ 128 then (s.flashPut (base + 4096 * cur + 32 * pos) e).add Reg.EFC_PROGRAMS n
  else
    let a := base + 4096 * ((cur + 1) % 64)
    let s1 := match s.headerSeq j a with
      | some _ => s
      | none =>
        let t := if allBlank (s.flashRead a 4096) && !s.deadSector a then s
          else ({ s with efc := { s.efc with flash := sclear s.efc.flash a (a + 4096),
                                             dead := s.efc.dead.filter (· != a / 4096) } }).inc Reg.EFC_ERASES
        (t.flashPut a (sectorHeader j (s.maxErase j base + 1))).inc Reg.EFC_PROGRAMS
    (s1.flashPut (a + 32) e).add Reg.EFC_PROGRAMS n

/-- Compact a ring when only 2 sectors without entries remain (18 R465): copy the current entries that lie in the oldest
sector, then erase it and program its header. -/
def State.journalCompact (s : State) (j base : Nat) : State :=
  let es := s.journalEntries j base
  let used := (List.range 64).filter (fun i => es.any (fun e => e.1 == i))
  if 2 < 64 - used.length then s
  else
    let firstSeq := fun i => (es.filter (fun e => e.1 == i)).foldl (fun m e => min m e.2.2.2.1) (2 ^ 32)
    let old := used.foldl (fun m i => if firstSeq i < firstSeq m then i else m) (used.headD 0)
    let s1 := ((es.map (s.journalKey j base)).eraseDups).foldl (fun (t : State) k =>
      match currentEntry (es.filter (fun e => s.journalKey j base e == k)) with
      | some (i, g, n, _, kind) =>
        if i = old then
          t.journalPut j base kind (((t.flashRead (base + 4096 * i + 32 * g) (32 * n)).drop 8).take (32 * n - 16))
        else t
      | none => t) s
    let a := base + 4096 * old
    let seq := s1.maxErase j base + 1
    let s2 := ({ s1 with efc := { s1.efc with flash := sclear s1.efc.flash a (a + 4096) } }).inc Reg.EFC_ERASES
    (s2.flashPut a (sectorHeader j seq)).inc Reg.EFC_PROGRAMS

end Sys2Proof.Machine
end

