-- ==== Sys2Proof/Machine/Aos.lean ====
section
/-!
DEFINITION. Operations that several units share when something fails or stops: containment (08 R219, R210), the laser, coil and
spindle outputs (13 R336, 14 R360, 15 R385), the archive stop and write faults (13 R347, R349), a unit marked failed (02 R46).
-/
namespace Sys2Proof.Machine

/-- A function is enumerated: function 1 only on a part with the colophon die (00 R7). -/
def State.hasFn (s : State) (fn : Nat) : Bool := fn == 0 || s.part.colophon

/-- Field of a containment cause: 0 HOST, 1 ERR, 2 INTERNAL, 3 AOS (08 R219). -/
def causeFld (cause : Nat) : Fld :=
  match cause with
  | 0 => Reg.CFG_CONT_STATUS_CAUSE_HOST
  | 1 => Reg.CFG_CONT_STATUS_CAUSE_ERR
  | 2 => Reg.CFG_CONT_STATUS_CAUSE_INTERNAL
  | _ => Reg.CFG_CONT_STATUS_CAUSE_AOS

/-- A function enters containment for a cause (08 R219): its vector first, the fatal one for cause AOS (08 R210); a function
that is already contained only gets the cause bit. -/
def State.contain (s : State) (fn cause : Nat) : State :=
  if !s.hasFn fn then s
  else if s.flag Reg.CFG_CONT_STATUS_CONTAINED fn then s.setFlag (causeFld cause) true fn
  else
    let s1 := s.signal fn (if cause = 3 then 0 else 1)
    let s2 := (s1.setFlag (causeFld cause) true fn).setFlag Reg.CFG_CONT_STATUS_CONTAINED true fn
    let s3 := s2.put Reg.CFG_CONT_STATUS_FREEZE_SEQ ((s2.get Reg.CFG_CONT_STATUS_FREEZE_SEQ fn + 1) % 256) fn
    s3.put64 Reg.CFG_ENTRY_TIME s.now fn

/-- Set a bit of `RST.CAUSE`, which lies in the AON domain (02 R40). -/
def State.cause (s : State) (f : Fld) : State := s.setFlag f true

/-- LD_EN goes low and every drive DAC to 0 mA (13 R336). -/
def State.lasersOff (s : State) : State :=
  let s1 := { s with pwr := { s.pwr with ldEn := false }, och := { s.och with lasersOn := false, writing := [] } }
  (List.range 16).foldl (fun t b => (t.put Reg.OCH_LASER_DRIVE_IW 0 b).put Reg.OCH_LASER_DRIVE_IR 0 b) s1

/-- Servo loop `l`. -/
def State.loop (s : State) (l : Nat) : LoopSt := s.srv.loops.getD l {}
/-- Set servo loop `l`. -/
def State.setLoop (s : State) (l : Nat) (v : LoopSt) : State :=
  { s with srv := { s.srv with loops := s.srv.loops.set l v } }

/-- A coil bridge switches off (14 R360, R362). -/
def State.coilOff (s : State) (l : Nat) : State :=
  let s1 := s.put Reg.SRV_COIL_STATUS_BRIDGE 0 l
  { s1 with pwr := { s1.pwr with coils := s1.pwr.coils.filter (· != l) } }

/-- A layer jump ends when focus is lost (14 R360). -/
def State.dropJump (s : State) (l : Nat) : State :=
  if l = 0 then { s with srv := { s.srv with jump := none } } else s

/-- A loop goes OFF: integrator 0, bridge off (14 R360). -/
def State.loopOff (s : State) (l : Nat) : State :=
  let v := s.loop l
  (((s.dropJump l).setLoop l { v with integ := 0, closed := false, lockRun := 0, offRun := 0, sumRun := 0, holdCnt := 0 }).put
    Reg.SRV_LOOP_STATUS_LSTATE 0 l).coilOff l

/-- Every loop goes OFF in the order skew, tilt, tracking, focus (14 R376). -/
def State.loopsOff (s : State) : State := [3, 2, 1, 0].foldl State.loopOff s

/-- Queue an LFN for relocation: the folio does not count as written (13 R343, R346, R347). -/
def State.queueReloc (s : State) (lfn : Nat) (area : List Byte) : State :=
  let s1 := (s.inc Reg.OCH_PROOF_FAIL).event Reg.OCH_STATUS_RELOC_EV
  { s1 with och := { s1.och with relocQ := s1.och.relocQ ++ [(lfn, area)] } }

/-- The archive channel's job ends: no folio in flight, MODE IDLE. -/
def State.endArchive (s : State) : State :=
  let s1 := s.put Reg.OCH_STATUS_MODE 0
  { s1 with och := { s1.och with job := none, flight := [], writing := [], faulted := [], reading := none, passes := [],
                                 readBuf := [], differs := false } }

/-- The payload of a RESUME entry (13 R349; 18 R466; its layout is log 63): DISC_ID, the last LFN that counts as written (all ones:
none), then the queue and the unknown LFNs with their numbers, as far as 8 granules hold them. -/
def ResumeEntry.payload (r : ResumeEntry) : List Byte :=
  (r.discId ++ leBytes 4 (r.lastLfn.getD 0xFFFFFFFF) ++ leBytes 2 r.queue.length ++ leBytes 2 r.unknown.length ++
    ((r.queue ++ r.unknown).map (leBytes 4)).flatten).take 240

/-- MC3 appends the resume entry to the ARCHIVE journal (13 R349; 18 R466). -/
def State.resumeJournal (s : State) (r : ResumeEntry) : State :=
  (s.journalPut 4 0x1E00000 1 r.payload).journalCompact 4 0x1E00000

/-- An archive write stops (13 R349; a seal only loses the folios it is writing, log 67): folios being written are cut and queued, folios whose verdict is pending are unknown, a
resume entry is kept, and the command completes with `status` (`none`: the caller completes it). -/
def State.archiveStop (s : State) (status : Option Nat) : State :=
  match s.och.job with
  | none => s
  | some j =>
    let cut := s.och.flight.filter (fun f => !f.ended)
    if j.sealing then
      (cut.filter (fun f => f.lfn != 0xFFFFFFFF)).foldl (fun t f => t.queueReloc f.lfn f.area)
        { s with och := { s.och with flight := s.och.flight.filter (fun f => f.ended), writing := [] } }
    else
      let unknown := (s.och.flight.filter (fun f => f.ended)).map FolioJob.lfn
      let s1 := cut.foldl (fun t f => t.queueReloc f.lfn f.area) s
      let entry : ResumeEntry :=
        { discId := s.och.discId, lastLfn := if j.written = 0 then none else some (j.firstLfn + j.written - 1),
          queue := s1.och.relocQ.map Prod.fst, unknown }
      let s2 := ({ s1 with och := { s1.och with resume := entry :: s1.och.resume, relocQ := [] } } : State).resumeJournal entry
      match status with
      | some st => s2.endArchive.finish j.cmd st j.written
      | none => s2.endArchive

/-- A write fault on some beams (13 R347): their lasers fall to read power, the folios they were writing are cut; at FAULT_LIM
the command stops with MEDIA_ERROR. -/
def State.writeFault (s : State) (beams : List Nat) : State :=
  match s.och.job with
  | none => s
  | some j =>
    let hit := s.och.flight.filter (fun f => beams.contains f.beam && !f.ended)
    let s1 := { s with och := { s.och with
      flight := s.och.flight.filter (fun f => !(beams.contains f.beam && !f.ended)),
      writing := s.och.writing.filter (fun b => !beams.contains b),
      faulted := s.och.faulted ++ beams.filter (fun b => !s.och.faulted.contains b),
      good := s.och.good.filter (fun e => !beams.contains e.1),
      job := some { j with faults := j.faults + 1 } } }
    let s2 := hit.foldl (fun t f => t.queueReloc f.lfn f.area) s1
    let s3 := (s2.inc Reg.OCH_WRITE_FAULTS).event Reg.OCH_STATUS_WRITE_FAULT_EV
    if s3.get Reg.OCH_FAULT_FAULT_LIM ≤ j.faults + 1 then s3.archiveStop (some 0x0D) else s3

/-- The control engine reports a servo-loop fault while a beam is at write power (14 R361): a write fault on all of them. -/
def State.servoFault (s : State) : State :=
  if s.och.writing.isEmpty then s else s.writeFault s.och.writing

/-- A loop enters FAULT with a cause: 1 SATURATION, 2 LOSS, 3 HOLD_TIMEOUT (14 R360); focus takes loops 1-3 to OFF. -/
def State.loopFault (s : State) (l cause : Nat) : State :=
  let v := s.loop l
  let s1 := ((s.dropJump l).setLoop l { v with integ := 0, closed := false, lockRun := 0, offRun := 0, sumRun := 0, holdCnt := 0 }).put
    Reg.SRV_LOOP_STATUS_LSTATE 4 l
  let s2 := ((s1.put Reg.SRV_LOOP_STATUS_CAUSE cause l).inc Reg.SRV_LOOP_FAULTS).event Reg.SRV_STATUS_LOOP_FAULT_EV
  let s3 := if cause = 1 then s2.coilOff l else s2
  let s4 := if l = 0 then [3, 2, 1].foldl State.loopOff s3 else s3
  s4.servoFault

/-- Stepper axis `a` (0 sled, 1 lift, 2 shuttle). -/
def State.axis (s : State) (a : Nat) : AxisSt := s.mot.axes.getD a {}
/-- Set stepper axis `a`. -/
def State.setAxis (s : State) (a : Nat) (v : AxisSt) : State :=
  { s with mot := { s.mot with axes := s.mot.axes.set a v } }

/-- Enable half-bridges `lo` to `hi` - 1 that are off: their carries start at 0 (15 R379). -/
def State.bridgesOn (s : State) (lo hi : Nat) : State :=
  { s with mot := { s.mot with bridges := (List.range (hi - lo)).foldl (fun m i =>
      if m.any (fun b => b.1 == lo + i) then m else insertKey m (lo + i) {}) s.mot.bridges } }

/-- A stepper axis starts a move: KIND 1 SEEK, 2 SWEEP, 3 HOME; ASTATE MOVE; a new move clears REMAIN (15 R393). -/
def State.startMove (s : State) (a kind : Nat) (target v : Int) : State :=
  let x := s.axis a
  let s1 := s.setAxis a { x with target, sweepV := v, held := false, moved := true,
                                 homing := if kind = 3 then x.homing else none }
  let s2 := (s1.put Reg.MOT_AXIS_STATUS_KIND kind a).put Reg.MOT_AXIS_STATUS_ASTATE 2 a
  let s3 := (s2.setFlag Reg.MOT_AXIS_STATUS_MOVING true a).put Reg.MOT_AXIS_REMAIN_REMAIN 0 a
  let s4 := s3.bridgesOn (3 + 4 * a) (7 + 4 * a)
  { s4 with pwr := { s4.pwr with axesOn := if s4.pwr.axesOn.contains a then s4.pwr.axesOn else s4.pwr.axesOn ++ [a] } }

/-- A stepper axis is told to stop along its profile (15 R393). -/
def State.stopMove (s : State) (a : Nat) : State :=
  if s.flag Reg.MOT_AXIS_STATUS_MOVING a then s.put Reg.MOT_AXIS_STATUS_ASTATE 3 a else s

/-- The bridges may be driven: no lockstep disagreement, no trip, no reset (02 R37, R50, R64; 15 R395). -/
def State.bridgesLive (s : State) : Bool := s.awake && !s.pwr.lockstep && !s.pwr.trip

/-- The sled parks: a SEEK to PARK_POS (15 R395). -/
def State.parkSled (s : State) : State :=
  if s.bridgesLive && s.flag Reg.MOT_AXIS_STATUS_POS_VALID 0 then s.startMove 0 1 (s.getInt Reg.MOT_AXIS_PARK_PARK_POS 0) 0 else s

/-- Every half-bridge from `lo` to `hi` - 1 switches off. -/
def State.bridgesOff (s : State) (lo hi : Nat) : State :=
  { s with mot := { s.mot with bridges := s.mot.bridges.filter (fun b => decide (b.1 < lo) || decide (hi ≤ b.1)) } }

/-- The spindle bridge switches off and the spindle counts as STOPPED (15 R385). -/
def State.spindleOff (s : State) : State :=
  let s1 := (s.put Reg.MOT_SPN_STATUS_SSTATE 0).bridgesOff 0 3
  { s1 with pwr := { s1.pwr with spindleOn := false }, mot := { s1.mot with speedRef := 0, phaseFeed := 0 } }

/-- The spindle is braked by a stop request: from any running state to BRAKE_REGEN (15 R385, R387). -/
def State.spindleBrake (s : State) : State :=
  let st := s.get Reg.MOT_SPN_STATUS_SSTATE
  if st = 0 || st = 5 || st = 6 then s else (s.put Reg.MOT_SPN_STATUS_SSTATE 5).put Reg.MOT_SPN_TARGET_TARGET 0

/-- Actuators in the AOS safe state (02 R49, 15 R385, R395). -/
def State.safeActuators (s : State) : State :=
  let s1 := s.lasersOff.loopsOff
  let s2 := if s1.get Reg.MOT_SPN_STATUS_SSTATE = 0 then s1 else s1.put Reg.MOT_SPN_STATUS_SSTATE 6
  if !s2.bridgesLive then s2
  else if s2.flag Reg.MOT_AXIS_STATUS_POS_VALID 0 && s2.flag Reg.CLK_PLL_STATUS_CORE_LOCK then
    (s2.parkSled.stopMove 1).stopMove 2
  else
    [0, 1, 2].foldl (fun t a =>
      ((t.put Reg.MOT_AXIS_STATUS_ASTATE 5 a).setFlag Reg.MOT_AXIS_STATUS_POS_VALID false a).setFlag
        Reg.MOT_AXIS_STATUS_MOVING false a) s2

/-- Every actuator output takes its power-up state (02 R37, R50, R64; 15 R385, R395). -/
def State.powerUpOutputs (s : State) : State :=
  let s1 := s.lasersOff.loopsOff.spindleOff.bridgesOff 3 64
  let s2 := [0, 1, 2].foldl (fun t a => ((t.put Reg.MOT_AXIS_STATUS_ASTATE 0 a).setFlag
    Reg.MOT_AXIS_STATUS_MOVING false a).setFlag Reg.MOT_AXIS_STATUS_POS_VALID false a) s1
  { s2 with pwr := { s2.pwr with axesOn := [], nandOn := false, sensRefclk := false, monDac := [0, 0, 0, 0] } }

/-- A lane sends IDLE blocks: no relay, no content, no training burst. -/
def LaneSt.idle (l : LaneSt) : LaneSt :=
  { l with relayOn := false, relayBuf := [], content := false, inBurst := false }

/-- The PLL that clocks a lane is locked (02 R33, R35); lanes 256 and 257 are PL0 and PL1. -/
def State.laneClock (s : State) (n : Nat) : Bool :=
  if n < 256 then (s.get Reg.CLK_LANE_PLL_LOCK_LOCK >>> (n / 8)) % 2 == 1 else s.flag Reg.CLK_PLL_STATUS_PAIR_LOCK

/-- The lane's transmitter sends blocks: it has left electrical idle (02 R37, R50, R64). -/
def State.laneSends (s : State) (n : Nat) : Bool :=
  s.laneClock n && !s.pwr.por && !s.pwr.inReset && !s.pwr.lockstep && !s.pwr.trip

/-- The lane may send more than IDLE blocks (02 R49). -/
def State.laneOpen (s : State) (n : Nat) : Bool := s.laneSends n && !s.pwr.aosSafe

/-- Capture has stopped and cannot go on in the present condition (02 R41, R49, R50, R56, R63, R64; 01 R19): it stops with the compositor
array (05 R138). -/
def State.capStopped (s : State) : Bool :=
  s.pwr.aosSafe || s.pwr.lockstep || s.pwr.trip || s.pwr.deferral || s.pwr.inReset || s.saving || s.pwr.unitReset.contains 4

/-- Nothing is relayed on any lane. -/
def State.relaysIdle (s : State) : State := { s with lanes := smap (fun _ => {}) s.lanes (fun _ x => x.idle) }

/-- Lanes send IDLE blocks and nothing is relayed (02 R49); a lane whose PLL is not locked stays in electrical idle. -/
def State.lanesIdle (s : State) : State :=
  let s1 := s.relaysIdle
  (List.range 258).foldl (fun (t : State) n =>
    let i := if n < 256 then n else 256 + n
    if t.get Reg.LANE_L_STATUS_TX_STATE i = 0 then t else t.put Reg.LANE_L_STATUS_TX_STATE 2 i) s1

/-- Every lane's transmitter goes to electrical idle; nothing is relayed (02 R37, R41, R50, R64). -/
def State.electricalIdle (s : State) : State :=
  let s1 := s.relaysIdle
  (List.range 258).foldl (fun (t : State) n => t.put Reg.LANE_L_STATUS_TX_STATE 0 (if n < 256 then n else 256 + n)) s1

/-- PAIR_CLAIM_N is released, and the active role with it (07 R183): ROLE goes to NONE (log 85). -/
def State.releaseClaim (s : State) : State :=
  let r := s.get Reg.PAIR_STATUS_ROLE
  (if r = 1 || r = 4 then s.put Reg.PAIR_STATUS_ROLE 0 else s).setFlag Reg.PAIR_PINS_CLAIM false

/-- The galley enters self-refresh (06 R180).  The entry completes, as `RST.CAUSE.GALLEY_KEPT` reports (02 R50), unless a trip has stopped
the clocks that it needs (02 R34, R64; log 77). -/
def State.selfRefresh (s : State) : State :=
  let s2 := (s.put Reg.GAL_STATUS_SR 2).setFlag Reg.RST_CAUSE_GALLEY_KEPT (!s.pwr.trip)
  { s2 with gal := { s2.gal with kept := !s.pwr.trip } }

/-- A calibration run in progress is abandoned (20 R491): codes and slews stay, COUNT and LAST are not updated.  A reset run
stays due (log 31). -/
def State.abandonCal (s : State) : State :=
  let b := s.get Reg.CAL_STATUS_ACTIVE
  if b < 6 then
    let s1 := (s.put Reg.CAL_STATUS_ACTIVE 7).setFlag Reg.CAL_BLK_STATUS_RUNNING false b
    if s.cal.resetRuns.contains b then s1.setFlag Reg.CAL_BLK_STATUS_PENDING true b else s1
  else s

/-- STATE field of the unit with a feature ID, where it has one. -/
def unitStateFld (id : Nat) : Option Fld :=
  match id with
  | 3 => some Reg.CAP_STATUS_STATE
  | 6 => some Reg.PAIR_STATUS_STATE
  | 8 => some Reg.MAG_STATUS_STATE
  | 10 => some Reg.OCH_STATUS_STATE
  | 11 => some Reg.SRV_STATUS_STATE
  | 12 => some Reg.MOT_STATUS_STATE
  | 13 => some Reg.SEC_STATUS_STATE
  | _ => none

/-- The archive job whose command a failure ends (13 R349): MC3 stops it with a resume entry where it still runs, else it is cut; a seal is
only cut. -/
def State.failJob (s : State) (id : Nat) (victims : List Nat) : State :=
  match s.och.job with
  | none => s
  | some j =>
    if !victims.contains j.cmd then s
    else if (id = 8 || id = 13) && !j.sealing then s.archiveStop (some 0x04)
    else
      let s1 := s.endArchive
      { s1 with och := { s1.och with relocQ := [] } }

/-- A unit is marked failed (02 R46): FAILED, its bit of TOP.UNIT_FAILED, and the outstanding commands that need it complete
with DEVICE_DEGRADED (09 R240, 19 R478).  Loops go OFF with SRV (14 R377), MOT brakes and parks (15 R400). -/
def State.failUnit (s : State) (id : Nat) : State :=
  if s.unitFailed id then s
  else
    let s1 := s.markUnitFailed id
    let s2 := match unitStateFld id with | some f => s1.put f 4 | none => s1
    let s3 := if id = 11 then s2.loopsOff else if id = 12 then s2.spindleBrake.parkSled else s2
    let victims := s3.hq.cmds.filter (fun c => c.units.contains id)
    (victims.foldl (fun t c => t.cutCmd c 0x04) s3).failJob id (victims.map Cmd.tag)

end Sys2Proof.Machine
end

