-- ==== Sys2Proof/Machine/Aer.lean ====
section
/-!
DEFINITION. Advanced Error Reporting (08 R217) and reads of host memory that fail (08 R213, R215; 09 R233, R247).  Bit numbers
are those of the AER status registers (log 3).
-/
namespace Sys2Proof.Machine

/-- Bits of Uncorrectable Error Status, and of Correctable Error Status. -/
abbrev aerProtocol : Nat := 4
abbrev aerPoisoned : Nat := 12
abbrev aerTimeout : Nat := 14
abbrev aerAbort : Nat := 15
abbrev aerUnexpected : Nat := 16
abbrev aerOverflow : Nat := 17
abbrev aerMalformed : Nat := 18
abbrev aerUnsupported : Nat := 20
abbrev aerInternal : Nat := 22
abbrev aerAdvisory : Nat := 13
abbrev aerCorInternal : Nat := 14
abbrev aerHdrOverflow : Nat := 15

/-- Bit `n` of a register word of function `fn`. -/
def State.fnBit (s : State) (f : Fld) (fn n : Nat) : Bool := (s.get f fn >>> n) % 2 == 1

/-- Set bit `n` of a register word of function `fn`. -/
def State.setFnBit (s : State) (f : Fld) (fn n : Nat) : State := s.put f (s.get f fn ||| 2 ^ n) fn

/-- A function reports errors of a kind: 0 correctable, 1 non-fatal, 2 fatal (08 R217). -/
def State.reports (s : State) (fn kind : Nat) : Bool :=
  match kind with
  | 0 => s.flag Reg.CFG_DEVCTL_COR_EN fn
  | 1 => s.flag Reg.CFG_DEVCTL_NONFATAL_EN fn || s.flag Reg.CFG_COMMAND_SERR fn
  | _ => s.flag Reg.CFG_DEVCTL_FATAL_EN fn || s.flag Reg.CFG_COMMAND_SERR fn

/-- An error message of a function: none leaves while it is contained (08 R210), in D3hot (08 R224) or without a link. -/
def State.errMessage (s : State) (fn kind : Nat) : State :=
  let s1 := if kind != 0 && s.flag Reg.CFG_COMMAND_SERR fn then s.setFlag Reg.CFG_COMMAND_SSE true fn else s
  if s.flag Reg.CFG_CONT_STATUS_CONTAINED fn || s.get Reg.CFG_PMCSR_STATE fn != 0 || !s.pcie.linkUp then s1
  else s1.emit (.errMessage fn kind)

/-- Record a correctable error of a function, and whether it may report it (08 R217). -/
def State.markCor (s : State) (fn bit : Nat) : State :=
  (s.setFnBit Reg.CFG_COR_STATUS_WORD fn bit).setFlag Reg.CFG_DEVCTL_COR_DET true fn
def State.saysCor (s : State) (fn bit : Nat) : Bool := s.reports fn 0 && !s.fnBit Reg.CFG_COR_MASK_WORD fn bit

/-- Log a correctable error of a function (08 R217). -/
def State.logCor (s : State) (fn bit : Nat) : State :=
  if !s.hasFn fn then s else if s.saysCor fn bit then (s.markCor fn bit).errMessage fn 0 else s.markCor fn bit

/-- First Error Pointer and Header Log of an unmasked error; while one is recorded, the header of another is Header Log Overflow
(08 R217).  The header words are free values: the commands do not carry the TLP header (log 4). -/
def State.logHeader (s : State) (fn bit : Nat) : State :=
  let open_ := s.get Reg.CFG_UNC_STATUS_WORD fn &&& (2 ^ 32 - 1 - s.get Reg.CFG_UNC_MASK_WORD fn)
  let header := [aerPoisoned, aerAbort, aerUnexpected, aerMalformed, aerUnsupported].contains bit
  if s.fnBit Reg.CFG_UNC_MASK_WORD fn bit then s
  else if open_ != 0 then (if header then s.logCor fn aerHdrOverflow else s)
  else
    let s1 := s.put Reg.CFG_AERCTL_FEP bit fn
    if !header then s1
    else
      (List.range 8).foldl (fun (t : State) i =>
        let (v, t1) := t.free
        t1.put (if i < 4 then Reg.CFG_HDRLOG.off (4 * i) else Reg.CFG_HDRLOG2.off (4 * (i - 4))) v.toNat fn) s1

/-- How an uncorrectable error is reported (08 R217): advisory non-fatal, which is correctable, where the rule says so and its severity
is not fatal, or always (08 R220); else by its severity. -/
def State.uncKind (s : State) (fn bit : Nat) (advisory always : Bool) : Nat :=
  if always || (advisory && !s.fnBit Reg.CFG_UNC_SEV_WORD fn bit) then 0 else if s.fnBit Reg.CFG_UNC_SEV_WORD fn bit then 2 else 1

/-- Record an uncorrectable error of a function: AER, Device Status, and the Status register of the base specification (08 R201). -/
def State.markUnc (s : State) (fn bit kind : Nat) : State :=
  let s1 := (s.logHeader fn bit).setFnBit Reg.CFG_UNC_STATUS_WORD fn bit
  let s2 := if bit = aerUnsupported then s1.setFlag Reg.CFG_DEVCTL_UR_DET true fn
    else if bit = aerPoisoned then s1.setFlag Reg.CFG_COMMAND_DPE true fn
    else if bit = aerAbort then s1.setFlag Reg.CFG_COMMAND_STA true fn
    else s1
  match kind with
  | 0 => s2.markCor fn aerAdvisory
  | 1 => s2.setFlag Reg.CFG_DEVCTL_NONFATAL_DET true fn
  | _ => s2.setFlag Reg.CFG_DEVCTL_FATAL_DET true fn

/-- A function may report this uncorrectable error. -/
def State.saysUnc (s : State) (fn bit kind : Nat) : Bool :=
  if kind = 0 then s.saysCor fn aerAdvisory else s.reports fn kind && !s.fnBit Reg.CFG_UNC_MASK_WORD fn bit

/-- A fatal error puts the function into containment while AUTO_EN is 1 (08 R219). -/
def State.fatalStop (s : State) (fn kind : Nat) : State :=
  if kind = 2 && s.flag Reg.CFG_CONT_CTL_AUTO_EN fn then s.contain fn 1 else s

/-- Log an uncorrectable error of a function (08 R217). -/
def State.logUnc (s : State) (fn bit : Nat) (advisory : Bool) (always : Bool := false) : State :=
  if !s.hasFn fn then s
  else
    let kind := s.uncKind fn bit advisory always
    let s1 := s.markUnc fn bit kind
    (if s.saysUnc fn bit kind then s1.errMessage fn kind else s1).fatalStop fn kind

/-- Log an error of the link in both functions; its message is sent once, by function 0, or by function 1 when function 0 does not
report it (08 R217). -/
def State.logLink (s : State) (e : LinkErr) : State :=
  let cor := fun (bit : Nat) =>
    let s1 := s.markCor 0 bit
    let s2 := if s.hasFn 1 then s1.markCor 1 bit else s1
    if s.saysCor 0 bit then s2.errMessage 0 0 else if s.hasFn 1 && s.saysCor 1 bit then s2.errMessage 1 0 else s2
  let unc := fun (bit : Nat) =>
    let k0 := s.uncKind 0 bit false false
    let k1 := s.uncKind 1 bit false false
    let s1 := s.markUnc 0 bit k0
    let s2 := if s.hasFn 1 then s1.markUnc 1 bit k1 else s1
    let s3 := if s.saysUnc 0 bit k0 then s2.errMessage 0 k0
      else if s.hasFn 1 && s.saysUnc 1 bit k1 then s2.errMessage 1 k1 else s2
    let s4 := s3.fatalStop 0 k0
    if s.hasFn 1 then s4.fatalStop 1 k1 else s4
  match e with
  | .receiver => cor 0
  | .badTlp => cor 6
  | .badDllp => cor 7
  | .replayRollover => cor 8
  | .replayTimeout => cor 12
  | .dataLinkProtocol => unc aerProtocol
  | .receiverOverflow => unc aerOverflow
  | .malformedTlp => unc aerMalformed

/-- A function answers a request with Request Retry Status: its FLR runs (08 R222). -/
def State.inFlr (s : State) (fn : Nat) : Bool := s.pcie.flr.any (fun e => e.1 == fn && decide (s.now < e.2))

/-- A function takes no memory request: an FLR of it runs (08 R222), it is not in D0 (08 R224), or Memory Space Enable is 0 (08 R201). -/
def State.barRefuses (s : State) (fn : Nat) : Bool :=
  s.inFlr fn || s.get Reg.CFG_PMCSR_STATE fn != 0 || !s.flag Reg.CFG_COMMAND_MSE fn

/-- A memory request that a function does not take: Request Retry Status during an FLR (08 R222), else Unsupported Request, logged at
its severity. -/
def State.refuseBar (s : State) (fn : Nat) (write : Bool) : State :=
  if s.inFlr fn then (if write then s else s.emit .retry)
  else
    let s1 := s.logUnc fn aerUnsupported (!write)
    if write then s1 else s1.emit .unsupported

/-- The function whose memory space a requester uses, if it is the host. -/
def hostFn : Requester → Option Nat
  | .host0 => some 0
  | .host1 => some 1
  | _ => none

/-- A requester's access is a memory request that its function does not take, and what answers it (08 R201, R222, R224). -/
def State.barShut (s : State) (q : Requester) : Bool := match hostFn q with | some fn => s.barRefuses fn | none => false
def State.barAnswer (s : State) (q : Requester) (write : Bool) : State :=
  match hostFn q with | some fn => s.refuseBar fn write | none => s

/-- A completion with Completer Abort to the host, logged at its severity (08 R203); firmware sees a bus fault. -/
def State.busFault (s : State) (q : Requester) (write : Bool) : State :=
  match hostFn q with
  | some fn => let s1 := s.logUnc fn aerAbort false; if write then s1 else s1.emit .completerAbort
  | none => s.emit .busFault

/-- A read of host memory by function 0 timed out (08 R215): logged, counted, and its tag stays in use. -/
def State.readTimeout (s : State) (tag : Nat) : State :=
  let s1 := ((s.logUnc 0 aerTimeout true).inc Reg.PCIE_CPL_TIMEOUT).event Reg.PCIE_STATUS_CPL_TIMEOUT_EV
  { s1 with pcie := { s1.pcie with late := s1.pcie.late ++ [(tag, s1.now)] } }

/-- A read of host memory by function 0 failed (08 R213, R215): what the endpoint logs of it, and the Status bits of the base
specification (08 R201); `tag` was the read's. -/
def State.readFailed (s : State) (why : ReadFail) (tag : Nat) : State :=
  match why with
  | .timeout => s.readTimeout tag
  | .poisoned =>
    let s1 := (s.logUnc 0 aerPoisoned true).inc Reg.PCIE_POISON_RX
    if s1.flag Reg.CFG_COMMAND_PERR 0 then s1.setFlag Reg.CFG_COMMAND_MDPE true 0 else s1
  | .unsupported => s.setFlag Reg.CFG_COMMAND_RMA true 0
  | .abort => s.setFlag Reg.CFG_COMMAND_RTA true 0

/-- The read with a tag fails and ends (08 R213, R215). -/
def State.failTag (s : State) (tag : Nat) (why : ReadFail) : State := (s.readFailed why tag).endTag tag

/-- The oldest read for a use fails and ends. -/
def State.failRead (s : State) (use : ReadUse) (why : ReadFail) : State :=
  match s.pcie.reads.find? (fun r => r.use == use) with
  | some r => s.failTag r.tag why
  | none => s

/-- A command whose read of its data failed completes with HOST_READ_FAILED; DETAIL is the host address (09 R247, R249).  The tag that
such a read had is the lowest free one. -/
def State.hostReadFailed (s : State) (k : Cmd) (why : ReadFail) (result arrived : Nat) : State :=
  (s.readFailed why s.freeTag).finish k.tag 0x0B result false (k.failedAt arrived)

end Sys2Proof.Machine
end

