-- ==== Sys2Proof/Machine/Gal.lean ====
section
/-!
DEFINITION. The galley's memory (06): lines, check bytes, poison, never-written granules, regions, the patrol scrubber and the
error log.  A galley line is 64 bytes; sources are numbered as `GAL.ERR_INFO.SRC` numbers them.
-/
namespace Sys2Proof.Machine

/-- Classes of galley access, by their SRC code (06, `GAL.ERR_INFO`). -/
abbrev srcIngest : Nat := 0
abbrev srcWbuf : Nat := 1
abbrev srcExport : Nat := 2
abbrev srcPlayback : Nat := 3
abbrev srcHost : Nat := 4
abbrev srcFw : Nat := 5
abbrev srcScrub : Nat := 6

/-- Size of the galley address space, bases of its regions (06 R156, R160). -/
def State.galSize (s : State) : Nat := s.part.stackCount * 56 * 2 ^ 30
def State.hkBase (s : State) : Nat := s.galSize - 64 * 2 ^ 20
def State.wbBase (s : State) : Nat := s.hkBase - s.get Reg.GAL_REGION_WB_GIB * 2 ^ 30
def State.mapBase (s : State) : Nat := s.wbBase - s.get Reg.GAL_REGION_MAP_RES * 16 * 2 ^ 30

/-- Where a line lies (06 R159): row slot, line within the row, pseudo-channel and row within it; stack, channel and pseudo-channel of
the channel; bank, bank group and DRAM row. -/
structure LinePlace where
  slot : Nat
  line : Nat
  pc : Nat
  row : Nat
  stack : Nat
  channel : Nat
  pseudo : Nat
  bank : Nat
  bankGroup : Nat
  dramRow : Nat
  deriving DecidableEq, Repr

/-- The map of galley addresses (06 R159), by line number: P = 32N pseudo-channels of a part with N stacks. -/
def State.placeOf (s : State) (l : Nat) : LinePlace :=
  let p := max 1 (32 * s.part.stackCount)
  let b := Nat.log2 p
  let j := l / 14
  let pc := (j ^^^ (j >>> b) ^^^ (j >>> (2 * b))) % p
  let r := j >>> b
  { slot := j, line := l % 14, pc, row := r, stack := pc / 32, channel := pc % 32 / 2, pseudo := pc % 2,
    bank := r % 16, bankGroup := r % 16 % 4, dramRow := r / 16 }

/-- Stack of a line (06 R159). -/
def State.stackOf (s : State) (l : Nat) : Nat := (s.placeOf l).stack

/-- The granule of 1 MiB has been written or initialized (06 R175). -/
def State.granuleWritten (s : State) (g : Nat) : Bool :=
  s.flag Reg.GAL_STATUS_INIT_DONE || sget (fun _ => false) s.gal.written g

/-- Bytes of a line as they were last written (06 R156, R175). -/
def State.lineData (s : State) (l : Nat) : List Byte :=
  (List.range 64).map (fun i => sget (fun _ => (0 : Byte)) s.gal.mem (64 * l + i))

/-- Errors of a line: place and bits (06 R156, R157). -/
def State.lineErrs (s : State) (l : Nat) : List (Nat × Byte) := sget (fun _ => []) s.gal.errs l

/-- Errors in the 72 bytes of a line's codeword (06 R157). -/
def State.codeErrs (s : State) (l : Nat) : List (Nat × Byte) := (s.lineErrs l).filter (fun e => decide (e.1 < 72))

/-- A line's bit in copy `k` of its row's POISON tag (06 R156). -/
def State.tagCopy (s : State) (l k : Nat) : Bool :=
  sget (fun _ => false) s.gal.poison l ^^ (s.lineErrs l).any (fun e => e.1 == 72 + k)

/-- A line's POISON tag: the majority of its three copies (06 R156). -/
def State.linePoison (s : State) (l : Nat) : Bool :=
  (s.tagCopy l 0 && s.tagCopy l 1) || (s.tagCopy l 0 && s.tagCopy l 2) || (s.tagCopy l 1 && s.tagCopy l 2)

/-- Bytes with the bits of some errors turned over. -/
def turnOver (b : List Byte) (e : List (Nat × Byte)) : List Byte :=
  b.mapIdx (fun i x => e.foldl (fun (v : Byte) p => if p.1 = i then v ^^^ p.2 else v) x)

/-- The 72 bytes of a line's codeword as they stand in the row: 64 data bytes and 8 check bytes (06 R157). -/
def State.codeword (s : State) (l : Nat) : List Byte :=
  let d := s.lineData l
  turnOver (d ++ (rsCheck 8 (d.map BitVec.toNat)).map (BitVec.ofNat 8)) (s.codeErrs l)

/-- The 1,024 bytes of row slot `j` (06 R156): 14 data lines, 14 groups of check bytes, three copies of POISON, and zeros. -/
def State.rowBytes (s : State) (j : Nat) : List Byte :=
  let ls := (List.range 14).map (14 * j + ·)
  let tag := fun (k : Nat) => leBytes 2 (ls.zipIdx.foldl (fun m e => if s.tagCopy e.1 k then m + 2 ^ e.2 else m) 0)
  ls.flatMap (fun l => (s.codeword l).take 64) ++ ls.flatMap (fun l => (s.codeword l).drop 64) ++ tag 0 ++ tag 1 ++ tag 2 ++ zeros 10

/-- The 64 bytes of line `l` of the galley's data set. -/
def putBytes (m : List (Nat × Byte)) (l : Nat) (bytes : List Byte) : List (Nat × Byte) :=
  (List.range 64).foldl (fun m i => sput (fun _ => (0 : Byte)) m (64 * l + i) (bytes.getD i 0)) m

/-- Set a line's bytes and tag; a written line has valid check bytes (06 R171). -/
def State.putLine (s : State) (l : Nat) (bytes : List Byte) (poisoned : Bool) : State :=
  { s with gal := { s.gal with
      mem := putBytes s.gal.mem l bytes,
      poison := sput (fun _ => false) s.gal.poison l poisoned,
      errs := sput (fun _ => []) s.gal.errs l [] } }

/-- Errors come about in lines that are not never-written (06 R156, R157, R175). -/
def State.strike (s : State) (dmg : Damage) : State :=
  dmg.foldl (fun (t : State) d =>
    let e := d.2.foldl (fun e p =>
      if p.1 < 75 then sput (fun _ => (0 : Byte)) e p.1 (sget (fun _ => (0 : Byte)) e p.1 ^^^ p.2) else e) (t.lineErrs d.1)
    if t.granuleWritten (d.1 / 16384) then { t with gal := { t.gal with errs := sput (fun _ => []) t.gal.errs d.1 e } } else t) s

/-- Enter a corrected or uncorrectable read in the error log (06 R174): an uncorrectable entry stays until VALID is cleared. -/
def State.galLog (s : State) (l src : Nat) (ue : Bool) (pos : List Nat) : State :=
  if s.flag Reg.GAL_ERR_INFO_VALID && s.flag Reg.GAL_ERR_INFO_UE then s
  else
    let ps := pos.mergeSort
    ((((((((s.put64 Reg.GAL_ERR_ADDR (64 * l)).setFlag Reg.GAL_ERR_INFO_VALID true).setFlag Reg.GAL_ERR_INFO_UE ue).put
      Reg.GAL_ERR_INFO_SRC src).put Reg.GAL_ERR_INFO_NBYTES ps.length).put Reg.GAL_ERR_INFO_POS0 (ps.getD 0 127)).put
      Reg.GAL_ERR_INFO_POS1 (ps.getD 1 127)).put Reg.GAL_ERR_INFO_POS2 (ps.getD 2 127))

/-- Count a corrected read (06 R174). -/
def State.galCorrected (s : State) (l src : Nat) (pos : List Nat) : State :=
  let f := if src = srcScrub then Reg.GAL_STACK_SCRUB_CE else Reg.GAL_STACK_CE
  ((s.inc f (s.stackOf l)).event Reg.GAL_STATUS_CE_EV).galLog l src false pos

/-- Count an uncorrectable read (06 R174). -/
def State.galUncorrectable (s : State) (l src : Nat) : State :=
  let f := if src = srcScrub then Reg.GAL_STACK_SCRUB_UE else Reg.GAL_STACK_UE
  ((s.inc f (s.stackOf l)).event Reg.GAL_STATUS_UE_EV).galLog l src true []

/-- The corrections that the decoder makes of an error pattern (06 R157): right ones up to 3 byte positions; `none` is an error
reported as uncorrectable. -/
def rsDecode (e : List (Nat × Byte)) : Option (List (Nat × Byte)) :=
  if e.length ≤ 3 then some e
  else if e.length ≤ 5 then none
  else (Config.rsBeyond e).map (fun c => (c.filter (fun p => decide (p.1 < 72))).take 3)

/-- A galley line read (06 R157, R171, R174): its bytes as delivered, whether they are delivered poisoned.  An uncorrectable line is
delivered as it stands in the row (log 4). -/
def State.readGalLine (s : State) (l src : Nat) : List Byte × Bool × State :=
  if !s.granuleWritten (l / 16384) then (zeros 64, false, s)
  else
    let raw := turnOver (s.lineData l) (s.codeErrs l)
    let p := s.linePoison l
    let s1 := if p then (s.inc Reg.GAL_STACK_POISON_RD (s.stackOf l)).event Reg.GAL_STATUS_POISON_EV else s
    match rsDecode (s.codeErrs l) with
    | some c => (turnOver raw c, p, if c.isEmpty then s1 else s1.galCorrected l src (c.map Prod.fst))
    | none => (raw, true, if p then s1 else s1.galUncorrectable l src)

/-- Read `n` lines from `l` on: bytes, and the line numbers delivered poisoned. -/
def State.readGalLines (s : State) (l src : Nat) : Nat → List Byte × List Nat × State
  | 0 => ([], [], s)
  | n + 1 =>
    let got := s.readGalLine l src
    let b := got.1
    let p := got.2.1
    let s1 := got.2.2
    let got := s1.readGalLines (l + 1) src n
    let r := got.1
    let ps := got.2.1
    let s2 := got.2.2
    (b ++ r, if p then l :: ps else ps, s2)

/-- Read `n` bytes at a galley address: bytes, and the line numbers delivered poisoned. -/
def State.galRead (s : State) (a n src : Nat) : List Byte × List Nat × State :=
  if n = 0 then ([], [], s)
  else
    let got := s.readGalLines (a / 64) src ((a + n - 1) / 64 - a / 64 + 1)
    let b := got.1
    let ps := got.2.1
    let s1 := got.2.2
    ((b.drop (a % 64)).take n, ps, s1)

/-- Granules from `lo` on that are listed without a gap: the first one that is not (06 R175). -/
def firstGap : List (Nat × Bool) → Nat → Nat
  | [], lo => lo
  | (g, _) :: r, lo => if g < lo then firstGap r lo else if g = lo then firstGap r (lo + 1) else lo

/-- The last granule is initialized (06 R175). -/
def State.initComplete (s : State) : State := s.setFlag Reg.GAL_STATUS_INIT_DONE true

/-- A granule's bit is cleared, its lines being zero with valid check bytes and clear POISON (06 R175, R176). -/
def State.touchGranule (s : State) (g : Nat) : State :=
  if s.granuleWritten g then s
  else
    let s1 := { s with gal := { s.gal with
      errs := sclear s.gal.errs (16384 * g) (16384 * (g + 1)), written := sput (fun _ => false) s.gal.written g true } }
    let n := s1.gal.written.length
    let s2 := s1.put Reg.GAL_INIT_PROGRESS n
    if n = s.galSize / 2 ^ 20 then s2.initComplete else s2

/-- Write bytes within one line (06 R171, R173, R176): a part of a line is merged with the corrected old line, and carries the
old line's poison on. -/
def State.writeGalLine (s : State) (l off : Nat) (bytes : List Byte) (poisoned : Bool) (src : Nat) : State :=
  let s1 := s.touchGranule (l / 16384)
  if 64 ≤ bytes.length then s1.putLine l bytes poisoned
  else
    let got := s1.readGalLine l src
    let old := got.1
    let bad := got.2.1
    let s2 := got.2.2
    s2.putLine l (patch old off bytes) (poisoned || bad)

/-- Bytes with those that are given put over them from `off` on. -/
def patchMask (old : List Byte) (off : Nat) (b : List (Option Byte)) : List Byte :=
  old.mapIdx (fun i x => if i < off then x else ((b.getD (i - off) none).getD x))

/-- Write the enabled bytes of a request within one line (08 R204; 06 R173). -/
def State.writeEnabled (s : State) (l off : Nat) (b : List (Option Byte)) (poisoned : Bool) (src : Nat) : State :=
  if b.all Option.isSome then s.writeGalLine l off (b.filterMap id) poisoned src
  else
    let got := (s.touchGranule (l / 16384)).readGalLine l src
    got.2.2.putLine l (patchMask got.1 off b) (poisoned || got.2.1)

/-- Pieces of a byte range by line: line, offset in the line, bytes. -/
def linePieces {α : Type} : Nat → Nat → List α → List (Nat × Nat × List α)
  | 0, _, _ => []
  | fuel + 1, a, b =>
    if b.isEmpty then []
    else
      let k := 64 - a % 64
      (a / 64, a % 64, b.take k) :: linePieces fuel (a + k) (b.drop k)

/-- The pieces of a write. -/
def piecesAt {α : Type} (a : Nat) (b : List α) : List (Nat × Nat × List α) := linePieces (b.length / 64 + 2) a b

/-- Write bytes at a galley address. -/
def State.galWrite (s : State) (a : Nat) (bytes : List Byte) (poisoned : Bool) (src : Nat) : State :=
  (piecesAt a bytes).foldl (fun (t : State) p => t.writeGalLine p.1 p.2.1 p.2.2 poisoned src) s

/-- Zeros with POISON clear over whole granules (09 R252; 06 R176). -/
def State.galZero (s : State) (a n : Nat) : State :=
  let s1 := ((List.range (n / 2 ^ 20)).map (a / 2 ^ 20 + ·)).foldl State.touchGranule s
  { s1 with gal := { s1.gal with mem := sclear s1.gal.mem a (a + n), poison := sclear s1.gal.poison (a / 64) ((a + n) / 64),
                                 errs := sclear s1.gal.errs (a / 64) ((a + n) / 64) } }

/-- The galley serves accesses: SR ACTIVE (06 R180). -/
def State.galActive (s : State) : Bool := s.get Reg.GAL_STATUS_SR == 0 && !s.pwr.por && !s.pwr.inReset

/-- Write-buffer and firmware accesses are served: not paused (06 R169). -/
def State.bufRuns (s : State) : Bool := s.galActive && !s.gal.paused

/-- Export, playback and host accesses are served: neither are they paused (06 R169), nor in SAVE (06 R168). -/
def State.drainsRun (s : State) : Bool := s.bufRuns && !s.saving

/-- The segment in whose part of the capture area a line lies (06 R160; 04 `CAP.SEG[s].CFG`).  Of segments that overlap, the one with
the lowest number judges the line: DESIGN CHOICE, R179 speaks of the segment in which the line lies (log 134). -/
def State.segmentOf (s : State) (a : Nat) : Option Nat :=
  (List.range 16).find? (fun k =>
    let base := s.get Reg.CAP_SEG_CFG_BASE k * 2 ^ 26
    decide (base ≤ a) && decide (a < base + s.get Reg.CAP_SEG_CFG_SIZE k * 2 ^ 26))

/-- A BAR2 read of this address returns data (06 R179). -/
def State.bar2Readable (s : State) (a : Nat) : Bool := decide (a < s.mapBase) || decide (s.hkBase ≤ a)

/-- A BAR2 write of the line at this address is performed (06 R179). -/
def State.bar2Writable (s : State) (a : Nat) : Bool :=
  decide (a < s.mapBase) &&
    (match s.segmentOf a with | some k => s.get Reg.CAP_SEG_TAKE_STATE k == 0 | none => true)

/-- A line's bytes before those of the lines that follow; `k` is its index in the read, listed where it is poisoned. -/
def putFirst (b : List Byte) (p : Bool) (k : Nat) (r : List Byte × List Nat × State) : List Byte × List Nat × State :=
  (b ++ r.1, if p then k :: r.2.1 else r.2.1, r.2.2)

/-- Read `n` lines for BAR2, each as its region allows (06 R179): bytes, and the poisoned lines counted from `k`. -/
def State.bar2Lines (s : State) (l k : Nat) : Nat → List Byte × List Nat × State
  | 0 => ([], [], s)
  | n + 1 =>
    let got := if decide (64 * l < s.galSize) && s.bar2Readable (64 * l) then s.readGalLine l srcHost
      else (zeros 64, false, s)
    putFirst got.1 got.2.1 k (got.2.2.bar2Lines (l + 1) (k + 1) n)

/-- A BAR2 read at the galley (06 R179; 08 R212): data in a completion, poisoned lines in poisoned TLPs. -/
def State.hostReadAt (s : State) (a len : Nat) : State :=
  let got := s.bar2Lines (a / 64) 0 (if len = 0 then 0 else (a + len - 1) / 64 - a / 64 + 1)
  (got.2.2.countPoisonTx (poisonRuns (a % 64) len got.2.1)).emit (.reply ((got.1.drop (a % 64)).take len) got.2.1)

/-- One line's part of a BAR2 write (06 R179): performed or discarded by its region and segment. -/
def State.bar2Piece (s : State) (p : Nat × Nat × List (Option Byte)) (poisoned : Bool) : State :=
  if s.bar2Writable (64 * p.1) then s.writeEnabled p.1 p.2.1 p.2.2 poisoned srcHost else s

/-- A BAR2 write at the galley (06 R171, R179): the lines that it touches, those discarded counted once for the request. -/
def State.hostWriteAt (s : State) (a : Nat) (bytes : List (Option Byte)) (poisoned : Bool) : State :=
  let ps := (piecesAt a bytes).filter (fun p => p.2.2.any Option.isSome)
  let s1 := if ps.all (fun p => s.bar2Writable (64 * p.1)) then s
    else (s.inc Reg.GAL_WR_DISCARD).event Reg.GAL_STATUS_WR_DISCARD_EV
  ps.foldl (fun (t : State) p => t.bar2Piece p poisoned) s1

/-- Perform an access of the HOST or FW class (06 R179). -/
def State.hostServe (s : State) (x : HostAccess) : State :=
  match x.bytes with
  | none => s.hostReadAt x.addr x.len
  | some b => if x.fw then s.galWrite x.addr (b.filterMap id) x.poisoned srcFw else s.hostWriteAt x.addr b x.poisoned

/-- The class of an access is served: FW also in SAVE (06 R168, R169). -/
def State.mayServe (s : State) (x : HostAccess) : Bool := if x.fw then s.bufRuns else s.drainsRun

/-- An access reaches the galley: it is served, or waits. -/
def State.hostAccess (s : State) (x : HostAccess) : State :=
  if s.mayServe x then s.hostServe x else { s with gal := { s.gal with delayed := s.gal.delayed ++ [x] } }

/-- What waited is served in order once its class is. -/
def State.serveDelayed (s : State) : State :=
  (s.gal.delayed.filter s.mayServe).foldl State.hostServe
    { s with gal := { s.gal with delayed := s.gal.delayed.filter (fun x => !s.mayServe x) } }

/-- Forme-store fill in bytes: sorts held ahead of their frontier (06 R163). -/
def State.storeBytes (s : State) : Nat :=
  s.cap.frames.foldl (fun n f => n + f.held.foldl (fun m c => m + c.bytes.length) 0) 0

/-- Drains pause when the forme store holds HIGH kilobytes or more (06 R169). -/
def State.throttle (s : State) : State :=
  if s.gal.paused || decide (s.storeBytes < s.get Reg.GAL_ARB_WM_HIGH * 1024) then s
  else ({ s with gal := { s.gal with paused := true } } : State).event Reg.GAL_STATUS_THROTTLE_EV

/-- DRAIN_THROTTLE_RELEASE (06 R169): the store has fallen to LOW. -/
def execDrainThrottleRelease (s : State) : Result :=
  if s.gal.paused && decide (s.storeBytes ≤ s.get Reg.GAL_ARB_WM_LOW * 1024) then
    .next ({ s with gal := { s.gal with paused := false } } : State).serveDelayed
  else .next s

/-- GAL_ARB_WM_WRITE (06, `GAL.ARB_WM`). -/
def execGalArbWmWrite (v : Word) (s : State) : Result :=
  let hi := v.toNat / 65536
  let lo := v.toNat % 65536
  if 16384 < hi || hi ≤ lo then .next s
  else .next ((s.put Reg.GAL_ARB_WM_HIGH hi).put Reg.GAL_ARB_WM_LOW lo).throttle

/-- GAL_ERROR_LOG_FREE (06 R174). -/
def execGalErrorLogFree (v : Word) (s : State) : Result := .next (s.write Reg.GAL_ERR_INFO_VALID.base v)

/-- GAL_CNT_CLR (06, "Registers"). -/
def execGalCntClr (s : State) : Result :=
  let s1 := ((((s.put64 Reg.GAL_THROTTLE 0).put Reg.GAL_SPILLS 0).put Reg.GAL_WR_DISCARD 0).put Reg.GAL_STORE_PEAK 0)
  let s2 := (List.range 4).foldl (fun (t : State) g => t.zeroRow Reg.GAL_STACK_CE g 5) s1
  .next { s2 with gal := { s2.gal with pausedTicks := 0 } }

/-- Granules in the order of background initialization: housekeeping, write buffer, map area, capture area (06 R175). -/
def State.nextGranule (s : State) : Option Nat :=
  let mib := fun (a : Nat) => a / 2 ^ 20
  let part := fun (lo hi : Nat) => let g := firstGap s.gal.written lo; if g < hi then some g else none
  match part (mib s.hkBase) (mib s.galSize), part (mib s.wbBase) (mib s.hkBase), part (mib s.mapBase) (mib s.wbBase),
      part 0 (mib s.mapBase) with
  | some g, _, _, _ => some g
  | _, some g, _, _ => some g
  | _, _, some g, _ => some g
  | _, _, _, r => r

/-- BACKGROUND_INIT_GRANULE (06 R175). -/
def execBackgroundInitGranule (s : State) : Result :=
  if !s.galActive || s.saving || s.flag Reg.GAL_STATUS_INIT_DONE then .next s
  else
    match s.nextGranule with
    | some g => .next (s.touchGranule g)
    | none => .next s

/-- The next line that the scrubber reads: of a granule that is not never-written (06 R178). -/
def State.nextScrub (s : State) : Option Nat :=
  let l := s.gal.scrubLine
  if s.granuleWritten (l / 16384) then some l
  else
    match s.gal.written.find? (fun e => decide (l / 16384 < e.1)), s.gal.written.head? with
    | some e, _ => some (16384 * e.1)
    | none, some e => some (16384 * e.1)
    | none, none => none

/-- PATROL_SCRUB_READ (06 R178). -/
def execPatrolScrubRead (dmg : Damage) (s : State) : Result :=
  if !s.flag Reg.GAL_SCRUB_EN || !s.galActive || s.saving then .next s
  else
    match s.nextScrub with
    | none => .next s
    | some l =>
      let s1 := ((s.strike dmg).readGalLine l srcScrub).2.2
      .next { s1 with gal := { s1.gal with scrubLine := (l + 1) % (s.galSize / 64) } }

/-- SELF_REFRESH_EXIT (06 R180): after the galley-PHY PLLs lock, unless the AOS holds the galley. -/
def execSelfRefreshExit (s : State) : Result :=
  let locked := (List.range s.part.stackCount).all (fun g => (s.get Reg.CLK_PLL_STATUS_GPHY_LOCK >>> g) % 2 == 1)
  if s.get Reg.GAL_STATUS_SR != 2 || !locked || s.pwr.aosSafe || s.pwr.lockstep || s.pwr.trip || s.pwr.thermalHold ||
      s.saving || s.pwr.inReset then .next s
  else .next (({ s with gal := { s.gal with kept := false } } : State).put Reg.GAL_STATUS_SR 0).serveDelayed

end Sys2Proof.Machine
end

