-- ==== Sys2Proof/Machine/Mbx.lean ====
section
/-!
DEFINITION. Management cores, mailboxes and quoins (19).
-/
namespace Sys2Proof.Machine

/-- Requester code (19 R474); function 1 and CC have none here (19 R474, 17 R428). -/
def requesterCode (q : Requester) : Option Nat :=
  match q with
  | .host0 => some 0x01
  | .dbg => some 0x02
  | .mc0 => some 0x08
  | .mc1 => some 0x09
  | .mc2 => some 0x0A
  | .mc3 => some 0x0B
  | .sc => some 0x0C
  | .aos => some 0x1F
  | .host1 => none
  | .cc => none

/-- A requester's stamp: its code and its incarnation modulo 8 (19 R474). -/
def State.stamp (s : State) (q : Requester) : Option Nat :=
  match q with
  | .host0 => some (0x01 + 32 * s.mbx.hostInc)
  | .dbg => some (0x02 + 32 * s.mbx.dbgInc)
  | .mc0 => some (s.get Reg.MBX_CORE_STATUS_STAMP 0)
  | .mc1 => some (s.get Reg.MBX_CORE_STATUS_STAMP 1)
  | .mc2 => some (s.get Reg.MBX_CORE_STATUS_STAMP 2)
  | .mc3 => some (s.get Reg.MBX_CORE_STATUS_STAMP 3)
  | .sc => some (s.get Reg.MBX_CORE_STATUS_STAMP 4)
  | .aos => some 0x1F
  | .host1 => none
  | .cc => none

/-- Core that receives mailbox `n`, or none for the host's (19 R480). -/
def boxCore (n : Nat) : Option Nat := if n < 32 then some (n / 8) else if n < 40 then some 4 else none

/-- A requester may write mailbox `n` (19 R480). -/
def mayWriteBox (q : Requester) (n : Nat) : Bool :=
  match q with
  | .mc0 => decide (n < 40) || n == 41
  | .mc1 => decide (n < 40)
  | .mc2 => decide (n < 40)
  | .mc3 => decide (n < 40)
  | .sc => decide (n < 32)
  | .aos => decide (n ≤ 40)
  | .host0 => decide (48 ≤ n)
  | .dbg => decide (48 ≤ n)
  | .host1 => false
  | .cc => false

/-- A requester receives from mailbox `n` (19 R480). -/
def mayReadBox (q : Requester) (n : Nat) : Bool :=
  match q with
  | .mc0 => decide (n < 8)
  | .mc1 => decide (8 ≤ n ∧ n < 16)
  | .mc2 => decide (16 ≤ n ∧ n < 24)
  | .mc3 => decide (24 ≤ n ∧ n < 32)
  | .sc => decide (32 ≤ n ∧ n < 40)
  | .host0 => decide (40 ≤ n)
  | .dbg => decide (48 ≤ n)
  | .aos => false
  | .host1 => false
  | .cc => false

/-- The mailbox is counted as rejected: REJECT and REJ_EV (19 R480). -/
def State.rejectBox (s : State) : State := (s.inc Reg.MBX_REJECT).event Reg.MBX_STATUS_REJ_EV

/-- A write of `v` to mailbox `n` by a requester with stamp `st` that is allowed (19 R481, R483). -/
def State.sendBox (s : State) (n st : Nat) (v : Word) : State :=
  if s.flag Reg.MBX_BOX_STATUS_FULL n then
    (s.inc Reg.MBX_OVERRUNS).event Reg.MBX_BOX_STATUS_OVERRUN n
  else
    let s1 := (s.put Reg.MBX_BOX_WORD v.toNat n).setFlag Reg.MBX_BOX_STATUS_FULL true n
    let s2 := s1.put Reg.MBX_BOX_STATUS_SENDER st n
    let s3 := s2.setFlag Reg.MBX_BOX_STATUS_SEQ (!s2.flag Reg.MBX_BOX_STATUS_SEQ n) n
    match boxCore n with
    | some k => if s3.get Reg.MBX_CORE_STATUS_STATE k = 3 then s3.put Reg.MBX_CORE_STATUS_STATE 2 k else s3
    | none => s3.event { Reg.MBX_ARRIVED_BIT with hi := n - 40, lo := n - 40 }

/-- MAILBOX_WRITE (19 R480-R483). -/
def execMailboxWrite (q : Requester) (n : Fin 64) (v : Word) (s : State) : Result :=
  if s.barShut q then .next (s.barAnswer q true) else
  match s.stamp q with
  | none => .next s
  | some st =>
    let failed := match boxCore n.val with
      | some k => s.get Reg.MBX_CORE_STATUS_STATE k == 6
      | none => false
    if !mayWriteBox q n.val || failed then .next s.rejectBox else .next (s.sendBox n.val st v)

/-- MAILBOX_READ (19 R480, R481): the receiver takes the word of a full mailbox; any other read returns 0. -/
def execMailboxRead (q : Requester) (n : Fin 64) (s : State) : Result :=
  if s.barShut q then .next (s.barAnswer q false)
  else if mayReadBox q n.val && s.flag Reg.MBX_BOX_STATUS_FULL n.val then
    .next ((s.setFlag Reg.MBX_BOX_STATUS_FULL false n.val).emit (.value (s.get Reg.MBX_BOX_WORD n.val)))
  else .next (s.emit (.value 0))

/-- Queue a core notice for `MBX[40]`: CODE, requester code, lockups within 10 s (19 R484). -/
def State.notice (s : State) (code k locks : Nat) : State :=
  if 8 ≤ s.mbx.notices.length then s.event Reg.MBX_BOX_STATUS_OVERRUN 40
  else { s with mbx := { s.mbx with notices := s.mbx.notices ++ [code * 2 ^ 24 + (8 + k) * 2 ^ 16 + locks] } }

/-- AOS_NOTICE_POST (19 R484). -/
def execAosNoticePost (s : State) : Result :=
  match s.mbx.notices with
  | [] => .next s
  | w :: r =>
    if s.flag Reg.MBX_BOX_STATUS_FULL 40 then .next s
    else .next (({ s with mbx := { s.mbx with notices := r } }).sendBox 40 0x1F (BitVec.ofNat 32 w))

/-- A requester's group owns quoin `n` (19 R486). -/
def quoinGroup (q : Requester) (n : Nat) : Bool :=
  match q with
  | .mc0 => decide (n < 32)
  | .mc1 => decide (n < 32)
  | .mc2 => decide (n < 32)
  | .mc3 => decide (n < 32)
  | .sc => decide (n < 32)
  | .host0 => decide (32 ≤ n)
  | .dbg => decide (32 ≤ n)
  | .aos => false
  | .host1 => false
  | .cc => false

/-- The word that a read of TAKE returns (19, `MBX.QUOIN.TAKE`). -/
def takeWord (got orphaned : Bool) (owner : Nat) : Nat :=
  (if got then 2 ^ 31 else 0) + (if orphaned then 2 ^ 30 else 0) + owner * 256

/-- QUOIN_TAKE (19 R485, R486). -/
def execQuoinTake (q : Requester) (n : Fin 64) (s : State) : Result :=
  if s.barShut q then .next (s.barAnswer q false) else
  match s.stamp q with
  | none => .next s
  | some st =>
    if !quoinGroup q n.val then .next ((s.inc Reg.MBX_REJECT).emit (.value (takeWord false false 0)))
    else
      let owner := s.get Reg.MBX_QUOIN_STATE_OWNER n.val
      if !s.flag Reg.MBX_QUOIN_STATE_HELD n.val then
        let orphaned := s.flag Reg.MBX_QUOIN_STATE_ORPHANED n.val
        let s1 := (s.setFlag Reg.MBX_QUOIN_STATE_HELD true n.val).put Reg.MBX_QUOIN_STATE_OWNER st n.val
        .next ((s1.setFlag Reg.MBX_QUOIN_STATE_ORPHANED false n.val).emit (.value (takeWord true orphaned st)))
      else if owner = st then
        .next (s.emit (.value (takeWord true (s.flag Reg.MBX_QUOIN_STATE_ORPHANED n.val) st)))
      else .next (s.emit (.value (takeWord false (s.flag Reg.MBX_QUOIN_STATE_ORPHANED n.val) owner)))

/-- QUOIN_RELEASE (19 R485, R486): freed by its owner, else counted in REJECT with REJ_EV. -/
def execQuoinRelease (q : Requester) (n : Fin 64) (s : State) : Result :=
  if s.barShut q then .next (s.barAnswer q true) else
  match s.stamp q with
  | none => .next s
  | some st =>
    if !quoinGroup q n.val then .next (s.inc Reg.MBX_REJECT)
    else if s.flag Reg.MBX_QUOIN_STATE_HELD n.val && s.get Reg.MBX_QUOIN_STATE_OWNER n.val == st then
      .next (s.setFlag Reg.MBX_QUOIN_STATE_HELD false n.val)
    else .next s.rejectBox

/-- Release every quoin that a stamp owns, ORPHANED set (19 R487). -/
def State.orphan (s : State) (st : Nat) : State :=
  (List.range 64).foldl (fun t n =>
    if t.flag Reg.MBX_QUOIN_STATE_HELD n && t.get Reg.MBX_QUOIN_STATE_OWNER n == st then
      (t.setFlag Reg.MBX_QUOIN_STATE_HELD false n).setFlag Reg.MBX_QUOIN_STATE_ORPHANED true n
    else t) s

/-- Function 0's host incarnation is incremented, its quoins released (19 R474, R487). -/
def State.bumpHost (s : State) : State :=
  let t := s.orphan (0x01 + 32 * s.mbx.hostInc)
  { t with mbx := { t.mbx with hostInc := (t.mbx.hostInc + 1) % 8 } }

/-- Core `k`'s incarnation is incremented, its quoins released (19 R474, R487). -/
def State.bumpCore (s : State) (k : Nat) : State :=
  let st := s.get Reg.MBX_CORE_STATUS_STAMP k
  (s.orphan st).put Reg.MBX_CORE_STATUS_STAMP ((st + 32) % 256) k

/-- MBX_CNT_CLR (19, "Registers"): REJECT, OVERRUNS and each core's RESTARTS. -/
def execMbxCntClr (s : State) : Result :=
  let s1 := (s.put Reg.MBX_REJECT 0).put Reg.MBX_OVERRUNS 0
  .next ((List.range 5).foldl (fun t k => t.put Reg.MBX_CORE_RESTARTS 0 k) s1)

end Sys2Proof.Machine
end

