-- ==== Sys2Proof/Machine/Aes.lean ====
section
/-!
DEFINITION. AES (FIPS 197) with 128-, 192- and 256-bit keys and the modes of 16 R409: CBC, CFB-128, OFB, CTR and CBC-MAC.
A state is 16 bytes, column by column.
-/
namespace Sys2Proof.Machine

/-- Multiplication by x in the AES field. -/
def xtime (a : Nat) : Nat := if 128 ≤ a then (2 * a % 256) ^^^ 0x1B else 2 * a

/-- Multiplication in the AES field. -/
def aesMul (a b : Nat) : Nat :=
  ((List.range 8).foldl (fun (p : Nat × Nat) i => (if b.testBit i then p.1 ^^^ p.2 else p.1, xtime p.2)) (0, a)).1

/-- Inverse in the AES field, 0 for 0: the 254th power. -/
def aesInv (a : Nat) : Nat :=
  let a2 := aesMul a a
  let a4 := aesMul a2 a2
  let a8 := aesMul a4 a4
  let a16 := aesMul a8 a8
  let a32 := aesMul a16 a16
  let a64 := aesMul a32 a32
  let a128 := aesMul a64 a64
  aesMul a128 (aesMul a64 (aesMul a32 (aesMul a16 (aesMul a8 (aesMul a4 a2)))))

/-- Rotate a byte left. -/
def rotl8 (a n : Nat) : Nat := (a * 2 ^ n + a / 2 ^ (8 - n)) % 256

/-- The S-box. -/
def sbox (a : Nat) : Nat :=
  let b := aesInv a
  b ^^^ rotl8 b 1 ^^^ rotl8 b 2 ^^^ rotl8 b 3 ^^^ rotl8 b 4 ^^^ 0x63

/-- The inverse S-box. -/
def invSbox (a : Nat) : Nat := aesInv (rotl8 a 1 ^^^ rotl8 a 3 ^^^ rotl8 a 6 ^^^ 0x05)

/-- Exclusive or of two byte strings. -/
def xorBytes (a b : List Nat) : List Nat := List.zipWith (· ^^^ ·) a b

/-- Round constant `i`, from 1. -/
def rcon (i : Nat) : Nat := Nat.repeat xtime (i - 1) 1

/-- The next key-expansion word from the word before it and the one `nk` back (FIPS 197, 5.2). -/
def nextWord (nk i : Nat) (prev back : List Nat) : List Nat :=
  let t :=
    if i % nk = 0 then
      let r := (prev.drop 1 ++ prev.take 1).map sbox
      xorBytes r [rcon (i / nk), 0, 0, 0]
    else if 6 < nk && i % nk = 4 then prev.map sbox
    else prev
  xorBytes back t

/-- Key-expansion words in reverse order, `n` more from index `i`. -/
def expandWords (nk : Nat) : Nat → Nat → List (List Nat) → List (List Nat)
  | 0, _, ws => ws
  | n + 1, i, ws => expandWords nk n (i + 1) (nextWord nk i (ws.headD []) (ws.getD (nk - 1) []) :: ws)

/-- Split into groups of `n`; `fuel` bounds their number. -/
def chunks {α : Type} (n : Nat) : Nat → List α → List (List α)
  | 0, _ => []
  | f + 1, l => if l.isEmpty then [] else l.take n :: chunks n f (l.drop n)

/-- Round keys, 16 bytes each. -/
def roundKeys (key : List Nat) : List (List Nat) :=
  let nk := key.length / 4
  let rounds := nk + 6
  let first := (chunks 4 nk key).reverse
  let ws := (expandWords nk (4 * (rounds + 1) - nk) nk first).reverse
  chunks 16 (rounds + 1) ws.flatten

/-- ShiftRows on a state column by column; `d` is 1 forwards and 3 for the inverse. -/
def shiftRows (d : Nat) (b : List Nat) : List Nat :=
  (List.range 16).map (fun i => b.getD ((i + 4 * d * (i % 4)) % 16) 0)

/-- MixColumns with the row of coefficients `m`. -/
def mixColumn (m : List Nat) (c : List Nat) : List Nat :=
  (List.range 4).map (fun r => (List.range 4).foldl (fun a k => a ^^^ aesMul (m.getD ((k + 4 - r) % 4) 0) (c.getD k 0)) 0)

/-- MixColumns on a state. -/
def mixColumns (m : List Nat) (b : List Nat) : List Nat := ((chunks 4 4 b).map (mixColumn m)).flatten

/-- AES encryption of one block under expanded round keys. -/
def aesEncrypt (rk : List (List Nat)) (block : List Nat) : List Nat :=
  let mid := ((rk.drop 1).dropLast).foldl
    (fun b k => xorBytes (mixColumns [2, 3, 1, 1] (shiftRows 1 (b.map sbox))) k) (xorBytes block (rk.headD []))
  xorBytes (shiftRows 1 (mid.map sbox)) (rk.getLastD [])

/-- AES decryption of one block under expanded round keys. -/
def aesDecrypt (rk : List (List Nat)) (block : List Nat) : List Nat :=
  let mid := (((rk.drop 1).dropLast).reverse).foldl
    (fun b k => mixColumns [14, 11, 13, 9] (xorBytes ((shiftRows 3 b).map invSbox) k)) (xorBytes block (rk.getLastD []))
  xorBytes ((shiftRows 3 mid).map invSbox) (rk.headD [])

/-- Counter block of a 128-bit number, bits [127:120] in byte 0 (16 R411). -/
def counterBlock (n : Nat) : List Nat := (beBytes 16 (n % 2 ^ 128)).map BitVec.toNat

/-- CTR mode from a counter value (16 R409, R411). -/
def ctrBlocks (rk : List (List Nat)) (n : Nat) : List (List Nat) → List (List Nat)
  | [] => []
  | b :: r => xorBytes (aesEncrypt rk (counterBlock n)) b :: ctrBlocks rk (n + 1) r

/-- CBC encryption; `iv` is the previous ciphertext block. -/
def cbcEncrypt (rk : List (List Nat)) (iv : List Nat) : List (List Nat) → List (List Nat)
  | [] => []
  | b :: r =>
    let c := aesEncrypt rk (xorBytes b iv)
    c :: cbcEncrypt rk c r

/-- CBC decryption. -/
def cbcDecrypt (rk : List (List Nat)) (iv : List Nat) : List (List Nat) → List (List Nat)
  | [] => []
  | b :: r => xorBytes (aesDecrypt rk b) iv :: cbcDecrypt rk b r

/-- CFB encryption with a 128-bit segment. -/
def cfbEncrypt (rk : List (List Nat)) (iv : List Nat) : List (List Nat) → List (List Nat)
  | [] => []
  | b :: r =>
    let c := xorBytes b (aesEncrypt rk iv)
    c :: cfbEncrypt rk c r

/-- CFB decryption. -/
def cfbDecrypt (rk : List (List Nat)) (iv : List Nat) : List (List Nat) → List (List Nat)
  | [] => []
  | b :: r => xorBytes b (aesEncrypt rk iv) :: cfbDecrypt rk b r

/-- OFB, both directions. -/
def ofb (rk : List (List Nat)) (iv : List Nat) : List (List Nat) → List (List Nat)
  | [] => []
  | b :: r =>
    let o := aesEncrypt rk iv
    xorBytes b o :: ofb rk o r

/-- Blocks of a byte string as numbers, and back. -/
def toBlocks (b : List Byte) : List (List Nat) := chunks 16 (b.length / 16 + 1) (b.map BitVec.toNat)
/-- Bytes of blocks. -/
def ofBlocks (b : List (List Nat)) : List Byte := b.flatten.map (BitVec.ofNat 8)

/-- Expanded key of key bytes. -/
def keyOf (key : List Byte) : List (List Nat) := roundKeys (key.map BitVec.toNat)

/-- A mode of CIPHER: 0 CBC, 1 CFB-128, 2 OFB, 3 CTR (09 CIPHER; 16 R409, R411). -/
def cipher (mode : Nat) (decrypt : Bool) (key iv data : List Byte) : List Byte :=
  let rk := keyOf key
  let v := iv.map BitVec.toNat
  let b := toBlocks data
  ofBlocks (match mode with
    | 0 => if decrypt then cbcDecrypt rk v b else cbcEncrypt rk v b
    | 1 => if decrypt then cfbDecrypt rk v b else cfbEncrypt rk v b
    | 2 => ofb rk v b
    | _ => ctrBlocks rk (beNat iv) b)

/-- CTR encryption from a counter number (16 R413). -/
def ctrCrypt (key : List Byte) (counter : Nat) (data : List Byte) : List Byte :=
  ofBlocks (ctrBlocks (keyOf key) counter (toBlocks data))

/-- CBC-MAC with zero IV, no padding, a 16-byte output (16 R409). -/
def cbcMac (key data : List Byte) : List Byte :=
  let rk := keyOf key
  ((toBlocks data).foldl (fun v b => aesEncrypt rk (xorBytes b v)) (List.replicate 16 0)).map (BitVec.ofNat 8)

end Sys2Proof.Machine
end

