-- ==== Sys2Proof/Machine/Sha.lean ====
section
/-!
DEFINITION. SHA-384 (FIPS 180-4) and the verification of ECDSA P-384 signatures (FIPS 186-5), as 16 R426 uses them.
-/
namespace Sys2Proof.Machine

/-- Addition modulo 2^64. -/
def add64 (a b : Nat) : Nat := (a + b) % 2 ^ 64
/-- Rotation to the right of 64 bits. -/
def rotr64 (a n : Nat) : Nat := (a / 2 ^ n + a * 2 ^ (64 - n)) % 2 ^ 64

/-- The primes below `n`, in ascending order. -/
def primesBelow (n : Nat) : List Nat := (List.range n).filter (fun p => decide (2 ≤ p) && (List.range p).all (fun d => d < 2 || p % d != 0))

/-- The first 64 fraction bits of the `k`-th root of `p`: its integer root once `p` is scaled by 2^(64 k), without the integer part. -/
def rootBits (k p : Nat) : Nat := rootDown k (p * 2 ^ (64 * k)) 70 0 % 2 ^ 64

/-- Round constants (FIPS 180-4): the cube roots of the first eighty primes. -/
def roundConsts : List Nat := (primesBelow 410).map (rootBits 3)

/-- Initial hash value of SHA-384 (FIPS 180-4): the square roots of the ninth to sixteenth prime. -/
def sha384Init : List Nat := ((primesBelow 54).drop 8).map (rootBits 2)

/-- Message schedule words in reverse order, `n` more. -/
def shaSchedule : Nat → List Nat → List Nat
  | 0, w => w
  | n + 1, w =>
    let a := w.getD 14 0
    let b := w.getD 1 0
    let s0 := rotr64 a 1 ^^^ rotr64 a 8 ^^^ (a / 2 ^ 7)
    let s1 := rotr64 b 19 ^^^ rotr64 b 61 ^^^ (b / 2 ^ 6)
    shaSchedule n (add64 (add64 (w.getD 15 0) s0) (add64 (w.getD 6 0) s1) :: w)

/-- One round of SHA-512. -/
def shaRound (h : List Nat) (kw : Nat × Nat) : List Nat :=
  match h with
  | [a, b, c, d, e, f, g, i] =>
    let s1 := rotr64 e 14 ^^^ rotr64 e 18 ^^^ rotr64 e 41
    let ch := (e &&& f) ^^^ ((2 ^ 64 - 1 - e) &&& g)
    let t1 := add64 (add64 i s1) (add64 ch (add64 kw.1 kw.2))
    let s0 := rotr64 a 28 ^^^ rotr64 a 34 ^^^ rotr64 a 39
    let mj := (a &&& b) ^^^ (a &&& c) ^^^ (b &&& c)
    [add64 t1 (add64 s0 mj), a, b, c, add64 d t1, e, f, g]
  | other => other

/-- One 128-byte block. -/
def shaBlock (h : List Nat) (block : List Byte) : List Nat :=
  let w := ((chunks 8 16 block).map beNat).reverse
  let ws := (shaSchedule 64 w).reverse
  List.zipWith add64 h ((roundConsts.zip ws).foldl shaRound h)

/-- SHA-384 of a byte string. -/
def sha384 (m : List Byte) : List Byte :=
  let n := m.length
  let pad := (128 - (n + 17) % 128) % 128
  let msg := m ++ [0x80] ++ zeros pad ++ beBytes 16 (8 * n)
  let h := (chunks 128 (msg.length / 128) msg).foldl shaBlock sha384Init
  (h.take 6).foldl (fun b w => b ++ beBytes 8 w) []

/-- The field prime of P-384. -/
def p384 : Nat := 2 ^ 384 - 2 ^ 128 - 2 ^ 96 + 2 ^ 32 - 1
/-- The order of P-384's base point. -/
def n384 : Nat := 0xffffffffffffffffffffffffffffffffffffffffffffffffc7634d81f4372ddf581a0db248b0a77aecec196accc52973
/-- The curve coefficient b. -/
def b384 : Nat := 0xb3312fa7e23ee7e4988e056be3f82d19181d9c6efe8141120314088f5013875ac656398d8a2ed19d2a85c8edd3ec2aef
/-- The base point. -/
def g384 : Nat × Nat :=
  (0xaa87ca22be8b05378eb1c71ef320ad746e1d3b628ba79b9859f741e082542a385502f25dbf55296c3a545e3872760ab7,
   0x3617de4a96262c6f5d9e98bf9292dc29f8f41dbd289a147ce9da3113b5f0b8c00a60b1ce1d7e819d7a431d7c90ea0e5f)

/-- Power modulo m, over `n` bits of the exponent. -/
def powMod (m : Nat) : Nat → Nat → Nat → Nat
  | 0, _, _ => 1
  | n + 1, b, e => (if e % 2 = 1 then b else 1) * powMod m n (b * b % m) (e / 2) % m

/-- Inverse modulo a prime. -/
def invMod (m a : Nat) : Nat := powMod m 384 (a % m) (m - 2)

/-- Sum of two points of P-384; none is the point at infinity. -/
def ecAdd : Option (Nat × Nat) → Option (Nat × Nat) → Option (Nat × Nat)
  | none, q => q
  | p, none => p
  | some (x1, y1), some (x2, y2) =>
    if x1 = x2 && (y1 + y2) % p384 = 0 then none
    else
      let l := if x1 = x2 then (3 * x1 * x1 + p384 - 3) * invMod p384 (2 * y1) % p384
        else (y2 + p384 - y1) * invMod p384 (x2 + p384 - x1) % p384
      let x3 := (l * l + 2 * p384 - x1 - x2) % p384
      some (x3, (l * (x1 + p384 - x3) + p384 - y1) % p384)

/-- Multiple of a point, over `n` bits. -/
def ecMul : Nat → Nat → Option (Nat × Nat) → Option (Nat × Nat)
  | 0, _, _ => none
  | n + 1, k, p =>
    let r := ecMul n (k / 2) (ecAdd p p)
    if k % 2 = 1 then ecAdd p r else r

/-- A point lies on P-384 (17 R446). -/
def onCurve (x y : Nat) : Bool :=
  decide (x < p384) && decide (y < p384) && (y * y) % p384 == (x * x * x + (p384 - 3) * x + b384) % p384

/-- ECDSA P-384 verification over the SHA-384 of `msg`: public key x then y, signature r then s, 48 big-endian bytes each
(16 R426). -/
def ecdsaVerify (pub msg sig : List Byte) : Bool :=
  let x := beNat (pub.take 48)
  let y := beNat ((pub.drop 48).take 48)
  let r := beNat (sig.take 48)
  let t := beNat ((sig.drop 48).take 48)
  if !onCurve x y || r = 0 || n384 ≤ r || t = 0 || n384 ≤ t then false
  else
    let z := beNat (sha384 msg)
    let w := invMod n384 t
    match ecAdd (ecMul 384 (z * w % n384) (some g384)) (ecMul 384 (r * w % n384) (some (x, y))) with
    | none => false
    | some (x1, _) => x1 % n384 == r

end Sys2Proof.Machine
end

