-- ==== Sys2Proof/Machine/Efc.lean ====
section
/-!
DEFINITION. Embedded flash: the command port, the window, journals and the standing image (18).
-/
namespace Sys2Proof.Machine

/-- `n` bytes of the OTP row (18 R459). -/
def State.otpRead (s : State) (a n : Nat) : List Byte := (List.range n).map (fun i => sget flashBlank s.efc.otp (a + i))

/-- Put bytes into the OTP row. -/
def State.otpPut (s : State) (a : Nat) (b : List Byte) : State :=
  { s with efc := { s.efc with
      otp := (b.foldl (fun (p : List (Nat × Byte) × Nat) x => (sput flashBlank p.1 p.2 x, p.2 + 1)) (s.efc.otp, a)).1 } }

/-- The lock and MAKER_KEY status bits follow the OTP row (18 R460, R461). -/
def State.readOtpStatus (s : State) : State :=
  (s.setFlag Reg.EFC_STATUS_LOCKED (!allBlank (s.otpRead 0 32))).setFlag Reg.EFC_STATUS_MAKER_KEY
    (!allBlank (s.otpRead 0x20 64))

/-- A sequence is abandoned (18 R458); an operation that runs goes on. -/
def State.efcDrop (s : State) : State :=
  let s1 := if s.efc.run.isSome then s else s.put Reg.EFC_STATUS_SEQ 0
  { s1 with efc := { s1.efc with owner := none, op := none, words := [] } }

/-- A sequence is abandoned with SEQ_ERR (18 R454). -/
def State.efcAbandon (s : State) : State := s.efcDrop.event Reg.EFC_STATUS_SEQ_ERR

/-- The requesters that share the host command port (18 R454). -/
def hostPort (q : Requester) : Bool := q == .host0 || q == .dbg

/-- EFC_KEY_WRITE (18 R454). -/
def execEfcKeyWrite (q : Requester) (v : Word) (s : State) : Result :=
  if s.barShut q then .next (s.barAnswer q true)
  else if !hostPort q then .next s
  else
    let k := bitsOf v 15 0
    let seq := s.get Reg.EFC_STATUS_SEQ
    if seq = 0 && k = 0x6E2A then
      .next ({ s with efc := { s.efc with owner := some q } }.put Reg.EFC_STATUS_SEQ 1)
    else if seq = 1 && s.efc.owner = some q && k = 0x91D5 then .next (s.put Reg.EFC_STATUS_SEQ 2)
    else .next s.efcAbandon

/-- Operation codes of `EFC.CMD` (18, "Command port"). -/
def flashOp (n : Nat) : Option FlashOp :=
  match n with
  | 1 => some .program
  | 2 => some .sectorErase
  | 3 => some .otpProgram
  | 4 => some .blankCheck
  | _ => none

/-- A write to `EFC.CMD` (18 R454). -/
def State.efcCmd (s : State) (q : Requester) (v : Word) : State :=
  if !hostPort q then s
  else match flashOp (bitsOf v 2 0) with
    | some op =>
      if s.get Reg.EFC_STATUS_SEQ = 2 && s.efc.owner = some q then
        { s with efc := { s.efc with op := some op } }.put Reg.EFC_STATUS_SEQ 3
      else s.efcAbandon
    | none => s.efcAbandon

/-- The host port's command ends: RESULT and DONE_EV (18 R455). -/
def State.efcResult (s : State) (code : Nat) : State :=
  let s1 := ((s.put Reg.EFC_RESULT_CODE code).put Reg.EFC_STATUS_SEQ 0).setFlag Reg.EFC_STATUS_BUSY0 false
  let s2 := ((s1.setFlag Reg.EFC_STATUS_BUSY1 false).setFlag Reg.EFC_STATUS_SUSPENDED false).event Reg.EFC_STATUS_DONE_EV
  { s2 with efc := { s2.efc with run := none, owner := none, op := none, words := [] } }

/-- The host and DBG may program or erase at an address (18 R450). -/
def State.mayFlash (s : State) (op : FlashOp) (a : Nat) : Bool :=
  let off := a % 0x1000000
  match op with
  | .blankCheck => true
  | .otpProgram =>
    let o := a % 0x1000
    !s.locked && (decide (o < 0x60) || decide (0x800 ≤ o))
  | _ =>
    decide (0xFF0000 ≤ off) || (decide (off < 0xE00000) && a / 0x1000000 != s.get Reg.EFC_FW_BOOT_SLOT)

/-- An operation starts on the host port (18 R450, R452, R454, R458). -/
def State.efcStart (s : State) (op : FlashOp) (a : Nat) (data : List Byte) : State :=
  if s.efc.refuse then s.efcResult 7
  else if !s.mayFlash op a then (s.event Reg.EFC_STATUS_PROT_VIOL).efcResult 3
  else
    let s1 := { s with efc := { s.efc with run := some { op, addr := a, data }, owner := none, op := none, words := [] } }
    let s2 := (s1.put Reg.EFC_STATUS_SEQ 6).put Reg.EFC_RESULT_CODE 1
    if op = .program || op = .sectorErase then
      s2.setFlag (if a / 0x1000000 = 0 then Reg.EFC_STATUS_BUSY0 else Reg.EFC_STATUS_BUSY1) true
    else s2

/-- A write to `EFC.ADDR` (18 R454): accepted in its place and aligned for the operation; a write that starts an operation is
SECTOR_ERASE or BLANK_CHECK. -/
def State.efcAddr (s : State) (q : Requester) (v : Word) (starts : FlashOp → Bool) : State :=
  if !hostPort q then s
  else
    let a := bitsOf v 24 0
    match s.efc.op with
    | some op =>
      let aligned := match op with
        | .program => a % 32 == 0
        | .otpProgram => a % 32 == 0
        | .sectorErase => a % 4096 == 0
        | .blankCheck => a % 4096 == 0
      if s.get Reg.EFC_STATUS_SEQ != 3 || s.efc.owner != some q || !aligned then s.efcAbandon
      else
        let s1 := s.put Reg.EFC_ADDR_ADDR a
        match op with
        | .program => if starts op then s else s1.put Reg.EFC_STATUS_SEQ 4
        | .otpProgram => if starts op then s else s1.put Reg.EFC_STATUS_SEQ 4
        | .sectorErase => if starts op then s1.efcStart op a [] else s
        | .blankCheck => if starts op then s1.efcStart op a [] else s
    | none => s.efcAbandon

/-- A write to `EFC.DATA` (18 R454): the word is taken, and the eighth starts the operation. -/
def State.efcData (s : State) (q : Requester) (v : Word) : State :=
  if !hostPort q then s
  else
    let seq := s.get Reg.EFC_STATUS_SEQ
    if !(seq == 4 || seq == 5) || s.efc.owner != some q then s.efcAbandon
    else
      let words := s.efc.words ++ [v]
      if words.length < 8 then { s with efc := { s.efc with words } }.put Reg.EFC_STATUS_SEQ 5
      else match s.efc.op with
        | some op => s.efcStart op (s.get Reg.EFC_ADDR_ADDR) (words.foldl (fun b w => b ++ leBytes 4 w.toNat) [])
        | none => s.efcAbandon

/-- PROGRAM (18 R454, R455): the eighth DATA write; a DATA write that is not the eighth of a PROGRAM is REGISTER_WRITE's. -/
def execProgram (q : Requester) (v : Word) (s : State) : Result :=
  if s.barShut q then .next (s.barAnswer q true)
  else if s.efc.op = some .program && s.efc.words.length = 7 then .next (s.efcData q v) else .next s

/-- OTP_PROGRAM (18 R454, R459, R460). -/
def execOtpProgram (q : Requester) (v : Word) (s : State) : Result :=
  if s.barShut q then .next (s.barAnswer q true)
  else if s.efc.op = some .otpProgram && s.efc.words.length = 7 then .next (s.efcData q v) else .next s

/-- SECTOR_ERASE (18 R454, R456): the ADDR write of an erase. -/
def execSectorErase (q : Requester) (v : Word) (s : State) : Result :=
  if s.barShut q then .next (s.barAnswer q true) else
  .next (if s.efc.op = some .sectorErase then s.efcAddr q v (· = .sectorErase) else s)

/-- BLANK_CHECK (18 R454, R455): the ADDR write of a blank check. -/
def execBlankCheck (q : Requester) (v : Word) (s : State) : Result :=
  if s.barShut q then .next (s.barAnswer q true) else
  .next (if s.efc.op = some .blankCheck then s.efcAddr q v (· = .blankCheck) else s)

/-- EFC_OPERATION_COMPLETE (18 R455): `verified` is the strict-margin comparison after programming.  What a granule holds that
failed it is open: free bytes (log 4). -/
def execEfcOperationComplete (verified : Bool) (s : State) : Result :=
  match s.efc.run with
  | none => .next s
  | some r =>
    if s.flag Reg.EFC_STATUS_SUSPENDED then .next s
    else match r.op with
      | .program =>
        if !allBlank (s.flashRead r.addr 32) || s.deadSector r.addr then .next (s.efcResult 4)
        else
          let s1 := s.inc Reg.EFC_PROGRAMS
          if verified then .next ((s1.flashPut r.addr r.data).efcResult 2)
          else
            let fb := s1.freeBytes 32
            .next ((fb.2.flashPut r.addr fb.1).efcResult 5)
      | .otpProgram =>
        let a := r.addr % 0x1000
        if !allBlank (s.otpRead a 32) then .next (s.efcResult 4)
        else
          let s1 := s.inc Reg.EFC_PROGRAMS
          if verified then .next ((s1.otpPut a r.data).readOtpStatus.efcResult 2)
          else
            let fb := s1.freeBytes 32
            .next ((fb.2.otpPut a fb.1).readOtpStatus.efcResult 5)
      | .sectorErase =>
        let s1 := { s with efc := { s.efc with
          flash := sclear s.efc.flash r.addr (r.addr + 4096), dead := s.efc.dead.filter (· != r.addr / 4096) } }
        .next ((s1.inc Reg.EFC_ERASES).efcResult 2)
      | .blankCheck =>
        .next (s.efcResult (if allBlank (s.flashRead r.addr 4096) && !s.deadSector r.addr then 2 else 4))

/-- An erase is aborted or cut (18 R458): the sector is unusable, ABORT_ADDR records it; `result` is false when the device
itself loses power. -/
def State.efcAbortErase (s : State) (result : Bool) : State :=
  match s.efc.run with
  | some r =>
    if r.op = .sectorErase then
      let s1 := { s with efc := { s.efc with dead := (r.addr / 4096) :: s.efc.dead } }
      let s2 := (s1.setFlag Reg.EFC_ABORT_ADDR_VALID true).put Reg.EFC_ABORT_ADDR_ADDR r.addr
      let s3 := s2.event Reg.EFC_STATUS_ERASE_ABORT_EV
      if result then s3.efcResult 6 else { s3 with efc := { s3.efc with run := none } }
    else s
  | none => s

/-- EFC_ERASE_SUSPEND (18 R457): a firmware request suspends a host erase, or the erase resumes after it. -/
def execEfcEraseSuspend (resume : Bool) (s : State) : Result :=
  match s.efc.run with
  | some r => .next (if r.op = .sectorErase then s.setFlag Reg.EFC_STATUS_SUSPENDED (!resume) else s)
  | none => .next s

/-- Log a flash read error (18, `EFC.ECC_LOG`). -/
def State.eccLog (s : State) (a cbits : Nat) (ue : Bool) : State :=
  if !s.flag Reg.EFC_ECC_LOG_VALID || (ue && !s.flag Reg.EFC_ECC_LOG_UE) then
    (((s.setFlag Reg.EFC_ECC_LOG_VALID true).setFlag Reg.EFC_ECC_LOG_UE ue).put Reg.EFC_ECC_LOG_CBITS
      (if ue then 0 else cbits)).put Reg.EFC_ECC_LOG_ADDR (a / 32 * 32)
  else s

/-- EFC_WINDOW_READ (18 R449, R451-R453): `addr` is the BAR0 offset, `errs` the bit errors of the granules read (granule
address, bits; 5 or more cannot be corrected).  A sector whose erase was cut reads free bytes (log 4). -/
def execEfcWindowRead (q : Requester) (addr len : Nat) (errs : List (Nat × Nat)) (s : State) : Result :=
  if s.barShut q then .next (s.barAnswer q false)
  else if addr < 0x2000000 || 0x4000000 < addr + len then .next s
  else
    let f := addr - 0x2000000
    let busy := s.flag (if f / 0x1000000 = 0 then Reg.EFC_STATUS_BUSY0 else Reg.EFC_STATUS_BUSY1)
    if busy then .next ((s.event Reg.EFC_STATUS_BUSY_FAULT).busFault q false)
    else if f % 0x1000000 < 0xE00000 then .next ((s.event Reg.EFC_STATUS_XO_VIOL).emit (.reply (zeros len) []))
    else
      let mine := errs.filter (fun e => decide (f / 32 * 32 ≤ e.1) && decide (e.1 < f + len))
      let s1 := mine.foldl (fun t e =>
        if 5 ≤ e.2 then ((t.inc Reg.EFC_UE).eccLog e.1 e.2 true).event Reg.EFC_STATUS_UE_EV
        else if t.get Reg.EFC_ECC_CFG_WARN_THR ≤ e.2 then
          ((t.inc Reg.EFC_CORRECTED).eccLog e.1 e.2 false).event Reg.EFC_STATUS_ECC_WARN_EV
        else t) s
      if mine.any (fun e => decide (5 ≤ e.2)) then .next (s1.busFault q false)
      else if s1.deadSector f then
        let fb := s1.freeBytes len
        .next (fb.2.emit (.reply fb.1 []))
      else .next (s1.emit (.reply (s1.flashRead f len) []))

/-- EFC_WINDOW_WRITE (18 R449): discarded with PROT_VIOL. -/
def execEfcWindowWrite (q : Requester) (addr : Nat) (_v : Word) (s : State) : Result :=
  if s.barShut q then .next (s.barAnswer q true)
  else if addr < 0x2000000 || 0x4000000 ≤ addr then .next s else .next (s.event Reg.EFC_STATUS_PROT_VIOL)

/-- EFC_ECC_LOG_FREE (18 R453): writing 1 to VALID frees the log. -/
def execEfcEccLogFree (v : Word) (s : State) : Result :=
  .next (if v.getLsbD 31 then s.setFlag Reg.EFC_ECC_LOG_VALID false else s)

/-- EFC_ABORT_ADDR_CLR (18 R458): CLR clears VALID and ADDR. -/
def execEfcAbortAddrClr (v : Word) (s : State) : Result :=
  .next (if v.getLsbD 30 then (s.setFlag Reg.EFC_ABORT_ADDR_VALID false).put Reg.EFC_ABORT_ADDR_ADDR 0 else s)

/-- EFC_CNT_CLR (18, "Registers"). -/
def execEfcCntClr (s : State) : Result :=
  .next ((((s.put Reg.EFC_PROGRAMS 0).put Reg.EFC_ERASES 0).put Reg.EFC_CORRECTED 0).put Reg.EFC_UE 0)

/-- JOURNAL_APPEND (18 R462-R466): firmware appends an entry of 1 to 8 granules; a host program runs to its end first and a
host erase must be suspended (18 R457). -/
def execJournalAppend (journal kind : Nat) (payload : List Byte) (s : State) : Result :=
  match journalBase journal with
  | none => .next s
  | some base =>
    let blocked := match s.efc.run with
      | some r => r.op != .sectorErase || !s.flag Reg.EFC_STATUS_SUSPENDED
      | none => false
    if blocked || 240 < payload.length then .next s
    else .next ((s.journalPut journal base kind payload).journalCompact journal base)

/-- Flash address of standing copy A, or B (18 R448). -/
def copyBase (b : Bool) : Nat := if b then 0x1FF0000 else 0xFF0000

/-- Record `k` of an image: OFFSET, MASK, VALUE (18 R469). -/
def imageRecord (img : List Byte) (k : Nat) : Nat × Word × Word :=
  (fieldAt img (0x100 + 12 * k) 4, BitVec.ofNat 32 (fieldAt img (0x104 + 12 * k) 4),
   BitVec.ofNat 32 (fieldAt img (0x108 + 12 * k) 4))

/-- TOP.MODE.ROLE as an image sets it (01 R22): the factory value where no record does. -/
def imageRole (recs : List (Nat × Word × Word)) : Nat :=
  match recs.find? (fun r => r.1 == Reg.TOP_MODE_ROLE.base) with
  | some r => bitsOf (r.2.1 &&& r.2.2) 1 0
  | none => 0

/-- A record's value would be discarded by its register's own write rule, judged on the word it would leave: 02 R53, 03 R91, 06 R169,
14 R369, 15 "MOT.PWM"; or it lies outside the range its register states: 06 "GAL.REGION", 08 R204 (18 R470).  `role` is
`TOP.MODE.ROLE`. -/
def recordDiscarded (role off : Nat) (w : Word) : Bool :=
  if off = Reg.PWR_BUS_THRESH_VBUS_WARN.base then
    !(decide (bitsOf w 9 0 < bitsOf w 19 10) && decide (bitsOf w 19 10 < bitsOf w 29 20))
  else if off = Reg.SRV_GOV_TEMP_T_END.base then decide (bitsOf w 27 16 ≤ bitsOf w 11 0)
  else if off = Reg.SRV_GOV_IBUS_I_END.base then decide (bitsOf w 23 12 ≤ bitsOf w 11 0)
  else if off = Reg.MOT_PWM_PERIOD.base then
    decide (bitsOf w 15 8 < bitsOf w 7 0) || decide (bitsOf w 31 16 < 4 * bitsOf w 15 8)
  else if off = Reg.GAL_ARB_WM_HIGH.base then
    decide (16384 < bitsOf w Reg.GAL_ARB_WM_HIGH.hi Reg.GAL_ARB_WM_HIGH.lo) ||
      decide (bitsOf w Reg.GAL_ARB_WM_HIGH.hi Reg.GAL_ARB_WM_HIGH.lo ≤ bitsOf w Reg.GAL_ARB_WM_LOW.hi Reg.GAL_ARB_WM_LOW.lo)
  else if off = Reg.GAL_REGION_WB_GIB.base then decide (8 < bitsOf w 31 28)
  else if off = Reg.PCIE_CFG_BAR2_SIZE.base then decide (10 < bitsOf w 15 12) || decide (4 < bitsOf w 7 5)
  else if (List.range 32).any (fun p => off == Reg.LANE_PORT_CTL_TX_SRC.base + 32 * p) then
    bitsOf w 5 4 == 2 && (role != 1 || decide (bitsOf w 7 6 < bitsOf w 2 1))
  else false

/-- A record covers only whole fields that the standing image resets, with no reserved encoding (18 R470). -/
def recordGood (role : Nat) (r : Nat × Word × Word) : Bool :=
  match regFind r.1 with
  | none => r.2.1 == 0
  | some reg =>
    let fieldOk := fun (f : RField) =>
      let m := bitsOf r.2.1 f.hi f.lo
      m == 0 || (f.standing && m == 2 ^ (f.hi + 1 - f.lo) - 1 && !badValue f (bitsOf r.2.2 f.hi f.lo))
    let covered := reg.fields.foldl (fun n f => n ||| ((2 ^ (f.hi + 1 - f.lo) - 1) * 2 ^ f.lo)) 0
    reg.fields.all fieldOk && (r.2.1.toNat &&& (2 ^ 32 - 1 - covered)) == 0 &&
      !recordDiscarded role r.1 ((BitVec.ofNat 32 reg.reset &&& ~~~r.2.1) ||| (r.2.2 &&& r.2.1))

/-- MAKER_KEY's CRC matches (18 R459, R461). -/
def State.makerKeyGood (s : State) : Bool :=
  fieldAt (s.otpRead 0x50 4) 0 4 == crc32 (s.otpRead 0x20 48)

/-- The image in a copy, if it passes every check of 18 R470; at most LENGTH bytes of the copy. -/
def State.validImage (s : State) (b : Bool) : Option (List Byte) :=
  let h := s.flashRead (copyBase b) 0x14
  let r := fieldAt h 0x10 4
  let signed := fieldAt h 7 1 % 2 == 1
  let len := if signed then 0x1C4 + 12 * r else 0x104 + 12 * r
  let header := fieldAt h 0 4 == 0x4953595A && fieldAt h 4 2 == 1 && decide (fieldAt h 6 1 < 2) &&
    decide (fieldAt h 7 1 < 2) && decide (r ≤ 4096) && fieldAt h 12 4 == len && decide (len ≤ 0x10000)
  if !header then none
  else
    let img := s.flashRead (copyBase b) len
    let recs := (List.range r).map (imageRecord img)
    let ascending := (List.range (r - 1)).all (fun k => decide ((imageRecord img k).1 < (imageRecord img (k + 1)).1))
    let zeroAt := fun o n => ((img.drop o).take n).all (fun x => x == 0)
    let maker := s.flag Reg.EFC_STATUS_MAKER_KEY
    let pub := (img.drop (0x100 + 12 * r)).take 96
    let sigOk := !maker || (s.makerKeyGood && signed && sha384 pub == s.otpRead 0x20 48 &&
      ecdsaVerify pub (img.take (0x160 + 12 * r)) ((img.drop (0x160 + 12 * r)).take 96))
    if fieldAt img (len - 4) 4 == crc32 (img.take (len - 4)) && zeroAt 0x1C 4 && zeroAt 0x48 184 && ascending &&
        recs.all (recordGood (imageRole recs)) && sigOk then some img else none

/-- Apply the records of an image to the registers whose offset passes `p` (18 R469, R472). -/
def State.applyRecords (s : State) (img : List Byte) (p : Nat → Bool) : State :=
  (List.range (fieldAt img 0x10 4)).foldl (fun t k =>
    let r := imageRecord img k
    if p r.1 then t.wr r.1 ((t.rd r.1 &&& ~~~r.2.1) ||| (r.2.2 &&& r.2.1)) else t) s

/-- The standing image is selected and applied (18 R471-R473): both copies are validated; the registers whose reset it gives
take their values, and the PCIe identities follow it (08 R201). -/
def State.selectImage (s : State) : State :=
  let a := s.validImage false
  let b := s.validImage true
  let seq := fun (i : List Byte) => fieldAt i 8 4
  let pick : Nat × List Byte × Bool := match a, b with
    | none, none => (0, [], false)
    | some x, none => (1, x, false)
    | none, some y => (2, y, false)
    | some x, some y =>
      if seq y < seq x then (1, x, false) else if seq x < seq y then (2, y, false)
      else if x == y then (1, x, false) else (0, [], true)
  let img := pick.2.1
  let s1 := ((s.setFlag Reg.EFC_STANDING_A_VALID a.isSome).setFlag Reg.EFC_STANDING_B_VALID b.isSome).put
    Reg.EFC_STANDING_SELECTED pick.1
  let s2 := ((s1.setFlag Reg.EFC_STANDING_CONFLICT pick.2.2).setFlag Reg.EFC_STANDING_NO_IMAGE
    (a.isNone && b.isNone)).setFlag Reg.EFC_STANDING_KEY_BAD (s.flag Reg.EFC_STATUS_MAKER_KEY && !s.makerKeyGood)
  let s3 := (s2.put Reg.EFC_STANDING_SEQ (seq img)).setFlag Reg.EFC_STANDING_SIGNED (fieldAt img 7 1 % 2 == 1)
  let s4 := { s3 with efc := { s3.efc with image := img } }
  if img.isEmpty then s4
  else
    let s5 := s4.applyRecords img (fun _ => true)
    [0, 1].foldl (fun t f =>
      let t1 := t.put Reg.CFG_ID_VENDOR (fieldAt img 0x14 2) f
      t1.put Reg.CFG_SUBSYS (fieldAt img 0x16 2 + 65536 * fieldAt img (if f = 0 then 0x18 else 0x1A) 2) f) s5

/-- Firmware slot that the standing image names (18 R467, R473). -/
def State.fwChoice (s : State) : Nat := if s.efc.image.isEmpty then 0 else fieldAt s.efc.image 6 1

end Sys2Proof.Machine
end

