-- ==== Sys2Proof/Machine/MapLine.lean ====
section
/-!
DEFINITION. Lines of the mapping table: where the map cache holds them (11 R289, R290), where they lie behind it (10 R263; 11 R294), and
a change of a mapping (10 R264).
-/
namespace Sys2Proof.Machine

/-- Set and tag of a line (11 R289). -/
def lineSet (l : Nat) : Nat := (l ^^^ (l / 2 ^ 14) ^^^ (l / 2 ^ 28)) % 2 ^ 14
def lineTag (l : Nat) : Nat := l / 2 ^ 14

/-- A line of the map, not of management-core data (11 R288). -/
def isMapLine (l : Nat) : Bool := decide (l < 2 ^ 26)

/-- Demand-paged mode (10 R263). -/
def State.paged (s : State) : Bool := s.flag Reg.MAP_STATUS_PAGED

/-- The way of a set that holds a line (11 R290). -/
def State.findWay (s : State) (l : Nat) : Option Nat :=
  (List.range 16).find? (fun w =>
    match s.map.lines.lookup (16 * lineSet l + w) with
    | some m => m.tag == lineTag l
    | none => false)

/-- Set a way. -/
def State.setLine (s : State) (key : Nat) (m : Option MapLine) : State :=
  { s with map := { s.map with lines := match m with | some x => insertKey s.map.lines key x | none => eraseKey s.map.lines key } }

/-- The level `MAP.DIRTY` (11, "Counters"). -/
def State.countDirty (s : State) : State := s.put Reg.MAP_DIRTY (s.map.lines.countP (fun e => e.2.dirty))

/-- A map entry of a unit (10 R262). -/
def mapEntryBytes (p : Option Nat) : List Byte := leBytes 4 (p.getD 0xFFFFFFFF)

/-- The 64 entries of a line of the map as it stands (10 R262). -/
def State.mapLine (s : State) (l : Nat) : List Byte :=
  ((List.range 64).map (fun i => mapEntryBytes (s.mag.map.lookup (64 * l + i)))).flatten

/-- A line's place in the map area (10 R263; 06 R160). -/
def State.mapAddr (s : State) (l : Nat) : Nat := s.mapBase + 256 * l

/-- Write a line to its place behind the cache: the map area in the FW class, else its map page or the housekeeping data (11 R294, R297). -/
def State.writeBack (s : State) (l : Nat) (d : List Byte) : State :=
  if isMapLine l && !s.paged then
    let t := s.galWrite (s.mapAddr l) d false srcFw
    { t with map := { t.map with loaded := insertKey t.map.loaded l true } }
  else { s with map := { s.map with store := insertKey s.map.store l d } }

/-- A line of the map area is loaded from the map as it stands, unless it has been (10 R264; log 136). -/
def State.loadLine (s : State) (l : Nat) : State :=
  if (s.map.loaded.lookup l).isSome then s else s.writeBack l (s.mapLine l)

/-- What a fill of a line reads (11 R294): the map area in the FW class; the map page, as it was written again or as the map stands;
housekeeping data, of which what nothing wrote reads 0. -/
def State.backing (s : State) (l : Nat) : List Byte × State :=
  if isMapLine l && !s.paged then
    let got := (s.loadLine l).galRead (s.mapAddr l) 256 srcFw
    (got.1, got.2.2)
  else
    match s.map.store.lookup l with
    | some d => (d, s)
    | none => (if isMapLine l then s.mapLine l else zeros 256, s)

/-- A mapping has changed (10 R264; 11 R297): MC1 changes the entry in the cached line, which becomes dirty, or behind the cache where the
line is not held (log 136). -/
def State.mapEntry (s : State) (u : Nat) (p : Option Nat) : State :=
  let l := u / 64
  let off := 4 * (u % 64)
  match s.findWay l with
  | some w =>
    match s.map.lines.lookup (16 * lineSet l + w) with
    | some m => (s.setLine (16 * lineSet l + w) (some { m with data := patch m.data off (mapEntryBytes p), dirty := true })).countDirty
    | none => s
  | none =>
    if s.paged then
      match s.map.store.lookup l with
      | some d => s.writeBack l (patch d off (mapEntryBytes p))
      | none => s
    else if (s.map.loaded.lookup l).isSome then s.galWrite (s.mapAddr l + off) (mapEntryBytes p) false srcFw
    else s

/-- What the cache and the map area hold of the map is dropped: a mount rebuilds it from root and journal (10 R264; 11 R299). -/
def State.mapForget (s : State) : State :=
  let held := fun (k : Nat) (m : MapLine) =>
    isMapLine (m.tag * 2 ^ 14 + (k / 16 ^^^ (m.tag % 2 ^ 14) ^^^ (m.tag / 2 ^ 14)) % 2 ^ 14)
  ({ s with map := { s.map with
      lines := s.map.lines.filter (fun e => !held e.1 e.2), store := s.map.store.filter (fun e => !isMapLine e.1), loaded := [] } } :
    State).countDirty

end Sys2Proof.Machine
end

