-- ==== Sys2Proof/Machine/Units.lean ====
section
/-!
DEFINITION. The common state machine of units with an enable bit (02 R46, R47): 0 IDLE, 1 STARTING, 2 RUNNING, 3 STOPPING,
4 FAILED.
-/
namespace Sys2Proof.Machine

/-- Enable, state and held fields of a unit. -/
structure UnitFlds where
  en : Fld
  st : Fld
  held : Fld
  deriving DecidableEq, Repr

/-- A write of `b` to a unit's enable bit (02 R46, R47): the last value written decides while a request is held. -/
def State.enableWrite (s : State) (f : UnitFlds) (b : Bool) (i : Nat := 0) : State :=
  let s1 := s.setFlag f.en b i
  match s.get f.st i with
  | 0 => if b then s1.put f.st 1 i else s1
  | 1 => s1.setFlag f.held (!b) i
  | 2 => if b then s1 else s1.put f.st 3 i
  | 3 => s1.setFlag f.held b i
  | _ => s1

/-- Start-up completes (02 R46): RUNNING, or STOPPING when a disable is held. -/
def State.unitStarted (s : State) (f : UnitFlds) (i : Nat := 0) : State :=
  if s.get f.st i != 1 then s
  else if s.flag f.held i then (s.setFlag f.held false i).put f.st 3 i
  else s.put f.st 2 i

/-- The drain completes (02 R46): IDLE, or STARTING when an enable is held. -/
def State.unitDrained (s : State) (f : UnitFlds) (i : Nat := 0) : State :=
  if s.get f.st i != 3 then s
  else if s.flag f.held i then (s.setFlag f.held false i).put f.st 1 i
  else s.put f.st 0 i

/-- The colophon's fields (17 R432). -/
def colUnit : UnitFlds := ⟨Reg.COL_CTL_EN, Reg.COL_STATUS_STATE, Reg.COL_STATUS_HELD⟩

end Sys2Proof.Machine
end

