-- ==== Sys2Proof/Machine/Ride.lean ====
section
/-!
DEFINITION. The hold-up budget (02 R54, R59-R61; 10 R266) and the spindle's kinetic energy (15 R388).
-/
namespace Sys2Proof.Machine

/-- Bank energy at a HOLDUP_SENSE code, in units of 5 uJ / 2^28 (02, "Ride-through and chrysalis"). -/
def State.bankEnergy (s : State) (code : Nat) : Nat :=
  let v := code * 12 * s.get Reg.PWR_SENSE_CFG_VDIV
  let m := s.get Reg.PWR_BUS_THRESH_HOLDUP_MIN * 16384
  s.get Reg.PWR_HOLDUP_CFG_CAP_MF * (v * v - m * m)

/-- RESERVE in the same units. -/
def State.reserveEnergy (s : State) : Nat := s.get Reg.PWR_HOLDUP_CFG_RESERVE * 20000 * 2 ^ 28

/-- BUF_MAX_MIB (02 R59): the budget's bound, at most the write buffer. -/
def State.bufMax (s : State) : Nat :=
  let r := s.get Reg.PWR_HOLDUP_CFG_RESERVE
  let l := s.get Reg.PWR_HOLDUP_LOAD_SAVE_LOAD
  let size := 1024 * s.get Reg.GAL_REGION_WB_GIB
  if l = 0 then size else min size ((8 * r - 2 * l) * 480000000 / (l * 1048576))

/-- HOLDUP_SENSE of the fully charged bank (02 R60): the latest sample in NORMAL, that of leaving NORMAL after it (log 20). -/
def State.fullCode (s : State) : Nat := if s.get Reg.PWR_HOLDUP_STATUS_STATE = 0 then s.pwr.holdup else s.pwr.holdupFull

/-- RIDE_EST in ms (02, `PWR.HOLDUP_STATUS`): (E_bank - RESERVE + REGEN_EFF x the spindle's energy) / RIDE_LOAD. -/
def State.rideEst (s : State) : Nat :=
  let regen := s.get Reg.MOT_SPN_KE_KE * 20 * s.get Reg.PWR_HOLDUP_LOAD_REGEN_EFF * 2 ^ 28
  let load := s.get Reg.PWR_HOLDUP_LOAD_RIDE_LOAD
  let e := s.bankEnergy s.pwr.holdup + regen - s.reserveEnergy
  if load = 0 then 4095 else min 4095 (e / (200 * 2 ^ 28 * load))

/-- BUF_EFF_MIB (10 R266, R61): SAVE_RATE is 0.09375 GB/s for each of D dies, so that the bound is BUF_MAX_MIB x D / 512. -/
def State.bufEff (s : State) : Nat :=
  if s.flag Reg.PWR_HOLDUP_CFG_ENFORCE then
    s.bufMax * min 512 s.mag.dies.length / 512
  else 1024 * s.get Reg.GAL_REGION_WB_GIB

/-- Recompute what follows from the samples and the hold-up registers (02 R59, R60). -/
def State.budget (s : State) : State :=
  let m := s.bufMax
  let s1 := (s.put Reg.PWR_HOLDUP_STATUS_BUF_MAX_MIB m).put Reg.PWR_HOLDUP_STATUS_RIDE_EST s.rideEst
  let s2 := s1.setFlag Reg.PWR_HOLDUP_STATUS_INSUFFICIENT (m == 0 || decide (s.bankEnergy s.fullCode < s.reserveEnergy))
  s2.put Reg.MAG_SAVE_BUF_EFF_MIB s2.bufEff

/-- FLASH_G (14 R371), and the dies of `d` that may program or erase at once. -/
def State.flashG (s : State) : Nat := max (s.get Reg.SRV_GOV_STATUS_G) (s.get Reg.SRV_GOV_OUT_FLASH_FLOOR)
def State.flashDies (s : State) (d : Nat) : Nat := (s.flashG * d + 1023) / 1024

/-- Kinetic energy in 0.01 J at a speed in 0.1 rpm, to the nearest (15 R388). -/
def State.kinetic (s : State) (speed : Nat) : Nat :=
  min 65535 ((s.get Reg.MOT_SPN_INERTIA_J * speed * speed * 98696044 + 900000000000000000) / 1800000000000000000)

end Sys2Proof.Machine
end

