-- ==== Sys2Proof/Machine/Sec.lean ====
section
/-!
DEFINITION. Key slots, cipher engines, the TRNG, certificates and attestation (16).
-/
namespace Sys2Proof.Machine

/-- USE bits (16 R402). -/
def useEncrypt : Nat := 1
def useDecrypt : Nat := 2
def useMac : Nat := 4
def useWrap : Nat := 8
def useTake : Nat := 16
def useArchive : Nat := 32

/-- The key of slot `k`, empty for an empty slot. -/
def State.keySlot (s : State) (k : Nat) : Option KeySlot := s.sec.slots.lookup k

/-- Slot `k` is a host slot that holds a key whose USE permits `bit` (16 R401, R402). -/
def State.mayUse (s : State) (k bit : Nat) : Bool :=
  decide (k < 248) && (match s.keySlot k with | some v => v.use &&& bit != 0 | none => false)

/-- Bind the key of slot `k` for a command (16 R403). -/
def State.bindKey (s : State) (tag k : Nat) : State :=
  match s.keySlot k with
  | some v =>
    ({ s with sec := { s.sec with bound := s.sec.bound ++ [BoundKey.mk tag k v.serial v.key] } } : State).countBound k
  | none => s

/-- The bound key of a command (16 R403). -/
def State.boundKey (s : State) (tag : Nat) : Option (List Byte) :=
  (s.sec.bound.find? (fun b => b.cmd == tag)).map BoundKey.key

/-- Empty a host slot: its register fields with it (16 R403). -/
def State.emptySlot (s : State) (k : Nat) : State :=
  let s1 := { s with sec := { s.sec with slots := eraseKey s.sec.slots k } }
  (((s1.setFlag Reg.SEC_SLOT_LOADED false k).setFlag Reg.SEC_SLOT_SPENT false k).put Reg.SEC_SLOT_BITS 0 k).put
    Reg.SEC_SLOT_USE 0 k

/-- Put a key into a host slot (16 R403, R405). -/
def State.fillSlot (s : State) (k bits use : Nat) (key : List Byte) : State :=
  let v : KeySlot := { bits, use, key, serial := s.sec.keySerial }
  let s1 := { s with sec := { s.sec with slots := insertKey s.sec.slots k v, keySerial := s.sec.keySerial + 1 } }
  (((s1.setFlag Reg.SEC_SLOT_LOADED true k).setFlag Reg.SEC_SLOT_SPENT false k).put Reg.SEC_SLOT_BITS (bits / 64 - 2) k).put
    Reg.SEC_SLOT_USE use k

/-- The rules on USE (16 R402, R408); the reserved bit 7 must be 0 (log 34). -/
def useOk (use : Nat) (compatOk : Bool) : Bool :=
  let u := use % 64
  u != 0 && decide (use < 128) && (u &&& useWrap == 0 || u == useWrap) && (u &&& useMac == 0 || u == useMac) &&
    (u &&& (useTake + useArchive) == 0 || u &&& (useEncrypt + useMac) == 0) && (use / 64 == 0 || compatOk)

/-- The wrapping keys K_enc and K_mac (16 R407). -/
def wrapKey (key : List Byte) (first : Nat) : List Byte :=
  let e := fun (b : Nat) => aesEncrypt (keyOf key) (b :: List.replicate 15 0)
  (e first ++ e (first + 1)).map (BitVec.ofNat 8)

/-- The header of a key blob agrees with the entry, and its reserved bytes are 0 (16 R406, R408). -/
def blobOk (blob : List Byte) (bits target : Nat) : Bool :=
  fieldAt blob 0 4 == 0x4B4B595A && fieldAt blob 4 2 == bits && fieldAt blob 6 2 == target &&
    ((blob.drop 9).take 7).all (· == 0)

/-- A failed unwrap: counted, UNWRAP_EV, KEY_INVALID (16 R407). -/
def State.unwrapFail (s : State) (tag : Nat) : State :=
  ((s.inc Reg.SEC_UNWRAP_FAIL).event Reg.SEC_STATUS_UNWRAP_EV).finish tag 0x10 0

/-- A key loaded: KEY_LOADS counts, the command succeeds. -/
def State.keyLoaded (s : State) (tag k bits use : Nat) (key : List Byte) : State :=
  ((s.fillSlot k bits use (key.take (bits / 8))).inc Reg.SEC_KEY_LOADS).finish tag 0 0

/-- A KEY_LOAD blob that has arrived (16 R402, R406-R408; the order of the checks is log 34). -/
def State.keyBlob (s : State) (c : Cmd) (blob : List Byte) : State :=
  let bits := c.fld 0x18 2
  let wrap := c.fld 0x1A 2
  let use := fieldAt blob 8 1
  if !blobOk blob bits c.keySlot || !useOk use (s.flag Reg.SEC_POLICY_COMPAT_OK) then s.finish c.tag 0x02 0
  else if wrap = 0xFFFF then
    let field := (blob.drop 16).take 32
    if !s.flag Reg.SEC_POLICY_PLAIN_OK then s.finish c.tag 0x10 0
    else if (field.drop (bits / 8)).any (· != 0) then s.finish c.tag 0x02 0
    else s.keyLoaded c.tag c.keySlot bits use field
  else
    match s.keySlot wrap with
    | none => s.finish c.tag 0x10 0
    | some w =>
      let mac := cbcMac (wrapKey w.key 3) (blob.take 64)
      let field := cipher 0 true (wrapKey w.key 1) ((blob.drop 16).take 16) ((blob.drop 32).take 32)
      if w.use &&& useWrap = 0 || mac != (blob.drop 64).take 16 || (field.drop (bits / 8)).any (· != 0) then
        s.unwrapFail c.tag
      else s.keyLoaded c.tag c.keySlot bits use field

/-- KEY_LOAD (16 R401, R406-R408; 09 R247). -/
def execKeyLoad (c : Nat) (h : HostRead) (s : State) : Result :=
  s.onCmd c 0x30 fun s k =>
    let bits := k.fld 0x18 2
    let wrap := k.fld 0x1A 2
    if 248 ≤ k.keySlot || wrap = k.keySlot || (248 ≤ wrap && wrap != 0xFFFF) || !(bits == 128 || bits == 192 || bits == 256) ||
        k.dataLen != (if wrap = 0xFFFF then 48 else 80) then s.finish c 0x02 0
    else
      match h with
      | .failed arrived why => s.hostReadFailed k why 0 arrived.length
      | .data blob => s.keyBlob k blob

/-- KEY_CLEAR (16 R401, R403): the slot is emptied at once; the command completes when no bound copy remains. -/
def execKeyClear (c : Nat) (s : State) : Result :=
  s.onCmd c 0x31 fun s k =>
    if s.sec.clears.any (fun e => e.1 == c) then s
    else if 248 ≤ k.keySlot then s.finish c 0x02 0
    else
      match s.keySlot k.keySlot with
      | none => s.finish c 0 0
      | some v =>
        let s1 := s.emptySlot k.keySlot
        if s1.sec.bound.any (fun b => b.serial == v.serial) then
          { s1 with sec := { s1.sec with clears := s1.sec.clears ++ [(c, v.serial)] } }
        else s1.finish c 0 0

/-- Pieces of 64 KiB for a stream of `n` bytes (16 R419). -/
def pieces (cls : EngClass) (slot : Nat) (cmd : Option Nat) (feedback : Bool) : Nat → Nat → List Piece
  | 0, _ => []
  | fuel + 1, n =>
    if n = 0 then []
    else { cls, slot, cmd, blocks := min n 65536 / 16, feedback } :: pieces cls slot cmd feedback fuel (n - 65536)

/-- Queue AES work of `n` bytes (16 R419). -/
def State.queueAes (s : State) (cls : EngClass) (slot : Nat) (cmd : Option Nat) (feedback : Bool) (n : Nat) : State :=
  { s with sec := { s.sec with waiting := s.sec.waiting ++ pieces cls slot cmd feedback (n / 65536 + 1) n } }

/-- A piece of the command waits or is in an engine. -/
def State.aesBusy (s : State) (tag : Nat) : Bool :=
  s.sec.waiting.any (fun p => p.cmd == some tag) || s.sec.engines.any (fun e => e.2.cmd == some tag)

/-- DEST_ADDR range and source range overlap other than in place (16 R412). -/
def badOverlap (src dst n : Nat) : Bool := src != dst && decide (src < dst + n) && decide (dst < src + n)

/-- The destination overlaps a descriptor of the source (16 R412). -/
def destOverlaps (places : List (Nat × Nat)) (dst n : Nat) : Bool := places.any (fun p => decide (p.1 < dst + n) && decide (dst < p.1 + p.2))

/-- A host AES command (16 R403, R410, R419; 09 R247): the first invocation, once the source has arrived, binds the key and queues
its pieces; the invocation after the last piece computes, writes and completes. -/
def State.hostAes (s : State) (k : Cmd) (h : HostRead) (bit : Nat) (feedback : Bool) (done : State → List Byte → List Byte → State) :
    State :=
  if k.dataLen % 16 != 0 then s.finish k.tag 0x0F 0
  else if k.dataLen = 0 then s.finish k.tag 0x02 0
  else
    match h with
    | .failed arrived why => s.hostReadFailed k why 0 arrived.length
    | .data bytes =>
      match s.boundKey k.tag with
      | none =>
        if !s.mayUse k.keySlot bit then s.finish k.tag 0x10 0
        else (s.bindKey k.tag k.keySlot).queueAes .host k.keySlot (some k.tag) feedback k.dataLen
      | some key => if s.aesBusy k.tag then s else done s key bytes

/-- CIPHER (16 R402, R409-R412); with LIST = 1 a destination that overlaps a descriptor ends up undefined: free values (log 4). -/
def execCipher (c : Nat) (h : HostRead) (s : State) : Result :=
  s.onCmd c 0x32 fun s k =>
    let mode := k.fld 0x18 1
    let decrypt := k.fld 0x19 1 == 1
    let dst := k.fld 0x30 8
    if !k.list && badOverlap k.dataAddr dst k.dataLen && k.dataLen % 16 == 0 then s.finish c 0x02 0
    else
      s.hostAes k h (if decrypt then useDecrypt else useEncrypt) (mode == 2 || (decide (mode < 2) && !decrypt))
        fun s key bytes =>
          let (out, s) := if k.list && destOverlaps k.places dst k.dataLen then s.freeBytes k.dataLen
            else (cipher mode decrypt key ((k.entry.drop 0x20).take 16) bytes, s)
          (s.hostPiece dst out false).finish c 0 k.dataLen

/-- MAC (16 R402, R409, R410): the 16-byte CBC-MAC at DEST_ADDR. -/
def execMac (c : Nat) (h : HostRead) (s : State) : Result :=
  s.onCmd c 0x33 fun s k =>
    s.hostAes k h useMac true fun s key bytes => (s.hostPiece (k.fld 0x30 8) (cbcMac key bytes) false).finish c 0 0

/-- Bits of the loaded slots (16 R427, SLOTS). -/
def State.slotBits (s : State) : Nat :=
  (List.range 256).foldl (fun n k => if s.flag Reg.SEC_SLOT_LOADED k then n + 2 ^ k else n) 0

/-- Flags of an attestation report (16 R427). -/
def State.attestFlags (s : State) : Nat :=
  (if s.locked then 1 else 0) + (if s.flag Reg.SEC_POLICY_PLAIN_OK then 2 else 0) +
    (if s.flag Reg.SEC_POLICY_COMPAT_OK then 4 else 0) + (if s.flag Reg.EFC_STANDING_CONFLICT then 8 else 0) +
    (if s.get Reg.SEC_STATUS_ENGINES = 16 then 16 else 0)

/-- Bytes 0x000-0x13F of the attestation report (16 R427); `sc`, `mc` are the measures of the firmware images, `st` that of the
standing image in use. -/
def State.attestBody (s : State) (nonce sc mc st : List Byte) : List Byte :=
  leBytes 4 0x5441595A ++ leBytes 2 1 ++ leBytes 2 416 ++ nonce ++ leBytes 8 s.now ++ leBytes 2 0xA1 ++
    leBytes 2 s.attestFlags ++ zeros 4 ++ (List.range 16).map Config.serial ++ zeros 4 ++ leBytes 1 16 ++ zeros 3 ++
    sc ++ mc ++ st ++ sha384 (capBytes s.part) ++ leBytes 32 s.slotBits ++ zeros 16

/-- ATTEST (16 R427): firmware images, factory defaults and the signature's secret are not in the spec, so their measures and the
signature are free values (log 4). -/
def execAttest (c : Nat) (s : State) : Result :=
  s.onCmd c 0x34 fun s k =>
    if k.dataLen < 416 then s.finish c 0x02 0
    else
      let (sc, s1) := s.freeBytes 48
      let (mc, s2) := s1.freeBytes 48
      let (df, s3) := s2.freeBytes 48
      let (sig, s4) := s3.freeBytes 96
      let body := s4.attestBody ((k.entry.drop 0x18).take 32) sc mc (if s4.efc.image.isEmpty then df else sha384 s4.efc.image)
      (s4.deliver k (body ++ sig) []).finish c 0 416

/-- CERT_READ (16 R424; 09, administration opcodes): the chain of the identity, whose bytes are not in the spec (log 4). -/
def execCertRead (c : Nat) (s : State) : Result :=
  s.onCmd c 0x49 fun s k =>
    let chain := (Config.cert (k.fld 0x18 1)).take 2048
    if k.dataLen < chain.length then s.finish c 0x02 chain.length
    else (s.deliver k chain []).finish c 0 chain.length

/-- Code of a work class in `SEC.ENG[e].STATUS.CLASS`. -/
def EngClass.code : EngClass → Nat
  | .mag => 1
  | .take => 2
  | .archive => 3
  | .host => 4
  | .fw => 5

/-- Engines that serve a class now. -/
def State.serving (s : State) (cls : EngClass) : Nat := s.sec.engines.countP (fun e => e.2.cls == cls)

/-- The classes in the order in which a free engine serves them (16 R419). -/
def State.classOrder (s : State) : List EngClass :=
  if s.get Reg.PWR_HOLDUP_STATUS_STATE = 2 then [.mag]
  else (if s.serving .host < s.get Reg.SEC_ARB_HOST_MIN then [.host] else []) ++ [.mag, .take, .archive, .fw, .host]

/-- The piece that free engine `e` takes: the oldest of the first class that has one it may serve; a feedback-mode stream stays on
one engine (16 R419). -/
def State.nextPiece (s : State) (e : Nat) : Option Piece :=
  s.classOrder.findSome? (fun cls => s.sec.waiting.find? (fun p => p.cls == cls && (p.pin == none || p.pin == some e)))

/-- The pieces of a feedback stream that wait follow it to its engine. -/
def pinTo (e : Nat) (p q : Piece) : Piece := if p.feedback && q.cmd == p.cmd && q.feedback then { q with pin := some e } else q

/-- ENGINE_PIECE_DISPATCH (16 R419, R421, R422): a good free engine takes the next piece while SC runs and SEC is RUNNING. -/
def execEnginePieceDispatch (e : Fin 16) (s : State) : Result :=
  if !s.flag Reg.SEC_ENG_STATUS_OK e.val || s.flag Reg.SEC_ENG_STATUS_BUSY e.val || s.get Reg.SEC_STATUS_STATE != 2 ||
      !s.coreRuns 4 then .next s
  else
    match s.nextPiece e.val with
    | none => .next s
    | some p =>
      let s1 := { s with sec := { s.sec with waiting := (s.sec.waiting.erase p).map (pinTo e.val p),
                                             engines := insertKey s.sec.engines e.val p } }
      .next (((s1.setFlag Reg.SEC_ENG_STATUS_BUSY true e.val).put Reg.SEC_ENG_STATUS_CLASS p.cls.code e.val).put
        Reg.SEC_ENG_STATUS_SLOT p.slot e.val)

/-- ENGINE_PIECE_COMPLETE (16 R419): the engine becomes free, its blocks are counted. -/
def execEnginePieceComplete (e : Fin 16) (s : State) : Result :=
  match s.sec.engines.lookup e.val with
  | none => .next s
  | some p =>
    let s1 := { s with sec := { s.sec with engines := eraseKey s.sec.engines e.val } }
    .next (((s1.add64 Reg.SEC_BLOCKS p.blocks).setFlag Reg.SEC_ENG_STATUS_BUSY false e.val).put Reg.SEC_ENG_STATUS_CLASS 0 e.val)

/-- TRNG_WINDOW_FAIL (16 R421): discarded, counted, TRNG_EV; the third in a row marks SEC failed.  `consecutive` says that no
window passed since the last failure. -/
def execTrngWindowFail (consecutive : Bool) (s : State) : Result :=
  let n := if consecutive then s.sec.trngFails + 1 else 1
  let s1 := { s with sec := { s.sec with trngFails := n } }
  let s2 := (s1.inc Reg.SEC_TRNG_FAIL).event Reg.SEC_STATUS_TRNG_EV
  if 3 ≤ n then .next ((s2.put Reg.SEC_TRNG_TSTATE 3).failUnit 13) else .next (s2.put Reg.SEC_TRNG_TSTATE 2)

/-- SEC_CNT_CLR (16, "Registers"). -/
def execSecCntClr (s : State) : Result :=
  .next ((((s.put64 Reg.SEC_BLOCKS 0).put Reg.SEC_KEY_LOADS 0).put Reg.SEC_UNWRAP_FAIL 0).put Reg.SEC_TRNG_FAIL 0)

end Sys2Proof.Machine
end

