-- ==== Sys2Proof/Machine/Mag.lean ====
section
/-!
DEFINITION. The recording magazine (10): places on the NAND, mapping and journal, the write buffer, poison, reads, and block
I/O (09, "Block I/O"; R242-R246).
-/
namespace Sys2Proof.Machine

/-- `MAG.STATUS.MAG_STATE`: 0 ABSENT, 1 MOUNTING, 2 READY, 3 READ_ONLY, 4 FOREIGN, 5 BLANK, 6 FAILED, 7 UNMOUNTED (10 R258). -/
def State.magState (s : State) : Nat := s.get Reg.MAG_STATUS_MAG_STATE

/-- The magazine is READY or READ_ONLY. -/
def State.mounted (s : State) : Bool := s.magState == 2 || s.magState == 3

/-- Enable, state and held fields of MAG (10 R286). -/
def magUnit : UnitFlds := ⟨Reg.MAG_CTL_EN, Reg.MAG_STATUS_STATE, Reg.MAG_STATUS_HELD⟩

/-- Blocks per die, pages per block and planes of the dies used (10 R259, R262). -/
def State.dieBlocks (s : State) : Nat := match s.mag.dies with | d :: _ => d.blocks | [] => 0
def State.blockPages (s : State) : Nat := match s.mag.dies with | d :: _ => d.pages | [] => 0
def State.diePlanes (s : State) : Nat := match s.mag.dies with | d :: _ => d.planes | [] => 0

/-- Mapping units of a block; at least 1, so that a PUN has a block. -/
def State.blockUnits (s : State) : Nat := max 1 (s.blockPages * s.diePlanes)

/-- Block of a PUN: die x B + block (10 R262). -/
def State.blockOf (s : State) (pun : Nat) : Nat := pun / s.blockUnits

/-- Die of a PUN (10 R262). -/
def State.dieOf (s : State) (pun : Nat) : Nat := s.blockOf pun / max 1 s.dieBlocks

/-- Every block of the dies used (10 R259, R262). -/
def State.allBlocks (s : State) : List Nat :=
  (s.mag.dies.map (fun d => (List.range d.blocks).map (fun b => d.num * d.blocks + b))).flatten

/-- The module in the connector, empty when there is none. -/
def State.nand (s : State) : Module := s.mag.module.getD { dies := [], roots := [], journal := [], units := [], blocks := [] }

/-- Set the module. -/
def State.setNand (s : State) (m : Module) : State := { s with mag := { s.mag with module := some m } }

/-- Erase count and grown-bad mark of a block. -/
def State.block (s : State) (b : Nat) : NandBlock := lookupD {} s.nand.blocks b

/-- The block's units have PUNs that fit (10 R262). -/
def State.blockFits (s : State) (b : Nat) : Bool := decide ((b + 1) * s.blockUnits ≤ 0xFFFFFFF0)

/-- The block is neither factory bad nor grown bad, and fits (10 R262, R279). -/
def State.blockGood (s : State) (b : Nat) : Bool :=
  s.blockFits b && !(s.block b).grownBad && !(match s.mag.root with | some r => r.bad.contains b | none => false)

/-- Raw capacity of the dies used, in units (10 R261). -/
def State.rawUnits (s : State) : Nat := s.allBlocks.length * s.blockUnits

/-- Good TLC capacity in bytes (10 R269). -/
def State.goodTlc (s : State) : Nat := (s.allBlocks.filter s.blockGood).length * s.blockUnits * 16384

/-- The magazine identifier (10 R260): of every die of the module, so that a die that discovery excludes does not change it (log 138). -/
def State.magId (s : State) : List Byte :=
  (sha384 (((s.nand.dies.mergeSort (fun a b => decide (a.num ≤ b.num))).map Die.uid).flatten)).take 32

/-- Content bytes of the device identity's serial number (16 R425). -/
def deviceSerial : List Byte := (List.range 16).map Config.serial

/-- The next place of a block, if it has one left: its pages are programmed in order. -/
def State.nextPlace (s : State) (b : Nat) : Option Nat :=
  let first := b * s.blockUnits
  let n := s.nand.units.foldl (fun m e => if s.blockOf e.1 = b then max m (e.1 + 1) else m) first
  if n < first + s.blockUnits then some n else none

/-- Whether a block is programmed in SLC mode, once it has been begun (10 R268). -/
def State.blockMode (s : State) (b : Nat) : Option Bool := (s.nand.units.find? (fun e => s.blockOf e.1 == b)).map (fun e => e.2.slc)

/-- Places where the next unit of a mode may go (10 R268, R280; log 60): the next one of a begun block of that mode, and the first one of
the erased blocks with the lowest erase count.  `avoid` is a block that is being emptied. -/
def State.openPlaces (s : State) (slc : Bool) (avoid : Option Nat) : List Nat × List (Nat × Nat) :=
  let good := s.allBlocks.filter (fun b => s.blockGood b && avoid != some b)
  let begun := good.filter (fun b => s.blockMode b == some slc)
  let erased := good.filter (fun b => (s.blockMode b).isNone)
  (begun.filterMap s.nextPlace, erased.filterMap (fun b => (s.nextPlace b).map (fun p => ((s.block b).erase, p))))

/-- The place that the flash translation layer allocates (10 R280): the one that was chosen for the unit where it may be, else the lowest
one of a begun block, else one in the erased block of the lowest erase count; equal counts by number (log 60). -/
def State.placeFor (s : State) (puns : Puns) (u : Nat) (slc : Bool) (avoid : Option Nat) : Option Nat :=
  let (begun, erased) := s.openPlaces slc avoid
  let low := erased.foldl (fun (m : Option Nat) e => match m with | some x => some (min x e.1) | none => some e.1) none
  let fresh := (erased.filter (fun e => some e.1 == low)).map Prod.snd
  match puns.lookup u with
  | some p => if begun.contains p || fresh.contains p then some p else (begun ++ fresh).head?
  | none => (begun ++ fresh).head?

/-- The magazine's at-rest key (10 R281, R282). -/
def State.restKey (s : State) : List Byte := match s.mag.root with | some r => r.binding.key | none => []

/-- Encrypt or decrypt a unit's data under the at-rest key (10 R281). -/
def State.restCrypt (s : State) (pun : Nat) (data : List Byte) : List Byte :=
  ctrCrypt s.restKey (pun * 2 ^ 96 + (s.block (s.blockOf pun)).erase * 2 ^ 64) data

/-- Units held in SLC: mapped ones programmed in SLC mode (10 R268). -/
def State.slcUnits (s : State) : Nat :=
  s.mag.map.countP (fun e => match s.nand.units.lookup e.2 with | some u => u.slc | none => false)

/-- Recompute the SLC cache when the mapped units have changed by 1 GiB (10 R268), and show `MAG.SLC`. -/
def State.slcUpdate (s : State) : State :=
  let n := s.mag.map.length
  let f := (s.mag.exportUnits - n) * 16384
  let moved := decide (65536 ≤ n - s.mag.slcMapped) || decide (65536 ≤ s.mag.slcMapped - n)
  let s1 := if moved then
      { s with mag := { s.mag with slcMapped := n, slcBytes := min 2000000000000 (max (32 * 2 ^ 30) (f / 3)) } }
    else s
  (s1.put Reg.MAG_SLC_SIZE (s1.mag.slcBytes / 2 ^ 30)).put Reg.MAG_SLC_FILL (s1.slcUnits * 16384 / 2 ^ 30)

/-- The SLC cache at its present size, from nothing (10 R268). -/
def State.slcStart (s : State) : State :=
  let n := s.mag.map.length
  let f := (s.mag.exportUnits - n) * 16384
  ({ s with mag := { s.mag with slcMapped := n, slcBytes := min 2000000000000 (max (32 * 2 ^ 30) (f / 3)) } } : State).slcUpdate

/-- Program a unit at a place (10 R268, R281): encrypted at rest, in SLC mode if `slc`. -/
def State.programAt (s : State) (u pun : Nat) (data : List Byte) (poison keyed : Nat) (slc : Bool) : State :=
  let v : PhysUnit := { lun := u, seq := s.mag.unitSeq, poison, slc, data := s.restCrypt pun data, keyed }
  let s1 := s.setNand { s.nand with units := insertKey s.nand.units pun v }
  let s2 := { s1 with mag := { s1.mag with unitSeq := s1.mag.unitSeq + 1, nandUnits := s1.mag.nandUnits + 1 } }
  (s2.add64 Reg.MAG_NAND_WR 1).queueAes .mag 248 none false 16384

/-- The SLC cache has room for a unit more (10 R268). -/
def State.slcRoom (s : State) : Bool := decide ((s.slcUnits + 1) * 16384 ≤ s.mag.slcBytes)

/-- Program a unit of new data: in SLC mode while the cache has room (10 R268).  None where no good block has a place. -/
def State.programUnit (s : State) (puns : Puns) (u : Nat) (data : List Byte) (poison keyed : Nat) : Option (State × Nat) :=
  let at_ := fun (slc : Bool) => (s.placeFor puns u slc none).map (fun p => (s.programAt u p data poison keyed slc, p))
  if s.slcRoom then (match at_ true with | some r => some r | none => at_ false) else at_ false

/-- A change of the map. -/
def setMap (m : List (Nat × Nat)) (e : Nat × Option Nat) : List (Nat × Nat) :=
  match e.2 with
  | some p => insertKey m e.1 p
  | none => eraseKey m e.1

/-- Write one journal entry with its mappings to the NAND, and change the map (10 R264, R267). -/
def State.journalMap (s : State) (maps : List (Nat × Option Nat)) : State :=
  if maps.isEmpty then s
  else
    let page : JournalPage := { seq := s.mag.journalSeq, good := true, maps }
    let s1 := s.setNand { s.nand with journal := s.nand.journal ++ [page] }
    let s2 : State := { s1 with mag := { s1.mag with map := maps.foldl setMap s1.mag.map, journalSeq := s1.mag.journalSeq + 1 } }
    (maps.foldl (fun (t : State) e => t.mapEntry e.1 e.2) s2).slcUpdate

/-- Poison mask of a unit that the list or the unit's metadata shows. -/
def State.unitPoison (s : State) (u : Nat) : Nat :=
  match s.mag.map.lookup u with
  | some p => (match s.nand.units.lookup p with | some v => v.poison ||| v.ue | none => 15)
  | none => 0

/-- Sectors of a unit that hold take ciphertext (01 R23). -/
def State.unitKeyed (s : State) (u : Nat) : Nat :=
  match s.mag.buf.find? (fun b => b.unit == u) with
  | some b => b.keyed
  | none =>
    match s.mag.map.lookup u with
    | some p => (match s.nand.units.lookup p with | some v => v.keyed | none => 0)
    | none => 0

/-- Keep the poison record of a unit whose mask is now `mask` (10 R273), in the reserved area (log 139); an existing record keeps its cause
and time. -/
def State.poisonRec (s : State) (u mask cause : Nat) : State :=
  let n := s.nand
  let others := n.poison.filter (fun r => r.unit != u)
  if mask = 0 then (if others.length = n.poison.length then s else s.setNand { n with poison := others })
  else
    match n.poison.find? (fun r => r.unit == u) with
    | some r => s.setNand { n with poison := n.poison.map (fun x => if x.unit == u then { r with mask } else x) }
    | none =>
      if n.poison.length < 65536 then s.setNand { n with poison := n.poison ++ [{ unit := u, mask, cause, time := s.now }] }
      else s.setNand { n with overflow := true }

/-- A unit's mask becomes `mask`: POISON_EV where a sector is newly marked (10 R272). -/
def State.markPoison (s : State) (u old mask cause : Nat) : State :=
  let s1 := s.poisonRec u mask cause
  if mask - (mask &&& old) = 0 then s1 else s1.event Reg.MAG_STATUS_POISON_EV

/-- Good capacity has changed (10 R269): SPARE_LOW_EV the first time below 1 TiB of spare, READ_ONLY below 256 GiB. -/
def State.spareCheck (s : State) : State :=
  let need := s.mag.exportUnits * 16384
  let s1 := if decide (s.goodTlc < need + 2 ^ 40) && !s.mag.spareLow then
      ({ s with mag := { s.mag with spareLow := true } } : State).event Reg.MAG_STATUS_SPARE_LOW_EV
    else s
  if decide (s1.goodTlc < need + 256 * 2 ^ 30) && s1.magState == 2 then s1.put Reg.MAG_STATUS_MAG_STATE 3 else s1

/-- Dirty bytes in the write buffer (10 R266). -/
def State.dirty (s : State) : Nat := 16384 * s.mag.buf.countP (fun b => b.content.isSome)

/-- Writes complete only at NAND durability (09 R242, last row; 02 R60; 10 R265). -/
def State.writeThrough (s : State) : Bool :=
  !s.hq.writeCache || s.flag Reg.PWR_HOLDUP_STATUS_INSUFFICIENT || s.get Reg.GAL_REGION_WB_GIB == 0

/-- Bound on the dirty bytes (02 R59, R61; 10 R265, R266).  With no write buffer, or a bound below one unit, a unit is on its way to the
NAND only (10 R265; log 137). -/
def State.bufBound (s : State) : Option Nat :=
  if s.get Reg.GAL_REGION_WB_GIB = 0 then none
  else
    let b := min (s.get Reg.GAL_REGION_WB_GIB * 2 ^ 30) (s.bufEff * 2 ^ 20)
    if b < 16384 then none else some b

/-- The buffered unit `u`. -/
def State.buffered (s : State) (u : Nat) : Option BufUnit := s.mag.buf.find? (fun b => b.unit == u)

/-- `n` more units fit in the write buffer. -/
def State.bufRoom (s : State) (n : Nat) : Bool :=
  match s.bufBound with
  | none => true
  | some b => decide (s.dirty + 16384 * n ≤ b)

/-- Bits that the latest read found wrong in a sector's codeword. -/
def eccOf (ecc : NandEcc) (u sec : Nat) : Nat :=
  match ecc.find? (fun e => e.1 == u && e.2.1 == sec) with
  | some e => e.2.2
  | none => 0

/-- Sectors of a mask. -/
def sectors (mask : Nat) : List Nat := (List.range 4).filter (fun i => mask.testBit i)

/-- Mask of the sectors that bytes `off` to `off + len - 1` of a unit touch. -/
def sectorMask (off len : Nat) : Nat :=
  (List.range 4).foldl (fun m i => if decide (4096 * i < off + len) && decide (off < 4096 * i + 4096) then m + 2 ^ i else m) 0

/-- Queue a block for refresh (10 R271). -/
def State.queueRefresh (s : State) (b : Nat) : State :=
  if s.mag.refreshQ.contains b then s
  else ({ s with mag := { s.mag with refreshQ := s.mag.refreshQ ++ [b] } } : State).event Reg.MAG_STATUS_REFRESH_EV

/-- Replace one sector's bytes by free values: the spec gives what failed to decode no value (10 R270; log 4). -/
def State.freeSector (s : State) (data : List Byte) (i : Nat) : List Byte × State :=
  let (b, s1) := s.freeBytes 4096
  (patch data (4096 * i) b, s1)

/-- Read a unit from the NAND (10 R265, R270-R274): its bytes, its poisoned sectors, and the state after it.  `want` are the sectors
that are delivered. -/
def State.readNand (s : State) (u want : Nat) (ecc : NandEcc) : List Byte × Nat × State :=
  match s.mag.map.lookup u with
  | none => (zeros 16384, 0, s)
  | some p =>
    if !s.mag.dies.any (fun d => d.num == s.dieOf p) then
      let (b, s1) := s.freeBytes 16384
      (b, 15, s1.markPoison u (match s.nand.poison.find? (fun r => r.unit == u) with | some r => r.mask | none => 0) 15 4)
    else
      match s.nand.units.lookup p with
      | none =>
        let (b, s1) := s.freeBytes 16384
        (b, 15, s1)
      | some v =>
        let data := s.restCrypt p v.data
        let bad := (sectors want).filter (fun i => v.ue.testBit i || decide (120 < eccOf ecc u i))
        let newUe := bad.foldl (fun m i => m ||| 2 ^ i) 0
        let worn := (sectors want).any (fun i =>
          decide (s.get Reg.MAG_REFRESH_THRESH ≤ eccOf ecc u i) && decide (eccOf ecc u i ≤ 120))
        let s1 := if worn then s.queueRefresh (s.blockOf p) else s
        let s2 := s1.setNand { s1.nand with units := insertKey s1.nand.units p { v with ue := v.ue ||| newUe } }
        let s3 := if bad.isEmpty then s1
          else
            let t := (s2.add Reg.MAG_UE bad.length).event Reg.MAG_STATUS_UE_EV
            let t1 := { t with mag := { t.mag with ueSectors := t.mag.ueSectors + bad.length } }
            t1.markPoison u (v.poison ||| v.ue) (v.poison ||| v.ue ||| newUe) 3
        let (d, s4) := bad.foldl (fun (a : List Byte × State) i => a.2.freeSector a.1 i) (data, s3)
        (d, v.poison ||| v.ue ||| newUe, s4.queueAes .mag 248 none false 16384)

/-- Sectors of the 16 KiB at a galley address in which delivered-poisoned lines lie (10 R272). -/
def sectorsOf (a : Nat) (ls : List Nat) : Nat := ls.foldl (fun m l => m ||| 2 ^ ((64 * l - a) / 4096 % 4)) 0

/-- Sector `i` of a buffered unit is read: its bytes behind those before it, and the poisoned sectors so far (06 R174). -/
def State.bufSector (s : State) (a i : Nat) (acc : List Byte × Nat) : (List Byte × Nat) × State :=
  let got := s.galRead (a + 4096 * i) 4096 srcWbuf
  ((acc.1 ++ got.1, acc.2 ||| sectorsOf a got.2.1), got.2.2)

/-- The bytes and the poisoned sectors of a buffered unit (10 R265, R272): the sectors `want` are read, the others answer zeros. -/
def State.bufRead (s : State) (b : BufUnit) (want : Nat) : List Byte × Nat × State :=
  match b.content with
  | none => (zeros 16384, 0, s)
  | some (.staged d) => (d, b.poison, s)
  | some (.galley a) =>
    let r := (List.range 4).foldl (fun (r : (List Byte × Nat) × State) i =>
      if want.testBit i then r.2.bufSector a i r.1 else ((r.1.1 ++ zeros 4096, r.1.2), r.2)) (([], 0), s)
    (r.1.1, b.poison ||| r.1.2, r.2)

/-- Read a unit: from the write buffer where it is buffered (10 R265). -/
def State.readUnit (s : State) (u want : Nat) (ecc : NandEcc) : List Byte × Nat × State :=
  match s.buffered u with
  | some b => s.bufRead b want
  | none => s.readNand u want ecc

/-- Pieces of a byte range by mapping unit: unit, offset in it, length. -/
def unitPieces : Nat → Nat → Nat → List (Nat × Nat × Nat)
  | 0, _, _ => []
  | fuel + 1, pos, n =>
    if n = 0 then []
    else
      let k := min n (16384 - pos % 16384)
      (pos / 16384, pos % 16384, k) :: unitPieces fuel (pos + k) (n - k)

/-- Pieces of `n` bytes from byte `pos` of the logical space. -/
def piecesOf (pos n : Nat) : List (Nat × Nat × Nat) := unitPieces (n / 16384 + 2) pos n

/-- Read a byte range: its bytes, the byte ranges of them that are poisoned, and the state after it (10 R272). -/
def State.readRange (s : State) (pos n : Nat) (ecc : NandEcc) : List Byte × List (Nat × Nat) × State :=
  (piecesOf pos n).foldl (fun (a : List Byte × List (Nat × Nat) × State) p =>
    let (u, off, k) := p
    let (d, mask, t) := a.2.2.readUnit u (sectorMask off k) ecc
    let bad := (sectors (mask &&& sectorMask off k)).map (fun i =>
      (a.1.length + (max off (4096 * i) - off), a.1.length + (min (off + k) (4096 * i + 4096) - off)))
    (a.1 ++ (d.drop off).take k, a.2.1 ++ bad, t)) ([], [], s)

/-- 64-byte lines of byte ranges (08 R212). -/
def linesOf (r : List (Nat × Nat)) : List Nat :=
  (r.map (fun e => (List.range ((e.2 + 63) / 64 - e.1 / 64)).map (fun i => e.1 / 64 + i))).flatten

/-- No buffered unit is left that a FLUSH waits for (09 R243). -/
def State.flushDone (s : State) (tag : Nat) : Bool := !s.mag.buf.any (fun b => b.flushes.contains tag)

/-- A FLUSH that is fetched waits for every unit that a completed command wrote (09 R243). -/
def State.flushFetched (s : State) (tag : Nat) : State :=
  { s with mag := { s.mag with buf := s.mag.buf.map (fun b =>
      if b.writers.any (fun w => (s.cmd w).isNone) then { b with flushes := b.flushes ++ [tag] } else b) } }

/-- Complete the FLUSH commands that have begun and may complete (09 R243). -/
def State.checkFlushes (s : State) : State :=
  ((s.hq.cmds.filter (fun c => c.op == 0x03 && c.begun && s.flushDone c.tag)).map Cmd.tag).foldl (fun t c => t.finish c 0 0) s

/-- Places of the write-buffer region that hold units, and the lowest that is free (06 R160; log 137). -/
def State.bufPlaces (s : State) : List Nat :=
  s.mag.buf.filterMap (fun b => match b.content with | some (.galley a) => some a | _ => none)
def State.bufPlace (s : State) : Nat :=
  let used := s.bufPlaces
  let at_ := fun (i : Nat) => s.wbBase + 16384 * i
  at_ (((List.range (used.length + 1)).find? (fun i => !used.contains (at_ i))).getD 0)

/-- Put a unit's bytes where a buffered unit has them: its place in the region, a free one, or staging (10 R265; 06 R176). -/
def State.bufStore (s : State) (old : Option BufUnit) (d : List Byte) : BufData × State :=
  if s.get Reg.GAL_REGION_WB_GIB = 0 then (.staged d, s)
  else
    let a := match old.bind BufUnit.content with | some (.galley a) => a | _ => s.bufPlace
    (.galley a, s.galWrite a d false srcWbuf)

/-- Put a unit's new content into the buffer, in place of what it held (10 R265, R267): those who wait for it stay, groups join. -/
def State.bufPut (s : State) (u : Nat) (bytes : Option (List Byte)) (poison keyed : Nat) (group : Option Nat) (writer : Nat) :
    State :=
  let old := s.buffered u
  let (content, s1) := match bytes with
    | some d => let got := s.bufStore old d; (some got.1, got.2)
    | none => (none, s)
  match old with
  | some b =>
    let g := match group, b.group with
      | some x, _ => some x
      | none, y => y
    let join := fun (x : BufUnit) =>
      if x.unit == u then
        { x with content, poison, keyed, group := g, writers := if x.writers.contains writer then x.writers else x.writers ++ [writer] }
      else if b.group.isSome && x.group == b.group then { x with group := g } else x
    { s1 with mag := { s1.mag with buf := s1.mag.buf.map join } }
  | none =>
    let b : BufUnit := { unit := u, content, poison, keyed, group, writers := [writer] }
    { s1 with mag := { s1.mag with bufTag := s1.magId, buf := s1.mag.buf ++ [b] } }

/-- Write `new` (`none`: discard) over bytes `off` on of a unit, merging the rest (10 R265, R270, R272, R274). -/
def State.bufMerge (s : State) (u off k : Nat) (new : Option (List Byte)) (ecc : NandEcc) (group : Option Nat) (writer : Nat) :
    State :=
  match new, k == 16384 with
  | none, true => s.bufPut u none 0 0 group writer
  | some d, true => s.bufPut u (some d) 0 0 group writer
  | _, false =>
    let rest := 15 - sectorMask off k
    let (old, mask, s1) := s.readUnit u rest ecc
    s1.bufPut u (some (patch old off (new.getD (zeros k)))) (mask &&& rest) (s.unitKeyed u &&& rest) group writer

/-- The buffer drops units. -/
def State.bufDrop (s : State) (units : List Nat) : State :=
  { s with mag := { s.mag with buf := s.mag.buf.filter (fun b => !units.contains b.unit) } }

/-- Program buffered units and record all their mappings in one journal entry, then release them (10 R265, R267, R272).  Nothing happens
and `false` is answered where no good block has room. -/
def State.commitUnits (s : State) (us : List BufUnit) (puns : Puns) : State × Bool :=
  let prog := us.foldl (fun (a : Option (State × List (Nat × Option Nat))) b =>
    a.bind (fun (t, maps) =>
      match b.content with
      | none => some (t.markPoison b.unit (t.unitPoison b.unit) 0 2, maps ++ [(b.unit, none)])
      | some _ =>
        let (d, mask, t0) := t.bufRead b 15
        (t0.programUnit puns b.unit d mask b.keyed).map (fun (t1, p) =>
          let t2 := t1.markPoison b.unit (t1.unitPoison b.unit) mask 2
          let t3 := { t2 with mag := { t2.mag with hostUnits := t2.mag.hostUnits + 1 } }
          (t3.add64 Reg.MAG_HOST_WR 1, maps ++ [(b.unit, some p)])))) (some (s, []))
  match prog with
  | none => (s, false)
  | some (t, maps) => (((t.journalMap maps).bufDrop (us.map BufUnit.unit)).checkFlushes, true)

/-- The groups of some buffered units with all their members, in buffer order (10 R267). -/
def State.closure (s : State) (us : List Nat) : List BufUnit :=
  let gs := (s.mag.buf.filter (fun b => us.contains b.unit)).filterMap BufUnit.group
  s.mag.buf.filter (fun b => us.contains b.unit || (match b.group with | some g => gs.contains g | none => false))

/-- Commit the whole buffer (02 R41, R56; 10 R275, R277, R286): as much as finds room; what is left stays. -/
def State.commitAllUnits (s : State) : State :=
  (s.mag.buf.map BufUnit.unit).foldl (fun (t : State) u =>
    if (t.buffered u).isSome then (t.commitUnits (t.closure [u]) []).1 else t) s

/-- The buffer is discarded; its dirty bytes are lost where `lost` (10 R275). -/
def State.discardBuffer (s : State) (lost : Bool) : State :=
  let n := if lost then s.dirty else 0
  let s1 := { s with mag := { s.mag with buf := [], bufTag := [], lost := s.mag.lost + n } }
  let s2 := s1.put Reg.MAG_LOST_MIB (min (2 ^ 32 - 1) (s1.mag.lost / 2 ^ 20))
  (if n = 0 then s2 else s2.event Reg.MAG_STATUS_LOST_EV).checkFlushes

/-- A command uses the magazine (09 R252). -/
def usesMag (op : Nat) : Bool := (decide (1 ≤ op) && decide (op ≤ 5)) || op == 0x13 || op == 0x22 || op == 0x47 || op == 0x48

/-- A SANITIZE or FORMAT bars this command (09 R252, R253). -/
def State.sanitizing (s : State) (tag : Nat) : Bool :=
  s.hq.cmds.any (fun d => (d.op == 0x47 || d.op == 0x48) && decide (d.tag < tag)) ||
    (match s.mag.sanitize with | some j => j.cmd == none | none => false)

/-- Status with which a magazine command is refused, if it is (10 R269, R276, R283, R286; 09 R252): a started command goes on while
MAG stops. -/
def State.magRefuse (s : State) (k : Cmd) (writes : Bool) : Option Nat :=
  let st := s.get Reg.MAG_STATUS_STATE
  if s.sanitizing k.tag then some 0x14
  else if !(st == 2 || (st == 3 && k.begun)) || !s.mounted then some 0x11
  else if writes && s.magState == 3 then some 0x13
  else none

/-- LBA and BLOCKS of a block command (09, "Block I/O"). -/
def Cmd.lba (k : Cmd) : Nat := k.fld 0x20 8
def Cmd.blocks (k : Cmd) : Nat := k.fld 0x28 4

/-- Logical block addresses exported (10 R261). -/
def State.lbaCount (s : State) : Nat := s.mag.exportUnits * 16384 / max 1 s.mag.lbs

/-- A started command's fields for WRITE and DISCARD: 0x18 LBA, 0x20 BLOCKS (09, "Block I/O"). -/
def Cmd.ioLba (k : Cmd) : Nat := k.fld 0x18 8
def Cmd.ioBlocks (k : Cmd) : Nat := k.fld 0x20 4

/-- Blocks of a command done so far, less those whose unit is still on its way to the NAND where the command completes with its programs
(09 R242; 10 R276). -/
def State.blocksDone (s : State) (k : Cmd) : Nat :=
  let lbs := max 1 s.mag.lbs
  let lo := k.ioLba * lbs
  let hi := (k.ioLba + k.progress) * lbs
  if !k.fua && !s.writeThrough then k.progress
  else
    k.progress - s.mag.buf.foldl (fun n b =>
      if b.writers.contains k.tag then n + (min hi (16384 * (b.unit + 1)) - max lo (16384 * b.unit)) / lbs else n) 0

/-- Enter pieces of a command into the buffer while they fit; answers the bytes entered (02 R59). -/
def State.enter (s : State) (data : Option (List Byte)) (ecc : NandEcc) (writer : Nat) :
    Nat → List (Nat × Nat × Nat) → Nat × State
  | done, [] => (done, s)
  | done, (u, off, k) :: r =>
    let full := data.isNone && k == 16384
    let held := match s.buffered u with | some b => b.content.isSome | none => false
    if full || held || s.bufRoom 1 then
      (s.bufMerge u off k (data.map (fun d => (d.drop done).take k)) ecc none writer).enter data ecc writer (done + k) r
    else (done, s)

/-- A write or discard of block I/O waits for buffer space (02 R59). -/
def State.waitSpace (s : State) (tag : Nat) : State :=
  if s.mag.spaceWait.contains tag then s
  else { s with mag := { s.mag with spaceWait := s.mag.spaceWait ++ [tag] } }

/-- All data of a block command is in the buffer (09 R242): it completes there, or waits for the programs of what it wrote. -/
def State.entered (s : State) (k : Cmd) (through : Bool) : State :=
  let s1 := { s with mag := { s.mag with spaceWait := s.mag.spaceWait.filter (· != k.tag) } }
  if through then s1.setCmd { k with begun := true, pastAbort := true, progress := k.ioBlocks }
  else s1.finish k.tag 0 k.ioBlocks

/-- The first block address of a command that is not exported (09 R249, DETAIL). -/
def State.firstBeyond (s : State) (k : Cmd) : Nat := max k.ioLba s.lbaCount

/-- Block commands wait while the map cache is invalidated, or a line of theirs is rebuilt (11 R300-R302). -/
def State.mapWait (s : State) (k : Cmd) : Bool :=
  let lbs := max 1 s.mag.lbs
  s.flag Reg.MAP_STATUS_INVAL_BUSY || s.map.repair.any (fun l =>
    decide (l ≤ (k.ioLba + k.ioBlocks) * lbs / 2 ^ 20) && decide (k.ioLba * lbs / 2 ^ 20 ≤ l))

/-- WRITE and DISCARD (09 R242, R247; 10 R265, R274): `h` is what has arrived of the data. -/
def State.blockWrite (s : State) (k : Cmd) (discard : Bool) (h : HostRead) (ecc : NandEcc) : State :=
  match s.magRefuse k true with
  | some st => s.finish k.tag st (s.blocksDone k)
  | none =>
    let lbs := max 1 s.mag.lbs
    let n := k.ioBlocks * lbs
    if n = 0 || (!discard && k.dataLen != n) then s.finish k.tag 0x02 0
    else if s.lbaCount < k.ioLba + k.ioBlocks then s.finish k.tag 0x0E 0 false (s.firstBeyond k)
    else if k.pastAbort || s.mapWait k || !s.bufRuns then s
    else
      let data := match h with | .data b => b | .failed b _ => b
      let cut := !discard && (match h with | .failed _ _ => true | .data _ => false)
      let why := match h with | .failed _ w => w | .data _ => .timeout
      let have_ := if cut then min n (data.length / lbs * lbs) else n
      let done := k.progress * lbs
      let rest := piecesOf (k.ioLba * lbs + done) (have_ - done)
      let (got, s1) := s.enter (if discard then none else some (data.drop done)) ecc k.tag 0 rest
      if done + got < have_ then (s1.setCmd { k with begun := true, progress := (done + got) / lbs }).waitSpace k.tag
      else if cut then
        ({ s1 with mag := { s1.mag with spaceWait := s1.mag.spaceWait.filter (· != k.tag) } } : State).hostReadFailed k why
          (have_ / lbs) data.length
      else s1.entered k (k.fua || s.writeThrough)

/-- ATOMIC_WRITE (09 R246, R247; 10 R267): one group, all or nothing. -/
def State.atomicWrite (s : State) (k : Cmd) (h : HostRead) (ecc : NandEcc) : State :=
  match s.magRefuse k true with
  | some st => s.finish k.tag st (s.blocksDone k)
  | none =>
    let lbs := max 1 s.mag.lbs
    let n := k.ioBlocks * lbs
    let pos := k.ioLba * lbs
    if n = 0 || k.dataLen != n || 2 ^ 20 < n || pos / 2 ^ 20 != (pos + n - 1) / 2 ^ 20 then s.finish k.tag 0x02 0
    else if s.lbaCount < k.ioLba + k.ioBlocks then s.finish k.tag 0x0E 0 false (s.firstBeyond k)
    else if k.pastAbort || s.mapWait k || !s.bufRuns then s
    else
      match h with
      | .failed b why => s.hostReadFailed k why 0 b.length
      | .data d =>
        let ps := piecesOf pos n
        let new := ps.filter (fun p => !(match s.buffered p.1 with | some b => b.content.isSome | none => false))
        if !s.bufRoom new.length then s.waitSpace k.tag
        else
          let t := ps.foldl (fun (a : Nat × State) p =>
            (a.1 + p.2.2, a.2.bufMerge p.1 p.2.1 p.2.2 (some ((d.drop a.1).take p.2.2)) ecc (some k.tag) k.tag)) (0, s)
          t.2.entered k (k.fua || s.writeThrough)

/-- WRITE (09 R242). -/
def execWrite (c : Nat) (h : HostRead) (s : State) (ecc : NandEcc := []) : Result := s.onCmd c 0x01 fun s k => s.blockWrite k false h ecc

/-- DISCARD (10 R274). -/
def execDiscard (c : Nat) (s : State) (ecc : NandEcc := []) : Result := s.onCmd c 0x04 fun s k => s.blockWrite k true (.data []) ecc

/-- ATOMIC_WRITE (09 R246). -/
def execAtomicWrite (c : Nat) (h : HostRead) (s : State) (ecc : NandEcc := []) : Result := s.onCmd c 0x05 fun s k => s.atomicWrite k h ecc

/-- WRITE_BUFFER_SPACE_FREED (02 R59): a block write that waits for buffer space proceeds. -/
def execWriteBufferSpaceFreed (c : Nat) (h : HostRead) (s : State) (ecc : NandEcc := []) : Result :=
  if !s.mag.spaceWait.contains c then .next s
  else
    match s.cmd c with
    | none => .next { s with mag := { s.mag with spaceWait := s.mag.spaceWait.filter (· != c) } }
    | some k => s.onCmd c k.op fun s k => if k.op = 0x05 then s.atomicWrite k h ecc else s.blockWrite k (k.op == 0x04) h ecc

/-- READ (09 R245, R247; 10 R265, R270-R274). -/
def execRead (c : Nat) (ecc : NandEcc) (s : State) : Result :=
  s.onCmd c 0x02 fun s k =>
    match s.magRefuse k false with
    | some st => s.finish c st 0
    | none =>
      let lbs := max 1 s.mag.lbs
      if k.ioBlocks = 0 || k.dataLen != k.ioBlocks * lbs then s.finish c 0x02 0
      else if s.lbaCount < k.ioLba + k.ioBlocks then s.finish c 0x0E 0 false (s.firstBeyond k)
      else if s.mapWait k || (!s.bufRuns && (piecesOf (k.ioLba * lbs) (k.ioBlocks * lbs)).any (fun p => (s.buffered p.1).isSome)) then s
      else
        let (d, bad, s1) := s.readRange (k.ioLba * lbs) (k.ioBlocks * lbs) ecc
        let s2 := s1.deliver k d (linesOf bad)
        match bad with
        | [] => s2.finish c 0 k.ioBlocks
        | b :: _ => s2.finish c 0x0C k.ioBlocks true (k.ioLba + b.1 / lbs)

/-- FLUSH (09 R243). -/
def execFlush (c : Nat) (s : State) : Result :=
  s.onCmd c 0x03 fun s k =>
    match s.magRefuse k false with
    | some st => s.finish c st 0
    | none => if s.flushDone c then s.finish c 0 0 else s

/-- NAND programs and erases may be issued: the channels are started (02 R37), not in a T_SHUT deferral (02 R63), and while the limit governor leaves a die to program or
erase, a bound that SAVE sets aside (14 R371; 10 R266). -/
def State.mayProgram (s : State) : Bool := s.pwr.nandOn && !s.pwr.deferral && (s.saving || decide (0 < s.flashDies s.mag.dies.length))

/-- MC1 commits while MAG runs or stops with a magazine mounted (10 R265, R286). -/
def State.mayCommit (s : State) : Bool :=
  (s.get Reg.MAG_STATUS_STATE == 2 || s.get Reg.MAG_STATUS_STATE == 3) && s.mounted && s.unitRuns 8 && s.mayProgram

/-- The commands that own the data of units for which no good block is left complete with MEDIA_ERROR, from the first block that could not be
programmed on (10 R279; 09 R249). -/
def State.mediaError (s : State) (us : List BufUnit) : State :=
  let first := us.foldl (fun (m : Nat) b => min m b.unit) 0xFFFFFFFF
  ((us.map BufUnit.writers).flatten).foldl (fun (t : State) w =>
    match t.cmd w with
    | some k => t.finish w 0x0D (t.blocksDone k) false (max k.ioLba (first * 16384 / max 1 t.mag.lbs))
    | none => t) s

/-- BUFFER_UNIT_COMMIT (10 R265, R267): the units that `puns` names, or the oldest, each with the whole of its group.  With no
good block left for it, the commands that own the data complete with MEDIA_ERROR (10 R279). -/
def execBufferUnitCommit (puns : Puns) (dmg : Damage) (s : State) : Result :=
  if !s.mayCommit || s.saving || !s.bufRuns then .next s
  else
    let s0 := s.strike dmg
    let named := (s0.mag.buf.filter (fun b => (puns.lookup b.unit).isSome)).map BufUnit.unit
    let us := s0.closure (if named.isEmpty then (s0.mag.buf.take 1).map BufUnit.unit else named)
    let (t, ok) := s0.commitUnits us puns
    .next (if ok then t else s0.mediaError us)

/-- NAND_PROGRAM_COMPLETE (09 R242; 10 R267): a command whose blocks are all programmed and journalled completes. -/
def execNandProgramComplete (c : Nat) (s : State) : Result :=
  match s.cmd c with
  | none => .next s
  | some k =>
    if !k.pastAbort || s.saving || !(k.op == 0x01 || k.op == 0x04 || k.op == 0x05 || k.op == 0x13) ||
        s.mag.buf.any (fun b => b.writers.contains c) then .next s
    else .next (s.finish c 0 k.progress)

end Sys2Proof.Machine
end

