-- ==== Sys2Proof/Machine/Mount.lean ====
section
/-!
DEFINITION. The magazine's insertion, mount and removal, its roots, and the background work of MC1 and MC2: failed blocks,
folding, refresh, garbage collection, patrol, erasing (10).
-/
namespace Sys2Proof.Machine

/-- Blocks that the bad-block table names (10 R279). -/
def State.badBlocks (s : State) : List Nat :=
  let old := match s.mag.root with | some r => r.bad | none => []
  old ++ (s.nand.blocks.filter (fun b => b.2.grownBad && !old.contains b.1)).map Prod.fst

/-- Put a root into the slot that held generation g - 2, in all four copies (10, "Roots and the journal"). -/
def putRoot (copies : List (List (Option Root))) (r : Root) : List (List (Option Root)) :=
  (List.range 4).map (fun i =>
    let slots := copies.getD i []
    let a := slots.getD 0 none
    let b := slots.getD 1 none
    if r.gen % 2 = 0 then [some r, b] else [a, some r])

/-- Write a new root generation to the four copies (10 R278): the map as it stands, the journal from its end on.  Pages that the generation
before names stay. -/
def State.writeRoot (s : State) : State :=
  match s.mag.root with
  | none => s
  | some old =>
    let r : Root := { old with gen := s.mag.generation, lbs := s.mag.lbs, exportUnits := s.mag.exportUnits, snapshot := s.mag.map,
                               journalFrom := s.mag.journalSeq, bad := s.badBlocks }
    let s1 := s.setNand { s.nand with
      roots := putRoot s.nand.roots r, journal := s.nand.journal.filter (fun p => p.good && decide (old.journalFrom ≤ p.seq)) }
    { s1 with mag := { s1.mag with root := some r, generation := s1.mag.generation + 1 } }

/-- ROOT_WRITE (10 R278). -/
def execRootWrite (s : State) : Result := if s.mayCommit then .next s.writeRoot else .next s

/-- WP_N of a channel is high (10 R255): low while the channel is not started or the magazine is READ_ONLY. -/
def State.wpHigh (s : State) (c : Nat) : Bool := s.pwr.nandOn && s.get Reg.MAG_CH_STATUS_RATE c != 7 && s.magState != 3

/-- Channels return to their power-up levels (02 R37; 10 R257). -/
def State.channelsOff (s : State) : State :=
  let s1 := (List.range 32).foldl (fun t c => (t.put Reg.MAG_CH_STATUS_RATE 7 c).put Reg.MAG_CH_STATUS_DIE_MASK 0 c) s
  { s1 with pwr := { s1.pwr with nandOn := false } }

/-- No capacity is shown unless READY or READ_ONLY (10, "Capacity, cache and save"). -/
def State.hideCapacity (s : State) : State := s.put64 Reg.MAG_EXPORT 0

/-- MAGAZINE_INSERTED (10 R257, R258): taken as inserted; MOUNT_START follows 10 ms later where MAG is RUNNING.  A module that stayed in
the connector over a power-on reset is inserted anew. -/
def execMagazineInserted (m : Module) (s : State) : Result :=
  if s.pwr.por || (s.mag.module.isSome && s.magState != 0) then .next s
  else
    let s1 := { s with mag := { s.mag with module := some (s.mag.module.getD m) } }
    .next (if s.get Reg.MAG_STATUS_STATE = 2 then s1 else s1.put Reg.MAG_STATUS_MAG_STATE 7)

/-- Commands that use the magazine end with a status, RESULT counting what they completed (10 R276). -/
def State.endMagCmds (s : State) (st : Nat) : State :=
  let s1 := match s.och.job with
    | some j => if (s.cmd j.cmd).any (fun (k : Cmd) => k.op == 0x22) then s.archiveStop (some st) else s
    | none => s
  ((s1.hq.cmds.filter (fun (c : Cmd) => usesMag c.op)).map (fun (c : Cmd) => (c.tag, if c.op ≤ 0x05 then s1.blocksDone c else c.progress))).foldl
    (fun t (c : Nat × Nat) => t.finish c.1 st c.2) s1

/-- Units in on-chip staging are no buffer: their programs are cut, and they are mapped as before (10 R265, R276). -/
def State.dropStaged (s : State) : State :=
  if s.get Reg.GAL_REGION_WB_GIB = 0 then { s with mag := { s.mag with buf := [], bufTag := [] } } else s

/-- MAGAZINE_REMOVED (10 R257, R258, R276): the buffer stays with its tag. -/
def execMagazineRemoved (s : State) : Result :=
  if s.mag.module.isNone then .next s
  else
    let s0 := match s.mag.sanitize with
      | some _ => s.put Reg.HQ_SANITIZE_STATE 3
      | none => s
    let s1 := (s0.endMagCmds 0x11).dropStaged.mapForget
    let s2 := { s1 with mag := { s1.mag with module := none, dies := [], missing := false, map := [], lbs := 0, exportUnits := 0,
                                             root := none, refreshQ := [], eraseQ := [],
                                             slcBytes := 0, slcMapped := 0, spareLow := false, spaceWait := [], sanitize := none } }
    let s3 := (((s2.channelsOff.hideCapacity.put Reg.MAG_STATUS_MAG_STATE 0).put Reg.MAG_GEOM_DIES 0).put Reg.MAG_GEOM_LBS 0).put
      Reg.MAG_GEOM_CHANNELS 0
    let s4 := ((s3.put Reg.MAG_SLC_SIZE 0).put Reg.MAG_SLC_FILL 0).put Reg.MAG_SAVE_SAVE_RATE 0
    .next (s4.budget.event Reg.MAG_STATUS_REMOVE_EV)

/-- The dies that discovery uses (10 R259): sane and qualified, with the geometry of the first one. -/
def usedDies (ds : List Die) : List Die :=
  let ok := ds.filter (fun d => d.sane && d.qualified)
  match ok with
  | [] => []
  | f :: _ => ok.filter (fun d => d.blocks == f.blocks && d.pages == f.pages && d.planes == f.planes)

/-- A channel's row after discovery and training (10 R256, R259): `rates` gives the rate where training passes. -/
def State.startChannel (s : State) (rates : List (Nat × Nat)) (c : Nat) : State :=
  let mine := s.mag.dies.filter (fun d => d.num / 16 == c)
  let cap := s.mag.maxRates.getD c 3
  let rate := match rates.lookup c with | some r => min r cap | none => cap
  if mine.isEmpty then (s.put Reg.MAG_CH_STATUS_RATE 7 c).put Reg.MAG_CH_STATUS_DIE_MASK 0 c
  else (s.put Reg.MAG_CH_STATUS_RATE rate c).put Reg.MAG_CH_STATUS_DIE_MASK (mine.foldl (fun m d => m ||| 2 ^ (d.num % 16)) 0) c

/-- MOUNT_START (10 R258, R259): discovery and training. -/
def execMountStart (rates : List (Nat × Nat)) (s : State) : Result :=
  match s.mag.module with
  | none => .next s
  | some m =>
    if s.get Reg.MAG_STATUS_STATE != 2 || !s.bridgesLive || !(s.magState == 0 || s.magState == 7) then .next s
    else
      let dies := usedDies m.dies
      let s1 := { s with mag := { s.mag with dies, root := none, map := [], missing := false,
                                             maxRates := (List.range 32).map (fun c => s.get Reg.MAG_CH_CTL_MAX_RATE c) },
                         pwr := { s.pwr with nandOn := true } }
      let s2 := (List.range 32).foldl (fun t c => t.startChannel rates c) (s1.put Reg.MAG_STATUS_MAG_STATE 1)
      let chans := (List.range 32).countP (fun c => dies.any (fun d => d.num / 16 == c))
      let s3 := (s2.put Reg.MAG_GEOM_DIES dies.length).put Reg.MAG_GEOM_CHANNELS chans
      .next (s3.put Reg.MAG_SAVE_SAVE_RATE (min 480 (dies.length * 9375 / 10000))).mapForget.budget

/-- Every valid root of a module. -/
def nandValidRoots (m : Module) : List Root := (m.roots.map (fun slots => slots.filterMap id)).flatten

/-- A generation is agreed (10 R278): at least two copies hold it, and all that do hold identical bytes. -/
def nandAgreed (m : Module) (g : Nat) : Option Root :=
  let holding := m.roots.filterMap (fun slots => (slots.filterMap id).find? (fun r => r.gen == g))
  match holding with
  | r :: _ :: _ => if ((nandValidRoots m).filter (fun x => x.gen == g)).all (fun x => decide (x = r)) then some r else none
  | _ => none

/-- The highest agreed generation (10 R278). -/
def nandBestRoot (m : Module) : Option Root :=
  (nandValidRoots m).foldl (fun (b : Option Root) r =>
    match nandAgreed m r.gen, b with
    | some x, some y => if y.gen < x.gen then some x else some y
    | some x, none => some x
    | none, y => y) none

/-- Journal pages to replay (10 R278): in order of sequence from `seq` on, up to the first out of order or with a bad CRC. -/
def replayPages : Nat → List JournalPage → List JournalPage
  | _, [] => []
  | seq, p :: r => if p.good && p.seq == seq then p :: replayPages (seq + 1) r else []

/-- The binding record is this device's and this magazine's (10 R283). -/
def State.bindingGood (s : State) (r : Root) : Bool :=
  r.binding.valid && r.binding.serial == deviceSerial && r.binding.magId == s.magId

/-- The map of a root with the journal replayed, and the sequence number after the last page (10 R278). -/
def nandReplay (m : Module) (r : Root) : List (Nat × Nat) × Nat :=
  let pages := replayPages r.journalFrom (m.journal.dropWhile (fun p => p.seq != r.journalFrom))
  ((pages.map JournalPage.maps).flatten.foldl setMap r.snapshot, r.journalFrom + pages.length)

/-- Largest root generation seen in any valid slot. -/
def nandMaxGen (m : Module) : Nat := (nandValidRoots m).foldl (fun n r => max n r.gen) 0

/-- The retained buffer at the end of MOUNTING (10 R275): committed where its tag is this magazine's, else discarded and lost. -/
def State.retained (s0 : State) : State :=
  let s := s0.dropStaged
  if s.mag.buf.isEmpty then s
  else if s.mag.bufTag == s.magId then s.commitAllUnits
  else s.discardBuffer true

/-- The magazine is READY, or READ_ONLY under R260 or R269 (10 R258). -/
def State.becomeReady (s : State) : State :=
  let s1 := (s.put Reg.MAG_STATUS_MAG_STATE 2).put64 Reg.MAG_EXPORT s.mag.exportUnits
  let s2 := (s1.put Reg.MAG_GEOM_LBS (if s.mag.lbs = 16384 then 1 else 0)).slcStart.spareCheck
  if s2.mag.missing then s2.put Reg.MAG_STATUS_MAG_STATE 3 else s2

/-- MOUNT_COMPLETE (10 R258, R278, R275, R283). -/
def execMountComplete (s : State) : Result :=
  match s.mag.module with
  | none => .next s
  | some m =>
    if s.magState != 1 || s.get Reg.MAG_STATUS_STATE != 2 then .next s
    else if (nandValidRoots m).isEmpty then .next (s.put Reg.MAG_STATUS_MAG_STATE 5)
    else
      match (nandBestRoot m) with
      | none => .next (s.put Reg.MAG_STATUS_MAG_STATE 6)
      | some r =>
        if !s.bindingGood r then .next (s.put Reg.MAG_STATUS_MAG_STATE 4)
        else
          let (map, seq) := nandReplay m r
          let top := m.units.foldl (fun n u => max n (u.2.seq + 1)) 1
          let s0 := s.setNand { m with journal := m.journal.filter (fun p => p.good && decide (p.seq < seq)) }
          let s1 := { s0 with mag := { s0.mag with root := some r, map, lbs := r.lbs, exportUnits := r.exportUnits, journalSeq := seq,
                                                   generation := (nandMaxGen m) + 1, unitSeq := top } }
          let lost := map.any (fun e => !s1.mag.dies.any (fun d => d.num == s1.dieOf e.2))
          let s2 := { s1 with mag := { s1.mag with missing := lost } }
          .next (s2.mapForget.slcStart.retained.writeRoot.becomeReady.event Reg.MAG_STATUS_INSERT_EV)

/-- CHANNEL_RETRAIN (10 R256): a started channel runs at the rate where training passes, at most the mount's MAX_RATE. -/
def execChannelRetrain (m : ChannelIx) (rate : Nat) (s : State) : Result :=
  if s.get Reg.MAG_CH_STATUS_RATE m.val = 7 then .next s
  else .next (s.put Reg.MAG_CH_STATUS_RATE (min rate (s.mag.maxRates.getD m.val 3)) m.val)

/-- Units whose present mapping lies in a block. -/
def State.validIn (s : State) (b : Nat) : List (Nat × Nat) := s.mag.map.filter (fun e => s.blockOf e.2 == b)

/-- A valid root names the block (10 R278): it is not erased before two newer generations replace it. -/
def State.blockNamed (s : State) (b : Nat) : Bool :=
  (nandValidRoots s.nand).any (fun r => r.snapshot.any (fun e => s.blockOf e.2 == b))

/-- Erase a block (10 R279-R281): its units are gone, its erase count advances. -/
def State.eraseBlock (s : State) (b : Nat) : State :=
  let v := s.block b
  s.setNand { s.nand with units := s.nand.units.filter (fun e => s.blockOf e.1 != b),
                          blocks := insertKey s.nand.blocks b { v with erase := v.erase + 1 } }

/-- Erase a block now, or queue it while a root names it (10 R278). -/
def State.eraseOrQueue (s : State) (b : Nat) : State :=
  if s.blockNamed b || !(s.validIn b).isEmpty then
    { s with mag := { s.mag with eraseQ := if s.mag.eraseQ.contains b then s.mag.eraseQ else s.mag.eraseQ ++ [b] } }
  else
    let t := s.eraseBlock b
    { t with mag := { t.mag with eraseQ := t.mag.eraseQ.filter (· != b), refreshQ := t.mag.refreshQ.filter (· != b) } }

/-- Move one unit to a new place (10 R271, R272): poison bits and failing sectors stay marked in the new unit; its mapping is
journalled.  `slc` says that it is programmed in SLC mode, `avoid` is the block that is being emptied. -/
def State.moveUnit (s : State) (moves : Puns) (ecc : NandEcc) (slc : Bool) (avoid : Option Nat) (u : Nat) : State :=
  let old := s.unitPoison u
  let (d, mask, s1) := s.readNand u 15 ecc
  match s1.placeFor moves u slc avoid with
  | none => s1
  | some p =>
    let s2 := (s1.programAt u p d mask (s.unitKeyed u) slc).markPoison u (old ||| mask) mask 3
    s2.journalMap [(u, some p)]

/-- Move every valid unit of a block (10 R271). -/
def State.moveBlock (s : State) (b : Nat) (moves : Puns) (ecc : NandEcc) : State :=
  ((s.validIn b).map Prod.fst).foldl (fun t u => t.moveUnit moves ecc false (some b) u) s

/-- Background work of the flash translation layer may run (10 R258, R286; 02 R63). -/
def State.ftlRuns (s : State) : Bool := s.mayCommit && !s.saving

/-- Folding pauses while the cache is full and writes or exports are under way, unless the cache holds more than its capacity, which is
folded first (10 R268; log 140). -/
def State.foldPaused (s : State) : Bool :=
  !s.slcRoom && decide (s.slcUnits * 16384 ≤ s.mag.slcBytes) &&
    (s.mag.buf.any (fun b => b.content.isSome) || s.hq.cmds.any (fun c => c.op == 0x13 && c.begun))

/-- FOLD (10 R268, R272): the SLC units of a block move into TLC blocks. -/
def execFold (block : Nat) (moves : Puns) (ecc : NandEcc) (s : State) : Result :=
  if !s.ftlRuns || s.foldPaused then .next s
  else
    let us := (s.validIn block).filter (fun e => match s.nand.units.lookup e.2 with | some v => v.slc | none => false)
    .next ((us.map Prod.fst).foldl (fun t u => t.moveUnit moves ecc false (some block) u) s)

/-- BLOCK_REFRESH (10 R271): a queued block's valid units move, and the block is erased. -/
def execBlockRefresh (block : Nat) (moves : Puns) (ecc : NandEcc) (s : State) : Result :=
  if !s.ftlRuns || !s.mag.refreshQ.contains block then .next s
  else
    let s1 := s.moveBlock block moves ecc
    if !(s1.validIn block).isEmpty then .next s1
    else
    let s2 := { s1 with mag := { s1.mag with refreshQ := s1.mag.refreshQ.filter (· != block), refreshes := s1.mag.refreshes + 1 } }
    .next ((s2.inc Reg.MAG_REFRESHES).eraseOrQueue block)

/-- GARBAGE_COLLECTION (01 R20; 10 R272): a block's valid units move, and the block is erased. -/
def execGarbageCollection (block : Nat) (moves : Puns) (ecc : NandEcc) (s : State) : Result :=
  if !s.ftlRuns || !s.allBlocks.contains block || !s.blockGood block then .next s
  else .next ((s.moveBlock block moves ecc).eraseOrQueue block)

/-- PATROL_READ (10 R270, R271): one page, that of a mapped unit, of a block that holds valid data; the threshold queues a refresh, a sector
that does not decode is counted and recorded. -/
def execPatrolRead (u : Nat) (ecc : NandEcc) (s : State) : Result :=
  if !s.mounted || !s.unitRuns 8 || s.get Reg.MAG_REFRESH_PATROL_DAYS = 0 || (s.mag.map.lookup u).isNone then .next s
  else .next (s.readNand u 15 ecc).2.2

/-- BACKGROUND_ERASE (10 R278, R284): a block that held old data is erased. -/
def execBackgroundErase (block : Nat) (s : State) : Result :=
  if !s.ftlRuns || !s.mag.eraseQ.contains block then .next s else .next (s.eraseOrQueue block)

/-- Units programmed again elsewhere after a failed program, from the buffer or the block (10 R279); with no good block left the
commands that own the data complete with MEDIA_ERROR. -/
def State.relocate (s : State) (moves : Puns) (ecc : NandEcc) (u : Nat) : State :=
  match s.buffered u with
  | some _ =>
    let us := s.closure [u]
    let (t, ok) := s.commitUnits us moves
    if ok then t else s.mediaError us
  | none =>
    let slc := match (s.mag.map.lookup u).bind (fun p => s.nand.units.lookup p) with | some v => v.slc | none => false
    s.moveUnit moves ecc slc none u

/-- PROGRAM_ERASE_FAIL (10 R279, R269): the block is retired as grown bad; `moves` names the units of the failed program. -/
def execProgramEraseFail (block : Nat) (moves : Puns) (s : State) (ecc : NandEcc := []) : Result :=
  if s.mag.module.isNone || !s.allBlocks.contains block then .next s
  else
    let v := s.block block
    let s1 := s.setNand { s.nand with blocks := insertKey s.nand.blocks block { v with grownBad := true } }
    let s2 := { s1 with mag := { s1.mag with eraseQ := s1.mag.eraseQ.filter (· != block),
                                             refreshQ := s1.mag.refreshQ.filter (· != block) } }
    let s3 := ((if v.grownBad then s2 else s2.inc Reg.MAG_GROWN_BAD).event Reg.MAG_STATUS_GROWN_BAD_EV)
    let s4 := if s3.mounted then s3.spareCheck else s3
    .next ((moves.map Prod.fst).foldl (fun t u => t.relocate moves ecc u) s4)

/-- MAG enable written (10 R286; 02 R46). -/
def State.magEnable (s : State) (b : Bool) : State := s.enableWrite magUnit b

/-- MAG_DISABLE (10 R286): STOPPING; started commands complete, then UNIT_DRAIN_COMPLETE commits and unmounts. -/
def execMagDisable (s : State) : Result := .next (s.magEnable false)

/-- The drain of MAG ends (10 R286, R258): buffer, journal and a new root on the NAND, the magazine UNMOUNTED. -/
def State.magDrained (s : State) : State :=
  if s.get Reg.MAG_STATUS_STATE != 3 then s
  else if s.hq.cmds.any (fun c => usesMag c.op && c.begun) then s
  else
    let s1 := if s.mounted then s.commitAllUnits.writeRoot.dropStaged else s
    let s2 := if s1.magState = 0 then s1 else (s1.put Reg.MAG_STATUS_MAG_STATE 7).hideCapacity
    s2.unitDrained magUnit

/-- MAG_CNT_CLR (10, "Registers"; R275): the counters clear and the lost-byte count starts again. -/
def execMagCntClr (s : State) : Result :=
  let s1 := s.zeroWords Reg.MAG_HOST_WR.base 8
  .next { s1 with mag := { s1.mag with lost := 0 } }

end Sys2Proof.Machine
end

