-- ==== Sys2Proof/Machine/Srv.lean ====
section
/-!
DEFINITION. Pickup servo and control engine (14).  Servo quantities with 10 fraction bits are integers in units of 2^-10 code.
-/
namespace Sys2Proof.Machine

/-- SRV's unit fields (14 R376). -/
def srvUnit : UnitFlds := ⟨Reg.SRV_CTL_EN, Reg.SRV_STATUS_STATE, Reg.SRV_STATUS_HELD⟩

/-- LSTATE of a loop: 0 OFF, 1 ACQUIRE, 2 LOCKED, 3 HOLD, 4 FAULT (14 R360). -/
def State.lstate (s : State) (l : Nat) : Nat := s.get Reg.SRV_LOOP_STATUS_LSTATE l

/-- MC3 runs, so that acquisitions, jumps and table loads may start (14 R377). -/
def State.mc3Runs (s : State) : Bool := s.get Reg.MBX_CORE_STATUS_STATE 3 == 2 || s.get Reg.MBX_CORE_STATUS_STATE 3 == 3

/-- Two's complement of an 18-bit or 14-bit field value. -/
def signed (width v : Nat) : Int := if v < 2 ^ (width - 1) then (v : Int) else (v : Int) - 2 ^ width

/-- Round n / d to the nearest integer, halves away from zero (14 R358). -/
def roundDiv (n : Int) (d : Nat) : Int :=
  let q := (2 * n.natAbs + d) / (2 * d)
  if n < 0 then -(q : Int) else q

/-- Saturate at +-8,192 codes with 10 fraction bits (14 R358). -/
def satCodes (v : Int) : Int := max (-8388608) (min 8388608 v)

/-- A coefficient (code / 65,536) times a signal, rounded to 2^-10 code (14 R358, R359). -/
def mulCoef (c v : Int) : Int := roundDiv (c * v) 65536

/-- One biquad of the compensator (14 R358): its output and its new delay line. -/
def biquad (c : List Int) (d : Delay) (v : Int) : Int × Delay :=
  let g := fun i => c.getD i 0
  let y := satCodes (mulCoef (g 0) v + mulCoef (g 1) d.v1 + mulCoef (g 2) d.v2 - mulCoef (g 3) d.y1 - mulCoef (g 4) d.y2)
  (y, { v1 := v, v2 := d.v1, y1 := y, y2 := d.y1 })

/-- The biquads in series (14 R358). -/
def biquads : List (List Int) → List Delay → Int → Int × List Delay
  | c :: cs, d :: ds, v =>
    let (y, d') := biquad c d v
    let (z, r) := biquads cs ds y
    (z, d' :: r)
  | _, ds, v => (v, ds)

/-- The shadows of a loop as its registers hold them (14 R359). -/
def State.shadows (s : State) (l : Nat) : Coeffs :=
  { k := s.getInt Reg.SRV_LOOP_GAIN_K l, ki := s.getInt Reg.SRV_LOOP_KI_KI l,
    ilim := s.get Reg.SRV_LOOP_LIMITS_ILIM l, outLim := s.get Reg.SRV_LOOP_LIMITS_OUT_LIM l,
    bq := (List.range 3).map (fun b => (List.range 5).map (fun c =>
      signed 18 (bitsOf (s.rd (Reg.SRV_LOOP_BQ_C.base + 0x100 * l + 0x14 * b + 4 * c)) 17 0))) }

/-- Every loop's coefficients in use are its shadows: after a reset that loads the registers (14 R359). -/
def State.commitAll (s : State) : State :=
  [0, 1, 2, 3].foldl (fun t l => t.setLoop l { t.loop l with active := t.shadows l, commit := false }) s

/-- Commanded velocity's sign of axis `a` (14 R367): 0 at standstill. -/
def State.axisSign (s : State) (a : Nat) : Int :=
  if !s.flag Reg.MOT_AXIS_STATUS_MOVING a then 0
  else if s.get Reg.MOT_AXIS_STATUS_KIND a = 2 then Int.sign (s.axis a).sweepV
  else if s.get Reg.MOT_AXIS_STATUS_KIND a = 3 then
    (if s.flag Reg.MOT_AXIS_CFG_HOME_DIR a == ((s.axis a).homing == some .backOff) then -1 else 1)
  else Int.sign ((s.axis a).target - s.getInt Reg.MOT_AXIS_POS_POS a)

/-- Entry of table `t`'s active bank (14 R368). -/
def State.ffEntry (s : State) (t i : Nat) : Int :=
  let bank := if s.srv.bank.getD t false then 1 else 0
  signed 14 (bitsOf (s.rd (Reg.SRV_FFTAB_E.base + 0x2000 * t + 0x1000 * bank + 4 * i)) 13 0)

/-- Index and fraction of table `t` for its selected position (14 R367). -/
def State.ffIndex (s : State) (t : Nat) (disc rotor : BitVec 32) : Nat × Nat × Bool :=
  let src := s.get Reg.SRV_FF_CTL_SRC t
  if src < 2 then
    let q := (if src = 0 then disc else rotor).toNat
    (q / 2 ^ 22, q / 2 ^ 14 % 256, true)
  else
    let p := (s.getInt Reg.MOT_AXIS_POS_POS (src - 2) - signed 32 (s.get Reg.SRV_FF_ORIGIN t)) / 2 ^ s.get Reg.SRV_FF_CTL_SHIFT t
    let v := (max 0 (min (1023 * 256 + 255) p)).toNat
    (v / 256, v % 256, false)

/-- Value of table `t` (14 R367): interpolated, times the sign of the axis's velocity for KIND FRICTION. -/
def State.ffValue (s : State) (t : Nat) (disc rotor : BitVec 32) : Int :=
  let (i, f, wraps) := s.ffIndex t disc rotor
  let e := s.ffEntry t i
  let v := if i = 1023 && !wraps then e else e + ((s.ffEntry t ((i + 1) % 1024) - e) * f) / 256
  if s.flag Reg.SRV_FF_CTL_KIND t then
    let dest := s.get Reg.SRV_FF_CTL_DEST t
    let src := s.get Reg.SRV_FF_CTL_SRC t
    v * s.axisSign (if 5 ≤ dest then dest - 5 else src - 2)
  else v

/-- Sum of the enabled tables that add to output `dest` (14 R366). -/
def State.ffSum (s : State) (dest : Nat) (disc rotor : BitVec 32) : Int :=
  (List.range 6).foldl (fun n t =>
    if s.flag Reg.SRV_FF_CTL_EN t && s.get Reg.SRV_FF_CTL_DEST t == dest then n + s.ffValue t disc rotor else n) 0

/-- The service input decoded into 0-16,383 by SRC (14 R374); a measurement of another kind is not used.  With F_MIN not below F_MAX the
quotient is not stated: a free value (log 4). -/
def State.decodeAux (s : State) (src fmin fmax : Nat) (a : AuxIn) : Option Nat × State :=
  match a, src with
  | .analog code, 0 => (some (min 16383 code), s)
  | .duty high period, 1 => (if period = 0 then none else some (min 16383 (high * 16383 / period)), s)
  | .freq hz, 2 =>
    if fmax ≤ fmin then
      let (v, t) := s.free
      (some (v.toNat % 16384), t)
    else (some (min 16383 ((hz - 1000 * fmin) * 16383 / (1000 * (fmax - fmin)))), s)
  | _, _ => (none, s)

/-- AUX_REF was updated (14 R374, R375). -/
def State.auxIn (s : State) (a : Option AuxIn) : State :=
  match a with
  | none => s
  | some m =>
    if !s.flag Reg.SRV_SVC_EN || s.srv.svcLost then s
    else
      match s.decodeAux (s.get Reg.SRV_SVC_SRC) (s.get Reg.SRV_SVC_F_MIN) (s.get Reg.SRV_SVC_F_MAX) m with
      | (some n, t) => t.put Reg.SRV_SVC_IN_N n
      | (none, _) => s

/-- Service mode drives loop `l` (14 R374). -/
def State.serviced (s : State) (l : Nat) : Bool := s.flag Reg.SRV_SVC_EN && s.get Reg.SRV_SVC_LOOP == l

/-- Move toward a value by at most 16 codes (14 R374). -/
def slew16 (now goal : Int) : Int := if now < goal then min goal (now + 16) else max goal (now - 16)

/-- The set-point that service mode asks for (14 R374). -/
def State.serviceGoal (s : State) : Int :=
  let lo := s.getInt Reg.SRV_SVC_MAP_AT_MIN
  lo + Int.tdiv ((s.getInt Reg.SRV_SVC_MAP_AT_MAX - lo) * s.get Reg.SRV_SVC_IN_N) 16383

/-- The set-point in use at the next sample (14 R374, R375). -/
def State.nextSetpt (s : State) (l : Nat) (v : LoopSt) : LoopSt :=
  let own := s.getInt Reg.SRV_LOOP_SETPT_SETPT l
  if s.serviced l then
    if s.srv.svcLost then { v with returning := true } else { v with setpt := slew16 v.setpt s.serviceGoal, returning := true }
  else if v.returning then
    let p := slew16 v.setpt own
    { v with setpt := p, returning := decide (p ≠ own) }
  else { v with setpt := own }

/-- The compensator (14 R358): the loop after the sample and its output in whole codes. -/
def compensate (locked : Bool) (v : LoopSt) (e : Int) : LoopSt × Int :=
  let ke := satCodes (mulCoef v.active.k e)
  let (y, ds) := biquads v.active.bq v.delays ke
  let ilim := 1024 * v.active.ilim
  let frozen := v.clamped && decide (Int.sign ke = (if v.clampPos then 1 else -1))
  let i := if locked && !frozen then max (-ilim) (min ilim (satCodes (v.integ + mulCoef v.active.ki e))) else v.integ
  let u := satCodes (y + i + 1024 * v.ff)
  let lim := 1024 * v.active.outLim
  let out := max (-lim) (min lim u)
  ({ v with delays := ds, integ := i, clamped := decide (out ≠ u), clampPos := decide (0 < u) }, roundDiv out 1024)

/-- The coil driver was saturated over the sample (14 R363): |IMEAS - cmd| exceeds BAND, both in 0.1 mA. -/
def State.coilSaturated (s : State) (l : Nat) (imeas : Int) : Bool :=
  decide (s.get Reg.SRV_COIL_CFG_BAND l * (8192 * 8191) <
    (imeas * 8191 - s.getInt Reg.SRV_LOOP_OUT_OUT l * 8192).natAbs * s.get Reg.SRV_COIL_CFG_IFS l)

/-- SAT_ACC after a sample (14 R372). -/
def State.satCount (s : State) (l : Nat) (saturated : Bool) : State :=
  if saturated then s.add Reg.SRV_LOOP_STATUS_SAT_ACC 1 l
  else s.put Reg.SRV_LOOP_STATUS_SAT_ACC (s.get Reg.SRV_LOOP_STATUS_SAT_ACC l - 1) l

/-- Runs of samples that the loop states judge (14 R360). -/
def State.judge (s : State) (l : Nat) (v : LoopSt) (e : Int) : LoopSt :=
  let a := e.natAbs
  { v with lockRun := if a < 1024 * s.get Reg.SRV_LOOP_ACQ_LOCK_THR l then v.lockRun + 1 else 0,
           offRun := if 1024 * s.get Reg.SRV_LOOP_ACQ_OFF_THR l < a then v.offRun + 1 else 0 }

/-- KICK with the jump's direction: positive toward the disc, to a lower layer (14 R365). -/
def State.kick (s : State) (down : Bool) : Int :=
  if down then s.get Reg.SRV_JUMP_KICK else -(s.get Reg.SRV_JUMP_KICK : Int)

/-- The output that a layer jump puts in place of the focus loop's, if any (14 R365). -/
def State.jumpOut (s : State) (l : Nat) : Option (Int × Bool) :=
  if l ≠ 0 then none
  else
    match s.srv.jump with
    | some j =>
      match j.step with
      | .kick => some (s.kick j.down, true)
      | .coast => some (0, false)
      | .brake => some (-s.kick j.down, true)
      | .close => none
    | none => none

/-- The sum is good at this sample; tilt has no sum signal (14 R356, R360). -/
def State.sumOk (s : State) (l : Nat) (sum : Int) : Bool := l == 2 || decide ((s.get Reg.SRV_LOOP_SUM_SUM_THR l : Int) ≤ sum)

/-- A running loop's sample after its counters are set (14 R356, R358): error, compensator, ERR and OUT. -/
def State.runSample (s : State) (l : Nat) (x : Int) (v0 : LoopSt) : State :=
  let x' := if l = 1 then x + s.srv.trackOfs else if l = 3 then s.srv.skew else x
  let e := satCodes (1024 * x' - 1024 * v0.setpt)
  match s.jumpOut l with
  | some (out, _) => (s.setLoop l { v0 with clamped := false }).putInt Reg.SRV_LOOP_OUT_OUT out l
  | none =>
    let (v1, out) := compensate (s.lstate l == 2) (s.judge l v0 e) e
    ((s.setLoop l v1).putInt Reg.SRV_LOOP_ERR_E (max (-8192) (min 8191 (roundDiv e 1024))) l).putInt Reg.SRV_LOOP_OUT_OUT out l

/-- LOOP_SAMPLE (14 R356-R360, R363, R366, R372, R374): shadows committed, set-point moved, the saturation supervisor counts the
interval before, and a closed loop computes; in HOLD nothing is computed. -/
def execLoopSample (l : LoopIx) (i : LoopInput) (s : State) : Result :=
  let l := l.val
  let s0 := s.auxIn i.aux
  let v := s0.loop l
  let v1 := if v.commit then { v with active := s0.shadows l, commit := false } else v
  let st := s0.lstate l
  let good := s0.sumOk l i.sum
  let v2 := s0.nextSetpt l { v1 with sumGood := good, sumRun := if good then v1.sumRun + 1 else 0 }
  let s1 := s0.putInt Reg.SRV_COIL_STATUS_IMEAS i.imeas l
  if st = 0 || st = 4 then .next (s1.setLoop l v2)
  else
    let skip := match s0.jumpOut l with | some (_, b) => b | none => false
    let s2 := if skip then s1 else s1.satCount l (v.clamped || s0.coilSaturated l i.imeas)
    if st = 3 then .next (s2.setLoop l { v2 with holdCnt := v2.holdCnt + 1 })
    else
      let closed := v2.closed || i.cross || l == 2 || (l == 3 && decide (16 ≤ s0.srv.skewCount))
      let v3 := { v2 with closed, ff := s0.ffSum l i.disc i.rotor }
      .next (if closed then s2.runSample l i.x v3 else s2.setLoop l v3)

/-- The coil bridge of loop `l` is enabled (14 R360, R362); which way it drives first is not stated: a free value (log 4). -/
def State.coilOn (s : State) (l : Nat) : State :=
  if s.pwr.coils.contains l then s
  else
    let (v, s1) := s.free
    ({ s1 with pwr := { s1.pwr with coils := s1.pwr.coils ++ [l] } } : State).put Reg.SRV_COIL_STATUS_BRIDGE (1 + v.toNat % 2) l

/-- LOOP_ACQUIRE_START (14 R360, R364, R377): from OFF, or again from FAULT; loops 1-3 need focus LOCKED. -/
def execLoopAcquireStart (l : LoopIx) (s : State) : Result :=
  let l := l.val
  let st := s.lstate l
  if s.get Reg.SRV_STATUS_STATE != 2 || !s.mc3Runs || !s.driven || !(st == 0 || st == 4) || (l != 0 && s.lstate 0 != 2) then .next s
  else
    let s1 := { s with srv := { s.srv with skewCount := if l = 3 then 0 else s.srv.skewCount } }
    let s2 := s1.setLoop l { s1.loop l with integ := 0, closed := l == 2, lockRun := 0, offRun := 0, attempts := 1 }
    .next ((s2.coilOn l).put Reg.SRV_LOOP_STATUS_LSTATE 1 l)

/-- After a tracking lock MC3 compares the sled's position with the radius that the wedge ID reports, in microsteps, and corrects it
(15 R394). -/
def State.correctSled (s : State) (radius : Int) : State :=
  let p := s.getInt Reg.MOT_AXIS_POS_POS 0
  if s.mc3Runs && s.flag Reg.MOT_AXIS_STATUS_POS_VALID 0 && decide (1024 < (p - radius).natAbs) then
    s.putInt Reg.MOT_AXIS_POS_POS radius 0
  else s

/-- LOOP_LOCKED (14 R360, R364; 15 R394): 64 samples within LOCK_THR; tracking also needs the pilot's ID to show p = 8 and the target
layer.  `radius` is the one that the wedge ID reports, in sled microsteps. -/
def execLoopLocked (l : LoopIx) (s : State) (radius : Int := 0) : Result :=
  let l := l.val
  let v := s.loop l
  let idOk := l != 1 || (s.srv.pilotP == 8 && s.srv.pilotLayer == s.srv.target)
  if s.lstate l = 1 && v.closed && 64 ≤ v.lockRun && idOk then
    let s1 := (s.setLoop l { v with integ := 0, offRun := 0, sumRun := 0, holdCnt := 0 }).put Reg.SRV_LOOP_STATUS_LSTATE 2 l
    .next (if l = 1 then s1.correctSled radius else s1)
  else .next s

/-- A loop enters HOLD (14 R360); focus and tracking leaving LOCKED is reported (14 R361). -/
def State.holdLoop (s : State) (l : Nat) : State :=
  if s.lstate l != 2 then s
  else
    let s1 := (s.setLoop l { s.loop l with holdCnt := 0, sumRun := 0 }).put Reg.SRV_LOOP_STATUS_LSTATE 3 l
    if l < 2 then s1.servoFault else s1

/-- LOOP_HOLD_ENTRY (14 R360). -/
def execLoopHoldEntry (l : LoopIx) (s : State) : Result :=
  if !(s.loop l.val).sumGood || (l.val != 0 && (s.lstate 0 == 3 || s.srv.jump.isSome)) then .next (s.holdLoop l.val) else .next s

/-- LOOP_HOLD_EXIT (14 R360): 16 good samples, and focus LOCKED for loops 1-3, which a jump in its kick, coast and brake is not. -/
def execLoopHoldExit (l : LoopIx) (s : State) : Result :=
  let l := l.val
  if s.lstate l = 3 && 16 ≤ (s.loop l).sumRun && (l == 0 || (s.lstate 0 == 2 && (s.jumpOut 0).isNone)) then
    .next (s.put Reg.SRV_LOOP_STATUS_LSTATE 2 l)
  else .next s

/-- LOOP_HOLD_TIMEOUT (14 R360). -/
def execLoopHoldTimeout (l : LoopIx) (s : State) : Result :=
  if s.lstate l.val = 3 && s.get Reg.SRV_LOOP_SUM_HOLD_MAX l.val ≤ (s.loop l.val).holdCnt then .next (s.loopFault l.val 3)
  else .next s

/-- LOOP_LOSS (14 R360). -/
def execLoopLoss (l : LoopIx) (s : State) : Result :=
  if s.lstate l.val = 2 && 16 ≤ (s.loop l.val).offRun then .next (s.loopFault l.val 2) else .next s

/-- ACQUISITION_TIMEOUT (14 R364): retried twice from its start, then FAULT with cause LOSS. -/
def execAcquisitionTimeout (l : LoopIx) (s : State) : Result :=
  let l := l.val
  let v := s.loop l
  if s.lstate l != 1 then .next s
  else if v.attempts < 3 then
    .next (s.setLoop l { v with attempts := v.attempts + 1, closed := l == 2, lockRun := 0, integ := 0 })
  else .next (s.loopFault l 2)

/-- LOOP_COMMIT (14 R359): the shadows are copied at the next sample. -/
def execLoopCommit (l : LoopIx) (s : State) : Result :=
  if !s.archived then .next s
  else .next (s.setLoop l.val { s.loop l.val with commit := true })

/-- The bridge drives the other way (14 R362, R363). -/
def State.reverse (s : State) (l : Nat) (pos : Bool) : State :=
  (s.setLoop l { s.loop l with dwell := true, deferred := none }).put Reg.SRV_COIL_STATUS_BRIDGE (if pos then 1 else 2) l

/-- COIL_REVERSAL (14 R362, R363): the comparators ask for a polarity; within MIN_DWELL of the last reversal it is deferred. -/
def execCoilReversal (l : LoopIx) (pos : Bool) (s : State) : Result :=
  let v := s.loop l.val
  if s.get Reg.SRV_COIL_STATUS_BRIDGE l.val = 0 then .next s
  else if v.dwell then .next (s.setLoop l.val { v with deferred := some pos })
  else .next (s.reverse l.val pos)

/-- COIL_DWELL_EXPIRY (14 R363). -/
def execCoilDwellExpiry (l : LoopIx) (s : State) : Result :=
  let v := s.loop l.val
  let s1 := s.setLoop l.val { v with dwell := false, deferred := none }
  match v.deferred with
  | some pos => if s.get Reg.SRV_COIL_STATUS_BRIDGE l.val = 0 then .next s1 else .next (s1.reverse l.val pos)
  | none => .next s1

/-- COIL_CFG_WRITE (14 R363; 00 R533): discarded with CFG_REJ unless the loop is OFF. -/
def execCoilCfgWrite (l : LoopIx) (v : Word) (s : State) : Result :=
  let k := Reg.SRV_COIL_CFG_IFS.base + Reg.SRV_COIL_CFG_IFS.stride * l.val
  if !s.archived then .next s
  else if s.lstate l.val = 0 then .next (s.writeAt Reg.SRV_COIL_CFG_IFS l.val v)
  else .next (if s.written k v = s.rd k then s else s.event Reg.SRV_STATUS_CFG_REJ)

/-- Start a jump toward `target` (14 R365): the other loops are held, focus is kicked. -/
def State.startJump (s : State) (down : Bool) (target fails : Nat) : State :=
  let s1 := [1, 2, 3].foldl State.holdLoop s
  let s2 := { s1 with srv := { s1.srv with jump := some { step := .kick, down, target, fails }, target } }
  s2.putInt Reg.SRV_LOOP_OUT_OUT (s2.kick down) 0

/-- LAYER_JUMP_START (14 R365, R377): at a wedge with no beam at write power, focus LOCKED, to the adjacent layer. -/
def execLayerJumpStart (down : Bool) (s : State) : Result :=
  let now := s.srv.pilotLayer
  if s.lstate 0 != 2 || s.srv.jump.isSome || !s.och.writing.isEmpty || s.get Reg.SRV_STATUS_STATE != 2 || !s.mc3Runs ||
      (down && now == 0) || (!down && decide (11 ≤ now)) then .next s
  else .next (s.startJump down (if down then now - 1 else now + 1) 0)

/-- Move a jump to its next step with an output. -/
def State.jumpStep (s : State) (j : Jump) (step : JumpStep) (out : Int) : State :=
  ({ s with srv := { s.srv with jump := some { j with step } } } : State).putInt Reg.SRV_LOOP_OUT_OUT out 0

/-- JUMP_KICK_END (14 R365): KICK_US elapsed, the lens coasts with zero output. -/
def execJumpKickEnd (s : State) : Result :=
  match s.srv.jump with
  | some j => if j.step = .kick then .next (s.jumpStep j .coast 0) else .next s
  | none => .next s

/-- JUMP_SCURVE_PEAK (14 R365): the brake begins. -/
def execJumpScurvePeak (s : State) : Result :=
  match s.srv.jump with
  | some j => if j.step = .coast then .next (s.jumpStep j .brake (-s.kick j.down)) else .next s
  | none => .next s

/-- JUMP_BRAKE_END (14 R365): focus closes at the next zero crossing and passes through ACQUIRE. -/
def execJumpBrakeEnd (s : State) : Result :=
  match s.srv.jump with
  | some j =>
    if j.step = .brake then
      let s1 := s.jumpStep j .close 0
      .next ((s1.setLoop 0 { s1.loop 0 with closed := false, lockRun := 0, attempts := 1 }).put Reg.SRV_LOOP_STATUS_LSTATE 1 0)
    else .next s
  | none => .next s

/-- JUMP_COMPLETE (14 R365): focus LOCKED and the wedge ID reports the target layer. -/
def execJumpComplete (layer : Nat) (s : State) : Result :=
  match s.srv.jump with
  | some j =>
    if j.step = .close && s.lstate 0 = 2 && layer = j.target then
      .next (({ s with srv := { s.srv with jump := none, pilotLayer := layer } } : State).inc Reg.SRV_JUMPS)
    else .next s
  | none => .next s

/-- JUMP_TIMEOUT (14 R365): counted, and made again from the layer that the ID reports; the third failure is a focus FAULT with cause
LOSS.  One already at its target only waits for focus (log 45). -/
def execJumpTimeout (layer : Nat) (s : State) : Result :=
  match s.srv.jump with
  | some j =>
    let s1 := ((s.inc Reg.SRV_JUMP_FAILS).event Reg.SRV_STATUS_JUMP_FAIL_EV)
    let s2 := { s1 with srv := { s1.srv with pilotLayer := layer } }
    if 3 ≤ j.fails + 1 then .next (s2.loopFault 0 2)
    else if layer = j.target then .next { s2 with srv := { s2.srv with jump := some { j with fails := j.fails + 1 } } }
    else .next (s2.startJump (decide (j.target < layer)) (if j.target < layer then layer - 1 else layer + 1) (j.fails + 1))
  | none => .next s

/-- FF_BANK_SWAP (14 R368). -/
def execFfBankSwap (t : Fin 6) (s : State) : Result :=
  if !s.archived then .next s
  else .next { s with srv := { s.srv with swap := s.srv.swap.set t.val true } }

/-- FF_SWAP_APPLY (14 R368): at the next index wrap or sample the other bank is in use. -/
def execFfSwapApply (t : Fin 6) (s : State) : Result :=
  if s.srv.swap.getD t.val false then
    let b := !s.srv.bank.getD t.val false
    .next (({ s with srv := { s.srv with bank := s.srv.bank.set t.val b, swap := s.srv.swap.set t.val false } } : State).setFlag
      Reg.SRV_FF_CTL_ACTIVE b t.val)
  else .next s

/-- A sense code (0-1.2 V over 14 bits) times a divider, in tenths of the unit (02 R51; 14 R369; log 46). -/
def senseTenths (code div : Nat) : Nat := code * 12 * div / 16384

/-- A governor candidate (14 R369); conditions worsen upwards when `up`. -/
def govCandidate (up : Bool) (x start stop floor : Nat) : Nat :=
  if (if up then decide (x ≤ start) else decide (start ≤ x)) then 1024
  else if (if up then decide (stop ≤ x) else decide (x ≤ stop)) then floor
  else floor + (1024 - floor) * ((x - stop) + (stop - x)) / ((stop - start) + (start - stop))

/-- The four candidates (14 R369): VBUS, TEMP, IBUS, HOST. -/
def State.govCandidates (s : State) (vbus ibus : Nat) : List Nat :=
  [govCandidate false (senseTenths vbus (s.get Reg.PWR_SENSE_CFG_VDIV)) (s.get Reg.PWR_BUS_THRESH_VBUS_WARN)
     (s.get Reg.PWR_BUS_THRESH_VBUS_FAIL) (s.get Reg.SRV_GOV_FLOOR_VBUS_FLOOR),
   govCandidate true (s.get Reg.PWR_TEMP_TEMP) (s.get Reg.SRV_GOV_TEMP_T_START) (s.get Reg.SRV_GOV_TEMP_T_END)
     (s.get Reg.SRV_GOV_FLOOR_TEMP_FLOOR),
   govCandidate true (senseTenths ibus (s.get Reg.PWR_SENSE_CFG_IDIV)) (s.get Reg.SRV_GOV_IBUS_I_START)
     (s.get Reg.SRV_GOV_IBUS_I_END) (s.get Reg.SRV_GOV_FLOOR_IBUS_FLOOR),
   s.get Reg.SRV_GOV_HOST_HOST_LIM]

/-- Show the winner (14 R369): the lowest candidate, the lowest-numbered on a tie, NONE at G = 1,024. -/
def State.showWinner (s : State) (gs : List Nat) (target : Nat) : State :=
  s.put Reg.SRV_GOV_STATUS_WINNER (if s.get Reg.SRV_GOV_STATUS_G = 1024 then 0 else (gs.findIdx (· == target)) + 1)

/-- GOVERNOR_UPDATE (14 R369, R370): `vbus` and `ibus` are the means of the last 16 sample codes. -/
def execGovernorUpdate (vbus ibus : Nat) (s : State) : Result :=
  if !s.part.archive then .next s else
  let gs := s.govCandidates vbus ibus
  let target := gs.foldl min 1024
  let s1 := s.put Reg.SRV_GOV_STATUS_TARGET target
  let g := s.get Reg.SRV_GOV_STATUS_G
  let s2 := if target < g then
      let t := s1.put Reg.SRV_GOV_STATUS_G target
      if g = 1024 then t.event Reg.SRV_STATUS_GOV_EV else t
    else s1
  .next (s2.showWinner gs target)

/-- GOVERNOR_RISE (14 R370): by at most RISE, never past the target. -/
def execGovernorRise (s : State) : Result :=
  let g := s.get Reg.SRV_GOV_STATUS_G
  let target := s.get Reg.SRV_GOV_STATUS_TARGET
  if g < target then
    let g' := min target (g + s.get Reg.SRV_GOV_OUT_RISE)
    let s1 := s.put Reg.SRV_GOV_STATUS_G g'
    .next (if g' = 1024 then s1.put Reg.SRV_GOV_STATUS_WINNER 0 else s1)
  else .next s

/-- GOVERNOR_THRESHOLD_WRITE (14 R369): a write that leaves end at or below start is discarded whole. -/
def execGovernorThresholdWrite (ibus : Bool) (v : Word) (s : State) : Result :=
  let k := if ibus then Reg.SRV_GOV_IBUS_I_START.base else Reg.SRV_GOV_TEMP_T_START.base
  let w := s.written k v
  let bad := if ibus then decide (bitsOf w 23 12 ≤ bitsOf w 11 0) else decide (bitsOf w 27 16 ≤ bitsOf w 11 0)
  if bad || !s.archived then .next s else .next (s.wr k w)

/-- TORQUE_G (14 R371). -/
def State.torqueG (s : State) : Nat := max (s.get Reg.SRV_GOV_STATUS_G) (s.get Reg.SRV_GOV_OUT_TORQUE_FLOOR)

/-- A loop that runs is opened (14 R373, OPEN). -/
def State.openLoop (s : State) (l : Nat) : State :=
  if s.lstate l = 0 || s.lstate l = 4 then s else s.loopFault l 1

/-- SATURATION_FAULT (14 R372, R373, R361): counted, reported whatever the ACTION; OPEN, or PARK of every loop and the sled (PARK
acts as OPEN while MC3 restarts). -/
def execSaturationFault (l : LoopIx) (s : State) : Result :=
  let l := l.val
  let st := s.lstate l
  if st = 0 || st = 4 || s.get Reg.SRV_LOOP_STATUS_SAT_ACC l < s.get Reg.SRV_LOOP_SAT_SAT_COUNT l then .next s
  else
    let s1 := (((s.inc Reg.SRV_SAT_FAULTS).event Reg.SRV_STATUS_SAT_EV).put Reg.SRV_LOOP_STATUS_SAT_ACC 0 l).servoFault
    .next <| match s.get Reg.SRV_LOOP_CTL_ACTION l with
    | 0 => s1
    | 2 => if s.mc3Runs then ([3, 2, 1, 0].foldl State.openLoop s1).parkSled else s1.openLoop l
    | _ => s1.openLoop l

/-- SERVICE_MODE_ENABLE (14 R375; 00 R533): a write of `SRV.SVC`; EN from 0 to 1 while OCH writes is discarded with CFG_REJ. -/
def execServiceModeEnable (v : Word) (s : State) : Result :=
  let k := Reg.SRV_SVC_EN.base
  if !s.archived then .next s
  else if bitsOf v 31 31 = 1 && !s.flag Reg.SRV_SVC_EN && s.get Reg.OCH_STATUS_MODE = 1 then
    .next ((s.writeExcept k v 0x80000000).event Reg.SRV_STATUS_CFG_REJ)
  else
    let s1 := s.write k v
    .next (if s1.flag Reg.SRV_SVC_EN && !s.flag Reg.SRV_SVC_EN then { s1 with srv := { s1.srv with svcLost := false } } else s1)

/-- SRV's enable bit (14 R376; 02 R46): leaving RUNNING stops an archive write resumably, then the loops go OFF and the bridges
switch off. -/
def State.srvEnable (s : State) (b : Bool) : State :=
  let s1 := if !b && s.get Reg.SRV_STATUS_STATE = 2 then (s.archiveStop (some 0x15)).loopsOff else s
  s1.enableWrite srvUnit b

/-- SRV_DISABLE (14 R376). -/
def execSrvDisable (s : State) : Result := if s.archived then .next (s.srvEnable false) else .next s

/-- SRV_CNT_CLR (14, "Registers"). -/
def execSrvCntClr (s : State) : Result :=
  if !s.archived then .next s
  else .next ((((s.put Reg.SRV_JUMPS 0).put Reg.SRV_JUMP_FAILS 0).put Reg.SRV_SAT_FAULTS 0).put Reg.SRV_LOOP_FAULTS 0)

end Sys2Proof.Machine
end

