-- ==== Sys2Proof/Machine/Mot.lean ====
section
/-!
DEFINITION. Spindle, sled and disc picker (15): bridges and pulses, spindle states, stepper axes, interlocks and the steps of a disc
exchange.
-/
namespace Sys2Proof.Machine

/-- MOT's unit fields (15 R400). -/
def motUnit : UnitFlds := ⟨Reg.MOT_CTL_EN, Reg.MOT_STATUS_STATE, Reg.MOT_STATUS_HELD⟩

/-- SSTATE (15 R385): 0 STOPPED, 1 SPINUP, 2 FREQ_LOCK, 3 PHASE_ACQ, 4 PHASE_LOCK, 5 BRAKE_REGEN, 6 BRAKE_SHORT, 7 SERVICE. -/
def State.sstate (s : State) : Nat := s.get Reg.MOT_SPN_STATUS_SSTATE

/-- Position of stepper axis `a` (0 sled, 1 lift, 2 shuttle), and whether it is valid. -/
def State.axisPos (s : State) (a : Nat) : Int := s.getInt Reg.MOT_AXIS_POS_POS a
def State.posValid (s : State) (a : Nat) : Bool := s.flag Reg.MOT_AXIS_STATUS_POS_VALID a

/-- A signed 32-bit position register of the exchange. -/
def State.xPos (s : State) (f : Fld) : Int := s.getInt f

/-- A write to MOT is discarded with CFG_REJ (15, `MOT.STATUS`). -/
def State.motRej (s : State) : State := s.event Reg.MOT_STATUS_CFG_REJ

/-- Target speed of a zone in 0.1 rpm, to the nearest (15 R386). -/
def zoneSpeed (z : Nat) : Nat := (2 * 537634 * (31 + z) + 10 * (28 + z)) / (20 * (28 + z))

/-- Interlock of a spindle start (15 R396): lift at LIFT_XFER, DISC_SENSE_N deasserted. -/
def State.spinAllowed (s : State) : Bool :=
  s.posValid 1 && s.axisPos 1 == s.xPos Reg.MOT_XCHG_LIFT_XFER && !s.mot.discSense

/-- Interlock of a move of axis `a` (15 R396). -/
def State.moveAllowed (s : State) (a : Nat) : Bool :=
  match a with
  | 0 => true
  | 1 => s.sstate == 0 && !s.mot.hall && s.posValid 0 && decide (s.axisPos 0 ≤ s.getInt Reg.MOT_AXIS_PARK_PARK_POS 0)
  | _ => s.posValid 1 && decide ((s.axisPos 1 - s.xPos Reg.MOT_XCHG_LIFT_XFER).natAbs ≤ 256)

/-- The spindle enters SPINUP for a zone: bridge enabled, carries zeroed (15 R385, R386). -/
def State.spinUp (s : State) (z : Nat) : State :=
  let s1 := (s.put Reg.MOT_SPN_STATUS_SSTATE 1).put Reg.MOT_SPN_TARGET_TARGET (zoneSpeed z)
  let s2 := s1.bridgesOn 0 3
  { s2 with pwr := { s2.pwr with spindleOn := true },
            mot := { s2.mot with zone := z, hall := true, phaseGood := 0, phaseBad := 0, mcZone := none } }

/-- MC3 sets a target speed for an archive command (15 R385, R387, R396; 01 R20): from STOPPED under the interlocks; in SERVICE it is the target for its end. -/
def State.spindleStart (s : State) (z : Nat) : State :=
  if s.get Reg.MOT_STATUS_STATE != 2 || !s.mc3Runs || s.pwr.vdrvLow || !s.driven || s.mot.held.isEmpty then s
  else if s.sstate = 7 then { s with mot := { s.mot with mcZone := some z } }
  else if s.sstate ≠ 0 then s
  else if !s.spinAllowed then s.event Reg.MOT_STATUS_INTERLOCK_EV
  else s.spinUp z

/-- SPINDLE_START (15 R385, R396). -/
def execSpindleStart (zone : Fin 32) (s : State) : Result := .next (s.spindleStart zone.val)

/-- SPINDLE_FREQ_LOCK (15 R385, R386): 10 ms within 0.05 % of the target; the OCH clock is then set for the zone while no spot writes or
reads (13 R330), and its change makes an OCH_DLY calibration run due (20 R489). -/
def execSpindleFreqLock (s : State) : Result :=
  if s.sstate ≠ 1 then .next s
  else
    let s1 := s.put Reg.MOT_SPN_STATUS_SSTATE 2
    let n := 31 + s.mot.zone
    if s.get Reg.OCH_ZONE_CLK_NUM = n || !s.och.writing.isEmpty || s.och.reading.isSome then .next s1
    else
      let s2 := (s1.put Reg.OCH_ZONE_CLK_NUM n).put Reg.OCH_ZONE_ZONE s.mot.zone
      .next (s2.setFlag Reg.CAL_BLK_STATUS_PENDING true 4)

/-- SPINDLE_PHASE_ACQUIRE (15 R385): the OCH clock is set for the zone and pilot SAMs arrive. -/
def execSpindlePhaseAcquire (s : State) : Result :=
  if s.sstate = 2 && s.get Reg.OCH_ZONE_CLK_NUM = 31 + s.mot.zone && 0 < s.och.pilotGood then
    .next ({ s with mot := { s.mot with phaseGood := 0, phaseBad := 0 } }.put Reg.MOT_SPN_STATUS_SSTATE 3)
  else .next s

/-- SPINDLE_PHASE_LOCK (15 R385): 480 consecutive marks within 4 bits. -/
def execSpindlePhaseLock (s : State) : Result :=
  if s.sstate = 3 && 480 ≤ s.mot.phaseGood then .next (s.put Reg.MOT_SPN_STATUS_SSTATE 4) else .next s

/-- SPINDLE_PHASE_LOSS (15 R385): 8 consecutive marks beyond 64 bits or absent. -/
def execSpindlePhaseLoss (s : State) : Result :=
  if s.sstate = 4 && 8 ≤ s.mot.phaseBad then
    .next (((s.put Reg.MOT_SPN_STATUS_SSTATE 2).inc Reg.MOT_PHASE_LOSS).event Reg.MOT_STATUS_PHASE_LOSS_EV)
  else .next s

/-- SPINDLE_ZONE_CHANGE (15 R385, R386): made while no spot writes or reads. -/
def execSpindleZoneChange (zone : Fin 32) (s : State) : Result :=
  if 1 ≤ s.sstate && s.sstate ≤ 4 && s.och.writing.isEmpty && s.och.reading.isNone && s.mc3Runs && !s.mot.held.isEmpty then .next (s.spinUp zone.val)
  else .next s

/-- SPINDLE_BRAKE_REGEN (15 R385, R387): a stop request. -/
def execSpindleBrakeRegen (s : State) : Result := .next s.spindleBrake

/-- SPINDLE_BRAKE_SHORT (15 R385): the measured speed, in 0.1 rpm, is below SHORT_RPM. -/
def execSpindleBrakeShort (speed : Nat) (s : State) : Result :=
  if s.sstate = 5 && speed < 10 * s.get Reg.MOT_SPN_BRAKE_SHORT_RPM then
    .next ((s.put Reg.MOT_SPN_STATUS_SPEED speed).put Reg.MOT_SPN_STATUS_SSTATE 6)
  else .next s

/-- SPINDLE_STOPPED (15 R385): no Hall edge for 100 ms in BRAKE_SHORT. -/
def execSpindleStopped (s : State) : Result :=
  if s.sstate = 6 then
    .next (({ s.spindleOff with mot := { s.spindleOff.mot with hall := false } } : State).put Reg.MOT_SPN_STATUS_SPEED 0)
  else .next s

/-- SPINDLE_SERVICE_ENABLE (15 R389, R397, R396; 00 R533): a write of `MOT.SPN.SVC`; EN is discarded with CFG_REJ while the mechanism is
held, and a start against an interlock with INTERLOCK_EV. -/
def execSpindleServiceEnable (q : Requester) (v : Word) (s : State) : Result :=
  if s.barShut q then .next (s.barAnswer q true)
  else if !s.archived then .next s else
  let k := Reg.MOT_SPN_SVC_EN.base
  let on := bitsOf v 31 31 == 1
  let was := s.flag Reg.MOT_SPN_SVC_EN
  if on = was then .next (s.write k v)
  else if !s.mot.held.isEmpty && (q != .mc3 || on) then .next (s.writeExcept k v 0x80000000).motRej
  else if on then
    if s.sstate ≠ 0 || !s.driven || s.get Reg.MOT_STATUS_STATE != 2 then .next (s.write k v)
    else if !s.spinAllowed then .next ((s.writeExcept k v 0x80000000).event Reg.MOT_STATUS_INTERLOCK_EV)
    else
      let s1 := ((s.write k v).put Reg.MOT_SPN_STATUS_SSTATE 7).bridgesOn 0 3
      .next { s1 with pwr := { s1.pwr with spindleOn := true },
                      mot := { s1.mot with hall := true, svcLost := false, mcZone := none } }
  else
    let s1 := s.write k v
    if s.sstate ≠ 7 then .next s1
    else
      match s.mot.mcZone with
      | some z => .next (s1.spinUp z)
      | none => .next s1.spindleBrake

/-- SERVICE_INPUT_LOST (14 R375, 15 R389): 10 ms without an edge in DUTY or FREQ. -/
def execServiceInputLost (spindle : Bool) (s : State) : Result :=
  if spindle then
    if s.sstate = 7 && !s.mot.svcLost && s.get Reg.MOT_SPN_SVC_SRC != 0 then
      .next (({ s with mot := { s.mot with svcLost := true } } : State).event Reg.MOT_STATUS_SVC_LOST_EV)
    else .next s
  else if s.flag Reg.SRV_SVC_EN && !s.srv.svcLost && s.get Reg.SRV_SVC_SRC != 0 then
    .next (({ s with srv := { s.srv with svcLost := true } } : State).event Reg.SRV_STATUS_SVC_LOST_EV)
  else .next s

/-- The target speed that SERVICE follows, in 0.1 rpm (15 R389). -/
def State.serviceSpeed (s : State) : Nat :=
  let lo := s.get Reg.MOT_SPN_SVC_MAP_RPM_MIN
  10 * (lo + (s.get Reg.MOT_SPN_SVC_MAP_RPM_MAX - lo) * s.get Reg.MOT_SPN_SVC_IN_N / 16383)

/-- SERVICE_INPUT_RETURN (14 R375, 15 R389): tracking resumes with the decoded input. -/
def execServiceInputReturn (spindle : Bool) (n : Nat) (s : State) : Result :=
  if spindle then
    if !s.mot.svcLost then .next s
    else
      let s1 := { s with mot := { s.mot with svcLost := false } }.put Reg.MOT_SPN_SVC_IN_N (min 16383 n)
      .next (s1.put Reg.MOT_SPN_TARGET_TARGET s1.serviceSpeed)
  else if !s.srv.svcLost then .next s
  else .next (({ s with srv := { s.srv with svcLost := false } } : State).put Reg.SRV_SVC_IN_N (min 16383 n))

/-- CURRENT_PREDICTION_LIMIT (15 R382): PRED_MAX predicted periods in a row. -/
def execCurrentPredictionLimit (s : State) : Result :=
  if s.mot.predicted < s.get Reg.MOT_SPN_SAMPLE_PRED_MAX then .next s
  else .next (({ s with mot := { s.mot with predicted := 0, scale := true } } : State).event Reg.MOT_STATUS_PREDICT_EV)

/-- KINETIC_ENERGY_UPDATE (15 R388): from the measured speed in 0.1 rpm, into the ride-through estimate. -/
def execKineticEnergyUpdate (speed : Nat) (s : State) : Result :=
  if !s.part.archive then .next s else
  let s1 := s.put Reg.MOT_SPN_STATUS_SPEED speed
  .next ((s1.put Reg.MOT_SPN_KE_KE (s1.kinetic (s1.get Reg.MOT_SPN_STATUS_SPEED))).budget)

/-- One half-bridge's pulse (15 R379): on-time, new carry, and whether it was set fully off or on. -/
def pulse (period minPulse : Nat) (carry treq : Int) : Int × Int × Bool :=
  let t := treq + carry
  let out : Int := if t < minPulse then 0 else if (period : Int) - minPulse < t then period else t
  (out, max (-(minPulse : Int)) (min minPulse (t - out)), decide (out ≠ t))

/-- Scale the spindle's requests about the centre until every low side conducts for SAMPLE_MIN (15 R382). -/
def scaleDown (period sampleMin : Nat) (treq : List (Nat × Int)) : List (Nat × Int) :=
  let mid : Int := (period : Int) / 2
  let top := treq.foldl (fun m e => if e.1 < 3 then max m (e.2 - mid) else m) 0
  let room := (period : Int) - sampleMin - mid
  treq.map (fun e => if e.1 < 3 && room < top then (e.1, mid + (e.2 - mid) * room / top) else e)

/-- Pulses of every enabled half-bridge that has a request (15 R379): CLAMPS counts those set fully off or on. -/
def State.pulses (s : State) (treq : List (Nat × Int)) : State :=
  treq.foldl (fun t e =>
    match t.mot.bridges.lookup e.1 with
    | none => t
    | some b =>
      let (out, carry, cut) := pulse (t.get Reg.MOT_PWM_PERIOD) (t.get Reg.MOT_PWM_MIN_PULSE) b.carry e.2
      let t1 := { t with mot := { t.mot with bridges := insertKey t.mot.bridges e.1 { carry, out } } }
      if cut then t1.inc Reg.MOT_CLAMPS else t1) s

/-- Phases of the spindle that are too narrow to sample in this period (15 R382). -/
def State.narrow (s : State) : Nat :=
  (s.mot.bridges.filter (fun b => decide (b.1 < 3) && decide ((s.get Reg.MOT_PWM_PERIOD : Int) - b.2.out <
    s.get Reg.MOT_SPN_SAMPLE_SAMPLE_MIN))).length

/-- Sampling of the spindle's currents (15 R382). -/
def State.sampleSpindle (s : State) : State :=
  if !s.pwr.spindleOn then s
  else
    match s.narrow with
    | 0 => { s with mot := { s.mot with predicted := 0 } }
    | 1 => ({ s with mot := { s.mot with predicted := 0 } } : State).inc Reg.MOT_SKIPS
    | _ => ({ s with mot := { s.mot with predicted := s.mot.predicted + 1 } } : State).inc Reg.MOT_PREDICTS

/-- ADC range of one current input for the next period (15 R380); the peak is in thousandths of the LOW full scale. -/
def State.range (s : State) (e : Nat × Nat) : State :=
  let (p, peak) := e
  let run := if peak < 200 then lookupD 0 s.mot.lowRuns p + 1 else 0
  let low := if 900 < peak then false else s.mot.low.contains p || decide (16 ≤ run)
  let rest := s.mot.low.filter (· != p)
  { s with mot := { s.mot with lowRuns := insertKey s.mot.lowRuns p run, low := if low then rest ++ [p] else rest } }

/-- RANGE shows the spindle phases in LOW range. -/
def State.showRange (s : State) : State :=
  s.put Reg.MOT_SPN_STATUS_RANGE ((if s.mot.low.contains 0 then 1 else 0) + (if s.mot.low.contains 1 then 2 else 0))

/-- Field weakening (15 R383): one step of I_RATED / 1,024 toward -ID_MIN or back to 0. -/
def State.weaken (s : State) (vmag : Nat) : State :=
  let thr := s.get Reg.MOT_SPN_FW_FW_THR
  let lim : Int := (s.get Reg.MOT_SPN_FW_ID_MIN * 1024 / max 1 (s.get Reg.MOT_SPN_MOTOR_I_RATED) : Nat)
  let id := s.mot.idRef
  let id' := if thr < vmag then max (-lim) (id - 1) else if vmag + 32 < thr then min 0 (id + 1) else id
  { s with mot := { s.mot with idRef := id' } }

/-- The iq reference (15 R383, R384): speed controller plus FF2, within the motoring, braking and rated limits; 0.01 A / 8,191. -/
def State.iqReference (s : State) (iq : Int) (rotor : BitVec 32) : Int :=
  let rated := s.get Reg.MOT_SPN_MOTOR_I_RATED
  let raw := iq * 8191 + s.ffSum 4 rotor rotor * rated
  let motor : Int := (s.torqueG * rated * 8191 / 1024 : Nat)
  let brake : Int := (s.get Reg.MOT_SPN_MOTOR_BRAKE_I * 8191 : Nat)
  let id := s.mot.idRef.natAbs * rated * 8191 / 1024
  let room : Int := (rootDown 2 ((rated * 8191) * (rated * 8191) - id * id) 26 0 : Nat)
  let r := max (-brake) (min motor raw)
  max (-room) (min room r)

/-- Microstep resolution after the commanded speed in full steps/s (15 R391): thresholds MS_BASE x 2^i, passed downward only below 7/8;
a coarser one takes effect on a step of the new resolution. -/
def msNext (base k : Nat) (pos : Int) (v : Nat) : Nat :=
  let up := (List.range 8).countP (fun i => decide (base * 2 ^ i < v))
  let down := (List.range 8).countP (fun i => decide (7 * base * 2 ^ i ≤ 8 * v))
  let k' := max up (min k down)
  if k < k' && pos % 2 ^ k' ≠ 0 then k else k'

/-- The sled's commanded sweep velocity (15 R393): SWEEP_V plus the tracking integrator times FOLLOW, within 4 x |SWEEP_V|. -/
def State.sweepSpeed (s : State) (a : Nat) : Int :=
  let v := (s.axis a).sweepV
  if a = 0 && s.lstate 1 = 2 then
    let f := (s.loop 1).integ * s.get Reg.MOT_AXIS_FOLLOW_FOLLOW 0 / (256 * 1024)
    v + max (-(4 * v.natAbs : Nat) : Int) (min (4 * v.natAbs : Nat) f)
  else v

/-- Current amplitude of a stepper axis (15 R390), 0.01 A / 8,191: RUN_I with its friction table, HOLD_I at standstill. -/
def State.axisAmp (s : State) (a : Nat) (rotor : BitVec 32) : Int :=
  if (s.axis a).held then (s.get Reg.MOT_AXIS_CFG_HOLD_I a * 8191 : Nat)
  else (s.get Reg.MOT_AXIS_CFG_RUN_I a : Int) * 8191 + s.ffSum (5 + a) rotor rotor * s.get Reg.MOT_AXIS_CFG_RUN_I a

/-- A moving axis at its place along the profile (15 R391-R393). -/
def State.axisAt (s : State) (e : Nat × Int × Nat) : State :=
  let (a, pos, v) := e
  if !s.flag Reg.MOT_AXIS_STATUS_MOVING a || 3 ≤ a then s
  else
    let s1 := s.putInt Reg.MOT_AXIS_POS_POS pos a
    let s2 := s1.put Reg.MOT_AXIS_STATUS_MS_K (msNext (s1.get Reg.MOT_AXIS_CFG_MS_BASE a) (s1.get Reg.MOT_AXIS_STATUS_MS_K a) pos v) a
    if s2.get Reg.MOT_AXIS_STATUS_KIND a = 2 then s2.setAxis a { s2.axis a with cmdV := s2.sweepSpeed a } else s2

/-- Stepper amplitudes of the axes whose bridges are on (15 R390). -/
def State.regulate (s : State) (rotor : BitVec 32) : State :=
  s.pwr.axesOn.foldl (fun t a => t.setAxis a { t.axis a with amp := t.axisAmp a rotor }) s

/-- Regenerative braking at V_REGEN_MAX (15 R387): REGEN_LIMITS counts each time the limit takes hold. -/
def State.regenLimit (s : State) : State :=
  let above := s.sstate == 5 && decide (s.get Reg.MOT_SPN_BRAKE_V_REGEN_MAX < senseTenths s.pwr.vbus (s.get Reg.PWR_SENSE_CFG_VDIV))
  let s1 := if above && !s.mot.regenLim then s.inc Reg.MOT_REGEN_LIMITS else s
  { s1 with mot := { s1.mot with regenLim := above } }

/-- SPINDLE_REF was measured (15 R389): in SERVICE the decoded input sets the target speed. -/
def State.spindleRef (s : State) (a : Option AuxIn) : State :=
  match a with
  | none => s
  | some m =>
    if s.sstate != 7 || s.mot.svcLost then s
    else
      match s.decodeAux (s.get Reg.MOT_SPN_SVC_SRC) (s.get Reg.MOT_SPN_SVC_F_MIN) (s.get Reg.MOT_SPN_SVC_F_MAX) m with
      | (some n, s1) =>
        let t := s1.put Reg.MOT_SPN_SVC_IN_N n
        t.put Reg.MOT_SPN_TARGET_TARGET t.serviceSpeed
      | (none, _) => s

/-- The speed reference, in 10^-9 rpm, is renewed every 8 periods (15 R384, R386): toward the target by ACC rpm/s at most, with the
phase feed in PHASE_ACQ and PHASE_LOCK. -/
def State.speedReference (s : State) : State :=
  let n := (s.mot.periods + 1) % 8
  let s1 : State := { s with mot := { s.mot with periods := n } }
  if n ≠ 0 then s1
  else
    let goal := s.get Reg.MOT_SPN_TARGET_TARGET * 10 ^ 8
    let step := s.get Reg.MOT_SPN_ACC_ACC * s.get Reg.MOT_PWM_PERIOD * 40
    let r := s.mot.speedRef
    let r' := if r < goal then min goal (r + step) else max goal (r - step)
    let fed := s.sstate == 3 || s.sstate == 4
    let feed := if fed then s.getInt Reg.MOT_SPN_PHASE_PHASE_ERR * s.get Reg.MOT_SPN_ACC_PH_GAIN * 10 ^ 9 / 65536 else 0
    { s1 with mot := { s1.mot with speedRef := r', phaseFeed := feed } }

/-- PWM_PERIOD (15 R378-R384, R386, R387, R389-R393).  The current and speed controllers' outputs and the profile's positions come with the
command: their gains, motor model and numeric solution are not in the spec (log 50). -/
def execPwmPeriod (i : PwmInput) (s : State) : Result :=
  let treq := if s.mot.scale then scaleDown (s.get Reg.MOT_PWM_PERIOD) (s.get Reg.MOT_SPN_SAMPLE_SAMPLE_MIN) i.treq else i.treq
  let s1 := (({ s with mot := { s.mot with scale := false } } : State).pulses treq).sampleSpindle
  let s2 := ((i.peaks.foldl State.range s1).showRange)
  let s3 := if s2.pwr.spindleOn then s2.weaken i.vmag else s2
  let s4 := { s3 with mot := { s3.mot with iqRef := if s3.pwr.spindleOn then s3.iqReference i.iq i.rotor else 0 } }
  .next ((((i.axes.foldl State.axisAt s4).regulate i.rotor).regenLimit).spindleRef i.ref).speedReference

/-- An axis command is accepted from this requester (15 R397, R399): not while the mechanism is held, but for MC3; no move in SAVE. -/
def State.axisHeld (s : State) (q : Requester) : Bool := !s.mot.held.isEmpty && q != .mc3

/-- A move of axis `a` under the unit's state, R394, R396 and R399: `needsPos` says that the move needs POS_VALID. -/
def State.tryMove (s : State) (q : Requester) (a : Nat) (needsPos : Bool) (move : State → State) : State :=
  if !s.archived then s
  else if s.axisHeld q || (needsPos && !s.posValid a) then s.motRej
  else if s.get Reg.MOT_STATUS_STATE != 2 || s.get Reg.PWR_HOLDUP_STATUS_STATE = 2 || s.pwr.vdrvLow || !s.driven then s
  else if !s.moveAllowed a then s.event Reg.MOT_STATUS_INTERLOCK_EV
  else move s

/-- SEEK (15 R393). -/
def execSeek (q : Requester) (a : AxisIx) (s : State) : Result :=
  if s.barShut q then .next (s.barAnswer q true) else
  .next (s.tryMove q a.val true fun t => t.startMove a.val 1 (t.getInt Reg.MOT_AXIS_TARGET_TARGET a.val) 0)

/-- SWEEP (15 R393). -/
def execSweep (q : Requester) (a : AxisIx) (s : State) : Result :=
  if s.barShut q then .next (s.barAnswer q true) else
  .next (s.tryMove q a.val true fun t =>
    t.startMove a.val 2 (t.getInt Reg.MOT_AXIS_TARGET_TARGET a.val) (t.getInt Reg.MOT_AXIS_SWEEP_V_SWEEP_V a.val))

/-- AXIS_STOP (15 R393): decelerates along the profile. -/
def execAxisStop (q : Requester) (a : AxisIx) (s : State) : Result :=
  if s.barShut q then .next (s.barAnswer q true)
  else if !s.archived then .next s
  else if s.axisHeld q then .next s.motRej else .next (s.stopMove a.val)

/-- AXIS_RESUME (15 R393): only after a sweep's stop with REMAIN nonzero, a valid position and no move since. -/
def execAxisResume (q : Requester) (a : AxisIx) (s : State) : Result :=
  if s.barShut q then .next (s.barAnswer q true)
  else if !s.archived then .next s else
  let x := s.axis a.val
  match x.resume with
  | some (target, v) =>
    if s.getInt Reg.MOT_AXIS_REMAIN_REMAIN a.val = 0 || x.moved then .next s.motRej
    else .next (s.tryMove q a.val true fun t => t.startMove a.val 2 target v)
  | none => .next s.motRej

/-- Begin homing (15 R394): an axis that stands on its switch backs off first (log 51). -/
def State.startHome (s : State) (a : Nat) : State :=
  let x := s.axis a
  let s1 := s.setAxis a { x with homing := some (if x.switchOn then .backOff else .approach), homeStart := s.axisPos a }
  s1.startMove a 3 0 0

/-- HOME (15 R394). -/
def execHome (q : Requester) (a : AxisIx) (s : State) : Result :=
  if s.barShut q then .next (s.barAnswer q true)
  else .next (s.tryMove q a.val false fun t => t.startHome a.val)

/-- PARK (15 R395; `CMD`): the sled only; a SEEK to PARK_POS. -/
def execPark (q : Requester) (a : AxisIx) (s : State) : Result :=
  if s.barShut q then .next (s.barAnswer q true)
  else if a.val ≠ 0 then .next s
  else .next (s.tryMove q 0 true fun t => t.startMove 0 1 (t.getInt Reg.MOT_AXIS_PARK_PARK_POS 0) 0)

/-- An axis comes to standstill: HOLD, KIND NONE. -/
def State.standAt (s : State) (a : Nat) (pos : Int) : State :=
  let s1 := (s.putInt Reg.MOT_AXIS_POS_POS pos a).put Reg.MOT_AXIS_STATUS_ASTATE 1 a
  ((s1.setFlag Reg.MOT_AXIS_STATUS_MOVING false a).put Reg.MOT_AXIS_STATUS_KIND 0 a).put Reg.MOT_AXIS_STATUS_MS_K 0 a

/-- AXIS_MOVE_COMPLETE (15 R392-R394): a move reaches its target, or a stop its standstill at `pos`; after a sweep's stop REMAIN is
TARGET - POS; a homing axis that stopped on its switch backs off. -/
def execAxisMoveComplete (a : AxisIx) (pos : Int) (s : State) : Result :=
  let a := a.val
  let x := s.axis a
  if !s.flag Reg.MOT_AXIS_STATUS_MOVING a then .next s
  else
    let stopped := s.get Reg.MOT_AXIS_STATUS_ASTATE a == 3
    match s.get Reg.MOT_AXIS_STATUS_KIND a, x.homing with
    | 3, some .approach =>
      if x.switchOn && stopped then
        .next ((s.setAxis a { x with homing := some .backOff }).put Reg.MOT_AXIS_STATUS_ASTATE 2 a)
      else .next s
    | 3, some _ => .next s
    | 2, _ =>
      let at_ := if stopped then pos else x.target
      let s1 := (s.standAt a at_).putInt Reg.MOT_AXIS_REMAIN_REMAIN (x.target - at_) a
      .next (s1.setAxis a { x with moved := false, resume := some (x.target, x.sweepV), cmdV := 0 })
    | 1, _ => .next (s.standAt a (if stopped then pos else x.target))
    | _, _ => .next (s.standAt a pos)

/-- AXIS_STANDSTILL (15 R390): 100 ms at standstill, the amplitude is HOLD_I. -/
def execAxisStandstill (a : AxisIx) (s : State) : Result :=
  if s.flag Reg.MOT_AXIS_STATUS_MOVING a.val then .next s
  else .next (s.setAxis a.val { s.axis a.val with held := true })

/-- HOME_SWITCH_EDGE (15 R394): the phases of homing; the asserting edge of the last approach sets the position. -/
def execHomeSwitchEdge (a : AxisIx) (asserted : Bool) (s : State) : Result :=
  let a := a.val
  let x := { s.axis a with switchOn := asserted }
  let s1 := s.setAxis a x
  if s.get Reg.MOT_AXIS_STATUS_KIND a ≠ 3 then .next s1
  else
    match x.homing, asserted with
    | some .approach, true => .next (s1.put Reg.MOT_AXIS_STATUS_ASTATE 3 a)
    | some .backOff, false => .next (s1.setAxis a { x with homing := some .final })
    | some .final, true =>
      let s2 := (s1.setAxis a { x with homing := none }).putInt Reg.MOT_AXIS_POS_POS (s.getInt Reg.MOT_AXIS_HOME_HOME_POS a) a
      .next ((s2.setFlag Reg.MOT_AXIS_STATUS_POS_VALID true a).put Reg.MOT_AXIS_STATUS_ASTATE 3 a)
    | _, _ => .next s1

/-- An exchange ends in failure (15 R398): its command completes with a status; the mechanism stops where it stands. -/
def State.exchangeFail (s : State) (status : Nat) : State :=
  match s.mot.exchange with
  | none => s
  | some x =>
    let s1 := { s with mot := { s.mot with exchange := none } }
    let s2 := [0, 1, 2].foldl State.stopMove s1
    match x.cmd with
    | some c => s2.finish c status 0
    | none => s2

/-- HOME_FAIL (15 R394, R398): at `pos`, the switch was not found within HOME_MAX x 256 microsteps of where homing began. -/
def execHomeFail (a : AxisIx) (s : State) (pos : Int := 0) : Result :=
  let a := a.val
  if s.get Reg.MOT_AXIS_STATUS_KIND a ≠ 3 || (s.axis a).homing.isNone ||
      decide ((pos - (s.axis a).homeStart).natAbs < 256 * s.get Reg.MOT_AXIS_HOME_LIM_HOME_MAX a) then .next s
  else
    let s1 := s.setAxis a { s.axis a with homing := none }
    let s2 := ((s1.put Reg.MOT_AXIS_STATUS_ASTATE 4 a).setFlag Reg.MOT_AXIS_STATUS_MOVING false a).put Reg.MOT_AXIS_STATUS_KIND 0 a
    .next ((s2.event Reg.MOT_STATUS_HOME_FAIL_EV).exchangeFail 0x0D)

/-- EXCHANGE_STEP_TIMEOUT (15 R398). -/
def execExchangeStepTimeout (s : State) : Result := .next (s.exchangeFail 0x0D)

/-- DISC_SENSE_CHANGE (15 R398): the level that confirms pick or clamp. -/
def execDiscSenseChange (asserted : Bool) (s : State) : Result := .next { s with mot := { s.mot with discSense := asserted } }

/-- Steps of DISC_LOAD (15 R398). -/
def loadActs (slot : Nat) : List (Nat × XAct) :=
  [(1, .homeAxis 0), (1, .parkSled), (1, .homeAxis 1), (1, .liftXfer), (1, .homeAxis 2), (2, .liftXfer), (2, .shuttleSlot slot),
   (2, .journal slot), (3, .liftCart), (3, .pick), (4, .liftXfer), (4, .shuttleClear), (5, .liftSpin), (5, .clamp), (5, .liftXfer),
   (6, .spin), (6, .lock 0), (6, .lock 1), (6, .lock 2), (6, .lock 3)]

/-- Steps of DISC_EJECT from a slot (15 R398). -/
def ejectActs (slot : Nat) : List (Nat × XAct) :=
  [(1, .opticsOff), (2, .brake), (3, .parkSled), (4, .liftSpin), (4, .unclamp), (4, .liftXfer), (5, .shuttleSlot slot), (6, .liftCart),
   (6, .putBack), (7, .liftXfer)]

/-- Return of the disc on the fork after a reset (15 R399). -/
def returnActs (slot : Nat) : List (Nat × XAct) :=
  [(1, .homeAxis 0), (1, .parkSled), (1, .homeAxis 1), (1, .liftXfer), (1, .homeAxis 2), (5, .shuttleSlot slot), (6, .liftCart),
   (6, .putBack), (7, .liftXfer)]

/-- Shuttle position of a slot (15 R398). -/
def State.slotPos (s : State) (slot : Nat) : Int :=
  s.xPos Reg.MOT_XCHG_SLOT0 + slot * s.xPos Reg.MOT_XCHG_SLOT_PITCH

/-- An axis stands at a position. -/
def State.standsAt (s : State) (a : Nat) (p : Int) : Bool :=
  !s.flag Reg.MOT_AXIS_STATUS_MOVING a && s.posValid a && s.axisPos a == p

/-- What an action waits for (15 R398). -/
def State.actDone (s : State) : XAct → Bool
  | .homeAxis a => s.posValid a && !s.flag Reg.MOT_AXIS_STATUS_MOVING a
  | .parkSled => s.standsAt 0 (s.getInt Reg.MOT_AXIS_PARK_PARK_POS 0)
  | .liftCart => s.standsAt 1 (s.xPos Reg.MOT_XCHG_LIFT_CART)
  | .liftXfer => s.standsAt 1 (s.xPos Reg.MOT_XCHG_LIFT_XFER)
  | .liftSpin => s.standsAt 1 (s.xPos Reg.MOT_XCHG_LIFT_SPIN)
  | .shuttleSlot k => s.standsAt 2 (s.slotPos k)
  | .shuttleClear => s.standsAt 2 (s.xPos Reg.MOT_XCHG_SHUTTLE_CLEAR)
  | .journal _ => true
  | .pick | .unclamp => s.mot.discSense
  | .clamp | .putBack => !s.mot.discSense
  | .spin => s.sstate == 4
  | .lock l => s.lstate l == 2
  | .opticsOff => true
  | .brake => s.sstate == 0

/-- A SEEK of an exchange, under the interlocks (15 R396). -/
def State.xMove (s : State) (a : Nat) (p : Int) : State :=
  if s.moveAllowed a then s.startMove a 1 p 0 else s.event Reg.MOT_STATUS_INTERLOCK_EV

/-- What MC3 does to begin an action (15 R398). -/
def State.actIssue (s : State) : XAct → State
  | .homeAxis a => if s.posValid a then s else if s.moveAllowed a then s.startHome a else s
  | .parkSled => s.parkSled
  | .liftCart => s.xMove 1 (s.xPos Reg.MOT_XCHG_LIFT_CART)
  | .liftXfer => s.xMove 1 (s.xPos Reg.MOT_XCHG_LIFT_XFER)
  | .liftSpin => s.xMove 1 (s.xPos Reg.MOT_XCHG_LIFT_SPIN)
  | .shuttleSlot k => s.xMove 2 (s.slotPos k)
  | .shuttleClear => s.xMove 2 (s.xPos Reg.MOT_XCHG_SHUTTLE_CLEAR)
  | .journal k => (s.journalPut 4 0x1E00000 2 [BitVec.ofNat 8 k]).journalCompact 4 0x1E00000
  | .spin => s.spindleStart 0
  | .opticsOff => s.lasersOff.loopsOff
  | .brake => s.spindleBrake
  | .pick | .unclamp | .clamp | .putBack | .lock _ => s

/-- The disc changes hands when an action is done (15 R398). -/
def State.actEffect (s : State) (slot : Nat) : XAct → State
  | .pick =>
    match s.och.cartridge with
    | some c => { s with och := { s.och with fork := c.getD slot none, cartridge := some (c.set slot none), slot } }
    | none => s
  | .clamp => { s with och := { s.och with disc := s.och.fork, fork := none }, mot := { s.mot with clamped := true } }
  | .unclamp => { s with och := { s.och with fork := s.och.disc, disc := none }, mot := { s.mot with clamped := false } }
  | .putBack =>
    match s.och.cartridge with
    | some c => { s with och := { s.och with cartridge := some (c.set s.och.slot s.och.fork), fork := none } }
    | none => s
  | _ => s

/-- An action moves an axis or starts the spindle: none begins once RIDE or SAVE has begun (15 R399). -/
def XAct.moves : XAct → Bool
  | .journal _ | .opticsOff | .brake | .pick | .clamp | .unclamp | .putBack | .lock _ => false
  | _ => true

/-- One move forward of the exchange in progress (15 R398-R400): the action that was issued ends when its condition holds, the next is
begun while MC3 runs and MOT is RUNNING.  In RIDE a load ends with MEDIA_ERROR before its next move; in SAVE no move starts. -/
def State.exchangeStep (s : State) (x : Exchange) : State :=
  match x.acts with
  | [] => s
  | (_, act) :: rest =>
    if x.issued then
      if s.actDone act then
        let s1 := s.actEffect x.slot act
        { s1 with mot := { s1.mot with exchange := some { x with acts := rest, issued := false } } }
      else s
    else if !s.mc3Runs || s.get Reg.MOT_STATUS_STATE != 2 || !s.driven then s
    else if act.moves && s.get Reg.PWR_HOLDUP_STATUS_STATE = 2 then s
    else if act.moves && x.load && s.get Reg.PWR_HOLDUP_STATUS_STATE = 1 then s.exchangeFail 0x0D
    else
      let s1 := if s.actDone act && act.moves then s else s.actIssue act
      { s1 with mot := { s1.mot with exchange := some { x with issued := true } } }

/-- DISC_RETURN_AFTER_RESET (15 R399; 01 R20): after a reset that found DISC_SENSE_N asserted, and with no exchange, MC3 starts to return the disc on the fork to the slot
of the newest journal entry; without an entry archive commands fail until the cartridge is reinserted.  It also moves a return in
progress forward. -/
def execDiscReturnAfterReset (s : State) : Result :=
  match s.mot.exchange with
  | some x =>
    if x.cmd.isSome then .next s
    else if x.acts.isEmpty then .next { s with mot := { s.mot with exchange := none } }
    else .next (s.exchangeStep x)
  | none =>
    if !s.mot.forkFound || !s.mot.discSense || s.mot.clamped || !s.mc3Runs then .next s
    else
      match currentOf (s.journalEntries 4 0x1E00000) 2 with
      | none => .next { s with mot := { s.mot with noSlot := true, forkFound := false } }
      | some (i, g, n, _, _) =>
        let e := s.flashRead (0x1E00000 + 4096 * i + 32 * g) (32 * n)
        let slot := fieldAt e 8 1
        .next { s with mot := { s.mot with forkFound := false,
                                           exchange := some { cmd := none, load := false, slot, acts := returnActs slot, issued := false } },
                       och := { s.och with slot } }

/-- VDRV_UNDERVOLTAGE (22 R526): every high side turns off, BRAKE_SHORT stays in place. -/
def execVdrvUndervoltage (s : State) : Result :=
  .next { s with pwr := { s.pwr with vdrvLow := true },
                 mot := { s.mot with bridges := s.mot.bridges.map (fun b => (b.1, { b.2 with out := 0 })) } }

/-- VDRV_RECOVERY (22 R526). -/
def execVdrvRecovery (s : State) : Result := .next { s with pwr := { s.pwr with vdrvLow := false } }

/-- CART_PRESENT_CHANGE (15 R398, R399): the cartridge removed or inserted; a reinserted one ends the condition of a disc of unknown
slot. -/
def execCartPresentChange (cart : Option Cartridge) (s : State) : Result :=
  let s1 := { s with och := { s.och with cartridge := cart } }
  .next { s1 with mot := { s1.mot with cartPresent := cart.isSome, noSlot := s1.mot.noSlot && cart.isNone } }

/-- MOT_PWM_WRITE (15, `PWM`): discarded whole when inconsistent, and with CFG_REJ while a bridge is enabled. -/
def execMotPwmWrite (v : Word) (s : State) : Result :=
  let k := Reg.MOT_PWM_PERIOD.base
  let w := s.written k v
  if !s.archived then .next s
  else if !s.mot.bridges.isEmpty then .next (if w = s.rd k then s else s.motRej)
  else if bitsOf w 15 8 < bitsOf w 7 0 || bitsOf w 31 16 < 4 * bitsOf w 15 8 then .next s
  else .next (s.wr k w)

/-- MOT's enable bit (15 R400; 02 R46): leaving RUNNING stops an archive write resumably, brakes the spindle, stops sweeps and parks the
sled. -/
def State.motEnable (s : State) (b : Bool) : State :=
  let s1 := if !b && s.get Reg.MOT_STATUS_STATE = 2 then
      let t := (s.archiveStop (some 0x15)).spindleBrake
      let u := [0, 1, 2].foldl (fun t a => if t.get Reg.MOT_AXIS_STATUS_KIND a = 2 then t.stopMove a else t) t
      if u.get Reg.MOT_AXIS_STATUS_KIND 0 = 2 then u else u.parkSled
    else s
  s1.enableWrite motUnit b

/-- MOT_DISABLE (15 R400). -/
def execMotDisable (s : State) : Result := if s.archived then .next (s.motEnable false) else .next s

/-- MOT_CNT_CLR (15, "Registers"). -/
def execMotCntClr (s : State) : Result :=
  if !s.archived then .next s
  else .next (((((s.put Reg.MOT_SKIPS 0).put Reg.MOT_PREDICTS 0).put Reg.MOT_CLAMPS 0).put Reg.MOT_PHASE_LOSS 0).put Reg.MOT_REGEN_LIMITS 0)

end Sys2Proof.Machine
end

