-- ==== Sys2Proof/Machine/Zad3.lean ====
section
/-!
DEFINITION. The ZAD-3 disc format (12): geometry, addresses, folios with their codes, the disc information, directory, relocation
table and manifest, and the open session.
-/
namespace Sys2Proof.Machine

/-- Folios per zone track, and user folios of them (12 R313, R319). -/
def zoneFolios (z : Nat) : Nat := (157500 + 5625 * z) / 32
def zoneUser (z : Nat) : Nat := zoneFolios z - 192 - (if z = 0 then 64 else 0)

/-- Zones of a layer in recording order (12 R304, R321). -/
def zoneOrder (layer : Nat) : List Nat := if layer % 2 = 0 then List.range 32 else (List.range 32).reverse

/-- User folios of a layer and of a disc (12 R303). -/
def layerFolios : Nat := 3815424
def discFolios : Nat := 45785088

/-- A physical folio address (12 R320). -/
def pfaOf (layer zone track n : Nat) : Nat := layer * 2 ^ 28 + zone * 2 ^ 23 + track * 2 ^ 19 + n
def pfaLayer (p : Nat) : Nat := p / 2 ^ 28
def pfaZone (p : Nat) : Nat := p / 2 ^ 23 % 32
def pfaTrack (p : Nat) : Nat := p / 2 ^ 19 % 16
def pfaIndex (p : Nat) : Nat := p % 2 ^ 14

/-- Zone, and place within the zone, of the k-th user folio of a layer (12 R321). -/
def findZone : List Nat → Nat → Nat × Nat
  | [], k => (0, k)
  | z :: r, k => if k < 16 * zoneUser z then (z, k) else findZone r (k - 16 * zoneUser z)

/-- A logical folio number's own position (12 R321). -/
def lfnPfa (lfn : Nat) : Nat :=
  let layer := lfn / layerFolios
  let (z, k) := findZone (zoneOrder layer) (lfn % layerFolios)
  pfaOf layer z (k % 16) (k / 16 + (if z = 0 then 64 else 0))

/-- Data-field bits of a segment, and the place at which a folio of a track starts: band, wedge, bit (12 R305, R321). -/
def segmentData (z : Nat) : Nat := 6300 + 225 * z
def folioStart (z n : Nat) : Nat × Nat × Nat :=
  let off := n * 983040
  let seg := off / segmentData z
  (seg / 480, seg % 480, off % segmentData z)

/-- Data row `r` of a data area (12 R316). -/
def dataRow (area : List Byte) (r : Nat) : List Nat := ((area.drop (228 * r)).take 228).map BitVec.toNat

/-- Outer parity of column `c` in interleave `i`: 16 symbols (12 R315). -/
def outerCheck (rows : List (List Nat)) (i c : Nat) : List Nat :=
  rsCheck 16 ((List.range 144).map (fun k => (rows.getD (i + 2 * k) []).getD c 0))

/-- The 320 rows' data-area bytes: 288 of data, 32 of outer parity (12 R315). -/
def outerRows (area : List Byte) : List (List Nat) :=
  let rows := (List.range 288).map (dataRow area)
  let par := (List.range 2).map (fun i => (List.range 228).map (fun c => outerCheck rows i c))
  rows ++ (List.range 32).map (fun q =>
    (List.range 228).map (fun c => ((par.getD (q % 2) []).getD c []).getD (q / 2) 0))

/-- Row sync pattern (12 R308). -/
def rowSync : List Bool := (List.range 24).map (fun i => (0x402012 : Nat).testBit (23 - i))

/-- Channel bits of row `r` of the folio at index `n` of its track (12 R307, R308, R314, R315). -/
def rowBits (n r : Nat) (row : List Nat) : List Bool :=
  let id := r + 512 * (n % 128)
  let word := [id % 256, id / 256] ++ row
  let code := word ++ rsCheck 24 word
  rowSync ++ modulate ((code.map (fun b => byteInputs (BitVec.ofNat 8 b))).flatten)

/-- Channel bits of a folio's rows (12 R313-R316). -/
def folioBits (n : Nat) (area : List Byte) : List (List Bool) :=
  (outerRows area).zipIdx.map (fun e => rowBits n e.2 e.1)

/-- What a folio header says beside its place (12 R317). -/
def folioArea (kind flags pfa lfn imago poison extent extFolio lba time : Nat) (discId user : List Byte) : List Byte :=
  let h := leBytes 4 0x4F46595A ++ leBytes 2 3 ++ leBytes 1 kind ++ leBytes 1 flags ++ leBytes 4 pfa ++ leBytes 4 lfn ++
    leBytes 2 imago ++ leBytes 2 poison ++ leBytes 4 extent ++ leBytes 4 extFolio ++ zeros 4 ++ leBytes 8 lba ++ leBytes 8 time ++
    (padTo 16 discId).take 16 ++ leBytes 4 (crc32 user) ++ zeros 56
  h ++ leBytes 4 (crc32 h) ++ user

/-- The same content in a spare folio (12 R322; 13 R346): SPARE, its own PFA, a new WRITE_TIME. -/
def spareArea (area : List Byte) (pfa time : Nat) : List Byte :=
  let a1 := patch area 7 [BitVec.ofNat 8 (fieldAt area 7 1 ||| 1)]
  let a2 := patch (patch a1 8 (leBytes 4 pfa)) 0x28 (leBytes 8 time)
  patch a2 0x7C (leBytes 4 (crc32 (a2.take 0x7C)))

/-- Fields of a folio header (12 R317). -/
def hdrKind (a : List Byte) : Nat := fieldAt a 6 1
def hdrFlags (a : List Byte) : Nat := fieldAt a 7 1
def hdrLfn (a : List Byte) : Nat := fieldAt a 0xC 4
def hdrPoison (a : List Byte) : Nat := fieldAt a 0x12 2
def hdrTime (a : List Byte) : Nat := fieldAt a 0x28 8
def userOf (a : List Byte) : List Byte := a.drop 128

/-- A folio is recorded (12 R306). -/
def recorded (d : Disc) (pfa : Nat) : Bool := (d.folios.lookup pfa).isSome

/-- A recorded folio that counts as written (13 R343). -/
def goodFolio (d : Disc) (pfa : Nat) : Option (List Byte) :=
  if d.failed.contains pfa then none else d.folios.lookup pfa

/-- Spare folios of a zone track: the last 192 indices (12 R319). -/
def isSpare (pfa : Nat) : Bool :=
  let f := zoneFolios (pfaZone pfa)
  decide (f - 192 ≤ pfaIndex pfa) && decide (pfaIndex pfa < f)

/-- The spare that stands in for an LFN: the latest by WRITE_TIME of those that count as written (12 R323). -/
def standIn (d : Disc) (lfn : Nat) : Option Nat :=
  ((d.folios.filter (fun e => isSpare e.1 && hdrLfn e.2 == lfn && hdrFlags e.2 % 2 == 1 && !d.failed.contains e.1)).foldl
    (fun (m : Option (Nat × Nat)) e =>
      match m with
      | none => some (e.1, hdrTime e.2)
      | some x => if x.2 ≤ hdrTime e.2 then some (e.1, hdrTime e.2) else some x) none).map Prod.fst

/-- User data of directory slot `k`, 0 to 755: a copy that counts as written (12 R325). -/
def slotEntry (d : Disc) (k : Nat) : Option (List Byte) :=
  ((List.range 16).findSome? (fun t => goodFolio d (pfaOf (k / 63) 0 t (1 + k % 63)))).map userOf

/-- The next free directory slot (12 R325). -/
def nextSlot (d : Disc) : Option Nat :=
  (List.range 756).find? (fun k => !(List.range 16).any (fun t => recorded d (pfaOf (k / 63) 0 t (1 + k % 63))))

/-- Directory entries in slot order: imago number and user data (12 R325). -/
def directory (d : Disc) : List (Nat × List Byte) :=
  (List.range 756).filterMap (fun k =>
    match slotEntry d k with
    | some u => if fieldAt u 0 4 = 0x4453595A && fieldAt u 4 2 = 3 then some (fieldAt u 6 2, u) else none
    | none => none)

/-- The entry that decides for an imago: the later slot (12 R325). -/
def imagoEntry (d : Disc) (im : Nat) : Option (List Byte) := (directory d).reverse.lookup im

/-- Highest imago number sealed, and the END_LFN after it (12 R325, R326). -/
def lastImago (d : Disc) : Nat := (directory d).foldl (fun m e => max m e.1) 0
def sealedEnd (d : Disc) : Nat :=
  match imagoEntry d (lastImago d) with
  | some u => fieldAt u 0x1C 4
  | none => 0

/-- Disc information: the readable copies' user data (12 R324). -/
def discInfos (d : Disc) : List (List Byte) :=
  ((List.range 12).map (fun l => (List.range 16).filterMap (fun t => (goodFolio d (pfaOf l 0 t 0)).map userOf))).flatten

/-- A relocation entry (12 R322). -/
def relocEntry (lfn pfa : Nat) : List Byte := leBytes 4 lfn ++ leBytes 4 pfa

/-- Look an LFN up in relocation entries (12 R322). -/
def relocLookup : Nat → List Byte → Nat → Option Nat
  | 0, _, _ => none
  | n + 1, b, lfn => if fieldAt b 0 4 = lfn then some (fieldAt b 4 4) else relocLookup n (b.drop 8) lfn

/-- An LFN by its imago's TAIL list or else its own position (12 R323, without the table). -/
def tailResolve (u : List Byte) (lfn : Nat) : Nat :=
  (relocLookup (fieldAt u 0x54 1) (u.drop 0x60) lfn).getD (lfnPfa lfn)

/-- The relocation table of a directory entry, as recorded (12 R322, R325). -/
def relocTable (d : Disc) (u : List Byte) : List Byte :=
  ((List.range (fieldAt u 0x10 4)).map (fun i =>
    match d.folios.lookup (tailResolve u (fieldAt u 0xC 4 + i)) with
    | some a => userOf a
    | none => zeros 65536)).flatten

/-- Where an LFN is read (12 R323). -/
def resolve (d : Disc) (lfn : Nat) : Nat :=
  match (directory d).reverse.find? (fun e => decide (fieldAt e.2 8 4 ≤ lfn) && decide (lfn < fieldAt e.2 0x1C 4) &&
      imagoEntry d e.1 == some e.2) with
  | some (_, u) =>
    match relocLookup (fieldAt u 0x54 1) (u.drop 0x60) lfn with
    | some p => p
    | none => (relocLookup (8192 * fieldAt u 0x10 4) (relocTable d u) lfn).getD (lfnPfa lfn)
  | none => (standIn d lfn).getD (lfnPfa lfn)

/-- The open session's first LFN for which nothing is recorded, from `lfn` on (12 R328). -/
def sessionEnd (d : Disc) : Nat → Nat → Nat
  | 0, lfn => lfn
  | n + 1, lfn =>
    if recorded d (lfnPfa lfn) || d.folios.any (fun e => isSpare e.1 && hdrLfn e.2 == lfn && hdrFlags e.2 % 2 == 1) then
      sessionEnd d n (lfn + 1)
    else lfn

/-- The end of the open session of a disc (12 R328). -/
def openEnd (d : Disc) : Nat := sessionEnd d (d.folios.length + 1) (sealedEnd d)

/-- An extent of the open session as its folios' headers show it (12 R328); BLOCKS counts whole folios. -/
def rebuiltExtent (d : Disc) (per : Nat) (l : List Extent) (lfn : Nat) : List Extent :=
  match d.folios.lookup (resolve d lfn) with
  | none => l
  | some a =>
    let k := fieldAt a 0x14 4
    let f := hdrFlags a
    let grow := fun (e : Extent) =>
      { e with blocks := e.blocks + per, folios := e.folios + 1, encrypted := e.encrypted || f / 2 % 2 == 1,
               takeCipher := e.takeCipher || f / 4 % 2 == 1, poisoned := e.poisoned || hdrPoison a != 0 }
    if k < l.length then l.zipIdx.map (fun e => if e.2 = k then grow e.1 else e.1)
    else
      l ++ [{ sourceLba := fieldAt a 0x20 8 - fieldAt a 0x18 4 * per, blocks := per, encrypted := f / 2 % 2 == 1,
              takeCipher := f / 4 % 2 == 1, poisoned := hdrPoison a != 0, firstLfn := lfn, folios := 1, time := hdrTime a }]

/-- Every recorded zone spare of a zone: its count unrecorded (13, `SPARES_FREE`). -/
def sparesFree (d : Disc) (layer zone : Nat) : Nat :=
  3072 - d.folios.countP (fun e => pfaLayer e.1 == layer && pfaZone e.1 == zone && isSpare e.1)

/-- The first unrecorded spare of a zone, lowest index and within it lowest track (13 R346). -/
def zoneSpare (d : Disc) (layer zone : Nat) : Option Nat :=
  let f := zoneFolios zone
  (List.range 192).findSome? (fun i => (List.range 16).findSome? (fun t =>
    let p := pfaOf layer zone t (f - 192 + i)
    if recorded d p then none else some p))

/-- The highest spare index of a zone that is unrecorded on all 16 tracks (13 R338). -/
def testIndex (d : Disc) (layer zone : Nat) : Option Nat :=
  let f := zoneFolios zone
  ((List.range 192).map (fun i => f - 1 - i)).find? (fun n =>
    !(List.range 16).any (fun t => recorded d (pfaOf layer zone t n)))

/-- Zones from a given one on, in recording order (13 R346): layer and zone. -/
def zonesAhead (layer zone : Nat) : List (Nat × Nat) :=
  ((zoneOrder layer).dropWhile (· != zone)).map (fun z => (layer, z)) ++
    ((List.range (11 - layer)).map (fun i => (zoneOrder (layer + 1 + i)).map (fun z => (layer + 1 + i, z)))).flatten

/-- The spare that a relocation of a folio at `pfa` goes to (13 R346). -/
def spareFor (d : Disc) (pfa : Nat) : Option Nat :=
  (zonesAhead (pfaLayer pfa) (pfaZone pfa)).findSome? (fun z => zoneSpare d z.1 z.2)

/-- A manifest extent entry (12 R327). -/
def extentEntry (lbsCode : Nat) (e : Extent) (sha : List Byte) : List Byte :=
  leBytes 8 e.sourceLba ++ leBytes 4 e.blocks ++ leBytes 1 lbsCode ++
    leBytes 1 ((if e.encrypted then 1 else 0) + (if e.takeCipher then 2 else 0) + (if e.poisoned then 4 else 0) +
      (if e.resumed then 8 else 0)) ++ zeros 2 ++ leBytes 4 e.firstLfn ++ leBytes 4 e.folios ++ leBytes 8 e.time ++ sha ++ zeros 48

/-- User bytes of consecutive LFNs as recorded (12 R327). -/
def recordedUser (d : Disc) (first n : Nat) : List Byte :=
  ((List.range n).map (fun i =>
    match d.folios.lookup (resolve d (first + i)) with
    | some a => userOf a
    | none => zeros 65536)).flatten

/-- Manifest bytes before the signature (12 R327). -/
def manifestBody (imago : Nat) (discId : List Byte) (first relocLfn : Nat) (table : List Byte) (extents : List (List Byte))
    (time : Nat) (magId serial : List Byte) (chain : Nat) : List Byte :=
  leBytes 4 0x4D49595A ++ leBytes 2 3 ++ leBytes 2 imago ++ (padTo 16 discId).take 16 ++ leBytes 4 first ++ leBytes 4 relocLfn ++
    leBytes 4 (table.length / 8) ++ leBytes 4 extents.length ++ sha384 table ++ leBytes 8 time ++ (padTo 32 magId).take 32 ++
    (padTo 20 serial).take 20 ++ leBytes 1 serial.length ++ zeros 3 ++ leBytes 4 chain ++ zeros 356 ++ extents.flatten

/-- Directory user data (12 R325); the rest of the folio is zero. -/
def directoryUser (imago first relocLfn relocFolios manLfn manFolios : Nat) (manifest : List Byte) (time : Nat)
    (tail : List (Nat × Nat)) : List Byte :=
  padTo 65536 (leBytes 4 0x4453595A ++ leBytes 2 3 ++ leBytes 2 imago ++ leBytes 4 first ++ leBytes 4 relocLfn ++
    leBytes 4 relocFolios ++ leBytes 4 manLfn ++ leBytes 4 manFolios ++ leBytes 4 (manLfn + manFolios) ++ sha384 manifest ++
    leBytes 4 manifest.length ++ leBytes 1 tail.length ++ zeros 3 ++ leBytes 8 time ++
    padTo 512 ((tail.map (fun e => relocEntry e.1 e.2)).flatten))

/-- Disc information user data (12 R324). -/
def discInfoUser (discId : List Byte) (time : Nat) (serial : List Byte) : List Byte :=
  padTo 65536 (leBytes 4 0x4944595A ++ leBytes 2 3 ++ zeros 2 ++ (padTo 16 discId).take 16 ++ leBytes 8 time ++
    leBytes 1 serial.length ++ (padTo 20 serial).take 20 ++ zeros 11 ++ leBytes 4 discFolios)

/-- Cut a byte string into folios' user data, the last padded with zeros (12 R326). -/
def toFolios (b : List Byte) : List (List Byte) :=
  (List.range ((b.length + 65535) / 65536)).map (fun i => padTo 65536 ((b.drop (65536 * i)).take 65536))

/-- Rows of a folio that did not decode in any of the passes: 2e + f beyond 24 (12 R315; 13 R351). -/
def failedRows (passes : List FolioPass) : List Nat :=
  match passes with
  | [] => []
  | p :: r =>
    let bad := fun (q : FolioPass) => (q.rows.filter (fun x => decide (24 < 2 * x.2.1 + x.2.2))).map Prod.fst
    r.foldl (fun l q => l.filter (fun x => (bad q).contains x)) (bad p)

/-- Rows that stay uncorrectable after the outer code: those of an interleave with more than 16 of them (12 R315). -/
def lostRows (passes : List FolioPass) : List Nat :=
  let f := failedRows passes
  f.filter (fun r => decide (16 < f.countP (fun x => x % 2 == r % 2)) && decide (r < 288))

/-- Sectors of the user data that a set of lost rows touches; all when the header is lost (13 R351). -/
def lostSectors (rows : List Nat) : Nat :=
  if rows.contains 0 then 0xFFFF
  else
    (List.range 16).foldl (fun m i =>
      if rows.any (fun r => decide (228 * r < 128 + 4096 * i + 4096) && decide (128 + 4096 * i < 228 * r + 228)) then m + 2 ^ i else m) 0

end Sys2Proof.Machine
end

