-- ==== Sys2Proof/Machine/Pulse.lean ====
section
/-!
DEFINITION. The write strategy (13 R334): marks and spaces of a data-field piece, the strategy entry of a mark, and its write pulses.
Times are in units of T/32 from the piece's first bit.
-/
namespace Sys2Proof.Machine

/-- A run of equal level on the track: mark or space, its first channel bit, its length. -/
structure Run where
  mark : Bool
  start : Nat
  len : Nat
  deriving DecidableEq, Repr

/-- Runs of NRZI channel bits (12 R307): a 1 is a transition.  `cur` is the run that is open. -/
def runsFrom (cur : Run) : List Bool → List Run
  | [] => [cur]
  | b :: r =>
    if b then
      let next := runsFrom { mark := !cur.mark, start := cur.start + cur.len, len := 1 } r
      if cur.len = 0 then next else cur :: next
    else runsFrom { cur with len := cur.len + 1 } r

/-- Class of a mark or space (13 R334): 0 is 2T, 1 is 3T, 2 is 4T, 3 is 5T or longer; a part that a wedge leaves shorter than 2T counts as
2T (log 143). -/
def runClass (n : Nat) : Nat := if n ≤ 2 then 0 else min 3 (n - 2)

/-- An entry of `OCH.WS[b]`: DTOP, TTOP, TMP, DLP, TCL. -/
structure Strategy where
  dtop : Int
  ttop : Nat
  tmp : Nat
  dlp : Int
  tcl : Nat
  deriving DecidableEq, Repr

/-- The fields of a strategy word (13, `OCH.WS`). -/
def strategyOf (w : Word) : Strategy :=
  let signed6 := fun (v : Nat) => if v < 32 then (v : Int) else (v : Int) - 64
  { dtop := signed6 (bitsOf w 31 26), ttop := bitsOf w 25 20, tmp := bitsOf w 19 15, dlp := signed6 (bitsOf w 14 9), tcl := bitsOf w 8 3 }

/-- Pulses of a mark of `n` bits from its nominal start, before overlaps merge (13 R334). -/
def rawPulses (e : Strategy) (n : Nat) : List (Int × Int) :=
  let shift := fun (k : Nat) => if k + 2 = n then e.dlp else 0
  (List.range (n - 1)).map (fun (k : Nat) =>
    let t : Int := if k = 0 then e.dtop else 32 * k
    (t, t + (if k = 0 then e.ttop else e.tmp) + shift k))

/-- Pulses that overlap merge at write power (13 R334). -/
def mergePulses : List (Int × Int) → List (Int × Int)
  | [] => []
  | p :: r =>
    match mergePulses r with
    | [] => [p]
    | q :: t => if q.1 ≤ p.2 then (p.1, max p.2 q.2) :: t else p :: q :: t

/-- A mark as it is written: its pulses, and the end of the cooling that follows the last one (13 R334). -/
def markPulses (e : Strategy) (start n : Nat) : List (Int × Int) × Int :=
  let t : Int := 32 * start
  let ps := (mergePulses (rawPulses e n)).map (fun p => (p.1 + t, p.2 + t))
  let stop := ps.foldl (fun (m : Int) p => max m p.2) t
  (ps, stop + e.tcl)

/-- The marks of a piece's runs; `entry m s` is the strategy for a mark of class `m` after a space of class `s`. -/
def pieceMarks (entry : Nat → Nat → Strategy) : Nat → List Run → List (List (Int × Int) × Int)
  | _, [] => []
  | space, x :: r =>
    if x.mark then markPulses (entry (runClass x.len) (runClass space)) x.start x.len :: pieceMarks entry 0 r
    else pieceMarks entry x.len r

/-- Cut a folio's channel bits at the wedges (12 R305, R313): `room` bits in the first piece, `field` in each that follows; `n` bounds the
number of pieces. -/
def cutPieces (room field : Nat) : Nat → List Bool → List (List Bool)
  | 0, _ => []
  | n + 1, bits => if bits.isEmpty then [] else bits.take room :: cutPieces field field n (bits.drop room)

/-- The data-field pieces of the folio at index `n` of a track of zone `z`. -/
def folioPieces (z n : Nat) (bits : List Bool) : List (List Bool) :=
  let field := segmentData z
  cutPieces (field - (folioStart z n).2.2) field (bits.length + 1) bits

/-- Level at the end of a piece that begins at a level: each 1 turns it over. -/
def levelAfter (mark : Bool) (bits : List Bool) : Bool := bits.foldl (fun l b => l != b) mark

/-- The value of a beam's register that is in use: that before the latest write while it waits for the beam's wedge (13 R337). -/
def State.inUse (s : State) (key : Nat) : Word := (s.och.applied.lookup key).getD (s.rd key)

/-- The strategy of beam `b` that is in use. -/
def State.strategy (s : State) (b m c : Nat) : Strategy := strategyOf (s.inUse (Reg.OCH_WS_E_DTOP.base + 64 * b + 4 * (4 * m + c)))

/-- Laser pulses of a folio's pieces: `power i` is the power word of piece `i`; the first piece begins at space level, after a space of the
longest class (log 143). -/
def State.pulsePieces (s : State) (b : Nat) (power : Nat → Word) (level : Bool) (i : Nat) : List (List Bool) → State
  | [] => s
  | p :: r =>
    let runs := runsFrom { mark := level, start := 0, len := 0 } p
    let marks := pieceMarks (s.strategy b) 5 runs
    (s.emit (.pulses b (power i) marks)).pulsePieces b power (levelAfter level p) (i + 1) r

/-- The power word of piece `i` of an OPC test folio that `n` wedges divide (13 R338): PW in steps about PW_REF. -/
def opcPower (w : Word) (step n i : Nat) : Word :=
  let k := 16 * i / (n + 1)
  let pw : Int := (bitsOf w 31 20 : Int) * (256 + ((k : Int) - 8) * step) / 256
  BitVec.ofNat 32 ((min 4095 pw.toNat) * 2 ^ 20 + w.toNat % 2 ^ 20)

/-- A beam writes a folio's channel bits (13 R334, R338): its laser's pulses, at the beam's powers, or in steps for an OPC run. -/
def State.writePulses (s : State) (pfa : Nat) (rows : List (List Bool)) (opc : Bool) : State :=
  let b := pfaTrack pfa
  let ps := folioPieces (pfaZone pfa) (pfaIndex pfa) rows.flatten
  let w := s.inUse (Reg.OCH_LASER_PWR_PW.base + 16 * b)
  s.pulsePieces b (fun i => if opc then opcPower w (s.get Reg.OCH_OPC_STEP) (ps.length - 1) i else w) false 0 ps

end Sys2Proof.Machine
end

