-- ==== Sys2Proof/Machine/Och.lean ====
section
/-!
DEFINITION. The optical channel (13), the archive opcodes (09, "Archive"), and DISC_LOAD and DISC_EJECT (15 R398).
-/
namespace Sys2Proof.Machine

/-- Enable, state and held fields of OCH (13 R355). -/
def ochUnit : UnitFlds := ⟨Reg.OCH_CTL_EN, Reg.OCH_STATUS_STATE, Reg.OCH_STATUS_HELD⟩

/-- The lasers are on and the pickup stands in a zone of a layer with the pilot locked (13 R330, R331, R336). -/
def State.atPlace (s : State) (layer zone : Nat) : Bool :=
  s.och.lasersOn && s.flag Reg.OCH_ZONE_PILOT_LOCK && s.get Reg.OCH_ZONE_LAYER == layer && s.get Reg.OCH_ZONE_ZONE == zone

/-- Show the unrecorded spares of the current zone; SPARE_LOW_EV below 256 in the zone being written (13 R346). -/
def State.showSpares (s : State) : State :=
  match s.och.disc with
  | none => s
  | some d =>
    let n := sparesFree d (s.get Reg.OCH_ZONE_LAYER) (s.get Reg.OCH_ZONE_ZONE)
    let was := s.get Reg.OCH_SPARES_FREE
    let s1 := s.put Reg.OCH_SPARES_FREE n
    if n < 256 && 256 ≤ was && s.get Reg.OCH_STATUS_MODE = 1 then s1.event Reg.OCH_STATUS_SPARE_LOW_EV else s1

/-- Record a folio on the disc: its channel bits and the laser's pulses leave the block (12 R306, R313; 13 R334). -/
def State.recordFolio (s : State) (pfa : Nat) (area : List Byte) (opc : Bool := false) : State :=
  match s.och.disc with
  | none => s
  | some d =>
    let s1 := { s with och := { s.och with disc := some { d with folios := insertKey d.folios pfa area } } }
    let rows := folioBits (pfaIndex pfa) area
    ((s1.emit (.folio pfa rows)).writePulses pfa rows opc).showSpares

/-- A recorded folio does not count as written (13 R343). -/
def State.failFolio (s : State) (pfa : Nat) : State :=
  match s.och.disc with
  | none => s
  | some d => { s with och := { s.och with disc := some { d with failed := pfa :: d.failed } } }

/-- Read what the disc carries of its identity and open session (12 R324, R328, R329).  How many blocks a session's last, padded
folio held is not in its header: that number is a free value (log 4). -/
def State.loadSession (s : State) : State :=
  match s.och.disc with
  | none => s
  | some d =>
    let infos := discInfos d
    let ids := infos.map (fun u => (u.drop 8).take 16)
    let first := sealedEnd d
    let per := 65536 / max 1 s.mag.lbs
    let exts := (List.range (openEnd d - first)).foldl (fun l i => rebuiltExtent d per l (first + i)) []
    let (v, s1) := s.free
    let padded := fun (e : Extent) =>
      match d.folios.lookup (resolve d (e.firstLfn + e.folios - 1)) with
      | some a => hdrFlags a / 8 % 2 == 1
      | none => false
    let exts1 := exts.map (fun e => if padded e then { e with blocks := e.blocks - v.toNat % per } else e)
    { s1 with och := { s1.och with known := true, sessionLfn := first, extents := exts1, discId := ids.headD [],
                                   readOnly := infos.any (fun u => fieldAt u 4 2 != 3) || ids.any (fun x => x != ids.headD []) } }

/-- The session is known before a command acts on it. -/
def State.withSession (s : State) : State := if s.och.known then s else s.loadSession

/-- Status with which an archive command is refused, if it is (13 R355; 15 R399; 09 R240). -/
def State.ochRefuse (s : State) (k : Cmd) : Option Nat :=
  let st := s.get Reg.OCH_STATUS_STATE
  if !(st == 2 || (st == 3 && k.begun)) then some 0x11
  else if s.mot.noSlot then some 0x0D
  else if s.och.disc.isNone || !s.mot.clamped then some 0x11
  else none

/-- Every one of the archive channel's own registers that wait for a wedge of beam `b` are in use (13 R337). -/
def beamKey (b key : Nat) : Bool :=
  (decide (Reg.OCH_LASER_PWR_PW.base + 16 * b ≤ key) && decide (key < Reg.OCH_LASER_PWR_PW.base + 16 * b + 16)) ||
    (decide (Reg.OCH_WS_E_DTOP.base + 64 * b ≤ key) && decide (key < Reg.OCH_WS_E_DTOP.base + 64 * b + 64)) ||
    (decide (Reg.OCH_RD_CTL_MU.base + 64 * b ≤ key) && decide (key < Reg.OCH_RD_CTL_MU.base + 64 * b + 64))

/-- A register value waits for the beam's next wedge (13 R337). -/
def State.atWedge (s : State) (key : Nat) : State :=
  { s with och := { s.och with applied := insertKey s.och.applied key (s.rd key) } }

/-- The copy of the archive job that is stored. -/
def State.setJob (s : State) (j : ArchiveJob) : State := { s with och := { s.och with job := some j } }

/-- An archive command ends: the job is over, its command completes. -/
def State.finishArchive (s : State) (j : ArchiveJob) (st : Nat) (res : Nat) : State := s.endArchive.finish j.cmd st res

/-- The longest run of passing steps, the lower-powered on a tie: first and last step (13 R338). -/
def longestRun (pass : List Bool) : Nat × Nat :=
  let r := pass.zipIdx.foldl (fun (a : (Nat × Nat) × Nat) e =>
    -- best run (start, length) and the length of the run that ends here
    let n := if e.1 then a.2 + 1 else 0
    (if a.1.2 < n then (e.2 + 1 - n, n) else a.1, n)) ((0, 0), 0)
  r.1

/-- One beam's OPC result (13 R338): PW becomes the mean of the run's first and last powers, or stays where the run is too short. -/
def State.opcBeam (s : State) (b : Nat) (pass : List Bool) : State × Bool :=
  let (i, n) := longestRun (pass.take 16)
  if n < s.get Reg.OCH_OPC_MIN_RUN then (s, false)
  else
    let pw := s.get Reg.OCH_LASER_PWR_PW b
    let step := (s.get Reg.OCH_OPC_STEP : Int)
    let v : Int := (pw * (512 + ((2 * i + n - 1 : Nat) - 16 : Int) * step)) / 512
    ((s.put Reg.OCH_LASER_PWR_PW (min 4095 v.toNat) b).atWedge (Reg.OCH_LASER_PWR_PW.base + 16 * b), true)

/-- OPC in a zone of a layer (13 R338): a test folio per beam at the highest spare index that is unrecorded on all tracks, its user
data from the TRNG.  `opc` says which of the 16 steps pass on each beam. -/
def State.opcRun (s : State) (layer zone n : Nat) (opc : List (List Bool)) : State × Bool :=
  let s1 := (List.range 16).foldl (fun t b =>
    let (u, t1) := t.freeBytes 65536
    let p := pfaOf layer zone b n
    t1.recordFolio p (folioArea 0 1 p 0xFFFFFFFF 0 0 0 0 0 t1.now t1.och.discId u) true) s
  let s2 := s1.inc Reg.OCH_OPC_RUNS
  let r := (List.range 16).foldl (fun (a : State × Bool) b =>
    let (t, ok) := a.1.opcBeam b (opc.getD b [])
    (t, a.2 && ok)) (s2, true)
  ({ r.1 with och := { r.1.och with opcDone := (32 * layer + zone) :: r.1.och.opcDone } }, r.2)

/-- What a zone needs before its first write since DISC_LOAD (13 R338, R345): the scan of its spare area, then OPC.  `none`: nothing
is left to do. -/
def State.prepareZone (s : State) (j : ArchiveJob) (layer zone : Nat) (opc : List (List Bool)) : Option State :=
  let key := 32 * layer + zone
  if !s.och.scanned.contains key then
    some (({ s with och := { s.och with scanned := key :: s.och.scanned } } : State).put Reg.OCH_STATUS_MODE 4).showSpares
  else if s.och.opcDone.contains key then none
  else
    match s.och.disc.bind (fun d => testIndex d layer zone) with
    | none => some (s.finishArchive j 0x12 j.written)
    | some n =>
      let (t, ok) := (s.put Reg.OCH_STATUS_MODE 3).opcRun layer zone n opc
      if ok then some t else some ((t.event Reg.OCH_STATUS_OPC_FAIL_EV).finishArchive j 0x0D j.written)

/-- Sectors of a folio's user data that are poisoned, from poisoned byte ranges. -/
def rangeSectors (r : List (Nat × Nat)) : Nat :=
  (List.range 16).foldl (fun m i =>
    if r.any (fun e => decide (e.1 < 4096 * i + 4096) && decide (4096 * i < e.2)) then m + 2 ^ i else m) 0

/-- The 4 KiB sectors of a byte range of the logical space that hold take ciphertext (01 R23). -/
def State.keyedSectors (s : State) (pos : Nat) : Nat :=
  (List.range 16).foldl (fun m i =>
    let p := pos + 4096 * i
    if (s.unitKeyed (p / 16384)).testBit (p % 16384 / 4096) then m + 2 ^ i else m) 0

/-- Encrypt under the archive key the sectors that are not take ciphertext (16 R415). -/
def archiveCrypt (key discId : List Byte) (lfn keyed : Nat) (user : List Byte) : List Byte :=
  ((List.range 16).map (fun i =>
    let b := (user.drop (4096 * i)).take 4096
    if keyed.testBit i then b else ctrCrypt key (beNat ((padTo 16 discId).take 8) * 2 ^ 64 + lfn * 4096 + 256 * i) b)).flatten

/-- The data area of a folio of an extent, read from the magazine (12 R317, R326; 13 R354; 16 R415), and the extent with its flags. -/
def State.extentFolio (s : State) (key : Option (List Byte)) (x : Nat) (e : Extent) (lfn : Nat) (ecc : NandEcc) :
    List Byte × Extent × State :=
  let lbs := max 1 s.mag.lbs
  let i := lfn - e.firstLfn
  let start := e.sourceLba * lbs + 65536 * i
  let n := min 65536 (e.blocks * lbs - 65536 * i)
  let (d, bad, s1) := s.readRange start n ecc
  let keyed := s.keyedSectors start &&& sectorsUpTo n
  let poison := rangeSectors bad
  let plain := padTo 65536 d
  let coded := keyed != sectorsUpTo n
  let user := match key with | some k => archiveCrypt k s.och.discId lfn keyed plain | none => plain
  let enc := key.isSome && coded
  let flags := (if enc then 2 else 0) + (if keyed != 0 then 4 else 0) + (if n < 65536 then 8 else 0)
  let im := match s.och.disc with | some dd => lastImago dd + 1 | none => 1
  (folioArea 0 flags (lfnPfa lfn) lfn im poison x i (e.sourceLba + 65536 * i / lbs) s.now s.och.discId user,
   { e with encrypted := e.encrypted || enc, takeCipher := e.takeCipher || keyed != 0, poisoned := e.poisoned || poison != 0 },
   if enc then s1.queueAes .archive 0 none false 65536 else s1)
where
  /-- Mask of the sectors that the first `n` bytes fill or touch. -/
  sectorsUpTo (n : Nat) : Nat := 2 ^ ((n + 4095) / 4096) - 1

/-- The data area of the folio that a job writes at an LFN, and the state after reading its source. -/
def State.jobFolio (s : State) (j : ArchiveJob) (lfn : Nat) (ecc : NandEcc) : List Byte × State :=
  if j.sealing then
    let i := lfn - j.firstLfn
    let u := j.image.getD i (zeros 65536)
    let im := match s.och.disc with | some d => lastImago d + 1 | none => 1
    (folioArea (if i < j.tables then 1 else 2) 0 (lfnPfa lfn) lfn im 0 0 0 0 s.now s.och.discId u, s)
  else
    match (s.och.extents.zipIdx.find? (fun e => decide (e.1.firstLfn ≤ lfn) && decide (lfn < e.1.firstLfn + e.1.folios))) with
    | none => (zeros 65664, s)
    | some (e, x) =>
      let (a, e1, s1) := s.extentFolio j.key x e lfn ecc
      (a, { s1 with och := { s1.och with extents := s1.och.extents.set x e1 } })

/-- A beam begins a folio (13 R344): what it was writing before has ended. -/
def State.beginFolio (s : State) (pfa lfn : Nat) (area : List Byte) (spare : Bool) : State :=
  let b := pfaTrack pfa
  let fl := s.och.flight.map (fun f => if f.beam == b then { f with ended := true } else f)
  let f : FolioJob := { beam := b, pfa, lfn, area, spare, ended := false, rowFailed := false, rowExceeded := false, corrected := 0,
                        rows := 0 }
  let s1 := { s with och := { s.och with flight := fl ++ [f],
                                         writing := if s.och.writing.contains b then s.och.writing else s.och.writing ++ [b] } }
  s1.recordFolio pfa area

/-- The next LFN of the job, if there is one. -/
def State.setNextLfn (s : State) (lfn : Nat) : State :=
  match s.och.job with
  | some k => s.setJob { k with nextLfn := lfn }
  | none => s

/-- One folio of an index group: queued while its beam is held at read power, else begun. -/
def State.groupFolio (s : State) (j : ArchiveJob) (ecc : NandEcc) (lfn : Nat) : State :=
  let (area, t) := s.jobFolio j lfn ecc
  if t.och.faulted.contains (pfaTrack (lfnPfa lfn)) then t.queueReloc lfn area
  else t.beginFolio (lfnPfa lfn) lfn area false

/-- Write the index group of the job's next LFN (12 R321; 13 R347, R348): one folio per track of the group that belongs to the job; a
beam held at read power by a fault skips its folio, which is queued. -/
def State.writeGroup (s : State) (j : ArchiveJob) (ecc : NandEcc) : State :=
  let p := lfnPfa j.nextLfn
  let n := min (16 - pfaTrack p) (j.endLfn - j.nextLfn)
  ((List.range n).foldl (fun t i => t.groupFolio j ecc (j.nextLfn + i)) (s.put Reg.OCH_STATUS_MODE 1)).setNextLfn (j.nextLfn + n)

/-- Judge a read-back (13 R343, R350): rows that fail or exceed, and the corrected bytes in all. -/
def State.readBackGood (s : State) (pass : FolioPass) : Bool :=
  let lim := s.get Reg.OCH_PROOF_ROW_LIM
  pass.rows.all (fun r => decide (2 * r.2.1 + r.2.2 ≤ 24) && decide (r.2.1 + r.2.2 ≤ lim)) &&
    decide (pass.rows.foldl (fun n r => n + r.2.1 + r.2.2) 0 ≤ s.get Reg.OCH_PROOF_FOLIO_LIM)

/-- Read back the folio of an LFN of unknown verdict (13 R350). -/
def State.readBackOne (s : State) (j : ArchiveJob) (lfn : Nat) (pass : FolioPass) : State :=
  match s.och.disc with
  | none => s
  | some d =>
    let p := resolve d lfn
    if !s.atPlace (pfaLayer p) (pfaZone p) then s
    else
      let s1 := (s.put Reg.OCH_STATUS_MODE 5).setJob { j with readBack := j.readBack.drop 1 }
      match d.folios.lookup p with
      | none => s1
      | some a => if s1.readBackGood pass then s1 else (s1.failFolio p).queueReloc lfn a

/-- Write the relocation of a folio to its spare (13 R346); with no spare left the command completes with MEDIA_FULL. -/
def State.relocTo (s : State) (j : ArchiveJob) (opc : List (List Bool)) (lfn : Nat) (area : List Byte)
    (rest : List (Nat × List Byte)) (spare : Option Nat) : State :=
  match spare with
  | none => s.finishArchive j 0x12 j.written
  | some p =>
    if !s.atPlace (pfaLayer p) (pfaZone p) || s.och.faulted.contains (pfaTrack p) then s
    else
      match s.prepareZone j (pfaLayer p) (pfaZone p) opc with
      | some t => t
      | none =>
        let s1 := { s with och := { s.och with relocQ := rest } }
        (s1.put Reg.OCH_STATUS_MODE 1).beginFolio p lfn (spareArea area p s.now) true

/-- Write the oldest queued relocation (13 R346). -/
def State.writeReloc (s : State) (j : ArchiveJob) (opc : List (List Bool)) : State :=
  match s.och.relocQ, s.och.disc with
  | (lfn, area) :: rest, some d => s.relocTo j opc lfn area rest (spareFor d (lfnPfa lfn))
  | _, _ => s

/-- Record the disc information on one layer of a blank disc: all 16 tracks at once (12 R324). -/
def State.writeInfo (s : State) (j : ArchiveJob) (layer : Nat) : State :=
  if !s.atPlace layer 0 then s
  else
    let u := discInfoUser s.och.discId s.now deviceSerial
    let s1 := (List.range 16).foldl (fun t b =>
      let p := pfaOf layer 0 b 0
      t.recordFolio p (folioArea 4 0 p 0xFFFFFFFF 0 0 0 0 0 t.now t.och.discId u)) s
    s1.setJob { j with info := if layer = 11 then none else some (layer + 1) }

/-- The beams pass the spare area of the zone that they leave, and the oldest queued relocation goes there (13 R346). -/
def State.passesSpares (s : State) (j : ArchiveJob) : Bool :=
  let here := lfnPfa j.nextLfn
  let last := lfnPfa (j.nextLfn - 1)
  decide (j.firstLfn < j.nextLfn) && (pfaZone here != pfaZone last || pfaLayer here != pfaLayer last) &&
    (match s.och.relocQ, s.och.disc with
     | (lfn, _) :: _, some d =>
       (spareFor d (lfnPfa lfn)).any (fun p => pfaZone p == pfaZone last && pfaLayer p == pfaLayer last)
     | _, _ => false)

/-- One piece of an archive write or seal (13 R343-R350): the disc information of a blank disc, read-backs, a zone's scan and OPC, an
index group, then the relocations.  `none`: every folio counts as written. -/
def State.archivePiece (s : State) (j : ArchiveJob) (ecc : NandEcc) (opc : List (List Bool)) (pass : FolioPass) : Option State :=
  match j.info, j.readBack with
  | some l, _ => some (s.writeInfo j l)
  | none, lfn :: _ => some (s.readBackOne j lfn pass)
  | none, [] =>
    if j.nextLfn < j.endLfn && s.och.relocQ.length < 4096 && !s.passesSpares j then
      let p := lfnPfa j.nextLfn
      if j.nextLfn = j.firstLfn && (s.flag Reg.SRV_SVC_EN || s.flag Reg.MOT_SPN_SVC_EN) then some s
      else if !s.atPlace (pfaLayer p) (pfaZone p) then some s
      else
        match s.prepareZone j (pfaLayer p) (pfaZone p) opc with
        | some t => some t
        | none => some (s.writeGroup j ecc)
    else if !s.och.relocQ.isEmpty then some (s.writeReloc j opc)
    else if s.och.flight.isEmpty && j.endLfn ≤ j.nextLfn then none
    else some s

/-- The newest resume entry of the loaded disc (13 R350). -/
def State.resumeEntry (s : State) : Option ResumeEntry := s.och.resume.find? (fun e => e.discId == s.och.discId)

/-- The content of an LFN that a resume entry queues: from the magazine where its extent is known (13 R350; log 63). -/
def State.restoreReloc (s : State) (key : Option (List Byte)) (lfn : Nat) : State :=
  match s.och.extents.zipIdx.find? (fun e => decide (e.1.firstLfn ≤ lfn) && decide (lfn < e.1.firstLfn + e.1.folios)) with
  | none => s
  | some (e, x) =>
    let (a, _, s1) := s.extentFolio key x e lfn []
    { s1 with och := { s1.och with relocQ := s1.och.relocQ ++ [(lfn, a)] } }

/-- Begin an ARCHIVE_WRITE (12 R324, R326, R328; 13 R350; 16 R403). -/
def State.beginWrite (s : State) (k : Cmd) (d : Disc) : State :=
  let lbs := max 1 s.mag.lbs
  let folios := (k.blocks * lbs + 65535) / 65536
  let end_ := openEnd d
  let resume := k.fld 0x18 1 == 1 && !s.och.extents.isEmpty
  let x := if resume then s.och.extents.length - 1 else s.och.extents.length
  let old := s.och.extents.getD x { sourceLba := k.lba, blocks := k.blocks, firstLfn := end_, folios, time := s.now }
  let e : Extent := if resume then { old with blocks := k.blocks, folios, resumed := true } else old
  if discFolios - 256 < e.firstLfn + folios then s.finish k.tag 0x12 0
  else if k.keySlot != 0xFFFF && !s.mayUse k.keySlot useArchive then s.finish k.tag 0x10 0
  else
    let s1 := if k.keySlot = 0xFFFF then s else s.bindKey k.tag k.keySlot
    let blank := (discInfos d).isEmpty
    let (id, s2) := if blank then s1.freeBytes 16 else (s1.och.discId, s1)
    let entry := s2.resumeEntry
    let fresh := decide (end_ = s.och.sessionLfn)
    let back := match entry with
      | some r => r.unknown
      | none => if fresh then [] else (List.range (end_ - s.och.sessionLfn)).map (fun i => s.och.sessionLfn + i)
    let exts := if resume then s2.och.extents.set x e else s2.och.extents ++ [e]
    let s3 := { s2 with och := { s2.och with discId := id, extents := exts, relocQ := [],
                                             resume := s2.och.resume.filter (fun r => r.discId != id) } }
    let key := s3.boundKey k.tag
    let s4 := match entry with | some r => r.queue.foldl (fun (t : State) l => t.restoreReloc key l) s3 | none => s3
    s4.setJob { cmd := k.tag, lba := k.lba, blocks := k.blocks, firstLfn := max e.firstLfn end_, endLfn := e.firstLfn + folios,
                nextLfn := max e.firstLfn end_, extent := x, key, readBack := back, info := if blank then some 0 else none }

/-- ARCHIVE_WRITE (09, "Archive"; 12 R326; 13 R343-R350): its beginning, then one piece per invocation; the verdicts come with
PROOF_ROW_VERDICT and FOLIO_PROOF_VERDICT. -/
def execArchiveWrite (c : Nat) (ecc : NandEcc) (opc : List (List Bool)) (pass : FolioPass) (s : State) : Result :=
  s.onCmd c 0x22 fun s k =>
    match s.ochRefuse k, s.magRefuse k false with
    | some st, _ => s.finish c st k.progress
    | none, some st => s.finish c st k.progress
    | none, none =>
      let s := s.withSession
      match s.och.disc, s.och.job with
      | some d, none =>
        if s.och.readOnly then s.finish c 0x13 0
        else if s.lbaCount < k.lba + k.blocks then s.finish c 0x0E 0 false (max k.lba s.lbaCount)
        else s.beginWrite k d
      | some _, some j =>
        if j.cmd != c then s
        else
          match s.archivePiece j ecc opc pass with
          | some t => t
          | none => s.finishArchive j 0 j.written
      | none, _ => s

/-- The manifest and its folios, made when the data of the session counts as written (12 R322, R326, R327). -/
def State.beginSeal (s : State) (k : Cmd) (d : Disc) : State :=
  let end_ := openEnd d
  let first := s.och.sessionLfn
  let lfns := (List.range (end_ - first)).map (fun i => first + i)
  let relocs := lfns.filterMap (fun l => (standIn d l).map (fun p => (l, p)))
  let table := (relocs.map (fun e => relocEntry e.1 e.2)).flatten
  let tables := toFolios table
  let chain := (Config.cert 2).take 2048
  let code := if s.mag.lbs = 16384 then 1 else 0
  let exts := s.och.extents.map (fun e => extentEntry code e (sha384 (recordedUser d e.firstLfn e.folios)))
  let body := manifestBody (lastImago d + 1) s.och.discId first end_ table exts s.now s.magId deviceSerial chain.length
  let (sig, s1) := s.freeBytes 96
  let manifest := body ++ sig ++ chain
  let folios := tables ++ toFolios manifest
  let man := end_ + tables.length
  let dir := directoryUser (lastImago d + 1) first end_ tables.length man (toFolios manifest).length manifest s.now []
  s1.setJob { cmd := k.tag, sealing := true, firstLfn := end_, endLfn := end_ + folios.length, nextLfn := end_, image := folios,
              tables := tables.length, dir := some dir }

/-- Put the TAIL list of the seal's own folios into the directory data (12 R325). -/
def withTail (dir : List Byte) (tail : List (Nat × Nat)) : List Byte :=
  patch (patch dir 0x54 (leBytes 1 tail.length)) 0x60 (padTo 512 ((tail.map (fun e => relocEntry e.1 e.2)).flatten))

/-- Write the directory entry in the next free slot, or judge it once all its copies have their verdict (12 R325). -/
def State.sealDirectory (s : State) (j : ArchiveJob) (dir : List Byte) (d : Disc) : State :=
  let tail := ((List.range (j.endLfn - j.firstLfn)).map (fun i => j.firstLfn + i)).filterMap
    (fun l => (standIn d l).map (fun p => (l, p)))
  match j.dirSlot with
  | some _ =>
    if 4 ≤ j.dirGood then
      let t := { s with och := { s.och with known := false, extents := [] } }
      t.finishArchive j 0 (fieldAt dir 6 2)
    else s.setJob { j with dirSlot := none, dirGood := 0 }
  | none =>
    if 64 < tail.length then s.finishArchive j 0x0D 0
    else
      match nextSlot d with
      | none => s.finishArchive j 0x12 0
      | some q =>
        if !s.atPlace (q / 63) 0 then s
        else
          let u := withTail dir tail
          let s1 := (List.range 16).foldl (fun t b =>
            let p := pfaOf (q / 63) 0 b (1 + q % 63)
            t.beginFolio p 0xFFFFFFFF (folioArea 3 0 p 0xFFFFFFFF (fieldAt dir 6 2) 0 0 0 0 t.now t.och.discId u) false)
            (s.put Reg.OCH_STATUS_MODE 1)
          s1.setJob { j with dir := some u, dirSlot := some q, dirGood := 0 }

/-- SEAL_IMAGO (12 R325-R328; 13 R346): the relocation table, the signed manifest and the directory entry.  A seal with nothing in
the open session completes with INVALID_FIELD, since a manifest has 1 extent or more (log 64). -/
def execSealImago (c : Nat) (s : State) : Result :=
  s.onCmd c 0x24 fun s k =>
    match s.ochRefuse k with
    | some st => s.finish c st 0
    | none =>
      let s := s.withSession
      match s.och.disc, s.och.job with
      | some d, none =>
        if s.och.readOnly then s.finish c 0x13 0
        else if s.och.extents.isEmpty then s.finish c 0x02 0
        else if discFolios < openEnd d + 256 then s.finish c 0x12 0
        else s.beginSeal k d
      | some d, some j =>
        if j.cmd != c then s
        else
          match s.archivePiece j [] [] { rows := [] }, j.dir with
          | some t, _ => t
          | none, some u => s.sealDirectory j u d
          | none, none => s
      | none, _ => s

/-- Take a pass over the folio being read; `some` when the folio's reading ends, with its lost rows (13 R351). -/
def State.takePass (s : State) (pass : FolioPass) : State × Option (List Nat) :=
  match s.och.reading with
  | none => (s, none)
  | some (_, p) =>
    let ps := s.och.passes ++ [pass]
    let ce := pass.rows.foldl (fun n r => if 2 * r.2.1 + r.2.2 ≤ 24 then n + r.2.1 + r.2.2 else n) 0
    let ue := pass.rows.countP (fun r => decide (24 < 2 * r.2.1 + r.2.2))
    let s1 := (s.add Reg.OCH_RD_ROW_CE ce (pfaTrack p)).add Reg.OCH_RD_ROW_UE ue (pfaTrack p)
    let s2 := ({ s1 with och := { s1.och with passes := ps } } : State).add Reg.OCH_RD_FLAGGED pass.flagged (pfaTrack p)
    let lost := lostRows ps
    if lost.isEmpty || s.get Reg.OCH_READ_RETRY < ps.length then (s2, some lost) else (s2, none)

/-- What a folio delivers: user bytes and poisoned sectors (13 R351, R352).  Bytes that stay uncorrectable are free values. -/
def State.folioOut (s : State) (area : List Byte) (lost : List Nat) : List Byte × Nat × State :=
  let ue := lostSectors lost
  let (b, s1) := if lost.isEmpty then ([], s) else s.freeBytes 65664
  let a := lost.foldl (fun a r => patch a (228 * r) ((b.drop (228 * r)).take 228)) area
  let n := (List.range 16).countP (fun i => ue.testBit i)
  let s2 := if n = 0 then s1 else (s1.add Reg.OCH_READ_UE n).event Reg.OCH_STATUS_READ_UE_EV
  (userOf a, ue ||| (if lost.contains 0 then 0 else hdrPoison area), s2)

/-- The places of a command's data from byte `o` on. -/
def placesFrom : List (Nat × Nat) → Nat → List (Nat × Nat)
  | [], _ => []
  | (a, n) :: r, o => if o < n then (a + o, n - o) :: r else placesFrom r (o - n)

/-- One folio of a read or verify is done. -/
def State.folioDone (s : State) (k : Cmd) (user : List Byte) (poison : Nat) : State :=
  let bad := ((List.range 16).filter (fun i => poison.testBit i)).map (fun i => (4096 * i, 4096 * i + 4096))
  let s1 := { s with och := { s.och with reading := none, passes := [] } }
  let k1 := { k with begun := true, progress := k.progress + 1, poisoned := k.poisoned || poison != 0,
                     detail := if k.poisoned || poison = 0 then k.detail else k.lba + k.progress }
  if k.op = 0x23 then (s1.scatter user (linesOf bad) 0 (placesFrom k.places (65536 * k.progress))).setCmd k1
  else ({ s1 with och := { s1.och with readBuf := s1.och.readBuf ++ [user] } } : State).setCmd k1

/-- A pass over the folio that a read or verify reads; a folio that is not recorded reads as zeros (13 R353). -/
def State.readFolio (s : State) (k : Cmd) (lfn : Nat) (pass : FolioPass) : State :=
  match s.och.disc with
  | none => s
  | some d =>
    let p := resolve d lfn
    match d.folios.lookup p with
    | none =>
      let s1 := (s.inc Reg.OCH_BLANK_READ)
      ({ s1 with och := { s1.och with differs := true } } : State).folioDone k (zeros 65536) 0
    | some a =>
      if s.och.reading.isNone && !s.atPlace (pfaLayer p) (pfaZone p) then s
      else
        let s0 := if s.och.reading.isSome then s else { s with och := { s.och with reading := some (lfn, p), passes := [] } }
        match (s0.put Reg.OCH_STATUS_MODE 2).takePass pass with
        | (t, none) => t
        | (t, some lost) =>
          let (u, poison, t1) := t.folioOut a lost
          t1.folioDone k u poison

/-- ARCHIVE_READ (09, "Archive"; R247; 13 R351-R353, R355): one pass over one folio per invocation. -/
def execArchiveRead (c : Nat) (pass : FolioPass) (s : State) : Result :=
  s.onCmd c 0x23 fun s k =>
    match s.ochRefuse k with
    | some st => s.finish c st k.progress k.poisoned k.detail
    | none =>
      if k.dataLen != 65536 * k.blocks then s.finish c 0x02 0
      else if discFolios < k.lba + k.blocks then s.finish c 0x0E 0 false (max k.lba discFolios)
      else if s.och.job.isSome || s.hq.cmds.any (fun d => (d.op == 0x23 || d.op == 0x25) && d.begun && decide (d.tag < c)) then s
      else if s.och.reading.isNone && k.caught.isSome then (s.put Reg.OCH_STATUS_MODE 0).finish c (k.caught.getD 5) k.progress
        k.poisoned k.detail
      else
        let t := if k.blocks = 0 then s else s.readFolio k (k.lba + k.progress) pass
        match t.cmd c with
        | none => t
        | some k1 =>
          if k1.progress < k.blocks then t
          else (t.put Reg.OCH_STATUS_MODE 0).finish c
            (k1.caught.getD (if k1.poisoned then 0x0C else 0)) k1.progress k1.poisoned k1.detail

/-- The imago that was read back agrees with its directory entry and manifest (12 R327): MANIFEST_SHA, the signature under its chain,
RELOC_SHA and every DATA_SHA. -/
def imagoGood (u : List Byte) (read : List (List Byte)) : Bool :=
  let first := fieldAt u 8 4
  let relocLfn := fieldAt u 0xC 4
  let manLfn := fieldAt u 0x14 4
  let table := (((read.drop (relocLfn - first)).take (manLfn - relocLfn)).flatten)
  let man := ((read.drop (manLfn - first)).flatten).take (fieldAt u 0x50 4)
  let n := fieldAt man 0x24 4
  let sigAt := 0x200 + 128 * n
  let extOk := (List.range n).all (fun e =>
    let x := (man.drop (0x200 + 128 * e)).take 128
    sha384 (((read.drop (fieldAt x 0x10 4 - first)).take (fieldAt x 0x14 4)).flatten) == (x.drop 0x20).take 48)
  sha384 man == (u.drop 0x20).take 48 && fieldAt man 0 4 == 0x4D49595A && fieldAt man 4 2 == 3 &&
    (match Config.leafKey ((man.drop (sigAt + 96)).take (fieldAt man 0x98 4)) with
     | some pub => ecdsaVerify pub (man.take sigAt) ((man.drop sigAt).take 96)
     | none => false) &&
    sha384 (table.take (8 * fieldAt man 0x20 4)) == (man.drop 0x28).take 48 && extOk

/-- ARCHIVE_VERIFY (09, "Archive"; 12 R327; 13 R351, R353, R355): an imago that the disc does not hold is a difference (log 65). -/
def execArchiveVerify (c : Nat) (pass : FolioPass) (s : State) : Result :=
  s.onCmd c 0x25 fun s k =>
    match s.ochRefuse k with
    | some st => s.finish c st k.progress
    | none =>
      if s.och.job.isSome || s.hq.cmds.any (fun d => (d.op == 0x23 || d.op == 0x25) && d.begun && decide (d.tag < c)) then s
      else
        match s.och.disc.bind (fun d => imagoEntry d (k.fld 0x18 2)) with
        | none => s.finish c 0x16 0
        | some u =>
          let first := fieldAt u 8 4
          let n := fieldAt u 0x1C 4 - first
          let s0 := if k.begun then s else { s with och := { s.och with readBuf := [], differs := false } }
          if s0.och.reading.isNone && k.caught.isSome then (s0.put Reg.OCH_STATUS_MODE 0).finish c (k.caught.getD 5) k.progress
          else
            let t := if n ≤ k.progress then s0 else s0.readFolio k (first + k.progress) pass
            match t.cmd c with
            | none => t
            | some k1 =>
              if k1.progress < n then t
              else
                let ok := !t.och.differs && imagoGood u t.och.readBuf
                let t1 := { t with och := { t.och with readBuf := [], differs := false } }
                (t1.put Reg.OCH_STATUS_MODE 0).finish c (k1.caught.getD (if ok then 0 else 0x16)) k1.progress

/-- FOLIO_READ_RETRY (13 R351): a further revolution over the folio that the command in progress reads; it
delivers nothing while function 0 may not send (08 R220, R224, R534). -/
def execFolioReadRetry (pass : FolioPass) (s : State) : Result :=
  match s.och.reading with
  | none => .next s
  | some (lfn, _) =>
    match s.hq.cmds.find? (fun k => (k.op == 0x23 || k.op == 0x25) && k.begun) with
    | none => .next s
    | some k => if s.och.passes.isEmpty then .next s else s.onCmd k.tag k.op fun s k => s.readFolio k lfn pass

/-- A conversion of PW that is asked of MC3 per layer: none; DISC_LOAD's end (12 R329; 13 R335, R338, R345). -/
def State.discLoaded (s : State) (c : Nat) : State :=
  let bad := match s.och.disc with | some d => !d.wedgesGood | none => true
  let s1 := { s with mot := { s.mot with exchange := none },
                     och := { s.och with scanned := [], opcDone := [], laserFaults := [], known := false } }
  if bad then
    let s2 := s1.finish c 0x0D 0
    { s2 with mot := { s2.mot with exchange := some { cmd := none, load := false, slot := s2.och.slot,
                                                       acts := ejectActs s2.och.slot, issued := false } } }
  else s1.loadSession.finish c 0 0

/-- A load whose disc was not found returns the lift to LIFT_XFER and completes with NO_MEDIA (15 R398); one whose servo step failed
completes with MEDIA_ERROR and returns the disc (14 R364). -/
def State.loadFails (s : State) (x : Exchange) : Option State :=
  match x.acts, x.cmd with
  | (_, .pick) :: _, some c =>
    if x.issued && !s.mot.discSense then
      let s1 := s.xMove 1 (s.xPos Reg.MOT_XCHG_LIFT_XFER)
      some (({ s1 with mot := { s1.mot with exchange := none } } : State).finish c 0x11 0)
    else none
  | (_, .lock l) :: _, some c =>
    if x.issued && s.lstate l == 4 then
      let s1 := s.finish c 0x0D 0
      some { s1 with mot := { s1.mot with exchange := some { cmd := none, load := false, slot := s1.och.slot,
                                                              acts := ejectActs s1.och.slot, issued := false } } }
    else none
  | _, _ => none

/-- DISC_LOAD (15 R398; 14 R364; 12 R329): one action of the exchange per invocation. -/
def execDiscLoad (c : Nat) (s : State) : Result :=
  s.onCmd c 0x20 fun s k =>
    let slot := k.fld 0x18 1
    match s.mot.exchange with
    | none =>
      if s.mot.noSlot then s.finish c 0x0D 0
      else if !s.mot.cartPresent then s.finish c 0x11 0
      else if s.och.job.isSome || s.och.reading.isSome then s
      else
        let acts := (if s.mot.clamped then ejectActs s.och.slot else []) ++ loadActs slot
        { s with mot := { s.mot with exchange := some { cmd := some c, load := true, slot, acts, issued := false } } }
    | some x =>
      if x.cmd != some c then s
      else if x.acts.isEmpty then s.discLoaded c
      else (s.loadFails x).getD (s.exchangeStep x)

/-- DISC_EJECT (15 R398; 13 R336): one action of the exchange per invocation.  With no disc clamped it completes with NO_MEDIA
(09 R240). -/
def execDiscEject (c : Nat) (s : State) : Result :=
  s.onCmd c 0x21 fun s _ =>
    match s.mot.exchange with
    | none =>
      if s.mot.noSlot then s.finish c 0x0D 0
      else if !s.mot.clamped then s.finish c 0x11 0
      else if s.och.job.isSome || s.och.reading.isSome then s
      else
        let x : Exchange := { cmd := some c, load := false, slot := s.och.slot, acts := ejectActs s.och.slot, issued := false }
        { s with mot := { s.mot with exchange := some x }, och := { s.och with known := false, extents := [], scanned := [], opcDone := [] } }
    | some x =>
      if x.cmd != some c then s
      else if x.acts.isEmpty then ({ s with mot := { s.mot with exchange := none } } : State).finish c 0 0
      else s.exchangeStep x

/-- PILOT_LOCK (13 R331): after 8 consecutive SAMs in place. -/
def execPilotLock (s : State) : Result :=
  if 8 ≤ s.och.pilotGood && s.och.lasersOn then .next (s.setFlag Reg.OCH_ZONE_PILOT_LOCK true) else .next s

/-- PILOT_LOCK_LOSS (13 R331, R347): a write fault on every beam that writes. -/
def execPilotLockLoss (s : State) : Result :=
  if !s.flag Reg.OCH_ZONE_PILOT_LOCK then .next s
  else
    let s1 := (s.setFlag Reg.OCH_ZONE_PILOT_LOCK false).event Reg.OCH_STATUS_PILOT_EV
    let s2 := { s1 with och := { s1.och with pilotGood := 0 } }
    .next (if s2.och.writing.isEmpty then s2 else s2.writeFault s2.och.writing)

/-- A wedge ID that passes (12 R310): position, layer, layer band, wedge. -/
def wedgeId (w : BitVec 48) : Option (Nat × Nat × Nat × Nat) :=
  let v := w.toNat
  let p := v / 2 ^ 29 % 32
  let layer := v / 2 ^ 25 % 16
  let band := v / 2 ^ 9 % 65536
  let idx := v % 512
  let crc := crc8 ((List.range 40).map (fun i => v.testBit i))
  if crc = v / 2 ^ 40 && v / 2 ^ 34 % 64 = 0 && p ≤ 16 && layer ≤ 11 && band < 51200 && idx < 480 then some (p, layer, band, idx)
  else none

/-- Samples of a wedge that are flagged on a channel: the first 64 where its coarse gain changes (13 R340), and a dropout's (R341). -/
def State.flaggedAt (s : State) (w : SpotWedge) : List Nat :=
  let window := if s.get Reg.OCH_RD_CTL_COARSE w.beam != w.coarse % 16 then List.range 64 else []
  window ++ (w.dropouts.filter (fun i => !window.contains i)).eraseDups

/-- A wedge as its channel uses it (12 R309; 13 R340): a SAM with a flagged sample is not detected; `none` for the bursts where every sample
of A or of B is flagged.  `pre` is the length of PRE. -/
def usable (flags : List Nat) (pre : Nat) (w : SpotWedge) : SpotWedge × Bool :=
  let sam := 24 + pre
  let hit := fun (at_ n : Nat) => (List.range n).map (fun i => at_ + i)
  let id := if (hit sam 24).any flags.contains then none else w.id
  let lost := fun (k : Nat) => (hit (sam + 96 + 48 * k) 48).all flags.contains
  ({ w with id }, !lost 0 && !lost 1)

/-- Burst error of a beam (12 R311; 14 R357): which of A and B is outward comes from the parity of p; kept as a fraction's value
rounded toward zero (log 66); with both amplitudes 0 the quotient is not stated, a free value (log 4). -/
def State.burstError (s : State) (w : SpotWedge) (p : Nat) : Int × State :=
  let (o, q) := if p % 2 = 0 then (w.a, w.b) else (w.b, w.a)
  if o + q = 0 then
    let (v, t) := s.free
    (v.toInt, t)
  else ((8192 * (o - q)).tdiv (o + q), s)

/-- Burst errors of the beams that detected their SAM (14 R357): beam and value. -/
def State.burstErrors (s : State) (spots : List SpotWedge) : List (Int × Int) × State :=
  spots.foldl (fun (a : List (Int × Int) × State) w =>
    match w.id.bind wedgeId with
    | none => a
    | some i =>
      let (b, t) := a.2.burstError w i.1
      (a.1 ++ [((w.beam : Int), b)], t)) ([], s)

/-- The values that a wedge gives tracking and skew (14 R357), for at least 4 beams. -/
def State.burstUpdate (s : State) (spots : List SpotWedge) : State :=
  let (bs, s) := s.burstErrors spots
  let n : Int := bs.length
  if bs.length < 4 then s
  else
    let sb := bs.foldl (fun a e => a + e.2) 0
    let sj := bs.foldl (fun a e => a + e.1) 0
    let sjb := bs.foldl (fun a e => a + e.1 * e.2) 0
    let sjj := bs.foldl (fun a e => a + e.1 * e.1) 0
    let den := n * sjj - sj * sj
    let skew := if den = 0 then s.srv.skew else (16 * (n * sjb - sj * sb)).tdiv den
    { s with srv := { s.srv with trackOfs := s.srv.trackOfs + (sb * s.get Reg.SRV_LOOP_BURST_BGAIN 1).tdiv (256 * n),
                                 skew, skewCount := s.srv.skewCount + 1 } }

/-- Beam `w.beam` at a wedge (13 R332, R337, R347): good and missed SAMs; its waiting register values take effect. -/
def State.beamWedge (s : State) (w : SpotWedge) : State :=
  let ok := (w.id.bind wedgeId).isSome
  { s with och := { s.och with
      good := insertKey s.och.good w.beam (if ok then lookupD 0 s.och.good w.beam + 1 else 0),
      missed := insertKey s.och.missed w.beam (if ok then 0 else lookupD 0 s.och.missed w.beam + 1),
      applied := s.och.applied.filter (fun e => !beamKey w.beam e.1) } }

/-- A channel's gains at a wedge (13 R340, R341): COARSE changes at its first bit, FINE at any time; FLAGGED counts flagged samples. -/
def State.channelGain (s : State) (w : SpotWedge) : State :=
  if 16 ≤ w.beam then s
  else
    let n := (s.flaggedAt w).length
    ((s.add Reg.OCH_RD_FLAGGED n w.beam).put Reg.OCH_RD_CTL_COARSE (w.coarse % 16) w.beam).put Reg.OCH_RD_CTL_FINE (w.fine % 4096) w.beam

/-- SAM_DETECTED (13 R331, R332, R337, R340, R347; 12 R310; 14 R357; 15 R385): one wedge.  `phase` is the pilot's phase error in eighths of a
channel bit. -/
def execSamDetected (pilot : Option (BitVec 48)) (phase : Int) (spots : List SpotWedge) (s : State) : Result :=
  if !s.och.lasersOn then .next s
  else
    let seen := spots.map (fun w => usable (s.flaggedAt w) (84 + 15 * s.get Reg.OCH_ZONE_ZONE) w)
    let s1 := (seen.map Prod.fst).foldl State.beamWedge (spots.foldl State.channelGain s)
    let s2 := s1.burstUpdate ((seen.filter Prod.snd).map Prod.fst)
    match pilot with
    | none => .next { s2 with och := { s2.och with pilotGood := 0 }, mot := { s2.mot with phaseGood := 0, phaseBad := s2.mot.phaseBad + 1 } }
    | some w =>
      let near := decide (-32 ≤ phase ∧ phase ≤ 32)
      let far := decide (phase < -512 ∨ 512 < phase)
      let s3 := { s2 with och := { s2.och with pilotGood := if decide (-1 ≤ phase ∧ phase ≤ 1) then s2.och.pilotGood + 1 else 0 },
                          mot := { s2.mot with phaseGood := if near then s2.mot.phaseGood + 1 else 0,
                                               phaseBad := if far then s2.mot.phaseBad + 1 else 0 } }
      let s4 := s3.putInt Reg.MOT_SPN_PHASE_PHASE_ERR (max (-32768) (min 32767 (phase.tdiv 8)))
      match wedgeId w with
      | none => .next s4
      | some (p, layer, _, _) =>
        .next (({ s4 with srv := { s4.srv with pilotP := p, pilotLayer := layer } } : State).put Reg.OCH_ZONE_LAYER layer)

/-- LASER_POWER_ON (13 R336; 15 R396): with a disc clamped and spinning; against the interlock it is discarded.  The read-level drive
currents are what power control finds: free values (log 4). -/
def execLaserPowerOn (s : State) : Result :=
  if !s.mot.clamped || s.get Reg.OCH_STATUS_STATE != 2 || !s.mc3Runs || !s.driven || s.get Reg.PWR_HOLDUP_STATUS_STATE != 0 then .next s
  else if !(2 ≤ s.sstate && s.sstate ≤ 4) then .next (s.event Reg.MOT_STATUS_INTERLOCK_EV)
  else
    let s1 := (List.range 16).foldl (fun t b =>
      let (v, t1) := t.free
      t1.put Reg.OCH_LASER_DRIVE_IR (v.toNat % 4096) b) s
    .next { s1 with pwr := { s1.pwr with ldEn := true }, och := { s1.och with lasersOn := true } }

/-- LASER_FAULT (13 R335, R347): a write fault on the beam; the second on one laser since DISC_LOAD marks OCH failed. -/
def execLaserFault (b : BeamIx) (s : State) : Result :=
  let n := lookupD 0 s.och.laserFaults b.val + 1
  let s1 := { s with och := { s.och with laserFaults := insertKey s.och.laserFaults b.val n } }
  let s2 := (s1.put Reg.OCH_LASER_DRIVE_IW (s1.get Reg.OCH_LASER_LIM_IMAX b.val) b.val).event Reg.OCH_STATUS_LASER_FAULT_EV
  let s3 := s2.writeFault [b.val]
  .next (if 2 ≤ n then (s3.endArchive.failUnit 10) else s3)

/-- The folio on a beam whose proof comes first. -/
def State.proofFolio (s : State) (b : Nat) : Option FolioJob := s.och.flight.find? (fun f => f.beam == b)

/-- Change a folio in flight. -/
def State.setFolio (s : State) (f : FolioJob) : State :=
  { s with och := { s.och with flight := s.och.flight.map (fun g => if g.pfa == f.pfa then f else g) } }

/-- PROOF_ROW_VERDICT (13 R342): `corrected` is `none` for a row that fails. -/
def execProofRowVerdict (b : BeamIx) (row : Nat) (corrected : Option Nat) (s : State) (flagged : Nat := 0) : Result :=
  let s := if (s.proofFolio b.val).isSome then s.add Reg.OCH_RD_FLAGGED flagged b.val else s
  match s.proofFolio b.val with
  | none => .next s
  | some f =>
    if 320 ≤ row then .next s
    else
      match corrected with
      | none => .next ((s.setFolio { f with rowFailed := true, rows := f.rows + 1 }).inc Reg.OCH_RD_ROW_UE b.val)
      | some n =>
        let above := decide (s.get Reg.OCH_PROOF_ROW_LIM < n)
        .next ((s.setFolio { f with rowExceeded := f.rowExceeded || above, corrected := f.corrected + n, rows := f.rows + 1 }).add
          Reg.OCH_RD_ROW_CE n b.val)

/-- A folio's proof ends (13 R343, R346): it counts as written, or its LFN is queued for relocation. -/
def State.folioVerdict (s : State) (j : ArchiveJob) (f : FolioJob) : State :=
  let s0 := { s with och := { s.och with flight := s.och.flight.filter (fun g => g.pfa != f.pfa) } }
  let good := !f.rowFailed && !f.rowExceeded && decide (f.corrected ≤ s.get Reg.OCH_PROOF_FOLIO_LIM)
  if good then
    let mine := decide (j.firstLfn ≤ f.lfn) && decide (f.lfn < j.endLfn)
    let s1 := s0.setJob { j with written := if mine then j.written + 1 else j.written,
                                 dirGood := if f.lfn = 0xFFFFFFFF then j.dirGood + 1 else j.dirGood }
    let s2 := s1.add64 Reg.OCH_FOLIOS 1
    if f.spare then s2.inc Reg.OCH_RELOCS else s2
  else
    let s1 := s0.failFolio f.pfa
    if f.lfn = 0xFFFFFFFF then s1.inc Reg.OCH_PROOF_FAIL
    else
      let n := lookupD 0 j.fails f.lfn + 1
      let s2 := (s1.setJob { j with fails := insertKey j.fails f.lfn n }).queueReloc f.lfn f.area
      if s.get Reg.OCH_PROOF_RELOC_LIM ≤ n then s2.finishArchive j 0x0D j.written else s2

/-- FOLIO_PROOF_VERDICT (13 R343). -/
def execFolioProofVerdict (b : BeamIx) (s : State) : Result :=
  match s.och.job, s.proofFolio b.val with
  | some j, some f => .next (s.folioVerdict j f)
  | _, _ => .next s

/-- WRITE_FAULT (13 R347): the faults of the servo loops, of lasers and of the pilot come with rows of their own; here, beams that
write and have missed 4 SAMs in a row. -/
def execWriteFault (beams : List Nat) (s : State) : Result :=
  let hit := (beams.filter (fun b => s.och.writing.contains b && decide (4 ≤ lookupD 0 s.och.missed b))).eraseDups
  if hit.isEmpty then .next s else .next (s.writeFault hit)

/-- WRITE_FAULT_RECOVERY (13 R347): the beam resumes after 2 consecutive good SAMs. -/
def execWriteFaultRecovery (b : BeamIx) (s : State) : Result :=
  if s.och.faulted.contains b.val && 2 ≤ lookupD 0 s.och.good b.val then
    .next { s with och := { s.och with faulted := s.och.faulted.filter (· != b.val) } }
  else .next s

/-- OCH enable written (13 R349, R355; 02 R46): on a disable a running write stops resumably, reads stop at their next folio
boundary. -/
def State.ochEnable (s : State) (b : Bool) : State :=
  let run := s.get Reg.OCH_STATUS_STATE = 2
  let s1 := s.enableWrite ochUnit b
  if b || !run then s1
  else
    let s2 := match s1.och.job with
      | some j => if j.sealing then s1 else s1.archiveStop (some 0x15)
      | none => s1
    { s2 with hq := { s2.hq with cmds := s2.hq.cmds.map (fun k =>
        if (k.op == 0x23 || k.op == 0x25) && k.begun then { k with caught := some 0x05 } else k) } }

/-- OCH_DISABLE (13 R355). -/
def execOchDisable (s : State) : Result := if s.archived then .next (s.ochEnable false) else .next s

/-- The drain of OCH ends (13 R336, R355): the lasers are off. -/
def State.ochDrained (s : State) : State :=
  if s.get Reg.OCH_STATUS_STATE != 3 || s.och.job.isSome || s.hq.cmds.any (fun k => (k.op == 0x23 || k.op == 0x25) && k.begun) then s
  else s.lasersOff.unitDrained ochUnit

/-- OCH_CNT_CLR (13, "Registers"): SPARES_FREE is a level and stays. -/
def execOchCntClr (s : State) : Result :=
  if !s.archived then .next s
  else .next ((List.range 16).foldl (fun t c => t.zeroRow Reg.OCH_RD_FLAGGED c 3) (s.zeroWords Reg.OCH_FOLIOS.base 8))

end Sys2Proof.Machine
end

