-- ==== Sys2Proof/Machine/Hq.lean ====
section
/-!
DEFINITION. The host queue engine (09): rings, doorbell scans, fetching and checking submission entries, head doorbells,
ABORT, the error log and the administration opcodes.
-/
namespace Sys2Proof.Machine

/-- Enable, state and held fields of submission and completion rings (09 R227). -/
def sqUnit : UnitFlds := ⟨Reg.HQ_SQ_CTL_EN, Reg.HQ_SQ_STATUS_STATE, Reg.HQ_SQ_STATUS_HELD⟩
def cqUnit : UnitFlds := ⟨Reg.HQ_CQ_CTL_EN, Reg.HQ_CQ_STATUS_STATE, Reg.HQ_CQ_STATUS_HELD⟩

/-- DEPTH of a submission or completion ring (09 R225). -/
def State.sqDepth (s : State) (n : Nat) : Nat := s.get Reg.HQ_SQ_CTL_DEPTH_M1 n + 1
def State.cqDepth (s : State) (m : Nat) : Nat := s.get Reg.HQ_CQ_CTL_DEPTH_M1 m + 1

/-- Submission rings whose STATUS is not all zero: every ring that is not IDLE is one of them (STATUS resets to 0). -/
def State.ringsUsed (s : State) : List Nat :=
  let b := Reg.HQ_SQ_STATUS_STATE
  s.regs.filterMap (fun (e : Nat × Word) =>
    if b.base ≤ e.1 && decide (e.1 < b.base + b.stride * 1024) && (e.1 - b.base) % b.stride == 0 then
      some ((e.1 - b.base) / b.stride) else none)

/-- The ring is RUNNING (09 R227). -/
def State.sqRunning (s : State) (n : Nat) : Bool := s.get Reg.HQ_SQ_STATUS_STATE n == 2
def State.cqRunning (s : State) (m : Nat) : Bool := s.get Reg.HQ_CQ_STATUS_STATE m == 2

/-- A ring or doorbell register write is discarded (09 R227, R251). -/
def State.cfgRej (s : State) : State := s.setFlag Reg.HQ_STATUS_CFG_REJ true

/-- Entry reads of ring `n` under way. -/
def State.fetchesOf (s : State) (n : Nat) : Nat :=
  s.pcie.reads.countP (fun r => match r.use with | .entry k _ => k == n | _ => false)

/-- Entries of ring `n` that may be fetched and are not yet being fetched (09 R228, R231). -/
def State.unfetched (s : State) (n : Nat) : Nat :=
  let d := s.sqDepth n
  ((s.sq n).tail + d - s.get Reg.HQ_SQ_STATUS_HEAD n) % d - s.fetchesOf n

/-- The ring fetches: RUNNING, not frozen, and HQ has not stopped for SAVE (09 R248; 02 R56). -/
def State.fetches (s : State) (n : Nat) : Bool :=
  s.sqRunning n && !s.flag Reg.HQ_SQ_STATUS_FROZEN n && !s.hq.stopped && !s.saving

/-- Fetch `k` entries of ring `n` (09 R229). -/
def State.fetchEntries (s : State) (n : Nat) : Nat → State
  | 0 => s
  | k + 1 =>
    let slot := (s.get Reg.HQ_SQ_STATUS_HEAD n + s.fetchesOf n) % s.sqDepth n
    (s.issueRead (.entry n slot) (s.get64 Reg.HQ_SQ_BASE n + 64 * slot) 64).fetchEntries n k

/-- Ring that the weighted round robin serves next: the first from `rr` on, then from 1 on (09 R229). -/
def State.nextRing (s : State) : Option Nat :=
  let c := s.ringsUsed.filter (fun n => n != 0 && s.fetches n && decide (0 < s.unfetched n))
  match c.find? (fun n => decide (s.hq.rr ≤ n)) with
  | some n => some n
  | none => c.head?

/-- SUBMISSION_ENTRY_FETCH (09 R229): SQ0's entries first, else up to WEIGHT entries of the next ring. -/
def execSubmissionEntryFetch (s : State) : Result :=
  if !s.canSend 0 then .next s
  else if s.fetches 0 && decide (0 < s.unfetched 0) then .next (s.fetchEntries 0 (min s.readRoom (s.unfetched 0)))
  else
    match s.nextRing with
    | none => .next s
    | some n =>
      let s1 := s.fetchEntries n (min s.readRoom (min (s.unfetched n) (s.get Reg.HQ_SQ_CTL_WEIGHT n)))
      .next { s1 with hq := { s1.hq with rr := n + 1 } }

/-- Read a doorbell line, at once or when function 0 may read again (09 R231; 08 R220). -/
def State.readLine (s : State) (j : Nat) : State :=
  if s.canSend 0 && s.readRoom != 0 then s.issueRead (.line j) (s.get64 Reg.HQ_DB_BASE + 64 * j) 64
  else if s.hq.lineWait.contains j then s
  else { s with hq := { s.hq with lineWait := s.hq.lineWait ++ [j] } }

/-- Start a scan, and read again the head doorbells of full completion rings with entries to write (09 R231, R234). -/
def State.scan (s : State) : State :=
  if !s.canSend 0 then s
  else
    let s1 := ((s.hq.cq.filter (fun e => !e.2.held.isEmpty)).map Prod.fst).foldl (fun (t : State) m =>
      if t.cqFull m then t.readHead m else t) s
    let s2 := s1.hq.lineWait.foldl State.readLine { s1 with hq := { s1.hq with lineWait := [] } }
    if !s2.flag Reg.HQ_CTL_SCAN_EN || s2.reading .summary || s2.hq.sumHeld.isSome || s2.saving || s2.readRoom = 0 then s2
    else s2.issueRead .summary (s2.get64 Reg.HQ_SUM_ADDR) 64

/-- DOORBELL_SCAN (09 R231). -/
def execDoorbellScan (s : State) : Result := .next s.scan

/-- HQ_WAKE (09 R232): scanning returns to ACTIVE, and a scan starts. -/
def execHqWake (_v : Word) (s : State) : Result :=
  if !s.flag Reg.HQ_CTL_SCAN_EN then .next s
  else .next (({ s with hq := { s.hq with emptyScans := 0 } } : State).setFlag Reg.HQ_STATUS_SCAN_IDLE false).scan

/-- The summary line's nonzero bytes are zeroed, then their doorbell lines are read (09 R231, R232). -/
def State.takeSummary (s : State) (line : List Byte) : State :=
  let js := (List.range 64).filter (fun j => line.getD j 0 != 0)
  if js.isEmpty then
    let n := s.hq.emptyScans + 1
    ({ s with hq := { s.hq with emptyScans := n } } : State).setFlag Reg.HQ_STATUS_SCAN_IDLE
      (s.flag Reg.HQ_STATUS_SCAN_IDLE || decide (4000 ≤ n))
  else
    let s1 := ({ s with hq := { s.hq with emptyScans := 0 } } : State).setFlag Reg.HQ_STATUS_SCAN_IDLE false
    let s2 := js.foldl (fun (t : State) j => t.emit (.hostWrite (t.get64 Reg.HQ_SUM_ADDR + j) [0] false false)) s1
    js.foldl State.readLine s2

/-- A summary read failed (09 R233): after 16 in a row every RUNNING ring freezes. -/
def State.summaryFailed (s : State) : State :=
  let s1 := { s with hq := { s.hq with sumFails := s.hq.sumFails + 1, emptyScans := 0 } }
  if s1.hq.sumFails < 16 then s1
  else
    let s2 := ({ s1 with hq := { s1.hq with sumFails := 0 } } : State).inc Reg.HQ_SUM_FAIL
    (s2.ringsUsed.filter s2.sqRunning).foldl (fun (t : State) n => t.ringFault n 0x0B (t.get64 Reg.HQ_SUM_ADDR)) s2

/-- The summary line arrives (09 R231). -/
def State.summaryLine (s : State) (line : List Byte) : State :=
  let s1 := { s with hq := { s.hq with sumFails := 0 } }
  if s1.canSend 0 then s1.takeSummary line else { s1 with hq := { s1.hq with sumHeld := some line } }

/-- SUMMARY_LINE_RECEIVED (09 R231-R233). -/
def execSummaryLineReceived (r : HostRead) (s : State) : Result :=
  if !s.reading .summary then .next s
  else
    match r with
    | .data line => .next ((s.endRead .summary).summaryLine line)
    | .failed _ why => .next (s.failRead .summary why).summaryFailed

/-- A doorbell's new TAIL for a ring (09 R231 step 4, R233). -/
def State.takeTail (s : State) (n w : Nat) : State :=
  if s.sqDepth n ≤ w then s.ringFault n 0x02 0
  else s.setSq n { s.sq n with tail := w }

/-- Submission ring `n` has left IDLE and STARTING. -/
def State.sqUp (s : State) (n : Nat) : Bool := decide (2 ≤ s.get Reg.HQ_SQ_STATUS_STATE n)

/-- RUNNING rings of doorbell line `j`. -/
def State.lineRings (s : State) (j : Nat) : List Nat := (s.ringsUsed.filter s.sqRunning).filter (fun n => n / 16 == j)

/-- A doorbell line arrives (09 R231). -/
def State.doorbellLine (s : State) (j : Nat) (b : List Byte) : State :=
  (s.lineRings j).foldl (fun (t : State) n => t.takeTail n (fieldAt b (4 * (n % 16)) 4)) s

/-- A doorbell line's read failed (09 R233): its 16 rings freeze.  A ring that is not in use has no completion ring in which the fault
could be reported: it freezes without an entry (log 135). -/
def State.doorbellFailed (s : State) (j : Nat) : State :=
  ((List.range 16).map (16 * j + ·)).foldl (fun (t : State) n =>
    if t.flag Reg.HQ_SQ_STATUS_FROZEN n then t
    else if t.sqUp n then t.ringFault n 0x0B (t.get64 Reg.HQ_DB_BASE + 64 * j)
    else t.freezeRing n) s

/-- DOORBELL_LINE_RECEIVED (09 R231, R233). -/
def execDoorbellLineReceived (j : Fin 64) (r : HostRead) (s : State) : Result :=
  if !s.reading (.line j.val) then .next s
  else
    match r with
    | .data b => .next ((s.endRead (.line j.val)).doorbellLine j.val b)
    | .failed _ why => .next ((s.failRead (.line j.val) why).doorbellFailed j.val)

/-- A head-doorbell read is discarded (09 R235). -/
def State.headRejected (s : State) : State :=
  (s.setFlag Reg.HQ_STATUS_CQ_HEAD_ERR true).inc Reg.HQ_CQ_HEAD_ERRS

/-- A head doorbell's word (09 R234, R235): a HEAD between the device's copy and its tail frees entries. -/
def State.takeHead (s : State) (m w : Nat) : State :=
  let d := s.cqDepth m
  let h := (s.cq m).head
  if d ≤ w || decide ((s.get Reg.HQ_CQ_STATUS_TAIL m + d - h) % d < (w + d - h) % d) then s.headRejected
  else (s.setCq m { s.cq m with head := w }).releaseHeld m

/-- CQ_HEAD_DOORBELL_RECEIVED (09 R234, R235). -/
def execCqHeadDoorbellReceived (m : RingIx) (r : HostRead) (s : State) : Result :=
  if !s.reading (.head m.val) then .next s
  else
    match r with
    | .data b => .next ((s.endRead (.head m.val)).takeHead m.val (fieldAt b 0 4))
    | .failed _ why => .next (s.failRead (.head m.val) why).headRejected

/-- Opcodes (09, opcode tables). -/
def knownOp (op : Nat) : Bool :=
  (decide (1 ≤ op) && decide (op ≤ 5)) || (decide (0x10 ≤ op) && decide (op ≤ 0x15)) ||
    (decide (0x20 ≤ op) && decide (op ≤ 0x25)) || (decide (0x30 ≤ op) && decide (op ≤ 0x34)) ||
    (decide (0x40 ≤ op) && decide (op ≤ 0x49))

/-- Opcodes that name a key (09, opcode tables). -/
def keyOp (op : Nat) : Bool := [0x13, 0x22, 0x30, 0x31, 0x32, 0x33].contains op

/-- Opcode fields of a submission entry: offset and size from 0x18 on (09, opcode tables). -/
def opFields (op : Nat) : List (Nat × Nat) :=
  match op with
  | 0x01 | 0x02 | 0x04 | 0x05 => [(0x18, 12)]
  | 0x10 => [(0x18, 9), (0x24, 4)]
  | 0x11 | 0x12 => [(0x18, 1), (0x1A, 2)]
  | 0x13 => [(0x18, 1), (0x1A, 3), (0x20, 12)]
  | 0x14 => [(0x18, 1), (0x1A, 2), (0x20, 12)]
  | 0x15 => [(0x18, 1), (0x1A, 4), (0x20, 16)]
  | 0x20 => [(0x18, 1)]
  | 0x22 => [(0x18, 1), (0x20, 12)]
  | 0x23 => [(0x20, 12)]
  | 0x25 => [(0x18, 2)]
  | 0x30 => [(0x18, 4)]
  | 0x32 => [(0x18, 2), (0x20, 24)]
  | 0x33 => [(0x30, 8)]
  | 0x34 => [(0x18, 32)]
  | 0x40 => [(0x18, 5)]
  | 0x41 => [(0x18, 1), (0x20, 8)]
  | 0x42 => [(0x18, 2)]
  | 0x43 => [(0x18, 2), (0x20, 8)]
  | 0x44 => [(0x18, 1), (0x1A, 2), (0x20, 15)]
  | 0x45 => [(0x18, 1), (0x1A, 2)]
  | 0x46 => [(0x1A, 3)]
  | 0x47 => [(0x18, 2)]
  | 0x48 => [(0x18, 1)]
  | 0x49 => [(0x18, 1)]
  | _ => []

/-- Every reserved byte of the opcode fields is 0 (09 R236, R237). -/
def reservedZero (op : Nat) (e : List Byte) : Bool :=
  (List.range 40).all (fun i =>
    e.getD (0x18 + i) 0 == 0 || (opFields op).any (fun f => decide (f.1 ≤ 0x18 + i) && decide (0x18 + i < f.1 + f.2)))

/-- Opcode fields lie within the ranges that the opcode tables state (09 R237); ARM's take parameters are judged by R115. -/
def Cmd.fieldsOk (c : Cmd) : Bool :=
  match c.op with
  | 0x01 | 0x02 | 0x04 | 0x05 => c.fld 0x20 4 != 0
  | 0x11 | 0x12 | 0x14 => decide (c.fld 0x18 1 ≤ 15)
  | 0x13 => decide (c.fld 0x18 1 ≤ 15) && decide (c.fld 0x1C 1 ≤ 1)
  | 0x15 => decide (c.fld 0x18 1 ≤ 15) && decide (c.fld 0x1C 1 ≤ 31) && decide (c.fld 0x1D 1 ≤ 1)
  | 0x20 => decide (c.fld 0x18 1 ≤ 11)
  | 0x22 => decide (c.fld 0x18 1 ≤ 1)
  | 0x30 => [128, 192, 256].contains (c.fld 0x18 2)
  | 0x32 => decide (c.fld 0x18 1 ≤ 3) && decide (c.fld 0x19 1 ≤ 1)
  | 0x40 => decide (c.fld 0x18 2 ≤ 1023)
  | 0x44 =>
    decide (c.fld 0x1A 2 ≤ 1023) && c.fld 0x1A 2 != 0 && c.fld 0x20 8 % 4096 == 0 &&
      decide (16 ≤ c.fld 0x28 4) && decide (c.fld 0x28 4 ≤ 65536) &&
      ((c.fld 0x18 1 == 0 && decide (c.fld 0x2C 2 ≤ 1023) && c.fld 0x2E 1 % 16 != 0 && decide (c.fld 0x2E 1 < 32)) ||
       (c.fld 0x18 1 == 1 && decide (32 ≤ c.fld 0x2C 2) && decide (c.fld 0x2C 2 ≤ 2047) && decide (c.fld 0x2E 1 < 16)))
  | 0x45 => decide (c.fld 0x18 1 ≤ 1) && decide (c.fld 0x1A 2 ≤ 1023) && c.fld 0x1A 2 != 0
  | 0x46 => decide (c.fld 0x1A 2 ≤ 1023) && decide (c.fld 0x1C 1 ≤ 1)
  | 0x47 => (c.fld 0x18 1 == 1 || c.fld 0x18 1 == 2) && decide (c.fld 0x19 1 ≤ 1)
  | 0x48 => decide (c.fld 0x18 1 ≤ 1)
  | 0x49 => c.fld 0x18 1 == 0 || c.fld 0x18 1 == 2 || c.fld 0x18 1 == 3
  | _ => true

/-- The header's fields are within their ranges (09 R236). -/
def Cmd.headerOk (c : Cmd) : Bool :=
  let flags := c.fld 1 1
  let descs := c.fld 4 2
  decide (flags < 8) && (!c.fua || c.op == 0x01 || c.op == 0x04 || c.op == 0x05) && c.cid != 0xFFFF &&
    (if c.list then decide (1 ≤ descs) && decide (descs ≤ 256) && c.dataAddr % 16 == 0 else descs == 0) &&
    (c.keySlot == 0xFFFF || (keyOp c.op && decide (c.keySlot ≤ 255))) &&
    decide (c.dataLen ≤ 16777216) && c.fld 0x14 4 == 0 && (movesData c.op || (c.dataAddr == 0 && c.dataLen == 0 && !c.list))

/-- Reserved words of a descriptor list are 0, no length is 0, and the lengths sum to DATA_LEN (09, after R236). -/
def Cmd.listOk (c : Cmd) : Bool :=
  let n := c.fld 4 2
  !c.list ||
    ((List.range n).all (fun i => c.fld (64 + 16 * i + 12) 4 == 0 && c.fld (64 + 16 * i + 8) 4 != 0) &&
      (List.range n).foldl (fun a i => a + c.fld (64 + 16 * i + 8) 4) 0 == c.dataLen)

/-- The checks of an entry at fetch (09 R226, R237; 00 R6): the status with which it completes, if it may not start.  DESIGN CHOICE: the
spec gives no order among them; an invalid opcode wins over an invalid field, and that over an absent unit (log 142). -/
def State.entryStatus (s : State) (c : Cmd) : Option Nat :=
  if !knownOp c.op || (0x40 ≤ c.op && c.sq != 0) then some 0x01
  else if !c.headerOk || !reservedZero c.op c.entry || !c.fieldsOk || !c.listOk then some 0x02
  else if 0x20 ≤ c.op && c.op ≤ 0x25 && !s.part.archive then some 0x03
  else none

/-- The ring's head passes a slot; the wrap count advances with it (09 R244). -/
def State.advanceHead (s : State) (n : Nat) : State :=
  let h := (s.get Reg.HQ_SQ_STATUS_HEAD n + 1) % s.sqDepth n
  let s1 := s.put Reg.HQ_SQ_STATUS_HEAD h n
  if h = 0 then
    let w := (s.sq n).wraps + 1
    (s1.setSq n { s.sq n with wraps := w }).put Reg.HQ_SQ_STATUS_EPOCH (w % 16) n
  else s1

/-- Archive opcodes, during which the mechanism is held (15 R397). -/
def archiveOp (op : Nat) : Bool := decide (0x20 ≤ op) && decide (op ≤ 0x25)

/-- An entry of ring `n`, with its descriptor list behind it, is accepted or refused (09 R237); `listWhy` is why its descriptor
list could not be read. -/
def State.acceptEntry (s : State) (n : Nat) (e : List Byte) (listWhy : Option ReadFail) : State :=
  let c : Cmd := { tag := s.hq.nextTag, sq := n, cid := fieldAt e 2 2, epoch := (s.sq n).wraps % 16, entry := e }
  let s1 := (({ s with hq := { s.hq with nextTag := s.hq.nextTag + 1 } } : State).add64 Reg.HQ_COMMANDS 1).advanceHead n
  match s1.entryStatus (if listWhy.isSome then { c with entry := padTo (64 + 16 * 256) (e.take 64) } else c), listWhy with
  | some st, none => s1.complete c st 0 false 0
  | some 0x01, some _ => s1.complete c 0x01 0 false 0
  | _, some why => (s1.readFailed why s1.freeTag).complete c 0x0B 0 false c.dataAddr
  | none, none =>
    let s0 := if c.op = 0x03 then s1.flushFetched c.tag else s1
    let s2 := { s0 with hq := { s0.hq with cmds := s0.hq.cmds ++ [c] } }
    if archiveOp c.op then { s2 with mot := { s2.mot with held := s2.mot.held ++ [c.tag] } } else s2

/-- SUBMISSION_ENTRY_RECEIVED (09 R237, R248): the oldest entry being fetched arrives; the bytes of its descriptor list follow
it.  A failed read of the entry is a ring fault; of the list, HOST_READ_FAILED (R247). -/
def execSubmissionEntryReceived (n : RingIx) (slot : Nat) (r : HostRead) (s : State) : Result :=
  if s.reading (.stale n.val slot) then
    match r with
    | .data _ => .next (s.endRead (.stale n.val slot))
    | .failed _ why => .next (s.failRead (.stale n.val slot) why)
  else if !s.reading (.entry n.val slot) || slot != s.get Reg.HQ_SQ_STATUS_HEAD n.val || s.saving || s.hq.stopped then .next s
  else
    let s0 := s.endRead (.entry n.val slot)
    match r with
    | .data e => .next (s0.acceptEntry n.val e none)
    | .failed got why =>
      if got.length < 64 then
        .next ((s.failRead (.entry n.val slot) why).ringFault n.val 0x0B
          (s.get64 Reg.HQ_SQ_BASE n.val + 64 * slot))
      else .next (s0.acceptEntry n.val got (some why))

/-- CQ_COALESCE_EXPIRY (09 R241). -/
def execCqCoalesceExpiry (m : RingIx) (s : State) : Result :=
  let q := s.cq m.val
  if !q.coalescing then .next s
  else
    let s1 := s.setCq m.val { q with coalescing := false, owed := false }
    .next (if q.owed then s1.signal 0 (s1.get Reg.HQ_CQ_CTL_VECTOR m.val) else s1)

/-- HQ_CNT_CLR (09, "Counters"). -/
def execHqCntClr (s : State) : Result :=
  .next (((((s.put64 Reg.HQ_COMMANDS 0).put Reg.HQ_FREEZES 0).put Reg.HQ_SUM_FAIL 0).put Reg.HQ_CQ_HEAD_ERRS 0))

/-- The freeze of a ring is cleared (09 R248); with `skip` the head moves to the latest TAIL taken.  Answers the entries
skipped. -/
def State.resumeRing (s : State) (n : Nat) (skip : Bool) : Nat × State :=
  let h := s.get Reg.HQ_SQ_STATUS_HEAD n
  let t := (s.sq n).tail
  let s1 := s.setFlag Reg.HQ_SQ_STATUS_FROZEN false n
  if !skip then (0, s1.readLine (n / 16))
  else
    let w := if t < h then (s.sq n).wraps + 1 else (s.sq n).wraps
    let s2 := ((s1.setSq n { s.sq n with wraps := w }).put Reg.HQ_SQ_STATUS_HEAD t n).put Reg.HQ_SQ_STATUS_EPOCH (w % 16) n
    ((t + s.sqDepth n - h) % s.sqDepth n, s2.readLine (n / 16))

/-- SQ_RESUME (09 R248): RESUME of a ring that is not frozen has nothing to clear. -/
def execSqResume (n : RingIx) (skip : Bool) (s : State) : Result :=
  if s.flag Reg.HQ_SQ_STATUS_FROZEN n.val then .next (s.resumeRing n.val skip).2 else .next s

/-- RING_RESUME (09 R248). -/
def execRingResume (c : Nat) (s : State) : Result :=
  s.onCmd c 0x46 fun s k =>
    let n := k.fld 0x1A 2
    if !s.flag Reg.HQ_SQ_STATUS_FROZEN n then s.finish c 0x02 0
    else
      let (skipped, s1) := s.resumeRing n (k.fld 0x1C 1 == 1)
      s1.finish c 0 skipped

/-- Opcodes that an abort never catches (09 R250); FEATURE_GET, which the table leaves out, moves no data and waits for
nothing. -/
def neverCaught (op : Nat) : Bool :=
  [0x20, 0x21, 0x24, 0x30, 0x31, 0x40, 0x42, 0x43, 0x44, 0x45, 0x46, 0x47, 0x48].contains op

/-- The command can still be caught (09 R250). -/
def State.canCatch (s : State) (k : Cmd) : Bool :=
  !neverCaught k.op && !k.pastAbort && k.caught.isNone && (s.cmd k.tag).isSome

/-- A STOP that was caught before its take changed state has no effect (09 R250): the take no longer waits for it, and a stop that only it
scheduled is off (07 R186). -/
def State.dropStop (s : State) (k : Cmd) : State :=
  let seg := k.fld 0x18 1
  let t := s.take seg
  if !t.waiting.contains k.tag then s
  else
    let w := t.waiting.filter (· != k.tag)
    let off := w.isEmpty && t.stopSeq.isSome && decide (s.takeState seg < 4)
    let s1 := s.setTake seg { t with waiting := w, stopSeq := if off then none else t.stopSeq }
    if off then s1.noteSeg seg else s1

/-- A command that can be caught is caught and ends with `st`: at once, when its archive folio in progress ends, or at the next
forme boundary (09 R250). -/
def State.catchCmd (s : State) (k : Cmd) (st : Nat) : State :=
  let job := match s.och.job with | some j => j.cmd == k.tag | none => false
  if k.op = 0x22 && job then s.archiveStop (some st)
  else if (k.op = 0x15 || k.op = 0x23 || k.op = 0x25) && k.begun then s.setCmd { k with caught := some st }
  else (if k.op = 0x11 then s.dropStop k else s).finish k.tag st (if k.op ≤ 0x05 then s.blocksDone k else k.progress) k.poisoned k.detail

/-- Entries of ring `n` received since it was created, counted by its wraps and head (09 R244). -/
def State.headCount (s : State) (n : Nat) : Nat := (s.sq n).wraps * s.sqDepth n + s.get Reg.HQ_SQ_STATUS_HEAD n

/-- ABORT (09 R250): it first fetches the ring up to the latest TAIL, then searches, and completes once the target's completion is
determined. -/
def execAbort (c : Nat) (s : State) : Result :=
  s.onCmd c 0x40 fun s k =>
    let n := k.fld 0x18 2
    match s.hq.aborts.find? (fun a => a.1 == c) with
    | some a =>
      if (s.cmd a.2.1).isSome then s
      else
        ({ s with hq := { s.hq with aborts := s.hq.aborts.filter (fun b => b.1 != c) } } : State).finish c 0
          (if a.2.2 then 0 else 1)
    | none =>
      let goal := if k.begun then k.progress else s.headCount n + s.fetchesOf n + s.unfetched n
      let s1 := (if s.canSend 0 && s.fetches n then s.fetchEntries n (min s.readRoom (s.unfetched n)) else s).setCmd
        { k with begun := true, progress := goal }
      if s.fetches n && decide (s.headCount n < goal) && decide (0 < s.fetchesOf n + s.unfetched n) then s1
      else
        match s1.hq.cmds.find? (fun d => d.sq == n && d.cid == k.fld 0x1A 2 && d.epoch == k.fld 0x1C 1 && d.tag != c &&
            !d.abandoned) with
        | none => s1.finish c 0 1
        | some d =>
          let caught := s1.canCatch d
          let s2 := if caught then s1.catchCmd d 0x05 else s1
          if (s2.cmd d.tag).isSome then { s2 with hq := { s2.hq with aborts := s2.hq.aborts ++ [(c, d.tag, caught)] } }
          else s2.finish c 0 (if caught then 0 else 1)

/-- The 32 bytes of an error log entry (09 R249). -/
def logBytes (e : LogEntry) : List Byte :=
  leBytes 8 e.seq ++ leBytes 8 e.time ++ leBytes 2 e.ring ++ leBytes 2 e.cid ++ leBytes 1 e.epoch ++ leBytes 1 e.opcode ++
    leBytes 1 e.status ++ leBytes 1 e.flags ++ leBytes 8 e.detail

/-- LOG_READ page 1 (09 R249): the log in ascending SEQ. -/
def State.errorPage (s : State) : List Byte := (s.hq.log.reverse.map logBytes).flatten

/-- Erase counts of the good blocks. -/
def State.goodErases (s : State) : List Nat := (s.allBlocks.filter s.blockGood).map (fun b => (s.block b).erase)

/-- LOG_READ page 2 (10 R287). -/
def State.healthPage (s : State) : List Byte :=
  let er := s.goodErases
  let lo := match er with | [] => 0 | a :: r => r.foldl min a
  let rated := match s.mag.dies with | d :: _ => d.ratedPe | [] => 0
  let grown := s.nand.blocks.countP (fun b => b.2.grownBad)
  leBytes 4 1 ++ leBytes 1 s.magState ++ leBytes 1 (if s.mag.lbs = 16384 then 1 else 0) ++ leBytes 2 s.mag.dies.length ++
    leBytes 8 s.mag.exportUnits ++ leBytes 8 s.mag.map.length ++ leBytes 8 s.mag.slcBytes ++ leBytes 4 rated ++
    leBytes 4 lo ++ leBytes 4 (er.foldl (· + ·) 0 / max 1 er.length) ++ leBytes 4 (er.foldl max 0) ++
    leBytes 4 (s.mag.dies.foldl (fun n d => n + d.factoryBad.length) 0) ++ leBytes 4 grown ++ leBytes 8 s.goodTlc ++
    leBytes 8 s.mag.hostUnits ++ leBytes 8 s.mag.nandUnits ++ leBytes 8 s.mag.refreshes ++ leBytes 8 s.mag.ueSectors ++
    leBytes 8 s.mag.lost ++ leBytes 4 s.nand.poison.length ++
    leBytes 1 ((if s.nand.overflow then 1 else 0) + (if s.mag.spareLow then 2 else 0)) ++ zeros 19 ++ padTo 32 s.magId ++
    zeros 96 ++
    (s.nand.poison.map (fun p => leBytes 4 p.unit ++ leBytes 1 p.mask ++ leBytes 1 p.cause ++ zeros 2 ++ leBytes 8 p.time)).flatten

/-- LOG_READ (09 R239, R249; 10 R287). -/
def execLogRead (c : Nat) (s : State) : Result :=
  s.onCmd c 0x41 fun s k =>
    let page := k.fld 0x18 1
    if page != 1 && page != 2 then s.finish c 0x02 0
    else
      let d := (((if page = 1 then s.errorPage else s.healthPage).drop (k.fld 0x20 8)).take k.dataLen)
      (s.deliver k d []).finish c 0 d.length

/-- FEATURE_GET (09 R239, "Administration"). -/
def execFeatureGet (c : Nat) (s : State) : Result :=
  s.onCmd c 0x42 fun s k =>
    match k.fld 0x18 2 with
    | 1 => s.finish c 0 (if s.hq.writeCache then 1 else 0)
    | 2 => if s.mounted then s.finish c 0 s.mag.lbs else s.finish c 0x11 0
    | 3 => s.finish c 0 16777216
    | _ => s.finish c 0x02 0

/-- FEATURE_SET (09 R239, "Administration"). -/
def execFeatureSet (c : Nat) (s : State) : Result :=
  s.onCmd c 0x43 fun s k =>
    if k.fld 0x18 2 = 1 && k.fld 0x20 8 ≤ 1 then
      ({ s with hq := { s.hq with writeCache := k.fld 0x20 8 == 1 } } : State).finish c 0 0
    else s.finish c 0x02 0

/-- Every outstanding command of a ring that is deleted is aborted (09 R251). -/
def State.abortRing (s : State) (n : Nat) : State :=
  (s.hq.cmds.filter (fun d => d.sq == n)).foldl (fun (t : State) d =>
    if t.canCatch d then
      (t.setSq n { t.sq n with aborted := (t.sq n).aborted + 1 }).catchCmd d 0x06
    else t) s

/-- A submission ring stops: it fetches no more, and its commands are aborted (09 R251). -/
def State.sqStop (s : State) (n : Nat) : State :=
  ((s.setSq n { s.sq n with aborted := 0 }).dropFetches n).abortRing n

/-- A completion ring may be deleted: every submission ring that names it is IDLE (09 R251). -/
def State.cqFree (s : State) (m : Nat) : Bool :=
  !s.ringsUsed.any (fun n => s.get Reg.HQ_SQ_STATUS_STATE n != 0 && s.get Reg.HQ_SQ_CTL_CQ n == m)

/-- A write of `b` to a submission ring's EN (09 R227, R251). -/
def State.sqEnable (s : State) (n : Nat) (b : Bool) : State :=
  if b && s.get Reg.HQ_SQ_STATUS_STATE n == 0 && !s.cqRunning (s.get Reg.HQ_SQ_CTL_CQ n) then s.cfgRej
  else
    let stops := !b && s.sqRunning n
    let s1 := s.enableWrite sqUnit b n
    if stops then s1.sqStop n else s1

/-- A write of `b` to a completion ring's EN (09 R251). -/
def State.cqEnable (s : State) (m : Nat) (b : Bool) : State :=
  if !b && !s.cqFree m then s.cfgRej else s.enableWrite cqUnit b m

/-- Commands end with SUCCESS and a RESULT. -/
def State.finishAll (s : State) (tags : List Nat) (result : Nat) : State :=
  tags.foldl (fun (t : State) c => t.finish c 0 result) s

/-- Fields of a created submission ring (09 R226). -/
def State.setSqFields (s : State) (n : Nat) (f : RingFields) : State :=
  (((((s.put64 Reg.HQ_SQ_BASE f.base n).put Reg.HQ_SQ_CTL_DEPTH_M1 f.depth n).put Reg.HQ_SQ_CTL_CQ f.target n).put
    Reg.HQ_SQ_CTL_WEIGHT f.rate n).setFlag Reg.HQ_SQ_CTL_FREEZE_ON_ERR f.opt n)

/-- Fields of a created completion ring (09 R226). -/
def State.setCqFields (s : State) (m : Nat) (f : RingFields) : State :=
  (((((s.put64 Reg.HQ_CQ_BASE f.base m).put Reg.HQ_CQ_CTL_DEPTH_M1 f.depth m).put Reg.HQ_CQ_CTL_VECTOR f.target m).put
    Reg.HQ_CQ_CTL_COAL f.rate m).setFlag Reg.HQ_CQ_CTL_IEN f.opt m)

/-- A submission ring's start-up ends (09 R227; 02 R46): head, tail and wrap count are 0. -/
def State.sqStarted (s : State) (n : Nat) : State :=
  if s.get Reg.HQ_SQ_STATUS_STATE n != 1 then s
  else
    let q := s.sq n
    let s1 := ((s.setSq n { q with tail := 0, wraps := 0 }).put Reg.HQ_SQ_STATUS_HEAD 0 n).put Reg.HQ_SQ_STATUS_EPOCH 0 n
    let s2 := (s1.setFlag Reg.HQ_SQ_STATUS_FROZEN false n).unitStarted sqUnit n
    if s2.sqRunning n then (s2.setSq n { s2.sq n with creating := [] }).finishAll q.creating 0 else s2.sqStop n

/-- A completion ring's start-up ends (09 R227): head and tail are 0, and the phase it writes is 1. -/
def State.cqStarted (s : State) (m : Nat) : State :=
  if s.get Reg.HQ_CQ_STATUS_STATE m != 1 then s
  else
    let q := s.cq m
    let s1 := ((s.setCq m { q with head := 0 }).put Reg.HQ_CQ_STATUS_TAIL 0 m).put
      Reg.HQ_CQ_STATUS_PHASE 1 m
    let s2 := (s1.setFlag Reg.HQ_CQ_STATUS_FULL false m).unitStarted cqUnit m
    if s2.cqRunning m then (s2.setCq m { s2.cq m with creating := [] }).finishAll q.creating 0 else s2

/-- A submission ring has drained: no command outstanding and every entry written (09 R251). -/
def State.sqDrainedNow (s : State) (n : Nat) : Bool :=
  !s.hq.cmds.any (fun d => d.sq == n && !d.abandoned) && s.hq.cq.all (fun e => !e.2.held.any (fun h => h.sq == n))

/-- A stopping submission ring drains (02 R46; 09 R251): IDLE, or STARTING with the fields of a held RING_CREATE. -/
def State.sqDrained (s : State) (n : Nat) : State :=
  if s.get Reg.HQ_SQ_STATUS_STATE n != 3 || !s.sqDrainedNow n then s
  else
    let q := s.sq n
    let held := s.flag Reg.HQ_SQ_STATUS_HELD n
    let s1 := (s.setSq n { q with deleting := [], heldCreate := none, aborted := 0 }).unitDrained sqUnit n
    let s2 := match held, q.heldCreate with | true, some f => s1.setSqFields n f | _, _ => s1
    let s3 := s2.finishAll q.deleting q.aborted
    if held && !s3.cqRunning (s3.get Reg.HQ_SQ_CTL_CQ n) then
      let s4 := ((s3.put Reg.HQ_SQ_STATUS_STATE 0 n).setFlag Reg.HQ_SQ_CTL_EN false n).cfgRej
      q.creating.foldl (fun (t : State) c => t.finish c 0x02 0) (s4.setSq n { s4.sq n with creating := [] })
    else s3

/-- A stopping completion ring drains (02 R46; 09 R251). -/
def State.cqDrained (s : State) (m : Nat) : State :=
  if s.get Reg.HQ_CQ_STATUS_STATE m != 3 || !(s.cq m).held.isEmpty then s
  else
    let q := s.cq m
    let held := s.flag Reg.HQ_CQ_STATUS_HELD m
    let s1 := (s.setCq m { q with deleting := [], heldCreate := none }).unitDrained cqUnit m
    let s2 := match held, q.heldCreate with | true, some f => s1.setCqFields m f | _, _ => s1
    s2.finishAll q.deleting 0

/-- RING_CREATE (09 R226, R227, R251). -/
def execRingCreate (c : Nat) (s : State) : Result :=
  s.onCmd c 0x44 fun s k =>
    let n := k.fld 0x1A 2
    let o := k.fld 0x2E 1
    if k.begun then s
    else if k.fld 0x18 1 = 0 then
      let f : RingFields := { base := k.fld 0x20 8, depth := k.fld 0x28 4 - 1, target := k.fld 0x2C 2, rate := o % 16,
                              opt := o / 16 == 1 }
      match s.get Reg.HQ_SQ_STATUS_STATE n with
      | 0 =>
        let s1 := s.setSqFields n f
        if !s1.cqRunning f.target then s1.cfgRej.finish c 0x02 0
        else (s1.setSq n { s1.sq n with creating := [c] }).sqEnable n true
      | 3 =>
        (s.setSq n { s.sq n with creating := (s.sq n).creating ++ [c], heldCreate := some f }).sqEnable n true
      | _ => s.cfgRej.finish c 0x02 0
    else
      let f : RingFields := { base := k.fld 0x20 8, depth := k.fld 0x28 4 - 1, target := k.fld 0x2C 2, rate := o % 8,
                              opt := o / 8 == 1 }
      match s.get Reg.HQ_CQ_STATUS_STATE n with
      | 0 => ((s.setCqFields n f).setCq n { s.cq n with creating := [c] }).cqEnable n true
      | 3 => (s.setCq n { s.cq n with creating := (s.cq n).creating ++ [c], heldCreate := some f }).cqEnable n true
      | _ => s.cfgRej.finish c 0x02 0

/-- RING_DELETE (09 R251). -/
def execRingDelete (c : Nat) (s : State) : Result :=
  s.onCmd c 0x45 fun s k =>
    let n := k.fld 0x1A 2
    if k.begun then s
    else if k.fld 0x18 1 = 0 then
      if s.get Reg.HQ_SQ_STATUS_STATE n = 0 then s.finish c 0 0
      else (s.sqEnable n false).setSq n { (s.sqEnable n false).sq n with deleting := (s.sq n).deleting ++ [c] }
    else if !s.cqFree n then s.finish c 0x02 0
    else if s.get Reg.HQ_CQ_STATUS_STATE n = 0 then s.finish c 0 0
    else (s.setCq n { s.cq n with deleting := (s.cq n).deleting ++ [c] }).cqEnable n false

/-- Messages of a function's unmasked pending vectors are sent (08 R209, R221). -/
def State.sendPending (s : State) (fn : Nat) : State :=
  ((List.range (if fn = 0 then 64 else 1)).filter (fun w => s.get (pbaFld fn) w != 0)).foldl (fun (t : State) w =>
    (List.range 32).foldl (fun (t : State) b => if t.pba fn (32 * w + b) then t.signal fn (32 * w + b) else t) t) s

/-- A function resumes after containment, D3hot, Bus Master Enable 0 or retraining (08 R221, R224, R534): pending messages,
held completion entries, then transfers and scanning. -/
def State.resumeFn (s : State) (fn : Nat) : State :=
  if !s.canSend fn then s
  else
    let s1 := s.sendPending fn
    if fn != 0 then s1
    else
      let s2 := (s1.hq.cq.map Prod.fst).foldl State.releaseHeld s1
      let s3 := s2.hq.lineWait.foldl State.readLine { s2 with hq := { s2.hq with lineWait := [] } }
      match s3.hq.sumHeld with
      | some line => ({ s3 with hq := { s3.hq with sumHeld := none } } : State).takeSummary line
      | none => s3

end Sys2Proof.Machine
end

