-- ==== Sys2Proof/Machine/Zlt.lean ====
section
/-!
DEFINITION. The ZLT tile code (05 R141-R154): from the 4,096 samples of a sort to its coded sort.  Samples are natural numbers
below 2^14, in raster order.
-/
namespace Sys2Proof.Machine

/-- A plane of a sort: its side and its samples in raster order (05 R143). -/
def zltPlane (cfa : Bool) (x : Array Nat) (q : Nat) : Nat × Array Nat :=
  if cfa then
    (32, ((List.range 1024).map (fun i => x.getD (64 * (2 * (i / 32) + q / 2) + 2 * (i % 32) + q % 2) 0)).toArray)
  else (64, x)

/-- A value clamped to the sample range. -/
def sampleClamp (v : Int) : Nat := (min (max v 0) 16383).toNat

/-- The prediction at (u, v) from the reconstructed plane (05 R145). -/
def zltPredict (pr side : Nat) (r : Array Nat) (u v : Nat) : Int :=
  let g := fun (u v : Nat) => (r.getD (side * v + u) 0 : Int)
  let a := if u = 0 then g u (v - 1) else g (u - 1) v
  let b := if v = 0 then g (u - 1) v else g u (v - 1)
  let c := if v = 0 then a else if u = 0 then b else g (u - 1) (v - 1)
  match pr with
  | 0 => a
  | 1 => b
  | 2 => sampleClamp (a + b - c)
  | _ => if max a b ≤ c then min a b else if c ≤ min a b then max a b else a + b - c

/-- Residual and reconstruction of a sample: LOSSLESS for bound 0 (05 R146), else BOUNDED (05 R147). -/
def zltResidual (bound : Nat) (x : Nat) (p : Int) : Int × Nat :=
  if bound = 0 then
    let t := ((x : Int) - p + 8192) % 16384 - 8192
    (t, x)
  else
    let step : Int := 2 * bound + 1
    let e : Int := (x : Int) - p
    let m : Int := ((e.natAbs + bound) / (2 * bound + 1) : Nat)
    let t := if e < 0 then -m else m
    (t, sampleClamp (p + t * step))

/-- The non-negative value of a residual (05 R148). -/
def zltMap (t : Int) : Nat := if 0 ≤ t then (2 * t).toNat else (-2 * t - 1).toNat

/-- One block under one predictor: its cost, the value of each position (the verbatim sample of the plane's first position), and
the reconstructed plane (05 R144, R154). -/
def zltTry (bound side : Nat) (x r : Array Nat) (bx by_ pr : Nat) : Nat × List (Bool × Nat) × Array Nat :=
  let (cost, vals, r1) := (List.range 64).foldl (fun (st : Nat × List (Bool × Nat) × Array Nat) i =>
    let (cost, vals, r) := st
    let u := 8 * bx + i % 8
    let v := 8 * by_ + i / 8
    let s := x.getD (side * v + u) 0
    if u = 0 && v = 0 then (cost, (true, s) :: vals, r.setIfInBounds 0 s)
    else
      let (t, rec) := zltResidual bound s (zltPredict pr side r u v)
      (cost + zltMap t, (false, zltMap t) :: vals, r.setIfInBounds (side * v + u) rec)) (0, [], r)
  (cost, vals.reverse, r1)

/-- The chosen predictor of a block: the lowest cost, and of equal costs the lowest PRED (05 R154). -/
def zltChoose (bound side : Nat) (x r : Array Nat) (bx by_ : Nat) : Nat × List (Bool × Nat) × Array Nat :=
  let tries := (List.range 4).map (fun pr => (pr, zltTry bound side x r bx by_ pr))
  match tries with
  | [] => (0, [], r)
  | t :: rest =>
    let best := rest.foldl (fun b c => if c.2.1 < b.2.1 then c else b) t
    (best.1, best.2.2.1, best.2.2.2)

/-- The `n` low bits of a value, most significant first (05 R142). -/
def msbBits (n v : Nat) : List Bool := (List.range n).map (fun i => (v >>> (n - 1 - i)) % 2 == 1)

/-- Parameter k of the adaptation state (05 R149). -/
def zltK (acc n : Nat) : Nat := ((List.range 14).find? (fun k => decide (acc ≤ n * 2 ^ k))).getD 13

/-- The code of M with parameter k (05 R150). -/
def zltCode (m k : Nat) : List Bool :=
  let u := m >>> k
  if u < 24 then List.replicate u true ++ [false] ++ msbBits k m else List.replicate 24 true ++ msbBits 14 m

/-- Codes of a block's positions, with the adaptation state (05 R149); the bits come last first. -/
def zltCodes : List (Bool × Nat) → Nat → Nat → List Bool → Nat × Nat × List Bool
  | [], acc, n, out => (acc, n, out)
  | (verbatim, m) :: r, acc, n, out =>
    if verbatim then zltCodes r acc n ((msbBits 14 m).reverse ++ out)
    else
      let out1 := (zltCode m (zltK acc n)).reverse ++ out
      let acc1 := acc + m
      let n1 := n + 1
      if n1 = 32 then zltCodes r (acc1 / 2) 16 out1 else zltCodes r acc1 n1 out1

/-- The bits of a plane, last first, onto `out` (05 R143, R144). -/
def zltPlaneBits (bound side : Nat) (x : Array Nat) (out : List Bool) : List Bool :=
  let nb := side / 8
  ((List.range (nb * nb)).foldl (fun (st : Array Nat × Nat × Nat × List Bool) i =>
    let (r, acc, n, out) := st
    let (pr, vals, r1) := zltChoose bound side x r (i % nb) (i / nb)
    let (acc1, n1, out1) := zltCodes vals acc n ((msbBits 2 pr).reverse ++ out)
    (r1, acc1, n1, out1)) ((List.replicate (side * side) 0).toArray, 64, 1, out)).2.2.2

/-- `n` bytes of a bit string, each filled from its most significant bit down (05 R142). -/
def bitBytes : Nat → List Bool → List Byte
  | 0, _ => []
  | n + 1, b =>
    BitVec.ofNat 8 ((List.range 8).foldl (fun a i => 2 * a + (if b.getD i false then 1 else 0)) 0) :: bitBytes n (b.drop 8)

/-- Bytes of a bit string, zero-padded to a multiple of 8 bytes (05 R142). -/
def packBits (bits : List Bool) : List Byte := bitBytes ((bits.length + 63) / 64 * 8) bits

/-- ZLT payload of a sort (05 R142-R150). -/
def zltPayload (cfa : Bool) (bound : Nat) (x : Array Nat) : List Byte :=
  packBits ((List.range (if cfa then 4 else 1)).foldl (fun out q =>
    let (side, p) := zltPlane cfa x q
    zltPlaneBits bound side p out) []).reverse

/-- Raw payload of a sort (05 R151). -/
def rawPayload (x : List Nat) : List Byte := packBits (x.flatMap (msbBits 14))

/-- A coded sort (05 R141, R152, R153): CODE_MODE 0 LOSSLESS, 1 BOUNDED, 2 RAW.  Answers also whether it fell back to raw. -/
def codeSort (num mode bound : Nat) (cfa incomplete : Bool) (x : List Nat) : List Byte × Bool :=
  let zlt := zltPayload cfa (if mode = 1 then bound else 0) x.toArray
  let (payload, m) := if mode = 2 then (rawPayload x, 2) else if 7168 < zlt.length then (rawPayload x, 3) else (zlt, mode)
  let flags := (if m = 1 then bound else 0) + (if cfa then 16 else 0) + (if incomplete then 32 else 0)
  (leBytes 4 num ++ leBytes 2 payload.length ++ leBytes 1 m ++ leBytes 1 flags ++ leBytes 4 (crc32 payload) ++ zeros 4 ++
    payload, m == 3)

end Sys2Proof.Machine
end

