-- ==== Sys2Proof/Machine/Frames.lean ====
section
/-!
DEFINITION. Frames under assembly (04 R98-R108): geometry, sorts, assembly slots, the queues of the compositor array (05 R129),
and the forme writer (06 R161-R164).
-/
namespace Sys2Proof.Machine

/-- Sort columns, tile rows and sorts of a frame (04, "Cutting into sorts"). -/
def colsOf (width : Nat) : Nat := (width + 63) / 64
def rowsOf (height : Nat) : Nat := (height + 63) / 64
def Frame.cols (f : Frame) : Nat := colsOf f.width
def Frame.trows (f : Frame) : Nat := rowsOf f.height
def Frame.count (f : Frame) : Nat := f.cols * f.trows

/-- FORME_MAX of `n` sorts (04, "Pre-trigger history"). -/
def formeMaxOf (n : Nat) : Nat := roundUp (128 + 8 * n + 7184 * n) 4096

/-- The stripe map as the registers hold it (04 R98). -/
def State.stripeMap (s : State) : List Stripe :=
  (List.range 32).map (fun p =>
    { en := s.flag Reg.CAP_STRIPE_MAP_EN p, base := s.get Reg.CAP_STRIPE_MAP_BASE p,
      count := s.get Reg.CAP_STRIPE_MAP_COUNT p, stride := s.get Reg.CAP_STRIPE_STEP_STRIDE p })

/-- Line `k` of an entry, and its lines in ascending order (04, before R99). -/
def Stripe.line (e : Stripe) (k : Nat) : Nat := e.base + k * e.stride
def Stripe.lines (e : Stripe) : List Nat := if e.en then (List.range e.count).map e.line else []

/-- Index of a line in an entry (04 R99). -/
def Stripe.indexOf (e : Stripe) (line : Nat) : Option Nat :=
  if e.en && decide (e.base ≤ line) && decide (e.stride ≠ 0) && (line - e.base) % e.stride == 0 &&
      decide ((line - e.base) / e.stride < e.count) then some ((line - e.base) / e.stride)
  else none

/-- A stripe map is valid (04 R99): its enabled entries cover the lines of the frame, each once. -/
def stripesValid (m : List Stripe) (height : Nat) : Bool :=
  (m.foldl (fun n e => if e.en then n + e.count else n) 0) == height &&
    (List.range height).all (fun l => (m.flatMap Stripe.lines).contains l)

/-- T_open (04 R104): the largest number of tile rows that hold the j-th lines of the enabled entries. -/
def tOpen (m : List Stripe) : Nat :=
  let es := m.filter (fun e => e.en)
  (List.range (es.foldl (fun n e => max n e.count) 0)).foldl (fun n j =>
    max n ((es.filter (fun e => decide (j < e.count))).map (fun e => e.line j / 64)).eraseDups.length) 0

/-- A frame that is still held, by its number. -/
def State.frame (s : State) (n : Nat) : Option Frame := s.cap.frames.find? (fun f => f.num == n)
/-- Set a held frame. -/
def State.setFrame (s : State) (f : Frame) : State :=
  { s with cap := { s.cap with frames := s.cap.frames.map (fun g => if g.num == f.num then f else g) } }
/-- Number of the latest opened frame; 0 before the first (04 R102). -/
def State.latestNum (s : State) : Nat := s.get64 Reg.CAP_FRAME_NUM
/-- Open frames, oldest first (04 R100). -/
def State.openFrames (s : State) : List Frame := s.cap.frames.filter (fun f => f.isOpen)

/-- The current take: the one ARMED or RUNNING (04 R117). -/
def State.currentTake (s : State) : Option Nat :=
  (List.range 16).find? (fun k => s.takeState k == 2 || s.takeState k == 3)
/-- Galley address of a segment (06 R160). -/
def State.segBase (s : State) (seg : Nat) : Nat := s.get Reg.CAP_SEG_CFG_BASE seg * 2 ^ 26

/-! ### The assembly store (04 R104) -/

/-- Assembly slots in use. -/
def State.slotsUsed (s : State) : Nat := s.cap.frames.foldl (fun n f => n + f.slots) 0

/-- A compositor works on the frame, or has coded a sort of it that is not yet delivered. -/
def State.frameBusy (s : State) (n : Nat) : Bool :=
  s.cmp.held.any (fun h => h.2.frame == n) || s.cmp.out.any (fun c => c.frame == n)

/-- Frames that nothing needs any more are forgotten: closed, stored, dropped or in no take, and not among the two latest
(head transmit and marks). -/
def State.retire (s : State) : State :=
  let n := s.latestNum
  { s with cap := { s.cap with frames := s.cap.frames.filter (fun f =>
      f.isOpen || decide (n < f.num + 2) || (f.take.isSome && !f.dropped && !f.headerDone) || s.frameBusy f.num) } }

/-! ### Sorts (04 R103, R105) -/

/-- A packing group of a line was received. -/
def Frame.hasGroup (f : Frame) (line g : Nat) : Bool := (f.groups.lookup (line * 2048 + g)).isSome

/-- Groups of a sort on the lines of its tile row that lie in the frame: received or not. -/
def Frame.sortGroups (f : Frame) (sort : Nat) : List Bool :=
  let r := sort / f.cols
  let c := sort % f.cols
  let gs := if 64 * c + 32 < f.width then [2 * c, 2 * c + 1] else [2 * c]
  (List.range (min 64 (f.height - 64 * r))).flatMap (fun i => gs.map (fun g => f.hasGroup (64 * r + i) g))

/-- State of a sort (04 R105). -/
def Frame.sortState (f : Frame) (sort : Nat) : SortState :=
  let g := f.sortGroups sort
  if g.all id then .complete else if g.any id then .incomplete else .absent

/-- A received sample; 0 where none was received (04 R105; 03 R72). -/
def Frame.sample (f : Frame) (x y : Nat) : Nat :=
  match f.groups.lookup (y * 2048 + x / 32) with
  | some g => (g.toNat >>> (14 * (x % 32))) % 16384
  | none => 0

/-- Where a position beyond an edge at `n` takes its sample (04 R103). -/
def fillFrom (x n : Nat) : Nat := if x < n then x else x - 2 * ((x - n + 2) / 2)

/-- The 4,096 samples of a sort in raster order (04 R103). -/
def Frame.samples (f : Frame) (sort : Nat) : List Nat :=
  let r := sort / f.cols
  let c := sort % f.cols
  (List.range 4096).map (fun i => f.sample (fillFrom (64 * c + i % 64) f.width) (fillFrom (64 * r + i / 64) f.height))

/-! ### Cluster queues (05 R129) -/

/-- Clusters that the part has: K. -/
def State.clusters (s : State) : Nat := s.part.clusters

/-- A cluster's queue, oldest sort first: frame and sort number. -/
def State.queue (s : State) (c : Nat) : List (Nat × Nat) := (s.cmp.queues.lookup c).getD []
def State.setQueue (s : State) (c : Nat) (q : List (Nat × Nat)) : State :=
  let s1 := { s with cmp := { s.cmp with queues := insertKey s.cmp.queues c q } }
  s1.put Reg.CMP_CLUSTER_STATUS_QUEUE q.length c

/-- Clusters in the order home, home + 1, home - 1, home + 2, … modulo `k`, each once. -/
def aroundHome (home k : Nat) : List Nat :=
  (home :: (List.range (k / 2)).flatMap (fun d => [(home + (d + 1)) % k, (home + k - (d + 1)) % k])).eraseDups

/-- A ready sort enters the queue of its home cluster or of the nearest RUNNING one, else stays unqueued (05 R129). -/
def State.placeQueue (s : State) (frame sort : Nat) : State :=
  let k := max 1 s.clusters
  match (aroundHome (sort % k) k).find? (fun c => s.get Reg.CMP_CLUSTER_STATUS_STATE c == 2) with
  | some c =>
    let s1 := s.setQueue c (s.queue c ++ [(frame, sort)])
    s1.put Reg.CMP_CLUSTER_QUEUE_PEAK (max (s.get Reg.CMP_CLUSTER_QUEUE_PEAK c) ((s.queue c).length + 1)) c
  | none => { s with cmp := { s.cmp with unqueued := s.cmp.unqueued ++ [(frame, sort)] } }

/-- Sorts that waited for a RUNNING cluster are placed in ascending frame and sort number (05 R129, R130). -/
def State.placeUnqueued (s : State) : State :=
  let w := s.cmp.unqueued.mergeSort (fun a b => decide (a.1 < b.1) || (a.1 == b.1 && decide (a.2 ≤ b.2)))
  w.foldl (fun (t : State) e => t.placeQueue e.1 e.2) { s with cmp := { s.cmp with unqueued := [] } }

/-- The sorts of a frame that wait for a compositor are discarded (04 R123). -/
def State.purgeQueues (s : State) (frame : Nat) : State :=
  let s1 := (s.cmp.queues.map Prod.fst).foldl (fun (t : State) c =>
    t.setQueue c ((t.queue c).filter (fun e => e.1 != frame))) s
  { s1 with cmp := { s1.cmp with unqueued := s1.cmp.unqueued.filter (fun e => e.1 != frame),
                                 out := s1.cmp.out.filter (fun c => c.frame != frame) } }

/-! ### The forme writer (06 R161-R164) -/

/-- Galley address of a frame's forme. -/
def State.formeAddr (s : State) (f : Frame) : Nat := s.segBase (f.take.getD 0) + f.span.getD 0

/-- Write whole lines in the INGEST class; lines in `bad` are written poisoned (06 R171, R173). -/
def State.ingest (s : State) (a : Nat) (bytes : List Byte) (bad : List Nat) : State :=
  (piecesAt a bytes).foldl (fun (t : State) p => t.writeGalLine p.1 p.2.1 p.2.2 (bad.contains p.1) srcIngest) s

/-- Offset of the first sort in a forme of `n` sorts, and bytes of it that share the directory's last line (06 R161). -/
def sortsOff (n : Nat) : Nat := 128 + 8 * n
def leadLen (n : Nat) : Nat := roundUp (sortsOff n) 64 - sortsOff n

/-- Append bytes in final position: the bytes of the directory's line and of an incomplete line stay in the writer, whole lines
are written (06 R173). -/
def State.pour (s : State) (f : Frame) (bytes : List Byte) : Frame × State :=
  let room := leadLen f.count - f.lead.length
  let rest := f.tail ++ bytes.drop room
  let full := rest.length / 64 * 64
  let pos := s.formeAddr f + f.nextOff + min room bytes.length - f.tail.length
  ({ f with lead := f.lead ++ bytes.take room, tail := rest.drop full, nextOff := f.nextOff + bytes.length },
   s.ingest pos (rest.take full) f.bad)

/-- Lines that hold bytes `lo` to `hi` - 1. -/
def galLines (lo hi : Nat) : List Nat := if hi ≤ lo then [] else (List.range ((hi - 1) / 64 + 1 - lo / 64)).map (lo / 64 + ·)

/-- A coded sort reaches its final offset (06 R162, R163): its bytes and the lines of it that carry poison. -/
def State.settle (s : State) (f : Frame) (c : CodedSort) (bad : List Nat) : Frame × State :=
  let f1 := { f with bad := f.bad ++ bad.filter (fun l => !f.bad.contains l) }
  let (f2, s1) := s.pour f1 c.bytes
  ({ f2 with frontier := c.sort + 1,
             placed := insertKey f2.placed c.sort
               { off := f.nextOff, len := c.bytes.length, state := c.state, poisoned := c.poisoned } }, s1)

/-- A coded sort goes from the compositor or the forme store to its final offset. -/
def State.settleStored (s : State) (f : Frame) (c : CodedSort) : Frame × State :=
  let a := s.formeAddr f + f.nextOff
  s.settle f c (if c.poisoned then galLines a (a + c.bytes.length) else [])

/-- Galley address of a sort's worst-case slot (06 R163). -/
def State.parkAddr (s : State) (f : Frame) (sort : Nat) : Nat := s.formeAddr f + sortsOff f.count + 7184 * sort

/-- A parked sort is copied down with its poison (06 R163, R171). -/
def State.settleParked (s : State) (f : Frame) (c : CodedSort) : Frame × State :=
  let src := s.parkAddr f c.sort
  let n := c.bytes.length
  let dst := s.formeAddr f + f.nextOff
  let got := s.galRead src n srcIngest
  let b := got.1
  let ps := got.2.1
  let s1 := got.2.2
  let bad := ps.flatMap (fun l =>
    galLines (dst + (max src (64 * l) - src)) (dst + (min (src + n) (64 * l + 64) - src)))
  let f1 := { f with parked := f.parked.filter (fun d => d.sort != c.sort) }
  s1.settle f1 { c with bytes := b } ((if c.poisoned then galLines dst (dst + n) else []) ++ bad)

/-- The frontier passes ABSENT sorts and takes held and parked ones, as far as it goes (06 R163); `n` bounds the sorts. -/
def State.advance (s : State) (f : Frame) : Nat → Frame × State
  | 0 => (f, s)
  | n + 1 =>
    let k := f.frontier
    if f.count ≤ k then (f, s)
    else if f.sorts.lookup k == some .absent then
      let p : Placed := { off := 0, len := 0, state := .absent, poisoned := false }
      s.advance { f with frontier := k + 1, placed := insertKey f.placed k p } n
    else
      match f.held.find? (fun c => c.sort == k), f.parked.find? (fun c => c.sort == k) with
      | some c, _ =>
        let (f1, s1) := s.settleStored { f with held := f.held.filter (fun d => d.sort != k) } c
        s1.advance f1 n
      | none, some c =>
        let (f1, s1) := s.settleParked f c
        s1.advance f1 n
      | none, none => (f, s)

/-- Let the writer go on with a frame. -/
def State.advanceFrame (s : State) (num : Nat) : State :=
  match s.frame num with
  | some f =>
    if f.span.isNone || f.dropped then s
    else
      let (f1, s1) := s.advance f (f.count + 1)
      s1.setFrame f1
  | none => s

/-- Park a sort in its worst-case slot (06 R163): every line that holds a byte of a poisoned sort is written poisoned, and a line that
it shares is merged with the corrected old line (06 R171, R173). -/
def State.park (s : State) (f : Frame) (c : CodedSort) : State :=
  let s1 := s.galWrite (s.parkAddr f c.sort) c.bytes c.poisoned srcIngest
  ((s1.setFrame { f with parked := f.parked ++ [c] }).inc Reg.GAL_SPILLS).event Reg.GAL_STATUS_SPILL_EV

/-- Show the highest forme-store fill in KiB (06, `GAL.STORE_PEAK`). -/
def State.storePeak (s : State) : State :=
  s.put Reg.GAL_STORE_PEAK (max (s.get Reg.GAL_STORE_PEAK) (s.storeBytes / 1024))

/-- The forme writer takes a coded sort (06 R163, R169): at the frontier it is written, ahead of it it is held, or parked while
the store holds HIGH kilobytes or more.  Sorts of frames that store no forme are discarded (04 R98, R123). -/
def State.acceptSort (s : State) (c : CodedSort) : State :=
  match s.frame c.frame with
  | none => s
  | some f =>
    if f.dropped || f.span.isNone then s
    else if c.sort = f.frontier then
      let (f1, s1) := s.settleStored f c
      (s1.setFrame f1).advanceFrame f.num
    else if s.get Reg.GAL_ARB_WM_HIGH * 1024 ≤ s.storeBytes then s.park f c
    else (s.setFrame { f with held := f.held ++ [c] }).storePeak.throttle

/-- Bytes of the sort directory (06 R162). -/
def Frame.directory (f : Frame) : List Byte :=
  (List.range f.count).flatMap (fun k =>
    match f.placed.lookup k with
    | some p =>
      let st := match p.state with | .complete => 0 | .incomplete => 1 | .absent => 2
      leBytes 4 p.off ++ leBytes 2 p.len ++ leBytes 1 (st + (if p.poisoned then 4 else 0)) ++ [0]
    | none => leBytes 4 0 ++ leBytes 2 0 ++ leBytes 1 2 ++ [0])

/-- Write the directory with the sort bytes that share its last line, and the last line of the forme, zero beyond FORME_BYTES
(06 R161, R164). -/
def State.writeDirectory (s : State) (f : Frame) : State :=
  let d := f.directory ++ f.lead
  let s1 := s.ingest (s.formeAddr f + 128) (padTo (roundUp d.length 64) d) f.bad
  if f.tail.isEmpty then s1
  else s1.ingest (s.formeAddr f + f.nextOff - f.tail.length) (padTo 64 f.tail) f.bad

end Sys2Proof.Machine
end

