-- ==== Sys2Proof/Machine/Take.lean ====
section
/-!
DEFINITION. Takes and segments (04 R114-R124): spans of a segment's ring (06 R164, R165), record slots (06 R166, R167), history,
triggers, closing, and the life of a frame from its opening to its stored forme.
-/
namespace Sys2Proof.Machine

/-! ### Pairing (07), as far as takes depend on it -/

/-- The member has left its pair: the pairing unit is IDLE, or it drains and its role is given up (07 R197). -/
def State.pairLeft (s : State) : Bool :=
  let st := s.get Reg.PAIR_STATUS_STATE
  st == 0 || (st == 3 && s.get Reg.PAIR_STATUS_ROLE == 0)

/-- Guard frames kept beyond P (07 R187); a member that has left its pair captures as in RECORDER (07 R197). -/
def State.guardFrames (s : State) : Nat := if s.paired && !s.pairLeft then s.get Reg.PAIR_CTL_GUARD_FRAMES else 0

/-- SRC_SEQ `a` is at or after `b`, modulo 2^32 (07 R185). -/
def seqReached (a b : Nat) : Bool := decide ((a + 2 ^ 32 - b % 2 ^ 32) % 2 ^ 32 < 2 ^ 31)

/-! ### Record slots (06 R166, R167) -/

/-- Galley address of a record slot. -/
def State.slotAddr (s : State) (seg : Nat) : Nat := s.hkBase + seg * 0x1000

/-- A slot copy is valid: MAGIC and CRC match (06 R166). -/
def copyValid (b : List Byte) : Bool :=
  fieldAt b 0 4 == 0x5352595A && fieldAt b 0x3C 4 == crc32 (b.take 0x3C ++ (b.drop 0x40).take 64)

/-- The current copy of a slot's first 256 bytes: its index (0 = A) and its bytes (06 R166). -/
def currentCopy (b : List Byte) : Option (Nat × List Byte) :=
  let a := b.take 128
  let c := (b.drop 128).take 128
  if copyValid a then
    if copyValid c && decide (fieldAt a 4 4 < fieldAt c 4 4) then some (1, c) else some (0, a)
  else if copyValid c then some (1, c) else none

/-- The bytes of both copies as they lie in memory. -/
def State.slotBytes (s : State) (seg : Nat) : List Byte :=
  (List.range 4).flatMap (fun i => s.lineData (s.slotAddr seg / 64 + i))

/-- Offset of the forme of frame `n`, all ones without one. -/
def TakeSt.offOf (t : TakeSt) (n : Nat) : Nat :=
  match t.spans.find? (fun x => (x.kind == .forme || x.kind == .openForme) && x.frame == n) with
  | some x => x.off
  | none => 2 ^ 64 - 1

/-- Offset of the oldest stored forme or gap (06 R166). -/
def TakeSt.oldest (t : TakeSt) : Option Nat := (t.spans.find? (fun x => x.kind == .forme || x.kind == .gap)).map Span.off

/-- The newest forme such that it and every earlier one are complete (06 R166). -/
def TakeSt.newest (t : TakeSt) : Option Nat :=
  ((t.spans.takeWhile (fun x => x.kind != .openForme)).filter (fun x => x.kind == .forme)).getLast?.map Span.off

/-- Formes stored (06 R166). -/
def TakeSt.stored (t : TakeSt) : Nat := t.spans.countP (fun x => x.kind == .forme)

/-- A slot copy without its WRITES and CRC: MAGIC, then the fields from TAKE_ID on, and the summary (06 R166). -/
def State.slotCopy (s : State) (seg writes : Nat) : List Byte :=
  let t := s.take seg
  let none64 := 2 ^ 64 - 1
  let head := leBytes 4 0x5352595A ++ leBytes 4 writes ++ leBytes 2 (s.takeId seg) ++ leBytes 1 (s.takeState seg) ++ zeros 1 ++
    leBytes 4 t.segCfg ++ leBytes 8 t.formeMax ++ leBytes 8 (t.oldest.getD none64) ++
    leBytes 8 (t.newest.getD none64) ++ leBytes 8 (if t.triggered && !t.trigNext then t.offOf t.trigFrame else none64) ++
    leBytes 8 t.reserveOff ++ leBytes 4 t.stored
  let sum := padTo 64 t.summary
  head ++ leBytes 4 (crc32 (head ++ sum)) ++ sum

/-- Write the slot copy that is not current (06 R166, R167). -/
def State.writeSlot (s : State) (seg : Nat) : State :=
  let (ix, w) := match currentCopy (s.slotBytes seg) with
    | some (i, b) => (1 - i, fieldAt b 4 4 + 1)
    | none => (0, 1)
  let s1 := s.ingest (s.slotAddr seg + 128 * ix) (s.slotCopy seg w) []
  let t := s1.take seg
  s1.setTake seg { t with slotOldest := t.oldest, slotNewest := t.newest }

/-- Write a slot copy if the oldest or newest offset has changed (06 R167). -/
def State.syncSlot (s : State) (seg : Nat) : State :=
  let t := s.take seg
  if t.slotOldest == t.oldest && t.slotNewest == t.newest then s else s.writeSlot seg

/-- The take's state changes: slot copy, pairing record (04 R116; 06 R167; 07 R188). -/
def State.setTakeState (s : State) (seg st : Nat) : State := ((s.put Reg.CAP_SEG_TAKE_STATE st seg).writeSlot seg).noteSeg seg

/-! ### The ring of spans (06 R164, R165) -/

/-- Outstanding galley reads, egress plays and exports of the take in a segment. -/
def State.drainsOf (s : State) (seg : Nat) : List Cmd :=
  s.hq.cmds.filter (fun c => (c.op == 0x13 || c.op == 0x14 || c.op == 0x15) && c.fld 0x18 1 == seg && c.fld 0x1A 2 == s.takeId seg)

/-- A galley read or egress play names the frame (04 R120; 09 R239). -/
def State.named (s : State) (seg frame : Nat) : Bool :=
  (s.drainsOf seg).any (fun c => c.op != 0x13 && decide (c.fld 0x20 8 ≤ frame) && decide (frame < c.fld 0x20 8 + c.fld 0x28 4))

/-- A span may be overwritten (04 R118-R120): gaps; complete formes that no read or play names, once the take left ARMED only
those that an export copied. -/
def State.mayEvict (s : State) (seg : Nat) (x : Span) : Bool :=
  match x.kind with
  | .openForme => false
  | .forme => !s.named seg x.frame && (x.exported || s.takeState seg == 2)
  | _ => true

/-- Tell the colophon of a frame's membership (17 R439). -/
def State.tellMember (s : State) (seg frame : Nat) (stored uncert : Bool) : State :=
  if s.part.colophon then { s with col := { s.col with toCol := s.col.toCol ++ [.member seg frame stored uncert] } } else s

/-- Every complete forme of a take that has left ARMED is decided stored (17 R439). -/
def State.tellMembers (s : State) (seg : Nat) : State :=
  if s.takeState seg = 2 then s
  else
    let t := s.take seg
    let s1 := (t.spans.filter (fun x => x.kind == .forme && !x.told)).foldl (fun (u : State) x =>
      u.tellMember seg x.frame true x.uncert) s
    s1.setTake seg { t with spans := t.spans.map (fun x => if x.kind == .forme then { x with told := true } else x) }

/-- The oldest span is given up; a frame not decided before is not stored (17 R439). -/
def State.evictHead (s : State) (seg : Nat) : State :=
  let t := s.take seg
  match t.spans with
  | [] => s
  | x :: r =>
    let s1 := s.setTake seg { t with spans := r }
    if x.kind == .forme && !x.told then s1.tellMember seg x.frame false x.uncert else s1

def State.evictHeads (s : State) (seg : Nat) : Nat → State
  | 0 => s
  | n + 1 => (s.evictHead seg).evictHeads seg n

/-- Formes before the trigger frame, or before the latest opened one while none is fixed (04 R118, R119). -/
def State.history (s : State) (seg : Nat) : List Span :=
  let t := s.take seg
  let fs := t.spans.filter (fun x => x.kind == .forme || x.kind == .openForme)
  if t.triggered then (if t.trigNext then [] else fs.filter (fun x => decide (x.frame < t.trigFrame)))
  else fs.filter (fun x => x.frame != s.latestNum)

/-- The history is longer than the take keeps (04 R118, R119; 07 R187). -/
def State.overKept (s : State) (seg : Nat) : Bool :=
  let t := s.take seg
  let h := s.history seg
  if t.p.basis = 0 then
    decide (s.get Reg.CAP_SEG_PRE seg + (if t.triggered then 0 else s.guardFrames) < h.length)
  else decide (t.segBytes * t.p.preFrac / 256 < (h.filter (fun x => x.kind == .forme)).foldl (fun n x => n + x.len) 0)

/-- Give up history beyond what an ARMED take keeps (04 R118, R119); `n` bounds the spans. -/
def State.trimLoop (s : State) (seg : Nat) : Nat → State
  | 0 => s
  | n + 1 =>
    match (s.take seg).spans with
    | x :: _ =>
      let free := match x.kind with
        | .openForme => false
        | .forme => !s.named seg x.frame
        | _ => true
      if s.overKept seg && free then (s.evictHead seg).trimLoop seg n else s
    | [] => s

/-- The history of an ARMED take, up to and with the fixing of its trigger frame (04 R118, R119; 07 R187).  Later nothing is given up
(04 R120). -/
def State.trim (s : State) (seg : Nat) : State := (s.trimLoop seg (s.take seg).spans.length).syncSlot seg

/-- Reservation offset after a span (06 R165). -/
def TakeSt.after (t : TakeSt) (off len : Nat) : Nat := if t.segBytes < off + len + t.formeMax then 0 else off + len

/-- Reserve FORME_MAX at the reservation offset (06 R164): spans in the way are overwritten if all of them may be. -/
def State.reserve (s : State) (seg : Nat) : Option State :=
  let t := s.take seg
  let hit := fun (x : Span) => decide (x.off < t.reserveOff + t.formeMax) && decide (t.reserveOff < x.off + x.len)
  let n := (t.spans.zipIdx.filter (fun e => hit e.1)).foldl (fun m e => max m (e.2 + 1)) 0
  if t.segBytes < t.reserveOff + t.formeMax || !(t.spans.take n).all (s.mayEvict seg) then none
  else some (s.evictHeads seg n)

/-- A gap record (06 R165). -/
def gapRecord (frame len : Nat) : List Byte := padTo 64 (leBytes 4 0x5047595A ++ zeros 4 ++ leBytes 8 frame ++ leBytes 4 len)

/-- Write the complete header's span into the ring (06 R164, R165): the last span shrinks to the forme; before a later span the
unused part stays, marked by a padding record unless the walk wraps there by itself. -/
def closeSpan (t : TakeSt) (bytes : Nat) (x : Span) (rest : List Span) : List Span × Nat × Option (Nat × Nat) :=
  let len := roundUp bytes 4096
  let p := x.off + len
  match rest with
  | [] => ([{ x with len }], t.after x.off len, none)
  | y :: _ =>
    let gap := if y.off = 0 then (if t.segBytes < p + t.formeMax then 0 else t.segBytes - p) else y.off - p
    if gap = 0 then ({ x with len } :: rest, t.reserveOff, none)
    else ({ x with len } :: { off := p, len := gap, kind := .padding, frame := 0 } :: rest, t.reserveOff, some (p, gap))

/-- Split a list at the span of a frame. -/
def splitSpan (frame : Nat) : List Span → List Span × Option Span × List Span
  | [] => ([], none, [])
  | x :: r =>
    if (x.kind == .openForme || x.kind == .forme) && x.frame == frame then ([], some x, r)
    else
      let (a, b, c) := splitSpan frame r
      (x :: a, b, c)

/-- A frame's forme will not be stored (06 R165): its span returns if it is the last, else it becomes a gap. -/
def State.dropSpan (s : State) (seg frame : Nat) : State :=
  let t := s.take seg
  match splitSpan frame t.spans with
  | (a, some x, []) => (s.setTake seg { t with spans := a, reserveOff := x.off }).syncSlot seg
  | (a, some x, r) =>
    let s1 := s.ingest (s.segBase seg + x.off) (gapRecord frame t.formeMax) []
    (s1.setTake seg { t with spans := a ++ [{ x with kind := .gap, len := t.formeMax }] ++ r }).syncSlot seg
  | _ => s

/-! ### Closing (04 R116, R122, R124) -/

/-- Frames of a take whose forme is not yet stored. -/
def State.pendingFrames (s : State) (seg : Nat) : List Frame :=
  s.cap.frames.filter (fun f => f.take == some seg && !f.dropped && !f.headerDone)

/-- The take summary (04 R124). -/
def State.summaryOf (s : State) (seg : Nat) : List Byte :=
  let t := s.take seg
  let fs := t.spans.filter (fun x => x.kind == .forme)
  let trig := t.triggered && !t.fromArmed
  let pre := if t.fromArmed then fs.length
    else if t.p.start = 0 then 0
    else if t.trigNext then fs.length
    else fs.countP (fun x => decide (x.frame < t.trigFrame))
  let bit := fun (b : Bool) (n : Nat) => if b then n else 0
  let flags := bit t.uncertified 1 + bit trig 2 + bit t.fromArmed 4 + bit t.cut 8 + bit (t.dropped != 0) 16
  leBytes 2 (s.takeId seg) ++ leBytes 1 seg ++ leBytes 1 flags ++ leBytes 1 (if trig then t.trigInput else 0xFF) ++
    leBytes 1 t.p.codeMode ++ zeros 2 ++ leBytes 8 ((fs.head?.map Span.frame).getD 0) ++
    leBytes 8 (if trig && !t.trigNext then t.trigFrame else 0) ++ leBytes 8 ((fs.getLast?.map Span.frame).getD 0) ++
    leBytes 8 (if trig then t.trigTime else 0) ++ leBytes 4 pre ++ leBytes 4 (fs.length - pre) ++ leBytes 4 t.dropped ++
    leBytes 4 (fs.countP (fun x => x.incomplete)) ++ leBytes 8 t.closeTime

/-- A CLOSING take whose formes are done sends CLOSE, and enters CLOSED once its record is appended or it is UNCERTIFIED
(04 R116, R122). -/
def State.tryClose (s : State) (seg : Nat) : State :=
  if s.takeState seg != 4 || !(s.pendingFrames seg).isEmpty then s
  else
    let t := s.take seg
    let fs := t.spans.filter (fun x => x.kind == .forme)
    let msg := ColMsg.closeTake seg (s.takeId seg) ((fs.head?.map Span.frame).getD 0)
      (if t.triggered && !t.fromArmed && !t.trigNext then t.trigFrame else 0) ((fs.getLast?.map Span.frame).getD 0) s.saving
    let s1 := if t.closeSent || !s.part.colophon then s
      else ({ s with col := { s.col with toCol := s.col.toCol ++ [msg] } } : State).setTake seg { t with closeSent := true }
    if !t.recordArrived && !t.uncertified then s1
    else
      let s2 := s1.setTake seg { s1.take seg with summary := s1.summaryOf seg, waiting := [] }
      let s3 := (s2.setTakeState seg 5).signal 0 4
      t.waiting.foldl (fun (u : State) c => u.finish c 0 t.stored) s3

/-- The 128-byte header of a complete forme (04 R106). -/
def State.headerBytes (s : State) (f : Frame) (seg : Nat) : List Byte :=
  let t := s.take seg
  let flags := (if f.cert.isNone then 1 else 0) + (if f.missing = 0 then 0 else 2) +
    (if t.triggered && !t.trigNext && t.trigFrame == f.num then 4 else 0)
  leBytes 4 0x4846595A ++ leBytes 2 1 ++ leBytes 2 128 ++ leBytes 8 f.num ++ leBytes 4 f.seq ++ leBytes 4 f.takeSeq ++
    leBytes 8 f.devtime ++ leBytes 8 (f.cert.getD 0) ++ leBytes 2 (s.takeId seg) ++ leBytes 1 seg ++ leBytes 1 flags ++
    leBytes 2 f.width ++ leBytes 2 f.height ++ leBytes 1 t.p.codeMode ++ leBytes 1 t.p.bound ++ leBytes 1 f.cfa ++ zeros 1 ++
    leBytes 4 f.count ++ leBytes 4 f.missing ++ leBytes 4 f.nextOff ++ (f.marks.map (leBytes 8)).flatten

/-- Write the directory and the complete header of a complete forme, unless its frame is the latest opened and the take still
receives frames (06 R164). -/
def State.finishForme (s : State) (num : Nat) : State :=
  match s.frame num with
  | none => s
  | some f =>
    let seg := f.take.getD 0
    if !f.complete || f.headerDone || f.dropped || f.take.isNone || (num == s.latestNum && decide (s.takeState seg < 4)) then s
    else
      let t := s.take seg
      match splitSpan num t.spans with
      | (a, some x, r) =>
        let y := { x with kind := .forme, bytes := f.nextOff, done := true, incomplete := f.missing != 0, uncert := f.cert.isNone }
        let (spans, off, gap) := closeSpan t f.nextOff y r
        let s1 := (s.writeDirectory f).ingest (s.formeAddr f) (s.headerBytes f seg) []
        let s2 := match gap with
          | some (p, n) => s1.ingest (s.segBase seg + p) (gapRecord 0 n) []
          | none => s1
        let s3 := (s2.setTake seg { t with spans := a ++ spans, reserveOff := off }).setFrame { f with headerDone := true }
        let s4 := s3.tellMembers seg
        (if s.takeState seg = 2 then s4.trim seg else s4.syncSlot seg).tryClose seg
      | _ => s

/-- Write every complete header that may be written now. -/
def State.finishFormes (s : State) : State := (s.cap.frames.map Frame.num).foldl State.finishForme s

/-- Every sort of the frame's forme has reached its final offset (04 R106; 06 R164): the take's count advances. -/
def State.markComplete (s : State) (num : Nat) : State :=
  match s.frame num with
  | none => s
  | some f =>
    if f.complete || f.dropped || f.span.isNone || decide (f.frontier < f.count) then s
    else
      let seg := f.take.getD 0
      let t := s.take seg
      let miss := f.sorts.countP (fun e => e.2 != .complete)
      ((s.setTake seg { t with seqNext := t.seqNext + 1 }).setFrame
        { f with complete := true, takeSeq := t.seqNext, missing := miss }).finishForme num

/-- The take of a STOP changes state: it can no longer be caught (09 R250). -/
def State.passAbort (s : State) (tag : Nat) : State :=
  match s.cmd tag with
  | some k => s.setCmd { k with pastAbort := true }
  | none => s

/-- The take enters CLOSING (04 R116): headers that waited are written, members of an ARMED take are decided. -/
def State.beginClosing (s : State) (seg : Nat) : State :=
  if s.takeState seg != 2 && s.takeState seg != 3 then s
  else
    let t := s.take seg
    let s0 : State := if s.cap.stopSeg == some seg then { s with cap := { s.cap with stopSeg := none } } else s
    let s1 := (s0.setTake seg { t with fromArmed := s.takeState seg == 2, closeTime := s.now }).setTakeState seg 4
    let s2 := t.waiting.foldl State.passAbort s1
    (((s2.pendingFrames seg).map Frame.num).foldl State.finishForme (s2.tellMembers seg)).tryClose seg

/-! ### Triggers (04 R110-R112) -/

/-- A trigger input's filter. -/
def State.trig (s : State) (i : Nat) : TrigSt := (s.cap.trig.lookup i).getD {}
def State.setTrig (s : State) (i : Nat) (t : TrigSt) : State :=
  { s with cap := { s.cap with trig := insertKey s.cap.trig i t } }

/-- The filtered level: the level that has persisted for MIN_WIDTH ticks (04 R110). -/
def State.trigLevel (s : State) (i : Nat) : Bool :=
  let t := s.trig i
  match t.since with
  | some t0 => if t0 + s.get Reg.CAP_TRIG_CFG_MIN_WIDTH i ≤ s.now then t.pin else t.filtered
  | none => t.filtered

/-- The input is a level input: MODE HIGH or LOW. -/
def State.trigIsLevel (s : State) (i : Nat) : Bool := s.get Reg.CAP_TRIG_CFG_MODE i == 3 || s.get Reg.CAP_TRIG_CFG_MODE i == 4

/-- A level input is active (04 R110). -/
def State.trigActive (s : State) (i : Nat) : Bool :=
  s.flag Reg.CAP_TRIG_CFG_EN i && s.trigIsLevel i && (s.trigLevel i == (s.get Reg.CAP_TRIG_CFG_MODE i == 3))

/-- Inputs that a take selects. -/
def TakeSt.selected (t : TakeSt) : List Nat := (List.range 8).filter (fun i => (t.p.trigSel >>> i) % 2 == 1)

/-- The condition holds (04 R111); `armed` when the take has just become ARMED. -/
def State.condition (s : State) (seg : Nat) (armed : Bool) : Bool :=
  let t := s.take seg
  if t.p.trigLogic = 0 then
    t.selected.any (fun i => t.qualified.contains i || (armed && s.trigActive i))
  else t.selected.all (fun i => if s.trigIsLevel i then s.trigActive i else t.qualified.contains i)

/-- When an active level input became active: its filtered level settled, or its configuration made it so (04 R110, R111). -/
def State.activeAt (s : State) (i : Nat) : Nat :=
  let t := s.trig i
  match t.since with
  | some t0 => if t0 + s.get Reg.CAP_TRIG_CFG_MIN_WIDTH i ≤ s.now then t0 + s.get Reg.CAP_TRIG_CFG_MIN_WIDTH i else t.settled
  | none => t.settled

/-- The trigger time: when the condition became true (04 R111).  Under ANY that is the first event, or the entry to ARMED; under ALL the
latest of the events, of the moments from which the level inputs are active, and of the entry to ARMED. -/
def State.condTime (s : State) (seg : Nat) : Nat :=
  let t := s.take seg
  if t.p.trigLogic = 0 then (if t.qualified.isEmpty then t.armedAt else t.qualTime)
  else (t.selected.filter s.trigIsLevel).foldl (fun m i => max m (s.activeAt i)) (max t.armedAt t.qualTime)

/-- Lowest-numbered selected input that had qualified: an event, or an active level (04 R124). -/
def State.trigInput (s : State) (seg : Nat) : Nat :=
  let t := s.take seg
  (t.selected.find? (fun i => t.qualified.contains i || s.trigActive i)).getD 0xFF

/-- Latest frame opened at or before a device time; 0 without one (04 R112). -/
def State.frameAt (s : State) (time : Nat) : Nat :=
  (s.cap.frames.filter (fun f => decide (f.devtime ≤ time))).foldl (fun n f => max n f.num) 0

/-- Frames that the take stores from the trigger frame, or from arm (04 R114, R118; 07 R187). -/
def State.postLimit (s : State) (seg : Nat) : Option Nat :=
  let t := s.take seg
  if t.p.post ≠ 0 then some t.p.post
  else if t.p.start = 1 && t.p.basis = 0 then
    some (s.get Reg.CAP_SEG_FCAP seg - s.get Reg.CAP_SEG_PRE seg - s.guardFrames)
  else none

/-- Slots of the rows of a frame that are not yet cut into sorts. -/
def Frame.openSlots (f : Frame) : Nat := (f.rowsHeld.filter (fun r => !f.rowsReady.contains r)).length * f.cols

/-- A frame's forme is not stored, though no case of 04 R123 counts it: its sorts are discarded, and it is assembled on (04 R98). -/
def State.discardForme (s : State) (seg num : Nat) : State :=
  match s.frame num with
  | some f =>
    let s1 := (s.setFrame { f with dropped := true, held := [], parked := [], slots := f.openSlots }).purgeQueues num
    (s1.tellMember seg num false true).dropSpan seg num
  | none => s

/-- The take has received the frames that it stores (04 R114, R118). -/
def State.limitReached (s : State) (seg : Nat) : Bool :=
  s.takeState seg == 3 && (match s.postLimit seg with | some n => decide (n ≤ (s.take seg).postOpened) | none => false)

/-- POST_FRAMES is reached (04 R116): the take closes when its last frame has closed, so that a drop of that frame is made up; a frame
opened past the count is not stored (log 93). -/
def State.checkLimit (s : State) (seg : Nat) : State :=
  match s.postLimit seg with
  | some n =>
    let t := s.take seg
    if !s.limitReached seg then s
    else if t.postOpened = n && (s.pendingFrames seg).any (fun f => f.isOpen && f.num == s.latestNum) then s
    else
      let fs := ((s.pendingFrames seg).map Frame.num).filter (fun k => decide (t.trigFrame ≤ k))
      let extra := (fs.drop (fs.length - (t.postOpened - n)))
      (extra.foldl (fun (u : State) k => u.discardForme seg k) s).beginClosing seg
  | none => s

/-- The current take may have its last frame. -/
def State.limitCheck (s : State) : State :=
  match s.currentTake with | some seg => s.checkLimit seg | none => s

/-- The trigger frame is fixed (04 R112): frame `n`, or the next to open when the take has stored no frame by then.  The history is
what the take keeps at that moment (04 R118, R119; 07 R187). -/
def State.fixTrigger (s : State) (seg n time input : Nat) : State :=
  let t := s.take seg
  let fs := (t.spans.filter (fun x => x.kind == .forme || x.kind == .openForme)).map Span.frame
  let trig := if fs.any (fun k => decide (k ≤ n)) then some n else fs.head?
  let post := match trig with | some k => fs.countP (fun j => decide (k ≤ j)) | none => 0
  let srcSeq := match trig with
    | some k => (t.spans.find? (fun x => x.frame == k && x.kind != .padding)).map Span.seq
    | none => none
  let s1 := s.setTake seg { t with triggered := true, trigTime := time, trigInput := input, trigNext := trig.isNone,
                                   trigFrame := trig.getD 0, postOpened := post, trigSeq := srcSeq }
  let s2 := ((s1.trim seg).setTakeState seg 3).tellMembers seg
  if trig.isSome then s2.checkLimit seg else s2

/-- The condition of an ARMED take is judged (04 R111); a passive member only records it as a shadow (07 R194). -/
def State.judgeTake (s : State) (seg : Nat) (armed : Bool) : State :=
  let time := s.condTime seg
  if s.takeState seg != 2 || !s.condition seg armed then s
  else if s.pairPassive then
    let t := s.take seg
    if t.shadow.isSome then s
    else
      let s1 := s.setTake seg { t with shadow := some (time, s.cap.lastSeq.getD 0, s.trigInput seg, s.frameAt time) }
      if s.get Reg.PAIR_STATUS_ROLE = 3 then s1.fixTrigger seg (s.frameAt time) time (s.trigInput seg) else s1
  else s.fixTrigger seg (s.frameAt time) time (s.trigInput seg)

/-- The take becomes current (04 R116, R117): OPEN goes to the colophon (17 R439), a condition that already holds counts. -/
def State.makeCurrent (s : State) (seg : Nat) : State :=
  let t := s.take seg
  let s1 := s.setTake seg { t with armedAt := s.now, qualified := [], qualTime := 0 }
  let s2 := if s.part.colophon then
      { s1 with col := { s1.col with toCol := s1.col.toCol ++ [.openTake seg (s.takeId seg)] } }
    else s1
  if t.p.start = 1 then (s2.setTakeState seg 2).judgeTake seg true else s2.setTakeState seg 3

/-- The QUEUED take whose turn it is: the oldest arm order among those whose first frame is reached (04 R117; 07 R186). -/
def State.nextTake (s : State) : Option Nat :=
  let q := (List.range 16).filter (fun k => s.takeState k == 1 &&
    (match (s.take k).firstSeq with
     | some f => (match s.cap.lastSeq with | some l => seqReached l f | none => false)
     | none => true))
  q.foldl (fun best k =>
    match best with
    | some b => if (s.take k).order < (s.take b).order then some k else some b
    | none => some k) none

/-- Without a current take the next queued one becomes current; `n` bounds the takes that close at once. -/
def State.promote (s : State) : Nat → State
  | 0 => s
  | n + 1 =>
    match s.currentTake, s.nextTake with
    | none, some k => (s.makeCurrent k).promote n
    | _, _ => s

/-- A take may have closed: the next one takes over (04 R117). -/
def State.chain (s : State) : State := s.promote 17

/-- The take that was current when the capture unit was disabled closes at its last forme (04 R126), even where the unit has come to
IDLE before that forme is complete. -/
def State.stopCheck (s : State) : State :=
  match s.cap.stopSeg with
  | none => s
  | some seg =>
    if !(s.pendingFrames seg).all (fun f => f.complete && !f.isOpen) then s
    else ({ s with cap := { s.cap with stopSeg := none } } : State).beginClosing seg

/-- The take closes at its last complete forme (04 R121): incomplete formes are not stored, CUT is set, for a take already CLOSING too
(log 132). -/
def State.cutClose (s : State) (seg : Nat) : State :=
  let st := s.takeState seg
  if st != 2 && st != 3 && st != 4 then s
  else
    let s1 := ((s.pendingFrames seg).map Frame.num).foldl State.markComplete s
    let lost := ((s1.pendingFrames seg).filter (fun f => !f.complete)).map Frame.num
    let s2 := lost.foldl (fun (t : State) k => t.discardForme seg k) s1
    let s3 := s2.setTake seg { s2.take seg with cut := true }
    if st = 4 then s3.tryClose seg else s3.beginClosing seg

/-- Every take that records or closes is cut (04 R121); a QUEUED take becomes current after the one ahead of it (04 R116). -/
def State.cutTakes (s : State) : State := ((List.range 16).foldl State.cutClose s).chain

/-! ### Frames (04 R98-R105, R123) -/

/-- A frame is dropped for want of an assembly slot (04 R98, R104, R123): it is counted once, in one counter, and for a take that would
store it in the take's summary.  What the port still delivers of it counts as not received. -/
def State.dropAssembly (s : State) (num : Nat) : State :=
  match s.frame num with
  | none => s
  | some f =>
    let ls := f.lines.map (fun e => if e.2 == 1 then (e.1, 3) else e)
    let f1 := { f with dropped := true, noSlot := true, counted := true, owed := false, slots := 0, held := [], parked := [], lines := ls }
    let s1 := (s.setFrame f1).purgeQueues num
    if f.counted then s1
    else
      let s2 := (s1.inc Reg.CAP_DROP_ASSEMBLY).event Reg.CAP_STATUS_DROP_EV
      match f.take with
      | none => s2
      | some seg =>
        if f.dropped then s2
        else
          let t := s2.take seg
          let stored := s.takeState seg == 3 && (t.p.start == 0 || (t.triggered && !t.trigNext && decide (t.trigFrame ≤ num)))
          let s3 := s2.setTake seg { t with dropped := t.dropped + 1, postOpened := t.postOpened - (if stored then 1 else 0) }
          (((s3.tellMember seg num false true).dropSpan seg num).tryClose seg).stopCheck.chain

/-- A line arrives for a frame whose space could not be reserved, though no drop was counted for it (04 R123): counted once. -/
def State.countOwed (s : State) (num : Nat) : State :=
  match s.frame num with
  | none => s
  | some f =>
    if !f.owed || f.counted then s
    else
      let s1 := (((s.setFrame { f with owed := false, counted := true }).inc Reg.CAP_DROP_FULL).event Reg.CAP_STATUS_DROP_EV)
      match f.take with
      | some seg => if s1.takeState seg = 5 then s1 else s1.setTake seg { s1.take seg with dropped := (s1.take seg).dropped + 1 }
      | none => s1

/-- A line of the frame arrives: its tile row takes its assembly slots (04 R104).  Answers whether the frame goes on. -/
def State.takeSlots (s : State) (num line : Nat) : Bool × State :=
  match s.frame num with
  | none => (false, s)
  | some f =>
    if f.noSlot then (false, s)
    else if f.rowsHeld.contains (line / 64) then (true, s)
    else if 4096 < s.slotsUsed + f.cols then (false, s.dropAssembly num)
    else
      let s1 := s.setFrame { f with rowsHeld := f.rowsHeld ++ [line / 64], slots := f.slots + f.cols }
      (true, s1.put Reg.CAP_SLOT_PEAK (max (s1.get Reg.CAP_SLOT_PEAK) s1.slotsUsed))

/-- The sorts of a tile row are ready (04 R103, R105): ABSENT ones free their slots, the others enter the queues.  A frame that
no take receives frees the row's slots (04 R98). -/
def State.cutRow (s : State) (num r : Nat) : State :=
  match s.frame num with
  | none => s
  | some f =>
    if f.rowsReady.contains r then s
    else
      let ks := (List.range f.cols).map (fun c => r * f.cols + c)
      let sts := ks.map (fun k => (k, f.sortState k))
      let present := (sts.filter (fun e => e.2 != .absent)).map Prod.fst
      let coded := f.span.isSome && !f.dropped
      let taken := if f.rowsHeld.contains r then f.cols else 0
      let free := if coded then taken - present.length else taken
      let f1 := { f with rowsReady := f.rowsReady ++ [r], slots := f.slots - free,
                         sorts := sts.foldl (fun m e => insertKey m e.1 e.2) f.sorts }
      let s1 := s.setFrame f1
      if coded then (present.foldl (fun (t : State) k => t.placeQueue num k) s1).advanceFrame num else s1

/-- A line counts as received or not received (04 R103). -/
def Frame.lineDone (f : Frame) (y : Nat) : Bool := !f.isOpen || decide (2 ≤ (f.lines.lookup y).getD 0)

/-- Cut every tile row whose lines are all settled (04 R103). -/
def State.cutRows (s : State) (num : Nat) : State :=
  match s.frame num with
  | none => s
  | some f =>
    let ready := (List.range f.trows).filter (fun r =>
      !f.rowsReady.contains r && (List.range (min 64 (f.height - 64 * r))).all (fun i => f.lineDone (64 * r + i)))
    ready.foldl (fun (t : State) r => t.cutRow num r) s

/-- A frame closes (04 R102): lines not received count as such. -/
def State.closeFrame (s : State) (num : Nat) : State :=
  match s.frame num with
  | none => s
  | some f => if f.isOpen then ((s.setFrame { f with isOpen := false }).cutRows num).limitCheck.stopCheck.chain.retire else s

/-- A frame finds no space in its segment (04 R119, R120, R123): it is dropped under DROP and while the take is ARMED; else the take closes,
and the frame is counted if a line arrives for it. -/
def State.noSpace (s : State) (seg num : Nat) : State :=
  let t := s.take seg
  let drop := s.takeState seg == 2 || (t.p.full == 0 && t.p.basis == 0)
  let s1 := match s.frame num with
    | some f => s.setFrame { f with take := some seg, dropped := true, counted := drop, owed := !drop }
    | none => s
  if drop then
    let s2 := ((s1.setTake seg { t with dropped := t.dropped + 1 }).inc Reg.CAP_DROP_FULL).event Reg.CAP_STATUS_DROP_EV
    s2.tellMember seg num false true
  else s1.beginClosing seg

/-- A take's trigger frame is fixed at frame `n` by the active member's decision (07 R192): time and input are those of the member's own
shadow; without one the time is a free value (log 4) and the input 0xFF. -/
def State.fixFrom (s : State) (seg n : Nat) : State :=
  match (s.take seg).shadow with
  | some (time, _, i, _) => s.fixTrigger seg n time i
  | none =>
    let (v, s1) := s.free
    s1.fixTrigger seg n v.toNat 0xFF

/-- The current take receives the frame that opens (04 R117-R120; 06 R164): a span, the header line with FORME_BYTES 0, and the
count of stored frames. -/
def State.assignFrame (s : State) (num seq : Nat) : State :=
  match s.currentTake with
  | none => s
  | some seg =>
    let t := s.take seg
    let s0 := if t.trigNext then (s.setTake seg { t with trigNext := false, trigFrame := num, trigSeq := some seq }).noteSeg seg else s
    match s0.reserve seg with
    | none => s0.noSpace seg num
    | some s1 =>
      let t1 := s1.take seg
      let off := t1.reserveOff
      let x : Span := { off, len := t1.formeMax, kind := .openForme, frame := num, seq }
      let recording := s1.takeState seg == 3
      let s2 := s1.setTake seg { t1 with spans := t1.spans ++ [x], reserveOff := t1.after off t1.formeMax,
                                         postOpened := t1.postOpened + (if recording then 1 else 0) }
      let s3 := match s2.frame num with
        | some f => s2.setFrame { f with take := some seg, span := some off, nextOff := sortsOff f.count }
        | none => s2
      let s4 := (s3.ingest (s3.segBase seg + off) (padTo 64 (leBytes 4 0x4846595A)) []).syncSlot seg
      if recording then s4
      else
        let s5 := s4.trim seg
        match t1.trigSeq with
        | some q => if seqReached seq q then s5.fixFrom seg num else s5
        | none => s5

/-- The current take closes before the frame that opens: at a scheduled stop (07 R186, R192), when it has received the frames that it
stores (04 R116), or when the unit was disabled while it was current (04 R126). -/
def State.closeAtOpen (s : State) (seq : Nat) : State :=
  match s.currentTake with
  | some seg =>
    let sched := match (s.take seg).stopSeq with
      | some q => seqReached seq q
      | none => false
    if sched || s.limitReached seg || s.cap.stopSeg == some seg then s.beginClosing seg else s
  | none => s

/-- A frame opens (04 R100, R102, R108, R109).  DESIGN CHOICE: headers that waited for it are written, and their unused spans returned,
before its own span is reserved (log 133). -/
def State.openFrame (s : State) (seq : Nat) : State :=
  let old := s.openFrames
  let s0 := if 2 ≤ old.length then
      (match old.head? with | some f => s.closeFrame f.num | none => s)
    else s
  let num := s0.latestNum + 1
  let f : Frame := { num, seq, devtime := s0.now, width := s0.get Reg.CAP_GEOM_WIDTH, height := s0.get Reg.CAP_GEOM_HEIGHT,
                     cfa := s0.get Reg.CAP_FRAME_CFG_CFA, stripes := s0.stripeMap, skew := s0.get Reg.CAP_FRAME_CFG_SKEW,
                     timeout := s0.get Reg.CAP_FRAME_CFG_TIMEOUT, expect := (List.range 32).map (fun p => (p, 0)) }
  let s1 := ({ s0 with cap := { s0.cap with frames := s0.cap.frames ++ [f], lastSeq := some seq } } : State).put64
    Reg.CAP_FRAME_NUM num
  let s2 := if s1.part.colophon then { s1 with col := { s1.col with toCol := s1.col.toCol ++ [.strobe num s1.now] } } else s1
  ((((s2.finishFormes).closeAtOpen seq).chain).assignFrame num seq).chain.retire

/-- Ports are out of a frame (04 R100): all their lines of it count as not received, and each mismatch in SEQ_ERR. -/
def State.excludePorts (s : State) (num : Nat) (ps : List Nat) : State :=
  match s.frame num with
  | none => s
  | some f =>
    if ps.isEmpty then s
    else
      let ys := ps.flatMap (fun p => ((f.stripes.getD p ⟨false, 0, 0, 0⟩).lines).filter (fun y => decide (y < f.height)))
      let f1 := { f with excluded := f.excluded ++ ps, lines := ys.foldl (fun m y => insertKey m y 3) f.lines }
      (((s.setFrame f1).add Reg.CAP_SEQ_ERR ps.length).event Reg.CAP_STATUS_LINE_EV).cutRows num

/-- Enabled ports that have delivered no matching FS to the frame and are not yet out of it (04 R100). -/
def Frame.missingPorts (f : Frame) : List Nat :=
  (List.range 32).filter (fun p => (f.stripes.getD p ⟨false, 0, 0, 0⟩).en && !f.fsPorts.contains p && !f.excluded.contains p)

/-- FS_SKEW_TIMEOUT (04 R100): SKEW after the opening, ports that delivered no matching FS are out of the frame. -/
def execFsSkewTimeout (frame : Nat) (s : State) : Result :=
  match s.frame frame with
  | none => .next s
  | some f => if !f.isOpen || s.now < f.devtime + f.skew * 1600 then .next s else .next (s.excludePorts frame f.missingPorts)

/-- FORME_COMPLETE (06 R164; 04 R106). -/
def execFormeComplete (frame : Nat) (s : State) : Result := .next (s.markComplete frame).stopCheck.chain.retire

/-- CERT_TIME_RETURNED (04 R109): the oldest answer; a forme already complete keeps its header. -/
def execCertTimeReturned (s : State) : Result :=
  match s.col.answers with
  | [] => .next s
  | (n, t) :: r =>
    let s1 := { s with col := { s.col with answers := r } }
    match s1.frame n with
    | some f => .next (if f.complete then s1 else s1.setFrame { f with cert := some t })
    | none => .next s1

/-- COLOPHON_RECORD_RECEIVED (17 R442; 04 R116): the record goes to slot offset 0x800. -/
def execColophonRecordReceived (seg : SegIx) (s : State) : Result :=
  match s.col.outRecords.find? (fun r => r.1 == seg.val) with
  | none => .next s
  | some r =>
    let s1 := { s with col := { s.col with outRecords := s.col.outRecords.erase r } }
    if s1.takeState seg.val != 4 || fieldAt r.2 8 2 != s1.takeId seg.val || !s1.galActive then .next s1
    else
      let s2 := s1.ingest (s1.slotAddr seg.val + 0x800) (padTo (roundUp r.2.length 64) r.2) []
      .next ((s2.setTake seg.val { s2.take seg.val with recordArrived := true }).tryClose seg.val).chain

/-- COLOPHON_RECORD_TIMEOUT (04 R122): 10 ms after the entry to CLOSING. -/
def execColophonRecordTimeout (seg : SegIx) (s : State) : Result :=
  let t := s.take seg.val
  if s.takeState seg.val != 4 || t.recordArrived || s.now < t.closeTime + 16000000 then .next s
  else .next ((s.setTake seg.val { t with uncertified := true }).tryClose seg.val).chain

end Sys2Proof.Machine
end

