-- ==== Sys2Proof/Machine/Arm.lean ====
section
/-!
DEFINITION. Rows of the capture unit: trigger inputs (04 R110-R113), ARM, STOP and RELEASE (04 R115, R116, R532), configuration
(04 R125), the orderly disable (04 R126) and the recovery of takes after a reset (06 R181).
-/
namespace Sys2Proof.Machine

/-- The capture unit's enable, state and held fields (04, "Registers"). -/
def capUnit : UnitFlds := ⟨Reg.CAP_CTL_EN, Reg.CAP_STATUS_STATE, Reg.CAP_STATUS_HELD⟩

/-! ### Trigger inputs -/

/-- A qualifying event on input `i` (04 R110, R112): count, time, mark, and the current take's condition.  DESIGN CHOICE: an event whose
transition lies before the take became ARMED is none of those that 04 R111 waits for, though it persists MIN_WIDTH only later
(log 131); the level that it leads to counts under ALL. -/
def State.qualify (s : State) (i t0 : Nat) : State :=
  let s1 := (s.inc Reg.CAP_TRIG_COUNT i).put64 Reg.CAP_TRIG_LAST t0 i
  let s2 := match s1.frame (s1.frameAt t0) with
    | some f => if f.headerDone || f.marks.getD i 0 != 0 then s1 else s1.setFrame { f with marks := f.marks.set i t0 }
    | none => s1
  match s2.currentTake with
  | none => s2
  | some seg =>
    let t := s2.take seg
    if !t.selected.contains i then s2
    else
      let t1 := if t0 < t.armedAt || t.qualified.contains i then t
        else { t with qualified := t.qualified ++ [i], qualTime := max t.qualTime t0 }
      ((s2.setTake seg t1).judgeTake seg false).chain

/-- The change to `level` is a qualifying event in the input's MODE (04 R110). -/
def State.qualifies (s : State) (i : Nat) (level : Bool) : Bool :=
  s.flag Reg.CAP_TRIG_CFG_EN i &&
    (match s.get Reg.CAP_TRIG_CFG_MODE i with
     | 0 => level
     | 1 => !level
     | 2 => true
     | 3 => level
     | 4 => !level
     | _ => false)

/-- A transition that has persisted for MIN_WIDTH ticks counts (04 R110). -/
def State.settleTrig (s : State) (i : Nat) : State :=
  let t := s.trig i
  match t.since with
  | some t0 =>
    if s.now < t0 + s.get Reg.CAP_TRIG_CFG_MIN_WIDTH i then s
    else
      let s1 := s.setTrig i { t with filtered := t.pin, since := none, settled := t0 + s.get Reg.CAP_TRIG_CFG_MIN_WIDTH i }
      if s1.qualifies i t.pin then s1.qualify i t0 else s1
  | none => s

/-- TRIGGER_EDGE (04 R110): a transition at the pin; back within MIN_WIDTH it was a glitch. -/
def execTriggerEdge (t : TrigIx) (level : Bool) (s : State) : Result :=
  let s1 := s.settleTrig t.val
  let x := s1.trig t.val
  if x.pin == level then .next s1
  else .next (s1.setTrig t.val { x with pin := level, since := if level == x.filtered then none else some s1.now })

/-- TRIGGER_QUALIFYING_EVENT (04 R110-R112). -/
def execTriggerQualifyingEvent (t : TrigIx) (s : State) : Result :=
  if s.qualifies t.val (s.trig t.val).pin then .next (s.settleTrig t.val) else .next s

/-- TRIGGER_LEVEL_INACTIVE (04 R110): a counted transition out of the level. -/
def execTriggerLevelInactive (t : TrigIx) (s : State) : Result :=
  if s.trigIsLevel t.val && !s.qualifies t.val (s.trig t.val).pin then .next (s.settleTrig t.val) else .next s

/-! ### ARM, STOP, RELEASE -/

/-- Take parameters of an ARM entry (09, "Capture and galley"). -/
def Cmd.takeParams (c : Cmd) : TakeParams :=
  { start := c.fld 0x19 1, trigSel := c.fld 0x1A 1, trigLogic := c.fld 0x1B 1, preFrac := c.fld 0x1C 1, basis := c.fld 0x1D 1,
    full := c.fld 0x1E 1, codeMode := c.fld 0x1F 1, bound := c.fld 0x20 1, post := c.fld 0x24 4 }

/-- Every parameter has a value of 04 R114. -/
def TakeParams.ok (p : TakeParams) : Bool :=
  decide (p.start ≤ 1) && (p.start == 0 || p.trigSel != 0) && decide (p.trigLogic ≤ 1) && decide (p.basis ≤ 1) &&
    decide (p.full ≤ 1) && decide (p.codeMode ≤ 2) &&
    (if p.codeMode = 1 then decide (1 ≤ p.bound) && decide (p.bound ≤ 15) else p.bound == 0)

/-- Sorts of a frame of the present geometry. -/
def State.sortsNow (s : State) : Nat := colsOf (s.get Reg.CAP_GEOM_WIDTH) * rowsOf (s.get Reg.CAP_GEOM_HEIGHT)

/-- Size of a segment in bytes, F_cap and P (04, "Pre-trigger history"). -/
def State.segSize (s : State) (seg : Nat) : Nat := s.get Reg.CAP_SEG_CFG_SIZE seg * 2 ^ 26
def State.fCap (s : State) (seg : Nat) : Nat := s.segSize seg / formeMaxOf s.sortsNow
def State.preFrames (s : State) (seg frac : Nat) : Nat := s.fCap seg * frac / 256

/-- The segment may take a new take (04 R115): a size, inside the capture area, no overlap, IDLE. -/
def State.segmentFree (s : State) (seg : Nat) : Bool :=
  let size := s.get Reg.CAP_SEG_CFG_SIZE seg
  let base := s.get Reg.CAP_SEG_CFG_BASE seg
  size != 0 && decide (base + size ≤ s.get Reg.GAL_REGION_CAP_UNITS) && s.takeState seg == 0 &&
    (List.range 16).all (fun k =>
      let z := s.get Reg.CAP_SEG_CFG_SIZE k
      let b := s.get Reg.CAP_SEG_CFG_BASE k
      k == seg || z == 0 || decide (b + z ≤ base) || decide (base + size ≤ b))

/-- The first check of an arm that fails: 1 STRIPE_MAP, 2 SEGMENT, 3 SLOTS, 4 PARAMETER, 5 CAPACITY (04 R115; 07 R187). -/
def State.armCheck (s : State) (seg : Nat) (p : TakeParams) : Option Nat :=
  let m := s.stripeMap
  if !stripesValid m (s.get Reg.CAP_GEOM_HEIGHT) then some 1
  else if seg < 16 && !s.segmentFree seg then some 2
  else if 4096 < 2 * tOpen m * colsOf (s.get Reg.CAP_GEOM_WIDTH) then some 3
  else if 16 ≤ seg || !p.ok then some 4
  else if p.basis = 0 && decide (s.fCap seg < p.post + s.preFrames seg p.preFrac + s.guardFrames) then some 5
  else none

/-- A take is created in a segment (04 R116; 17 R442): parameters, F_cap and P, a zeroed record, QUEUED until it is current. -/
def State.createTake (s : State) (seg id : Nat) (p : TakeParams) (first : Option Nat) : State :=
  let t : TakeSt := { p, order := s.cap.orders + 1, formeMax := formeMaxOf s.sortsNow, segBytes := s.segSize seg,
                      segCfg := (s.rd (Reg.CAP_SEG_CFG_SIZE.base + Reg.CAP_SEG_CFG_SIZE.stride * seg)).toNat, firstSeq := first }
  let s1 := ({ s with cap := { s.cap with orders := s.cap.orders + 1, takeId := id } } : State).setTake seg t
  let s2 := ((s1.put Reg.CAP_SEG_TAKE_TAKE_ID id seg).put Reg.CAP_SEG_FCAP (s.fCap seg) seg).put Reg.CAP_SEG_PRE
    (s.preFrames seg p.preFrac) seg
  (s2.ingest (s2.slotAddr seg + 0x800) (zeros 0x800) []).setTakeState seg 1

/-- SRC_SEQ at which a decision of the active acts: L + G (07 R186). -/
def State.guardSeq (s : State) : Option Nat :=
  if s.pairActive then s.cap.lastSeq.map (fun l => (l + s.guardFrames) % 2 ^ 32) else none

/-- ARM (04 R115, R116; 07 R186, R194). -/
def execArm (c : Nat) (s : State) : Result :=
  s.onCmd c 0x10 fun s k =>
    let seg := k.fld 0x18 1
    let p := k.takeParams
    if s.pairPassive then s.finish c 0x08 0
    else
      match s.armCheck seg p with
      | some why => s.finish c 0x09 why
      | none =>
        let id := (s.cap.takeId + 1) % 65536
        let s1 := s.createTake seg id p s.guardSeq
        (if s.guardSeq.isSome then s1 else s1.chain).finish c 0 id

/-- The take that a command names is the one now in its segment (09, "Capture and galley"). -/
def State.takeNamed (s : State) (k : Cmd) : Bool :=
  decide (k.fld 0x18 1 < 16) && s.takeState (k.fld 0x18 1) != 0 && s.takeId (k.fld 0x18 1) == k.fld 0x1A 2

/-- The take leaves its segment: a slot copy with STATE 0 (06 R167). -/
def State.toIdle (s : State) (seg : Nat) : State :=
  let s1 := (s.setFlag Reg.CAP_SEG_TAKE_RELEASE_HELD false seg).setTakeState seg 0
  { s1 with cap := { s1.cap with takes := eraseKey s1.cap.takes seg } }

/-- STOP (04 R116, R532; 07 R186, R194).  A trigger condition of the same cycle acts first (04 R117).  It completes when the take is CLOSED, or IDLE when it was QUEUED. -/
def execStop (c : Nat) (s : State) : Result :=
  s.onCmd c 0x11 fun s k =>
    let seg := k.fld 0x18 1
    if (s.take seg).waiting.contains c then s
    else if s.pairPassive then s.finish c 0x08 0
    else if !s.takeNamed k then s.finish c 0x0A 0
    else
      let t := s.take seg
      let wait := (s.setTake seg { t with waiting := t.waiting ++ [c] }).setCmd { k with begun := true }
      match s.takeState seg with
      | 1 => ((s.toIdle seg).finishAll t.waiting 0).finish c 0 0
      | 5 => s.finish c 0 t.stored
      | 4 => wait
      | _ =>
        match s.guardSeq with
        | some q =>
          let t1 := wait.take seg
          (wait.setTake seg { t1 with stopSeq := some (t1.stopSeq.getD q) }).noteSeg seg
        | none => (((List.range 8).foldl State.settleTrig wait).beginClosing seg).chain

/-- Drains and galley reads of the take are in progress (04 R116, R32). -/
def State.draining (s : State) (seg : Nat) : Bool := (s.drainsOf seg).any (fun c => c.begun)

/-- RELEASE commands that wait for the last drain of the take in a segment. -/
def State.heldReleases (s : State) (seg : Nat) : List Nat :=
  (s.hq.cmds.filter (fun c => c.op == 0x12 && c.begun && c.fld 0x18 1 == seg && c.fld 0x1A 2 == s.takeId seg)).map Cmd.tag

/-- RELEASE (04 R116). -/
def execRelease (c : Nat) (s : State) : Result :=
  s.onCmd c 0x12 fun s k =>
    let seg := k.fld 0x18 1
    if k.begun then s
    else if !s.takeNamed k || s.takeState seg != 5 then s.finish c 0x0A 0
    else if s.draining seg then s.setFlag Reg.CAP_SEG_TAKE_RELEASE_HELD true seg
    else (s.toIdle seg).finish c 0 0

/-- RELEASE_HELD_COMPLETE (04 R116): a release that was caught meanwhile releases nothing (09 R250). -/
def execReleaseHeldComplete (seg : SegIx) (s : State) : Result :=
  if !s.flag Reg.CAP_SEG_TAKE_RELEASE_HELD seg.val || s.draining seg.val then .next s
  else
    let cs := s.heldReleases seg.val
    if cs.isEmpty then .next (s.setFlag Reg.CAP_SEG_TAKE_RELEASE_HELD false seg.val)
    else .next (cs.foldl (fun (t : State) c => t.finish c 0 0) (s.toIdle seg.val))

/-! ### Configuration -/

/-- A take is QUEUED, ARMED, RUNNING or CLOSING (04 R125; 01 R21). -/
def State.takesLive (s : State) : Bool := (List.range 16).any (fun k => s.takeState k != 0 && s.takeState k != 5)

/-- A register that pairing mirrors (07 R189): GEOM, FRAME_CFG, STRIPE, TRIG.CFG, SEG.CFG. -/
def mirrored (addr : Nat) : Bool :=
  let o := addr - 0x300000
  decide (0x300000 ≤ addr) && (o == 0x10 || o == 0x14 || (decide (0x100 ≤ o) && decide (o < 0x200) && o % 4 == 0) ||
    (decide (0x200 ≤ o) && decide (o < 0x280) && o % 16 == 0) || (decide (0x300 ≤ o) && decide (o < 0x400) && o % 16 == 0))

/-- 04 R125 discards a write to this register now. -/
def State.capLocked (s : State) (addr : Nat) : Bool :=
  let o := addr - 0x300000
  if decide (0x200 ≤ o) && decide (o < 0x280) then false
  else if 0x300 ≤ o then s.takeState ((o - 0x300) / 16) != 0
  else s.takesLive

/-- Write a mirrored register (04 R125); a trigger input's change may complete a condition (04 R111). -/
def State.capWrite (s : State) (addr : Nat) (v : Word) : State :=
  let o := addr - 0x300000
  if decide (0x200 ≤ o) && decide (o < 0x280) then
    let i := (o - 0x200) / 16
    let s0 := (s.settleTrig i).write addr v
    let s1 := s0.setTrig i { s0.trig i with settled := s0.now }
    match s1.currentTake with
    | some seg => if (s1.take seg).p.trigLogic = 1 then (s1.judgeTake seg false).chain else s1
    | none => s1
  else s.write addr v

/-- A CONFIG record (07 R189). -/
def configRecord (addr : Nat) (v : Word) : List Byte := padTo 32 ([2, 0] ++ leBytes 2 (addr - 0x300000) ++ leBytes 4 v.toNat)

/-- CAP_CONFIG_WRITE (04 R125; 00 R533; 07 R189, R194). -/
def execCapConfigWrite (addr : Nat) (v : Word) (s : State) : Result :=
  if !mirrored addr || !s.awake || s.absentAt addr then .next s
  else if s.written addr v == s.rd addr then .next s
  else if s.capLocked addr || s.pairPassive then .next (s.event Reg.CAP_STATUS_CFG_REJ)
  else
    let s1 := s.capWrite addr v
    .next (if s1.pairActive then
      { s1 with pair := { s1.pair with records := s1.pair.records ++ [configRecord addr (s1.rd addr)] } } else s1)

/-- The capture unit has entered STOPPING: the take that is current now closes at its last forme (04 R126). -/
def State.markStop (s : State) : State :=
  if s.get Reg.CAP_STATUS_STATE = 3 then { s with cap := { s.cap with stopSeg := s.currentTake } } else s

/-- The capture unit's enable bit is written (02 R46; 04 R126). -/
def State.capEnable (s : State) (b : Bool) : State :=
  let s1 := s.enableWrite capUnit b
  (if s.get Reg.CAP_STATUS_STATE = 3 then s1 else s1.markStop).stopCheck.chain

/-- CAP_DISABLE (04 R126). -/
def execCapDisable (s : State) : Result := .next (s.capEnable false)

/-- The capture unit's drain is complete: no frame open and the assembly store empty (04 R126). -/
def State.capDrained (s : State) : Bool := s.openFrames.isEmpty && s.slotsUsed == 0

/-- The capture unit may leave STARTING (06 R177, R181). -/
def State.capMayRun (s : State) : Bool := s.flag Reg.GAL_STATUS_INIT_DONE && !s.gal.recover

/-- CAP_CNT_CLR (04, "Registers"). -/
def execCapCntClr (s : State) : Result :=
  let s1 := s.zeroWords Reg.CAP_LINE_ERR.base 6
  .next ((List.range 8).foldl (fun (t : State) i => t.put Reg.CAP_TRIG_COUNT 0 i) s1)

/-! ### Recovery (06 R181) -/

/-- What the walk reads at a segment offset: the first 128 bytes. -/
def State.readHead128 (s : State) (a : Nat) : List Byte × State :=
  let got := s.galRead a 128 srcFw
  let b := got.1
  let s1 := got.2.2
  (b, s1)

/-- A span before those that follow it in the walk. -/
def spanFirst (x : Span) (r : List Span × List Byte × State) : List Span × List Byte × State := (x :: r.1, r.2.1, r.2.2)

/-- The walk of a take (06 R167): spans from `off` to the newest forme; `n` bounds them.  Answers also the newest forme's header. -/
def State.walk (s : State) (seg newest formeMax segBytes : Nat) : Nat → Nat → List Span × List Byte × State
  | 0, _ => ([], [], s)
  | n + 1, off =>
    let got := s.readHead128 (s.segBase seg + off)
    let b := got.1
    let s1 := got.2
    let isForme := fieldAt b 0 4 == 0x4846595A
    let len := if isForme then fieldAt b 0x3C 4 else fieldAt b 16 4
    let num := fieldAt b 8 8
    let x : Span :=
      if isForme then { off, len := roundUp len 4096, kind := .forme, frame := num, bytes := len, seq := fieldAt b 0x10 4, done := true, told := true,
                        incomplete := fieldAt b 0x38 4 != 0, uncert := fieldAt b 0x2B 1 % 2 == 1 }
      else { off, len := roundUp len 4096, kind := if num = 0 then .padding else .gap, frame := num }
    if off = newest || len = 0 then ([x], if isForme then b else [], s1)
    else
      let next := roundUp (off + len) 4096
      spanFirst x (s1.walk seg newest formeMax segBytes n (if segBytes < next + formeMax then 0 else next))

/-- The summary of a take that was not CLOSED (06 R181). -/
def recoveredSummary (id seg state trigOff dropped now : Nat) (spans : List Span) (newestHeader : List Byte) : List Byte :=
  let fs := spans.filter (fun x => x.kind == .forme)
  let none64 := 2 ^ 64 - 1
  let trig := fs.find? (fun x => x.off == trigOff)
  let noTrig := state == 1 || state == 2
  let pre := if trigOff = none64 then (if noTrig then fs.length else 0)
    else match trig with
      | some x => (fs.takeWhile (fun y => y.off != x.off)).length
      | none => fs.length
  let bit := fun (b : Bool) (n : Nat) => if b then n else 0
  leBytes 2 id ++ leBytes 1 seg ++ leBytes 1 (1 + bit (trigOff != none64) 2 + bit noTrig 4 + 8 + bit (dropped != 0) 16) ++ [0xFF] ++
    leBytes 1 (fieldAt newestHeader 0x30 1) ++ zeros 2 ++ leBytes 8 ((fs.head?.map Span.frame).getD 0) ++
    leBytes 8 ((trig.map Span.frame).getD 0) ++ leBytes 8 ((fs.getLast?.map Span.frame).getD 0) ++ leBytes 8 0 ++ leBytes 4 pre ++
    leBytes 4 (fs.length - pre) ++ leBytes 4 dropped ++ leBytes 4 (fs.countP (fun x => x.incomplete)) ++ leBytes 8 now

/-- The spans that a copy of a slot leads to, from its oldest on, with the header of the last (06 R181). -/
def State.walkFrom (s : State) (seg : Nat) (c : List Byte) : List Span × List Byte × State :=
  if fieldAt c 0x20 8 = 2 ^ 64 - 1 then ([], [], s)
  else
    s.walk seg (fieldAt c 0x20 8) (fieldAt c 0x10 8) (fieldAt c 0x0C 4 / 65536 * 2 ^ 26)
      (fieldAt c 0x0C 4 / 65536 * 2 ^ 26 / 4096 + 1) (fieldAt c 0x18 8)

/-- The recovered take of a copy, CLOSED (06 R181). -/
def State.placeTake (s : State) (seg : Nat) (c : List Byte) (spans : List Span) (h : List Byte) : State :=
  let st := fieldAt c 0x0A 1
  let cfg := fieldAt c 0x0C 4
  let dropped := spans.countP (fun x => x.kind == .gap)
  let sum := if st = 5 then (c.drop 0x40).take 64
    else recoveredSummary (fieldAt c 8 2) seg st (fieldAt c 0x28 8) dropped s.now spans h
  let trig := (spans.find? (fun x => x.kind == .forme && x.off == fieldAt c 0x28 8)).map Span.frame
  let t : TakeSt := { formeMax := fieldAt c 0x10 8, segBytes := cfg / 65536 * 2 ^ 26, segCfg := cfg, spans,
                      reserveOff := fieldAt c 0x30 8, summary := sum, cut := st != 5, dropped, triggered := trig.isSome,
                      trigFrame := trig.getD 0 }
  let s3 := s.setTake seg t
  if st = 5 then s3.put Reg.CAP_SEG_TAKE_STATE 5 seg else s3.setTakeState seg 5

/-- Recover the take of segment `seg` from the current copy of its slot, if there is one (06 R181). -/
def State.recoverCopy (s : State) (seg : Nat) (copy : Option (Nat × List Byte)) : State :=
  match copy with
  | none => s
  | some (_, c) =>
    if fieldAt c 0x0A 1 = 0 then s
    else
      let s1 := (s.put Reg.CAP_SEG_CFG_WORD (fieldAt c 0x0C 4) seg).put
        Reg.CAP_SEG_TAKE_TAKE_ID (fieldAt c 8 2) seg
      let found := s1.walkFrom seg c
      found.2.2.placeTake seg c found.1 found.2.1

/-- Recover the take of one segment from its slot (06 R181). -/
def State.recoverSeg (s : State) (seg : Nat) : State :=
  let got := s.galRead (s.slotAddr seg) 256 srcIngest
  got.2.2.recoverCopy seg (currentCopy got.1)

/-- TAKE_RECOVERY (06 R181), which does not begin before the GPHY reset run ends (20 R494). -/
def execTakeRecovery (dmg : Damage) (s : State) : Result :=
  if !s.gal.recover || !s.galActive || s.cal.resetRuns.contains 2 then .next s
  else
    let s1 := (List.range 16).foldl State.recoverSeg (s.strike dmg)
    .next { s1 with gal := { s1.gal with recover := false } }

end Sys2Proof.Machine
end

