-- ==== Sys2Proof/Machine/Cal.lean ====
section
/-!
DEFINITION. Calibration and trimming (20).
-/
namespace Sys2Proof.Machine

/-- Calibrated block: VBASE as a key, instances, words per instance, code bytes per instance (20 R488, `CAL.VAL`). -/
structure CalBlock where
  base : Nat
  count : Nat
  words : Nat
  bytes : Nat
  deriving DecidableEq, Repr

/-- The six blocks (20 R488). -/
def calBlock (b : Nat) : CalBlock :=
  match b with
  | 0 => ⟨0x1010000, 258, 3, 10⟩
  | 1 => ⟨0x1020000, 258, 1, 4⟩
  | 2 => ⟨0x1030000, 128, 9, 34⟩
  | 3 => ⟨0x1040000, 17, 1, 3⟩
  | 4 => ⟨0x1050000, 16, 1, 3⟩
  | _ => ⟨0x1060000, 13, 1, 3⟩

/-- Block whose value words hold the byte at `addr`. -/
def calOf (addr : Nat) : Option Nat :=
  (List.range 6).find? (fun b => decide ((calBlock b).base ≤ addr) &&
    decide (addr < (calBlock b).base + 4 * (calBlock b).words * (calBlock b).count))

/-- Instance and byte number of a byte of block `b`. -/
def calPlace (b addr : Nat) : Nat × Nat :=
  let c := calBlock b
  ((addr - c.base) / (4 * c.words), (addr - c.base) % (4 * c.words))

/-- A byte of a word. -/
def byteOf (w : Word) (n : Nat) : Byte := BitVec.ofNat 8 (w.toNat / 256 ^ n)

/-- The target held in the value register's byte at `addr`. -/
def State.calTarget (s : State) (addr : Nat) : Byte := byteOf (s.rd (addr / 4 * 4)) (addr % 4)

/-- The code in use at `addr`. -/
def State.calApplied (s : State) (addr : Nat) : Byte := lookupD (s.calTarget addr) s.cal.applied addr

/-- Index of a lane's registers: `LANE[n]` for 0-255, `LANE.PL[k]` as 512 + k (03, "Registers"). -/
def laneReg (l : Nat) : Nat := if l < 256 then l else 512 + (l - 256)

/-- The instance carries no traffic (20 R492): a lane whose port and EGRESS are IDLE (a pairing lane while PAIR is IDLE, log 33), an
archive instance while MODE is IDLE, a bridge that is off.  R492 names no such case for the galley PHY. -/
def State.calQuiet (s : State) (b i : Nat) : Bool :=
  match b with
  | 0 | 1 =>
    if i < 256 then s.get Reg.LANE_PORT_STATUS_STATE (i / 8) == 0 && s.get Reg.LANE_L_CTL_EGRESS i == 0
    else s.get Reg.PAIR_STATUS_STATE == 0
  | 2 => false
  | 3 | 4 => s.get Reg.OCH_STATUS_MODE == 0
  | _ =>
    if i < 3 then !s.pwr.spindleOn
    else if i < 9 then !s.pwr.axesOn.contains ((i - 3) / 2)
    else !s.pwr.coils.contains (i - 9)

/-- The element of byte `n` of an instance is out of service (20 R492): the SPARE sampler's offset, the inactive amplifier's. -/
def State.calSpare (s : State) (b i n : Nat) : Bool :=
  let base := (calBlock b).base + 4 * (calBlock b).words * i
  match b with
  | 0 => n == (s.calApplied (base + 9)).toNat
  | 5 => decide (n < 2) && n != (s.calApplied (base + 2)).toNat
  | _ => false

/-- Follow a target: at once, or by steps from the code that was in use (20 R492). -/
def State.calFollow (s : State) (addr : Nat) (used : Byte) (atOnce : Bool) : State :=
  { s with cal := { s.cal with
      applied := if atOnce || used = s.calTarget addr then eraseKey s.cal.applied addr
                 else insertKey s.cal.applied addr used } }

/-- `SLEWING` of block `b`: some field in use differs from its target (20 R492). -/
def State.calSlewing (s : State) (b : Nat) : State :=
  s.setFlag Reg.CAL_BLK_STATUS_SLEWING (s.cal.applied.any (fun e => calOf e.1 == some b)) b

/-- Set the target of the code byte at `addr` (20 R492, R495). -/
def State.calSet (s : State) (addr : Nat) (v : Byte) (atOnce : Bool) : State :=
  let used := s.calApplied addr
  let k := addr / 4 * 4
  let n := addr % 4
  (s.wr k (setBits (s.rd k) (8 * n + 7) (8 * n) v.toNat)).calFollow addr used atOnce

/-- Runs may start (20 R491): not in RIDE or SAVE, no T_SHUT deferral, MC0 in RUN, CAL not failed. -/
def State.calMay (s : State) : Bool :=
  (s.get Reg.PWR_HOLDUP_STATUS_STATE == 0 || s.get Reg.PWR_HOLDUP_STATUS_STATE == 3) && !s.pwr.deferral &&
    s.get Reg.MBX_CORE_STATUS_STATE 0 == 2 && !s.unitFailed 16

/-- The sensors of the six blocks read `temps` now (20, `TEMP`; log 33). -/
def State.calSense (s : State) (temps : List Nat) : State :=
  (List.range 6).foldl (fun t b => match temps[b]? with | some v => t.put Reg.CAL_BLK_TEMP v b | none => t) s

/-- The difference between a block's TEMP and TEMP_LAST exceeds DELTA (20 R489). -/
def State.calDrift (s : State) (b : Nat) : Bool :=
  let a := s.get Reg.CAL_BLK_TEMP b
  let l := s.get Reg.CAL_BLK_STATUS_TEMP_LAST b
  decide (s.get Reg.CAL_CFG_DELTA < (a - l) + (l - a))

/-- CAL_TEMPERATURE_CHECK (20 R489): MC0's check of every block, each 10 ms; HOLD keeps a block out. -/
def execCalTemperatureCheck (temps : List Nat) (s : State) : Result :=
  let s1 := s.calSense temps
  if s1.get Reg.MBX_CORE_STATUS_STATE 0 != 2 || s1.unitFailed 16 then .next s1
  else .next ((List.range 6).foldl (fun t b =>
    if t.calDrift b && !t.flag Reg.CAL_BLK_CTL_HOLD b then t.setFlag Reg.CAL_BLK_STATUS_PENDING true b else t) s1)

/-- CAL_RUN_REQUEST (20 R489, R490): a host write of 1 to RUN makes the block due whatever HOLD says; a running block runs again. -/
def execCalRunRequest (b : Fin 6) (s : State) : Result :=
  .next (s.setFlag Reg.CAL_BLK_STATUS_PENDING true b.val)

/-- CAL_RUN_START (20 R490, R491): the due block with the lowest number, one at a time. -/
def execCalRunStart (s : State) : Result :=
  if s.get Reg.CAL_STATUS_ACTIVE < 6 || !s.calMay then .next s
  else
    match (List.range 6).find? (fun b => s.flag Reg.CAL_BLK_STATUS_PENDING b) with
    | none => .next s
    | some b =>
      let s1 := (s.setFlag Reg.CAL_BLK_STATUS_PENDING false b).setFlag Reg.CAL_BLK_STATUS_RUNNING true b
      .next ((s1.put Reg.CAL_STATUS_ACTIVE b).put Reg.CAL_BLK_STATUS_TEMP_LAST (s1.get Reg.CAL_BLK_TEMP b) b)

/-- One measured code of the run of block `b` (20 R492, R493): every LANE_RX sampler is the spare when it is measured, so its
offset takes its target at once; an ISENSE run measures the inactive amplifier only (log 32). -/
def State.calResult (s : State) (b : Nat) (reset : Bool) (c : Nat × Byte) : State :=
  if calOf c.1 != some b then s
  else
    let p := calPlace b c.1
    if (calBlock b).bytes ≤ p.2 then s
    else
      match b with
      | 0 => if p.2 = 9 then s else s.calSet c.1 c.2 true
      | 5 => if s.calSpare 5 p.1 p.2 then s.calSet c.1 c.2 true else s
      | _ => s.calSet c.1 c.2 (reset || s.calQuiet b p.1)

/-- ACTIVE of every ISENSE instance is inverted at the start of a PWM period (20 R493). -/
def State.calSwapAmps (s : State) : State :=
  (List.range 13).foldl (fun t i =>
    let a := (calBlock 5).base + 4 * i + 2
    t.calSet a (if t.calApplied a = 0 then 1 else 0) true) s

/-- CAL_RUN_COMPLETE (20 R490, R492, R493, R495): the codes become the targets, COUNT, LAST and RUN_EV are written. -/
def execCalRunComplete (codes : List (Nat × Byte)) (s : State) : Result :=
  let b := s.get Reg.CAL_STATUS_ACTIVE
  if 6 ≤ b then .next s
  else
    let reset := s.cal.resetRuns.contains b
    let s1 := codes.foldl (fun t c => t.calResult b reset c) s
    let s2 := if b = 5 then s1.calSwapAmps else s1
    let s3 := { s2 with cal := { s2.cal with
      resetRuns := s2.cal.resetRuns.filter (· != b),
      applied := if reset then s2.cal.applied.filter (fun e => calOf e.1 != some b) else s2.cal.applied } }
    let s4 := (s3.setFlag Reg.CAL_BLK_STATUS_RUNNING false b).put Reg.CAL_STATUS_ACTIVE 7
    let s5 := (s4.put Reg.CAL_BLK_COUNT (s4.get Reg.CAL_BLK_COUNT b + 1) b).put64 Reg.CAL_BLK_LAST s4.now b
    .next ((s5.calSlewing b).event Reg.CAL_STATUS_RUN_EV)

/-- CAL_SLEW_STEP (20 R492): at an application point of block `b`, one SLEW interval after the last step, each field in use moves
one code toward its target. -/
def execCalSlewStep (b : Fin 6) (s : State) : Result :=
  let mine := s.cal.applied.filter (fun e => calOf e.1 == some b.val)
  let s1 := mine.foldl (fun t e =>
    t.calFollow e.1 (if e.2.toNat < (t.calTarget e.1).toNat then e.2 + 1 else e.2 - 1) false) s
  .next (s1.calSlewing b.val)

/-- CAL_VALUE_WRITE (20 R496, R495; 00 R12, R533): new targets for the bytes of a value word; discarded with CFG_REJ while the
block runs. -/
def execCalValueWrite (addr : Nat) (v : Word) (s : State) : Result :=
  match calOf addr with
  | none => .next s
  | some b =>
    let w := s.written addr v
    if s.absentAt addr then .next s
    else if s.flag Reg.CAL_BLK_STATUS_RUNNING b then
      .next (if w = s.rd addr then s else s.event Reg.CAL_STATUS_CFG_REJ)
    else
      let s1 := (List.range 4).foldl (fun t n =>
        if byteOf w n = byteOf (t.rd addr) n then t
        else
          let p := calPlace b (addr + n)
          t.calSet (addr + n) (byteOf w n) (t.calQuiet b p.1 || t.calSpare b p.1 p.2)) s
      .next (s1.calSlewing b)

end Sys2Proof.Machine
end

