-- ==== Sys2Proof/Machine/Cmp.lean ====
section
/-!
DEFINITION. The compositor array (05): taking and stealing sorts, reading the assembly store, coding, and delivery to the forme
writer.
-/
namespace Sys2Proof.Machine

/-- Enable, state and held fields of a cluster (05 R136). -/
def clusterUnit : UnitFlds := ⟨Reg.CMP_CLUSTER_CTL_EN, Reg.CMP_CLUSTER_STATUS_STATE, Reg.CMP_CLUSTER_STATUS_HELD⟩

/-- Show the compositors that hold a sort. -/
def State.showBusy (s : State) : State := s.put Reg.CMP_STATUS_BUSY s.cmp.held.length

/-- Show the RUNNING clusters (05, `CMP.STATUS`). -/
def State.showClusters (s : State) : State :=
  s.put Reg.CMP_STATUS_RUNNING ((List.range 32).countP (fun c => s.get Reg.CMP_CLUSTER_STATUS_STATE c == 2))

/-- Lowest-numbered free compositor of a cluster (05 R131). -/
def State.freeComp (s : State) (c : Nat) : Option Nat :=
  if s.get Reg.CMP_CLUSTER_STATUS_STATE c != 2 then none
  else
    let mask := s.get Reg.CMP_CLUSTER_CTL_MASK c
    ((List.range 16).find? (fun k => (mask >>> k) % 2 == 1 && !s.cmp.held.any (fun h => h.1 == 16 * c + k))).map (16 * c + ·)

/-- Queues at distances 1 to `n` from a cluster: c + d, then c - d, modulo `k`. -/
def ringAround (c k n : Nat) : List Nat :=
  ((List.range n).flatMap (fun d => [(c + (d + 1)) % k, (c + (k - (d + 1) % k)) % k])).filter (· != c)

/-- The queue from which a cluster's compositors request a sort (05 R131). -/
def State.wanted (s : State) (c : Nat) : Option Nat :=
  let k := max 1 s.clusters
  let stopping := (ringAround c k (k / 2)).filter (fun q => s.get Reg.CMP_CLUSTER_STATUS_STATE q == 3)
  (c :: ringAround c k (min (s.get Reg.CMP_CFG_STEAL_RADIUS) (k / 2)) ++ stopping).find? (fun q => !(s.queue q).isEmpty)

/-- Distance between two clusters modulo `k`. -/
def ringDist (a b k : Nat) : Nat := min ((a + k - b % k) % k) ((b + k - a % k) % k)

/-- The request that a queue grants (05 R132): its own cluster, then the smallest distance, then the lower cluster number. -/
def grantTo (q k : Nat) (reqs : List (Nat × Nat)) : Option Nat :=
  (reqs.filter (fun r => r.2 == q)).foldl (fun best r =>
    match best with
    | none => some r.1
    | some b => if ringDist r.1 q k < ringDist b q k || (ringDist r.1 q k == ringDist b q k && decide (r.1 < b)) then some r.1
                else some b) none

/-- A compositor takes the oldest sort of a queue (05 R131). -/
def State.grant (s : State) (q comp : Nat) : State :=
  match s.queue q with
  | [] => s
  | e :: r =>
    let s1 := s.setQueue q r
    let s2 := { s1 with cmp := { s1.cmp with held := insertKey s1.cmp.held comp { frame := e.1, sort := e.2 } } }
    if comp / 16 = q then s2 else (s2.inc Reg.CMP_CLUSTER_STOLEN_IN (comp / 16)).inc Reg.CMP_CLUSTER_STOLEN_OUT q

/-- COMPOSITOR_TAKE_SORT (05 R131, R132): one CMP cycle, every request and every grant of it. -/
def execCompositorTakeSort (s : State) : Result :=
  let k := max 1 s.clusters
  let free := (List.range k).filterMap (fun c => (s.freeComp c).map (fun f => (c, f)))
  let reqs := free.filterMap (fun e => (s.wanted e.1).map (fun q => (e.1, q)))
  let grants := (List.range k).filterMap (fun q => (grantTo q k reqs).map (fun c => (q, lookupD 0 free c)))
  .next (grants.foldl (fun (t : State) g => t.grant g.1 g.2) s).showBusy

/-- Samples as the store delivers them (05 R139; log 4): each one of a damaged word is a free 14-bit value. -/
def State.damageSamples (s : State) (x : List Nat) : List Nat → List Nat × State
  | [] => (x, s)
  | i :: r =>
    let got := s.free
    got.2.damageSamples (x.set (i % 4096) (got.1.toNat % 16384)) r

/-- ASSEMBLY_READ_COMPLETE (05 R128, R139): the compositor holds a copy of its sort and the assembly slot is free; `damaged` are the
samples of words that read uncorrectable. -/
def execAssemblyReadComplete (k : CompIx) (damaged : List Nat) (s : State) : Result :=
  match s.cmp.held.lookup k.val with
  | none => .next s
  | some h =>
    if h.read then .next s
    else
      match s.frame h.frame with
      | none => .next s
      | some f =>
        let p := (s.take (f.take.getD 0)).p
        let got := s.damageSamples (f.samples h.sort) damaged
        let s1 := got.2
        let s2 := s1.setFrame { f with slots := f.slots - (if f.dropped then 0 else 1) }
        let h1 : Held := { frame := h.frame, sort := h.sort, read := true, samples := got.1, mode := p.codeMode, bound := p.bound,
                           cfa := f.cfa, state := (f.sorts.lookup h.sort).getD .complete, poisoned := !damaged.isEmpty }
        let s3 := { s2 with cmp := { s2.cmp with held := insertKey s2.cmp.held k.val h1 } }
        .next (if damaged.isEmpty then s3 else (s3.inc Reg.CMP_ASM_UE).event Reg.CMP_STATUS_ASM_UE_EV)

/-- SORT_CODED (05 R133, R140, R153): the compositor codes the copy that it holds and delivers the coded sort. -/
def execSortCoded (k : CompIx) (s : State) : Result :=
  match s.cmp.held.lookup k.val with
  | none => .next s
  | some h =>
    if !h.read then .next s
    else
      let s1 := ({ s with cmp := { s.cmp with held := eraseKey s.cmp.held k.val } } : State).showBusy
      let (bytes, fell) := codeSort h.sort h.mode h.bound (h.cfa == 1) (h.state == .incomplete) h.samples
      let c : CodedSort := { frame := h.frame, sort := h.sort, bytes, state := h.state, poisoned := h.poisoned }
      let s2 := { s1 with cmp := { s1.cmp with out := s1.cmp.out ++ [c] } }
      let s3 := (s2.add64 Reg.CMP_SORTS 1).add64 Reg.CMP_CLUSTER_CODED 1 (k.val / 16)
      .next (if fell then s3.add64 Reg.CMP_FALLBACK 1 else s3)

/-- CODED_SORT_DELIVERY (05 R134; 06 R163): the forme writer takes the oldest coded sort. -/
def execCodedSortDelivery (s : State) : Result :=
  match s.cmp.out with
  | [] => .next s
  | c :: r =>
    if !s.galActive then .next s
    else .next (({ s with cmp := { s.cmp with out := r } } : State).acceptSort c)

/-- A cluster's enable bit is written (05 R136; 02 R46). -/
def State.clusterEnable (s : State) (c : Nat) (b : Bool) : State := (s.enableWrite clusterUnit b c).showClusters

/-- A cluster's drain is complete: an empty queue and no sort held (05 R136). -/
def State.clusterDrained (s : State) (c : Nat) : Bool :=
  (s.queue c).isEmpty && !s.cmp.held.any (fun h => h.1 / 16 == c)

/-- A cluster reaches RUNNING: unqueued sorts are placed (05 R129). -/
def State.clusterStarted (s : State) (c : Nat) : State := (s.unitStarted clusterUnit c).showClusters.placeUnqueued

/-- COMPOSITOR_MASK_WRITE (05 R131, R137; 00 R5): a write of a cluster's CTL; MASK 0x0000 is reserved. -/
def execCompositorMaskWrite (c : ClusterIx) (v : Word) (s : State) : Result :=
  if !s.awake || !s.hasUnit (.cluster c) then .next s
  else
    let m := bitsOf v 31 16
    let s1 := if m = 0 then s else s.put Reg.CMP_CLUSTER_CTL_MASK m c.val
    .next (s1.clusterEnable c.val (v.getLsbD 0))

/-- CMP_CNT_CLR (05, "Registers"). -/
def execCmpCntClr (s : State) : Result :=
  let s1 := s.zeroWords Reg.CMP_SORTS.base 5
  .next ((List.range 32).foldl (fun (t : State) c => t.zeroRow Reg.CMP_CLUSTER_CODED c 5) s1)

end Sys2Proof.Machine
end

