-- ==== Sys2Proof/Machine/Col.lean ====
section
/-!
DEFINITION. The colophon (17): time base and discipline, trigger channels, take records, seal counter and metrology changes.
Certified time is in ticks of 100 ps; phase errors and intervals are in the same ticks.
-/
namespace Sys2Proof.Machine

/-- Certified time (17, "Time base"). -/
def State.cert (s : State) : Nat := s.get64 Reg.COL_TIME

/-- Bytes 0x00-0x7F of the factory configuration that 17 R445 gives; the rest is not in the spec (log 4). -/
def factoryConfig : List Byte :=
  let known := leBytes 4 0x4D43595A ++ [Config.factoryByte 4, Config.factoryByte 5, 0, 0] ++
    (List.replicate 8 (leBytes 4 1)).flatten ++ leBytes 2 100 ++ leBytes 2 20 ++ zeros 84
  known ++ (List.range 128).map (fun i => Config.factoryByte (128 + i))

/-- A configuration entry's CRC matches (17 R445). -/
def entryGood (e : List Byte) : Bool := e.length == 256 && crc32 (e.take 252) == fieldAt e 252 4

/-- The good entry with the highest number up to `n` (17 R445). -/
def goodEntry (es : List (Nat × List Byte)) : Nat → Option (List Byte)
  | 0 => none
  | n + 1 =>
    match es.lookup (n + 1) with
    | some e => if entryGood e then some e else goodEntry es n
    | none => goodEntry es n

/-- The metrology configuration in force (17 R445). -/
def State.metrology (s : State) : List Byte := (goodEntry s.col.entries s.col.sealCount).getD factoryConfig

/-- REQUIRE_LOCK, TIMESCALE = PPS, HOLD_RATE and LOCK_NS of the configuration in force (17 R445). -/
def State.requireLock (s : State) : Bool := fieldAt s.metrology 6 1 % 2 == 1
def State.timescalePps (s : State) : Bool := fieldAt s.metrology 6 1 / 2 % 2 == 1
def State.holdRate (s : State) : Nat := fieldAt s.metrology 0x28 2
def State.lockNs (s : State) : Nat := fieldAt s.metrology 0x2A 2
/-- CH[i] of the configuration in force (17 R445). -/
def State.tdcCfg (s : State) (i : Nat) : Word := BitVec.ofNat 32 (fieldAt s.metrology (8 + 4 * i) 4)

/-- Discipline state: 0 FREE, 1 FREQ, 2 PHASE, 3 LOCKED, 4 HOLDOVER (17 R434). -/
def State.disc (s : State) : Nat := s.get Reg.COL_STATUS_DISC

/-- Change every open record. -/
def State.mapRecs (s : State) (f : OpenRec → OpenRec) : State := { s with col := { s.col with recs := s.col.recs.map f } }

/-- Set UNC and carry the highest value into the open records (17 R434, R441 UNC_MAX). -/
def State.setUnc (s : State) (v : Nat) : State :=
  let u := min v (2 ^ 32 - 1)
  (s.put Reg.COL_UNC u).mapRecs (fun r => { r with uncMax := max r.uncMax u })

/-- What a loss of the colophon PLL has added to UNC so far: 10,000,000 ns per second (17 R435; log 40). -/
def State.lossUnc (s : State) : Nat :=
  match s.col.lossAt with
  | some t => 10000000 * ((s.cert - t) / 10 ^ 10)
  | none => 0

/-- UNC as the present state reports it (17 R434, R435); seconds in HOLDOVER are whole seconds (log 40). -/
def State.uncNow (s : State) : Nat :=
  match s.disc with
  | 2 => s.col.phaseErr / 10 + 2 + s.lossUnc
  | 3 => s.col.phaseErr / 10 + 2 + s.lossUnc
  | 4 => s.col.holdUnc + s.holdRate * ((s.cert - s.col.holdStart) / 10 ^ 10) + s.lossUnc
  | _ => 2 ^ 32 - 1

/-- Set a flag bit of an open record. -/
def OpenRec.setFlag (r : OpenRec) (bit : Nat) : OpenRec := { r with flags := r.flags ||| bit }

/-- The colophon PLL loses lock (17 R435): the count goes on, open records set NOT_LOCKED. -/
def State.colPllLoss (s : State) : State :=
  let s1 : State := { s with col := { s.col with lossAt := some (s.col.lossAt.getD s.cert) } }
  s1.mapRecs (fun r => r.setFlag 4)

/-- The colophon PLL is locked again: UNC keeps what the loss added (17 R435). -/
def State.colPllLock (s : State) : State :=
  if s.col.lossAt.isNone then s
  else
    let s1 := if s.disc = 2 || s.disc = 3 || s.disc = 4 then s.setUnc s.uncNow else s
    { s1 with col := { s1.col with lossAt := none, holdUnc := s1.col.holdUnc + s.lossUnc } }

/-- The discipline moves to a state (17 R434): run counters start again, DISC_EV where the table says so, open records keep the
lowest state and NOT_LOCKED (17 R441). -/
def State.setDisc (s : State) (d : Nat) (ev : Bool) : State :=
  let left := s.disc == 3 && d != 3
  let s1 := { s with col := { s.col with ppsGood := 0, ppsBad := 0, holdUnc := s.get Reg.COL_UNC, holdStart := s.cert } }
  let s2 := (s1.put Reg.COL_STATUS_DISC d).mapRecs (fun r =>
    let r1 := { r with discWorst := min r.discWorst d }
    if left then r1.setFlag 4 else r1)
  let s3 := s2.setUnc s2.uncNow
  if ev then s3.colEvent Reg.COL_STATUS_DISC_EV else s3

/-- DISCIPLINE_GATE (17 R434): the 10 MHz was judged over a 1 s gate; in FREQ the increment follows it.  `inc` is the increment
that the gate measured, in 2^-32 ticks per COL cycle. -/
def execDisciplineGate (good : Bool) (inc : Nat) (s : State) : Result :=
  if !s.col.powered then .next s
  else
    let s1 := { s with col := { s.col with tenMhzGood := good } }
    let steered := { s1 with col := { s1.col with inc } }
    .next <| match s.disc with
    | 0 => if good then steered.setDisc 1 false else s1
    | 1 => if good then steered else s1.setDisc 0 true
    | 2 => if good then (if s1.col.lossAt.isSome then s1.setUnc s1.uncNow else s1) else s1.setDisc 0 true
    | 3 => if good then (if s1.col.lossAt.isSome then s1.setUnc s1.uncNow else s1) else s1.setDisc 4 true
    | _ =>
      let pps := match s.col.lastPps with | some t => decide (s.cert ≤ t + 3 * 10 ^ 10) | none => false
      if good && pps then s1.setDisc 1 false else s1.setUnc s1.uncNow

/-- Distance of a certified time from the nearest whole second (17 R434, phase error). -/
def phaseOf (t : Nat) : Nat := min (t % 10 ^ 10) (10 ^ 10 - t % 10 ^ 10)

/-- An increment changed by at most 10 ppm (17 R434). -/
def clampInc (old new : Nat) : Nat := max (old - old / 100000) (min (old + old / 100000) new)

/-- An armed time-of-day set takes effect at the edge (17 R436). -/
def State.todSet (s : State) (elapsed : Nat) : State :=
  if !s.col.todArmed then s
  else
    let s1 := { s with col := { s.col with todArmed := false } }
    (s1.put64 Reg.COL_TIME ((s1.get64 Reg.COL_TOD_NEXT * 10 ^ 10 + elapsed) % 2 ^ 64)).inc Reg.COL_TOD_SETS

/-- PPS_EDGE (17 R434, R436): the edge lay `elapsed` ticks back; `inc` is the increment that phase steering asks for. -/
def execPpsEdge (elapsed inc : Nat) (s : State) : Result :=
  if !s.col.powered then .next s
  else
    let gap := match s.col.lastPps with
      | some t => (s.cert - elapsed) - t
      | none => 0
    let spaced := decide (10 ^ 10 - 10 ^ 4 ≤ gap) && decide (gap ≤ 10 ^ 10 + 10 ^ 4)
    let s1 := s.todSet elapsed
    let t := s1.cert - elapsed
    let err := phaseOf t
    let s2 := { s1 with col := { s1.col with lastPps := some t, phaseErr := err } }
    let steer := fun (u : State) => { u with col := { u.col with inc := clampInc u.col.inc inc } }
    .next <| match s.disc with
    | 1 =>
      let n := if spaced then s.col.ppsGood + 1 else 1
      if 4 ≤ n then s2.setDisc 2 false else { s2 with col := { s2.col with ppsGood := n } }
    | 2 =>
      let u := steer s2
      let n := if err ≤ 10 * s.lockNs then s.col.ppsGood + 1 else 0
      if 16 ≤ n then u.setDisc 3 false else ({ u with col := { u.col with ppsGood := n } } : State).setUnc u.uncNow
    | 3 =>
      let u := steer s2
      let n := if 40 * s.lockNs < err then s.col.ppsBad + 1 else 0
      if 4 ≤ n then u.setDisc 2 true else ({ u with col := { u.col with ppsBad := n } } : State).setUnc u.uncNow
    | 4 => if s.col.tenMhzGood then s2.setDisc 1 false else s2.setUnc s2.uncNow
    | _ => s2

/-- PPS_LOSS (17 R434): no PPS for 3 s in LOCKED. -/
def execPpsLoss (s : State) : Result :=
  if s.col.powered && s.disc == 3 then .next (s.setDisc 4 true) else .next s

/-- HOLDOVER_EXPIRY (17 R434): 24 h in HOLDOVER. -/
def execHoldoverExpiry (s : State) : Result :=
  if s.col.powered && s.disc == 4 then .next (s.setDisc 0 true) else .next s

/-- TOD_ARM (17 R436): accepted with TIMESCALE PPS, no take open, in PHASE or LOCKED; else discarded with CFG_REJ. -/
def execTodArm (s : State) : Result :=
  if !s.col.powered then .next s
  else if s.timescalePps && s.col.recs.isEmpty && (s.disc == 2 || s.disc == 3) then
    .next { s with col := { s.col with todArmed := true } }
  else .next (s.colEvent Reg.COL_STATUS_CFG_REJ)

/-- A message is a strobe. -/
def ColMsg.isStrobe : ColMsg → Bool
  | .strobe _ _ => true
  | _ => false

/-- Keep a frame opening among the latest 65,536 (17 R440). -/
def State.keepOpening (s : State) (frame t : Nat) : State :=
  { s with col := { s.col with opens := (s.col.opens ++ [(frame, t)]).drop (s.col.opens.length + 1 - 65536) } }

/-- Certified time of a moment of device time: both count, 25 ticks of 100 ps to four of 0.625 ns (04 R107; 17 R437; log 41). -/
def State.certAt (s : State) (devtime : Nat) : Nat := s.cert - (s.now - devtime) * 25 / 4

/-- FRAME_STROBE (17 R437): answered with the certified time of the frame's opening while RUNNING, the PLL locked and, under
REQUIRE_LOCK, the discipline LOCKED; else counted in UNANSWERED. -/
def execFrameStrobe (s : State) : Result :=
  match s.col.toCol.find? ColMsg.isStrobe with
  | some (.strobe frame time) =>
    let s1 := { s with col := { s.col with toCol := s.col.toCol.erase (.strobe frame time) } }
    if !s.col.powered then .next s1
    else if s.get Reg.COL_STATUS_STATE = 2 && s.flag Reg.CLK_PLL_STATUS_COL_LOCK && (!s.requireLock || s.disc == 3) then
      let t := s.certAt time
      let s2 := { s1 with col := { s1.col with answers := s1.col.answers ++ [(frame, t)] } }
      .next ((s2.keepOpening frame t).add64 Reg.COL_STROBES 1)
    else .next ((s1.keepOpening frame 0).inc Reg.COL_UNANSWERED)
  | _ => .next s

/-- An edge is timed on a TRIGGER channel: the first 64 are listed in each open record (17 R441). -/
def OpenRec.addEvent (r : OpenRec) (i t : Nat) (rising : Bool) : OpenRec :=
  if r.events.length < 64 then
    { r with events := r.events ++ [{ time := t / 10, fine := t % 10, ch := i, falling := !rising, index := r.counts.getD i 0 }] }
  else r.setFlag 2

/-- An edge on channel `i` counts in an open record (17 R441, COUNT). -/
def OpenRec.countEdge (r : OpenRec) (i : Nat) : OpenRec := { r with counts := r.counts.set i (r.counts.getD i 0 + 1) }

/-- An exposure of `d` units of 10 ps ends (17 R441). -/
def OpenRec.addExposure (r : OpenRec) (d : Nat) : OpenRec :=
  { r with expCount := r.expCount + 1, expMin := if r.expCount = 0 then d else min r.expMin d, expMax := max r.expMax d,
           expSum := r.expSum + d }

/-- The selected edges of a channel: ROLE TRIGGER by EDGE, ROLE EXPOSURE both (17 R438, R445). -/
def tdcTimes (cfg : Word) (rising : Bool) : Bool :=
  match bitsOf cfg 1 0, bitsOf cfg 3 2 with
  | 1, 0 => rising
  | 1, 1 => !rising
  | 1, 2 => true
  | 2, _ => true
  | _, _ => false

/-- What a timed exposure edge does: into the active level it starts an exposure, out of it one ends (17 R438). -/
def State.exposureEdge (s : State) (i t : Nat) (active : Bool) : State :=
  if active then { s with col := { s.col with expStart := insertKey s.col.expStart i t } }
  else
    match s.col.expStart.lookup i with
    | some t0 =>
      ({ s with col := { s.col with expStart := eraseKey s.col.expStart i } } : State).mapRecs (fun r => r.addExposure (t - t0))
    | none => s

/-- TDC_EDGE (17 R438): the edge's certified time less the channel's DELAY (log 42), in 10 ps units; too close to the previous timed
edge it is an overrun. -/
def execTdcEdge (i : TrigIx) (rising : Bool) (fine : Fin 10) (s : State) : Result :=
  let cfg := s.tdcCfg i.val
  if !s.col.powered || s.get Reg.COL_STATUS_STATE != 2 || !tdcTimes cfg rising then .next s
  else
    let arrival := 10 * s.cert + fine.val
    let near := match s.col.lastEdge.lookup i.val with
      | some t => decide (arrival < t + 400)
      | none => false
    if near then .next ((s.inc Reg.COL_CH_OVERRUN i.val).colEvent Reg.COL_STATUS_OVERRUN_EV)
    else
      let d := bitsOf cfg 31 16
      let t := if d < 0x8000 then arrival - d else arrival + (0x10000 - d)
      let s1 := { s with col := { s.col with lastEdge := insertKey s.col.lastEdge i.val arrival } }
      let s2 := ((s1.put64 Reg.COL_CH_LAST (t / 10) i.val).put Reg.COL_CH_LAST_FINE_FINE (t % 10) i.val).setFlag
        Reg.COL_CH_LAST_FINE_EDGE (!rising) i.val
      let s3 := s2.inc Reg.COL_CH_COUNT i.val
      let s4 := if bitsOf cfg 1 0 = 1 then s3.mapRecs (fun r => r.addEvent i.val t rising)
                else s3.exposureEdge i.val t (rising != (bitsOf cfg 2 2 == 1))
      .next (s4.mapRecs (fun r => r.countEdge i.val))

/-- Insert a frame in ascending order (17 R440). -/
def OpenRec.store (r : OpenRec) (frame t : Nat) : OpenRec := { r with stored := insertKey r.stored frame t }

/-- SHA-384 over the 16-byte entries of the frames decided stored (17 R440). -/
def OpenRec.frameSha (r : OpenRec) : List Byte :=
  sha384 ((r.stored.map (fun e => leBytes 8 e.1 ++ leBytes 8 e.2)).flatten)

/-- A colophon record without its signature (17 R441). -/
def State.recordBody (s : State) (r : OpenRec) (seq first trig last cfgTime : Nat) : List Byte :=
  let e := r.events
  let head := leBytes 4 0x4C43595A ++ leBytes 2 1 ++ leBytes 2 (0x190 + 16 * e.length) ++ leBytes 2 r.takeId ++ leBytes 1 r.seg ++
    leBytes 1 r.flags ++ leBytes 2 s.col.sealCount ++ leBytes 1 (if s.timescalePps then 1 else 0) ++ leBytes 1 r.discWorst ++
    leBytes 8 seq ++ leBytes 16 s.col.bootNonce
  let mid := leBytes 8 r.openCert ++ leBytes 8 cfgTime ++ leBytes 8 first ++ leBytes 8 trig ++ leBytes 8 last ++
    leBytes 4 r.stored.length ++ leBytes 4 r.notStored ++ leBytes 4 r.uncMax ++ leBytes 2 e.length ++ zeros 2 ++
    (r.counts.map (leBytes 4)).flatten ++ leBytes 4 r.expCount ++ leBytes 4 (s.get Reg.COL_TOD_SETS) ++
    leBytes 8 r.expMin ++ leBytes 8 r.expMax ++ leBytes 8 r.expSum
  let auth := match s.col.authKey with | some k => sha384 k | none => zeros 48
  let events := (e.map (fun x => leBytes 8 x.time ++ leBytes 1 x.fine ++ leBytes 1 x.ch ++
    leBytes 1 (if x.falling then 1 else 0) ++ zeros 1 ++ leBytes 4 x.index)).flatten
  head ++ mid ++ r.frameSha ++ sha384 s.metrology ++ auth ++ events

/-- Close and sign an open record (17 R441-R443): into the own store, and over the link unless it is lost.  The signature's secret
is drawn from the TRNG: free (log 4). -/
def State.closeRec (s : State) (r : OpenRec) (first trig last flags : Nat) (link : Bool) : State :=
  let (sig, s1) := s.freeBytes 96
  let seq := s1.col.recordSeq + 1
  let bytes := s1.recordBody (r.setFlag flags) seq first trig last s1.cert ++ sig
  let s2 := { s1 with col := { s1.col with
    recs := s1.col.recs.filter (fun q => q.seg != r.seg), recordSeq := seq,
    records := insertKey s1.col.records (seq % 256) bytes,
    outRecords := if link then s1.col.outRecords ++ [(r.seg, bytes)] else s1.col.outRecords } }
  (s2.put64 Reg.COL_REC_HEAD seq).colEvent Reg.COL_STATUS_RECORD_EV

/-- Close every open record with a flag and no frame numbers of a CLOSE (17 R432, R443). -/
def State.closeAllRecs (s : State) (flags : Nat) (link : Bool) : State :=
  s.col.recs.foldl (fun t r => t.closeRec r 0 0 0 flags link) s

/-- The colophon takes a message of a take (17 R439-R441). -/
def State.colTake (s : State) (m : ColMsg) : State :=
  match m with
  | .openTake seg takeId =>
    let r : OpenRec := { seg, takeId, discWorst := s.disc, openCert := s.cert, uncMax := s.get Reg.COL_UNC,
                         flags := if s.flag Reg.CLK_PLL_STATUS_COL_LOCK then 0 else 4 }
    { s with col := { s.col with recs := s.col.recs.filter (fun q => q.seg != seg) ++ [r] } }
  | .member seg frame stored uncert =>
    let gone := decide (65536 ≤ s.col.opens.length) && (match s.col.opens with | (f, _) :: _ => decide (frame < f) | [] => false)
    s.mapRecs (fun r =>
      if r.seg != seg then r
      else if !stored then
        let r1 := { r with notStored := r.notStored + 1 }
        if gone then r1.setFlag 1 else r1
      else if gone then r.setFlag 1
      else r.store frame (if uncert then 0 else lookupD 0 s.col.opens frame))
  | .closeTake seg takeId first trig last save =>
    match s.col.recs.find? (fun r => r.seg == seg && r.takeId == takeId) with
    | some r => s.closeRec r first trig last (if save then 8 else 0) true
    | none => s
  | .strobe _ _ => s

/-- The first message that is no strobe is taken off the link. -/
def State.dropTakeMsg (s : State) (m : ColMsg) : State := { s with col := { s.col with toCol := s.col.toCol.erase m } }

/-- A take message arrives (17 R432): held while STARTING, processed while RUNNING, else discarded; the take of a discarded OPEN
gets no record. -/
def State.colMessage (s : State) (kind : ColMsg → Bool) : State :=
  match s.col.toCol.find? (fun m => !m.isStrobe) with
  | none => s
  | some m =>
    if !kind m || (s.col.powered && s.get Reg.COL_STATUS_STATE = 1) then s
    else if s.col.powered && s.get Reg.COL_STATUS_STATE = 2 then (s.dropTakeMsg m).colTake m
    else
      let s1 := s.dropTakeMsg m
      match m with
      | .openTake _ id => { s1 with col := { s1.col with discarded := s1.col.discarded ++ [id] } }
      | _ => s1

/-- Kinds of take messages. -/
def isOpenMsg : ColMsg → Bool
  | .openTake _ _ => true
  | _ => false
def isMemberMsg : ColMsg → Bool
  | .member _ _ _ _ => true
  | _ => false
def isCloseMsg : ColMsg → Bool
  | .closeTake _ _ _ _ _ _ => true
  | _ => false

/-- TAKE_OPEN_MESSAGE (17 R439, R432). -/
def execTakeOpenMessage (s : State) : Result := .next (s.colMessage isOpenMsg)

/-- MEMBERSHIP_DECISION (17 R439, R440). -/
def execMembershipDecision (s : State) : Result := .next (s.colMessage isMemberMsg)

/-- TAKE_CLOSE_MESSAGE (17 R441, R442). -/
def execTakeCloseMessage (s : State) : Result := .next (s.colMessage isCloseMsg)

/-- The colophon's start-up completes (17 R432; 02 R46): the messages held while STARTING are processed. -/
def State.colStarted (s : State) : State :=
  if !s.col.powered || s.get Reg.COL_STATUS_STATE != 1 then s
  else
    let s1 := s.unitStarted colUnit
    if s1.get Reg.COL_STATUS_STATE != 2 then s1
    else (s1.col.toCol.filter (fun m => !m.isStrobe)).foldl (fun (t : State) m => (t.dropTakeMsg m).colTake m) s1

/-- COLOPHON_STARTUP_COMPLETE (17 R432, R433; 02 R46): a failed test leaves FAILED. -/
def execColophonStartupComplete (pass : Bool) (s : State) : Result :=
  if !s.col.powered || s.get Reg.COL_STATUS_STATE != 1 then .next s
  else if pass then .next s.colStarted
  else .next (s.put Reg.COL_STATUS_STATE 4)

/-- The colophon's enable bit is written (17 R432; 02 R46): leaving RUNNING closes every open record with DISABLED. -/
def State.colEnable (s : State) (b : Bool) : State :=
  if !s.col.powered then s
  else
    let s1 := if !b && s.get Reg.COL_STATUS_STATE = 2 then s.closeAllRecs 32 true else s
    s1.enableWrite colUnit b

/-- COLOPHON_DISABLE (17 R432). -/
def execColophonDisable (s : State) : Result := .next (s.colEnable false)

/-- COLOPHON_HEARTBEAT_SEND (17, "Take records"). -/
def execColophonHeartbeatSend (s : State) : Result := .next { s with col := { s.col with heartbeatSeen := true } }

/-- COLOPHON_LINK_LOST (17 R443): open records close with LINK_LOST into the own store only. -/
def execColophonLinkLost (s : State) : Result :=
  if !s.col.powered || !s.col.heartbeatSeen then .next s
  else
    let s1 := { s with col := { s.col with heartbeatSeen := false } }
    .next ((s1.closeAllRecs 16 false).colEvent Reg.COL_STATUS_LINK_EV)

/-- The 96 bytes of `COL.AUTH_KEY`, or the 224 of `COL.CHANGE`. -/
def State.colBytes (s : State) (f : Fld) (words : Nat) : List Byte :=
  ((List.range words).map (fun i => leBytes 4 (s.rd (f.base + 4 * i)).toNat)).flatten

/-- AUTH_PROVISION (17 R446): once, for a point on P-384. -/
def execAuthProvision (s : State) : Result :=
  if !s.col.powered || s.flag Reg.COL_AUTH_PROVISIONED then .next s
  else
    let key := s.colBytes Reg.COL_AUTH_KEY 24
    if onCurve (beNat (key.take 48)) (beNat (key.drop 48)) then
      .next (({ s with col := { s.col with authKey := some key } } : State).setFlag Reg.COL_AUTH_PROVISIONED true)
    else .next s

/-- Registers that follow the seal counter (17, SEAL). -/
def State.showSeal (s : State) : State :=
  (s.put Reg.COL_SEAL_COUNT s.col.sealCount).setFlag Reg.COL_SEAL_EXHAUSTED (s.col.sealCount == 256)

/-- A change ends with a result code; CHANGE_EV (17 R447). -/
def State.changeResult (s : State) (code : Nat) : State :=
  (s.put Reg.COL_CHANGE_STATUS_RESULT code).colEvent Reg.COL_STATUS_CHANGE_EV

/-- CHANGE_GO (17 R447).  `cell` says how the cell came out of step 2: 0 unprogrammed at the relaxed margin, 1 at the relaxed margin
only, 2 at the strict margin (17 R444); `entryOk` whether the entry verified in step 3. -/
def execChangeGo (cell : Fin 3) (entryOk : Bool) (s : State) : Result :=
  if !s.col.powered then .next s
  else
    let e := s.colBytes Reg.COL_CHANGE 56
    let index := fieldAt e 4 2
    let n := s.col.sealCount
    let signed := match s.col.authKey with
      | some k => ecdsaVerify k (e.take 128) ((e.drop 128).take 96)
      | none => false
    if index ≠ n + 1 then .next (s.changeResult 4)
    else if !signed then .next (s.changeResult 3)
    else if !s.col.recs.isEmpty then .next (s.changeResult 5)
    else if 256 ≤ n then .next (s.changeResult 6)
    else if cell.val < 2 then
      let s1 := if cell.val = 0 then s
        else ({ s with col := { s.col with sealCount := n + 1, sealWeak := s.col.sealWeak ++ [n] } } : State).showSeal
      .next (s1.changeResult 7)
    else
      let s1 := ({ s with col := { s.col with sealCount := n + 1 } } : State).showSeal
      if !entryOk then .next (s1.changeResult 7)
      else
        let body := e ++ zeros 28
        let entry := body ++ leBytes 4 (crc32 body)
        let s2 := { s1 with col := { s1.col with entries := insertKey s1.col.entries index entry } }
        .next (s2.changeResult 2)

/-- The colophon's own reset (17 R430, R435, R444): registers, time base, record store and open records; the OTP stays, and weak
seal cells are programmed again. -/
def State.colReset (s : State) : State :=
  let weak := !s.col.sealWeak.isEmpty
  let old := s.col
  let fresh : ColSt := { powered := old.powered, toCol := [], sealCount := old.sealCount, entries := old.entries,
                         authKey := old.authKey, ccLockups := [] }
  let other := fun k => !(decide (0x100000000 ≤ k) && decide (k < 0x1000F0000))
  let s1 := ({ s with regs := skeep s.regs other, col := fresh } : State).clearShadows other
  let s2 := (s1.showSeal).setFlag Reg.COL_AUTH_PROVISIONED old.authKey.isSome
  if weak then s2.colEvent Reg.COL_STATUS_SEAL_REPAIR_EV else s2

/-- COLOPHON_POWER_ON_RESET (17 R430, R431): COL_VDD leaves its range. -/
def execColophonPowerOnReset (s : State) : Result :=
  if !s.part.colophon then .next s
  else
    let s1 := s.colReset
    .next (({ s1 with col := { s1.col with powered := false } } : State).setFlag Reg.COL_STATUS_POWER false)

/-- The colophon leaves its own reset: POWER 1, a new BOOT_NONCE (free, log 4), and STARTING with EN at its reset value 1
(17 R431, R432, R435). -/
def State.colBoot (s : State) : State :=
  let (nonce, s1) := s.freeBytes 16
  let s2 := { s1 with col := { s1.col with powered := true, bootNonce := leNat nonce } }
  let s3 := s2.setFlag Reg.COL_STATUS_POWER true
  if s3.flag Reg.COL_CTL_EN && s3.get Reg.COL_STATUS_STATE = 0 then s3.put Reg.COL_STATUS_STATE 1 else s3

/-- COL_VDD_RETURN (17 R431). -/
def execColVddReturn (s : State) : Result :=
  if !s.part.colophon || s.col.powered then .next s else .next s.colBoot

/-- COL_CNT_CLR (17, "Registers"); TOD_SETS is not cleared. -/
def execColCntClr (s : State) : Result :=
  if !s.col.powered then .next s
  else
    let s1 := (s.put64 Reg.COL_STROBES 0).put Reg.COL_UNANSWERED 0
    .next ((List.range 8).foldl (fun t i => (t.put Reg.COL_CH_COUNT 0 i).put Reg.COL_CH_OVERRUN 0 i) s1)

end Sys2Proof.Machine
end

