-- ==== Sys2Proof/Machine/Zlp.lean ====
section
/-!
DEFINITION. The Zynus Lane Protocol (03 R67-R70): descrambler, block types and fields, CHK, and the control blocks that the device
sends.
-/
namespace Sys2Proof.Machine

/-- The self-synchronous descrambler x^58 + x^39 + 1 (03 R68): `h` holds the last 58 received bits, oldest in bit 0.  Answers the
recovered payload and the last 58 bits. -/
def descramble (h : BitVec 58) (p : Word64) : Word64 × BitVec 58 :=
  let line : BitVec 122 := (p.zeroExtend 122 <<< 58) ||| h.zeroExtend 122
  (((line >>> 58) ^^^ (line >>> 19) ^^^ line).truncate 64, (line >>> 64).truncate 58)

/-- One bit of the scrambler (03 R68): `h` holds the last 58 sent bits, oldest in bit 0. -/
def scrambleBit (h : BitVec 58) (d : Bool) : Bool × BitVec 58 :=
  let b := (d != h.getLsbD 19) != h.getLsbD 0
  (b, (h >>> 1) ||| (if b then 1 <<< 57 else 0))

/-- The scrambled payload and the last 58 sent bits after it (03 R68). -/
def scramble (h : BitVec 58) (p : Word64) : Word64 × BitVec 58 :=
  (List.range 64).foldl (fun (a : Word64 × BitVec 58) i =>
    let r := scrambleBit a.2 (p.getLsbD i)
    (a.1 ||| (if r.1 then 1 <<< i else 0), r.2)) (0, h)

/-- Blocks as a lane's transmitter sends them one after the other (03 R67, R68). -/
def onLine (n : Nat) : BitVec 58 → List LineBlock → List Output × BitVec 58
  | h, [] => ([], h)
  | h, b :: r =>
    let x := scramble h b.payload
    let y := onLine n x.2 r
    (.block n b x.1 :: y.1, y.2)

/-- Bits of a payload. -/
def payBits (d : Word64) (hi lo : Nat) : Nat := (d.toNat >>> lo) % 2 ^ (hi + 1 - lo)

/-- Block type of a control block (03 R69). -/
def blkType (d : Word64) : Nat := payBits d 7 0

/-- One bit of the CHK computation (03 R70). -/
def chkStep (crc : Nat) (bit : Bool) : Nat :=
  let fb := (crc / 128 % 2 == 1) != bit
  let c := crc * 2 % 256
  if fb then c ^^^ 0x07 else c

/-- CHK over payload bits 8 to 55 (03 R70). -/
def chkOf (d : Word64) : Nat := (List.range 48).foldl (fun crc i => chkStep crc (d.getLsbD (8 + i))) 0

/-- A control block is taken: a listed type, the right CHK, reserved fields zero, no reserved code (03 R69). -/
def ctlOk (d : Word64) : Bool :=
  match blkType d with
  | 0x1E => d == 0x1E
  | 0x33 => payBits d 63 56 == chkOf d && payBits d 47 42 == 0 && payBits d 55 48 == 0
  | 0x4B => payBits d 63 56 == chkOf d && payBits d 15 15 == 0 && payBits d 23 23 == 0 && payBits d 55 48 == 0
  | 0x55 => payBits d 63 56 == chkOf d && payBits d 55 55 == 0
  | 0x66 => payBits d 63 56 == chkOf d && decide (payBits d 15 8 ≤ 0x21)
  | 0x78 =>
    payBits d 63 56 == chkOf d && payBits d 31 25 == 0 && [0x01, 0x02, 0x10, 0x11, 0x12].contains (payBits d 15 8)
  | _ => false

/-- FRAME_SEQ of an FS or FE block; LINE and SAMPLES of an LS block (03 R69). -/
def frameSeqOf (d : Word64) : Nat := payBits d 39 8
def lineOf (d : Word64) : Nat := payBits d 14 8 + 128 * payBits d 22 16
def samplesOf (d : Word64) : Nat := payBits d 39 24

/-- CODE, LANE_NUM, PL, SEQ and PARAM of a CT block (03 R69). -/
def ctCode (d : Word64) : Nat := payBits d 15 8
def ctLane (d : Word64) : Nat := payBits d 23 16
def ctPl (d : Word64) : Bool := d.getLsbD 24
def ctSeq (d : Word64) : Nat := payBits d 47 32
def ctParam (d : Word64) : Nat := payBits d 55 48

/-- A CT block with a code. -/
def isCt (code : Nat) (d : Word64) : Bool := blkType d == 0x78 && ctCode d == code

/-- A control block with its CHK (03 R70). -/
def withChk (n : Nat) : LineBlock :=
  let d : Word64 := BitVec.ofNat 64 n
  ⟨true, false, BitVec.ofNat 64 (n + chkOf d * 2 ^ 56)⟩

/-- Blocks that the device sends (03 R69, R71). -/
def idleBlock : LineBlock := ⟨true, false, 0x1E⟩
def dataBlock (d : Word64) : LineBlock := ⟨false, true, d⟩
/-- A block with the header bits 0, 0 (03 R87, R91; 06 R172). -/
def badBlock (d : Word64) : LineBlock := ⟨false, false, d⟩
def fsBlock (seq flags : Nat) : LineBlock := withChk (0x33 + seq % 2 ^ 32 * 2 ^ 8 + flags * 2 ^ 40)
def lsBlock (line samples seq : Nat) : LineBlock :=
  withChk (0x4B + line % 128 * 2 ^ 8 + line / 128 * 2 ^ 16 + samples * 2 ^ 24 + seq % 256 * 2 ^ 40)
def feBlock (seq lines : Nat) : LineBlock := withChk (0x55 + seq % 2 ^ 32 * 2 ^ 8 + lines % 2 ^ 15 * 2 ^ 40)
def mkBlock (code value : Nat) : LineBlock := withChk (0x66 + code * 2 ^ 8 + value % 2 ^ 40 * 2 ^ 16)
def ctBlock (code lane : Nat) (pl : Bool) (seq param : Nat) : LineBlock :=
  withChk (0x78 + code * 2 ^ 8 + lane * 2 ^ 16 + (if pl then 2 ^ 24 else 0) + seq % 2 ^ 16 * 2 ^ 32 + param % 256 * 2 ^ 48)

/-- A TRAIN or ALIGN block of lane `n`: LANE_NUM n, or k with PL = 1 on PLk (03 R85, R86, R96). -/
def laneCt (code n seq : Nat) : LineBlock := if n < 256 then ctBlock code n false seq 0 else ctBlock code (n - 256) true seq 0

/-- A training burst of `m` blocks on lane `n` with number `seq` (03 R85): every 16th block is a CT TRAIN, the others are data blocks
of zeros. -/
def burstBlocks (n seq m : Nat) : List LineBlock :=
  (List.range m).map (fun i => if i % 16 = 15 then laneCt 0x01 n seq else dataBlock 0)

/-- 64-bit words of a byte string: byte i in word i / 8, bits from 8 (i mod 8) up (03 R92; 07 R188). -/
def wordsOf : Nat → List Byte → List Word64
  | 0, _ => []
  | n + 1, b => BitVec.ofNat 64 (leNat (b.take 8)) :: wordsOf n (b.drop 8)

end Sys2Proof.Machine
end

