-- ==== Sys2Proof/Machine/Rx.lean ====
section
/-!
DEFINITION. Lane receivers, ports and what the capture unit takes from them (03 R75-R82, R87, R88, R93, R95; 04 R98-R105).  Lanes
are numbered 0-255, and 256 and 257 for PL0 and PL1.  The receive rows of a port's lanes come in deskewed order, and RX_POL is
already applied to their payloads (log 81).
-/
namespace Sys2Proof.Machine

/-- A lane and a port beside their registers. -/
def State.lane (s : State) (n : Nat) : LaneSt := sget (fun _ => {}) s.lanes n
def State.setLane (s : State) (n : Nat) (x : LaneSt) : State := { s with lanes := sput (fun _ => {}) s.lanes n x }
def State.port (s : State) (p : Nat) : PortSt := sget (fun _ => {}) s.ports p
def State.setPort (s : State) (p : Nat) (x : PortSt) : State := { s with ports := sput (fun _ => {}) s.ports p x }

/-- Blocks leave on a lane, one after the other, scrambled (03 R67, R68).  IDLE blocks between them are not shown (log 91). -/
def State.sendBlocks (s : State) (n : Nat) (bs : List LineBlock) : State :=
  let r := onLine n (s.lane n).scrambler bs
  let s1 := s.setLane n { s.lane n with scrambler := r.2 }
  { s1 with outbox := r.1.reverse ++ s1.outbox }

/-- RX_STATE of a lane: 0 OFF, 1 SEEK, 2 LOCKED, 3 SYNCED, 4 ALIGNED, 5 PRBS. -/
def State.rxState (s : State) (n : Nat) : Nat := s.get Reg.LANE_L_STATUS_RX_STATE (laneReg n)
def State.setRx (s : State) (n v : Nat) : State := s.put Reg.LANE_L_STATUS_RX_STATE v (laneReg n)

/-- Port of a lane, its position, the port's receive width W and its state (03 R73). -/
def portOf (n : Nat) : Nat := n / 8
def State.rxWidth (s : State) (p : Nat) : Nat := 2 ^ s.get Reg.LANE_PORT_CTL_WIDTH p
def State.portState (s : State) (p : Nat) : Nat := s.get Reg.LANE_PORT_STATUS_STATE p
def portUnit : UnitFlds := ⟨Reg.LANE_PORT_CTL_EN, Reg.LANE_PORT_STATUS_STATE, Reg.LANE_PORT_STATUS_HELD⟩

/-- TX_STATE as the lane's settings give it (03, `LANE[n].STATUS`): 0 electrical idle, 4 PRBS, 1 TRAINING,
3 CONTENT, 2 IDLE_BLOCKS. -/
def State.showTx (s : State) (n : Nat) : State :=
  let x := s.lane n
  let i := laneReg n
  let v := if !s.laneSends n then 0
    else if !s.laneOpen n then 2
    else if s.flag Reg.LANE_L_CTL_PRBS_TX i then 4
    else if x.inBurst then 1
    else if (s.get Reg.LANE_L_CTL_EGRESS i == 1 && x.relayOn) || (s.get Reg.LANE_L_CTL_EGRESS i == 2 && x.content) then 3
    else 2
  s.put Reg.LANE_L_STATUS_TX_STATE v i

/-! ### What the capture unit takes (04 R98-R105) -/

/-- Positions of a port that deliver. -/
def State.joinedLanes (s : State) (p : Nat) : List Nat :=
  (List.range (s.rxWidth p)).filter (fun k => (s.lane (8 * p + k)).joined)

/-- The lane has finished line `y`: past it, at its last group of it, or at the end of the frame (03 R74). -/
def State.lanePast (s : State) (p k y width : Nat) : Bool :=
  let x := s.lane (8 * p + k)
  (s.port p).fe.contains k ||
    (match x.line with
     | some l => decide (y < l) || (l == y && decide ((width + 31) / 32 ≤ k + s.rxWidth p * x.groupsDone))
     | none => false)

/-- Lines of the port's frame that all its lanes have finished count as settled, and tile rows become ready (04 R103). -/
def State.settleLines (s : State) (p : Nat) : State :=
  match (s.port p).frame with
  | none => s
  | some n =>
    match s.frame n with
    | none => s
    | some f =>
      let js := s.joinedLanes p
      let mine := fun (y : Nat) => ((f.stripes.getD p ⟨false, 0, 0, 0⟩).indexOf y).isSome
      let done := fun (e : Nat × Nat) => e.2 == 1 && mine e.1 && js.all (fun k => s.lanePast p k e.1 f.width)
      if f.lines.any done then
        (s.setFrame { f with lines := f.lines.map (fun e => if done e then (e.1, 2) else e) }).cutRows n
      else s

/-- Every line that the port has in progress is settled: the lanes have gone on to another frame, or ended it. -/
def State.settleAll (s : State) (p : Nat) : State :=
  match (s.port p).frame with
  | none => s
  | some n =>
    match s.frame n with
    | none => s
    | some f =>
      let mine := fun (y : Nat) => ((f.stripes.getD p ⟨false, 0, 0, 0⟩).indexOf y).isSome
      (s.setFrame { f with lines := f.lines.map (fun e => if e.2 == 1 && mine e.1 then (e.1, 2) else e) }).cutRows n

/-! ### The port's transmit stream (03 R84, R91) -/

/-- Lanes that carry a port's transmit stream: TX_WIDTH. -/
def State.txWidth (s : State) (p : Nat) : Nat := 2 ^ s.get Reg.LANE_PORT_CTL_TX_WIDTH p

/-- The lane sends its share: EGRESS PORT, no training burst, no PRBS (03 R84, R85, R95). -/
def State.txCarries (s : State) (n : Nat) : Bool :=
  s.laneOpen n && s.get Reg.LANE_L_CTL_EGRESS n == 2 && !(s.lane n).inBurst && !s.flag Reg.LANE_L_CTL_PRBS_TX n

/-- One block of the stream on a lane position: a lane that is not in PORT mode drops its share, TX_GAP (03 R84). -/
def State.txSend (s : State) (p k : Nat) (b : LineBlock) : State :=
  let n := 8 * p + k
  if s.txCarries n then s.sendBlocks n [b]
  else if s.get Reg.LANE_L_CTL_EGRESS n == 2 then s
  else s.event Reg.LANE_PORT_STATUS_TX_GAP p

/-- One block on every lane of the stream. -/
def State.txAll (s : State) (p : Nat) (b : LineBlock) : State :=
  (List.range (s.txWidth p)).foldl (fun (t : State) k => t.txSend p k b) s

/-- Content starts or stops on the stream's lanes (03, `TX_STATE`). -/
def State.txContent (s : State) (p : Nat) (on : Bool) : State :=
  (List.range (s.txWidth p)).foldl (fun (t : State) k =>
    (t.setLane (8 * p + k) { t.lane (8 * p + k) with content := on }).showTx (8 * p + k)) s

/-- A training burst holds the stream's content back (03 R85). -/
def State.txWaits (s : State) (p : Nat) : Bool :=
  (List.range (s.txWidth p)).any (fun k => s.get Reg.LANE_L_CTL_EGRESS (8 * p + k) == 2 && (s.lane (8 * p + k)).inBurst)

/-- Head transmit ends its frame with an FE block (03 R91). -/
def State.headEnd (s : State) (p : Nat) : State :=
  let q := s.port p
  match q.head with
  | some n =>
    let s1 := (s.txAll p (feBlock n q.headSent.length)).txContent p false
    s1.setPort p { q with head := none, headSent := [], headFrom := max q.headFrom (n + 1) }
  | none => s

/-- Head transmit begins a frame: FS with HEAD, and the device time in two markers (03 R91). -/
def State.headOpen (s : State) (p : Nat) (f : Frame) : State :=
  let s1 := s.txContent p true
  let s2 := ((s1.txAll p (fsBlock f.num 2)).txAll p (mkBlock 0x20 f.devtime)).txAll p (mkBlock 0x21 (f.devtime / 2 ^ 40))
  s2.setPort p { s2.port p with head := some f.num, headSent := [] }

/-- Lines of the frame that port `p` delivered and the capture unit received, in the order of their reception: a port's lines of a frame
ascend (03 R74; 04 R99). -/
def Frame.receivedBy (f : Frame) (p : Nat) : List Nat :=
  (f.lines.filter (fun e => e.2 == 2 && ((f.stripes.getD p ⟨false, 0, 0, 0⟩).indexOf e.1).isSome)).map Prod.fst

/-- Nothing more comes of the frame from port `p`. -/
def Frame.overFor (f : Frame) (p : Nat) : Bool := f.ended.contains p || !f.isOpen

/-- The oldest frame assembled from ingest port `p` that head transmit is not done with (03 R91). -/
def State.headNext (s : State) (p : Nat) : Option Frame :=
  s.cap.frames.find? (fun f => f.fsPorts.contains p && decide ((s.port p).headFrom ≤ f.num))

/-- Head transmit on a port goes on as far as it can without a line: it ends the frame that its port has ended, once its lines are sent,
and sends the frames that brought no line (03 R91); `n` bounds the frames. -/
def State.headGo (s : State) (p : Nat) : Nat → State
  | 0 => s
  | n + 1 =>
    let q := s.port p
    match q.head with
    | some k =>
      match s.frame k with
      | some f =>
        if f.overFor p && (f.receivedBy p).all (fun y => q.headSent.contains y) then (s.headEnd p).headGo p n else s
      | none => (s.headEnd p).headGo p n
    | none =>
      match s.headNext p with
      | some f => if f.overFor p && (f.receivedBy p).isEmpty then ((s.headOpen p f).headEnd p).headGo p n else s
      | none => s

/-- Head transmit goes on, on every port with TX_SRC = HEAD whose lanes do not train (03 R85, R91). -/
def State.headSweep (s : State) : State :=
  (List.range 32).foldl (fun (t : State) p =>
    if t.get Reg.LANE_PORT_CTL_TX_SRC p != 2 || t.txWaits p then t else t.headGo p (t.cap.frames.length + 1)) s

/-- A line is rejected (04 R99). -/
def State.lineErr (s : State) : State := (s.inc Reg.CAP_LINE_ERR).event Reg.CAP_STATUS_LINE_EV

/-- The port has ended the frame (04 R102): it closes once every enabled port has. -/
def State.capEnd (s : State) (p n : Nat) : State :=
  match s.frame n with
  | none => s
  | some f =>
    let f1 := { f with ended := if f.ended.contains p then f.ended else f.ended ++ [p] }
    let all := (List.range 32).all (fun q => !(f1.stripes.getD q ⟨false, 0, 0, 0⟩).en || f1.ended.contains q)
    let s1 := s.setFrame f1
    (if all then s1.closeFrame n else s1).headSweep

/-- The capture unit takes the port's lines to no frame; `stale` counts each of them (04 R101). -/
def State.noFrame (s : State) (p : Nat) (stale : Bool) : State := s.setPort p { s.port p with frame := none, stale, line := none }

/-- A new frame for the port's lines. -/
def State.toFrame (s : State) (p n : Nat) : State :=
  let s1 := match s.frame n with
    | some f => s.setFrame { f with fsPorts := if f.fsPorts.contains p then f.fsPorts else f.fsPorts ++ [p] }
    | none => s
  s1.setPort p { s1.port p with frame := some n, stale := false, line := none }

/-- An FS block of sequence `seq` passes over older open frames to which the port has delivered none: it is out of them (04 R100). -/
def State.passFrames (s : State) (p seq : Nat) : State :=
  (s.openFrames.filter (fun f => f.missingPorts.contains p && f.seq != seq && seqReached seq f.seq)).foldl
    (fun (t : State) f => t.excludePorts f.num [p]) s

/-- The port delivers an FS block (04 R100, R101).  While the capture unit is STOPPING no frame opens, and the lines that follow
are counted (log 82). -/
def State.capFs (s : State) (p seq : Nat) : State :=
  let st := s.get Reg.CAP_STATUS_STATE
  if (st != 2 && st != 3) || s.capStopped then s.noFrame p false
  else if !s.flag Reg.CAP_STRIPE_MAP_EN p && !(s.openFrames.any (fun f => f.seq == seq)) then s.noFrame p true
  else
    match s.openFrames.find? (fun f => f.seq == seq), s.openFrames.getLast? with
    | some f, _ =>
      if (f.stripes.getD p ⟨false, 0, 0, 0⟩).en then (s.passFrames p seq).toFrame p f.num else s.noFrame p true
    | none, none =>
      if st = 3 then s.noFrame p true
      else let s1 := s.openFrame seq; s1.toFrame p s1.latestNum
    | none, some n =>
      let ahead := (seq + 2 ^ 32 - n.seq) % 2 ^ 32
      if ahead < 2 ^ 31 then
        if st = 3 then s.noFrame p true
        else
          let s0 := s.passFrames p seq
          let s1 := if ahead = 1 then s0 else (s0.add Reg.CAP_SEQ_SKIP (ahead - 1)).event Reg.CAP_STATUS_LINE_EV
          let s2 := (s1.openFrame seq).headSweep
          s2.toFrame p s2.latestNum
      else ((s.inc Reg.CAP_SEQ_ERR).event Reg.CAP_STATUS_LINE_EV).noFrame p true

/-- A line of a frame's port is judged (04 R99) and takes its assembly slots (04 R104): accepted or not. -/
def State.judgeLine (s : State) (f : Frame) (p line samples : Nat) : Bool × State :=
  let e := f.stripes.getD p ⟨false, 0, 0, 0⟩
  let x := lookupD 0 f.expect p
  match e.indexOf line with
  | some j =>
    if j < x then (false, s.lineErr)
    else
      let skipped := (List.range (j - x)).map (fun i => e.line (x + i))
      let good := samples == f.width
      let ls := (skipped ++ (if good && !f.noSlot then [] else [line])).foldl (fun m y => insertKey m y 3) f.lines
      let f1 := { f with expect := insertKey f.expect p (j + 1), lines := if good && !f.noSlot then insertKey ls line 1 else ls }
      let s1 := s.setFrame f1
      if good then
        let (ok, s2) := s1.takeSlots f.num line
        (ok, s2.cutRows f.num)
      else (false, s1.lineErr.cutRows f.num)
  | none => (false, s.lineErr)

/-- The port delivers a line start (04 R99, R104, R123): accepted or not.  A frame that stores no forme is judged and assembled like any
other (04 R98). -/
def State.capLine (s : State) (p line samples : Nat) : Bool × State :=
  let q := s.port p
  if s.capStopped then (false, s)
  else if q.stale then (false, s.lineErr)
  else
    match q.frame with
    | none => (false, s)
    | some n =>
      match (s.countOwed n).frame n with
      | none => (false, s)
      | some f => if !f.isOpen || f.excluded.contains p then (false, s) else (s.countOwed n).judgeLine f p line samples

/-- A packing group of a line is received (03 R72): samples past the line's end are discarded. -/
def State.capGroup (s : State) (p line g : Nat) (bits : BitVec 448) : State :=
  match (s.port p).frame with
  | none => s
  | some n =>
    match s.frame n with
    | none => s
    | some f =>
      if !f.isOpen || f.noSlot || s.capStopped || f.width ≤ 32 * g then s
      else
        let keep := 14 * min 32 (f.width - 32 * g)
        s.setFrame { f with groups := insertKey f.groups (line * 2048 + g) (BitVec.ofNat 448 (bits.toNat % 2 ^ keep)) }

/-! ### Ports (03 R73, R74, R79-R82) -/

/-- The port's frame ends at this block (03 R74, R80, R82). -/
def State.endPortFrame (s : State) (p : Nat) : State :=
  let s1 := s.settleAll p
  let q := s1.port p
  let s2 := (List.range 8).foldl (fun (t : State) k =>
    t.setLane (8 * p + k) { t.lane (8 * p + k) with line := none, accepted := false, group := [], groupBad := false }) s1
  let s3 := s2.setPort p { q with frame := none, stale := false, line := none, delivering := false, fe := [], fs := [] }
  match q.frame with
  | some n => s3.capEnd p n
  | none => s3

/-- Every joined lane has sent its FS of the coming frame: they agree and the port delivers it, or the port delivers no FS block and no
line of that frame and waits for the next (03 R74). -/
def State.fsCheck (s : State) (p : Nat) : State :=
  let q := s.port p
  let js := s.joinedLanes p
  if js.isEmpty || !js.all (fun k => q.fs.any (fun e => e.1 == k)) then s
  else
    let s1 := s.settleAll p
    let q1 := s1.port p
    let seq := lookupD 0 q1.fs (js.headD 0)
    if js.all (fun k => q1.fs.lookup k == some seq) then
      (s1.setPort p { q1 with fs := [], delivering := true, fe := [], line := none }).capFs p seq
    else s1.setPort p { q1 with fs := [], delivering := false, frame := none, stale := false, line := none }

/-- Every joined lane has sent its FE: the port ends the frame (03 R74; 04 R102). -/
def State.feCheck (s : State) (p : Nat) : State :=
  let q := s.port p
  let js := s.joinedLanes p
  if q.delivering && !js.isEmpty && js.all (fun k => q.fe.contains k) then s.endPortFrame p else s

/-- A lane stops delivering (03 R81): its groups are missing; without a delivering lane the port keeps no deskewed slot. -/
def State.laneOut (s : State) (n : Nat) : State :=
  let x := s.lane n
  let p := portOf n
  let s1 := s.setLane n { x with joined := false, rejoining := false, line := none, accepted := false, group := [], groupBad := false }
  if 256 ≤ n || !x.joined then s1
  else
    let s2 := s1.settleLines p
    if (s2.joinedLanes p).isEmpty then
      s2.setPort p { s2.port p with deskewed := false, aligns := [], slot := none, slotSeen := [] }
    else
      (s2.fsCheck p).feCheck p

/-- A receiver goes OFF: the header window is emptied (03 R76, R82, R93). -/
def State.rxOff (s : State) (n : Nat) : State :=
  let x := s.lane n
  let s1 := s.setLane n { x with lockTime := 0, bad := [], sinceLock := 0, group := [], groupBad := false, line := none, accepted := false,
                                 groupsDone := 0, joined := false, rejoining := false, relayOn := false, relayBuf := [],
                                 prbs := 0, prbsBits := 0, descrambler := BitVec.allOnes 58, ctlGap := 0 }
  ((s1.setRx n 0).setFlag Reg.LANE_L_STATUS_HI_BER false (laneReg n)).showTx n

/-- A receiver starts in SEEK, or in the PRBS checker (03 R76, R95). -/
def State.rxOn (s : State) (n : Nat) : State := s.setRx n (if s.flag Reg.LANE_L_CTL_PRBS_RX (laneReg n) then 5 else 1)

/-- The port's lanes start with it: every receiver of the port, whatever its WIDTH (03 R76). -/
def State.portStart (s : State) (p : Nat) : State :=
  let s1 := (List.range 8).foldl (fun (t : State) k => t.rxOn (8 * p + k)) s
  let q := s1.port p
  s1.setPort p { q with delays := [], deskewed := false, aligns := [], slot := none, slotSeen := [], fs := [], fe := [], drained := [] }

/-- The port's drain ends (03 R82): end of frame, IDLE, receivers OFF, or STARTING again when an enable is held. -/
def State.portStopped (s : State) (p : Nat) : State :=
  let s1 := (s.endPortFrame p).unitDrained portUnit p
  let s2 := (List.range 8).foldl (fun (t : State) k => t.rxOff (8 * p + k)) s1
  let s3 := s2.setPort p { s2.port p with deskewed := false, aligns := [], slot := none, slotSeen := [], drained := [] }
  if s3.portState p = 1 then s3.portStart p else s3

/-- A STOPPING port has no lane left in a line (03 R82). -/
def State.portDrainedNow (s : State) (p : Nat) : Bool :=
  (s.joinedLanes p).all (fun k => (s.port p).drained.contains k || (s.lane (8 * p + k)).line.isNone)

def State.drainPort (s : State) (p : Nat) : State :=
  if s.portState p = 3 && s.portDrainedNow p then s.portStopped p else s

/-- A lane of a STOPPING port finishes its line, and stops (03 R82). -/
def State.drainLane (s : State) (n : Nat) : State :=
  let p := portOf n
  if s.portState p != 3 then s
  else
    let s1 := s.setLane n { s.lane n with line := none, accepted := false, group := [], groupBad := false }
    (s1.setPort p { s1.port p with drained := (s1.port p).drained ++ [n % 8] }).drainPort p

/-- A port's enable bit is written (02 R46; 03 R76, R82). -/
def State.portEnable (s : State) (p : Nat) (b : Bool) : State :=
  let st := s.portState p
  let s1 := s.enableWrite portUnit b p
  if st = 0 && b then s1.portStart p
  else if st = 2 && !b then (s1.setPort p { s1.port p with drained := [] }).drainPort p
  else s1

/-- A port reaches RUNNING, or STOPPING when a disable is held (02 R46). -/
def State.portStarted (s : State) (p : Nat) : State := (s.unitStarted portUnit p).drainPort p

/-! ### ALIGN (03 R77, R79-R81) -/

/-- The identity of an ALIGN matches (03 R77). -/
def State.alignMatches (s : State) (n : Nat) (d : Word64) : Bool :=
  if 256 ≤ n then ctLane d == n - 256 && ctPl d
  else !s.flag Reg.LANE_PORT_CTL_ID_CHECK (portOf n) || (ctLane d == n && !ctPl d)

/-- Positions whose ALIGN a deskew waits for: all W lanes in STARTING, none until all are ALIGNED; else those that are ALIGNED
(03 R79, R81). -/
def State.deskewNeeds (s : State) (p : Nat) : List Nat :=
  let al := (List.range (s.rxWidth p)).filter (fun k => s.rxState (8 * p + k) == 4)
  if s.portState p = 1 && al.length < s.rxWidth p then [] else al

/-- An ALIGN for the deskew: with its SEQ on all lanes the skew is measured (03 R79, R81). -/
def State.deskew (s : State) (p k seq slot : Nat) : State :=
  let q := s.port p
  let as := (q.aligns.filter (fun a => !(a.1 == seq && a.2.1 == k)) ++ [(seq, k, slot)])
  let need := s.deskewNeeds p
  let got := as.filter (fun a => a.1 == seq && need.contains a.2.1)
  if need.isEmpty then s
  else if !need.all (fun j => got.any (fun a => a.2.1 == j)) then s.setPort p { q with aligns := as }
  else
    let hi := got.foldl (fun m a => max m a.2.2) 0
    let lo := got.foldl (fun m a => min m a.2.2) hi
    let skew := hi - lo
    if 24 < skew then (s.setPort p { q with aligns := [] }).event Reg.LANE_PORT_STATUS_SKEW_ERR p
    else
      let s0 := s.settleAll p
      let delays := got.map (fun a => (a.2.1, hi - a.2.2))
      let q1 := { s0.port p with aligns := [], deskewed := true, slot := some hi, slotSeen := need, delays := delays, fs := [] }
      let s1 := s0.setPort p { q1 with fe := [], delivering := false, frame := none, stale := false, line := none }
      let s2 := (List.range 8).foldl (fun (t : State) j =>
        t.setLane (8 * p + j) { t.lane (8 * p + j) with joined := need.contains j, rejoining := false, line := none, accepted := false })
        (s1.put Reg.LANE_PORT_STATUS_SKEW skew p)
      if s.portState p = 1 then s2.portStarted p else s2

/-- An ALIGN slip (03 R80): the frame ends; nothing is delivered until the skew is measured again. -/
def State.alignSlip (s : State) (p : Nat) : State :=
  let s1 := ((s.inc Reg.LANE_PORT_STATUS_ALIGN_SLIPS p).event Reg.LANE_PORT_STATUS_ALIGN_SLIP_EV p).endPortFrame p
  s1.setPort p { s1.port p with deskewed := false, aligns := [], slot := none, slotSeen := [] }

/-- The delay with which an ALIGN of a lane that does not deliver, at `slot`, matches the deskewed slot `t` (03 R81): the lane's own, or
for a lane that was never deskewed one of up to 24 blocks. -/
def PortSt.matchDelay (q : PortSt) (k slot t : Nat) : Option Nat :=
  match q.delays.lookup k with
  | some d => if slot + d = t then some d else none
  | none => if slot ≤ t && t ≤ slot + 24 then some (t - slot) else none

/-- A lane has matched an ALIGN within the deskewed slot (03 R81): it rejoins at its next LS. -/
def State.rejoin (s : State) (p k d : Nat) : State :=
  let q := s.port p
  let s1 := s.setLane (8 * p + k) { s.lane (8 * p + k) with rejoining := true }
  s1.setPort p { q with delays := insertKey q.delays k d, aligns := q.aligns.filter (fun a => a.2.1 != k),
                        slotSeen := if q.slotSeen.contains k then q.slotSeen else q.slotSeen ++ [k] }

/-- An ALIGN of a delivering lane opens the deskewed slot `t`: lanes whose ALIGN came there before it match it too (03 R80, R81). -/
def State.openSlot (s : State) (p k t : Nat) : State :=
  let q := s.port p
  q.aligns.foldl (fun (u : State) a =>
    match q.matchDelay a.2.1 a.2.2 t with
    | some d => if (u.lane (8 * p + a.2.1)).joined then u else u.rejoin p a.2.1 d
    | none => u) (s.setPort p { q with slot := some t, slotSeen := [k] })

/-- An ALIGN on a deskewed RUNNING port (03 R80, R81): delivering lanes must hit one slot; another ALIGNED lane that hits it rejoins
at its next LS. -/
def State.slotCheck (s : State) (p k seq slot : Nat) : State :=
  let q := s.port p
  let x := s.lane (8 * p + k)
  if !x.joined then
    let d := match q.slot with | some t => q.matchDelay k slot t | none => none
    match d with
    | some d => s.rejoin p k d
    | none => s.setPort p { q with aligns := q.aligns.filter (fun a => a.2.1 != k) ++ [(seq, k, slot)] }
  else
    let t := slot + lookupD 0 q.delays k
    let full := (s.joinedLanes p).all (fun j => q.slotSeen.contains j)
    match q.slot with
    | none => s.openSlot p k t
    | some u =>
      if t = u && !q.slotSeen.contains k then s.setPort p { q with slotSeen := q.slotSeen ++ [k] }
      else if u < t && full then s.openSlot p k t
      else (s.alignSlip p).deskew p k seq slot

/-- A block of a delivering lane lies past the deskewed slot in which another lane had an ALIGN and this one had none: a slip, at this
block (03 R80). -/
def State.slotMissed (s : State) (n slot : Nat) : Bool :=
  let q := s.port (portOf n)
  decide (n < 256) && s.portState (portOf n) == 2 && q.deskewed && (s.lane n).joined && s.rxState n == 4 &&
    !q.slotSeen.contains (n % 8) &&
    (match q.slot with | some u => decide (u < slot + lookupD 0 q.delays (n % 8)) | none => false)

/-- The slip check of R80 at a received block. -/
def State.slipCheck (s : State) (n slot : Nat) : State := if s.slotMissed n slot then s.alignSlip (portOf n) else s

/-- A control ALIGN arrives (03 R76, R79-R81): the one with which a lane reaches ALIGNED takes part in no deskew and matches no slot. -/
def State.takeAlign (s : State) (n : Nat) (d : Word64) (slot : Nat) : State :=
  let p := portOf n
  if !s.alignMatches n d then
    let s1 := s.event Reg.LANE_L_STATUS_ID_ERR (laneReg n)
    if s.rxState n = 4 then (s1.setRx n 3).laneOut n else s1
  else if s.rxState n = 3 then s.setRx n 4
  else if 256 ≤ n || s.rxWidth p ≤ n % 8 || s.rxState n != 4 then s
  else if s.portState p = 1 || (s.portState p = 2 && !(s.port p).deskewed) then s.deskew p (n % 8) (ctSeq d) slot
  else if s.portState p = 2 then s.slotCheck p (n % 8) (ctSeq d) slot
  else s

/-! ### The relay (03 R87, R88) -/

/-- The lane relays: EGRESS RELAY, no training burst, no PRBS. -/
def State.relays (s : State) (n : Nat) : Bool :=
  decide (n < 256) && s.laneOpen n && s.get Reg.LANE_L_CTL_EGRESS n == 1 && !(s.lane n).inBurst && !s.flag Reg.LANE_L_CTL_PRBS_TX n

/-- Count relay IDLE blocks inserted or deleted (03, `EB_ADJ`). -/
def State.ebAdj (s : State) (n : Nat) (f : Fld) : State := s.inc f n

/-- The relay buffer before a transmit slot: an IDLE block at its head is dropped while more than two blocks above the centre wait
(03 R88). -/
def State.relayDrop (s : State) (n : Nat) : List LineBlock × State :=
  match (s.lane n).relayBuf with
  | h :: r =>
    if s.get Reg.LANE_L_CTL_EB_CENTRE n + 2 < r.length + 1 && h == idleBlock then (r, s.ebAdj n Reg.LANE_L_EB_ADJ_DEL) else (h :: r, s)
  | [] => ([], s)

/-- One transmit slot of a relay lane with buffer `b`: the head is sent, an IDLE block where there is none (03 R88).  DESIGN CHOICE: the
fill is judged once the slot's block has left, and an inserted IDLE block goes to the buffer's tail (log 123). -/
def State.relaySlot (s : State) (n : Nat) (b : List LineBlock) : State :=
  match b with
  | [] => s.sendBlocks n [idleBlock]
  | h :: r =>
    let low := decide (r.length + 2 < s.get Reg.LANE_L_CTL_EB_CENTRE n)
    let s2 := (s.setLane n { s.lane n with relayBuf := if low then r ++ [idleBlock] else r }).sendBlocks n [h]
    if low then s2.ebAdj n Reg.LANE_L_EB_ADJ_INS else s2

/-- Transmit slots of a relay lane: each takes the buffer's head (03 R88). -/
def State.relaySlots (s : State) (n : Nat) : Nat → State
  | 0 => s
  | m + 1 => ((s.relayDrop n).2.relaySlot n (s.relayDrop n).1).relaySlots n m

/-- Drop the oldest block that is not IDLE. -/
def dropOldest : List LineBlock → List LineBlock
  | [] => []
  | b :: r => if b == idleBlock then b :: dropOldest r else r

/-- A block enters the relay buffer, filled to its centre when relaying begins (03 R88). -/
def State.relayPush (s : State) (n : Nat) (b : LineBlock) : State :=
  let c := s.get Reg.LANE_L_CTL_EB_CENTRE n
  let x := s.lane n
  let buf := (if x.relayBuf.isEmpty then List.replicate c idleBlock else x.relayBuf) ++ [b]
  if c + 4 ≤ buf.length then
    ((s.setLane n { x with relayBuf := dropOldest buf }).inc Reg.LANE_L_EB_SLIPS n).event Reg.LANE_L_STATUS_EB_SLIP n
  else s.setLane n { x with relayBuf := buf }

/-- The relay path sees a received block (03 R87): ALIGN always, everything else but IDLE and TRAIN from the first FS on; an invalid
header goes on as 0, 0. -/
def State.relayBlock (s : State) (n : Nat) (h0 h1 : Bool) (d : Word64) : State :=
  if !s.relays n || s.rxState n < 3 then s
  else
    let ctl := h0 && !h1
    let x := s.lane n
    if ctl && isCt 2 d then s.relayPush n ⟨h0, h1, d⟩
    else if ctl && (blkType d == 0x1E || isCt 1 d) then s
    else if ctl && blkType d == 0x33 then ((s.setLane n { x with relayOn := true }).showTx n).relayPush n ⟨h0, h1, d⟩
    else if !x.relayOn then s
    else s.relayPush n (if h0 == h1 then badBlock d else ⟨h0, h1, d⟩)

/-! ### Receiving a block (03 R75, R76, R93, R95) -/

/-- The PRBS31 sequence x^31 + x^28 + 1: the next bit and the last 31 bits, newest in bit 0 (03 R95). -/
def prbsNext (h : BitVec 31) : Bool × BitVec 31 :=
  let b := h.getLsbD 27 != h.getLsbD 30
  (b, (h <<< 1) ||| (if b then 1 else 0))

/-- `m` bits of the sequence after the last 31 bits `h`, in the order of their sending, and the last 31 bits then (03 R95). -/
def prbsRun : BitVec 31 → Nat → List Bool × BitVec 31
  | h, 0 => ([], h)
  | h, m + 1 =>
    let r := prbsNext h
    let y := prbsRun r.2 m
    (r.1 :: y.1, y.2)

/-- A lane with PRBS_TX set sends `m` block times of the raw sequence, all 66 bits of each (03 R95). -/
def State.prbsSlots (s : State) (n : Nat) : Nat → State
  | 0 => s
  | m + 1 =>
    let r := prbsRun (s.lane n).prbsGen 66
    ((s.setLane n { s.lane n with prbsGen := r.2 }).emit (.prbs n r.1)).prbsSlots n m

/-- The lane sends PRBS31 (03 R95; 02 R37, R49). -/
def State.sendsPrbs (s : State) (n : Nat) : Bool := s.laneOpen n && s.flag Reg.LANE_L_CTL_PRBS_TX (laneReg n)

/-- The checker takes one bit: the first 31 seed its reference. -/
def State.prbsBit (s : State) (n : Nat) (b : Bool) : State :=
  let x := s.lane n
  let i := laneReg n
  if x.prbsBits < 31 then s.setLane n { x with prbs := (x.prbs <<< 1) ||| (if b then 1 else 0), prbsBits := x.prbsBits + 1 }
  else
    let (e, h) := prbsNext x.prbs
    let s1 := (s.setLane n { x with prbs := h }).add64 Reg.LANE_L_PRBS_BITS 1 i
    if e == b then s1 else s1.inc Reg.LANE_L_PRBS_ERR i

/-- The 66 line bits of a block (03 R67). -/
def lineBits (h0 h1 : Bool) (p : Word64) : List Bool := h0 :: h1 :: (List.range 64).map p.getLsbD

/-- The descrambled payload that a block would give. -/
def State.peek (s : State) (n : Nat) (p : Word64) : Word64 := (descramble (s.lane n).descrambler p).1

/-- The block reaches the lane's content path: block lock, the descrambler primed by an earlier block (03 R76; log 81), and not
dropped by the elastic stage. -/
def State.rxLive (s : State) (n : Nat) (i : RxInfo) : Bool :=
  decide (2 ≤ s.rxState n) && decide (s.rxState n ≤ 4) && decide (0 < (s.lane n).sinceLock) && i.elastic != .dropped

/-- What every received block does: transmit slots of the relay or of the PRBS generator, descrambler, counters, PRBS checking, the slip
check of the port (03 R68, R80, R88, R95). -/
def State.rxCommon (s0 : State) (n : Nat) (h0 h1 : Bool) (p : Word64) (i : RxInfo) : State :=
  let s := if s0.sendsPrbs n then s0.prbsSlots n i.txSlots else s0
  let st := s.rxState n
  let ix := laneReg n
  if st = 0 then s
  else if st = 5 then (lineBits h0 h1 p).foldl (fun (t : State) b => t.prbsBit n b) s
  else
    let s0 := if s.relays n && decide (3 ≤ st) then s.relaySlots n i.txSlots else s
    let x := s0.lane n
    let x1 := { x with descrambler := (descramble x.descrambler p).2, ctlGap := x.ctlGap + 1 }
    if st = 1 then s0.setLane n x1
    else
      let s1 := (s0.setLane n { x1 with lockTime := x.lockTime + 1, sinceLock := x.sinceLock + 1 }).add64 Reg.LANE_L_BLOCKS 1 ix
      let s2 := if i.elastic = .dropped then s1.inc Reg.LANE_L_EB_SLIPS ix else s1
      s2.slipCheck n i.slot

/-- A control block passes or fails R69; a good one takes a LOCKED receiver to SYNCED (03 R76) and reports a pairing lane up. -/
def State.takeControl (s : State) (n : Nat) (d : Word64) : State :=
  if !ctlOk d then s.inc Reg.LANE_L_ERR_CTL (laneReg n)
  else
    let s0 := s.setLane n { s.lane n with ctlGap := 0 }
    let s1 := if s0.rxState n = 2 then s0.setRx n 3 else s0
    if 256 ≤ n then { s1 with pair := { s1.pair with down := s1.pair.down.filter (· != n - 256) } } else s1

/-- A receive row: it acts on a block of its own kind (`mine`); a block that reaches no content path only counts. -/
def State.rxRow (s : State) (n : Nat) (h0 h1 : Bool) (p : Word64) (i : RxInfo) (mine : Word64 → Bool)
    (act : State → Word64 → State) : Result :=
  let d := s.peek n p
  if !s.rxLive n i then .next (s.rxCommon n h0 h1 p i)
  else if !mine d then .next s
  else .next (act (s.rxCommon n h0 h1 p i) d)

/-- A control block: checked, relayed, and, when good, its effect. -/
def State.rxControl (s : State) (n : Nat) (d : Word64) (good : State → State) : State :=
  let s1 := (s.takeControl n d).relayBlock n true false d
  if ctlOk d then good s1 else s1

/-- The lane delivers to its port: joined, the port deskewed (03 R80), RUNNING or STOPPING. -/
def State.delivers (s : State) (n : Nat) : Bool :=
  decide (n < 256) && (s.lane n).joined && (s.port (portOf n)).deskewed &&
    (s.portState (portOf n) == 2 || s.portState (portOf n) == 3)

/-- RX_BLOCK_LOCK (03 R76): adaptation over and 64 valid headers seen. -/
def execRxBlockLock (l : LaneIx) (s : State) : Result :=
  if s.rxState l.val = 1 then
    .next ((s.setRx l.val 2).setLane l.val { s.lane l.val with sinceLock := 0, group := [], groupBad := false })
  else .next s

/-- RECEIVE_IDLE (03 R71, R76). -/
def execReceiveIdle (l : LaneIx) (payload : Word64) (i : RxInfo) (s : State) : Result :=
  s.rxRow l.val true false payload i (fun d => blkType d == 0x1E) fun s d => s.rxControl l.val d fun t => t

/-- RECEIVE_ALIGN (03 R76-R81).  DESIGN CHOICE: an ALIGN received in LOCKED counts twice, as the control block that takes the receiver to
SYNCED and as the ALIGN that takes it on to ALIGNED or sets ID_ERR (log 124). -/
def execReceiveAlign (l : LaneIx) (payload : Word64) (i : RxInfo) (s : State) : Result :=
  s.rxRow l.val true false payload i (isCt 2) fun s d => s.rxControl l.val d fun t => t.takeAlign l.val d i.slot

/-- An FS block on a delivering lane (03 R74).  A lane that sends its next FS before the other lanes have sent theirs begins the next
frame: what carries the old sequence goes. -/
def State.portFs (s : State) (n seq : Nat) : State :=
  let p := portOf n
  let k := n % 8
  let q := s.port p
  let fs := match q.fs.lookup k with
    | some old => q.fs.filter (fun (e : Nat × Nat) => e.2 != old)
    | none => q.fs
  let s1 := s.setLane n { s.lane n with line := none, accepted := false, group := [], groupBad := false }
  (s1.setPort p { s1.port p with fs := insertKey fs k seq }).fsCheck p

/-- RECEIVE_FS (03 R74; 04 R100, R101). -/
def execReceiveFs (l : LaneIx) (payload : Word64) (i : RxInfo) (s : State) : Result :=
  s.rxRow l.val true false payload i (fun d => blkType d == 0x33) fun s d =>
    s.rxControl l.val d fun t =>
      if !t.delivers l.val then t
      else if t.portState (portOf l.val) = 3 then t.drainLane l.val
      else t.portFs l.val (frameSeqOf d)

/-- An LS block on a delivering lane (03 R74; 04 R99). -/
def State.portLs (s : State) (n line samples : Nat) : State :=
  let p := portOf n
  let q := s.port p
  let start := fun (t : State) (acc : Bool) =>
    (t.setLane n { t.lane n with line := some line, accepted := acc, group := [], groupBad := false, groupsDone := 0 }).settleLines p
  if q.fs.any (fun e => e.1 == n % 8) || !q.delivering then s
  else
    match q.line with
    | some (y, acc) =>
      if y = line then start s acc
      else
        let (a, s1) := s.capLine p line samples
        start (s1.setPort p { s1.port p with line := some (line, a) }) a
    | none =>
      let (a, s1) := s.capLine p line samples
      start (s1.setPort p { s1.port p with line := some (line, a) }) a

/-- RECEIVE_LS (03 R74, R81; 04 R99). -/
def execReceiveLs (l : LaneIx) (payload : Word64) (i : RxInfo) (s : State) : Result :=
  s.rxRow l.val true false payload i (fun d => blkType d == 0x4B) fun s d =>
    s.rxControl l.val d fun t0 =>
      let x := t0.lane l.val
      let t := if x.rejoining && (t0.port (portOf l.val)).deskewed then t0.setLane l.val { x with rejoining := false, joined := true } else t0
      if !t.delivers l.val then t
      else if t.portState (portOf l.val) = 3 then t.drainLane l.val
      else t.portLs l.val (lineOf d) (samplesOf d)

/-- A data block, or a block with an invalid header in its place, on a delivering lane (03 R72, R74). -/
def State.portData (s : State) (n : Nat) (d : Word64) (bad : Bool) : State :=
  let p := portOf n
  let x := s.lane n
  match x.line with
  | none => s
  | some y =>
    let g := x.group ++ [d]
    let b := x.groupBad || bad
    if g.length < 7 then s.setLane n { x with group := g, groupBad := b }
    else
      let bits := g.zipIdx.foldl (fun (m : BitVec 448) e => m ||| ((e.1.zeroExtend 448 : BitVec 448) <<< (64 * e.2 : Nat))) 0
      let s1 := s.setLane n { x with group := [], groupBad := false, groupsDone := x.groupsDone + 1 }
      let s2 := if b || !x.accepted then s1 else s1.capGroup p y (n % 8 + s.rxWidth p * x.groupsDone) bits
      s2.settleLines p

/-- A pairing lane's reception of an epoch. -/
def State.epochRx (s : State) (k : Nat) : EpochRx := (s.pair.rx.lookup k).getD {}
def State.setEpochRx (s : State) (k : Nat) (x : EpochRx) : State :=
  { s with pair := { s.pair with rx := insertKey s.pair.rx k x } }

/-- A data block of an epoch arrives on a pairing lane (07 R188). -/
def State.pairData (s : State) (n : Nat) (d : Word64) : State :=
  let x := s.epochRx (n - 256)
  if x.begun.isSome && decide (3 ≤ s.rxState n) then s.setEpochRx (n - 256) { x with blocks := x.blocks ++ [d] } else s

/-- RECEIVE_DATA_BLOCK (03 R72, R73; 07 R188). -/
def execReceiveDataBlock (l : LaneIx) (payload : Word64) (i : RxInfo) (s : State) : Result :=
  s.rxRow l.val false true payload i (fun _ => true) fun s d =>
    let t := s.relayBlock l.val false true d
    if 256 ≤ l.val then t.pairData l.val d
    else if t.delivers l.val then t.portData l.val d false else t

/-- RECEIVE_FE (03 R74; 04 R102). -/
def execReceiveFe (l : LaneIx) (payload : Word64) (i : RxInfo) (s : State) : Result :=
  s.rxRow l.val true false payload i (fun d => blkType d == 0x55) fun s d =>
    s.rxControl l.val d fun t =>
      let p := portOf l.val
      if !t.delivers l.val then t
      else if t.portState p = 3 then t.drainLane l.val
      else if !(t.port p).delivering then t
      else
        let t1 := t.setLane l.val { t.lane l.val with line := none, accepted := false, group := [], groupBad := false }
        ((t1.setPort p { t1.port p with fe := (t1.port p).fe ++ [l.val % 8] }).settleLines p).feCheck p

/-- RECEIVE_MK (03 R69): a marker, and any control block that no other row receives: one outside the table is counted and
discarded. -/
def execReceiveMk (l : LaneIx) (payload : Word64) (i : RxInfo) (s : State) : Result :=
  s.rxRow l.val true false payload i
    (fun d => !(blkType d == 0x1E || blkType d == 0x33 || blkType d == 0x4B || blkType d == 0x55 || isCt 1 d || isCt 2 d))
    fun s d => s.rxControl l.val d fun t => t

/-- RECEIVE_TRAIN (03 R85, R87). -/
def execReceiveTrain (l : LaneIx) (payload : Word64) (i : RxInfo) (s : State) : Result :=
  s.rxRow l.val true false payload i (isCt 1) fun s d => s.rxControl l.val d fun t => t

/-- A receiver falls back to SEEK (03 R76, R87): its lane leaves the port, relay waits for the next FS. -/
def State.lockLoss (s : State) (n : Nat) : State :=
  let s1 := ((s.setRx n 1).inc Reg.LANE_L_LOCK_LOSS (laneReg n)).event Reg.LANE_L_STATUS_LOCK_LOSS_EV (laneReg n)
  ((s1.setLane n { s1.lane n with relayOn := false, relayBuf := [] }).laneOut n).showTx n

/-- An invalid sync header counts (03 R76, R93): the header window, HI_BER, and 16 within 64 blocks since lock. -/
def State.badHeader (s : State) (n : Nat) : State :=
  let i := laneReg n
  let x := s.lane n
  let bad := (x.lockTime :: x.bad).take 16
  let oldest := bad.getLastD 0
  let full := decide (16 ≤ bad.length)
  let s1 := (s.setLane n { x with bad }).inc Reg.LANE_L_ERR_SH i
  let s2 := if full && decide (x.lockTime < oldest + 50000) && !s1.flag Reg.LANE_L_STATUS_HI_BER i then
      (s1.setFlag Reg.LANE_L_STATUS_HI_BER true i).event Reg.LANE_L_STATUS_HI_BER_EV i
    else s1
  if full && decide (x.lockTime < oldest + 64) && decide (x.lockTime < oldest + x.sinceLock) then s2.lockLoss n else s2

/-- RECEIVE_INVALID_SYNC_HEADER (03 R67, R74, R76, R87, R93): header bits 0, 0 or, with `ones`, 1, 1. -/
def execReceiveInvalidSyncHeader (l : LaneIx) (ones : Bool) (payload : Word64) (i : RxInfo) (s : State) : Result :=
  let n := l.val
  let st := s.rxState n
  let d := s.peek n payload
  let live := s.rxLive n i
  let s1 := s.rxCommon n ones ones payload i
  if st < 2 || 4 < st then .next s1
  else if !live then .next (s1.badHeader n)
  else
    let s2 := s1.relayBlock n ones ones d
    .next ((if s2.delivers n then s2.portData n d true else s2).badHeader n)

/-- HI_BER_CLEAR (03 R93): fewer than 16 invalid headers in the latest 50,000 block times with lock. -/
def execHiBerClear (l : LaneIx) (s : State) : Result :=
  let x := s.lane l.val
  if decide (16 ≤ x.bad.length) && decide (x.lockTime < x.bad.getLastD 0 + 50000) then .next s
  else .next (s.setFlag Reg.LANE_L_STATUS_HI_BER false (laneReg l.val))

/-- FRAME_TIMEOUT (04 R102). -/
def execFrameTimeout (frame : Nat) (s : State) : Result :=
  match s.frame frame with
  | none => .next s
  | some f =>
    if !f.isOpen || s.now < f.devtime + f.timeout * 16000 then .next s else .next (s.closeFrame frame).headSweep

/-- LANE_DRAIN_TIMEOUT (03 R82): the lane stops after 100 us. -/
def execLaneDrainTimeout (l : LaneIx) (s : State) : Result :=
  if decide (l.val < 256) && s.portState (portOf l.val) == 3 then .next (s.drainLane l.val) else .next s

end Sys2Proof.Machine
end

