-- ==== Sys2Proof/Machine/Tx.lean ====
section
/-!
DEFINITION. Lane transmitters and the LANE registers (03 R83-R86, R91, R94, R95).
-/
namespace Sys2Proof.Machine

/-- A field of a word is about to change. -/
def changes (v w : Word) (f : Fld) : Bool := bitsOf v f.hi f.lo != bitsOf w f.hi f.lo

/-- LANE_PORT_CTL_WRITE (03 R83, R91; 00 R12, R533): WIDTH and ID_CHECK only while IDLE, HEAD only in role HEAD and with TX_WIDTH
of at least WIDTH; EN by the common rules. -/
def execLanePortCtlWrite (p : PortIx) (v : Word) (s : State) : Result :=
  let base := Reg.LANE_PORT_CTL_EN.base + Reg.LANE_PORT_CTL_EN.stride * p.val
  let w := s.rd base
  let busy := s.portState p.val != 0
  let rejW := busy && (changes v w Reg.LANE_PORT_CTL_WIDTH || changes v w Reg.LANE_PORT_CTL_ID_CHECK)
  if !s.awake || !s.hasUnit (.port p) then .next s else
  let put := fun (t : State) (f : Fld) => t.put f (bitsOf v f.hi f.lo) p.val
  let s1 := if busy then s else put (put s Reg.LANE_PORT_CTL_WIDTH) Reg.LANE_PORT_CTL_ID_CHECK
  let s2 := put s1 Reg.LANE_PORT_CTL_TX_WIDTH
  let src := bitsOf v Reg.LANE_PORT_CTL_TX_SRC.hi Reg.LANE_PORT_CTL_TX_SRC.lo
  let old := s.get Reg.LANE_PORT_CTL_TX_SRC p.val
  let headOk := s2.get Reg.TOP_MODE_ROLE == 1 && decide (s2.get Reg.LANE_PORT_CTL_WIDTH p.val ≤ s2.get Reg.LANE_PORT_CTL_TX_WIDTH p.val)
  let rejS := src == 2 && old != 2 && !headOk
  let s3 := if src = 3 || rejS then s2 else put s2 Reg.LANE_PORT_CTL_TX_SRC
  let s4 := if old == 2 && src != 2 && src != 3 then s3.headEnd p.val
    else if old != 2 && src == 2 && !rejS then s3.setPort p.val { s3.port p.val with headFrom := s3.latestNum + 1 } else s3
  let s5 := if rejW || rejS then s4.event Reg.LANE_PORT_STATUS_CFG_REJ p.val else s4
  .next (s5.portEnable p.val (v.getLsbD 0))

/-- A training burst is sent (03 R85), from which on a relay waits for its next FS block (03 R87).  A lane that sends PRBS31 replaces it
(03 R95).  DESIGN CHOICE: RETRAIN during a burst sends the whole burst again after it (log 125). -/
def State.trainStart (s : State) (n : Nat) : State :=
  let x := s.lane n
  if !s.laneOpen n || s.flag Reg.LANE_L_CTL_PRBS_TX (laneReg n) then s
  else
    let s1 := s.setLane n { x with inBurst := true, bursts := (x.bursts + 1) % 65536, relayOn := false, relayBuf := [] }
    (s1.sendBlocks n (burstBlocks n x.bursts (s.get Reg.LANE_TX_CFG_TRAIN_LEN * 1024))).showTx n

/-- Relay on a lane ends: it sends IDLE blocks. -/
def State.relayEnd (s : State) (n : Nat) : State :=
  (s.setLane n { s.lane n with relayOn := false, relayBuf := [] }).showTx n

/-- All counters of a lane (03 R94). -/
def State.laneCntClr (s : State) (n : Nat) : State :=
  s.zeroRow Reg.LANE_L_BLOCKS (laneReg n) 10

/-- PRBS_RX changes (03 R95): the receiver leaves its port for the checker, or goes back to SEEK. -/
def State.prbsRx (s : State) (n : Nat) (on : Bool) : State :=
  let s1 := s.setFlag Reg.LANE_L_CTL_PRBS_RX on (laneReg n)
  let st := s.rxState n
  if on && st != 0 && st != 5 then
    let s2 := (s1.setRx n 5).laneOut n
    (s2.setLane n { s2.lane n with prbs := 0, prbsBits := 0, relayOn := false, relayBuf := [] }).showTx n
  else if !on && st == 5 then s1.setRx n 1
  else s1

/-- PRBS_TX changes (03 R95): relay on the lane ends, the generator starts.  The spec gives no starting state: a free value (log 126). -/
def State.prbsTx (s : State) (n : Nat) (on : Bool) : State :=
  let s1 := (s.setFlag Reg.LANE_L_CTL_PRBS_TX on (laneReg n)).relayEnd n
  if !on then s1.setLane n { s1.lane n with prbsGen := 0 }
  else
    let (v, s2) := s1.free
    let s3 := s2.setLane n { s2.lane n with prbsGen := v.truncate 31 }
    if s3.sendsPrbs n then s3.prbsSlots n 1 else s3

/-- EGRESS changes (03 R84, R85): leaving IDLE starts a burst, any other change takes effect at the next block. -/
def State.egress (s : State) (n v : Nat) : State :=
  let old := s.get Reg.LANE_L_CTL_EGRESS n
  if v = 3 || v = old || 256 ≤ n then s
  else
    let s1 := (s.put Reg.LANE_L_CTL_EGRESS v n).relayEnd n
    if old = 0 then s1.trainStart n
    else if v = 0 then (s1.setLane n { s1.lane n with inBurst := false }).showTx n
    else s1

/-- A lane's registers answer: the device runs and has the lane (00 R5). -/
def State.laneThere (s : State) (n : Nat) : Bool := s.awake && (decide (256 ≤ n) || decide (n < s.part.lanes))

/-- LANE_EGRESS_CHANGE (03 R83-R85, R94, R95): a write of `LANE[n].CTL`.  A write that starts a burst by its EGRESS starts no second one by
RETRAIN (log 125). -/
def execLaneEgressChange (l : LaneIx) (v : Word) (s : State) : Result :=
  let n := l.val
  let i := laneReg n
  if !s.laneThere n then .next s else
  let w := s.rd (Reg.LANE_L_CTL_EGRESS.base + Reg.LANE_L_CTL_EGRESS.stride * i)
  let rej := decide (n < 256) && s.portState (portOf n) != 0 && changes v w Reg.LANE_L_CTL_RX_POL
  let s1 := s.put Reg.LANE_L_CTL_TX_POL (bitsOf v 13 13) i
  let s2 := if rej then s1.event Reg.LANE_PORT_STATUS_CFG_REJ (portOf n) else s1.put Reg.LANE_L_CTL_RX_POL (bitsOf v 12 12) i
  let c := bitsOf v 7 2
  let s3 := if 8 ≤ c && c ≤ 32 then s2.put Reg.LANE_L_CTL_EB_CENTRE c i else s2
  let s4 := if changes v w Reg.LANE_L_CTL_PRBS_RX then s3.prbsRx n (v.getLsbD 9) else s3
  let s5 := if changes v w Reg.LANE_L_CTL_PRBS_TX then s4.prbsTx n (v.getLsbD 8) else s4
  let s6 := s5.egress n (bitsOf v 1 0)
  let begun := (s6.lane n).bursts != (s5.lane n).bursts
  let s7 := if v.getLsbD 14 && !begun then s6.trainStart n else s6
  .next (if v.getLsbD 15 then s7.laneCntClr n else s7)

/-- LANE_RETRAIN (03 R85). -/
def execLaneRetrain (l : LaneIx) (s : State) : Result := if s.laneThere l.val then .next (s.trainStart l.val) else .next s

/-- TRAINING_BURST_END (03 R85): content may begin. -/
def execTrainingBurstEnd (l : LaneIx) (s : State) : Result :=
  let x := s.lane l.val
  if x.inBurst then .next ((s.setLane l.val { x with inBurst := false }).showTx l.val).headSweep else .next s

/-- LANE_CNT_CLR (03 R94). -/
def execLaneCntClr (l : LaneIx) (s : State) : Result := if s.laneThere l.val then .next (s.laneCntClr l.val) else .next s

/-- PRBS_TX_ENABLE (03 R95). -/
def execPrbsTxEnable (l : LaneIx) (s : State) : Result := if s.laneThere l.val then .next (s.prbsTx l.val true) else .next s

/-- PRBS_RX_ENABLE (03 R95). -/
def execPrbsRxEnable (l : LaneIx) (s : State) : Result := if s.laneThere l.val then .next (s.prbsRx l.val true) else .next s

/-- Lanes whose ALIGN blocks share their slots and SEQ: those of a port, and here the two pairing lanes as port 32 (03 R86, R96). -/
def alignLanes (p : Nat) : List Nat := if p < 32 then (List.range 8).map (8 * p + ·) else [256, 257]

/-- The lane sends ALIGN blocks of its own: no relay, training burst or PRBS (03 R85, R86, R95). -/
def State.sendsAlign (s : State) (n : Nat) : Bool :=
  s.laneOpen n && s.get Reg.LANE_L_CTL_EGRESS (laneReg n) != 1 && !(s.lane n).inBurst && !s.flag Reg.LANE_L_CTL_PRBS_TX (laneReg n)

/-- TRANSMIT_ALIGN (03 R86, R96): every lane of the port, or both pairing lanes (32), that sends ALIGN blocks sends one in this slot. -/
def execTransmitAlign (p : Fin 33) (s : State) : Result :=
  let q := s.port p.val
  let s1 := ((alignLanes p.val).filter (fun n => s.sendsAlign n)).foldl
    (fun (t : State) n => t.sendBlocks n [laneCt 0x02 n q.alignSeq]) s
  .next (s1.setPort p.val { s1.port p.val with alignSeq := (q.alignSeq + 1) % 65536 })

/-- The seven blocks of a packing group (03 R72); a missing group has header bits 0, 0 (03 R91). -/
def groupBlocks (g : Option (BitVec 448)) : List LineBlock :=
  match g with
  | some b => (List.range 7).map (fun j => dataBlock ((b >>> (64 * j)).truncate 64))
  | none => List.replicate 7 (badBlock 0)

/-- Send a line of a frame on a port (03 R73, R91). -/
def State.headLine (s : State) (p : Nat) (f : Frame) (line : Nat) : State :=
  let w := s.txWidth p
  let s1 := s.txAll p (lsBlock line f.width f.num)
  (List.range ((f.width + 31) / 32)).foldl (fun (t : State) g =>
    (groupBlocks (f.groups.lookup (line * 2048 + g))).foldl (fun (u : State) b => u.txSend p (g % w) b) t) s1

/-- The line that head transmit on a port sends next (03 R91): the first received one not yet sent, of the frame that it sends or else of
the oldest frame that it is not done with. -/
def State.headLineNext (s : State) (p : Nat) : Option (Frame × Nat) :=
  let q := s.port p
  let f := match q.head with | some n => s.frame n | none => s.headNext p
  match f with
  | some f =>
    match (f.receivedBy p).find? (fun y => !(q.head == some f.num && q.headSent.contains y)) with
    | some y => some (f, y)
    | none => none
  | none => none

/-- HEAD_TRANSMIT_LINE (03 R91): lines leave in the order in which they were received, frame after frame. -/
def execHeadTransmitLine (p : PortIx) (frame line : Nat) (s : State) : Result :=
  match s.headLineNext p.val with
  | none => .next s
  | some (f, y) =>
    if s.get Reg.LANE_PORT_CTL_TX_SRC p.val != 2 || f.num != frame || y != line || s.txWaits p.val then .next s
    else
      let s1 := if (s.port p.val).head == some frame then s else s.headOpen p.val f
      let s2 := s1.headLine p.val f line
      let q2 := s2.port p.val
      .next (s2.setPort p.val { q2 with headSent := q2.headSent ++ [line] }).headSweep

end Sys2Proof.Machine
end

