-- ==== Sys2Proof/Machine/Pair.lean ====
section
/-!
DEFINITION. Active and standby pairs (07): the claim, epochs, what a standby applies, takeover.  Roles: 0 NONE, 1 ACTIVE, 2 STANDBY,
3 ISOLATED, 4 TAKEOVER, 5 CONTENDED.
-/
namespace Sys2Proof.Machine

/-- Enable, state and held fields of the pairing unit (07 R184). -/
def pairUnit : UnitFlds := ⟨Reg.PAIR_CTL_EN, Reg.PAIR_STATUS_STATE, Reg.PAIR_STATUS_HELD⟩

def State.pairState (s : State) : Nat := s.get Reg.PAIR_STATUS_STATE
def State.pairRole (s : State) : Nat := s.get Reg.PAIR_STATUS_ROLE
def State.setRole (s : State) (r : Nat) : State := s.put Reg.PAIR_STATUS_ROLE r

/-- Both pairing lanes are reported down (03 R97). -/
def State.lanesDown (s : State) : Bool := s.pair.down.contains 0 && s.pair.down.contains 1

/-! ### Sending (07 R188, R191) -/

/-- A block leaves on a pairing lane, unless it sends PRBS31, a training burst, or nothing but IDLE blocks (03 R85, R95;
02 R37, R49). -/
def State.pairSend (s : State) (k : Nat) (b : LineBlock) : State :=
  let n := 256 + k
  if s.flag Reg.LANE_L_CTL_PRBS_TX (laneReg n) || (s.lane n).inBurst || !s.laneOpen n then s
  else s.sendBlocks n [b]

/-- PAIR_HEARTBEAT_SEND (03 R96; 07 R191, R197): SEQ is the last sent epoch on the active, the last committed one on a standby.  DESIGN
CHOICE: an ISOLATED or TAKEOVER member sends the role code of a STANDBY, 2 (log 128). -/
def execPairHeartbeatSend (k : Fin 2) (s : State) : Result :=
  let sync := if s.flag Reg.PAIR_STATUS_SYNC then 4 else 0
  let hb := fun (role seq : Nat) => Host.Outcome.next (s.pairSend k.val (ctBlock 0x10 k.val true seq (role + sync)))
  match s.pairRole with
  | 1 => hb (if s.pair.leaving then 3 else 1) (s.get Reg.PAIR_EPOCH_SENT)
  | 2 | 3 | 4 => hb 2 (s.get Reg.PAIR_EPOCH_COMMIT)
  | _ => .next s

/-- Mirrored registers, 90 of them (07 R189): GEOM, FRAME_CFG, STRIPE, TRIG.CFG, SEG.CFG. -/
def mirroredRegs : List Nat :=
  [0x300010, 0x300014] ++ (List.range 64).map (fun i => 0x300100 + 4 * i) ++ (List.range 8).map (fun i => 0x300200 + 16 * i) ++
    (List.range 16).map (fun i => 0x300300 + 16 * i)

/-- Records of a RESYNC epoch (07 R191): CONFIG first, so that the standby can apply the takes (log 84). -/
def State.resyncRecords (s : State) : List (List Byte) :=
  mirroredRegs.map (fun a => configRecord a (s.rd a)) ++ (List.range 16).map s.segRecord

/-- Blocks of an epoch on pairing lane `k` (07 R188). -/
def epochBlocks (k e : Nat) (resync : Bool) (recs : List (List Byte)) : List LineBlock :=
  let n := recs.length
  let param := n + (if resync then 128 else 0)
  let bytes := recs.flatten
  [ctBlock 0x11 k true e param] ++ (wordsOf (4 * n) bytes).map dataBlock ++
    [dataBlock (BitVec.ofNat 64 (crc32 bytes + e * 2 ^ 32))] ++ [ctBlock 0x12 k true e param]

/-- EPOCH_SEND (07 R188, R191): a RESYNC epoch replaces the records that wait.  A unit that leaves the pair sends no further epoch (R197).
DESIGN CHOICE: RESYNCS counts the RESYNC epochs sent here, and on a standby those committed (log 129). -/
def execEpochSend (s : State) : Result :=
  if s.pairRole != 1 || s.pairState != 2 || (s.pair.records.isEmpty && !s.pair.resync) then .next s
  else
    let resync := s.pair.resync
    let recs := if resync then s.resyncRecords else s.pair.records.take 127
    let rest := if resync then [] else s.pair.records.drop 127
    let e := s.get Reg.PAIR_EPOCH_SENT + 1
    let s1 := [0, 1].foldl (fun (t : State) k => (epochBlocks k e resync recs).foldl (fun (u : State) b => u.pairSend k b) t) s
    let s2 := { s1 with pair := { s1.pair with records := rest, resync := false } }
    .next ((if resync then s2.inc Reg.PAIR_RESYNCS else s2).put Reg.PAIR_EPOCH_SENT e)

/-- EPOCH_ACK_TIMEOUT (07 R191): the next epoch is a RESYNC epoch. -/
def execEpochAckTimeout (s : State) : Result :=
  if s.pairRole = 1 && decide (s.get Reg.PAIR_EPOCH_COMMIT + 4 < s.get Reg.PAIR_EPOCH_SENT) then
    .next { s with pair := { s.pair with resync := true } }
  else .next s

/-! ### What a standby applies (07 R192, R193) -/

/-- A record could not be applied (07 R193). -/
def State.applyErr (s : State) : State := (s.inc Reg.PAIR_APPLY_ERR).event Reg.PAIR_STATUS_APPLY_ERR_EV

/-- A decision names a frame that has opened already (07 R193). -/
def State.lateFor (s : State) (q : Nat) : State :=
  match s.cap.lastSeq with
  | some l => if seqReached l q then s.inc Reg.PAIR_LATE_APPLY else s
  | none => s

/-- Take parameters of a SEGSTATE record (07 R189). -/
def recordParams (r : List Byte) : TakeParams :=
  let w := fieldAt r 6 2
  { start := w % 2, trigLogic := w / 2 % 2, basis := w / 4 % 2, full := w / 8 % 2, codeMode := w / 16 % 4, bound := w / 64 % 16,
    trigSel := fieldAt r 8 1, preFrac := fieldAt r 9 1, post := fieldAt r 0x0C 4 }

/-- The trigger frame of the active (07 R192, R193): the frame with that SRC_SEQ if the take holds it, else the next to open at or after
it. -/
def State.applyTrigger (s : State) (seg q : Nat) : State :=
  let t := s.take seg
  if t.trigSeq == some q || s.takeState seg == 0 || decide (3 ≤ s.takeState seg) then s
  else
    let s1 := s.setTake seg { t with trigSeq := some q }
    match t.spans.find? (fun x => (x.kind == .forme || x.kind == .openForme) && x.seq == q), s.takeState seg with
    | some x, 2 => s1.fixFrom seg x.frame
    | _, _ => s1.lateFor q

/-- The scheduled stop of the active (07 R192). -/
def State.applyStop (s : State) (seg q : Nat) : State :=
  let t := s.take seg
  if t.stopSeq == some q || s.takeState seg == 0 || decide (4 ≤ s.takeState seg) then s
  else (s.setTake seg { t with stopSeq := some q }).lateFor q

/-- The active's record names no stop (07 R189: each record replaces the view of its segment): one that was scheduled is off. -/
def State.cancelStop (s : State) (seg : Nat) : State :=
  let t := s.take seg
  if t.stopSeq.isSome && decide (s.takeState seg < 4) then s.setTake seg { t with stopSeq := none } else s

/-- The counter of TAKE_IDs follows the highest committed value (07 R192), modulo 65,536. -/
def State.followTakeId (s : State) (id : Nat) : State :=
  if (id + 65536 - s.cap.takeId) % 65536 < 32768 then { s with cap := { s.cap with takeId := id } } else s

/-- The standby remembers, or forgets, that it could not apply the arm of a take (07 R193). -/
def State.markArm (s : State) (seg id : Nat) (failed : Bool) : State :=
  let rest := s.pair.failedArms.filter (fun a => a.1 != seg)
  { s with pair := { s.pair with failedArms := if failed then rest ++ [(seg, id)] else rest } }

/-- Apply a SEGSTATE record (07 R189, R192, R193): a take whose arm could not be applied is not recorded later either, and a take of the
active in a segment that holds another take is a conflict (R198). -/
def State.applySeg (s0 : State) (r : List Byte) : State :=
  let seg := fieldAt r 1 1
  let st := fieldAt r 2 1
  let bits := fieldAt r 3 1
  let id := fieldAt r 4 2
  if 16 ≤ seg then s0
  else
    let s := if st = 0 && id = 0 then s0 else s0.followTakeId id
    let here := s.takeState seg != 0 && s.takeId seg == id
    let decide_ := fun (t : State) =>
      let t1 := if bits % 2 = 1 then t.applyTrigger seg (fieldAt r 0x14 4) else t
      if bits / 2 % 2 = 1 then t1.applyStop seg (fieldAt r 0x18 4) else t1.cancelStop seg
    if here then
      if st = 0 then (if s.takeState seg = 1 then s.toIdle seg else s) else decide_ s
    else if st = 1 || st = 2 || st = 3 then
      let p := recordParams r
      if s.pair.failedArms.contains (seg, id) || (s.armCheck seg p).isSome then (s.markArm seg id true).applyErr
      else
        let first := if bits / 4 % 2 = 1 then some (fieldAt r 0x10 4) else none
        let keep := s.cap.takeId
        let s1 := (s.markArm seg id false).createTake seg id p first
        let s2 := { s1 with cap := { s1.cap with takeId := keep } }
        match first with
        | some f => decide_ (s2.lateFor f)
        | none => decide_ s2.chain
    else if st = 0 then s.markArm seg id false
    else if s.takeState seg != 0 then s.applyErr
    else s

/-- Apply a CONFIG record (07 R189, R192, R193; 04 R125). -/
def State.applyConfig (s : State) (r : List Byte) : State :=
  let addr := 0x300000 + fieldAt r 2 2
  let v : Word := BitVec.ofNat 32 (fieldAt r 4 4)
  if !mirrored addr then s.applyErr
  else if s.written addr v == s.rd addr then s
  else if s.capLocked addr then s.applyErr
  else s.capWrite addr v

/-- Apply the records of a committed epoch in order. -/
def State.applyRecords32 (s : State) : Nat → List Byte → State
  | 0, _ => s
  | n + 1, b =>
    let r := b.take 32
    let s1 := match fieldAt r 0 1 with
      | 1 => s.applySeg r
      | 2 => s.applyConfig r
      | _ => s.applyErr
    s1.applyRecords32 n (b.drop 32)

/-! ### Takeover (07 R195, R196) -/

/-- ARMED takes whose shadow condition is true are fixed at the shadow trigger frame (07 R194, R195). -/
def State.fixShadows (s : State) : State :=
  ((List.range 16).foldl (fun (t : State) seg =>
    match t.takeState seg, (t.take seg).shadow with
    | 2, some (time, _, i, f) => t.fixTrigger seg f time i
    | _, _ => t) s).chain

/-- ISOLATED (07 R184, R194). -/
def State.isolate (s : State) : State := (s.setRole 3).fixShadows

/-- The epoch that arrived without being committed (07 R196, PARTIAL): from its SEQ, extended by the last committed epoch. -/
def State.extended (s : State) (seq : Nat) : Nat :=
  let c := s.get Reg.PAIR_EPOCH_COMMIT
  c + (seq + 65536 - c % 65536) % 65536

/-- The partial epoch: begun on a lane, or ended without being committed. -/
def State.partialOf (s : State) : Nat :=
  match [0, 1].filterMap (fun k => (s.epochRx k).begun) with
  | (q, _) :: _ =>
    let e := s.extended q
    if s.get Reg.PAIR_EPOCH_COMMIT < e then e else s.pair.partialEpoch
  | [] => s.pair.partialEpoch

/-- Entries of the takeover record, from the state before step 3 (07 R196). -/
def State.takeoverEntries (s : State) : List (List Byte) :=
  (List.range 16).filterMap (fun seg =>
    match s.takeState seg, (s.take seg).shadow with
    | 2, some (time, q, _, f) =>
      let seq := match (s.take seg).spans.find? (fun x => x.frame == f && x.kind != .padding) with | some x => x.seq | none => q
      some ([BitVec.ofNat 8 seg, 1, 0, 0] ++ leBytes 4 seq ++ leBytes 8 time)
    | 2, none => some ([BitVec.ofNat 8 seg, 2, 0, 0] ++ zeros 12)
    | 3, _ => some ([BitVec.ofNat 8 seg, 3, 0, 0] ++ zeros 12)
    | _, _ => none)

/-- The takeover record (07 R196). -/
def State.takeoverRecord (s : State) (partialEpoch : Nat) : List Byte :=
  let es := s.takeoverEntries
  let head := leBytes 4 0x5450595A ++ leBytes 2 1 ++ leBytes 2 es.length ++ leBytes 8 s.now ++
    leBytes 4 (s.get Reg.PAIR_EPOCH_COMMIT) ++ leBytes 4 partialEpoch ++ leBytes 1 (if s.pair.peerRole = 3 then 1 else 0) ++ zeros 35
  padTo 4096 (head ++ leBytes 4 (crc32 (head ++ es.flatten)) ++ es.flatten)

/-- The takeover condition (07 R195); a member whose claim is held released takes nothing over (R183). -/
def State.mayTakeOver (s : State) : Bool :=
  (s.pairRole == 2 || s.pairRole == 3) && s.pair.peerHigh && (s.lanesDown || s.pair.peerRole == 3) && s.driven

/-- Records that wait for the copy of PL0 are applied (07 R190). -/
def State.flushCopy (s : State) : State :=
  match s.pair.heldCopy with
  | some (n, b) => ({ s with pair := { s.pair with heldCopy := none } } : State).applyRecords32 n b
  | none => s

/-- Steps 1 and 2 of a takeover (07 R195): the partial epoch goes, the claim is driven, the re-sample follows 1 us later. -/
def State.takeOver (s0 : State) : State :=
  let s := s0.flushCopy
  let p := s.partialOf
  let s1 := { s with pair := { s.pair with rx := [], partialEpoch := p, resampling := true } }
  (s1.setRole 4).setFlag Reg.PAIR_PINS_CLAIM true

/-- Steps 3 to 5 (07 R195). -/
def State.takeOverEnd (s : State) : State :=
  let record := s.takeoverRecord s.pair.partialEpoch
  let s1 := s.fixShadows
  let s2 := if s1.galActive then s1.hostAccess { fw := true, addr := s1.hkBase + 0x10000, bytes := some (record.map some) } else s1
  let s3 := { s2 with pair := { s2.pair with records := [], resync := false, partialEpoch := 0, lastCopy := none } }
  (((s3.setRole 1).put Reg.PAIR_EPOCH_COMMIT 0).inc Reg.PAIR_TAKEOVERS).event Reg.PAIR_STATUS_TAKEOVER_EV

/-- PEER_HIGH (07 R184, R195). -/
def execPeerHigh (s : State) : Result :=
  let s1 := ({ s with pair := { s.pair with peerHigh := true } } : State).setFlag Reg.PAIR_PINS_PEER true
  if s1.mayTakeOver then .next s1.takeOver
  else if (s1.pairRole == 2 || s1.pairRole == 3) && !s1.lanesDown && s1.pair.peerRole == 1 then
    .next (s1.event Reg.PAIR_STATUS_PIN_ERR_EV)
  else .next s1

/-- A pairing lane goes down (03 R97; 07 R184; 02 R35). -/
def State.pairLaneDown (s : State) (k : Nat) : State :=
  if s.pairState = 0 || s.pair.down.contains k then s
  else
    let s1 := ({ s with pair := { s.pair with down := s.pair.down ++ [k] } } : State).flushCopy
    if !s1.lanesDown then s1
    else
      match s1.pairRole with
      | 1 => s1.event Reg.PAIR_STATUS_PEER_LOST_EV
      | 2 =>
        if s1.mayTakeOver then s1.takeOver
        else if s1.flag Reg.PAIR_PINS_PEER then s1
        else (s1.event Reg.PAIR_STATUS_PEER_LOST_EV).isolate
      | 3 => if s1.mayTakeOver then s1.takeOver else s1
      | _ => s1

/-- A pairing lane counts as down (03 R97): its receiver is not SYNCED or ALIGNED, or 400 blocks have passed without a valid control
block. -/
def State.laneIsDown (s : State) (k : Nat) : Bool :=
  !(s.rxState (256 + k) == 3 || s.rxState (256 + k) == 4) || decide (400 ≤ (s.lane (256 + k)).ctlGap)

/-- The level of PAIR_PEER_N now: a low level ends "peer high" (07 R184). -/
def State.peerLevel (s : State) (high : Bool) : State :=
  ({ s with pair := { s.pair with peerHigh := s.pair.peerHigh && high } } : State).setFlag Reg.PAIR_PINS_PEER high

/-- PAIRING_LANE_DOWN (03 R97; 07 R184), with the level of PAIR_PEER_N. -/
def execPairingLaneDown (k : Fin 2) (s : State) (peer : Bool := true) : Result :=
  if s.laneIsDown k.val then .next ((s.peerLevel peer).pairLaneDown k.val) else .next s

/-! ### Receiving (07 R190, R191) -/

/-- An epoch commits (07 R190, R191, R184): its records are applied, those of PL1's copy only once PL0, while it is up, has brought its copy
or a later block (log 127). -/
def State.commitEpoch (s0 : State) (k e n : Nat) (resync : Bool) (bytes : List Byte) : State :=
  let s := s0.flushCopy.put Reg.PAIR_EPOCH_COMMIT e
  let wait := k == 1 && !s.pair.down.contains 0
  let s1 : State := if wait then { s with pair := { s.pair with heldCopy := some (n, bytes) } } else s.applyRecords32 n bytes
  let s2 := { s1 with pair := { s1.pair with lastCopy := some (e, k, bytes), partialEpoch := 0 } }
  if !resync then s2
  else
    let s3 := (s2.inc Reg.PAIR_RESYNCS).setFlag Reg.PAIR_STATUS_SYNC true
    if s3.pairRole = 3 && !s3.lanesDown then s3.setRole 2 else s3

/-- The second copy of a committed epoch (07 R190): where the bytes differ, PL0's copy counts. -/
def State.secondCopy (s : State) (k e n : Nat) (bytes : List Byte) : State :=
  match s.pair.lastCopy with
  | some (e1, k1, b1) =>
    if e1 != e || k1 == k then s
    else if b1 == bytes then s.flushCopy
    else
      let s1 := ({ s with pair := { s.pair with lastCopy := none, heldCopy := none } } : State).inc Reg.PAIR_COPY_MISMATCH
      if k = 0 then s1.applyRecords32 n bytes else s1
  | none => s

/-- A lane's copy of an epoch is complete (07 R190): EPOCH_END with SEQ and PARAM has arrived. -/
def State.epochEnd (s : State) (k seq param : Nat) : State :=
  let x := s.epochRx k
  let s0 := s.setEpochRx k {}
  let other := match x.begun with | some (q, _) => q != s0.get Reg.PAIR_EPOCH_COMMIT % 65536 | none => true
  let s0 := if k = 0 && other then s0.flushCopy else s0
  if !(s0.pairRole == 2 || s0.pairRole == 3) then s0
  else
    match x.begun with
    | none => s0
    | some (q, p) =>
      let n := param % 128
      let bytes := (x.blocks.take (4 * n)).flatMap (fun d => leBytes 8 d.toNat)
      let trailer := ((x.blocks.drop (4 * n)).headD 0).toNat
      let e := trailer / 2 ^ 32
      let whole := q == seq && p == param && n != 0 && x.blocks.length == 4 * n + 1
      let resync := decide (128 ≤ param)
      let c := s0.get Reg.PAIR_EPOCH_COMMIT
      let lost := fun (t : State) =>
        if c < t.extended q then ({ t with pair := { t.pair with partialEpoch := t.extended q } } : State) else t
      if !whole then lost s0
      else if trailer % 2 ^ 32 != crc32 bytes then lost (s0.inc Reg.PAIR_CRC_ERR)
      else if e % 65536 != seq then lost s0
      else if e == c && s0.pair.lastCopy.isSome then s0.secondCopy k e n bytes
      else if resync then s0.commitEpoch k e n true bytes
      else if !s0.flag Reg.PAIR_STATUS_SYNC then s0
      else if e == c + 1 then s0.commitEpoch k e n false bytes
      else if c + 1 < e then lost (s0.setFlag Reg.PAIR_STATUS_SYNC false)
      else s0

/-- One block on a pairing lane as its receiver recovers it; `ctl` tells its sync header. -/
def State.pairBlock (s : State) (k : Nat) (ctl : Bool) (payload : Word64) : State :=
  let n := 256 + k
  let i : RxInfo := { slot := 0, txSlots := 0, elastic := .none }
  let d := s.peek n payload
  let live := s.rxLive n i
  let s1 := s.rxCommon n ctl (!ctl) payload i
  if !live then s1
  else if !ctl then s1.pairData n d
  else
    let s2 := s1.takeControl n d
    if !ctlOk d then s2
    else if isCt 0x11 d then s2.setEpochRx k { begun := some (ctSeq d, ctParam d) }
    else if isCt 0x12 d then s2.epochEnd k (ctSeq d) (ctParam d)
    else s2

/-- RECEIVE_EPOCH_END (07 R190): the payloads of an epoch's blocks as they came down the lane, from EPOCH_BEGIN on (log 83).  The first is
a control block, and the last, where the list has the length that EPOCH_BEGIN announces or more. -/
def execReceiveEpochEnd (k : Fin 2) (blocks : List Word64) (s : State) : Result :=
  match blocks with
  | [] => .next s
  | b :: r =>
    let s1 := s.pairBlock k.val true b
    let n := match (s1.epochRx k.val).begun with | some (_, p) => 4 * (p % 128) + 1 | none => r.length - 1
    let s2 := (r.take n).foldl (fun (t : State) d => t.pairBlock k.val false d) s1
    .next ((r.drop n).foldl (fun (t : State) d => t.pairBlock k.val true d) s2)

/-- A HEARTBEAT of the peer (07 R191, R195). -/
def State.pairHeartbeat (s : State) (d : Word64) : State :=
  let role := ctParam d % 4
  let sync := ctParam d / 4 % 2 == 1
  let s1 := { s with pair := { s.pair with peerRole := role, peerSync := sync } }
  if s1.pairRole = 1 then
    if role = 2 then
      let sent := s1.get Reg.PAIR_EPOCH_SENT
      let back := (sent + 65536 - ctSeq d) % 65536
      let s2 := if back ≤ sent then s1.put Reg.PAIR_EPOCH_COMMIT (max (s1.get Reg.PAIR_EPOCH_COMMIT) (sent - back)) else s1
      if sync then s2 else { s2 with pair := { s2.pair with resync := true } }
    else s1
  else if s1.mayTakeOver then s1.takeOver
  else s1

/-- RECEIVE_PAIR_HEARTBEAT (03 R96, R97; 07 R191), with the level of PAIR_PEER_N.  On PL0 it follows the epochs sent before it. -/
def execReceivePairHeartbeat (k : Fin 2) (payload : Word64) (s : State) (peer : Bool := true) : Result :=
  let n := 256 + k.val
  s.rxRow n true false payload { slot := 0, txSlots := 0, elastic := .none } (isCt 0x10) fun s d =>
    let s1 := (s.takeControl n d).peerLevel peer
    let s2 := if k = 0 then s1.flushCopy else s1
    if ctlOk d then s2.pairHeartbeat d else s2

/-! ### Starting and stopping (07 R183, R184, R197) -/

/-- The pairing unit enters STARTING (07 R184, R188): its lanes start, epochs count from 1. -/
def State.pairStart (s : State) : State :=
  let s1 := ((s.rxOn 256).rxOn 257).setRole 0
  let s2 := { s1 with pair := { peerHigh := s1.pair.peerHigh, down := [] } }
  ((s2.put Reg.PAIR_EPOCH_SENT 0).put Reg.PAIR_EPOCH_COMMIT 0).setFlag Reg.PAIR_STATUS_SYNC false

/-- The pairing unit reaches IDLE: the claim is released, its lanes stop (07 R183). -/
def State.pairIdle (s : State) : State :=
  let s1 := ((((s.rxOff 256).rxOff 257).releaseClaim).setRole 0).setFlag Reg.PAIR_STATUS_SYNC false
  { s1 with pair := { peerHigh := s1.pair.peerHigh } }

/-- A disabled active sends LEAVING heartbeats (07 R197). -/
def State.pairStopping (s : State) : State :=
  if s.pairState = 3 && s.pairRole = 1 then { s with pair := { s.pair with leaving := true } } else s

/-- The pairing unit's role is decided: RUNNING, or STOPPING when a disable is held (07 R184; 02 R46). -/
def State.pairStarted (s : State) : State := (s.unitStarted pairUnit).pairStopping

/-- The enable bit is written (07 R184; 02 R46): the unit leaves IDLE only in role PAIRED; a write ends CONTENDED.  DESIGN CHOICE: EN
written 1 in another role is stored, and the unit starts when the role becomes PAIRED (log 130). -/
def State.pairEnable (s : State) (b : Bool) : State :=
  if s.pairRole = 5 then
    let s1 := ((s.setFlag Reg.PAIR_CTL_EN b).setFlag Reg.PAIR_STATUS_HELD false).put Reg.PAIR_STATUS_STATE (if b then 1 else 0)
    if b then s1.pairStart else s1.pairIdle
  else if s.pairState = 0 && b && !s.paired then s.setFlag Reg.PAIR_CTL_EN true
  else
    let idle := s.pairState == 0
    let s1 := (s.enableWrite pairUnit b).pairStopping
    if idle && b then s1.pairStart else s1

/-- The pairing unit has drained (07 R197). -/
def State.pairDrainedNow (s : State) : Bool := !s.pair.leaving

/-- The drain ends: IDLE, or STARTING again with a held enable. -/
def State.pairDrained (s : State) : State :=
  if s.pairState != 3 || !s.pairDrainedNow then s
  else
    let s1 := (s.unitDrained pairUnit).pairIdle
    if s1.pairState = 1 then s1.pairStart else s1

/-- PAIR_LEAVING_END (07 R197): the claim is released and with it the active role; the drain is then complete. -/
def execPairLeavingEnd (s : State) : Result :=
  if !s.pair.leaving then .next s
  else .next ({ s with pair := { s.pair with leaving := false } } : State).releaseClaim

/-- The level of PAIR_PEER_N as it was sampled. -/
def State.peerPin (s : State) (high : Bool) : State :=
  ({ s with pair := { s.pair with peerHigh := high } } : State).setFlag Reg.PAIR_PINS_PEER high

/-- PAIR_ROLE_EVALUATION (07 R184). -/
def execPairRoleEvaluation (peerHigh : Bool) (s : State) : Result :=
  if s.pairState != 1 || s.pairRole != 0 || s.pair.resampling then .next s
  else
    let s1 := s.peerPin peerHigh
    if peerHigh && !s1.driven then .next s1
    else if peerHigh then
      .next (({ s1 with pair := { s1.pair with resampling := true } } : State).setFlag Reg.PAIR_PINS_CLAIM true)
    else .next ((s1.setRole 2).pairStarted)

/-- The unit is CONTENDED (07 R184): the claim is released.  DESIGN CHOICE: STATE goes back to STARTING until EN is written (log 85). -/
def State.contend (s : State) : State :=
  ((s.releaseClaim.setRole 5).put Reg.PAIR_STATUS_STATE 1).event Reg.PAIR_STATUS_PIN_ERR_EV

/-- PAIR_CLAIM_RESAMPLE (07 R184, R195): 1 us after the claim was driven, and once more for a member that found the claim contended: a
PRIMARY that sees the pin low again, or a SECONDARY that sees it high, because its peer let go too, has a peer of its own strap
(log 85).  A claim that a reset condition released meanwhile is not kept (R183). -/
def execPairClaimResample (peerHigh : Bool) (s : State) : Result :=
  if s.pair.resampling then
    let s1 := (s.peerPin peerHigh)
    let s2 := { s1 with pair := { s1.pair with resampling := false } }
    if !s2.driven then .next s2
    else if s2.pairRole = 4 then
      if peerHigh then .next s2.takeOverEnd else .next (s2.releaseClaim).isolate
    else if peerHigh then .next (s2.setRole 1).pairStarted
    else
      let s3 := { s2 with pair := { s2.pair with contended := true } }
      if s2.flag Reg.PAIR_PINS_STRAP then .next ((s3.releaseClaim).setRole 2).pairStarted
      else .next (s3.setRole 1).pairStarted
  else if s.pair.contended then
    let s1 := s.peerPin peerHigh
    let s2 := { s1 with pair := { s1.pair with contended := false } }
    if peerHigh == s2.flag Reg.PAIR_PINS_STRAP then .next s2.contend else .next s2
  else .next s

/-- PAIR_CNT_CLR (07, "Registers"). -/
def execPairCntClr (s : State) : Result := .next (s.zeroWords Reg.PAIR_CRC_ERR.base 6)

end Sys2Proof.Machine
end

