-- ==== Sys2Proof/Machine/Pcie.lean ====
section
/-!
DEFINITION. The PCIe endpoint (08): link training, BAR2 and its windows, MSI-X, poisoned TLPs, completion timeouts, containment,
function power states and Bus Master Enable.
-/
namespace Sys2Proof.Machine


/-- LINK_TRAINED (08 R199, R200, R223): the highest rate and width that the partner and `PCIE.CFG` allow; `speed` is coded as
`PCIE.STATUS.RATE`.  What waited for L0 goes on (08 R534).  64.0 GT/s exists in Flit mode only (08 R199).
`errs` are the errors that the link reported since the last time (08 R217). -/
def execLinkTrained (speed width : Nat) (flit : Bool) (s0 : State) (errs : List LinkErr := []) : Result :=
  let s := if s0.pwr.por || s0.pwr.perst then s0 else errs.foldl State.logLink s0
  let rate := min speed (s.get Reg.PCIE_CFG_MAX_RATE + 3)
  match [16, 8, 4, 2, 1].find? (fun w => decide (w ≤ min width (2 ^ s.get Reg.PCIE_CFG_MAX_WIDTH))) with
  | none => .next s
  | some w =>
    if rate = 0 || 6 < speed || !s.flag Reg.CLK_PLL_STATUS_PCIE_LOCK || s.pwr.por || s.pwr.perst then .next s
    else
      let oldRate := s.get Reg.PCIE_STATUS_RATE
      let worse := if oldRate = 0 then decide (rate < 6) || decide (w < 16)
        else decide (rate < oldRate) || decide (w < s.get Reg.PCIE_STATUS_WIDTH)
      let s1 := ((s.put Reg.PCIE_STATUS_RATE rate).put Reg.PCIE_STATUS_WIDTH w).setFlag Reg.PCIE_STATUS_FLIT
        (flit || rate == 6)
      let s2 := { s1 with pcie := { s1.pcie with linkUp := true } }
      let s3 := if worse then s2.event Reg.PCIE_STATUS_LINK_DEGRADED_EV else s2
      .next ((s3.resumeFn 0).resumeFn 1)

/-- BAR0_ACCESS_BAD_SHAPE (08 R203): Completer Abort, at the severity programmed. -/
def execBar0AccessBadShape (f : FnIx) (write : Bool) (_addr : Nat) (s : State) : Result :=
  if !s.hasFn f.val then .next s
  else if s.barRefuses f.val then .next (s.refuseBar f.val write)
  else .next (s.busFault (if f.val = 0 then .host0 else .host1) write)

/-- Galley address that a BAR2 offset reaches (08 R205). -/
def State.bar2Target (s : State) (o : Nat) : Option Nat :=
  if s.get Reg.PCIE_CFG_BAR2_MODE = 0 then (if o < s.galSize then some o else none)
  else
    ((List.range 16).find? (fun w => s.flag Reg.PCIE_XWIN_CTL_EN w && decide (s.get64 Reg.PCIE_XWIN_BASE w ≤ o) &&
      decide (o < s.get64 Reg.PCIE_XWIN_BASE w + 2 ^ s.get Reg.PCIE_XWIN_CTL_SIZE w))).map
        (fun w => s.get64 Reg.PCIE_XWIN_TARGET w + (o - s.get64 Reg.PCIE_XWIN_BASE w))

/-- A BAR2 access that reaches nothing (08 R205). -/
def State.bar2Miss (s : State) : State := (s.inc Reg.PCIE_BAR2_MISS).event Reg.PCIE_STATUS_BAR2_MISS_EV

/-- A BAR2 access to a contained function 0 (08 R220). -/
def State.bar2Refused (s : State) : State := s.logUnc 0 aerUnsupported true true

/-- What the endpoint does with a BAR2 request before the galley (08 R205, R220, R224): refused, a miss, or `f` at the galley address
that it reaches. -/
def State.bar2Request (s : State) (write : Bool) (addr : Nat) (miss : State → State) (f : State → Nat → State) : State :=
  if s.barRefuses 0 then s.refuseBar 0 write
  else if s.flag Reg.CFG_CONT_STATUS_CONTAINED 0 then (if write then s.bar2Refused else s.bar2Refused.emit .unsupported)
  else
    match s.bar2Target addr with
    | none => miss s.bar2Miss
    | some a => f s a

/-- BAR2_READ (08 R204, R205, R212, R220, R224; 06 R179): data, zeros where nothing is reached; poisoned lines leave in poisoned TLPs.
It waits while drains are paused and in SAVE (06 R168, R169). -/
def execBar2Read (addr len : Nat) (dmg : Damage) (s : State) : Result :=
  if !s.awake then .next s
  else .next (s.bar2Request false addr (fun t => t.emit (.reply (zeros len) [])) (fun t a => (t.strike dmg).hostAccess { addr := a, len }))

/-- A BAR2 write (08 R205, R213, R220; 06 R171, R179); `bytes` has `none` where the byte enable is 0. -/
def State.bar2Write (s : State) (addr : Nat) (bytes : List (Option Byte)) (poisoned : Bool) (dmg : Damage) : State :=
  let s0 := if poisoned && !s.barRefuses 0 then (s.logUnc 0 aerPoisoned true).inc Reg.PCIE_POISON_RX else s
  s0.bar2Request true addr (fun t => t) (fun t a => (t.strike dmg).hostAccess { addr := a, bytes := some bytes, poisoned })

/-- BAR2_WRITE (08 R204, R205, R224; 06 R179). -/
def execBar2Write (addr : Nat) (bytes : List (Option Byte)) (poisoned : Bool) (dmg : Damage) (s : State) : Result :=
  if !s.awake then .next s else .next (s.bar2Write addr bytes poisoned dmg)

/-- Set the BAR2 size, and clear the address bits below it (08 R204; 2^28 to 2^38 bytes are the codes 8 to 18). -/
def State.setBar2Size (s : State) (code : Nat) : State :=
  let n := code + 20
  let a := (s.get Reg.CFG_BAR2_LO_ADDR * 2 ^ 28 + s.get Reg.CFG_BAR2_HI_ADDR * 2 ^ 32) / 2 ^ n * 2 ^ n
  let s1 := s.put Reg.CFG_RBAR_CTL_SIZE code
  (s1.put Reg.CFG_BAR2_LO_ADDR (a % 2 ^ 32 / 2 ^ 28)).put Reg.CFG_BAR2_HI_ADDR (a / 2 ^ 32)

/-- RESIZABLE_BAR_WRITE (08 R204): a listed size, while Memory Space Enable is 0. -/
def execResizableBarWrite (v : Word) (s : State) : Result :=
  let code := bitsOf v 13 8
  if s.flag Reg.CFG_COMMAND_MSE 0 || code < 8 || 18 < code then .next s else .next (s.setBar2Size code)

/-- A window's size and places meet R206. -/
def State.xwinOk (s : State) (w : Nat) : Bool :=
  let n := s.get Reg.PCIE_XWIN_CTL_SIZE w
  let t := s.get64 Reg.PCIE_XWIN_TARGET w
  decide (20 ≤ n) && decide (n ≤ 38) && s.get64 Reg.PCIE_XWIN_BASE w % 2 ^ n == 0 && t % 2 ^ n == 0 &&
    decide (t + 2 ^ n ≤ s.galSize)

/-- Enable a window, or refuse it (08 R206). -/
def State.xwinEnable (s : State) (w : Nat) : State :=
  if s.flag Reg.PCIE_XWIN_CTL_EN w then s
  else if s.xwinOk w then s.setFlag Reg.PCIE_XWIN_CTL_EN true w
  else s.event Reg.PCIE_STATUS_XWIN_REJ

/-- XWIN_ENABLE (08 R206). -/
def execXwinEnable (w : Nat) (s : State) : Result := if w < 16 then .next (s.xwinEnable w) else .next s

/-- MSIX_PENDING_SEND (08 R209): a pending vector whose masks are clear leaves as one message. -/
def execMsixPendingSend (f : FnIx) (vec : Nat) (s : State) : Result :=
  if vec < (if f.val = 0 then 2048 else 8) && s.pba f.val vec then .next (s.signal f.val vec) else .next s

/-- An outstanding read of HQ fails (08 R213, R215; 09 R233, R235, R248): what it was for decides. -/
def State.failUse (s : State) (r : ReadTag) (why : ReadFail) : State :=
  let t := s.failTag r.tag why
  match r.use with
  | .summary => t.summaryFailed
  | .line j => t.doorbellFailed j
  | .head _ => t.headRejected
  | .entry n slot => t.ringFault n 0x0B (s.get64 Reg.HQ_SQ_BASE n + 64 * slot)
  | .stale _ _ => t

/-- The outstanding read with a tag. -/
def State.tagRead (s : State) (tag : Nat) : Option ReadTag := s.pcie.reads.find? (fun r => r.tag == tag)

/-- A poisoned write to a function that is discarded (08 R213). -/
def State.poisonedWrite (s : State) (fn : Nat) : State := (s.logUnc fn aerPoisoned false).inc Reg.PCIE_POISON_RX

/-- POISONED_TLP_RECEIVED (08 R213): logged and counted; the data is refused or poisons its lines. -/
def execPoisonedTlpReceived (f : FnIx) (kind : PoisonKind) (s : State) : Result :=
  match kind with
  | .bar0Write _ => .next (if s.barRefuses f.val then s.refuseBar f.val true else s.poisonedWrite f.val)
  | .bar2Write addr bytes => .next (s.bar2Write addr bytes true [])
  | .configWrite _ => .next ((s.poisonedWrite f.val).emit .unsupported)
  | .readCompletion tag =>
    match s.tagRead tag with
    | some r => .next (s.failUse r .poisoned)
    | none => .next s

/-- COMPLETION_TIMEOUT (08 R215): the read with this tag times out. -/
def execCompletionTimeout (tag : Nat) (s : State) : Result :=
  match s.tagRead tag with
  | some r => .next (s.failUse r .timeout)
  | none => .next s

/-- LATE_COMPLETION (08 R216): discarded as an Unexpected Completion; the tag is free again. -/
def execLateCompletion (tag : Nat) (s : State) : Result :=
  if !s.pcie.late.any (fun l => l.1 == tag) then .next s
  else
    let s1 := { s with pcie := { s.pcie with late := s.pcie.late.eraseP (fun l => l.1 == tag) } }
    .next (((s1.logUnc 0 aerUnexpected true).inc Reg.PCIE_LATE_CPL).event Reg.PCIE_STATUS_LATE_CPL_EV)

/-- INTERNAL_DATAPATH_ERROR (08 R218): both functions are contained, whatever AUTO_EN, and both log it; a correctable error is a
Corrected Internal Error of both. -/
def execInternalDatapathError (s : State) (corrected : Bool := false) : Result :=
  if corrected then .next ((s.logCor 0 aerCorInternal).logCor 1 aerCorInternal)
  else
    let s1 := (s.logUnc 0 aerInternal false).logUnc 1 aerInternal false
    .next ((s1.contain 0 2).contain 1 2)

/-- A write of FREEZE = 1 (08 R219). -/
def State.freezeFn (s : State) (fn : Nat) : State :=
  if s.hasFn fn then (s.contain fn 0).setFlag Reg.CFG_CONT_CTL_FREEZE true fn else s

/-- CONTAINMENT_FREEZE (08 R219). -/
def execContainmentFreeze (f : FnIx) (s : State) : Result := .next (s.freezeFn f.val)

/-- A cause of containment stays (08 R219): a fatal bit in Uncorrectable Error Status, the Uncorrectable Internal Error bit, or the
AOS safe state.  Cause HOST ends by the release itself. -/
def State.causeStays (s : State) (fn : Nat) : Bool :=
  (s.flag Reg.CFG_CONT_STATUS_CAUSE_ERR fn &&
    (s.get Reg.CFG_UNC_STATUS_WORD fn &&& s.get Reg.CFG_UNC_SEV_WORD fn) != 0) ||
  (s.flag Reg.CFG_CONT_STATUS_CAUSE_INTERNAL fn && s.fnBit Reg.CFG_UNC_STATUS_WORD fn aerInternal) ||
  s.flag Reg.CFG_CONT_STATUS_CAUSE_AOS fn

/-- Containment of a function ends (08 R221, R222): causes HOST, ERR and INTERNAL are gone; with cause AOS it stays contained. -/
def State.endContainment (s : State) (fn : Nat) : State :=
  let s1 := (((s.setFlag Reg.CFG_CONT_STATUS_CAUSE_HOST false fn).setFlag Reg.CFG_CONT_STATUS_CAUSE_ERR false fn).setFlag
    Reg.CFG_CONT_STATUS_CAUSE_INTERNAL false fn).setFlag Reg.CFG_CONT_CTL_FREEZE false fn
  s1.setFlag Reg.CFG_CONT_STATUS_CONTAINED (s1.flag Reg.CFG_CONT_STATUS_CAUSE_AOS fn) fn

/-- A write of RELEASE = 1 with RELEASE_SEQ `seq` (08 R221). -/
def State.releaseFn (s : State) (fn seq : Nat) : State :=
  if !s.hasFn fn then s
  else if seq != s.get Reg.CFG_CONT_STATUS_FREEZE_SEQ fn || s.causeStays fn then
    s.setFlag Reg.CFG_CONT_STATUS_RELEASE_REJ true fn
  else (s.endContainment fn).resumeFn fn

/-- CONTAINMENT_RELEASE (08 R221): the RELEASE and RELEASE_SEQ fields of a write of CONT_CTL. -/
def execContainmentRelease (f : FnIx) (v : Word) (s : State) : Result :=
  if v.getLsbD 16 then .next (s.releaseFn f.val (bitsOf v 15 8)) else .next s

/-- A write of the PowerState field of a function: D0 or D3hot; other encodings leave it (00 R12; 08 R199, R224). -/
def State.powerState (s : State) (fn v : Nat) : State :=
  if !s.hasFn fn || !(v = 0 || v = 3) then s
  else
    let s1 := s.put Reg.CFG_PMCSR_STATE v fn
    if v = 0 then s1.resumeFn fn else s1

/-- D3HOT_ENTRY (08 R224). -/
def execD3hotEntry (f : FnIx) (s : State) : Result := .next (s.powerState f.val 3)

/-- D0_RETURN (08 R224). -/
def execD0Return (f : FnIx) (s : State) : Result := .next (s.powerState f.val 0)

/-- A write of Bus Master Enable (08 R534). -/
def State.busMaster (s : State) (fn : Nat) (b : Bool) : State :=
  if !s.hasFn fn then s
  else
    let s1 := s.setFlag Reg.CFG_COMMAND_BME b fn
    if b then s1.resumeFn fn else s1

/-- BUS_MASTER_ENABLE_CLEAR (08 R534). -/
def execBusMasterEnableClear (f : FnIx) (s : State) : Result := .next (s.busMaster f.val false)

/-- BUS_MASTER_ENABLE_SET (08 R534). -/
def execBusMasterEnableSet (f : FnIx) (s : State) : Result := .next (s.busMaster f.val true)

/-- PCIE_CNT_CLR (08, "Registers"). -/
def execPcieCntClr (s : State) : Result := .next (s.zeroWords Reg.PCIE_CPL_TIMEOUT.base 5)

end Sys2Proof.Machine
end

