-- ==== Sys2Proof/Machine/Cores.lean ====
section
/-!
DEFINITION. The AOS safe state (02 R48, R49) and the management cores (19 R474-R479): start, heartbeats, lockups, restarts; the
COUNTERS journal (18 R466).
-/
namespace Sys2Proof.Machine

/-- Capture stops at once (02 R41, R49, R56, R63; 04 R121): takes close at their last complete forme, no frame goes on. -/
def State.haltCapture (s : State) : State :=
  let t := s.cutTakes
  { t with cap := { t.cap with frames := [] },
           cmp := { t.cmp with queues := [], held := [], unqueued := [], out := [] } }

/-- Archive work is cut without a resume entry (13 R349): MC3 stops without warning. -/
def State.cutArchive (s : State) : State :=
  let s1 := s.endArchive
  { s1 with och := { s1.och with relocQ := [] } }

/-- The AOS safe state (02 R49): fatal vectors and containment of both functions, actuators safe, lanes IDLE, capture over
(01 R19), galley in self-refresh.  A machine already in it stays. -/
def State.aosSafe (s : State) : State :=
  if s.pwr.aosSafe then s.cause Reg.RST_CAUSE_AOS_SAFE
  else
    let s1 := (((s.contain 0 3).contain 1 3).cause Reg.RST_CAUSE_AOS_SAFE).haltCapture
    let s2 := s1.cutArchive.safeActuators.lanesIdle.selfRefresh.releaseClaim
    { s2 with pwr := { s2.pwr with aosSafe := true } }

/-- VALUE of a counter of the COUNTERS journal (18 R466): that of its entry with the highest sequence, 0 without one. -/
def State.counterValue (s : State) (id : Nat) : Nat :=
  let value := fun (e : Nat × FoundEntry) =>
    let p := s.flashRead (0xE80000 + 4096 * e.1 + 32 * e.2.1 + 8) 10
    if fieldAt p 0 2 = id then some (e.2.2.2.1, fieldAt p 2 8) else none
  ((s.journalEntries 3 0xE80000).filterMap value).foldl (fun (m : Nat × Nat) v => if m.1 ≤ v.1 then v else m) (0, 0) |>.2

/-- Add to a counter of the COUNTERS journal (18 R466): 1 POWER_ONS, 2 CHRYSALIS_SAVES, 3 THERMAL_SHUTDOWNS, 4 CORE_LOCKUPS. -/
def State.bumpCounter (s : State) (id n : Nat) : State :=
  (s.journalPut 3 0xE80000 1 (leBytes 2 id ++ leBytes 8 ((s.counterValue id + n) % 2 ^ 64))).journalCompact 3 0xE80000

/-- Lockups not yet counted are counted while MC0 runs (19 R477). -/
def State.countLockups (s : State) : State :=
  let st := s.get Reg.MBX_CORE_STATUS_STATE 0
  if s.mbx.uncounted = 0 || !(st = 2 || st = 3) then s
  else ({ s with mbx := { s.mbx with uncounted := 0 } } : State).bumpCounter 4 s.mbx.uncounted

/-- At each start MC0 increments the counters that `RST.CAUSE` reports (18 R466). -/
def State.countStarts (s : State) : State :=
  let s1 := if s.flag Reg.RST_CAUSE_POR then s.bumpCounter 1 1 else s
  let s2 := if s1.flag Reg.RST_CAUSE_CHRYSALIS then s1.bumpCounter 2 1 else s1
  if s2.flag Reg.RST_CAUSE_T_SHUT || s2.flag Reg.RST_CAUSE_T_TRIP then s2.bumpCounter 3 1 else s2

/-- Units that depend on core `k` (01, "Management cores"). -/
def coreUnits (k : Nat) : List Nat :=
  match k with
  | 0 => [16]
  | 1 => [8, 9]
  | 2 => [8, 9]
  | 3 => [10, 11, 12]
  | _ => [13]

/-- Device-time ticks of 0.625 ns in 10 s (19 R478; 04 R107). -/
def tenSeconds : Nat := 16000000000

/-- Lockups of core `k` that lie within the last 10 s, newest first (19 R478). -/
def State.recentLockups (s : State) (k : Nat) : List Nat :=
  (lookupD [] s.mbx.lockups k).filter (fun t => decide (s.now ≤ t + tenSeconds))

/-- A core enters LOCKED (19 R476-R478): recorded, quoins released, incarnation advanced; the third time within 10 s it is
FAILED with its units, and MC0 FAILED brings the AOS safe state (02 R48). -/
def State.lockCore (s : State) (k cause : Nat) (info : Word) : State :=
  let locks := s.now :: s.recentLockups k
  let n := locks.length
  let s1 := { s with mbx := { s.mbx with lockups := insertKey s.mbx.lockups k locks, uncounted := s.mbx.uncounted + 1 } }
  let s2 := (((s1.put64 Reg.MBX_CORE_LOCK_TIME s.now k).put Reg.MBX_CORE_STATUS_CAUSE cause k).put
    Reg.MBX_CORE_LOCK_INFO info.toNat k).put Reg.MBX_CORE_STATUS_LOCKS_10S (min 3 n) k
  let s3 := (s2.bumpCore k).event Reg.MBX_STATUS_CORE_LOCK_EV
  let s4 := if k = 0 then s3.abandonCal else s3
  if 3 ≤ n then
    let s5 := ((s4.put Reg.MBX_CORE_STATUS_STATE 6 k).notice 0x03 k n).event Reg.MBX_STATUS_CORE_FAIL_EV
    let s6 := (coreUnits k).foldl State.failUnit s5
    if k = 0 then s6.aosSafe else s6.countLockups
  else ((s4.put Reg.MBX_CORE_STATUS_STATE 4 k).notice 0x01 k n).countLockups

/-- CORE_LOCKUP (19 R476-R478): causes 1 STACK, 2 DOUBLE, 3 MEM_UE, 4 WDOG, in BOOT, RUN, SLEEP or RESTART. -/
def execCoreLockup (k : Fin 5) (cause : Nat) (info : Word) (s : State) : Result :=
  let st := s.get Reg.MBX_CORE_STATUS_STATE k.val
  if cause < 1 || 4 < cause || !(st == 1 || st == 2 || st == 3 || st == 5) then .next s
  else .next (s.lockCore k.val cause info)

/-- CORE_WATCHDOG_TIMEOUT (19 R476): cause WDOG while RUN, SLEEP or RESTART; MC0 in RESTART instead brings the AOS safe
state (19 R477, 02 R48). -/
def execCoreWatchdogTimeout (k : Fin 5) (info : Word) (s : State) : Result :=
  let st := s.get Reg.MBX_CORE_STATUS_STATE k.val
  if k.val = 0 && st = 5 then .next ((s.lockCore 0 4 info).cause Reg.RST_CAUSE_WDOG).aosSafe
  else if st = 2 || st = 3 || st = 5 then .next (s.lockCore k.val 4 info)
  else .next s

/-- MC0 verifies its firmware slot (18 R467): the standing image's choice, else the other slot with FALLBACK, else the
recovery loader, which marks every unit that needs firmware failed. -/
def State.bootFirmware (s : State) (want : Nat) (fw0 fw1 : Bool) : State :=
  let ok := fun n => if n = 0 then fw0 else fw1
  let s0 := (s.setFlag Reg.EFC_FW_FALLBACK false).setFlag Reg.EFC_FW_RECOVERY false
  if ok want then s0.put Reg.EFC_FW_BOOT_SLOT want
  else if ok (1 - want) then (s0.put Reg.EFC_FW_BOOT_SLOT (1 - want)).setFlag Reg.EFC_FW_FALLBACK true
  else [8, 9, 10, 11, 12, 13, 16].foldl State.failUnit (s0.setFlag Reg.EFC_FW_RECOVERY true)

/-- CORE_RESTART (19 R475, R477): the reset hold of a LOCKED core ends; it loads from the standing firmware slot without a new
choice, but every start of MC0 verifies the slot again (18 R467; log 30). -/
def execCoreRestart (k : Fin 5) (fw0 fw1 : Bool) (s : State) : Result :=
  if s.get Reg.MBX_CORE_STATUS_STATE k.val != 4 then .next s
  else
    let s1 := (s.put Reg.MBX_CORE_STATUS_STATE 5 k.val).inc Reg.MBX_CORE_RESTARTS k.val
    .next (if k.val = 0 && !(if s.get Reg.EFC_FW_BOOT_SLOT = 0 then fw0 else fw1) then
      s1.bootFirmware (s.get Reg.EFC_FW_BOOT_SLOT) fw0 fw1 else s1)

/-- CORE_SLEEP (19 R475): firmware idles a running core. -/
def execCoreSleep (k : Fin 5) (s : State) : Result :=
  if s.get Reg.MBX_CORE_STATUS_STATE k.val = 2 then .next (s.put Reg.MBX_CORE_STATUS_STATE 3 k.val) else .next s

/-- MC0 has found the chrysalis journal in order and posts BOOT_DONE in `MBX[41]` (19 R484, 23 R531). -/
def State.bootDone (s : State) : State :=
  s.sendBox 41 (s.get Reg.MBX_CORE_STATUS_STAMP 0) (BitVec.ofNat 32 (0x10 * 2 ^ 24 + s.get Reg.EFC_FW_BOOT_SLOT))

/-- SC's self-tests at its start (16 R422): each engine that fails its known-answer tests is excluded with KAT_EV; if SC's own
tests or every engine fail, SEC is marked failed. -/
def State.secSelfTest (s : State) (engines : BitVec 16) (tests : Bool) : State :=
  let ok := (List.range 16).filter (fun e => engines.getLsbD e)
  let s1 := (List.range 16).foldl (fun t e => t.setFlag Reg.SEC_ENG_STATUS_OK (engines.getLsbD e) e) s
  let s2 := s1.put Reg.SEC_STATUS_ENGINES ok.length
  let s3 := if ok.length < 16 then s2.event Reg.SEC_STATUS_KAT_EV else s2
  if !tests || ok.isEmpty then s3.failUnit 13
  else if s3.unitFailed 13 then s3
  else (s3.put Reg.SEC_STATUS_STATE 2).put Reg.SEC_TRNG_TSTATE 1

/-- Restore the firmware slots that SC keeps in its own store (16 R404, R423): 249-251 the identities, 252 the wrapping key;
slot 248 holds the at-rest key of a mounted magazine (16 R401). -/
def State.restoreFwSlots (s : State) : State :=
  let s1 := [249, 250, 251].foldl (fun t k => (t.setFlag Reg.SEC_SLOT_LOADED true k).put Reg.SEC_SLOT_BITS 3 k) s
  (s1.setFlag Reg.SEC_SLOT_LOADED true 252).put Reg.SEC_SLOT_BITS 2 252

/-- The AOS may release FAULT_N (02 R38, R50, R64): the standing image is applied, its self-test passed, no lockstep disagreement and no
trip. -/
def State.mayReleaseFault (s : State) : Bool :=
  s.pwr.imageApplied && !s.pwr.selfTestFailed && !s.pwr.lockstep && !s.pwr.trip

/-- CORE_FIRST_HEARTBEAT (19 R475, R477, R484): BOOT or RESTART becomes RUN; RESTARTED is queued after a restart, BOOT_DONE
posted after a boot of MC0; FAULT_N is released at MC0's first heartbeat (02 R38); SC runs its self-tests (16 R422). -/
def execCoreFirstHeartbeat (k : Fin 5) (engines : BitVec 16) (tests : Bool) (s : State) : Result :=
  let st := s.get Reg.MBX_CORE_STATUS_STATE k.val
  if !(st == 1 || st == 5) then .next s
  else
    let s1 := s.put Reg.MBX_CORE_STATUS_STATE 2 k.val
    let s2 := if st = 5 then s1.notice 0x02 k.val (s1.recentLockups k.val).length else s1
    let s3 := if k.val = 0 then
        let t := if s2.mayReleaseFault then { s2 with pwr := { s2.pwr with faultLow := false } } else s2
        if st = 1 then t.countStarts.bootDone else t
      else s2
    let s4 := if k.val = 0 then s3.countLockups else s3
    .next (if k.val = 4 then (s4.secSelfTest engines tests).restoreFwSlots else s4)

/-- COLOPHON_CORE_LOCKUP (19 R479): CC is restarted by the colophon die; hardware timing goes on; the third lockup within 10 s
leaves the colophon FAILED (17 R433).  The time is the colophon's own, in ticks of 100 ps. -/
def execColophonCoreLockup (s : State) : Result :=
  if !s.col.powered || s.get Reg.COL_STATUS_STATE = 4 then .next s
  else
    let t := s.get64 Reg.COL_TIME
    let locks := t :: s.col.ccLockups.filter (fun u => decide (t ≤ u + 10 ^ 11))
    let s1 := { s with col := { s.col with ccLockups := locks } }
    .next (if 3 ≤ locks.length then s1.put Reg.COL_STATUS_STATE 4 else s1)

end Sys2Proof.Machine
end

