-- ==== Sys2Proof/Machine/Exp.lean ====
section
/-!
DEFINITION. What leaves the galley and what clears the magazine: EXPORT_TAKE (09 R238; 10, "The write buffer"; 16 R405, R414),
GALLEY_READ and EGRESS_PLAY (09 R239; 03 R92), SANITIZE and FORMAT (09 R252, R253; 10 R282-R284).
-/
namespace Sys2Proof.Machine

/-- Complete formes of the take that lie at or after frame `from_`, in the order of the walk (06 R167), up to the first forme still in
assembly. -/
def State.stored (s : State) (seg from_ : Nat) : List Span :=
  (((s.take seg).spans.filter (fun x => (x.kind == .forme || x.kind == .openForme) && decide (from_ ≤ x.frame))).takeWhile
    (fun x => x.kind == .forme))

/-! ### EXPORT_TAKE -/

/-- Sectors of a unit that hold poisoned bytes; `bad` lists byte offsets of poisoned lines in the magazine's logical space. -/
def badSectors (u : Nat) (bad : List Nat) : Nat :=
  (bad.filter (fun a => a / 16384 == u)).foldl (fun m a => m ||| 2 ^ (a % 16384 / 4096)) 0

/-- Program one piece of an export (10 R265, R272; 01 R23): a whole unit, or blocks merged into the unit as it reads now. -/
def State.exportPiece (s : State) (puns : Puns) (ecc : NandEcc) (bad : List Nat) (keyed : Bool) (u off : Nat) (data : List Byte) :
    Option (State × Nat) :=
  let mine := sectorMask off data.length
  let (old, mask, s1) := if data.length = 16384 then ([], 0, s) else s.readUnit u (15 - mine) ecc
  let keep := s.unitKeyed u &&& (15 - mine)
  let poison := (mask &&& (15 - mine)) ||| badSectors u bad
  let d := if data.length = 16384 then data else patch old off data
  (s1.programUnit puns u d poison (if keyed then keep ||| mine else keep)).map (fun (t, p) =>
    let t1 := t.markPoison u (t.unitPoison u) poison 1
    let t2 := { t1 with mag := { t1.mag with hostUnits := t1.mag.hostUnits + 1 } }
    (t2.add64 Reg.MAG_HOST_WR 1, p))

/-- What an export's write has done: the bytes programmed, their mappings, and whether it met no good block with room. -/
structure ExportRun where
  bytes : Nat
  maps : List (Nat × Option Nat)
  full : Bool
  deriving DecidableEq, Repr

/-- Write whole blocks from byte `pos` of the logical space to the NAND, past the write buffer (10, "The write buffer"): buffered
content that they replace is dropped.  Where no good block has room, nothing is mapped: the answer tells after how many bytes. -/
def State.exportWrite (s : State) (puns : Puns) (ecc : NandEcc) (bad : List Nat) (keyed : Bool) (pos : Nat) (data : List Byte) :
    ExportRun × State :=
  let r := (piecesOf pos data.length).foldl (fun (a : ExportRun × State) p =>
    if a.1.full then a
    else
      match a.2.exportPiece puns ecc bad keyed p.1 p.2.1 ((data.drop a.1.bytes).take p.2.2) with
      | some (t1, pun) => ({ a.1 with bytes := a.1.bytes + p.2.2, maps := a.1.maps ++ [(p.1, some pun)] }, t1)
      | none => ({ a.1 with full := true }, a.2)) ({ bytes := 0, maps := [], full := false }, s)
  if r.1.full then r else (r.1, ((r.2.journalMap r.1.maps).bufDrop (r.1.maps.map Prod.fst)).checkFlushes.spareCheck)

/-- Blocks of an export are encrypted under its take key (16 R414), written, and counted; `frame` is the forme that they hold. -/
def State.exportBlocks (s : State) (k : Cmd) (puns : Puns) (ecc : NandEcc) (plain : List Byte) (bad : List Nat)
    (frame : Option Nat) : State :=
  let lbs := max 1 s.mag.lbs
  let n := (plain.length + lbs - 1) / lbs
  let first := k.lba + k.progress
  if k.fld 0x28 4 < k.progress + n then s.finish k.tag 0x0E k.progress false (k.lba + k.fld 0x28 4)
  else if s.lbaCount < first + n then s.finish k.tag 0x0E k.progress false (max first s.lbaCount)
  else
    let pos := first * lbs
    let clear := padTo (n * lbs) plain
    let data := match s.boundKey k.tag with
      | some key => ctrCrypt key (pos / 16) clear
      | none => clear
    let s0 := if k.keySlot < 248 then s.queueAes .take k.keySlot none false data.length else s
    let (run, t) := s0.exportWrite puns ecc (bad.map (pos + ·)) (s.boundKey k.tag).isSome pos data
    if run.full then t.finish k.tag 0x0D k.progress false ((pos + run.bytes) / lbs)
    else
      let seg := k.fld 0x18 1
      let done := k.progress + n
      match frame with
      | none => t.finish k.tag 0 done
      | some f =>
        let x := t.take seg
        (t.setTake seg { x with spans := x.spans.map (fun y => if y.kind == .forme && y.frame == f then { y with exported := true } else y) }).setCmd
          { k with begun := true, progress := done, detail := f + 1 }

/-- The next piece of an export that has begun: the next complete forme, or the summary once the take is CLOSED (09 R238). -/
def State.exportStep (s : State) (k : Cmd) (puns : Puns) (ecc : NandEcc) : State :=
  let seg := k.fld 0x18 1
  match s.stored seg k.detail with
  | x :: _ =>
    let a := s.segBase seg + x.off
    let got := s.galRead a x.bytes srcExport
    let b := got.1
    let ps := got.2.1
    let s1 := got.2.2
    s1.exportBlocks k puns ecc b (ps.map (fun l => max a (64 * l) - a)) (some x.frame)
  | [] => if s.takeState seg = 5 then s.exportBlocks k puns ecc (s.take seg).summary [] none else s

/-- EXPORT_TAKE (09 R238; 16 R405, R414; 06 R172): the first invocation begins the export, each goes on with one forme, the last
writes the summary's block.  `puns` names the places that the flash translation layer chose (log 60). -/
def execExportTake (c : Nat) (dmg : Damage) (puns : Puns) (s : State) (ecc : NandEcc := []) : Result :=
  s.onCmd c 0x13 fun s k =>
    if !s.takeNamed k || (k.fld 0x1C 1 == 0 && s.takeState (k.fld 0x18 1) != 5) then s.finish c 0x0A k.progress
    else
      match s.magRefuse k true with
      | some st => s.finish c st k.progress
      | none =>
        if !k.begun && k.keySlot != 0xFFFF &&
            (!s.mayUse k.keySlot useTake || s.flag Reg.SEC_SLOT_SPENT k.keySlot) then s.finish c 0x10 0
        else
          let s1 := if !k.begun && k.keySlot != 0xFFFF then
              (s.bindKey c k.keySlot).setFlag Reg.SEC_SLOT_SPENT true k.keySlot
            else s
          if s1.drainsRun && s1.mayProgram then (s1.strike dmg).exportStep k puns ecc else s1

/-! ### GALLEY_READ -/

/-- One forme's read before the formes that follow: formes, bytes, poisoned lines and the address of the first of them. -/
def formeFirst (a n : Nat) (b : List Byte) (ps : List Nat) (r : Nat × List Byte × List Nat × Option Nat × State) :
    Nat × List Byte × List Nat × Option Nat × State :=
  (r.1 + 1, b ++ r.2.1, ps.map (fun l => l - a / 64) ++ r.2.2.1.map (n / 64 + ·),
    match ps with | l :: _ => some (64 * l) | [] => r.2.2.2.1, r.2.2.2.2)

/-- Read formes back to back while they fit (09 R239): formes, bytes, poisoned lines of the transfer, first poisoned galley
address. -/
def State.readFormes (s : State) (seg room : Nat) : List Span → Nat × List Byte × List Nat × Option Nat × State
  | [] => (0, [], [], none, s)
  | x :: r =>
    let n := roundUp x.bytes 64
    let a := s.segBase seg + x.off
    if room < n then (0, [], [], none, s)
    else
      let got := s.galRead a n srcHost
      formeFirst a n got.1 got.2.1 (got.2.2.readFormes seg (room - n) r)

/-- Stored formes of the frames that a command names (09 R239). -/
def State.formesNamed (s : State) (k : Cmd) : List Span :=
  (s.take (k.fld 0x18 1)).spans.filter (fun x => x.kind == .forme && decide (k.fld 0x20 8 ≤ x.frame) &&
    decide (x.frame < k.fld 0x20 8 + k.fld 0x28 4))

/-- GALLEY_READ (09 R239, R247). -/
def execGalleyRead (c : Nat) (dmg : Damage) (s : State) : Result :=
  s.onCmd c 0x14 fun s k =>
    if !s.takeNamed k then s.finish c 0x0A 0
    else if !s.drainsRun then s
    else
      let fs := s.formesNamed k
      let got := (s.strike dmg).readFormes (k.fld 0x18 1) k.dataLen fs
      let n := got.1
      let b := got.2.1
      let bad := got.2.2.1
      let addr := got.2.2.2.1
      let s1 := got.2.2.2.2
      if n = 0 && !fs.isEmpty then s.finish c 0x02 0
      else
        let s2 := s1.deliver k b bad
        match addr with
        | none => s2.finish c 0 n
        | some a => s2.finish c 0x0C n true a

/-! ### EGRESS_PLAY -/

/-- Pieces of `n` bytes. -/
def chunksOf (n : Nat) : Nat → List Byte → List (List Byte)
  | 0, _ => []
  | fuel + 1, b => if b.isEmpty then [] else b.take n :: chunksOf n fuel (b.drop n)

/-- Send eight units of a stored forme from unit `first` on (03 R92; 06 R172): 56 bytes in 7 blocks each, dealt to the lanes in turn;
a unit that holds a byte of a poisoned line has header bits 0, 0.  Eight units are seven lines of the galley. -/
def State.playUnits (s : State) (p seg : Nat) (x : Span) (first : Nat) : State :=
  let a := s.segBase seg + x.off + 56 * first
  let n := min 448 (x.bytes - 56 * first)
  let got := s.galRead a n srcPlayback
  let w := max 1 (got.2.2.txWidth p)
  (chunksOf 56 8 got.1).zipIdx.foldl (fun (t : State) e =>
    let lo := a + 56 * e.2
    let bad := got.2.1.any (fun l => decide (64 * l < lo + 56) && decide (lo < 64 * l + 64))
    (wordsOf 7 (padTo 56 e.1)).foldl (fun (u : State) d => u.txSend p ((first + e.2) % w) (if bad then badBlock d else dataBlock d)) t)
    got.2.2

/-- Go on with a stored forme (03 R92): FS with CODED before its first unit, FE after its last. -/
def State.playStep (s : State) (k : Cmd) (p seg : Nat) (x : Span) : State :=
  let first := if x.frame = k.detail then k.unit else 0
  let s1 := if first = 0 then (s.txContent p true).txAll p (fsBlock x.frame 1) else s
  let s2 := s1.playUnits p seg x first
  if 56 * (first + 8) < x.bytes then s2.setCmd { k with begun := true, detail := x.frame, unit := first + 8 }
  else
    ((s2.txAll p (feBlock x.frame 0)).txContent p false).setCmd
      { k with begun := true, progress := k.progress + 1, detail := x.frame + 1, unit := 0 }

/-- An earlier play for the same port is outstanding (09 R239). -/
def State.playWaits (s : State) (k : Cmd) : Bool :=
  s.hq.cmds.any (fun d => d.op == 0x15 && d.fld 0x1C 1 == k.fld 0x1C 1 && decide (d.tag < k.tag))

/-- A play ends: the lanes of a forme that is cut are free again. -/
def State.playEnd (s : State) (k : Cmd) (p status : Nat) : State :=
  (if k.unit = 0 then s else s.txContent p false).finish k.tag status k.progress

/-- EGRESS_PLAY (09 R239, R250; 03 R92): each invocation sends eight units; a play that was caught ends after its forme.  While drains
are paused a lane that plays sends IDLE blocks between units (06 R169). -/
def execEgressPlay (c : Nat) (dmg : Damage) (s : State) : Result :=
  s.onCmd c 0x15 fun s k =>
    let p := k.fld 0x1C 1
    let loop := k.fld 0x1D 1 == 1
    match (if k.unit = 0 then k.caught else none) with
    | some st => s.finish c st k.progress
    | none =>
      if s.playWaits k then s.setCmd k
      else if !s.takeNamed k then s.playEnd k p 0x0A
      else if 31 < p || s.get Reg.LANE_PORT_CTL_TX_SRC p != 1 then s.playEnd k p 0x02
      else if !s.drainsRun then (if s.gal.paused && k.unit != 0 then s.txAll p idleBlock else s)
      else if k.unit = 0 && s.txWaits p then s
      else
        let fs := s.formesNamed k
        let rest := fs.filter (fun x => decide (k.detail ≤ x.frame))
        match (if rest.isEmpty && loop then fs else rest) with
        | [] => if loop then s else s.playEnd k p 0
        | x :: r =>
          let s1 := (s.strike dmg).playStep k p (k.fld 0x18 1) x
          if r.isEmpty && !loop && decide (x.bytes ≤ 56 * ((if x.frame = k.detail then k.unit else 0) + 8)) then
            s1.finish c 0 (k.progress + 1)
          else s1

/-! ### SANITIZE and FORMAT -/

/-- Phases of an operation (09 R252, R253; log 141): BLOCK_ERASE erases one die's blocks after the other; then the new root; then, where
GALLEY asks for it, the idle segments. -/
def State.sanitizePhases (s : State) (j : SanitizeJob) : Nat :=
  (if j.kind = 1 then s.mag.dies.length else 0) + 1 + (if j.galley then 1 else 0)

/-- Append the state of the operation to the SANITIZE journal (09 R253; 18 R466; the payload's layout is log 68). -/
def State.sanitizeJournal (s : State) (j : SanitizeJob) (st progress : Nat) : State :=
  (s.journalPut 2 0xE40000 1 [BitVec.ofNat 8 j.kind, BitVec.ofNat 8 st, BitVec.ofNat 8 progress, BitVec.ofNat 8 (j.lbs / 4096),
    if j.galley then 1 else 0, BitVec.ofNat 8 (j.phase % 256), BitVec.ofNat 8 (j.phase / 256)]).journalCompact 2 0xE40000

/-- `HQ.SANITIZE` shows the operation's state (09). -/
def State.showSanitize (s : State) (kind st progress : Nat) (resumed : Bool) : State :=
  ((((s.put Reg.HQ_SANITIZE_KIND kind).put Reg.HQ_SANITIZE_STATE st).put Reg.HQ_SANITIZE_PROGRESS progress).setFlag
    Reg.HQ_SANITIZE_RESUMED resumed)

/-- A magazine that can be sanitized: MAG RUNNING, discovery over (10 R258, R283), and the NAND may be written (02 R63). -/
def State.sanitizable (s : State) : Bool :=
  s.get Reg.MAG_STATUS_STATE == 2 && decide (2 ≤ s.magState) && decide (s.magState ≤ 6) && s.mag.module.isSome && s.mayProgram

/-- Factory bad blocks of the dies used (10 R279). -/
def State.factoryBad (s : State) : List Nat :=
  (s.mag.dies.map (fun d => d.factoryBad.map (fun b => d.num * d.blocks + b))).flatten

/-- BLOCK_ERASE erases the good blocks of one die (10 R284). -/
def State.eraseDie (s : State) (d : Die) : State :=
  (((List.range d.blocks).map (fun b => d.num * d.blocks + b)).filter s.blockGood).foldl State.eraseBlock s

/-- GALLEY = 1 (09 R252): zeros with POISON clear over every segment whose take is IDLE. -/
def State.zeroSegments (s : State) : State :=
  ((List.range 16).filter (fun k => s.takeState k == 0)).foldl (fun (t : State) k =>
    t.galZero (t.segBase k) (t.get Reg.CAP_SEG_CFG_SIZE k * 2 ^ 26)) s

/-- The new root of the operation (10 R282-R284; 09 R252): buffer discarded, a new at-rest key and binding in a root that alone remains,
nothing mapped, no poison; blocks that hold old data are erased in the background. -/
def State.wipe (s : State) (j : SanitizeJob) : State :=
  let s1 := s.discardBuffer (s.mag.bufTag != s.magId)
  let m := s1.nand
  let old := if s1.mounted then s1.mag.root else nandBestRoot m
  let fresh := j.kind == 3 || !s1.mounted
  let lbs := if j.kind = 3 then j.lbs else match old with | some r => r.lbs | none => 16384
  let units := if fresh then s1.rawUnits * 7 / 8 else s1.mag.exportUnits
  let kept := match old with | some r => r.bad | none => []
  let bad := if j.kind = 3 || old.isNone then kept ++ s1.factoryBad.filter (fun b => !kept.contains b) else kept
  let gen := nandMaxGen m + 1
  let (key, s2) := s1.freeBytes 32
  let binding : Binding := { magId := s1.magId, serial := deviceSerial, key, gen, valid := true }
  let r : Root := { gen, lbs, exportUnits := units, snapshot := [], journalFrom := 1, bad, binding }
  let held := (m.units.map (fun e => s1.blockOf e.1)).eraseDups
  let s3 := s2.setNand { m with roots := putRoot [] r, journal := [], poison := [], overflow := false }
  let top := m.units.foldl (fun n u => max n (u.2.seq + 1)) 1
  ({ s3 with mag := { s3.mag with map := [], missing := false, lbs, exportUnits := units, root := some r, generation := gen + 1,
                                  journalSeq := 1, unitSeq := top, refreshQ := [], eraseQ := held } } : State).mapForget.becomeReady

/-- One phase of the operation; the last one ends it (09 R253). -/
def State.sanitizeStep (s : State) (j : SanitizeJob) (resumed : Bool) : State :=
  let dies := if j.kind = 1 then s.mag.dies else []
  let s1 := match dies[j.phase]? with
    | some d => s.eraseDie d
    | none => if j.phase = dies.length then s.wipe j else s.zeroSegments
  let n := s.sanitizePhases j
  let j1 := { j with phase := j.phase + 1 }
  if n ≤ j1.phase then
    ((({ s1 with mag := { s1.mag with sanitize := none } } : State).sanitizeJournal j1 2 100).showSanitize j.kind 2 100 resumed)
  else
    ((({ s1 with mag := { s1.mag with sanitize := some j1 } } : State).sanitizeJournal j1 1 (100 * j1.phase / n)).showSanitize j.kind 1
      (100 * j1.phase / n) resumed)

/-- SANITIZE and FORMAT (09 R252, R253): the first invocation begins once every earlier command that uses the magazine has
completed, each further one performs a phase. -/
def State.sanitizeCmd (s : State) (k : Cmd) (kind lbs : Nat) (galley : Bool) : State :=
  let mine := match s.mag.sanitize with | some j => if j.cmd == some k.tag then some j else none | none => none
  match mine with
  | some j =>
    if !s.mayProgram then s
    else
      let t := s.sanitizeStep j false
      if t.mag.sanitize.isNone then t.finish k.tag 0 0 else t
  | none =>
    if s.sanitizing k.tag then s.finish k.tag 0x14 0
    else if s.hq.cmds.any (fun d => usesMag d.op && decide (d.tag < k.tag)) then s
    else if !s.sanitizable then (s.showSanitize kind 3 0 false).finish k.tag 0x11 0
    else
      let j : SanitizeJob := { kind, lbs, galley, cmd := some k.tag }
      (({ s with mag := { s.mag with sanitize := some j } } : State).sanitizeJournal j 1 0).showSanitize kind 1 0 false

/-- SANITIZE (09 R252). -/
def execSanitize (c : Nat) (s : State) : Result :=
  s.onCmd c 0x47 fun s k => s.sanitizeCmd k (k.fld 0x18 1) 0 (k.fld 0x19 1 == 1)

/-- FORMAT (09 R252; 10 R261). -/
def execFormat (c : Nat) (s : State) : Result :=
  s.onCmd c 0x48 fun s k => s.sanitizeCmd k 3 (if k.fld 0x18 1 = 1 then 16384 else 4096) false

/-- The newest entry of the SANITIZE journal after a reset (09 R253): `HQ.SANITIZE`, and an operation to resume. -/
def State.loadSanitize (s : State) : State :=
  match currentOf (s.journalEntries 2 0xE40000) 1 with
  | none => { s with mag := { s.mag with sanitize := none } }
  | some (i, g, _, _, _) =>
    let b := s.flashRead (0xE40000 + 4096 * i + 32 * g + 8) 7
    let at_ := fun (n : Nat) => (b.getD n 0).toNat
    let s1 := s.showSanitize (at_ 0) (at_ 1) (at_ 2) (at_ 1 == 1)
    let j : SanitizeJob := { kind := at_ 0, lbs := 4096 * at_ 3, galley := at_ 4 == 1, phase := at_ 5 + 256 * at_ 6, cmd := none }
    { s1 with mag := { s1.mag with sanitize := if at_ 1 = 1 then some j else none } }

/-- SANITIZE_RESUME (09 R253): an operation that a reset or power loss interrupted goes on, a phase each time; it has no completion
entry. -/
def execSanitizeResume (s : State) : Result :=
  match s.mag.sanitize with
  | some j =>
    if j.cmd.isSome || !s.sanitizable || !([0, 1, 2].all s.coreRuns) || s.saving then .next s else .next (s.sanitizeStep j true)
  | none => .next s

end Sys2Proof.Machine
end

