-- ==== Sys2Proof/Machine/Jtag.lean ====
section
/-!
DEFINITION. The boundary scan and the debug port's reset (22 R530, 19 R474, 21 R504).  A scan is one step: the instruction is
taken, then the bits `tdi` are shifted through the register it selects, first bit first.
-/
namespace Sys2Proof.Machine

/-- Shift bits through a register: first out is its last element (22 R530, IEEE 1149.1). -/
def shiftThrough (reg tdi : List Bool) : List Bool × List Bool :=
  let all := reg ++ tdi
  (all.take tdi.length, all.drop tdi.length)

/-- Bits of a number, least significant first. -/
def bitList : Nat → Nat → List Bool
  | 0, _ => []
  | n + 1, v => (v % 2 == 1) :: bitList n (v / 2)

/-- A scan through the one-bit bypass register, which captures 0 (IEEE 1149.1). -/
def State.scanBypass (s : State) (tdi : List Bool) : State :=
  let r := shiftThrough [false] tdi
  ({ s with jtag := { s.jtag with bypass := r.2.headD false } }).emit (.tdo r.1)

/-- LD_EN is held low and every bridge keeps all its switches off (22 R530). -/
def State.testOutputs (s : State) : State := s.lasersOff.loopsOff.spindleOff.bridgesOff 3 64

/-- TAP_RESET (19 R474, R487; 21 R504): Test-Logic-Reset increments DBG's incarnation, releases its quoins and sets the
reset event; the instruction becomes IDCODE (IEEE 1149.1). -/
def execTapReset (s : State) : Result :=
  let s1 := s.orphan (0x02 + 32 * s.mbx.dbgInc)
  let s2 := { s1 with mbx := { s1.mbx with dbgInc := (s1.mbx.dbgInc + 1) % 8 }, jtag := { s1.jtag with instr := 2 } }
  .next ((s2.setFlag Reg.DBG_STATUS_TAP_ACTIVE false).event Reg.DBG_STATUS_TAP_RESET_EV)

/-- The TAP takes an instruction: 1 BYPASS, 2 IDCODE, 3 SAMPLE/PRELOAD, 4 EXTEST, 5 CLAMP, 6 HIGHZ (MODEL's numbers). -/
def State.tapInstr (s : State) (n : Nat) : State :=
  ({ s with jtag := { s.jtag with instr := n } }).setFlag Reg.DBG_STATUS_TAP_ACTIVE true

/-- BYPASS (22 R530). -/
def execBypass (tdi : List Bool) (s : State) : Result := .next ((s.tapInstr 1).scanBypass tdi)

/-- IDCODE (22 R530): the identification register captures 0x1425_6A7B and leaves bit 0 first. -/
def execIdcode (tdi : List Bool) (s : State) : Result :=
  .next ((s.tapInstr 2).emit (.tdo (shiftThrough (bitList 32 0x14256A7B) tdi).1))

/-- SAMPLE_PRELOAD (22 R530): the chain captures the pins and takes the preload. -/
def execSamplePreload (pins tdi : List Bool) (s : State) : Result :=
  let r := shiftThrough pins tdi
  .next (({ s.tapInstr 3 with jtag := { (s.tapInstr 3).jtag with chain := r.2 } }).emit (.tdo r.1))

/-- EXTEST (22 R530): the chain drives its outputs, LD_EN low and bridges off. -/
def execExtest (tdi : List Bool) (s : State) : Result :=
  let t := (s.tapInstr 4).testOutputs
  let r := shiftThrough t.jtag.chain tdi
  .next (({ t with jtag := { t.jtag with chain := r.2 } }).emit (.tdo r.1))

/-- CLAMP (22 R530): outputs held from the chain, bypass selected, LD_EN low and bridges off. -/
def execClamp (tdi : List Bool) (s : State) : Result := .next (((s.tapInstr 5).testOutputs).scanBypass tdi)

/-- HIGHZ (22 R530): covered outputs in high impedance, bypass selected, LD_EN low and bridges off. -/
def execHighz (tdi : List Bool) (s : State) : Result := .next (((s.tapInstr 6).testOutputs).scanBypass tdi)

end Sys2Proof.Machine
end

