-- ==== Sys2Proof/Machine/Map.lean ====
section
/-!
DEFINITION. The map cache (11): accesses, fills, victims, dirty lines, errors and invalidation.
-/
namespace Sys2Proof.Machine

/-- A map-cache address that is used (11 R288): the map, or management-core data. -/
def mapAddrOk (c : Nat) : Bool := decide (c < 2 ^ 34) || (decide (2 ^ 39 ≤ c) && decide (c < 2 ^ 39 + 2 ^ 32))

/-- The line number of a held way (11 R289). -/
def heldLine (key : Nat) (m : MapLine) : Nat :=
  m.tag * 2 ^ 14 + (key / 16 ^^^ (m.tag % 2 ^ 14) ^^^ (m.tag / 2 ^ 14)) % 2 ^ 14

/-- Round-robin order of requesters at a bank (11 R292). -/
def State.bankOrder (s : State) (set : Nat) : List Nat :=
  let last := s.map.rr.getD (set % 4) 0
  (List.range 5).map (fun i => (last + 1 + i) % 5)

/-- Requester `r` was served last at the set's bank (11 R292). -/
def State.served (s : State) (set r : Nat) : State := { s with map := { s.map with rr := s.map.rr.set (set % 4) r } }

/-- Perform an access on a held line (11 R292): a write by MC1 or MC2 that changes it makes it dirty; those of other requesters
are also written to the backing store (log 70). -/
def State.perform (s : State) (key : Nat) (m : MapLine) (a : MapAccess) : State :=
  let off := a.addr % 256
  match a.write with
  | none => (s.served (key / 16) a.req).emit (.reply ((m.data.drop off).take a.size) [])
  | some w =>
    let d := patch m.data off (w.take a.size)
    let own := a.req == 1 || a.req == 2
    let s1 := (s.setLine key (some { m with data := d, dirty := m.dirty || (own && d != m.data) })).served (key / 16) a.req
    (if own then s1 else s1.writeBack (a.addr / 256) d).countDirty

/-- Stream detector of a requester: last line, run of misses, active (11 R296). -/
def State.stream (s : State) (r : Nat) : Nat × Nat × Bool := lookupD (0, 0, false) (s.map.streams.map (fun e => (e.1, e.2))) r

/-- Set a stream detector. -/
def State.setStream (s : State) (r : Nat) (v : Nat × Nat × Bool) : State :=
  { s with map := { s.map with streams := insertKey s.map.streams r v } }

/-- A hit keeps the sequence only on its last line or the next (11 R296). -/
def State.streamHit (s : State) (r l : Nat) : State :=
  let (last, run, act) := s.stream r
  if run = 0 || l = last then s
  else if l = last + 1 then s.setStream r (l, run, act)
  else s.setStream r (l, 0, false)

/-- A miss extends the run, or begins one (11 R296). -/
def State.streamMiss (s : State) (r l : Nat) : State :=
  let (last, run, _) := s.stream r
  let n := if run != 0 && l = last + 1 then run + 1 else 1
  let lim := s.get Reg.MAP_CFG_STREAM_RUN
  s.setStream r (l, n, lim != 0 && decide (lim ≤ n))

/-- A miss starts a fill or joins the one in flight (11 R293). -/
def State.mapMiss (s : State) (a : MapAccess) (streaming : Bool) : State :=
  let l := a.addr / 256
  let s1 := (s.add64 Reg.MAP_REQ_MISSES 1 a.req).streamMiss a.req l
  let s2 := { s1 with map := { s1.map with waiting := s1.map.waiting ++ [a] } }
  if s2.map.fills.any (fun f => f.line == l) then
    { s2 with map := { s2.map with fills := s2.map.fills.map (fun f =>
        if f.line == l then { f with reqs := f.reqs ++ [a.req] } else f) } }
  else
    let f : MapFill := { line := l, reqs := [a.req], streaming := streaming || (s2.stream a.req).2.2, owner := a.req, arrived := false }
    { s2 with map := { s2.map with fills := s2.map.fills ++ [f] } }

/-- A hit (11 R292, R295). -/
def State.mapHit (s : State) (key : Nat) (m : MapLine) (a : MapAccess) : State :=
  let m1 := { m with age := 0 }
  (((s.setLine key (some m1)).add64 Reg.MAP_REQ_HITS 1 a.req).streamHit a.req (a.addr / 256)).perform key m1 a

/-- An access whose line shows a double-bit error (11 R300). -/
def State.mapDouble (s : State) (key : Nat) (m : MapLine) (a : MapAccess) (streaming : Bool) : State :=
  let l := a.addr / 256
  let s1 := s.event Reg.MAP_STATUS_UE_EV
  if !isMapLine l then s1.emit .busFault
  else
    let s2 := (s1.setLine key none).countDirty
    if m.dirty then
      let s3 := (s2.inc Reg.MAP_UE_DIRTY)
      ({ s3 with map := { s3.map with repair := l :: s3.map.repair, store := eraseKey s3.map.store l, loaded := eraseKey s3.map.loaded l } } : State).mapMiss a streaming
    else (s2.inc Reg.MAP_UE_CLEAN).mapMiss a streaming

/-- MAP_CACHE_ACCESS (11 R288, R290, R292, R293, R300).  Requests wait during an invalidation (R301), and a requester with a miss
outstanding issues nothing further. -/
def execMapCacheAccess (r : Fin 5) (addr size : Nat) (w : Option (List Byte)) (err : SramErr) (streaming : Bool) (s : State) :
    Result :=
  let a : MapAccess := { req := r.val, addr, size, write := w }
  if s.flag Reg.MAP_STATUS_INVAL_BUSY || s.map.waiting.any (fun x => x.req == r.val) || !(size == 4 || size == 8 || size == 64) ||
      addr % size != 0 then .next s
  else if !mapAddrOk addr then .next (s.emit .busFault)
  else
    let st := streaming && (r.val == 1 || r.val == 2)
    match s.findWay (addr / 256) with
    | none => .next (s.mapMiss a st)
    | some way =>
      let key := 16 * lineSet (addr / 256) + way
      match s.map.lines.lookup key, err with
      | none, _ => .next (s.mapMiss a st)
      | some m, .none => .next (s.mapHit key m a)
      | some m, .single => .next (((s.inc Reg.MAP_CE).event Reg.MAP_STATUS_CE_EV).mapHit key m a)
      | some m, .double => .next (s.mapDouble key m a st)

/-- Candidate ways for a fill by requester `r` (11 R295). -/
def State.candidates (s : State) (r set : Nat) : List Nat :=
  (List.range 16).filter (fun w => (s.get Reg.MAP_WAYMASK_MASK r).testBit w &&
    !(s.paged && (match s.map.lines.lookup (16 * set + w) with | some m => m.dirty | none => false)))

/-- The victim way, and the state with the candidates aged (11 R295). -/
def State.victim (s : State) (r set : Nat) : Option (Nat × State) :=
  let cand := s.candidates r set
  let age := fun w => match s.map.lines.lookup (16 * set + w) with | some m => m.age | none => 0
  match cand.find? (fun w => (s.map.lines.lookup (16 * set + w)).isNone) with
  | some w => some (w, s)
  | none =>
    if cand.isEmpty then none
    else
      let top := cand.foldl (fun m w => max m (age w)) 0
      let s1 := cand.foldl (fun t w =>
        match t.map.lines.lookup (16 * set + w) with
        | some m => t.setLine (16 * set + w) (some { m with age := m.age + (3 - top) })
        | none => t) s
      (cand.find? (fun w => age w + (3 - top) == 3)).map (fun w => (w, s1))

/-- A victim leaves its way (11 R297): offered to the galley-resident map; a clean one is accepted only while MOUNTING has not
loaded its line yet. -/
def State.evict (s : State) (key : Nat) : State :=
  match s.map.lines.lookup key with
  | none => s
  | some m =>
    let l := heldLine key m
    let s1 := s.setLine key none
    if !isMapLine l then (if m.dirty then (s1.writeBack l m.data).inc Reg.MAP_WRITEBACKS else s1)
    else if s.paged then s1
    else
      let s2 := s1.inc Reg.MAP_OFFERED
      if m.dirty then (s2.writeBack l m.data).inc Reg.MAP_WRITEBACKS
      else if s.magState = 1 && (s.map.loaded.lookup l).isNone then s2.writeBack l m.data
      else s2.inc Reg.MAP_DECLINED

/-- Put a line into a way chosen for requester `r` (11 R295); `none` without a candidate. -/
def State.insertLine (s : State) (r l : Nat) (streaming : Bool) (d : List Byte) : Option State :=
  let set := lineSet l
  (s.victim r set).map (fun (w, t) =>
    let t1 := (t.evict (16 * set + w)).setLine (16 * set + w)
      (some { tag := lineTag l, age := if streaming then 3 else 1, dirty := false, data := d })
    (if streaming then t1.inc Reg.MAP_REQ_STREAM_FILLS r else t1).countDirty)

/-- Serve the requesters that joined a fill, in the bank's order (11 R292, R293). -/
def State.serveFill (s : State) (l : Nat) : State :=
  let mine := fun (r : Nat) => s.map.waiting.filter (fun a => a.req == r && a.addr / 256 == l)
  let order := ((s.bankOrder (lineSet l)).map mine).flatten
  let s1 := { s with map := { s.map with waiting := s.map.waiting.filter (fun a => a.addr / 256 != l),
                                         fills := s.map.fills.filter (fun f => f.line != l),
                                         repair := s.map.repair.filter (· != l) } }
  order.foldl (fun t a =>
    match t.findWay l with
    | some w =>
      (match t.map.lines.lookup (16 * lineSet l + w) with
       | some m => t.perform (16 * lineSet l + w) m a
       | none => t)
    | none => t) s1

/-- The other lines of a map page (11 R294): inserted as streaming fills where their sets allow. -/
def State.pageLines (s : State) (r l : Nat) : State :=
  (List.range 64).foldl (fun t i =>
    let x := l / 64 * 64 + i
    if x = l || (t.findWay x).isSome then t else (t.insertLine r x true (t.backing x).1).getD t) s

/-- A fill's data goes into the cache, or waits for a candidate (11 R294, R295). -/
def State.placeFill (s : State) (f : MapFill) : Option State :=
  let s0 := if (s.findWay f.line).isSome then some s
    else (s.backing f.line).2.insertLine f.owner f.line f.streaming (s.backing f.line).1
  s0.map (fun t =>
    let t1 := if s.paged && isMapLine f.line && (s.stream f.owner).2.2 then t.pageLines f.owner f.line else t
    t1.serveFill f.line)

/-- A fill's source is served: the galley's FW class for a map area and for housekeeping data (11 R294; 06 R169). -/
def State.fillRuns (s : State) (l : Nat) : Bool := (isMapLine l && s.paged) || s.bufRuns

/-- MAP_FILL_COMPLETE (11 R293-R295). -/
def execMapFillComplete (line : Nat) (s : State) : Result :=
  match s.map.fills.find? (fun f => f.line == line) with
  | none => .next s
  | some f =>
    if !s.fillRuns line then .next s
    else match s.placeFill f with
    | some t => .next t
    | none => .next { s with map := { s.map with fills := s.map.fills.map (fun g => if g.line == line then { g with arrived := true } else g) } }

/-- MAP_FILL_RETRY (11 R295): one MGMT cycle's wait for a candidate, counted in units of 1,024 cycles. -/
def execMapFillRetry (line : Nat) (s : State) : Result :=
  match s.map.fills.find? (fun f => f.line == line && f.arrived) with
  | none => .next s
  | some f =>
    let n := lookupD 0 s.map.stall f.owner + 1
    let s1 := { s with map := { s.map with stall := insertKey s.map.stall f.owner (n % 1024) } }
    let s2 := if n = 1024 then s1.inc Reg.MAP_REQ_STALL f.owner else s1
    .next ((s2.placeFill f).getD s2)

/-- Write back the dirty lines that `p` selects, which become clean (11 R297, R298, R302). -/
def State.cleanLines (s : State) (p : Nat → Bool) : State :=
  ((s.map.lines.filter (fun e => p e.1 && e.2.dirty)).foldl (fun t e =>
    ((t.setLine e.1 (some { e.2 with dirty := false })).writeBack (heldLine e.1 e.2) e.2.data).inc Reg.MAP_WRITEBACKS) s).countDirty

/-- MAP_DIRTY_CLEAN (11 R298): in demand-paged mode MC1 rewrites the map pages of a set's dirty lines. -/
def execMapDirtyClean (set : Nat) (s : State) : Result :=
  if s.paged && s.unitRuns 8 && s.mayProgram then .next (s.cleanLines (fun k => k / 16 == set)) else .next s

/-- Invalidation begins (11 R301): dirty lines are discarded. -/
def State.mapInvalidate (s : State) : State :=
  let s1 := { s with map := { s.map with lines := [], fills := [], waiting := [], streams := [], repair := [], stall := [] } }
  (s1.setFlag Reg.MAP_STATUS_INVAL_BUSY true).put Reg.MAP_DIRTY 0

/-- MAP_INVALIDATION_COMPLETE (11 R301). -/
def execMapInvalidationComplete (s : State) : Result := .next (s.setFlag Reg.MAP_STATUS_INVAL_BUSY false)

/-- MAP_WAYMASK_WRITE (11 R291): mask 0x0000 is reserved (00 R12). -/
def execMapWaymaskWrite (r : Fin 5) (v : Word) (s : State) : Result := .next (s.writeAt Reg.MAP_WAYMASK_MASK r.val v)

/-- MAP_CNT_CLR (11, "Registers"): `DIRTY` is a level and stays. -/
def execMapCntClr (s : State) : Result :=
  let s1 := (s.zeroWords Reg.MAP_CE.base 3).zeroWords Reg.MAP_OFFERED.base 3
  .next ((List.range 5).foldl (fun t r => t.zeroRow Reg.MAP_REQ_HITS r 6) s1)

end Sys2Proof.Machine
end

