-- ==== Sys2Proof/Machine/Save.lean ====
section
/-!
DEFINITION. Ride-through and the chrysalis save (02 R54-R58; 10 R277): entry to RIDE, entry to SAVE, the save's steps and its record.
A condition on the supply is judged on the samples that its command brings.
-/
namespace Sys2Proof.Machine

/-- Vector 2: supply, chrysalis and T_WARN events (08 R207). -/
def State.powerEvent (s : State) : State := s.signal 0 2

/-- A sense code of 14 bits lies below a threshold in 0.1 V (02 R51: full scale 1.2 V, times VDIV). -/
def State.voltsBelow (s : State) (code tenths : Nat) : Bool := decide (code * 12 * s.get Reg.PWR_SENSE_CFG_VDIV < tenths * 16384)

/-- The current code is above IBUS_RETURN, 0.1 A units (02 R52; IDIV mA per mV). -/
def State.currentAbove (s : State) (code : Nat) : Bool :=
  decide (s.get Reg.PWR_SENSE_CFG_IBUS_RETURN * 100 * 16384 < code * 1200 * s.get Reg.PWR_SENSE_CFG_IDIV)

/-- A magazine takes what the buffer holds: MAG RUNNING with one mounted READY or READ_ONLY (02 R41) whose channels are started (02 R37), the galley out of self-refresh,
no T_SHUT deferral, in which no program is issued (02 R63). -/
def State.magTakes (s : State) : Bool := s.get Reg.MAG_STATUS_STATE == 2 && s.mounted && s.galActive && s.pwr.nandOn && !s.pwr.deferral

/-- RIDE (02 R55): archive write stopped as a resumable sweep stop, LD_EN low, spindle braked regeneratively, an event; the
calibration run in progress is abandoned (20 R491). -/
def State.enterRide (s : State) : State :=
  let s1 := (s.put Reg.PWR_HOLDUP_STATUS_STATE 1).abandonCal
  let s2 := if s1.och.job.isSome then (s1.archiveStop (some 0x15)).stopMove 0 else s1
  (s2.lasersOff.spindleBrake.powerEvent).budget

/-- Takes that are over, with the frame of their last complete forme (02 R58); 0 without one. -/
def State.closedTakes (s : State) : List (Nat × Nat) :=
  ((List.range 16).filter (fun k => decide (4 ≤ s.takeState k))).map (fun k =>
    (s.takeId k, ((((s.take k).spans.filter (fun x => x.kind == .forme)).getLast?).map Span.frame).getD 0))

/-- The record's bytes (02 R58); the spec gives its contents, the layout is ours (log 71). -/
def Chrysalis.bytes (r : Chrysalis) : List Byte :=
  leBytes 1 r.cause ++ leBytes 1 r.lastStep ++ leBytes 2 r.takes.length ++ leBytes 8 r.failTime ++ leBytes 8 r.saveTime ++
    leBytes 8 r.committed ++ leBytes 8 r.unsaved ++ (r.takes.map (fun t => leBytes 2 t.1 ++ leBytes 8 t.2)).flatten

/-- An entry of the CHRYSALIS journal: KIND 1 SAVE_BEGUN, 2 RECORD (18 R466, R465). -/
def State.chrysalisEntry (s : State) (kind : Nat) (payload : List Byte) : State :=
  (s.journalPut 1 0xE00000 kind payload).journalCompact 1 0xE00000

/-- Flash operations at SAVE and at the T_SHUT deferral (18 R458): an erase is aborted, new host commands are refused. -/
def State.holdFlash (s : State) : State :=
  let s1 := s.efcAbortErase true
  { s1 with efc := { s1.efc with refuse := true } }

/-- SAVE begins (02 R54, R56): capture stops and takes close, fetching stops, SAVE_BEGUN is journalled.  Causes of the record (log 71):
1 FAIL, 2 reserve reached, 3 a reset asserted in RIDE, 4 FAIL in a T_SHUT deferral. -/
def State.enterSave (s : State) (cause : Nat) : State :=
  let r : Chrysalis := { cause, failTime := s.pwr.record.failTime, saveTime := s.now, unsaved := s.dirty }
  let s1 := { s with pwr := { s.pwr with record := r } }
  let s2 := ((s1.put Reg.PWR_HOLDUP_STATUS_STATE 2).powerEvent.budget).haltCapture
  let s3 := { s2 with hq := { s2.hq with stopped := true } }
  (s3.abandonCal.holdFlash).chrysalisEntry 1 r.bytes

/-- The record as it stands is written to the magazine's reserved area and to the journal (02 R56, R58; 10 R277). -/
def State.writeRecord (s : State) (upTo : Nat) : State :=
  let r := { s.pwr.record with takes := s.closedTakes, lastStep := upTo }
  let s1 := { s with pwr := { s.pwr with record := r } }
  let s2 := if s1.magTakes then s1.setNand { s1.nand with chrysalis := r.bytes } else s1
  s2.chrysalisEntry 2 r.bytes

/-- The save's commit (02 R56; 10 R277): as much of the buffer as the magazine takes; the rest is counted as unsaved (02 R58, R61). -/
def State.saveCommit (s : State) : State :=
  let d := s.dirty
  let s1 := if s.magTakes then s.commitAllUnits else s
  { s1 with pwr := { s1.pwr with record := { s1.pwr.record with committed := d - s1.dirty, unsaved := s1.dirty } } }

/-- SAVED, with its event; the save counts in `RST.CAUSE` (02 R40, R54). -/
def State.saved (s : State) : State :=
  let s1 := ((s.put Reg.PWR_HOLDUP_STATUS_STATE 3).powerEvent).cause Reg.RST_CAUSE_CHRYSALIS
  { s1 with pwr := { s1.pwr with nandOn := false } }

/-- A save in progress ends early (02 R57): no record follows SAVE_BEGUN; the state reads SAVED, so that a reset leaves it (log 72). -/
def State.endSaveEarly (s : State) : State := if s.get Reg.PWR_HOLDUP_STATUS_STATE = 2 then s.saved else s

end Sys2Proof.Machine
end

