-- ==== Sys2Proof/Machine/Reset.lean ====
section
/-!
DEFINITION. Resets (02 R38-R45): the reset matrix of R40, the steps of R41, the start of the device after a reset, hot reset and
FLR (R42; 08 R222, R223).  A reset's ordered steps happen in one command (log 73).
-/
namespace Sys2Proof.Machine

/-! ### What a reset clears -/

/-- Offsets of the COL registers and the record store, which no reset of the main die covers (17 R430). -/
def isCol (k : Nat) : Bool := decide (2 ^ 32 ≤ k) && decide (k < 2 ^ 32 + 0xF0000)

/-- Configuration space and MSI-X table of function 0 or 1 (02 R40). -/
def isCfg (fn k : Nat) : Bool :=
  k / 2 ^ 32 == 2 + fn || (if fn = 0 then k / 2 ^ 32 == 4 else decide (2 ^ 32 + 0xF0000 ≤ k) && decide (k < 2 ^ 33))

/-- Values that a reset keeps are put back: fields with their element. -/
def State.keepFlds (s old : State) (fs : List (Fld × Nat)) : State := fs.foldl (fun (t : State) e => t.put e.1 (old.get e.1 e.2) e.2) s

/-- Registers whose key fails `p` take their reset values, their shadows 0. -/
def State.clearRegs (s : State) (p : Nat → Bool) : State := ({ s with regs := skeep s.regs p } : State).clearShadows p

/-- Registers of the page of unit `n` take their reset values: those of the image of the last selection (18 R472). -/
def State.pageReset (s : State) (n : Nat) : State :=
  (s.clearRegs (fun k => k / 0x100000 != n)).applyRecords s.efc.image (fun k => k / 0x100000 == n)

/-- Words that read what the part and the image fix: STACK_PRESENT, CAP_UNITS (06, `GAL.STATUS`, `GAL.REGION`). -/
def State.asBuilt (s : State) : State :=
  let s1 := s.put Reg.GAL_STATUS_STACK_PRESENT (2 ^ s.part.stackCount - 1)
  s1.put Reg.GAL_REGION_CAP_UNITS (s1.mapBase / 2 ^ 26)

/-- The flash operation that runs is cut (18 R458): a program leaves a marginal granule of free content (log 4), an erase leaves its
sector unusable. -/
def State.cutFlash (s : State) : State :=
  match s.efc.run with
  | none => s
  | some r =>
    let s1 : State := { s with efc := { s.efc with run := none } }
    match r.op with
    | .program =>
      let (b, s2) := s1.freeBytes 32
      s2.flashPut r.addr b
    | .otpProgram =>
      let (b, s2) := s1.freeBytes 32
      s2.otpPut r.addr b
    | .sectorErase => { s1 with efc := { s1.efc with dead := (r.addr / 4096) :: s1.efc.dead } }
    | .blankCheck => s1

/-- What the flash controller keeps of a running program across a reset (18 R458): busy bits and SEQ. -/
def State.keepProgram (s old : State) : State :=
  if old.efc.run.isSome then
    s.keepFlds old [(Reg.EFC_STATUS_BUSY0, 0), (Reg.EFC_STATUS_BUSY1, 0), (Reg.EFC_STATUS_SEQ, 0), (Reg.EFC_RESULT_CODE, 0)]
  else s

/-! ### POR, PERST_N, SYS_RST_N -/

/-- The magazine after a reset of MAG: not mounted; module and buffer with its tag stay (02 R40, R41; 10 R275). -/
def MagSt.unmounted (m : MagSt) : MagSt :=
  { module := m.module, bufTag := m.bufTag, buf := m.buf.map (fun b => { b with flushes := [] }) }

/-- The archive channel after a reset: the disc, the cartridge and the flash journal's resume entries stay (02 R40). -/
def OchSt.afterReset (o : OchSt) : OchSt :=
  { disc := o.disc, slot := o.slot, readOnly := o.readOnly, discId := o.discId, cartridge := o.cartridge, fork := o.fork,
    resume := o.resume }

/-- The motion unit after a reset: what its sensors show and where the disc is stays (15 R394, R399). -/
def MotSt.afterReset (m : MotSt) : MotSt :=
  { axes := m.axes.map (fun (a : AxisSt) => { switchOn := a.switchOn }), discSense := m.discSense, cartPresent := m.cartPresent,
    noSlot := m.noSlot, clamped := m.clamped, forkFound := m.discSense }

/-- The flash after a reset: contents stay; a host erase is aborted, a program goes on (18 R458; log 74). -/
def State.flashReset (s : State) : State :=
  let s1 := s.efcAbortErase false
  { s1 with efc := { s1.efc with owner := none, op := none, words := [], refuse := false } }

/-- Trigger inputs after a reset of CAP: the pins as they are, nothing pending (04 R110). -/
def CapSt.pins (c : CapSt) : List (Nat × TrigSt) := c.trig.map (fun e => (e.1, { pin := e.2.pin, filtered := e.2.pin }))

/-- Incarnations that PERST_N and SYS_RST_N advance, with the quoins they release (19 R474, R487). -/
def State.bumpAll (s : State) : State := [0, 1, 2, 3, 4].foldl State.bumpCore s.bumpHost

/-- Register words that PERST_N and SYS_RST_N keep: device time and frame number (04 R102, R107), the cause word and the die temperature
(02 R40), the aborted sector (18 R458), the granules initialized (02 R43), and quoins (19 R487). -/
def keptWord (k : Nat) : Bool :=
  [Reg.CAP_DEVTIME.base, Reg.CAP_DEVTIME.base + 4, Reg.CAP_FRAME_NUM.base, Reg.CAP_FRAME_NUM.base + 4, Reg.RST_CAUSE_POR.base,
   Reg.PWR_TEMP_TEMP.base, Reg.EFC_ABORT_ADDR_ADDR.base, Reg.GAL_INIT_PROGRESS.base].contains k ||
  (decide (0xF02000 ≤ k) && decide (k < 0xF02200))

/-- Fields that PERST_N and SYS_RST_N keep: the clocks that run on, initialization, pin levels, sensors. -/
def keptFlds : List (Fld × Nat) :=
  [(Reg.CLK_PLL_STATUS_CORE_LOCK, 0), (Reg.CLK_PLL_STATUS_COL_LOCK, 0), (Reg.GAL_STATUS_INIT_DONE, 0), (Reg.PAIR_PINS_STRAP, 0),
   (Reg.PAIR_PINS_PEER, 0), (Reg.DBG_STATUS_TAP_ACTIVE, 0)] ++
  (List.range 6).map (fun b => (Reg.CAL_BLK_TEMP, b))

/-- Fields of the endpoint that SYS_RST_N keeps with the PCIe link (02, "Resets"). -/
def keptLink : List (Fld × Nat) :=
  [(Reg.CLK_PLL_STATUS_PCIE_LOCK, 0), (Reg.PCIE_STATUS_RATE, 0), (Reg.PCIE_STATUS_WIDTH, 0), (Reg.PCIE_STATUS_FLIT, 0)]

/-- Both functions leave a containment that the AOS caused (08 R219: PERST_N and SYS_RST_N end it). -/
def State.endAosContainment (s : State) (fn : Nat) : State :=
  if !s.flag Reg.CFG_CONT_STATUS_CAUSE_AOS fn then s
  else
    let s1 := (s.setFlag Reg.CFG_CONT_STATUS_CAUSE_AOS false fn).put Reg.CFG_CONT_STATUS_HELD_CPL 0 fn
    s1.setFlag Reg.CFG_CONT_STATUS_CONTAINED (s1.flag Reg.CFG_CONT_STATUS_CAUSE_HOST fn ||
      s1.flag Reg.CFG_CONT_STATUS_CAUSE_ERR fn || s1.flag Reg.CFG_CONT_STATUS_CAUSE_INTERNAL fn) fn

/-- Everything that lies outside the register file, after PERST_N (`perst`) or SYS_RST_N (02 R40). -/
def State.resetUnits (s : State) (perst : Bool) : State :=
  { s with
    lanes := [], ports := [], cmp := {}, pair := {},
    cap := { takeId := s.cap.takeId, orders := s.cap.orders, trig := s.cap.pins, shadows := s.cap.shadows },
    gal := { s.gal with paused := false, pausedTicks := 0, delayed := [], scrubLine := 0, recover := true },
    pcie := { linkUp := s.pcie.linkUp && !perst, reads := [],
              late := if perst then [] else s.pcie.late ++ s.pcie.reads.map (fun r => (r.tag, s.now)) },
    hq := { nextTag := s.hq.nextTag },
    mag := s.mag.unmounted,
    map := { s.map with lines := [], fills := [], waiting := [], streams := [], repair := [], stall := [], loaded := [],
                        store := s.map.store.filter (fun e => !isMapLine e.1) },
    och := s.och.afterReset, srv := {}, mot := s.mot.afterReset,
    sec := { keySerial := s.sec.keySerial },
    mbx := { hostInc := s.mbx.hostInc, dbgInc := s.mbx.dbgInc, uncounted := s.mbx.uncounted },
    cal := { resetRuns := [0, 1, 2, 3, 4, 5] },
    pwr := { s.pwr with faultLow := true, imageApplied := false, inReset := true, aosSafe := false,
                        lockstep := s.pwr.lockstep && !perst, trip := s.pwr.trip && !perst, tWarn := false, deferral := false,
                        failInDeferral := false, warn := false, fail := false, pendingReset := none, pendingUnits := 0,
                        unitReset := [], cfgFresh := s.pwr.cfgFresh || perst } }

/-- PERST_N (`perst`) or SYS_RST_N takes effect (02 R40, R41). -/
def State.hardReset (s : State) (perst : Bool) : State :=
  let s1 := s.haltCapture.electricalIdle
  let s2 := (if s1.magTakes then s1.commitAllUnits else s1).dropStaged.selfRefresh.flashReset
  let s3 := (s2.powerUpOutputs.bumpAll).resetUnits perst
  let outside := fun k => isCol k || (!perst && (isCfg 0 k || isCfg 1 k))
  let s4 := (((s3.clearRegs (fun k => keptWord k || outside k)).clearShadows outside).keepFlds s2 (if perst then keptFlds else keptFlds ++ keptLink)).keepFlds s3
    ((List.range 5).map (fun k => (Reg.MBX_CORE_STATUS_STAMP, k)))
  let s5 := if perst then s4 else (s4.endAosContainment 0).endAosContainment 1
  let s6 := ((s5.keepProgram s2).put Reg.GAL_STATUS_SR 2).put Reg.MAG_STATUS_MAG_STATE (if s.mag.module.isSome then 7 else 0)
  s6.cause (if perst then Reg.RST_CAUSE_PERST else Reg.RST_CAUSE_SYS)

/-- A reset of the whole device is asserted (02 R41, R44): in RIDE the save begins (after T_SHUT the deferral goes on, R66), in RIDE and
SAVE it waits for SAVED; a device that is held by a trip or by the lockstep latch cannot save. -/
def State.resetAsserted (s : State) (perst : Bool) : State :=
  let kind := if perst then ResetKind.perst else
    match s.pwr.pendingReset with | some .perst => .perst | _ => .sys
  let st := s.get Reg.PWR_HOLDUP_STATUS_STATE
  if s.pwr.por then s
  else if (st = 1 || st = 2) && !s.pwr.trip && !s.pwr.lockstep then
    let s1 := if st = 1 && !s.pwr.deferral then s.enterSave 3 else s
    { s1 with pwr := { s1.pwr with pendingReset := some kind } }
  else s.hardReset perst

/-- PERST_N_ASSERT (02 R41, R44). -/
def execPerstNAssert (s : State) : Result :=
  if s.pwr.perst then .next s else .next (({ s with pwr := { s.pwr with perst := true } } : State).resetAsserted true)

/-- SYS_RST_N_ASSERT (02 R41, R44). -/
def execSysRstNAssert (s : State) : Result :=
  if s.pwr.sysRst then .next s else .next (({ s with pwr := { s.pwr with sysRst := true } } : State).resetAsserted false)

/-- POWER_ON_RESET (02 R40): all that the matrix lists for POR; the colophon, the embedded flash, the magazine's module, the discs and
the levels on the pins stay. -/
def execPowerOnReset (s : State) : Result :=
  let s0 := s.cutFlash
  let r := State.reset
  let s1 : State := { r with
    part := s0.part, fresh := s0.fresh, outbox := s0.outbox, pending := s0.pending, regs := skeep s0.regs isCol, col := s0.col,
    cap := { trig := s.cap.pins, shadows := s.cap.shadows.filter (fun e => isCol (e.1 / 16)) }, mag := { module := s.mag.module }, och := s.och.afterReset, mot := s.mot.afterReset,
    efc := { flash := s0.efc.flash, otp := s0.efc.otp, dead := s0.efc.dead },
    pwr := { perst := s.pwr.perst, sysRst := s.pwr.sysRst, vbus := s.pwr.vbus, holdup := s.pwr.holdup, ibus := s.pwr.ibus,
             vdrvLow := s.pwr.vdrvLow } }
  .next (s1.keepFlds s [(Reg.PAIR_PINS_STRAP, 0), (Reg.PAIR_PINS_PEER, 0), (Reg.CLK_PLL_STATUS_COL_LOCK, 0), (Reg.PWR_TEMP_TEMP, 0)])

/-! ### Start after a reset -/

/-- Units with an enable bit that are present start when their reset or image value is 1 (02 R46; 18 R472): the unit with feature ID `n`. -/
def State.startEnabled (s : State) (n : Nat) : State :=
  match n with
  | 2 => (List.range 32).foldl (fun (t : State) p => if decide (8 * p < t.part.lanes) && t.flag Reg.LANE_PORT_CTL_EN p then t.portEnable p true else t) s
  | 3 => if s.flag Reg.CAP_CTL_EN then s.capEnable true else s
  | 4 => (List.range 32).foldl (fun (t : State) c => if decide (c < t.part.clusters) && t.flag Reg.CMP_CLUSTER_CTL_EN c then t.clusterEnable c true else t) s
  | 6 => if s.flag Reg.PAIR_CTL_EN then s.pairEnable true else s
  | 8 => if s.flag Reg.MAG_CTL_EN then s.magEnable true else s
  | 10 => if s.part.archive && s.flag Reg.OCH_CTL_EN then s.ochEnable true else s
  | 11 => if s.part.archive && s.flag Reg.SRV_CTL_EN then s.srvEnable true else s
  | 12 => if s.part.archive && s.flag Reg.MOT_CTL_EN then s.motEnable true else s
  | _ => s

/-- Nothing holds the device in reset any more (02 R38, R41, R50, R64, R65). -/
def State.mayStart (s : State) : Bool :=
  !s.pwr.por && s.pwr.inReset && !s.pwr.selfTestFailed && !s.pwr.perst && !s.pwr.sysRst && !s.pwr.thermalHold && !s.pwr.trip &&
    !s.pwr.lockstep && s.pwr.pendingReset.isNone

/-- Every calibration block is due for its reset run (20 R489). -/
def State.calReset (s : State) : State :=
  let s1 := { s with cal := { applied := [], resetRuns := [0, 1, 2, 3, 4, 5] } }
  (List.range 6).foldl (fun (t : State) b => t.setFlag Reg.CAL_BLK_STATUS_PENDING true b) (s1.put Reg.CAL_STATUS_ACTIVE 7)

/-- The BAR2 size of a fresh configuration space (08 R204). -/
def State.freshBar2 (s : State) : State := s.setBar2Size (8 + s.get Reg.PCIE_CFG_BAR2_SIZE)

/-- The device starts (02 R38): standing image, capability words, map invalidation, cores, calibration, and units whose enable bit
is 1.  `fw0` and `fw1` say whether the firmware slots verify (18 R467). -/
def State.startUp (s : State) (fw0 fw1 : Bool) : State :=
  if !s.mayStart then s
  else
    let s1 := ({ s with pwr := { s.pwr with inReset := false, imageApplied := true } } : State).readOtpStatus.selectImage.asBuilt
    let s2 := if s1.pwr.cfgFresh then s1.freshBar2 else s1
    let s3 := (s2.mapInvalidate.setFlag Reg.MAP_STATUS_PAGED (s2.get Reg.GAL_REGION_MAP_RES == 0)).budget.commitAll.calReset
    let s4 := (List.range 5).foldl (fun (t : State) k => t.put Reg.MBX_CORE_STATUS_STATE 1 k) s3
    let s5 := (s4.bootFirmware s4.fwChoice fw0 fw1).loadSanitize
    let s6 : State := { s5 with pwr := { s5.pwr with cfgFresh := false, sensRefclk := s5.flag Reg.CLK_SENS_REFCLK_EN } }
    let s7 := [2, 3, 4, 6, 8, 10, 11, 12].foldl State.startEnabled s6
    (s7.resumeFn 0).resumeFn 1

/-- POR_RELEASE (02 R38): with a failed AOS self-test FAULT_N stays low and the sequence stops; else the galley starts out of
self-refresh, and a powered colophon starts (17 R431). -/
def execPorRelease (selfTest fw0 fw1 : Bool) (s : State) : Result :=
  if !s.pwr.por then .next s
  else
    let s1 : State := { s with pwr := { s.pwr with por := false, selfTestFailed := !selfTest } }
    let s2 := if s1.part.colophon && s1.col.powered && !s1.flag Reg.COL_STATUS_POWER then s1.colBoot else s1
    .next ((s2.put Reg.GAL_STATUS_SR 0).startUp fw0 fw1)

/-- RESET_DEASSERT (02 R41): PERST_N, or SYS_RST_N where `sys`, is high; the device starts when nothing else holds it. -/
def execResetDeassert (sys fw0 fw1 : Bool) (s : State) : Result :=
  let s1 : State := { s with pwr := { s.pwr with perst := s.pwr.perst && sys, sysRst := s.pwr.sysRst && !sys } }
  .next (s1.startUp fw0 fw1)

/-- THERMAL_RESET_RELEASE (02 R65): the junction, in units of 0.25 degrees, is at or below 95 degrees. -/
def execThermalResetRelease (temp : Nat) (fw0 fw1 : Bool) (s : State) : Result :=
  if !s.pwr.thermalHold || 380 < temp then .next s
  else
    let s1 := ({ s with pwr := { s.pwr with thermalHold := false } } : State).put Reg.PWR_TEMP_TEMP temp
    .next (s1.startUp fw0 fw1)

/-! ### Hot reset and FLR (02 R42; 08 R222, R223) -/

/-- A function's configuration space and MSI-X table take their reset values; a containment by the AOS stays (08 R222). -/
def State.resetFn (s : State) (fn : Nat) : State :=
  let aos := s.flag Reg.CFG_CONT_STATUS_CAUSE_AOS fn
  let s1 := s.clearRegs (fun k => !isCfg fn k)
  let s2 := (s1.setFlag Reg.CFG_CONT_STATUS_CAUSE_AOS aos fn).setFlag Reg.CFG_CONT_STATUS_CONTAINED aos fn
  let s3 := s2.keepFlds s [(Reg.CFG_ID_VENDOR, fn), (Reg.CFG_SUBSYS, fn)]
  if fn = 0 then s3.freshBar2 else s3

/-- A command that HQ took and that goes on inside the device when its ring is cleared (02 R42). -/
def Cmd.goesOn (c : Cmd) : Bool := c.begun && !movesData c.op && (opUnit c.op != 7 || decide (c.op ≤ 0x15)) && c.op != 0x47 && c.op != 0x48

/-- HQ is cleared (02 R40, R42): registers, rings, log; commands outstanding are abandoned, those that work inside the device go on
without a completion; reads issued before become late (08 R216). -/
def State.hqReset (s : State) : State :=
  let gone := s.hq.cmds.filter (fun c => !c.goesOn)
  let reads := gone.any (fun c => c.op == 0x23 && c.begun)
  let s1 : State := { s with hq := { nextTag := s.hq.nextTag, stopped := s.hq.stopped,
                                     cmds := (s.hq.cmds.filter Cmd.goesOn).map (fun c => { c with abandoned := true }) } }
  let s2 := gone.foldl (fun (t : State) c => t.unbind c.tag) s1
  let live := fun (t : Nat) => s2.hq.cmds.any (fun c => c.tag == t)
  let s3 : State := { s2 with
    mag := { s2.mag with spaceWait := s2.mag.spaceWait.filter live },
    mot := { s2.mot with held := s2.mot.held.filter live },
    pcie := { s2.pcie with reads := [], late := s2.pcie.late ++ s2.pcie.reads.map (fun r => (r.tag, s2.now)) } }
  let s4 := if reads then s3.endArchive else s3
  ((s4.pageReset 7).put Reg.CFG_CONT_STATUS_HELD_CPL 0 0).loadSanitize

/-- Host key slots 0-247 are emptied (16 R404). -/
def State.emptyHostSlots (s : State) : State :=
  ((s.sec.slots.map Prod.fst).filter (fun k => decide (k < 248))).foldl State.emptySlot s

/-- What hot reset and FLR of function 0 do besides clearing configuration space (02 R40, R42; 16 R404; 18 R458; 19 R474). -/
def State.resetHost (s : State) : State :=
  let s1 := s.hqReset.emptyHostSlots
  let s2 := if s1.efc.owner.isSome then s1.efcDrop else s1
  (s2.bumpHost).resetFn 0

/-- A hot reset (02 R42; 08 R222): both functions, HQ; the link goes down (log 75). -/
def State.hotReset (s : State) : State :=
  let s1 := s.resetHost
  let s2 := if s1.part.colophon then s1.resetFn 1 else s1
  let s3 := ((s2.put Reg.PCIE_STATUS_RATE 0).put Reg.PCIE_STATUS_WIDTH 0).setFlag Reg.PCIE_STATUS_FLIT false
  ({ s3 with pcie := { s3.pcie with linkUp := false } } : State).cause Reg.RST_CAUSE_HOT

/-- HOT_RESET (02 R42, R44; 08 R222): at once in every chrysalis state. -/
def execHotReset (s : State) : Result := if s.pwr.por then .next s else .next s.hotReset

/-- Requests to a function meet Request Retry Status for a time that the spec bounds by 100 ms, 160,000,000 units of device time, and
leaves open: a free value (08 R222; log 4). -/
def State.flrWindow (s : State) (fn : Nat) : State :=
  let (v, s1) := s.free
  let live := s1.pcie.flr.filter (fun e => e.1 != fn)
  { s1 with pcie := { s1.pcie with flr := live ++ [(fn, s1.now + v.toNat % 160000000)] } }

/-- FLR of a function (08 R222). -/
def State.flr (s : State) (fn : Nat) : State :=
  if !s.hasFn fn then s
  else if fn = 0 then (s.resetHost.cause Reg.RST_CAUSE_FLR0).flrWindow 0
  else ((s.resetFn 1).cause Reg.RST_CAUSE_FLR1).flrWindow 1

/-- FLR_FUNCTION_0 (08 R222; 02 R42, R44). -/
def execFlrFunction0 (s : State) : Result := if s.pwr.por then .next s else .next (s.flr 0)

/-- FLR_FUNCTION_1 (08 R222; 02 R40). -/
def execFlrFunction1 (s : State) : Result := if s.pwr.por then .next s else .next (s.flr 1)

/-- The link reaches DL_Down without a reset (08 R223): a hot reset, and SURPRISE_DOWN_EV. -/
def State.surpriseDown (s : State) : State := s.hotReset.event Reg.PCIE_STATUS_SURPRISE_DOWN_EV

/-- SURPRISE_LINK_DOWN (08 R223). -/
def execSurpriseLinkDown (s : State) : Result := if !s.pcie.linkUp then .next s else .next s.surpriseDown

end Sys2Proof.Machine
end

