-- ==== Sys2Proof/Machine/UnitReset.lean ====
section
/-!
DEFINITION. Enable bits, start-up and drain of every unit (02 R46, R47), unit resets (02 R45), and the device's role (01 R21).
-/
namespace Sys2Proof.Machine

/-- The unit with a feature ID is present (01 R26). -/
def State.present (s : State) (n : Nat) : Bool := (capEntries s.part).any (fun e => e.1 == n)

/-- Firmware that a unit needs is absent: a core FAILED (19 R478), or MC0 runs the recovery loader (18 R467). -/
def State.firmwareGone (s : State) (n : Nat) : Bool :=
  (List.range 5).any (fun k => (coreUnits k).contains n && s.get Reg.MBX_CORE_STATUS_STATE k == 6) ||
    (s.flag Reg.EFC_FW_RECOVERY && [8, 9, 10, 11, 12, 13, 16].contains n)

/-- A unit that was enabled without its firmware is marked failed again (19 R478). -/
def State.failAgain (s : State) (n : Nat) (b : Bool) : State := if b && s.firmwareGone n then s.failUnit n else s

/-- A write of a unit's enable bit (02 R46, R47). -/
def State.enableUnit (s : State) (u : UnitRef) (b : Bool) : State :=
  if !s.hasUnit u then s
  else match u with
    | .port p => s.portEnable p.val b
    | .cap => s.capEnable b
    | .cluster c => s.clusterEnable c.val b
    | .pair => s.pairEnable b
    | .sq n => s.sqEnable n.val b
    | .cq m => s.cqEnable m.val b
    | .mag => (s.magEnable b).failAgain 8 b
    | .och => (s.ochEnable b).failAgain 10 b
    | .srv => (s.srvEnable b).failAgain 11 b
    | .mot => (s.motEnable b).failAgain 12 b
    | .col => s.colEnable b

/-- UNIT_ENABLE_WRITE (02 R46, R47). -/
def execUnitEnableWrite (u : UnitRef) (v : Bool) (s : State) : Result :=
  if s.awake then .next (s.enableUnit u v) else .next s

/-- A unit's start-up completes (02 R46): a port once it is deskewed (03 R79), the capture unit once the galley is initialized and takes
are recovered (06 R175, R181); the pairing unit by its role evaluation, which has rows of its own (07 R184). -/
def State.unitUp (s : State) (u : UnitRef) : State :=
  if !s.hasUnit u then s
  else match u with
  | .port p => if (s.port p.val).deskewed && s.portState p.val == 1 then s.portStarted p.val else s
  | .cap => if s.capMayRun && s.get Reg.CAP_STATUS_STATE == 1 then (s.unitStarted capUnit).markStop.stopCheck.chain else s
  | .cluster c => if s.get Reg.CMP_CLUSTER_STATUS_STATE c.val = 1 then s.clusterStarted c.val else s
  | .pair => s
  | .sq n => s.sqStarted n.val
  | .cq m => s.cqStarted m.val
  | .mag => s.unitStarted magUnit
  | .och => s.unitStarted ochUnit
  | .srv => s.unitStarted srvUnit
  | .mot => s.unitStarted motUnit
  | .col => s.colStarted

/-- UNIT_STARTUP_COMPLETE (02 R46). -/
def execUnitStartupComplete (u : UnitRef) (s : State) : Result := if s.awake then .next (s.unitUp u) else .next s

/-- MOT has nothing left to finish: the spindle stopped, no axis moves (15 R400). -/
def State.motQuiet (s : State) : Bool :=
  s.sstate == 0 && !s.flag Reg.MOT_AXIS_STATUS_MOVING 0 && !s.flag Reg.MOT_AXIS_STATUS_MOVING 1 &&
    !s.flag Reg.MOT_AXIS_STATUS_MOVING 2

/-- A unit's drain completes (02 R46) where its work is done. -/
def State.unitDown (s : State) (u : UnitRef) : State :=
  match u with
  | .port p => s.drainPort p.val
  | .cap => if s.get Reg.CAP_STATUS_STATE == 3 && s.capDrained then (s.unitDrained capUnit).chain else s
  | .cluster c =>
    if s.get Reg.CMP_CLUSTER_STATUS_STATE c.val == 3 && s.clusterDrained c.val then (s.unitDrained clusterUnit c.val).showClusters
    else s
  | .pair => s.pairDrained
  | .sq n => s.sqDrained n.val
  | .cq m => s.cqDrained m.val
  | .mag => s.magDrained
  | .och => s.ochDrained
  | .srv => s.unitDrained srvUnit
  | .mot => if s.motQuiet then s.unitDrained motUnit else s
  | .col => if s.col.powered then s.unitDrained colUnit else s

/-! ### Unit resets (02 R45) -/

/-- States of a unit's instances, by feature ID. -/
def State.instStates (s : State) (n : Nat) : List Nat :=
  match n with
  | 2 => (List.range 32).map s.portState
  | 3 => [s.get Reg.CAP_STATUS_STATE]
  | 4 => (List.range 32).map (fun c => s.get Reg.CMP_CLUSTER_STATUS_STATE c)
  | 6 => [s.get Reg.PAIR_STATUS_STATE]
  | 7 => s.ringsUsed.map (fun n => s.get Reg.HQ_SQ_STATUS_STATE n)
  | 8 => [s.get Reg.MAG_STATUS_STATE]
  | 10 => [s.get Reg.OCH_STATUS_STATE]
  | 11 => [s.get Reg.SRV_STATUS_STATE]
  | 12 => [s.get Reg.MOT_STATUS_STATE]
  | _ => []

/-- The unit has drained: every instance IDLE or FAILED, no command of it in flight. -/
def State.unitQuiet (s : State) (n : Nat) : Bool :=
  (s.instStates n).all (fun v => v == 0 || v == 4) && !s.hq.cmds.any (fun c => c.begun && opUnit c.op == n)

/-- Disable a unit and its instances. -/
def State.disableUnit (s : State) (n : Nat) : State :=
  match n with
  | 2 => (List.range 32).foldl (fun (t : State) p => t.portEnable p false) s
  | 3 => s.capEnable false
  | 4 => (List.range 32).foldl (fun (t : State) c => t.clusterEnable c false) s
  | 6 => s.pairEnable false
  | 7 => s.ringsUsed.foldl (fun (t : State) n => t.sqEnable n false) s
  | 8 => s.magEnable false
  | 10 => s.ochEnable false
  | 11 => s.srvEnable false
  | 12 => s.motEnable false
  | _ => s

/-- `RST.UNIT_RESET` shows the resets that run and those that wait for SAVED (02 R44, R45). -/
def State.showUnitReset (s : State) : State :=
  let on := fun (n : Nat) => s.pwr.unitReset.contains n || s.pwr.pendingUnits.testBit n
  s.put Reg.RST_UNIT_RESET_RESET ((List.range 18).foldl (fun v i => if on (i + 1) then v + 2 ^ i else v) 0)

/-- Work of a unit that is still in flight is cut: its commands complete with UNIT_RESET (02 R45; 09 R240). -/
def State.cutWork (s : State) (n : Nat) : State :=
  (s.hq.cmds.filter (fun c => c.begun && opUnit c.op == n)).foldl (fun (t : State) c => t.cutCmd c 0x07) s

/-- A reset of LANE: the frames that ports deliver end, every lane starts anew; the pairing lanes go down and seek again. -/
def State.resetLane (s : State) : State :=
  let s1 := (List.range 32).foldl (fun (t : State) p => if t.portState p = 0 then t else t.endPortFrame p) s
  let s2 := ({ s1 with lanes := [], ports := [] } : State).pageReset 2
  let s3 := (List.range 258).foldl State.showTx s2
  if s3.pairState = 0 then s3 else (((s3.pairLaneDown 0).pairLaneDown 1).rxOn 256).rxOn 257

/-- A reset of CAP (02 R40; 04 R121): capture stops; takes that are over stay with their segments, as do device time, the frame number
and arm orders (log 76). -/
def State.resetCap (s : State) : State :=
  let s1 := s.haltCapture
  let segs := (List.range 16).filter (fun k => s1.takeState k != 0)
  let s2 := s1.pageReset 3
  let keep := ((List.range 16).map (fun k => [(Reg.CAP_SEG_TAKE_STATE, k), (Reg.CAP_SEG_TAKE_TAKE_ID, k)])).flatten ++
    (segs.map (fun k => [(Reg.CAP_SEG_CFG_SIZE, k), (Reg.CAP_SEG_CFG_BASE, k), (Reg.CAP_SEG_FCAP, k), (Reg.CAP_SEG_PRE, k)])).flatten
  let s3 := (s2.keepFlds s1 keep).put64 Reg.CAP_DEVTIME s1.now
  ({ s3 with cap := { s3.cap with trig := s3.cap.pins } } : State).put64 Reg.CAP_FRAME_NUM s1.latestNum

/-- A reset of GAL clears registers and counters only (06 R182). -/
def State.resetGal (s : State) : State :=
  let s1 := (s.pageReset 5).keepFlds s [(Reg.GAL_STATUS_SR, 0), (Reg.GAL_STATUS_INIT_DONE, 0), (Reg.GAL_INIT_PROGRESS, 0)]
  ({ s1 with gal := { s1.gal with pausedTicks := 0 } } : State).asBuilt

/-- A reset of PAIR: the unit is IDLE, its claim released. -/
def State.resetPair (s : State) : State :=
  let s1 := s.pairIdle
  (s1.pageReset 6).keepFlds s1 [(Reg.PAIR_PINS_STRAP, 0), (Reg.PAIR_PINS_PEER, 0)]

/-- A reset of MAG: the magazine is not mounted; the buffer stays with its tag (02 R40; 10 R275). -/
def State.resetMag (s : State) : State :=
  let s0 := s.dropStaged.mapForget
  let s1 := (({ s0 with mag := s0.mag.unmounted } : State).channelsOff).pageReset 8
  (s1.put Reg.MAG_STATUS_MAG_STATE (if s.mag.module.isSome then 7 else 0)).loadSanitize.budget

/-- A reset of MAP (11 R301, R302): dirty lines are written back when the map has its area, then all lines are invalid. -/
def State.resetMap (s : State) : State :=
  let s1 := if s.paged then s else s.cleanLines (fun _ => true)
  ((s1.pageReset 9).mapInvalidate).setFlag Reg.MAP_STATUS_PAGED (s1.get Reg.GAL_REGION_MAP_RES == 0)

/-- A reset of OCH: archive work is cut, the lasers are off. -/
def State.resetOch (s : State) : State :=
  let s1 := s.cutArchive.lasersOff
  ({ s1 with och := s1.och.afterReset } : State).pageReset 10

/-- A reset of SRV: loops OFF, bridges off; coefficients as the image gives them (14 R359, R368). -/
def State.resetSrv (s : State) : State := (({ s.loopsOff with srv := {} } : State).pageReset 11).commitAll

/-- A reset of MOT: bridges off, positions unknown (15 R394). -/
def State.resetMot (s : State) : State :=
  let s1 := s.spindleOff.bridgesOff 3 64
  let s2 : State := { s1 with mot := s1.mot.afterReset, pwr := { s1.pwr with axesOn := [] } }
  s2.pageReset 12

/-- A reset of SEC (16 R404): host slots emptied; what SC found of its engines and its own slots stay. -/
def State.resetSec (s : State) : State :=
  let s1 := s.emptyHostSlots
  let fw := ((List.range 8).map (fun i => [(Reg.SEC_SLOT_LOADED, 248 + i), (Reg.SEC_SLOT_BITS, 248 + i), (Reg.SEC_SLOT_USE, 248 + i)])).flatten
  let eng := (List.range 16).map (fun e => (Reg.SEC_ENG_STATUS_OK, e))
  let s2 := (s1.pageReset 13).keepFlds s1 ([(Reg.SEC_STATUS_ENGINES, 0)] ++ eng ++ fw)
  let st := s.get Reg.MBX_CORE_STATUS_STATE 4
  let run := st == 2 || st == 3
  let s3 : State := { s2 with sec := { s2.sec with waiting := [], engines := [], trngFails := 0 } }
  (s3.put Reg.SEC_STATUS_STATE (if run then 2 else 0)).put Reg.SEC_TRNG_TSTATE (if run then 1 else s3.get Reg.SEC_TRNG_TSTATE)

/-- A reset of EFC (18 R458): an erase is aborted, a program goes on, the sequence is abandoned; the aborted sector, the selected image
and the firmware slot stay shown. -/
def State.resetEfc (s : State) : State :=
  let s0 := s.efcAbortErase false
  let s1 : State := { s0 with efc := { s0.efc with owner := none, op := none, words := [] } }
  let s2 := (s1.pageReset 14).keepFlds s1 [(Reg.EFC_ABORT_ADDR_VALID, 0), (Reg.EFC_ABORT_ADDR_ADDR, 0), (Reg.EFC_STANDING_WORD, 0),
    (Reg.EFC_STANDING_SEQ, 0), (Reg.EFC_FW_WORD, 0)]
  (s2.keepProgram s1).readOtpStatus

/-- A reset of MBX (19 R487): owned quoins are released with ORPHANED set, mailboxes emptied, notices gone; cores and incarnations
stay. -/
def State.resetMbx (s : State) : State :=
  let s1 := (List.range 64).foldl (fun (t : State) q => if t.flag Reg.MBX_QUOIN_STATE_HELD q then
    (t.setFlag Reg.MBX_QUOIN_STATE_HELD false q).setFlag Reg.MBX_QUOIN_STATE_ORPHANED true q else t) s
  let core := ((List.range 5).map (fun k => [(Reg.MBX_CORE_STATUS_WORD, k), (Reg.MBX_CORE_LOCK_INFO, k)])).flatten
  let quoin := ((List.range 64).map (fun q => [(Reg.MBX_QUOIN_STATE_HELD, q), (Reg.MBX_QUOIN_STATE_ORPHANED, q),
    (Reg.MBX_QUOIN_STATE_OWNER, q), (Reg.MBX_BOX_STATUS_SEQ, q), (Reg.MBX_BOX_STATUS_SENDER, q)])).flatten
  let s2 := (s1.pageReset 15).keepFlds s1 (core ++ quoin)
  let s3 := (List.range 5).foldl (fun (t : State) k => t.put64 Reg.MBX_CORE_LOCK_TIME (s1.get64 Reg.MBX_CORE_LOCK_TIME k) k) s2
  { s3 with mbx := { s3.mbx with notices := [] } }

/-- A reset of CLK, RST and PWR: clocks, `RST.CAUSE`, the temperature and the chrysalis state are not registers that a unit reset
clears (02 R40). -/
def State.resetClk (s : State) : State :=
  let s1 := (s.pageReset 1).keepFlds s [(Reg.CLK_PLL_STATUS_CORE_LOCK, 0), (Reg.CLK_PLL_STATUS_GPHY_LOCK, 0),
    (Reg.CLK_PLL_STATUS_PCIE_LOCK, 0), (Reg.CLK_PLL_STATUS_COL_LOCK, 0), (Reg.CLK_PLL_STATUS_PAIR_LOCK, 0), (Reg.CLK_LANE_PLL_LOCK_LOCK, 0),
    (Reg.RST_CAUSE_WORD, 0), (Reg.PWR_TEMP_TEMP, 0), (Reg.PWR_HOLDUP_STATUS_STATE, 0)]
  ({ s1 with pwr := { s1.pwr with sensRefclk := s1.flag Reg.CLK_SENS_REFCLK_EN && !s1.pwr.lockstep && !s1.pwr.trip } } : State).budget

/-- A reset of CAL (20 R489): values as at reset, every block due. -/
def State.resetCal (s : State) : State :=
  ((s.pageReset 16).keepFlds s ((List.range 6).map (fun b => (Reg.CAL_BLK_TEMP, b)))).calReset

/-- What the reset of the unit with feature ID `n` clears (02 R40).  DESIGN CHOICE: after a reset of CMP the capture unit, whose own
registers that reset does not cover, goes on in the state in which it is, and the next FS block opens a frame (log 121). -/
def State.resetUnit (s : State) (n : Nat) : State :=
  match n with
  | 1 => s.resetClk
  | 2 => s.resetLane
  | 3 => s.resetCap
  | 4 => ({ s.haltCapture with cmp := {} } : State).pageReset 4
  | 5 => s.resetGal
  | 6 => s.resetPair
  | 7 => s.hqReset
  | 8 => s.resetMag
  | 9 => s.resetMap
  | 10 => s.resetOch
  | 11 => s.resetSrv
  | 12 => s.resetMot
  | 13 => s.resetSec
  | 14 => s.resetEfc
  | 15 => s.resetMbx
  | 16 => s.resetCal
  | 17 => (s.pageReset 17).keepFlds s [(Reg.DBG_STATUS_TAP_ACTIVE, 0)]
  | _ => s

/-- A unit reset completes (02 R45, R46): work in flight is cut, FAILED ends, the unit starts if its enable bit is 1. -/
def State.finishUnitReset (s : State) (n : Nat) : State :=
  let s1 := (if n = 7 then s else s.cutWork n).resetUnit n
  let w := (s1.rd Reg.TOP_UNIT_FAILED_WORD.base).toNat
  let s2 := s1.wr Reg.TOP_UNIT_FAILED_WORD.base (BitVec.ofNat 32 (w - (w &&& 2 ^ n)))
  let s3 : State := { s2 with pwr := { s2.pwr with unitReset := s2.pwr.unitReset.filter (· != n) } }
  (s3.startEnabled n).showUnitReset

/-- Unit resets whose unit has drained complete. -/
def State.settleUnitResets (s : State) : State :=
  s.pwr.unitReset.foldl (fun (t : State) n => if t.unitQuiet n then t.finishUnitReset n else t) s

/-- A unit reset begins: the unit is disabled and drains. -/
def State.beginUnitReset (s : State) (n : Nat) : State :=
  if s.pwr.unitReset.contains n then s
  else
    let s1 := s.disableUnit n
    { s1 with pwr := { s1.pwr with unitReset := s1.pwr.unitReset ++ [n] } }

/-- Unit resets written, as a mask by feature ID; bits of absent units and of the colophon, which no such reset covers (17 R430), clear
at once. -/
def State.unitResets (s : State) (mask : Nat) : State :=
  let ns := (List.range 17).filter (fun i => mask.testBit (i + 1) && s.present (i + 1))
  ((ns.foldl (fun (t : State) i => t.beginUnitReset (i + 1)) s).settleUnitResets).showUnitReset

/-- Bits written to `RST.UNIT_RESET` (02 R44, R45): in RIDE the save begins, in RIDE and SAVE they wait for SAVED. -/
def State.writeUnitReset (s : State) (mask : Nat) : State :=
  let st := s.get Reg.PWR_HOLDUP_STATUS_STATE
  let m := (List.range 17).foldl (fun a i => if mask.testBit (i + 1) && s.present (i + 1) then a ||| 2 ^ (i + 1) else a) 0
  if m = 0 then s
  else if (st = 1 || st = 2) && !s.pwr.trip && !s.pwr.lockstep then
    let s1 := if st = 1 && !s.pwr.deferral then s.enterSave 3 else s
    ({ s1 with pwr := { s1.pwr with pendingUnits := s1.pwr.pendingUnits ||| m } } : State).showUnitReset
  else s.unitResets m

/-- UNIT_RESET (02 R45): the word written to `RST.UNIT_RESET`, bit n for feature ID n. -/
def execUnitReset (v : Word) (s : State) : Result :=
  if s.awake then .next (s.writeUnitReset (bitsOf v 18 1 * 2)) else .next s

/-- UNIT_RESET_DRAIN_TIMEOUT (02 R45): 1 ms has passed; the resets that still drain complete. -/
def execUnitResetDrainTimeout (s : State) : Result := .next (s.pwr.unitReset.foldl State.finishUnitReset s)

/-- UNIT_DRAIN_COMPLETE (02 R46, R45). -/
def execUnitDrainComplete (u : UnitRef) (s : State) : Result :=
  if s.awake then .next (s.unitDown u).settleUnitResets else .next s

/-- What waited for SAVED takes effect (02 R44): a reset of the whole device, else unit resets. -/
def State.afterSave (s : State) : State :=
  if s.get Reg.PWR_HOLDUP_STATUS_STATE != 3 then s
  else
    match s.pwr.pendingReset with
    | some k => s.hardReset (k == .perst)
    | none =>
      let m := s.pwr.pendingUnits
      if m = 0 then s else ({ s with pwr := { s.pwr with pendingUnits := 0 } } : State).unitResets m

/-- A write of `TOP.MODE` (01 R21): ROLE 3 is reserved (00 R12); becoming PAIRED with its enable bit 1 the pairing unit leaves IDLE
(07 R184). -/
def State.writeMode (s : State) (v : Word) : State :=
  let role := bitsOf v 1 0
  let old := s.get Reg.TOP_MODE_ROLE
  let s1 := if v.getLsbD 8 then s.setFlag Reg.TOP_MODE_REJECTED false else s
  if role = old || role = 3 then s1
  else if s.takesLive || (old = 2 && s.pairState != 0) then s1.setFlag Reg.TOP_MODE_REJECTED true
  else
    let s2 := s1.put Reg.TOP_MODE_ROLE role
    if role = 2 && s2.flag Reg.PAIR_CTL_EN && s2.pairState == 0 then s2.pairEnable true else s2

/-- TOP_MODE_WRITE (01 R21, R22). -/
def execTopModeWrite (v : Word) (s : State) : Result := if s.awake then .next (s.writeMode v) else .next s

end Sys2Proof.Machine
end

