-- ==== Sys2Proof/Machine/Power.lean ====
section
/-!
DEFINITION. PLL lock and loss (02 R33-R37), the always-on supervisor's events (02 R48, R50), supply and hold-up (02 R51-R58), and
temperature (02 R62-R66).  A row whose condition its operands do not meet changes nothing (log 7).
-/
namespace Sys2Proof.Machine

/-! ### Clocks -/

/-- The lock bit of a PLL. -/
def State.pllLocked (s : State) (p : Pll) : Bool :=
  match p with
  | .core => s.flag Reg.CLK_PLL_STATUS_CORE_LOCK
  | .gphy g => (s.get Reg.CLK_PLL_STATUS_GPHY_LOCK).testBit g.val
  | .lane n => (s.get Reg.CLK_LANE_PLL_LOCK_LOCK).testBit n.val
  | .pairing => s.flag Reg.CLK_PLL_STATUS_PAIR_LOCK
  | .pcie => s.flag Reg.CLK_PLL_STATUS_PCIE_LOCK
  | .colophon => s.flag Reg.CLK_PLL_STATUS_COL_LOCK

/-- A number with one bit set or cleared. -/
def withBit (v n : Nat) (b : Bool) : Nat := if v.testBit n == b then v else if b then v + 2 ^ n else v - 2 ^ n

/-- Set or clear the lock bit of a PLL. -/
def State.setPll (s : State) (p : Pll) (b : Bool) : State :=
  match p with
  | .core => s.setFlag Reg.CLK_PLL_STATUS_CORE_LOCK b
  | .gphy g => s.put Reg.CLK_PLL_STATUS_GPHY_LOCK (withBit (s.get Reg.CLK_PLL_STATUS_GPHY_LOCK) g.val b)
  | .lane n => s.put Reg.CLK_LANE_PLL_LOCK_LOCK (withBit (s.get Reg.CLK_LANE_PLL_LOCK_LOCK) n.val b)
  | .pairing => s.setFlag Reg.CLK_PLL_STATUS_PAIR_LOCK b
  | .pcie => s.setFlag Reg.CLK_PLL_STATUS_PCIE_LOCK b
  | .colophon => s.setFlag Reg.CLK_PLL_STATUS_COL_LOCK b

/-- A PLL can lock: it is on the part, powered and not stopped by a trip; lane, pairing and galley-PHY PLLs lock after the device has
left reset (02 R38, R41, R64). -/
def State.mayLock (s : State) (p : Pll) : Bool :=
  match p with
  | .core => !s.pwr.por && !s.pwr.trip
  | .gphy g => s.awake && !s.pwr.trip && decide (g.val < s.part.stackCount)
  | .lane n => s.awake && !s.pwr.trip && decide (8 * n.val < s.part.lanes)
  | .pairing => s.awake && !s.pwr.trip
  | .pcie => !s.pwr.por && !s.pwr.trip
  | .colophon => s.part.colophon && s.col.powered

/-- Lanes of port `p` show what their transmitters send. -/
def State.showPort (s : State) (p : Nat) : State := (List.range 8).foldl (fun (t : State) k => t.showTx (8 * p + k)) s

/-- PLL_LOCK (02 R37): lanes leave electrical idle for IDLE blocks; the colophon's uncertainty stops growing (17 R435). -/
def execPllLock (p : Pll) (s : State) : Result :=
  if !s.mayLock p then .next s
  else
    let s1 := s.setPll p true
    .next <| match p with
    | .lane n => s1.showPort n.val
    | .pairing => (s1.showTx 256).showTx 257
    | .colophon => s1.colPllLock
    | _ => s1

/-- A port's lane PLL loses lock (02 R36): enable cleared, the end of frame reported at once, IDLE without a drain, relay over, transmit
lanes in electrical idle. -/
def State.portPllLoss (s : State) (p : Nat) : State :=
  let s1 := (s.setFlag Reg.LANE_PORT_CTL_EN false p).setFlag Reg.LANE_PORT_STATUS_HELD false p
  let s2 := if s1.portState p = 0 then s1 else s1.endPortFrame p
  let s3 := (List.range 8).foldl (fun (t : State) k =>
    ((t.setLane (8 * p + k) (t.lane (8 * p + k)).idle).rxOff (8 * p + k)).showTx (8 * p + k)) (s2.put Reg.LANE_PORT_STATUS_STATE 0 p)
  s3.setPort p { s3.port p with deskewed := false, aligns := [], slot := none, slotSeen := [], drained := [], head := none, headSent := [] }

/-- The pairing lanes lose their clock: both down (02 R35; 07). -/
def State.pairPllLoss (s : State) : State :=
  let lost := fun (t : State) (n : Nat) =>
    (if decide (2 ≤ t.rxState n) && t.rxState n != 5 then t.lockLoss n else t).showTx n
  ((lost (lost s 256) 257).pairLaneDown 0).pairLaneDown 1

/-- A PLL loses lock (02 R35, R36). -/
def State.pllLoss (s : State) (p : Pll) : State :=
  if !s.pllLocked p then s
  else
    let s1 := (s.setPll p false).setFlag Reg.CLK_PLL_STATUS_LOSS_EVENT true
    match p with
    | .core => (s1.cause Reg.RST_CAUSE_PLL_LOSS).aosSafe
    | .gphy _ => (s1.cause Reg.RST_CAUSE_PLL_LOSS).aosSafe
    | .lane n => s1.portPllLoss n.val
    | .pairing => s1.pairPllLoss
    | .pcie => if s1.pcie.linkUp then s1.surpriseDown else s1
    | .colophon => s1.colPllLoss

/-- PLL_LOSS_OF_LOCK (02 R35). -/
def execPllLossOfLock (p : Pll) (s : State) : Result := .next (s.pllLoss p)

/-- LANE_PLL_LOSS (02 R36). -/
def execLanePllLoss (p : PortIx) (s : State) : Result := .next (s.pllLoss (.lane p))

/-- REFCLK_LOST (02 R35, R48): every PLL in holdover, AON on its ring oscillator, the AOS safe state. -/
def execRefclkLost (s : State) : Result :=
  if s.pwr.por then .next s
  else
    let s1 := (s.setFlag Reg.CLK_PLL_STATUS_REF_LOST true).setFlag Reg.CLK_PLL_STATUS_LOSS_EVENT true
    .next (s1.cause Reg.RST_CAUSE_REF_LOST).aosSafe

/-! ### The always-on supervisor -/

/-- AOS_LOCKSTEP_MISMATCH (02 R50, R57): FAULT_N low, actuators in their power-up state, the galley in self-refresh on its own path;
capture is over, the claim released (07 R183), a save ends early. -/
def execAosLockstepMismatch (s : State) : Result :=
  if s.pwr.por || s.pwr.lockstep then .next s
  else
    let s1 := ((s.cause Reg.RST_CAUSE_LOCKSTEP).haltCapture).powerUpOutputs.electricalIdle.selfRefresh.releaseClaim
    let s2 : State := { s1 with pwr := { s1.pwr with lockstep := true, faultLow := true } }
    .next s2.endSaveEarly.afterSave

/-- MC0_HEARTBEAT_TIMEOUT (02 R48; 19 R477): no heartbeat 100 ms after a start of MC0. -/
def execMc0HeartbeatTimeout (s : State) : Result :=
  let st := s.get Reg.MBX_CORE_STATUS_STATE 0
  if st = 5 then
    let (v, s1) := s.free
    .next ((s1.lockCore 0 4 (v.truncate 32)).cause Reg.RST_CAUSE_WDOG).aosSafe
  else if st = 1 then .next (s.cause Reg.RST_CAUSE_WDOG).aosSafe
  else .next s

/-! ### Supply and hold-up -/

/-- The device runs and can save: not held in reset, no trip, no lockstep disagreement. -/
def State.canSave (s : State) : Bool := s.awake && !s.pwr.trip && !s.pwr.lockstep

/-- SUPPLY_FAIL_DECLARED (02 R51, R54, R66): the last two samples were below VBUS_FAIL; the codes are those of the second. -/
def execSupplyFailDeclared (vbus holdup ibus : Nat) (s : State) : Result :=
  if s.pwr.por || s.pwr.fail || !s.voltsBelow vbus (s.get Reg.PWR_BUS_THRESH_VBUS_FAIL) then .next s
  else
    let normal := s.get Reg.PWR_HOLDUP_STATUS_STATE == 0
    let s1 : State := { s with pwr := { s.pwr with
      fail := true, vbus, holdup, ibus, holdupFull := if normal then holdup else s.pwr.holdupFull,
      record := { s.pwr.record with failTime := s.now }, failInDeferral := s.pwr.failInDeferral || s.pwr.deferral } }
    let s2 := s1.powerEvent.budget
    if !normal || s2.pwr.deferral || !s2.canSave then .next s2
    else if decide (s2.bankEnergy holdup ≤ s2.reserveEnergy) || s2.flag Reg.PWR_HOLDUP_STATUS_INSUFFICIENT then .next (s2.enterSave 1)
    else .next s2.enterRide

/-- SUPPLY_WARN_DECLARED (02 R51). -/
def execSupplyWarnDeclared (vbus : Nat) (s : State) : Result :=
  if s.pwr.por || s.pwr.warn || !s.voltsBelow vbus (s.get Reg.PWR_BUS_THRESH_VBUS_WARN) then .next s
  else .next ({ s with pwr := { s.pwr with warn := true, vbus } } : State).powerEvent

/-- SUPPLY_WARN_CLEAR (02 R51): at VBUS_WARN + 0.5 V or above for 1 ms. -/
def execSupplyWarnClear (vbus : Nat) (s : State) : Result :=
  if !s.pwr.warn || s.voltsBelow vbus (s.get Reg.PWR_BUS_THRESH_VBUS_WARN + 5) then .next s
  else .next { s with pwr := { s.pwr with warn := false, vbus } }

/-- SUPPLY_RETURNED (02 R52, R54): a device in RIDE returns to NORMAL. -/
def execSupplyReturned (vbus holdup ibus : Nat) (s : State) : Result :=
  if s.pwr.por || s.voltsBelow vbus (s.get Reg.PWR_BUS_THRESH_VBUS_WARN + 5) || !s.currentAbove ibus then .next s
  else
    let s1 : State := { s with pwr := { s.pwr with fail := false, vbus, holdup, ibus } }
    if s1.get Reg.PWR_HOLDUP_STATUS_STATE = 1 && !s1.pwr.deferral then
      .next ((s1.put Reg.PWR_HOLDUP_STATUS_STATE 0).powerEvent).budget
    else .next s1.budget

/-- HOLDUP_RESERVE_REACHED (02 R54): the bank has fallen to RESERVE in RIDE. -/
def execHoldupReserveReached (holdup : Nat) (s : State) : Result :=
  if s.get Reg.PWR_HOLDUP_STATUS_STATE != 1 || s.pwr.deferral || !s.canSave || s.reserveEnergy < s.bankEnergy holdup then .next s
  else .next (({ s with pwr := { s.pwr with holdup } } : State).enterSave 2)

/-- CHRYSALIS_SAVE_COMPLETE (02 R54, R56-R58): buffer committed, record written, SAVED, AOS safe state; what waited takes effect. -/
def execChrysalisSaveComplete (s : State) : Result :=
  if s.get Reg.PWR_HOLDUP_STATUS_STATE != 2 then .next s
  else .next ((s.saveCommit.writeRecord 6).saved.aosSafe).afterSave

/-- HOLDUP_BELOW_MINIMUM (02 R57): the save ends at once, without its record. -/
def execHoldupBelowMinimum (holdup : Nat) (s : State) : Result :=
  if s.get Reg.PWR_HOLDUP_STATUS_STATE != 2 || !s.voltsBelow holdup (s.get Reg.PWR_BUS_THRESH_HOLDUP_MIN) then .next s
  else .next (({ s with pwr := { s.pwr with holdup } } : State).endSaveEarly.aosSafe).afterSave

/-- A write of `PWR.BUS_THRESH` (02 R53): discarded whole when it would leave the thresholds out of order. -/
def State.writeThresh (s : State) (v : Word) : State :=
  let fail := bitsOf v 19 10
  if bitsOf v 29 20 ≤ fail || fail ≤ bitsOf v 9 0 then s else (s.write Reg.PWR_BUS_THRESH_VBUS_WARN.base v).budget

/-- PWR_BUS_THRESH_WRITE (02 R53). -/
def execPwrBusThreshWrite (v : Word) (s : State) : Result := if s.awake then .next (s.writeThresh v) else .next s

/-! ### Temperature: units of 0.25 degrees -/

/-- T_WARN_REACHED (02 R62): 100 degrees. -/
def execTWarnReached (temp : Nat) (s : State) : Result :=
  if temp < 400 || s.pwr.tWarn || s.pwr.por then .next s
  else .next (({ s with pwr := { s.pwr with tWarn := true } } : State).put Reg.PWR_TEMP_TEMP temp).powerEvent

/-- T_WARN_CLEAR (02 R62): below 95 degrees. -/
def execTWarnClear (temp : Nat) (s : State) : Result :=
  if 380 ≤ temp || !s.pwr.tWarn then .next s
  else .next (({ s with pwr := { s.pwr with tWarn := false } } : State).put Reg.PWR_TEMP_TEMP temp)

/-- T_SHUT_REACHED (02 R63, R66): 110 degrees.  A save goes on (R57), a device held in reset only stays held (R65). -/
def execTShutReached (temp : Nat) (s : State) : Result :=
  if temp < 440 || s.pwr.por || s.pwr.trip || s.pwr.deferral then .next s
  else
    let s1 := ({ s with pwr := { s.pwr with thermalHold := true } } : State).put Reg.PWR_TEMP_TEMP temp
    let st := s1.get Reg.PWR_HOLDUP_STATUS_STATE
    if decide (2 ≤ st) || s1.pwr.inReset then .next s1
    else
      let s2 := s1.haltCapture.holdFlash.abandonCal
      .next { s2 with pwr := { s2.pwr with deferral := true, failInDeferral := st == 1 } }

/-- T_SHUT_DEFERRAL_END (02 R63, R66): the AOS safe state; after a FAIL only the record is written first, with the buffer unsaved. -/
def execTShutDeferralEnd (s : State) : Result :=
  if !s.pwr.deferral then .next s
  else
    let r : Chrysalis := { cause := 4, failTime := s.pwr.record.failTime, saveTime := s.now, unsaved := s.dirty }
    let s1 : State := { s with pwr := { s.pwr with deferral := false } }
    let s2 := if s.pwr.failInDeferral then
        ((({ s1 with pwr := { s1.pwr with record := r } } : State).writeRecord 1).put Reg.PWR_HOLDUP_STATUS_STATE 3).powerEvent
      else s1
    let s3 := (s2.cause Reg.RST_CAUSE_T_SHUT).aosSafe
    .next ({ s3 with pwr := { s3.pwr with nandOn := false } } : State).afterSave

/-- Every PLL output but AON's stops (02 R64; log 77 keeps the colophon's own). -/
def State.pllsOff (s : State) : State :=
  let s1 := (s.put Reg.CLK_PLL_STATUS_CORE_LOCK 0).put Reg.CLK_PLL_STATUS_GPHY_LOCK 0
  ((s1.put Reg.CLK_PLL_STATUS_PCIE_LOCK 0).put Reg.CLK_PLL_STATUS_PAIR_LOCK 0).put Reg.CLK_LANE_PLL_LOCK_LOCK 0

/-- T_TRIP (02 R64, R65, R57): every PLL stops, outputs in their power-up state, FAULT_N low; flash operations are cut (18 R458), the
write buffer is lost (09 R242; log 77), the device holds itself in reset. -/
def execTTrip (temp : Nat) (s : State) : Result :=
  if temp < 500 || s.pwr.por || s.pwr.trip then .next s
  else
    let s1 := ((s.put Reg.PWR_TEMP_TEMP temp).cause Reg.RST_CAUSE_T_TRIP).haltCapture.powerUpOutputs.electricalIdle.releaseClaim
    let s2 := s1.endSaveEarly
    let s3 := match s2.efc.run with
      | some r => if r.op = FlashOp.sectorErase then s2.efcAbortErase false else s2.cutFlash
      | none => s2
    let s4 := s3.pllsOff.setFlag Reg.CLK_PLL_STATUS_LOSS_EVENT true
    let s5 := (List.range 5).foldl (fun (t : State) k => t.put Reg.MBX_CORE_STATUS_STATE 0 k) s4
    .next ({ s5 with
      pcie := { s5.pcie with linkUp := false }, mag := { s5.mag with buf := [], bufTag := [] },
      pwr := { s5.pwr with trip := true, thermalHold := true, deferral := false, faultLow := true, inReset := true } } : State).afterSave

end Sys2Proof.Machine
end

