-- ==== Sys2Proof/Machine/Regs.lean ====
section
/-!
DEFINITION. Register access (00 R5, R10-R13, R533; 04 R127; 08 R208; 21 R497-R500): a requester's write of one 32-bit word with all
that its chapter ties to it, the reads that change state, and configuration requests (02 R39; 08 R201, R202, R220).
Addresses are the keys of the register table: the function 0 BAR0 offset, 2^32 + offset for function 1 BAR0, 4 * 2^32 + offset for BAR4.
-/
namespace Sys2Proof.Machine

/-- Go on with the next state of an outcome. -/
def andThen (r : Result) (f : State → Result) : Result :=
  match r with
  | .next s => f s
  | .fault e => .fault e
  | .refused e => .refused e

/-- Run one meaning, and where `b` holds another one after it. -/
def alsoIf (b : Bool) (g : State → Result) (r : Result) : Result := if b then andThen r g else r

/-- The colophon does not answer at key `k`: its registers but the MSI-X table and PBA while it is unpowered (17 R431). -/
def State.colSilent (s : State) (k : Nat) : Bool :=
  decide (2 ^ 32 ≤ k) && decide (k < 2 ^ 32 + 0xF0000) && !s.col.powered

/-- A register has event bits (08 R208). -/
def hasEvents (k : Nat) : Bool :=
  match regFind k with
  | some r => r.fields.any (fun f => f.acc == .w1c)
  | none => false

/-- A write by access types; a word with event bits signals its vector again where the OR stays 1 (00 R10, R12; 08 R208). -/
def State.plainWrite (s : State) (k : Nat) (v : Word) : State :=
  if hasEvents k then (s.write k v).resignal k else s.write k v

/-- Clear the W1C bits that `v` names and nothing else. -/
def clearBits (v w : Word) (f : RField) : Word := if f.acc = .w1c then fieldWrite true v w f else w

/-- The key of a requester's code, for its 64-bit read shadows (04 R127). -/
def shadowIx (q : Requester) : Nat :=
  match q with
  | .host0 => 0
  | .host1 => 1
  | .mc0 => 2
  | .mc1 => 3
  | .mc2 => 4
  | .mc3 => 5
  | .sc => 6
  | .cc => 7
  | .dbg => 8
  | .aos => 9

/-- The function in whose memory space a register lies. -/
def keyFn (k : Nat) : Nat := if k / 2 ^ 32 = 1 then 1 else 0

/-- The access is a memory request of the host that its function does not take (08 R201, R222, R224). -/
def State.asleep (s : State) (q : Requester) (k : Nat) : Bool := (q == .host0 || q == .host1) && s.barRefuses (keyFn k)

/-- Fields `mask` of a word are discarded with a flag while `lock` holds, as far as they would change (00 R533). -/
def State.lockedWrite (s : State) (k : Nat) (v mask : Word) (lock : Bool) (flag : State → State) : State :=
  if !lock then s.write k v
  else
    let s1 := s.writeExcept k v mask
    if (s.written k v &&& mask) = (s.rd k &&& mask) then s1 else flag s1

/-- A write of `HQ.CTL` (09 R231, R232): scanning begins ACTIVE when it is switched on. -/
def State.writeHqCtl (s : State) (v : Word) : State :=
  let on := v.getLsbD 0
  let s1 := s.setFlag Reg.HQ_CTL_SCAN_EN on
  if on && !s.flag Reg.HQ_CTL_SCAN_EN then
    ({ s1 with hq := { s1.hq with emptyScans := 0 } } : State).setFlag Reg.HQ_STATUS_SCAN_IDLE false
  else s1

/-- A write to a submission ring's BASE or CTL (09 R226, R227): its fields only while IDLE, SQ0's CQ never. -/
def State.writeSq (s : State) (n k : Nat) (v : Word) : State :=
  let busy := s.get Reg.HQ_SQ_STATUS_STATE n != 0
  if k % 32 != 8 then s.lockedWrite k v 0xFFFFFFFF busy State.cfgRej
  else
    let s1 := s.lockedWrite k v 0x7FFFFFFF busy State.cfgRej
    let s2 := if n = 0 && s1.get Reg.HQ_SQ_CTL_CQ 0 != 0 then (s1.put Reg.HQ_SQ_CTL_CQ 0 0).cfgRej else s1
    let was := s.flag Reg.HQ_SQ_CTL_EN n
    let s3 := s2.setFlag Reg.HQ_SQ_CTL_EN was n
    if v.getLsbD 31 = was then s3 else s3.sqEnable n (v.getLsbD 31)

/-- A write to a completion ring's BASE or CTL (09 R227, R251). -/
def State.writeCq (s : State) (m k : Nat) (v : Word) : State :=
  let busy := s.get Reg.HQ_CQ_STATUS_STATE m != 0
  if k % 32 != 8 then s.lockedWrite k v 0xFFFFFFFF busy State.cfgRej
  else
    let s1 := s.lockedWrite k v 0x7FFFFFFF busy State.cfgRej
    let was := s.flag Reg.HQ_CQ_CTL_EN m
    let s2 := s1.setFlag Reg.HQ_CQ_CTL_EN was m
    if v.getLsbD 31 = was then s2 else s2.cqEnable m (v.getLsbD 31)

/-- A write to a BAR2 window's registers (08 R206): BASE, TARGET and SIZE are discarded with XWIN_REJ while EN is 1. -/
def State.writeXwin (s : State) (w k : Nat) (v : Word) : State :=
  let on := s.flag Reg.PCIE_XWIN_CTL_EN w
  let rej := fun (t : State) => t.event Reg.PCIE_STATUS_XWIN_REJ
  if k % 32 != 16 then s.lockedWrite k v 0xFFFFFFFF on rej
  else
    let s1 := (s.lockedWrite k v 0xFFFFFFFE on rej).setFlag Reg.PCIE_XWIN_CTL_EN on w
    if v.getLsbD 0 then s1.xwinEnable w else s1.setFlag Reg.PCIE_XWIN_CTL_EN false w

/-- A write to an MSI-X table entry: a pending vector that is unmasked is sent (08 R209). -/
def State.writeVector (s : State) (fn vec k : Nat) (v : Word) : State :=
  let s1 := s.write k v
  if s1.pba fn vec && !s1.vecMasked fn vec then s1.signal fn vec else s1

/-- A write to a register that takes effect at a beam's next wedge (13 R337). -/
def State.writeBeam (s : State) (k : Nat) (v : Word) : State :=
  let s1 := if s.och.applied.any (fun e => e.1 == k) then s else s.atWedge k
  s1.write k v

/-- A write of a loop's SETPT (14 R374): discarded with CFG_REJ while service mode drives the loop. -/
def State.writeSetpt (s : State) (l k : Nat) (v : Word) : State :=
  s.lockedWrite k v 0xFFFFFFFF (s.serviced l) (fun t => t.event Reg.SRV_STATUS_CFG_REJ)

/-- A write to an EFC command-port register (18 R454). -/
def State.writePort (s : State) (q : Requester) (k : Nat) (v : Word) : Result :=
  if k = Reg.EFC_KEY_KEY.base then execEfcKeyWrite q v s
  else if k = Reg.EFC_CMD_OP.base then .next (s.efcCmd q v)
  else if k = Reg.EFC_ADDR_ADDR.base then .next (s.efcAddr q v (fun _ => true))
  else .next (s.efcData q v)

/-- A write of an axis' CMD (15 R393-R395); other codes are reserved (00 R12). -/
def axisCmd (q : Requester) (a : AxisIx) (v : Word) (s : State) : Result :=
  match bitsOf v 3 0 with
  | 1 => execSeek q a s
  | 2 => execSweep q a s
  | 3 => execAxisStop q a s
  | 4 => execAxisResume q a s
  | 5 => execHome q a s
  | 6 => execPark q a s
  | _ => .next s

/-- A unit's CTL with EN in bit 0 and CNT_CLR in bit 8 (02 R46). -/
def ctlWrite (u : UnitRef) (clear : State → Result) (v : Word) (s : State) : Result :=
  andThen (if v.getLsbD 8 then clear s else .next s) (fun t => .next (t.enableUnit u (v.getLsbD 0)))

/-- Writes to TOP, PCIE, CLK, RST and PWR (pages 0 and 1). -/
def writePage01 (k : Nat) (v : Word) (s : State) : Result :=
  if k = Reg.TOP_MODE_ROLE.base then .next (s.writeMode v)
  else if k = Reg.PCIE_CFG_MAX_RATE.base then (if v.getLsbD 16 then execPcieCntClr s else .next s)
  else if k = Reg.CLK_SENS_REFCLK_EN.base then
    .next { (s.write k v) with pwr := { s.pwr with sensRefclk := v.getLsbD 0 && !s.pwr.lockstep && !s.pwr.trip } }
  else if k = Reg.RST_UNIT_RESET_RESET.base then .next (s.writeUnitReset (bitsOf v 18 1 * 2))
  else if k = Reg.PWR_BUS_THRESH_VBUS_WARN.base then .next (s.writeThresh v)
  else match indexIn k 0x10100 16 32 with
    | some w => .next (s.writeXwin w k v)
    | none => .next (if decide (0x100200 ≤ k) && decide (k < 0x100240) then (s.plainWrite k v).budget else s.plainWrite k v)

/-- Writes to LANE, CAP, CMP, GAL and PAIR (pages 2 to 6). -/
def writePage26 (k : Nat) (v : Word) (s : State) : Result :=
  if mirrored k then execCapConfigWrite k v s
  else if k = Reg.CAP_CTL_EN.base then ctlWrite .cap execCapCntClr v s
  else if k = Reg.CMP_CFG_STEAL_RADIUS.base then alsoIf (v.getLsbD 8) execCmpCntClr (.next (s.write k v))
  else if k = Reg.GAL_CTL_CNT_CLR.base then (if v.getLsbD 0 then execGalCntClr s else .next s)
  else if k = Reg.GAL_ARB_WM_HIGH.base then execGalArbWmWrite v s
  else if k = Reg.GAL_ERR_INFO_VALID.base then execGalErrorLogFree v s
  else if k = Reg.PAIR_CTL_EN.base then ctlWrite .pair execPairCntClr v (s.writeExcept k v 1)
  else if k % 32 = 0 && decide (0x201000 ≤ k) && decide (k < 0x201400) then
    execLanePortCtlWrite (Fin.ofNat 32 ((k - 0x201000) / 32)) v s
  else if k % 256 = 0 && decide (0x210000 ≤ k) && decide (k < 0x220000) then
    execLaneEgressChange (Fin.ofNat 258 ((k - 0x210000) / 256)) v s
  else if k = 0x230000 || k = 0x230100 then execLaneEgressChange (Fin.ofNat 258 (256 + (k - 0x230000) / 256)) v s
  else if k % 64 = 0 && decide (0x401000 ≤ k) && decide (k < 0x401800) then
    execCompositorMaskWrite (Fin.ofNat 32 ((k - 0x401000) / 64)) v s
  else .next (s.plainWrite k v)

/-- Writes to HQ, MAG and MAP (pages 7 to 9). -/
def writePage79 (k : Nat) (v : Word) (s : State) : Result :=
  if k = Reg.HQ_CTL_SCAN_EN.base then alsoIf (v.getLsbD 8) execHqCntClr (.next (s.writeHqCtl v))
  else if decide (0x700010 ≤ k) && decide (k < 0x700020) then
    .next (s.lockedWrite k v 0xFFFFFFFF (s.flag Reg.HQ_CTL_SCAN_EN) State.cfgRej)
  else if k = 0x700020 then execHqWake v s
  else if k = Reg.MAG_CTL_EN.base then ctlWrite .mag execMagCntClr v s
  else if k = Reg.MAP_CTL_CNT_CLR.base then (if v.getLsbD 8 then execMapCntClr s else .next s)
  else match indexIn k 0x710000 1024 32, indexIn k 0x720000 1024 32 with
    | some n, _ =>
      if k % 32 = 16 then (if v.getLsbD 0 then execSqResume (Fin.ofNat 1024 n) (v.getLsbD 1) s else .next s)
      else if k % 32 < 12 then .next (s.writeSq n k v)
      else .next s
    | none, some m => if k % 32 < 12 then .next (s.writeCq m k v) else .next s
    | none, none => .next (s.plainWrite k v)

/-- Writes to OCH and SRV (pages 0xA and 0xB). -/
def writePageAB (k : Nat) (v : Word) (s : State) : Result :=
  if k = Reg.OCH_CTL_EN.base then ctlWrite .och execOchCntClr v s
  else if k = Reg.SRV_CTL_EN.base then ctlWrite .srv execSrvCntClr v s
  else if k = Reg.SRV_SVC_EN.base then execServiceModeEnable v s
  else if k = Reg.SRV_GOV_TEMP_T_START.base then execGovernorThresholdWrite false v s
  else if k = Reg.SRV_GOV_IBUS_I_START.base then execGovernorThresholdWrite true v s
  else if (List.range 16).any (fun b => beamKey b k) then .next (s.writeBeam k v)
  else match indexIn k 0xB01000 4 256, indexIn k 0xB02000 4 32, indexIn k 0xB03000 6 16 with
    | some l, _, _ =>
      if k % 256 = 0 then alsoIf (v.getLsbD 16) (execLoopCommit (Fin.ofNat 4 l)) (.next (s.write k v))
      else if k % 256 = 4 then .next (s.writeSetpt l k v)
      else .next (s.write k v)
    | none, some l, _ => if k % 32 = 0 then execCoilCfgWrite (Fin.ofNat 4 l) v s else .next s
    | none, none, some t =>
      if k % 16 = 0 then alsoIf (v.getLsbD 29) (execFfBankSwap (Fin.ofNat 6 t)) (.next (s.write k v)) else .next (s.write k v)
    | none, none, none => .next (s.plainWrite k v)

/-- Writes to MOT and SEC (pages 0xC and 0xD). -/
def writePageCD (q : Requester) (k : Nat) (v : Word) (s : State) : Result :=
  if k = Reg.MOT_CTL_EN.base then ctlWrite .mot execMotCntClr v s
  else if k = Reg.MOT_PWM_PERIOD.base then execMotPwmWrite v s
  else if k = Reg.MOT_SPN_SVC_EN.base then execSpindleServiceEnable q v s
  else if k = Reg.SEC_CTL_CNT_CLR.base then (if v.getLsbD 8 then execSecCntClr s else .next s)
  else match indexIn k 0xC00100 3 64 with
    | some a =>
      if k % 64 = 16 then axisCmd q (Fin.ofNat 3 a) v s
      else if k % 64 = 20 || k % 64 = 32 then .next (s.lockedWrite k v 0xFFFFFFFF (s.axisHeld q) State.motRej)
      else .next (s.write k v)
    | none => .next (s.plainWrite k v)

/-- Writes to EFC, MBX, CAL and DBG (pages 0xE to 0x11) and to the flash window (18 R449). -/
def writePageE (q : Requester) (k : Nat) (v : Word) (s : State) : Result :=
  if 0x2000000 ≤ k then execEfcWindowWrite q k v s
  else if k = Reg.EFC_CTL_CNT_CLR.base then (if v.getLsbD 8 then execEfcCntClr s else .next s)
  else if decide (0xE00008 ≤ k) && decide (k < 0xE00018) then s.writePort q k v
  else if k = Reg.EFC_ECC_LOG_VALID.base then execEfcEccLogFree v s
  else if k = Reg.EFC_ABORT_ADDR_VALID.base then execEfcAbortAddrClr v s
  else if k = Reg.MBX_CTL_CNT_CLR.base then (if v.getLsbD 8 then execMbxCntClr s else .next s)
  else if (calOf k).isSome then execCalValueWrite k v s
  else match indexIn k 0xF01000 64 16, indexIn k 0xF02000 64 8, indexIn k 0x1000100 6 32 with
    | some n, _, _ => if k % 16 = 0 then execMailboxWrite q (Fin.ofNat 64 n) v s else .next (s.plainWrite k v)
    | none, some n, _ => if k % 8 = 4 && v.getLsbD 0 then execQuoinRelease q (Fin.ofNat 64 n) s else .next s
    | none, none, some b =>
      if k % 32 = 0 then alsoIf (v.getLsbD 0) (execCalRunRequest (Fin.ofNat 6 b)) (.next (s.write k v)) else .next s
    | none, none, none => .next (s.plainWrite k v)

/-- Writes to function 1 BAR0 (17).  GO of `COL.CHANGE_CMD` is CHANGE_GO's: it needs the storage cell and its programming result. -/
def writeColophon (k : Nat) (v : Word) (s : State) : Result :=
  if k = Reg.COL_CTL_EN.base then ctlWrite .col execColCntClr v s
  else if k = Reg.COL_TOD_CMD_ARM.base then (if v.getLsbD 0 then execTodArm s else .next s)
  else if k = Reg.COL_AUTH_PROVISIONED.base then (if v.getLsbD 4 then execAuthProvision s else .next s)
  else if decide (2 ^ 32 + 0x100 ≤ k) && decide (k < 2 ^ 32 + 0x160) && s.flag Reg.COL_AUTH_PROVISIONED then .next s
  else match indexIn k (2 ^ 32 + 0xF0000) 8 16 with
    | some vec => .next (s.writeVector 1 vec k v)
    | none => .next (s.plainWrite k v)

/-- A requester's write of `v` at key `k` to a register that answers. -/
def State.hostWrite (s : State) (q : Requester) (k : Nat) (v : Word) : Result :=
  if 4 * 2 ^ 32 ≤ k then .next (s.writeVector 0 ((k - 4 * 2 ^ 32) / 16) k v)
  else if 2 ^ 32 ≤ k then writeColophon k v s
  else if k < 0x200000 then writePage01 k v s
  else if k < 0x700000 then writePage26 k v s
  else if k < 0xA00000 then writePage79 k v s
  else if k < 0xC00000 then writePageAB k v s
  else if k < 0xE00000 then writePageCD q k v s
  else writePageE q k v s

/-- A key that memory requests reach: BAR0 of either function, or the MSI-X table and PBA in BAR4 (21). -/
def barKey (k : Nat) : Bool :=
  k % 4 == 0 && (decide (k < 0x4000000) || (decide (2 ^ 32 ≤ k) && decide (k < 2 ^ 32 + 0x100000)) ||
    (decide (4 * 2 ^ 32 ≤ k) && decide (k < 4 * 2 ^ 32 + 0x10000)))

/-- A write of one word: absent units and unnamed offsets discard it (00 R5, R11). -/
def State.wordWrite (s : State) (q : Requester) (k : Nat) (v : Word) : Result :=
  if s.absentAt k || s.colSilent k then .next s else s.hostWrite q k v

/-- REGISTER_WRITE (00 R10-R12, R533; 21 R497; 08 R203): one aligned 32-bit write, or with `hi` one aligned 8-byte write, whose words
take effect together. -/
def execRegisterWrite (q : Requester) (addr : Nat) (v : Word) (s : State) (hi : Option Word := none) : Result :=
  if !barKey addr || !s.awake || (hi.isSome && addr % 8 != 0) then .next s
  else if s.asleep q addr then .next (s.refuseBar (keyFn addr) true)
  else
    match hi with
    | none => s.wordWrite q addr v
    | some h => andThen (s.wordWrite q addr v) (fun t => t.wordWrite q (addr + 4) h)

/-- EVENT_BIT_CLEAR (00 R10; 08 R208): the W1C bits written 1 are cleared; the vector is signalled again where its OR stays 1. -/
def execEventBitClear (q : Requester) (addr : Nat) (v : Word) (s : State) : Result :=
  if !barKey addr || !s.awake then .next s
  else if s.asleep q addr then .next (s.refuseBar (keyFn addr) true)
  else if s.absentAt addr || s.colSilent addr then .next s
  else
    match regFind addr with
    | none => .next s
    | some r => .next ((s.wr addr (r.fields.foldl (clearBits v) (s.rd addr))).resignal addr)

/-- The word that a read of a register returns to a requester (00 R5, R10, R11; 17 R431; 21 R497): 0 where nothing answers, the
requester's shadow for a high word (04 R127).  Reads with an effect have rows of their own. -/
def State.readWord (s : State) (q : Requester) (k : Nat) (high : Bool) : Word :=
  if s.absentAt k then 0
  else if s.colSilent k then
    (if k = Reg.COL_STATUS_STATE.base then s.rd k &&& 0xFFFFFDF8 else 0)
  else if high then BitVec.ofNat 32 (lookupD 0 s.cap.shadows (16 * k + shadowIx q))
  else s.busWord k

/-- READ_64BIT_LOW_WORD (04 R127; 08 R203): the low half is returned, and with `wide` (an aligned 8-byte read) the 64-bit value; the high
half is kept for the requester. -/
def execRead64bitLowWord (q : Requester) (addr : Nat) (s : State) (wide : Bool := false) : Result :=
  if !barKey addr || !s.awake || (wide && addr % 8 != 0) then .next s
  else if s.asleep q addr then .next (s.refuseBar (keyFn addr) false)
  else
    let lo := (s.readWord q addr false).toNat
    let hi := (s.readWord q (addr + 4) false).toNat
    let s1 := { s with cap := { s.cap with shadows := insertKey s.cap.shadows (16 * (addr + 4) + shadowIx q) hi } }
    .next (s1.emit (.value (if wide then lo + 2 ^ 32 * hi else lo)))

/-- The word that a configuration read of function `f` returns (08 R201, R202): the Device Serial Number is the certificate's (16 R425);
a part with one function has the single-function header type, and Link Status shows the rate and the width that were negotiated. -/
def State.configWord (s : State) (f off : Nat) : Word :=
  let w := s.rd ((2 + f) * 2 ^ 32 + off)
  if off = 0x60 then w ||| BitVec.ofNat 32 (s.get Reg.PCIE_STATUS_RATE * 2 ^ 16 + s.get Reg.PCIE_STATUS_WIDTH * 2 ^ 20)
  else if off = 0x14C then BitVec.ofNat 32 deviceSerialNumber
  else if off = 0x150 then BitVec.ofNat 32 (deviceSerialNumber / 2 ^ 32)
  else if off = 0x0C && !s.part.colophon then w &&& 0xFF7FFFFF
  else w

/-- A configuration write (08 R204, R214, R219, R221, R222, R224, R534; 00 R10, R12). -/
def State.configWrite (s : State) (f off : Nat) (v : Word) : State :=
  let k := (2 + f) * 2 ^ 32 + off
  match off with
  | 0x04 =>
    let s1 := s.writeExcept k v 4
    if v.getLsbD 2 = s1.flag Reg.CFG_COMMAND_BME f then s1 else s1.busMaster f (v.getLsbD 2)
  | 0x18 => if f = 0 then (s.write k v).setBar2Size (s.get Reg.CFG_RBAR_CTL_SIZE) else s
  | 0x1C => if f = 0 then (s.write k v).setBar2Size (s.get Reg.CFG_RBAR_CTL_SIZE) else s
  | 0x44 =>
    let p := bitsOf v 1 0
    if p = s.get Reg.CFG_PMCSR_STATE f then s else s.powerState f p
  | 0x58 =>
    let s1 := s.write k v
    if v.getLsbD 15 then s1.flr f else s1
  | 0xB0 =>
    let s1 := s.write k v
    if s1.flag Reg.CFG_MSIX_ENABLE f && !s1.flag Reg.CFG_MSIX_FMASK f then s1.sendPending f else s1
  | 0x348 =>
    let code := bitsOf v 13 8
    if f != 0 || s.flag Reg.CFG_COMMAND_MSE 0 || code < 8 || 18 < code then s else s.setBar2Size code
  | 0x388 =>
    let s1 := s.writeExcept k v 1
    let s2 := if v.getLsbD 0 then s1.freezeFn f else s1
    if v.getLsbD 16 then s2.releaseFn f (bitsOf v 15 8) else s2
  | _ => s.write k v

/-- CONFIG_REQUEST (02 R39; 08 R220): a read (`v` absent) or write of one aligned word of configuration space; Request Retry Status until
FAULT_N is released and a reset's commit has ended, and while an FLR of the function runs (08 R222); served in containment and in D3hot. -/
def execConfigRequest (f : FnIx) (off : Nat) (v : Option Word) (s : State) : Result :=
  if 4096 ≤ off || off % 4 != 0 then .next s
  else if s.pwr.por || s.pwr.inReset || s.pwr.faultLow || s.pwr.pendingReset.isSome then .next (s.emit .retry)
  else if !s.hasFn f.val then .next (s.emit .unsupported)
  else if s.inFlr f.val then .next (s.emit .retry)
  else
    match v with
    | none => .next (s.emit (.value (s.configWord f.val off).toNat))
    | some w => .next ((s.configWrite f.val off w).emit .cplOk)

end Sys2Proof.Machine
end

