-- ==== Sys2Proof/Machine/Dispatch.lean ====
section
/-!
DEFINITION. The meaning of a command: one arm per constructor of Instr, each one direct call of that command's meaning.
-/
namespace Sys2Proof.Machine

def exec (i : Instr) (s : State) : Host.Outcome State Fault Refusal :=
  match i with
  | .registerWrite q addr v hi => Sys2Proof.Machine.execRegisterWrite q addr v s hi
  | .eventBitClear q addr v => Sys2Proof.Machine.execEventBitClear q addr v s
  | .read64bitLowWord q addr wide => Sys2Proof.Machine.execRead64bitLowWord q addr s wide
  | .configRequest f off v => Sys2Proof.Machine.execConfigRequest f off v s
  | .topModeWrite v => Sys2Proof.Machine.execTopModeWrite v s
  | .unitEnableWrite u v => Sys2Proof.Machine.execUnitEnableWrite u v s
  | .unitStartupComplete u => Sys2Proof.Machine.execUnitStartupComplete u s
  | .unitDrainComplete u => Sys2Proof.Machine.execUnitDrainComplete u s
  | .unitReset v => Sys2Proof.Machine.execUnitReset v s
  | .unitResetDrainTimeout => Sys2Proof.Machine.execUnitResetDrainTimeout s
  | .powerOnReset => Sys2Proof.Machine.execPowerOnReset s
  | .porRelease selfTest fw0 fw1 => Sys2Proof.Machine.execPorRelease selfTest fw0 fw1 s
  | .perstNAssert => Sys2Proof.Machine.execPerstNAssert s
  | .sysRstNAssert => Sys2Proof.Machine.execSysRstNAssert s
  | .resetDeassert sys fw0 fw1 => Sys2Proof.Machine.execResetDeassert sys fw0 fw1 s
  | .hotReset => Sys2Proof.Machine.execHotReset s
  | .flrFunction0 => Sys2Proof.Machine.execFlrFunction0 s
  | .flrFunction1 => Sys2Proof.Machine.execFlrFunction1 s
  | .pllLock p => Sys2Proof.Machine.execPllLock p s
  | .pllLossOfLock p => Sys2Proof.Machine.execPllLossOfLock p s
  | .lanePllLoss p => Sys2Proof.Machine.execLanePllLoss p s
  | .refclkLost => Sys2Proof.Machine.execRefclkLost s
  | .aosLockstepMismatch => Sys2Proof.Machine.execAosLockstepMismatch s
  | .mc0HeartbeatTimeout => Sys2Proof.Machine.execMc0HeartbeatTimeout s
  | .supplyFailDeclared vbus holdup ibus => Sys2Proof.Machine.execSupplyFailDeclared vbus holdup ibus s
  | .supplyWarnDeclared vbus => Sys2Proof.Machine.execSupplyWarnDeclared vbus s
  | .supplyWarnClear vbus => Sys2Proof.Machine.execSupplyWarnClear vbus s
  | .supplyReturned vbus holdup ibus => Sys2Proof.Machine.execSupplyReturned vbus holdup ibus s
  | .holdupReserveReached holdup => Sys2Proof.Machine.execHoldupReserveReached holdup s
  | .chrysalisSaveComplete => Sys2Proof.Machine.execChrysalisSaveComplete s
  | .holdupBelowMinimum holdup => Sys2Proof.Machine.execHoldupBelowMinimum holdup s
  | .pwrBusThreshWrite v => Sys2Proof.Machine.execPwrBusThreshWrite v s
  | .writeBufferSpaceFreed c h ecc => Sys2Proof.Machine.execWriteBufferSpaceFreed c h s ecc
  | .tWarnReached temp => Sys2Proof.Machine.execTWarnReached temp s
  | .tWarnClear temp => Sys2Proof.Machine.execTWarnClear temp s
  | .tShutReached temp => Sys2Proof.Machine.execTShutReached temp s
  | .tShutDeferralEnd => Sys2Proof.Machine.execTShutDeferralEnd s
  | .tTrip temp => Sys2Proof.Machine.execTTrip temp s
  | .thermalResetRelease temp fw0 fw1 => Sys2Proof.Machine.execThermalResetRelease temp fw0 fw1 s
  | .rxBlockLock l => Sys2Proof.Machine.execRxBlockLock l s
  | .receiveInvalidSyncHeader l ones payload info => Sys2Proof.Machine.execReceiveInvalidSyncHeader l ones payload info s
  | .hiBerClear l => Sys2Proof.Machine.execHiBerClear l s
  | .receiveIdle l payload info => Sys2Proof.Machine.execReceiveIdle l payload info s
  | .receiveAlign l payload info => Sys2Proof.Machine.execReceiveAlign l payload info s
  | .receiveFs l payload info => Sys2Proof.Machine.execReceiveFs l payload info s
  | .fsSkewTimeout frame => Sys2Proof.Machine.execFsSkewTimeout frame s
  | .receiveLs l payload info => Sys2Proof.Machine.execReceiveLs l payload info s
  | .receiveDataBlock l payload info => Sys2Proof.Machine.execReceiveDataBlock l payload info s
  | .receiveFe l payload info => Sys2Proof.Machine.execReceiveFe l payload info s
  | .frameTimeout frame => Sys2Proof.Machine.execFrameTimeout frame s
  | .receiveMk l payload info => Sys2Proof.Machine.execReceiveMk l payload info s
  | .receiveTrain l payload info => Sys2Proof.Machine.execReceiveTrain l payload info s
  | .laneDrainTimeout l => Sys2Proof.Machine.execLaneDrainTimeout l s
  | .lanePortCtlWrite p v => Sys2Proof.Machine.execLanePortCtlWrite p v s
  | .laneEgressChange l v => Sys2Proof.Machine.execLaneEgressChange l v s
  | .laneRetrain l => Sys2Proof.Machine.execLaneRetrain l s
  | .trainingBurstEnd l => Sys2Proof.Machine.execTrainingBurstEnd l s
  | .laneCntClr l => Sys2Proof.Machine.execLaneCntClr l s
  | .prbsTxEnable l => Sys2Proof.Machine.execPrbsTxEnable l s
  | .prbsRxEnable l => Sys2Proof.Machine.execPrbsRxEnable l s
  | .transmitAlign p => Sys2Proof.Machine.execTransmitAlign p s
  | .headTransmitLine p frame line => Sys2Proof.Machine.execHeadTransmitLine p frame line s
  | .pairingLaneDown k peer => Sys2Proof.Machine.execPairingLaneDown k s peer
  | .triggerEdge t level => Sys2Proof.Machine.execTriggerEdge t level s
  | .triggerQualifyingEvent t => Sys2Proof.Machine.execTriggerQualifyingEvent t s
  | .formeComplete frame => Sys2Proof.Machine.execFormeComplete frame s
  | .colophonRecordReceived seg => Sys2Proof.Machine.execColophonRecordReceived seg s
  | .colophonRecordTimeout seg => Sys2Proof.Machine.execColophonRecordTimeout seg s
  | .certTimeReturned => Sys2Proof.Machine.execCertTimeReturned s
  | .capConfigWrite addr v => Sys2Proof.Machine.execCapConfigWrite addr v s
  | .capDisable => Sys2Proof.Machine.execCapDisable s
  | .capCntClr => Sys2Proof.Machine.execCapCntClr s
  | .compositorTakeSort => Sys2Proof.Machine.execCompositorTakeSort s
  | .assemblyReadComplete k damaged => Sys2Proof.Machine.execAssemblyReadComplete k damaged s
  | .sortCoded k => Sys2Proof.Machine.execSortCoded k s
  | .compositorMaskWrite c v => Sys2Proof.Machine.execCompositorMaskWrite c v s
  | .cmpCntClr => Sys2Proof.Machine.execCmpCntClr s
  | .codedSortDelivery => Sys2Proof.Machine.execCodedSortDelivery s
  | .drainThrottleRelease => Sys2Proof.Machine.execDrainThrottleRelease s
  | .backgroundInitGranule => Sys2Proof.Machine.execBackgroundInitGranule s
  | .patrolScrubRead dmg => Sys2Proof.Machine.execPatrolScrubRead dmg s
  | .galErrorLogFree v => Sys2Proof.Machine.execGalErrorLogFree v s
  | .galArbWmWrite v => Sys2Proof.Machine.execGalArbWmWrite v s
  | .galCntClr => Sys2Proof.Machine.execGalCntClr s
  | .selfRefreshExit => Sys2Proof.Machine.execSelfRefreshExit s
  | .takeRecovery dmg => Sys2Proof.Machine.execTakeRecovery dmg s
  | .pairRoleEvaluation peerHigh => Sys2Proof.Machine.execPairRoleEvaluation peerHigh s
  | .pairClaimResample peerHigh => Sys2Proof.Machine.execPairClaimResample peerHigh s
  | .peerHigh => Sys2Proof.Machine.execPeerHigh s
  | .epochSend => Sys2Proof.Machine.execEpochSend s
  | .receiveEpochEnd k blocks => Sys2Proof.Machine.execReceiveEpochEnd k blocks s
  | .receivePairHeartbeat k payload peer => Sys2Proof.Machine.execReceivePairHeartbeat k payload s peer
  | .pairHeartbeatSend k => Sys2Proof.Machine.execPairHeartbeatSend k s
  | .epochAckTimeout => Sys2Proof.Machine.execEpochAckTimeout s
  | .pairLeavingEnd => Sys2Proof.Machine.execPairLeavingEnd s
  | .pairCntClr => Sys2Proof.Machine.execPairCntClr s
  | .linkTrained speed width flit errs => Sys2Proof.Machine.execLinkTrained speed width flit s errs
  | .bar0AccessBadShape f write addr => Sys2Proof.Machine.execBar0AccessBadShape f write addr s
  | .bar2Read addr len dmg => Sys2Proof.Machine.execBar2Read addr len dmg s
  | .bar2Write addr bytes poisoned dmg => Sys2Proof.Machine.execBar2Write addr bytes poisoned dmg s
  | .resizableBarWrite v => Sys2Proof.Machine.execResizableBarWrite v s
  | .xwinEnable w => Sys2Proof.Machine.execXwinEnable w s
  | .msixPendingSend f vec => Sys2Proof.Machine.execMsixPendingSend f vec s
  | .poisonedTlpReceived f kind => Sys2Proof.Machine.execPoisonedTlpReceived f kind s
  | .completionTimeout tag => Sys2Proof.Machine.execCompletionTimeout tag s
  | .lateCompletion tag => Sys2Proof.Machine.execLateCompletion tag s
  | .internalDatapathError corrected => Sys2Proof.Machine.execInternalDatapathError s corrected
  | .containmentFreeze f => Sys2Proof.Machine.execContainmentFreeze f s
  | .containmentRelease f v => Sys2Proof.Machine.execContainmentRelease f v s
  | .surpriseLinkDown => Sys2Proof.Machine.execSurpriseLinkDown s
  | .d3hotEntry f => Sys2Proof.Machine.execD3hotEntry f s
  | .d0Return f => Sys2Proof.Machine.execD0Return f s
  | .busMasterEnableClear f => Sys2Proof.Machine.execBusMasterEnableClear f s
  | .busMasterEnableSet f => Sys2Proof.Machine.execBusMasterEnableSet f s
  | .pcieCntClr => Sys2Proof.Machine.execPcieCntClr s
  | .doorbellScan => Sys2Proof.Machine.execDoorbellScan s
  | .summaryLineReceived r => Sys2Proof.Machine.execSummaryLineReceived r s
  | .doorbellLineReceived j r => Sys2Proof.Machine.execDoorbellLineReceived j r s
  | .hqWake v => Sys2Proof.Machine.execHqWake v s
  | .cqHeadDoorbellReceived m r => Sys2Proof.Machine.execCqHeadDoorbellReceived m r s
  | .submissionEntryFetch => Sys2Proof.Machine.execSubmissionEntryFetch s
  | .submissionEntryReceived n slot r => Sys2Proof.Machine.execSubmissionEntryReceived n slot r s
  | .cqCoalesceExpiry m => Sys2Proof.Machine.execCqCoalesceExpiry m s
  | .sqResume n skip => Sys2Proof.Machine.execSqResume n skip s
  | .hqCntClr => Sys2Proof.Machine.execHqCntClr s
  | .write c h ecc => Sys2Proof.Machine.execWrite c h s ecc
  | .read c ecc => Sys2Proof.Machine.execRead c ecc s
  | .flush c => Sys2Proof.Machine.execFlush c s
  | .discard c ecc => Sys2Proof.Machine.execDiscard c s ecc
  | .atomicWrite c h ecc => Sys2Proof.Machine.execAtomicWrite c h s ecc
  | .arm c => Sys2Proof.Machine.execArm c s
  | .stop c => Sys2Proof.Machine.execStop c s
  | .release c => Sys2Proof.Machine.execRelease c s
  | .releaseHeldComplete seg => Sys2Proof.Machine.execReleaseHeldComplete seg s
  | .exportTake c dmg puns ecc => Sys2Proof.Machine.execExportTake c dmg puns s ecc
  | .galleyRead c dmg => Sys2Proof.Machine.execGalleyRead c dmg s
  | .egressPlay c dmg => Sys2Proof.Machine.execEgressPlay c dmg s
  | .discLoad c => Sys2Proof.Machine.execDiscLoad c s
  | .discEject c => Sys2Proof.Machine.execDiscEject c s
  | .archiveWrite c ecc opc pass => Sys2Proof.Machine.execArchiveWrite c ecc opc pass s
  | .archiveRead c pass => Sys2Proof.Machine.execArchiveRead c pass s
  | .sealImago c => Sys2Proof.Machine.execSealImago c s
  | .archiveVerify c pass => Sys2Proof.Machine.execArchiveVerify c pass s
  | .keyLoad c h => Sys2Proof.Machine.execKeyLoad c h s
  | .keyClear c => Sys2Proof.Machine.execKeyClear c s
  | .cipher c h => Sys2Proof.Machine.execCipher c h s
  | .mac c h => Sys2Proof.Machine.execMac c h s
  | .attest c => Sys2Proof.Machine.execAttest c s
  | .abort c => Sys2Proof.Machine.execAbort c s
  | .logRead c => Sys2Proof.Machine.execLogRead c s
  | .featureGet c => Sys2Proof.Machine.execFeatureGet c s
  | .featureSet c => Sys2Proof.Machine.execFeatureSet c s
  | .ringCreate c => Sys2Proof.Machine.execRingCreate c s
  | .ringDelete c => Sys2Proof.Machine.execRingDelete c s
  | .ringResume c => Sys2Proof.Machine.execRingResume c s
  | .sanitize c => Sys2Proof.Machine.execSanitize c s
  | .format c => Sys2Proof.Machine.execFormat c s
  | .certRead c => Sys2Proof.Machine.execCertRead c s
  | .sanitizeResume => Sys2Proof.Machine.execSanitizeResume s
  | .magazineInserted m => Sys2Proof.Machine.execMagazineInserted m s
  | .magazineRemoved => Sys2Proof.Machine.execMagazineRemoved s
  | .mountStart rates => Sys2Proof.Machine.execMountStart rates s
  | .mountComplete => Sys2Proof.Machine.execMountComplete s
  | .bufferUnitCommit puns dmg => Sys2Proof.Machine.execBufferUnitCommit puns dmg s
  | .nandProgramComplete c => Sys2Proof.Machine.execNandProgramComplete c s
  | .programEraseFail block moves ecc => Sys2Proof.Machine.execProgramEraseFail block moves s ecc
  | .fold block moves ecc => Sys2Proof.Machine.execFold block moves ecc s
  | .blockRefresh block moves ecc => Sys2Proof.Machine.execBlockRefresh block moves ecc s
  | .patrolRead u ecc => Sys2Proof.Machine.execPatrolRead u ecc s
  | .rootWrite => Sys2Proof.Machine.execRootWrite s
  | .channelRetrain m rate => Sys2Proof.Machine.execChannelRetrain m rate s
  | .backgroundErase block => Sys2Proof.Machine.execBackgroundErase block s
  | .magDisable => Sys2Proof.Machine.execMagDisable s
  | .magCntClr => Sys2Proof.Machine.execMagCntClr s
  | .mapCacheAccess r addr size w err streaming => Sys2Proof.Machine.execMapCacheAccess r addr size w err streaming s
  | .mapFillComplete line => Sys2Proof.Machine.execMapFillComplete line s
  | .mapFillRetry line => Sys2Proof.Machine.execMapFillRetry line s
  | .mapDirtyClean set => Sys2Proof.Machine.execMapDirtyClean set s
  | .mapInvalidationComplete => Sys2Proof.Machine.execMapInvalidationComplete s
  | .mapWaymaskWrite r v => Sys2Proof.Machine.execMapWaymaskWrite r v s
  | .mapCntClr => Sys2Proof.Machine.execMapCntClr s
  | .pilotLock => Sys2Proof.Machine.execPilotLock s
  | .pilotLockLoss => Sys2Proof.Machine.execPilotLockLoss s
  | .samDetected pilot phase spots => Sys2Proof.Machine.execSamDetected pilot phase spots s
  | .laserFault b => Sys2Proof.Machine.execLaserFault b s
  | .laserPowerOn => Sys2Proof.Machine.execLaserPowerOn s
  | .proofRowVerdict b row corrected flagged => Sys2Proof.Machine.execProofRowVerdict b row corrected s flagged
  | .folioProofVerdict b => Sys2Proof.Machine.execFolioProofVerdict b s
  | .writeFault beams => Sys2Proof.Machine.execWriteFault beams s
  | .writeFaultRecovery b => Sys2Proof.Machine.execWriteFaultRecovery b s
  | .folioReadRetry pass => Sys2Proof.Machine.execFolioReadRetry pass s
  | .ochDisable => Sys2Proof.Machine.execOchDisable s
  | .ochCntClr => Sys2Proof.Machine.execOchCntClr s
  | .loopAcquireStart l => Sys2Proof.Machine.execLoopAcquireStart l s
  | .loopLocked l radius => Sys2Proof.Machine.execLoopLocked l s radius
  | .loopHoldEntry l => Sys2Proof.Machine.execLoopHoldEntry l s
  | .loopHoldExit l => Sys2Proof.Machine.execLoopHoldExit l s
  | .loopHoldTimeout l => Sys2Proof.Machine.execLoopHoldTimeout l s
  | .loopLoss l => Sys2Proof.Machine.execLoopLoss l s
  | .acquisitionTimeout l => Sys2Proof.Machine.execAcquisitionTimeout l s
  | .loopCommit l => Sys2Proof.Machine.execLoopCommit l s
  | .coilReversal l pos => Sys2Proof.Machine.execCoilReversal l pos s
  | .coilDwellExpiry l => Sys2Proof.Machine.execCoilDwellExpiry l s
  | .coilCfgWrite l v => Sys2Proof.Machine.execCoilCfgWrite l v s
  | .layerJumpStart down => Sys2Proof.Machine.execLayerJumpStart down s
  | .jumpKickEnd => Sys2Proof.Machine.execJumpKickEnd s
  | .jumpScurvePeak => Sys2Proof.Machine.execJumpScurvePeak s
  | .jumpBrakeEnd => Sys2Proof.Machine.execJumpBrakeEnd s
  | .jumpComplete layer => Sys2Proof.Machine.execJumpComplete layer s
  | .jumpTimeout layer => Sys2Proof.Machine.execJumpTimeout layer s
  | .ffBankSwap t => Sys2Proof.Machine.execFfBankSwap t s
  | .ffSwapApply t => Sys2Proof.Machine.execFfSwapApply t s
  | .governorUpdate vbus ibus => Sys2Proof.Machine.execGovernorUpdate vbus ibus s
  | .governorRise => Sys2Proof.Machine.execGovernorRise s
  | .governorThresholdWrite ibus v => Sys2Proof.Machine.execGovernorThresholdWrite ibus v s
  | .saturationFault l => Sys2Proof.Machine.execSaturationFault l s
  | .serviceModeEnable v => Sys2Proof.Machine.execServiceModeEnable v s
  | .serviceInputLost spindle => Sys2Proof.Machine.execServiceInputLost spindle s
  | .srvDisable => Sys2Proof.Machine.execSrvDisable s
  | .srvCntClr => Sys2Proof.Machine.execSrvCntClr s
  | .spindleStart zone => Sys2Proof.Machine.execSpindleStart zone s
  | .spindleFreqLock => Sys2Proof.Machine.execSpindleFreqLock s
  | .spindlePhaseAcquire => Sys2Proof.Machine.execSpindlePhaseAcquire s
  | .spindlePhaseLock => Sys2Proof.Machine.execSpindlePhaseLock s
  | .spindlePhaseLoss => Sys2Proof.Machine.execSpindlePhaseLoss s
  | .spindleZoneChange zone => Sys2Proof.Machine.execSpindleZoneChange zone s
  | .spindleBrakeRegen => Sys2Proof.Machine.execSpindleBrakeRegen s
  | .spindleBrakeShort speed => Sys2Proof.Machine.execSpindleBrakeShort speed s
  | .spindleStopped => Sys2Proof.Machine.execSpindleStopped s
  | .spindleServiceEnable q v => Sys2Proof.Machine.execSpindleServiceEnable q v s
  | .currentPredictionLimit => Sys2Proof.Machine.execCurrentPredictionLimit s
  | .kineticEnergyUpdate speed => Sys2Proof.Machine.execKineticEnergyUpdate speed s
  | .seek q a => Sys2Proof.Machine.execSeek q a s
  | .sweep q a => Sys2Proof.Machine.execSweep q a s
  | .axisStop q a => Sys2Proof.Machine.execAxisStop q a s
  | .axisResume q a => Sys2Proof.Machine.execAxisResume q a s
  | .home q a => Sys2Proof.Machine.execHome q a s
  | .park q a => Sys2Proof.Machine.execPark q a s
  | .axisMoveComplete a pos => Sys2Proof.Machine.execAxisMoveComplete a pos s
  | .axisStandstill a => Sys2Proof.Machine.execAxisStandstill a s
  | .homeSwitchEdge a asserted => Sys2Proof.Machine.execHomeSwitchEdge a asserted s
  | .homeFail a pos => Sys2Proof.Machine.execHomeFail a s pos
  | .exchangeStepTimeout => Sys2Proof.Machine.execExchangeStepTimeout s
  | .discSenseChange asserted => Sys2Proof.Machine.execDiscSenseChange asserted s
  | .discReturnAfterReset => Sys2Proof.Machine.execDiscReturnAfterReset s
  | .vdrvUndervoltage => Sys2Proof.Machine.execVdrvUndervoltage s
  | .vdrvRecovery => Sys2Proof.Machine.execVdrvRecovery s
  | .motPwmWrite v => Sys2Proof.Machine.execMotPwmWrite v s
  | .motDisable => Sys2Proof.Machine.execMotDisable s
  | .motCntClr => Sys2Proof.Machine.execMotCntClr s
  | .enginePieceDispatch e => Sys2Proof.Machine.execEnginePieceDispatch e s
  | .enginePieceComplete e => Sys2Proof.Machine.execEnginePieceComplete e s
  | .trngWindowFail consecutive => Sys2Proof.Machine.execTrngWindowFail consecutive s
  | .secCntClr => Sys2Proof.Machine.execSecCntClr s
  | .colophonPowerOnReset => Sys2Proof.Machine.execColophonPowerOnReset s
  | .colophonStartupComplete pass => Sys2Proof.Machine.execColophonStartupComplete pass s
  | .colophonDisable => Sys2Proof.Machine.execColophonDisable s
  | .disciplineGate good inc => Sys2Proof.Machine.execDisciplineGate good inc s
  | .ppsEdge elapsed inc => Sys2Proof.Machine.execPpsEdge elapsed inc s
  | .ppsLoss => Sys2Proof.Machine.execPpsLoss s
  | .holdoverExpiry => Sys2Proof.Machine.execHoldoverExpiry s
  | .todArm => Sys2Proof.Machine.execTodArm s
  | .frameStrobe => Sys2Proof.Machine.execFrameStrobe s
  | .tdcEdge inp rising fine => Sys2Proof.Machine.execTdcEdge inp rising fine s
  | .takeOpenMessage => Sys2Proof.Machine.execTakeOpenMessage s
  | .membershipDecision => Sys2Proof.Machine.execMembershipDecision s
  | .takeCloseMessage => Sys2Proof.Machine.execTakeCloseMessage s
  | .colophonHeartbeatSend => Sys2Proof.Machine.execColophonHeartbeatSend s
  | .colophonLinkLost => Sys2Proof.Machine.execColophonLinkLost s
  | .authProvision => Sys2Proof.Machine.execAuthProvision s
  | .changeGo cell entryOk => Sys2Proof.Machine.execChangeGo cell entryOk s
  | .colCntClr => Sys2Proof.Machine.execColCntClr s
  | .efcKeyWrite q v => Sys2Proof.Machine.execEfcKeyWrite q v s
  | .program q v => Sys2Proof.Machine.execProgram q v s
  | .sectorErase q v => Sys2Proof.Machine.execSectorErase q v s
  | .otpProgram q v => Sys2Proof.Machine.execOtpProgram q v s
  | .blankCheck q v => Sys2Proof.Machine.execBlankCheck q v s
  | .efcOperationComplete verified => Sys2Proof.Machine.execEfcOperationComplete verified s
  | .efcEraseSuspend resume => Sys2Proof.Machine.execEfcEraseSuspend resume s
  | .efcWindowRead q addr len errs => Sys2Proof.Machine.execEfcWindowRead q addr len errs s
  | .efcWindowWrite q addr v => Sys2Proof.Machine.execEfcWindowWrite q addr v s
  | .efcEccLogFree v => Sys2Proof.Machine.execEfcEccLogFree v s
  | .efcAbortAddrClr v => Sys2Proof.Machine.execEfcAbortAddrClr v s
  | .efcCntClr => Sys2Proof.Machine.execEfcCntClr s
  | .journalAppend journal kind payload => Sys2Proof.Machine.execJournalAppend journal kind payload s
  | .coreLockup k cause info => Sys2Proof.Machine.execCoreLockup k cause info s
  | .coreWatchdogTimeout k info => Sys2Proof.Machine.execCoreWatchdogTimeout k info s
  | .coreRestart k fw0 fw1 => Sys2Proof.Machine.execCoreRestart k fw0 fw1 s
  | .coreFirstHeartbeat k engines tests => Sys2Proof.Machine.execCoreFirstHeartbeat k engines tests s
  | .coreSleep k => Sys2Proof.Machine.execCoreSleep k s
  | .colophonCoreLockup => Sys2Proof.Machine.execColophonCoreLockup s
  | .mailboxWrite q n v => Sys2Proof.Machine.execMailboxWrite q n v s
  | .mailboxRead q n => Sys2Proof.Machine.execMailboxRead q n s
  | .aosNoticePost => Sys2Proof.Machine.execAosNoticePost s
  | .quoinTake q n => Sys2Proof.Machine.execQuoinTake q n s
  | .quoinRelease q n => Sys2Proof.Machine.execQuoinRelease q n s
  | .mbxCntClr => Sys2Proof.Machine.execMbxCntClr s
  | .calTemperatureCheck temps => Sys2Proof.Machine.execCalTemperatureCheck temps s
  | .calRunRequest b => Sys2Proof.Machine.execCalRunRequest b s
  | .calRunStart => Sys2Proof.Machine.execCalRunStart s
  | .calRunComplete codes => Sys2Proof.Machine.execCalRunComplete codes s
  | .calSlewStep b => Sys2Proof.Machine.execCalSlewStep b s
  | .calValueWrite addr v => Sys2Proof.Machine.execCalValueWrite addr v s
  | .tapReset => Sys2Proof.Machine.execTapReset s
  | .bypass tdi => Sys2Proof.Machine.execBypass tdi s
  | .idcode tdi => Sys2Proof.Machine.execIdcode tdi s
  | .samplePreload pins tdi => Sys2Proof.Machine.execSamplePreload pins tdi s
  | .extest tdi => Sys2Proof.Machine.execExtest tdi s
  | .clamp tdi => Sys2Proof.Machine.execClamp tdi s
  | .highz tdi => Sys2Proof.Machine.execHighz tdi s
  | .colVddReturn => Sys2Proof.Machine.execColVddReturn s
  | .cartPresentChange cart => Sys2Proof.Machine.execCartPresentChange cart s
  | .serviceInputReturn spindle n => Sys2Proof.Machine.execServiceInputReturn spindle n s
  | .loopSample l inp => Sys2Proof.Machine.execLoopSample l inp s
  | .pwmPeriod inp => Sys2Proof.Machine.execPwmPeriod inp s
  | .triggerLevelInactive t => Sys2Proof.Machine.execTriggerLevelInactive t s
  | .garbageCollection block moves ecc => Sys2Proof.Machine.execGarbageCollection block moves ecc s

end Sys2Proof.Machine
end

