-- ==== Sys2Proof/Machine/Tick.lean ====
section
/-!
DEFINITION. What passes on an empty queue: one FAB cycle (log 7).  Everything else that happens in time has a row of its own.
-/
namespace Sys2Proof.Machine

/-- One COL cycle of certified time: the count advances by the increment with its 32-bit fraction (17, "Time base").  Without
power it stands; across a PLL loss it goes on (17 R435). -/
def State.colTick (s : State) : State :=
  if !s.col.powered then s
  else
    let sum := s.col.frac + s.col.inc
    let s1 := s.put64 Reg.COL_TIME ((s.get64 Reg.COL_TIME + sum / 2 ^ 32) % 2 ^ 64)
    { s1 with col := { s1.col with frac := sum % 2 ^ 32 } }

/-- One FAB cycle of the galley: paused drain time, shown in microseconds of 1,600 cycles (06 R169). -/
def State.galTick (s : State) : State :=
  if !s.gal.paused then s
  else
    let n := s.gal.pausedTicks + 1
    ({ s with gal := { s.gal with pausedTicks := n } } : State).put64 Reg.GAL_THROTTLE (min (n / 1600) (2 ^ 64 - 1))

/-- One FAB cycle: device time counts while CORE_PLL gives the clock and POR is released (04 R107); every fourth is a COL
cycle of 2.5 ns. -/
def State.tick (s : State) : State :=
  if s.pwr.por || !s.flag Reg.CLK_PLL_STATUS_CORE_LOCK then s
  else
    let s1 := (s.put64 Reg.CAP_DEVTIME ((s.now + 1) % 2 ^ 64)).galTick
    if (s.now + 1) % 4 = 0 then s1.colTick else s1

end Sys2Proof.Machine
end

