-- ==== Sys2Proof/Safety.lean ====
section
/-!
DEFINITION. What statements about the block speak of: the canonical form of its registers and memories, what a command leaves
alone, and when a ring command is taken up.
-/
namespace Sys2Proof.Machine

/-- The galley's bytes are in canonical form (06 R175; log 1, log 5). -/
abbrev Memory.wf (m : List (Nat × Byte)) : Bool := swf (fun _ => (0 : Byte)) m

/-- Every sparse map that statements read is in canonical form (log 1): registers, the galley's bytes and tags, the
configuration flash and OTP, lanes, ports and rings. -/
structure Canon (s : State) : Prop where
  regs : swf regReset s.regs = true
  mem : Memory.wf s.gal.mem = true
  poison : swf (fun _ => false) s.gal.poison = true
  errs : swf (fun _ => []) s.gal.errs = true
  written : swf (fun _ => false) s.gal.written = true
  flash : swf flashBlank s.efc.flash = true
  otp : swf flashBlank s.efc.otp = true
  lanes : swf (fun _ => {}) s.lanes = true
  ports : swf (fun _ => {}) s.ports = true
  sq : swf (fun _ => {}) s.hq.sq = true
  cq : swf (fun _ => {}) s.hq.cq = true

/-- The parts of the state other than the registers. -/
inductive Holding where
  | lanes | ports | cap | cmp | gal | pair | pcie | hq | mag | map | och | srv | mot | sec | col | efc | mbx | cal | jtag | pwr
  | outbox | fresh
  deriving DecidableEq, Repr

/-- A part of the state is the same before and after. -/
def Holding.same (s t : State) : Holding → Prop
  | .lanes => t.lanes = s.lanes
  | .ports => t.ports = s.ports
  | .cap => t.cap = s.cap
  | .cmp => t.cmp = s.cmp
  | .gal => t.gal = s.gal
  | .pair => t.pair = s.pair
  | .pcie => t.pcie = s.pcie
  | .hq => t.hq = s.hq
  | .mag => t.mag = s.mag
  | .map => t.map = s.map
  | .och => t.och = s.och
  | .srv => t.srv = s.srv
  | .mot => t.mot = s.mot
  | .sec => t.sec = s.sec
  | .col => t.col = s.col
  | .efc => t.efc = s.efc
  | .mbx => t.mbx = s.mbx
  | .cal => t.cal = s.cal
  | .jtag => t.jtag = s.jtag
  | .pwr => t.pwr = s.pwr
  | .outbox => t.outbox = s.outbox
  | .fresh => t.fresh = s.fresh

/-- The word at key `k` belongs to the register, or register array, that a field lies in. -/
def Fld.holds (f : Fld) (k : Nat) : Prop := ∃ i < f.count, k = f.base + f.stride * i

/-- The second word of a 64-bit pair. -/
def Fld.high (f : Fld) : Fld := f.off 4

/-- What is left alone: the part of the family, the queue of commands, every part of the state but those of `ps`, and every
word of every register but those that the fields `rs` lie in. -/
structure Keeps (ps : List Holding) (rs : List Fld) (s t : State) : Prop where
  part : t.part = s.part
  pending : t.pending = s.pending
  pieces : ∀ p, p ∉ ps → p.same s t
  regs : ∀ k, (∀ f ∈ rs, ¬ f.holds k) → t.rd k = s.rd k

/-- The same for commands that write registers all over the block: registers are not spoken of. -/
structure KeepsParts (ps : List Holding) (s t : State) : Prop where
  part : t.part = s.part
  pending : t.pending = s.pending
  pieces : ∀ p, p ∉ ps → p.same s t

/-- Registers that a reset of the whole device does not simply put back to their reset values (02 R40; 18 R458; 19 R474). -/
def resetOwn : List Fld :=
  [Reg.CLK_PLL_STATUS_WORD, Reg.GAL_STATUS_WORD, Reg.PAIR_PINS_WORD, Reg.PCIE_STATUS_WORD, Reg.MAG_STATUS_WORD, Reg.EFC_STATUS_WORD,
   Reg.EFC_RESULT_WORD, Reg.MBX_CORE_STATUS_WORD, Reg.CAL_BLK_TEMP, Reg.DBG_STATUS_WORD, Reg.CFG_CONT_STATUS_WORD, Reg.RST_CAUSE_WORD]

/-! ### Groups of registers, whole registers by name -/

/-- Registers: what a command of the exchanger writes. -/
def axisRegs : List Fld :=
  [Reg.MOT_STATUS_WORD, Reg.MOT_AXIS_REMAIN_WORD, Reg.MOT_AXIS_STATUS_WORD, Reg.MSIX1_PBA, Reg.MSIX0_PBA]

/-- Registers: what closing a colophon record writes. -/
def recordRegs : List Fld :=
  [Reg.COL_STATUS_WORD, Reg.COL_REC_HEAD_LO, Reg.COL_REC_HEAD_HI, Reg.MSIX1_PBA, Reg.MSIX0_PBA]

/-- Registers: what a completion entry of a ring command writes. -/
def finishRegs : List Fld :=
  [Reg.HQ_FREEZES, Reg.HQ_SQ_STATUS_WORD, Reg.HQ_CQ_STATUS_WORD, Reg.SEC_SLOT_WORD, Reg.MSIX1_PBA, Reg.CFG_CONT_STATUS_WORD,
    Reg.MSIX0_PBA]

/-- Registers: what a read of the galley writes. -/
def galReadRegs : List Fld :=
  [Reg.GAL_STATUS_WORD, Reg.GAL_ERR_ADDR_LO, Reg.GAL_ERR_ADDR_HI, Reg.GAL_ERR_INFO_WORD, Reg.GAL_STACK_CE, Reg.GAL_STACK_UE,
    Reg.GAL_STACK_SCRUB_CE, Reg.GAL_STACK_SCRUB_UE, Reg.GAL_STACK_POISON_RD, Reg.MSIX1_PBA, Reg.MSIX0_PBA]

/-- Registers: what the fault of a servo loop writes. -/
def loopFaultRegs : List Fld :=
  finishRegs ++ [Reg.OCH_STATUS_WORD, Reg.OCH_PROOF_FAIL, Reg.OCH_WRITE_FAULTS, Reg.SRV_STATUS_WORD, Reg.SRV_LOOP_FAULTS,
    Reg.SRV_LOOP_STATUS_WORD, Reg.SRV_COIL_STATUS_WORD, Reg.EFC_PROGRAMS, Reg.EFC_ERASES]

/-- Registers: what logging an uncorrectable error of a function writes. -/
def errorRegs : List Fld :=
  [Reg.MSIX1_PBA, Reg.CFG_COMMAND_WORD, Reg.CFG_DEVCTL_WORD, Reg.CFG_UNC_STATUS_WORD, Reg.CFG_COR_STATUS_WORD,
    Reg.CFG_AERCTL_WORD, Reg.CFG_HDRLOG, (Reg.CFG_HDRLOG.off 4), (Reg.CFG_HDRLOG.off 8), (Reg.CFG_HDRLOG.off 12),
    Reg.CFG_HDRLOG2, (Reg.CFG_HDRLOG2.off 4), (Reg.CFG_HDRLOG2.off 8), (Reg.CFG_HDRLOG2.off 12), Reg.CFG_CONT_STATUS_WORD,
    Reg.CFG_ENTRY_TIME_LO, Reg.CFG_ENTRY_TIME_HI, Reg.MSIX0_PBA]

/-- Registers: what moving a unit of the magazine writes. -/
def moveRegs : List Fld :=
  galReadRegs ++ [Reg.GAL_INIT_PROGRESS, Reg.MAG_STATUS_WORD, Reg.MAG_SLC_WORD, Reg.MAG_NAND_WR_LO, Reg.MAG_NAND_WR_HI,
    Reg.MAG_UE, Reg.MAP_DIRTY]

/-- Registers: what closing a take and its completion write. -/
def takeRegs : List Fld :=
  galReadRegs ++ finishRegs ++ [Reg.CAP_SEG_TAKE_WORD, Reg.GAL_INIT_PROGRESS]

/-- Registers: what a step of a sanitize operation writes. -/
def sanitizeRegs : List Fld :=
  finishRegs ++ [Reg.GAL_STATUS_WORD, Reg.GAL_INIT_PROGRESS, Reg.HQ_SANITIZE_WORD, Reg.MAG_STATUS_WORD, Reg.MAG_GEOM_WORD,
    Reg.MAG_EXPORT_LO, Reg.MAG_EXPORT_HI, Reg.MAG_SLC_WORD, Reg.MAG_LOST_MIB, Reg.MAP_DIRTY, Reg.EFC_PROGRAMS, Reg.EFC_ERASES]

/-- Registers: what a failed host read writes. -/
def failedReadRegs : List Fld :=
  errorRegs ++ [Reg.PCIE_STATUS_WORD, Reg.PCIE_CPL_TIMEOUT, Reg.PCIE_POISON_RX]

/-- Registers: what marking a unit failed writes. -/
def failRegs : List Fld :=
  finishRegs ++ axisRegs ++ [Reg.TOP_UNIT_FAILED_WORD, Reg.CAP_STATUS_WORD, Reg.PAIR_STATUS_WORD, Reg.MAG_STATUS_WORD,
    Reg.OCH_STATUS_WORD, Reg.OCH_PROOF_FAIL, Reg.SRV_STATUS_WORD, Reg.SRV_LOOP_STATUS_WORD, Reg.SRV_COIL_STATUS_WORD,
    Reg.MOT_SPN_STATUS_WORD, Reg.MOT_SPN_TARGET_WORD, Reg.SEC_STATUS_WORD, Reg.EFC_PROGRAMS, Reg.EFC_ERASES]

/-- Registers: what the stop of a port writes. -/
def portStopRegs : List Fld :=
  takeRegs ++ [Reg.LANE_PORT_CTL_WORD, Reg.LANE_PORT_STATUS_WORD, Reg.LANE_L_STATUS_WORD, Reg.CMP_CLUSTER_STATUS_WORD,
    Reg.CMP_CLUSTER_QUEUE_PEAK, Reg.SRV_COIL_STATUS_WORD]

/-- Registers: what the start of a frame writes. -/
def frameRegs : List Fld :=
  takeRegs ++ [Reg.LANE_PORT_STATUS_WORD, Reg.LANE_L_STATUS_WORD, Reg.CAP_STATUS_WORD, Reg.CAP_FRAME_NUM_LO,
    Reg.CAP_FRAME_NUM_HI, Reg.CAP_SEQ_ERR, Reg.CAP_DROP_FULL, Reg.CAP_SEQ_SKIP, Reg.CMP_CLUSTER_STATUS_WORD,
    Reg.CMP_CLUSTER_QUEUE_PEAK, Reg.SRV_COIL_STATUS_WORD]

/-- Registers: what every received block writes. -/
def rxRegs : List Fld :=
  takeRegs ++ [Reg.LANE_PORT_STATUS_WORD, Reg.LANE_L_STATUS_WORD, Reg.LANE_L_BLOCKS_LO, Reg.LANE_L_BLOCKS_HI,
    Reg.LANE_L_EB_ADJ_WORD, Reg.LANE_L_EB_SLIPS, Reg.LANE_L_PRBS_ERR, Reg.LANE_L_PRBS_BITS_LO, Reg.LANE_L_PRBS_BITS_HI,
    Reg.CMP_CLUSTER_STATUS_WORD, Reg.CMP_CLUSTER_QUEUE_PEAK, Reg.SRV_COIL_STATUS_WORD]

/-- Registers: what entering the AOS safe state writes. -/
def safeRegs : List Fld :=
  takeRegs ++ [Reg.RST_CAUSE_WORD, Reg.LANE_L_STATUS_WORD, Reg.CMP_CLUSTER_STATUS_WORD, Reg.PAIR_STATUS_WORD,
    Reg.PAIR_PINS_WORD, Reg.OCH_STATUS_WORD, Reg.OCH_LASER_DRIVE_WORD, Reg.SRV_LOOP_STATUS_WORD, Reg.SRV_COIL_STATUS_WORD,
    Reg.MOT_SPN_STATUS_WORD, Reg.MOT_AXIS_REMAIN_WORD, Reg.MOT_AXIS_STATUS_WORD, Reg.CFG_ENTRY_TIME_LO, Reg.CFG_ENTRY_TIME_HI]

/-- Registers: what the start-up of a unit writes. -/
def upRegs : List Fld :=
  portStopRegs ++ recordRegs ++ [Reg.CAP_CTL_WORD, Reg.CAP_STATUS_WORD, Reg.CMP_STATUS_WORD, Reg.CMP_CLUSTER_CTL_WORD,
    Reg.HQ_SQ_CTL_WORD, Reg.HQ_CQ_CTL_WORD, Reg.MAG_CTL_WORD, Reg.MAG_STATUS_WORD, Reg.OCH_CTL_WORD, Reg.OCH_STATUS_WORD,
    Reg.OCH_PROOF_FAIL, Reg.SRV_CTL_WORD, Reg.SRV_STATUS_WORD, Reg.MOT_CTL_WORD, Reg.MOT_STATUS_WORD, Reg.EFC_PROGRAMS,
    Reg.EFC_ERASES, Reg.COL_CTL_WORD]

/-- Registers: what the lockup of a core writes. -/
def lockRegs : List Fld :=
  safeRegs ++ failRegs ++ [Reg.MBX_STATUS_WORD, Reg.MBX_CORE_STATUS_WORD, Reg.MBX_CORE_LOCK_TIME_LO,
    Reg.MBX_CORE_LOCK_TIME_HI, Reg.MBX_CORE_LOCK_INFO, Reg.MBX_BOX_STATUS_WORD, Reg.MBX_QUOIN_STATE_WORD,
    Reg.CAL_STATUS_WORD, Reg.CAL_BLK_STATUS_WORD]

/-- The ring command `tag` is taken up (09 R245; 01 R19; 15 R389): it is outstanding with this opcode, may begin, no unit that it needs has
failed, its cores run, function 0 may send where the command moves data and has room where it reads, the place where it works has not
stopped, and the spindle's service mode does not hold it. -/
structure Ready (s : State) (tag op : Nat) (c : Cmd) : Prop where
  out : s.cmd tag = some c
  opcode : c.op = op
  may : s.mayBegin c = true
  saving : s.saving = false
  failed : s.opFailed c = false
  cores : s.coresRun c = true
  send : movesData op = true → s.canSend 0 = true
  room : readsData op = true → s.readRoom ≠ 0
  held : s.opHeld op = false
  service : s.serviceHeld c = false

/-- The ring command `tag` has ended without an error: it is outstanding no more, and no entry was added to the error log, which
every status other than SUCCESS would add (09 R241, R249). -/
structure Done (s t : State) (tag : Nat) : Prop where
  gone : t.cmd tag = none
  log : t.hq.log = s.hq.log

end Sys2Proof.Machine
end

