-- ==== Sys2Proof/Certificates/Slice0/Obligations.lean ====
section
/-!
DEFINITION. The statements for the provers: families of commands, what each completes with and what it leaves alone, and the
invariants of every step.
-/
open Sys2Proof Sys2Proof.Machine

/-- A step runs the command at the front of the queue. For every command c, every queue rest and every state s, the step of s
with the queue c :: rest is exec of c on s with the queue rest. -/
def Obligations.StepRunsFrontCommand : Prop :=
  ∀ (c : Instr) (rest : List Instr) (s : State),
    Sys2Proof.Machine.step { s with pending := c :: rest } = Sys2Proof.Machine.exec c { s with pending := rest }

/-- On an empty queue one device-time tick passes (the model's choice, log 7). This rests on log 7, a design choice of the
model. With an empty queue, POR released and the core PLL locked, the step answers a next state in which the device time
has gone on by one modulo 2^64 and only the device time, the certified time, the throttle time and the parts that count
them have moved. With an empty queue under POR or without the core clock the step answers the state unchanged. -/
def Obligations.EmptyQueueTicks : Prop :=
  (∀ s : State, s.pending = [] → s.pwr.por = false → s.flag Reg.CLK_PLL_STATUS_CORE_LOCK = true →
    ∃ t, Sys2Proof.Machine.step s = .next t ∧ t.now = (s.now + 1) % 2 ^ 64 ∧
      Keeps [.gal, .col] [Reg.CAP_DEVTIME_LO, Reg.CAP_DEVTIME_HI, Reg.GAL_THROTTLE_LO, Reg.GAL_THROTTLE_HI, Reg.COL_TIME_LO,
          Reg.COL_TIME_HI] s t) ∧
  (∀ s : State, s.pending = [] → (s.pwr.por = true ∨ s.flag Reg.CLK_PLL_STATUS_CORE_LOCK = false) →
    Sys2Proof.Machine.step s = .next s)

/-- Every command answers a next state and keeps the part and the queue. For every command and every state, exec answers a next
state; the part number and the queue of waiting commands are unchanged in it. -/
def Obligations.EveryCommandAnswers : Prop :=
  ∀ (c : Instr) (s : State), ∃ t, Sys2Proof.Machine.exec c s = .next t ∧ t.part = s.part ∧ t.pending = s.pending

/-- Every step keeps the canonical form of every sparse map. If the registers, the galley bytes, poison, error and written
marks, the configuration flash and OTP, the lanes, the ports and the rings of a state are in canonical form, and the step
answers a next state, then they are in canonical form in that state. -/
def Obligations.StepKeepsCanon : Prop :=
  ∀ s t : State, Canon s → Sys2Proof.Machine.step s = .next t → Canon t

/-- The state after reset. State.reset has every sparse map in canonical form; every register word reads its reset value of the
register table; the queue and the outbox are empty; the device is in power-on reset with FAULT_N low; the galley bytes and
the configuration flash list nothing (the model's choice of what unwritten galley bytes and flash bytes read as is in log 5
and in 18); no ring command is outstanding. Register reset values that the spec does not give are the model's (log 2, log
3). -/
def Obligations.ResetState : Prop :=
  Canon State.reset ∧ (∀ k, State.reset.rd k = regReset k) ∧ State.reset.pending = [] ∧ State.reset.outbox = [] ∧
    State.reset.pwr.por = true ∧ State.reset.pwr.inReset = true ∧ State.reset.pwr.faultLow = true ∧ State.reset.gal.mem = [] ∧
    State.reset.efc.flash = [] ∧ State.reset.hq.cmds = []

/-- A write of a reserved encoding leaves its field, and every other field takes effect. For every register of the table, every
written value and every field of the register: where the value places a reserved encoding in a writable field, the word
that the write leaves holds the previous value in that field; and every field holds what the write of that field alone
leaves in it. -/
def Obligations.ReservedEncodings : Prop :=
  ∀ (k : Nat) (r : RReg) (v : Word) (s : State), regFind k = some r → ∀ f ∈ r.fields,
    (badValue f (bitsOf v f.hi f.lo) = true → f.acc = .rw ∨ f.acc = .rws ∨ f.acc = .rwl →
      bitsOf (s.written k v) f.hi f.lo = bitsOf (s.rd k) f.hi f.lo) ∧
    bitsOf (s.written k v) f.hi f.lo = bitsOf (fieldWrite s.locked v (s.rd k) f) f.hi f.lo

/-- What a write leaves in a field of each access type. For every field: RO and WO leave the word; RW and RWS take the written
bits unless they are a reserved encoding; RWL takes them while the lock is open and leaves the word while it is closed; W1S
sets and W1C clears the bits written as 1; no bit outside the field changes. -/
def Obligations.AccessTypes : Prop :=
  ∀ (locked : Bool) (v w : Word) (f : RField), f.lo ≤ f.hi → f.hi < 32 →
    ((f.acc = .ro ∨ f.acc = .wo) → fieldWrite locked v w f = w) ∧
    ((f.acc = .rw ∨ f.acc = .rws ∨ (f.acc = .rwl ∧ locked = false)) → badValue f (bitsOf v f.hi f.lo) = false →
      bitsOf (fieldWrite locked v w f) f.hi f.lo = bitsOf v f.hi f.lo) ∧
    (f.acc = .rwl → locked = true → fieldWrite locked v w f = w) ∧
    (f.acc = .w1s → bitsOf (fieldWrite locked v w f) f.hi f.lo = bitsOf w f.hi f.lo ||| bitsOf v f.hi f.lo) ∧
    (f.acc = .w1c → ∀ j, f.lo ≤ j → j ≤ f.hi → (fieldWrite locked v w f).getLsbD j = (w.getLsbD j && !v.getLsbD j)) ∧
    (∀ j, (j < f.lo ∨ f.hi < j) → (fieldWrite locked v w f).getLsbD j = w.getLsbD j)

/-- Held enable requests: the last value written decides. For the enable, state and held fields of every unit and ring: after
an enable and then a disable during STOPPING no request is held; whatever two values are written during STOPPING, the drain
ends in STARTING if the last was an enable and in IDLE if it was a disable; during STARTING the start-up ends in RUNNING if
the last was an enable and in STOPPING if it was a disable. -/
def Obligations.HeldRequests : Prop :=
  ∀ (f : UnitFlds) (i : Nat) (a b : Bool) (s : State),
    f ∈ [portUnit, capUnit, clusterUnit, pairUnit, sqUnit, cqUnit, magUnit, ochUnit, srvUnit, motUnit, colUnit] → i <
        f.en.count →
    (s.get f.st i = 3 →
      ((s.enableWrite f true i).enableWrite f false i).flag f.held i = false ∧
      (((s.enableWrite f a i).enableWrite f b i).unitDrained f i).get f.st i = (if b then 1 else 0)) ∧
    (s.get f.st i = 1 → (((s.enableWrite f a i).enableWrite f b i).unitStarted f i).get f.st i = (if b then 2 else 3))

/-- PLLs: lock, loss of lock, loss of the reference clock. pllLock: where the PLL may lock, its lock bit is 1 after.
pllLossOfLock: a locked PLL is not locked after, and LOSS_EVENT is 1 (for the PCIe PLL while no link is up). pcieLoss: loss
of the PCIe PLL under a link takes the link down and raises SURPRISE_DOWN_EV. lanePllLoss: the port whose PLL lost lock is
disabled and IDLE. refclkLost: outside POR, REF_LOST, LOSS_EVENT and the REF_LOST cause are 1 and the AOS has safe-stated
the machine. -/
def Obligations.PllLockAndLoss : Prop :=
  (∀ (p : Pll) (s : State), s.mayLock p = true →
    ∃ t, exec (.pllLock p) s = .next t ∧ t.pllLocked p = true ∧ Keeps [.col] [Reg.CLK_PLL_STATUS_WORD,
        Reg.CLK_LANE_PLL_LOCK_WORD, Reg.LANE_L_STATUS_WORD, Reg.COL_UNC] s t) ∧
  (∀ (p : Pll) (s : State), s.pllLocked p = true → (p = .pcie → s.pcie.linkUp = false) →
    ∃ t, exec (.pllLossOfLock p) s = .next t ∧ t.pllLocked p = false ∧ t.flag Reg.CLK_PLL_STATUS_LOSS_EVENT = true ∧
      KeepsParts [.lanes, .ports, .cap, .cmp, .gal, .pair, .pcie, .hq, .mag, .och, .srv, .mot, .sec, .col, .efc, .mbx, .pwr,
          .outbox, .fresh] s t) ∧
  (∀ s : State, s.pllLocked .pcie = true → s.pcie.linkUp = true →
    ∃ t, exec (.pllLossOfLock .pcie) s = .next t ∧ t.pcie.linkUp = false ∧ t.flag Reg.PCIE_STATUS_SURPRISE_DOWN_EV = true ∧
      KeepsParts [.lanes, .ports, .cap, .cmp, .gal, .pair, .pcie, .hq, .mag, .och, .srv, .mot, .sec, .col, .efc, .mbx, .pwr,
          .outbox, .fresh] s t) ∧
  (∀ (n : PortIx) (s : State), s.pllLocked (.lane n) = true →
    ∃ t, exec (.lanePllLoss n) s = .next t ∧ t.pllLocked (.lane n) = false ∧ t.flag Reg.LANE_PORT_CTL_EN n = false ∧
      t.get Reg.LANE_PORT_STATUS_STATE n = 0 ∧ Keeps [.lanes, .ports, .cap, .cmp, .gal, .pair, .pcie, .hq, .srv, .mot, .sec,
          .col, .outbox] (portStopRegs ++ [Reg.CLK_PLL_STATUS_WORD, Reg.CLK_LANE_PLL_LOCK_WORD]) s t) ∧
  (∀ s : State, s.pwr.por = false →
    ∃ t, exec .refclkLost s = .next t ∧ t.flag Reg.CLK_PLL_STATUS_REF_LOST = true ∧
      t.flag Reg.CLK_PLL_STATUS_LOSS_EVENT = true ∧ t.flag Reg.RST_CAUSE_REF_LOST = true ∧ t.pwr.aosSafe = true ∧
      Keeps [.lanes, .cap, .cmp, .gal, .pair, .pcie, .hq, .och, .srv, .mot, .sec, .col, .pwr, .outbox] (safeRegs ++
          [Reg.CLK_PLL_STATUS_WORD]) s t)

/-- Supply events: fail, warn, return, reserve, thresholds. supplyFailDeclared: a sample below VBUS_FAIL declares the failure
and its code is kept. supplyWarnDeclared: a sample below VBUS_WARN declares the warning. supplyWarnClear: at 0.5 V above
VBUS_WARN the warning ends. supplyReturned: with voltage and current back the failure ends, and RIDE goes back to NORMAL
unless the thermal deferral runs. holdupReserveReached: in RIDE, with the bank at RESERVE, the state becomes SAVE, no
further ring command is fetched, and the chrysalis record names cause 2. pwrBusThreshWrite: the register takes the written
word if its thresholds stand in order, else it keeps its value. -/
def Obligations.SupplyEvents : Prop :=
  (∀ (v h i : Nat) (s : State), s.pwr.por = false → s.pwr.fail = false →
    s.voltsBelow v (s.get Reg.PWR_BUS_THRESH_VBUS_FAIL) = true →
    ∃ t, exec (.supplyFailDeclared v h i) s = .next t ∧ t.pwr.fail = true ∧ t.pwr.vbus = v ∧
      Keeps [.cap, .cmp, .gal, .pair, .pcie, .hq, .och, .mot, .sec, .col, .efc, .pwr, .outbox] (takeRegs ++
          [Reg.PWR_HOLDUP_STATUS_WORD, Reg.CMP_CLUSTER_STATUS_WORD, Reg.MAG_SAVE_WORD, Reg.OCH_STATUS_WORD, Reg.OCH_PROOF_FAIL,
          Reg.OCH_LASER_DRIVE_WORD, Reg.MOT_SPN_STATUS_WORD, Reg.MOT_SPN_TARGET_WORD, Reg.MOT_AXIS_STATUS_WORD,
          Reg.EFC_STATUS_WORD, Reg.EFC_RESULT_WORD, Reg.EFC_ABORT_ADDR_WORD, Reg.EFC_PROGRAMS, Reg.EFC_ERASES,
          Reg.CAL_STATUS_WORD, Reg.CAL_BLK_STATUS_WORD]) s t) ∧
  (∀ (v : Nat) (s : State), s.pwr.por = false → s.pwr.warn = false →
    s.voltsBelow v (s.get Reg.PWR_BUS_THRESH_VBUS_WARN) = true →
    ∃ t, exec (.supplyWarnDeclared v) s = .next t ∧ t.pwr = { s.pwr with warn := true, vbus := v } ∧
      Keeps [.pwr, .outbox] [Reg.MSIX1_PBA, Reg.MSIX0_PBA] s t) ∧
  (∀ (v : Nat) (s : State), s.pwr.warn = true → s.voltsBelow v (s.get Reg.PWR_BUS_THRESH_VBUS_WARN + 5) = false →
    ∃ t, exec (.supplyWarnClear v) s = .next t ∧ t.pwr = { s.pwr with warn := false, vbus := v } ∧
      Keeps [.pwr] [] s t) ∧
  (∀ (v h i : Nat) (s : State), s.pwr.por = false → s.voltsBelow v (s.get Reg.PWR_BUS_THRESH_VBUS_WARN + 5) = false →
    s.currentAbove i = true →
    ∃ t, exec (.supplyReturned v h i) s = .next t ∧ t.pwr = { s.pwr with fail := false, vbus := v, holdup := h, ibus := i } ∧
      t.get Reg.PWR_HOLDUP_STATUS_STATE =
        (if s.get Reg.PWR_HOLDUP_STATUS_STATE = 1 ∧ s.pwr.deferral = false then 0 else s.get Reg.PWR_HOLDUP_STATUS_STATE) ∧
      Keeps [.pwr, .outbox] [Reg.PWR_HOLDUP_STATUS_WORD, Reg.MAG_SAVE_WORD, Reg.MSIX1_PBA, Reg.MSIX0_PBA] s t) ∧
  (∀ (h : Nat) (s : State), s.get Reg.PWR_HOLDUP_STATUS_STATE = 1 → s.pwr.deferral = false → s.canSave = true →
    s.bankEnergy h ≤ s.reserveEnergy →
    ∃ t, exec (.holdupReserveReached h) s = .next t ∧ t.get Reg.PWR_HOLDUP_STATUS_STATE = 2 ∧ t.hq.stopped = true ∧
      t.pwr.record.cause = 2 ∧ Keeps [.cap, .cmp, .gal, .pair, .pcie, .hq, .mot, .sec, .col, .efc, .pwr, .outbox] (takeRegs ++
          [Reg.PWR_HOLDUP_STATUS_WORD, Reg.CMP_CLUSTER_STATUS_WORD, Reg.MAG_SAVE_WORD, Reg.EFC_STATUS_WORD,
          Reg.EFC_RESULT_WORD, Reg.EFC_ABORT_ADDR_WORD, Reg.EFC_PROGRAMS, Reg.EFC_ERASES, Reg.CAL_STATUS_WORD,
          Reg.CAL_BLK_STATUS_WORD]) s t) ∧
  (∀ (v : Word) (s : State), s.awake = true →
    ∃ t, exec (.pwrBusThreshWrite v) s = .next t ∧
      (t.rd Reg.PWR_BUS_THRESH_VBUS_WARN.base =
        if bitsOf v 9 0 < bitsOf v 19 10 ∧ bitsOf v 19 10 < bitsOf v 29 20 then
          s.written Reg.PWR_BUS_THRESH_VBUS_WARN.base v else s.rd Reg.PWR_BUS_THRESH_VBUS_WARN.base) ∧
      Keeps [] [Reg.PWR_BUS_THRESH_WORD, Reg.PWR_HOLDUP_STATUS_WORD, Reg.MAG_SAVE_WORD] s t)

/-- The end of a save, the lockstep mismatch and the lost heartbeat. chrysalisSaveComplete: SAVE ends in SAVED with the
CHRYSALIS cause and the AOS safe state. holdupBelowMinimum: below HOLDUP_MIN in SAVE the state is SAVED without a committed
record (the model's reading, log 72). aosLockstepMismatch: the lockstep stop pulls FAULT_N low, records LOCKSTEP, puts the
galley in self-refresh and releases CLAIM. mc0HeartbeatTimeout: a missed heartbeat of MC0 in BOOT or LOCKUP records WDOG
and safe-states the machine. -/
def Obligations.SaveAndSupervisor : Prop :=
  (∀ s : State, s.get Reg.PWR_HOLDUP_STATUS_STATE = 2 → s.pwr.pendingReset = none → s.pwr.pendingUnits = 0 →
     ∃ t, exec .chrysalisSaveComplete s = .next t ∧ t.get Reg.PWR_HOLDUP_STATUS_STATE = 3 ∧
       t.flag Reg.RST_CAUSE_CHRYSALIS = true ∧ t.pwr.aosSafe = true ∧ Keeps [.lanes, .cap, .cmp, .gal, .pair, .pcie, .hq, .mag,
           .map, .och, .srv, .mot, .sec, .col, .efc, .pwr, .outbox] (safeRegs ++ [Reg.PWR_HOLDUP_STATUS_WORD,
           Reg.MAG_STATUS_WORD, Reg.MAG_SLC_WORD, Reg.MAG_HOST_WR_LO, Reg.MAG_HOST_WR_HI, Reg.MAG_NAND_WR_LO,
           Reg.MAG_NAND_WR_HI, Reg.MAP_DIRTY, Reg.EFC_PROGRAMS, Reg.EFC_ERASES]) s t) ∧
  (∀ (h : Nat) (s : State), s.get Reg.PWR_HOLDUP_STATUS_STATE = 2 →
     s.voltsBelow h (s.get Reg.PWR_BUS_THRESH_HOLDUP_MIN) = true → s.pwr.pendingReset = none → s.pwr.pendingUnits = 0 →
     ∃ t, exec (.holdupBelowMinimum h) s = .next t ∧ t.get Reg.PWR_HOLDUP_STATUS_STATE = 3 ∧
       t.flag Reg.RST_CAUSE_CHRYSALIS = true ∧ t.pwr.aosSafe = true ∧ t.pwr.record = s.pwr.record ∧
       Keeps [.lanes, .cap, .cmp, .gal, .pair, .pcie, .hq, .och, .srv, .mot, .sec, .col, .pwr, .outbox] (safeRegs ++
           [Reg.PWR_HOLDUP_STATUS_WORD]) s t) ∧
  (∀ s : State, s.pwr.por = false → s.pwr.lockstep = false → s.pwr.pendingReset = none → s.pwr.pendingUnits = 0 →
     ∃ t, exec .aosLockstepMismatch s = .next t ∧ t.pwr.lockstep = true ∧ t.pwr.faultLow = true ∧
       t.flag Reg.RST_CAUSE_LOCKSTEP = true ∧ t.get Reg.GAL_STATUS_SR = 2 ∧ t.flag Reg.PAIR_PINS_CLAIM = false ∧
       Keeps [.lanes, .cap, .cmp, .gal, .pair, .pcie, .hq, .och, .srv, .mot, .sec, .col, .pwr, .outbox] (takeRegs ++
           [Reg.RST_CAUSE_WORD, Reg.PWR_HOLDUP_STATUS_WORD, Reg.LANE_L_STATUS_WORD, Reg.CMP_CLUSTER_STATUS_WORD,
           Reg.PAIR_STATUS_WORD, Reg.PAIR_PINS_WORD, Reg.OCH_LASER_DRIVE_WORD, Reg.SRV_LOOP_STATUS_WORD,
           Reg.SRV_COIL_STATUS_WORD, Reg.MOT_SPN_STATUS_WORD, Reg.MOT_AXIS_STATUS_WORD]) s t) ∧
  (∀ s : State, s.get Reg.MBX_CORE_STATUS_STATE 0 = 1 ∨ s.get Reg.MBX_CORE_STATUS_STATE 0 = 5 →
     ∃ t, exec .mc0HeartbeatTimeout s = .next t ∧ t.flag Reg.RST_CAUSE_WDOG = true ∧ t.pwr.aosSafe = true ∧
       Keeps [.lanes, .cap, .cmp, .gal, .pair, .pcie, .hq, .och, .srv, .mot, .sec, .col, .efc, .mbx, .pwr, .outbox, .fresh]
           lockRegs s t)

/-- Temperature thresholds, the shutdown deferral and the trip. tWarnReached: from 40.0 C code 400 on, T_WARN is active and
TEMP shows the sample. tWarnClear: below code 380 T_WARN ends. tShutReached: from code 440 on, new flash commands are
refused and the deferral begins. tShutDeferralEnd: the deferral ends in the AOS safe state with NAND power off and the
T_SHUT cause. tTrip: from code 500 on, the trip pulls FAULT_N low, holds the device in reset, drops the core PLL and the
PCIe link, and the write buffer is lost (log 77). thermalResetRelease: at code 380 or less the thermal hold ends and the
device starts: the standing image is applied and every core is in BOOT. -/
def Obligations.Thermal : Prop :=
  (∀ (temp : Nat) (s : State), 400 ≤ temp → s.pwr.tWarn = false → s.pwr.por = false →
     ∃ t, exec (.tWarnReached temp) s = .next t ∧ t.pwr = { s.pwr with tWarn := true } ∧
       t.get Reg.PWR_TEMP_TEMP = temp % 2 ^ Reg.PWR_TEMP_TEMP.width ∧ Keeps [.pwr, .outbox] [Reg.PWR_TEMP_WORD, Reg.MSIX1_PBA,
           Reg.MSIX0_PBA] s t) ∧
  (∀ (temp : Nat) (s : State), temp < 380 → s.pwr.tWarn = true →
     ∃ t, exec (.tWarnClear temp) s = .next t ∧ t.pwr = { s.pwr with tWarn := false } ∧
       t.get Reg.PWR_TEMP_TEMP = temp % 2 ^ Reg.PWR_TEMP_TEMP.width ∧ Keeps [.pwr] [Reg.PWR_TEMP_WORD] s t) ∧
  (∀ (temp : Nat) (s : State), 440 ≤ temp → s.pwr.por = false → s.pwr.trip = false → s.pwr.deferral = false →
     s.pwr.inReset = false → s.get Reg.PWR_HOLDUP_STATUS_STATE < 2 →
     ∃ t, exec (.tShutReached temp) s = .next t ∧ t.efc.refuse = true ∧
       t.pwr = { s.pwr with thermalHold := true, deferral := true, failInDeferral := s.get Reg.PWR_HOLDUP_STATUS_STATE == 1 } ∧
       Keeps [.cap, .cmp, .gal, .pair, .pcie, .hq, .mot, .sec, .col, .efc, .pwr, .outbox] (takeRegs ++ [Reg.PWR_TEMP_WORD,
           Reg.CMP_CLUSTER_STATUS_WORD, Reg.EFC_STATUS_WORD, Reg.EFC_RESULT_WORD, Reg.EFC_ABORT_ADDR_WORD, Reg.CAL_STATUS_WORD,
           Reg.CAL_BLK_STATUS_WORD]) s t) ∧
  (∀ s : State, s.pwr.deferral = true → s.pwr.pendingReset = none → s.pwr.pendingUnits = 0 →
     ∃ t, exec .tShutDeferralEnd s = .next t ∧ t.pwr.deferral = false ∧ t.pwr.aosSafe = true ∧ t.pwr.nandOn = false ∧
       t.flag Reg.RST_CAUSE_T_SHUT = true ∧ Keeps [.lanes, .cap, .cmp, .gal, .pair, .pcie, .hq, .mag, .och, .srv, .mot, .sec,
           .col, .efc, .pwr, .outbox] (safeRegs ++ [Reg.PWR_HOLDUP_STATUS_WORD, Reg.EFC_PROGRAMS, Reg.EFC_ERASES]) s t) ∧
  (∀ (temp : Nat) (s : State), 500 ≤ temp → s.pwr.por = false → s.pwr.trip = false → s.pwr.pendingReset = none →
     s.pwr.pendingUnits = 0 →
     ∃ t, exec (.tTrip temp) s = .next t ∧ t.pwr.trip = true ∧ t.pwr.faultLow = true ∧ t.pwr.inReset = true ∧
       t.pwr.thermalHold = true ∧ t.flag Reg.RST_CAUSE_T_TRIP = true ∧ t.get Reg.CLK_PLL_STATUS_CORE_LOCK = 0 ∧
       t.pcie.linkUp = false ∧ t.mag.buf = [] ∧ KeepsParts [.lanes, .ports, .cap, .cmp, .gal, .pair, .pcie, .hq, .mag, .map,
           .och, .srv, .mot, .sec, .col, .efc, .mbx, .cal, .pwr, .outbox, .fresh] s t) ∧
  (∀ (temp : Nat) (fw0 fw1 : Bool) (s : State), temp ≤ 380 → s.pwr.thermalHold = true →
     ({ s with pwr := { s.pwr with thermalHold := false } } : State).mayStart = true →
     ∃ t, exec (.thermalResetRelease temp fw0 fw1) s = .next t ∧ t.pwr.thermalHold = false ∧ t.pwr.inReset = false ∧
       t.pwr.imageApplied = true ∧ (∀ k < 5, t.get Reg.MBX_CORE_STATUS_STATE k = 1) ∧ KeepsParts [.lanes, .ports, .cap, .cmp,
           .gal, .pair, .pcie, .hq, .mag, .map, .och, .srv, .mot, .sec, .col, .efc, .cal, .pwr, .outbox] s t)

/-- PERST_N, SYS_RST_N and power-on reset. perstNAssert: unless a save is under way the device is in reset with FAULT_N low, no
link, no lane or port state, no outstanding ring command, the galley in self-refresh, PERST recorded, and every register
that the reset matrix does not keep at its reset value. sysRstNAssert: the same with SYS recorded; configuration space and
the link stay. waits: during SAVE the assertion is only noted. powerOnReset: every register outside the colophon but the
pins, PLL status and temperature words is at its reset value; the module, the colophon and the flash after its cut
operation stay. -/
def Obligations.Resets : Prop :=
  (∀ s : State, s.pwr.perst = false → s.pwr.por = false →
     (s.get Reg.PWR_HOLDUP_STATUS_STATE ≠ 1 ∧ s.get Reg.PWR_HOLDUP_STATUS_STATE ≠ 2 ∨ s.pwr.trip = true ∨ s.pwr.lockstep =
         true) →
     ∃ t, exec .perstNAssert s = .next t ∧ t.pwr.perst = true ∧ t.pwr.inReset = true ∧ t.pwr.faultLow = true ∧
       t.pcie.linkUp = false ∧ t.lanes = [] ∧ t.ports = [] ∧ t.hq.cmds = [] ∧ t.get Reg.GAL_STATUS_SR = 2 ∧
       t.flag Reg.RST_CAUSE_PERST = true ∧
       (∀ k, keptWord k = false → isCol k = false → (∀ f ∈ resetOwn, ¬ f.holds k) → t.rd k = regReset k) ∧
       KeepsParts [.lanes, .ports, .cap, .cmp, .gal, .pair, .pcie, .hq, .mag, .map, .och, .srv, .mot, .sec, .col, .efc, .mbx,
           .cal, .pwr, .outbox] s t) ∧
  (∀ s : State, s.pwr.sysRst = false → s.pwr.por = false →
     (s.get Reg.PWR_HOLDUP_STATUS_STATE ≠ 1 ∧ s.get Reg.PWR_HOLDUP_STATUS_STATE ≠ 2 ∨ s.pwr.trip = true ∨ s.pwr.lockstep =
         true) →
     ∃ t, exec .sysRstNAssert s = .next t ∧ t.pwr.sysRst = true ∧ t.pwr.inReset = true ∧ t.pwr.faultLow = true ∧
       t.lanes = [] ∧ t.ports = [] ∧ t.hq.cmds = [] ∧ t.get Reg.GAL_STATUS_SR = 2 ∧ t.flag Reg.RST_CAUSE_SYS = true ∧
       (∀ k, keptWord k = false → isCol k = false → isCfg 0 k = false → isCfg 1 k = false → (∀ f ∈ resetOwn, ¬ f.holds k) →
         t.rd k = regReset k) ∧
       KeepsParts [.lanes, .ports, .cap, .cmp, .gal, .pair, .pcie, .hq, .mag, .map, .och, .srv, .mot, .sec, .col, .efc, .mbx,
           .cal, .pwr, .outbox] s t) ∧
  (∀ s : State, s.pwr.perst = false → s.pwr.por = false → s.get Reg.PWR_HOLDUP_STATUS_STATE = 2 → s.pwr.trip = false →
     s.pwr.lockstep = false →
     ∃ t, exec .perstNAssert s = .next t ∧ t.pwr = { s.pwr with perst := true, pendingReset := some .perst } ∧
       Keeps [.pwr] [] s t) ∧
  (∀ s : State,
     ∃ t, exec .powerOnReset s = .next t ∧ t.pwr.por = true ∧ t.pwr.inReset = State.reset.pwr.inReset ∧ t.lanes = [] ∧ t.hq =
         {} ∧
       t.mag.module = s.mag.module ∧ t.efc.flash = s.cutFlash.efc.flash ∧ t.col = s.col ∧ t.outbox = s.outbox ∧
       (∀ k, isCol k = false → (∀ f ∈ [Reg.PAIR_PINS_WORD, Reg.CLK_PLL_STATUS_WORD, Reg.PWR_TEMP_WORD], ¬ f.holds k) →
         t.rd k = regReset k) ∧
       KeepsParts [.lanes, .ports, .cap, .cmp, .gal, .pair, .pcie, .hq, .mag, .map, .och, .srv, .mot, .sec, .col, .efc, .mbx,
           .cal, .jtag, .pwr, .outbox, .fresh] s t)

/-- Release from reset, hot reset, function resets, surprise link down. porRelease: with the self-test passed the device leaves
reset, the standing image is applied and every core is in BOOT. selfTestFails: with the self-test failed only that is
noted. resetDeassert: once no reset holds the device, it starts in the same way. hotReset: the link is down, no read is
outstanding and HOT is recorded (that the link goes down is the model's, log 75). flrFunction0: reads are abandoned, FLR0
is recorded, and configuration space of function 0 but its identity, BAR2 and containment words is at reset values.
flrFunction1: FLR1 is recorded and configuration space of function 1 is at reset values, with the same words left out.
surpriseLinkDown: the link is down, SURPRISE_DOWN_EV and HOT are recorded. -/
def Obligations.StartAndFunctionResets : Prop :=
  (∀ (fw0 fw1 : Bool) (s : State), s.pwr.por = true →
     ({ s with pwr := { s.pwr with por := false, selfTestFailed := false } } : State).mayStart = true →
     ∃ t, exec (.porRelease true fw0 fw1) s = .next t ∧ t.pwr.por = false ∧ t.pwr.inReset = false ∧ t.pwr.imageApplied = true ∧
       (∀ k < 5, t.get Reg.MBX_CORE_STATUS_STATE k = 1) ∧ KeepsParts [.lanes, .ports, .cap, .cmp, .gal, .pair, .pcie, .hq,
           .mag, .map, .och, .srv, .mot, .sec, .col, .efc, .cal, .pwr, .outbox, .fresh] s t) ∧
  (∀ (fw0 fw1 : Bool) (s : State), s.pwr.por = true →
     ∃ t, exec (.porRelease false fw0 fw1) s = .next t ∧ t.pwr = { s.pwr with por := false, selfTestFailed := true } ∧
       KeepsParts [.lanes, .ports, .cap, .cmp, .gal, .pair, .pcie, .hq, .mag, .map, .och, .srv, .mot, .sec, .col, .efc, .cal,
           .pwr, .outbox, .fresh] s t) ∧
  (∀ (sys fw0 fw1 : Bool) (s : State),
     ({ s with pwr := { s.pwr with perst := s.pwr.perst && sys, sysRst := s.pwr.sysRst && !sys } } : State).mayStart = true →
     ∃ t, exec (.resetDeassert sys fw0 fw1) s = .next t ∧ t.pwr.inReset = false ∧ t.pwr.imageApplied = true ∧
       (∀ k < 5, t.get Reg.MBX_CORE_STATUS_STATE k = 1) ∧ KeepsParts [.lanes, .ports, .cap, .cmp, .gal, .pair, .pcie, .hq,
           .mag, .map, .och, .srv, .mot, .sec, .col, .efc, .cal, .pwr, .outbox] s t) ∧
  (∀ s : State, s.pwr.por = false →
     ∃ t, exec .hotReset s = .next t ∧ t.pcie.linkUp = false ∧ t.pcie.reads = [] ∧ t.flag Reg.RST_CAUSE_HOT = true ∧
       t.get Reg.PCIE_STATUS_RATE = 0 ∧ KeepsParts [.cap, .pcie, .hq, .mag, .och, .mot, .sec, .efc, .mbx, .outbox] s t) ∧
  (∀ s : State, s.pwr.por = false →
     ∃ t, exec .flrFunction0 s = .next t ∧ t.pcie.reads = [] ∧ t.flag Reg.RST_CAUSE_FLR0 = true ∧
       (∀ k, isCfg 0 k = true → (∀ f ∈ [Reg.CFG_ID_WORD, Reg.CFG_SUBSYS, Reg.CFG_CONT_STATUS_WORD, Reg.CFG_BAR2_LO_WORD,
         Reg.CFG_BAR2_HI_WORD, Reg.CFG_RBAR_CTL_WORD], ¬ f.holds k) → t.rd k = regReset k) ∧ KeepsParts [.cap, .pcie, .hq,
             .mag, .och, .mot, .sec, .efc, .mbx, .outbox, .fresh] s t) ∧
  (∀ s : State, s.pwr.por = false → s.part.colophon = true →
     ∃ t, exec .flrFunction1 s = .next t ∧ t.flag Reg.RST_CAUSE_FLR1 = true ∧
       (∀ k, isCfg 1 k = true → (∀ f ∈ [Reg.CFG_ID_WORD, Reg.CFG_SUBSYS, Reg.CFG_CONT_STATUS_WORD, Reg.CFG_BAR2_LO_WORD,
         Reg.CFG_BAR2_HI_WORD, Reg.CFG_RBAR_CTL_WORD], ¬ f.holds k) → t.rd k = regReset k) ∧ KeepsParts [.cap, .pcie, .hq,
             .mag, .och, .mot, .sec, .efc, .mbx, .outbox, .fresh] s t) ∧
  (∀ s : State, s.pcie.linkUp = true →
     ∃ t, exec .surpriseLinkDown s = .next t ∧ t.pcie.linkUp = false ∧ t.flag Reg.PCIE_STATUS_SURPRISE_DOWN_EV = true ∧
       t.flag Reg.RST_CAUSE_HOT = true ∧ KeepsParts [.cap, .pcie, .hq, .mag, .och, .mot, .sec, .efc, .mbx, .outbox] s t)

/-- Enabling, disabling and resetting units. unitEnableWrite: for MAG: EN is the written bit; IDLE goes to STARTING on an
enable, RUNNING to STOPPING on a disable; in STARTING and STOPPING the request is held or dropped. stuck: for a unit that
the part does not have, nothing changes. unitStartupComplete: STARTING becomes RUNNING, or STOPPING when a disable is held,
and nothing is held after. unitDrainComplete: STOPPING becomes IDLE, or STARTING when an enable is held, and nothing is
held after. unitReset: a reset of DBG ends at once: no unit reset is pending, the unit is not marked failed, its scratch
registers are at their reset values unless the standing image names them, TAP_ACTIVE stays. unitResetDrainTimeout: no unit
reset is pending after. topModeWrite: a new role is refused with REJECTED while a take is live or, in the pairing role, the
pairing is not IDLE; else it is taken. -/
def Obligations.UnitStateMachine : Prop :=
  (∀ (v : Bool) (s : State), s.awake = true → (v = true → s.firmwareGone 8 = false) →
     ∃ t, exec (.unitEnableWrite .mag v) s = .next t ∧ t.flag Reg.MAG_CTL_EN = v ∧
       t.get Reg.MAG_STATUS_STATE = (if s.get Reg.MAG_STATUS_STATE = 0 ∧ v = true then 1
         else if s.get Reg.MAG_STATUS_STATE = 2 ∧ v = false then 3 else s.get Reg.MAG_STATUS_STATE) ∧
       t.flag Reg.MAG_STATUS_HELD = (if s.get Reg.MAG_STATUS_STATE = 1 then !v
         else if s.get Reg.MAG_STATUS_STATE = 3 then v else s.flag Reg.MAG_STATUS_HELD) ∧
       Keeps [] [Reg.MAG_CTL_WORD, Reg.MAG_STATUS_WORD] s t) ∧
  (∀ (u : UnitRef) (v : Bool) (s : State), s.hasUnit u = false →
     ∃ t, exec (.unitEnableWrite u v) s = .next t ∧ t = s) ∧
  (∀ (u : UnitRef) (f : UnitFlds) (s : State), (u, f) ∈ [(.mag, magUnit), (.och, ochUnit), (.srv, srvUnit), (.mot, motUnit)] →
     s.awake = true → s.hasUnit u = true → s.get f.st = 1 →
     ∃ t, exec (.unitStartupComplete u) s = .next t ∧ t.get f.st = (if s.flag f.held then 3 else 2) ∧ t.flag f.held = false ∧
       Keeps [] [f.st] s t) ∧
  (∀ s : State, s.awake = true → s.get Reg.SRV_STATUS_STATE = 3 → s.pwr.unitReset = [] →
     ∃ t, exec (.unitDrainComplete .srv) s = .next t ∧
       t.get Reg.SRV_STATUS_STATE = (if s.flag Reg.SRV_STATUS_HELD then 1 else 0) ∧ t.flag Reg.SRV_STATUS_HELD = false ∧
       Keeps [] [Reg.SRV_STATUS_WORD] s t) ∧
  (∀ (v : Word) (s : State), s.awake = true → bitsOf v 18 1 = 2 ^ 16 → s.get Reg.PWR_HOLDUP_STATUS_STATE ≠ 1 →
     s.get Reg.PWR_HOLDUP_STATUS_STATE ≠ 2 → s.pwr.unitReset = [] →
     ∃ t, exec (.unitReset v) s = .next t ∧ t.pwr.unitReset = [] ∧ t.unitFailed 17 = false ∧
       t.flag Reg.DBG_STATUS_TAP_ACTIVE = s.flag Reg.DBG_STATUS_TAP_ACTIVE ∧
       (∀ i < 4, (∀ j < fieldAt s.efc.image 0x10 4, (imageRecord s.efc.image j).1 ≠ 0x1100010 + 4 * i) →
         t.rd (0x1100010 + 4 * i) = regReset (0x1100010 + 4 * i)) ∧
       KeepsParts [.lanes, .ports, .cap, .cmp, .gal, .pair, .pcie, .hq, .mag, .map, .och, .srv, .mot, .sec, .col, .efc, .mbx,
           .cal, .pwr, .outbox, .fresh] s t) ∧
  (∀ s : State,
     ∃ t, exec .unitResetDrainTimeout s = .next t ∧ t.pwr.unitReset = [] ∧ KeepsParts [.lanes, .ports, .cap, .cmp, .gal, .pair,
         .pcie, .hq, .mag, .map, .och, .srv, .mot, .sec, .col, .efc, .mbx, .cal, .pwr, .outbox, .fresh] s t) ∧
  (∀ (v : Word) (s : State), s.awake = true → bitsOf v 1 0 ≠ 3 → bitsOf v 1 0 ≠ s.get Reg.TOP_MODE_ROLE →
     ∃ t, exec (.topModeWrite v) s = .next t ∧
       (s.takesLive = true ∨ s.get Reg.TOP_MODE_ROLE = 2 ∧ s.pairState ≠ 0 →
         t.get Reg.TOP_MODE_ROLE = s.get Reg.TOP_MODE_ROLE ∧ t.flag Reg.TOP_MODE_REJECTED = true) ∧
       (s.takesLive = false → (s.get Reg.TOP_MODE_ROLE = 2 → s.pairState = 0) →
         t.get Reg.TOP_MODE_ROLE = bitsOf v 1 0 ∧
         t.flag Reg.TOP_MODE_REJECTED = (s.flag Reg.TOP_MODE_REJECTED && !v.getLsbD 8)) ∧
       Keeps [.lanes, .pair] [Reg.TOP_MODE_WORD, Reg.LANE_L_STATUS_WORD, Reg.PAIR_CTL_WORD, Reg.PAIR_STATUS_WORD,
           Reg.PAIR_PINS_WORD, Reg.PAIR_EPOCH_SENT, Reg.PAIR_EPOCH_COMMIT] s t)

/-- Register, event-bit, 64-bit and configuration accesses. scratch: a write of a scratch register leaves the value in it and
changes nothing else. absent: a write to an absent unit or the silent colophon is discarded. both: a 64-bit write of
DBG.SCRATCH leaves both words in one update. eventBitClear: a write of TOP.MODE as an event word clears REJECTED where bit
8 is 1 and leaves ROLE. read64bitLowWord: the low word is answered, with the high word above it for an aligned 8-byte read,
and the high word is latched for this requester. configRetry: in reset or with FAULT_N low a configuration request is
answered with retry. configRead: a configuration read answers the word. configWrite: a configuration write to a word
without further effects is answered and leaves the word by its access types; no other word changes. -/
def Obligations.RegisterAccess : Prop :=
  (∀ (q : Requester) (i : Nat) (v : Word) (s : State), i < 4 → s.awake = true →
     s.asleep q (Reg.DBG_SCRATCH.base + Reg.DBG_SCRATCH.stride * i) = false →
     ∃ t, exec (.registerWrite q (Reg.DBG_SCRATCH.base + Reg.DBG_SCRATCH.stride * i) v none) s = .next t ∧
       t.get Reg.DBG_SCRATCH i = v.toNat ∧ Keeps [] [Reg.DBG_SCRATCH] s t) ∧
  (∀ (q : Requester) (k : Nat) (v : Word) (s : State), s.awake = true → s.asleep q k = false →
     (s.absentAt k = true ∨ s.colSilent k = true) →
     exec (.registerWrite q k v none) s = .next s) ∧
  (∀ (q : Requester) (v h : Word) (s : State), s.awake = true → s.asleep q Reg.DBG_SCRATCH.base = false →
     ∃ t, exec (.registerWrite q Reg.DBG_SCRATCH.base v (some h)) s = .next t ∧ t.get Reg.DBG_SCRATCH 0 = v.toNat ∧
       t.get Reg.DBG_SCRATCH 1 = h.toNat ∧ Keeps [] [Reg.DBG_SCRATCH] s t) ∧
  (∀ (q : Requester) (v : Word) (s : State), s.awake = true → s.asleep q Reg.TOP_MODE_WORD.base = false →
     ∃ t, exec (.eventBitClear q Reg.TOP_MODE_WORD.base v) s = .next t ∧ t.get Reg.TOP_MODE_ROLE = s.get Reg.TOP_MODE_ROLE ∧
       t.flag Reg.TOP_MODE_REJECTED = (s.flag Reg.TOP_MODE_REJECTED && !v.getLsbD 8) ∧ KeepsParts [.outbox] s t) ∧
  (∀ (q : Requester) (k : Nat) (wide : Bool) (s : State), barKey k = true → s.awake = true → s.asleep q k = false → (wide =
      true → k % 8 = 0) →
     ∃ t, exec (.read64bitLowWord q k wide) s = .next t ∧
       t.outbox = .value ((s.readWord q k false).toNat + (if wide then 2 ^ 32 * (s.readWord q (k + 4) false).toNat else 0)) ::
           s.outbox ∧
       lookupD 0 t.cap.shadows (16 * (k + 4) + shadowIx q) = (s.readWord q (k + 4) false).toNat ∧ Keeps [.cap, .outbox] [] s t)
           ∧
  (∀ (f : FnIx) (off : Nat) (v : Option Word) (s : State), off < 4096 → off % 4 = 0 →
     (s.pwr.por = true ∨ s.pwr.inReset = true ∨ s.pwr.faultLow = true) →
     ∃ t, exec (.configRequest f off v) s = .next t ∧ t.outbox = .retry :: s.outbox ∧ Keeps [.outbox] [] s t) ∧
  (∀ (f : FnIx) (off : Nat) (s : State), off < 4096 → off % 4 = 0 → s.awake = true → s.pwr.faultLow = false →
     s.pwr.pendingReset = none → s.hasFn f.val = true → s.inFlr f.val = false →
     ∃ t, exec (.configRequest f off none) s = .next t ∧ t.outbox = .value (s.configWord f.val off).toNat :: s.outbox ∧
       Keeps [.outbox] [] s t) ∧
  (∀ (f : FnIx) (off : Nat) (v : Word) (s : State), off < 4096 → off % 4 = 0 →
     off ∉ [0x04, 0x18, 0x1C, 0x44, 0x58, 0xB0, 0x348, 0x388] → s.awake = true → s.pwr.faultLow = false →
     s.pwr.pendingReset = none → s.hasFn f.val = true → s.inFlr f.val = false →
     ∃ t, exec (.configRequest f off (some v)) s = .next t ∧ t.outbox = .cplOk :: s.outbox ∧
       t.rd ((2 + f.val) * 2 ^ 32 + off) = s.written ((2 + f.val) * 2 ^ 32 + off) v ∧
       (∀ k, k ≠ (2 + f.val) * 2 ^ 32 + off → t.rd k = s.rd k) ∧ KeepsParts [.outbox] s t)

/-- Receiving control blocks on a lane. rxBlockLock: in SEEK, block lock moves the receiver to the next state. receiveIdle: a
good IDLE block moves LOCKED to the state behind it and leaves any other. receiveTrain: a good TRAIN block does the same.
receiveMk: a good marker block does the same. markBad: a marker block with a wrong check counts in ERR_CTL and leaves the
receiver state. receiveAlign: an ALIGN with the expected identity makes the lane ALIGNED where no deskew is pending. -/
def Obligations.Receive : Prop :=
  (∀ (l : LaneIx) (s : State), s.rxState l.val = 1 →
     ∃ t, exec (.rxBlockLock l) s = .next t ∧ t.rxState l.val = 2 ∧ (t.lane l.val).sinceLock = 0 ∧ Keeps [.lanes]
         [Reg.LANE_L_STATUS_WORD] s t) ∧
  (∀ (l : LaneIx) (p : Word64) (i : RxInfo) (s : State), s.rxLive l.val i = true → blkType (s.peek l.val p) = 0x1E →
     s.slotMissed l.val i.slot = false → ctlOk (s.peek l.val p) = true →
     ∃ t, exec (.receiveIdle l p i) s = .next t ∧ t.rxState l.val = (if s.rxState l.val = 2 then 3 else s.rxState l.val) ∧
       Keeps [.lanes, .ports, .cap, .cmp, .gal, .pair, .pcie, .hq, .srv, .mot, .sec, .col, .outbox] (rxRegs ++
           [Reg.LANE_L_ERR_CTL]) s t) ∧
  (∀ (l : LaneIx) (p : Word64) (i : RxInfo) (s : State), s.rxLive l.val i = true → isCt 1 (s.peek l.val p) = true →
     s.slotMissed l.val i.slot = false → ctlOk (s.peek l.val p) = true →
     ∃ t, exec (.receiveTrain l p i) s = .next t ∧ t.rxState l.val = (if s.rxState l.val = 2 then 3 else s.rxState l.val) ∧
       Keeps [.lanes, .ports, .cap, .cmp, .gal, .pair, .pcie, .hq, .srv, .mot, .sec, .col, .outbox] (rxRegs ++
           [Reg.LANE_L_ERR_CTL]) s t) ∧
  (∀ (l : LaneIx) (p : Word64) (i : RxInfo) (s : State), s.rxLive l.val i = true → blkType (s.peek l.val p) = 0x66 →
     s.slotMissed l.val i.slot = false → ctlOk (s.peek l.val p) = true →
     ∃ t, exec (.receiveMk l p i) s = .next t ∧ t.rxState l.val = (if s.rxState l.val = 2 then 3 else s.rxState l.val) ∧
       Keeps [.lanes, .ports, .cap, .cmp, .gal, .pair, .pcie, .hq, .srv, .mot, .sec, .col, .outbox] (rxRegs ++
           [Reg.LANE_L_ERR_CTL]) s t) ∧
  (∀ (l : LaneIx) (p : Word64) (i : RxInfo) (s : State), s.rxLive l.val i = true → blkType (s.peek l.val p) = 0x66 →
     s.slotMissed l.val i.slot = false → ctlOk (s.peek l.val p) = false →
     ∃ t, exec (.receiveMk l p i) s = .next t ∧ t.rxState l.val = s.rxState l.val ∧
       t.get Reg.LANE_L_ERR_CTL (laneReg l.val) = min (s.get Reg.LANE_L_ERR_CTL (laneReg l.val) + 1) (2 ^ 32 - 1) ∧
       Keeps [.lanes, .ports, .cap, .cmp, .gal, .pair, .pcie, .hq, .srv, .mot, .sec, .col, .outbox] (rxRegs ++
           [Reg.LANE_L_ERR_CTL]) s t) ∧
  (∀ (l : LaneIx) (p : Word64) (i : RxInfo) (s : State), s.rxLive l.val i = true → isCt 2 (s.peek l.val p) = true →
     ctlOk (s.peek l.val p) = true → s.alignMatches l.val (s.peek l.val p) = true → s.rxState l.val ≤ 3 →
     ∃ t, exec (.receiveAlign l p i) s = .next t ∧ t.rxState l.val = 4 ∧ Keeps [.lanes, .ports, .cap, .cmp, .gal, .pair, .pcie,
         .hq, .srv, .mot, .sec, .col, .outbox, .fresh] (rxRegs ++ frameRegs ++ [Reg.LANE_PORT_CTL_WORD, Reg.LANE_L_ERR_CTL]) s
         t)

/-- Receiving frames, lines and data on a port. receiveFs: the FRAME_SEQ of the FS is noted for its lane, until every joined
lane has one, and the lane is in no line. receiveLs: the lane goes on to the port's line, with no group done.
receiveDataBlock: a data block in a line joins the lane's packing group. receiveFe: the lane has ended the frame; the frame
goes on until every joined lane has. receiveInvalidSyncHeader: an invalid sync header counts in ERR_SH. hiBerClear: with
fewer than 16 bad headers in the window HI_BER is 0. laneDrainTimeout: a lane of a STOPPING port counts as drained. -/
def Obligations.ReceiveFrame : Prop :=
  (∀ (l : LaneIx) (p : Word64) (i : RxInfo) (s : State), s.rxLive l.val i = true → blkType (s.peek l.val p) = 0x33 →
     s.slotMissed l.val i.slot = false → ctlOk (s.peek l.val p) = true → s.delivers l.val = true → s.portState (portOf l.val) =
         2 →
     (∃ k ∈ s.joinedLanes (portOf l.val), k ≠ l.val % 8 ∧ ∀ e ∈ (s.port (portOf l.val)).fs, e.1 ≠ k) →
     ∃ t, exec (.receiveFs l p i) s = .next t ∧
       (t.port (portOf l.val)).fs.lookup (l.val % 8) = some (frameSeqOf (s.peek l.val p)) ∧ (t.lane l.val).line = none ∧
       Keeps [.lanes, .ports, .cap, .cmp, .gal, .pair, .pcie, .hq, .srv, .mot, .sec, .col, .outbox, .fresh] (rxRegs ++
           frameRegs ++ [Reg.LANE_PORT_CTL_WORD, Reg.LANE_L_ERR_CTL]) s t) ∧
  (∀ (l : LaneIx) (p : Word64) (i : RxInfo) (acc : Bool) (s : State), s.rxLive l.val i = true →
     blkType (s.peek l.val p) = 0x4B → s.slotMissed l.val i.slot = false → ctlOk (s.peek l.val p) = true → s.delivers l.val =
         true →
     (s.lane l.val).rejoining = false → s.portState (portOf l.val) = 2 → (s.port (portOf l.val)).delivering = true →
     (∀ e ∈ (s.port (portOf l.val)).fs, e.1 ≠ l.val % 8) →
     (s.port (portOf l.val)).line = some (lineOf (s.peek l.val p), acc) →
     ∃ t, exec (.receiveLs l p i) s = .next t ∧ (t.lane l.val).line = some (lineOf (s.peek l.val p)) ∧
       (t.lane l.val).accepted = acc ∧ (t.lane l.val).groupsDone = 0 ∧ Keeps [.lanes, .ports, .cap, .cmp, .gal, .pair, .pcie,
           .hq, .srv, .mot, .sec, .col, .outbox] (rxRegs ++ [Reg.LANE_PORT_CTL_WORD, Reg.LANE_L_ERR_CTL, Reg.CAP_STATUS_WORD,
           Reg.CAP_LINE_ERR, Reg.CAP_DROP_ASSEMBLY, Reg.CAP_DROP_FULL, Reg.CAP_SLOT_PEAK]) s t) ∧
  (∀ (l : LaneIx) (p : Word64) (i : RxInfo) (y : Nat) (s : State), s.rxLive l.val i = true → s.slotMissed l.val i.slot = false
      → s.delivers l.val = true →
     (s.lane l.val).line = some y → (s.lane l.val).group.length < 6 →
     ∃ t, exec (.receiveDataBlock l p i) s = .next t ∧ (t.lane l.val).group = (s.lane l.val).group ++ [s.peek l.val p] ∧
       (t.lane l.val).line = some y ∧ t.ports = s.ports ∧ Keeps [.lanes, .ports, .cap, .cmp, .gal, .pair, .pcie, .hq, .srv,
           .mot, .sec, .col, .outbox] rxRegs s t) ∧
  (∀ (l : LaneIx) (p : Word64) (i : RxInfo) (s : State), s.rxLive l.val i = true → blkType (s.peek l.val p) = 0x55 →
     s.slotMissed l.val i.slot = false → ctlOk (s.peek l.val p) = true → s.delivers l.val = true → s.portState (portOf l.val) =
         2 →
     (s.port (portOf l.val)).delivering = true →
     (∃ k ∈ s.joinedLanes (portOf l.val), k ≠ l.val % 8 ∧ k ∉ (s.port (portOf l.val)).fe) →
     ∃ t, exec (.receiveFe l p i) s = .next t ∧
       (t.port (portOf l.val)).fe = (s.port (portOf l.val)).fe ++ [l.val % 8] ∧ (t.lane l.val).line = none ∧
       Keeps [.lanes, .ports, .cap, .cmp, .gal, .pair, .pcie, .hq, .srv, .mot, .sec, .col, .outbox] (rxRegs ++
           [Reg.LANE_PORT_CTL_WORD, Reg.LANE_L_ERR_CTL]) s t) ∧
  (∀ (l : LaneIx) (ones : Bool) (p : Word64) (i : RxInfo) (s : State), 2 ≤ s.rxState l.val → s.rxState l.val ≤ 4 →
     ∃ t, exec (.receiveInvalidSyncHeader l ones p i) s = .next t ∧
       t.get Reg.LANE_L_ERR_SH (laneReg l.val) = min (s.get Reg.LANE_L_ERR_SH (laneReg l.val) + 1) (2 ^ 32 - 1) ∧
       Keeps [.lanes, .ports, .cap, .cmp, .gal, .pair, .pcie, .hq, .srv, .mot, .sec, .col, .outbox, .fresh] (rxRegs ++
           frameRegs ++ [Reg.LANE_L_ERR_SH, Reg.LANE_L_LOCK_LOSS]) s t) ∧
  (∀ (l : LaneIx) (s : State), ((s.lane l.val).bad.length < 16 ∨ (s.lane l.val).bad.getLastD 0 + 50000 ≤ (s.lane
      l.val).lockTime) →
     ∃ t, exec (.hiBerClear l) s = .next t ∧ t.flag Reg.LANE_L_STATUS_HI_BER (laneReg l.val) = false ∧ Keeps []
         [Reg.LANE_L_STATUS_WORD] s t) ∧
  (∀ (l : LaneIx) (s : State), l.val < 256 → s.portState (portOf l.val) = 3 →
     (∃ k ∈ s.joinedLanes (portOf l.val), k ≠ l.val % 8 ∧ k ∉ (s.port (portOf l.val)).drained ∧
       (s.lane (8 * portOf l.val + k)).line ≠ none) →
     ∃ t, exec (.laneDrainTimeout l) s = .next t ∧
       (t.port (portOf l.val)).drained = (s.port (portOf l.val)).drained ++ [l.val % 8] ∧ (t.lane l.val).line = none ∧
       Keeps [.lanes, .ports, .cap, .cmp, .gal, .pair, .pcie, .hq, .srv, .mot, .sec, .col, .outbox] portStopRegs s t)

/-- Lane transmitters and the frame timeout. lanePortCtlWrite: on a port that is not IDLE, TX_WIDTH is taken, WIDTH stays, and
CFG_REJ is 1 where WIDTH would have changed. laneEgressChange: TX_POL is bit 13 of the written word. laneRetrain: an open
lane begins a training burst, numbered by its burst count, of TRAIN_LEN kiloblocks. trainingBurstEnd: the lane is in no
burst after. laneCntClr: the ten counter words of the lane are 0. prbsTxEnable: PRBS_TX is 1, and the generator takes one
free value as its seed (log 126). prbsRxEnable: PRBS_RX is 1 and the receiver is in PRBS. transmitAlign: the port's ALIGN
sequence number goes on by one modulo 65,536. alignSent: where one lane of the group sends ALIGN blocks, it sends one with
the group's SEQ and its own number, and no other lane does. headTransmitLine: a line of the frame that head transmit sends
is noted as sent. frameTimeout: a frame that no take stores is closed after TIMEOUT. -/
def Obligations.Transmit : Prop :=
  (∀ (p : PortIx) (v : Word) (s : State), s.awake = true → s.hasUnit (.port p) = true → s.portState p.val ≠ 0 →
     ∃ t, exec (.lanePortCtlWrite p v) s = .next t ∧
       t.get Reg.LANE_PORT_CTL_TX_WIDTH p.val = bitsOf v Reg.LANE_PORT_CTL_TX_WIDTH.hi Reg.LANE_PORT_CTL_TX_WIDTH.lo ∧
       t.get Reg.LANE_PORT_CTL_WIDTH p.val = s.get Reg.LANE_PORT_CTL_WIDTH p.val ∧
       (bitsOf v Reg.LANE_PORT_CTL_WIDTH.hi Reg.LANE_PORT_CTL_WIDTH.lo ≠ s.get Reg.LANE_PORT_CTL_WIDTH p.val →
         t.flag Reg.LANE_PORT_STATUS_CFG_REJ p.val = true) ∧ Keeps [.lanes, .ports, .cap, .cmp, .gal, .pair, .pcie, .hq, .srv,
             .mot, .sec, .col, .outbox] portStopRegs s t) ∧
  (∀ (l : LaneIx) (v : Word) (s : State), s.laneThere l.val = true →
     ∃ t, exec (.laneEgressChange l v) s = .next t ∧ t.get Reg.LANE_L_CTL_TX_POL (laneReg l.val) = bitsOf v 13 13 ∧
     Keeps [.lanes, .ports, .cap, .cmp, .gal, .pair, .pcie, .hq, .srv, .mot, .sec, .col, .outbox, .fresh] (rxRegs ++ frameRegs
         ++ [Reg.LANE_L_CTL_WORD, Reg.LANE_L_ERR_SH, Reg.LANE_L_ERR_CTL, Reg.LANE_L_LOCK_LOSS]) s t) ∧
  (∀ (l : LaneIx) (s : State), s.laneThere l.val = true → s.laneOpen l.val = true → s.flag Reg.LANE_L_CTL_PRBS_TX (laneReg
      l.val) = false →
     ∃ t, exec (.laneRetrain l) s = .next t ∧ (t.lane l.val).inBurst = true ∧
       (t.lane l.val).bursts = ((s.lane l.val).bursts + 1) % 65536 ∧
       t.outbox = (onLine l.val (s.lane l.val).scrambler (burstBlocks l.val (s.lane l.val).bursts (s.get
           Reg.LANE_TX_CFG_TRAIN_LEN * 1024))).1.reverse ++
         s.outbox ∧ Keeps [.lanes, .srv, .outbox] [Reg.LANE_L_STATUS_WORD, Reg.SRV_COIL_STATUS_WORD] s t) ∧
  (∀ (l : LaneIx) (s : State), (s.lane l.val).inBurst = true →
     ∃ t, exec (.trainingBurstEnd l) s = .next t ∧ (t.lane l.val).inBurst = false ∧ Keeps [.lanes, .ports, .srv, .outbox]
         [Reg.LANE_PORT_STATUS_WORD, Reg.LANE_L_STATUS_WORD, Reg.SRV_COIL_STATUS_WORD, Reg.MSIX1_PBA, Reg.MSIX0_PBA] s t) ∧
  (∀ (l : LaneIx) (s : State), s.laneThere l.val = true →
     ∃ t, exec (.laneCntClr l) s = .next t ∧
     (∀ k < 10, t.rd (Reg.LANE_L_BLOCKS.base + Reg.LANE_L_BLOCKS.stride * laneReg l.val + 4 * k) = 0) ∧ Keeps []
         [Reg.LANE_L_BLOCKS_LO, Reg.LANE_L_BLOCKS_HI, Reg.LANE_L_ERR_SH, Reg.LANE_L_ERR_CTL, Reg.LANE_L_LOCK_LOSS,
         Reg.LANE_L_EB_ADJ_WORD, Reg.LANE_L_EB_SLIPS, Reg.LANE_L_PRBS_ERR, Reg.LANE_L_PRBS_BITS_LO, Reg.LANE_L_PRBS_BITS_HI] s
         t) ∧
  (∀ (l : LaneIx) (s : State), s.laneThere l.val = true →
     ∃ t, exec (.prbsTxEnable l) s = .next t ∧ t.flag Reg.LANE_L_CTL_PRBS_TX (laneReg l.val) = true ∧ t.fresh = s.fresh + 1 ∧
     Keeps [.lanes, .outbox, .fresh] [Reg.LANE_L_CTL_WORD, Reg.LANE_L_STATUS_WORD] s t) ∧
  (∀ (l : LaneIx) (s : State), s.laneThere l.val = true → s.rxState l.val ≠ 0 →
     ∃ t, exec (.prbsRxEnable l) s = .next t ∧ t.flag Reg.LANE_L_CTL_PRBS_RX (laneReg l.val) = true ∧
       ((s.lane l.val).joined = false → t.rxState l.val = 5) ∧ Keeps [.lanes, .ports, .cap, .cmp, .gal, .pair, .pcie, .hq,
           .srv, .mot, .sec, .col, .outbox, .fresh] (frameRegs ++ [Reg.LANE_L_CTL_WORD]) s t) ∧
  (∀ (p : Fin 33) (s : State), ∃ t, exec (.transmitAlign p) s = .next t ∧
     (t.port p.val).alignSeq = ((s.port p.val).alignSeq + 1) % 65536 ∧ Keeps [.lanes, .ports, .srv, .outbox]
         [Reg.SRV_COIL_STATUS_WORD] s t) ∧
  (∀ (p : Fin 33) (n : Nat) (s : State), (alignLanes p.val).filter (fun k => s.sendsAlign k) = [n] →
     ∃ t, exec (.transmitAlign p) s = .next t ∧
       t.outbox = (onLine n (s.lane n).scrambler [laneCt 0x02 n (s.port p.val).alignSeq]).1.reverse ++ s.outbox ∧ Keeps
           [.lanes, .ports, .srv, .outbox] [Reg.SRV_COIL_STATUS_WORD] s t) ∧
  (∀ (p : PortIx) (n y : Nat) (f : Frame) (s : State), s.headLineNext p.val = some (f, y) → f.num = n → s.frame n = some f →
     (s.port p.val).head = some n → s.get Reg.LANE_PORT_CTL_TX_SRC p.val = 2 → s.txWaits p.val = false → f.overFor p.val =
         false →
     ∃ t, exec (.headTransmitLine p n y) s = .next t ∧ (t.port p.val).headSent = (s.port p.val).headSent ++ [y] ∧
       Keeps [.lanes, .ports, .srv, .outbox] [Reg.LANE_PORT_STATUS_WORD, Reg.LANE_L_STATUS_WORD, Reg.SRV_COIL_STATUS_WORD,
           Reg.MSIX1_PBA, Reg.MSIX0_PBA] s t) ∧
  (∀ (n : Nat) (f : Frame) (s : State), s.frame n = some f → f.isOpen = true → f.span = none →
     f.devtime + f.timeout * 16000 ≤ s.now → s.cap.stopSeg = none → s.currentTake = none → s.nextTake = none →
     ∃ t, exec (.frameTimeout n) s = .next t ∧ (∀ g ∈ t.openFrames, g.num ≠ n) ∧ Keeps [.lanes, .ports, .cap, .cmp, .gal,
         .pair, .pcie, .hq, .srv, .mot, .sec, .col, .outbox] (takeRegs ++ [Reg.LANE_PORT_STATUS_WORD, Reg.LANE_L_STATUS_WORD,
         Reg.CMP_CLUSTER_STATUS_WORD, Reg.CMP_CLUSTER_QUEUE_PEAK, Reg.SRV_COIL_STATUS_WORD]) s t)

/-- Frames, formes and the closing of a take. fsSkewTimeout: the ports that delivered no FS are out of the frame and are
counted in SEQ_ERR, with LINE_EV. formeComplete: the latest frame whose sorts are all at their final offset is complete: it
takes the take's next sequence number, counts its sorts that are not complete, and the take's number goes on by one.
certTimeReturned: the certified time of the oldest answer goes to its frame. colophonRecordReceived: a CLOSING take whose
formes are done is CLOSED when its record arrives, where no take is queued. colophonRecordTimeout: 10 ms after the entry to
CLOSING it is CLOSED without a record, where no take is queued. -/
def Obligations.FormesAndClosing : Prop :=
  (∀ (n : Nat) (f : Frame) (late : List Nat) (s : State), s.frame n = some f → f.isOpen = true →
     f.devtime + f.skew * 1600 ≤ s.now →
     late = (List.range 32).filter (fun p => (f.stripes.getD p ⟨false, 0, 0, 0⟩).en && !f.fsPorts.contains p &&
         !f.excluded.contains p) →
     late ≠ [] →
     ∃ t, exec (.fsSkewTimeout n) s = .next t ∧ t.flag Reg.CAP_STATUS_LINE_EV = true ∧
       t.get Reg.CAP_SEQ_ERR = min (s.get Reg.CAP_SEQ_ERR + late.length) (2 ^ 32 - 1) ∧
       (∃ g, t.frame n = some g ∧ g.excluded = f.excluded ++ late) ∧ Keeps [.cap, .cmp, .gal, .outbox] (galReadRegs ++
           [Reg.CAP_STATUS_WORD, Reg.CAP_SEQ_ERR, Reg.CMP_CLUSTER_STATUS_WORD, Reg.CMP_CLUSTER_QUEUE_PEAK,
           Reg.GAL_INIT_PROGRESS]) s t) ∧
  (∀ (f : Frame) (s : State), s.frame s.latestNum = some f → f.complete = false → f.dropped = false → f.span ≠ none →
     f.count ≤ f.frontier → s.takeState (f.take.getD 0) < 4 → s.cap.stopSeg = none → s.currentTake ≠ none →
     ∃ t, exec (.formeComplete s.latestNum) s = .next t ∧
       (∃ g, t.frame s.latestNum = some g ∧ g.complete = true ∧ g.takeSeq = (s.take (f.take.getD 0)).seqNext ∧
         g.missing = f.sorts.countP (fun e => e.2 != .complete)) ∧
       (t.take (f.take.getD 0)).seqNext = (s.take (f.take.getD 0)).seqNext + 1 ∧ Keeps [.cap, .cmp, .gal, .pair, .pcie, .hq,
           .mot, .sec, .col, .outbox] (takeRegs ++ [Reg.CMP_CLUSTER_STATUS_WORD]) s t) ∧
  (∀ (n k : Nat) (r : List (Nat × Nat)) (f : Frame) (s : State), s.col.answers = (n, k) :: r → s.frame n = some f →
     f.complete = false →
     ∃ t, exec .certTimeReturned s = .next t ∧ t.frame n = some { f with cert := some k } ∧ t.col.answers = r ∧
       Keeps [.cap, .pcie, .hq, .mot, .col, .outbox] [Reg.HQ_FREEZES, Reg.HQ_SQ_STATUS_WORD, Reg.HQ_CQ_STATUS_WORD,
           Reg.MSIX1_PBA, Reg.CFG_CONT_STATUS_WORD, Reg.MSIX0_PBA] s t) ∧
  (∀ (seg : SegIx) (r : Nat × List Byte) (s : State), s.col.outRecords.find? (fun r => r.1 == seg.val) = some r →
     s.takeState seg.val = 4 → fieldAt r.2 8 2 = s.takeId seg.val → s.galActive = true → s.pendingFrames seg.val = [] →
     (∀ k < 16, s.takeState k ≠ 1) →
     ∃ t, exec (.colophonRecordReceived seg) s = .next t ∧ t.takeState seg.val = 5 ∧ Keeps [.cap, .cmp, .gal, .pair, .pcie,
         .hq, .mot, .sec, .col, .outbox] (takeRegs ++ [Reg.CMP_CLUSTER_STATUS_WORD]) s t) ∧
  (∀ (seg : SegIx) (s : State), s.takeState seg.val = 4 → (s.take seg.val).recordArrived = false →
     (s.take seg.val).closeTime + 16000000 ≤ s.now → s.pendingFrames seg.val = [] → (∀ k < 16, s.takeState k ≠ 1) →
     ∃ t, exec (.colophonRecordTimeout seg) s = .next t ∧ t.takeState seg.val = 5 ∧ Keeps [.cap, .cmp, .gal, .pair, .pcie, .hq,
         .mot, .sec, .col, .outbox] (takeRegs ++ [Reg.CMP_CLUSTER_STATUS_WORD]) s t)

/-- Trigger inputs, capture configuration, disable, counters, recovery. triggerEdge: the input's pin has the new level.
triggerQualifyingEvent: a qualifying event that has lasted MIN_WIDTH counts in TRIG_COUNT, with its time in TRIG_LAST.
triggerLevelInactive: a transition out of the level that has lasted MIN_WIDTH is taken over by the filter. capConfigWrite:
a configuration register takes the write where no take locks it and the unit is not passive. capDisable: a RUNNING capture
unit is STOPPING, with EN 0. capCntClr: the six error counters and the eight trigger counts are 0. takeRecovery: the
recovery is done. -/
def Obligations.TriggersAndConfiguration : Prop :=
  (∀ (i : TrigIx) (b : Bool) (s : State), ∃ t, exec (.triggerEdge i b) s = .next t ∧ (t.trig i.val).pin = b ∧ Keeps [.cap,
      .cmp, .gal, .pair, .pcie, .hq, .mot, .sec, .col, .outbox] (takeRegs ++ [Reg.CAP_TRIG_COUNT, Reg.CAP_TRIG_LAST_LO,
      Reg.CAP_TRIG_LAST_HI, Reg.CMP_CLUSTER_STATUS_WORD]) s t) ∧
  (∀ (i : TrigIx) (k : Nat) (s : State), s.qualifies i.val (s.trig i.val).pin = true → (s.trig i.val).since = some k →
     k + s.get Reg.CAP_TRIG_CFG_MIN_WIDTH i.val ≤ s.now →
     ∃ t, exec (.triggerQualifyingEvent i) s = .next t ∧
       t.get Reg.CAP_TRIG_COUNT i.val = min (s.get Reg.CAP_TRIG_COUNT i.val + 1) (2 ^ 32 - 1) ∧
       t.get64 Reg.CAP_TRIG_LAST i.val = k % 2 ^ 64 ∧ Keeps [.cap, .cmp, .gal, .pair, .pcie, .hq, .mot, .sec, .col, .outbox]
           (takeRegs ++ [Reg.CAP_TRIG_COUNT, Reg.CAP_TRIG_LAST_LO, Reg.CAP_TRIG_LAST_HI, Reg.CMP_CLUSTER_STATUS_WORD]) s t) ∧
  (∀ (i : TrigIx) (k : Nat) (s : State), s.trigIsLevel i.val = true → s.qualifies i.val (s.trig i.val).pin = false →
     (s.trig i.val).since = some k → k + s.get Reg.CAP_TRIG_CFG_MIN_WIDTH i.val ≤ s.now →
     ∃ t, exec (.triggerLevelInactive i) s = .next t ∧ (t.trig i.val).filtered = (s.trig i.val).pin ∧
       (t.trig i.val).since = none ∧ Keeps [.cap, .cmp, .gal, .pair, .pcie, .hq, .mot, .sec, .col, .outbox] (takeRegs ++
           [Reg.CAP_TRIG_COUNT, Reg.CAP_TRIG_LAST_LO, Reg.CAP_TRIG_LAST_HI, Reg.CMP_CLUSTER_STATUS_WORD]) s t) ∧
  (∀ (addr : Nat) (v : Word) (s : State), mirrored addr = true → s.written addr v ≠ s.rd addr → s.capLocked addr = false →
     s.pairPassive = false → ¬ (0x300200 ≤ addr ∧ addr < 0x300280) → s.awake = true → s.absentAt addr = false →
     ∃ t, exec (.capConfigWrite addr v) s = .next t ∧ t.rd addr = s.written addr v ∧ Keeps [.cap, .cmp, .gal, .pair, .pcie,
         .hq, .mot, .sec, .col, .outbox] (takeRegs ++ [Reg.CAP_STATUS_WORD, Reg.CAP_GEOM_WORD, Reg.CAP_FRAME_CFG_WORD,
         Reg.CAP_STRIPE_MAP_WORD, Reg.CAP_STRIPE_STEP_WORD, Reg.CAP_TRIG_CFG_WORD, Reg.CAP_TRIG_COUNT, Reg.CAP_TRIG_LAST_LO,
         Reg.CAP_TRIG_LAST_HI, Reg.CAP_SEG_CFG_WORD, Reg.CMP_CLUSTER_STATUS_WORD]) s t) ∧
  (∀ s : State, s.get Reg.CAP_STATUS_STATE = 2 →
     ∃ t, exec .capDisable s = .next t ∧ t.flag Reg.CAP_CTL_EN = false ∧ t.get Reg.CAP_STATUS_STATE = 3 ∧ Keeps [.cap, .cmp,
         .gal, .pair, .pcie, .hq, .mot, .sec, .col, .outbox] (takeRegs ++ [Reg.CAP_CTL_WORD, Reg.CAP_STATUS_WORD,
         Reg.CMP_CLUSTER_STATUS_WORD]) s t) ∧
  (∀ s : State, ∃ t, exec .capCntClr s = .next t ∧ (∀ k < 6, t.rd (Reg.CAP_LINE_ERR.base + 4 * k) = 0) ∧
     (∀ i < 8, t.get Reg.CAP_TRIG_COUNT i = 0) ∧ Keeps [] [Reg.CAP_LINE_ERR, Reg.CAP_SEQ_ERR, Reg.CAP_DROP_ASSEMBLY,
         Reg.CAP_DROP_FULL, Reg.CAP_SLOT_PEAK, Reg.CAP_SEQ_SKIP, Reg.CAP_TRIG_COUNT] s t) ∧
  (∀ (d : Damage) (s : State), s.gal.recover = true → s.galActive = true → 2 ∉ s.cal.resetRuns →
     ∃ t, exec (.takeRecovery d) s = .next t ∧ t.gal.recover = false ∧ Keeps [.cap, .gal, .pair, .outbox] (galReadRegs ++
         [Reg.CAP_SEG_CFG_WORD, Reg.CAP_SEG_TAKE_WORD, Reg.GAL_INIT_PROGRESS]) s t)

/-- The compositor array: taking, reading, coding and delivering sorts. compositorTakeSort: where one cluster has a free
compositor and a sort waits in its queue, that compositor holds the oldest sort and the queue goes on.
assemblyReadComplete: an undamaged read is noted, and the frame gives one assembly slot back. sortCoded: the compositor is
free, its coded sort waits for delivery, and SORTS counts it. codedSortDelivery: the oldest coded sort has left the array.
compositorMaskWrite: MASK and EN take the written values where MASK is not 0. cmpCntClr: the counters of the array and of
every cluster are 0. -/
def Obligations.CompositorArray : Prop :=
  (∀ (c k : Nat) (x : Nat × Nat) (r : List (Nat × Nat)) (s : State), c < max 1 s.clusters → s.freeComp c = some k → s.queue c =
      x :: r →
     (∀ d < max 1 s.clusters, d ≠ c → s.freeComp d = none) →
     ∃ t, exec .compositorTakeSort s = .next t ∧ t.cmp.held.lookup k = some { frame := x.1, sort := x.2 } ∧ t.queue c = r ∧
       Keeps [.cmp] [Reg.CMP_STATUS_WORD, Reg.CMP_CLUSTER_STATUS_WORD, Reg.CMP_CLUSTER_STOLEN_IN, Reg.CMP_CLUSTER_STOLEN_OUT] s
           t) ∧
  (∀ (k : CompIx) (h : Held) (f : Frame) (s : State), s.cmp.held.lookup k.val = some h → h.read = false → s.frame h.frame =
      some f →
     f.dropped = false →
     ∃ t, exec (.assemblyReadComplete k []) s = .next t ∧
       (∃ g, t.cmp.held.lookup k.val = some g ∧ g.frame = h.frame ∧ g.sort = h.sort ∧ g.read = true ∧ g.samples = f.samples
           h.sort ∧
         g.poisoned = false) ∧
       t.frame h.frame = some { f with slots := f.slots - 1 } ∧ Keeps [.cap, .cmp, .outbox, .fresh] [Reg.CMP_STATUS_WORD,
           Reg.CMP_ASM_UE, Reg.MSIX1_PBA, Reg.MSIX0_PBA] s t) ∧
  (∀ (k : CompIx) (h : Held) (s : State), s.cmp.held.lookup k.val = some h → h.read = true →
     ∃ t, exec (.sortCoded k) s = .next t ∧ t.cmp.held = eraseKey s.cmp.held k.val ∧
       t.cmp.out = s.cmp.out ++ [{ frame := h.frame, sort := h.sort, bytes := (codeSort h.sort h.mode h.bound (h.cfa == 1)
           (h.state == .incomplete) h.samples).1, state := h.state, poisoned := h.poisoned }] ∧
       t.get64 Reg.CMP_SORTS = min (s.get64 Reg.CMP_SORTS + 1) (2 ^ 64 - 1) ∧ Keeps [.cmp] [Reg.CMP_STATUS_WORD,
           Reg.CMP_SORTS_LO, Reg.CMP_SORTS_HI, Reg.CMP_FALLBACK_LO, Reg.CMP_FALLBACK_HI, Reg.CMP_CLUSTER_CODED_LO,
           Reg.CMP_CLUSTER_CODED_HI] s t) ∧
  (∀ (c : CodedSort) (r : List CodedSort) (s : State), s.cmp.out = c :: r → s.galActive = true →
     ∃ t, exec .codedSortDelivery s = .next t ∧ t.cmp.out = r ∧ Keeps [.cap, .cmp, .gal, .outbox] (galReadRegs ++
         [Reg.GAL_INIT_PROGRESS, Reg.GAL_SPILLS, Reg.GAL_STORE_PEAK]) s t) ∧
  (∀ (c : ClusterIx) (v : Word) (s : State), s.awake = true → s.hasUnit (.cluster c) = true → bitsOf v 31 16 ≠ 0 →
     ∃ t, exec (.compositorMaskWrite c v) s = .next t ∧ t.get Reg.CMP_CLUSTER_CTL_MASK c.val = bitsOf v 31 16 ∧
       t.flag Reg.CMP_CLUSTER_CTL_EN c.val = v.getLsbD 0 ∧ Keeps [] [Reg.CMP_STATUS_WORD, Reg.CMP_CLUSTER_CTL_WORD,
           Reg.CMP_CLUSTER_STATUS_WORD] s t) ∧
  (∀ s : State, ∃ t, exec .cmpCntClr s = .next t ∧ (∀ k < 5, t.rd (Reg.CMP_SORTS.base + 4 * k) = 0) ∧
     (∀ c < 32, ∀ k < 5, t.rd (Reg.CMP_CLUSTER_CODED.base + Reg.CMP_CLUSTER_CODED.stride * c + 4 * k) = 0) ∧ Keeps []
         [Reg.CMP_SORTS_LO, Reg.CMP_SORTS_HI, Reg.CMP_FALLBACK_LO, Reg.CMP_FALLBACK_HI, Reg.CMP_ASM_UE,
         Reg.CMP_CLUSTER_CODED_LO, Reg.CMP_CLUSTER_CODED_HI, Reg.CMP_CLUSTER_STOLEN_IN, Reg.CMP_CLUSTER_STOLEN_OUT,
         Reg.CMP_CLUSTER_QUEUE_PEAK] s t)

/-- Take commands: ARM, STOP, RELEASE and a held release. An ARM that passes every check of R115 completes and sets FCAP and
PRE of its segment from the take parameters. A STOP of a QUEUED take completes and leaves the segment IDLE; a STOP of a
CLOSED take completes without an error and leaves it CLOSED. A RELEASE of a CLOSED take with no drain in progress completes
and leaves the segment IDLE. At RELEASE_HELD_COMPLETE a held release whose last drain has ended leaves the segment IDLE and
RELEASE_HELD 0. Of each command the frame says what parts and registers it leaves alone. -/
def Obligations.TakeCommands : Prop :=
  (∀ (c : Nat) (k : Cmd) (s : State), Ready s c 0x10 k → s.pairPassive = false → s.armCheck (k.fld 0x18 1) k.takeParams = none →
     ∃ t, exec (.arm c) s = .next t ∧ t.cmd c = none ∧
       t.get Reg.CAP_SEG_FCAP (k.fld 0x18 1) = s.fCap (k.fld 0x18 1) % 2 ^ 32 ∧
       t.get Reg.CAP_SEG_PRE (k.fld 0x18 1) = s.preFrames (k.fld 0x18 1) (k.fld 0x1C 1) % 2 ^ 32 ∧ Keeps [.cap, .cmp, .gal,
           .pair, .pcie, .hq, .mot, .sec, .col, .outbox] (takeRegs ++ [Reg.CAP_SEG_FCAP, Reg.CAP_SEG_PRE,
           Reg.CMP_CLUSTER_STATUS_WORD]) s t) ∧
  (∀ (c : Nat) (k : Cmd) (s : State), Ready s c 0x11 k → c ∉ (s.take (k.fld 0x18 1)).waiting → s.pairPassive = false →
      s.takeNamed k = true →
     s.takeState (k.fld 0x18 1) = 1 →
     ∃ t, exec (.stop c) s = .next t ∧ t.cmd c = none ∧ t.takeState (k.fld 0x18 1) = 0 ∧ Keeps [.cap, .cmp, .gal, .pair, .pcie,
         .hq, .mot, .sec, .col, .outbox] (takeRegs ++ [Reg.CAP_TRIG_COUNT, Reg.CAP_TRIG_LAST_LO, Reg.CAP_TRIG_LAST_HI,
         Reg.CMP_CLUSTER_STATUS_WORD]) s t) ∧
  (∀ (c : Nat) (k : Cmd) (s : State), Ready s c 0x11 k → c ∉ (s.take (k.fld 0x18 1)).waiting → s.pairPassive = false →
      s.takeNamed k = true →
     s.takeState (k.fld 0x18 1) = 5 → ∃ t, exec (.stop c) s = .next t ∧ Done s t c ∧ t.takeState (k.fld 0x18 1) = 5 ∧ Keeps
         [.cap, .cmp, .gal, .pair, .pcie, .hq, .mot, .sec, .col, .outbox] (takeRegs ++ [Reg.CAP_TRIG_COUNT,
         Reg.CAP_TRIG_LAST_LO, Reg.CAP_TRIG_LAST_HI, Reg.CMP_CLUSTER_STATUS_WORD]) s t) ∧
  (∀ (c : Nat) (k : Cmd) (s : State), Ready s c 0x12 k → k.begun = false → s.takeNamed k = true →
     s.takeState (k.fld 0x18 1) = 5 → s.draining (k.fld 0x18 1) = false →
     ∃ t, exec (.release c) s = .next t ∧ t.cmd c = none ∧ t.takeState (k.fld 0x18 1) = 0 ∧ Keeps [.cap, .gal, .pair, .pcie,
         .hq, .mot, .sec, .outbox] takeRegs s t) ∧
  (∀ (seg : SegIx) (s : State), s.flag Reg.CAP_SEG_TAKE_RELEASE_HELD seg.val = true → s.draining seg.val = false →
     s.heldReleases seg.val ≠ [] →
     ∃ t, exec (.releaseHeldComplete seg) s = .next t ∧ t.takeState seg.val = 0 ∧
       t.flag Reg.CAP_SEG_TAKE_RELEASE_HELD seg.val = false ∧ Keeps [.cap, .gal, .pair, .pcie, .hq, .mot, .sec, .outbox]
           takeRegs s t)

/-- The galley: throttle, watermarks, error log, background initialization, scrub, self-refresh. At or below WM_LOW the drain
throttle releases the paused classes. A watermark write with HIGH above LOW and at most 16,384 is taken. A write of the
error log with VALID set leaves the word that R174 says. CNT_CLR clears the counters. BACKGROUND_INIT_GRANULE writes the
next never-written granule in its order, PATROL_SCRUB_READ reads the next line and goes on by one line. With the stacks'
PLLs locked and nothing that holds it, self-refresh ends in ACTIVE. Of each command the frame says what parts and registers
it leaves alone. -/
def Obligations.Galley : Prop :=
  (∀ s : State, s.gal.paused = true → s.storeBytes ≤ s.get Reg.GAL_ARB_WM_LOW * 1024 →
     ∃ t, exec .drainThrottleRelease s = .next t ∧
       (s.gal.delayed = [] → t.gal = { s.gal with paused := false }) ∧ Keeps [.gal, .outbox] (galReadRegs ++
           [Reg.PCIE_POISON_TX, Reg.GAL_INIT_PROGRESS, Reg.GAL_WR_DISCARD]) s t) ∧
  (∀ (v : Word) (s : State), v.toNat / 65536 ≤ 16384 → v.toNat % 65536 < v.toNat / 65536 →
     ∃ t, exec (.galArbWmWrite v) s = .next t ∧ t.get Reg.GAL_ARB_WM_HIGH = v.toNat / 65536 ∧
       t.get Reg.GAL_ARB_WM_LOW = v.toNat % 65536 ∧ Keeps [.gal, .outbox] [Reg.GAL_STATUS_WORD, Reg.GAL_ARB_WM_WORD,
           Reg.MSIX1_PBA, Reg.MSIX0_PBA] s t) ∧
  (∀ (v : Word) (s : State), v.getLsbD Reg.GAL_ERR_INFO_VALID.lo = true →
     ∃ t, exec (.galErrorLogFree v) s = .next t ∧ t.rd Reg.GAL_ERR_INFO_VALID.base = s.written Reg.GAL_ERR_INFO_VALID.base v ∧
       Keeps [] [Reg.GAL_ERR_INFO_WORD] s t) ∧
  (∀ s : State, ∃ t, exec .galCntClr s = .next t ∧ t.get64 Reg.GAL_THROTTLE = 0 ∧ t.get Reg.GAL_SPILLS = 0 ∧
     t.get Reg.GAL_WR_DISCARD = 0 ∧ t.get Reg.GAL_STORE_PEAK = 0 ∧
     (∀ g < 4, ∀ k < 5, t.rd (Reg.GAL_STACK_CE.base + Reg.GAL_STACK_CE.stride * g + 4 * k) = 0) ∧ Keeps [.gal]
         [Reg.GAL_THROTTLE_LO, Reg.GAL_THROTTLE_HI, Reg.GAL_SPILLS, Reg.GAL_WR_DISCARD, Reg.GAL_STORE_PEAK, Reg.GAL_STACK_CE,
         Reg.GAL_STACK_UE, Reg.GAL_STACK_SCRUB_CE, Reg.GAL_STACK_SCRUB_UE, Reg.GAL_STACK_POISON_RD] s t) ∧
  (∀ (g : Nat) (s : State), s.galActive = true → s.saving = false → s.flag Reg.GAL_STATUS_INIT_DONE = false → s.nextGranule =
      some g →
     ∃ t, exec .backgroundInitGranule s = .next t ∧ t.granuleWritten g = true ∧ Keeps [.gal] [Reg.GAL_STATUS_WORD,
         Reg.GAL_INIT_PROGRESS] s t) ∧
  (∀ (l : Nat) (dmg : Damage) (s : State), s.flag Reg.GAL_SCRUB_EN = true → s.galActive = true → s.saving = false →
     s.nextScrub = some l →
     ∃ t, exec (.patrolScrubRead dmg) s = .next t ∧ t.gal.scrubLine = (l + 1) % (s.galSize / 64) ∧ Keeps [.gal, .outbox]
         galReadRegs s t) ∧
  (∀ s : State, s.get Reg.GAL_STATUS_SR = 2 →
     (∀ g < s.part.stackCount, (s.get Reg.CLK_PLL_STATUS_GPHY_LOCK >>> g) % 2 = 1) → s.pwr.aosSafe = false →
     s.pwr.lockstep = false → s.pwr.trip = false → s.pwr.thermalHold = false → s.saving = false → s.pwr.inReset = false →
     ∃ t, exec .selfRefreshExit s = .next t ∧ 
       (s.gal.delayed = [] → t.get Reg.GAL_STATUS_SR = 0 ∧ t.gal = { s.gal with kept := false }) ∧
       Keeps [.lanes, .cap, .cmp, .gal, .pair, .pcie, .hq, .och, .srv, .mot, .sec, .col, .pwr, .outbox] (safeRegs ++
           [Reg.PCIE_POISON_TX, Reg.GAL_WR_DISCARD]) s t)

/-- The pairing unit: lanes, roles, claims, epochs, heartbeats. A pairing lane that is down by R97 is recorded as down and
PINS.PEER follows the pin; when both are down, a STANDBY whose peer claim is high becomes TAKEOVER (4), drives CLAIM and
samples again. ROLE_EVALUATION with the peer claim high drives CLAIM, with it low becomes STANDBY; a resample decides
ACTIVE or STANDBY. PEER_HIGH outside a takeover is only noted. An ACTIVE member sends at most 127 records in the next
epoch. A heartbeat carries the epoch number, the role code (2 for ISOLATED and TAKEOVER is the model's choice, log 128) and
SYNC. An epoch more than 4 ahead of its acknowledgement asks for a RESYNC. LEAVING_END releases CLAIM. CNT_CLR clears the
counters. A received heartbeat shows the peer's role. Of each command the frame says what parts and registers it leaves
alone. -/
def Obligations.Pairing : Prop :=
  (∀ (k : Fin 2) (b : Bool) (s : State), s.laneIsDown k.val = true → s.pairState ≠ 0 → s.pair.down.contains k.val = false →
     s.pair.down.contains (1 - k.val) = false → s.pair.heldCopy = none →
     ∃ t, exec (.pairingLaneDown k b) s = .next t ∧ t.pair.down = s.pair.down ++ [k.val] ∧ t.flag Reg.PAIR_PINS_PEER = b ∧
       Keeps [.cap, .cmp, .gal, .pair, .pcie, .hq, .mot, .sec, .col, .outbox, .fresh] (takeRegs ++ [Reg.CAP_GEOM_WORD,
           Reg.CAP_FRAME_CFG_WORD, Reg.CAP_STRIPE_MAP_WORD, Reg.CAP_STRIPE_STEP_WORD, Reg.CAP_TRIG_CFG_WORD,
           Reg.CAP_TRIG_COUNT, Reg.CAP_TRIG_LAST_LO, Reg.CAP_TRIG_LAST_HI, Reg.CAP_SEG_CFG_WORD, Reg.CAP_SEG_FCAP,
           Reg.CAP_SEG_PRE, Reg.CMP_CLUSTER_STATUS_WORD, Reg.PAIR_STATUS_WORD, Reg.PAIR_PINS_WORD, Reg.PAIR_LATE_APPLY,
           Reg.PAIR_APPLY_ERR]) s t) ∧
  (∀ (k : Fin 2) (s : State), s.laneIsDown k.val = true → s.pairState ≠ 0 → s.pair.down.contains k.val = false →
     s.pair.down.contains (1 - k.val) = true → s.pair.heldCopy = none → s.pairRole = 2 ∨ s.pairRole = 3 → s.pair.peerHigh =
         true →
     s.driven = true →
     ∃ t, exec (.pairingLaneDown k true) s = .next t ∧ t.pair.down = s.pair.down ++ [k.val] ∧ t.pairRole = 4 ∧
       t.flag Reg.PAIR_PINS_CLAIM = true ∧ t.pair.resampling = true ∧ Keeps [.cap, .cmp, .gal, .pair, .pcie, .hq, .mot, .sec,
           .col, .outbox, .fresh] (takeRegs ++ [Reg.CAP_GEOM_WORD, Reg.CAP_FRAME_CFG_WORD, Reg.CAP_STRIPE_MAP_WORD,
           Reg.CAP_STRIPE_STEP_WORD, Reg.CAP_TRIG_CFG_WORD, Reg.CAP_TRIG_COUNT, Reg.CAP_TRIG_LAST_LO, Reg.CAP_TRIG_LAST_HI,
           Reg.CAP_SEG_CFG_WORD, Reg.CAP_SEG_FCAP, Reg.CAP_SEG_PRE, Reg.CMP_CLUSTER_STATUS_WORD, Reg.PAIR_STATUS_WORD,
           Reg.PAIR_PINS_WORD, Reg.PAIR_LATE_APPLY, Reg.PAIR_APPLY_ERR]) s t) ∧
  (∀ (b : Bool) (s : State), s.pairState = 1 → s.pairRole = 0 → s.pair.resampling = false → s.flag Reg.PAIR_STATUS_HELD = false
      →
     s.driven = true →
     ∃ t, exec (.pairRoleEvaluation b) s = .next t ∧ t.flag Reg.PAIR_PINS_PEER = b ∧
       (b = true → t.flag Reg.PAIR_PINS_CLAIM = true ∧ t.pair.resampling = true) ∧
       (b = false → t.pairRole = 2 ∧ t.pairState = 2) ∧ Keeps [.pair] [Reg.PAIR_CTL_WORD, Reg.PAIR_STATUS_WORD,
           Reg.PAIR_PINS_WORD] s t) ∧
  (∀ s : State, s.pair.resampling = true → s.driven = true → s.pairRole ≠ 4 → s.pairState = 1 → s.flag Reg.PAIR_STATUS_HELD =
      false →
     ∃ t, exec (.pairClaimResample true) s = .next t ∧ t.pairRole = 1 ∧ t.pairState = 2 ∧ Keeps [.cap, .cmp, .gal, .pair,
         .pcie, .hq, .mot, .sec, .col, .outbox] (takeRegs ++ [Reg.PCIE_POISON_TX, Reg.CMP_CLUSTER_STATUS_WORD,
         Reg.GAL_WR_DISCARD, Reg.PAIR_CTL_WORD, Reg.PAIR_STATUS_WORD, Reg.PAIR_PINS_WORD, Reg.PAIR_EPOCH_COMMIT,
         Reg.PAIR_TAKEOVERS]) s t) ∧
  (∀ s : State, s.pair.resampling = true → s.driven = true → s.pairRole ≠ 4 → s.flag Reg.PAIR_PINS_STRAP = true →
     s.pairState = 1 → s.flag Reg.PAIR_STATUS_HELD = false →
     ∃ t, exec (.pairClaimResample false) s = .next t ∧ t.pairRole = 2 ∧ t.pairState = 2 ∧ t.flag Reg.PAIR_PINS_CLAIM = false ∧
       Keeps [.cap, .cmp, .gal, .pair, .pcie, .hq, .mot, .sec, .col, .outbox] (takeRegs ++ [Reg.PCIE_POISON_TX,
           Reg.CMP_CLUSTER_STATUS_WORD, Reg.GAL_WR_DISCARD, Reg.PAIR_CTL_WORD, Reg.PAIR_STATUS_WORD, Reg.PAIR_PINS_WORD,
           Reg.PAIR_EPOCH_COMMIT, Reg.PAIR_TAKEOVERS]) s t) ∧
  (∀ s : State, (s.pairRole ≠ 2 ∧ s.pairRole ≠ 3) ∨ (s.lanesDown = false ∧ s.pair.peerRole ≠ 3 ∧ s.pair.peerRole ≠ 1) →
     ∃ t, exec .peerHigh s = .next t ∧ t.pair = { s.pair with peerHigh := true } ∧ t.flag Reg.PAIR_PINS_PEER = true ∧ Keeps
         [.cap, .cmp, .gal, .pair, .pcie, .hq, .mot, .sec, .col, .outbox, .fresh] (takeRegs ++ [Reg.CAP_GEOM_WORD,
         Reg.CAP_FRAME_CFG_WORD, Reg.CAP_STRIPE_MAP_WORD, Reg.CAP_STRIPE_STEP_WORD, Reg.CAP_TRIG_CFG_WORD, Reg.CAP_TRIG_COUNT,
         Reg.CAP_TRIG_LAST_LO, Reg.CAP_TRIG_LAST_HI, Reg.CAP_SEG_CFG_WORD, Reg.CAP_SEG_FCAP, Reg.CAP_SEG_PRE,
         Reg.CMP_CLUSTER_STATUS_WORD, Reg.PAIR_STATUS_WORD, Reg.PAIR_PINS_WORD, Reg.PAIR_LATE_APPLY, Reg.PAIR_APPLY_ERR]) s t) ∧
  (∀ s : State, s.pairRole = 1 → s.pairState = 2 → s.pair.records ≠ [] → s.pair.resync = false →
     ∃ t, exec .epochSend s = .next t ∧ t.get Reg.PAIR_EPOCH_SENT = (s.get Reg.PAIR_EPOCH_SENT + 1) % 2 ^ 32 ∧
       t.pair = { s.pair with records := s.pair.records.drop 127 } ∧ Keeps [.lanes, .pair, .srv, .outbox] [Reg.PAIR_EPOCH_SENT,
           Reg.PAIR_RESYNCS, Reg.SRV_COIL_STATUS_WORD] s t) ∧
  (∀ (k : Fin 2) (b : Word64) (r : List Word64) (s : State), ∃ t, exec (.receiveEpochEnd k (b :: r)) s = .next t ∧
     Keeps [.lanes, .ports, .cap, .cmp, .gal, .pair, .pcie, .hq, .srv, .mot, .sec, .col, .outbox, .fresh] (rxRegs ++
         [Reg.LANE_L_ERR_CTL, Reg.CAP_GEOM_WORD, Reg.CAP_FRAME_CFG_WORD, Reg.CAP_STRIPE_MAP_WORD, Reg.CAP_STRIPE_STEP_WORD,
         Reg.CAP_TRIG_CFG_WORD, Reg.CAP_TRIG_COUNT, Reg.CAP_TRIG_LAST_LO, Reg.CAP_TRIG_LAST_HI, Reg.CAP_SEG_CFG_WORD,
         Reg.CAP_SEG_FCAP, Reg.CAP_SEG_PRE, Reg.PAIR_STATUS_WORD, Reg.PAIR_EPOCH_COMMIT, Reg.PAIR_CRC_ERR,
         Reg.PAIR_COPY_MISMATCH, Reg.PAIR_LATE_APPLY, Reg.PAIR_APPLY_ERR, Reg.PAIR_RESYNCS]) s t) ∧
  (∀ (k : Fin 2) (s : State), s.pairRole = 1 ∨ s.pairRole = 2 ∨ s.pairRole = 3 ∨ s.pairRole = 4 →
     s.flag Reg.LANE_L_CTL_PRBS_TX (laneReg (256 + k.val)) = false → (s.lane (256 + k.val)).inBurst = false → s.laneOpen (256 +
         k.val) = true →
     ∃ t, exec (.pairHeartbeatSend k) s = .next t ∧
       t = s.sendBlocks (256 + k.val) [ctBlock 0x10 k.val true
         (if s.pairRole = 1 then s.get Reg.PAIR_EPOCH_SENT else s.get Reg.PAIR_EPOCH_COMMIT)
         ((if s.pairRole = 1 then if s.pair.leaving then 3 else 1 else 2) + if s.flag Reg.PAIR_STATUS_SYNC then 4 else 0)] ∧
       Keeps [.lanes, .srv, .outbox] [Reg.SRV_COIL_STATUS_WORD] s t) ∧
  (∀ s : State, s.pairRole = 1 → s.get Reg.PAIR_EPOCH_COMMIT + 4 < s.get Reg.PAIR_EPOCH_SENT →
     ∃ t, exec .epochAckTimeout s = .next t ∧ t.pair = { s.pair with resync := true } ∧ Keeps [.pair] [] s t) ∧
  (∀ s : State, s.pair.leaving = true →
     ∃ t, exec .pairLeavingEnd s = .next t ∧ t.flag Reg.PAIR_PINS_CLAIM = false ∧ t.pair.leaving = false ∧ Keeps [.pair]
         [Reg.PAIR_STATUS_WORD, Reg.PAIR_PINS_WORD] s t) ∧
  (∀ s : State, ∃ t, exec .pairCntClr s = .next t ∧ (∀ j < 6, t.rd (Reg.PAIR_CRC_ERR.base + 4 * j) = 0) ∧ Keeps []
      [Reg.PAIR_CRC_ERR, Reg.PAIR_COPY_MISMATCH, Reg.PAIR_LATE_APPLY, Reg.PAIR_APPLY_ERR, Reg.PAIR_TAKEOVERS, Reg.PAIR_RESYNCS]
      s t) ∧
  (∀ (k : Fin 2) (p : Word64) (b : Bool) (s : State), s.rxLive (256 + k.val) { slot := 0, txSlots := 0, elastic := .none } =
      true →
     isCt 0x10 (s.peek (256 + k.val) p) = true → ctlOk (s.peek (256 + k.val) p) = true →
     s.slotMissed (256 + k.val) 0 = false → s.pairRole = 1 → s.pair.heldCopy = none →
     ∃ t, exec (.receivePairHeartbeat k p b) s = .next t ∧ t.flag Reg.PAIR_PINS_PEER = b ∧
       t.pair.peerRole = ctParam (s.peek (256 + k.val) p) % 4 ∧ Keeps [.lanes, .ports, .cap, .cmp, .gal, .pair, .pcie, .hq,
           .srv, .mot, .sec, .col, .outbox, .fresh] (rxRegs ++ [Reg.LANE_L_ERR_CTL, Reg.CAP_GEOM_WORD, Reg.CAP_FRAME_CFG_WORD,
           Reg.CAP_STRIPE_MAP_WORD, Reg.CAP_STRIPE_STEP_WORD, Reg.CAP_TRIG_CFG_WORD, Reg.CAP_TRIG_COUNT, Reg.CAP_TRIG_LAST_LO,
           Reg.CAP_TRIG_LAST_HI, Reg.CAP_SEG_CFG_WORD, Reg.CAP_SEG_FCAP, Reg.CAP_SEG_PRE, Reg.PAIR_STATUS_WORD,
           Reg.PAIR_PINS_WORD, Reg.PAIR_EPOCH_COMMIT, Reg.PAIR_LATE_APPLY, Reg.PAIR_APPLY_ERR]) s t)

/-- The PCIe link and BAR2: training, bad shapes, reads, writes, windows, MSI-X. LINK_TRAINED shows the lower of the trained
and the allowed rate. A badly shaped BAR0 access sets Signaled Target Abort in its function. A BAR2 read that finds its
target is answered with data; a BAR2 write that finds its target is what hostWriteAt does at the galley address; a poisoned
BAR2 write is the same command as a poisoned TLP. A resizable-BAR write with MSE 0 and a supported size takes the size. A
window that meets R206 is enabled. A pending vector that may be sent leaves as an MSI-X message and its PBA bit clears. Of
each command the frame says what parts and registers it leaves alone. -/
def Obligations.Link : Prop :=
  (∀ (speed width : Nat) (flit : Bool) (errs : List LinkErr) (s : State), 0 < speed → speed ≤ 6 → 0 < width →
     s.flag Reg.CLK_PLL_STATUS_PCIE_LOCK = true → s.pwr.por = false → s.pwr.perst = false →
     ∃ t, exec (.linkTrained speed width flit errs) s = .next t ∧
       t.get Reg.PCIE_STATUS_RATE = min speed (s.get Reg.PCIE_CFG_MAX_RATE + 3) % 16 ∧ Keeps [.pcie, .hq, .outbox, .fresh]
           (errorRegs ++ [Reg.PCIE_STATUS_WORD, Reg.HQ_STATUS_WORD, Reg.HQ_CQ_STATUS_WORD]) s t) ∧
  (∀ (f : FnIx) (write : Bool) (a : Nat) (s : State), s.hasFn f.val = true → s.barRefuses f.val = false →
     ∃ t, exec (.bar0AccessBadShape f write a) s = .next t ∧ t.flag Reg.CFG_COMMAND_STA f.val = true ∧ Keeps [.outbox, .fresh]
         errorRegs s t) ∧
  (∀ (o len a : Nat) (dmg : Damage) (s : State), s.awake = true → s.barRefuses 0 = false →
     s.flag Reg.CFG_CONT_STATUS_CONTAINED 0 = false → s.bar2Target o = some a → s.saving = false → (s.strike dmg).bufRuns =
         true →
     ∃ t, exec (.bar2Read o len dmg) s = .next t ∧ (∃ data ps rest, t.outbox = .reply data ps :: rest) ∧ Keeps [.gal, .outbox,
         .fresh] (errorRegs ++ galReadRegs ++ [Reg.PCIE_STATUS_WORD, Reg.PCIE_BAR2_MISS, Reg.PCIE_POISON_TX,
         Reg.GAL_INIT_PROGRESS, Reg.GAL_WR_DISCARD]) s t) ∧
  (∀ (o a : Nat) (bytes : List (Option Byte)) (dmg : Damage) (s : State), s.awake = true → s.barRefuses 0 = false →
     s.flag Reg.CFG_CONT_STATUS_CONTAINED 0 = false → s.bar2Target o = some a → s.saving = false → (s.strike dmg).bufRuns =
         true →
     ∃ t, exec (.bar2Write o bytes false dmg) s = .next t ∧ t = (s.strike dmg).hostWriteAt a bytes false ∧ Keeps [.gal,
         .outbox, .fresh] (errorRegs ++ galReadRegs ++ [Reg.PCIE_STATUS_WORD, Reg.PCIE_BAR2_MISS, Reg.PCIE_POISON_TX,
         Reg.PCIE_POISON_RX, Reg.GAL_INIT_PROGRESS, Reg.GAL_WR_DISCARD]) s t) ∧
  (∀ (o : Nat) (bytes : List (Option Byte)) (s : State), s.awake = true → s.barRefuses 0 = false →
     ∃ t, exec (.bar2Write o bytes true []) s = .next t ∧ exec (.poisonedTlpReceived 0 (.bar2Write o bytes)) s = .next t ∧
       Keeps [.gal, .outbox, .fresh] (errorRegs ++ galReadRegs ++ [Reg.PCIE_STATUS_WORD, Reg.PCIE_BAR2_MISS,
           Reg.PCIE_POISON_TX, Reg.PCIE_POISON_RX, Reg.GAL_INIT_PROGRESS, Reg.GAL_WR_DISCARD]) s t) ∧
  (∀ (v : Word) (s : State), s.flag Reg.CFG_COMMAND_MSE 0 = false → 8 ≤ bitsOf v 13 8 → bitsOf v 13 8 ≤ 18 →
     ∃ t, exec (.resizableBarWrite v) s = .next t ∧ t.get Reg.CFG_RBAR_CTL_SIZE = bitsOf v 13 8 ∧ Keeps []
         [Reg.CFG_BAR2_LO_WORD, Reg.CFG_BAR2_HI_WORD, Reg.CFG_RBAR_CTL_WORD] s t) ∧
  (∀ (w : Nat) (s : State), w < 16 → s.xwinOk w = true →
     ∃ t, exec (.xwinEnable w) s = .next t ∧ t.flag Reg.PCIE_XWIN_CTL_EN w = true ∧ Keeps [.outbox] [Reg.PCIE_STATUS_WORD,
         Reg.PCIE_XWIN_CTL_WORD, Reg.MSIX1_PBA, Reg.MSIX0_PBA] s t) ∧
  (∀ (f : FnIx) (v : Nat) (s : State), v < (if f.val = 0 then 2048 else 8) → s.pba f.val v = true →
     s.flag Reg.CFG_MSIX_ENABLE f.val = true → s.flag Reg.CFG_MSIX_FMASK f.val = false → s.vecMasked f.val v = false →
     s.canSend f.val = true →
     ∃ t, exec (.msixPendingSend f v) s = .next t ∧ t.outbox = .msix f.val v :: s.outbox ∧ t.pba f.val v = false ∧
       Keeps [.outbox] [Reg.MSIX1_PBA, Reg.MSIX0_PBA] s t)

/-- PCIe errors, containment and power states. A poisoned configuration write is counted and answered Unsupported Request. A
read that times out is counted; a late completion frees its tag, is counted and raises its event. An uncorrectable internal
datapath error contains function 0 with cause INTERNAL; a corrected one contains nothing. FREEZE is 1 after
CONTAINMENT_FREEZE and 0 after a release with the right FREEZE_SEQ and no cause left. D3hot and D0 show in PMCSR. Bus
Master Enable clears and sets, and without it function 0 sends nothing. CNT_CLR clears the counters. Of each command the
frame says what parts and registers it leaves alone. -/
def Obligations.PcieErrorsAndPower : Prop :=
  (∀ (f : FnIx) (a : Nat) (s : State),
     ∃ t, exec (.poisonedTlpReceived f (.configWrite a)) s = .next t ∧
       t.get Reg.PCIE_POISON_RX = min (s.get Reg.PCIE_POISON_RX + 1) (2 ^ 32 - 1) ∧ t.outbox.head? = some .unsupported ∧
       Keeps [.gal, .pcie, .hq, .outbox, .fresh] (failedReadRegs ++ galReadRegs ++ [Reg.PCIE_BAR2_MISS, Reg.PCIE_POISON_TX,
           Reg.GAL_INIT_PROGRESS, Reg.GAL_WR_DISCARD, Reg.HQ_STATUS_WORD, Reg.HQ_FREEZES, Reg.HQ_SUM_FAIL, Reg.HQ_CQ_HEAD_ERRS,
           Reg.HQ_SQ_STATUS_WORD, Reg.HQ_CQ_STATUS_WORD]) s t) ∧
  (∀ (tag : Nat) (r : ReadTag) (s : State), s.tagRead tag = some r →
     ∃ t, exec (.completionTimeout tag) s = .next t ∧
       t.get Reg.PCIE_CPL_TIMEOUT = min (s.get Reg.PCIE_CPL_TIMEOUT + 1) (2 ^ 32 - 1) ∧ Keeps [.pcie, .hq, .outbox, .fresh]
           (failedReadRegs ++ [Reg.HQ_STATUS_WORD, Reg.HQ_FREEZES, Reg.HQ_SUM_FAIL, Reg.HQ_CQ_HEAD_ERRS, Reg.HQ_SQ_STATUS_WORD,
           Reg.HQ_CQ_STATUS_WORD]) s t) ∧
  (∀ (tag : Nat) (s : State), s.pcie.late.any (fun l => l.1 == tag) = true →
     ∃ t, exec (.lateCompletion tag) s = .next t ∧ t.pcie = { s.pcie with late := s.pcie.late.eraseP (fun l => l.1 == tag) } ∧
       t.get Reg.PCIE_LATE_CPL = min (s.get Reg.PCIE_LATE_CPL + 1) (2 ^ 32 - 1) ∧
       t.flag Reg.PCIE_STATUS_LATE_CPL_EV = true ∧ Keeps [.pcie, .outbox, .fresh] (errorRegs ++ [Reg.PCIE_STATUS_WORD,
           Reg.PCIE_LATE_CPL]) s t) ∧
  (∀ s : State, ∃ t, exec (.internalDatapathError false) s = .next t ∧ t.flag Reg.CFG_CONT_STATUS_CONTAINED 0 = true ∧
     t.flag Reg.CFG_CONT_STATUS_CAUSE_INTERNAL 0 = true ∧ Keeps [.outbox, .fresh] errorRegs s t) ∧
  (∀ s : State, ∃ t, exec (.internalDatapathError true) s = .next t ∧
     t.flag Reg.CFG_CONT_STATUS_CONTAINED 0 = s.flag Reg.CFG_CONT_STATUS_CONTAINED 0 ∧ Keeps [.outbox, .fresh] errorRegs s t) ∧
  (∀ (f : FnIx) (s : State), s.hasFn f.val = true →
     ∃ t, exec (.containmentFreeze f) s = .next t ∧ t.flag Reg.CFG_CONT_CTL_FREEZE f.val = true ∧ Keeps [.outbox]
         [Reg.MSIX1_PBA, Reg.CFG_CONT_CTL_WORD, Reg.CFG_CONT_STATUS_WORD, Reg.CFG_ENTRY_TIME_LO, Reg.CFG_ENTRY_TIME_HI,
         Reg.MSIX0_PBA] s t) ∧
  (∀ (f : FnIx) (v : Word) (s : State), v.getLsbD 16 = true → s.hasFn f.val = true →
     bitsOf v 15 8 = s.get Reg.CFG_CONT_STATUS_FREEZE_SEQ f.val → s.causeStays f.val = false →
     ∃ t, exec (.containmentRelease f v) s = .next t ∧ t.flag Reg.CFG_CONT_CTL_FREEZE f.val = false ∧ Keeps [.pcie, .hq,
         .outbox] [Reg.HQ_STATUS_WORD, Reg.HQ_CQ_STATUS_WORD, Reg.MSIX1_PBA, Reg.CFG_CONT_CTL_WORD, Reg.CFG_CONT_STATUS_WORD,
         Reg.MSIX0_PBA] s t) ∧
  (∀ (f : FnIx) (s : State), s.hasFn f.val = true →
     ∃ t, exec (.d3hotEntry f) s = .next t ∧ t.get Reg.CFG_PMCSR_STATE f.val = 3 ∧ Keeps [.pcie, .hq, .outbox]
         [Reg.HQ_STATUS_WORD, Reg.HQ_CQ_STATUS_WORD, Reg.MSIX1_PBA, Reg.CFG_PMCSR_WORD, Reg.CFG_CONT_STATUS_WORD,
         Reg.MSIX0_PBA] s t) ∧
  (∀ (f : FnIx) (s : State), s.hasFn f.val = true →
     ∃ t, exec (.d0Return f) s = .next t ∧ t.get Reg.CFG_PMCSR_STATE f.val = 0 ∧ Keeps [.pcie, .hq, .outbox]
         [Reg.HQ_STATUS_WORD, Reg.HQ_CQ_STATUS_WORD, Reg.MSIX1_PBA, Reg.CFG_PMCSR_WORD, Reg.CFG_CONT_STATUS_WORD,
         Reg.MSIX0_PBA] s t) ∧
  (∀ (f : FnIx) (s : State), s.hasFn f.val = true →
     ∃ t, exec (.busMasterEnableClear f) s = .next t ∧ t.flag Reg.CFG_COMMAND_BME f.val = false ∧ t.canSend f.val = false ∧
       Keeps [.pcie, .hq, .outbox] [Reg.HQ_STATUS_WORD, Reg.HQ_CQ_STATUS_WORD, Reg.MSIX1_PBA, Reg.CFG_COMMAND_WORD,
           Reg.CFG_CONT_STATUS_WORD, Reg.MSIX0_PBA] s t) ∧
  (∀ (f : FnIx) (s : State), s.hasFn f.val = true →
     ∃ t, exec (.busMasterEnableSet f) s = .next t ∧ t.flag Reg.CFG_COMMAND_BME f.val = true ∧ Keeps [.pcie, .hq, .outbox]
         [Reg.HQ_STATUS_WORD, Reg.HQ_CQ_STATUS_WORD, Reg.MSIX1_PBA, Reg.CFG_COMMAND_WORD, Reg.CFG_CONT_STATUS_WORD,
         Reg.MSIX0_PBA] s t) ∧
  (∀ s : State, ∃ t, exec .pcieCntClr s = .next t ∧ (∀ j < 5, t.rd (Reg.PCIE_CPL_TIMEOUT.base + 4 * j) = 0) ∧ Keeps []
      [Reg.PCIE_CPL_TIMEOUT, Reg.PCIE_LATE_CPL, Reg.PCIE_BAR2_MISS, Reg.PCIE_POISON_TX, Reg.PCIE_POISON_RX] s t)

/-- Rings: scan, doorbells, entry fetch, coalescing, resume. A doorbell scan reads the 64-byte summary. A summary line of zeros
counts an empty scan and sets SCAN_IDLE at 4,000. A doorbell line without running rings does nothing more; a TAIL inside
the ring is taken. WAKE clears SCAN_IDLE. A valid CQ head doorbell is taken. ENTRY_FETCH issues as many entry reads as R199
leaves room for. A good entry becomes an outstanding command. COALESCE_EXPIRY ends coalescing with nothing owed. RESUME
clears FROZEN. CNT_CLR clears the counters. Of each command the frame says what parts and registers it leaves alone. -/
def Obligations.Rings : Prop :=
  (∀ s : State, s.canSend 0 = true → s.flag Reg.HQ_CTL_SCAN_EN = true → s.reading .summary = false → s.hq.sumHeld = none →
     s.saving = false → s.readRoom ≠ 0 → s.hq.cq = [] → s.hq.lineWait = [] →
     ∃ t, exec .doorbellScan s = .next t ∧ t.outbox = .hostRead (s.get64 Reg.HQ_SUM_ADDR) 64 :: s.outbox ∧
       t.reading .summary = true ∧ Keeps [.pcie, .hq, .outbox] [] s t) ∧
  (∀ (line : List Byte) (s : State), s.reading .summary = true → s.canSend 0 = true → (∀ j < 64, line.getD j 0 = 0) →
     ∃ t, exec (.summaryLineReceived (.data line)) s = .next t ∧ t.hq.sumFails = 0 ∧ t.hq.emptyScans = s.hq.emptyScans + 1 ∧
       t.flag Reg.HQ_STATUS_SCAN_IDLE = (s.flag Reg.HQ_STATUS_SCAN_IDLE || decide (4000 ≤ s.hq.emptyScans + 1)) ∧
       Keeps [.pcie, .hq, .outbox, .fresh] (failedReadRegs ++ [Reg.HQ_STATUS_WORD, Reg.HQ_FREEZES, Reg.HQ_SUM_FAIL,
           Reg.HQ_SQ_STATUS_WORD, Reg.HQ_CQ_STATUS_WORD]) s t) ∧
  (∀ (j : Fin 64) (b : List Byte) (s : State), s.reading (.line j.val) = true → s.lineRings j.val = [] →
     ∃ t, exec (.doorbellLineReceived j (.data b)) s = .next t ∧ t = s.endRead (.line j.val) ∧ Keeps [.pcie, .hq, .outbox,
         .fresh] (failedReadRegs ++ [Reg.HQ_FREEZES, Reg.HQ_SQ_STATUS_WORD, Reg.HQ_CQ_STATUS_WORD]) s t) ∧
  (∀ (j : Fin 64) (n : Nat) (b : List Byte) (s : State), s.reading (.line j.val) = true → s.lineRings j.val = [n] →
     fieldAt b (4 * (n % 16)) 4 < s.sqDepth n →
     ∃ t, exec (.doorbellLineReceived j (.data b)) s = .next t ∧ (t.sq n).tail = fieldAt b (4 * (n % 16)) 4 ∧ Keeps [.pcie,
         .hq, .outbox, .fresh] (failedReadRegs ++ [Reg.HQ_FREEZES, Reg.HQ_SQ_STATUS_WORD, Reg.HQ_CQ_STATUS_WORD]) s t) ∧
  (∀ (v : Word) (s : State), s.flag Reg.HQ_CTL_SCAN_EN = true →
     ∃ t, exec (.hqWake v) s = .next t ∧ t.flag Reg.HQ_STATUS_SCAN_IDLE = false ∧ Keeps [.pcie, .hq, .outbox]
         [Reg.HQ_STATUS_WORD] s t) ∧
  (∀ (c : RingIx) (b : List Byte) (s : State), s.reading (.head c.val) = true → fieldAt b 0 4 < s.cqDepth c.val →
     (fieldAt b 0 4 + s.cqDepth c.val - (s.cq c.val).head) % s.cqDepth c.val ≤
       (s.get Reg.HQ_CQ_STATUS_TAIL c.val + s.cqDepth c.val - (s.cq c.val).head) % s.cqDepth c.val →
     (s.cq c.val).held = [] →
     ∃ t, exec (.cqHeadDoorbellReceived c (.data b)) s = .next t ∧ (t.cq c.val).head = fieldAt b 0 4 ∧ Keeps [.pcie, .hq,
         .outbox, .fresh] (failedReadRegs ++ [Reg.HQ_STATUS_WORD, Reg.HQ_CQ_HEAD_ERRS, Reg.HQ_CQ_STATUS_WORD]) s t) ∧
  (∀ s : State, s.canSend 0 = true → s.fetches 0 = true → 0 < s.unfetched 0 →
     ∃ t, exec .submissionEntryFetch s = .next t ∧ t.pcie.reads.length = s.pcie.reads.length + min s.readRoom (s.unfetched 0) ∧
       Keeps [.pcie, .hq, .outbox] [] s t) ∧
  (∀ (n : RingIx) (slot : Nat) (b : List Byte) (c : Cmd) (s : State), s.reading (.stale n.val slot) = false →
     s.reading (.entry n.val slot) = true → slot = s.get Reg.HQ_SQ_STATUS_HEAD n.val → s.saving = false → s.hq.stopped = false →
     c = { tag := s.hq.nextTag, sq := n.val, cid := fieldAt b 2 2, epoch := (s.sq n.val).wraps % 16, entry := b } →
     s.entryStatus c = none → c.op ≠ 3 →
     ∃ t, exec (.submissionEntryReceived n slot (.data b)) s = .next t ∧
       t.hq.cmds = s.hq.cmds ++ [c] ∧ Keeps [.pcie, .hq, .mag, .mot, .outbox, .fresh] (failedReadRegs ++ [Reg.HQ_COMMANDS_LO,
           Reg.HQ_COMMANDS_HI, Reg.HQ_FREEZES, Reg.HQ_SQ_STATUS_WORD, Reg.HQ_CQ_STATUS_WORD]) s t) ∧
  (∀ (c : RingIx) (s : State), (s.cq c.val).coalescing = true →
     ∃ t, exec (.cqCoalesceExpiry c) s = .next t ∧ t.cq c.val = { s.cq c.val with coalescing := false, owed := false } ∧ Keeps
         [.hq, .outbox] [Reg.MSIX1_PBA, Reg.MSIX0_PBA] s t) ∧
  (∀ (n : RingIx) (b : Bool) (s : State), s.flag Reg.HQ_SQ_STATUS_FROZEN n.val = true →
     ∃ t, exec (.sqResume n b) s = .next t ∧ t.flag Reg.HQ_SQ_STATUS_FROZEN n.val = false ∧ Keeps [.pcie, .hq, .outbox]
         [Reg.HQ_SQ_STATUS_WORD] s t) ∧
  (∀ s : State, ∃ t, exec .hqCntClr s = .next t ∧ t.get64 Reg.HQ_COMMANDS = 0 ∧ t.get Reg.HQ_FREEZES = 0 ∧ t.get
      Reg.HQ_SUM_FAIL = 0 ∧
     t.get Reg.HQ_CQ_HEAD_ERRS = 0 ∧ Keeps [] [Reg.HQ_COMMANDS_LO, Reg.HQ_COMMANDS_HI, Reg.HQ_FREEZES, Reg.HQ_SUM_FAIL,
         Reg.HQ_CQ_HEAD_ERRS] s t)

/-- Administration commands complete. LOG_READ, FEATURE_GET, FEATURE_SET, RING_RESUME of a frozen ring, RING_DELETE of an IDLE
ring and ABORT of a command that is not there complete without an error-log entry; RING_CREATE of an IDLE ring puts it in
CREATING. Of each command the frame says what parts and registers it leaves alone. -/
def Obligations.Administration : Prop :=
  (∀ (c : Nat) (k : Cmd) (s : State), Ready s c 0x41 k → k.fld 0x18 1 = 1 ∨ k.fld 0x18 1 = 2 →
     ∃ t, exec (.logRead c) s = .next t ∧ Done s t c ∧ Keeps [.pcie, .hq, .mot, .sec, .outbox] (finishRegs ++
         [Reg.PCIE_POISON_TX]) s t) ∧
  (∀ (c : Nat) (k : Cmd) (s : State), Ready s c 0x42 k →
     k.fld 0x18 2 = 1 ∨ k.fld 0x18 2 = 2 ∧ s.mounted = true ∨ k.fld 0x18 2 = 3 →
     ∃ t, exec (.featureGet c) s = .next t ∧ Done s t c ∧ Keeps [.pcie, .hq, .mot, .sec, .outbox] finishRegs s t) ∧
  (∀ (c : Nat) (k : Cmd) (s : State), Ready s c 0x43 k → k.fld 0x18 2 = 1 → k.fld 0x20 8 ≤ 1 →
     ∃ t, exec (.featureSet c) s = .next t ∧ Done s t c ∧ Keeps [.pcie, .hq, .mot, .sec, .outbox] finishRegs s t) ∧
  (∀ (c : Nat) (k : Cmd) (s : State), Ready s c 0x44 k → k.begun = false → k.fld 0x18 1 = 0 → k.fld 0x1A 2 < 1024 →
     k.fld 0x2C 2 < 1024 → s.get Reg.HQ_SQ_STATUS_STATE (k.fld 0x1A 2) = 0 → s.get Reg.HQ_CQ_STATUS_STATE (k.fld 0x2C 2) = 2 →
     ∃ t, exec (.ringCreate c) s = .next t ∧ t.get Reg.HQ_SQ_STATUS_STATE (k.fld 0x1A 2) = 1 ∧
       (t.sq (k.fld 0x1A 2)).creating = [c] ∧ Keeps [.cap, .pair, .pcie, .hq, .och, .mot, .sec, .efc, .outbox] (finishRegs ++
           [Reg.HQ_STATUS_WORD, Reg.HQ_SQ_BASE_LO, Reg.HQ_SQ_BASE_HI, Reg.HQ_SQ_CTL_WORD, Reg.HQ_CQ_BASE_LO, Reg.HQ_CQ_BASE_HI,
           Reg.HQ_CQ_CTL_WORD, Reg.OCH_STATUS_WORD, Reg.OCH_PROOF_FAIL, Reg.EFC_PROGRAMS, Reg.EFC_ERASES]) s t) ∧
  (∀ (c : Nat) (k : Cmd) (s : State), Ready s c 0x45 k → k.begun = false → k.fld 0x18 1 = 0 →
     s.get Reg.HQ_SQ_STATUS_STATE (k.fld 0x1A 2) = 0 →
     ∃ t, exec (.ringDelete c) s = .next t ∧ Done s t c ∧ Keeps [.cap, .pair, .pcie, .hq, .och, .mot, .sec, .efc, .outbox]
         (finishRegs ++ [Reg.HQ_STATUS_WORD, Reg.HQ_SQ_CTL_WORD, Reg.HQ_CQ_CTL_WORD, Reg.OCH_STATUS_WORD, Reg.OCH_PROOF_FAIL,
         Reg.EFC_PROGRAMS, Reg.EFC_ERASES]) s t) ∧
  (∀ (c : Nat) (k : Cmd) (s : State), Ready s c 0x46 k → k.fld 0x1A 2 < 1024 → s.flag Reg.HQ_SQ_STATUS_FROZEN (k.fld 0x1A 2) =
      true →
     ∃ t, exec (.ringResume c) s = .next t ∧ Done s t c ∧ Keeps [.pcie, .hq, .mot, .sec, .outbox] finishRegs s t) ∧
  (∀ (c : Nat) (k : Cmd) (s : State), Ready s c 0x40 k → s.hq.aborts = [] → k.begun = false → s.canSend 0 = false →
     s.fetchesOf (k.fld 0x18 2) = 0 → s.unfetched (k.fld 0x18 2) = 0 →
     (∀ d ∈ s.hq.cmds, d.tag ≠ c → (d.sq == k.fld 0x18 2 && d.cid == k.fld 0x1A 2 && d.epoch == k.fld 0x1C 1) = false) →
     ∃ t, exec (.abort c) s = .next t ∧ Done s t c ∧ Keeps [.cap, .pair, .pcie, .hq, .och, .mot, .sec, .efc, .outbox]
         (finishRegs ++ [Reg.OCH_STATUS_WORD, Reg.OCH_PROOF_FAIL, Reg.EFC_PROGRAMS, Reg.EFC_ERASES]) s t)

/-- WRITE, DISCARD, ATOMIC_WRITE, READ and FLUSH complete. On a mounted magazine, with fields in range, the write cache on, no
FUA and room in the buffer, WRITE, DISCARD and ATOMIC_WRITE complete without an error; a READ that meets no poison and a
FLUSH with no unit left to wait for complete without an error. Of each command the frame says what parts and registers it
leaves alone. -/
def Obligations.BlockCommands : Prop :=
  (∀ (c : Nat) (k : Cmd) (d : List Byte) (ecc : NandEcc) (s u : State), Ready s c 0x01 k → u = s.setCmd { k with begun := true
      } →
     u.magRefuse k true = none → k.ioBlocks * max 1 u.mag.lbs ≠ 0 → k.dataLen = k.ioBlocks * max 1 u.mag.lbs →
     k.ioLba + k.ioBlocks ≤ u.lbaCount → k.pastAbort = false → u.mapWait k = false → u.bufRuns = true → k.progress = 0 →
     k.fua = false → u.writeThrough = false →
     (u.enter (some d) ecc k.tag 0 (piecesOf (k.ioLba * max 1 u.mag.lbs) k.dataLen)).1 = k.dataLen →
     ∃ t, exec (.write c (.data d) ecc) s = .next t ∧ Done s t c ∧ Keeps [.gal, .pcie, .hq, .mag, .mot, .sec, .outbox, .fresh]
         (failedReadRegs ++ galReadRegs ++ finishRegs ++ [Reg.GAL_INIT_PROGRESS, Reg.MAG_STATUS_WORD, Reg.MAG_UE]) s t) ∧
  (∀ (c : Nat) (k : Cmd) (ecc : NandEcc) (s u : State), Ready s c 0x04 k → u = s.setCmd { k with begun := true } →
     u.magRefuse k true = none → k.ioBlocks * max 1 u.mag.lbs ≠ 0 → k.ioLba + k.ioBlocks ≤ u.lbaCount → k.pastAbort = false →
     u.mapWait k = false → u.bufRuns = true → k.progress = 0 → k.fua = false → u.writeThrough = false →
     (u.enter none ecc k.tag 0 (piecesOf (k.ioLba * max 1 u.mag.lbs) (k.ioBlocks * max 1 u.mag.lbs))).1 = k.ioBlocks * max 1
         u.mag.lbs →
     ∃ t, exec (.discard c ecc) s = .next t ∧ Done s t c ∧ Keeps [.gal, .pcie, .hq, .mag, .mot, .sec, .outbox, .fresh]
         (failedReadRegs ++ galReadRegs ++ finishRegs ++ [Reg.GAL_INIT_PROGRESS, Reg.MAG_STATUS_WORD, Reg.MAG_UE]) s t) ∧
  (∀ (c : Nat) (k : Cmd) (d : List Byte) (ecc : NandEcc) (n : Nat) (s u : State), Ready s c 0x05 k → u = s.setCmd { k with
      begun := true } →
     n = k.ioBlocks * max 1 u.mag.lbs → u.magRefuse k true = none → n ≠ 0 → k.dataLen = n → n ≤ 2 ^ 20 →
     k.ioLba * max 1 u.mag.lbs / 2 ^ 20 = (k.ioLba * max 1 u.mag.lbs + n - 1) / 2 ^ 20 → k.ioLba + k.ioBlocks ≤ u.lbaCount →
     k.pastAbort = false → u.mapWait k = false → u.bufRuns = true → (∀ j ≤ (piecesOf (k.ioLba * max 1 u.mag.lbs) n).length,
         u.bufRoom j = true) → k.fua = false → u.writeThrough = false →
     ∃ t, exec (.atomicWrite c (.data d) ecc) s = .next t ∧ Done s t c ∧ Keeps [.gal, .pcie, .hq, .mag, .mot, .sec, .outbox,
         .fresh] (failedReadRegs ++ galReadRegs ++ finishRegs ++ [Reg.GAL_INIT_PROGRESS, Reg.MAG_STATUS_WORD, Reg.MAG_UE]) s t)
         ∧
  (∀ (c : Nat) (k : Cmd) (ecc : NandEcc) (s u : State), Ready s c 0x02 k → u = s.setCmd { k with begun := true } →
     u.magRefuse k false = none → k.ioBlocks ≠ 0 → k.dataLen = k.ioBlocks * max 1 u.mag.lbs → k.ioLba + k.ioBlocks ≤ u.lbaCount
         →
     u.mapWait k = false → u.bufRuns = true → (u.readRange (k.ioLba * max 1 u.mag.lbs) (k.ioBlocks * max 1 u.mag.lbs) ecc).2.1
         = [] →
     ∃ t, exec (.read c ecc) s = .next t ∧ Done s t c ∧ Keeps [.pcie, .hq, .mag, .mot, .sec, .outbox, .fresh] (galReadRegs ++
         finishRegs ++ [Reg.PCIE_POISON_TX, Reg.MAG_STATUS_WORD, Reg.MAG_UE]) s t) ∧
  (∀ (c : Nat) (k : Cmd) (s u : State), Ready s c 0x03 k → u = s.setCmd { k with begun := true } → u.magRefuse k false = none →
     s.flushDone c = true →
     ∃ t, exec (.flush c) s = .next t ∧ Done s t c ∧ Keeps [.pcie, .hq, .mot, .sec, .outbox] finishRegs s t)

/-- EXPORT_TAKE, GALLEY_READ and EGRESS_PLAY do their work. An EXPORT_TAKE of a CLOSED take without a key makes one step of the
export; a GALLEY_READ of stored formes without an uncorrectable line completes without an error; an EGRESS_PLAY of one
forme on a port with TX_SRC EGRESS completes once its last unit is sent. Of each command the frame says what parts and
registers it leaves alone. -/
def Obligations.GalleyCommands : Prop :=
  (∀ (c : Nat) (k : Cmd) (dmg : Damage) (puns : Puns) (ecc : NandEcc) (s u : State), Ready s c 0x13 k →
     u = s.setCmd { k with begun := true } → u.takeNamed k = true → u.takeState (k.fld 0x18 1) = 5 → u.magRefuse k true = none →
     k.keySlot = 0xFFFF → u.drainsRun = true → u.mayProgram = true →
     ∃ t, exec (.exportTake c dmg puns ecc) s = .next t ∧ t = (u.strike dmg).exportStep k puns ecc ∧ Keeps [.cap, .gal, .pcie,
         .hq, .mag, .map, .mot, .sec, .outbox, .fresh] (moveRegs ++ finishRegs ++ [Reg.MAG_HOST_WR_LO, Reg.MAG_HOST_WR_HI]) s
         t) ∧
  (∀ (c : Nat) (k : Cmd) (dmg : Damage) (s u : State), Ready s c 0x14 k → u = s.setCmd { k with begun := true } → u.takeNamed k
      = true →
     u.drainsRun = true → ((u.strike dmg).readFormes (k.fld 0x18 1) k.dataLen (u.formesNamed k)).1 ≠ 0 →
     ((u.strike dmg).readFormes (k.fld 0x18 1) k.dataLen (u.formesNamed k)).2.2.2.1 = none →
     ∃ t, exec (.galleyRead c dmg) s = .next t ∧ Done s t c ∧ Keeps [.gal, .pcie, .hq, .mot, .sec, .outbox] (galReadRegs ++
         finishRegs ++ [Reg.PCIE_POISON_TX]) s t) ∧
  (∀ (c : Nat) (k : Cmd) (dmg : Damage) (x : Span) (s u : State), Ready s c 0x15 k → u = s.setCmd { k with begun := true } →
     (k.unit = 0 → k.caught = none) → u.playWaits k = false → u.takeNamed k = true → k.fld 0x1C 1 ≤ 31 →
     u.get Reg.LANE_PORT_CTL_TX_SRC (k.fld 0x1C 1) = 1 → u.drainsRun = true → (k.unit = 0 → u.txWaits (k.fld 0x1C 1) = false) →
     (u.formesNamed k).filter (fun x => decide (k.detail ≤ x.frame)) = [x] → k.fld 0x1D 1 = 0 →
     x.bytes ≤ 56 * ((if x.frame = k.detail then k.unit else 0) + 8) →
     ∃ t, exec (.egressPlay c dmg) s = .next t ∧ t.cmd c = none ∧ Keeps [.lanes, .gal, .pcie, .hq, .srv, .mot, .sec, .outbox]
         (galReadRegs ++ finishRegs ++ [Reg.LANE_PORT_STATUS_WORD, Reg.LANE_L_STATUS_WORD, Reg.SRV_COIL_STATUS_WORD]) s t)

/-- Archive commands do their work. A DISC_LOAD or DISC_EJECT whose exchange has no action left completes without an error; a
DISC_LOAD that finds the mechanism free starts the exchange. An ARCHIVE_WRITE whose folios are all written and verified,
and a SEAL_IMAGO whose directory has 4 good copies, complete without an error. ARCHIVE_READ and ARCHIVE_VERIFY take one
folio at a time and complete after the last. Of each command the frame says what parts and registers it leaves alone. -/
def Obligations.ArchiveCommands : Prop :=
  (∀ (c : Nat) (k : Cmd) (x : Exchange) (d : Disc) (s : State), Ready s c 0x20 k → s.mot.exchange = some x → x.cmd = some c →
      x.acts = [] →
     s.och.disc = some d → d.wedgesGood = true →
     ∃ t, exec (.discLoad c) s = .next t ∧ Done s t c ∧ Keeps [.pcie, .hq, .och, .srv, .mot, .sec, .efc, .pwr, .outbox, .fresh]
         (finishRegs ++ axisRegs ++ [Reg.OCH_LASER_DRIVE_WORD, Reg.SRV_LOOP_STATUS_WORD, Reg.SRV_COIL_STATUS_WORD,
         Reg.MOT_SPN_STATUS_WORD, Reg.MOT_SPN_TARGET_WORD, Reg.EFC_PROGRAMS, Reg.EFC_ERASES]) s t) ∧
  (∀ (c : Nat) (k : Cmd) (s : State), Ready s c 0x20 k → s.mot.exchange = none → s.mot.noSlot = false → s.mot.cartPresent =
      true →
     s.och.job = none → s.och.reading = none → s.mot.clamped = false →
     ∃ t, exec (.discLoad c) s = .next t ∧
       t.mot.exchange = some { cmd := some c, load := true, slot := k.fld 0x18 1, acts := loadActs (k.fld 0x18 1), issued :=
           false } ∧
       Keeps [.pcie, .hq, .och, .srv, .mot, .sec, .efc, .pwr, .outbox, .fresh] (finishRegs ++ axisRegs ++
           [Reg.OCH_LASER_DRIVE_WORD, Reg.SRV_LOOP_STATUS_WORD, Reg.SRV_COIL_STATUS_WORD, Reg.MOT_SPN_STATUS_WORD,
           Reg.MOT_SPN_TARGET_WORD, Reg.EFC_PROGRAMS, Reg.EFC_ERASES]) s t) ∧
  (∀ (c : Nat) (k : Cmd) (x : Exchange) (s : State), Ready s c 0x21 k → s.mot.exchange = some x → x.cmd = some c → x.acts = [] →
     ∃ t, exec (.discEject c) s = .next t ∧ Done s t c ∧ Keeps [.pcie, .hq, .och, .srv, .mot, .sec, .efc, .pwr, .outbox]
         (finishRegs ++ axisRegs ++ [Reg.OCH_LASER_DRIVE_WORD, Reg.SRV_LOOP_STATUS_WORD, Reg.SRV_COIL_STATUS_WORD,
         Reg.MOT_SPN_STATUS_WORD, Reg.MOT_SPN_TARGET_WORD, Reg.EFC_PROGRAMS, Reg.EFC_ERASES]) s t) ∧
  (∀ (c : Nat) (k : Cmd) (ecc : NandEcc) (opc : List (List Bool)) (pass : FolioPass) (d : Disc) (j : ArchiveJob) (s u : State),
     Ready s c 0x22 k → u = s.setCmd { k with begun := true } → u.ochRefuse k = none → u.magRefuse k false = none →
     u.och.known = true → u.och.disc = some d → u.och.job = some j → j.cmd = c → j.info = none → j.readBack = [] →
     j.endLfn ≤ j.nextLfn → u.och.relocQ = [] → u.och.flight = [] →
     ∃ t, exec (.archiveWrite c ecc opc pass) s = .next t ∧ Done s t c ∧ Keeps [.gal, .pcie, .hq, .mag, .och, .mot, .sec, .col,
         .outbox, .fresh] (galReadRegs ++ finishRegs ++ [Reg.CAP_DEVTIME_LO, Reg.CAP_DEVTIME_HI, Reg.GAL_THROTTLE_LO,
         Reg.GAL_THROTTLE_HI, Reg.MAG_STATUS_WORD, Reg.MAG_UE, Reg.OCH_STATUS_WORD, Reg.OCH_PROOF_FAIL, Reg.OCH_OPC_RUNS,
         Reg.OCH_SPARES_FREE, Reg.OCH_LASER_PWR_WORD, Reg.COL_TIME_LO, Reg.COL_TIME_HI]) s t) ∧
  (∀ (c : Nat) (k k1 : Cmd) (pass : FolioPass) (s u v : State), Ready s c 0x23 k → u = s.setCmd { k with begun := true } →
     u.ochRefuse k = none → k.dataLen = 65536 * k.blocks → k.blocks ≠ 0 → k.lba + k.blocks ≤ discFolios → u.och.job = none →
     u.hq.cmds.any (fun d => (d.op == 0x23 || d.op == 0x25) && d.begun && decide (d.tag < c)) = false → k.caught = none →
     v = u.readFolio k (k.lba + k.progress) pass → v.cmd c = some k1 →
     ∃ t, exec (.archiveRead c pass) s = .next t ∧ (k1.progress < k.blocks → t = v) ∧ (k.blocks ≤ k1.progress → t.cmd c = none)
         ∧
       Keeps [.pcie, .hq, .och, .mot, .sec, .outbox, .fresh] (finishRegs ++ [Reg.PCIE_POISON_TX, Reg.OCH_STATUS_WORD,
           Reg.OCH_READ_UE, Reg.OCH_BLANK_READ, Reg.OCH_RD_FLAGGED, Reg.OCH_RD_ROW_CE, Reg.OCH_RD_ROW_UE]) s t) ∧
  (∀ (c : Nat) (k : Cmd) (d : Disc) (j : ArchiveJob) (dir : List Byte) (s u : State), Ready s c 0x24 k →
     u = s.setCmd { k with begun := true } → u.ochRefuse k = none → u.och.known = true → u.och.disc = some d → u.och.job = some
         j →
     j.cmd = c → j.info = none → j.readBack = [] → j.endLfn ≤ j.nextLfn → u.och.relocQ = [] → u.och.flight = [] → j.dir = some
         dir →
     j.dirSlot ≠ none → 4 ≤ j.dirGood →
     ∃ t, exec (.sealImago c) s = .next t ∧ Done s t c ∧ Keeps [.gal, .pcie, .hq, .mag, .och, .mot, .sec, .col, .outbox,
         .fresh] (galReadRegs ++ finishRegs ++ [Reg.CAP_DEVTIME_LO, Reg.CAP_DEVTIME_HI, Reg.GAL_THROTTLE_LO,
         Reg.GAL_THROTTLE_HI, Reg.MAG_STATUS_WORD, Reg.MAG_UE, Reg.OCH_STATUS_WORD, Reg.OCH_PROOF_FAIL, Reg.OCH_OPC_RUNS,
         Reg.OCH_SPARES_FREE, Reg.OCH_LASER_PWR_WORD, Reg.COL_TIME_LO, Reg.COL_TIME_HI]) s t) ∧
  (∀ (c : Nat) (k k1 : Cmd) (pass : FolioPass) (d : Disc) (w : List Byte) (s u v : State), Ready s c 0x25 k →
     u = s.setCmd { k with begun := true } → u.ochRefuse k = none → u.och.job = none →
     u.hq.cmds.any (fun d => (d.op == 0x23 || d.op == 0x25) && d.begun && decide (d.tag < c)) = false → u.och.disc = some d →
     imagoEntry d (k.fld 0x18 2) = some w → k.begun = true → k.caught = none → k.progress < fieldAt w 0x1C 4 - fieldAt w 8 4 →
     v = u.readFolio k (fieldAt w 8 4 + k.progress) pass → v.cmd c = some k1 →
     ∃ t, exec (.archiveVerify c pass) s = .next t ∧ (k1.progress < fieldAt w 0x1C 4 - fieldAt w 8 4 → t = v) ∧
       (fieldAt w 0x1C 4 - fieldAt w 8 4 ≤ k1.progress → t.cmd c = none) ∧ Keeps [.pcie, .hq, .och, .mot, .sec, .outbox,
           .fresh] (finishRegs ++ [Reg.PCIE_POISON_TX, Reg.OCH_STATUS_WORD, Reg.OCH_READ_UE, Reg.OCH_BLANK_READ,
           Reg.OCH_RD_FLAGGED, Reg.OCH_RD_ROW_CE, Reg.OCH_RD_ROW_UE]) s t)

/-- Security commands complete. KEY_LOAD of a good unwrapped blob, KEY_CLEAR of a slot without bound copies, CIPHER and MAC
with a bound key and whole blocks, ATTEST with room for the report and CERT_READ with room for the certificate complete
without an error. Of each command the frame says what parts and registers it leaves alone. -/
def Obligations.SecurityCommands : Prop :=
  (∀ (c : Nat) (k : Cmd) (b : List Byte) (s : State), Ready s c 0x30 k → k.keySlot < 248 → k.fld 0x1A 2 = 0xFFFF →
     k.fld 0x18 2 = 128 ∨ k.fld 0x18 2 = 192 ∨ k.fld 0x18 2 = 256 → k.dataLen = 48 → blobOk b (k.fld 0x18 2) k.keySlot = true →
     useOk (fieldAt b 8 1) (s.flag Reg.SEC_POLICY_COMPAT_OK) = true → s.flag Reg.SEC_POLICY_PLAIN_OK = true →
     (((b.drop 16).take 32).drop (k.fld 0x18 2 / 8)).any (· != 0) = false →
     ∃ t, exec (.keyLoad c (.data b)) s = .next t ∧ Done s t c ∧ Keeps [.pcie, .hq, .mot, .sec, .outbox, .fresh]
         (failedReadRegs ++ finishRegs ++ [Reg.SEC_STATUS_WORD, Reg.SEC_KEY_LOADS, Reg.SEC_UNWRAP_FAIL]) s t) ∧
  (∀ (c : Nat) (k : Cmd) (s : State), Ready s c 0x31 k → s.sec.clears.any (fun e => e.1 == c) = false → k.keySlot < 248 →
     (∀ v, s.keySlot k.keySlot = some v → s.sec.bound.any (fun b => b.serial == v.serial) = false) →
     ∃ t, exec (.keyClear c) s = .next t ∧ Done s t c ∧ Keeps [.pcie, .hq, .mot, .sec, .outbox] finishRegs s t) ∧
  (∀ (c : Nat) (k : Cmd) (b key : List Byte) (s : State), Ready s c 0x32 k → k.list = false →
     badOverlap k.dataAddr (k.fld 0x30 8) k.dataLen = false → k.dataLen % 16 = 0 → k.dataLen ≠ 0 → s.boundKey c = some key →
     s.aesBusy c = false →
     ∃ t, exec (.cipher c (.data b)) s = .next t ∧ Done s t c ∧ Keeps [.pcie, .hq, .mot, .sec, .outbox, .fresh] (failedReadRegs
         ++ finishRegs) s t) ∧
  (∀ (c : Nat) (k : Cmd) (b key : List Byte) (s : State), Ready s c 0x33 k → k.dataLen % 16 = 0 → k.dataLen ≠ 0 →
     s.boundKey c = some key → s.aesBusy c = false →
     ∃ t, exec (.mac c (.data b)) s = .next t ∧ Done s t c ∧ Keeps [.pcie, .hq, .mot, .sec, .outbox, .fresh] (failedReadRegs ++
         finishRegs) s t) ∧
  (∀ (c : Nat) (k : Cmd) (s : State), Ready s c 0x34 k → 416 ≤ k.dataLen →
     ∃ t, exec (.attest c) s = .next t ∧ Done s t c ∧ Keeps [.pcie, .hq, .mot, .sec, .outbox, .fresh] (finishRegs ++
         [Reg.PCIE_POISON_TX]) s t) ∧
  (∀ (c : Nat) (k : Cmd) (s : State), Ready s c 0x49 k → ((Config.cert (k.fld 0x18 1)).take 2048).length ≤ k.dataLen →
     ∃ t, exec (.certRead c) s = .next t ∧ Done s t c ∧ Keeps [.pcie, .hq, .mot, .sec, .outbox] (finishRegs ++
         [Reg.PCIE_POISON_TX]) s t)

/-- Engines and the TRNG. An idle engine that passed its self-test takes the piece that is next by class; when the piece is
done its blocks are counted and BUSY is 0. A failing TRNG window sets RETRY, counts and raises TRNG_EV; the third in a row
sets FAILED. CNT_CLR clears the counters. Of each command the frame says what parts and registers it leaves alone. -/
def Obligations.SecurityEngines : Prop :=
  (∀ (n : Fin 16) (p : Piece) (s : State), s.flag Reg.SEC_ENG_STATUS_OK n.val = true → s.flag Reg.SEC_ENG_STATUS_BUSY n.val =
      false →
     s.get Reg.SEC_STATUS_STATE = 2 → s.coreRuns 4 = true → s.nextPiece n.val = some p →
     ∃ t, exec (.enginePieceDispatch n) s = .next t ∧ t.sec.engines.lookup n.val = some p ∧
       t.flag Reg.SEC_ENG_STATUS_BUSY n.val = true ∧ Keeps [.sec] [Reg.SEC_ENG_STATUS_WORD] s t) ∧
  (∀ (n : Fin 16) (p : Piece) (s : State), s.sec.engines.lookup n.val = some p →
     ∃ t, exec (.enginePieceComplete n) s = .next t ∧ t.flag Reg.SEC_ENG_STATUS_BUSY n.val = false ∧
       t.get64 Reg.SEC_BLOCKS = min (s.get64 Reg.SEC_BLOCKS + p.blocks) (2 ^ 64 - 1) ∧ Keeps [.sec] [Reg.SEC_BLOCKS_LO,
           Reg.SEC_BLOCKS_HI, Reg.SEC_ENG_STATUS_WORD] s t) ∧
  (∀ s : State, ∃ t, exec (.trngWindowFail false) s = .next t ∧ t.get Reg.SEC_TRNG_TSTATE = 2 ∧
     t.get Reg.SEC_TRNG_FAIL = min (s.get Reg.SEC_TRNG_FAIL + 1) (2 ^ 32 - 1) ∧ t.flag Reg.SEC_STATUS_TRNG_EV = true ∧
     Keeps [.pcie, .hq, .och, .srv, .mot, .sec, .efc, .pwr, .outbox] (failRegs ++ [Reg.SEC_TRNG_WORD, Reg.SEC_TRNG_FAIL]) s t) ∧
  (∀ s : State, 2 ≤ s.sec.trngFails → ∃ t, exec (.trngWindowFail true) s = .next t ∧ t.get Reg.SEC_TRNG_TSTATE = 3 ∧ Keeps
      [.pcie, .hq, .och, .srv, .mot, .sec, .efc, .pwr, .outbox] (failRegs ++ [Reg.SEC_TRNG_WORD, Reg.SEC_TRNG_FAIL]) s t) ∧
  (∀ s : State, ∃ t, exec .secCntClr s = .next t ∧ t.get64 Reg.SEC_BLOCKS = 0 ∧ t.get Reg.SEC_KEY_LOADS = 0 ∧
     t.get Reg.SEC_UNWRAP_FAIL = 0 ∧ t.get Reg.SEC_TRNG_FAIL = 0 ∧ Keeps [] [Reg.SEC_BLOCKS_LO, Reg.SEC_BLOCKS_HI,
         Reg.SEC_KEY_LOADS, Reg.SEC_UNWRAP_FAIL, Reg.SEC_TRNG_FAIL] s t)

/-- SANITIZE and FORMAT. SANITIZE and FORMAT start an operation with PROGRESS 0 and STATE RUNNING; the command of the last
phase completes; SANITIZE_RESUME makes one step of an operation that a power loss cut. Of each command the frame says what
parts and registers it leaves alone. -/
def Obligations.Sanitize : Prop :=
  (∀ (c : Nat) (k : Cmd) (s u : State), Ready s c 0x47 k → u = s.setCmd { k with begun := true } → u.mag.sanitize = none →
     u.sanitizing c = false → u.hq.cmds.any (fun d => usesMag d.op && decide (d.tag < c)) = false → u.sanitizable = true →
     ∃ t, exec (.sanitize c) s = .next t ∧
       t.mag.sanitize = some { kind := k.fld 0x18 1, lbs := 0, galley := k.fld 0x19 1 == 1, cmd := some c } ∧
       t.get Reg.HQ_SANITIZE_STATE = 1 ∧ t.get Reg.HQ_SANITIZE_PROGRESS = 0 ∧ Keeps [.gal, .pcie, .hq, .mag, .map, .mot, .sec,
           .efc, .outbox, .fresh] sanitizeRegs s t) ∧
  (∀ (c : Nat) (k : Cmd) (s u : State), Ready s c 0x48 k → u = s.setCmd { k with begun := true } → u.mag.sanitize = none →
     u.sanitizing c = false → u.hq.cmds.any (fun d => usesMag d.op && decide (d.tag < c)) = false → u.sanitizable = true →
     ∃ t, exec (.format c) s = .next t ∧
       t.mag.sanitize = some { kind := 3, lbs := if k.fld 0x18 1 = 1 then 16384 else 4096, galley := false, cmd := some c } ∧
       t.get Reg.HQ_SANITIZE_STATE = 1 ∧ t.get Reg.HQ_SANITIZE_PROGRESS = 0 ∧ Keeps [.gal, .pcie, .hq, .mag, .map, .mot, .sec,
           .efc, .outbox, .fresh] sanitizeRegs s t) ∧
  (∀ (c : Nat) (k : Cmd) (j : SanitizeJob) (s u : State), Ready s c 0x47 k → u = s.setCmd { k with begun := true } →
     u.mag.sanitize = some j → j.cmd = some c → u.mayProgram = true → u.sanitizePhases j ≤ j.phase + 1 →
     ∃ t, exec (.sanitize c) s = .next t ∧ t.cmd c = none ∧ Keeps [.gal, .pcie, .hq, .mag, .map, .mot, .sec, .efc, .outbox,
         .fresh] sanitizeRegs s t) ∧
  (∀ (j : SanitizeJob) (s : State), s.mag.sanitize = some j → j.cmd = none → s.sanitizable = true → (∀ n ≤ 2, s.coreRuns n =
      true) →
     s.saving = false → ∃ t, exec .sanitizeResume s = .next t ∧ t = s.sanitizeStep j true ∧ Keeps [.gal, .pcie, .hq, .mag,
         .map, .mot, .sec, .efc, .outbox, .fresh] sanitizeRegs s t)

/-- States of the magazine. An inserted module is UNMOUNTED; a removed one ABSENT with REMOVE_EV. A mount starts in MOUNTING; a
module without a valid root ends BLANK; one with an agreed root and the right binding raises INSERT_EV. MAG disables into
STOPPING. CNT_CLR clears the counters and the count of lost units. A channel retrains to the lower of the asked and the
allowed rate. Of each command the frame says what parts and registers it leaves alone. -/
def Obligations.MagazineStates : Prop :=
  (∀ (v : Module) (s : State), s.pwr.por = false → s.mag.module = none → s.get Reg.MAG_STATUS_STATE ≠ 2 →
     ∃ t, exec (.magazineInserted v) s = .next t ∧ t.mag.module = some v ∧ t.magState = 7 ∧ Keeps [.mag] [Reg.MAG_STATUS_WORD]
         s t) ∧
  (∀ (v : Module) (s : State), s.mag.module = some v →
     ∃ t, exec .magazineRemoved s = .next t ∧ t.magState = 0 ∧ t.flag Reg.MAG_STATUS_REMOVE_EV = true ∧ t.get Reg.MAG_GEOM_DIES
         = 0 ∧
       Keeps [.pcie, .hq, .mag, .map, .och, .mot, .sec, .efc, .pwr, .outbox] (finishRegs ++ [Reg.PWR_HOLDUP_STATUS_WORD,
           Reg.HQ_SANITIZE_WORD, Reg.MAG_STATUS_WORD, Reg.MAG_GEOM_WORD, Reg.MAG_EXPORT_LO, Reg.MAG_EXPORT_HI,
           Reg.MAG_SLC_WORD, Reg.MAG_SAVE_WORD, Reg.MAG_CH_STATUS_WORD, Reg.MAP_DIRTY, Reg.OCH_STATUS_WORD, Reg.OCH_PROOF_FAIL,
           Reg.EFC_PROGRAMS, Reg.EFC_ERASES]) s t) ∧
  (∀ (rates : List (Nat × Nat)) (v : Module) (s : State), s.mag.module = some v → s.get Reg.MAG_STATUS_STATE = 2 →
      s.bridgesLive = true →
     s.magState = 7 →
     ∃ t, exec (.mountStart rates) s = .next t ∧ t.magState = 1 ∧ Keeps [.mag, .map, .pwr] [Reg.PWR_HOLDUP_STATUS_WORD,
         Reg.MAG_STATUS_WORD, Reg.MAG_GEOM_WORD, Reg.MAG_SAVE_WORD, Reg.MAG_CH_STATUS_WORD, Reg.MAP_DIRTY] s t) ∧
  (∀ (v : Module) (s : State), s.mag.module = some v → s.magState = 1 → s.get Reg.MAG_STATUS_STATE = 2 → nandValidRoots v = [] →
     ∃ t, exec .mountComplete s = .next t ∧ t.magState = 5 ∧ Keeps [.gal, .pcie, .hq, .mag, .map, .mot, .sec, .outbox]
         (galReadRegs ++ finishRegs ++ [Reg.GAL_INIT_PROGRESS, Reg.MAG_STATUS_WORD, Reg.MAG_GEOM_WORD, Reg.MAG_EXPORT_LO,
         Reg.MAG_EXPORT_HI, Reg.MAG_SLC_WORD, Reg.MAG_HOST_WR_LO, Reg.MAG_HOST_WR_HI, Reg.MAG_NAND_WR_LO, Reg.MAG_NAND_WR_HI,
         Reg.MAG_LOST_MIB, Reg.MAP_DIRTY]) s t) ∧
  (∀ (v : Module) (r : Root) (s : State), s.mag.module = some v → s.magState = 1 → s.get Reg.MAG_STATUS_STATE = 2 →
     nandValidRoots v ≠ [] → nandBestRoot v = some r → s.bindingGood r = true →
     ∃ t, exec .mountComplete s = .next t ∧ t.flag Reg.MAG_STATUS_INSERT_EV = true ∧ Keeps [.gal, .pcie, .hq, .mag, .map, .mot,
         .sec, .outbox] (galReadRegs ++ finishRegs ++ [Reg.GAL_INIT_PROGRESS, Reg.MAG_STATUS_WORD, Reg.MAG_GEOM_WORD,
         Reg.MAG_EXPORT_LO, Reg.MAG_EXPORT_HI, Reg.MAG_SLC_WORD, Reg.MAG_HOST_WR_LO, Reg.MAG_HOST_WR_HI, Reg.MAG_NAND_WR_LO,
         Reg.MAG_NAND_WR_HI, Reg.MAG_LOST_MIB, Reg.MAP_DIRTY]) s t) ∧
  (∀ s : State, s.get Reg.MAG_STATUS_STATE = 2 →
     ∃ t, exec .magDisable s = .next t ∧ t.get Reg.MAG_STATUS_STATE = 3 ∧ t.flag Reg.MAG_CTL_EN = false ∧ Keeps []
         [Reg.MAG_CTL_WORD, Reg.MAG_STATUS_WORD] s t) ∧
  (∀ s : State, ∃ t, exec .magCntClr s = .next t ∧ t.mag = { s.mag with lost := 0 } ∧
     (∀ j < 8, t.rd (Reg.MAG_HOST_WR.base + 4 * j) = 0) ∧ Keeps [.mag] [Reg.MAG_HOST_WR_LO, Reg.MAG_HOST_WR_HI,
         Reg.MAG_NAND_WR_LO, Reg.MAG_NAND_WR_HI, Reg.MAG_UE, Reg.MAG_REFRESHES, Reg.MAG_GROWN_BAD, Reg.MAG_LOST_MIB] s t) ∧
  (∀ (c : ChannelIx) (rate : Nat) (s : State), s.get Reg.MAG_CH_STATUS_RATE c.val ≠ 7 → s.mag.maxRates.getD c.val 3 < 8 →
     ∃ t, exec (.channelRetrain c rate) s = .next t ∧
       t.get Reg.MAG_CH_STATUS_RATE c.val = min rate (s.mag.maxRates.getD c.val 3) ∧ Keeps [] [Reg.MAG_CH_STATUS_WORD] s t)

/-- Work of the magazine controller. A WRITE that waited for buffer space enters its blocks and completes. BUFFER_UNIT_COMMIT
is commitUnits of the oldest unit and its group. A command past its abort point completes when none of its units is left. A
failed program or erase marks the block grown bad. FOLD, BLOCK_REFRESH and GARBAGE_COLLECTION move the valid units of a
block; PATROL_READ reads a mapped unit; ROOT_WRITE writes the next generation; BACKGROUND_ERASE erases a queued block that
no root names. Of each command the frame says what parts and registers it leaves alone. -/
def Obligations.MagazineWork : Prop :=
  (∀ (c : Nat) (k : Cmd) (d : List Byte) (ecc : NandEcc) (s u : State), c ∈ s.mag.spaceWait → Ready s c 0x01 k →
     u = s.setCmd { k with begun := true } →
     u.magRefuse k true = none → k.ioBlocks * max 1 u.mag.lbs ≠ 0 → k.dataLen = k.ioBlocks * max 1 u.mag.lbs →
     k.ioLba + k.ioBlocks ≤ u.lbaCount → k.pastAbort = false → u.mapWait k = false → u.bufRuns = true → k.progress = 0 →
     k.fua = false → u.writeThrough = false →
     (u.enter (some d) ecc k.tag 0 (piecesOf (k.ioLba * max 1 u.mag.lbs) k.dataLen)).1 = k.dataLen →
     ∃ t, exec (.writeBufferSpaceFreed c (.data d) ecc) s = .next t ∧ Done s t c ∧ Keeps [.gal, .pcie, .hq, .mag, .mot, .sec,
         .outbox, .fresh] (failedReadRegs ++ galReadRegs ++ finishRegs ++ [Reg.GAL_INIT_PROGRESS, Reg.MAG_STATUS_WORD,
         Reg.MAG_UE]) s t) ∧
  (∀ (puns : Puns) (dmg : Damage) (us : List BufUnit) (s u t : State), s.mayCommit = true → s.saving = false → s.bufRuns = true
      →
     u = s.strike dmg → (∀ b ∈ u.mag.buf, puns.lookup b.unit = none) → us = u.closure ((u.mag.buf.take 1).map BufUnit.unit) →
     u.commitUnits us puns = (t, true) →
     exec (.bufferUnitCommit puns dmg) s = .next t ∧ Keeps [.gal, .pcie, .hq, .mag, .map, .mot, .sec, .outbox] (galReadRegs ++
         finishRegs ++ [Reg.GAL_INIT_PROGRESS, Reg.MAG_STATUS_WORD, Reg.MAG_SLC_WORD, Reg.MAG_HOST_WR_LO, Reg.MAG_HOST_WR_HI,
         Reg.MAG_NAND_WR_LO, Reg.MAG_NAND_WR_HI, Reg.MAP_DIRTY]) s t) ∧
  (∀ (c : Nat) (k : Cmd) (s : State), s.cmd c = some k → k.pastAbort = true → s.saving = false →
     k.op = 0x01 ∨ k.op = 0x04 ∨ k.op = 0x05 ∨ k.op = 0x13 → s.mag.buf.any (fun b => b.writers.contains c) = false →
     ∃ t, exec (.nandProgramComplete c) s = .next t ∧ Done s t c ∧ Keeps [.pcie, .hq, .mot, .sec, .outbox] finishRegs s t) ∧
  (∀ (b : Nat) (moves : Puns) (ecc : NandEcc) (v : Module) (s : State), s.mag.module = some v → s.allBlocks.contains b = true →
     (s.block b).grownBad = false →
     ∃ t, exec (.programEraseFail b moves ecc) s = .next t ∧
       t.get Reg.MAG_GROWN_BAD = min (s.get Reg.MAG_GROWN_BAD + 1) (2 ^ 32 - 1) ∧ Keeps [.gal, .pcie, .hq, .mag, .map, .mot,
           .sec, .outbox, .fresh] (moveRegs ++ finishRegs ++ [Reg.MAG_HOST_WR_LO, Reg.MAG_HOST_WR_HI, Reg.MAG_GROWN_BAD]) s t) ∧
  (∀ (b : Nat) (moves : Puns) (ecc : NandEcc) (s : State), s.ftlRuns = true → s.foldPaused = false →
     (∀ x ∈ s.validIn b, ∃ v, s.nand.units.lookup x.2 = some v ∧ v.slc = true) →
     ∃ t, exec (.fold b moves ecc) s = .next t ∧ t = s.moveBlock b moves ecc ∧ Keeps [.gal, .mag, .map, .sec, .outbox, .fresh]
         moveRegs s t) ∧
  (∀ (b : Nat) (moves : Puns) (ecc : NandEcc) (s : State), s.ftlRuns = true → s.mag.refreshQ.contains b = true →
     (s.moveBlock b moves ecc).validIn b = [] →
     ∃ t, exec (.blockRefresh b moves ecc) s = .next t ∧
       t.get Reg.MAG_REFRESHES = min (s.get Reg.MAG_REFRESHES + 1) (2 ^ 32 - 1) ∧ Keeps [.gal, .mag, .map, .sec, .outbox,
           .fresh] (moveRegs ++ [Reg.MAG_REFRESHES]) s t) ∧
  (∀ (n p : Nat) (ecc : NandEcc) (s : State), s.mounted = true → s.unitRuns 8 = true → s.get Reg.MAG_REFRESH_PATROL_DAYS ≠ 0 →
     s.mag.map.lookup n = some p →
     ∃ t, exec (.patrolRead n ecc) s = .next t ∧ t = (s.readNand n 15 ecc).2.2 ∧ Keeps [.mag, .sec, .outbox, .fresh]
         [Reg.MAG_STATUS_WORD, Reg.MAG_UE, Reg.MSIX1_PBA, Reg.MSIX0_PBA] s t) ∧
  (∀ (r : Root) (s : State), s.mayCommit = true → s.mag.root = some r →
     ∃ t, exec .rootWrite s = .next t ∧ t.mag.generation = s.mag.generation + 1 ∧ Keeps [.mag] [] s t) ∧
  (∀ (b : Nat) (s : State), s.ftlRuns = true → s.mag.eraseQ.contains b = true → s.blockNamed b = false → s.validIn b = [] →
     ∃ t, exec (.backgroundErase b) s = .next t ∧ b ∉ t.mag.eraseQ ∧ Keeps [.mag] [] s t) ∧
  (∀ (b : Nat) (moves : Puns) (ecc : NandEcc) (s : State), s.ftlRuns = true → s.allBlocks.contains b = true → s.blockGood b =
      true →
     ∃ t, exec (.garbageCollection b moves ecc) s = .next t ∧ t = (s.moveBlock b moves ecc).eraseOrQueue b ∧ Keeps [.gal, .mag,
         .map, .sec, .outbox, .fresh] moveRegs s t)

/-- The map cache. A hit and a miss are counted for their requester. A fill that finds a place is served at once, or at its
retry. DIRTY_CLEAN writes a map page's dirty lines back. INVALIDATION_COMPLETE clears INVAL_BUSY. A way-mask write leaves
the written word. CNT_CLR clears the counters. Of each command the frame says what parts and registers it leaves alone. -/
def Obligations.MapCache : Prop :=
  (∀ (r : Fin 5) (addr size way : Nat) (w : Option (List Byte)) (v : MapLine) (str : Bool) (s : State),
     s.flag Reg.MAP_STATUS_INVAL_BUSY = false → s.map.waiting.any (fun x => x.req == r.val) = false →
     size = 4 ∨ size = 8 ∨ size = 64 → addr % size = 0 → mapAddrOk addr = true → s.findWay (addr / 256) = some way →
     s.map.lines.lookup (16 * lineSet (addr / 256) + way) = some v →
     ∃ t, exec (.mapCacheAccess r addr size w .none str) s = .next t ∧
       t.get64 Reg.MAP_REQ_HITS r.val = min (s.get64 Reg.MAP_REQ_HITS r.val + 1) (2 ^ 64 - 1) ∧ Keeps [.gal, .map, .outbox]
           (galReadRegs ++ [Reg.GAL_INIT_PROGRESS, Reg.MAP_STATUS_WORD, Reg.MAP_CE, Reg.MAP_UE_CLEAN, Reg.MAP_UE_DIRTY,
           Reg.MAP_DIRTY, Reg.MAP_REQ_HITS_LO, Reg.MAP_REQ_HITS_HI, Reg.MAP_REQ_MISSES_LO, Reg.MAP_REQ_MISSES_HI]) s t) ∧
  (∀ (r : Fin 5) (addr size : Nat) (w : Option (List Byte)) (str : Bool) (s : State),
     s.flag Reg.MAP_STATUS_INVAL_BUSY = false → s.map.waiting.any (fun x => x.req == r.val) = false →
     size = 4 ∨ size = 8 ∨ size = 64 → addr % size = 0 → mapAddrOk addr = true → s.findWay (addr / 256) = none →
     ∃ t, exec (.mapCacheAccess r addr size w .none str) s = .next t ∧
       t.get64 Reg.MAP_REQ_MISSES r.val = min (s.get64 Reg.MAP_REQ_MISSES r.val + 1) (2 ^ 64 - 1) ∧ Keeps [.gal, .map, .outbox]
           (galReadRegs ++ [Reg.GAL_INIT_PROGRESS, Reg.MAP_STATUS_WORD, Reg.MAP_CE, Reg.MAP_UE_CLEAN, Reg.MAP_UE_DIRTY,
           Reg.MAP_DIRTY, Reg.MAP_REQ_HITS_LO, Reg.MAP_REQ_HITS_HI, Reg.MAP_REQ_MISSES_LO, Reg.MAP_REQ_MISSES_HI]) s t) ∧
  (∀ (l : Nat) (f : MapFill) (s t : State), s.map.fills.find? (fun f => f.line == l) = some f → s.fillRuns l = true →
     s.placeFill f = some t → exec (.mapFillComplete l) s = .next t ∧ Keeps [.gal, .map, .outbox] (galReadRegs ++
         [Reg.GAL_INIT_PROGRESS, Reg.MAP_OFFERED, Reg.MAP_DECLINED, Reg.MAP_WRITEBACKS, Reg.MAP_DIRTY,
         Reg.MAP_REQ_STREAM_FILLS]) s t) ∧
  (∀ (l : Nat) (f : MapFill) (s u t : State), s.map.fills.find? (fun f => f.line == l && f.arrived) = some f →
     u = { s with map := { s.map with stall := insertKey s.map.stall f.owner ((lookupD 0 s.map.stall f.owner + 1) % 1024) } } →
     lookupD 0 s.map.stall f.owner + 1 < 1024 → u.placeFill f = some t →
     exec (.mapFillRetry l) s = .next t ∧ Keeps [.gal, .map, .outbox] (galReadRegs ++ [Reg.GAL_INIT_PROGRESS, Reg.MAP_OFFERED,
         Reg.MAP_DECLINED, Reg.MAP_WRITEBACKS, Reg.MAP_DIRTY, Reg.MAP_REQ_STREAM_FILLS, Reg.MAP_REQ_STALL]) s t) ∧
  (∀ (n : Nat) (s : State), s.paged = true → s.unitRuns 8 = true → s.mayProgram = true →
     ∃ t, exec (.mapDirtyClean n) s = .next t ∧ t = s.cleanLines (fun k => k / 16 == n) ∧ Keeps [.gal, .map, .outbox]
         (galReadRegs ++ [Reg.GAL_INIT_PROGRESS, Reg.MAP_WRITEBACKS, Reg.MAP_DIRTY]) s t) ∧
  (∀ s : State, ∃ t, exec .mapInvalidationComplete s = .next t ∧ t.flag Reg.MAP_STATUS_INVAL_BUSY = false ∧ Keeps []
      [Reg.MAP_STATUS_WORD] s t) ∧
  (∀ (r : Fin 5) (v : Word) (s : State),
     ∃ t, exec (.mapWaymaskWrite r v) s = .next t ∧
       t.rd (Reg.MAP_WAYMASK_MASK.base + Reg.MAP_WAYMASK_MASK.stride * r.val) =
         s.written (Reg.MAP_WAYMASK_MASK.base + Reg.MAP_WAYMASK_MASK.stride * r.val) v ∧ Keeps [] [Reg.MAP_WAYMASK_WORD] s t) ∧
  (∀ s : State, ∃ t, exec .mapCntClr s = .next t ∧
     (∀ r < 5, ∀ k < 6, t.rd (Reg.MAP_REQ_HITS.base + Reg.MAP_REQ_HITS.stride * r + 4 * k) = 0) ∧ Keeps [] [Reg.MAP_CE,
         Reg.MAP_UE_CLEAN, Reg.MAP_UE_DIRTY, Reg.MAP_OFFERED, Reg.MAP_DECLINED, Reg.MAP_WRITEBACKS, Reg.MAP_REQ_HITS_LO,
         Reg.MAP_REQ_HITS_HI, Reg.MAP_REQ_MISSES_LO, Reg.MAP_REQ_MISSES_HI, Reg.MAP_REQ_STREAM_FILLS, Reg.MAP_REQ_STALL] s t)

/-- The archive channel: pilot, wedges, lasers, folio proofs, write faults. Eight good wedges lock the pilot; a loss clears
PILOT_LOCK and outside a write raises PILOT_EV. A SAM with a valid wedge ID counts and shows its layer. A laser fault
outside a write counts on its beam. LASER_POWER_ON turns the lasers on. A proved row adds its corrections; a folio without
a failed or exceeded row and within FOLIO_LIM is counted and leaves the flight. Four missed wedges on a writing beam are a
write fault; two good ones end it. A retried folio read is one more pass. DISABLE starts STOPPING, CNT_CLR clears the
counters. Of each command the frame says what parts and registers it leaves alone. -/
def Obligations.ArchiveChannel : Prop :=
  (∀ s : State, 8 ≤ s.och.pilotGood → s.och.lasersOn = true →
     ∃ t, exec .pilotLock s = .next t ∧ t.flag Reg.OCH_ZONE_PILOT_LOCK = true ∧ Keeps [] [Reg.OCH_ZONE_WORD] s t) ∧
  (∀ s : State, s.flag Reg.OCH_ZONE_PILOT_LOCK = true →
     ∃ t, exec .pilotLockLoss s = .next t ∧ t.flag Reg.OCH_ZONE_PILOT_LOCK = false ∧
       (s.och.writing = [] → t.flag Reg.OCH_STATUS_PILOT_EV = true ∧ t.och = { s.och with pilotGood := 0 }) ∧ Keeps [.pcie,
           .hq, .och, .mot, .sec, .efc, .outbox] (finishRegs ++ [Reg.OCH_STATUS_WORD, Reg.OCH_ZONE_WORD, Reg.OCH_PROOF_FAIL,
           Reg.OCH_WRITE_FAULTS, Reg.EFC_PROGRAMS, Reg.EFC_ERASES]) s t) ∧
  (∀ (w : BitVec 48) (phase : Int) (spots : List SpotWedge) (p layer i j : Nat) (s : State), s.och.lasersOn = true → -1 ≤ phase
      → phase ≤ 1 →
     wedgeId w = some (p, layer, i, j) → layer < 16 →
     ∃ t, exec (.samDetected (some w) phase spots) s = .next t ∧ t.och.pilotGood = s.och.pilotGood + 1 ∧
       t.get Reg.OCH_ZONE_LAYER = layer ∧ t.srv.pilotLayer = layer ∧ Keeps [.och, .srv, .mot, .fresh] [Reg.OCH_ZONE_WORD,
           Reg.OCH_RD_CTL_WORD, Reg.OCH_RD_FLAGGED, Reg.MOT_SPN_PHASE_WORD] s t) ∧
  (∀ (b : BeamIx) (s : State), s.och.job = none → lookupD 0 s.och.laserFaults b.val = 0 →
     ∃ t, exec (.laserFault b) s = .next t ∧ t.flag Reg.OCH_STATUS_LASER_FAULT_EV = true ∧ lookupD 0 t.och.laserFaults b.val =
         1 ∧
       Keeps [.pcie, .hq, .och, .srv, .mot, .sec, .efc, .pwr, .outbox] (failRegs ++ [Reg.OCH_WRITE_FAULTS,
           Reg.OCH_LASER_DRIVE_WORD]) s t) ∧
  (∀ s : State, s.mot.clamped = true → s.get Reg.OCH_STATUS_STATE = 2 → s.mc3Runs = true → s.driven = true →
     s.get Reg.PWR_HOLDUP_STATUS_STATE = 0 → 2 ≤ s.sstate → s.sstate ≤ 4 →
     ∃ t, exec .laserPowerOn s = .next t ∧ t.pwr.ldEn = true ∧ t.och.lasersOn = true ∧ Keeps [.och, .pwr, .outbox, .fresh]
         [Reg.OCH_LASER_DRIVE_WORD, Reg.MOT_STATUS_WORD, Reg.MSIX1_PBA, Reg.MSIX0_PBA] s t) ∧
  (∀ (b : BeamIx) (row n k : Nat) (f : FolioJob) (s : State), s.proofFolio b.val = some f → row < 320 →
     ∃ t, exec (.proofRowVerdict b row (some n) k) s = .next t ∧
       t.get Reg.OCH_RD_ROW_CE b.val = min (s.get Reg.OCH_RD_ROW_CE b.val + n) (2 ^ 32 - 1) ∧ Keeps [.och] [Reg.OCH_RD_FLAGGED,
           Reg.OCH_RD_ROW_CE, Reg.OCH_RD_ROW_UE] s t) ∧
  (∀ (b : BeamIx) (j : ArchiveJob) (f : FolioJob) (s : State), s.och.job = some j → s.proofFolio b.val = some f → f.rowFailed =
      false →
     f.rowExceeded = false → f.corrected ≤ s.get Reg.OCH_PROOF_FOLIO_LIM →
     ∃ t, exec (.folioProofVerdict b) s = .next t ∧ t.get64 Reg.OCH_FOLIOS = min (s.get64 Reg.OCH_FOLIOS + 1) (2 ^ 64 - 1) ∧
       t.och.flight = s.och.flight.filter (fun g => g.pfa != f.pfa) ∧ Keeps [.pcie, .hq, .och, .mot, .sec, .outbox] (finishRegs
           ++ [Reg.OCH_STATUS_WORD, Reg.OCH_FOLIOS_LO, Reg.OCH_FOLIOS_HI, Reg.OCH_PROOF_FAIL, Reg.OCH_RELOCS]) s t) ∧
  (∀ (bs : List Nat) (s : State), (bs.filter (fun b => s.och.writing.contains b && decide (4 ≤ lookupD 0 s.och.missed
      b))).eraseDups ≠ [] →
     ∃ t, exec (.writeFault bs) s = .next t ∧
       t = s.writeFault (bs.filter (fun b => s.och.writing.contains b && decide (4 ≤ lookupD 0 s.och.missed b))).eraseDups ∧
       Keeps [.pcie, .hq, .och, .mot, .sec, .efc, .outbox] (finishRegs ++ [Reg.OCH_STATUS_WORD, Reg.OCH_PROOF_FAIL,
           Reg.OCH_WRITE_FAULTS, Reg.EFC_PROGRAMS, Reg.EFC_ERASES]) s t) ∧
  (∀ (b : BeamIx) (s : State), s.och.faulted.contains b.val = true → 2 ≤ lookupD 0 s.och.good b.val →
     ∃ t, exec (.writeFaultRecovery b) s = .next t ∧ t.och = { s.och with faulted := s.och.faulted.filter (· != b.val) } ∧
       Keeps [.och] [] s t) ∧
  (∀ (pass : FolioPass) (lfn pfa : Nat) (k : Cmd) (s : State), s.och.reading = some (lfn, pfa) →
     s.hq.cmds.find? (fun k => (k.op == 0x23 || k.op == 0x25) && k.begun) = some k → s.och.passes ≠ [] → Ready s k.tag k.op k →
     ∃ t, exec (.folioReadRetry pass) s = .next t ∧ t = (s.setCmd { k with begun := true }).readFolio k lfn pass ∧ Keeps
         [.pcie, .hq, .och, .mot, .sec, .outbox, .fresh] (finishRegs ++ [Reg.PCIE_POISON_TX, Reg.OCH_STATUS_WORD,
         Reg.OCH_READ_UE, Reg.OCH_BLANK_READ, Reg.OCH_RD_FLAGGED, Reg.OCH_RD_ROW_CE, Reg.OCH_RD_ROW_UE]) s t) ∧
  (∀ s : State, s.archived = true → s.get Reg.OCH_STATUS_STATE = 2 → s.och.job = none →
     ∃ t, exec .ochDisable s = .next t ∧ t.get Reg.OCH_STATUS_STATE = 3 ∧ t.flag Reg.OCH_CTL_EN = false ∧ Keeps [.pcie, .hq,
         .och, .mot, .sec, .efc, .outbox] (finishRegs ++ [Reg.OCH_CTL_WORD, Reg.OCH_STATUS_WORD, Reg.OCH_PROOF_FAIL,
         Reg.EFC_PROGRAMS, Reg.EFC_ERASES]) s t) ∧
  (∀ s : State, s.archived = true →
     ∃ t, exec .ochCntClr s = .next t ∧ (∀ c < 16, ∀ k < 3, t.rd (Reg.OCH_RD_FLAGGED.base + Reg.OCH_RD_FLAGGED.stride * c + 4 *
         k) = 0) ∧
       Keeps [] [Reg.OCH_FOLIOS_LO, Reg.OCH_FOLIOS_HI, Reg.OCH_PROOF_FAIL, Reg.OCH_RELOCS, Reg.OCH_OPC_RUNS,
           Reg.OCH_WRITE_FAULTS, Reg.OCH_READ_UE, Reg.OCH_BLANK_READ, Reg.OCH_RD_FLAGGED, Reg.OCH_RD_ROW_CE, Reg.OCH_RD_ROW_UE]
           s t)

/-- Servo loops: states and samples. A loop of a running unit is taken to ACQUIRE, LOCKED, HOLD and back by the rules of R360;
HOLD that lasts SUM_HOLD_MAX and 16 samples off the set-point end in FAULT; an acquisition retries three times and then
ends in FAULT. A commit is applied at the next sample. In HOLD a sample computes nothing and counts; a closed loop in
LOCKED puts out what the compensator gives. The saturation supervisor counts a fault and opens the loop where ACTION says
so. Of each command the frame says what parts and registers it leaves alone. -/
def Obligations.ServoLoops : Prop :=
  (∀ (l : LoopIx) (s : State), s.get Reg.SRV_STATUS_STATE = 2 → s.mc3Runs = true → s.driven = true → s.lstate l.val = 0 ∨
      s.lstate l.val = 4 →
     l.val = 0 ∨ s.lstate 0 = 2 →
     ∃ t, exec (.loopAcquireStart l) s = .next t ∧ t.lstate l.val = 1 ∧ Keeps [.srv, .pwr, .fresh] [Reg.SRV_LOOP_STATUS_WORD,
         Reg.SRV_COIL_STATUS_WORD] s t) ∧
  (∀ (l : LoopIx) (radius : Int) (s : State), s.lstate l.val = 1 → (s.loop l.val).closed = true → 64 ≤ (s.loop l.val).lockRun →
     l.val ≠ 1 ∨ (s.srv.pilotP = 8 ∧ s.srv.pilotLayer = s.srv.target) →
     ∃ t, exec (.loopLocked l radius) s = .next t ∧ t.lstate l.val = 2 ∧ Keeps [.srv] [Reg.SRV_LOOP_STATUS_WORD,
         Reg.MOT_AXIS_POS_WORD] s t) ∧
  (∀ (l : LoopIx) (s : State), s.lstate l.val = 2 → (s.loop l.val).sumGood = false ∨ l.val ≠ 0 ∧ (s.lstate 0 = 3 ∨
      s.srv.jump.isSome = true) →
     ∃ t, exec (.loopHoldEntry l) s = .next t ∧ t.lstate l.val = 3 ∧ Keeps [.pcie, .hq, .och, .srv, .mot, .sec, .efc, .outbox]
         (finishRegs ++ [Reg.OCH_STATUS_WORD, Reg.OCH_PROOF_FAIL, Reg.OCH_WRITE_FAULTS, Reg.SRV_LOOP_STATUS_WORD,
         Reg.EFC_PROGRAMS, Reg.EFC_ERASES]) s t) ∧
  (∀ (l : LoopIx) (s : State), s.lstate l.val = 3 → 16 ≤ (s.loop l.val).sumRun → l.val = 0 ∨ (s.lstate 0 = 2 ∧ s.jumpOut 0 =
      none) →
     ∃ t, exec (.loopHoldExit l) s = .next t ∧ t.lstate l.val = 2 ∧ Keeps [] [Reg.SRV_LOOP_STATUS_WORD] s t) ∧
  (∀ (l : LoopIx) (s : State), s.lstate l.val = 3 → s.get Reg.SRV_LOOP_SUM_HOLD_MAX l.val ≤ (s.loop l.val).holdCnt →
     ∃ t, exec (.loopHoldTimeout l) s = .next t ∧ t = s.loopFault l.val 3 ∧ t.lstate l.val = 4 ∧ Keeps [.pcie, .hq, .och, .srv,
         .mot, .sec, .efc, .pwr, .outbox] loopFaultRegs s t) ∧
  (∀ (l : LoopIx) (s : State), s.lstate l.val = 2 → 16 ≤ (s.loop l.val).offRun →
     ∃ t, exec (.loopLoss l) s = .next t ∧ t = s.loopFault l.val 2 ∧ t.lstate l.val = 4 ∧ Keeps [.pcie, .hq, .och, .srv, .mot,
         .sec, .efc, .pwr, .outbox] loopFaultRegs s t) ∧
  (∀ (l : LoopIx) (s : State), s.lstate l.val = 1 →
     ∃ t, exec (.acquisitionTimeout l) s = .next t ∧
       ((s.loop l.val).attempts < 3 → t.regs = s.regs ∧ t.srv.loops = s.srv.loops.set l.val
         { s.loop l.val with attempts := (s.loop l.val).attempts + 1, closed := l.val == 2, lockRun := 0, integ := 0 }) ∧
       (3 ≤ (s.loop l.val).attempts → t = s.loopFault l.val 2 ∧ t.lstate l.val = 4) ∧ Keeps [.pcie, .hq, .och, .srv, .mot,
           .sec, .efc, .pwr, .outbox] loopFaultRegs s t) ∧
  (∀ (l : LoopIx) (s : State), s.archived = true →
     ∃ t, exec (.loopCommit l) s = .next t ∧ t.srv = { s.srv with loops := s.srv.loops.set l.val { s.loop l.val with commit :=
         true } } ∧
       Keeps [.srv] [] s t) ∧
  (∀ (l : LoopIx) (i : LoopInput) (s : State), s.lstate l.val = 3 → s.jumpOut l.val = none → i.aux = none →
     ∃ t, exec (.loopSample l i) s = .next t ∧ t.lstate l.val = 3 ∧ t.getInt Reg.SRV_LOOP_OUT_OUT l.val = s.getInt
         Reg.SRV_LOOP_OUT_OUT l.val ∧
       (∀ x, t.srv.loops[l.val]? = some x → x.holdCnt = (s.loop l.val).holdCnt + 1) ∧ Keeps [.srv, .fresh]
           [Reg.SRV_SVC_IN_WORD, Reg.SRV_LOOP_STATUS_WORD, Reg.SRV_LOOP_ERR_WORD, Reg.SRV_LOOP_OUT_WORD,
           Reg.SRV_COIL_STATUS_WORD] s t) ∧
  (∀ (l : LoopIx) (i : LoopInput) (x er out : Int) (v w : LoopSt) (s : State), s.lstate l.val = 2 → s.srv.jump = none → i.aux =
      none →
     s.serviced l.val = false → (s.loop l.val).commit = false → (s.loop l.val).returning = false → (s.loop l.val).closed = true
         →
     x = (if l.val = 1 then i.x + s.srv.trackOfs else if l.val = 3 then s.srv.skew else i.x) →
     er = satCodes (1024 * x - 1024 * s.getInt Reg.SRV_LOOP_SETPT_SETPT l.val) →
     v.setpt = s.getInt Reg.SRV_LOOP_SETPT_SETPT l.val → v.sumGood = s.sumOk l.val i.sum →
     v.sumRun = (if v.sumGood then (s.loop l.val).sumRun + 1 else 0) → v.ff = s.ffSum l.val i.disc i.rotor →
     v = { s.loop l.val with setpt := v.setpt, sumGood := v.sumGood, sumRun := v.sumRun, ff := v.ff } →
     compensate true (s.judge l.val v er) er = (w, out) → -8192 ≤ out → out < 8192 →
     ∃ t, exec (.loopSample l i) s = .next t ∧ t.getInt Reg.SRV_LOOP_OUT_OUT l.val = out ∧ t.srv.loops = s.srv.loops.set l.val
         w ∧
       Keeps [.srv, .fresh] [Reg.SRV_SVC_IN_WORD, Reg.SRV_LOOP_STATUS_WORD, Reg.SRV_LOOP_ERR_WORD, Reg.SRV_LOOP_OUT_WORD,
           Reg.SRV_COIL_STATUS_WORD] s t) ∧
  (∀ (l : LoopIx) (s : State), s.lstate l.val ≠ 0 → s.lstate l.val ≠ 4 →
     s.get Reg.SRV_LOOP_SAT_SAT_COUNT l.val ≤ s.get Reg.SRV_LOOP_STATUS_SAT_ACC l.val → s.get Reg.SRV_LOOP_CTL_ACTION l.val = 0
         →
     ∃ t, exec (.saturationFault l) s = .next t ∧ t.get Reg.SRV_LOOP_STATUS_SAT_ACC l.val = 0 ∧
       t.get Reg.SRV_SAT_FAULTS = min (s.get Reg.SRV_SAT_FAULTS + 1) (2 ^ 32 - 1) ∧ t.flag Reg.SRV_STATUS_SAT_EV = true ∧ Keeps
           [.pcie, .hq, .och, .srv, .mot, .sec, .efc, .pwr, .outbox] (loopFaultRegs ++ [Reg.SRV_SAT_FAULTS,
           Reg.MOT_AXIS_REMAIN_WORD, Reg.MOT_AXIS_STATUS_WORD]) s t) ∧
  (∀ (l : LoopIx) (s : State), s.lstate l.val ≠ 0 → s.lstate l.val ≠ 4 →
     s.get Reg.SRV_LOOP_SAT_SAT_COUNT l.val ≤ s.get Reg.SRV_LOOP_STATUS_SAT_ACC l.val → s.get Reg.SRV_LOOP_CTL_ACTION l.val = 1
         →
     ∃ t, exec (.saturationFault l) s = .next t ∧ t.lstate l.val = 4 ∧ Keeps [.pcie, .hq, .och, .srv, .mot, .sec, .efc, .pwr,
         .outbox] (loopFaultRegs ++ [Reg.SRV_SAT_FAULTS, Reg.MOT_AXIS_REMAIN_WORD, Reg.MOT_AXIS_STATUS_WORD]) s t)

/-- Layer jumps. A jump starts with the kick toward its target, coasts after it, brakes after the peak of the S-curve, closes
focus in ACQUIRE after the brake and completes on the target layer; a timeout counts a failed jump and tries again from the
layer where the spot is, and the third puts focus in FAULT. Of each command the frame says what parts and registers it
leaves alone. -/
def Obligations.LayerJump : Prop :=
  (∀ (down : Bool) (s : State), s.lstate 0 = 2 → s.srv.jump = none → s.och.writing = [] → s.get Reg.SRV_STATUS_STATE = 2 →
      s.mc3Runs = true →
     (down = true → 0 < s.srv.pilotLayer) → (down = false → s.srv.pilotLayer < 11) →
     ∃ t, exec (.layerJumpStart down) s = .next t ∧
       t.srv.jump = some { step := .kick, down, target := if down then s.srv.pilotLayer - 1 else s.srv.pilotLayer + 1, fails :=
           0 } ∧
       Keeps [.gal, .pcie, .hq, .och, .srv, .mot, .sec, .col, .efc, .outbox] (finishRegs ++ [Reg.CAP_DEVTIME_LO,
           Reg.CAP_DEVTIME_HI, Reg.GAL_THROTTLE_LO, Reg.GAL_THROTTLE_HI, Reg.OCH_STATUS_WORD, Reg.OCH_PROOF_FAIL,
           Reg.OCH_WRITE_FAULTS, Reg.SRV_LOOP_STATUS_WORD, Reg.SRV_LOOP_OUT_WORD, Reg.EFC_PROGRAMS, Reg.EFC_ERASES,
           Reg.COL_TIME_LO, Reg.COL_TIME_HI]) s t) ∧
  (∀ (j : Jump) (s : State), s.srv.jump = some j → j.step = .kick →
     ∃ t, exec .jumpKickEnd s = .next t ∧ t.srv = { s.srv with jump := some { j with step := .coast } } ∧ t.getInt
         Reg.SRV_LOOP_OUT_OUT 0 = 0 ∧
       Keeps [.gal, .srv, .col] [Reg.CAP_DEVTIME_LO, Reg.CAP_DEVTIME_HI, Reg.GAL_THROTTLE_LO, Reg.GAL_THROTTLE_HI,
           Reg.SRV_LOOP_OUT_WORD, Reg.COL_TIME_LO, Reg.COL_TIME_HI] s t) ∧
  (∀ (j : Jump) (s : State), s.srv.jump = some j → j.step = .coast →
     ∃ t, exec .jumpScurvePeak s = .next t ∧ t = s.jumpStep j .brake (-s.kick j.down) ∧ Keeps [.gal, .srv, .col]
         [Reg.CAP_DEVTIME_LO, Reg.CAP_DEVTIME_HI, Reg.GAL_THROTTLE_LO, Reg.GAL_THROTTLE_HI, Reg.SRV_LOOP_OUT_WORD,
         Reg.COL_TIME_LO, Reg.COL_TIME_HI] s t) ∧
  (∀ (j : Jump) (s : State), s.srv.jump = some j → j.step = .brake →
     ∃ t, exec .jumpBrakeEnd s = .next t ∧ t.srv.jump = some { j with step := .close } ∧ t.lstate 0 = 1 ∧ Keeps [.gal, .srv,
         .col] [Reg.CAP_DEVTIME_LO, Reg.CAP_DEVTIME_HI, Reg.GAL_THROTTLE_LO, Reg.GAL_THROTTLE_HI, Reg.SRV_LOOP_STATUS_WORD,
         Reg.SRV_LOOP_OUT_WORD, Reg.COL_TIME_LO, Reg.COL_TIME_HI] s t) ∧
  (∀ (layer : Nat) (j : Jump) (s : State), s.srv.jump = some j → j.step = .close → s.lstate 0 = 2 → layer = j.target →
     ∃ t, exec (.jumpComplete layer) s = .next t ∧ t.srv = { s.srv with jump := none, pilotLayer := layer } ∧
       t.get Reg.SRV_JUMPS = min (s.get Reg.SRV_JUMPS + 1) (2 ^ 32 - 1) ∧ Keeps [.srv] [Reg.SRV_JUMPS] s t) ∧
  (∀ (layer : Nat) (j : Jump) (s : State), s.srv.jump = some j →
     ∃ t, exec (.jumpTimeout layer) s = .next t ∧
       (2 ≤ j.fails → t.lstate 0 = 4) ∧
       (j.fails < 2 → layer = j.target → t.srv = { s.srv with pilotLayer := layer, jump := some { j with fails := j.fails + 1 }
           } ∧
         t.get Reg.SRV_JUMP_FAILS = min (s.get Reg.SRV_JUMP_FAILS + 1) (2 ^ 32 - 1) ∧ t.flag Reg.SRV_STATUS_JUMP_FAIL_EV =
             true) ∧
       (j.fails < 2 → layer ≠ j.target → t.srv.jump = some ⟨.kick, decide (j.target < layer),
         if j.target < layer then layer - 1 else layer + 1, j.fails + 1⟩) ∧ Keeps [.gal, .pcie, .hq, .och, .srv, .mot, .sec,
             .col, .efc, .pwr, .outbox] (loopFaultRegs ++ [Reg.CAP_DEVTIME_LO, Reg.CAP_DEVTIME_HI, Reg.GAL_THROTTLE_LO,
             Reg.GAL_THROTTLE_HI, Reg.SRV_JUMP_FAILS, Reg.SRV_LOOP_OUT_WORD, Reg.COL_TIME_LO, Reg.COL_TIME_HI]) s t)

/-- Coil bridges, feed-forward banks, the power governor and service inputs. A coil reverses at once outside the dwell and
after it within; COIL_CFG is written only with its loop OFF; a bank swap is applied at the next period; the governor drops
to the least of its candidates and rises by RISE up to TARGET; its thresholds are taken only in order; service inputs are
lost and return with their events; DISABLE and CNT_CLR do what R376 and the register table say. Of each command the frame
says what parts and registers it leaves alone. -/
def Obligations.CoilsAndGovernor : Prop :=
  (∀ (l : LoopIx) (pos : Bool) (s : State), s.get Reg.SRV_COIL_STATUS_BRIDGE l.val ≠ 0 →
     ∃ t, exec (.coilReversal l pos) s = .next t ∧
       ((s.loop l.val).dwell = true → t.regs = s.regs ∧
         t.srv = { s.srv with loops := s.srv.loops.set l.val { s.loop l.val with deferred := some pos } }) ∧
       ((s.loop l.val).dwell = false → t.get Reg.SRV_COIL_STATUS_BRIDGE l.val = (if pos then 1 else 2) ∧
         t.srv = { s.srv with loops := s.srv.loops.set l.val { s.loop l.val with dwell := true, deferred := none } }) ∧ Keeps
             [.srv] [Reg.SRV_COIL_STATUS_WORD] s t) ∧
  (∀ (l : LoopIx) (pos : Bool) (s : State), (s.loop l.val).deferred = some pos → s.get Reg.SRV_COIL_STATUS_BRIDGE l.val ≠ 0 →
     ∃ t, exec (.coilDwellExpiry l) s = .next t ∧ t.get Reg.SRV_COIL_STATUS_BRIDGE l.val = (if pos then 1 else 2) ∧ Keeps
         [.srv] [Reg.SRV_COIL_STATUS_WORD] s t) ∧
  (∀ (l : LoopIx) (s : State), (s.loop l.val).deferred = none →
     ∃ t, exec (.coilDwellExpiry l) s = .next t ∧ t.regs = s.regs ∧
       t.srv = { s.srv with loops := s.srv.loops.set l.val { s.loop l.val with dwell := false, deferred := none } } ∧ Keeps
           [.srv] [Reg.SRV_COIL_STATUS_WORD] s t) ∧
  (∀ (l : LoopIx) (v : Word) (s : State), s.archived = true → s.lstate l.val = 0 →
     ∃ t, exec (.coilCfgWrite l v) s = .next t ∧ t = s.writeAt Reg.SRV_COIL_CFG_IFS l.val v ∧ Keeps [.outbox]
         [Reg.SRV_STATUS_WORD, Reg.SRV_COIL_CFG_WORD, Reg.MSIX1_PBA, Reg.MSIX0_PBA] s t) ∧
  (∀ (l : LoopIx) (v : Word) (s : State), s.archived = true → s.lstate l.val ≠ 0 →
     s.written (Reg.SRV_COIL_CFG_IFS.base + Reg.SRV_COIL_CFG_IFS.stride * l.val) v ≠
       s.rd (Reg.SRV_COIL_CFG_IFS.base + Reg.SRV_COIL_CFG_IFS.stride * l.val) →
     ∃ t, exec (.coilCfgWrite l v) s = .next t ∧ t.flag Reg.SRV_STATUS_CFG_REJ = true ∧
       t.get Reg.SRV_COIL_CFG_IFS l.val = s.get Reg.SRV_COIL_CFG_IFS l.val ∧ Keeps [.outbox] [Reg.SRV_STATUS_WORD,
           Reg.SRV_COIL_CFG_WORD, Reg.MSIX1_PBA, Reg.MSIX0_PBA] s t) ∧
  (∀ (n : Fin 6) (s : State), s.archived = true →
     ∃ t, exec (.ffBankSwap n) s = .next t ∧ t.srv = { s.srv with swap := s.srv.swap.set n.val true } ∧ Keeps [.srv] [] s t) ∧
  (∀ (n : Fin 6) (s : State), s.srv.swap.getD n.val false = true →
     ∃ t, exec (.ffSwapApply n) s = .next t ∧ t.flag Reg.SRV_FF_CTL_ACTIVE n.val = (!s.srv.bank.getD n.val false) ∧
       t.srv.bank = s.srv.bank.set n.val (!s.srv.bank.getD n.val false) ∧ t.srv.swap = s.srv.swap.set n.val false ∧ Keeps
           [.srv] [Reg.SRV_FF_CTL_WORD] s t) ∧
  (∀ (vbus ibus : Nat) (s : State), s.part.archive = true → (s.govCandidates vbus ibus).foldl min 1024 < s.get
      Reg.SRV_GOV_STATUS_G →
     ∃ t, exec (.governorUpdate vbus ibus) s = .next t ∧ t.get Reg.SRV_GOV_STATUS_G = (s.govCandidates vbus ibus).foldl min
         1024 ∧
       t.get Reg.SRV_GOV_STATUS_TARGET = (s.govCandidates vbus ibus).foldl min 1024 ∧ Keeps [.outbox] [Reg.SRV_STATUS_WORD,
           Reg.SRV_GOV_STATUS_WORD, Reg.MSIX1_PBA, Reg.MSIX0_PBA] s t) ∧
  (∀ s : State, s.get Reg.SRV_GOV_STATUS_G < s.get Reg.SRV_GOV_STATUS_TARGET →
     ∃ t, exec .governorRise s = .next t ∧
       t.get Reg.SRV_GOV_STATUS_G = min (s.get Reg.SRV_GOV_STATUS_TARGET) (s.get Reg.SRV_GOV_STATUS_G + s.get
           Reg.SRV_GOV_OUT_RISE) ∧
       Keeps [] [Reg.SRV_GOV_STATUS_WORD] s t) ∧
  (∀ (ibus : Bool) (v : Word) (s : State), s.archived = true →
     ∃ t, exec (.governorThresholdWrite ibus v) s = .next t ∧
       (ibus = true → bitsOf (s.written Reg.SRV_GOV_IBUS_I_START.base v) 11 0 < bitsOf (s.written Reg.SRV_GOV_IBUS_I_START.base
           v) 23 12 →
         t = s.wr Reg.SRV_GOV_IBUS_I_START.base (s.written Reg.SRV_GOV_IBUS_I_START.base v)) ∧
       (ibus = true → bitsOf (s.written Reg.SRV_GOV_IBUS_I_START.base v) 23 12 ≤ bitsOf (s.written
           Reg.SRV_GOV_IBUS_I_START.base v) 11 0 →
         t = s) ∧
       (ibus = false → bitsOf (s.written Reg.SRV_GOV_TEMP_T_START.base v) 11 0 < bitsOf (s.written
           Reg.SRV_GOV_TEMP_T_START.base v) 27 16 →
         t = s.wr Reg.SRV_GOV_TEMP_T_START.base (s.written Reg.SRV_GOV_TEMP_T_START.base v)) ∧
       (ibus = false → bitsOf (s.written Reg.SRV_GOV_TEMP_T_START.base v) 27 16 ≤ bitsOf (s.written
           Reg.SRV_GOV_TEMP_T_START.base v) 11 0 →
         t = s) ∧ Keeps [] [Reg.SRV_GOV_TEMP_WORD, Reg.SRV_GOV_IBUS_WORD] s t) ∧
  (∀ (v : Word) (s : State), s.archived = true → s.get Reg.OCH_STATUS_MODE ≠ 1 →
     ∃ t, exec (.serviceModeEnable v) s = .next t ∧ t.regs = (s.write Reg.SRV_SVC_EN.base v).regs ∧
       (t.flag Reg.SRV_SVC_EN = true → s.flag Reg.SRV_SVC_EN = false → t.srv.svcLost = false) ∧ Keeps [.srv, .outbox]
           [Reg.SRV_STATUS_WORD, Reg.SRV_SVC_WORD, Reg.MSIX1_PBA, Reg.MSIX0_PBA] s t) ∧
  (∀ s : State, s.flag Reg.SRV_SVC_EN = true → s.srv.svcLost = false → s.get Reg.SRV_SVC_SRC ≠ 0 →
     ∃ t, exec (.serviceInputLost false) s = .next t ∧ t.srv = { s.srv with svcLost := true } ∧ t.flag
         Reg.SRV_STATUS_SVC_LOST_EV = true ∧
       Keeps [.srv, .mot, .outbox] [Reg.SRV_STATUS_WORD, Reg.MOT_STATUS_WORD, Reg.MSIX1_PBA, Reg.MSIX0_PBA] s t) ∧
  (∀ s : State, s.sstate = 7 → s.mot.svcLost = false → s.get Reg.MOT_SPN_SVC_SRC ≠ 0 →
     ∃ t, exec (.serviceInputLost true) s = .next t ∧ t.mot = { s.mot with svcLost := true } ∧ t.flag
         Reg.MOT_STATUS_SVC_LOST_EV = true ∧
       Keeps [.srv, .mot, .outbox] [Reg.SRV_STATUS_WORD, Reg.MOT_STATUS_WORD, Reg.MSIX1_PBA, Reg.MSIX0_PBA] s t) ∧
  (∀ (n : Nat) (s : State), s.srv.svcLost = true →
     ∃ t, exec (.serviceInputReturn false n) s = .next t ∧ t.srv = { s.srv with svcLost := false } ∧
       t.get Reg.SRV_SVC_IN_N = min 16383 n ∧ Keeps [.srv, .mot] [Reg.SRV_SVC_IN_WORD, Reg.MOT_SPN_TARGET_WORD,
           Reg.MOT_SPN_SVC_IN_WORD] s t) ∧
  (∀ (n : Nat) (s : State), s.mot.svcLost = true →
     ∃ t, exec (.serviceInputReturn true n) s = .next t ∧ t.mot = { s.mot with svcLost := false } ∧
       t.get Reg.MOT_SPN_SVC_IN_N = min 16383 n ∧ Keeps [.srv, .mot] [Reg.SRV_SVC_IN_WORD, Reg.MOT_SPN_TARGET_WORD,
           Reg.MOT_SPN_SVC_IN_WORD] s t) ∧
  (∀ s : State, s.archived = true →
     ∃ t, exec .srvDisable s = .next t ∧ t = s.srvEnable false ∧ Keeps [.pcie, .hq, .och, .srv, .mot, .sec, .efc, .pwr,
         .outbox] (finishRegs ++ [Reg.OCH_STATUS_WORD, Reg.OCH_PROOF_FAIL, Reg.SRV_CTL_WORD, Reg.SRV_STATUS_WORD,
         Reg.SRV_LOOP_STATUS_WORD, Reg.SRV_COIL_STATUS_WORD, Reg.EFC_PROGRAMS, Reg.EFC_ERASES]) s t) ∧
  (∀ s : State, s.archived = true →
     ∃ t, exec .srvCntClr s = .next t ∧ t.get Reg.SRV_JUMPS = 0 ∧ t.get Reg.SRV_JUMP_FAILS = 0 ∧ t.get Reg.SRV_SAT_FAULTS = 0 ∧
       t.get Reg.SRV_LOOP_FAULTS = 0 ∧ Keeps [] [Reg.SRV_JUMPS, Reg.SRV_JUMP_FAILS, Reg.SRV_SAT_FAULTS, Reg.SRV_LOOP_FAULTS] s
           t)

/-- The spindle: start, lock, zone change, brake, service, limits. A start whose interlock holds spins up at the zone's speed,
else it raises INTERLOCK_EV. The states SPINUP, FREQ_LOCK, PHASE_ACQ, PHASE_LOCK, BRAKE_REGEN, BRAKE_SHORT and STOPPED
follow R385 to R388. SERVICE starts only with the mechanism free. The current prediction scales the period down; the
kinetic energy follows the speed; every PWM period is counted modulo 8. Of each command the frame says what parts and
registers it leaves alone. -/
def Obligations.Spindle : Prop :=
  (∀ (zone : Fin 32) (s : State), s.get Reg.MOT_STATUS_STATE = 2 → s.mc3Runs = true → s.pwr.vdrvLow = false → s.driven = true →
      s.mot.held ≠ [] →
     s.sstate = 0 → s.spinAllowed = true →
     ∃ t, exec (.spindleStart zone) s = .next t ∧ t.sstate = 1 ∧ t.get Reg.MOT_SPN_TARGET_TARGET = zoneSpeed zone.val % 65536 ∧
       t.mot.zone = zone.val ∧ t.pwr.spindleOn = true ∧ Keeps [.mot, .pwr, .outbox] [Reg.MOT_STATUS_WORD,
           Reg.MOT_SPN_STATUS_WORD, Reg.MOT_SPN_TARGET_WORD, Reg.MSIX1_PBA, Reg.MSIX0_PBA] s t) ∧
  (∀ (zone : Fin 32) (s : State), s.get Reg.MOT_STATUS_STATE = 2 → s.mc3Runs = true → s.pwr.vdrvLow = false → s.driven = true →
      s.mot.held ≠ [] →
     s.sstate = 0 → s.spinAllowed = false →
     ∃ t, exec (.spindleStart zone) s = .next t ∧ t.flag Reg.MOT_STATUS_INTERLOCK_EV = true ∧ t.sstate = 0 ∧ t.mot = s.mot ∧
       Keeps [.mot, .pwr, .outbox] [Reg.MOT_STATUS_WORD, Reg.MOT_SPN_STATUS_WORD, Reg.MOT_SPN_TARGET_WORD, Reg.MSIX1_PBA,
           Reg.MSIX0_PBA] s t) ∧
  (∀ s : State, s.sstate = 1 →
     ∃ t, exec .spindleFreqLock s = .next t ∧ t.sstate = 2 ∧ Keeps [] [Reg.OCH_ZONE_WORD, Reg.MOT_SPN_STATUS_WORD,
         Reg.CAL_BLK_STATUS_WORD] s t) ∧
  (∀ s : State, s.sstate = 2 → s.get Reg.OCH_ZONE_CLK_NUM = 31 + s.mot.zone → 0 < s.och.pilotGood →
     ∃ t, exec .spindlePhaseAcquire s = .next t ∧ t.sstate = 3 ∧ t.mot = { s.mot with phaseGood := 0, phaseBad := 0 } ∧
       Keeps [.mot] [Reg.MOT_SPN_STATUS_WORD] s t) ∧
  (∀ s : State, s.sstate = 3 → 480 ≤ s.mot.phaseGood →
     ∃ t, exec .spindlePhaseLock s = .next t ∧ t.sstate = 4 ∧ Keeps [] [Reg.MOT_SPN_STATUS_WORD] s t) ∧
  (∀ s : State, s.sstate = 4 → 8 ≤ s.mot.phaseBad →
     ∃ t, exec .spindlePhaseLoss s = .next t ∧ t.sstate = 2 ∧ t.get Reg.MOT_PHASE_LOSS = min (s.get Reg.MOT_PHASE_LOSS + 1) (2
         ^ 32 - 1) ∧
       t.flag Reg.MOT_STATUS_PHASE_LOSS_EV = true ∧ Keeps [.outbox] [Reg.MOT_STATUS_WORD, Reg.MOT_SPN_STATUS_WORD,
           Reg.MOT_PHASE_LOSS, Reg.MSIX1_PBA, Reg.MSIX0_PBA] s t) ∧
  (∀ (zone : Fin 32) (s : State), 1 ≤ s.sstate → s.sstate ≤ 4 → s.och.writing = [] → s.och.reading = none → s.mc3Runs = true →
      s.mot.held ≠ [] →
     ∃ t, exec (.spindleZoneChange zone) s = .next t ∧ t.sstate = 1 ∧ t.get Reg.MOT_SPN_TARGET_TARGET = zoneSpeed zone.val %
         65536 ∧
       t.mot.zone = zone.val ∧ Keeps [.mot, .pwr] [Reg.MOT_SPN_STATUS_WORD, Reg.MOT_SPN_TARGET_WORD] s t) ∧
  (∀ s : State, s.sstate ≠ 0 → s.sstate ≠ 5 → s.sstate ≠ 6 →
     ∃ t, exec .spindleBrakeRegen s = .next t ∧ t.sstate = 5 ∧ t.get Reg.MOT_SPN_TARGET_TARGET = 0 ∧ Keeps []
         [Reg.MOT_SPN_STATUS_WORD, Reg.MOT_SPN_TARGET_WORD] s t) ∧
  (∀ (speed : Nat) (s : State), s.sstate = 5 → speed < 10 * s.get Reg.MOT_SPN_BRAKE_SHORT_RPM → speed < 65536 →
     ∃ t, exec (.spindleBrakeShort speed) s = .next t ∧ t.sstate = 6 ∧ t.get Reg.MOT_SPN_STATUS_SPEED = speed ∧ Keeps []
         [Reg.MOT_SPN_STATUS_WORD] s t) ∧
  (∀ s : State, s.sstate = 6 →
     ∃ t, exec .spindleStopped s = .next t ∧ t.sstate = 0 ∧ t.get Reg.MOT_SPN_STATUS_SPEED = 0 ∧ t.pwr.spindleOn = false ∧
         t.mot.hall = false ∧
       Keeps [.mot, .pwr] [Reg.MOT_SPN_STATUS_WORD] s t) ∧
  (∀ (q : Requester) (v : Word) (s : State), s.barShut q = false → s.archived = true → bitsOf v 31 31 = 1 → s.flag
      Reg.MOT_SPN_SVC_EN = false →
     s.mot.held = [] → s.sstate = 0 → s.driven = true → s.get Reg.MOT_STATUS_STATE = 2 → s.spinAllowed = true →
     ∃ t, exec (.spindleServiceEnable q v) s = .next t ∧ t.sstate = 7 ∧ t.pwr.spindleOn = true ∧ t.mot.svcLost = false ∧
       Keeps [.mot, .pwr, .outbox, .fresh] (errorRegs ++ [Reg.MOT_STATUS_WORD, Reg.MOT_SPN_STATUS_WORD,
           Reg.MOT_SPN_TARGET_WORD, Reg.MOT_SPN_SVC_WORD]) s t) ∧
  (∀ (q : Requester) (v : Word) (s : State), s.barShut q = false → s.archived = true → bitsOf v 31 31 = 1 → s.flag
      Reg.MOT_SPN_SVC_EN = false →
     s.mot.held ≠ [] →
     ∃ t, exec (.spindleServiceEnable q v) s = .next t ∧ t.flag Reg.MOT_STATUS_CFG_REJ = true ∧ t.sstate = s.sstate ∧ Keeps
         [.mot, .pwr, .outbox, .fresh] (errorRegs ++ [Reg.MOT_STATUS_WORD, Reg.MOT_SPN_STATUS_WORD, Reg.MOT_SPN_TARGET_WORD,
         Reg.MOT_SPN_SVC_WORD]) s t) ∧
  (∀ s : State, s.get Reg.MOT_SPN_SAMPLE_PRED_MAX ≤ s.mot.predicted →
     ∃ t, exec .currentPredictionLimit s = .next t ∧ t.mot = { s.mot with predicted := 0, scale := true } ∧
       t.flag Reg.MOT_STATUS_PREDICT_EV = true ∧ Keeps [.mot, .outbox] [Reg.MOT_STATUS_WORD, Reg.MSIX1_PBA, Reg.MSIX0_PBA] s t)
           ∧
  (∀ (speed : Nat) (s : State), s.part.archive = true → speed < 65536 →
     ∃ t, exec (.kineticEnergyUpdate speed) s = .next t ∧ t.get Reg.MOT_SPN_STATUS_SPEED = speed ∧
       t.get Reg.MOT_SPN_KE_KE = s.kinetic speed ∧ Keeps [] [Reg.PWR_HOLDUP_STATUS_WORD, Reg.MAG_SAVE_WORD,
           Reg.MOT_SPN_STATUS_WORD, Reg.MOT_SPN_KE_WORD] s t) ∧
  (∀ (i : PwmInput) (s : State),
     ∃ t, exec (.pwmPeriod i) s = .next t ∧ t.mot.periods = (s.mot.periods + 1) % 8 ∧ t.mot.scale = false ∧
       (s.pwr.spindleOn = false → t.mot.iqRef = 0) ∧ Keeps [.gal, .mot, .col, .fresh] [Reg.CAP_DEVTIME_LO, Reg.CAP_DEVTIME_HI,
           Reg.GAL_THROTTLE_LO, Reg.GAL_THROTTLE_HI, Reg.MOT_SPN_STATUS_WORD, Reg.MOT_SPN_TARGET_WORD, Reg.MOT_SPN_SVC_IN_WORD,
           Reg.MOT_SKIPS, Reg.MOT_PREDICTS, Reg.MOT_CLAMPS, Reg.MOT_REGEN_LIMITS, Reg.MOT_AXIS_POS_WORD,
           Reg.MOT_AXIS_STATUS_WORD, Reg.COL_TIME_LO, Reg.COL_TIME_HI] s t)

/-- Stepper axes: commands, ends of moves, homing. SEEK, SWEEP, RESUME, HOME and PARK start their moves when the requester, the
unit, the supply, the position and the interlock allow it; without a valid position they are refused with CFG_REJ, against
the interlock with INTERLOCK_EV. STOP slows down. A move ends with the axis standing where it is; a slowed sweep keeps what
remains. The last home edge sets POS_VALID and the home position; a home search beyond HOME_MAX fails. Of each command the
frame says what parts and registers it leaves alone. -/
def Obligations.Axes : Prop :=
  (∀ (q : Requester) (a : AxisIx) (s : State), s.barShut q = false → s.archived = true → s.axisHeld q = false → s.posValid
      a.val = true →
     s.get Reg.MOT_STATUS_STATE = 2 → s.get Reg.PWR_HOLDUP_STATUS_STATE ≠ 2 → s.pwr.vdrvLow = false → s.driven = true →
     s.moveAllowed a.val = true →
     ∃ t, exec (.seek q a) s = .next t ∧ t = s.startMove a.val 1 (s.getInt Reg.MOT_AXIS_TARGET_TARGET a.val) 0 ∧
       t.get Reg.MOT_AXIS_STATUS_KIND a.val = 1 ∧ t.flag Reg.MOT_AXIS_STATUS_MOVING a.val = true ∧ t.get
           Reg.MOT_AXIS_STATUS_ASTATE a.val = 2 ∧
       Keeps [.mot, .pwr, .outbox, .fresh] (errorRegs ++ axisRegs) s t) ∧
  (∀ (q : Requester) (a : AxisIx) (s : State), s.barShut q = false → s.archived = true → s.axisHeld q = false → s.posValid
      a.val = true →
     s.get Reg.MOT_STATUS_STATE = 2 → s.get Reg.PWR_HOLDUP_STATUS_STATE ≠ 2 → s.pwr.vdrvLow = false → s.driven = true →
     s.moveAllowed a.val = false →
     ∃ t, exec (.seek q a) s = .next t ∧ t.flag Reg.MOT_STATUS_INTERLOCK_EV = true ∧ t.mot = s.mot ∧ Keeps [.mot, .pwr,
         .outbox, .fresh] (errorRegs ++ axisRegs) s t) ∧
  (∀ (q : Requester) (a : AxisIx) (s : State), s.barShut q = false → s.archived = true → s.posValid a.val = false →
     ∃ t, exec (.seek q a) s = .next t ∧ t.flag Reg.MOT_STATUS_CFG_REJ = true ∧ t.mot = s.mot ∧ Keeps [.mot, .pwr, .outbox,
         .fresh] (errorRegs ++ axisRegs) s t) ∧
  (∀ (q : Requester) (a : AxisIx) (s : State), s.barShut q = false → s.archived = true → s.axisHeld q = false → s.posValid
      a.val = true →
     s.get Reg.MOT_STATUS_STATE = 2 → s.get Reg.PWR_HOLDUP_STATUS_STATE ≠ 2 → s.pwr.vdrvLow = false → s.driven = true →
     s.moveAllowed a.val = true →
     ∃ t, exec (.sweep q a) s = .next t ∧
       t = s.startMove a.val 2 (s.getInt Reg.MOT_AXIS_TARGET_TARGET a.val) (s.getInt Reg.MOT_AXIS_SWEEP_V_SWEEP_V a.val) ∧
       t.get Reg.MOT_AXIS_STATUS_KIND a.val = 2 ∧ t.flag Reg.MOT_AXIS_STATUS_MOVING a.val = true ∧ Keeps [.mot, .pwr, .outbox,
           .fresh] (errorRegs ++ axisRegs) s t) ∧
  (∀ (q : Requester) (a : AxisIx) (s : State), s.barShut q = false → s.archived = true → s.axisHeld q = false →
     s.flag Reg.MOT_AXIS_STATUS_MOVING a.val = true →
     ∃ t, exec (.axisStop q a) s = .next t ∧ t.get Reg.MOT_AXIS_STATUS_ASTATE a.val = 3 ∧ Keeps [.outbox, .fresh] (errorRegs ++
         [Reg.MOT_STATUS_WORD, Reg.MOT_AXIS_STATUS_WORD]) s t) ∧
  (∀ (q : Requester) (a : AxisIx) (target v : Int) (s : State), s.barShut q = false → s.archived = true → s.axisHeld q = false →
     s.posValid a.val = true → s.get Reg.MOT_STATUS_STATE = 2 → s.get Reg.PWR_HOLDUP_STATUS_STATE ≠ 2 → s.pwr.vdrvLow = false →
         s.driven = true →
     s.moveAllowed a.val = true → (s.axis a.val).resume = some (target, v) → s.getInt Reg.MOT_AXIS_REMAIN_REMAIN a.val ≠ 0 →
     (s.axis a.val).moved = false →
     ∃ t, exec (.axisResume q a) s = .next t ∧ t = s.startMove a.val 2 target v ∧ t.get Reg.MOT_AXIS_STATUS_KIND a.val = 2 ∧
       t.getInt Reg.MOT_AXIS_REMAIN_REMAIN a.val = 0 ∧ Keeps [.mot, .pwr, .outbox, .fresh] (errorRegs ++ axisRegs) s t) ∧
  (∀ (q : Requester) (a : AxisIx) (s : State), s.barShut q = false → s.archived = true →
     (s.axis a.val).resume = none ∨ s.getInt Reg.MOT_AXIS_REMAIN_REMAIN a.val = 0 ∨ (s.axis a.val).moved = true →
     ∃ t, exec (.axisResume q a) s = .next t ∧ t.flag Reg.MOT_STATUS_CFG_REJ = true ∧ t.mot = s.mot ∧ Keeps [.mot, .pwr,
         .outbox, .fresh] (errorRegs ++ axisRegs) s t) ∧
  (∀ (q : Requester) (a : AxisIx) (s : State), s.barShut q = false → s.archived = true → s.axisHeld q = false →
     s.get Reg.MOT_STATUS_STATE = 2 → s.get Reg.PWR_HOLDUP_STATUS_STATE ≠ 2 → s.pwr.vdrvLow = false → s.driven = true →
     s.moveAllowed a.val = true →
     ∃ t, exec (.home q a) s = .next t ∧ t = s.startHome a.val ∧ t.get Reg.MOT_AXIS_STATUS_KIND a.val = 3 ∧
       t.flag Reg.MOT_AXIS_STATUS_MOVING a.val = true ∧ Keeps [.mot, .pwr, .outbox, .fresh] (errorRegs ++ axisRegs) s t) ∧
  (∀ (q : Requester) (s : State), s.barShut q = false → s.archived = true → s.axisHeld q = false → s.posValid 0 = true →
     s.get Reg.MOT_STATUS_STATE = 2 → s.get Reg.PWR_HOLDUP_STATUS_STATE ≠ 2 → s.pwr.vdrvLow = false → s.driven = true →
     ∃ t, exec (.park q 0) s = .next t ∧ t = s.startMove 0 1 (s.getInt Reg.MOT_AXIS_PARK_PARK_POS 0) 0 ∧
       t.get Reg.MOT_AXIS_STATUS_KIND 0 = 1 ∧ Keeps [.mot, .pwr, .outbox, .fresh] (errorRegs ++ axisRegs) s t) ∧
  (∀ (a : AxisIx) (pos : Int) (s : State), s.flag Reg.MOT_AXIS_STATUS_MOVING a.val = true → s.get Reg.MOT_AXIS_STATUS_KIND
      a.val = 1 →
     s.get Reg.MOT_AXIS_STATUS_ASTATE a.val ≠ 3 →
     ∃ t, exec (.axisMoveComplete a pos) s = .next t ∧ t = s.standAt a.val (s.axis a.val).target ∧
       t.flag Reg.MOT_AXIS_STATUS_MOVING a.val = false ∧ t.get Reg.MOT_AXIS_STATUS_ASTATE a.val = 1 ∧ t.get
           Reg.MOT_AXIS_STATUS_KIND a.val = 0 ∧
       Keeps [.mot] [Reg.MOT_AXIS_POS_WORD, Reg.MOT_AXIS_REMAIN_WORD, Reg.MOT_AXIS_STATUS_WORD] s t) ∧
  (∀ (a : AxisIx) (pos : Int) (s : State), s.flag Reg.MOT_AXIS_STATUS_MOVING a.val = true → s.get Reg.MOT_AXIS_STATUS_KIND
      a.val = 2 →
     s.get Reg.MOT_AXIS_STATUS_ASTATE a.val = 3 →
     ∃ t, exec (.axisMoveComplete a pos) s = .next t ∧
       (-2 ^ 31 ≤ (s.axis a.val).target - pos → (s.axis a.val).target - pos < 2 ^ 31 →
         t.getInt Reg.MOT_AXIS_REMAIN_REMAIN a.val = (s.axis a.val).target - pos) ∧
       t.flag Reg.MOT_AXIS_STATUS_MOVING a.val = false ∧ Keeps [.mot] [Reg.MOT_AXIS_POS_WORD, Reg.MOT_AXIS_REMAIN_WORD,
           Reg.MOT_AXIS_STATUS_WORD] s t) ∧
  (∀ (a : AxisIx) (s : State), s.flag Reg.MOT_AXIS_STATUS_MOVING a.val = false →
     ∃ t, exec (.axisStandstill a) s = .next t ∧ t.mot = { s.mot with axes := s.mot.axes.set a.val { s.axis a.val with held :=
         true } } ∧
       Keeps [.mot] [] s t) ∧
  (∀ (a : AxisIx) (s : State), s.get Reg.MOT_AXIS_STATUS_KIND a.val = 3 → (s.axis a.val).homing = some .final →
     ∃ t, exec (.homeSwitchEdge a true) s = .next t ∧ t.flag Reg.MOT_AXIS_STATUS_POS_VALID a.val = true ∧
       t.getInt Reg.MOT_AXIS_POS_POS a.val = s.getInt Reg.MOT_AXIS_HOME_HOME_POS a.val ∧ t.get Reg.MOT_AXIS_STATUS_ASTATE a.val
           = 3 ∧
       Keeps [.mot] [Reg.MOT_AXIS_POS_WORD, Reg.MOT_AXIS_STATUS_WORD] s t) ∧
  (∀ (a : AxisIx) (pos : Int) (s : State), s.get Reg.MOT_AXIS_STATUS_KIND a.val = 3 → (s.axis a.val).homing ≠ none →
     256 * s.get Reg.MOT_AXIS_HOME_LIM_HOME_MAX a.val ≤ (pos - (s.axis a.val).homeStart).natAbs → s.mot.exchange = none →
     ∃ t, exec (.homeFail a pos) s = .next t ∧ t.get Reg.MOT_AXIS_STATUS_ASTATE a.val = 4 ∧ t.flag Reg.MOT_STATUS_HOME_FAIL_EV
         = true ∧
       t.flag Reg.MOT_AXIS_STATUS_MOVING a.val = false ∧ Keeps [.pcie, .hq, .mot, .sec, .outbox] (finishRegs ++
           [Reg.MOT_STATUS_WORD, Reg.MOT_AXIS_STATUS_WORD]) s t)

/-- The disc exchanger and the drives. A step that times out ends the exchange with status 0x0D; after a reset a disc on the
fork goes back to the slot that the MEDIA journal names, and without one no disc is moved. The drive supply's undervoltage
puts every half-bridge output to 0. PWM_PERIOD is taken while no bridge is enabled and its fields are in order, else
refused. DISABLE, CNT_CLR and the cartridge switch do what their rows say. Of each command the frame says what parts and
registers it leaves alone. -/
def Obligations.ExchangerAndDrives : Prop :=
  (∀ (x : Exchange) (s : State), s.mot.exchange = some x →
     ∃ t, exec .exchangeStepTimeout s = .next t ∧ t = s.exchangeFail 0x0D ∧ t.mot.exchange = none ∧ Keeps [.pcie, .hq, .mot,
         .sec, .outbox] (finishRegs ++ [Reg.MOT_AXIS_STATUS_WORD]) s t) ∧
  (∀ (b : Bool) (s : State),
     ∃ t, exec (.discSenseChange b) s = .next t ∧ t = { s with mot := { s.mot with discSense := b } } ∧ Keeps [.mot] [] s t) ∧
  (∀ (i g n x y : Nat) (s : State), s.mot.exchange = none → s.mot.forkFound = true → s.mot.discSense = true → s.mot.clamped =
      false →
     s.mc3Runs = true → currentOf (s.journalEntries 4 0x1E00000) 2 = some (i, g, n, x, y) →
     ∃ t, exec .discReturnAfterReset s = .next t ∧ t.mot.forkFound = false ∧
       t.mot.exchange = some ⟨none, false, fieldAt (s.flashRead (0x1E00000 + 4096 * i + 32 * g) (32 * n)) 8 1,
         returnActs (fieldAt (s.flashRead (0x1E00000 + 4096 * i + 32 * g) (32 * n)) 8 1), false⟩ ∧ Keeps [.pcie, .hq, .och,
             .srv, .mot, .sec, .efc, .pwr, .outbox] (finishRegs ++ axisRegs ++ [Reg.OCH_LASER_DRIVE_WORD,
             Reg.SRV_LOOP_STATUS_WORD, Reg.SRV_COIL_STATUS_WORD, Reg.MOT_SPN_STATUS_WORD, Reg.MOT_SPN_TARGET_WORD,
             Reg.EFC_PROGRAMS, Reg.EFC_ERASES]) s t) ∧
  (∀ s : State, s.mot.exchange = none → s.mot.forkFound = true → s.mot.discSense = true → s.mot.clamped = false →
     s.mc3Runs = true → currentOf (s.journalEntries 4 0x1E00000) 2 = none →
     ∃ t, exec .discReturnAfterReset s = .next t ∧ t.mot = { s.mot with noSlot := true, forkFound := false } ∧ Keeps [.pcie,
         .hq, .och, .srv, .mot, .sec, .efc, .pwr, .outbox] (finishRegs ++ axisRegs ++ [Reg.OCH_LASER_DRIVE_WORD,
         Reg.SRV_LOOP_STATUS_WORD, Reg.SRV_COIL_STATUS_WORD, Reg.MOT_SPN_STATUS_WORD, Reg.MOT_SPN_TARGET_WORD,
         Reg.EFC_PROGRAMS, Reg.EFC_ERASES]) s t) ∧
  (∀ s : State,
     ∃ t, exec .vdrvUndervoltage s = .next t ∧ t.pwr = { s.pwr with vdrvLow := true } ∧
       t.mot = { s.mot with bridges := s.mot.bridges.map (fun b => (b.1, { b.2 with out := 0 })) } ∧ Keeps [.mot, .pwr] [] s t)
           ∧
  (∀ s : State,
     ∃ t, exec .vdrvRecovery s = .next t ∧ t.pwr = { s.pwr with vdrvLow := false } ∧ Keeps [.pwr] [] s t) ∧
  (∀ (v : Word) (s : State), s.archived = true → s.mot.bridges = [] →
     bitsOf (s.written Reg.MOT_PWM_PERIOD.base v) 7 0 ≤ bitsOf (s.written Reg.MOT_PWM_PERIOD.base v) 15 8 →
     4 * bitsOf (s.written Reg.MOT_PWM_PERIOD.base v) 15 8 ≤ bitsOf (s.written Reg.MOT_PWM_PERIOD.base v) 31 16 →
     ∃ t, exec (.motPwmWrite v) s = .next t ∧ t.rd Reg.MOT_PWM_PERIOD.base = s.written Reg.MOT_PWM_PERIOD.base v ∧ Keeps
         [.outbox] [Reg.MOT_STATUS_WORD, Reg.MOT_PWM_WORD, Reg.MSIX1_PBA, Reg.MSIX0_PBA] s t) ∧
  (∀ (v : Word) (s : State), s.archived = true → s.mot.bridges ≠ [] → s.written Reg.MOT_PWM_PERIOD.base v ≠ s.rd
      Reg.MOT_PWM_PERIOD.base →
     ∃ t, exec (.motPwmWrite v) s = .next t ∧ t.flag Reg.MOT_STATUS_CFG_REJ = true ∧ t.rd Reg.MOT_PWM_PERIOD.base = s.rd
         Reg.MOT_PWM_PERIOD.base ∧
       Keeps [.outbox] [Reg.MOT_STATUS_WORD, Reg.MOT_PWM_WORD, Reg.MSIX1_PBA, Reg.MSIX0_PBA] s t) ∧
  (∀ s : State, s.archived = true →
     ∃ t, exec .motDisable s = .next t ∧ t = s.motEnable false ∧ Keeps [.pcie, .hq, .och, .mot, .sec, .efc, .pwr, .outbox]
         (finishRegs ++ axisRegs ++ [Reg.OCH_STATUS_WORD, Reg.OCH_PROOF_FAIL, Reg.MOT_CTL_WORD, Reg.MOT_SPN_STATUS_WORD,
         Reg.MOT_SPN_TARGET_WORD, Reg.EFC_PROGRAMS, Reg.EFC_ERASES]) s t) ∧
  (∀ s : State, s.archived = true →
     ∃ t, exec .motCntClr s = .next t ∧ t.get Reg.MOT_SKIPS = 0 ∧ t.get Reg.MOT_PREDICTS = 0 ∧ t.get Reg.MOT_CLAMPS = 0 ∧
       t.get Reg.MOT_PHASE_LOSS = 0 ∧ t.get Reg.MOT_REGEN_LIMITS = 0 ∧ Keeps [] [Reg.MOT_SKIPS, Reg.MOT_PREDICTS,
           Reg.MOT_CLAMPS, Reg.MOT_PHASE_LOSS, Reg.MOT_REGEN_LIMITS] s t) ∧
  (∀ (c : Option Cartridge) (s : State),
     ∃ t, exec (.cartPresentChange c) s = .next t ∧ t.och = { s.och with cartridge := c } ∧
       t.mot = { s.mot with cartPresent := c.isSome, noSlot := s.mot.noSlot && c.isNone } ∧ Keeps [.och, .mot] [] s t)

/-- The colophon: power, discipline, time of day, authority and configuration changes. Its power-on reset clears open records
and messages and keeps what lies in OTP. A start-up ends RUNNING or FAILED by its self-test. The discipline state follows
R434 at a gate, a PPS edge, a PPS loss and the end of HOLDOVER. TOD arms only with TIMESCALE PPS, no open record and a
locked clock. An authority key on the curve is taken once. A signed change with the next index is sealed and reports
SUCCESS; a wrong index reports 4 and changes nothing. CNT_CLR clears the counters but TOD_SETS. Of each command the frame
says what parts and registers it leaves alone. -/
def Obligations.ColophonClock : Prop :=
  (∀ s : State, s.part.colophon = true →
     ∃ t, exec .colophonPowerOnReset s = .next t ∧ t.col.powered = false ∧ t.flag Reg.COL_STATUS_POWER = false ∧ t.col.recs =
         [] ∧ t.col.toCol = [] ∧
       t.col.sealCount = s.col.sealCount ∧ t.col.entries = s.col.entries ∧ t.col.authKey = s.col.authKey ∧
       (∀ k, k < 0x100000000 ∨ 0x100100000 ≤ k ∧ k < 0x400000000 → t.rd k = s.rd k) ∧ KeepsParts [.cap, .col, .outbox] s t) ∧
  (∀ s : State, s.col.powered = true → s.get Reg.COL_STATUS_STATE = 1 → s.col.toCol = [] → s.flag Reg.COL_STATUS_HELD = false →
     ∃ t, exec (.colophonStartupComplete true) s = .next t ∧ t.get Reg.COL_STATUS_STATE = 2 ∧ t.col = s.col ∧ Keeps [.col,
         .outbox, .fresh] (recordRegs ++ [Reg.COL_CTL_WORD]) s t) ∧
  (∀ s : State, s.col.powered = true → s.get Reg.COL_STATUS_STATE = 1 →
     ∃ t, exec (.colophonStartupComplete false) s = .next t ∧ t.get Reg.COL_STATUS_STATE = 4 ∧ t.col = s.col ∧ Keeps [.col,
         .outbox, .fresh] (recordRegs ++ [Reg.COL_CTL_WORD]) s t) ∧
  (∀ s : State, s.col.powered = true → s.get Reg.COL_STATUS_STATE = 2 →
     ∃ t, exec .colophonDisable s = .next t ∧ t.get Reg.COL_STATUS_STATE = 3 ∧ t.flag Reg.COL_CTL_EN = false ∧ Keeps [.col,
         .outbox, .fresh] (recordRegs ++ [Reg.COL_CTL_WORD]) s t) ∧
  (∀ (good : Bool) (inc : Nat) (s : State), s.col.powered = true → s.disc < 4 →
     ∃ t, exec (.disciplineGate good inc) s = .next t ∧ (s.disc = 0 → t.disc = if good then 1 else 0) ∧
       (s.disc = 1 → t.disc = if good then 1 else 0) ∧ (s.disc = 2 → t.disc = if good then 2 else 0) ∧
       (s.disc = 3 → t.disc = if good then 3 else 4) ∧ (s.disc < 2 → good = true → t.col.inc = inc) ∧ Keeps [.col, .outbox]
           [Reg.COL_STATUS_WORD, Reg.COL_UNC, Reg.MSIX1_PBA, Reg.MSIX0_PBA] s t) ∧
  (∀ (elapsed inc : Nat) (s : State), s.col.powered = true → s.disc = 1 → s.col.todArmed = false → s.col.ppsGood = 3 →
     (∀ x, s.col.lastPps = some x → 10 ^ 10 - 10 ^ 4 ≤ s.cert - elapsed - x ∧ s.cert - elapsed - x ≤ 10 ^ 10 + 10 ^ 4) →
     s.col.lastPps ≠ none →
     ∃ t, exec (.ppsEdge elapsed inc) s = .next t ∧ t.disc = 2 ∧ t.col.lastPps = some (s.cert - elapsed) ∧ t.col.phaseErr =
         phaseOf (s.cert - elapsed) ∧
       Keeps [.col, .outbox] [Reg.COL_STATUS_WORD, Reg.COL_UNC, Reg.COL_TIME_LO, Reg.COL_TIME_HI, Reg.COL_TOD_SETS,
           Reg.MSIX1_PBA, Reg.MSIX0_PBA] s t) ∧
  (∀ s : State, s.col.powered = true → s.disc = 3 →
     ∃ t, exec .ppsLoss s = .next t ∧ t.disc = 4 ∧ Keeps [.col, .outbox] [Reg.COL_STATUS_WORD, Reg.COL_UNC, Reg.MSIX1_PBA,
         Reg.MSIX0_PBA] s t) ∧
  (∀ s : State, s.col.powered = true → s.disc = 4 →
     ∃ t, exec .holdoverExpiry s = .next t ∧ t.disc = 0 ∧ Keeps [.col, .outbox] [Reg.COL_STATUS_WORD, Reg.COL_UNC,
         Reg.MSIX1_PBA, Reg.MSIX0_PBA] s t) ∧
  (∀ s : State, s.col.powered = true → s.timescalePps = true → s.col.recs = [] → s.disc = 2 ∨ s.disc = 3 →
     ∃ t, exec .todArm s = .next t ∧ t.col = { s.col with todArmed := true } ∧ Keeps [.col, .outbox] [Reg.COL_STATUS_WORD,
         Reg.MSIX1_PBA, Reg.MSIX0_PBA] s t) ∧
  (∀ s : State, s.col.powered = true → s.timescalePps = false ∨ s.col.recs ≠ [] ∨ (s.disc ≠ 2 ∧ s.disc ≠ 3) →
     ∃ t, exec .todArm s = .next t ∧ t.flag Reg.COL_STATUS_CFG_REJ = true ∧ t.col = s.col ∧ Keeps [.col, .outbox]
         [Reg.COL_STATUS_WORD, Reg.MSIX1_PBA, Reg.MSIX0_PBA] s t) ∧
  (∀ s : State, s.col.powered = true → s.flag Reg.COL_AUTH_PROVISIONED = false →
     onCurve (beNat ((s.colBytes Reg.COL_AUTH_KEY 24).take 48)) (beNat ((s.colBytes Reg.COL_AUTH_KEY 24).drop 48)) = true →
     ∃ t, exec .authProvision s = .next t ∧ t.flag Reg.COL_AUTH_PROVISIONED = true ∧
       t.col = { s.col with authKey := some (s.colBytes Reg.COL_AUTH_KEY 24) } ∧ Keeps [.col] [Reg.COL_AUTH_WORD] s t) ∧
  (∀ (cell : Fin 3) (entryOk : Bool) (key : List Byte) (s : State), s.col.powered = true → s.col.authKey = some key →
     fieldAt (s.colBytes Reg.COL_CHANGE 56) 4 2 = s.col.sealCount + 1 →
     ecdsaVerify key ((s.colBytes Reg.COL_CHANGE 56).take 128) (((s.colBytes Reg.COL_CHANGE 56).drop 128).take 96) = true →
     s.col.recs = [] → s.col.sealCount < 256 → cell.val = 2 → entryOk = true →
     ∃ t, exec (.changeGo cell entryOk) s = .next t ∧ t.col.sealCount = s.col.sealCount + 1 ∧
       t.get Reg.COL_CHANGE_STATUS_RESULT = 2 ∧ t.flag Reg.COL_STATUS_CHANGE_EV = true ∧ Keeps [.col, .outbox]
           [Reg.COL_STATUS_WORD, Reg.COL_SEAL_WORD, Reg.COL_CHANGE_STATUS_WORD, Reg.MSIX1_PBA, Reg.MSIX0_PBA] s t) ∧
  (∀ (cell : Fin 3) (entryOk : Bool) (s : State), s.col.powered = true → fieldAt (s.colBytes Reg.COL_CHANGE 56) 4 2 ≠
      s.col.sealCount + 1 →
     ∃ t, exec (.changeGo cell entryOk) s = .next t ∧ t = s.changeResult 4 ∧ t.col = s.col ∧ Keeps [.col, .outbox]
         [Reg.COL_STATUS_WORD, Reg.COL_SEAL_WORD, Reg.COL_CHANGE_STATUS_WORD, Reg.MSIX1_PBA, Reg.MSIX0_PBA] s t) ∧
  (∀ s : State, s.part.colophon = true → s.col.powered = false →
     ∃ t, exec .colVddReturn s = .next t ∧ t.col.powered = true ∧ t.flag Reg.COL_STATUS_POWER = true ∧ Keeps [.col, .fresh]
         [Reg.COL_STATUS_WORD] s t) ∧
  (∀ s : State, s.col.powered = true →
     ∃ t, exec .colCntClr s = .next t ∧ t.get64 Reg.COL_STROBES = 0 ∧ t.get Reg.COL_UNANSWERED = 0 ∧
       (∀ i < 8, t.get Reg.COL_CH_COUNT i = 0 ∧ t.get Reg.COL_CH_OVERRUN i = 0) ∧ t.get Reg.COL_TOD_SETS = s.get
           Reg.COL_TOD_SETS ∧ Keeps [] [Reg.COL_STROBES_LO, Reg.COL_STROBES_HI, Reg.COL_UNANSWERED, Reg.COL_CH_COUNT,
           Reg.COL_CH_OVERRUN] s t)

/-- The colophon: strobes, edges, take records. A strobe that may be certified is answered with its certified time and counted,
else it is counted UNANSWERED. A selected edge is timed and counted; one less than 400 units of 10 ps after the last is an
overrun. OPEN opens a record in its segment, MEMBER counts, CLOSE signs the record and moves the head; a message to a
colophon that does not run is discarded. Losing the heartbeat closes the link. Of each command the frame says what parts
and registers it leaves alone. -/
def Obligations.TakeRecords : Prop :=
  (∀ (frame time : Nat) (s : State), s.col.toCol.find? ColMsg.isStrobe = some (.strobe frame time) → s.col.powered = true →
     s.get Reg.COL_STATUS_STATE = 2 → s.flag Reg.CLK_PLL_STATUS_COL_LOCK = true → s.requireLock = false ∨ s.disc = 3 →
     ∃ t, exec .frameStrobe s = .next t ∧ t.col.answers = s.col.answers ++ [(frame, s.certAt time)] ∧
       t.col.toCol = s.col.toCol.erase (.strobe frame time) ∧ t.get64 Reg.COL_STROBES = min (s.get64 Reg.COL_STROBES + 1) (2 ^
           64 - 1) ∧
       Keeps [.col] [Reg.COL_STROBES_LO, Reg.COL_STROBES_HI, Reg.COL_UNANSWERED] s t) ∧
  (∀ (frame time : Nat) (s : State), s.col.toCol.find? ColMsg.isStrobe = some (.strobe frame time) → s.col.powered = true →
     s.get Reg.COL_STATUS_STATE ≠ 2 ∨ s.flag Reg.CLK_PLL_STATUS_COL_LOCK = false →
     ∃ t, exec .frameStrobe s = .next t ∧ t.col.answers = s.col.answers ∧ t.col.toCol = s.col.toCol.erase (.strobe frame time) ∧
       t.get Reg.COL_UNANSWERED = min (s.get Reg.COL_UNANSWERED + 1) (2 ^ 32 - 1) ∧ Keeps [.col] [Reg.COL_STROBES_LO,
           Reg.COL_STROBES_HI, Reg.COL_UNANSWERED] s t) ∧
  (∀ (i : TrigIx) (rising : Bool) (fine : Fin 10) (s : State), s.col.powered = true → s.get Reg.COL_STATUS_STATE = 2 →
     tdcTimes (s.tdcCfg i.val) rising = true → s.col.lastEdge.lookup i.val = none →
     ∃ t, exec (.tdcEdge i rising fine) s = .next t ∧ t.get Reg.COL_CH_COUNT i.val = min (s.get Reg.COL_CH_COUNT i.val + 1) (2
         ^ 32 - 1) ∧
       t.col.lastEdge = insertKey s.col.lastEdge i.val (10 * s.cert + fine.val) ∧ t.flag Reg.COL_CH_LAST_FINE_EDGE i.val =
           !rising ∧
       Keeps [.col, .outbox] [Reg.COL_STATUS_WORD, Reg.COL_CH_LAST_LO, Reg.COL_CH_LAST_HI, Reg.COL_CH_LAST_FINE_WORD,
           Reg.COL_CH_COUNT, Reg.COL_CH_OVERRUN, Reg.MSIX1_PBA, Reg.MSIX0_PBA] s t) ∧
  (∀ (i : TrigIx) (rising : Bool) (fine : Fin 10) (x : Nat) (s : State), s.col.powered = true → s.get Reg.COL_STATUS_STATE = 2 →
     tdcTimes (s.tdcCfg i.val) rising = true → s.col.lastEdge.lookup i.val = some x → 10 * s.cert + fine.val < x + 400 →
     ∃ t, exec (.tdcEdge i rising fine) s = .next t ∧
       t.get Reg.COL_CH_OVERRUN i.val = min (s.get Reg.COL_CH_OVERRUN i.val + 1) (2 ^ 32 - 1) ∧ t.col = s.col ∧ Keeps [.col,
           .outbox] [Reg.COL_STATUS_WORD, Reg.COL_CH_LAST_LO, Reg.COL_CH_LAST_HI, Reg.COL_CH_LAST_FINE_WORD, Reg.COL_CH_COUNT,
           Reg.COL_CH_OVERRUN, Reg.MSIX1_PBA, Reg.MSIX0_PBA] s t) ∧
  (∀ (g id : Nat) (s : State), s.col.toCol.find? (fun m => !m.isStrobe) = some (.openTake g id) → s.col.powered = true →
     s.get Reg.COL_STATUS_STATE = 2 →
     ∃ t, exec .takeOpenMessage s = .next t ∧ t.regs = s.regs ∧
       (∃ r : OpenRec, r.seg = g ∧ r.takeId = id ∧ r.discWorst = s.disc ∧ r.openCert = s.cert ∧ r.stored = [] ∧
         t.col.recs = s.col.recs.filter (fun q => q.seg != g) ++ [r]) ∧ Keeps [.col, .outbox, .fresh] recordRegs s t) ∧
  (∀ (g frame : Nat) (uncert : Bool) (s : State), s.col.toCol.find? (fun m => !m.isStrobe) = some (.member g frame false
      uncert) →
     s.col.powered = true → s.get Reg.COL_STATUS_STATE = 2 → s.col.opens.length < 65536 →
     ∃ t, exec .membershipDecision s = .next t ∧ t.regs = s.regs ∧
       t.col.recs = s.col.recs.map (fun r => if r.seg != g then r else { r with notStored := r.notStored + 1 }) ∧
       Keeps [.col, .outbox, .fresh] recordRegs s t) ∧
  (∀ (g id first trig last : Nat) (save : Bool) (r : OpenRec) (s : State),
     s.col.toCol.find? (fun m => !m.isStrobe) = some (.closeTake g id first trig last save) → s.col.powered = true → s.get
         Reg.COL_STATUS_STATE = 2 →
     s.col.recs.find? (fun r => r.seg == g && r.takeId == id) = some r →
     ∃ t, exec .takeCloseMessage s = .next t ∧ t.col.recordSeq = s.col.recordSeq + 1 ∧ t.col.recs = s.col.recs.filter (fun q =>
         q.seg != r.seg) ∧
       t.get64 Reg.COL_REC_HEAD = (s.col.recordSeq + 1) % 2 ^ 64 ∧ t.flag Reg.COL_STATUS_RECORD_EV = true ∧ Keeps [.col,
           .outbox, .fresh] recordRegs s t) ∧
  (∀ (g id : Nat) (s : State), s.col.toCol.find? (fun m => !m.isStrobe) = some (.openTake g id) →
     s.col.powered = false ∨ (s.get Reg.COL_STATUS_STATE ≠ 1 ∧ s.get Reg.COL_STATUS_STATE ≠ 2) →
     ∃ t, exec .takeOpenMessage s = .next t ∧ t.regs = s.regs ∧ t.col.recs = s.col.recs ∧ t.col.discarded = s.col.discarded ++
         [id] ∧
       Keeps [.col, .outbox, .fresh] recordRegs s t) ∧
  (∀ s : State,
     ∃ t, exec .colophonHeartbeatSend s = .next t ∧ t = { s with col := { s.col with heartbeatSeen := true } } ∧ Keeps [.col]
         [] s t) ∧
  (∀ s : State, s.col.powered = true → s.col.heartbeatSeen = true →
     ∃ t, exec .colophonLinkLost s = .next t ∧ t.flag Reg.COL_STATUS_LINK_EV = true ∧ t.col.outRecords = s.col.outRecords ∧
       t.col.recs = [] ∧ Keeps [.col, .outbox, .fresh] recordRegs s t)

/-- The embedded flash: unlock, program, erase, windows, journals. The unlock sequence advances by the right words of its owner
and raises SEQ_ERR on a wrong one. A program, erase or blank check whose last word is written starts and runs, and a
protected one is refused with PROT_VIOL. At completion the flash holds the programmed bytes, an erased sector is blank, and
a program over non-blank bytes ends with code 4. Suspend and resume show in SUSPENDED. A window read answers the flash
bytes, zeros and XO_VIOL where execute-only; a window write only raises PROT_VIOL. The logs are freed, the counters
cleared, and a journal append is journalPut and its compaction. Of each command the frame says what parts and registers it
leaves alone. -/
def Obligations.FlashPort : Prop :=
  (∀ (q : Requester) (v : Word) (s : State), s.barShut q = false → hostPort q = true → s.get Reg.EFC_STATUS_SEQ = 0 → bitsOf v
      15 0 = 0x6E2A →
     ∃ t, exec (.efcKeyWrite q v) s = .next t ∧ t.get Reg.EFC_STATUS_SEQ = 1 ∧ t.efc = { s.efc with owner := some q } ∧ Keeps
         [.efc, .outbox, .fresh] (errorRegs ++ [Reg.EFC_STATUS_WORD]) s t) ∧
  (∀ (q : Requester) (v : Word) (s : State), s.barShut q = false → hostPort q = true → s.get Reg.EFC_STATUS_SEQ = 1 →
      s.efc.owner = some q →
     bitsOf v 15 0 = 0x91D5 →
     ∃ t, exec (.efcKeyWrite q v) s = .next t ∧ t.get Reg.EFC_STATUS_SEQ = 2 ∧ t.efc = s.efc ∧ Keeps [.efc, .outbox, .fresh]
         (errorRegs ++ [Reg.EFC_STATUS_WORD]) s t) ∧
  (∀ (q : Requester) (v : Word) (s : State), s.barShut q = false → hostPort q = true → s.get Reg.EFC_STATUS_SEQ = 0 → bitsOf v
      15 0 ≠ 0x6E2A →
     ∃ t, exec (.efcKeyWrite q v) s = .next t ∧ t.flag Reg.EFC_STATUS_SEQ_ERR = true ∧ Keeps [.efc, .outbox, .fresh] (errorRegs
         ++ [Reg.EFC_STATUS_WORD]) s t) ∧
  (∀ (q : Requester) (v : Word) (s : State), s.barShut q = false → hostPort q = true → s.get Reg.EFC_STATUS_SEQ = 5 →
      s.efc.owner = some q →
     s.efc.words.length = 7 → s.efc.op = some .program → s.efc.refuse = false → s.mayFlash .program (s.get Reg.EFC_ADDR_ADDR) =
         true →
     ∃ t, exec (.program q v) s = .next t ∧ t.get Reg.EFC_STATUS_SEQ = 6 ∧ t.get Reg.EFC_RESULT_CODE = 1 ∧
       t.efc.run = some ⟨.program, s.get Reg.EFC_ADDR_ADDR, (s.efc.words ++ [v]).foldl (fun b w => b ++ leBytes 4 w.toNat) []⟩ ∧
       t.efc.flash = s.efc.flash ∧ Keeps [.efc, .outbox, .fresh] (errorRegs ++ [Reg.EFC_STATUS_WORD, Reg.EFC_RESULT_WORD]) s t)
           ∧
  (∀ (q : Requester) (v : Word) (s : State), s.barShut q = false → hostPort q = true → s.get Reg.EFC_STATUS_SEQ = 5 →
      s.efc.owner = some q →
     s.efc.words.length = 7 → s.efc.op = some .program → s.efc.refuse = false → s.mayFlash .program (s.get Reg.EFC_ADDR_ADDR) =
         false →
     ∃ t, exec (.program q v) s = .next t ∧ t.flag Reg.EFC_STATUS_PROT_VIOL = true ∧ t.get Reg.EFC_RESULT_CODE = 3 ∧
         t.efc.flash = s.efc.flash ∧
       Keeps [.efc, .outbox, .fresh] (errorRegs ++ [Reg.EFC_STATUS_WORD, Reg.EFC_RESULT_WORD]) s t) ∧
  (∀ (q : Requester) (v : Word) (s : State), s.barShut q = false → hostPort q = true → s.get Reg.EFC_STATUS_SEQ = 5 →
      s.efc.owner = some q →
     s.efc.words.length = 7 → s.efc.op = some .otpProgram → s.efc.refuse = false → s.mayFlash .otpProgram (s.get
         Reg.EFC_ADDR_ADDR) = true →
     ∃ t, exec (.otpProgram q v) s = .next t ∧ t.get Reg.EFC_STATUS_SEQ = 6 ∧ t.get Reg.EFC_RESULT_CODE = 1 ∧
       t.efc.run = some ⟨.otpProgram, s.get Reg.EFC_ADDR_ADDR, (s.efc.words ++ [v]).foldl (fun b w => b ++ leBytes 4 w.toNat)
           []⟩ ∧
       t.efc.otp = s.efc.otp ∧ Keeps [.efc, .outbox, .fresh] (errorRegs ++ [Reg.EFC_STATUS_WORD, Reg.EFC_RESULT_WORD]) s t) ∧
  (∀ (q : Requester) (v : Word) (s : State), s.barShut q = false → hostPort q = true → s.get Reg.EFC_STATUS_SEQ = 3 →
      s.efc.owner = some q →
     s.efc.op = some .sectorErase → bitsOf v 24 0 % 4096 = 0 → s.efc.refuse = false → s.mayFlash .sectorErase (bitsOf v 24 0) =
         true →
     ∃ t, exec (.sectorErase q v) s = .next t ∧ t.get Reg.EFC_STATUS_SEQ = 6 ∧ t.get Reg.EFC_RESULT_CODE = 1 ∧
       t.efc.run = some ⟨.sectorErase, bitsOf v 24 0, []⟩ ∧ Keeps [.efc, .outbox, .fresh] (errorRegs ++ [Reg.EFC_STATUS_WORD,
           Reg.EFC_ADDR_WORD, Reg.EFC_RESULT_WORD]) s t) ∧
  (∀ (q : Requester) (v : Word) (s : State), s.barShut q = false → hostPort q = true → s.get Reg.EFC_STATUS_SEQ = 3 →
      s.efc.owner = some q →
     s.efc.op = some .blankCheck → bitsOf v 24 0 % 4096 = 0 → s.efc.refuse = false →
     ∃ t, exec (.blankCheck q v) s = .next t ∧ t.get Reg.EFC_STATUS_SEQ = 6 ∧ t.get Reg.EFC_RESULT_CODE = 1 ∧
       t.efc.run = some ⟨.blankCheck, bitsOf v 24 0, []⟩ ∧ Keeps [.efc, .outbox, .fresh] (errorRegs ++ [Reg.EFC_STATUS_WORD,
           Reg.EFC_ADDR_WORD, Reg.EFC_RESULT_WORD]) s t) ∧
  (∀ (r : FlashRun) (s : State), s.efc.run = some r → s.flag Reg.EFC_STATUS_SUSPENDED = false → r.op = .program →
     allBlank (s.flashRead r.addr 32) = true → s.deadSector r.addr = false →
     ∃ t, exec (.efcOperationComplete true) s = .next t ∧ t.get Reg.EFC_RESULT_CODE = 2 ∧ t.flag Reg.EFC_STATUS_DONE_EV = true ∧
       t.efc.flash = (s.flashPut r.addr r.data).efc.flash ∧ t.efc.run = none ∧
       t.get Reg.EFC_PROGRAMS = min (s.get Reg.EFC_PROGRAMS + 1) (2 ^ 32 - 1) ∧ Keeps [.efc, .outbox, .fresh]
           [Reg.EFC_STATUS_WORD, Reg.EFC_RESULT_WORD, Reg.EFC_PROGRAMS, Reg.EFC_ERASES, Reg.MSIX1_PBA, Reg.MSIX0_PBA] s t) ∧
  (∀ (r : FlashRun) (b : Bool) (s : State), s.efc.run = some r → s.flag Reg.EFC_STATUS_SUSPENDED = false → r.op = .program →
     allBlank (s.flashRead r.addr 32) = false →
     ∃ t, exec (.efcOperationComplete b) s = .next t ∧ t.get Reg.EFC_RESULT_CODE = 4 ∧ t.efc.flash = s.efc.flash ∧ t.efc.run =
         none ∧
       Keeps [.efc, .outbox, .fresh] [Reg.EFC_STATUS_WORD, Reg.EFC_RESULT_WORD, Reg.EFC_PROGRAMS, Reg.EFC_ERASES,
           Reg.MSIX1_PBA, Reg.MSIX0_PBA] s t) ∧
  (∀ (r : FlashRun) (b : Bool) (s : State), s.efc.run = some r → s.flag Reg.EFC_STATUS_SUSPENDED = false → r.op = .sectorErase →
     ∃ t, exec (.efcOperationComplete b) s = .next t ∧ t.get Reg.EFC_RESULT_CODE = 2 ∧ t.efc.flash = sclear s.efc.flash r.addr
         (r.addr + 4096) ∧
       t.efc.run = none ∧ Keeps [.efc, .outbox, .fresh] [Reg.EFC_STATUS_WORD, Reg.EFC_RESULT_WORD, Reg.EFC_PROGRAMS,
           Reg.EFC_ERASES, Reg.MSIX1_PBA, Reg.MSIX0_PBA] s t) ∧
  (∀ (resume : Bool) (r : FlashRun) (s : State), s.efc.run = some r → r.op = .sectorErase →
     ∃ t, exec (.efcEraseSuspend resume) s = .next t ∧ t.flag Reg.EFC_STATUS_SUSPENDED = (!resume) ∧ Keeps []
         [Reg.EFC_STATUS_WORD] s t) ∧
  (∀ (q : Requester) (addr len : Nat) (s : State), s.barShut q = false → 0x2000000 ≤ addr → addr + len ≤ 0x4000000 →
     s.flag Reg.EFC_STATUS_BUSY0 = false → s.flag Reg.EFC_STATUS_BUSY1 = false → 0xE00000 ≤ addr % 0x1000000 →
     s.deadSector (addr - 0x2000000) = false →
     ∃ t, exec (.efcWindowRead q addr len []) s = .next t ∧ t = s.emit (.reply (s.flashRead (addr - 0x2000000) len) []) ∧ Keeps
         [.outbox, .fresh] (errorRegs ++ [Reg.EFC_STATUS_WORD, Reg.EFC_ECC_LOG_WORD, Reg.EFC_CORRECTED, Reg.EFC_UE]) s t) ∧
  (∀ (q : Requester) (addr len : Nat) (errs : List (Nat × Nat)) (s : State), s.barShut q = false → 0x2000000 ≤ addr → addr +
      len ≤ 0x4000000 →
     s.flag Reg.EFC_STATUS_BUSY0 = false → s.flag Reg.EFC_STATUS_BUSY1 = false → addr % 0x1000000 < 0xE00000 →
     ∃ t, exec (.efcWindowRead q addr len errs) s = .next t ∧ t.flag Reg.EFC_STATUS_XO_VIOL = true ∧
       t = (s.event Reg.EFC_STATUS_XO_VIOL).emit (.reply (zeros len) []) ∧ Keeps [.outbox, .fresh] (errorRegs ++
           [Reg.EFC_STATUS_WORD, Reg.EFC_ECC_LOG_WORD, Reg.EFC_CORRECTED, Reg.EFC_UE]) s t) ∧
  (∀ (q : Requester) (addr : Nat) (v : Word) (s : State), s.barShut q = false → 0x2000000 ≤ addr → addr < 0x4000000 →
     ∃ t, exec (.efcWindowWrite q addr v) s = .next t ∧ t.flag Reg.EFC_STATUS_PROT_VIOL = true ∧ t.efc = s.efc ∧ Keeps
         [.outbox, .fresh] (errorRegs ++ [Reg.EFC_STATUS_WORD]) s t) ∧
  (∀ (v : Word) (s : State), v.getLsbD 31 = true →
     ∃ t, exec (.efcEccLogFree v) s = .next t ∧ t.flag Reg.EFC_ECC_LOG_VALID = false ∧ Keeps [] [Reg.EFC_ECC_LOG_WORD] s t) ∧
  (∀ (v : Word) (s : State), v.getLsbD 30 = true →
     ∃ t, exec (.efcAbortAddrClr v) s = .next t ∧ t.flag Reg.EFC_ABORT_ADDR_VALID = false ∧ t.get Reg.EFC_ABORT_ADDR_ADDR = 0 ∧
       Keeps [] [Reg.EFC_ABORT_ADDR_WORD] s t) ∧
  (∀ s : State,
     ∃ t, exec .efcCntClr s = .next t ∧ t.get Reg.EFC_PROGRAMS = 0 ∧ t.get Reg.EFC_ERASES = 0 ∧ t.get Reg.EFC_CORRECTED = 0 ∧
       t.get Reg.EFC_UE = 0 ∧ Keeps [] [Reg.EFC_PROGRAMS, Reg.EFC_ERASES, Reg.EFC_CORRECTED, Reg.EFC_UE] s t) ∧
  (∀ (j kind base : Nat) (payload : List Byte) (s : State), journalBase j = some base → s.efc.run = none → payload.length ≤ 240
      →
     ∃ t, exec (.journalAppend j kind payload) s = .next t ∧ t = (s.journalPut j base kind payload).journalCompact j base ∧
         Keeps [.efc] [Reg.EFC_PROGRAMS, Reg.EFC_ERASES] s t)

/-- Cores: lockup, watchdog, restart, heartbeat, sleep. A locked or silent core is locked out: LOCKUP, and FAILED after two
recent lockups. A restart with both images good, or of a core other than MC0, puts it in RESTART and counts. Its first
heartbeat puts it in RUN, and MC0's releases FAULT_N where it may. SLEEP shows. The colophon's core fails after two lockups
within 10 s of certified time. Of each command the frame says what parts and registers it leaves alone. -/
def Obligations.CoresAndColophonCore : Prop :=
  (∀ (k : Fin 5) (cause : Nat) (info : Word) (s : State), 1 ≤ cause → cause ≤ 4 →
     (s.get Reg.MBX_CORE_STATUS_STATE k.val = 1 ∨ s.get Reg.MBX_CORE_STATUS_STATE k.val = 2 ∨ s.get Reg.MBX_CORE_STATUS_STATE
         k.val = 3 ∨
       s.get Reg.MBX_CORE_STATUS_STATE k.val = 5) →
     ∃ t, exec (.coreLockup k cause info) s = .next t ∧ t = s.lockCore k.val cause info ∧
       ((s.recentLockups k.val).length < 2 → t.get Reg.MBX_CORE_STATUS_STATE k.val = 4) ∧
       (2 ≤ (s.recentLockups k.val).length → t.get Reg.MBX_CORE_STATUS_STATE k.val = 6) ∧ Keeps [.lanes, .cap, .cmp, .gal,
           .pair, .pcie, .hq, .och, .srv, .mot, .sec, .col, .efc, .mbx, .pwr, .outbox] lockRegs s t) ∧
  (∀ (k : Fin 5) (info : Word) (s : State), (s.get Reg.MBX_CORE_STATUS_STATE k.val = 2 ∨ s.get Reg.MBX_CORE_STATUS_STATE k.val
      = 3 ∨
       (s.get Reg.MBX_CORE_STATUS_STATE k.val = 5 ∧ k.val ≠ 0)) →
     ∃ t, exec (.coreWatchdogTimeout k info) s = .next t ∧ t = s.lockCore k.val 4 info ∧
       ((s.recentLockups k.val).length < 2 → t.get Reg.MBX_CORE_STATUS_STATE k.val = 4) ∧
       (2 ≤ (s.recentLockups k.val).length → t.get Reg.MBX_CORE_STATUS_STATE k.val = 6) ∧ Keeps [.lanes, .cap, .cmp, .gal,
           .pair, .pcie, .hq, .och, .srv, .mot, .sec, .col, .efc, .mbx, .pwr, .outbox] lockRegs s t) ∧
  (∀ (k : Fin 5) (fw0 fw1 : Bool) (s : State), s.get Reg.MBX_CORE_STATUS_STATE k.val = 4 → k.val ≠ 0 ∨ (fw0 = true ∧ fw1 =
      true) →
     ∃ t, exec (.coreRestart k fw0 fw1) s = .next t ∧ t.get Reg.MBX_CORE_STATUS_STATE k.val = 5 ∧
       t.get Reg.MBX_CORE_RESTARTS k.val = min (s.get Reg.MBX_CORE_RESTARTS k.val + 1) (2 ^ 32 - 1) ∧ Keeps [.pcie, .hq, .och,
           .srv, .mot, .sec, .efc, .pwr, .outbox] (failRegs ++ [Reg.EFC_FW_WORD, Reg.MBX_CORE_STATUS_WORD,
           Reg.MBX_CORE_RESTARTS]) s t) ∧
  (∀ (k : Fin 5) (engines : BitVec 16) (tests : Bool) (s : State),
     s.get Reg.MBX_CORE_STATUS_STATE k.val = 1 ∨ s.get Reg.MBX_CORE_STATUS_STATE k.val = 5 →
     ∃ t, exec (.coreFirstHeartbeat k engines tests) s = .next t ∧ t.get Reg.MBX_CORE_STATUS_STATE k.val = 2 ∧
       (k.val = 0 → s.mayReleaseFault = true → t.pwr.faultLow = false) ∧ Keeps [.pcie, .hq, .och, .srv, .mot, .sec, .efc, .mbx,
           .pwr, .outbox] (failRegs ++ [Reg.SEC_TRNG_WORD, Reg.SEC_ENG_STATUS_WORD, Reg.MBX_ARRIVED_WORD, Reg.MBX_OVERRUNS,
           Reg.MBX_CORE_STATUS_WORD, Reg.MBX_BOX_WORD, Reg.MBX_BOX_STATUS_WORD]) s t) ∧
  (∀ (k : Fin 5) (s : State), s.get Reg.MBX_CORE_STATUS_STATE k.val = 2 →
     ∃ t, exec (.coreSleep k) s = .next t ∧ t.get Reg.MBX_CORE_STATUS_STATE k.val = 3 ∧ Keeps [] [Reg.MBX_CORE_STATUS_WORD] s
         t) ∧
  (∀ s : State, s.col.powered = true → s.get Reg.COL_STATUS_STATE ≠ 4 →
     ∃ t, exec .colophonCoreLockup s = .next t ∧
       t.col = { s.col with ccLockups := s.get64 Reg.COL_TIME :: s.col.ccLockups.filter (fun u => decide (s.get64 Reg.COL_TIME
           ≤ u + 10 ^ 11)) } ∧
       (2 ≤ (s.col.ccLockups.filter (fun u => decide (s.get64 Reg.COL_TIME ≤ u + 10 ^ 11))).length → t.get Reg.COL_STATUS_STATE
           = 4) ∧
       ((s.col.ccLockups.filter (fun u => decide (s.get64 Reg.COL_TIME ≤ u + 10 ^ 11))).length < 2 → t.regs = s.regs) ∧ Keeps
           [.col] [Reg.COL_STATUS_WORD] s t)

/-- Mailboxes and quoins. A permitted write to an empty box fills it with word, sender and sequence; to a full one it is an
overrun; one that is not permitted is rejected and counted. A read of a full box answers and empties it, else it answers 0.
A notice of the AOS goes to box 40. A free quoin is taken and answers so, a held one answers its owner; only the owner
releases it. CNT_CLR clears the counters. Of each command the frame says what parts and registers it leaves alone. -/
def Obligations.MailboxesAndQuoins : Prop :=
  (∀ (q : Requester) (n : Fin 64) (v : Word) (st : Nat) (s : State), s.barShut q = false → s.stamp q = some st → mayWriteBox q
      n.val = true →
     (∀ k, boxCore n.val = some k → s.get Reg.MBX_CORE_STATUS_STATE k ≠ 6) → s.flag Reg.MBX_BOX_STATUS_FULL n.val = false → st
         < 256 →
     ∃ t, exec (.mailboxWrite q n v) s = .next t ∧ t.get Reg.MBX_BOX_WORD n.val = v.toNat ∧ t.flag Reg.MBX_BOX_STATUS_FULL
         n.val = true ∧
       t.get Reg.MBX_BOX_STATUS_SENDER n.val = st ∧ t.flag Reg.MBX_BOX_STATUS_SEQ n.val = (!s.flag Reg.MBX_BOX_STATUS_SEQ
           n.val) ∧
       Keeps [.outbox, .fresh] (errorRegs ++ [Reg.MBX_STATUS_WORD, Reg.MBX_ARRIVED_WORD, Reg.MBX_REJECT, Reg.MBX_OVERRUNS,
           Reg.MBX_CORE_STATUS_WORD, Reg.MBX_BOX_WORD, Reg.MBX_BOX_STATUS_WORD]) s t) ∧
  (∀ (q : Requester) (n : Fin 64) (v : Word) (st : Nat) (s : State), s.barShut q = false → s.stamp q = some st → mayWriteBox q
      n.val = true →
     (∀ k, boxCore n.val = some k → s.get Reg.MBX_CORE_STATUS_STATE k ≠ 6) → s.flag Reg.MBX_BOX_STATUS_FULL n.val = true →
     ∃ t, exec (.mailboxWrite q n v) s = .next t ∧ t.flag Reg.MBX_BOX_STATUS_OVERRUN n.val = true ∧
       t.get Reg.MBX_OVERRUNS = min (s.get Reg.MBX_OVERRUNS + 1) (2 ^ 32 - 1) ∧ t.get Reg.MBX_BOX_WORD n.val = s.get
           Reg.MBX_BOX_WORD n.val ∧
       Keeps [.outbox, .fresh] (errorRegs ++ [Reg.MBX_STATUS_WORD, Reg.MBX_ARRIVED_WORD, Reg.MBX_REJECT, Reg.MBX_OVERRUNS,
           Reg.MBX_CORE_STATUS_WORD, Reg.MBX_BOX_WORD, Reg.MBX_BOX_STATUS_WORD]) s t) ∧
  (∀ (q : Requester) (n : Fin 64) (v : Word) (st : Nat) (s : State), s.barShut q = false → s.stamp q = some st → mayWriteBox q
      n.val = false →
     ∃ t, exec (.mailboxWrite q n v) s = .next t ∧ t.get Reg.MBX_REJECT = min (s.get Reg.MBX_REJECT + 1) (2 ^ 32 - 1) ∧
       t.flag Reg.MBX_STATUS_REJ_EV = true ∧ t.get Reg.MBX_BOX_WORD n.val = s.get Reg.MBX_BOX_WORD n.val ∧ Keeps [.outbox,
           .fresh] (errorRegs ++ [Reg.MBX_STATUS_WORD, Reg.MBX_ARRIVED_WORD, Reg.MBX_REJECT, Reg.MBX_OVERRUNS,
           Reg.MBX_CORE_STATUS_WORD, Reg.MBX_BOX_WORD, Reg.MBX_BOX_STATUS_WORD]) s t) ∧
  (∀ (q : Requester) (n : Fin 64) (s : State), s.barShut q = false → mayReadBox q n.val = true → s.flag Reg.MBX_BOX_STATUS_FULL
      n.val = true →
     ∃ t, exec (.mailboxRead q n) s = .next t ∧ t = (s.setFlag Reg.MBX_BOX_STATUS_FULL false n.val).emit (.value (s.get
         Reg.MBX_BOX_WORD n.val)) ∧
       t.flag Reg.MBX_BOX_STATUS_FULL n.val = false ∧ Keeps [.outbox, .fresh] (errorRegs ++ [Reg.MBX_BOX_STATUS_WORD]) s t) ∧
  (∀ (q : Requester) (n : Fin 64) (s : State), s.barShut q = false → mayReadBox q n.val = false ∨ s.flag
      Reg.MBX_BOX_STATUS_FULL n.val = false →
     ∃ t, exec (.mailboxRead q n) s = .next t ∧ t = s.emit (.value 0) ∧ Keeps [.outbox, .fresh] (errorRegs ++
         [Reg.MBX_BOX_STATUS_WORD]) s t) ∧
  (∀ (w : Nat) (r : List Nat) (s : State), s.mbx.notices = w :: r → s.flag Reg.MBX_BOX_STATUS_FULL 40 = false →
     ∃ t, exec .aosNoticePost s = .next t ∧ t.mbx = { s.mbx with notices := r } ∧ t.flag Reg.MBX_BOX_STATUS_FULL 40 = true ∧
       t.get Reg.MBX_BOX_WORD 40 = w % 2 ^ 32 ∧ t.get Reg.MBX_BOX_STATUS_SENDER 40 = 0x1F ∧ Keeps [.mbx, .outbox]
           [Reg.MBX_ARRIVED_WORD, Reg.MBX_OVERRUNS, Reg.MBX_CORE_STATUS_WORD, Reg.MBX_BOX_WORD, Reg.MBX_BOX_STATUS_WORD,
           Reg.MSIX1_PBA, Reg.MSIX0_PBA] s t) ∧
  (∀ (q : Requester) (n : Fin 64) (st : Nat) (s : State), s.barShut q = false → s.stamp q = some st → quoinGroup q n.val = true
      →
     s.flag Reg.MBX_QUOIN_STATE_HELD n.val = false → st < 256 →
     ∃ t, exec (.quoinTake q n) s = .next t ∧ t.flag Reg.MBX_QUOIN_STATE_HELD n.val = true ∧ t.get Reg.MBX_QUOIN_STATE_OWNER
         n.val = st ∧
       t.flag Reg.MBX_QUOIN_STATE_ORPHANED n.val = false ∧
       t.outbox = .value (takeWord true (s.flag Reg.MBX_QUOIN_STATE_ORPHANED n.val) st) :: s.outbox ∧ Keeps [.outbox, .fresh]
           (errorRegs ++ [Reg.MBX_REJECT, Reg.MBX_QUOIN_STATE_WORD]) s t) ∧
  (∀ (q : Requester) (n : Fin 64) (st : Nat) (s : State), s.barShut q = false → s.stamp q = some st → quoinGroup q n.val = true
      →
     s.flag Reg.MBX_QUOIN_STATE_HELD n.val = true → s.get Reg.MBX_QUOIN_STATE_OWNER n.val ≠ st →
     ∃ t, exec (.quoinTake q n) s = .next t ∧
       t = s.emit (.value (takeWord false (s.flag Reg.MBX_QUOIN_STATE_ORPHANED n.val) (s.get Reg.MBX_QUOIN_STATE_OWNER n.val)))
           ∧ Keeps [.outbox, .fresh] (errorRegs ++ [Reg.MBX_REJECT, Reg.MBX_QUOIN_STATE_WORD]) s t) ∧
  (∀ (q : Requester) (n : Fin 64) (st : Nat) (s : State), s.barShut q = false → s.stamp q = some st → quoinGroup q n.val = true
      →
     s.flag Reg.MBX_QUOIN_STATE_HELD n.val = true → s.get Reg.MBX_QUOIN_STATE_OWNER n.val = st →
     ∃ t, exec (.quoinRelease q n) s = .next t ∧ t.flag Reg.MBX_QUOIN_STATE_HELD n.val = false ∧ Keeps [.outbox, .fresh]
         (errorRegs ++ [Reg.MBX_STATUS_WORD, Reg.MBX_REJECT, Reg.MBX_QUOIN_STATE_WORD]) s t) ∧
  (∀ (q : Requester) (n : Fin 64) (st : Nat) (s : State), s.barShut q = false → s.stamp q = some st → quoinGroup q n.val = true
      →
     s.flag Reg.MBX_QUOIN_STATE_HELD n.val = false ∨ s.get Reg.MBX_QUOIN_STATE_OWNER n.val ≠ st →
     ∃ t, exec (.quoinRelease q n) s = .next t ∧ t.get Reg.MBX_REJECT = min (s.get Reg.MBX_REJECT + 1) (2 ^ 32 - 1) ∧
       t.flag Reg.MBX_STATUS_REJ_EV = true ∧ t.flag Reg.MBX_QUOIN_STATE_HELD n.val = s.flag Reg.MBX_QUOIN_STATE_HELD n.val ∧
           Keeps [.outbox, .fresh] (errorRegs ++ [Reg.MBX_STATUS_WORD, Reg.MBX_REJECT, Reg.MBX_QUOIN_STATE_WORD]) s t) ∧
  (∀ s : State,
     ∃ t, exec .mbxCntClr s = .next t ∧ t.get Reg.MBX_REJECT = 0 ∧ t.get Reg.MBX_OVERRUNS = 0 ∧ (∀ k < 5, t.get
         Reg.MBX_CORE_RESTARTS k = 0) ∧
       Keeps [] [Reg.MBX_REJECT, Reg.MBX_OVERRUNS, Reg.MBX_CORE_RESTARTS] s t)

/-- Calibration runs and values. A drift beyond DELTA, or a request, makes a run pending. The next pending run starts when runs
may start, and its end is counted, timed and shown. A slew step moves every code one step toward its target; a value write
is taken while its block does not run, else refused. Of each command the frame says what parts and registers it leaves
alone. -/
def Obligations.Calibration : Prop :=
  (∀ (temps : List Nat) (b : Fin 6) (s : State), s.get Reg.MBX_CORE_STATUS_STATE 0 = 2 → s.unitFailed 16 = false →
     (s.calSense temps).calDrift b.val = true → s.flag Reg.CAL_BLK_CTL_HOLD b.val = false →
     ∃ t, exec (.calTemperatureCheck temps) s = .next t ∧ t.flag Reg.CAL_BLK_STATUS_PENDING b.val = true ∧ Keeps []
         [Reg.CAL_BLK_STATUS_WORD, Reg.CAL_BLK_TEMP] s t) ∧
  (∀ (b : Fin 6) (s : State),
     ∃ t, exec (.calRunRequest b) s = .next t ∧ t.flag Reg.CAL_BLK_STATUS_PENDING b.val = true ∧ Keeps []
         [Reg.CAL_BLK_STATUS_WORD] s t) ∧
  (∀ (b : Nat) (s : State), 6 ≤ s.get Reg.CAL_STATUS_ACTIVE → s.calMay = true →
     (List.range 6).find? (fun b => s.flag Reg.CAL_BLK_STATUS_PENDING b) = some b →
     ∃ t, exec .calRunStart s = .next t ∧ t.get Reg.CAL_STATUS_ACTIVE = b ∧ t.flag Reg.CAL_BLK_STATUS_RUNNING b = true ∧
       t.flag Reg.CAL_BLK_STATUS_PENDING b = false ∧ t.get Reg.CAL_BLK_STATUS_TEMP_LAST b = s.get Reg.CAL_BLK_TEMP b ∧ Keeps []
           [Reg.CAL_STATUS_WORD, Reg.CAL_BLK_STATUS_WORD] s t) ∧
  (∀ (codes : List (Nat × Byte)) (s : State), s.get Reg.CAL_STATUS_ACTIVE < 6 →
     ∃ t, exec (.calRunComplete codes) s = .next t ∧ t.get Reg.CAL_STATUS_ACTIVE = 7 ∧
       t.flag Reg.CAL_BLK_STATUS_RUNNING (s.get Reg.CAL_STATUS_ACTIVE) = false ∧
       t.get Reg.CAL_BLK_COUNT (s.get Reg.CAL_STATUS_ACTIVE) = (s.get Reg.CAL_BLK_COUNT (s.get Reg.CAL_STATUS_ACTIVE) + 1) % 2
           ^ 32 ∧
       t.get64 Reg.CAL_BLK_LAST (s.get Reg.CAL_STATUS_ACTIVE) = s.now % 2 ^ 64 ∧ t.flag Reg.CAL_STATUS_RUN_EV = true ∧
       t.cal.resetRuns = s.cal.resetRuns.filter (· != s.get Reg.CAL_STATUS_ACTIVE) ∧
       (∀ k, k < 0x1000000 ∨ 0x1100000 ≤ k ∧ k < 0x1000F8000 ∨ 0x1000F8004 ≤ k ∧ k < 0x400008000 → t.rd k = s.rd k) ∧
           KeepsParts [.cal, .outbox] s t) ∧
  (∀ (b : Fin 6) (s : State),
     ∃ t, exec (.calSlewStep b) s = .next t ∧
       t = ((s.cal.applied.filter (fun e => calOf e.1 == some b.val)).foldl (fun t e =>
         t.calFollow e.1 (if e.2.toNat < (t.calTarget e.1).toNat then e.2 + 1 else e.2 - 1) false) s).calSlewing b.val ∧
       t.flag Reg.CAL_BLK_STATUS_SLEWING b.val = t.cal.applied.any (fun e => calOf e.1 == some b.val) ∧ Keeps [.cal]
           [Reg.CAL_BLK_STATUS_WORD] s t) ∧
  (∀ (addr b : Nat) (v : Word) (s : State), calOf addr = some b → addr % 4 = 0 → s.absentAt addr = false → s.flag
      Reg.CAL_BLK_STATUS_RUNNING b = false →
     ∃ t, exec (.calValueWrite addr v) s = .next t ∧ t.rd addr = s.written addr v ∧
       (∀ k, k ≠ addr → ¬ Reg.CAL_BLK_STATUS_SLEWING.holds k → t.rd k = s.rd k) ∧
       t.flag Reg.CAL_BLK_STATUS_SLEWING b = t.cal.applied.any (fun e => calOf e.1 == some b) ∧ KeepsParts [.cal, .outbox] s t)
           ∧
  (∀ (addr b : Nat) (v : Word) (s : State), calOf addr = some b → s.absentAt addr = false → s.flag Reg.CAL_BLK_STATUS_RUNNING b
      = true →
     s.written addr v ≠ s.rd addr →
     ∃ t, exec (.calValueWrite addr v) s = .next t ∧ t = s.event Reg.CAL_STATUS_CFG_REJ ∧ t.flag Reg.CAL_STATUS_CFG_REJ = true
         ∧ t.rd addr = s.rd addr ∧
       KeepsParts [.cal, .outbox] s t)

/-- The boundary scan. Each instruction shifts its register: BYPASS one bit, IDCODE 0x14256A7B, SAMPLE/PRELOAD and EXTEST the
chain; EXTEST, CLAMP and HIGHZ turn the lasers and the motor drives off. TAP reset selects IDCODE, raises its event, starts
a new incarnation of the debug port and orphans the quoins of the old one. Of each command the frame says what parts and
registers it leaves alone. -/
def Obligations.TestAccess : Prop :=
  (∀ s : State,
     ∃ t, exec .tapReset s = .next t ∧ t.mbx = { s.mbx with dbgInc := (s.mbx.dbgInc + 1) % 8 } ∧ t.jtag = { s.jtag with instr
         := 2 } ∧
       t.flag Reg.DBG_STATUS_TAP_ACTIVE = false ∧ t.flag Reg.DBG_STATUS_TAP_RESET_EV = true ∧
       (∀ n < 64, s.flag Reg.MBX_QUOIN_STATE_HELD n = true → s.get Reg.MBX_QUOIN_STATE_OWNER n = 0x02 + 32 * s.mbx.dbgInc →
         t.flag Reg.MBX_QUOIN_STATE_HELD n = false ∧ t.flag Reg.MBX_QUOIN_STATE_ORPHANED n = true) ∧ Keeps [.mbx, .jtag,
             .outbox] [Reg.MBX_QUOIN_STATE_WORD, Reg.DBG_STATUS_WORD, Reg.MSIX1_PBA, Reg.MSIX0_PBA] s t) ∧
  (∀ (tdi : List Bool) (s : State),
     ∃ t, exec (.bypass tdi) s = .next t ∧ t.outbox = .tdo ((false :: tdi).take tdi.length) :: s.outbox ∧
       t.jtag = { s.jtag with instr := 1, bypass := ((false :: tdi).drop tdi.length).headD false } ∧ t.flag
           Reg.DBG_STATUS_TAP_ACTIVE = true ∧
       Keeps [.jtag, .outbox] [Reg.DBG_STATUS_WORD] s t) ∧
  (∀ (tdi : List Bool) (s : State), tdi.length = 32 →
     ∃ t, exec (.idcode tdi) s = .next t ∧ t.outbox = .tdo (bitList 32 0x14256A7B) :: s.outbox ∧ t.jtag = { s.jtag with instr
         := 2 } ∧
       t.flag Reg.DBG_STATUS_TAP_ACTIVE = true ∧ Keeps [.jtag, .outbox] [Reg.DBG_STATUS_WORD] s t) ∧
  (∀ (pins tdi : List Bool) (s : State),
     ∃ t, exec (.samplePreload pins tdi) s = .next t ∧ t.outbox = .tdo ((pins ++ tdi).take tdi.length) :: s.outbox ∧
       t.jtag = { s.jtag with instr := 3, chain := (pins ++ tdi).drop tdi.length } ∧ t.flag Reg.DBG_STATUS_TAP_ACTIVE = true ∧
           Keeps [.jtag, .outbox] [Reg.DBG_STATUS_WORD] s t) ∧
  (∀ (tdi : List Bool) (s : State),
     ∃ t, exec (.extest tdi) s = .next t ∧ t.jtag.instr = 4 ∧ t.jtag.chain = (s.jtag.chain ++ tdi).drop tdi.length ∧ t.pwr.ldEn
         = false ∧
       t.pwr.spindleOn = false ∧ (∀ x ∈ t.mot.bridges, 64 ≤ x.1) ∧ t.flag Reg.DBG_STATUS_TAP_ACTIVE = true ∧ Keeps [.cap, .cmp,
           .gal, .pair, .pcie, .hq, .och, .srv, .mot, .sec, .col, .jtag, .pwr, .outbox] (takeRegs ++
           [Reg.CMP_CLUSTER_STATUS_WORD, Reg.OCH_LASER_DRIVE_WORD, Reg.SRV_LOOP_STATUS_WORD, Reg.SRV_COIL_STATUS_WORD,
           Reg.MOT_SPN_STATUS_WORD, Reg.DBG_STATUS_WORD]) s t) ∧
  (∀ (tdi : List Bool) (s : State),
     ∃ t, exec (.clamp tdi) s = .next t ∧ t.jtag.instr = 5 ∧ t.pwr.ldEn = false ∧
       t.pwr.spindleOn = false ∧ (∀ x ∈ t.mot.bridges, 64 ≤ x.1) ∧ t.flag Reg.DBG_STATUS_TAP_ACTIVE = true ∧ Keeps [.och, .srv,
           .mot, .jtag, .pwr, .outbox] [Reg.OCH_LASER_DRIVE_WORD, Reg.SRV_LOOP_STATUS_WORD, Reg.SRV_COIL_STATUS_WORD,
           Reg.MOT_SPN_STATUS_WORD, Reg.DBG_STATUS_WORD] s t) ∧
  (∀ (tdi : List Bool) (s : State),
     ∃ t, exec (.highz tdi) s = .next t ∧ t.jtag.instr = 6 ∧ t.pwr.ldEn = false ∧
       t.pwr.spindleOn = false ∧ (∀ x ∈ t.mot.bridges, 64 ≤ x.1) ∧ t.flag Reg.DBG_STATUS_TAP_ACTIVE = true ∧ Keeps [.och, .srv,
           .mot, .jtag, .pwr, .outbox] [Reg.OCH_LASER_DRIVE_WORD, Reg.SRV_LOOP_STATUS_WORD, Reg.SRV_COIL_STATUS_WORD,
           Reg.MOT_SPN_STATUS_WORD, Reg.DBG_STATUS_WORD] s t)
end

