-- ==== Sys2Proof/Laws/Sparse.lean ====
section
/-!
SUPPORT. Laws of the sparse maps: reading after a put or a drop, and that every operation keeps the canonical form.
-/
set_option Elab.async false

namespace Sys2Proof.Laws
open Sys2Proof.Machine

variable {α : Type}

/-- Keys above a bound. -/
theorem srising_some_iff (b : Nat) (m : List (Nat × α)) :
    srising (some b) m = true ↔ (∀ e ∈ m, b < e.1) ∧ srising none m = true := by
  induction m generalizing b with
  | nil => simp [srising]
  | cons x r ih =>
    obtain ⟨k, v⟩ := x
    simp only [srising, Bool.and_eq_true, decide_eq_true_eq, ih k]
    constructor
    · rintro ⟨hb, hr, hn⟩
      refine ⟨?_, hr, hn⟩
      intro e he
      rcases List.mem_cons.mp he with h | h
      · subst h; exact hb
      · exact Nat.lt_trans hb (hr e h)
    · rintro ⟨hall, hr, hn⟩
      exact ⟨hall (k, v) (by simp), hr, hn⟩

theorem srising_cons {k : Nat} {v : α} {r : List (Nat × α)} (h : srising none ((k, v) :: r) = true) :
    (∀ e ∈ r, k < e.1) ∧ srising none r = true := by
  have : srising (some k) r = true := h
  exact (srising_some_iff k r).mp this

theorem sget_sdrop_same (d : Nat → α) (m : List (Nat × α)) (k : Nat) : sget d (sdrop m k) k = d k := by
  induction m with
  | nil => rfl
  | cons x r ih =>
    simp only [sdrop]
    split
    · exact ih
    · next h => simp only [sget]; rw [if_neg h, ih]

theorem sget_sdrop_ne (d : Nat → α) (m : List (Nat × α)) (k j : Nat) (h : j ≠ k) : sget d (sdrop m k) j = sget d m j := by
  induction m with
  | nil => rfl
  | cons x r ih =>
    simp only [sdrop]
    split
    · next e => simp only [sget]; rw [if_neg (e ▸ h), ih]
    · simp only [sget, ih]

theorem sget_sinsert_same (d : Nat → α) (m : List (Nat × α)) (k : Nat) (v : α) (h : ∀ e ∈ m, e.1 ≠ k) :
    sget d (sinsert m k v) k = v := by
  induction m with
  | nil => simp [sinsert, sget]
  | cons x r ih =>
    simp only [sinsert]
    split
    · simp [sget]
    · simp only [sget]
      rw [if_neg (Ne.symm (h x (by simp))), ih (fun e he => h e (List.mem_cons_of_mem _ he))]

theorem sget_sinsert_ne (d : Nat → α) (m : List (Nat × α)) (k j : Nat) (v : α) (h : j ≠ k) :
    sget d (sinsert m k v) j = sget d m j := by
  induction m with
  | nil => simp only [sinsert, sget]; rw [if_neg h]
  | cons x r ih =>
    simp only [sinsert]
    split
    · simp only [sget]; rw [if_neg h]
    · simp only [sget, ih]

theorem mem_sdrop {m : List (Nat × α)} {k : Nat} {e : Nat × α} (h : e ∈ sdrop m k) : e ∈ m ∧ e.1 ≠ k := by
  induction m with
  | nil => simp [sdrop] at h
  | cons x r ih =>
    simp only [sdrop] at h
    split at h
    · exact ⟨List.mem_cons_of_mem _ (ih h).1, (ih h).2⟩
    · next hk =>
      rcases List.mem_cons.mp h with h1 | h1
      · subst h1; exact ⟨by simp, fun x => hk x.symm⟩
      · exact ⟨List.mem_cons_of_mem _ (ih h1).1, (ih h1).2⟩

theorem mem_sinsert {m : List (Nat × α)} {k : Nat} {v : α} {e : Nat × α} (h : e ∈ sinsert m k v) : e = (k, v) ∨ e ∈ m := by
  induction m with
  | nil => exact .inl (by simpa [sinsert] using h)
  | cons x r ih =>
    simp only [sinsert] at h
    split at h
    · exact List.mem_cons.mp h
    · rcases List.mem_cons.mp h with h1 | h1
      · exact .inr (by simp [h1])
      · rcases ih h1 with h2 | h2
        · exact .inl h2
        · exact .inr (List.mem_cons_of_mem _ h2)

theorem srising_sdrop (m : List (Nat × α)) (k : Nat) (h : srising none m = true) : srising none (sdrop m k) = true := by
  induction m with
  | nil => rfl
  | cons x r ih =>
    obtain ⟨k', v⟩ := x
    obtain ⟨hr, hn⟩ := srising_cons h
    simp only [sdrop]
    split
    · exact ih hn
    · show srising (some k') (sdrop r k) = true
      rw [srising_some_iff]
      exact ⟨fun e he => hr e (mem_sdrop he).1, ih hn⟩

theorem srising_sinsert (m : List (Nat × α)) (k : Nat) (v : α) (hk : ∀ e ∈ m, e.1 ≠ k) (h : srising none m = true) :
    srising none (sinsert m k v) = true := by
  induction m with
  | nil => rfl
  | cons x r ih =>
    obtain ⟨k', v'⟩ := x
    obtain ⟨hr, hn⟩ := srising_cons h
    simp only [sinsert]
    split
    · next hlt =>
      show srising (some k) ((k', v') :: r) = true
      rw [srising_some_iff]
      refine ⟨?_, h⟩
      intro e he
      rcases List.mem_cons.mp he with h1 | h1
      · subst h1; exact hlt
      · exact Nat.lt_trans hlt (hr e h1)
    · next hge =>
      show srising (some k') (sinsert r k v) = true
      rw [srising_some_iff]
      refine ⟨?_, ih (fun e he => hk e (List.mem_cons_of_mem _ he)) hn⟩
      intro e he
      rcases mem_sinsert he with h1 | h1
      · subst h1
        have : k' ≠ k := hk (k', v') (by simp)
        show k' < k
        omega
      · exact hr e h1

variable [DecidableEq α]

/-- A put is read back. -/
theorem sget_sput_same (d : Nat → α) (m : List (Nat × α)) (k : Nat) (v : α) : sget d (sput d m k v) k = v := by
  simp only [sput]
  split
  · next h => rw [sget_sdrop_same, h]
  · exact sget_sinsert_same d _ k v (fun e he => (mem_sdrop he).2)

/-- A put leaves every other key alone. -/
theorem sget_sput_ne (d : Nat → α) (m : List (Nat × α)) (k j : Nat) (v : α) (hj : j ≠ k) :
    sget d (sput d m k v) j = sget d m j := by
  simp only [sput]
  split
  · exact sget_sdrop_ne d m k j hj
  · rw [sget_sinsert_ne d _ k j v hj, sget_sdrop_ne d m k j hj]

/-- A put keeps the canonical form. -/
theorem swf_sput (d : Nat → α) (m : List (Nat × α)) (k : Nat) (v : α) (h : swf d m = true) : swf d (sput d m k v) = true := by
  simp only [swf, Bool.and_eq_true, List.all_eq_true] at h ⊢
  have hd : srising none (sdrop m k) = true := srising_sdrop m k h.1
  simp only [sput]
  split
  · exact ⟨hd, fun e he => h.2 e (mem_sdrop he).1⟩
  · next hv =>
    refine ⟨srising_sinsert _ k v (fun e he => (mem_sdrop he).2) hd, ?_⟩
    intro e he
    rcases mem_sinsert he with h1 | h1
    · subst h1; simpa using hv
    · exact h.2 e (mem_sdrop h1).1

omit [DecidableEq α] in
theorem srising_filter (m : List (Nat × α)) (p : Nat × α → Bool) (h : srising none m = true) :
    srising none (m.filter p) = true := by
  induction m with
  | nil => rfl
  | cons x r ih =>
    obtain ⟨k, v⟩ := x
    obtain ⟨hr, hn⟩ := srising_cons h
    simp only [List.filter]
    split
    · show srising (some k) (r.filter p) = true
      rw [srising_some_iff]
      exact ⟨fun e he => hr e ((List.mem_filter.mp he).1), ih hn⟩
    · exact ih hn

/-- Dropping entries keeps the canonical form. -/
theorem swf_filter (d : Nat → α) (m : List (Nat × α)) (p : Nat × α → Bool) (h : swf d m = true) :
    swf d (m.filter p) = true := by
  simp only [swf, Bool.and_eq_true, List.all_eq_true] at h ⊢
  exact ⟨srising_filter m p h.1, fun e he => h.2 e ((List.mem_filter.mp he).1)⟩

theorem swf_sclear (d : Nat → α) (m : List (Nat × α)) (lo hi : Nat) (h : swf d m = true) : swf d (sclear m lo hi) = true :=
  swf_filter d m _ h

theorem swf_skeep (d : Nat → α) (m : List (Nat × α)) (p : Nat → Bool) (h : swf d m = true) : swf d (skeep m p) = true :=
  swf_filter d m _ h

/-- The empty list is canonical. -/
theorem swf_nil (d : Nat → α) : swf d ([] : List (Nat × α)) = true := rfl

/-- Putting a run of values from a key on keeps the canonical form. -/
theorem swf_puts {β : Type} (d : Nat → α) (f : β → α) (m : List (Nat × α)) (a : Nat) (b : List β) (h : swf d m = true) :
    swf d (b.foldl (fun (p : List (Nat × α) × Nat) x => (sput d p.1 p.2 (f x), p.2 + 1)) (m, a)).1 = true := by
  induction b generalizing m a with
  | nil => exact h
  | cons x r ih => exact ih _ _ (swf_sput d m a (f x) h)

/-- Putting values at computed keys keeps the canonical form. -/
theorem swf_fold_sput {β : Type} (d : Nat → α) (k : β → Nat) (f : β → α) (m : List (Nat × α)) (b : List β)
    (h : swf d m = true) : swf d (b.foldl (fun m x => sput d m (k x) (f x)) m) = true := by
  induction b generalizing m with
  | nil => exact h
  | cons x r ih => exact ih _ (swf_sput d m (k x) (f x) h)

omit [DecidableEq α] in
theorem srising_map (m : List (Nat × α)) (f : Nat → α → α) (h : srising none m = true) :
    srising none (m.map (fun e => (e.1, f e.1 e.2))) = true := by
  induction m with
  | nil => rfl
  | cons x r ih =>
    obtain ⟨k, v⟩ := x
    obtain ⟨hr, hn⟩ := srising_cons h
    show srising (some k) (r.map (fun e => (e.1, f e.1 e.2))) = true
    rw [srising_some_iff]
    refine ⟨?_, ih hn⟩
    intro e he
    obtain ⟨y, hy, rfl⟩ := List.mem_map.mp he
    exact hr y hy

/-- Applying a function to the listed values keeps the canonical form. -/
theorem swf_smap (d : Nat → α) (m : List (Nat × α)) (f : Nat → α → α) (h : swf d m = true) : swf d (smap d m f) = true := by
  simp only [swf, Bool.and_eq_true] at h ⊢
  refine ⟨srising_filter _ _ (srising_map m f h.1), ?_⟩
  simp only [List.all_eq_true]
  intro e he
  exact (List.mem_filter.mp he).2

omit [DecidableEq α] in
/-- What a key reads as once entries that `p` refuses are dropped. -/
theorem sget_skeep (d : Nat → α) (m : List (Nat × α)) (p : Nat → Bool) (k : Nat) :
    sget d (skeep m p) k = if p k then sget d m k else d k := by
  induction m with
  | nil => simp [skeep, sget]
  | cons x r ih =>
    obtain ⟨k', v⟩ := x
    simp only [skeep] at ih ⊢
    simp only [List.filter]
    split
    · next hp =>
      simp only [sget]
      split
      · next hk => subst hk; rw [if_pos hp]
      · exact ih
    · next hp =>
      rw [ih]
      simp only [sget]
      by_cases hk : k = k'
      · subst hk; rw [if_neg (by simpa using hp), if_neg (by simpa using hp)]
      · rw [if_neg hk]

end Sys2Proof.Laws
end

