-- ==== Sys2Proof/Laws/Moves.lean ====
section
/-!
SUPPORT. What an operation can change, said once per operation: a relation between the states before and after with a mask of
what may differ, in which every definition of the model has one lemma (Laws/Moves*.lean), and that it keeps the canonical form.
-/
set_option Elab.async false

namespace Sys2Proof.Laws
open Sys2Proof.Machine

/-- The register arrays that meanings write by name: key of the first word, stride, count; part 0. -/
def written0 : List (Nat × Nat × Nat) := [
  (0x10, 0, 1), (0x20, 0, 1), (0x10004, 0, 1), (0x10010, 0, 1), (0x10014, 0, 1), (0x10018, 0, 1), (0x1001c, 0, 1), (0x10020, 0, 1),
  (0x10110, 32, 16), (0x100000, 0, 1), (0x100004, 0, 1), (0x100100, 0, 1), (0x100104, 0, 1), (0x100200, 0, 1), (0x100218, 0, 1), (0x100240, 0, 1),
  (0x201000, 32, 32), (0x201004, 32, 32), (0x210000, 256, 514), (0x210004, 256, 514), (0x210010, 256, 514), (0x210014, 256, 514), (0x210018, 256, 514), (0x21001c, 256, 514),
  (0x210020, 256, 514), (0x210024, 256, 514), (0x210028, 256, 514), (0x21002c, 256, 514), (0x210030, 256, 514), (0x210034, 256, 514), (0x300000, 0, 1), (0x300004, 0, 1),
  (0x300010, 0, 1), (0x300014, 0, 1), (0x300020, 0, 1), (0x300024, 0, 1), (0x300028, 0, 1), (0x30002c, 0, 1), (0x300040, 0, 1), (0x300044, 0, 1)]

/-- The register arrays that meanings write by name: key of the first word, stride, count; part 1. -/
def written1 : List (Nat × Nat × Nat) := [
  (0x300048, 0, 1), (0x30004c, 0, 1), (0x300050, 0, 1), (0x300054, 0, 1), (0x300100, 8, 32), (0x300104, 8, 32), (0x300200, 16, 8), (0x300204, 16, 8),
  (0x300208, 16, 8), (0x30020c, 16, 8), (0x300300, 16, 16), (0x300304, 16, 16), (0x300308, 16, 16), (0x30030c, 16, 16), (0x400004, 0, 1), (0x400010, 0, 1),
  (0x400014, 0, 1), (0x400018, 0, 1), (0x40001c, 0, 1), (0x400020, 0, 1), (0x401000, 64, 32), (0x401004, 64, 32), (0x401008, 64, 32), (0x40100c, 64, 32),
  (0x401010, 64, 32), (0x401014, 64, 32), (0x401018, 64, 32), (0x500000, 0, 1), (0x500010, 0, 1), (0x500024, 0, 1), (0x500040, 0, 1), (0x500044, 0, 1),
  (0x500048, 0, 1), (0x500050, 0, 1), (0x500060, 0, 1), (0x500064, 0, 1), (0x500068, 0, 1), (0x50006c, 0, 1), (0x500070, 0, 1), (0x500100, 32, 4)]

/-- The register arrays that meanings write by name: key of the first word, stride, count; part 2. -/
def written2 : List (Nat × Nat × Nat) := [
  (0x500104, 32, 4), (0x500108, 32, 4), (0x50010c, 32, 4), (0x500110, 32, 4), (0x600000, 0, 1), (0x600004, 0, 1), (0x600008, 0, 1), (0x600010, 0, 1),
  (0x600014, 0, 1), (0x600018, 0, 1), (0x60001c, 0, 1), (0x600020, 0, 1), (0x600024, 0, 1), (0x600028, 0, 1), (0x60002c, 0, 1), (0x700000, 0, 1),
  (0x700004, 0, 1), (0x700030, 0, 1), (0x700040, 0, 1), (0x700044, 0, 1), (0x700048, 0, 1), (0x70004c, 0, 1), (0x700050, 0, 1), (0x710000, 32, 1024),
  (0x710004, 32, 1024), (0x710008, 32, 1024), (0x71000c, 32, 1024), (0x720000, 32, 1024), (0x720004, 32, 1024), (0x720008, 32, 1024), (0x72000c, 32, 1024), (0x800000, 0, 1),
  (0x800004, 0, 1), (0x800010, 0, 1), (0x800018, 0, 1), (0x80001c, 0, 1), (0x800020, 0, 1), (0x800024, 0, 1), (0x800040, 0, 1), (0x800044, 0, 1)]

/-- The register arrays that meanings write by name: key of the first word, stride, count; part 3. -/
def written3 : List (Nat × Nat × Nat) := [
  (0x800048, 0, 1), (0x80004c, 0, 1), (0x800050, 0, 1), (0x800054, 0, 1), (0x800058, 0, 1), (0x80005c, 0, 1), (0x801004, 64, 32), (0x900004, 0, 1),
  (0x900020, 4, 5), (0x900040, 0, 1), (0x900044, 0, 1), (0x900048, 0, 1), (0x900050, 0, 1), (0x900054, 0, 1), (0x900058, 0, 1), (0x900060, 0, 1),
  (0x900100, 32, 5), (0x900104, 32, 5), (0x900108, 32, 5), (0x90010c, 32, 5), (0x900110, 32, 5), (0x900114, 32, 5), (0xa00000, 0, 1), (0xa00004, 0, 1),
  (0xa00008, 0, 1), (0xa00040, 0, 1), (0xa00044, 0, 1), (0xa00048, 0, 1), (0xa0004c, 0, 1), (0xa00050, 0, 1), (0xa00054, 0, 1), (0xa00058, 0, 1),
  (0xa0005c, 0, 1), (0xa00060, 0, 1), (0xa00100, 16, 16), (0xa00108, 16, 16), (0xa02000, 64, 16), (0xa02008, 64, 16), (0xa0200c, 64, 16), (0xa02010, 64, 16)]

/-- The register arrays that meanings write by name: key of the first word, stride, count; part 4. -/
def written4 : List (Nat × Nat × Nat) := [
  (0xb00000, 0, 1), (0xb00004, 0, 1), (0xb00010, 0, 1), (0xb00018, 0, 1), (0xb00040, 0, 1), (0xb00044, 0, 1), (0xb00048, 0, 1), (0xb0004c, 0, 1),
  (0xb00104, 0, 1), (0xb00108, 0, 1), (0xb00114, 0, 1), (0xb01020, 256, 4), (0xb01024, 256, 4), (0xb01028, 256, 4), (0xb02000, 32, 4), (0xb02004, 32, 4),
  (0xb03000, 16, 6), (0xc00000, 0, 1), (0xc00004, 0, 1), (0xc00010, 0, 1), (0xc00038, 0, 1), (0xc0003c, 0, 1), (0xc00040, 0, 1), (0xc00044, 0, 1),
  (0xc0004c, 0, 1), (0xc00050, 0, 1), (0xc00080, 0, 1), (0xc00084, 0, 1), (0xc00088, 0, 1), (0xc0008c, 0, 1), (0xc00090, 0, 1), (0xc00118, 64, 3),
  (0xc0011c, 64, 3), (0xc00134, 64, 3), (0xd00004, 0, 1), (0xd00010, 0, 1), (0xd00040, 0, 1), (0xd00044, 0, 1), (0xd00048, 0, 1), (0xd0004c, 0, 1)]

/-- The register arrays that meanings write by name: key of the first word, stride, count; part 5. -/
def written5 : List (Nat × Nat × Nat) := [
  (0xd00050, 0, 1), (0xd01000, 4, 256), (0xd02000, 16, 16), (0xe00004, 0, 1), (0xe00010, 0, 1), (0xe00018, 0, 1), (0xe00020, 0, 1), (0xe00024, 0, 1),
  (0xe00028, 0, 1), (0xe0002c, 0, 1), (0xe00030, 0, 1), (0xe00040, 0, 1), (0xe00044, 0, 1), (0xe00048, 0, 1), (0xe0004c, 0, 1), (0xf00004, 0, 1),
  (0xf00008, 0, 1), (0xf00010, 0, 1), (0xf00014, 0, 1), (0xf00100, 32, 5), (0xf00104, 32, 5), (0xf00108, 32, 5), (0xf0010c, 32, 5), (0xf00110, 32, 5),
  (0xf01000, 16, 64), (0xf01004, 16, 64), (0xf02004, 8, 64), (0x1000000, 0, 1), (0x1000104, 32, 6), (0x1000108, 32, 6), (0x100010c, 32, 6), (0x1000110, 32, 6),
  (0x1000114, 32, 6), (0x1100000, 0, 1), (0x100000000, 0, 1), (0x100000004, 0, 1), (0x100000008, 0, 1), (0x100000010, 0, 1), (0x100000014, 0, 1), (0x100000024, 0, 1)]

/-- The register arrays that meanings write by name: key of the first word, stride, count; part 6. -/
def written6 : List (Nat × Nat × Nat) := [
  (0x100000030, 0, 1), (0x100000040, 0, 1), (0x100000048, 0, 1), (0x100000050, 0, 1), (0x100000054, 0, 1), (0x100000060, 0, 1), (0x100000064, 0, 1), (0x100000068, 0, 1),
  (0x100000400, 32, 8), (0x100000404, 32, 8), (0x100000408, 32, 8), (0x10000040c, 32, 8), (0x100000410, 32, 8), (0x1000f8000, 4, 1), (0x200000000, 0x100000000, 2), (0x200000004, 0x100000000, 2),
  (0x200000018, 0, 1), (0x20000001c, 0, 1), (0x20000002c, 0x100000000, 2), (0x200000044, 0x100000000, 2), (0x200000058, 0x100000000, 2), (0x200000104, 0x100000000, 2), (0x200000110, 0x100000000, 2), (0x200000118, 0x100000000, 2),
  (0x20000011c, 0x100000000, 2), (0x200000120, 0x100000000, 2), (0x200000124, 0x100000000, 2), (0x200000128, 0x100000000, 2), (0x200000138, 0x100000000, 2), (0x20000013c, 0x100000000, 2), (0x200000140, 0x100000000, 2), (0x200000144, 0x100000000, 2),
  (0x200000348, 0, 1), (0x200000388, 0x100000000, 2), (0x20000038c, 0x100000000, 2), (0x200000390, 0x100000000, 2), (0x200000394, 0x100000000, 2), (0x400008000, 4, 64)]

/-- All of them. -/
def written : List (Nat × Nat × Nat) := written0 ++ written1 ++ written2 ++ written3 ++ written4 ++ written5 ++ written6

/-- Place of a register array in the list; its length where it is not listed. -/
def place (b st n : Nat) : List (Nat × Nat × Nat) → Nat
  | [] => 0
  | (b', st', n') :: r => if b == b' && st == st' && n == n' then 0 else place b st n r + 1

/-- The mask lets the register array be written: bit 22 stands for every register. -/
def covers (M b st n : Nat) : Bool := M.testBit 22 || M.testBit (32 + place b st n written)

/-- Every bit of the first mask is in the second. -/
def sub (a b : Nat) : Bool := (a ||| b) == b

theorem sub_bit {a b : Nat} (h : sub a b = true) {i : Nat} (hi : b.testBit i = false) : a.testBit i = false := by
  have e : (a ||| b) = b := by simpa [sub] using h
  have := congrArg (fun x => Nat.testBit x i) e
  simp only [Nat.testBit_or, hi, Bool.or_false] at this
  exact this

theorem sub_covers {a b : Nat} (h : sub a b = true) {x y n : Nat} (hc : covers b x y n = false) : covers a x y n = false := by
  simp only [covers, Bool.or_eq_false_iff] at hc ⊢
  exact ⟨sub_bit h hc.1, sub_bit h hc.2⟩

theorem sub_trans {a b c : Nat} (h : sub a b = true) (g : sub b c = true) : sub a c = true := by
  simp only [sub, beq_iff_eq] at h g ⊢
  rw [← g, ← Nat.or_assoc, h]

theorem bit_mono {a b i : Nat} (h : a.testBit i = true) (g : sub a b = true) : b.testBit i = true := by
  cases e : b.testBit i with
  | true => rfl
  | false => rw [sub_bit g e] at h; cases h

theorem covers_mono {a b x y n : Nat} (h : covers a x y n = true) (g : sub a b = true) : covers b x y n = true := by
  cases e : covers b x y n with
  | true => rfl
  | false => rw [sub_covers g e] at h; cases h

/-- Only what the mask `M` names may change, and a canonical state stays canonical. -/
structure Moves (M : Nat) (s t : State) : Prop where
  canon : Canon s → Canon t
  part : t.part = s.part
  pending : t.pending = s.pending
  lanes : M.testBit 0 = false → t.lanes = s.lanes
  ports : M.testBit 1 = false → t.ports = s.ports
  cap : M.testBit 2 = false → t.cap = s.cap
  cmp : M.testBit 3 = false → t.cmp = s.cmp
  gal : M.testBit 4 = false → t.gal = s.gal
  pair : M.testBit 5 = false → t.pair = s.pair
  pcie : M.testBit 6 = false → t.pcie = s.pcie
  hq : M.testBit 7 = false → t.hq = s.hq
  mag : M.testBit 8 = false → t.mag = s.mag
  map : M.testBit 9 = false → t.map = s.map
  och : M.testBit 10 = false → t.och = s.och
  srv : M.testBit 11 = false → t.srv = s.srv
  mot : M.testBit 12 = false → t.mot = s.mot
  sec : M.testBit 13 = false → t.sec = s.sec
  col : M.testBit 14 = false → t.col = s.col
  efc : M.testBit 15 = false → t.efc = s.efc
  mbx : M.testBit 16 = false → t.mbx = s.mbx
  cal : M.testBit 17 = false → t.cal = s.cal
  jtag : M.testBit 18 = false → t.jtag = s.jtag
  pwr : M.testBit 19 = false → t.pwr = s.pwr
  outbox : M.testBit 20 = false → t.outbox = s.outbox
  fresh : M.testBit 21 = false → t.fresh = s.fresh
  regs : M.testBit 22 = false → ∀ k, (∀ b st n, covers M b st n = true → ∀ i < n, k ≠ b + st * i) → t.rd k = s.rd k

/-- The outcome is a next state that only what the mask names tells from the state before. -/
def MovesR (M : Nat) (s : State) (r : Result) : Prop := ∃ t, r = .next t ∧ Moves M s t

theorem Moves.refl {M : Nat} {s : State} : Moves M s s :=
  ⟨id, rfl, rfl, fun _ => rfl, fun _ => rfl, fun _ => rfl, fun _ => rfl, fun _ => rfl, fun _ => rfl, fun _ => rfl, fun _ => rfl,
   fun _ => rfl, fun _ => rfl, fun _ => rfl, fun _ => rfl, fun _ => rfl, fun _ => rfl, fun _ => rfl, fun _ => rfl, fun _ => rfl,
   fun _ => rfl, fun _ => rfl, fun _ => rfl, fun _ => rfl, fun _ => rfl, fun _ _ _ => rfl⟩

theorem Moves.step {M N : Nat} {s t u : State} (h : Moves M s t) (g : Moves N t u) (hs : sub N M = true) : Moves M s u := by
  have a := h
  have b := g
  exact {
    canon := fun x => b.canon (a.canon x), part := b.part.trans a.part, pending := b.pending.trans a.pending,
    lanes := fun x => (b.lanes (sub_bit hs x)).trans (a.lanes x), ports := fun x => (b.ports (sub_bit hs x)).trans (a.ports x),
    cap := fun x => (b.cap (sub_bit hs x)).trans (a.cap x), cmp := fun x => (b.cmp (sub_bit hs x)).trans (a.cmp x),
    gal := fun x => (b.gal (sub_bit hs x)).trans (a.gal x), pair := fun x => (b.pair (sub_bit hs x)).trans (a.pair x),
    pcie := fun x => (b.pcie (sub_bit hs x)).trans (a.pcie x), hq := fun x => (b.hq (sub_bit hs x)).trans (a.hq x),
    mag := fun x => (b.mag (sub_bit hs x)).trans (a.mag x), map := fun x => (b.map (sub_bit hs x)).trans (a.map x),
    och := fun x => (b.och (sub_bit hs x)).trans (a.och x), srv := fun x => (b.srv (sub_bit hs x)).trans (a.srv x),
    mot := fun x => (b.mot (sub_bit hs x)).trans (a.mot x), sec := fun x => (b.sec (sub_bit hs x)).trans (a.sec x),
    col := fun x => (b.col (sub_bit hs x)).trans (a.col x), efc := fun x => (b.efc (sub_bit hs x)).trans (a.efc x),
    mbx := fun x => (b.mbx (sub_bit hs x)).trans (a.mbx x), cal := fun x => (b.cal (sub_bit hs x)).trans (a.cal x),
    jtag := fun x => (b.jtag (sub_bit hs x)).trans (a.jtag x), pwr := fun x => (b.pwr (sub_bit hs x)).trans (a.pwr x),
    outbox := fun x => (b.outbox (sub_bit hs x)).trans (a.outbox x), fresh := fun x => (b.fresh (sub_bit hs x)).trans (a.fresh x),
    regs := fun x k hk => (b.regs (sub_bit hs x) k (fun p q n hc i hi =>
      hk p q n (by cases e : covers M p q n with
        | true => rfl
        | false => rw [sub_covers hs e] at hc; cases hc) i hi)).trans (a.regs x k hk) }

theorem Moves.mono {M N : Nat} {s t : State} (h : Moves N s t) (hs : sub N M = true) : Moves M s t := Moves.refl.step h hs

theorem MovesR.mono {M N : Nat} {s : State} {r : Result} (h : MovesR N s r) (hs : sub N M = true) : MovesR M s r := by
  obtain ⟨t, e, g⟩ := h; exact ⟨t, e, g.mono hs⟩

/-- A meaning that runs on from a state reached. -/
theorem MovesR.step {M N : Nat} {s t : State} {r : Result} (h : Moves M s t) (g : MovesR N t r) (hs : sub N M = true) :
    MovesR M s r := by
  obtain ⟨u, e, k⟩ := g; exact ⟨u, e, h.step k hs⟩

theorem mvNext {M : Nat} {s t : State} (h : Moves M s t) : MovesR M s (.next t) := ⟨t, rfl, h⟩

theorem mvGo {M : Nat} {s t : State} (h : Moves M s t) : MovesR M s (go t) := ⟨t, rfl, h⟩

theorem mvIte {M : Nat} {s a b : State} {c : Prop} [Decidable c] (ha : Moves M s a) (hb : Moves M s b) :
    Moves M s (if c then a else b) := by split <;> assumption

theorem mvIteR {M : Nat} {s : State} {a b : Result} {c : Prop} [Decidable c] (ha : MovesR M s a) (hb : MovesR M s b) :
    MovesR M s (if c then a else b) := by split <;> assumption

theorem mvFold {α : Type} {M : Nat} {s t : State} {f : State → α → State} {l : List α} (h : Moves M s t)
    (hf : ∀ u x, Moves M s u → Moves M s (f u x)) : Moves M s (l.foldl f t) := by
  induction l generalizing t with
  | nil => exact h
  | cons x r ih => exact ih (hf t x h)

/-- A fold whose accumulator carries the state second. -/
theorem mvFoldSnd {α β : Type} {M : Nat} {s : State} {p : β × State} {f : β × State → α → β × State} {l : List α}
    (h : Moves M s p.2) (hf : ∀ b u x, Moves M s u → Moves M s (f (b, u) x).2) : Moves M s (l.foldl f p).2 := by
  induction l generalizing p with
  | nil => exact h
  | cons x r ih => exact ih (hf p.1 p.2 x h)

/-- A fold whose accumulator carries the state first. -/
theorem mvFoldFst {α β : Type} {M : Nat} {s : State} {p : State × β} {f : State × β → α → State × β} {l : List α}
    (h : Moves M s p.1) (hf : ∀ b u x, Moves M s u → Moves M s (f (u, b) x).1) : Moves M s (l.foldl f p).1 := by
  induction l generalizing p with
  | nil => exact h
  | cons x r ih => exact ih (hf p.2 p.1 x h)

/-- A fold whose accumulator carries the state third. -/
theorem mvFoldThd {α β γ : Type} {M : Nat} {s : State} {p : β × γ × State} {f : β × γ × State → α → β × γ × State} {l : List α}
    (h : Moves M s p.2.2) (hf : ∀ b c u x, Moves M s u → Moves M s (f (b, c, u) x).2.2) : Moves M s (l.foldl f p).2.2 := by
  induction l generalizing p with
  | nil => exact h
  | cons x r ih => exact ih (hf p.1 p.2.1 p.2.2 x h)

theorem mvIteSnd {α : Type} {M : Nat} {s : State} {a b : α × State} {c : Prop} [Decidable c] (ha : Moves M s a.2)
    (hb : Moves M s b.2) : Moves M s (if c then a else b).2 := by split <;> assumption

theorem mvIteFst {α : Type} {M : Nat} {s : State} {a b : State × α} {c : Prop} [Decidable c] (ha : Moves M s a.1)
    (hb : Moves M s b.1) : Moves M s (if c then a else b).1 := by split <;> assumption

theorem mvIteThd {α β : Type} {M : Nat} {s : State} {a b : α × β × State} {c : Prop} [Decidable c] (ha : Moves M s a.2.2)
    (hb : Moves M s b.2.2) : Moves M s (if c then a else b).2.2 := by split <;> assumption

theorem eqFst {α : Type} {N : Nat} {t u : State} {p : State × α} {a : α} (h : Moves N t p.1) (e : p = (u, a)) : Moves N t u := by
  subst e; exact h

theorem eqSnd {α : Type} {N : Nat} {t u : State} {p : α × State} {a : α} (h : Moves N t p.2) (e : p = (a, u)) : Moves N t u := by
  subst e; exact h

theorem eqThd {α β : Type} {N : Nat} {t u : State} {p : α × β × State} {a : α} {b : β} (h : Moves N t p.2.2)
    (e : p = (a, b, u)) : Moves N t u := by
  subst e; exact h

theorem eqFifth {α β γ δ : Type} {N : Nat} {t u : State} {p : α × β × γ × δ × State} {a : α} {b : β} {c : γ} {d : δ}
    (h : Moves N t p.2.2.2.2) (e : p = (a, b, c, d, u)) : Moves N t u := by
  subst e; exact h

/-- What an operation that may find nothing to do answers. -/
def MovesO (M : Nat) (s : State) (o : Option State) : Prop := ∀ t, o = some t → Moves M s t

theorem MovesO.run {M : Nat} {s t : State} {o : Option State} (h : MovesO M s o) (e : o = some t) : Moves M s t := h t e

theorem MovesO.step {M N : Nat} {s t : State} {o : Option State} (h : Moves M s t) (g : MovesO N t o) (hs : sub N M = true) :
    MovesO M s o := fun u e => h.step (g u e) hs

theorem mvNone {M : Nat} {s : State} : MovesO M s none := fun _ e => by cases e

theorem mvSome {M : Nat} {s t : State} (h : Moves M s t) : MovesO M s (some t) := fun u e => by cases e; exact h

theorem mvIteO {M : Nat} {s : State} {a b : Option State} {c : Prop} [Decidable c] (ha : MovesO M s a) (hb : MovesO M s b) :
    MovesO M s (if c then a else b) := by split <;> assumption

theorem mvGetD {M : Nat} {s d : State} {o : Option State} (h : MovesO M s o) (hd : Moves M s d) : Moves M s (o.getD d) := by
  cases o with
  | none => exact hd
  | some t => exact h t rfl

theorem mvMapO {α : Type} {M : Nat} {s : State} {o : Option α} {f : α → State} (h : ∀ a, o = some a → Moves M s (f a)) :
    MovesO M s (o.map f) := by
  intro t e
  cases o with
  | none => cases e
  | some a => cases e; exact h a rfl

/-- Writing a register word leaves every other word alone. -/
theorem rd_wr_ne {s : State} {k j : Nat} {v : Word} (h : j ≠ k) : (s.wr k v).rd j = s.rd j :=
  sget_sput_ne regReset s.regs k j v h

/-- A register word written is read back. -/
@[simp] theorem rd_wr_same {s : State} {k : Nat} {v : Word} : (s.wr k v).rd k = v := sget_sput_same regReset s.regs k v

/-- The galley's part of the canonical form. -/
structure GalWf (g : GalSt) : Prop where
  mem : Memory.wf g.mem = true
  poison : swf (fun _ => false) g.poison = true
  errs : swf (fun _ => []) g.errs = true
  written : swf (fun _ => false) g.written = true

/-- The configuration store's part of the canonical form. -/
structure EfcWf (e : EfcSt) : Prop where
  flash : swf flashBlank e.flash = true
  otp : swf flashBlank e.otp = true

/-- The rings' part of the canonical form. -/
structure HqWf (q : HqSt) : Prop where
  sq : swf (fun _ => {}) q.sq = true
  cq : swf (fun _ => {}) q.cq = true

theorem galMk {mem poison errs written paused pausedTicks delayed scrubLine kept recover} (h1 : Memory.wf mem = true)
    (h2 : swf (fun _ => false) poison = true) (h3 : swf (fun _ => []) errs = true) (h4 : swf (fun _ => false) written = true) :
    GalWf (GalSt.mk mem poison errs written paused pausedTicks delayed scrubLine kept recover) := ⟨h1, h2, h3, h4⟩

theorem efcMk {flash otp dead owner op words run refuse image} (h1 : swf flashBlank flash = true)
    (h2 : swf flashBlank otp = true) : EfcWf (EfcSt.mk flash otp dead owner op words run refuse image) := ⟨h1, h2⟩

theorem hqMk {sq cq cmds nextTag rr emptyScans sumFails sumHeld lineWait aborts log logSeq writeCache stopped}
    (h1 : swf (fun _ => {}) sq = true) (h2 : swf (fun _ => {}) cq = true) :
    HqWf (HqSt.mk sq cq cmds nextTag rr emptyScans sumFails sumHeld lineWait aborts log logSeq writeCache stopped) := ⟨h1, h2⟩

/-- A change of parts of the state other than the registers. -/
theorem mvMk {M : Nat} {s t : State} {lanes ports cap cmp gal pair pcie hq mag map och srv mot sec col efc mbx cal jtag pwr
    outbox fresh} (h : Moves M s t)
    (hg : GalWf t.gal → GalWf gal := by
      first
      | exact fun h => h
      | exact fun h => galMk (by first | exact h.mem | exact swf_sput _ _ _ _ h.mem | exact swf_sclear _ _ _ _ h.mem | exact swf_smap _ _ _ h.mem | exact swf_nil _) (by first | exact h.poison | exact swf_sput _ _ _ _ h.poison | exact swf_sclear _ _ _ _ h.poison | exact swf_smap _ _ _ h.poison | exact swf_nil _) (by first | exact h.errs | exact swf_sput _ _ _ _ h.errs | exact swf_sclear _ _ _ _ h.errs | exact swf_smap _ _ _ h.errs | exact swf_nil _) (by first | exact h.written | exact swf_sput _ _ _ _ h.written | exact swf_sclear _ _ _ _ h.written | exact swf_smap _ _ _ h.written | exact swf_nil _))
    (he : EfcWf t.efc → EfcWf efc := by
      first
      | exact fun h => h
      | exact fun h => efcMk (by first | exact h.flash | exact swf_sput _ _ _ _ h.flash | exact swf_sclear _ _ _ _ h.flash | exact swf_smap _ _ _ h.flash | exact swf_nil _) (by first | exact h.otp | exact swf_sput _ _ _ _ h.otp | exact swf_sclear _ _ _ _ h.otp | exact swf_smap _ _ _ h.otp | exact swf_nil _))
    (hh : HqWf t.hq → HqWf hq := by
      first
      | exact fun h => h
      | exact fun h => hqMk (by first | exact h.sq | exact swf_sput _ _ _ _ h.sq | exact swf_sclear _ _ _ _ h.sq | exact swf_smap _ _ _ h.sq | exact swf_nil _) (by first | exact h.cq | exact swf_sput _ _ _ _ h.cq | exact swf_sclear _ _ _ _ h.cq | exact swf_smap _ _ _ h.cq | exact swf_nil _))
    (hl : swf (fun _ => {}) t.lanes = true → swf (fun _ => {}) lanes = true := by
      intro h; first | exact h | exact swf_sput _ _ _ _ h | exact swf_sclear _ _ _ _ h | exact swf_smap _ _ _ h | exact swf_nil _)
    (hp : swf (fun _ => {}) t.ports = true → swf (fun _ => {}) ports = true := by
      intro h; first | exact h | exact swf_sput _ _ _ _ h | exact swf_sclear _ _ _ _ h | exact swf_smap _ _ _ h | exact swf_nil _)
    (h0 : lanes = t.lanes ∨ M.testBit 0 = true := by first | exact .inl (by with_reducible rfl) | exact .inr (by decide +kernel))
    (h1 : ports = t.ports ∨ M.testBit 1 = true := by first | exact .inl (by with_reducible rfl) | exact .inr (by decide +kernel))
    (h2 : cap = t.cap ∨ M.testBit 2 = true := by first | exact .inl (by with_reducible rfl) | exact .inr (by decide +kernel))
    (h3 : cmp = t.cmp ∨ M.testBit 3 = true := by first | exact .inl (by with_reducible rfl) | exact .inr (by decide +kernel))
    (h4 : gal = t.gal ∨ M.testBit 4 = true := by first | exact .inl (by with_reducible rfl) | exact .inr (by decide +kernel))
    (h5 : pair = t.pair ∨ M.testBit 5 = true := by first | exact .inl (by with_reducible rfl) | exact .inr (by decide +kernel))
    (h6 : pcie = t.pcie ∨ M.testBit 6 = true := by first | exact .inl (by with_reducible rfl) | exact .inr (by decide +kernel))
    (h7 : hq = t.hq ∨ M.testBit 7 = true := by first | exact .inl (by with_reducible rfl) | exact .inr (by decide +kernel))
    (h8 : mag = t.mag ∨ M.testBit 8 = true := by first | exact .inl (by with_reducible rfl) | exact .inr (by decide +kernel))
    (h9 : map = t.map ∨ M.testBit 9 = true := by first | exact .inl (by with_reducible rfl) | exact .inr (by decide +kernel))
    (h10 : och = t.och ∨ M.testBit 10 = true := by first | exact .inl (by with_reducible rfl) | exact .inr (by decide +kernel))
    (h11 : srv = t.srv ∨ M.testBit 11 = true := by first | exact .inl (by with_reducible rfl) | exact .inr (by decide +kernel))
    (h12 : mot = t.mot ∨ M.testBit 12 = true := by first | exact .inl (by with_reducible rfl) | exact .inr (by decide +kernel))
    (h13 : sec = t.sec ∨ M.testBit 13 = true := by first | exact .inl (by with_reducible rfl) | exact .inr (by decide +kernel))
    (h14 : col = t.col ∨ M.testBit 14 = true := by first | exact .inl (by with_reducible rfl) | exact .inr (by decide +kernel))
    (h15 : efc = t.efc ∨ M.testBit 15 = true := by first | exact .inl (by with_reducible rfl) | exact .inr (by decide +kernel))
    (h16 : mbx = t.mbx ∨ M.testBit 16 = true := by first | exact .inl (by with_reducible rfl) | exact .inr (by decide +kernel))
    (h17 : cal = t.cal ∨ M.testBit 17 = true := by first | exact .inl (by with_reducible rfl) | exact .inr (by decide +kernel))
    (h18 : jtag = t.jtag ∨ M.testBit 18 = true := by first | exact .inl (by with_reducible rfl) | exact .inr (by decide +kernel))
    (h19 : pwr = t.pwr ∨ M.testBit 19 = true := by first | exact .inl (by with_reducible rfl) | exact .inr (by decide +kernel))
    (h20 : outbox = t.outbox ∨ M.testBit 20 = true := by first | exact .inl (by with_reducible rfl) | exact .inr (by decide +kernel))
    (h21 : fresh = t.fresh ∨ M.testBit 21 = true := by first | exact .inl (by with_reducible rfl) | exact .inr (by decide +kernel)) :
    Moves M s (State.mk t.part t.regs fresh lanes ports cap cmp gal pair pcie hq mag map och srv mot sec col efc mbx
      cal jtag pwr outbox t.pending) := by
  have a := h
  have f : ∀ {α : Type} {x y z : α} {i : Nat}, (x = y ∨ M.testBit i = true) → (M.testBit i = false → y = z) →
      M.testBit i = false → x = z := by
    intro α x y z i o g e
    rcases o with o | o
    · exact o.trans (g e)
    · rw [e] at o; cases o
  have cn : Canon s → Canon (State.mk t.part t.regs fresh lanes ports cap cmp gal pair pcie hq mag map och srv mot sec col efc mbx
      cal jtag pwr outbox t.pending) := by
    intro x
    have d := a.canon x
    have g := hg ⟨d.mem, d.poison, d.errs, d.written⟩
    have e := he ⟨d.flash, d.otp⟩
    have q := hh ⟨d.sq, d.cq⟩
    exact ⟨d.regs, g.mem, g.poison, g.errs, g.written, e.flash, e.otp, hl d.lanes, hp d.ports, q.sq, q.cq⟩
  exact ⟨cn, a.part, a.pending, f h0 a.lanes, f h1 a.ports, f h2 a.cap, f h3 a.cmp, f h4 a.gal, f h5 a.pair, f h6 a.pcie,
    f h7 a.hq, f h8 a.mag, f h9 a.map, f h10 a.och, f h11 a.srv, f h12 a.mot, f h13 a.sec, f h14 a.col, f h15 a.efc, f h16 a.mbx,
    f h17 a.cal, f h18 a.jtag, f h19 a.pwr, f h20 a.outbox, f h21 a.fresh, a.regs⟩

/-- A register word is written, and the mask names its array. -/
theorem mvWr {M : Nat} {s t : State} {b st n i : Nat} {v : Word} (h : Moves M s t) (hc : covers M b st n = true) (hi : i < n) :
    Moves M s (t.wr (b + st * i) v) := by
  have a := h
  have w : Canon t → Canon (t.wr (b + st * i) v) := fun d =>
    ⟨swf_sput _ _ _ _ d.regs, d.mem, d.poison, d.errs, d.written, d.flash, d.otp, d.lanes, d.ports, d.sq, d.cq⟩
  refine ⟨fun x => w (a.canon x), a.part, a.pending, a.lanes, a.ports, a.cap, a.cmp, a.gal,
    a.pair, a.pcie, a.hq, a.mag, a.map, a.och, a.srv, a.mot, a.sec, a.col, a.efc, a.mbx, a.cal, a.jtag, a.pwr, a.outbox, a.fresh,
    ?_⟩
  intro x k hk
  rw [rd_wr_ne (hk b st n hc i hi)]
  exact a.regs x k hk

/-- A register word is written, and the mask names every register. -/
theorem mvWrAny {M : Nat} {s t : State} {k : Nat} {v : Word} (h : Moves M s t) (hc : M.testBit 22 = true) :
    Moves M s (t.wr k v) := by
  have := mvWr (b := k) (st := 0) (n := 1) (i := 0) (v := v) h (by simp [covers, hc]) (by decide)
  simpa using this

theorem mvWr0 {M : Nat} {s t : State} {k : Nat} {v : Word} (h : Moves M s t) (hc : covers M k 0 1 = true) :
    Moves M s (t.wr k v) := by
  have := mvWr (b := k) (st := 0) (n := 1) (i := 0) (v := v) h hc (by decide)
  simpa using this

theorem mvPut {M : Nat} {s t : State} {f : Fld} {i v : Nat} (h : Moves M s t) (hc : covers M f.base f.stride f.count = true) :
    Moves M s (t.put f v i) := by
  unfold State.put
  split
  · exact mvWr h hc ‹_›
  · exact h

theorem mvSetFlag {M : Nat} {s t : State} {f : Fld} {i : Nat} {b : Bool} (h : Moves M s t)
    (hc : covers M f.base f.stride f.count = true) : Moves M s (t.setFlag f b i) := mvPut h hc

theorem mvAdd {M : Nat} {s t : State} {f : Fld} {i n : Nat} (h : Moves M s t) (hc : covers M f.base f.stride f.count = true) :
    Moves M s (t.add f n i) := mvPut h hc

theorem mvInc {M : Nat} {s t : State} {f : Fld} {i : Nat} (h : Moves M s t) (hc : covers M f.base f.stride f.count = true) :
    Moves M s (t.inc f i) := mvPut h hc

theorem mvPutInt {M : Nat} {s t : State} {f : Fld} {i : Nat} {v : Int} (h : Moves M s t)
    (hc : covers M f.base f.stride f.count = true) : Moves M s (t.putInt f v i) := mvPut h hc

theorem mvPut64 {M : Nat} {s t : State} {f : Fld} {i v : Nat} (h : Moves M s t)
    (hc : (covers M f.base f.stride f.count && covers M (f.base + 4) f.stride f.count) = true) : Moves M s (t.put64 f v i) := by
  simp only [Bool.and_eq_true] at hc
  unfold State.put64
  split
  · rw [Nat.add_right_comm]
    exact mvWr (mvWr h hc.1 ‹_›) hc.2 ‹_›
  · exact h

theorem mvAdd64 {M : Nat} {s t : State} {f : Fld} {i n : Nat} (h : Moves M s t)
    (hc : (covers M f.base f.stride f.count && covers M (f.base + 4) f.stride f.count) = true) : Moves M s (t.add64 f n i) := mvPut64 h hc

theorem mvWrite {M : Nat} {s t : State} {k : Nat} {v : Word} (h : Moves M s t) (hc : M.testBit 22 = true) :
    Moves M s (t.write k v) := mvWrAny h hc

theorem mvWrite0 {M : Nat} {s t : State} {k : Nat} {v : Word} (h : Moves M s t) (hc : covers M k 0 1 = true) :
    Moves M s (t.write k v) := mvWr0 h hc

theorem mvWriteExcept {M : Nat} {s t : State} {k : Nat} {v m : Word} (h : Moves M s t) (hc : M.testBit 22 = true) :
    Moves M s (t.writeExcept k v m) := mvWrAny h hc

theorem mvWriteExcept0 {M : Nat} {s t : State} {k : Nat} {v m : Word} (h : Moves M s t) (hc : covers M k 0 1 = true) :
    Moves M s (t.writeExcept k v m) := mvWr0 h hc

theorem mvWriteAt {M : Nat} {s t : State} {f : Fld} {i : Nat} {v : Word} (h : Moves M s t)
    (hc : covers M f.base f.stride f.count = true) : Moves M s (t.writeAt f i v) := by
  unfold State.writeAt
  split
  · exact mvWr h hc ‹_›
  · exact h

/-- Registers are dropped to their reset values, and the mask names every register. -/
theorem mvSkeep {M : Nat} {s t : State} {p : Nat → Bool} (h : Moves M s t) (hc : M.testBit 22 = true) :
    Moves M s { t with regs := skeep t.regs p } := by
  have a := h
  have w : Canon t → Canon { t with regs := skeep t.regs p } := fun d =>
    ⟨swf_skeep _ _ _ d.regs, d.mem, d.poison, d.errs, d.written, d.flash, d.otp, d.lanes, d.ports, d.sq, d.cq⟩
  exact ⟨fun x => w (a.canon x), a.part, a.pending, a.lanes, a.ports, a.cap, a.cmp, a.gal,
    a.pair, a.pcie, a.hq, a.mag, a.map, a.och, a.srv, a.mot, a.sec, a.col, a.efc, a.mbx, a.cal, a.jtag, a.pwr, a.outbox, a.fresh,
    fun x => by rw [hc] at x; cases x⟩

/-- Every word from the base on is named. -/
def coversRun (M b st n : Nat) : Nat → Bool
  | 0 => true
  | m + 1 => covers M b st n && coversRun M (b + 4) st n m

theorem mvZeroW {M : Nat} {s t : State} {b st n i m : Nat} (h : Moves M s t) (hc : coversRun M b st n m = true) (hi : i < n) :
    Moves M s (t.zeroWords (b + st * i) m) := by
  induction m generalizing t b with
  | zero => exact h
  | succ m ih =>
    simp only [coversRun, Bool.and_eq_true] at hc
    show Moves M s ((t.wr (b + st * i) 0).zeroWords (b + st * i + 4) m)
    rw [Nat.add_right_comm]
    exact ih (mvWr h hc.1 hi) hc.2

theorem mvZeroRow {M : Nat} {s t : State} {f : Fld} {i m : Nat} (h : Moves M s t)
    (hc : coversRun M f.base f.stride f.count m = true) : Moves M s (t.zeroRow f i m) := by
  unfold State.zeroRow
  split
  · exact mvZeroW h hc ‹_›
  · exact h

theorem mvZero0 {M : Nat} {s t : State} {k m : Nat} (h : Moves M s t) (hc : coversRun M k 0 1 m = true) :
    Moves M s (t.zeroWords k m) := by
  have := mvZeroW (b := k) (st := 0) (n := 1) (i := 0) h hc (by decide)
  simpa using this

theorem mv_clearShadows {s : State} {p : Nat → Bool} : Moves 0x4 s (State.clearShadows s p) := by
  unfold State.clearShadows
  exact mvMk Moves.refl

theorem mvEmit {M : Nat} {s t : State} {o : Output} (h : Moves M s t) (hc : M.testBit 20 = true) : Moves M s (t.emit o) :=
  mvMk h (h20 := .inr hc)

theorem mvFree {M : Nat} {s t : State} (h : Moves M s t) (hc : M.testBit 21 = true) : Moves M s t.free.2 :=
  mvMk h (h21 := .inr hc)

theorem mvFreeBytes {M n : Nat} {s t : State} (h : Moves M s t) (hc : M.testBit 21 = true) : Moves M s (t.freeBytes n).2 :=
  mvMk h (h21 := .inr hc)

theorem mvSnd {α : Type} {M : Nat} {s t : State} {x : α} (h : Moves M s t) : Moves M s (x, t).2 := h

theorem mvThd {α β : Type} {M : Nat} {s t : State} {x : α} {y : β} (h : Moves M s t) : Moves M s (x, y, t).2.2 := h

theorem mvFifth {α β γ δ : Type} {M : Nat} {s t : State} {x : α} {y : β} {z : γ} {w : δ} (h : Moves M s t) :
    Moves M s (x, y, z, w, t).2.2.2.2 := h

theorem mvFst {α : Type} {M : Nat} {s t : State} {x : α} (h : Moves M s t) : Moves M s (t, x).1 := h

end Sys2Proof.Laws
end

