-- ==== Sys2Proof/Laws/MovesFlags.lean ====
section
/-!
SUPPORT. What each definition of Machine/Flags.lean can change (Laws/Moves.lean).
-/
set_option Elab.async false

namespace Sys2Proof.Laws
open Sys2Proof.Machine

theorem mv_setPba {s : State} {fn vec : Nat} {b : Bool} : Moves 0x200000200000000000000000000000000000000000000000000000000000000000000000000000 s (s.setPba fn vec b) := by
  unfold State.setPba pbaFld
  split <;> exact mvPut Moves.refl (by decide +kernel)

theorem mv_signalIf {s : State} {may : Bool} {fn vec : Nat} : Moves 0x200000200000000000000000000000000000000000000000000000000000000000000000100000 s (State.signalIf s may fn vec) := by
  unfold State.signalIf
  with_reducible
    apply mvIte; exact Moves.refl; apply mvIte; apply Moves.step (g := mv_setPba); exact Moves.refl; decide +kernel
    apply Moves.step (g := mv_setPba); apply mvEmit; exact Moves.refl; decide +kernel; decide +kernel

theorem mv_signal {s : State} {fn vec : Nat} : Moves 0x200000200000000000000000000000000000000000000000000000000000000000000000100000 s (State.signal s fn vec) := by
  unfold State.signal
  with_reducible
    apply Moves.step (g := mv_signalIf); exact Moves.refl; decide +kernel

theorem mv_event {M : Nat} {s t : State} {f : Fld} {i : Nat} (h : Moves M s t)
    (hc : (covers M f.base f.stride f.count && sub 0x200000200000000000000000000000000000000000000000000000000000000000000000100000 M) = true) : Moves M s (t.event f i) := by
  simp only [Bool.and_eq_true] at hc
  unfold State.event
  have h1 : Moves M s (t.setFlag f true i) := mvSetFlag h hc.1
  split
  · exact h1
  · exact mvIte h1 (h1.step mv_signal hc.2)

theorem mv_colEvent {M : Nat} {s t : State} {f : Fld} (h : Moves M s t)
    (hc : (covers M f.base f.stride f.count && sub 0x200000200000000000000000000000000000000000000000000000000000000000000000100000 M) = true) : Moves M s (t.colEvent f) := by
  simp only [Bool.and_eq_true] at hc
  unfold State.colEvent
  have h1 : Moves M s (t.setFlag f true) := mvSetFlag h hc.1
  split
  · exact h1
  · exact mvIte h1 (h1.step mv_signal hc.2)

theorem mv_resignal {s : State} {k : Nat} : Moves 0x200000200000000000000000000000000000000000000000000000000000000000000000100000 s (State.resignal s k) := by
  unfold State.resignal
  with_reducible
    apply mvIte; apply mvFold; exact Moves.refl; intro u x hu; apply mvIte; apply Moves.step (g := mv_signal); assumption
    decide +kernel; assumption; split; exact Moves.refl; apply mvIte; apply Moves.step (g := mv_signal); exact Moves.refl
    decide +kernel; exact Moves.refl

theorem mv_markUnitFailed {s : State} {id : Nat} : Moves 0x200000200000000000000000000000000000000000000000000000000000000000000200100000 s (State.markUnitFailed s id) := by
  unfold State.markUnitFailed
  with_reducible
    apply mvIte; exact Moves.refl; apply Moves.step (g := mv_signal); apply mvWr0; exact Moves.refl; decide +kernel
    decide +kernel

end Sys2Proof.Laws
end

