-- ==== Sys2Proof/Laws/MovesOps.lean ====
section
/-!
SUPPORT. What each definition of Machine/Ops.lean can change (Laws/Moves.lean).
-/
set_option Elab.async false

namespace Sys2Proof.Laws
open Sys2Proof.Machine

theorem mv_setSq {s : State} {n : Nat} {q : SqSt} : Moves 0x80 s (State.setSq s n q) := by
  unfold State.setSq
  with_reducible
    refine mvMk ?_; exact Moves.refl

theorem mv_setCq {s : State} {m : Nat} {q : CqSt} : Moves 0x80 s (State.setCq s m q) := by
  unfold State.setCq
  with_reducible
    refine mvMk ?_; exact Moves.refl

theorem mv_issueRead {s : State} {use : ReadUse} {addr len : Nat} : Moves 0x100040 s (State.issueRead s use addr len) := by
  unfold State.issueRead
  with_reducible
    refine mvMk ?_; apply mvEmit; exact Moves.refl; decide +kernel

theorem mv_endRead {s : State} {use : ReadUse} : Moves 0x40 s (State.endRead s use) := by
  unfold State.endRead
  with_reducible
    refine mvMk ?_; exact Moves.refl

theorem mv_endTag {s : State} {tag : Nat} : Moves 0x40 s (State.endTag s tag) := by
  unfold State.endTag
  with_reducible
    refine mvMk ?_; exact Moves.refl

theorem mv_readHead {s : State} {m : Nat} : Moves 0x100040 s (State.readHead s m) := by
  unfold State.readHead
  with_reducible
    apply mvIte; exact Moves.refl; apply Moves.step (g := mv_issueRead); exact Moves.refl; decide +kernel

theorem mv_writeCpl {s : State} {m : Nat} {e : CplEntry} : Moves 0x400000000000000000000000000000100000 s (State.writeCpl s m e) := by
  unfold State.writeCpl
  with_reducible
    apply mvPut; apply mvPut; apply mvEmit; exact Moves.refl; decide +kernel; decide +kernel; decide +kernel

theorem mv_cplMessage {s : State} {m : Nat} : Moves 0x200000200000000000000000000000000000000000000000000000000000000000000000100080 s (State.cplMessage s m) := by
  unfold State.cplMessage
  with_reducible
    apply mvIte; exact Moves.refl; apply mvIte; apply Moves.step (g := mv_signal); exact Moves.refl; decide +kernel
    apply Moves.step (g := mv_setCq); exact Moves.refl; decide +kernel

theorem mv_countHeld {s : State} : Moves 0x40000000000000000000000000000000000000000000000000000000000000000000000000000 s (State.countHeld s) := by
  unfold State.countHeld
  with_reducible
    apply mvPut; exact Moves.refl; decide +kernel

theorem mv_postCpl {s : State} {m : Nat} {e : CplEntry} : Moves 0x2400002000000000000000000000000000000000004000000000000000000000000000001000c0 s (State.postCpl s m e) := by
  unfold State.postCpl
  with_reducible
    apply mvIte; apply Moves.step (g := mv_cplMessage); apply Moves.step (g := mv_writeCpl); exact Moves.refl
    decide +kernel; decide +kernel; apply Moves.step (g := mv_countHeld); apply mvIte; apply Moves.step (g := mv_readHead)
    apply mvSetFlag; apply Moves.step (g := mv_setCq); exact Moves.refl; decide +kernel; decide +kernel; decide +kernel
    apply Moves.step (g := mv_setCq); exact Moves.refl; decide +kernel; decide +kernel

theorem mv_writeHeld {s : State} {m : Nat} {k : Nat} : Moves 0x400000000000000000000000000000100080 s (State.writeHeld s m k) := by
  induction k generalizing s m  with
  | zero =>
    rw [State.writeHeld]
    exact Moves.refl
  | succ n ih =>
    rw [State.writeHeld]
    with_reducible
      split; apply mvSetFlag; exact Moves.refl; decide +kernel; apply mvIte; apply mvSetFlag; exact Moves.refl
      decide +kernel; apply Moves.step (g := ih); apply Moves.step (g := mv_writeCpl); apply Moves.step (g := mv_setCq)
      exact Moves.refl; decide +kernel; decide +kernel; decide +kernel

theorem mv_releaseHeld {s : State} {m : Nat} : Moves 0x240000200000000000000000000000000000000000400000000000000000000000000000100080 s (State.releaseHeld s m) := by
  unfold State.releaseHeld
  with_reducible
    apply mvIte; exact Moves.refl; apply mvIte; apply Moves.step (g := mv_cplMessage)
    apply Moves.step (g := mv_countHeld); apply Moves.step (g := mv_writeHeld); exact Moves.refl; decide +kernel
    decide +kernel; decide +kernel; apply Moves.step (g := mv_countHeld); apply Moves.step (g := mv_writeHeld)
    exact Moves.refl; decide +kernel; decide +kernel

theorem mv_logError {s : State} {ring cid epoch opcode status flags detail : Nat} : Moves 0x80 s (State.logError s ring cid epoch opcode status flags detail) := by
  unfold State.logError
  with_reducible
    refine mvMk ?_; exact Moves.refl

theorem mv_dropFetches {s : State} {n : Nat} : Moves 0x40 s (State.dropFetches s n) := by
  unfold State.dropFetches
  with_reducible
    refine mvMk ?_; exact Moves.refl

theorem mv_freezeRing {s : State} {n : Nat} : Moves 0x41000000000000000000000000000000040 s (State.freezeRing s n) := by
  unfold State.freezeRing
  with_reducible
    apply Moves.step (g := mv_dropFetches); apply mvInc; apply mvSetFlag; exact Moves.refl; decide +kernel; decide +kernel
    decide +kernel

theorem mv_ringFault {s : State} {n status detail : Nat} : Moves 0x2400002000000000000000000000000000000000004410000000000000000000000000001000c0 s (State.ringFault s n status detail) := by
  unfold State.ringFault
  with_reducible
    apply mvIte; exact Moves.refl; apply Moves.step (g := mv_postCpl); apply Moves.step (g := mv_logError)
    apply Moves.step (g := mv_freezeRing); exact Moves.refl; decide +kernel; decide +kernel; decide +kernel

theorem mv_complete {s : State} {c : Cmd} {status result : Nat} {poisoned : Bool} {detail : Nat} : Moves 0x2400002000000000000000000000000000000000004410000000000000000000000000001010c0 s (State.complete s c status result poisoned detail) := by
  unfold State.complete
  with_reducible
    apply mvIte; refine mvMk ?_; exact Moves.refl; apply mvIte; apply Moves.step (g := mv_postCpl); refine mvMk ?_
    exact Moves.refl; decide +kernel; apply Moves.step (g := mv_postCpl); apply mvIte
    apply Moves.step (g := mv_freezeRing); apply Moves.step (g := mv_logError); refine mvMk ?_; exact Moves.refl
    decide +kernel; decide +kernel; apply Moves.step (g := mv_logError); refine mvMk ?_; exact Moves.refl; decide +kernel
    decide +kernel

theorem mv_setCmd {s : State} {c : Cmd} : Moves 0x80 s (State.setCmd s c) := by
  unfold State.setCmd
  with_reducible
    refine mvMk ?_; exact Moves.refl

theorem mv_countBound {s : State} {slot : Nat} : Moves 0x20000000000000000000000000000000000000000000000000000000000 s (State.countBound s slot) := by
  unfold State.countBound
  with_reducible
    apply mvPut; exact Moves.refl; decide +kernel

theorem mv_unbind {s : State} {tag : Nat} : Moves 0x2400002000000000000200000000000000000000004410000000000000000000000000001030c0 s (State.unbind s tag) := by
  unfold State.unbind
  with_reducible
    apply mvFold; refine mvMk ?_; apply mvFold; refine mvMk ?_; exact Moves.refl; intro u x hu
    apply Moves.step (g := mv_countBound); assumption; decide +kernel; intro u x hu; split
    apply Moves.step (g := mv_complete); assumption; decide +kernel; assumption

theorem mv_finish {s : State} {tag status result : Nat} {poisoned : Bool} {detail : Nat} : Moves 0x2400002000000000000200000000000000000000004410000000000000000000000000001030c0 s (State.finish s tag status result poisoned detail) := by
  unfold State.finish
  with_reducible
    apply Moves.step (g := mv_unbind); split; apply Moves.step (g := mv_complete); exact Moves.refl; decide +kernel
    exact Moves.refl; decide +kernel

theorem mv_cutCmd {s : State} {c : Cmd} {status : Nat} : Moves 0x2400002000000000000200000000000000000000004410000000000000000000000000001030c0 s (State.cutCmd s c status) := by
  unfold State.cutCmd
  with_reducible
    apply Moves.step (g := mv_finish); exact Moves.refl; decide +kernel

theorem mv_onCmd {M : Nat} {s t : State} {tag op : Nat} {f : State → Cmd → State} (h : Moves M s t) (hs : sub 0x2400002000000000000200000000000000000000004410000000000000000000000000001030c0 M = true)
    (hf : ∀ u c, Moves M s u → Moves M s (f u c)) : MovesR M s (t.onCmd tag op f) := by
  unfold State.onCmd
  split
  · exact mvNext h
  · refine mvIteR (mvNext h) (mvIteR (mvNext (h.step (Moves.step Moves.refl mv_finish (by decide +kernel)) hs))
      (mvIteR (mvNext h) (mvNext (hf _ _ (h.step (Moves.step Moves.refl mv_setCmd (by decide +kernel)) hs)))))

theorem mv_countPoisonTx {s : State} {runs : List (Nat × Nat × Bool)} : Moves 0x4000000000 s (State.countPoisonTx s runs) := by
  unfold State.countPoisonTx
  with_reducible
    apply mvIte; exact Moves.refl; apply mvAdd; exact Moves.refl; decide +kernel

theorem mv_hostPiece {s : State} {addr : Nat} {bytes : List Byte} {poisoned : Bool} : Moves 0x100000 s (State.hostPiece s addr bytes poisoned) := by
  unfold State.hostPiece
  with_reducible
    apply mvIte; exact Moves.refl; apply mvEmit; exact Moves.refl; decide +kernel

theorem mv_dataWrite {s : State} {addr o : Nat} {bytes : List Byte} {bad : List Nat} : Moves 0x4000100000 s (State.dataWrite s addr o bytes bad) := by
  unfold State.dataWrite
  with_reducible
    apply mvFold; apply Moves.step (g := mv_countPoisonTx); exact Moves.refl; decide +kernel; intro u x hu
    apply Moves.step (g := mv_hostPiece); assumption; decide +kernel

theorem mv_scatter {s : State} {bytes : List Byte} {bad : List Nat} {o : Nat} {l : List (Nat × Nat)} : Moves 0x4000100000 s (State.scatter s bytes bad o l) := by
  induction l generalizing s bytes bad o with
  | nil =>
    rw [State.scatter]
    exact Moves.refl
  | cons hd tl ih =>
    rw [State.scatter]
    with_reducible
      apply Moves.step (g := ih); apply Moves.step (g := mv_dataWrite); exact Moves.refl; decide +kernel; decide +kernel

theorem mv_deliver {s : State} {c : Cmd} {bytes : List Byte} {bad : List Nat} : Moves 0x4000100000 s (State.deliver s c bytes bad) := by
  unfold State.deliver
  with_reducible
    apply Moves.step (g := mv_scatter); exact Moves.refl; decide +kernel

theorem mv_setTake {s : State} {seg : Nat} {t : TakeSt} : Moves 0x4 s (State.setTake s seg t) := by
  unfold State.setTake
  with_reducible
    refine mvMk ?_; exact Moves.refl

theorem mv_noteSeg {s : State} {seg : Nat} : Moves 0x20 s (State.noteSeg s seg) := by
  unfold State.noteSeg
  with_reducible
    apply mvIte; refine mvMk ?_; exact Moves.refl; exact Moves.refl

end Sys2Proof.Laws
end

