-- ==== Sys2Proof/Laws/MovesJournal.lean ====
section
/-!
SUPPORT. What each definition of Machine/Journal.lean can change (Laws/Moves.lean).
-/
set_option Elab.async false

namespace Sys2Proof.Laws
open Sys2Proof.Machine

theorem mv_flashPut {s : State} {a : Nat} {b : List Byte} : Moves 0x8000 s (State.flashPut s a b) := by
  unfold State.flashPut
  with_reducible refine mvMk Moves.refl (he := ?_)
  exact fun h => efcMk (swf_puts flashBlank id _ _ _ h.flash) h.otp

theorem mv_journalPut {s : State} {j base kind : Nat} {payload : List Byte} : Moves 0x18000000000000000000000000000000000000000000000000000000008000 s (State.journalPut s j base kind payload) := by
  unfold State.journalPut
  with_reducible
    apply mvIte; apply mvAdd; apply Moves.step (g := mv_flashPut); exact Moves.refl; decide +kernel; decide +kernel
    apply mvAdd; apply Moves.step (g := mv_flashPut); split; exact Moves.refl; apply mvInc
    apply Moves.step (g := mv_flashPut); apply mvIte; exact Moves.refl; apply mvInc; refine mvMk ?_; exact Moves.refl
    decide +kernel; decide +kernel; decide +kernel; decide +kernel; decide +kernel

theorem mv_journalCompact {s : State} {j base : Nat} : Moves 0x18000000000000000000000000000000000000000000000000000000008000 s (State.journalCompact s j base) := by
  unfold State.journalCompact
  with_reducible
    apply mvIte; exact Moves.refl; apply mvInc; apply Moves.step (g := mv_flashPut); apply mvInc; refine mvMk ?_
    apply mvFold; exact Moves.refl; intro u x hu; split; apply mvIte; apply Moves.step (g := mv_journalPut); assumption
    decide +kernel; assumption; assumption; decide +kernel; decide +kernel; decide +kernel

end Sys2Proof.Laws
end

