-- ==== Sys2Proof/Laws/MovesAos.lean ====
section
/-!
SUPPORT. What each definition of Machine/Aos.lean can change (Laws/Moves.lean).
-/
set_option Elab.async false

namespace Sys2Proof.Laws
open Sys2Proof.Machine

theorem mv_contain {s : State} {fn cause : Nat} : Moves 0x3c0000200000000000000000000000000000000000000000000000000000000000000000100000 s (State.contain s fn cause) := by
  unfold State.contain
  with_reducible
    apply mvIte; exact Moves.refl; apply mvIte; apply mvSetFlag; exact Moves.refl
    unfold causeFld; split <;> decide +kernel; apply mvPut64; apply mvPut; apply mvSetFlag; apply mvSetFlag
    apply Moves.step (g := mv_signal); exact Moves.refl; decide +kernel; unfold causeFld; split <;> decide +kernel
    decide +kernel; decide +kernel; decide +kernel

theorem mv_cause {M : Nat} {s t : State} {f : Fld} (h : Moves M s t) (hc : covers M f.base f.stride f.count = true) :
    Moves M s (t.cause f) := mvPut h hc

theorem mv_lasersOff {s : State} : Moves 0x80000000000000000000000000000000000000000080400 s (State.lasersOff s) := by
  unfold State.lasersOff
  with_reducible
    apply mvFold; refine mvMk ?_; exact Moves.refl; intro u x hu; apply mvPut; apply mvPut; assumption; decide +kernel
    decide +kernel

theorem mv_setLoop {s : State} {l : Nat} {v : LoopSt} : Moves 0x800 s (State.setLoop s l v) := by
  unfold State.setLoop
  with_reducible
    refine mvMk ?_; exact Moves.refl

theorem mv_coilOff {s : State} {l : Nat} : Moves 0x8000000000000000000000000000000000000000000000080000 s (State.coilOff s l) := by
  unfold State.coilOff
  with_reducible
    refine mvMk ?_; apply mvPut; exact Moves.refl; decide +kernel

theorem mv_dropJump {s : State} {l : Nat} : Moves 0x800 s (State.dropJump s l) := by
  unfold State.dropJump
  with_reducible
    apply mvIte; refine mvMk ?_; exact Moves.refl; exact Moves.refl

theorem mv_loopOff {s : State} {l : Nat} : Moves 0x8800000000000000000000000000000000000000000000080800 s (State.loopOff s l) := by
  unfold State.loopOff
  with_reducible
    apply Moves.step (g := mv_coilOff); apply mvPut; apply Moves.step (g := mv_setLoop)
    apply Moves.step (g := mv_dropJump); exact Moves.refl; decide +kernel; decide +kernel; decide +kernel; decide +kernel

theorem mv_loopsOff {s : State} : Moves 0x8800000000000000000000000000000000000000000000080800 s (State.loopsOff s) := by
  unfold State.loopsOff
  with_reducible
    apply mvFold; exact Moves.refl; intro u x hu; apply Moves.step (g := mv_loopOff); assumption; decide +kernel

theorem mv_queueReloc {s : State} {lfn : Nat} {area : List Byte} : Moves 0x200000200000000000000000000000000880000000000000000000000000000000000000100400 s (State.queueReloc s lfn area) := by
  unfold State.queueReloc
  with_reducible
    refine mvMk ?_; apply mv_event; apply mvInc; exact Moves.refl; decide +kernel; decide +kernel

theorem mv_endArchive {s : State} : Moves 0x80000000000000000000000000000000000000000400 s (State.endArchive s) := by
  unfold State.endArchive
  with_reducible
    refine mvMk ?_; apply mvPut; exact Moves.refl; decide +kernel

theorem mv_resumeJournal {s : State} {r : ResumeEntry} : Moves 0x18000000000000000000000000000000000000000000000000000000008000 s (State.resumeJournal s r) := by
  unfold State.resumeJournal
  with_reducible
    apply Moves.step (g := mv_journalCompact); apply Moves.step (g := mv_journalPut); exact Moves.refl; decide +kernel
    decide +kernel

theorem mv_archiveStop {s : State} {status : Option Nat} : Moves 0x24000020000000001802000000000000088000000044100000000000000000000000000010b4c0 s (State.archiveStop s status) := by
  unfold State.archiveStop
  with_reducible
    split; exact Moves.refl; apply mvIte; apply mvFold; refine mvMk ?_; exact Moves.refl; intro u x hu
    apply Moves.step (g := mv_queueReloc); assumption; decide +kernel; split; split; apply Moves.step (g := mv_finish)
    apply Moves.step (g := mv_endArchive); apply Moves.step (g := mv_resumeJournal); refine mvMk ?_; apply mvFold
    exact Moves.refl; intro u x hu; apply Moves.step (g := mv_queueReloc); assumption; decide +kernel; decide +kernel
    decide +kernel; decide +kernel; apply Moves.step (g := mv_endArchive); apply Moves.step (g := mv_resumeJournal)
    refine mvMk ?_; apply mvFold; exact Moves.refl; intro u x hu; apply Moves.step (g := mv_queueReloc); assumption
    decide +kernel; decide +kernel; decide +kernel; split; apply Moves.step (g := mv_finish)
    apply Moves.step (g := mv_endArchive); apply Moves.step (g := mv_resumeJournal); refine mvMk ?_; apply mvFold
    exact Moves.refl; intro u x hu; apply Moves.step (g := mv_queueReloc); assumption; decide +kernel; decide +kernel
    decide +kernel; decide +kernel; apply Moves.step (g := mv_endArchive); apply Moves.step (g := mv_resumeJournal)
    refine mvMk ?_; apply mvFold; exact Moves.refl; intro u x hu; apply Moves.step (g := mv_queueReloc); assumption
    decide +kernel; decide +kernel; decide +kernel

theorem mv_writeFault {s : State} {beams : List Nat} : Moves 0x24000020000000001802000000000000488000000044100000000000000000000000000010b4c0 s (State.writeFault s beams) := by
  unfold State.writeFault
  with_reducible
    split; exact Moves.refl; apply mvIte; apply Moves.step (g := mv_archiveStop); apply mv_event; apply mvInc
    apply mvFold; refine mvMk ?_; exact Moves.refl; intro u x hu; apply Moves.step (g := mv_queueReloc); assumption
    decide +kernel; decide +kernel; decide +kernel; decide +kernel; apply mv_event; apply mvInc; apply mvFold
    refine mvMk ?_; exact Moves.refl; intro u x hu; apply Moves.step (g := mv_queueReloc); assumption; decide +kernel
    decide +kernel; decide +kernel

theorem mv_servoFault {s : State} : Moves 0x24000020000000001802000000000000488000000044100000000000000000000000000010b4c0 s (State.servoFault s) := by
  unfold State.servoFault
  with_reducible
    apply mvIte; exact Moves.refl; apply Moves.step (g := mv_writeFault); exact Moves.refl; decide +kernel

theorem mv_loopFault {s : State} {l cause : Nat} : Moves 0x24000020000000001802000000888200488000000044100000000000000000000000000018bcc0 s (State.loopFault s l cause) := by
  unfold State.loopFault
  with_reducible
    apply Moves.step (g := mv_servoFault); apply mvIte; apply mvFold; apply mvIte; apply Moves.step (g := mv_coilOff)
    apply mv_event; apply mvInc; apply mvPut; apply mvPut; apply Moves.step (g := mv_setLoop)
    apply Moves.step (g := mv_dropJump); exact Moves.refl; decide +kernel; decide +kernel; decide +kernel; decide +kernel
    decide +kernel; decide +kernel; decide +kernel; apply mv_event; apply mvInc; apply mvPut; apply mvPut
    apply Moves.step (g := mv_setLoop); apply Moves.step (g := mv_dropJump); exact Moves.refl; decide +kernel
    decide +kernel; decide +kernel; decide +kernel; decide +kernel; decide +kernel; intro u x hu
    apply Moves.step (g := mv_loopOff); assumption; decide +kernel; apply mvIte; apply Moves.step (g := mv_coilOff)
    apply mv_event; apply mvInc; apply mvPut; apply mvPut; apply Moves.step (g := mv_setLoop)
    apply Moves.step (g := mv_dropJump); exact Moves.refl; decide +kernel; decide +kernel; decide +kernel; decide +kernel
    decide +kernel; decide +kernel; decide +kernel; apply mv_event; apply mvInc; apply mvPut; apply mvPut
    apply Moves.step (g := mv_setLoop); apply Moves.step (g := mv_dropJump); exact Moves.refl; decide +kernel
    decide +kernel; decide +kernel; decide +kernel; decide +kernel; decide +kernel; decide +kernel

theorem mv_setAxis {s : State} {a : Nat} {v : AxisSt} : Moves 0x1000 s (State.setAxis s a v) := by
  unfold State.setAxis
  with_reducible
    refine mvMk ?_; exact Moves.refl

theorem mv_bridgesOn {s : State} {lo hi : Nat} : Moves 0x1000 s (State.bridgesOn s lo hi) := by
  unfold State.bridgesOn
  with_reducible
    refine mvMk ?_; exact Moves.refl

theorem mv_startMove {s : State} {a kind : Nat} {target v : Int} : Moves 0x300000000000000000000000000000000000000000000000000081000 s (State.startMove s a kind target v) := by
  unfold State.startMove
  with_reducible
    refine mvMk ?_; apply Moves.step (g := mv_bridgesOn); apply mvPut; apply mvSetFlag; apply mvPut; apply mvPut
    apply Moves.step (g := mv_setAxis); exact Moves.refl; decide +kernel; decide +kernel; decide +kernel; decide +kernel
    decide +kernel; decide +kernel

theorem mv_stopMove {s : State} {a : Nat} : Moves 0x200000000000000000000000000000000000000000000000000000000 s (State.stopMove s a) := by
  unfold State.stopMove
  with_reducible
    apply mvIte; apply mvPut; exact Moves.refl; decide +kernel; exact Moves.refl

theorem mv_parkSled {s : State} : Moves 0x300000000000000000000000000000000000000000000000000081000 s (State.parkSled s) := by
  unfold State.parkSled
  with_reducible
    apply mvIte; apply Moves.step (g := mv_startMove); exact Moves.refl; decide +kernel; exact Moves.refl

theorem mv_bridgesOff {s : State} {lo hi : Nat} : Moves 0x1000 s (State.bridgesOff s lo hi) := by
  unfold State.bridgesOff
  with_reducible
    refine mvMk ?_; exact Moves.refl

theorem mv_spindleOff {s : State} : Moves 0x100000000000000000000000000000000000000000000000081000 s (State.spindleOff s) := by
  unfold State.spindleOff
  with_reducible
    refine mvMk ?_; apply Moves.step (g := mv_bridgesOff); apply mvPut; exact Moves.refl; decide +kernel; decide +kernel

theorem mv_spindleBrake {s : State} : Moves 0x300000000000000000000000000000000000000000000000000000 s (State.spindleBrake s) := by
  unfold State.spindleBrake
  with_reducible
    apply mvIte; exact Moves.refl; apply mvPut; apply mvPut; exact Moves.refl; decide +kernel; decide +kernel

theorem mv_safeActuators {s : State} : Moves 0x300108800080000000000000000000000000000000000000000081c00 s (State.safeActuators s) := by
  unfold State.safeActuators
  with_reducible
    apply mvIte; apply mvIte; apply Moves.step (g := mv_loopsOff); apply Moves.step (g := mv_lasersOff); exact Moves.refl
    decide +kernel; decide +kernel; apply mvPut; apply Moves.step (g := mv_loopsOff); apply Moves.step (g := mv_lasersOff)
    exact Moves.refl; decide +kernel; decide +kernel; decide +kernel; apply mvIte; apply Moves.step (g := mv_stopMove)
    apply Moves.step (g := mv_stopMove); apply Moves.step (g := mv_parkSled); apply mvIte
    apply Moves.step (g := mv_loopsOff); apply Moves.step (g := mv_lasersOff); exact Moves.refl; decide +kernel
    decide +kernel; apply mvPut; apply Moves.step (g := mv_loopsOff); apply Moves.step (g := mv_lasersOff)
    exact Moves.refl; decide +kernel; decide +kernel; decide +kernel; decide +kernel; decide +kernel; decide +kernel
    apply mvFold; apply mvIte; apply Moves.step (g := mv_loopsOff); apply Moves.step (g := mv_lasersOff); exact Moves.refl
    decide +kernel; decide +kernel; apply mvPut; apply Moves.step (g := mv_loopsOff); apply Moves.step (g := mv_lasersOff)
    exact Moves.refl; decide +kernel; decide +kernel; decide +kernel; intro u x hu; apply mvSetFlag; apply mvSetFlag
    apply mvPut; assumption; decide +kernel; decide +kernel; decide +kernel

theorem mv_powerUpOutputs {s : State} : Moves 0x200108800080000000000000000000000000000000000000000081c00 s (State.powerUpOutputs s) := by
  unfold State.powerUpOutputs
  with_reducible
    refine mvMk ?_; apply mvFold; apply Moves.step (g := mv_bridgesOff); apply Moves.step (g := mv_spindleOff)
    apply Moves.step (g := mv_loopsOff); apply Moves.step (g := mv_lasersOff); exact Moves.refl; decide +kernel
    decide +kernel; decide +kernel; decide +kernel; intro u x hu; apply mvSetFlag; apply mvSetFlag; apply mvPut
    assumption; decide +kernel; decide +kernel; decide +kernel

theorem mv_relaysIdle {s : State} : Moves 0x1 s (State.relaysIdle s) := by
  unfold State.relaysIdle
  with_reducible
    refine mvMk ?_; exact Moves.refl

theorem mv_lanesIdle {s : State} : Moves 0x8000000000001 s (State.lanesIdle s) := by
  unfold State.lanesIdle
  with_reducible
    apply mvFold; apply Moves.step (g := mv_relaysIdle); exact Moves.refl; decide +kernel; intro u x hu; apply mvIte
    assumption; apply mvPut; assumption; decide +kernel

theorem mv_electricalIdle {s : State} : Moves 0x8000000000001 s (State.electricalIdle s) := by
  unfold State.electricalIdle
  with_reducible
    apply mvFold; apply Moves.step (g := mv_relaysIdle); exact Moves.refl; decide +kernel; intro u x hu; apply mvPut
    assumption; decide +kernel

theorem mv_releaseClaim {s : State} : Moves 0x600000000000000000000000000000 s (State.releaseClaim s) := by
  unfold State.releaseClaim
  with_reducible
    apply mvSetFlag; apply mvIte; apply mvPut; exact Moves.refl; decide +kernel; exact Moves.refl; decide +kernel

theorem mv_selfRefresh {s : State} : Moves 0x8000000000000080000000010 s (State.selfRefresh s) := by
  unfold State.selfRefresh
  with_reducible
    refine mvMk ?_; apply mvSetFlag; apply mvPut; exact Moves.refl; decide +kernel; decide +kernel

theorem mv_abandonCal {s : State} : Moves 0x180000000000000000000000000000000000000000000000000000000000000000 s (State.abandonCal s) := by
  unfold State.abandonCal
  with_reducible
    apply mvIte; apply mvIte; apply mvSetFlag; apply mvSetFlag; apply mvPut; exact Moves.refl; decide +kernel
    decide +kernel; decide +kernel; apply mvSetFlag; apply mvPut; exact Moves.refl; decide +kernel; decide +kernel
    exact Moves.refl

theorem mv_failJob {s : State} {id : Nat} {victims : List Nat} : Moves 0x24000020000000001802000000000000088000000044100000000000000000000000000010b4c0 s (State.failJob s id victims) := by
  unfold State.failJob
  with_reducible
    split; exact Moves.refl; apply mvIte; exact Moves.refl; apply mvIte; apply Moves.step (g := mv_archiveStop)
    exact Moves.refl; decide +kernel; refine mvMk ?_; apply Moves.step (g := mv_endArchive); exact Moves.refl
    decide +kernel

theorem mv_failUnit {s : State} {id : Nat} : Moves 0x24000020000000001802070034880200088000000144100020000000000000800000020018bcc0 s (State.failUnit s id) := by
  unfold State.failUnit
  with_reducible
    apply mvIte; exact Moves.refl; apply Moves.step (g := mv_failJob); apply mvFold; apply mvIte
    apply Moves.step (g := mv_loopsOff); split; apply mvPut; apply Moves.step (g := mv_markUnitFailed); exact Moves.refl
    rename_i e; unfold unitStateFld at e; split at e <;> cases e <;> decide +kernel
    rename_i e; unfold unitStateFld at e; split at e <;> cases e <;> decide +kernel
    apply Moves.step (g := mv_markUnitFailed); exact Moves.refl
    rename_i e; unfold unitStateFld at e; split at e <;> cases e <;> decide +kernel; decide +kernel; apply mvIte
    apply Moves.step (g := mv_parkSled); apply Moves.step (g := mv_spindleBrake); split; apply mvPut
    apply Moves.step (g := mv_markUnitFailed); exact Moves.refl
    rename_i e; unfold unitStateFld at e; split at e <;> cases e <;> decide +kernel
    rename_i e; unfold unitStateFld at e; split at e <;> cases e <;> decide +kernel
    apply Moves.step (g := mv_markUnitFailed); exact Moves.refl
    rename_i e; unfold unitStateFld at e; split at e <;> cases e <;> decide +kernel; decide +kernel; decide +kernel; split
    apply mvPut; apply Moves.step (g := mv_markUnitFailed); exact Moves.refl
    rename_i e; unfold unitStateFld at e; split at e <;> cases e <;> decide +kernel
    rename_i e; unfold unitStateFld at e; split at e <;> cases e <;> decide +kernel
    apply Moves.step (g := mv_markUnitFailed); exact Moves.refl
    rename_i e; unfold unitStateFld at e; split at e <;> cases e <;> decide +kernel; intro u x hu
    apply Moves.step (g := mv_cutCmd); assumption; decide +kernel; decide +kernel

end Sys2Proof.Laws
end

