-- ==== Sys2Proof/Laws/MovesAer.lean ====
section
/-!
SUPPORT. What each definition of Machine/Aer.lean can change (Laws/Moves.lean).
-/
set_option Elab.async false

namespace Sys2Proof.Laws
open Sys2Proof.Machine

theorem mv_setFnBit {M : Nat} {s t : State} {f : Fld} {fn n : Nat} (h : Moves M s t)
    (hc : covers M f.base f.stride f.count = true) : Moves M s (t.setFnBit f fn n) := mvPut h hc

theorem mv_errMessage {s : State} {fn kind : Nat} : Moves 0x800000000000000000000000000000000000000000000000000000000000000000100000 s (State.errMessage s fn kind) := by
  unfold State.errMessage
  with_reducible
    apply mvIte; apply mvIte; apply mvSetFlag; exact Moves.refl; decide +kernel; exact Moves.refl; apply mvEmit
    apply mvIte; apply mvSetFlag; exact Moves.refl; decide +kernel; exact Moves.refl; decide +kernel

theorem mv_markCor {s : State} {fn bit : Nat} : Moves 0x50000000000000000000000000000000000000000000000000000000000000000000000000 s (State.markCor s fn bit) := by
  unfold State.markCor
  with_reducible
    apply mvSetFlag; apply mv_setFnBit; exact Moves.refl; decide +kernel; decide +kernel

theorem mv_logCor {s : State} {fn bit : Nat} : Moves 0x50800000000000000000000000000000000000000000000000000000000000000000100000 s (State.logCor s fn bit) := by
  unfold State.logCor
  with_reducible
    apply mvIte; exact Moves.refl; apply mvIte; apply Moves.step (g := mv_errMessage); apply Moves.step (g := mv_markCor)
    exact Moves.refl; decide +kernel; decide +kernel; apply Moves.step (g := mv_markCor); exact Moves.refl; decide +kernel

theorem mv_logHeader {s : State} {fn bit : Nat} : Moves 0xffd0800000000000000000000000000000000000000000000000000000000000000000300000 s (State.logHeader s fn bit) := by
  unfold State.logHeader
  have h0 : Moves 0xffd0800000000000000000000000000000000000000000000000000000000000000000300000 s (s.put Reg.CFG_AERCTL_FEP bit fn) := mvPut Moves.refl (by decide +kernel)
  have w : ∀ (u : State) (f : Fld), covers 0xffd0800000000000000000000000000000000000000000000000000000000000000000300000 f.base f.stride f.count = true → Moves 0xffd0800000000000000000000000000000000000000000000000000000000000000000300000 s u →
      Moves 0xffd0800000000000000000000000000000000000000000000000000000000000000000300000 s (u.free.2.put f u.free.1.toNat fn) :=
    fun u f hc hu => mvPut (mvFree hu (by decide +kernel)) hc
  have e : List.range 8 = [0, 1, 2, 3, 4, 5, 6, 7] := by decide
  dsimp only
  apply mvIte; exact Moves.refl
  apply mvIte
  · apply mvIte
    · exact Moves.refl.step mv_logCor (by decide +kernel)
    · exact Moves.refl
  apply mvIte; exact h0
  rw [e]
  exact w _ _ (by decide +kernel) (w _ _ (by decide +kernel) (w _ _ (by decide +kernel) (w _ _ (by decide +kernel)
    (w _ _ (by decide +kernel) (w _ _ (by decide +kernel) (w _ _ (by decide +kernel) (w _ _ (by decide +kernel) h0)))))))

theorem mv_markUnc {s : State} {fn bit kind : Nat} : Moves 0xfff0800000000000000000000000000000000000000000000000000000000000000000300000 s (State.markUnc s fn bit kind) := by
  unfold State.markUnc
  with_reducible
    split; split; apply Moves.step (g := mv_markCor); apply mvSetFlag; apply mv_setFnBit
    apply Moves.step (g := mv_logHeader); exact Moves.refl; decide +kernel; decide +kernel; decide +kernel; decide +kernel
    apply mvSetFlag; apply mvSetFlag; apply mv_setFnBit; apply Moves.step (g := mv_logHeader); exact Moves.refl
    decide +kernel; decide +kernel; decide +kernel; decide +kernel; apply mvSetFlag; apply mvSetFlag; apply mv_setFnBit
    apply Moves.step (g := mv_logHeader); exact Moves.refl; decide +kernel; decide +kernel; decide +kernel; decide +kernel
    split; split; apply Moves.step (g := mv_markCor); apply mvSetFlag; apply mv_setFnBit
    apply Moves.step (g := mv_logHeader); exact Moves.refl; decide +kernel; decide +kernel; decide +kernel; decide +kernel
    apply mvSetFlag; apply mvSetFlag; apply mv_setFnBit; apply Moves.step (g := mv_logHeader); exact Moves.refl
    decide +kernel; decide +kernel; decide +kernel; decide +kernel; apply mvSetFlag; apply mvSetFlag; apply mv_setFnBit
    apply Moves.step (g := mv_logHeader); exact Moves.refl; decide +kernel; decide +kernel; decide +kernel; decide +kernel
    split; split; apply Moves.step (g := mv_markCor); apply mvSetFlag; apply mv_setFnBit
    apply Moves.step (g := mv_logHeader); exact Moves.refl; decide +kernel; decide +kernel; decide +kernel; decide +kernel
    apply mvSetFlag; apply mvSetFlag; apply mv_setFnBit; apply Moves.step (g := mv_logHeader); exact Moves.refl
    decide +kernel; decide +kernel; decide +kernel; decide +kernel; apply mvSetFlag; apply mvSetFlag; apply mv_setFnBit
    apply Moves.step (g := mv_logHeader); exact Moves.refl; decide +kernel; decide +kernel; decide +kernel; decide +kernel
    split; apply Moves.step (g := mv_markCor); apply mv_setFnBit; apply Moves.step (g := mv_logHeader); exact Moves.refl
    decide +kernel; decide +kernel; decide +kernel; apply mvSetFlag; apply mv_setFnBit
    apply Moves.step (g := mv_logHeader); exact Moves.refl; decide +kernel; decide +kernel; decide +kernel
    apply mvSetFlag; apply mv_setFnBit; apply Moves.step (g := mv_logHeader); exact Moves.refl; decide +kernel
    decide +kernel; decide +kernel

theorem mv_fatalStop {s : State} {fn kind : Nat} : Moves 0x3c0000200000000000000000000000000000000000000000000000000000000000000000100000 s (State.fatalStop s fn kind) := by
  unfold State.fatalStop
  with_reducible
    apply mvIte; apply Moves.step (g := mv_contain); exact Moves.refl; decide +kernel; exact Moves.refl

theorem mv_logUnc {s : State} {fn bit : Nat} {advisory : Bool} {always : Bool} : Moves 0x3cfff0a00000000000000000000000000000000000000000000000000000000000000000300000 s (State.logUnc s fn bit advisory always) := by
  unfold State.logUnc
  with_reducible
    apply mvIte; exact Moves.refl; apply Moves.step (g := mv_fatalStop); apply mvIte
    apply Moves.step (g := mv_errMessage); apply Moves.step (g := mv_markUnc); exact Moves.refl; decide +kernel
    decide +kernel; apply Moves.step (g := mv_markUnc); exact Moves.refl; decide +kernel; decide +kernel

theorem mv_logLink {s : State} {e : LinkErr} : Moves 0x3cfff0a00000000000000000000000000000000000000000000000000000000000000000300000 s (State.logLink s e) := by
  unfold State.logLink
  with_reducible
    split; split; apply mvIte; apply Moves.step (g := mv_errMessage); apply Moves.step (g := mv_markCor)
    apply Moves.step (g := mv_markCor); exact Moves.refl; decide +kernel; decide +kernel; decide +kernel; apply mvIte
    apply Moves.step (g := mv_errMessage); apply Moves.step (g := mv_markCor); apply Moves.step (g := mv_markCor)
    exact Moves.refl; decide +kernel; decide +kernel; decide +kernel; apply Moves.step (g := mv_markCor)
    apply Moves.step (g := mv_markCor); exact Moves.refl; decide +kernel; decide +kernel; apply mvIte
    apply Moves.step (g := mv_errMessage); apply Moves.step (g := mv_markCor); apply Moves.step (g := mv_markCor)
    exact Moves.refl; decide +kernel; decide +kernel; decide +kernel; apply mvIte; apply Moves.step (g := mv_errMessage)
    apply Moves.step (g := mv_markCor); apply Moves.step (g := mv_markCor); exact Moves.refl; decide +kernel
    decide +kernel; decide +kernel; apply Moves.step (g := mv_markCor); apply Moves.step (g := mv_markCor)
    exact Moves.refl; decide +kernel; decide +kernel; apply mvIte; apply Moves.step (g := mv_errMessage)
    apply Moves.step (g := mv_markCor); apply Moves.step (g := mv_markCor); exact Moves.refl; decide +kernel
    decide +kernel; decide +kernel; apply mvIte; apply Moves.step (g := mv_errMessage); apply Moves.step (g := mv_markCor)
    apply Moves.step (g := mv_markCor); exact Moves.refl; decide +kernel; decide +kernel; decide +kernel
    apply Moves.step (g := mv_markCor); apply Moves.step (g := mv_markCor); exact Moves.refl; decide +kernel
    decide +kernel; apply mvIte; apply Moves.step (g := mv_errMessage); apply Moves.step (g := mv_markCor)
    apply Moves.step (g := mv_markCor); exact Moves.refl; decide +kernel; decide +kernel; decide +kernel; apply mvIte
    apply Moves.step (g := mv_errMessage); apply Moves.step (g := mv_markCor); apply Moves.step (g := mv_markCor)
    exact Moves.refl; decide +kernel; decide +kernel; decide +kernel; apply Moves.step (g := mv_markCor)
    apply Moves.step (g := mv_markCor); exact Moves.refl; decide +kernel; decide +kernel; apply mvIte
    apply Moves.step (g := mv_errMessage); apply Moves.step (g := mv_markCor); apply Moves.step (g := mv_markCor)
    exact Moves.refl; decide +kernel; decide +kernel; decide +kernel; apply mvIte; apply Moves.step (g := mv_errMessage)
    apply Moves.step (g := mv_markCor); apply Moves.step (g := mv_markCor); exact Moves.refl; decide +kernel
    decide +kernel; decide +kernel; apply Moves.step (g := mv_markCor); apply Moves.step (g := mv_markCor)
    exact Moves.refl; decide +kernel; decide +kernel; apply Moves.step (g := mv_fatalStop)
    apply Moves.step (g := mv_fatalStop); apply mvIte; apply Moves.step (g := mv_errMessage)
    apply Moves.step (g := mv_markUnc); apply Moves.step (g := mv_markUnc); exact Moves.refl; decide +kernel
    decide +kernel; decide +kernel; apply mvIte; apply Moves.step (g := mv_errMessage); apply Moves.step (g := mv_markUnc)
    apply Moves.step (g := mv_markUnc); exact Moves.refl; decide +kernel; decide +kernel; decide +kernel
    apply Moves.step (g := mv_markUnc); apply Moves.step (g := mv_markUnc); exact Moves.refl; decide +kernel
    decide +kernel; decide +kernel; decide +kernel; apply Moves.step (g := mv_fatalStop)
    apply Moves.step (g := mv_fatalStop); apply mvIte; apply Moves.step (g := mv_errMessage)
    apply Moves.step (g := mv_markUnc); apply Moves.step (g := mv_markUnc); exact Moves.refl; decide +kernel
    decide +kernel; decide +kernel; apply mvIte; apply Moves.step (g := mv_errMessage); apply Moves.step (g := mv_markUnc)
    apply Moves.step (g := mv_markUnc); exact Moves.refl; decide +kernel; decide +kernel; decide +kernel
    apply Moves.step (g := mv_markUnc); apply Moves.step (g := mv_markUnc); exact Moves.refl; decide +kernel
    decide +kernel; decide +kernel; decide +kernel; apply Moves.step (g := mv_fatalStop)
    apply Moves.step (g := mv_fatalStop); apply mvIte; apply Moves.step (g := mv_errMessage)
    apply Moves.step (g := mv_markUnc); apply Moves.step (g := mv_markUnc); exact Moves.refl; decide +kernel
    decide +kernel; decide +kernel; apply mvIte; apply Moves.step (g := mv_errMessage); apply Moves.step (g := mv_markUnc)
    apply Moves.step (g := mv_markUnc); exact Moves.refl; decide +kernel; decide +kernel; decide +kernel
    apply Moves.step (g := mv_markUnc); apply Moves.step (g := mv_markUnc); exact Moves.refl; decide +kernel
    decide +kernel; decide +kernel; decide +kernel; split; apply mvIte; apply Moves.step (g := mv_errMessage)
    apply Moves.step (g := mv_markCor); exact Moves.refl; decide +kernel; decide +kernel; apply mvIte
    apply Moves.step (g := mv_errMessage); apply Moves.step (g := mv_markCor); exact Moves.refl; decide +kernel
    decide +kernel; apply Moves.step (g := mv_markCor); exact Moves.refl; decide +kernel; apply mvIte
    apply Moves.step (g := mv_errMessage); apply Moves.step (g := mv_markCor); exact Moves.refl; decide +kernel
    decide +kernel; apply mvIte; apply Moves.step (g := mv_errMessage); apply Moves.step (g := mv_markCor)
    exact Moves.refl; decide +kernel; decide +kernel; apply Moves.step (g := mv_markCor); exact Moves.refl; decide +kernel
    apply mvIte; apply Moves.step (g := mv_errMessage); apply Moves.step (g := mv_markCor); exact Moves.refl
    decide +kernel; decide +kernel; apply mvIte; apply Moves.step (g := mv_errMessage); apply Moves.step (g := mv_markCor)
    exact Moves.refl; decide +kernel; decide +kernel; apply Moves.step (g := mv_markCor); exact Moves.refl; decide +kernel
    apply mvIte; apply Moves.step (g := mv_errMessage); apply Moves.step (g := mv_markCor); exact Moves.refl
    decide +kernel; decide +kernel; apply mvIte; apply Moves.step (g := mv_errMessage); apply Moves.step (g := mv_markCor)
    exact Moves.refl; decide +kernel; decide +kernel; apply Moves.step (g := mv_markCor); exact Moves.refl; decide +kernel
    apply mvIte; apply Moves.step (g := mv_errMessage); apply Moves.step (g := mv_markCor); exact Moves.refl
    decide +kernel; decide +kernel; apply mvIte; apply Moves.step (g := mv_errMessage); apply Moves.step (g := mv_markCor)
    exact Moves.refl; decide +kernel; decide +kernel; apply Moves.step (g := mv_markCor); exact Moves.refl; decide +kernel
    apply Moves.step (g := mv_fatalStop); apply mvIte; apply Moves.step (g := mv_errMessage)
    apply Moves.step (g := mv_markUnc); exact Moves.refl; decide +kernel; decide +kernel; apply mvIte
    apply Moves.step (g := mv_errMessage); apply Moves.step (g := mv_markUnc); exact Moves.refl; decide +kernel
    decide +kernel; apply Moves.step (g := mv_markUnc); exact Moves.refl; decide +kernel; decide +kernel
    apply Moves.step (g := mv_fatalStop); apply mvIte; apply Moves.step (g := mv_errMessage)
    apply Moves.step (g := mv_markUnc); exact Moves.refl; decide +kernel; decide +kernel; apply mvIte
    apply Moves.step (g := mv_errMessage); apply Moves.step (g := mv_markUnc); exact Moves.refl; decide +kernel
    decide +kernel; apply Moves.step (g := mv_markUnc); exact Moves.refl; decide +kernel; decide +kernel
    apply Moves.step (g := mv_fatalStop); apply mvIte; apply Moves.step (g := mv_errMessage)
    apply Moves.step (g := mv_markUnc); exact Moves.refl; decide +kernel; decide +kernel; apply mvIte
    apply Moves.step (g := mv_errMessage); apply Moves.step (g := mv_markUnc); exact Moves.refl; decide +kernel
    decide +kernel; apply Moves.step (g := mv_markUnc); exact Moves.refl; decide +kernel; decide +kernel

theorem mv_refuseBar {s : State} {fn : Nat} {write : Bool} : Moves 0x3cfff0a00000000000000000000000000000000000000000000000000000000000000000300000 s (State.refuseBar s fn write) := by
  unfold State.refuseBar
  with_reducible
    apply mvIte; apply mvIte; exact Moves.refl; apply mvEmit; exact Moves.refl; decide +kernel; apply mvIte
    apply Moves.step (g := mv_logUnc); exact Moves.refl; decide +kernel; apply mvEmit; apply Moves.step (g := mv_logUnc)
    exact Moves.refl; decide +kernel; decide +kernel

theorem mv_barAnswer {s : State} {q : Requester} {write : Bool} : Moves 0x3cfff0a00000000000000000000000000000000000000000000000000000000000000000300000 s (State.barAnswer s q write) := by
  unfold State.barAnswer
  with_reducible
    split; apply Moves.step (g := mv_refuseBar); exact Moves.refl; decide +kernel; exact Moves.refl

theorem mv_busFault {s : State} {q : Requester} {write : Bool} : Moves 0x3cfff0a00000000000000000000000000000000000000000000000000000000000000000300000 s (State.busFault s q write) := by
  unfold State.busFault
  with_reducible
    split; apply mvIte; apply Moves.step (g := mv_logUnc); exact Moves.refl; decide +kernel; apply mvEmit
    apply Moves.step (g := mv_logUnc); exact Moves.refl; decide +kernel; decide +kernel; apply mvEmit; exact Moves.refl
    decide +kernel

theorem mv_readTimeout {s : State} {tag : Nat} : Moves 0x3cfff0a00000000000000000000000000000000000000000000000000000000000000c00300040 s (State.readTimeout s tag) := by
  unfold State.readTimeout
  with_reducible
    refine mvMk ?_; apply mv_event; apply mvInc; apply Moves.step (g := mv_logUnc); exact Moves.refl; decide +kernel
    decide +kernel; decide +kernel

theorem mv_readFailed {s : State} {why : ReadFail} {tag : Nat} : Moves 0x3cfff0a00000000000000000000000000000000000000000000000000000000000008c00300040 s (State.readFailed s why tag) := by
  unfold State.readFailed
  with_reducible
    split; apply Moves.step (g := mv_readTimeout); exact Moves.refl; decide +kernel; apply mvIte; apply mvSetFlag
    apply mvInc; apply Moves.step (g := mv_logUnc); exact Moves.refl; decide +kernel; decide +kernel; decide +kernel
    apply mvInc; apply Moves.step (g := mv_logUnc); exact Moves.refl; decide +kernel; decide +kernel; apply mvSetFlag
    exact Moves.refl; decide +kernel; apply mvSetFlag; exact Moves.refl; decide +kernel

theorem mv_failTag {s : State} {tag : Nat} {why : ReadFail} : Moves 0x3cfff0a00000000000000000000000000000000000000000000000000000000000008c00300040 s (State.failTag s tag why) := by
  unfold State.failTag
  with_reducible
    apply Moves.step (g := mv_endTag); apply Moves.step (g := mv_readFailed); exact Moves.refl; decide +kernel
    decide +kernel

theorem mv_failRead {s : State} {use : ReadUse} {why : ReadFail} : Moves 0x3cfff0a00000000000000000000000000000000000000000000000000000000000008c00300040 s (State.failRead s use why) := by
  unfold State.failRead
  with_reducible
    split; apply Moves.step (g := mv_failTag); exact Moves.refl; decide +kernel; exact Moves.refl

theorem mv_hostReadFailed {s : State} {k : Cmd} {why : ReadFail} {result arrived : Nat} : Moves 0x3cfff0a00000000000020000000000000000000000441000000000000000000000008c003030c0 s (State.hostReadFailed s k why result arrived) := by
  unfold State.hostReadFailed
  with_reducible
    apply Moves.step (g := mv_finish); apply Moves.step (g := mv_readFailed); exact Moves.refl; decide +kernel
    decide +kernel

end Sys2Proof.Laws
end

