-- ==== Sys2Proof/Laws/MovesGal.lean ====
section
/-!
SUPPORT. What each definition of Machine/Gal.lean can change (Laws/Moves.lean).
-/
set_option Elab.async false

namespace Sys2Proof.Laws
open Sys2Proof.Machine

theorem swf_putBytes {m : List (Nat × Byte)} {l : Nat} {bytes : List Byte} (h : Memory.wf m = true) :
    Memory.wf (putBytes m l bytes) = true := by
  unfold putBytes
  generalize List.range 64 = r
  exact swf_fold_sput (fun _ => (0 : Byte)) (fun i => 64 * l + i) (fun i => bytes.getD i 0) m r h

theorem mv_putLine {s : State} {l : Nat} {bytes : List Byte} {poisoned : Bool} : Moves 0x10 s (State.putLine s l bytes poisoned) := by
  unfold State.putLine
  with_reducible refine mvMk Moves.refl (hg := ?_)
  exact fun h => galMk (swf_putBytes h.mem) (swf_sput _ _ _ _ h.poison) (swf_sput _ _ _ _ h.errs) h.written

theorem mv_strike {s : State} {dmg : Damage} : Moves 0x10 s (State.strike s dmg) := by
  unfold State.strike
  with_reducible
    apply mvFold; exact Moves.refl; intro u x hu; apply mvIte; refine mvMk ?_; assumption; assumption

theorem mv_galLog {s : State} {l src : Nat} {ue : Bool} {pos : List Nat} : Moves 0x1c0000000000000000000000000 s (State.galLog s l src ue pos) := by
  unfold State.galLog
  with_reducible
    apply mvIte; exact Moves.refl; apply mvPut; apply mvPut; apply mvPut; apply mvPut; apply mvPut; apply mvSetFlag
    apply mvSetFlag; apply mvPut64; exact Moves.refl; decide +kernel; decide +kernel; decide +kernel; decide +kernel
    decide +kernel; decide +kernel; decide +kernel; decide +kernel

theorem mv_galCorrected {s : State} {l src : Nat} {pos : List Nat} : Moves 0x2000002000000000000000000000000000000000000000000281c8000000000000000000100000 s (State.galCorrected s l src pos) := by
  unfold State.galCorrected
  with_reducible
    apply Moves.step (g := mv_galLog); apply mv_event; apply mvInc; exact Moves.refl; split; decide +kernel
    decide +kernel; decide +kernel; decide +kernel

theorem mv_galUncorrectable {s : State} {l src : Nat} : Moves 0x2000002000000000000000000000000000000000000000000501c8000000000000000000100000 s (State.galUncorrectable s l src) := by
  unfold State.galUncorrectable
  with_reducible
    apply Moves.step (g := mv_galLog); apply mv_event; apply mvInc; exact Moves.refl; split; decide +kernel
    decide +kernel; decide +kernel; decide +kernel

theorem mv_readGalLine {s : State} {l src : Nat} : Moves 0x2000002000000000000000000000000000000000000000000f81c8000000000000000000100000 s (State.readGalLine s l src).2.2 := by
  unfold State.readGalLine
  with_reducible
    apply mvIteThd; exact Moves.refl; split; apply mvIte; apply mvIte; apply mv_event; apply mvInc; exact Moves.refl
    decide +kernel; decide +kernel; exact Moves.refl; apply Moves.step (g := mv_galCorrected); apply mvIte; apply mv_event
    apply mvInc; exact Moves.refl; decide +kernel; decide +kernel; exact Moves.refl; decide +kernel; apply mvIte
    apply mvIte; apply mv_event; apply mvInc; exact Moves.refl; decide +kernel; decide +kernel; exact Moves.refl
    apply Moves.step (g := mv_galUncorrectable); apply mvIte; apply mv_event; apply mvInc; exact Moves.refl
    decide +kernel; decide +kernel; exact Moves.refl; decide +kernel

theorem mv_readGalLines {s : State} {l src : Nat} {k : Nat} : Moves 0x2000002000000000000000000000000000000000000000000f81c8000000000000000000100000 s (State.readGalLines s l src k).2.2 := by
  induction k generalizing s l src  with
  | zero =>
    rw [State.readGalLines]
    exact Moves.refl
  | succ n ih =>
    rw [State.readGalLines]
    with_reducible
      apply Moves.step (g := ih); apply Moves.step (g := mv_readGalLine); exact Moves.refl; decide +kernel; decide +kernel

theorem mv_galRead {s : State} {a n src : Nat} : Moves 0x2000002000000000000000000000000000000000000000000f81c8000000000000000000100000 s (State.galRead s a n src).2.2 := by
  unfold State.galRead
  with_reducible
    apply mvIteThd; exact Moves.refl; apply Moves.step (g := mv_readGalLines); exact Moves.refl; decide +kernel

theorem mv_initComplete {s : State} : Moves 0x8000000000000000000000000 s (State.initComplete s) := by
  unfold State.initComplete
  with_reducible
    apply mvSetFlag; exact Moves.refl; decide +kernel

theorem mv_touchGranule {s : State} {g : Nat} : Moves 0x208000000000000000000000010 s (State.touchGranule s g) := by
  unfold State.touchGranule
  with_reducible
    apply mvIte; exact Moves.refl; apply mvIte; apply Moves.step (g := mv_initComplete); apply mvPut; refine mvMk ?_
    exact Moves.refl; decide +kernel; decide +kernel; apply mvPut; refine mvMk ?_; exact Moves.refl; decide +kernel

theorem mv_writeGalLine {s : State} {l off : Nat} {bytes : List Byte} {poisoned : Bool} {src : Nat} : Moves 0x2000002000000000000000000000000000000000000000000f83c8000000000000000000100010 s (State.writeGalLine s l off bytes poisoned src) := by
  unfold State.writeGalLine
  with_reducible
    apply mvIte; apply Moves.step (g := mv_putLine); apply Moves.step (g := mv_touchGranule); exact Moves.refl
    decide +kernel; decide +kernel; apply Moves.step (g := mv_putLine); apply Moves.step (g := mv_readGalLine)
    apply Moves.step (g := mv_touchGranule); exact Moves.refl; decide +kernel; decide +kernel; decide +kernel

theorem mv_writeEnabled {s : State} {l off : Nat} {b : List (Option Byte)} {poisoned : Bool} {src : Nat} : Moves 0x2000002000000000000000000000000000000000000000000f83c8000000000000000000100010 s (State.writeEnabled s l off b poisoned src) := by
  unfold State.writeEnabled
  with_reducible
    apply mvIte; apply Moves.step (g := mv_writeGalLine); exact Moves.refl; decide +kernel
    apply Moves.step (g := mv_putLine); apply Moves.step (g := mv_readGalLine); apply Moves.step (g := mv_touchGranule)
    exact Moves.refl; decide +kernel; decide +kernel; decide +kernel

theorem mv_galWrite {s : State} {a : Nat} {bytes : List Byte} {poisoned : Bool} {src : Nat} : Moves 0x2000002000000000000000000000000000000000000000000f83c8000000000000000000100010 s (State.galWrite s a bytes poisoned src) := by
  unfold State.galWrite
  with_reducible
    apply mvFold; exact Moves.refl; intro u x hu; apply Moves.step (g := mv_writeGalLine); assumption; decide +kernel

theorem mv_galZero {s : State} {a n : Nat} : Moves 0x208000000000000000000000010 s (State.galZero s a n) := by
  unfold State.galZero
  with_reducible
    refine mvMk ?_; apply mvFold; exact Moves.refl; intro u x hu; apply Moves.step (g := mv_touchGranule); assumption
    decide +kernel

theorem putFirst_state {b : List Byte} {p : Bool} {k : Nat} {r : List Byte × List Nat × State} :
    (putFirst b p k r).2.2 = r.2.2 := rfl

theorem mv_bar2Lines {s : State} {l k n : Nat} : Moves 0x2000002000000000000000000000000000000000000000000f81c8000000000000000000100000 s (State.bar2Lines s l k n).2.2 := by
  induction n generalizing s l k with
  | zero => rw [State.bar2Lines]; exact Moves.refl
  | succ n ih =>
    rw [State.bar2Lines]
    rw [putFirst_state]
    exact Moves.step (mvIteThd (mv_readGalLine.mono (by decide +kernel)) Moves.refl) ih (by decide +kernel)

theorem mv_hostReadAt {s : State} {a len : Nat} : Moves 0x2000002000000000000000000000000000000000000000000f81c8000000000000004000100000 s (State.hostReadAt s a len) := by
  unfold State.hostReadAt
  with_reducible
    apply mvEmit; apply Moves.step (g := mv_countPoisonTx); apply Moves.step (g := mv_bar2Lines); exact Moves.refl
    decide +kernel; decide +kernel; decide +kernel

theorem mv_bar2Piece {s : State} {p : Nat × Nat × List (Option Byte)} {poisoned : Bool} : Moves 0x2000002000000000000000000000000000000000000000000f83c8000000000000000000100010 s (State.bar2Piece s p poisoned) := by
  unfold State.bar2Piece
  with_reducible
    apply mvIte; apply Moves.step (g := mv_writeEnabled); exact Moves.refl; decide +kernel; exact Moves.refl

theorem mv_hostWriteAt {s : State} {a : Nat} {bytes : List (Option Byte)} {poisoned : Bool} : Moves 0x2000002000000000000000000000000000000000000000000fa3c8000000000000000000100010 s (State.hostWriteAt s a bytes poisoned) := by
  unfold State.hostWriteAt
  with_reducible
    apply mvFold; apply mvIte; exact Moves.refl; apply mv_event; apply mvInc; exact Moves.refl; decide +kernel
    decide +kernel; intro u x hu; apply Moves.step (g := mv_bar2Piece); assumption; decide +kernel

theorem mv_hostServe {s : State} {x : HostAccess} : Moves 0x2000002000000000000000000000000000000000000000000fa3c8000000000000004000100010 s (State.hostServe s x) := by
  unfold State.hostServe
  with_reducible
    split; apply Moves.step (g := mv_hostReadAt); exact Moves.refl; decide +kernel; apply mvIte
    apply Moves.step (g := mv_galWrite); exact Moves.refl; decide +kernel; apply Moves.step (g := mv_hostWriteAt)
    exact Moves.refl; decide +kernel

theorem mv_hostAccess {s : State} {x : HostAccess} : Moves 0x2000002000000000000000000000000000000000000000000fa3c8000000000000004000100010 s (State.hostAccess s x) := by
  unfold State.hostAccess
  with_reducible
    apply mvIte; apply Moves.step (g := mv_hostServe); exact Moves.refl; decide +kernel; refine mvMk ?_; exact Moves.refl

theorem mv_serveDelayed {s : State} : Moves 0x2000002000000000000000000000000000000000000000000fa3c8000000000000004000100010 s (State.serveDelayed s) := by
  unfold State.serveDelayed
  with_reducible
    apply mvFold; refine mvMk ?_; exact Moves.refl; intro u x hu; apply Moves.step (g := mv_hostServe); assumption
    decide +kernel

theorem mv_throttle {s : State} : Moves 0x200000200000000000000000000000000000000000000000000008000000000000000000100010 s (State.throttle s) := by
  unfold State.throttle
  with_reducible
    apply mvIte; exact Moves.refl; apply mv_event; refine mvMk ?_; exact Moves.refl; decide +kernel

theorem mv_execDrainThrottleRelease {s : State} : MovesR 0x2000002000000000000000000000000000000000000000000fa3c8000000000000004000100010 s (execDrainThrottleRelease s) := by
  unfold execDrainThrottleRelease
  with_reducible
    apply mvIteR; apply mvNext; apply Moves.step (g := mv_serveDelayed); refine mvMk ?_; exact Moves.refl; decide +kernel
    apply mvNext; exact Moves.refl

theorem mv_execGalArbWmWrite {v : Word} {s : State} : MovesR 0x200000200000000000000000000000000000000000000000000028000000000000000000100010 s (execGalArbWmWrite v s) := by
  unfold execGalArbWmWrite
  with_reducible
    apply mvIteR; apply mvNext; exact Moves.refl; apply mvNext; apply Moves.step (g := mv_throttle); apply mvPut
    apply mvPut; exact Moves.refl; decide +kernel; decide +kernel; decide +kernel

theorem mv_execGalErrorLogFree {v : Word} {s : State} : MovesR 0x100000000000000000000000000 s (execGalErrorLogFree v s) := by
  unfold execGalErrorLogFree
  with_reducible
    apply mvNext; apply mvWrite0; exact Moves.refl; decide +kernel

theorem mv_execGalCntClr {s : State} : MovesR 0xffc00000000000000000000000010 s (execGalCntClr s) := by
  unfold execGalCntClr
  with_reducible
    apply mvNext; refine mvMk ?_; apply mvFold; apply mvPut; apply mvPut; apply mvPut; apply mvPut64; exact Moves.refl
    decide +kernel; decide +kernel; decide +kernel; decide +kernel; intro u x hu; apply mvZeroRow; assumption
    decide +kernel

theorem mv_execBackgroundInitGranule {s : State} : MovesR 0x208000000000000000000000010 s (execBackgroundInitGranule s) := by
  unfold execBackgroundInitGranule
  with_reducible
    apply mvIteR; apply mvNext; exact Moves.refl; split; apply mvNext; apply Moves.step (g := mv_touchGranule)
    exact Moves.refl; decide +kernel; apply mvNext; exact Moves.refl

theorem mv_execPatrolScrubRead {dmg : Damage} {s : State} : MovesR 0x2000002000000000000000000000000000000000000000000f81c8000000000000000000100010 s (execPatrolScrubRead dmg s) := by
  have key : ∀ l n, Moves 0x2000002000000000000000000000000000000000000000000f81c8000000000000000000100010 s { ((s.strike dmg).readGalLine l srcScrub).2.2 with
      gal := { ((s.strike dmg).readGalLine l srcScrub).2.2.gal with scrubLine := n } } := by
    intro l n
    have h : Moves 0x2000002000000000000000000000000000000000000000000f81c8000000000000000000100010 s ((s.strike dmg).readGalLine l srcScrub).2.2 :=
      (Moves.refl.step mv_strike (by decide +kernel)).step mv_readGalLine (by decide +kernel)
    generalize ((s.strike dmg).readGalLine l srcScrub).2.2 = t at h ⊢
    exact mvMk h
  unfold execPatrolScrubRead
  refine mvIteR (mvNext Moves.refl) ?_
  cases s.nextScrub with
  | none => exact mvNext Moves.refl
  | some l => exact mvNext (key _ _)

theorem mv_execSelfRefreshExit {s : State} : MovesR 0x3c00002000000000000203001088000800800000004410006fa3c8200800000008084000187cfd s (execSelfRefreshExit s) := by
  unfold execSelfRefreshExit
  with_reducible
    apply mvIteR; apply mvNext; exact Moves.refl; apply mvNext; apply Moves.step (g := mv_serveDelayed); apply mvPut
    refine mvMk ?_; exact Moves.refl; decide +kernel; decide +kernel

end Sys2Proof.Laws
end

