-- ==== Sys2Proof/Laws/MovesMbx.lean ====
section
/-!
SUPPORT. What each definition of Machine/Mbx.lean can change (Laws/Moves.lean).
-/
set_option Elab.async false

namespace Sys2Proof.Laws
open Sys2Proof.Machine

theorem mv_rejectBox {s : State} : Moves 0x200000200000000280000000000000000000000000000000000000000000000000000000100000 s (State.rejectBox s) := by
  unfold State.rejectBox
  with_reducible
    apply mv_event; apply mvInc; exact Moves.refl; decide +kernel; decide +kernel

theorem mv_sendBox {s : State} {n st : Nat} {v : Word} : Moves 0x200000200000030d00000000000000000000000000000000000000000000000000000000100000 s (State.sendBox s n st v) := by
  unfold State.sendBox
  with_reducible
    apply mvIte; apply mv_event; apply mvInc; exact Moves.refl; decide +kernel; decide +kernel; split; apply mvIte
    apply mvPut; apply mvSetFlag; apply mvPut; apply mvSetFlag; apply mvPut; exact Moves.refl; decide +kernel
    decide +kernel; decide +kernel; decide +kernel; decide +kernel; apply mvSetFlag; apply mvPut; apply mvSetFlag
    apply mvPut; exact Moves.refl; decide +kernel; decide +kernel; decide +kernel; decide +kernel; apply mv_event
    apply mvSetFlag; apply mvPut; apply mvSetFlag; apply mvPut; exact Moves.refl; decide +kernel; decide +kernel
    decide +kernel; decide +kernel; dsimp only; decide +kernel

theorem mv_execMailboxWrite {q : Requester} {n : Fin 64} {v : Word} {s : State} : MovesR 0x3cfff0a00000030f80000000000000000000000000000000000000000000000000000000300000 s (execMailboxWrite q n v s) := by
  unfold execMailboxWrite
  with_reducible
    apply mvIteR; apply mvNext; apply Moves.step (g := mv_barAnswer); exact Moves.refl; decide +kernel; split
    apply mvNext; exact Moves.refl; apply mvIteR; apply mvNext; apply Moves.step (g := mv_rejectBox); exact Moves.refl
    decide +kernel; apply mvNext; apply Moves.step (g := mv_sendBox); exact Moves.refl; decide +kernel

theorem mv_execMailboxRead {q : Requester} {n : Fin 64} {s : State} : MovesR 0x3cfff0a00000020000000000000000000000000000000000000000000000000000000000300000 s (execMailboxRead q n s) := by
  unfold execMailboxRead
  with_reducible
    apply mvIteR; apply mvNext; apply Moves.step (g := mv_barAnswer); exact Moves.refl; decide +kernel; apply mvIteR
    apply mvNext; apply mvEmit; apply mvSetFlag; exact Moves.refl; decide +kernel; decide +kernel; apply mvNext
    apply mvEmit; exact Moves.refl; decide +kernel

theorem mv_notice {s : State} {code k locks : Nat} : Moves 0x200000200000020000000000000000000000000000000000000000000000000000000000110000 s (State.notice s code k locks) := by
  unfold State.notice
  with_reducible
    apply mvIte; apply mv_event; exact Moves.refl; decide +kernel; refine mvMk ?_; exact Moves.refl

theorem mv_execAosNoticePost {s : State} : MovesR 0x200000200000030d00000000000000000000000000000000000000000000000000000000110000 s (execAosNoticePost s) := by
  unfold execAosNoticePost
  with_reducible
    split; apply mvNext; exact Moves.refl; apply mvIteR; apply mvNext; exact Moves.refl; apply mvNext
    apply Moves.step (g := mv_sendBox); refine mvMk ?_; exact Moves.refl; decide +kernel

theorem mv_execQuoinTake {q : Requester} {n : Fin 64} {s : State} : MovesR 0x3cfff0a00000040200000000000000000000000000000000000000000000000000000000300000 s (execQuoinTake q n s) := by
  unfold execQuoinTake
  with_reducible
    apply mvIteR; apply mvNext; apply Moves.step (g := mv_barAnswer); exact Moves.refl; decide +kernel; split
    apply mvNext; exact Moves.refl; apply mvIteR; apply mvNext; apply mvEmit; apply mvInc; exact Moves.refl
    decide +kernel; decide +kernel; apply mvIteR; apply mvNext; apply mvEmit; apply mvSetFlag; apply mvPut
    apply mvSetFlag; exact Moves.refl; decide +kernel; decide +kernel; decide +kernel; decide +kernel; apply mvIteR
    apply mvNext; apply mvEmit; exact Moves.refl; decide +kernel; apply mvNext; apply mvEmit; exact Moves.refl
    decide +kernel

theorem mv_execQuoinRelease {q : Requester} {n : Fin 64} {s : State} : MovesR 0x3cfff0a00000040280000000000000000000000000000000000000000000000000000000300000 s (execQuoinRelease q n s) := by
  unfold execQuoinRelease
  with_reducible
    apply mvIteR; apply mvNext; apply Moves.step (g := mv_barAnswer); exact Moves.refl; decide +kernel; split
    apply mvNext; exact Moves.refl; apply mvIteR; apply mvNext; apply mvInc; exact Moves.refl; decide +kernel
    apply mvIteR; apply mvNext; apply mvSetFlag; exact Moves.refl; decide +kernel; apply mvNext
    apply Moves.step (g := mv_rejectBox); exact Moves.refl; decide +kernel

theorem mv_orphan {s : State} {st : Nat} : Moves 0x40000000000000000000000000000000000000000000000000000000000000000 s (State.orphan s st) := by
  unfold State.orphan
  with_reducible
    apply mvFold; exact Moves.refl; intro u x hu; apply mvIte; apply mvSetFlag; apply mvSetFlag; assumption
    decide +kernel; decide +kernel; assumption

theorem mv_bumpHost {s : State} : Moves 0x40000000000000000000000000000000000000000000000000000000000010000 s (State.bumpHost s) := by
  unfold State.bumpHost
  with_reducible
    refine mvMk ?_; apply Moves.step (g := mv_orphan); exact Moves.refl; decide +kernel

theorem mv_bumpCore {s : State} {k : Nat} : Moves 0x40800000000000000000000000000000000000000000000000000000000000000 s (State.bumpCore s k) := by
  unfold State.bumpCore
  with_reducible
    apply mvPut; apply Moves.step (g := mv_orphan); exact Moves.refl; decide +kernel; decide +kernel

theorem mv_execMbxCntClr {s : State} : MovesR 0x1600000000000000000000000000000000000000000000000000000000000000 s (execMbxCntClr s) := by
  unfold execMbxCntClr
  with_reducible
    apply mvNext; apply mvFold; apply mvPut; apply mvPut; exact Moves.refl; decide +kernel; decide +kernel; intro u x hu
    apply mvPut; assumption; decide +kernel

end Sys2Proof.Laws
end

