-- ==== Sys2Proof/Laws/MovesEfc.lean ====
section
/-!
SUPPORT. What each definition of Machine/Efc.lean can change (Laws/Moves.lean).
-/
set_option Elab.async false

namespace Sys2Proof.Laws
open Sys2Proof.Machine

theorem mv_otpPut {s : State} {a : Nat} {b : List Byte} : Moves 0x8000 s (State.otpPut s a b) := by
  unfold State.otpPut
  with_reducible refine mvMk Moves.refl (he := ?_)
  exact fun h => efcMk h.flash (swf_puts flashBlank id _ _ _ h.otp)

theorem mv_readOtpStatus {s : State} : Moves 0x80000000000000000000000000000000000000000000000000000000000 s (State.readOtpStatus s) := by
  unfold State.readOtpStatus
  with_reducible
    apply mvSetFlag; apply mvSetFlag; exact Moves.refl; decide +kernel; decide +kernel

theorem mv_efcDrop {s : State} : Moves 0x80000000000000000000000000000000000000000000000000000008000 s (State.efcDrop s) := by
  unfold State.efcDrop
  with_reducible
    refine mvMk ?_; apply mvIte; exact Moves.refl; apply mvPut; exact Moves.refl; decide +kernel

theorem mv_efcAbandon {s : State} : Moves 0x200000200000000000080000000000000000000000000000000000000000000000000000108000 s (State.efcAbandon s) := by
  unfold State.efcAbandon
  with_reducible
    apply mv_event; apply Moves.step (g := mv_efcDrop); exact Moves.refl; decide +kernel; decide +kernel

theorem mv_execEfcKeyWrite {q : Requester} {v : Word} {s : State} : MovesR 0x3cfff0a00000000000080000000000000000000000000000000000000000000000000000308000 s (execEfcKeyWrite q v s) := by
  unfold execEfcKeyWrite
  with_reducible
    apply mvIteR; apply mvNext; apply Moves.step (g := mv_barAnswer); exact Moves.refl; decide +kernel; apply mvIteR
    apply mvNext; exact Moves.refl; apply mvIteR; apply mvNext; apply mvPut; refine mvMk ?_; exact Moves.refl
    decide +kernel; apply mvIteR; apply mvNext; apply mvPut; exact Moves.refl; decide +kernel; apply mvNext
    apply Moves.step (g := mv_efcAbandon); exact Moves.refl; decide +kernel

theorem mv_efcCmd {s : State} {q : Requester} {v : Word} : Moves 0x200000200000000000080000000000000000000000000000000000000000000000000000108000 s (State.efcCmd s q v) := by
  unfold State.efcCmd
  with_reducible
    apply mvIte; exact Moves.refl; split; apply mvIte; apply mvPut; refine mvMk ?_; exact Moves.refl; decide +kernel
    apply Moves.step (g := mv_efcAbandon); exact Moves.refl; decide +kernel; apply Moves.step (g := mv_efcAbandon)
    exact Moves.refl; decide +kernel

theorem mv_efcResult {s : State} {code : Nat} : Moves 0x200000200000000000280000000000000000000000000000000000000000000000000000108000 s (State.efcResult s code) := by
  unfold State.efcResult
  with_reducible
    refine mvMk ?_; apply mv_event; apply mvSetFlag; apply mvSetFlag; apply mvSetFlag; apply mvPut; apply mvPut
    exact Moves.refl; decide +kernel; decide +kernel; decide +kernel; decide +kernel; decide +kernel; decide +kernel

theorem mv_efcStart {s : State} {op : FlashOp} {a : Nat} {data : List Byte} : Moves 0x200000200000000000280000000000000000000000000000000000000000000000000000108000 s (State.efcStart s op a data) := by
  unfold State.efcStart
  with_reducible
    apply mvIte; apply Moves.step (g := mv_efcResult); exact Moves.refl; decide +kernel; apply mvIte
    apply Moves.step (g := mv_efcResult); apply mv_event; exact Moves.refl; decide +kernel; decide +kernel; apply mvIte
    apply mvSetFlag; apply mvPut; apply mvPut; refine mvMk ?_; exact Moves.refl; decide +kernel; decide +kernel; split
    decide +kernel; decide +kernel; apply mvPut; apply mvPut; refine mvMk ?_; exact Moves.refl; decide +kernel
    decide +kernel

theorem mv_efcAddr {s : State} {q : Requester} {v : Word} {starts : FlashOp → Bool} : Moves 0x200000200000000000380000000000000000000000000000000000000000000000000000108000 s (State.efcAddr s q v starts) := by
  unfold State.efcAddr
  with_reducible
    apply mvIte; exact Moves.refl; split; apply mvIte; apply Moves.step (g := mv_efcAbandon); exact Moves.refl
    decide +kernel; split; apply mvIte; exact Moves.refl; apply mvPut; apply mvPut; exact Moves.refl; decide +kernel
    decide +kernel; apply mvIte; exact Moves.refl; apply mvPut; apply mvPut; exact Moves.refl; decide +kernel
    decide +kernel; apply mvIte; apply Moves.step (g := mv_efcStart); apply mvPut; exact Moves.refl; decide +kernel
    decide +kernel; exact Moves.refl; apply mvIte; apply Moves.step (g := mv_efcStart); apply mvPut; exact Moves.refl
    decide +kernel; decide +kernel; exact Moves.refl; apply Moves.step (g := mv_efcAbandon); exact Moves.refl
    decide +kernel

theorem mv_efcData {s : State} {q : Requester} {v : Word} : Moves 0x200000200000000000280000000000000000000000000000000000000000000000000000108000 s (State.efcData s q v) := by
  unfold State.efcData
  with_reducible
    apply mvIte; exact Moves.refl; apply mvIte; apply Moves.step (g := mv_efcAbandon); exact Moves.refl; decide +kernel
    apply mvIte; apply mvPut; refine mvMk ?_; exact Moves.refl; decide +kernel; split; apply Moves.step (g := mv_efcStart)
    exact Moves.refl; decide +kernel; apply Moves.step (g := mv_efcAbandon); exact Moves.refl; decide +kernel

theorem mv_execProgram {q : Requester} {v : Word} {s : State} : MovesR 0x3cfff0a00000000000280000000000000000000000000000000000000000000000000000308000 s (execProgram q v s) := by
  unfold execProgram
  with_reducible
    apply mvIteR; apply mvNext; apply Moves.step (g := mv_barAnswer); exact Moves.refl; decide +kernel; apply mvIteR
    apply mvNext; apply Moves.step (g := mv_efcData); exact Moves.refl; decide +kernel; apply mvNext; exact Moves.refl

theorem mv_execOtpProgram {q : Requester} {v : Word} {s : State} : MovesR 0x3cfff0a00000000000280000000000000000000000000000000000000000000000000000308000 s (execOtpProgram q v s) := by
  unfold execOtpProgram
  with_reducible
    apply mvIteR; apply mvNext; apply Moves.step (g := mv_barAnswer); exact Moves.refl; decide +kernel; apply mvIteR
    apply mvNext; apply Moves.step (g := mv_efcData); exact Moves.refl; decide +kernel; apply mvNext; exact Moves.refl

theorem mv_execSectorErase {q : Requester} {v : Word} {s : State} : MovesR 0x3cfff0a00000000000380000000000000000000000000000000000000000000000000000308000 s (execSectorErase q v s) := by
  unfold execSectorErase
  with_reducible
    apply mvIteR; apply mvNext; apply Moves.step (g := mv_barAnswer); exact Moves.refl; decide +kernel; apply mvNext
    apply mvIte; apply Moves.step (g := mv_efcAddr); exact Moves.refl; decide +kernel; exact Moves.refl

theorem mv_execBlankCheck {q : Requester} {v : Word} {s : State} : MovesR 0x3cfff0a00000000000380000000000000000000000000000000000000000000000000000308000 s (execBlankCheck q v s) := by
  unfold execBlankCheck
  with_reducible
    apply mvIteR; apply mvNext; apply Moves.step (g := mv_barAnswer); exact Moves.refl; decide +kernel; apply mvNext
    apply mvIte; apply Moves.step (g := mv_efcAddr); exact Moves.refl; decide +kernel; exact Moves.refl

theorem mv_execEfcOperationComplete {verified : Bool} {s : State} : MovesR 0x200000200000000018280000000000000000000000000000000000000000000000000000308000 s (execEfcOperationComplete verified s) := by
  unfold execEfcOperationComplete
  with_reducible
    split; apply mvNext; exact Moves.refl; apply mvIteR; apply mvNext; exact Moves.refl; split; apply mvIteR; apply mvNext
    apply Moves.step (g := mv_efcResult); exact Moves.refl; decide +kernel; apply mvIteR; apply mvNext
    apply Moves.step (g := mv_efcResult); apply Moves.step (g := mv_flashPut); apply mvInc; exact Moves.refl
    decide +kernel; decide +kernel; decide +kernel; apply mvNext; apply Moves.step (g := mv_efcResult)
    apply Moves.step (g := mv_flashPut); apply mvFreeBytes; apply mvInc; exact Moves.refl; decide +kernel; decide +kernel
    decide +kernel; decide +kernel; apply mvIteR; apply mvNext; apply Moves.step (g := mv_efcResult); exact Moves.refl
    decide +kernel; apply mvIteR; apply mvNext; apply Moves.step (g := mv_efcResult)
    apply Moves.step (g := mv_readOtpStatus); apply Moves.step (g := mv_otpPut); apply mvInc; exact Moves.refl
    decide +kernel; decide +kernel; decide +kernel; decide +kernel; apply mvNext; apply Moves.step (g := mv_efcResult)
    apply Moves.step (g := mv_readOtpStatus); apply Moves.step (g := mv_otpPut); apply mvFreeBytes; apply mvInc
    exact Moves.refl; decide +kernel; decide +kernel; decide +kernel; decide +kernel; decide +kernel; apply mvNext
    apply Moves.step (g := mv_efcResult); apply mvInc; refine mvMk ?_; exact Moves.refl; decide +kernel; decide +kernel
    apply mvNext; apply Moves.step (g := mv_efcResult); exact Moves.refl; decide +kernel

theorem mv_efcAbortErase {s : State} {result : Bool} : Moves 0x200000200000000004280000000000000000000000000000000000000000000000000000108000 s (State.efcAbortErase s result) := by
  unfold State.efcAbortErase
  with_reducible
    split; apply mvIte; apply mvIte; apply Moves.step (g := mv_efcResult); apply mv_event; apply mvPut; apply mvSetFlag
    refine mvMk ?_; exact Moves.refl; decide +kernel; decide +kernel; decide +kernel; decide +kernel; refine mvMk ?_
    apply mv_event; apply mvPut; apply mvSetFlag; refine mvMk ?_; exact Moves.refl; decide +kernel; decide +kernel
    decide +kernel; exact Moves.refl; exact Moves.refl

theorem mv_execEfcEraseSuspend {resume : Bool} {s : State} : MovesR 0x80000000000000000000000000000000000000000000000000000000000 s (execEfcEraseSuspend resume s) := by
  unfold execEfcEraseSuspend
  with_reducible
    split; apply mvNext; apply mvIte; apply mvSetFlag; exact Moves.refl; decide +kernel; exact Moves.refl; apply mvNext
    exact Moves.refl

theorem mv_eccLog {s : State} {a cbits : Nat} {ue : Bool} : Moves 0x400000000000000000000000000000000000000000000000000000000000 s (State.eccLog s a cbits ue) := by
  unfold State.eccLog
  with_reducible
    apply mvIte; apply mvPut; apply mvPut; apply mvSetFlag; apply mvSetFlag; exact Moves.refl; decide +kernel
    decide +kernel; decide +kernel; decide +kernel; exact Moves.refl

theorem mv_execEfcWindowRead {q : Requester} {addr len : Nat} {errs : List (Nat × Nat)} {s : State} : MovesR 0x3cfff0a00000000060480000000000000000000000000000000000000000000000000000300000 s (execEfcWindowRead q addr len errs s) := by
  unfold execEfcWindowRead
  with_reducible
    apply mvIteR; apply mvNext; apply Moves.step (g := mv_barAnswer); exact Moves.refl; decide +kernel; apply mvIteR
    apply mvNext; exact Moves.refl; apply mvIteR; apply mvNext; apply Moves.step (g := mv_busFault); apply mv_event
    exact Moves.refl; decide +kernel; decide +kernel; apply mvIteR; apply mvNext; apply mvEmit; apply mv_event
    exact Moves.refl; decide +kernel; decide +kernel; apply mvIteR; apply mvNext; apply Moves.step (g := mv_busFault)
    apply mvFold; exact Moves.refl; intro u x hu; apply mvIte; apply mv_event; apply Moves.step (g := mv_eccLog)
    apply mvInc; assumption; decide +kernel; decide +kernel; decide +kernel; apply mvIte; apply mv_event
    apply Moves.step (g := mv_eccLog); apply mvInc; assumption; decide +kernel; decide +kernel; decide +kernel; assumption
    decide +kernel; apply mvIteR; apply mvNext; apply mvEmit; apply mvFreeBytes; apply mvFold; exact Moves.refl
    intro u x hu; apply mvIte; apply mv_event; apply Moves.step (g := mv_eccLog); apply mvInc; assumption; decide +kernel
    decide +kernel; decide +kernel; apply mvIte; apply mv_event; apply Moves.step (g := mv_eccLog); apply mvInc
    assumption; decide +kernel; decide +kernel; decide +kernel; assumption; decide +kernel; decide +kernel; apply mvNext
    apply mvEmit; apply mvFold; exact Moves.refl; intro u x hu; apply mvIte; apply mv_event
    apply Moves.step (g := mv_eccLog); apply mvInc; assumption; decide +kernel; decide +kernel; decide +kernel
    apply mvIte; apply mv_event; apply Moves.step (g := mv_eccLog); apply mvInc; assumption; decide +kernel
    decide +kernel; decide +kernel; assumption; decide +kernel

theorem mv_execEfcWindowWrite {q : Requester} {addr : Nat} {_v : Word} {s : State} : MovesR 0x3cfff0a00000000000080000000000000000000000000000000000000000000000000000300000 s (execEfcWindowWrite q addr _v s) := by
  unfold execEfcWindowWrite
  with_reducible
    apply mvIteR; apply mvNext; apply Moves.step (g := mv_barAnswer); exact Moves.refl; decide +kernel; apply mvIteR
    apply mvNext; exact Moves.refl; apply mvNext; apply mv_event; exact Moves.refl; decide +kernel

theorem mv_execEfcEccLogFree {v : Word} {s : State} : MovesR 0x400000000000000000000000000000000000000000000000000000000000 s (execEfcEccLogFree v s) := by
  unfold execEfcEccLogFree
  with_reducible
    apply mvNext; apply mvIte; apply mvSetFlag; exact Moves.refl; decide +kernel; exact Moves.refl

theorem mv_execEfcAbortAddrClr {v : Word} {s : State} : MovesR 0x4000000000000000000000000000000000000000000000000000000000000 s (execEfcAbortAddrClr v s) := by
  unfold execEfcAbortAddrClr
  with_reducible
    apply mvNext; apply mvIte; apply mvPut; apply mvSetFlag; exact Moves.refl; decide +kernel; decide +kernel
    exact Moves.refl

theorem mv_execEfcCntClr {s : State} : MovesR 0x78000000000000000000000000000000000000000000000000000000000000 s (execEfcCntClr s) := by
  unfold execEfcCntClr
  with_reducible
    apply mvNext; apply mvPut; apply mvPut; apply mvPut; apply mvPut; exact Moves.refl; decide +kernel; decide +kernel
    decide +kernel; decide +kernel

theorem mv_execJournalAppend {journal kind : Nat} {payload : List Byte} {s : State} : MovesR 0x18000000000000000000000000000000000000000000000000000000008000 s (execJournalAppend journal kind payload s) := by
  unfold execJournalAppend
  with_reducible
    split; apply mvNext; exact Moves.refl; apply mvIteR; apply mvNext; exact Moves.refl; apply mvNext
    apply Moves.step (g := mv_journalCompact); apply Moves.step (g := mv_journalPut); exact Moves.refl; decide +kernel
    decide +kernel

theorem mv_applyRecords {s : State} {img : List Byte} {p : Nat → Bool} : Moves 0x400000 s (State.applyRecords s img p) := by
  unfold State.applyRecords
  with_reducible
    apply mvFold; exact Moves.refl; intro u x hu; apply mvIte; apply mvWrAny; assumption; decide +kernel; assumption

theorem mv_selectImage {s : State} : Moves 0x4400000000001800000000000000000000000000000000000000000000000000000408000 s (State.selectImage s) := by
  unfold State.selectImage
  with_reducible
    apply mvIte; refine mvMk ?_; apply mvSetFlag; apply mvPut; apply mvSetFlag; apply mvSetFlag; apply mvSetFlag
    apply mvPut; apply mvSetFlag; apply mvSetFlag; exact Moves.refl; decide +kernel; decide +kernel; decide +kernel
    decide +kernel; decide +kernel; decide +kernel; decide +kernel; decide +kernel; apply mvFold
    apply Moves.step (g := mv_applyRecords); refine mvMk ?_; apply mvSetFlag; apply mvPut; apply mvSetFlag
    apply mvSetFlag; apply mvSetFlag; apply mvPut; apply mvSetFlag; apply mvSetFlag; exact Moves.refl; decide +kernel
    decide +kernel; decide +kernel; decide +kernel; decide +kernel; decide +kernel; decide +kernel; decide +kernel
    decide +kernel; split; intro u x hu; apply mvPut; apply mvPut; assumption; decide +kernel; decide +kernel
    intro u x hu; apply mvPut; apply mvPut; assumption; decide +kernel; decide +kernel; intro u x hu; apply mvPut
    apply mvPut; assumption; decide +kernel; decide +kernel; split; intro u x hu; apply mvPut; apply mvPut; assumption
    decide +kernel; decide +kernel; split; intro u x hu; apply mvPut; apply mvPut; assumption; decide +kernel
    decide +kernel; split; intro u x hu; apply mvPut; apply mvPut; assumption; decide +kernel; decide +kernel
    intro u x hu; apply mvPut; apply mvPut; assumption; decide +kernel; decide +kernel

end Sys2Proof.Laws
end

