-- ==== Sys2Proof/Laws/MovesMapLine.lean ====
section
/-!
SUPPORT. What each definition of Machine/MapLine.lean can change (Laws/Moves.lean).
-/
set_option Elab.async false

namespace Sys2Proof.Laws
open Sys2Proof.Machine

theorem mv_setLine {s : State} {key : Nat} {m : Option MapLine} : Moves 0x200 s (State.setLine s key m) := by
  unfold State.setLine
  with_reducible
    refine mvMk ?_; exact Moves.refl

theorem mv_countDirty {s : State} : Moves 0x800000000000000000000000000000000000000000 s (State.countDirty s) := by
  unfold State.countDirty
  with_reducible
    apply mvPut; exact Moves.refl; decide +kernel

theorem mv_writeBack {s : State} {l : Nat} {d : List Byte} : Moves 0x2000002000000000000000000000000000000000000000000f83c8000000000000000000100210 s (State.writeBack s l d) := by
  unfold State.writeBack
  with_reducible
    apply mvIte; refine mvMk ?_; apply Moves.step (g := mv_galWrite); exact Moves.refl; decide +kernel; refine mvMk ?_
    exact Moves.refl

theorem mv_loadLine {s : State} {l : Nat} : Moves 0x2000002000000000000000000000000000000000000000000f83c8000000000000000000100210 s (State.loadLine s l) := by
  unfold State.loadLine
  with_reducible
    apply mvIte; exact Moves.refl; apply Moves.step (g := mv_writeBack); exact Moves.refl; decide +kernel

theorem mv_backing {s : State} {l : Nat} : Moves 0x2000002000000000000000000000000000000000000000000f83c8000000000000000000100210 s (State.backing s l).2 := by
  unfold State.backing
  refine mvIteSnd ?_ ?_
  · exact mvSnd ((Moves.refl.step mv_loadLine (by decide +kernel)).step mv_galRead (by decide +kernel))
  · cases s.map.store.lookup l <;> exact mvSnd Moves.refl

theorem mv_mapEntry {s : State} {u : Nat} {p : Option Nat} : Moves 0x2000002000000000000000000000000000008000000000000f83c8000000000000000000100210 s (State.mapEntry s u p) := by
  unfold State.mapEntry
  with_reducible
    split; dsimp only; split; split; apply Moves.step (g := mv_countDirty); apply Moves.step (g := mv_setLine)
    exact Moves.refl; decide +kernel; decide +kernel; exact Moves.refl; split; apply Moves.step (g := mv_writeBack)
    exact Moves.refl; decide +kernel; exact Moves.refl; dsimp only; split; split; apply Moves.step (g := mv_countDirty)
    apply Moves.step (g := mv_setLine); exact Moves.refl; decide +kernel; decide +kernel; exact Moves.refl; apply mvIte
    apply Moves.step (g := mv_galWrite); exact Moves.refl; decide +kernel; exact Moves.refl

theorem mv_mapForget {s : State} : Moves 0x800000000000000000000000000000000000000200 s (State.mapForget s) := by
  unfold State.mapForget
  with_reducible
    apply Moves.step (g := mv_countDirty); refine mvMk ?_; exact Moves.refl; decide +kernel

end Sys2Proof.Laws
end

