-- ==== Sys2Proof/Laws/MovesUnits.lean ====
section
/-!
SUPPORT. What each definition of Machine/Units.lean can change (Laws/Moves.lean).
-/
set_option Elab.async false

namespace Sys2Proof.Laws
open Sys2Proof.Machine

theorem mv_enableWrite {M : Nat} {s t : State} {f : UnitFlds} {b : Bool} {i : Nat} (h : Moves M s t)
    (hc : (covers M f.en.base f.en.stride f.en.count && covers M f.st.base f.st.stride f.st.count && covers M f.held.base f.held.stride f.held.count) = true) :
    Moves M s (t.enableWrite f b i) := by
  simp only [Bool.and_eq_true] at hc
  unfold State.enableWrite
  with_reducible
    split; split; refine mvPut ?_ ?_; refine mvSetFlag ?_ ?_; assumption; exact hc.1.1; exact hc.1.2
    refine mvSetFlag ?_ ?_; assumption; exact hc.1.1; refine mvSetFlag ?_ ?_; refine mvSetFlag ?_ ?_; assumption
    exact hc.1.1; exact hc.2; split; refine mvSetFlag ?_ ?_; assumption; exact hc.1.1; refine mvPut ?_ ?_
    refine mvSetFlag ?_ ?_; assumption; exact hc.1.1; exact hc.1.2; refine mvSetFlag ?_ ?_; refine mvSetFlag ?_ ?_
    assumption; exact hc.1.1; exact hc.2; refine mvSetFlag ?_ ?_; assumption; exact hc.1.1

theorem mv_unitStarted {M : Nat} {s t : State} {f : UnitFlds} {i : Nat} (h : Moves M s t)
    (hc : (covers M f.en.base f.en.stride f.en.count && covers M f.st.base f.st.stride f.st.count && covers M f.held.base f.held.stride f.held.count) = true) :
    Moves M s (t.unitStarted f i) := by
  simp only [Bool.and_eq_true] at hc
  unfold State.unitStarted
  with_reducible
    split; assumption; split; refine mvPut ?_ ?_; refine mvSetFlag ?_ ?_; assumption; exact hc.2; exact hc.1.2
    refine mvPut ?_ ?_; assumption; exact hc.1.2

theorem mv_unitDrained {M : Nat} {s t : State} {f : UnitFlds} {i : Nat} (h : Moves M s t)
    (hc : (covers M f.en.base f.en.stride f.en.count && covers M f.st.base f.st.stride f.st.count && covers M f.held.base f.held.stride f.held.count) = true) :
    Moves M s (t.unitDrained f i) := by
  simp only [Bool.and_eq_true] at hc
  unfold State.unitDrained
  with_reducible
    split; assumption; split; refine mvPut ?_ ?_; refine mvSetFlag ?_ ?_; assumption; exact hc.2; exact hc.1.2
    refine mvPut ?_ ?_; assumption; exact hc.1.2

end Sys2Proof.Laws
end

