-- ==== Sys2Proof/Laws/MovesRide.lean ====
section
/-!
SUPPORT. What each definition of Machine/Ride.lean can change (Laws/Moves.lean).
-/
set_option Elab.async false

namespace Sys2Proof.Laws
open Sys2Proof.Machine

theorem mv_budget {s : State} : Moves 0x20000000000000000000000000400000000000 s (State.budget s) := by
  unfold State.budget
  with_reducible
    apply mvPut; apply mvSetFlag; apply mvPut; apply mvPut; exact Moves.refl; decide +kernel; decide +kernel
    decide +kernel; decide +kernel

end Sys2Proof.Laws
end

