-- ==== Sys2Proof/Laws/MovesSec.lean ====
section
/-!
SUPPORT. What each definition of Machine/Sec.lean can change (Laws/Moves.lean).
-/
set_option Elab.async false

namespace Sys2Proof.Laws
open Sys2Proof.Machine

theorem mv_bindKey {s : State} {tag k : Nat} : Moves 0x20000000000000000000000000000000000000000000000000000002000 s (State.bindKey s tag k) := by
  unfold State.bindKey
  with_reducible
    split; apply Moves.step (g := mv_countBound); refine mvMk ?_; exact Moves.refl; decide +kernel; exact Moves.refl

theorem mv_emptySlot {s : State} {k : Nat} : Moves 0x20000000000000000000000000000000000000000000000000000002000 s (State.emptySlot s k) := by
  unfold State.emptySlot
  with_reducible
    apply mvPut; apply mvPut; apply mvSetFlag; apply mvSetFlag; refine mvMk ?_; exact Moves.refl; decide +kernel
    decide +kernel; decide +kernel; decide +kernel

theorem mv_fillSlot {s : State} {k bits use : Nat} {key : List Byte} : Moves 0x20000000000000000000000000000000000000000000000000000002000 s (State.fillSlot s k bits use key) := by
  unfold State.fillSlot
  with_reducible
    apply mvPut; apply mvPut; apply mvSetFlag; apply mvSetFlag; refine mvMk ?_; exact Moves.refl; decide +kernel
    decide +kernel; decide +kernel; decide +kernel

theorem mv_unwrapFail {s : State} {tag : Nat} : Moves 0x2400002000000000000284000000000000000000004410000000000000000000000000001030c0 s (State.unwrapFail s tag) := by
  unfold State.unwrapFail
  with_reducible
    apply Moves.step (g := mv_finish); apply mv_event; apply mvInc; exact Moves.refl; decide +kernel; decide +kernel
    decide +kernel

theorem mv_keyLoaded {s : State} {tag k bits use : Nat} {key : List Byte} : Moves 0x2400002000000000000240000000000000000000004410000000000000000000000000001030c0 s (State.keyLoaded s tag k bits use key) := by
  unfold State.keyLoaded
  with_reducible
    apply Moves.step (g := mv_finish); apply mvInc; apply Moves.step (g := mv_fillSlot); exact Moves.refl; decide +kernel
    decide +kernel; decide +kernel

theorem mv_keyBlob {s : State} {c : Cmd} {blob : List Byte} : Moves 0x24000020000000000002c4000000000000000000004410000000000000000000000000001030c0 s (State.keyBlob s c blob) := by
  unfold State.keyBlob
  with_reducible
    apply mvIte; apply Moves.step (g := mv_finish); exact Moves.refl; decide +kernel; apply mvIte; apply mvIte
    apply Moves.step (g := mv_finish); exact Moves.refl; decide +kernel; apply mvIte; apply Moves.step (g := mv_finish)
    exact Moves.refl; decide +kernel; apply Moves.step (g := mv_keyLoaded); exact Moves.refl; decide +kernel; split
    apply Moves.step (g := mv_finish); exact Moves.refl; decide +kernel; apply mvIte
    apply Moves.step (g := mv_unwrapFail); exact Moves.refl; decide +kernel; apply Moves.step (g := mv_keyLoaded)
    exact Moves.refl; decide +kernel

theorem mv_execKeyLoad {c : Nat} {h : HostRead} {s : State} : MovesR 0x3cfff0a0000000000002c400000000000000000000441000000000000000000000008c003030c0 s (execKeyLoad c h s) := by
  unfold execKeyLoad
  with_reducible
    apply mv_onCmd; exact Moves.refl; decide +kernel; split; intro u x hu; apply mvIte; apply Moves.step (g := mv_finish)
    assumption; decide +kernel; apply Moves.step (g := mv_hostReadFailed); assumption; decide +kernel; intro u x hu
    apply mvIte; apply Moves.step (g := mv_finish); assumption; decide +kernel; apply Moves.step (g := mv_keyBlob)
    assumption; decide +kernel

theorem mv_execKeyClear {c : Nat} {s : State} : MovesR 0x2400002000000000000200000000000000000000004410000000000000000000000000001030c0 s (execKeyClear c s) := by
  unfold execKeyClear
  with_reducible
    apply mv_onCmd; exact Moves.refl; decide +kernel; intro u x hu; apply mvIte; assumption; apply mvIte
    apply Moves.step (g := mv_finish); assumption; decide +kernel; split; apply Moves.step (g := mv_finish); assumption
    decide +kernel; apply mvIte; refine mvMk ?_; apply Moves.step (g := mv_emptySlot); assumption; decide +kernel
    apply Moves.step (g := mv_finish); apply Moves.step (g := mv_emptySlot); assumption; decide +kernel; decide +kernel

theorem mv_queueAes {s : State} {cls : EngClass} {slot : Nat} {cmd : Option Nat} {feedback : Bool} {n : Nat} : Moves 0x2000 s (State.queueAes s cls slot cmd feedback n) := by
  unfold State.queueAes
  with_reducible
    refine mvMk ?_; exact Moves.refl

theorem mv_hostAes {M : Nat} {rS : State} {s : State} {k : Cmd} {h : HostRead} {bit : Nat} {feedback : Bool} {done : State → List Byte → List Byte → State} (hS : Moves M rS s)
    (hs : sub 0x3cfff0a00000000000020000000000000000000000441000000000000000000000008c003030c0 M = true) (hf0 : ∀ u a b, Moves M rS u → Moves M rS (done u a b)) : Moves M rS (State.hostAes s k h bit feedback done) := by
  unfold State.hostAes
  with_reducible
    apply mvIte; apply Moves.step (g := mv_finish); exact hS
    exact sub_trans (b := 0x3cfff0a00000000000020000000000000000000000441000000000000000000000008c003030c0) (by decide +kernel) hs
    apply mvIte; apply Moves.step (g := mv_finish); exact hS
    exact sub_trans (b := 0x3cfff0a00000000000020000000000000000000000441000000000000000000000008c003030c0) (by decide +kernel) hs
    split; apply Moves.step (g := mv_hostReadFailed); exact hS; assumption; split; apply mvIte
    apply Moves.step (g := mv_finish); exact hS
    exact sub_trans (b := 0x3cfff0a00000000000020000000000000000000000441000000000000000000000008c003030c0) (by decide +kernel) hs
    apply Moves.step (g := mv_queueAes); apply Moves.step (g := mv_bindKey); exact hS
    exact sub_trans (b := 0x3cfff0a00000000000020000000000000000000000441000000000000000000000008c003030c0) (by decide +kernel) hs
    exact sub_trans (b := 0x3cfff0a00000000000020000000000000000000000441000000000000000000000008c003030c0) (by decide +kernel) hs
    apply mvIte; exact hS; apply hf0; exact hS

theorem mv_execCipher {c : Nat} {h : HostRead} {s : State} : MovesR 0x3cfff0a00000000000020000000000000000000000441000000000000000000000008c003030c0 s (execCipher c h s) := by
  unfold execCipher
  with_reducible
    apply mv_onCmd; exact Moves.refl; decide +kernel; intro u x hu; apply mvIte; apply Moves.step (g := mv_finish)
    assumption; decide +kernel; apply mv_hostAes; assumption; decide +kernel; split; intro u x y hu
    apply Moves.step (g := mv_finish); apply Moves.step (g := mv_hostPiece); apply mvFreeBytes; assumption; decide +kernel
    decide +kernel; decide +kernel; intro u x y hu; apply Moves.step (g := mv_finish)
    apply Moves.step (g := mv_hostPiece); assumption; decide +kernel; decide +kernel

theorem mv_execMac {c : Nat} {h : HostRead} {s : State} : MovesR 0x3cfff0a00000000000020000000000000000000000441000000000000000000000008c003030c0 s (execMac c h s) := by
  unfold execMac
  with_reducible
    apply mv_onCmd; exact Moves.refl; decide +kernel; intro u x hu; apply mv_hostAes; assumption; decide +kernel
    intro u x y hu; apply Moves.step (g := mv_finish); apply Moves.step (g := mv_hostPiece); assumption; decide +kernel
    decide +kernel

theorem mv_execAttest {c : Nat} {s : State} : MovesR 0x2400002000000000000200000000000000000000004410000000000000000000000040003030c0 s (execAttest c s) := by
  unfold execAttest
  with_reducible
    apply mv_onCmd; exact Moves.refl; decide +kernel; intro u x hu; apply mvIte; apply Moves.step (g := mv_finish)
    assumption; decide +kernel; apply Moves.step (g := mv_finish); apply Moves.step (g := mv_deliver); apply mvFreeBytes
    apply mvFreeBytes; apply mvFreeBytes; apply mvFreeBytes; assumption; decide +kernel; decide +kernel; decide +kernel
    decide +kernel; decide +kernel; decide +kernel

theorem mv_execCertRead {c : Nat} {s : State} : MovesR 0x2400002000000000000200000000000000000000004410000000000000000000000040001030c0 s (execCertRead c s) := by
  unfold execCertRead
  with_reducible
    apply mv_onCmd; exact Moves.refl; decide +kernel; intro u x hu; apply mvIte; apply Moves.step (g := mv_finish)
    assumption; decide +kernel; apply Moves.step (g := mv_finish); apply Moves.step (g := mv_deliver); assumption
    decide +kernel; decide +kernel

theorem mv_execEnginePieceDispatch {e : Fin 16} {s : State} : MovesR 0x40000000000000000000000000000000000000000000000000000002000 s (execEnginePieceDispatch e s) := by
  unfold execEnginePieceDispatch
  with_reducible
    apply mvIteR; apply mvNext; exact Moves.refl; split; apply mvNext; exact Moves.refl; apply mvNext; apply mvPut
    apply mvPut; apply mvSetFlag; refine mvMk ?_; exact Moves.refl; decide +kernel; decide +kernel; decide +kernel

theorem mv_execEnginePieceComplete {e : Fin 16} {s : State} : MovesR 0x43000000000000000000000000000000000000000000000000000002000 s (execEnginePieceComplete e s) := by
  unfold execEnginePieceComplete
  with_reducible
    split; apply mvNext; exact Moves.refl; apply mvNext; apply mvPut; apply mvSetFlag; apply mvAdd64; refine mvMk ?_
    exact Moves.refl; decide +kernel; decide +kernel; decide +kernel

theorem mv_execTrngWindowFail {consecutive : Bool} {s : State} : MovesR 0x240000200000000018030f0034880200088000000144100020000000000000800000020018bcc0 s (execTrngWindowFail consecutive s) := by
  unfold execTrngWindowFail
  with_reducible
    apply mvIteR; apply mvNext; apply Moves.step (g := mv_failUnit); apply mvPut; apply mv_event; apply mvInc
    refine mvMk ?_; exact Moves.refl; decide +kernel; decide +kernel; decide +kernel; decide +kernel; apply mvNext
    apply mvPut; apply mv_event; apply mvInc; refine mvMk ?_; exact Moves.refl; decide +kernel; decide +kernel
    decide +kernel

theorem mv_execSecCntClr {s : State} : MovesR 0x1f000000000000000000000000000000000000000000000000000000000 s (execSecCntClr s) := by
  unfold execSecCntClr
  with_reducible
    apply mvNext; apply mvPut; apply mvPut; apply mvPut; apply mvPut64; exact Moves.refl; decide +kernel; decide +kernel
    decide +kernel; decide +kernel

end Sys2Proof.Laws
end

