-- ==== Sys2Proof/Laws/MovesMag.lean ====
section
/-!
SUPPORT. What each definition of Machine/Mag.lean can change (Laws/Moves.lean).
-/
set_option Elab.async false

namespace Sys2Proof.Laws
open Sys2Proof.Machine

theorem mv_setNand {s : State} {m : Module} : Moves 0x100 s (State.setNand s m) := by
  unfold State.setNand
  with_reducible
    refine mvMk ?_; exact Moves.refl

theorem mv_slcUpdate {s : State} : Moves 0x10000000000000000000000000000000000100 s (State.slcUpdate s) := by
  unfold State.slcUpdate
  with_reducible
    apply mvPut; apply mvPut; apply mvIte; refine mvMk ?_; exact Moves.refl; exact Moves.refl; decide +kernel
    decide +kernel

theorem mv_slcStart {s : State} : Moves 0x10000000000000000000000000000000000100 s (State.slcStart s) := by
  unfold State.slcStart
  with_reducible
    apply Moves.step (g := mv_slcUpdate); refine mvMk ?_; exact Moves.refl; decide +kernel

theorem mv_programAt {s : State} {u pun : Nat} {data : List Byte} {poison keyed : Nat} {slc : Bool} : Moves 0x300000000000000000000000000000000002100 s (State.programAt s u pun data poison keyed slc) := by
  unfold State.programAt
  with_reducible
    apply Moves.step (g := mv_queueAes); apply mvAdd64; refine mvMk ?_; apply Moves.step (g := mv_setNand)
    exact Moves.refl; decide +kernel; decide +kernel; decide +kernel

theorem mv_programUnit {s : State} {puns : Puns} {u : Nat} {data : List Byte} {poison keyed : Nat} {t : State × Nat}
    (e : s.programUnit puns u data poison keyed = some t) : Moves 0x300000000000000000000000000000000002100 s t.1 := by
  unfold State.programUnit at e
  dsimp only at e
  have key : ∀ slc (w : State × Nat), ((s.placeFor puns u slc none).map (fun p => (s.programAt u p data poison keyed slc, p))) = some w →
      Moves 0x300000000000000000000000000000000002100 s w.1 := by
    intro slc w h
    cases hp : s.placeFor puns u slc none with
    | none => rw [hp] at h; cases h
    | some p =>
      rw [hp] at h
      simp only [Option.map_some, Option.some.injEq] at h
      subst h
      exact mv_programAt.mono (by decide +kernel)
  split at e
  · split at e
    · rename_i h
      cases e
      exact key _ _ h
    · exact key _ _ e
  · exact key _ _ e

theorem mv_journalMap {s : State} {maps : List (Nat × Option Nat)} : Moves 0x2000002000000000000000000000000000008000100000000f83c8000000000000000000100310 s (State.journalMap s maps) := by
  unfold State.journalMap
  with_reducible
    apply mvIte; exact Moves.refl; apply Moves.step (g := mv_slcUpdate); apply mvFold; refine mvMk ?_
    apply Moves.step (g := mv_setNand); exact Moves.refl; decide +kernel; intro u x hu
    apply Moves.step (g := mv_mapEntry); assumption; decide +kernel; decide +kernel

theorem mv_poisonRec {s : State} {u mask cause : Nat} : Moves 0x100 s (State.poisonRec s u mask cause) := by
  unfold State.poisonRec
  with_reducible
    apply mvIte; apply mvIte; exact Moves.refl; apply Moves.step (g := mv_setNand); exact Moves.refl; decide +kernel
    split; apply Moves.step (g := mv_setNand); exact Moves.refl; decide +kernel; apply mvIte
    apply Moves.step (g := mv_setNand); exact Moves.refl; decide +kernel; apply Moves.step (g := mv_setNand)
    exact Moves.refl; decide +kernel

theorem mv_markPoison {s : State} {u old mask cause : Nat} : Moves 0x200000200000000000000000000000000000000001000000000000000000000000000000100100 s (State.markPoison s u old mask cause) := by
  unfold State.markPoison
  with_reducible
    apply mvIte; apply Moves.step (g := mv_poisonRec); exact Moves.refl; decide +kernel; apply mv_event
    apply Moves.step (g := mv_poisonRec); exact Moves.refl; decide +kernel; decide +kernel

theorem mv_spareCheck {s : State} : Moves 0x200000200000000000000000000000000000000001000000000000000000000000000000100100 s (State.spareCheck s) := by
  unfold State.spareCheck
  with_reducible
    apply mvIte; apply mvPut; apply mvIte; apply mv_event; refine mvMk ?_; exact Moves.refl; decide +kernel
    exact Moves.refl; decide +kernel; apply mvIte; apply mv_event; refine mvMk ?_; exact Moves.refl; decide +kernel
    exact Moves.refl

theorem mv_queueRefresh {s : State} {b : Nat} : Moves 0x200000200000000000000000000000000000000001000000000000000000000000000000100100 s (State.queueRefresh s b) := by
  unfold State.queueRefresh
  with_reducible
    apply mvIte; exact Moves.refl; apply mv_event; refine mvMk ?_; exact Moves.refl; decide +kernel

theorem mv_freeSector {s : State} {data : List Byte} {i : Nat} : Moves 0x200000 s (State.freeSector s data i).2 := by
  unfold State.freeSector
  with_reducible
    apply mvFreeBytes; exact Moves.refl; decide +kernel

theorem mv_readNand {s : State} {u want : Nat} {ecc : NandEcc} : Moves 0x200000200000000000000000000000000000000401000000000000000000000000000000302100 s (State.readNand s u want ecc).2.2 := by
  unfold State.readNand
  with_reducible
    split; exact Moves.refl; apply mvIteThd; apply Moves.step (g := mv_markPoison); apply mvFreeBytes; exact Moves.refl
    decide +kernel; decide +kernel; split; apply mvFreeBytes; exact Moves.refl; decide +kernel
    apply Moves.step (g := mv_queueAes); apply mvFoldSnd; apply mvIte; apply mvIte
    apply Moves.step (g := mv_queueRefresh); exact Moves.refl; decide +kernel; exact Moves.refl
    apply Moves.step (g := mv_markPoison); refine mvMk ?_; apply mv_event; apply mvAdd; apply Moves.step (g := mv_setNand)
    apply mvIte; apply Moves.step (g := mv_queueRefresh); exact Moves.refl; decide +kernel; exact Moves.refl
    decide +kernel; decide +kernel; decide +kernel; decide +kernel; intro u x y hu; apply Moves.step (g := mv_freeSector)
    assumption; decide +kernel; decide +kernel

theorem mv_bufSector {s : State} {a i : Nat} {acc : List Byte × Nat} : Moves 0x2000002000000000000000000000000000000000000000000f81c8000000000000000000100000 s (State.bufSector s a i acc).2 := by
  unfold State.bufSector
  with_reducible
    apply Moves.step (g := mv_galRead); exact Moves.refl; decide +kernel

theorem mv_bufRead {s : State} {b : BufUnit} {want : Nat} : Moves 0x2000002000000000000000000000000000000000000000000f81c8000000000000000000100000 s (State.bufRead s b want).2.2 := by
  unfold State.bufRead
  with_reducible
    split; exact Moves.refl; exact Moves.refl; apply mvFoldSnd; exact Moves.refl; intro u x y hu; apply mvIteSnd
    apply Moves.step (g := mv_bufSector); assumption; decide +kernel; assumption

theorem mv_readUnit {s : State} {u want : Nat} {ecc : NandEcc} : Moves 0x2000002000000000000000000000000000000004010000000f81c8000000000000000000302100 s (State.readUnit s u want ecc).2.2 := by
  unfold State.readUnit
  with_reducible
    split; apply Moves.step (g := mv_bufRead); exact Moves.refl; decide +kernel; apply Moves.step (g := mv_readNand)
    exact Moves.refl; decide +kernel

theorem mv_readRange {s : State} {pos n : Nat} {ecc : NandEcc} : Moves 0x2000002000000000000000000000000000000004010000000f81c8000000000000000000302100 s (State.readRange s pos n ecc).2.2 := by
  unfold State.readRange
  with_reducible
    apply mvFoldThd; exact Moves.refl; intro b c u x hu; apply Moves.step (g := mv_readUnit); assumption; decide +kernel

theorem mv_flushFetched {s : State} {tag : Nat} : Moves 0x100 s (State.flushFetched s tag) := by
  unfold State.flushFetched
  with_reducible
    refine mvMk ?_; exact Moves.refl

theorem mv_checkFlushes {s : State} : Moves 0x2400002000000000000200000000000000000000004410000000000000000000000000001030c0 s (State.checkFlushes s) := by
  unfold State.checkFlushes
  with_reducible
    apply mvFold; exact Moves.refl; intro u x hu; apply Moves.step (g := mv_finish); assumption; decide +kernel

theorem mv_bufStore {s : State} {old : Option BufUnit} {d : List Byte} : Moves 0x2000002000000000000000000000000000000000000000000f83c8000000000000000000100010 s (State.bufStore s old d).2 := by
  unfold State.bufStore
  with_reducible
    apply mvIteSnd; exact Moves.refl; apply Moves.step (g := mv_galWrite); exact Moves.refl; decide +kernel

theorem mv_bufPut {s : State} {u : Nat} {bytes : Option (List Byte)} {poison keyed : Nat} {group : Option Nat} {writer : Nat} :
    Moves 0x2000002000000000000000000000000000000000000000000f83c8000000000000000000100110 s (State.bufPut s u bytes poison keyed group writer) := by
  unfold State.bufPut
  cases bytes with
  | none =>
    dsimp only
    split
    · exact mvMk Moves.refl
    · exact mvMk Moves.refl
  | some d =>
    have h := (Moves.refl (M := 0x2000002000000000000000000000000000000000000000000f83c8000000000000000000100110) (s := s)).step (mv_bufStore (old := s.buffered u) (d := d)) (by decide +kernel)
    dsimp only
    split
    · exact mvMk h
    · exact mvMk h

theorem mv_bufMerge {s : State} {u off k : Nat} {new : Option (List Byte)} {ecc : NandEcc} {group : Option Nat} {writer : Nat} : Moves 0x2000002000000000000000000000000000000004010000000f83c8000000000000000000302110 s (State.bufMerge s u off k new ecc group writer) := by
  unfold State.bufMerge
  with_reducible
    split; apply Moves.step (g := mv_bufPut); exact Moves.refl; decide +kernel; apply Moves.step (g := mv_bufPut)
    exact Moves.refl; decide +kernel; apply Moves.step (g := mv_bufPut); apply Moves.step (g := mv_readUnit)
    exact Moves.refl; decide +kernel; decide +kernel

theorem mv_bufDrop {s : State} {units : List Nat} : Moves 0x100 s (State.bufDrop s units) := by
  unfold State.bufDrop
  with_reducible
    refine mvMk ?_; exact Moves.refl

theorem mv_commitUnits {s : State} {us : List BufUnit} {puns : Puns} :
    Moves 0x2400002000000000000200000000000000008003d14410000f83c80000000000000000001033d0 s (s.commitUnits us puns).1 := by
  unfold State.commitUnits
  have key : ∀ (l : List BufUnit) (a : Option (State × List (Nat × Option Nat))), (∀ p, a = some p → Moves 0x2400002000000000000200000000000000008003d14410000f83c80000000000000000001033d0 s p.1) →
      ∀ p, l.foldl (fun (a : Option (State × List (Nat × Option Nat))) b =>
        a.bind (fun (t, maps) =>
          match b.content with
          | none => some (t.markPoison b.unit (t.unitPoison b.unit) 0 2, maps ++ [(b.unit, none)])
          | some _ =>
            let (d, mask, t0) := t.bufRead b 15
            (t0.programUnit puns b.unit d mask b.keyed).map (fun (t1, p) =>
              let t2 := t1.markPoison b.unit (t1.unitPoison b.unit) mask 2
              let t3 := { t2 with mag := { t2.mag with hostUnits := t2.mag.hostUnits + 1 } }
              (t3.add64 Reg.MAG_HOST_WR 1, maps ++ [(b.unit, some p)])))) a = some p → Moves 0x2400002000000000000200000000000000008003d14410000f83c80000000000000000001033d0 s p.1 := by
    intro l
    induction l with
    | nil => intro a ha p e; exact ha p e
    | cons b r ih =>
      intro a ha
      apply ih
      intro p e
      cases a with
      | none => cases e
      | some q =>
        have hq := ha q rfl
        simp only [Option.bind_some] at e
        split at e
        · cases e
          exact hq.step mv_markPoison (by decide +kernel)
        · generalize hb : q.1.bufRead b 15 = rb at e
          obtain ⟨d, mask, t0⟩ := rb
          dsimp only at e
          have h0 := hq.step (eqThd mv_bufRead hb) (by decide +kernel : sub _ 0x2400002000000000000200000000000000008003d14410000f83c80000000000000000001033d0 = true)
          cases h : t0.programUnit puns b.unit d mask b.keyed with
          | none => rw [h] at e; cases e
          | some w =>
            rw [h] at e
            cases e
            have h1 := (h0.step (mv_programUnit h) (by decide +kernel)).step
              (mv_markPoison (u := b.unit) (old := w.1.unitPoison b.unit) (mask := mask) (cause := 2)) (by decide +kernel : sub _ 0x2400002000000000000200000000000000008003d14410000f83c80000000000000000001033d0 = true)
            refine mvAdd64 (f := Reg.MAG_HOST_WR) (n := 1) (i := 0) ?_ (by decide +kernel)
            exact mvMk h1
  dsimp only
  split
  · exact Moves.refl
  · rename_i t maps e
    have h := key us (some (s, [])) (fun p e => by cases e; exact Moves.refl) _ e
    exact ((h.step mv_journalMap (by decide +kernel)).step mv_bufDrop (by decide +kernel)).step mv_checkFlushes (by decide +kernel)

theorem mv_commitAllUnits {s : State} : Moves 0x2400002000000000000200000000000000008003d14410000f83c80000000000000000001033d0 s (State.commitAllUnits s) := by
  unfold State.commitAllUnits
  with_reducible
    apply mvFold; exact Moves.refl; intro u x hu; apply mvIte; apply Moves.step (g := mv_commitUnits); assumption
    decide +kernel; assumption

theorem mv_discardBuffer {s : State} {lost : Bool} : Moves 0x2400002000000000000200000000000000000020014410000000000000000000000000001031c0 s (State.discardBuffer s lost) := by
  unfold State.discardBuffer
  with_reducible
    apply Moves.step (g := mv_checkFlushes); apply mvIte; apply mvPut; refine mvMk ?_; exact Moves.refl; decide +kernel
    apply mv_event; apply mvPut; refine mvMk ?_; exact Moves.refl; decide +kernel; decide +kernel; decide +kernel

theorem mv_enter {s : State} {data : Option (List Byte)} {ecc : NandEcc} {writer : Nat} {k : Nat} {l : List (Nat × Nat × Nat)} : Moves 0x2000002000000000000000000000000000000004010000000f83c8000000000000000000302110 s (State.enter s data ecc writer k l).2 := by
  induction l generalizing s data ecc writer k with
  | nil =>
    rw [State.enter]
    exact Moves.refl
  | cons hd tl ih =>
    rw [State.enter]
    with_reducible
      apply mvIteSnd; apply Moves.step (g := ih); apply Moves.step (g := mv_bufMerge); exact Moves.refl; decide +kernel
      decide +kernel; exact Moves.refl

theorem mv_waitSpace {s : State} {tag : Nat} : Moves 0x100 s (State.waitSpace s tag) := by
  unfold State.waitSpace
  with_reducible
    apply mvIte; exact Moves.refl; refine mvMk ?_; exact Moves.refl

theorem mv_entered {s : State} {k : Cmd} {through : Bool} : Moves 0x2400002000000000000200000000000000000000004410000000000000000000000000001031c0 s (State.entered s k through) := by
  unfold State.entered
  with_reducible
    apply mvIte; apply Moves.step (g := mv_setCmd); refine mvMk ?_; exact Moves.refl; decide +kernel
    apply Moves.step (g := mv_finish); refine mvMk ?_; exact Moves.refl; decide +kernel

theorem mv_blockWrite {s : State} {k : Cmd} {discard : Bool} {h : HostRead} {ecc : NandEcc} : Moves 0x3cfff0a000000000000200000000000000000004014410000f83c8000000000000008c003031d0 s (State.blockWrite s k discard h ecc) := by
  unfold State.blockWrite
  with_reducible
    split; apply Moves.step (g := mv_finish); exact Moves.refl; decide +kernel; apply mvIte
    apply Moves.step (g := mv_finish); exact Moves.refl; decide +kernel; apply mvIte; apply Moves.step (g := mv_finish)
    exact Moves.refl; decide +kernel; apply mvIte; exact Moves.refl; apply mvIte; apply Moves.step (g := mv_waitSpace)
    apply Moves.step (g := mv_setCmd); apply Moves.step (g := mv_enter); exact Moves.refl; decide +kernel; decide +kernel
    decide +kernel; apply mvIte; apply Moves.step (g := mv_hostReadFailed); refine mvMk ?_
    apply Moves.step (g := mv_enter); exact Moves.refl; decide +kernel; decide +kernel; apply Moves.step (g := mv_entered)
    apply Moves.step (g := mv_enter); exact Moves.refl; decide +kernel; decide +kernel

theorem mv_atomicWrite {s : State} {k : Cmd} {h : HostRead} {ecc : NandEcc} : Moves 0x3cfff0a000000000000200000000000000000004014410000f83c8000000000000008c003031d0 s (State.atomicWrite s k h ecc) := by
  unfold State.atomicWrite
  with_reducible
    split; apply Moves.step (g := mv_finish); exact Moves.refl; decide +kernel; apply mvIte
    apply Moves.step (g := mv_finish); exact Moves.refl; decide +kernel; apply mvIte; apply Moves.step (g := mv_finish)
    exact Moves.refl; decide +kernel; apply mvIte; exact Moves.refl; split; apply Moves.step (g := mv_hostReadFailed)
    exact Moves.refl; decide +kernel; apply mvIte; apply Moves.step (g := mv_waitSpace); exact Moves.refl; decide +kernel
    apply Moves.step (g := mv_entered); apply mvFoldSnd; exact Moves.refl; intro u x y hu
    apply Moves.step (g := mv_bufMerge); assumption; decide +kernel; decide +kernel

theorem mv_execWrite {c : Nat} {h : HostRead} {ecc : NandEcc} {s : State} : MovesR 0x3cfff0a000000000000200000000000000000004014410000f83c8000000000000008c003031d0 s (execWrite c h s ecc) := by
  unfold execWrite
  with_reducible
    apply mv_onCmd; exact Moves.refl; decide +kernel; intro u x hu; apply Moves.step (g := mv_blockWrite); assumption
    decide +kernel

theorem mv_execDiscard {c : Nat} {ecc : NandEcc} {s : State} : MovesR 0x3cfff0a000000000000200000000000000000004014410000f83c8000000000000008c003031d0 s (execDiscard c s ecc) := by
  unfold execDiscard
  with_reducible
    apply mv_onCmd; exact Moves.refl; decide +kernel; intro u x hu; apply Moves.step (g := mv_blockWrite); assumption
    decide +kernel

theorem mv_execAtomicWrite {c : Nat} {h : HostRead} {ecc : NandEcc} {s : State} : MovesR 0x3cfff0a000000000000200000000000000000004014410000f83c8000000000000008c003031d0 s (execAtomicWrite c h s ecc) := by
  unfold execAtomicWrite
  with_reducible
    apply mv_onCmd; exact Moves.refl; decide +kernel; intro u x hu; apply Moves.step (g := mv_atomicWrite); assumption
    decide +kernel

theorem mv_execWriteBufferSpaceFreed {c : Nat} {h : HostRead} {ecc : NandEcc} {s : State} : MovesR 0x3cfff0a000000000000200000000000000000004014410000f83c8000000000000008c003031d0 s (execWriteBufferSpaceFreed c h s ecc) := by
  unfold execWriteBufferSpaceFreed
  with_reducible
    apply mvIteR; apply mvNext; exact Moves.refl; split; apply mvNext; refine mvMk ?_; exact Moves.refl; apply mv_onCmd
    exact Moves.refl; decide +kernel; intro u x hu; apply mvIte; apply Moves.step (g := mv_atomicWrite); assumption
    decide +kernel; apply Moves.step (g := mv_blockWrite); assumption; decide +kernel

theorem mv_execRead {c : Nat} {ecc : NandEcc} {s : State} : MovesR 0x2400002000000000000200000000000000000004014410000f81c80000000000000040003031c0 s (execRead c ecc s) := by
  unfold execRead
  with_reducible
    apply mv_onCmd; exact Moves.refl; decide +kernel; intro u x hu; split; apply Moves.step (g := mv_finish); assumption
    decide +kernel; apply mvIte; apply Moves.step (g := mv_finish); assumption; decide +kernel; apply mvIte
    apply Moves.step (g := mv_finish); assumption; decide +kernel; apply mvIte; assumption; split; split
    apply Moves.step (g := mv_finish); apply Moves.step (g := mv_deliver)
    apply Moves.step (g := eqThd mv_readRange (by assumption)); assumption; decide +kernel; decide +kernel; decide +kernel
    apply Moves.step (g := mv_finish); apply Moves.step (g := mv_deliver)
    apply Moves.step (g := eqThd mv_readRange (by assumption)); assumption; decide +kernel; decide +kernel; decide +kernel

theorem mv_execFlush {c : Nat} {s : State} : MovesR 0x2400002000000000000200000000000000000000004410000000000000000000000000001030c0 s (execFlush c s) := by
  unfold execFlush
  with_reducible
    apply mv_onCmd; exact Moves.refl; decide +kernel; intro u x hu; split; apply Moves.step (g := mv_finish); assumption
    decide +kernel; apply mvIte; apply Moves.step (g := mv_finish); assumption; decide +kernel; assumption

theorem mv_mediaError {s : State} {us : List BufUnit} : Moves 0x2400002000000000000200000000000000000000004410000000000000000000000000001030c0 s (State.mediaError s us) := by
  unfold State.mediaError
  with_reducible
    apply mvFold; exact Moves.refl; intro u x hu; split; apply Moves.step (g := mv_finish); assumption; decide +kernel
    assumption

theorem mv_execBufferUnitCommit {puns : Puns} {dmg : Damage} {s : State} : MovesR 0x2400002000000000000200000000000000008003d14410000f83c80000000000000000001033d0 s (execBufferUnitCommit puns dmg s) := by
  unfold execBufferUnitCommit
  with_reducible
    apply mvIteR; apply mvNext; exact Moves.refl; apply mvNext; apply mvIte; apply Moves.step (g := mv_commitUnits)
    apply Moves.step (g := mv_strike); exact Moves.refl; decide +kernel; decide +kernel
    apply Moves.step (g := mv_mediaError); apply Moves.step (g := mv_strike); exact Moves.refl; decide +kernel
    decide +kernel

theorem mv_execNandProgramComplete {c : Nat} {s : State} : MovesR 0x2400002000000000000200000000000000000000004410000000000000000000000000001030c0 s (execNandProgramComplete c s) := by
  unfold execNandProgramComplete
  with_reducible
    split; apply mvNext; exact Moves.refl; apply mvIteR; apply mvNext; exact Moves.refl; apply mvNext
    apply Moves.step (g := mv_finish); exact Moves.refl; decide +kernel

end Sys2Proof.Laws
end

