-- ==== Sys2Proof/Laws/MovesMount.lean ====
section
/-!
SUPPORT. What each definition of Machine/Mount.lean can change (Laws/Moves.lean).
-/
set_option Elab.async false

namespace Sys2Proof.Laws
open Sys2Proof.Machine

theorem mv_writeRoot {s : State} : Moves 0x100 s (State.writeRoot s) := by
  unfold State.writeRoot
  with_reducible
    split; exact Moves.refl; refine mvMk ?_; apply Moves.step (g := mv_setNand); exact Moves.refl; decide +kernel

theorem mv_execRootWrite {s : State} : MovesR 0x100 s (execRootWrite s) := by
  unfold execRootWrite
  with_reducible
    apply mvIteR; apply mvNext; apply Moves.step (g := mv_writeRoot); exact Moves.refl; decide +kernel; apply mvNext
    exact Moves.refl

theorem mv_channelsOff {s : State} : Moves 0x4000000000000000000000000000000000080000 s (State.channelsOff s) := by
  unfold State.channelsOff
  with_reducible
    refine mvMk ?_; apply mvFold; exact Moves.refl; intro u x hu; apply mvPut; apply mvPut; assumption; decide +kernel
    decide +kernel

theorem mv_hideCapacity {s : State} : Moves 0xc000000000000000000000000000000000000 s (State.hideCapacity s) := by
  unfold State.hideCapacity
  with_reducible
    apply mvPut64; exact Moves.refl; decide +kernel

theorem mv_execMagazineInserted {m : Module} {s : State} : MovesR 0x1000000000000000000000000000000000100 s (execMagazineInserted m s) := by
  unfold execMagazineInserted
  with_reducible
    apply mvIteR; apply mvNext; exact Moves.refl; apply mvNext; apply mvIte; refine mvMk ?_; exact Moves.refl; apply mvPut
    refine mvMk ?_; exact Moves.refl; decide +kernel

theorem mv_endMagCmds {s : State} {st : Nat} : Moves 0x24000020000000001802000000000000088000000044100000000000000000000000000010b4c0 s (State.endMagCmds s st) := by
  unfold State.endMagCmds
  with_reducible
    apply mvFold; split; apply mvIte; apply Moves.step (g := mv_archiveStop); exact Moves.refl; decide +kernel
    exact Moves.refl; exact Moves.refl; intro u x hu; apply Moves.step (g := mv_finish); assumption; decide +kernel

theorem mv_dropStaged {s : State} : Moves 0x100 s (State.dropStaged s) := by
  unfold State.dropStaged
  with_reducible
    apply mvIte; refine mvMk ?_; exact Moves.refl; exact Moves.refl

theorem mv_execMagazineRemoved {s : State} : MovesR 0x24000020000000001802000000000000088080403f44120000000000000000000040000018b7c0 s (execMagazineRemoved s) := by
  unfold execMagazineRemoved
  with_reducible
    apply mvIteR; apply mvNext; exact Moves.refl; apply mvNext; apply mv_event; apply Moves.step (g := mv_budget)
    apply mvPut; apply mvPut; apply mvPut; apply mvPut; apply mvPut; apply mvPut; apply mvPut
    apply Moves.step (g := mv_hideCapacity); apply Moves.step (g := mv_channelsOff); refine mvMk ?_
    apply Moves.step (g := mv_mapForget); apply Moves.step (g := mv_dropStaged); apply Moves.step (g := mv_endMagCmds)
    split; apply mvPut; exact Moves.refl; decide +kernel; exact Moves.refl; decide +kernel; decide +kernel; decide +kernel
    decide +kernel; decide +kernel; decide +kernel; decide +kernel; decide +kernel; decide +kernel; decide +kernel
    decide +kernel; decide +kernel; decide +kernel; decide +kernel

theorem mv_startChannel {s : State} {rates : List (Nat × Nat)} {c : Nat} : Moves 0x4000000000000000000000000000000000000000 s (State.startChannel s rates c) := by
  unfold State.startChannel
  with_reducible
    apply mvIte; apply mvPut; apply mvPut; exact Moves.refl; decide +kernel; decide +kernel; apply mvPut; apply mvPut
    exact Moves.refl; decide +kernel; decide +kernel

theorem mv_execMountStart {rates : List (Nat × Nat)} {s : State} : MovesR 0x804023000000000000000000000000400000080300 s (execMountStart rates s) := by
  unfold execMountStart
  with_reducible
    split; apply mvNext; exact Moves.refl; apply mvIteR; apply mvNext; exact Moves.refl; apply mvNext
    apply Moves.step (g := mv_budget); apply Moves.step (g := mv_mapForget); apply mvPut; apply mvPut; apply mvPut
    apply mvFold; apply mvPut; refine mvMk ?_; exact Moves.refl; decide +kernel; intro u x hu
    apply Moves.step (g := mv_startChannel); assumption; decide +kernel; decide +kernel; decide +kernel; decide +kernel
    decide +kernel; decide +kernel

theorem mv_retained {s0 : State} : Moves 0x2400002000000000000200000000000000008023d14410000f83c80000000000000000001033d0 s0 (State.retained s0) := by
  unfold State.retained
  with_reducible
    apply mvIte; apply Moves.step (g := mv_dropStaged); exact Moves.refl; decide +kernel; apply mvIte
    apply Moves.step (g := mv_commitAllUnits); apply Moves.step (g := mv_dropStaged); exact Moves.refl; decide +kernel
    decide +kernel; apply Moves.step (g := mv_discardBuffer); apply Moves.step (g := mv_dropStaged); exact Moves.refl
    decide +kernel; decide +kernel

theorem mv_becomeReady {s : State} : Moves 0x20000020000000000000000000000000000000001f000000000000000000000000000000100100 s (State.becomeReady s) := by
  unfold State.becomeReady
  with_reducible
    apply mvIte; apply mvPut; apply Moves.step (g := mv_spareCheck); apply Moves.step (g := mv_slcStart); apply mvPut
    apply mvPut64; apply mvPut; exact Moves.refl; decide +kernel; decide +kernel; decide +kernel; decide +kernel
    decide +kernel; decide +kernel; apply Moves.step (g := mv_spareCheck); apply Moves.step (g := mv_slcStart)
    apply mvPut; apply mvPut64; apply mvPut; exact Moves.refl; decide +kernel; decide +kernel; decide +kernel
    decide +kernel; decide +kernel

theorem mv_execMountComplete {s : State} : MovesR 0x2400002000000000000200000000000000008023df4410000f83c80000000000000000001033d0 s (execMountComplete s) := by
  unfold execMountComplete
  with_reducible
    split; apply mvNext; exact Moves.refl; apply mvIteR; apply mvNext; exact Moves.refl; apply mvIteR; apply mvNext
    apply mvPut; exact Moves.refl; decide +kernel; split; apply mvNext; apply mvPut; exact Moves.refl; decide +kernel
    apply mvIteR; apply mvNext; apply mvPut; exact Moves.refl; decide +kernel; apply mvNext; apply mv_event
    apply Moves.step (g := mv_becomeReady); apply Moves.step (g := mv_writeRoot); apply Moves.step (g := mv_retained)
    apply Moves.step (g := mv_slcStart); apply Moves.step (g := mv_mapForget); refine mvMk ?_; refine mvMk ?_
    apply Moves.step (g := mv_setNand); exact Moves.refl; decide +kernel; decide +kernel; decide +kernel; decide +kernel
    decide +kernel; decide +kernel; decide +kernel

theorem mv_execChannelRetrain {m : ChannelIx} {rate : Nat} {s : State} : MovesR 0x4000000000000000000000000000000000000000 s (execChannelRetrain m rate s) := by
  unfold execChannelRetrain
  with_reducible
    apply mvIteR; apply mvNext; exact Moves.refl; apply mvNext; apply mvPut; exact Moves.refl; decide +kernel

theorem mv_eraseBlock {s : State} {b : Nat} : Moves 0x100 s (State.eraseBlock s b) := by
  unfold State.eraseBlock
  with_reducible
    apply Moves.step (g := mv_setNand); exact Moves.refl; decide +kernel

theorem mv_eraseOrQueue {s : State} {b : Nat} : Moves 0x100 s (State.eraseOrQueue s b) := by
  unfold State.eraseOrQueue
  with_reducible
    apply mvIte; refine mvMk ?_; exact Moves.refl; refine mvMk ?_; apply Moves.step (g := mv_eraseBlock); exact Moves.refl
    decide +kernel

theorem mv_moveUnit {s : State} {moves : Puns} {ecc : NandEcc} {slc : Bool} {avoid : Option Nat} {u : Nat} : Moves 0x2000002000000000000000000000000000008007110000000f83c8000000000000000000302310 s (State.moveUnit s moves ecc slc avoid u) := by
  unfold State.moveUnit
  with_reducible
    split; split; apply Moves.step (g := eqThd mv_readNand (by assumption)); exact Moves.refl; decide +kernel
    apply Moves.step (g := mv_journalMap); apply Moves.step (g := mv_markPoison); apply Moves.step (g := mv_programAt)
    apply Moves.step (g := eqThd mv_readNand (by assumption)); exact Moves.refl; decide +kernel; decide +kernel
    decide +kernel; decide +kernel

theorem mv_moveBlock {s : State} {b : Nat} {moves : Puns} {ecc : NandEcc} : Moves 0x2000002000000000000000000000000000008007110000000f83c8000000000000000000302310 s (State.moveBlock s b moves ecc) := by
  unfold State.moveBlock
  with_reducible
    apply mvFold; exact Moves.refl; intro u x hu; apply Moves.step (g := mv_moveUnit); assumption; decide +kernel

theorem mv_execFold {block : Nat} {moves : Puns} {ecc : NandEcc} {s : State} : MovesR 0x2000002000000000000000000000000000008007110000000f83c8000000000000000000302310 s (execFold block moves ecc s) := by
  unfold execFold
  with_reducible
    apply mvIteR; apply mvNext; exact Moves.refl; apply mvNext; apply mvFold; exact Moves.refl; intro u x hu
    apply Moves.step (g := mv_moveUnit); assumption; decide +kernel

theorem mv_execBlockRefresh {block : Nat} {moves : Puns} {ecc : NandEcc} {s : State} : MovesR 0x200000200000000000000000000000000000800f110000000f83c8000000000000000000302310 s (execBlockRefresh block moves ecc s) := by
  unfold execBlockRefresh
  with_reducible
    apply mvIteR; apply mvNext; exact Moves.refl; apply mvIteR; apply mvNext; apply Moves.step (g := mv_moveBlock)
    exact Moves.refl; decide +kernel; apply mvNext; apply Moves.step (g := mv_eraseOrQueue); apply mvInc; refine mvMk ?_
    apply Moves.step (g := mv_moveBlock); exact Moves.refl; decide +kernel; decide +kernel; decide +kernel

theorem mv_execGarbageCollection {block : Nat} {moves : Puns} {ecc : NandEcc} {s : State} : MovesR 0x2000002000000000000000000000000000008007110000000f83c8000000000000000000302310 s (execGarbageCollection block moves ecc s) := by
  unfold execGarbageCollection
  with_reducible
    apply mvIteR; apply mvNext; exact Moves.refl; apply mvNext; apply Moves.step (g := mv_eraseOrQueue)
    apply Moves.step (g := mv_moveBlock); exact Moves.refl; decide +kernel; decide +kernel

theorem mv_execPatrolRead {u : Nat} {ecc : NandEcc} {s : State} : MovesR 0x200000200000000000000000000000000000000401000000000000000000000000000000302100 s (execPatrolRead u ecc s) := by
  unfold execPatrolRead
  with_reducible
    apply mvIteR; apply mvNext; exact Moves.refl; apply mvNext; apply Moves.step (g := mv_readNand); exact Moves.refl
    decide +kernel

theorem mv_execBackgroundErase {block : Nat} {s : State} : MovesR 0x100 s (execBackgroundErase block s) := by
  unfold execBackgroundErase
  with_reducible
    apply mvIteR; apply mvNext; exact Moves.refl; apply mvNext; apply Moves.step (g := mv_eraseOrQueue); exact Moves.refl
    decide +kernel

theorem mv_relocate {s : State} {moves : Puns} {ecc : NandEcc} {u : Nat} : Moves 0x2400002000000000000200000000000000008007d14410000f83c80000000000000000003033d0 s (State.relocate s moves ecc u) := by
  unfold State.relocate
  with_reducible
    split; apply mvIte; apply Moves.step (g := mv_commitUnits); exact Moves.refl; decide +kernel
    apply Moves.step (g := mv_mediaError); exact Moves.refl; decide +kernel; apply Moves.step (g := mv_moveUnit)
    exact Moves.refl; decide +kernel

theorem mv_execProgramEraseFail {block : Nat} {moves : Puns} {ecc : NandEcc} {s : State} : MovesR 0x2400002000000000000200000000000000008017d14410000f83c80000000000000000003033d0 s (execProgramEraseFail block moves s ecc) := by
  unfold execProgramEraseFail
  with_reducible
    apply mvIteR; apply mvNext; exact Moves.refl; apply mvNext; apply mvFold; apply mvIte
    apply Moves.step (g := mv_spareCheck); apply mv_event; apply mvIte; refine mvMk ?_; apply Moves.step (g := mv_setNand)
    exact Moves.refl; decide +kernel; apply mvInc; refine mvMk ?_; apply Moves.step (g := mv_setNand); exact Moves.refl
    decide +kernel; decide +kernel; decide +kernel; decide +kernel; apply mv_event; apply mvIte; refine mvMk ?_
    apply Moves.step (g := mv_setNand); exact Moves.refl; decide +kernel; apply mvInc; refine mvMk ?_
    apply Moves.step (g := mv_setNand); exact Moves.refl; decide +kernel; decide +kernel; decide +kernel; intro u x hu
    apply Moves.step (g := mv_relocate); assumption; decide +kernel

theorem mv_magEnable {s : State} {b : Bool} : Moves 0x1800000000000000000000000000000000000 s (State.magEnable s b) := by
  unfold State.magEnable
  with_reducible
    apply mv_enableWrite; exact Moves.refl; decide +kernel

theorem mv_execMagDisable {s : State} : MovesR 0x1800000000000000000000000000000000000 s (execMagDisable s) := by
  unfold execMagDisable
  with_reducible
    apply mvNext; apply Moves.step (g := mv_magEnable); exact Moves.refl; decide +kernel

theorem mv_magDrained {s : State} : Moves 0x2400002000000000000200000000000000008003ddc410000f83c80000000000000000001033d0 s (State.magDrained s) := by
  unfold State.magDrained
  with_reducible
    apply mvIte; exact Moves.refl; apply mvIte; exact Moves.refl; apply mv_unitDrained; apply mvIte; apply mvIte
    apply Moves.step (g := mv_dropStaged); apply Moves.step (g := mv_writeRoot); apply Moves.step (g := mv_commitAllUnits)
    exact Moves.refl; decide +kernel; decide +kernel; decide +kernel; exact Moves.refl
    apply Moves.step (g := mv_hideCapacity); apply mvPut; apply mvIte; apply Moves.step (g := mv_dropStaged)
    apply Moves.step (g := mv_writeRoot); apply Moves.step (g := mv_commitAllUnits); exact Moves.refl; decide +kernel
    decide +kernel; decide +kernel; exact Moves.refl; decide +kernel; decide +kernel; decide +kernel

theorem mv_execMagCntClr {s : State} : MovesR 0x3fc0000000000000000000000000000000000100 s (execMagCntClr s) := by
  unfold execMagCntClr
  with_reducible
    apply mvNext; refine mvMk ?_; apply mvZero0; exact Moves.refl; decide +kernel

end Sys2Proof.Laws
end

