-- ==== Sys2Proof/Laws/MovesSrv.lean ====
section
/-!
SUPPORT. What each definition of Machine/Srv.lean can change (Laws/Moves.lean).
-/
set_option Elab.async false

namespace Sys2Proof.Laws
open Sys2Proof.Machine

theorem mv_commitAll {s : State} : Moves 0x800 s (State.commitAll s) := by
  unfold State.commitAll
  with_reducible
    apply mvFold; exact Moves.refl; intro u x hu; apply Moves.step (g := mv_setLoop); assumption; decide +kernel

theorem mv_decodeAux {s : State} {src fmin fmax : Nat} {a : AuxIn} : Moves 0x200000 s (State.decodeAux s src fmin fmax a).2 := by
  unfold State.decodeAux
  split
  · exact Moves.refl
  · exact Moves.refl
  · split
    · exact mvFree Moves.refl (by decide +kernel)
    · exact Moves.refl
  · exact Moves.refl

theorem mv_auxIn {s : State} {a : Option AuxIn} : Moves 0x8000000000000000000000000000000000000000000200000 s (State.auxIn s a) := by
  unfold State.auxIn
  split
  · exact Moves.refl
  · apply mvIte; exact Moves.refl
    split
    · next e => exact mvPut (Moves.refl.step (eqSnd mv_decodeAux e) (by decide +kernel)) (by decide +kernel)
    · exact Moves.refl

theorem mv_satCount {s : State} {l : Nat} {saturated : Bool} : Moves 0x800000000000000000000000000000000000000000000000000 s (State.satCount s l saturated) := by
  unfold State.satCount
  with_reducible
    apply mvIte; apply mvAdd; exact Moves.refl; decide +kernel; apply mvPut; exact Moves.refl; decide +kernel

theorem mv_runSample {s : State} {l : Nat} {x : Int} {v0 : LoopSt} : Moves 0x3000000000000000000000000000000000000000000000000800 s (State.runSample s l x v0) := by
  unfold State.runSample
  with_reducible
    split; split; apply mvPutInt; apply Moves.step (g := mv_setLoop); exact Moves.refl; decide +kernel; decide +kernel
    apply mvPutInt; apply mvPutInt; apply Moves.step (g := mv_setLoop); exact Moves.refl; decide +kernel; decide +kernel
    decide +kernel; split; split; apply mvPutInt; apply Moves.step (g := mv_setLoop); exact Moves.refl; decide +kernel
    decide +kernel; apply mvPutInt; apply mvPutInt; apply Moves.step (g := mv_setLoop); exact Moves.refl; decide +kernel
    decide +kernel; decide +kernel; split; apply mvPutInt; apply Moves.step (g := mv_setLoop); exact Moves.refl
    decide +kernel; decide +kernel; apply mvPutInt; apply mvPutInt; apply Moves.step (g := mv_setLoop); exact Moves.refl
    decide +kernel; decide +kernel; decide +kernel

theorem mv_execLoopSample {l : LoopIx} {i : LoopInput} {s : State} : MovesR 0xb808000000000000000000000000000000000000000000200800 s (execLoopSample l i s) := by
  unfold execLoopSample
  with_reducible
    apply mvIteR; apply mvNext; apply Moves.step (g := mv_setLoop); apply mvPutInt; apply Moves.step (g := mv_auxIn)
    exact Moves.refl; decide +kernel; decide +kernel; decide +kernel; apply mvIteR; apply mvNext
    apply Moves.step (g := mv_setLoop); apply mvIte; apply mvPutInt; apply Moves.step (g := mv_auxIn); exact Moves.refl
    decide +kernel; decide +kernel; apply Moves.step (g := mv_satCount); apply mvPutInt; apply Moves.step (g := mv_auxIn)
    exact Moves.refl; decide +kernel; decide +kernel; decide +kernel; decide +kernel; apply mvNext; apply mvIte
    apply Moves.step (g := mv_runSample); apply mvIte; apply mvPutInt; apply Moves.step (g := mv_auxIn); exact Moves.refl
    decide +kernel; decide +kernel; apply Moves.step (g := mv_satCount); apply mvPutInt; apply Moves.step (g := mv_auxIn)
    exact Moves.refl; decide +kernel; decide +kernel; decide +kernel; decide +kernel; apply Moves.step (g := mv_setLoop)
    apply mvIte; apply mvPutInt; apply Moves.step (g := mv_auxIn); exact Moves.refl; decide +kernel; decide +kernel
    apply Moves.step (g := mv_satCount); apply mvPutInt; apply Moves.step (g := mv_auxIn); exact Moves.refl
    decide +kernel; decide +kernel; decide +kernel; decide +kernel

theorem mv_coilOn {s : State} {l : Nat} : Moves 0x8000000000000000000000000000000000000000000000280000 s (State.coilOn s l) := by
  unfold State.coilOn
  with_reducible
    apply mvIte; exact Moves.refl; apply mvPut; refine mvMk ?_; apply mvFree; exact Moves.refl; decide +kernel
    decide +kernel

theorem mv_execLoopAcquireStart {l : LoopIx} {s : State} : MovesR 0x8800000000000000000000000000000000000000000000280800 s (execLoopAcquireStart l s) := by
  unfold execLoopAcquireStart
  with_reducible
    apply mvIteR; apply mvNext; exact Moves.refl; apply mvNext; apply mvPut; apply Moves.step (g := mv_coilOn)
    apply Moves.step (g := mv_setLoop); refine mvMk ?_; exact Moves.refl; decide +kernel; decide +kernel; decide +kernel

theorem mv_correctSled {s : State} {radius : Int} : Moves 0x80000000000000000000000000000000000000000000000000000000 s (State.correctSled s radius) := by
  unfold State.correctSled
  with_reducible
    apply mvIte; apply mvPutInt; exact Moves.refl; decide +kernel; exact Moves.refl

theorem mv_execLoopLocked {l : LoopIx} {radius : Int} {s : State} : MovesR 0x80000800000000000000000000000000000000000000000000000800 s (execLoopLocked l s radius) := by
  unfold execLoopLocked
  with_reducible
    apply mvIteR; apply mvNext; apply mvIte; apply Moves.step (g := mv_correctSled); apply mvPut
    apply Moves.step (g := mv_setLoop); exact Moves.refl; decide +kernel; decide +kernel; decide +kernel; apply mvPut
    apply Moves.step (g := mv_setLoop); exact Moves.refl; decide +kernel; decide +kernel; apply mvNext; exact Moves.refl

theorem mv_holdLoop {s : State} {l : Nat} : Moves 0x24000020000000001802000000080000488000000044100000000000000000000000000010bcc0 s (State.holdLoop s l) := by
  unfold State.holdLoop
  with_reducible
    apply mvIte; exact Moves.refl; apply mvIte; apply Moves.step (g := mv_servoFault); apply mvPut
    apply Moves.step (g := mv_setLoop); exact Moves.refl; decide +kernel; decide +kernel; decide +kernel; apply mvPut
    apply Moves.step (g := mv_setLoop); exact Moves.refl; decide +kernel; decide +kernel

theorem mv_execLoopHoldEntry {l : LoopIx} {s : State} : MovesR 0x24000020000000001802000000080000488000000044100000000000000000000000000010bcc0 s (execLoopHoldEntry l s) := by
  unfold execLoopHoldEntry
  with_reducible
    apply mvIteR; apply mvNext; apply Moves.step (g := mv_holdLoop); exact Moves.refl; decide +kernel; apply mvNext
    exact Moves.refl

theorem mv_execLoopHoldExit {l : LoopIx} {s : State} : MovesR 0x800000000000000000000000000000000000000000000000000 s (execLoopHoldExit l s) := by
  unfold execLoopHoldExit
  with_reducible
    apply mvIteR; apply mvNext; apply mvPut; exact Moves.refl; decide +kernel; apply mvNext; exact Moves.refl

theorem mv_execLoopHoldTimeout {l : LoopIx} {s : State} : MovesR 0x24000020000000001802000000888200488000000044100000000000000000000000000018bcc0 s (execLoopHoldTimeout l s) := by
  unfold execLoopHoldTimeout
  with_reducible
    apply mvIteR; apply mvNext; apply Moves.step (g := mv_loopFault); exact Moves.refl; decide +kernel; apply mvNext
    exact Moves.refl

theorem mv_execLoopLoss {l : LoopIx} {s : State} : MovesR 0x24000020000000001802000000888200488000000044100000000000000000000000000018bcc0 s (execLoopLoss l s) := by
  unfold execLoopLoss
  with_reducible
    apply mvIteR; apply mvNext; apply Moves.step (g := mv_loopFault); exact Moves.refl; decide +kernel; apply mvNext
    exact Moves.refl

theorem mv_execAcquisitionTimeout {l : LoopIx} {s : State} : MovesR 0x24000020000000001802000000888200488000000044100000000000000000000000000018bcc0 s (execAcquisitionTimeout l s) := by
  unfold execAcquisitionTimeout
  with_reducible
    apply mvIteR; apply mvNext; exact Moves.refl; apply mvIteR; apply mvNext; apply Moves.step (g := mv_setLoop)
    exact Moves.refl; decide +kernel; apply mvNext; apply Moves.step (g := mv_loopFault); exact Moves.refl; decide +kernel

theorem mv_execLoopCommit {l : LoopIx} {s : State} : MovesR 0x800 s (execLoopCommit l s) := by
  unfold execLoopCommit
  with_reducible
    apply mvIteR; apply mvNext; exact Moves.refl; apply mvNext; apply Moves.step (g := mv_setLoop); exact Moves.refl
    decide +kernel

theorem mv_reverse {s : State} {l : Nat} {pos : Bool} : Moves 0x8000000000000000000000000000000000000000000000000800 s (State.reverse s l pos) := by
  unfold State.reverse
  with_reducible
    apply mvPut; apply Moves.step (g := mv_setLoop); exact Moves.refl; decide +kernel; decide +kernel

theorem mv_execCoilReversal {l : LoopIx} {pos : Bool} {s : State} : MovesR 0x8000000000000000000000000000000000000000000000000800 s (execCoilReversal l pos s) := by
  unfold execCoilReversal
  with_reducible
    apply mvIteR; apply mvNext; exact Moves.refl; apply mvIteR; apply mvNext; apply Moves.step (g := mv_setLoop)
    exact Moves.refl; decide +kernel; apply mvNext; apply Moves.step (g := mv_reverse); exact Moves.refl; decide +kernel

theorem mv_execCoilDwellExpiry {l : LoopIx} {s : State} : MovesR 0x8000000000000000000000000000000000000000000000000800 s (execCoilDwellExpiry l s) := by
  unfold execCoilDwellExpiry
  with_reducible
    split; dsimp only; split; apply mvNext; apply Moves.step (g := mv_setLoop); exact Moves.refl; decide +kernel
    apply mvNext; apply Moves.step (g := mv_setLoop); exact Moves.refl; decide +kernel; dsimp only; split; apply mvNext
    apply Moves.step (g := mv_reverse); apply Moves.step (g := mv_setLoop); exact Moves.refl; decide +kernel
    decide +kernel; apply mvNext; apply Moves.step (g := mv_setLoop); exact Moves.refl; decide +kernel

theorem mv_execCoilCfgWrite {l : LoopIx} {v : Word} {s : State} : MovesR 0x200000200000000000000000004002000000000000000000000000000000000000000000100000 s (execCoilCfgWrite l v s) := by
  unfold execCoilCfgWrite
  with_reducible
    apply mvIteR; apply mvNext; exact Moves.refl; apply mvIteR; apply mvNext; apply mvWriteAt; exact Moves.refl
    decide +kernel; apply mvNext; apply mvIte; exact Moves.refl; apply mv_event; exact Moves.refl; decide +kernel

theorem mv_startJump {s : State} {down : Bool} {target fails : Nat} : Moves 0x240000200060000018020000002800004880000000441000000c000000000c000000000010fcd0 s (State.startJump s down target fails) := by
  unfold State.startJump
  with_reducible
    apply mvPutInt; refine mvMk ?_; apply mvFold; exact Moves.refl; intro u x hu; apply Moves.step (g := mv_holdLoop)
    assumption; decide +kernel; decide +kernel

theorem mv_execLayerJumpStart {down : Bool} {s : State} : MovesR 0x240000200060000018020000002800004880000000441000000c000000000c000000000010fcd0 s (execLayerJumpStart down s) := by
  unfold execLayerJumpStart
  with_reducible
    apply mvIteR; apply mvNext; exact Moves.refl; apply mvNext; apply Moves.step (g := mv_startJump); exact Moves.refl
    decide +kernel

theorem mv_jumpStep {s : State} {j : Jump} {step : JumpStep} {out : Int} : Moves 0x60000000000000002000000000000000000000000c000000000c0000000000004810 s (State.jumpStep s j step out) := by
  unfold State.jumpStep
  with_reducible
    apply mvPutInt; refine mvMk ?_; exact Moves.refl; decide +kernel

theorem mv_execJumpKickEnd {s : State} : MovesR 0x60000000000000002000000000000000000000000c000000000c0000000000004810 s (execJumpKickEnd s) := by
  unfold execJumpKickEnd
  with_reducible
    split; apply mvIteR; apply mvNext; apply Moves.step (g := mv_jumpStep); exact Moves.refl; decide +kernel; apply mvNext
    exact Moves.refl; apply mvNext; exact Moves.refl

theorem mv_execJumpScurvePeak {s : State} : MovesR 0x60000000000000002000000000000000000000000c000000000c0000000000004810 s (execJumpScurvePeak s) := by
  unfold execJumpScurvePeak
  with_reducible
    split; apply mvIteR; apply mvNext; apply Moves.step (g := mv_jumpStep); exact Moves.refl; decide +kernel; apply mvNext
    exact Moves.refl; apply mvNext; exact Moves.refl

theorem mv_execJumpBrakeEnd {s : State} : MovesR 0x60000000000000002800000000000000000000000c000000000c0000000000004810 s (execJumpBrakeEnd s) := by
  unfold execJumpBrakeEnd
  with_reducible
    split; apply mvIteR; apply mvNext; apply mvPut; apply Moves.step (g := mv_setLoop)
    apply Moves.step (g := mv_jumpStep); exact Moves.refl; decide +kernel; decide +kernel; decide +kernel; apply mvNext
    exact Moves.refl; apply mvNext; exact Moves.refl

theorem mv_execJumpComplete {layer : Nat} {s : State} : MovesR 0x10000000000000000000000000000000000000000000000800 s (execJumpComplete layer s) := by
  unfold execJumpComplete
  with_reducible
    split; apply mvIteR; apply mvNext; apply mvInc; refine mvMk ?_; exact Moves.refl; decide +kernel; apply mvNext
    exact Moves.refl; apply mvNext; exact Moves.refl

theorem mv_execJumpTimeout {layer : Nat} {s : State} : MovesR 0x24000020006000001802000000a8a2004880000000441000000c000000000c000000000018fcd0 s (execJumpTimeout layer s) := by
  unfold execJumpTimeout
  with_reducible
    split; apply mvIteR; apply mvNext; apply Moves.step (g := mv_loopFault); refine mvMk ?_; apply mv_event; apply mvInc
    exact Moves.refl; decide +kernel; decide +kernel; decide +kernel; apply mvIteR; apply mvNext; refine mvMk ?_
    refine mvMk ?_; apply mv_event; apply mvInc; exact Moves.refl; decide +kernel; decide +kernel; apply mvNext
    apply Moves.step (g := mv_startJump); refine mvMk ?_; apply mv_event; apply mvInc; exact Moves.refl; decide +kernel
    decide +kernel; decide +kernel; apply mvNext; exact Moves.refl

theorem mv_execFfBankSwap {t : Fin 6} {s : State} : MovesR 0x800 s (execFfBankSwap t s) := by
  unfold execFfBankSwap
  with_reducible
    apply mvIteR; apply mvNext; exact Moves.refl; apply mvNext; refine mvMk ?_; exact Moves.refl

theorem mv_execFfSwapApply {t : Fin 6} {s : State} : MovesR 0x10000000000000000000000000000000000000000000000000800 s (execFfSwapApply t s) := by
  unfold execFfSwapApply
  with_reducible
    apply mvIteR; apply mvNext; apply mvSetFlag; refine mvMk ?_; exact Moves.refl; decide +kernel; apply mvNext
    exact Moves.refl

theorem mv_showWinner {s : State} {gs : List Nat} {target : Nat} : Moves 0x400000000000000000000000000000000000000000000000000 s (State.showWinner s gs target) := by
  unfold State.showWinner
  with_reducible
    apply mvPut; exact Moves.refl; decide +kernel

theorem mv_execGovernorUpdate {vbus ibus : Nat} {s : State} : MovesR 0x200000200000000000000000000402000000000000000000000000000000000000000000100000 s (execGovernorUpdate vbus ibus s) := by
  unfold execGovernorUpdate
  with_reducible
    apply mvIteR; apply mvNext; exact Moves.refl; apply mvNext; apply Moves.step (g := mv_showWinner); apply mvIte
    apply mvIte; apply mv_event; apply mvPut; apply mvPut; exact Moves.refl; decide +kernel; decide +kernel
    decide +kernel; apply mvPut; apply mvPut; exact Moves.refl; decide +kernel; decide +kernel; apply mvPut
    exact Moves.refl; decide +kernel; decide +kernel

theorem mv_execGovernorRise {s : State} : MovesR 0x400000000000000000000000000000000000000000000000000 s (execGovernorRise s) := by
  unfold execGovernorRise
  with_reducible
    apply mvIteR; apply mvNext; apply mvIte; apply mvPut; apply mvPut; exact Moves.refl; decide +kernel; decide +kernel
    apply mvPut; exact Moves.refl; decide +kernel; apply mvNext; exact Moves.refl

theorem mv_execGovernorThresholdWrite {ibus : Bool} {v : Word} {s : State} : MovesR 0x300000000000000000000000000000000000000000000000000 s (execGovernorThresholdWrite ibus v s) := by
  unfold execGovernorThresholdWrite
  with_reducible
    apply mvIteR; apply mvNext; exact Moves.refl; apply mvNext; apply mvWr0; exact Moves.refl; split; decide +kernel
    decide +kernel

theorem mv_openLoop {s : State} {l : Nat} : Moves 0x24000020000000001802000000888200488000000044100000000000000000000000000018bcc0 s (State.openLoop s l) := by
  unfold State.openLoop
  with_reducible
    apply mvIte; exact Moves.refl; apply Moves.step (g := mv_loopFault); exact Moves.refl; decide +kernel

theorem mv_execSaturationFault {l : LoopIx} {s : State} : MovesR 0x2400002000000000180203000088c200488000000044100000000000000000000000000018bcc0 s (execSaturationFault l s) := by
  unfold execSaturationFault
  with_reducible
    apply mvIteR; apply mvNext; exact Moves.refl; apply mvNext; split; apply Moves.step (g := mv_servoFault); apply mvPut
    apply mv_event; apply mvInc; exact Moves.refl; decide +kernel; decide +kernel; decide +kernel; decide +kernel
    apply mvIte; apply Moves.step (g := mv_parkSled); apply mvFold; apply Moves.step (g := mv_servoFault); apply mvPut
    apply mv_event; apply mvInc; exact Moves.refl; decide +kernel; decide +kernel; decide +kernel; decide +kernel
    intro u x hu; apply Moves.step (g := mv_openLoop); assumption; decide +kernel; decide +kernel
    apply Moves.step (g := mv_openLoop); apply Moves.step (g := mv_servoFault); apply mvPut; apply mv_event; apply mvInc
    exact Moves.refl; decide +kernel; decide +kernel; decide +kernel; decide +kernel; decide +kernel
    apply Moves.step (g := mv_openLoop); apply Moves.step (g := mv_servoFault); apply mvPut; apply mv_event; apply mvInc
    exact Moves.refl; decide +kernel; decide +kernel; decide +kernel; decide +kernel; decide +kernel

theorem mv_execServiceModeEnable {v : Word} {s : State} : MovesR 0x200000200000000000000000000006000000000000000000000000000000000000000000100800 s (execServiceModeEnable v s) := by
  unfold execServiceModeEnable
  with_reducible
    apply mvIteR; apply mvNext; exact Moves.refl; apply mvIteR; apply mvNext; apply mv_event; apply mvWriteExcept0
    exact Moves.refl; decide +kernel; decide +kernel; apply mvNext; apply mvIte; refine mvMk ?_; apply mvWrite0
    exact Moves.refl; decide +kernel; apply mvWrite0; exact Moves.refl; decide +kernel

theorem mv_srvEnable {s : State} {b : Bool} : Moves 0x24000020000000001802000000880300088000000044100000000000000000000000000018bcc0 s (State.srvEnable s b) := by
  unfold State.srvEnable
  with_reducible
    apply mv_enableWrite; apply mvIte; apply Moves.step (g := mv_loopsOff); apply Moves.step (g := mv_archiveStop)
    exact Moves.refl; decide +kernel; decide +kernel; exact Moves.refl; decide +kernel

theorem mv_execSrvDisable {s : State} : MovesR 0x24000020000000001802000000880300088000000044100000000000000000000000000018bcc0 s (execSrvDisable s) := by
  unfold execSrvDisable
  with_reducible
    apply mvIteR; apply mvNext; apply Moves.step (g := mv_srvEnable); exact Moves.refl; decide +kernel; apply mvNext
    exact Moves.refl

theorem mv_execSrvCntClr {s : State} : MovesR 0xf0000000000000000000000000000000000000000000000000 s (execSrvCntClr s) := by
  unfold execSrvCntClr
  with_reducible
    apply mvIteR; apply mvNext; exact Moves.refl; apply mvNext; apply mvPut; apply mvPut; apply mvPut; apply mvPut
    exact Moves.refl; decide +kernel; decide +kernel; decide +kernel; decide +kernel

end Sys2Proof.Laws
end

