-- ==== Sys2Proof/Laws/MovesMot.lean ====
section
/-!
SUPPORT. What each definition of Machine/Mot.lean can change (Laws/Moves.lean).
-/
set_option Elab.async false

namespace Sys2Proof.Laws
open Sys2Proof.Machine

theorem mv_motRej {s : State} : Moves 0x200000200000000000000000040000000000000000000000000000000000000000000000100000 s (State.motRej s) := by
  unfold State.motRej
  with_reducible
    apply mv_event; exact Moves.refl; decide +kernel

theorem mv_spinUp {s : State} {z : Nat} : Moves 0x300000000000000000000000000000000000000000000000081000 s (State.spinUp s z) := by
  unfold State.spinUp
  with_reducible
    refine mvMk ?_; apply Moves.step (g := mv_bridgesOn); apply mvPut; apply mvPut; exact Moves.refl; decide +kernel
    decide +kernel; decide +kernel

theorem mv_spindleStart {s : State} {z : Nat} : Moves 0x200000200000000000000000340000000000000000000000000000000000000000000000181000 s (State.spindleStart s z) := by
  unfold State.spindleStart
  with_reducible
    apply mvIte; exact Moves.refl; apply mvIte; refine mvMk ?_; exact Moves.refl; apply mvIte; exact Moves.refl
    apply mvIte; apply mv_event; exact Moves.refl; decide +kernel; apply Moves.step (g := mv_spinUp); exact Moves.refl
    decide +kernel

theorem mv_execSpindleStart {zone : Fin 32} {s : State} : MovesR 0x200000200000000000000000340000000000000000000000000000000000000000000000181000 s (execSpindleStart zone s) := by
  unfold execSpindleStart
  with_reducible
    apply mvNext; apply Moves.step (g := mv_spindleStart); exact Moves.refl; decide +kernel

theorem mv_execSpindleFreqLock {s : State} : MovesR 0x100000000000100000000100000000000000000000000000000000000000000000 s (execSpindleFreqLock s) := by
  unfold execSpindleFreqLock
  with_reducible
    apply mvIteR; apply mvNext; exact Moves.refl; apply mvIteR; apply mvNext; apply mvPut; exact Moves.refl
    decide +kernel; apply mvNext; apply mvSetFlag; apply mvPut; apply mvPut; apply mvPut; exact Moves.refl; decide +kernel
    decide +kernel; decide +kernel; decide +kernel

theorem mv_execSpindlePhaseAcquire {s : State} : MovesR 0x100000000000000000000000000000000000000000000000001000 s (execSpindlePhaseAcquire s) := by
  unfold execSpindlePhaseAcquire
  with_reducible
    apply mvIteR; apply mvNext; apply mvPut; refine mvMk ?_; exact Moves.refl; decide +kernel; apply mvNext
    exact Moves.refl

theorem mv_execSpindlePhaseLock {s : State} : MovesR 0x100000000000000000000000000000000000000000000000000000 s (execSpindlePhaseLock s) := by
  unfold execSpindlePhaseLock
  with_reducible
    apply mvIteR; apply mvNext; apply mvPut; exact Moves.refl; decide +kernel; apply mvNext; exact Moves.refl

theorem mv_execSpindlePhaseLoss {s : State} : MovesR 0x200000200000000000000020140000000000000000000000000000000000000000000000100000 s (execSpindlePhaseLoss s) := by
  unfold execSpindlePhaseLoss
  with_reducible
    apply mvIteR; apply mvNext; apply mv_event; apply mvInc; apply mvPut; exact Moves.refl; decide +kernel; decide +kernel
    decide +kernel; apply mvNext; exact Moves.refl

theorem mv_execSpindleZoneChange {zone : Fin 32} {s : State} : MovesR 0x300000000000000000000000000000000000000000000000081000 s (execSpindleZoneChange zone s) := by
  unfold execSpindleZoneChange
  with_reducible
    apply mvIteR; apply mvNext; apply Moves.step (g := mv_spinUp); exact Moves.refl; decide +kernel; apply mvNext
    exact Moves.refl

theorem mv_execSpindleBrakeRegen {s : State} : MovesR 0x300000000000000000000000000000000000000000000000000000 s (execSpindleBrakeRegen s) := by
  unfold execSpindleBrakeRegen
  with_reducible
    apply mvNext; apply Moves.step (g := mv_spindleBrake); exact Moves.refl; decide +kernel

theorem mv_execSpindleBrakeShort {speed : Nat} {s : State} : MovesR 0x100000000000000000000000000000000000000000000000000000 s (execSpindleBrakeShort speed s) := by
  unfold execSpindleBrakeShort
  with_reducible
    apply mvIteR; apply mvNext; apply mvPut; apply mvPut; exact Moves.refl; decide +kernel; decide +kernel; apply mvNext
    exact Moves.refl

theorem mv_execSpindleStopped {s : State} : MovesR 0x100000000000000000000000000000000000000000000000081000 s (execSpindleStopped s) := by
  unfold execSpindleStopped
  with_reducible
    apply mvIteR; apply mvNext; apply mvPut; refine mvMk ?_; apply Moves.step (g := mv_spindleOff); exact Moves.refl
    decide +kernel; decide +kernel; apply mvNext; exact Moves.refl

theorem mv_execSpindleServiceEnable {q : Requester} {v : Word} {s : State} : MovesR 0x3cfff0a00000000000000000b40000000000000000000000000000000000000000000000381000 s (execSpindleServiceEnable q v s) := by
  unfold execSpindleServiceEnable
  with_reducible
    apply mvIteR; apply mvNext; apply Moves.step (g := mv_barAnswer); exact Moves.refl; decide +kernel; apply mvIteR
    apply mvNext; exact Moves.refl; apply mvIteR; apply mvNext; apply mvWrite0; exact Moves.refl; decide +kernel
    apply mvIteR; apply mvNext; apply Moves.step (g := mv_motRej); apply mvWriteExcept0; exact Moves.refl; decide +kernel
    decide +kernel; apply mvIteR; apply mvIteR; apply mvNext; apply mvWrite0; exact Moves.refl; decide +kernel
    apply mvIteR; apply mvNext; apply mv_event; apply mvWriteExcept0; exact Moves.refl; decide +kernel; decide +kernel
    apply mvNext; refine mvMk ?_; apply Moves.step (g := mv_bridgesOn); apply mvPut; apply mvWrite0; exact Moves.refl
    decide +kernel; decide +kernel; decide +kernel; apply mvIteR; apply mvNext; apply mvWrite0; exact Moves.refl
    decide +kernel; split; apply mvNext; apply Moves.step (g := mv_spinUp); apply mvWrite0; exact Moves.refl
    decide +kernel; decide +kernel; apply mvNext; apply Moves.step (g := mv_spindleBrake); apply mvWrite0
    exact Moves.refl; decide +kernel; decide +kernel

theorem mv_execServiceInputLost {spindle : Bool} {s : State} : MovesR 0x200000200000000000000000040002000000000000000000000000000000000000000000101800 s (execServiceInputLost spindle s) := by
  unfold execServiceInputLost
  with_reducible
    apply mvIteR; apply mvIteR; apply mvNext; apply mv_event; refine mvMk ?_; exact Moves.refl; decide +kernel
    apply mvNext; exact Moves.refl; apply mvIteR; apply mvNext; apply mv_event; refine mvMk ?_; exact Moves.refl
    decide +kernel; apply mvNext; exact Moves.refl

theorem mv_execServiceInputReturn {spindle : Bool} {n : Nat} {s : State} : MovesR 0x1200008000000000000000000000000000000000000000000001800 s (execServiceInputReturn spindle n s) := by
  unfold execServiceInputReturn
  with_reducible
    apply mvIteR; apply mvIteR; apply mvNext; exact Moves.refl; apply mvNext; apply mvPut; apply mvPut; refine mvMk ?_
    exact Moves.refl; decide +kernel; decide +kernel; apply mvIteR; apply mvNext; exact Moves.refl; apply mvNext
    apply mvPut; refine mvMk ?_; exact Moves.refl; decide +kernel

theorem mv_execCurrentPredictionLimit {s : State} : MovesR 0x200000200000000000000000040000000000000000000000000000000000000000000000101000 s (execCurrentPredictionLimit s) := by
  unfold execCurrentPredictionLimit
  with_reducible
    apply mvIteR; apply mvNext; exact Moves.refl; apply mvNext; apply mv_event; refine mvMk ?_; exact Moves.refl
    decide +kernel

theorem mv_execKineticEnergyUpdate {speed : Nat} {s : State} : MovesR 0x2100000000000000020000000000000000000000000400000000000 s (execKineticEnergyUpdate speed s) := by
  unfold execKineticEnergyUpdate
  with_reducible
    apply mvIteR; apply mvNext; exact Moves.refl; apply mvNext; apply Moves.step (g := mv_budget); apply mvPut
    apply mvPut; exact Moves.refl; decide +kernel; decide +kernel; decide +kernel

theorem mv_pulses {s : State} {treq : List (Nat × Int)} : Moves 0x10000000000000000000000000000000000000000000000000001000 s (State.pulses s treq) := by
  unfold State.pulses
  with_reducible
    apply mvFold; exact Moves.refl; intro u x hu; split; assumption; apply mvIte; apply mvInc; refine mvMk ?_; assumption
    decide +kernel; refine mvMk ?_; assumption

theorem mv_sampleSpindle {s : State} : Moves 0xc000000000000000000000000000000000000000000000000001000 s (State.sampleSpindle s) := by
  unfold State.sampleSpindle
  with_reducible
    apply mvIte; exact Moves.refl; split; refine mvMk ?_; exact Moves.refl; apply mvInc; refine mvMk ?_; exact Moves.refl
    decide +kernel; apply mvInc; refine mvMk ?_; exact Moves.refl; decide +kernel

theorem mv_range {s : State} {e : Nat × Nat} : Moves 0x1000 s (State.range s e) := by
  unfold State.range
  with_reducible
    refine mvMk ?_; exact Moves.refl

theorem mv_showRange {s : State} : Moves 0x100000000000000000000000000000000000000000000000000000 s (State.showRange s) := by
  unfold State.showRange
  with_reducible
    apply mvPut; exact Moves.refl; decide +kernel

theorem mv_weaken {s : State} {vmag : Nat} : Moves 0x1000 s (State.weaken s vmag) := by
  unfold State.weaken
  with_reducible
    refine mvMk ?_; exact Moves.refl

theorem mv_axisAt {s : State} {e : Nat × Int × Nat} : Moves 0x280000000000000000000000000000000000000000000000000001000 s (State.axisAt s e) := by
  unfold State.axisAt
  with_reducible
    apply mvIte; exact Moves.refl; apply mvIte; apply Moves.step (g := mv_setAxis); apply mvPut; apply mvPutInt
    exact Moves.refl; decide +kernel; decide +kernel; decide +kernel; apply mvPut; apply mvPutInt; exact Moves.refl
    decide +kernel; decide +kernel

theorem mv_regulate {s : State} {rotor : BitVec 32} : Moves 0x1000 s (State.regulate s rotor) := by
  unfold State.regulate
  with_reducible
    apply mvFold; exact Moves.refl; intro u x hu; apply Moves.step (g := mv_setAxis); assumption; decide +kernel

theorem mv_regenLimit {s : State} : Moves 0x40000000000000000000000000000000000000000000000000001000 s (State.regenLimit s) := by
  unfold State.regenLimit
  with_reducible
    refine mvMk ?_; apply mvIte; apply mvInc; exact Moves.refl; decide +kernel; exact Moves.refl

theorem mv_spindleRef {s : State} {a : Option AuxIn} : Moves 0x1200000000000000000000000000000000000000000000000200000 s (State.spindleRef s a) := by
  unfold State.spindleRef
  with_reducible
    split; exact Moves.refl; apply mvIte; exact Moves.refl; split; apply mvPut; apply mvPut
    apply Moves.step (g := eqSnd mv_decodeAux (by assumption)); exact Moves.refl; decide +kernel; decide +kernel
    decide +kernel; exact Moves.refl

theorem mv_speedReference {s : State} : Moves 0x60000000000000000000000000000000000000000c000000000c0000000000005010 s (State.speedReference s) := by
  unfold State.speedReference
  with_reducible
    apply mvIte; refine mvMk ?_; exact Moves.refl; refine mvMk ?_; refine mvMk ?_; exact Moves.refl

theorem mv_execPwmPeriod {i : PwmInput} {s : State} : MovesR 0x600000000002dd300000000000000000000000000c000000000c0000000000205010 s (execPwmPeriod i s) := by
  unfold execPwmPeriod
  with_reducible
    apply mvNext; apply Moves.step (g := mv_speedReference); apply Moves.step (g := mv_spindleRef)
    apply Moves.step (g := mv_regenLimit); apply Moves.step (g := mv_regulate); apply mvFold; refine mvMk ?_; apply mvIte
    apply Moves.step (g := mv_weaken); apply Moves.step (g := mv_showRange); apply mvFold
    apply Moves.step (g := mv_sampleSpindle); apply Moves.step (g := mv_pulses); refine mvMk ?_; exact Moves.refl
    decide +kernel; decide +kernel; intro u x hu; apply Moves.step (g := mv_range); assumption; decide +kernel
    decide +kernel; decide +kernel; apply Moves.step (g := mv_showRange); apply mvFold
    apply Moves.step (g := mv_sampleSpindle); apply Moves.step (g := mv_pulses); refine mvMk ?_; exact Moves.refl
    decide +kernel; decide +kernel; intro u x hu; apply Moves.step (g := mv_range); assumption; decide +kernel
    decide +kernel; intro u x hu; apply Moves.step (g := mv_axisAt); assumption; decide +kernel; decide +kernel
    decide +kernel; decide +kernel; decide +kernel

theorem mv_tryMove {M : Nat} {rS : State} {s : State} {q : Requester} {a : Nat} {needsPos : Bool} {move : State → State} (hS : Moves M rS s)
    (hs : sub 0x200000200000000000000000040000000000000000000000000000000000000000000000100000 M = true) (hf0 : ∀ u, Moves M rS u → Moves M rS (move u)) : Moves M rS (State.tryMove s q a needsPos move) := by
  unfold State.tryMove
  with_reducible
    apply mvIte; exact hS; apply mvIte; apply Moves.step (g := mv_motRej); exact hS; assumption; apply mvIte; exact hS
    apply mvIte; apply mv_event; exact hS
    exact Bool.and_eq_true_iff.mpr ⟨covers_mono (a := 0x200000200000000000000000040000000000000000000000000000000000000000000000100000) (by decide +kernel) hs, sub_trans (b := 0x200000200000000000000000040000000000000000000000000000000000000000000000100000) (by decide +kernel) hs⟩
    apply hf0; exact hS

theorem mv_execSeek {q : Requester} {a : AxisIx} {s : State} : MovesR 0x3cfff0a00000000000000300040000000000000000000000000000000000000000000000381000 s (execSeek q a s) := by
  unfold execSeek
  with_reducible
    apply mvIteR; apply mvNext; apply Moves.step (g := mv_barAnswer); exact Moves.refl; decide +kernel; apply mvNext
    apply mv_tryMove; exact Moves.refl; decide +kernel; intro u hu; apply Moves.step (g := mv_startMove); assumption
    decide +kernel

theorem mv_execSweep {q : Requester} {a : AxisIx} {s : State} : MovesR 0x3cfff0a00000000000000300040000000000000000000000000000000000000000000000381000 s (execSweep q a s) := by
  unfold execSweep
  with_reducible
    apply mvIteR; apply mvNext; apply Moves.step (g := mv_barAnswer); exact Moves.refl; decide +kernel; apply mvNext
    apply mv_tryMove; exact Moves.refl; decide +kernel; intro u hu; apply Moves.step (g := mv_startMove); assumption
    decide +kernel

theorem mv_execAxisStop {q : Requester} {a : AxisIx} {s : State} : MovesR 0x3cfff0a00000000000000200040000000000000000000000000000000000000000000000300000 s (execAxisStop q a s) := by
  unfold execAxisStop
  with_reducible
    apply mvIteR; apply mvNext; apply Moves.step (g := mv_barAnswer); exact Moves.refl; decide +kernel; apply mvIteR
    apply mvNext; exact Moves.refl; apply mvIteR; apply mvNext; apply Moves.step (g := mv_motRej); exact Moves.refl
    decide +kernel; apply mvNext; apply Moves.step (g := mv_stopMove); exact Moves.refl; decide +kernel

theorem mv_execAxisResume {q : Requester} {a : AxisIx} {s : State} : MovesR 0x3cfff0a00000000000000300040000000000000000000000000000000000000000000000381000 s (execAxisResume q a s) := by
  unfold execAxisResume
  with_reducible
    apply mvIteR; apply mvNext; apply Moves.step (g := mv_barAnswer); exact Moves.refl; decide +kernel; apply mvIteR
    apply mvNext; exact Moves.refl; dsimp only; split; apply mvIteR; apply mvNext; apply Moves.step (g := mv_motRej)
    exact Moves.refl; decide +kernel; apply mvNext; apply mv_tryMove; exact Moves.refl; decide +kernel; intro u hu
    apply Moves.step (g := mv_startMove); assumption; decide +kernel; apply mvNext; apply Moves.step (g := mv_motRej)
    exact Moves.refl; decide +kernel

theorem mv_startHome {s : State} {a : Nat} : Moves 0x300000000000000000000000000000000000000000000000000081000 s (State.startHome s a) := by
  unfold State.startHome
  with_reducible
    apply Moves.step (g := mv_startMove); apply Moves.step (g := mv_setAxis); exact Moves.refl; decide +kernel
    decide +kernel

theorem mv_execHome {q : Requester} {a : AxisIx} {s : State} : MovesR 0x3cfff0a00000000000000300040000000000000000000000000000000000000000000000381000 s (execHome q a s) := by
  unfold execHome
  with_reducible
    apply mvIteR; apply mvNext; apply Moves.step (g := mv_barAnswer); exact Moves.refl; decide +kernel; apply mvNext
    apply mv_tryMove; exact Moves.refl; decide +kernel; intro u hu; apply Moves.step (g := mv_startHome); assumption
    decide +kernel

theorem mv_execPark {q : Requester} {a : AxisIx} {s : State} : MovesR 0x3cfff0a00000000000000300040000000000000000000000000000000000000000000000381000 s (execPark q a s) := by
  unfold execPark
  with_reducible
    apply mvIteR; apply mvNext; apply Moves.step (g := mv_barAnswer); exact Moves.refl; decide +kernel; apply mvIteR
    apply mvNext; exact Moves.refl; apply mvNext; apply mv_tryMove; exact Moves.refl; decide +kernel; intro u hu
    apply Moves.step (g := mv_startMove); assumption; decide +kernel

theorem mv_standAt {s : State} {a : Nat} {pos : Int} : Moves 0x280000000000000000000000000000000000000000000000000000000 s (State.standAt s a pos) := by
  unfold State.standAt
  with_reducible
    apply mvPut; apply mvPut; apply mvSetFlag; apply mvPut; apply mvPutInt; exact Moves.refl; decide +kernel
    decide +kernel; decide +kernel; decide +kernel; decide +kernel

theorem mv_execAxisMoveComplete {a : AxisIx} {pos : Int} {s : State} : MovesR 0x380000000000000000000000000000000000000000000000000001000 s (execAxisMoveComplete a pos s) := by
  unfold execAxisMoveComplete
  with_reducible
    apply mvIteR; apply mvNext; exact Moves.refl; split; apply mvIteR; apply mvNext; apply mvPut
    apply Moves.step (g := mv_setAxis); exact Moves.refl; decide +kernel; decide +kernel; apply mvNext; exact Moves.refl
    apply mvNext; exact Moves.refl; apply mvNext; apply Moves.step (g := mv_setAxis); apply mvPutInt
    apply Moves.step (g := mv_standAt); exact Moves.refl; decide +kernel; decide +kernel; decide +kernel; apply mvNext
    apply Moves.step (g := mv_standAt); exact Moves.refl; decide +kernel; apply mvNext; apply Moves.step (g := mv_standAt)
    exact Moves.refl; decide +kernel

theorem mv_execAxisStandstill {a : AxisIx} {s : State} : MovesR 0x1000 s (execAxisStandstill a s) := by
  unfold execAxisStandstill
  with_reducible
    apply mvIteR; apply mvNext; exact Moves.refl; apply mvNext; apply Moves.step (g := mv_setAxis); exact Moves.refl
    decide +kernel

theorem mv_execHomeSwitchEdge {a : AxisIx} {asserted : Bool} {s : State} : MovesR 0x280000000000000000000000000000000000000000000000000001000 s (execHomeSwitchEdge a asserted s) := by
  unfold execHomeSwitchEdge
  with_reducible
    apply mvIteR; apply mvNext; apply Moves.step (g := mv_setAxis); exact Moves.refl; decide +kernel; split; apply mvNext
    apply mvPut; apply Moves.step (g := mv_setAxis); exact Moves.refl; decide +kernel; decide +kernel; apply mvNext
    apply Moves.step (g := mv_setAxis); apply Moves.step (g := mv_setAxis); exact Moves.refl; decide +kernel
    decide +kernel; apply mvNext; apply mvPut; apply mvSetFlag; apply mvPutInt; apply Moves.step (g := mv_setAxis)
    apply Moves.step (g := mv_setAxis); exact Moves.refl; decide +kernel; decide +kernel; decide +kernel; decide +kernel
    decide +kernel; apply mvNext; apply Moves.step (g := mv_setAxis); exact Moves.refl; decide +kernel

theorem mv_exchangeFail {s : State} {status : Nat} : Moves 0x2400002000000000000202000000000000000000004410000000000000000000000000001030c0 s (State.exchangeFail s status) := by
  unfold State.exchangeFail
  with_reducible
    split; exact Moves.refl; split; apply Moves.step (g := mv_finish); apply mvFold; refine mvMk ?_; exact Moves.refl
    intro u x hu; apply Moves.step (g := mv_stopMove); assumption; decide +kernel; decide +kernel; apply mvFold
    refine mvMk ?_; exact Moves.refl; intro u x hu; apply Moves.step (g := mv_stopMove); assumption; decide +kernel

theorem mv_execHomeFail {a : AxisIx} {pos : Int} {s : State} : MovesR 0x2400002000000000000202000400000000000000004410000000000000000000000000001030c0 s (execHomeFail a s pos) := by
  unfold execHomeFail
  with_reducible
    apply mvIteR; apply mvNext; exact Moves.refl; apply mvNext; apply Moves.step (g := mv_exchangeFail); apply mv_event
    apply mvPut; apply mvSetFlag; apply mvPut; apply Moves.step (g := mv_setAxis); exact Moves.refl; decide +kernel
    decide +kernel; decide +kernel; decide +kernel; decide +kernel; decide +kernel

theorem mv_execExchangeStepTimeout {s : State} : MovesR 0x2400002000000000000202000000000000000000004410000000000000000000000000001030c0 s (execExchangeStepTimeout s) := by
  unfold execExchangeStepTimeout
  with_reducible
    apply mvNext; apply Moves.step (g := mv_exchangeFail); exact Moves.refl; decide +kernel

theorem mv_execDiscSenseChange {asserted : Bool} {s : State} : MovesR 0x1000 s (execDiscSenseChange asserted s) := by
  unfold execDiscSenseChange
  with_reducible
    apply mvNext; refine mvMk ?_; exact Moves.refl

theorem mv_xMove {s : State} {a : Nat} {p : Int} : Moves 0x200000200000000000000300040000000000000000000000000000000000000000000000181000 s (State.xMove s a p) := by
  unfold State.xMove
  with_reducible
    apply mvIte; apply Moves.step (g := mv_startMove); exact Moves.refl; decide +kernel; apply mv_event; exact Moves.refl
    decide +kernel

theorem mv_actIssue {s : State} {x : XAct} : Moves 0x200000200000000018000300348800080000000000000000000000000000000000000000189c00 s (State.actIssue s x) := by
  unfold State.actIssue
  with_reducible
    split; apply mvIte; exact Moves.refl; apply mvIte; apply Moves.step (g := mv_startHome); exact Moves.refl
    decide +kernel; exact Moves.refl; apply Moves.step (g := mv_parkSled); exact Moves.refl; decide +kernel
    apply Moves.step (g := mv_xMove); exact Moves.refl; decide +kernel; apply Moves.step (g := mv_xMove); exact Moves.refl
    decide +kernel; apply Moves.step (g := mv_xMove); exact Moves.refl; decide +kernel; apply Moves.step (g := mv_xMove)
    exact Moves.refl; decide +kernel; apply Moves.step (g := mv_xMove); exact Moves.refl; decide +kernel
    apply Moves.step (g := mv_journalCompact); apply Moves.step (g := mv_journalPut); exact Moves.refl; decide +kernel
    decide +kernel; apply Moves.step (g := mv_spindleStart); exact Moves.refl; decide +kernel
    apply Moves.step (g := mv_loopsOff); apply Moves.step (g := mv_lasersOff); exact Moves.refl; decide +kernel
    decide +kernel; apply Moves.step (g := mv_spindleBrake); exact Moves.refl; decide +kernel; exact Moves.refl
    exact Moves.refl; exact Moves.refl; exact Moves.refl; exact Moves.refl

theorem mv_actEffect {s : State} {slot : Nat} {x : XAct} : Moves 0x1400 s (State.actEffect s slot x) := by
  unfold State.actEffect
  with_reducible
    split; split; refine mvMk ?_; exact Moves.refl; exact Moves.refl; refine mvMk ?_; exact Moves.refl; refine mvMk ?_
    exact Moves.refl; split; refine mvMk ?_; exact Moves.refl; exact Moves.refl; exact Moves.refl

theorem mv_exchangeStep {s : State} {x : Exchange} : Moves 0x24000020000000001802030034880008000000000044100000000000000000000000000018bcc0 s (State.exchangeStep s x) := by
  unfold State.exchangeStep
  with_reducible
    split; exact Moves.refl; apply mvIte; apply mvIte; refine mvMk ?_; apply Moves.step (g := mv_actEffect)
    exact Moves.refl; decide +kernel; exact Moves.refl; apply mvIte; exact Moves.refl; apply mvIte; exact Moves.refl
    apply mvIte; apply Moves.step (g := mv_exchangeFail); exact Moves.refl; decide +kernel; refine mvMk ?_; apply mvIte
    exact Moves.refl; apply Moves.step (g := mv_actIssue); exact Moves.refl; decide +kernel

theorem mv_execDiscReturnAfterReset {s : State} : MovesR 0x24000020000000001802030034880008000000000044100000000000000000000000000018bcc0 s (execDiscReturnAfterReset s) := by
  unfold execDiscReturnAfterReset
  with_reducible
    split; apply mvIteR; apply mvNext; exact Moves.refl; apply mvIteR; apply mvNext; refine mvMk ?_; exact Moves.refl
    apply mvNext; apply Moves.step (g := mv_exchangeStep); exact Moves.refl; decide +kernel; apply mvIteR; apply mvNext
    exact Moves.refl; split; apply mvNext; refine mvMk ?_; exact Moves.refl; apply mvNext; refine mvMk ?_
    exact Moves.refl

theorem mv_execVdrvUndervoltage {s : State} : MovesR 0x81000 s (execVdrvUndervoltage s) := by
  unfold execVdrvUndervoltage
  with_reducible
    apply mvNext; refine mvMk ?_; exact Moves.refl

theorem mv_execVdrvRecovery {s : State} : MovesR 0x80000 s (execVdrvRecovery s) := by
  unfold execVdrvRecovery
  with_reducible
    apply mvNext; refine mvMk ?_; exact Moves.refl

theorem mv_execCartPresentChange {cart : Option Cartridge} {s : State} : MovesR 0x1400 s (execCartPresentChange cart s) := by
  unfold execCartPresentChange
  with_reducible
    apply mvNext; refine mvMk ?_; refine mvMk ?_; exact Moves.refl

theorem mv_execMotPwmWrite {v : Word} {s : State} : MovesR 0x2000002000000000000000000c0000000000000000000000000000000000000000000000100000 s (execMotPwmWrite v s) := by
  unfold execMotPwmWrite
  with_reducible
    apply mvIteR; apply mvNext; exact Moves.refl; apply mvIteR; apply mvNext; apply mvIte; exact Moves.refl
    apply Moves.step (g := mv_motRej); exact Moves.refl; decide +kernel; apply mvIteR; apply mvNext; exact Moves.refl
    apply mvNext; apply mvWr0; exact Moves.refl; decide +kernel

theorem mv_motEnable {s : State} {b : Bool} : Moves 0x24000020000000001802030036000000088000000044100000000000000000000000000018b4c0 s (State.motEnable s b) := by
  unfold State.motEnable
  with_reducible
    apply mv_enableWrite; apply mvIte; apply mvIte; apply mvFold; apply Moves.step (g := mv_spindleBrake)
    apply Moves.step (g := mv_archiveStop); exact Moves.refl; decide +kernel; decide +kernel; intro u x hu; apply mvIte
    apply Moves.step (g := mv_stopMove); assumption; decide +kernel; assumption; apply Moves.step (g := mv_parkSled)
    apply mvFold; apply Moves.step (g := mv_spindleBrake); apply Moves.step (g := mv_archiveStop); exact Moves.refl
    decide +kernel; decide +kernel; intro u x hu; apply mvIte; apply Moves.step (g := mv_stopMove); assumption
    decide +kernel; assumption; decide +kernel; exact Moves.refl; decide +kernel

theorem mv_execMotDisable {s : State} : MovesR 0x24000020000000001802030036000000088000000044100000000000000000000000000018b4c0 s (execMotDisable s) := by
  unfold execMotDisable
  with_reducible
    apply mvIteR; apply mvNext; apply Moves.step (g := mv_motEnable); exact Moves.refl; decide +kernel; apply mvNext
    exact Moves.refl

theorem mv_execMotCntClr {s : State} : MovesR 0x7c000000000000000000000000000000000000000000000000000000 s (execMotCntClr s) := by
  unfold execMotCntClr
  with_reducible
    apply mvIteR; apply mvNext; exact Moves.refl; apply mvNext; apply mvPut; apply mvPut; apply mvPut; apply mvPut
    apply mvPut; exact Moves.refl; decide +kernel; decide +kernel; decide +kernel; decide +kernel; decide +kernel

end Sys2Proof.Laws
end

