-- ==== Sys2Proof/Laws/MovesPulse.lean ====
section
/-!
SUPPORT. What each definition of Machine/Pulse.lean can change (Laws/Moves.lean).
-/
set_option Elab.async false

namespace Sys2Proof.Laws
open Sys2Proof.Machine

theorem mv_pulsePieces {s : State} {b : Nat} {power : Nat → Word} {level : Bool} {i : Nat} {l : List (List Bool)} : Moves 0x100000 s (State.pulsePieces s b power level i l) := by
  induction l generalizing s b power level i  with
  | nil =>
    rw [State.pulsePieces]
    exact Moves.refl
  | cons hd tl ih =>
    rw [State.pulsePieces]
    with_reducible
      apply Moves.step (g := ih); apply mvEmit; exact Moves.refl; decide +kernel; decide +kernel

theorem mv_writePulses {s : State} {pfa : Nat} {rows : List (List Bool)} {opc : Bool} : Moves 0x100000 s (State.writePulses s pfa rows opc) := by
  unfold State.writePulses
  with_reducible
    apply Moves.step (g := mv_pulsePieces); exact Moves.refl; decide +kernel

end Sys2Proof.Laws
end

