-- ==== Sys2Proof/Laws/MovesOch.lean ====
section
/-!
SUPPORT. What each definition of Machine/Och.lean can change (Laws/Moves.lean).
-/
set_option Elab.async false

namespace Sys2Proof.Laws
open Sys2Proof.Machine

theorem mv_showSpares {s : State} : Moves 0x200000200000000000000000000000020080000000000000000000000000000000000000100000 s (State.showSpares s) := by
  unfold State.showSpares
  with_reducible
    split; exact Moves.refl; apply mvIte; apply mv_event; apply mvPut; exact Moves.refl; decide +kernel; decide +kernel
    apply mvPut; exact Moves.refl; decide +kernel

theorem mv_recordFolio {s : State} {pfa : Nat} {area : List Byte} {opc : Bool} : Moves 0x200000200000000000000000000000020080000000000000000000000000000000000000100400 s (State.recordFolio s pfa area opc) := by
  unfold State.recordFolio
  with_reducible
    split; exact Moves.refl; apply Moves.step (g := mv_showSpares); apply Moves.step (g := mv_writePulses); apply mvEmit
    refine mvMk ?_; exact Moves.refl; decide +kernel; decide +kernel; decide +kernel

theorem mv_failFolio {s : State} {pfa : Nat} : Moves 0x400 s (State.failFolio s pfa) := by
  unfold State.failFolio
  with_reducible
    split; exact Moves.refl; refine mvMk ?_; exact Moves.refl

theorem mv_loadSession {s : State} : Moves 0x200400 s (State.loadSession s) := by
  unfold State.loadSession
  with_reducible
    split; exact Moves.refl; refine mvMk ?_; apply mvFree; exact Moves.refl; decide +kernel

theorem mv_withSession {s : State} : Moves 0x200400 s (State.withSession s) := by
  unfold State.withSession
  with_reducible
    apply mvIte; exact Moves.refl; apply Moves.step (g := mv_loadSession); exact Moves.refl; decide +kernel

theorem mv_atWedge {s : State} {key : Nat} : Moves 0x400 s (State.atWedge s key) := by
  unfold State.atWedge
  with_reducible
    refine mvMk ?_; exact Moves.refl

theorem mv_setJob {s : State} {j : ArchiveJob} : Moves 0x400 s (State.setJob s j) := by
  unfold State.setJob
  with_reducible
    refine mvMk ?_; exact Moves.refl

theorem mv_finishArchive {s : State} {j : ArchiveJob} {st : Nat} {res : Nat} : Moves 0x2400002000000000000200000000000000800000004410000000000000000000000000001034c0 s (State.finishArchive s j st res) := by
  unfold State.finishArchive
  with_reducible
    apply Moves.step (g := mv_finish); apply Moves.step (g := mv_endArchive); exact Moves.refl; decide +kernel
    decide +kernel

theorem mv_opcBeam {s : State} {b : Nat} {pass : List Bool} : Moves 0x60000000000000000000040000000000000000000c000000000c0000000000004410 s (State.opcBeam s b pass).1 := by
  unfold State.opcBeam
  with_reducible
    apply mvIteFst; exact Moves.refl; apply Moves.step (g := mv_atWedge); apply mvPut; exact Moves.refl; decide +kernel
    decide +kernel

theorem mv_opcRun {s : State} {layer zone n : Nat} {opc : List (List Bool)} : Moves 0x200000200060000000000000000000062080000000000000000c000000000c0000000000304410 s (State.opcRun s layer zone n opc).1 := by
  unfold State.opcRun
  with_reducible
    refine mvMk ?_; apply mvFoldFst; apply mvInc; apply mvFold; exact Moves.refl; intro u x hu
    apply Moves.step (g := mv_recordFolio); apply mvFreeBytes; assumption; decide +kernel; decide +kernel; decide +kernel
    intro u x y hu; apply Moves.step (g := mv_opcBeam); assumption; decide +kernel

theorem mv_prepareZone {s : State} {j : ArchiveJob} {layer zone : Nat} {opc : List (List Bool)} : MovesO 0x240000200060000000020000000000062080000000441000000c000000000c00000000003074d0 s (State.prepareZone s j layer zone opc) := by
  unfold State.prepareZone
  with_reducible
    apply mvIteO; apply mvSome; apply Moves.step (g := mv_showSpares); apply mvPut; refine mvMk ?_; exact Moves.refl
    decide +kernel; decide +kernel; apply mvIteO; exact mvNone; split; apply mvSome
    apply Moves.step (g := mv_finishArchive); exact Moves.refl; decide +kernel; apply mvIteO; apply mvSome
    apply Moves.step (g := mv_opcRun); apply mvPut; exact Moves.refl; decide +kernel; decide +kernel; apply mvSome
    apply Moves.step (g := mv_finishArchive); apply mv_event; apply Moves.step (g := mv_opcRun); apply mvPut
    exact Moves.refl; decide +kernel; decide +kernel; decide +kernel; decide +kernel

theorem mv_extentFolio {s : State} {key : Option (List Byte)} {x : Nat} {e : Extent} {lfn : Nat} {ecc : NandEcc} : Moves 0x2000002000000000000000000000000000000004010000000f81c8000000000000000000302100 s (State.extentFolio s key x e lfn ecc).2.2 := by
  unfold State.extentFolio
  with_reducible
    apply mvIte; apply Moves.step (g := mv_queueAes); apply Moves.step (g := mv_readRange); exact Moves.refl
    decide +kernel; decide +kernel; apply Moves.step (g := mv_readRange); exact Moves.refl; decide +kernel

theorem mv_jobFolio {s : State} {j : ArchiveJob} {lfn : Nat} {ecc : NandEcc} : Moves 0x2000002000000000000000000000000000000004010000000f81c8000000000000000000302500 s (State.jobFolio s j lfn ecc).2 := by
  unfold State.jobFolio
  with_reducible
    apply mvIteSnd; exact Moves.refl; split; exact Moves.refl; refine mvMk ?_; apply Moves.step (g := mv_extentFolio)
    exact Moves.refl; decide +kernel

theorem mv_beginFolio {s : State} {pfa lfn : Nat} {area : List Byte} {spare : Bool} : Moves 0x200000200000000000000000000000020080000000000000000000000000000000000000100400 s (State.beginFolio s pfa lfn area spare) := by
  unfold State.beginFolio
  with_reducible
    apply Moves.step (g := mv_recordFolio); refine mvMk ?_; exact Moves.refl; decide +kernel

theorem mv_setNextLfn {s : State} {lfn : Nat} : Moves 0x400 s (State.setNextLfn s lfn) := by
  unfold State.setNextLfn
  with_reducible
    split; apply Moves.step (g := mv_setJob); exact Moves.refl; decide +kernel; exact Moves.refl

theorem mv_groupFolio {s : State} {j : ArchiveJob} {ecc : NandEcc} {lfn : Nat} : Moves 0x2000002000000000000000000000000208800004010000000f81c8000000000000000000302500 s (State.groupFolio s j ecc lfn) := by
  unfold State.groupFolio
  with_reducible
    apply mvIte; apply Moves.step (g := mv_queueReloc); apply Moves.step (g := mv_jobFolio); exact Moves.refl
    decide +kernel; decide +kernel; apply Moves.step (g := mv_beginFolio); apply Moves.step (g := mv_jobFolio)
    exact Moves.refl; decide +kernel; decide +kernel

theorem mv_writeGroup {s : State} {j : ArchiveJob} {ecc : NandEcc} : Moves 0x2000002000000000000000000000000208800004010000000f81c8000000000000000000302500 s (State.writeGroup s j ecc) := by
  unfold State.writeGroup
  with_reducible
    apply Moves.step (g := mv_setNextLfn); apply mvFold; apply mvPut; exact Moves.refl; decide +kernel; intro u x hu
    apply Moves.step (g := mv_groupFolio); assumption; decide +kernel; decide +kernel

theorem mv_readBackOne {s : State} {j : ArchiveJob} {lfn : Nat} {pass : FolioPass} : Moves 0x200000200000000000000000000000000880000000000000000000000000000000000000100400 s (State.readBackOne s j lfn pass) := by
  unfold State.readBackOne
  with_reducible
    split; exact Moves.refl; apply mvIte; exact Moves.refl; split; apply Moves.step (g := mv_setJob); apply mvPut
    exact Moves.refl; decide +kernel; decide +kernel; apply mvIte; apply Moves.step (g := mv_setJob); apply mvPut
    exact Moves.refl; decide +kernel; decide +kernel; apply Moves.step (g := mv_queueReloc)
    apply Moves.step (g := mv_failFolio); apply Moves.step (g := mv_setJob); apply mvPut; exact Moves.refl; decide +kernel
    decide +kernel; decide +kernel; decide +kernel

theorem mv_relocTo {s : State} {j : ArchiveJob} {opc : List (List Bool)} {lfn : Nat} {area : List Byte} {rest : List (Nat × List Byte)} {spare : Option Nat} : Moves 0x240000200060000000020000000000062080000000441000000c000000000c00000000003074d0 s (State.relocTo s j opc lfn area rest spare) := by
  unfold State.relocTo
  with_reducible
    split; apply Moves.step (g := mv_finishArchive); exact Moves.refl; decide +kernel; apply mvIte; exact Moves.refl
    split; apply Moves.step (g := MovesO.run mv_prepareZone (by assumption)); exact Moves.refl; decide +kernel
    apply Moves.step (g := mv_beginFolio); apply mvPut; refine mvMk ?_; exact Moves.refl; decide +kernel; decide +kernel

theorem mv_writeReloc {s : State} {j : ArchiveJob} {opc : List (List Bool)} : Moves 0x240000200060000000020000000000062080000000441000000c000000000c00000000003074d0 s (State.writeReloc s j opc) := by
  unfold State.writeReloc
  with_reducible
    split; apply Moves.step (g := mv_relocTo); exact Moves.refl; decide +kernel; exact Moves.refl

theorem mv_writeInfo {s : State} {j : ArchiveJob} {layer : Nat} : Moves 0x200000200000000000000000000000020080000000000000000000000000000000000000100400 s (State.writeInfo s j layer) := by
  unfold State.writeInfo
  with_reducible
    apply mvIte; exact Moves.refl; apply Moves.step (g := mv_setJob); apply mvFold; exact Moves.refl; intro u x hu
    apply Moves.step (g := mv_recordFolio); assumption; decide +kernel; decide +kernel

theorem mv_archivePiece {s : State} {j : ArchiveJob} {ecc : NandEcc} {opc : List (List Bool)} {pass : FolioPass} : MovesO 0x2400002000600000000200000000000628800004014410000f8dc80000000c00000000003075d0 s (State.archivePiece s j ecc opc pass) := by
  unfold State.archivePiece
  with_reducible
    split; apply mvSome; apply Moves.step (g := mv_writeInfo); exact Moves.refl; decide +kernel; apply mvSome
    apply Moves.step (g := mv_readBackOne); exact Moves.refl; decide +kernel; apply mvIteO; apply mvIteO; apply mvSome
    exact Moves.refl; apply mvIteO; apply mvSome; exact Moves.refl; split; apply mvSome
    apply Moves.step (g := MovesO.run mv_prepareZone (by assumption)); exact Moves.refl; decide +kernel; apply mvSome
    apply Moves.step (g := mv_writeGroup); exact Moves.refl; decide +kernel; apply mvIteO; apply mvSome
    apply Moves.step (g := mv_writeReloc); exact Moves.refl; decide +kernel; apply mvIteO; exact mvNone; apply mvSome
    exact Moves.refl

theorem mv_restoreReloc {s : State} {key : Option (List Byte)} {lfn : Nat} : Moves 0x2000002000000000000000000000000000000004010000000f81c8000000000000000000302500 s (State.restoreReloc s key lfn) := by
  unfold State.restoreReloc
  with_reducible
    split; exact Moves.refl; refine mvMk ?_; apply Moves.step (g := mv_extentFolio); exact Moves.refl; decide +kernel

theorem mv_beginWrite {s : State} {k : Cmd} {d : Disc} : Moves 0x2400002000000000000200000000000000000004014410000f81c80000000000000000003035c0 s (State.beginWrite s k d) := by
  unfold State.beginWrite
  with_reducible
    apply mvIte; apply Moves.step (g := mv_finish); exact Moves.refl; decide +kernel; apply mvIte
    apply Moves.step (g := mv_finish); exact Moves.refl; decide +kernel; apply Moves.step (g := mv_setJob); split
    apply mvFold; refine mvMk ?_; apply mvIteSnd; apply mvFreeBytes; apply mvIte; exact Moves.refl
    apply Moves.step (g := mv_bindKey); exact Moves.refl; decide +kernel; decide +kernel; apply mvIte; exact Moves.refl
    apply Moves.step (g := mv_bindKey); exact Moves.refl; decide +kernel; split; split; split; intro u x hu
    apply Moves.step (g := mv_restoreReloc); assumption; decide +kernel; intro u x hu
    apply Moves.step (g := mv_restoreReloc); assumption; decide +kernel; split; intro u x hu
    apply Moves.step (g := mv_restoreReloc); assumption; decide +kernel; intro u x hu
    apply Moves.step (g := mv_restoreReloc); assumption; decide +kernel; split; split; intro u x hu
    apply Moves.step (g := mv_restoreReloc); assumption; decide +kernel; intro u x hu
    apply Moves.step (g := mv_restoreReloc); assumption; decide +kernel; split; intro u x hu
    apply Moves.step (g := mv_restoreReloc); assumption; decide +kernel; intro u x hu
    apply Moves.step (g := mv_restoreReloc); assumption; decide +kernel; refine mvMk ?_; apply mvIteSnd; apply mvFreeBytes
    apply mvIte; exact Moves.refl; apply Moves.step (g := mv_bindKey); exact Moves.refl; decide +kernel; decide +kernel
    apply mvIte; exact Moves.refl; apply Moves.step (g := mv_bindKey); exact Moves.refl; decide +kernel; decide +kernel

theorem mv_execArchiveWrite {c : Nat} {ecc : NandEcc} {opc : List (List Bool)} {pass : FolioPass} {s : State} : MovesR 0x2400002000600000000200000000000628800004014410000f8dc80000000c00000000003075d0 s (execArchiveWrite c ecc opc pass s) := by
  unfold execArchiveWrite
  with_reducible
    apply mv_onCmd; exact Moves.refl; decide +kernel; intro u x hu; split; apply Moves.step (g := mv_finish); assumption
    decide +kernel; apply Moves.step (g := mv_finish); assumption; decide +kernel; dsimp only; split; apply mvIte
    apply Moves.step (g := mv_finish); apply Moves.step (g := mv_withSession); assumption; decide +kernel; decide +kernel
    apply mvIte; apply Moves.step (g := mv_finish); apply Moves.step (g := mv_withSession); assumption; decide +kernel
    decide +kernel; apply Moves.step (g := mv_beginWrite); apply Moves.step (g := mv_withSession); assumption
    decide +kernel; decide +kernel; apply mvIte; apply Moves.step (g := mv_withSession); assumption; decide +kernel; split
    apply Moves.step (g := MovesO.run mv_archivePiece (by assumption)); apply Moves.step (g := mv_withSession); assumption
    decide +kernel; decide +kernel; apply Moves.step (g := mv_finishArchive); apply Moves.step (g := mv_withSession)
    assumption; decide +kernel; decide +kernel; apply Moves.step (g := mv_withSession); assumption; decide +kernel

theorem mv_beginSeal {s : State} {k : Cmd} {d : Disc} : Moves 0x200400 s (State.beginSeal s k d) := by
  unfold State.beginSeal
  with_reducible
    apply Moves.step (g := mv_setJob); apply mvFreeBytes; exact Moves.refl; decide +kernel; decide +kernel

theorem mv_sealDirectory {s : State} {j : ArchiveJob} {dir : List Byte} {d : Disc} : Moves 0x2400002000000000000200000000000200800000004410000000000000000000000000001034c0 s (State.sealDirectory s j dir d) := by
  unfold State.sealDirectory
  with_reducible
    split; apply mvIte; apply Moves.step (g := mv_finishArchive); refine mvMk ?_; exact Moves.refl; decide +kernel
    apply Moves.step (g := mv_setJob); exact Moves.refl; decide +kernel; apply mvIte
    apply Moves.step (g := mv_finishArchive); exact Moves.refl; decide +kernel; split
    apply Moves.step (g := mv_finishArchive); exact Moves.refl; decide +kernel; apply mvIte; exact Moves.refl
    apply Moves.step (g := mv_setJob); apply mvFold; apply mvPut; exact Moves.refl; decide +kernel; intro u x hu
    apply Moves.step (g := mv_beginFolio); assumption; decide +kernel; decide +kernel

theorem mv_execSealImago {c : Nat} {s : State} : MovesR 0x2400002000600000000200000000000628800004014410000f8dc80000000c00000000003075d0 s (execSealImago c s) := by
  unfold execSealImago
  with_reducible
    apply mv_onCmd; exact Moves.refl; decide +kernel; intro u x hu; split; apply Moves.step (g := mv_finish); assumption
    decide +kernel; dsimp only; split; apply mvIte; apply Moves.step (g := mv_finish)
    apply Moves.step (g := mv_withSession); assumption; decide +kernel; decide +kernel; apply mvIte
    apply Moves.step (g := mv_finish); apply Moves.step (g := mv_withSession); assumption; decide +kernel; decide +kernel
    apply mvIte; apply Moves.step (g := mv_finish); apply Moves.step (g := mv_withSession); assumption; decide +kernel
    decide +kernel; apply Moves.step (g := mv_beginSeal); apply Moves.step (g := mv_withSession); assumption
    decide +kernel; decide +kernel; apply mvIte; apply Moves.step (g := mv_withSession); assumption; decide +kernel; split
    apply Moves.step (g := MovesO.run mv_archivePiece (by assumption)); apply Moves.step (g := mv_withSession); assumption
    decide +kernel; decide +kernel; apply Moves.step (g := mv_sealDirectory); apply Moves.step (g := mv_withSession)
    assumption; decide +kernel; decide +kernel; apply Moves.step (g := mv_withSession); assumption; decide +kernel
    apply Moves.step (g := mv_withSession); assumption; decide +kernel

theorem mv_takePass {s : State} {pass : FolioPass} : Moves 0xe00000000000000000000000000000000000000000000400 s (State.takePass s pass).1 := by
  unfold State.takePass
  with_reducible
    split; exact Moves.refl; apply mvIteFst; apply mvAdd; refine mvMk ?_; apply mvAdd; apply mvAdd; exact Moves.refl
    decide +kernel; decide +kernel; decide +kernel; apply mvAdd; refine mvMk ?_; apply mvAdd; apply mvAdd
    exact Moves.refl; decide +kernel; decide +kernel; decide +kernel

theorem mv_folioOut {s : State} {area : List Byte} {lost : List Nat} : Moves 0x200000200000000000000000000000008080000000000000000000000000000000000000300000 s (State.folioOut s area lost).2.2 := by
  unfold State.folioOut
  with_reducible
    apply mvIte; apply mvIteSnd; exact Moves.refl; apply mvFreeBytes; exact Moves.refl; decide +kernel; apply mv_event
    apply mvAdd; apply mvIteSnd; exact Moves.refl; apply mvFreeBytes; exact Moves.refl; decide +kernel; decide +kernel
    decide +kernel

theorem mv_folioDone {s : State} {k : Cmd} {user : List Byte} {poison : Nat} : Moves 0x4000100480 s (State.folioDone s k user poison) := by
  unfold State.folioDone
  with_reducible
    apply mvIte; apply Moves.step (g := mv_setCmd); apply Moves.step (g := mv_scatter); refine mvMk ?_; exact Moves.refl
    decide +kernel; decide +kernel; apply Moves.step (g := mv_setCmd); refine mvMk ?_; refine mvMk ?_; exact Moves.refl
    decide +kernel

theorem mv_readFolio {s : State} {k : Cmd} {lfn : Nat} {pass : FolioPass} : Moves 0x200000200000000000000000000000e18080000000000000000000000000000000004000300480 s (State.readFolio s k lfn pass) := by
  unfold State.readFolio
  with_reducible
    split; exact Moves.refl; split; dsimp only; split; apply Moves.step (g := mv_folioDone); refine mvMk ?_; apply mvInc
    exact Moves.refl; decide +kernel; decide +kernel; apply mvIte; exact Moves.refl; split
    apply Moves.step (g := eqFst mv_takePass (by assumption)); apply mvPut; exact Moves.refl; decide +kernel
    decide +kernel; apply Moves.step (g := mv_folioDone); apply Moves.step (g := mv_folioOut)
    apply Moves.step (g := eqFst mv_takePass (by assumption)); apply mvPut; exact Moves.refl; decide +kernel
    decide +kernel; decide +kernel; decide +kernel; dsimp only; split; apply Moves.step (g := mv_folioDone)
    refine mvMk ?_; apply mvInc; exact Moves.refl; decide +kernel; decide +kernel; apply mvIte; exact Moves.refl; split
    apply Moves.step (g := eqFst mv_takePass (by assumption)); apply mvPut; refine mvMk ?_; exact Moves.refl
    decide +kernel; decide +kernel; apply Moves.step (g := mv_folioDone); apply Moves.step (g := mv_folioOut)
    apply Moves.step (g := eqFst mv_takePass (by assumption)); apply mvPut; refine mvMk ?_; exact Moves.refl
    decide +kernel; decide +kernel; decide +kernel; decide +kernel

theorem mv_execArchiveRead {c : Nat} {pass : FolioPass} {s : State} : MovesR 0x240000200000000000020000000000e180800000004410000000000000000000000040003034c0 s (execArchiveRead c pass s) := by
  unfold execArchiveRead
  with_reducible
    apply mv_onCmd; exact Moves.refl; decide +kernel; intro u x hu; split; apply Moves.step (g := mv_finish); assumption
    decide +kernel; apply mvIte; apply Moves.step (g := mv_finish); assumption; decide +kernel; apply mvIte
    apply Moves.step (g := mv_finish); assumption; decide +kernel; apply mvIte; assumption; apply mvIte
    apply Moves.step (g := mv_finish); apply mvPut; assumption; decide +kernel; decide +kernel; split; dsimp only; split
    assumption; apply mvIte; assumption; apply Moves.step (g := mv_finish); apply mvPut; assumption; decide +kernel
    decide +kernel; dsimp only; split; apply Moves.step (g := mv_readFolio); assumption; decide +kernel; apply mvIte
    apply Moves.step (g := mv_readFolio); assumption; decide +kernel; apply Moves.step (g := mv_finish); apply mvPut
    apply Moves.step (g := mv_readFolio); assumption; decide +kernel; decide +kernel; decide +kernel

theorem mv_execArchiveVerify {c : Nat} {pass : FolioPass} {s : State} : MovesR 0x240000200000000000020000000000e180800000004410000000000000000000000040003034c0 s (execArchiveVerify c pass s) := by
  unfold execArchiveVerify
  with_reducible
    apply mv_onCmd; exact Moves.refl; decide +kernel; intro u x hu; split; apply Moves.step (g := mv_finish); assumption
    decide +kernel; apply mvIte; assumption; split; apply Moves.step (g := mv_finish); assumption; decide +kernel
    apply mvIte; apply Moves.step (g := mv_finish); apply mvPut; apply mvIte; assumption; refine mvMk ?_; assumption
    decide +kernel; decide +kernel; split; split; dsimp only; split; assumption; apply mvIte; assumption
    apply Moves.step (g := mv_finish); apply mvPut; refine mvMk ?_; assumption; decide +kernel; decide +kernel; dsimp only
    split; refine mvMk ?_; assumption; apply mvIte; refine mvMk ?_; assumption; apply Moves.step (g := mv_finish)
    apply mvPut; refine mvMk ?_; assumption; decide +kernel; decide +kernel; split; dsimp only; split
    apply Moves.step (g := mv_readFolio); assumption; decide +kernel; apply mvIte; apply Moves.step (g := mv_readFolio)
    assumption; decide +kernel; apply Moves.step (g := mv_finish); apply mvPut; refine mvMk ?_
    apply Moves.step (g := mv_readFolio); assumption; decide +kernel; decide +kernel; decide +kernel; dsimp only; split
    apply Moves.step (g := mv_readFolio); refine mvMk ?_; assumption; decide +kernel; apply mvIte
    apply Moves.step (g := mv_readFolio); refine mvMk ?_; assumption; decide +kernel; apply Moves.step (g := mv_finish)
    apply mvPut; refine mvMk ?_; apply Moves.step (g := mv_readFolio); refine mvMk ?_; assumption; decide +kernel
    decide +kernel; decide +kernel

theorem mv_execFolioReadRetry {pass : FolioPass} {s : State} : MovesR 0x240000200000000000020000000000e180800000004410000000000000000000000040003034c0 s (execFolioReadRetry pass s) := by
  unfold execFolioReadRetry
  with_reducible
    split; apply mvNext; exact Moves.refl; split; apply mvNext; exact Moves.refl; apply mvIteR; apply mvNext
    exact Moves.refl; apply mv_onCmd; exact Moves.refl; decide +kernel; intro u x hu; apply Moves.step (g := mv_readFolio)
    assumption; decide +kernel

theorem mv_discLoaded {s : State} {c : Nat} : Moves 0x2400002000000000000200000000000000000000004410000000000000000000000000003034c0 s (State.discLoaded s c) := by
  unfold State.discLoaded
  with_reducible
    apply mvIte; refine mvMk ?_; apply Moves.step (g := mv_finish); refine mvMk ?_; exact Moves.refl; decide +kernel
    apply Moves.step (g := mv_finish); apply Moves.step (g := mv_loadSession); refine mvMk ?_; exact Moves.refl
    decide +kernel; decide +kernel

theorem mv_loadFails {s : State} {x : Exchange} : MovesO 0x2400002000000000000203000400000000000000004410000000000000000000000000001830c0 s (State.loadFails s x) := by
  unfold State.loadFails
  with_reducible
    split; apply mvIteO; apply mvSome; apply Moves.step (g := mv_finish); refine mvMk ?_; apply Moves.step (g := mv_xMove)
    exact Moves.refl; decide +kernel; decide +kernel; exact mvNone; apply mvIteO; apply mvSome; refine mvMk ?_
    apply Moves.step (g := mv_finish); exact Moves.refl; decide +kernel; exact mvNone; exact mvNone

theorem mv_execDiscLoad {c : Nat} {s : State} : MovesR 0x24000020000000001802030034880008000000000044100000000000000000000000000038bcc0 s (execDiscLoad c s) := by
  unfold execDiscLoad
  with_reducible
    apply mv_onCmd; exact Moves.refl; decide +kernel; intro u x hu; split; apply mvIte; apply Moves.step (g := mv_finish)
    assumption; decide +kernel; apply mvIte; apply Moves.step (g := mv_finish); assumption; decide +kernel; apply mvIte
    assumption; refine mvMk ?_; assumption; apply mvIte; assumption; apply mvIte; apply Moves.step (g := mv_discLoaded)
    assumption; decide +kernel; apply mvGetD; apply MovesO.step (g := mv_loadFails); assumption; decide +kernel
    apply Moves.step (g := mv_exchangeStep); assumption; decide +kernel

theorem mv_execDiscEject {c : Nat} {s : State} : MovesR 0x24000020000000001802030034880008000000000044100000000000000000000000000018bcc0 s (execDiscEject c s) := by
  unfold execDiscEject
  with_reducible
    apply mv_onCmd; exact Moves.refl; decide +kernel; intro u x hu; split; apply mvIte; apply Moves.step (g := mv_finish)
    assumption; decide +kernel; apply mvIte; apply Moves.step (g := mv_finish); assumption; decide +kernel; apply mvIte
    assumption; refine mvMk ?_; assumption; apply mvIte; assumption; apply mvIte; apply Moves.step (g := mv_finish)
    refine mvMk ?_; assumption; decide +kernel; apply Moves.step (g := mv_exchangeStep); assumption; decide +kernel

theorem mv_execPilotLock {s : State} : MovesR 0x100000000000000000000000000000000000000000000 s (execPilotLock s) := by
  unfold execPilotLock
  with_reducible
    apply mvIteR; apply mvNext; apply mvSetFlag; exact Moves.refl; decide +kernel; apply mvNext; exact Moves.refl

theorem mv_execPilotLockLoss {s : State} : MovesR 0x24000020000000001802000000000000498000000044100000000000000000000000000010b4c0 s (execPilotLockLoss s) := by
  unfold execPilotLockLoss
  with_reducible
    apply mvIteR; apply mvNext; exact Moves.refl; apply mvNext; apply mvIte; refine mvMk ?_; apply mv_event
    apply mvSetFlag; exact Moves.refl; decide +kernel; decide +kernel; apply Moves.step (g := mv_writeFault)
    refine mvMk ?_; apply mv_event; apply mvSetFlag; exact Moves.refl; decide +kernel; decide +kernel; decide +kernel

theorem mv_burstError {s : State} {w : SpotWedge} {p : Nat} : Moves 0x200000 s (State.burstError s w p).2 := by
  unfold State.burstError
  with_reducible
    apply mvIteSnd; apply mvFree; exact Moves.refl; decide +kernel; exact Moves.refl

theorem mv_burstErrors {s : State} {spots : List SpotWedge} : Moves 0x200000 s (State.burstErrors s spots).2 := by
  unfold State.burstErrors
  with_reducible
    apply mvFoldSnd; exact Moves.refl; intro u x y hu; split; assumption; apply Moves.step (g := mv_burstError)
    assumption; decide +kernel

theorem mv_burstUpdate {s : State} {spots : List SpotWedge} : Moves 0x200800 s (State.burstUpdate s spots) := by
  unfold State.burstUpdate
  with_reducible
    apply mvIte; apply Moves.step (g := mv_burstErrors); exact Moves.refl; decide +kernel; refine mvMk ?_
    apply Moves.step (g := mv_burstErrors); exact Moves.refl; decide +kernel

theorem mv_beamWedge {s : State} {w : SpotWedge} : Moves 0x400 s (State.beamWedge s w) := by
  unfold State.beamWedge
  with_reducible
    refine mvMk ?_; exact Moves.refl

theorem mv_channelGain {s : State} {w : SpotWedge} : Moves 0x300000000000000000000000000000000000000000000000 s (State.channelGain s w) := by
  unfold State.channelGain
  with_reducible
    apply mvIte; exact Moves.refl; apply mvPut; apply mvPut; apply mvAdd; exact Moves.refl; decide +kernel; decide +kernel
    decide +kernel

theorem mv_execSamDetected {pilot : Option (BitVec 48)} {phase : Int} {spots : List SpotWedge} {s : State} : MovesR 0x400000300100000000000000000000000000000000000000201c00 s (execSamDetected pilot phase spots s) := by
  unfold execSamDetected
  with_reducible
    apply mvIteR; apply mvNext; exact Moves.refl; split; apply mvNext; refine mvMk ?_
    apply Moves.step (g := mv_burstUpdate); apply mvFold; apply mvFold; exact Moves.refl; intro u x hu
    apply Moves.step (g := mv_channelGain); assumption; decide +kernel; intro u x hu; apply Moves.step (g := mv_beamWedge)
    assumption; decide +kernel; decide +kernel; split; split; apply mvNext; apply mvPutInt; refine mvMk ?_
    apply Moves.step (g := mv_burstUpdate); apply mvFold; apply mvFold; exact Moves.refl; intro u x hu
    apply Moves.step (g := mv_channelGain); assumption; decide +kernel; intro u x hu; apply Moves.step (g := mv_beamWedge)
    assumption; decide +kernel; decide +kernel; decide +kernel; apply mvNext; apply mvPut; refine mvMk ?_; apply mvPutInt
    refine mvMk ?_; apply Moves.step (g := mv_burstUpdate); apply mvFold; apply mvFold; exact Moves.refl; intro u x hu
    apply Moves.step (g := mv_channelGain); assumption; decide +kernel; intro u x hu; apply Moves.step (g := mv_beamWedge)
    assumption; decide +kernel; decide +kernel; decide +kernel; decide +kernel; split; apply mvNext; apply mvPutInt
    refine mvMk ?_; apply Moves.step (g := mv_burstUpdate); apply mvFold; apply mvFold; exact Moves.refl; intro u x hu
    apply Moves.step (g := mv_channelGain); assumption; decide +kernel; intro u x hu; apply Moves.step (g := mv_beamWedge)
    assumption; decide +kernel; decide +kernel; decide +kernel; apply mvNext; apply mvPut; refine mvMk ?_; apply mvPutInt
    refine mvMk ?_; apply Moves.step (g := mv_burstUpdate); apply mvFold; apply mvFold; exact Moves.refl; intro u x hu
    apply Moves.step (g := mv_channelGain); assumption; decide +kernel; intro u x hu; apply Moves.step (g := mv_beamWedge)
    assumption; decide +kernel; decide +kernel; decide +kernel; decide +kernel

theorem mv_execLaserPowerOn {s : State} : MovesR 0x200000200000000000000000040000080000000000000000000000000000000000000000380400 s (execLaserPowerOn s) := by
  unfold execLaserPowerOn
  with_reducible
    apply mvIteR; apply mvNext; exact Moves.refl; apply mvIteR; apply mvNext; apply mv_event; exact Moves.refl
    decide +kernel; apply mvNext; refine mvMk ?_; apply mvFold; exact Moves.refl; intro u x hu; apply mvPut; apply mvFree
    assumption; decide +kernel; decide +kernel

theorem mv_execLaserFault {b : BeamIx} {s : State} : MovesR 0x24000020000000001802070034880208488000000144100020000000000000800000020018bcc0 s (execLaserFault b s) := by
  unfold execLaserFault
  with_reducible
    apply mvNext; apply mvIte; apply Moves.step (g := mv_failUnit); apply Moves.step (g := mv_endArchive)
    apply Moves.step (g := mv_writeFault); apply mv_event; apply mvPut; refine mvMk ?_; exact Moves.refl; decide +kernel
    decide +kernel; decide +kernel; decide +kernel; decide +kernel; apply Moves.step (g := mv_writeFault); apply mv_event
    apply mvPut; refine mvMk ?_; exact Moves.refl; decide +kernel; decide +kernel; decide +kernel

theorem mv_setFolio {s : State} {f : FolioJob} : Moves 0x400 s (State.setFolio s f) := by
  unfold State.setFolio
  with_reducible
    refine mvMk ?_; exact Moves.refl

theorem mv_execProofRowVerdict {b : BeamIx} {row : Nat} {corrected : Option Nat} {flagged : Nat} {s : State} : MovesR 0xe00000000000000000000000000000000000000000000400 s (execProofRowVerdict b row corrected s flagged) := by
  unfold execProofRowVerdict
  with_reducible
    split; split; dsimp only; split; apply mvNext; apply mvAdd; exact Moves.refl; decide +kernel; apply mvNext
    apply mvAdd; exact Moves.refl; decide +kernel; split; dsimp only; split; apply mvNext; apply mvAdd; exact Moves.refl
    decide +kernel; apply mvNext; apply mvInc; apply Moves.step (g := mv_setFolio); apply mvAdd; exact Moves.refl
    decide +kernel; decide +kernel; decide +kernel; dsimp only; split; apply mvNext; apply mvAdd; exact Moves.refl
    decide +kernel; apply mvNext; apply mvAdd; apply Moves.step (g := mv_setFolio); apply mvAdd; exact Moves.refl
    decide +kernel; decide +kernel; decide +kernel; split; dsimp only; split; apply mvNext; exact Moves.refl; apply mvNext
    exact Moves.refl; split; dsimp only; split; apply mvNext; exact Moves.refl; apply mvNext; apply mvInc
    apply Moves.step (g := mv_setFolio); exact Moves.refl; decide +kernel; decide +kernel; dsimp only; split; apply mvNext
    exact Moves.refl; apply mvNext; apply mvAdd; apply Moves.step (g := mv_setFolio); exact Moves.refl; decide +kernel
    decide +kernel

theorem mv_folioVerdict {s : State} {j : ArchiveJob} {f : FolioJob} : Moves 0x240000200000000000020000000000001e800000004410000000000000000000000000001034c0 s (State.folioVerdict s j f) := by
  unfold State.folioVerdict
  with_reducible
    apply mvIte; apply mvIte; apply mvInc; apply mvAdd64; apply Moves.step (g := mv_setJob); refine mvMk ?_
    exact Moves.refl; decide +kernel; decide +kernel; decide +kernel; apply mvAdd64; apply Moves.step (g := mv_setJob)
    refine mvMk ?_; exact Moves.refl; decide +kernel; decide +kernel; apply mvIte; apply mvInc
    apply Moves.step (g := mv_failFolio); refine mvMk ?_; exact Moves.refl; decide +kernel; decide +kernel; apply mvIte
    apply Moves.step (g := mv_finishArchive); apply Moves.step (g := mv_queueReloc); apply Moves.step (g := mv_setJob)
    apply Moves.step (g := mv_failFolio); refine mvMk ?_; exact Moves.refl; decide +kernel; decide +kernel; decide +kernel
    decide +kernel; apply Moves.step (g := mv_queueReloc); apply Moves.step (g := mv_setJob)
    apply Moves.step (g := mv_failFolio); refine mvMk ?_; exact Moves.refl; decide +kernel; decide +kernel; decide +kernel

theorem mv_execFolioProofVerdict {b : BeamIx} {s : State} : MovesR 0x240000200000000000020000000000001e800000004410000000000000000000000000001034c0 s (execFolioProofVerdict b s) := by
  unfold execFolioProofVerdict
  with_reducible
    split; apply mvNext; apply Moves.step (g := mv_folioVerdict); exact Moves.refl; decide +kernel; apply mvNext
    exact Moves.refl

theorem mv_execWriteFault {beams : List Nat} {s : State} : MovesR 0x24000020000000001802000000000000488000000044100000000000000000000000000010b4c0 s (execWriteFault beams s) := by
  unfold execWriteFault
  with_reducible
    apply mvIteR; apply mvNext; exact Moves.refl; apply mvNext; apply Moves.step (g := mv_writeFault); exact Moves.refl
    decide +kernel

theorem mv_execWriteFaultRecovery {b : BeamIx} {s : State} : MovesR 0x400 s (execWriteFaultRecovery b s) := by
  unfold execWriteFaultRecovery
  with_reducible
    apply mvIteR; apply mvNext; refine mvMk ?_; exact Moves.refl; apply mvNext; exact Moves.refl

theorem mv_ochEnable {s : State} {b : Bool} : Moves 0x2400002000000000180200000000000008c000000044100000000000000000000000000010b4c0 s (State.ochEnable s b) := by
  unfold State.ochEnable
  with_reducible
    apply mvIte; apply mv_enableWrite; exact Moves.refl; decide +kernel; refine mvMk ?_; split; apply mvIte
    apply mv_enableWrite; exact Moves.refl; decide +kernel; apply Moves.step (g := mv_archiveStop); apply mv_enableWrite
    exact Moves.refl; decide +kernel; decide +kernel; apply mv_enableWrite; exact Moves.refl; decide +kernel

theorem mv_execOchDisable {s : State} : MovesR 0x2400002000000000180200000000000008c000000044100000000000000000000000000010b4c0 s (execOchDisable s) := by
  unfold execOchDisable
  with_reducible
    apply mvIteR; apply mvNext; apply Moves.step (g := mv_ochEnable); exact Moves.refl; decide +kernel; apply mvNext
    exact Moves.refl

theorem mv_ochDrained {s : State} : Moves 0x800c0000000000000000000000000000000000000080400 s (State.ochDrained s) := by
  unfold State.ochDrained
  with_reducible
    apply mvIte; exact Moves.refl; apply mv_unitDrained; apply Moves.step (g := mv_lasersOff); exact Moves.refl
    decide +kernel; decide +kernel

theorem mv_execOchCntClr {s : State} : MovesR 0xe1fe00000000000000000000000000000000000000000000 s (execOchCntClr s) := by
  unfold execOchCntClr
  with_reducible
    apply mvIteR; apply mvNext; exact Moves.refl; apply mvNext; apply mvFold; apply mvZero0; exact Moves.refl
    decide +kernel; intro u x hu; apply mvZeroRow; assumption; decide +kernel

end Sys2Proof.Laws
end

