-- ==== Sys2Proof/Laws/MovesHq.lean ====
section
/-!
SUPPORT. What each definition of Machine/Hq.lean can change (Laws/Moves.lean).
-/
set_option Elab.async false

namespace Sys2Proof.Laws
open Sys2Proof.Machine

theorem mv_cfgRej {s : State} : Moves 0x100000000000000000000000000000000 s (State.cfgRej s) := by
  unfold State.cfgRej
  with_reducible
    apply mvSetFlag; exact Moves.refl; decide +kernel

theorem mv_fetchEntries {s : State} {n : Nat} {k : Nat} : Moves 0x100040 s (State.fetchEntries s n k) := by
  induction k generalizing s n  with
  | zero =>
    rw [State.fetchEntries]
    exact Moves.refl
  | succ n ih =>
    rw [State.fetchEntries]
    with_reducible
      apply Moves.step (g := ih); apply Moves.step (g := mv_issueRead); exact Moves.refl; decide +kernel; decide +kernel

theorem mv_execSubmissionEntryFetch {s : State} : MovesR 0x1000c0 s (execSubmissionEntryFetch s) := by
  unfold execSubmissionEntryFetch
  with_reducible
    apply mvIteR; apply mvNext; exact Moves.refl; apply mvIteR; apply mvNext; apply Moves.step (g := mv_fetchEntries)
    exact Moves.refl; decide +kernel; split; apply mvNext; exact Moves.refl; apply mvNext; refine mvMk ?_
    apply Moves.step (g := mv_fetchEntries); exact Moves.refl; decide +kernel

theorem mv_readLine {s : State} {j : Nat} : Moves 0x1000c0 s (State.readLine s j) := by
  unfold State.readLine
  with_reducible
    apply mvIte; apply Moves.step (g := mv_issueRead); exact Moves.refl; decide +kernel; apply mvIte; exact Moves.refl
    refine mvMk ?_; exact Moves.refl

theorem mv_scan {s : State} : Moves 0x1000c0 s (State.scan s) := by
  unfold State.scan
  with_reducible
    apply mvIte; exact Moves.refl; apply mvIte; apply mvFold; refine mvMk ?_; apply mvFold; exact Moves.refl; intro u x hu
    apply mvIte; apply Moves.step (g := mv_readHead); assumption; decide +kernel; assumption; intro u x hu
    apply Moves.step (g := mv_readLine); assumption; decide +kernel; apply Moves.step (g := mv_issueRead); apply mvFold
    refine mvMk ?_; apply mvFold; exact Moves.refl; intro u x hu; apply mvIte; apply Moves.step (g := mv_readHead)
    assumption; decide +kernel; assumption; intro u x hu; apply Moves.step (g := mv_readLine); assumption; decide +kernel
    decide +kernel

theorem mv_execDoorbellScan {s : State} : MovesR 0x1000c0 s (execDoorbellScan s) := by
  unfold execDoorbellScan
  with_reducible
    apply mvNext; apply Moves.step (g := mv_scan); exact Moves.refl; decide +kernel

theorem mv_execHqWake {_v : Word} {s : State} : MovesR 0x1000000000000000000000000001000c0 s (execHqWake _v s) := by
  unfold execHqWake
  with_reducible
    apply mvIteR; apply mvNext; exact Moves.refl; apply mvNext; apply Moves.step (g := mv_scan); apply mvSetFlag
    refine mvMk ?_; exact Moves.refl; decide +kernel; decide +kernel

theorem mv_takeSummary {s : State} {line : List Byte} : Moves 0x1000000000000000000000000001000c0 s (State.takeSummary s line) := by
  unfold State.takeSummary
  with_reducible
    apply mvIte; apply mvSetFlag; refine mvMk ?_; exact Moves.refl; decide +kernel; apply mvFold; apply mvFold
    apply mvSetFlag; refine mvMk ?_; exact Moves.refl; decide +kernel; intro u x hu; apply mvEmit; assumption
    decide +kernel; intro u x hu; apply Moves.step (g := mv_readLine); assumption; decide +kernel

theorem mv_summaryFailed {s : State} : Moves 0x2400002000000000000000000000000000000000004430000000000000000000000000001000c0 s (State.summaryFailed s) := by
  unfold State.summaryFailed
  with_reducible
    apply mvIte; refine mvMk ?_; exact Moves.refl; apply mvFold; apply mvInc; refine mvMk ?_; refine mvMk ?_
    exact Moves.refl; decide +kernel; intro u x hu; apply Moves.step (g := mv_ringFault); assumption; decide +kernel

theorem mv_summaryLine {s : State} {line : List Byte} : Moves 0x1000000000000000000000000001000c0 s (State.summaryLine s line) := by
  unfold State.summaryLine
  with_reducible
    apply mvIte; apply Moves.step (g := mv_takeSummary); refine mvMk ?_; exact Moves.refl; decide +kernel; refine mvMk ?_
    refine mvMk ?_; exact Moves.refl

theorem mv_execSummaryLineReceived {r : HostRead} {s : State} : MovesR 0x3cfff0a00000000000000000000000000000000000443100000000000000000000008c003000c0 s (execSummaryLineReceived r s) := by
  unfold execSummaryLineReceived
  with_reducible
    apply mvIteR; apply mvNext; exact Moves.refl; split; apply mvNext; apply Moves.step (g := mv_summaryLine)
    apply Moves.step (g := mv_endRead); exact Moves.refl; decide +kernel; decide +kernel; apply mvNext
    apply Moves.step (g := mv_summaryFailed); apply Moves.step (g := mv_failRead); exact Moves.refl; decide +kernel
    decide +kernel

theorem mv_takeTail {s : State} {n w : Nat} : Moves 0x2400002000000000000000000000000000000000004410000000000000000000000000001000c0 s (State.takeTail s n w) := by
  unfold State.takeTail
  with_reducible
    apply mvIte; apply Moves.step (g := mv_ringFault); exact Moves.refl; decide +kernel; apply Moves.step (g := mv_setSq)
    exact Moves.refl; decide +kernel

theorem mv_doorbellLine {s : State} {j : Nat} {b : List Byte} : Moves 0x2400002000000000000000000000000000000000004410000000000000000000000000001000c0 s (State.doorbellLine s j b) := by
  unfold State.doorbellLine
  with_reducible
    apply mvFold; exact Moves.refl; intro u x hu; apply Moves.step (g := mv_takeTail); assumption; decide +kernel

theorem mv_doorbellFailed {s : State} {j : Nat} : Moves 0x2400002000000000000000000000000000000000004410000000000000000000000000001000c0 s (State.doorbellFailed s j) := by
  unfold State.doorbellFailed
  with_reducible
    apply mvFold; exact Moves.refl; intro u x hu; apply mvIte; assumption; apply mvIte
    apply Moves.step (g := mv_ringFault); assumption; decide +kernel; apply Moves.step (g := mv_freezeRing); assumption
    decide +kernel

theorem mv_execDoorbellLineReceived {j : Fin 64} {r : HostRead} {s : State} : MovesR 0x3cfff0a00000000000000000000000000000000000441000000000000000000000008c003000c0 s (execDoorbellLineReceived j r s) := by
  unfold execDoorbellLineReceived
  with_reducible
    apply mvIteR; apply mvNext; exact Moves.refl; split; apply mvNext; apply Moves.step (g := mv_doorbellLine)
    apply Moves.step (g := mv_endRead); exact Moves.refl; decide +kernel; decide +kernel; apply mvNext
    apply Moves.step (g := mv_doorbellFailed); apply Moves.step (g := mv_failRead); exact Moves.refl; decide +kernel
    decide +kernel

theorem mv_headRejected {s : State} : Moves 0x4100000000000000000000000000000000 s (State.headRejected s) := by
  unfold State.headRejected
  with_reducible
    apply mvInc; apply mvSetFlag; exact Moves.refl; decide +kernel; decide +kernel

theorem mv_takeHead {s : State} {m w : Nat} : Moves 0x240000200000000000000000000000000000000000404100000000000000000000000000100080 s (State.takeHead s m w) := by
  unfold State.takeHead
  with_reducible
    apply mvIte; apply Moves.step (g := mv_headRejected); exact Moves.refl; decide +kernel
    apply Moves.step (g := mv_releaseHeld); apply Moves.step (g := mv_setCq); exact Moves.refl; decide +kernel
    decide +kernel

theorem mv_execCqHeadDoorbellReceived {m : RingIx} {r : HostRead} {s : State} : MovesR 0x3cfff0a00000000000000000000000000000000000404100000000000000000000008c003000c0 s (execCqHeadDoorbellReceived m r s) := by
  unfold execCqHeadDoorbellReceived
  with_reducible
    apply mvIteR; apply mvNext; exact Moves.refl; split; apply mvNext; apply Moves.step (g := mv_takeHead)
    apply Moves.step (g := mv_endRead); exact Moves.refl; decide +kernel; decide +kernel; apply mvNext
    apply Moves.step (g := mv_headRejected); apply Moves.step (g := mv_failRead); exact Moves.refl; decide +kernel
    decide +kernel

theorem mv_advanceHead {s : State} {n : Nat} : Moves 0x40000000000000000000000000000000080 s (State.advanceHead s n) := by
  unfold State.advanceHead
  with_reducible
    apply mvIte; apply mvPut; apply Moves.step (g := mv_setSq); apply mvPut; exact Moves.refl; decide +kernel
    decide +kernel; decide +kernel; apply mvPut; exact Moves.refl; decide +kernel

theorem mv_acceptEntry {s : State} {n : Nat} {e : List Byte} {listWhy : Option ReadFail} : Moves 0x3cfff0a00000000000000000000000000000000000441c00000000000000000000008c003011c0 s (State.acceptEntry s n e listWhy) := by
  unfold State.acceptEntry
  with_reducible
    split; dsimp only; split; apply Moves.step (g := mv_complete); apply Moves.step (g := mv_advanceHead); apply mvAdd64
    refine mvMk ?_; exact Moves.refl; decide +kernel; decide +kernel; decide +kernel; apply Moves.step (g := mv_complete)
    apply Moves.step (g := mv_advanceHead); apply mvAdd64; refine mvMk ?_; exact Moves.refl; decide +kernel
    decide +kernel; decide +kernel; apply Moves.step (g := mv_complete); apply Moves.step (g := mv_readFailed)
    apply Moves.step (g := mv_advanceHead); apply mvAdd64; refine mvMk ?_; exact Moves.refl; decide +kernel
    decide +kernel; decide +kernel; decide +kernel; apply mvIte; refine mvMk ?_; apply mvIte
    apply Moves.step (g := mv_flushFetched); apply Moves.step (g := mv_advanceHead); apply mvAdd64; refine mvMk ?_
    exact Moves.refl; decide +kernel; decide +kernel; decide +kernel; apply Moves.step (g := mv_advanceHead)
    apply mvAdd64; refine mvMk ?_; exact Moves.refl; decide +kernel; decide +kernel; refine mvMk ?_; apply mvIte
    apply Moves.step (g := mv_flushFetched); apply Moves.step (g := mv_advanceHead); apply mvAdd64; refine mvMk ?_
    exact Moves.refl; decide +kernel; decide +kernel; decide +kernel; apply Moves.step (g := mv_advanceHead)
    apply mvAdd64; refine mvMk ?_; exact Moves.refl; decide +kernel; decide +kernel; dsimp only; split
    apply Moves.step (g := mv_complete); apply Moves.step (g := mv_advanceHead); apply mvAdd64; refine mvMk ?_
    exact Moves.refl; decide +kernel; decide +kernel; decide +kernel; apply Moves.step (g := mv_complete)
    apply Moves.step (g := mv_advanceHead); apply mvAdd64; refine mvMk ?_; exact Moves.refl; decide +kernel
    decide +kernel; decide +kernel; apply Moves.step (g := mv_complete); apply Moves.step (g := mv_readFailed)
    apply Moves.step (g := mv_advanceHead); apply mvAdd64; refine mvMk ?_; exact Moves.refl; decide +kernel
    decide +kernel; decide +kernel; decide +kernel; apply mvIte; refine mvMk ?_; apply mvIte
    apply Moves.step (g := mv_flushFetched); apply Moves.step (g := mv_advanceHead); apply mvAdd64; refine mvMk ?_
    exact Moves.refl; decide +kernel; decide +kernel; decide +kernel; apply Moves.step (g := mv_advanceHead)
    apply mvAdd64; refine mvMk ?_; exact Moves.refl; decide +kernel; decide +kernel; refine mvMk ?_; apply mvIte
    apply Moves.step (g := mv_flushFetched); apply Moves.step (g := mv_advanceHead); apply mvAdd64; refine mvMk ?_
    exact Moves.refl; decide +kernel; decide +kernel; decide +kernel; apply Moves.step (g := mv_advanceHead)
    apply mvAdd64; refine mvMk ?_; exact Moves.refl; decide +kernel; decide +kernel

theorem mv_execSubmissionEntryReceived {n : RingIx} {slot : Nat} {r : HostRead} {s : State} : MovesR 0x3cfff0a00000000000000000000000000000000000441c00000000000000000000008c003011c0 s (execSubmissionEntryReceived n slot r s) := by
  unfold execSubmissionEntryReceived
  with_reducible
    apply mvIteR; split; apply mvNext; apply Moves.step (g := mv_endRead); exact Moves.refl; decide +kernel; apply mvNext
    apply Moves.step (g := mv_failRead); exact Moves.refl; decide +kernel; apply mvIteR; apply mvNext; exact Moves.refl
    split; apply mvNext; apply Moves.step (g := mv_acceptEntry); apply Moves.step (g := mv_endRead); exact Moves.refl
    decide +kernel; decide +kernel; apply mvIteR; apply mvNext; apply Moves.step (g := mv_ringFault)
    apply Moves.step (g := mv_failRead); exact Moves.refl; decide +kernel; decide +kernel; apply mvNext
    apply Moves.step (g := mv_acceptEntry); apply Moves.step (g := mv_endRead); exact Moves.refl; decide +kernel
    decide +kernel

theorem mv_execCqCoalesceExpiry {m : RingIx} {s : State} : MovesR 0x200000200000000000000000000000000000000000000000000000000000000000000000100080 s (execCqCoalesceExpiry m s) := by
  unfold execCqCoalesceExpiry
  with_reducible
    apply mvIteR; apply mvNext; exact Moves.refl; apply mvNext; apply mvIte; apply Moves.step (g := mv_signal)
    apply Moves.step (g := mv_setCq); exact Moves.refl; decide +kernel; decide +kernel; apply Moves.step (g := mv_setCq)
    exact Moves.refl; decide +kernel

theorem mv_execHqCntClr {s : State} : MovesR 0x7c00000000000000000000000000000000 s (execHqCntClr s) := by
  unfold execHqCntClr
  with_reducible
    apply mvNext; apply mvPut; apply mvPut; apply mvPut; apply mvPut64; exact Moves.refl; decide +kernel; decide +kernel
    decide +kernel; decide +kernel

theorem mv_resumeRing {s : State} {n : Nat} {skip : Bool} : Moves 0x400000000000000000000000000001000c0 s (State.resumeRing s n skip).2 := by
  unfold State.resumeRing
  with_reducible
    apply mvIteSnd; apply Moves.step (g := mv_readLine); apply mvSetFlag; exact Moves.refl; decide +kernel; decide +kernel
    apply Moves.step (g := mv_readLine); apply mvPut; apply mvPut; apply Moves.step (g := mv_setSq); apply mvSetFlag
    exact Moves.refl; decide +kernel; decide +kernel; decide +kernel; decide +kernel; decide +kernel

theorem mv_execSqResume {n : RingIx} {skip : Bool} {s : State} : MovesR 0x400000000000000000000000000001000c0 s (execSqResume n skip s) := by
  unfold execSqResume
  with_reducible
    apply mvIteR; apply mvNext; apply Moves.step (g := mv_resumeRing); exact Moves.refl; decide +kernel; apply mvNext
    exact Moves.refl

theorem mv_execRingResume {c : Nat} {s : State} : MovesR 0x2400002000000000000200000000000000000000004410000000000000000000000000001030c0 s (execRingResume c s) := by
  unfold execRingResume
  with_reducible
    apply mv_onCmd; exact Moves.refl; decide +kernel; intro u x hu; apply mvIte; apply Moves.step (g := mv_finish)
    assumption; decide +kernel; apply Moves.step (g := mv_finish); apply Moves.step (g := mv_resumeRing); assumption
    decide +kernel; decide +kernel

theorem mv_dropStop {s : State} {k : Cmd} : Moves 0x24 s (State.dropStop s k) := by
  unfold State.dropStop
  with_reducible
    apply mvIte; exact Moves.refl; apply mvIte; apply Moves.step (g := mv_noteSeg); apply Moves.step (g := mv_setTake)
    exact Moves.refl; decide +kernel; decide +kernel; apply Moves.step (g := mv_setTake); exact Moves.refl; decide +kernel

theorem mv_catchCmd {s : State} {k : Cmd} {st : Nat} : Moves 0x24000020000000001802000000000000088000000044100000000000000000000000000010b4e4 s (State.catchCmd s k st) := by
  unfold State.catchCmd
  with_reducible
    apply mvIte; apply Moves.step (g := mv_archiveStop); exact Moves.refl; decide +kernel; apply mvIte
    apply Moves.step (g := mv_setCmd); exact Moves.refl; decide +kernel; apply Moves.step (g := mv_finish); apply mvIte
    apply Moves.step (g := mv_dropStop); exact Moves.refl; decide +kernel; exact Moves.refl; decide +kernel

theorem mv_execAbort {c : Nat} {s : State} : MovesR 0x24000020000000001802000000000000088000000044100000000000000000000000000010b4e4 s (execAbort c s) := by
  unfold execAbort
  with_reducible
    apply mv_onCmd; exact Moves.refl; decide +kernel; intro u x hu; split; apply mvIte; assumption
    apply Moves.step (g := mv_finish); refine mvMk ?_; assumption; decide +kernel; apply mvIte
    apply Moves.step (g := mv_setCmd); apply mvIte; apply Moves.step (g := mv_fetchEntries); assumption; decide +kernel
    assumption; decide +kernel; split; apply Moves.step (g := mv_finish); apply Moves.step (g := mv_setCmd); apply mvIte
    apply Moves.step (g := mv_fetchEntries); assumption; decide +kernel; assumption; decide +kernel; decide +kernel
    apply mvIte; refine mvMk ?_; apply mvIte; apply Moves.step (g := mv_catchCmd); apply Moves.step (g := mv_setCmd)
    apply mvIte; apply Moves.step (g := mv_fetchEntries); assumption; decide +kernel; assumption; decide +kernel
    decide +kernel; apply Moves.step (g := mv_setCmd); apply mvIte; apply Moves.step (g := mv_fetchEntries); assumption
    decide +kernel; assumption; decide +kernel; apply Moves.step (g := mv_finish); apply mvIte
    apply Moves.step (g := mv_catchCmd); apply Moves.step (g := mv_setCmd); apply mvIte
    apply Moves.step (g := mv_fetchEntries); assumption; decide +kernel; assumption; decide +kernel; decide +kernel
    apply Moves.step (g := mv_setCmd); apply mvIte; apply Moves.step (g := mv_fetchEntries); assumption; decide +kernel
    assumption; decide +kernel; decide +kernel

theorem mv_execLogRead {c : Nat} {s : State} : MovesR 0x2400002000000000000200000000000000000000004410000000000000000000000040001030c0 s (execLogRead c s) := by
  unfold execLogRead
  with_reducible
    apply mv_onCmd; exact Moves.refl; decide +kernel; intro u x hu; apply mvIte; apply Moves.step (g := mv_finish)
    assumption; decide +kernel; apply Moves.step (g := mv_finish); apply Moves.step (g := mv_deliver); assumption
    decide +kernel; decide +kernel

theorem mv_execFeatureGet {c : Nat} {s : State} : MovesR 0x2400002000000000000200000000000000000000004410000000000000000000000000001030c0 s (execFeatureGet c s) := by
  unfold execFeatureGet
  with_reducible
    apply mv_onCmd; exact Moves.refl; decide +kernel; intro u x hu; split; apply Moves.step (g := mv_finish); assumption
    decide +kernel; apply mvIte; apply Moves.step (g := mv_finish); assumption; decide +kernel
    apply Moves.step (g := mv_finish); assumption; decide +kernel; apply Moves.step (g := mv_finish); assumption
    decide +kernel; apply Moves.step (g := mv_finish); assumption; decide +kernel

theorem mv_execFeatureSet {c : Nat} {s : State} : MovesR 0x2400002000000000000200000000000000000000004410000000000000000000000000001030c0 s (execFeatureSet c s) := by
  unfold execFeatureSet
  with_reducible
    apply mv_onCmd; exact Moves.refl; decide +kernel; intro u x hu; apply mvIte; apply Moves.step (g := mv_finish)
    refine mvMk ?_; assumption; decide +kernel; apply Moves.step (g := mv_finish); assumption; decide +kernel

theorem mv_abortRing {s : State} {n : Nat} : Moves 0x24000020000000001802000000000000088000000044100000000000000000000000000010b4e4 s (State.abortRing s n) := by
  unfold State.abortRing
  with_reducible
    apply mvFold; exact Moves.refl; intro u x hu; apply mvIte; apply Moves.step (g := mv_catchCmd)
    apply Moves.step (g := mv_setSq); assumption; decide +kernel; decide +kernel; assumption

theorem mv_sqStop {s : State} {n : Nat} : Moves 0x24000020000000001802000000000000088000000044100000000000000000000000000010b4e4 s (State.sqStop s n) := by
  unfold State.sqStop
  with_reducible
    apply Moves.step (g := mv_abortRing); apply Moves.step (g := mv_dropFetches); apply Moves.step (g := mv_setSq)
    exact Moves.refl; decide +kernel; decide +kernel; decide +kernel

theorem mv_sqEnable {s : State} {n : Nat} {b : Bool} : Moves 0x24000020000000001802000000000000088000000046110000000000000000000000000010b4e4 s (State.sqEnable s n b) := by
  unfold State.sqEnable
  with_reducible
    apply mvIte; apply Moves.step (g := mv_cfgRej); exact Moves.refl; decide +kernel; apply mvIte
    apply Moves.step (g := mv_sqStop); apply mv_enableWrite; exact Moves.refl; decide +kernel; decide +kernel
    apply mv_enableWrite; exact Moves.refl; decide +kernel

theorem mv_cqEnable {s : State} {m : Nat} {b : Bool} : Moves 0x600100000000000000000000000000000000 s (State.cqEnable s m b) := by
  unfold State.cqEnable
  with_reducible
    apply mvIte; apply Moves.step (g := mv_cfgRej); exact Moves.refl; decide +kernel; apply mv_enableWrite
    exact Moves.refl; decide +kernel

theorem mv_finishAll {s : State} {tags : List Nat} {result : Nat} : Moves 0x2400002000000000000200000000000000000000004410000000000000000000000000001030c0 s (State.finishAll s tags result) := by
  unfold State.finishAll
  with_reducible
    apply mvFold; exact Moves.refl; intro u x hu; apply Moves.step (g := mv_finish); assumption; decide +kernel

theorem mv_setSqFields {s : State} {n : Nat} {f : RingFields} : Moves 0x38000000000000000000000000000000000 s (State.setSqFields s n f) := by
  unfold State.setSqFields
  with_reducible
    apply mvSetFlag; apply mvPut; apply mvPut; apply mvPut; apply mvPut64; exact Moves.refl; decide +kernel
    decide +kernel; decide +kernel; decide +kernel; decide +kernel

theorem mv_setCqFields {s : State} {m : Nat} {f : RingFields} : Moves 0x380000000000000000000000000000000000 s (State.setCqFields s m f) := by
  unfold State.setCqFields
  with_reducible
    apply mvSetFlag; apply mvPut; apply mvPut; apply mvPut; apply mvPut64; exact Moves.refl; decide +kernel
    decide +kernel; decide +kernel; decide +kernel; decide +kernel

theorem mv_sqStarted {s : State} {n : Nat} : Moves 0x24000020000000001802000000000000088000000046100000000000000000000000000010b4e4 s (State.sqStarted s n) := by
  unfold State.sqStarted
  with_reducible
    apply mvIte; exact Moves.refl; apply mvIte; apply Moves.step (g := mv_finishAll); apply Moves.step (g := mv_setSq)
    apply mv_unitStarted; apply mvSetFlag; apply mvPut; apply mvPut; apply Moves.step (g := mv_setSq); exact Moves.refl
    decide +kernel; decide +kernel; decide +kernel; decide +kernel; decide +kernel; decide +kernel; decide +kernel
    apply Moves.step (g := mv_sqStop); apply mv_unitStarted; apply mvSetFlag; apply mvPut; apply mvPut
    apply Moves.step (g := mv_setSq); exact Moves.refl; decide +kernel; decide +kernel; decide +kernel; decide +kernel
    decide +kernel; decide +kernel

theorem mv_cqStarted {s : State} {m : Nat} : Moves 0x2400002000000000000200000000000000000000006410000000000000000000000000001030c0 s (State.cqStarted s m) := by
  unfold State.cqStarted
  with_reducible
    apply mvIte; exact Moves.refl; apply mvIte; apply Moves.step (g := mv_finishAll); apply Moves.step (g := mv_setCq)
    apply mv_unitStarted; apply mvSetFlag; apply mvPut; apply mvPut; apply Moves.step (g := mv_setCq); exact Moves.refl
    decide +kernel; decide +kernel; decide +kernel; decide +kernel; decide +kernel; decide +kernel; decide +kernel
    apply mv_unitStarted; apply mvSetFlag; apply mvPut; apply mvPut; apply Moves.step (g := mv_setCq); exact Moves.refl
    decide +kernel; decide +kernel; decide +kernel; decide +kernel; decide +kernel

theorem mv_sqDrained {s : State} {n : Nat} : Moves 0x2400002000000000000200000000000000000000004791000000000000000000000000001030c0 s (State.sqDrained s n) := by
  unfold State.sqDrained
  with_reducible
    apply mvIte; exact Moves.refl; apply mvIte; apply mvFold; apply Moves.step (g := mv_setSq)
    apply Moves.step (g := mv_cfgRej); apply mvSetFlag; apply mvPut; apply Moves.step (g := mv_finishAll); split
    apply Moves.step (g := mv_setSqFields); apply mv_unitDrained; apply Moves.step (g := mv_setSq); exact Moves.refl
    decide +kernel; decide +kernel; decide +kernel; apply mv_unitDrained; apply Moves.step (g := mv_setSq)
    exact Moves.refl; decide +kernel; decide +kernel; decide +kernel; decide +kernel; decide +kernel; decide +kernel
    decide +kernel; intro u x hu; apply Moves.step (g := mv_finish); assumption; decide +kernel
    apply Moves.step (g := mv_finishAll); split; apply Moves.step (g := mv_setSqFields); apply mv_unitDrained
    apply Moves.step (g := mv_setSq); exact Moves.refl; decide +kernel; decide +kernel; decide +kernel
    apply mv_unitDrained; apply Moves.step (g := mv_setSq); exact Moves.refl; decide +kernel; decide +kernel
    decide +kernel

theorem mv_cqDrained {s : State} {m : Nat} : Moves 0x2400002000000000000200000000000000000000007c10000000000000000000000000001030c0 s (State.cqDrained s m) := by
  unfold State.cqDrained
  with_reducible
    apply mvIte; exact Moves.refl; apply Moves.step (g := mv_finishAll); split; apply Moves.step (g := mv_setCqFields)
    apply mv_unitDrained; apply Moves.step (g := mv_setCq); exact Moves.refl; decide +kernel; decide +kernel
    decide +kernel; apply mv_unitDrained; apply Moves.step (g := mv_setCq); exact Moves.refl; decide +kernel
    decide +kernel; decide +kernel

theorem mv_execRingCreate {c : Nat} {s : State} : MovesR 0x2400002000000000180200000000000008800000007f910000000000000000000000000010b4e4 s (execRingCreate c s) := by
  unfold execRingCreate
  with_reducible
    apply mv_onCmd; exact Moves.refl; decide +kernel; intro u x hu; apply mvIte; assumption; apply mvIte; split
    apply mvIte; apply Moves.step (g := mv_finish); apply Moves.step (g := mv_cfgRej)
    apply Moves.step (g := mv_setSqFields); assumption; decide +kernel; decide +kernel; decide +kernel
    apply Moves.step (g := mv_sqEnable); apply Moves.step (g := mv_setSq); apply Moves.step (g := mv_setSqFields)
    assumption; decide +kernel; decide +kernel; decide +kernel; apply Moves.step (g := mv_sqEnable)
    apply Moves.step (g := mv_setSq); assumption; decide +kernel; decide +kernel; apply Moves.step (g := mv_finish)
    apply Moves.step (g := mv_cfgRej); assumption; decide +kernel; decide +kernel; split
    apply Moves.step (g := mv_cqEnable); apply Moves.step (g := mv_setCq); apply Moves.step (g := mv_setCqFields)
    assumption; decide +kernel; decide +kernel; decide +kernel; apply Moves.step (g := mv_cqEnable)
    apply Moves.step (g := mv_setCq); assumption; decide +kernel; decide +kernel; apply Moves.step (g := mv_finish)
    apply Moves.step (g := mv_cfgRej); assumption; decide +kernel; decide +kernel

theorem mv_execRingDelete {c : Nat} {s : State} : MovesR 0x24000020000000001802000000000000088000000066110000000000000000000000000010b4e4 s (execRingDelete c s) := by
  unfold execRingDelete
  with_reducible
    apply mv_onCmd; exact Moves.refl; decide +kernel; intro u x hu; apply mvIte; assumption; apply mvIte; apply mvIte
    apply Moves.step (g := mv_finish); assumption; decide +kernel; apply Moves.step (g := mv_setSq)
    apply Moves.step (g := mv_sqEnable); assumption; decide +kernel; decide +kernel; apply mvIte
    apply Moves.step (g := mv_finish); assumption; decide +kernel; apply mvIte; apply Moves.step (g := mv_finish)
    assumption; decide +kernel; apply Moves.step (g := mv_cqEnable); apply Moves.step (g := mv_setCq); assumption
    decide +kernel; decide +kernel

theorem mv_sendPending {s : State} {fn : Nat} : Moves 0x200000200000000000000000000000000000000000000000000000000000000000000000100000 s (State.sendPending s fn) := by
  unfold State.sendPending
  with_reducible
    apply mvFold; exact Moves.refl; intro u x hu; apply mvFold; assumption; intro u x hu; apply mvIte
    apply Moves.step (g := mv_signal); assumption; decide +kernel; assumption

theorem mv_resumeFn {s : State} {fn : Nat} : Moves 0x2400002000000000000000000000000000000000004001000000000000000000000000001000c0 s (State.resumeFn s fn) := by
  unfold State.resumeFn
  with_reducible
    apply mvIte; exact Moves.refl; apply mvIte; apply Moves.step (g := mv_sendPending); exact Moves.refl; decide +kernel
    dsimp only; split; apply Moves.step (g := mv_takeSummary); refine mvMk ?_; apply mvFold; refine mvMk ?_; apply mvFold
    apply Moves.step (g := mv_sendPending); exact Moves.refl; decide +kernel; intro u x hu
    apply Moves.step (g := mv_releaseHeld); assumption; decide +kernel; intro u x hu; apply Moves.step (g := mv_readLine)
    assumption; decide +kernel; decide +kernel; apply mvFold; refine mvMk ?_; apply mvFold
    apply Moves.step (g := mv_sendPending); exact Moves.refl; decide +kernel; intro u x hu
    apply Moves.step (g := mv_releaseHeld); assumption; decide +kernel; intro u x hu; apply Moves.step (g := mv_readLine)
    assumption; decide +kernel

end Sys2Proof.Laws
end

