-- ==== Sys2Proof/Laws/MovesFrames.lean ====
section
/-!
SUPPORT. What each definition of Machine/Frames.lean can change (Laws/Moves.lean).
-/
set_option Elab.async false

namespace Sys2Proof.Laws
open Sys2Proof.Machine

theorem mv_setFrame {s : State} {f : Frame} : Moves 0x4 s (State.setFrame s f) := by
  unfold State.setFrame
  with_reducible
    refine mvMk ?_; exact Moves.refl

theorem mv_retire {s : State} : Moves 0x4 s (State.retire s) := by
  unfold State.retire
  with_reducible
    refine mvMk ?_; exact Moves.refl

theorem mv_setQueue {s : State} {c : Nat} {q : List (Nat × Nat)} : Moves 0x200000000000000000000008 s (State.setQueue s c q) := by
  unfold State.setQueue
  with_reducible
    apply mvPut; refine mvMk ?_; exact Moves.refl; decide +kernel

theorem mv_placeQueue {s : State} {frame sort : Nat} : Moves 0x4200000000000000000000008 s (State.placeQueue s frame sort) := by
  unfold State.placeQueue
  with_reducible
    dsimp only; split; apply mvPut; apply Moves.step (g := mv_setQueue); exact Moves.refl; decide +kernel; decide +kernel
    refine mvMk ?_; exact Moves.refl

theorem mv_placeUnqueued {s : State} : Moves 0x4200000000000000000000008 s (State.placeUnqueued s) := by
  unfold State.placeUnqueued
  with_reducible
    apply mvFold; refine mvMk ?_; exact Moves.refl; intro u x hu; apply Moves.step (g := mv_placeQueue); assumption
    decide +kernel

theorem mv_purgeQueues {s : State} {frame : Nat} : Moves 0x200000000000000000000008 s (State.purgeQueues s frame) := by
  unfold State.purgeQueues
  with_reducible
    refine mvMk ?_; apply mvFold; exact Moves.refl; intro u x hu; apply Moves.step (g := mv_setQueue); assumption
    decide +kernel

theorem mv_ingest {s : State} {a : Nat} {bytes : List Byte} {bad : List Nat} : Moves 0x2000002000000000000000000000000000000000000000000f83c8000000000000000000100010 s (State.ingest s a bytes bad) := by
  unfold State.ingest
  with_reducible
    apply mvFold; exact Moves.refl; intro u x hu; apply Moves.step (g := mv_writeGalLine); assumption; decide +kernel

theorem mv_pour {s : State} {f : Frame} {bytes : List Byte} : Moves 0x2000002000000000000000000000000000000000000000000f83c8000000000000000000100010 s (State.pour s f bytes).2 := by
  unfold State.pour
  with_reducible
    apply Moves.step (g := mv_ingest); exact Moves.refl; decide +kernel

theorem mv_settle {s : State} {f : Frame} {c : CodedSort} {bad : List Nat} : Moves 0x2000002000000000000000000000000000000000000000000f83c8000000000000000000100010 s (State.settle s f c bad).2 := by
  unfold State.settle
  with_reducible
    apply Moves.step (g := mv_pour); exact Moves.refl; decide +kernel

theorem mv_settleStored {s : State} {f : Frame} {c : CodedSort} : Moves 0x2000002000000000000000000000000000000000000000000f83c8000000000000000000100010 s (State.settleStored s f c).2 := by
  unfold State.settleStored
  with_reducible
    apply Moves.step (g := mv_settle); exact Moves.refl; decide +kernel

theorem mv_settleParked {s : State} {f : Frame} {c : CodedSort} : Moves 0x2000002000000000000000000000000000000000000000000f83c8000000000000000000100010 s (State.settleParked s f c).2 := by
  unfold State.settleParked
  with_reducible
    apply Moves.step (g := mv_settle); apply Moves.step (g := mv_galRead); exact Moves.refl; decide +kernel
    decide +kernel

theorem mv_advance {s : State} {f : Frame} {k : Nat} : Moves 0x2000002000000000000000000000000000000000000000000f83c8000000000000000000100010 s (State.advance s f k).2 := by
  induction k generalizing s f  with
  | zero =>
    rw [State.advance]
    exact Moves.refl
  | succ n ih =>
    rw [State.advance]
    with_reducible
      apply mvIteSnd; exact Moves.refl; apply mvIteSnd; apply Moves.step (g := ih); exact Moves.refl; decide +kernel; split
      apply Moves.step (g := ih); apply Moves.step (g := mv_settleStored); exact Moves.refl; decide +kernel; decide +kernel
      apply Moves.step (g := ih); apply Moves.step (g := mv_settleParked); exact Moves.refl; decide +kernel; decide +kernel
      exact Moves.refl

theorem mv_advanceFrame {s : State} {num : Nat} : Moves 0x2000002000000000000000000000000000000000000000000f83c8000000000000000000100014 s (State.advanceFrame s num) := by
  unfold State.advanceFrame
  with_reducible
    split; apply mvIte; exact Moves.refl; apply Moves.step (g := mv_setFrame); apply Moves.step (g := mv_advance)
    exact Moves.refl; decide +kernel; decide +kernel; exact Moves.refl

theorem mv_park {s : State} {f : Frame} {c : CodedSort} : Moves 0x2000002000000000000000000000000000000000000000000f93c8000000000000000000100014 s (State.park s f c) := by
  unfold State.park
  with_reducible
    apply mv_event; apply mvInc; apply Moves.step (g := mv_setFrame); apply Moves.step (g := mv_galWrite)
    exact Moves.refl; decide +kernel; decide +kernel; decide +kernel; decide +kernel

theorem mv_storePeak {s : State} : Moves 0x4000000000000000000000000000 s (State.storePeak s) := by
  unfold State.storePeak
  with_reducible
    apply mvPut; exact Moves.refl; decide +kernel

theorem mv_acceptSort {s : State} {c : CodedSort} : Moves 0x2000002000000000000000000000000000000000000000000fd3c8000000000000000000100014 s (State.acceptSort s c) := by
  unfold State.acceptSort
  with_reducible
    split; exact Moves.refl; apply mvIte; exact Moves.refl; apply mvIte; apply Moves.step (g := mv_advanceFrame)
    apply Moves.step (g := mv_setFrame); apply Moves.step (g := mv_settleStored); exact Moves.refl; decide +kernel
    decide +kernel; decide +kernel; apply mvIte; apply Moves.step (g := mv_park); exact Moves.refl; decide +kernel
    apply Moves.step (g := mv_throttle); apply Moves.step (g := mv_storePeak); apply Moves.step (g := mv_setFrame)
    exact Moves.refl; decide +kernel; decide +kernel; decide +kernel

theorem mv_writeDirectory {s : State} {f : Frame} : Moves 0x2000002000000000000000000000000000000000000000000f83c8000000000000000000100010 s (State.writeDirectory s f) := by
  unfold State.writeDirectory
  with_reducible
    apply mvIte; apply Moves.step (g := mv_ingest); exact Moves.refl; decide +kernel; apply Moves.step (g := mv_ingest)
    apply Moves.step (g := mv_ingest); exact Moves.refl; decide +kernel; decide +kernel

end Sys2Proof.Laws
end

