-- ==== Sys2Proof/Laws/MovesTake.lean ====
section
/-!
SUPPORT. What each definition of Machine/Take.lean can change (Laws/Moves.lean).
-/
set_option Elab.async false

namespace Sys2Proof.Laws
open Sys2Proof.Machine

theorem mv_writeSlot {s : State} {seg : Nat} : Moves 0x2000002000000000000000000000000000000000000000000f83c8000000000000000000100014 s (State.writeSlot s seg) := by
  unfold State.writeSlot
  with_reducible
    apply Moves.step (g := mv_setTake); apply Moves.step (g := mv_ingest); exact Moves.refl; decide +kernel
    decide +kernel

theorem mv_syncSlot {s : State} {seg : Nat} : Moves 0x2000002000000000000000000000000000000000000000000f83c8000000000000000000100014 s (State.syncSlot s seg) := by
  unfold State.syncSlot
  with_reducible
    apply mvIte; exact Moves.refl; apply Moves.step (g := mv_writeSlot); exact Moves.refl; decide +kernel

theorem mv_setTakeState {s : State} {seg st : Nat} : Moves 0x2000002000000000000000000000000000000000000000000f83c8000800000000000000100034 s (State.setTakeState s seg st) := by
  unfold State.setTakeState
  with_reducible
    apply Moves.step (g := mv_noteSeg); apply Moves.step (g := mv_writeSlot); apply mvPut; exact Moves.refl
    decide +kernel; decide +kernel; decide +kernel

theorem mv_tellMember {s : State} {seg frame : Nat} {stored uncert : Bool} : Moves 0x4000 s (State.tellMember s seg frame stored uncert) := by
  unfold State.tellMember
  with_reducible
    apply mvIte; refine mvMk ?_; exact Moves.refl; exact Moves.refl

theorem mv_tellMembers {s : State} {seg : Nat} : Moves 0x4004 s (State.tellMembers s seg) := by
  unfold State.tellMembers
  with_reducible
    apply mvIte; exact Moves.refl; apply Moves.step (g := mv_setTake); apply mvFold; exact Moves.refl; intro u x hu
    apply Moves.step (g := mv_tellMember); assumption; decide +kernel; decide +kernel

theorem mv_evictHead {s : State} {seg : Nat} : Moves 0x4004 s (State.evictHead s seg) := by
  unfold State.evictHead
  with_reducible
    dsimp only; split; exact Moves.refl; apply mvIte; apply Moves.step (g := mv_tellMember)
    apply Moves.step (g := mv_setTake); exact Moves.refl; decide +kernel; decide +kernel
    apply Moves.step (g := mv_setTake); exact Moves.refl; decide +kernel

theorem mv_evictHeads {s : State} {seg : Nat} {k : Nat} : Moves 0x4004 s (State.evictHeads s seg k) := by
  induction k generalizing s seg  with
  | zero =>
    rw [State.evictHeads]
    exact Moves.refl
  | succ n ih =>
    rw [State.evictHeads]
    with_reducible
      apply Moves.step (g := ih); apply Moves.step (g := mv_evictHead); exact Moves.refl; decide +kernel; decide +kernel

theorem mv_trimLoop {s : State} {seg : Nat} {k : Nat} : Moves 0x4004 s (State.trimLoop s seg k) := by
  induction k generalizing s seg  with
  | zero =>
    rw [State.trimLoop]
    exact Moves.refl
  | succ n ih =>
    rw [State.trimLoop]
    with_reducible
      split; apply mvIte; apply Moves.step (g := ih); apply Moves.step (g := mv_evictHead); exact Moves.refl; decide +kernel
      decide +kernel; exact Moves.refl; exact Moves.refl

theorem mv_trim {s : State} {seg : Nat} : Moves 0x2000002000000000000000000000000000000000000000000f83c8000000000000000000104014 s (State.trim s seg) := by
  unfold State.trim
  with_reducible
    apply Moves.step (g := mv_syncSlot); apply Moves.step (g := mv_trimLoop); exact Moves.refl; decide +kernel
    decide +kernel

theorem mv_reserve {s : State} {seg : Nat} : MovesO 0x4004 s (State.reserve s seg) := by
  unfold State.reserve
  with_reducible
    apply mvIteO; exact mvNone; apply mvSome; apply Moves.step (g := mv_evictHeads); exact Moves.refl; decide +kernel

theorem mv_dropSpan {s : State} {seg frame : Nat} : Moves 0x2000002000000000000000000000000000000000000000000f83c8000000000000000000100014 s (State.dropSpan s seg frame) := by
  unfold State.dropSpan
  with_reducible
    dsimp only; split; apply Moves.step (g := mv_syncSlot); apply Moves.step (g := mv_setTake); exact Moves.refl
    decide +kernel; decide +kernel; apply Moves.step (g := mv_syncSlot); apply Moves.step (g := mv_setTake)
    apply Moves.step (g := mv_ingest); exact Moves.refl; decide +kernel; decide +kernel; decide +kernel; exact Moves.refl

theorem mv_tryClose {s : State} {seg : Nat} : Moves 0x2400002000000000000200000000000000000000004410000f83c80008000000000000001070f4 s (State.tryClose s seg) := by
  unfold State.tryClose
  with_reducible
    apply mvIte; exact Moves.refl; apply mvIte; apply mvIte; exact Moves.refl; apply Moves.step (g := mv_setTake)
    refine mvMk ?_; exact Moves.refl; decide +kernel; apply mvFold; apply Moves.step (g := mv_signal)
    apply Moves.step (g := mv_setTakeState); apply Moves.step (g := mv_setTake); apply mvIte; exact Moves.refl
    apply Moves.step (g := mv_setTake); refine mvMk ?_; exact Moves.refl; decide +kernel; decide +kernel; decide +kernel
    decide +kernel; intro u x hu; apply Moves.step (g := mv_finish); assumption; decide +kernel

theorem mv_finishForme {s : State} {num : Nat} : Moves 0x2400002000000000000200000000000000000000004410000f83c80008000000000000001070f4 s (State.finishForme s num) := by
  unfold State.finishForme
  with_reducible
    split; exact Moves.refl; apply mvIte; exact Moves.refl; split; dsimp only; split; apply Moves.step (g := mv_tryClose)
    apply Moves.step (g := mv_trim); apply Moves.step (g := mv_tellMembers); apply Moves.step (g := mv_setFrame)
    apply Moves.step (g := mv_setTake); split; apply Moves.step (g := mv_ingest); apply Moves.step (g := mv_ingest)
    apply Moves.step (g := mv_writeDirectory); exact Moves.refl; decide +kernel; decide +kernel; decide +kernel
    apply Moves.step (g := mv_ingest); apply Moves.step (g := mv_writeDirectory); exact Moves.refl; decide +kernel
    decide +kernel; decide +kernel; decide +kernel; decide +kernel; decide +kernel; decide +kernel; exact Moves.refl
    dsimp only; split; apply Moves.step (g := mv_tryClose); apply Moves.step (g := mv_syncSlot)
    apply Moves.step (g := mv_tellMembers); apply Moves.step (g := mv_setFrame); apply Moves.step (g := mv_setTake); split
    apply Moves.step (g := mv_ingest); apply Moves.step (g := mv_ingest); apply Moves.step (g := mv_writeDirectory)
    exact Moves.refl; decide +kernel; decide +kernel; decide +kernel; apply Moves.step (g := mv_ingest)
    apply Moves.step (g := mv_writeDirectory); exact Moves.refl; decide +kernel; decide +kernel; decide +kernel
    decide +kernel; decide +kernel; decide +kernel; decide +kernel; exact Moves.refl

theorem mv_finishFormes {s : State} : Moves 0x2400002000000000000200000000000000000000004410000f83c80008000000000000001070f4 s (State.finishFormes s) := by
  unfold State.finishFormes
  with_reducible
    apply mvFold; exact Moves.refl; intro u x hu; apply Moves.step (g := mv_finishForme); assumption; decide +kernel

theorem mv_markComplete {s : State} {num : Nat} : Moves 0x2400002000000000000200000000000000000000004410000f83c80008000000000000001070f4 s (State.markComplete s num) := by
  unfold State.markComplete
  with_reducible
    split; exact Moves.refl; apply mvIte; exact Moves.refl; apply Moves.step (g := mv_finishForme)
    apply Moves.step (g := mv_setFrame); apply Moves.step (g := mv_setTake); exact Moves.refl; decide +kernel
    decide +kernel; decide +kernel

theorem mv_passAbort {s : State} {tag : Nat} : Moves 0x80 s (State.passAbort s tag) := by
  unfold State.passAbort
  with_reducible
    split; apply Moves.step (g := mv_setCmd); exact Moves.refl; decide +kernel; exact Moves.refl

theorem mv_beginClosing {s : State} {seg : Nat} : Moves 0x2400002000000000000200000000000000000000004410000f83c80008000000000000001070f4 s (State.beginClosing s seg) := by
  unfold State.beginClosing
  with_reducible
    apply mvIte; exact Moves.refl; apply Moves.step (g := mv_tryClose); apply mvFold
    apply Moves.step (g := mv_tellMembers); apply mvFold; apply Moves.step (g := mv_setTakeState)
    apply Moves.step (g := mv_setTake); apply mvIte; refine mvMk ?_; exact Moves.refl; exact Moves.refl; decide +kernel
    decide +kernel; intro u x hu; apply Moves.step (g := mv_passAbort); assumption; decide +kernel; decide +kernel
    intro u x hu; apply Moves.step (g := mv_finishForme); assumption; decide +kernel; decide +kernel

theorem mv_setTrig {s : State} {i : Nat} {t : TrigSt} : Moves 0x4 s (State.setTrig s i t) := by
  unfold State.setTrig
  with_reducible
    refine mvMk ?_; exact Moves.refl

theorem mv_discardForme {s : State} {seg num : Nat} : Moves 0x2000002000000000000000000000000000000000000000000f83c820000000000000000010401c s (State.discardForme s seg num) := by
  unfold State.discardForme
  with_reducible
    split; apply Moves.step (g := mv_dropSpan); apply Moves.step (g := mv_tellMember)
    apply Moves.step (g := mv_purgeQueues); apply Moves.step (g := mv_setFrame); exact Moves.refl; decide +kernel
    decide +kernel; decide +kernel; decide +kernel; exact Moves.refl

theorem mv_checkLimit {s : State} {seg : Nat} : Moves 0x2400002000000000000200000000000000000000004410000f83c82008000000000000001070fc s (State.checkLimit s seg) := by
  unfold State.checkLimit
  with_reducible
    split; apply mvIte; exact Moves.refl; apply mvIte; exact Moves.refl; apply Moves.step (g := mv_beginClosing)
    apply mvFold; exact Moves.refl; intro u x hu; apply Moves.step (g := mv_discardForme); assumption; decide +kernel
    decide +kernel; exact Moves.refl

theorem mv_limitCheck {s : State} : Moves 0x2400002000000000000200000000000000000000004410000f83c82008000000000000001070fc s (State.limitCheck s) := by
  unfold State.limitCheck
  with_reducible
    split; apply Moves.step (g := mv_checkLimit); exact Moves.refl; decide +kernel; exact Moves.refl

theorem mv_fixTrigger {s : State} {seg n time input : Nat} : Moves 0x2400002000000000000200000000000000000000004410000f83c82008000000000000001070fc s (State.fixTrigger s seg n time input) := by
  unfold State.fixTrigger
  with_reducible
    apply mvIte; apply Moves.step (g := mv_checkLimit); apply Moves.step (g := mv_tellMembers)
    apply Moves.step (g := mv_setTakeState); apply Moves.step (g := mv_trim); apply Moves.step (g := mv_setTake)
    exact Moves.refl; decide +kernel; decide +kernel; decide +kernel; decide +kernel; decide +kernel
    apply Moves.step (g := mv_tellMembers); apply Moves.step (g := mv_setTakeState); apply Moves.step (g := mv_trim)
    apply Moves.step (g := mv_setTake); exact Moves.refl; decide +kernel; decide +kernel; decide +kernel; decide +kernel

theorem mv_judgeTake {s : State} {seg : Nat} {armed : Bool} : Moves 0x2400002000000000000200000000000000000000004410000f83c82008000000000000001070fc s (State.judgeTake s seg armed) := by
  unfold State.judgeTake
  with_reducible
    apply mvIte; exact Moves.refl; apply mvIte; apply mvIte; exact Moves.refl; apply mvIte
    apply Moves.step (g := mv_fixTrigger); apply Moves.step (g := mv_setTake); exact Moves.refl; decide +kernel
    decide +kernel; apply Moves.step (g := mv_setTake); exact Moves.refl; decide +kernel
    apply Moves.step (g := mv_fixTrigger); exact Moves.refl; decide +kernel

theorem mv_makeCurrent {s : State} {seg : Nat} : Moves 0x2400002000000000000200000000000000000000004410000f83c82008000000000000001070fc s (State.makeCurrent s seg) := by
  unfold State.makeCurrent
  with_reducible
    apply mvIte; apply Moves.step (g := mv_judgeTake); apply Moves.step (g := mv_setTakeState); apply mvIte
    refine mvMk ?_; apply Moves.step (g := mv_setTake); exact Moves.refl; decide +kernel
    apply Moves.step (g := mv_setTake); exact Moves.refl; decide +kernel; decide +kernel; decide +kernel
    apply Moves.step (g := mv_setTakeState); apply mvIte; refine mvMk ?_; apply Moves.step (g := mv_setTake)
    exact Moves.refl; decide +kernel; apply Moves.step (g := mv_setTake); exact Moves.refl; decide +kernel; decide +kernel

theorem mv_promote {s : State} {k : Nat} : Moves 0x2400002000000000000200000000000000000000004410000f83c82008000000000000001070fc s (State.promote s k) := by
  induction k generalizing s  with
  | zero =>
    rw [State.promote]
    exact Moves.refl
  | succ n ih =>
    rw [State.promote]
    with_reducible
      split; apply Moves.step (g := ih); apply Moves.step (g := mv_makeCurrent); exact Moves.refl; decide +kernel
      decide +kernel; exact Moves.refl

theorem mv_chain {s : State} : Moves 0x2400002000000000000200000000000000000000004410000f83c82008000000000000001070fc s (State.chain s) := by
  unfold State.chain
  with_reducible
    apply Moves.step (g := mv_promote); exact Moves.refl; decide +kernel

theorem mv_stopCheck {s : State} : Moves 0x2400002000000000000200000000000000000000004410000f83c80008000000000000001070f4 s (State.stopCheck s) := by
  unfold State.stopCheck
  with_reducible
    split; exact Moves.refl; apply mvIte; exact Moves.refl; apply Moves.step (g := mv_beginClosing); refine mvMk ?_
    exact Moves.refl; decide +kernel

theorem mv_cutClose {s : State} {seg : Nat} : Moves 0x2400002000000000000200000000000000000000004410000f83c82008000000000000001070fc s (State.cutClose s seg) := by
  unfold State.cutClose
  with_reducible
    apply mvIte; exact Moves.refl; apply mvIte; apply Moves.step (g := mv_tryClose); apply Moves.step (g := mv_setTake)
    apply mvFold; apply mvFold; exact Moves.refl; intro u x hu; apply Moves.step (g := mv_markComplete); assumption
    decide +kernel; intro u x hu; apply Moves.step (g := mv_discardForme); assumption; decide +kernel; decide +kernel
    decide +kernel; apply Moves.step (g := mv_beginClosing); apply Moves.step (g := mv_setTake); apply mvFold
    apply mvFold; exact Moves.refl; intro u x hu; apply Moves.step (g := mv_markComplete); assumption; decide +kernel
    intro u x hu; apply Moves.step (g := mv_discardForme); assumption; decide +kernel; decide +kernel; decide +kernel

theorem mv_cutTakes {s : State} : Moves 0x2400002000000000000200000000000000000000004410000f83c82008000000000000001070fc s (State.cutTakes s) := by
  unfold State.cutTakes
  with_reducible
    apply Moves.step (g := mv_chain); apply mvFold; exact Moves.refl; intro u x hu; apply Moves.step (g := mv_cutClose)
    assumption; decide +kernel; decide +kernel

theorem mv_dropAssembly {s : State} {num : Nat} : Moves 0x2400002000000000000200000000000000000000004410000f83c82008010080000000001070fc s (State.dropAssembly s num) := by
  unfold State.dropAssembly
  with_reducible
    split; exact Moves.refl; apply mvIte; apply Moves.step (g := mv_purgeQueues); apply Moves.step (g := mv_setFrame)
    exact Moves.refl; decide +kernel; decide +kernel; split; apply mv_event; apply mvInc
    apply Moves.step (g := mv_purgeQueues); apply Moves.step (g := mv_setFrame); exact Moves.refl; decide +kernel
    decide +kernel; decide +kernel; decide +kernel; apply mvIte; apply mv_event; apply mvInc
    apply Moves.step (g := mv_purgeQueues); apply Moves.step (g := mv_setFrame); exact Moves.refl; decide +kernel
    decide +kernel; decide +kernel; decide +kernel; apply Moves.step (g := mv_chain); apply Moves.step (g := mv_stopCheck)
    apply Moves.step (g := mv_tryClose); apply Moves.step (g := mv_dropSpan); apply Moves.step (g := mv_tellMember)
    apply Moves.step (g := mv_setTake); apply mv_event; apply mvInc; apply Moves.step (g := mv_purgeQueues)
    apply Moves.step (g := mv_setFrame); exact Moves.refl; decide +kernel; decide +kernel; decide +kernel; decide +kernel
    decide +kernel; decide +kernel; decide +kernel; decide +kernel; decide +kernel; decide +kernel

theorem mv_countOwed {s : State} {num : Nat} : Moves 0x200000200000000000000000000000000000000000000000000000000002008000000000100004 s (State.countOwed s num) := by
  unfold State.countOwed
  with_reducible
    split; exact Moves.refl; apply mvIte; exact Moves.refl; split; apply mvIte; apply mv_event; apply mvInc
    apply Moves.step (g := mv_setFrame); exact Moves.refl; decide +kernel; decide +kernel; decide +kernel
    apply Moves.step (g := mv_setTake); apply mv_event; apply mvInc; apply Moves.step (g := mv_setFrame); exact Moves.refl
    decide +kernel; decide +kernel; decide +kernel; decide +kernel; apply mv_event; apply mvInc
    apply Moves.step (g := mv_setFrame); exact Moves.refl; decide +kernel; decide +kernel; decide +kernel

theorem mv_takeSlots {s : State} {num line : Nat} : Moves 0x2400002000000000000200000000000000000000004410000f83c82008050080000000001070fc s (State.takeSlots s num line).2 := by
  unfold State.takeSlots
  with_reducible
    split; exact Moves.refl; apply mvIteSnd; exact Moves.refl; apply mvIteSnd; exact Moves.refl; apply mvIteSnd
    apply Moves.step (g := mv_dropAssembly); exact Moves.refl; decide +kernel; apply mvPut
    apply Moves.step (g := mv_setFrame); exact Moves.refl; decide +kernel; decide +kernel

theorem mv_cutRow {s : State} {num r : Nat} : Moves 0x2000002000000000000000000000000000000000000000000f83cc20000000000000000010001c s (State.cutRow s num r) := by
  unfold State.cutRow
  with_reducible
    split; exact Moves.refl; apply mvIte; exact Moves.refl; apply mvIte; apply Moves.step (g := mv_advanceFrame)
    apply mvFold; apply Moves.step (g := mv_setFrame); exact Moves.refl; decide +kernel; intro u x hu
    apply Moves.step (g := mv_placeQueue); assumption; decide +kernel; decide +kernel; apply Moves.step (g := mv_setFrame)
    exact Moves.refl; decide +kernel

theorem mv_cutRows {s : State} {num : Nat} : Moves 0x2000002000000000000000000000000000000000000000000f83cc20000000000000000010001c s (State.cutRows s num) := by
  unfold State.cutRows
  with_reducible
    split; exact Moves.refl; apply mvFold; exact Moves.refl; intro u x hu; apply Moves.step (g := mv_cutRow); assumption
    decide +kernel

theorem mv_closeFrame {s : State} {num : Nat} : Moves 0x2400002000000000000200000000000000000000004410000f83cc2008000000000000001070fc s (State.closeFrame s num) := by
  unfold State.closeFrame
  with_reducible
    split; exact Moves.refl; apply mvIte; apply Moves.step (g := mv_retire); apply Moves.step (g := mv_chain)
    apply Moves.step (g := mv_stopCheck); apply Moves.step (g := mv_limitCheck); apply Moves.step (g := mv_cutRows)
    apply Moves.step (g := mv_setFrame); exact Moves.refl; decide +kernel; decide +kernel; decide +kernel; decide +kernel
    decide +kernel; decide +kernel; exact Moves.refl

theorem mv_noSpace {s : State} {seg num : Nat} : Moves 0x2400002000000000000200000000000000000000004410000f83c80008020080000000001070f4 s (State.noSpace s seg num) := by
  unfold State.noSpace
  with_reducible
    apply mvIte; apply Moves.step (g := mv_tellMember); apply mv_event; apply mvInc; apply Moves.step (g := mv_setTake)
    split; apply Moves.step (g := mv_setFrame); exact Moves.refl; decide +kernel; exact Moves.refl; decide +kernel
    decide +kernel; decide +kernel; decide +kernel; apply Moves.step (g := mv_beginClosing); split
    apply Moves.step (g := mv_setFrame); exact Moves.refl; decide +kernel; exact Moves.refl; decide +kernel

theorem mv_fixFrom {s : State} {seg n : Nat} : Moves 0x2400002000000000000200000000000000000000004410000f83c82008000000000000003070fc s (State.fixFrom s seg n) := by
  unfold State.fixFrom
  with_reducible
    split; apply Moves.step (g := mv_fixTrigger); exact Moves.refl; decide +kernel; apply Moves.step (g := mv_fixTrigger)
    apply mvFree; exact Moves.refl; decide +kernel; decide +kernel

theorem mv_assignFrame {s : State} {num seq : Nat} : Moves 0x2400002000000000000200000000000000000000004410000f83c82008020080000000003070fc s (State.assignFrame s num seq) := by
  unfold State.assignFrame
  with_reducible
    split; exact Moves.refl; dsimp only; split; apply Moves.step (g := mv_noSpace); apply mvIte
    apply Moves.step (g := mv_noteSeg); apply Moves.step (g := mv_setTake); exact Moves.refl; decide +kernel
    decide +kernel; exact Moves.refl; decide +kernel; apply mvIte; apply Moves.step (g := mv_syncSlot)
    apply Moves.step (g := mv_ingest); split; apply Moves.step (g := mv_setFrame); apply Moves.step (g := mv_setTake)
    apply Moves.step (g := MovesO.run mv_reserve (by assumption)); apply mvIte; apply Moves.step (g := mv_noteSeg)
    apply Moves.step (g := mv_setTake); exact Moves.refl; decide +kernel; decide +kernel; exact Moves.refl; decide +kernel
    decide +kernel; decide +kernel; apply Moves.step (g := mv_setTake)
    apply Moves.step (g := MovesO.run mv_reserve (by assumption)); apply mvIte; apply Moves.step (g := mv_noteSeg)
    apply Moves.step (g := mv_setTake); exact Moves.refl; decide +kernel; decide +kernel; exact Moves.refl; decide +kernel
    decide +kernel; decide +kernel; decide +kernel; split; apply mvIte; apply Moves.step (g := mv_fixFrom)
    apply Moves.step (g := mv_trim); apply Moves.step (g := mv_syncSlot); apply Moves.step (g := mv_ingest); split
    apply Moves.step (g := mv_setFrame); apply Moves.step (g := mv_setTake)
    apply Moves.step (g := MovesO.run mv_reserve (by assumption)); apply mvIte; apply Moves.step (g := mv_noteSeg)
    apply Moves.step (g := mv_setTake); exact Moves.refl; decide +kernel; decide +kernel; exact Moves.refl; decide +kernel
    decide +kernel; decide +kernel; apply Moves.step (g := mv_setTake)
    apply Moves.step (g := MovesO.run mv_reserve (by assumption)); apply mvIte; apply Moves.step (g := mv_noteSeg)
    apply Moves.step (g := mv_setTake); exact Moves.refl; decide +kernel; decide +kernel; exact Moves.refl; decide +kernel
    decide +kernel; decide +kernel; decide +kernel; decide +kernel; decide +kernel; apply Moves.step (g := mv_trim)
    apply Moves.step (g := mv_syncSlot); apply Moves.step (g := mv_ingest); split; apply Moves.step (g := mv_setFrame)
    apply Moves.step (g := mv_setTake); apply Moves.step (g := MovesO.run mv_reserve (by assumption)); apply mvIte
    apply Moves.step (g := mv_noteSeg); apply Moves.step (g := mv_setTake); exact Moves.refl; decide +kernel
    decide +kernel; exact Moves.refl; decide +kernel; decide +kernel; decide +kernel; apply Moves.step (g := mv_setTake)
    apply Moves.step (g := MovesO.run mv_reserve (by assumption)); apply mvIte; apply Moves.step (g := mv_noteSeg)
    apply Moves.step (g := mv_setTake); exact Moves.refl; decide +kernel; decide +kernel; exact Moves.refl; decide +kernel
    decide +kernel; decide +kernel; decide +kernel; decide +kernel; apply Moves.step (g := mv_trim)
    apply Moves.step (g := mv_syncSlot); apply Moves.step (g := mv_ingest); split; apply Moves.step (g := mv_setFrame)
    apply Moves.step (g := mv_setTake); apply Moves.step (g := MovesO.run mv_reserve (by assumption)); apply mvIte
    apply Moves.step (g := mv_noteSeg); apply Moves.step (g := mv_setTake); exact Moves.refl; decide +kernel
    decide +kernel; exact Moves.refl; decide +kernel; decide +kernel; decide +kernel; apply Moves.step (g := mv_setTake)
    apply Moves.step (g := MovesO.run mv_reserve (by assumption)); apply mvIte; apply Moves.step (g := mv_noteSeg)
    apply Moves.step (g := mv_setTake); exact Moves.refl; decide +kernel; decide +kernel; exact Moves.refl; decide +kernel
    decide +kernel; decide +kernel; decide +kernel; decide +kernel

theorem mv_closeAtOpen {s : State} {seq : Nat} : Moves 0x2400002000000000000200000000000000000000004410000f83c80008000000000000001070f4 s (State.closeAtOpen s seq) := by
  unfold State.closeAtOpen
  with_reducible
    split; apply mvIte; apply Moves.step (g := mv_beginClosing); exact Moves.refl; decide +kernel; exact Moves.refl
    exact Moves.refl

theorem mv_openFrame {s : State} {seq : Nat} : Moves 0x2400002000000000000200000000000000000000004410000f83cc2008023080000000003070fc s (State.openFrame s seq) := by
  unfold State.openFrame
  with_reducible
    apply Moves.step (g := mv_retire); apply Moves.step (g := mv_chain); apply Moves.step (g := mv_assignFrame)
    apply Moves.step (g := mv_chain); apply Moves.step (g := mv_closeAtOpen); apply Moves.step (g := mv_finishFormes)
    apply mvIte; refine mvMk ?_; apply mvPut64; refine mvMk ?_; apply mvIte; split; apply Moves.step (g := mv_closeFrame)
    exact Moves.refl; decide +kernel; exact Moves.refl; exact Moves.refl; decide +kernel; apply mvPut64; refine mvMk ?_
    apply mvIte; split; apply Moves.step (g := mv_closeFrame); exact Moves.refl; decide +kernel; exact Moves.refl
    exact Moves.refl; decide +kernel; decide +kernel; decide +kernel; decide +kernel; decide +kernel; decide +kernel
    decide +kernel

theorem mv_excludePorts {s : State} {num : Nat} {ps : List Nat} : Moves 0x2000002000000000000000000000000000000000000000000f83cc20000080800000000010001c s (State.excludePorts s num ps) := by
  unfold State.excludePorts
  with_reducible
    split; exact Moves.refl; apply mvIte; exact Moves.refl; apply Moves.step (g := mv_cutRows); apply mv_event
    apply mvAdd; apply Moves.step (g := mv_setFrame); exact Moves.refl; decide +kernel; decide +kernel; decide +kernel
    decide +kernel

theorem mv_execFsSkewTimeout {frame : Nat} {s : State} : MovesR 0x2000002000000000000000000000000000000000000000000f83cc20000080800000000010001c s (execFsSkewTimeout frame s) := by
  unfold execFsSkewTimeout
  with_reducible
    split; apply mvNext; exact Moves.refl; apply mvIteR; apply mvNext; exact Moves.refl; apply mvNext
    apply Moves.step (g := mv_excludePorts); exact Moves.refl; decide +kernel

theorem mv_execFormeComplete {frame : Nat} {s : State} : MovesR 0x2400002000000000000200000000000000000000004410000f83c82008000000000000001070fc s (execFormeComplete frame s) := by
  unfold execFormeComplete
  with_reducible
    apply mvNext; apply Moves.step (g := mv_retire); apply Moves.step (g := mv_chain)
    apply Moves.step (g := mv_stopCheck); apply Moves.step (g := mv_markComplete); exact Moves.refl; decide +kernel
    decide +kernel; decide +kernel; decide +kernel

theorem mv_execCertTimeReturned {s : State} : MovesR 0x2400002000000000000000000000000000000000004410000000000000000000000000001050c4 s (execCertTimeReturned s) := by
  unfold execCertTimeReturned
  with_reducible
    split; apply mvNext; exact Moves.refl; dsimp only; split; apply mvNext; apply mvIte; refine mvMk ?_; exact Moves.refl
    apply Moves.step (g := mv_setFrame); refine mvMk ?_; exact Moves.refl; decide +kernel; apply mvNext; refine mvMk ?_
    exact Moves.refl

theorem mv_execColophonRecordReceived {seg : SegIx} {s : State} : MovesR 0x2400002000000000000200000000000000000000004410000f83c82008000000000000001070fc s (execColophonRecordReceived seg s) := by
  unfold execColophonRecordReceived
  with_reducible
    split; apply mvNext; exact Moves.refl; apply mvIteR; apply mvNext; refine mvMk ?_; exact Moves.refl; apply mvNext
    apply Moves.step (g := mv_chain); apply Moves.step (g := mv_tryClose); apply Moves.step (g := mv_setTake)
    apply Moves.step (g := mv_ingest); refine mvMk ?_; exact Moves.refl; decide +kernel; decide +kernel; decide +kernel
    decide +kernel

theorem mv_execColophonRecordTimeout {seg : SegIx} {s : State} : MovesR 0x2400002000000000000200000000000000000000004410000f83c82008000000000000001070fc s (execColophonRecordTimeout seg s) := by
  unfold execColophonRecordTimeout
  with_reducible
    apply mvIteR; apply mvNext; exact Moves.refl; apply mvNext; apply Moves.step (g := mv_chain)
    apply Moves.step (g := mv_tryClose); apply Moves.step (g := mv_setTake); exact Moves.refl; decide +kernel
    decide +kernel; decide +kernel

end Sys2Proof.Laws
end

