-- ==== Sys2Proof/Laws/MovesArm.lean ====
section
/-!
SUPPORT. What each definition of Machine/Arm.lean can change (Laws/Moves.lean).
-/
set_option Elab.async false

namespace Sys2Proof.Laws
open Sys2Proof.Machine

theorem mv_qualify {s : State} {i t0 : Nat} : Moves 0x2400002000000000000200000000000000000000004410000f83c8200b800000000000001070fc s (State.qualify s i t0) := by
  unfold State.qualify
  with_reducible
    dsimp only; split; split; apply mvIte; apply mvPut64; apply mvInc; exact Moves.refl; decide +kernel; decide +kernel
    apply Moves.step (g := mv_setFrame); apply mvPut64; apply mvInc; exact Moves.refl; decide +kernel; decide +kernel
    decide +kernel; apply mvPut64; apply mvInc; exact Moves.refl; decide +kernel; decide +kernel; apply mvIte; split
    apply mvIte; apply mvPut64; apply mvInc; exact Moves.refl; decide +kernel; decide +kernel
    apply Moves.step (g := mv_setFrame); apply mvPut64; apply mvInc; exact Moves.refl; decide +kernel; decide +kernel
    decide +kernel; apply mvPut64; apply mvInc; exact Moves.refl; decide +kernel; decide +kernel
    apply Moves.step (g := mv_chain); apply Moves.step (g := mv_judgeTake); apply Moves.step (g := mv_setTake); split
    apply mvIte; apply mvPut64; apply mvInc; exact Moves.refl; decide +kernel; decide +kernel
    apply Moves.step (g := mv_setFrame); apply mvPut64; apply mvInc; exact Moves.refl; decide +kernel; decide +kernel
    decide +kernel; apply mvPut64; apply mvInc; exact Moves.refl; decide +kernel; decide +kernel; decide +kernel
    decide +kernel; decide +kernel

theorem mv_settleTrig {s : State} {i : Nat} : Moves 0x2400002000000000000200000000000000000000004410000f83c8200b800000000000001070fc s (State.settleTrig s i) := by
  unfold State.settleTrig
  with_reducible
    dsimp only; split; apply mvIte; exact Moves.refl; apply mvIte; apply Moves.step (g := mv_qualify)
    apply Moves.step (g := mv_setTrig); exact Moves.refl; decide +kernel; decide +kernel
    apply Moves.step (g := mv_setTrig); exact Moves.refl; decide +kernel; exact Moves.refl

theorem mv_execTriggerEdge {t : TrigIx} {level : Bool} {s : State} : MovesR 0x2400002000000000000200000000000000000000004410000f83c8200b800000000000001070fc s (execTriggerEdge t level s) := by
  unfold execTriggerEdge
  with_reducible
    apply mvIteR; apply mvNext; apply Moves.step (g := mv_settleTrig); exact Moves.refl; decide +kernel; apply mvNext
    apply Moves.step (g := mv_setTrig); apply Moves.step (g := mv_settleTrig); exact Moves.refl; decide +kernel
    decide +kernel

theorem mv_execTriggerQualifyingEvent {t : TrigIx} {s : State} : MovesR 0x2400002000000000000200000000000000000000004410000f83c8200b800000000000001070fc s (execTriggerQualifyingEvent t s) := by
  unfold execTriggerQualifyingEvent
  with_reducible
    apply mvIteR; apply mvNext; apply Moves.step (g := mv_settleTrig); exact Moves.refl; decide +kernel; apply mvNext
    exact Moves.refl

theorem mv_execTriggerLevelInactive {t : TrigIx} {s : State} : MovesR 0x2400002000000000000200000000000000000000004410000f83c8200b800000000000001070fc s (execTriggerLevelInactive t s) := by
  unfold execTriggerLevelInactive
  with_reducible
    apply mvIteR; apply mvNext; apply Moves.step (g := mv_settleTrig); exact Moves.refl; decide +kernel; apply mvNext
    exact Moves.refl

theorem mv_createTake {s : State} {seg id : Nat} {p : TakeParams} {first : Option Nat} : Moves 0x2000002000000000000000000000000000000000000000000f83c8003800000000000000100034 s (State.createTake s seg id p first) := by
  unfold State.createTake
  with_reducible
    apply Moves.step (g := mv_setTakeState); apply Moves.step (g := mv_ingest); apply mvPut; apply mvPut; apply mvPut
    apply Moves.step (g := mv_setTake); refine mvMk ?_; exact Moves.refl; decide +kernel; decide +kernel; decide +kernel
    decide +kernel; decide +kernel; decide +kernel

theorem mv_execArm {c : Nat} {s : State} : MovesR 0x2400002000000000000200000000000000000000004410000f83c82038000000000000001070fc s (execArm c s) := by
  unfold execArm
  with_reducible
    apply mv_onCmd; exact Moves.refl; decide +kernel; intro u x hu; apply mvIte; apply Moves.step (g := mv_finish)
    assumption; decide +kernel; split; apply Moves.step (g := mv_finish); assumption; decide +kernel
    apply Moves.step (g := mv_finish); apply mvIte; apply Moves.step (g := mv_createTake); assumption; decide +kernel
    apply Moves.step (g := mv_chain); apply Moves.step (g := mv_createTake); assumption; decide +kernel; decide +kernel
    decide +kernel

theorem mv_toIdle {s : State} {seg : Nat} : Moves 0x2000002000000000000000000000000000000000000000000f83c8000800000000000000100034 s (State.toIdle s seg) := by
  unfold State.toIdle
  with_reducible
    refine mvMk ?_; apply Moves.step (g := mv_setTakeState); apply mvSetFlag; exact Moves.refl; decide +kernel
    decide +kernel

theorem mv_execStop {c : Nat} {s : State} : MovesR 0x2400002000000000000200000000000000000000004410000f83c8200b800000000000001070fc s (execStop c s) := by
  unfold execStop
  with_reducible
    apply mv_onCmd; exact Moves.refl; decide +kernel; intro u x hu; apply mvIte; assumption; apply mvIte
    apply Moves.step (g := mv_finish); assumption; decide +kernel; apply mvIte; apply Moves.step (g := mv_finish)
    assumption; decide +kernel; split; apply Moves.step (g := mv_finish); apply Moves.step (g := mv_finishAll)
    apply Moves.step (g := mv_toIdle); assumption; decide +kernel; decide +kernel; decide +kernel
    apply Moves.step (g := mv_finish); assumption; decide +kernel; apply Moves.step (g := mv_setCmd)
    apply Moves.step (g := mv_setTake); assumption; decide +kernel; decide +kernel; split
    apply Moves.step (g := mv_noteSeg); apply Moves.step (g := mv_setTake); apply Moves.step (g := mv_setCmd)
    apply Moves.step (g := mv_setTake); assumption; decide +kernel; decide +kernel; decide +kernel; decide +kernel
    apply Moves.step (g := mv_chain); apply Moves.step (g := mv_beginClosing); apply mvFold
    apply Moves.step (g := mv_setCmd); apply Moves.step (g := mv_setTake); assumption; decide +kernel; decide +kernel
    intro u x hu; apply Moves.step (g := mv_settleTrig); assumption; decide +kernel; decide +kernel; decide +kernel

theorem mv_execRelease {c : Nat} {s : State} : MovesR 0x2400002000000000000200000000000000000000004410000f83c80008000000000000001030f4 s (execRelease c s) := by
  unfold execRelease
  with_reducible
    apply mv_onCmd; exact Moves.refl; decide +kernel; intro u x hu; apply mvIte; assumption; apply mvIte
    apply Moves.step (g := mv_finish); assumption; decide +kernel; apply mvIte; apply mvSetFlag; assumption
    decide +kernel; apply Moves.step (g := mv_finish); apply Moves.step (g := mv_toIdle); assumption; decide +kernel
    decide +kernel

theorem mv_execReleaseHeldComplete {seg : SegIx} {s : State} : MovesR 0x2400002000000000000200000000000000000000004410000f83c80008000000000000001030f4 s (execReleaseHeldComplete seg s) := by
  unfold execReleaseHeldComplete
  with_reducible
    apply mvIteR; apply mvNext; exact Moves.refl; apply mvIteR; apply mvNext; apply mvSetFlag; exact Moves.refl
    decide +kernel; apply mvNext; apply mvFold; apply Moves.step (g := mv_toIdle); exact Moves.refl; decide +kernel
    intro u x hu; apply Moves.step (g := mv_finish); assumption; decide +kernel

theorem mvMirrored {M : Nat} {s t : State} {k : Nat} {v : Word} (h : Moves M s t) (hk : mirrored k = true)
    (hc : (covers M 0x300010 0 1 && covers M 0x300014 0 1 && covers M 0x300100 8 32 && covers M 0x300104 8 32 && covers M 0x300200 16 8 &&
      covers M 0x300300 16 16) = true) : Moves M s (t.write k v) := by
  simp only [Bool.and_eq_true] at hc
  obtain ⟨⟨⟨⟨⟨c1, c2⟩, c3⟩, c4⟩, c5⟩, c6⟩ := hc
  have key : ∀ b st n i, covers M b st n = true → i < n → k = b + st * i → Moves M s (t.write k v) := by
    intro b st n i hb hi e
    unfold State.write
    generalize t.written k v = w
    rw [e]
    exact mvWr h hb hi
  unfold mirrored at hk
  simp only [Bool.and_eq_true, Bool.or_eq_true, decide_eq_true_eq, beq_iff_eq] at hk
  obtain ⟨h0, h1⟩ := hk
  rcases h1 with ((h1 | h1) | h1) | h1
  · rcases h1 with h1 | h1
    · exact key _ _ _ 0 c1 (by omega) (by omega)
    · exact key _ _ _ 0 c2 (by omega) (by omega)
  · by_cases e : (k - 0x300000) % 8 = 0
    · exact key _ _ _ ((k - 0x300000 - 0x100) / 8) c3 (by omega) (by omega)
    · exact key _ _ _ ((k - 0x300000 - 0x100) / 8) c4 (by omega) (by omega)
  · exact key _ _ _ ((k - 0x300000 - 0x200) / 16) c5 (by omega) (by omega)
  · exact key _ _ _ ((k - 0x300000 - 0x300) / 16) c6 (by omega) (by omega)

theorem mv_capWrite {s : State} {addr : Nat} {v : Word} (h : mirrored addr = true) : Moves 0x2400002000000000000200000000000000000000004410000f83c8200ff00300000000001070fc s (State.capWrite s addr v) := by
  have w : ∀ u : State, Moves 0x2400002000000000000200000000000000000000004410000f83c8200ff00300000000001070fc s u → Moves 0x2400002000000000000200000000000000000000004410000f83c8200ff00300000000001070fc s (u.write addr v) := fun u hu => mvMirrored hu h (by decide +kernel)
  unfold State.capWrite
  dsimp only
  refine mvIte ?_ (w _ Moves.refl)
  have g : Moves 0x2400002000000000000200000000000000000000004410000f83c8200ff00300000000001070fc s (((s.settleTrig ((addr - 0x300000 - 0x200) / 16)).write addr v)) := w _ (mv_settleTrig.mono (by decide +kernel))
  split
  · refine mvIte (Moves.step (Moves.step (Moves.step g mv_setTrig (by decide +kernel)) mv_judgeTake (by decide +kernel)) mv_chain (by decide +kernel)) ?_
    exact Moves.step g mv_setTrig (by decide +kernel)
  · exact Moves.step g mv_setTrig (by decide +kernel)

theorem mv_execCapConfigWrite {addr : Nat} {v : Word} {s : State} : MovesR 0x2400002000000000000200000000000000000000004410000f83c8200ff00380000000001070fc s (execCapConfigWrite addr v s) := by
  unfold execCapConfigWrite
  split
  · exact mvNext Moves.refl
  · next hm =>
    have h : mirrored addr = true := by
      cases g : mirrored addr with
      | true => rfl
      | false => rw [g] at hm; exact absurd rfl hm
    have w : Moves 0x2400002000000000000200000000000000000000004410000f83c8200ff00380000000001070fc s (s.capWrite addr v) := (mv_capWrite h).mono (by decide +kernel)
    refine mvIteR (mvNext Moves.refl) (mvIteR (mvNext (mv_event Moves.refl (by decide +kernel))) (mvNext (mvIte ?_ w)))
    exact mvMk w

theorem mv_markStop {s : State} : Moves 0x4 s (State.markStop s) := by
  unfold State.markStop
  with_reducible
    apply mvIte; refine mvMk ?_; exact Moves.refl; exact Moves.refl

theorem mv_capEnable {s : State} {b : Bool} : Moves 0x2400002000000000000200000000000000000000004410000f83c820080000c0000000001070fc s (State.capEnable s b) := by
  unfold State.capEnable
  with_reducible
    apply Moves.step (g := mv_chain); apply Moves.step (g := mv_stopCheck); apply mvIte; apply mv_enableWrite
    exact Moves.refl; decide +kernel; apply Moves.step (g := mv_markStop); apply mv_enableWrite; exact Moves.refl
    decide +kernel; decide +kernel; decide +kernel; decide +kernel

theorem mv_execCapDisable {s : State} : MovesR 0x2400002000000000000200000000000000000000004410000f83c820080000c0000000001070fc s (execCapDisable s) := by
  unfold execCapDisable
  with_reducible
    apply mvNext; apply Moves.step (g := mv_capEnable); exact Moves.refl; decide +kernel

theorem mv_execCapCntClr {s : State} : MovesR 0x8fc00000000000000000 s (execCapCntClr s) := by
  unfold execCapCntClr
  with_reducible
    apply mvNext; apply mvFold; apply mvZero0; exact Moves.refl; decide +kernel; intro u x hu; apply mvPut; assumption
    decide +kernel

theorem mv_readHead128 {s : State} {a : Nat} : Moves 0x2000002000000000000000000000000000000000000000000f81c8000000000000000000100000 s (State.readHead128 s a).2 := by
  unfold State.readHead128
  with_reducible
    apply Moves.step (g := mv_galRead); exact Moves.refl; decide +kernel

theorem spanFirst_state {x : Span} {r : List Span × List Byte × State} : (spanFirst x r).2.2 = r.2.2 := rfl

theorem mv_walk {s : State} {seg newest formeMax segBytes n off : Nat} :
    Moves 0x2000002000000000000000000000000000000000000000000f81c8000000000000000000100000 s (State.walk s seg newest formeMax segBytes n off).2.2 := by
  induction n generalizing s off with
  | zero => rw [State.walk]; exact Moves.refl
  | succ n ih =>
    rw [State.walk]
    with_reducible apply mvIteThd
    · exact mvThd (mv_readHead128.mono (by decide +kernel))
    · rw [spanFirst_state]
      exact Moves.step (mv_readHead128.mono (by decide +kernel)) ih (by decide +kernel)

theorem mv_walkFrom {s : State} {seg : Nat} {c : List Byte} : Moves 0x2000002000000000000000000000000000000000000000000f81c8000000000000000000100000 s (State.walkFrom s seg c).2.2 := by
  unfold State.walkFrom
  with_reducible
    apply mvIteThd; exact Moves.refl; apply Moves.step (g := mv_walk); exact Moves.refl; decide +kernel

theorem mv_placeTake {s : State} {seg : Nat} {c : List Byte} {spans : List Span} {h : List Byte} : Moves 0x2000002000000000000000000000000000000000000000000f83c8000800000000000000100034 s (State.placeTake s seg c spans h) := by
  unfold State.placeTake
  with_reducible
    apply mvIte; apply mvPut; apply Moves.step (g := mv_setTake); exact Moves.refl; decide +kernel; decide +kernel
    apply Moves.step (g := mv_setTakeState); apply Moves.step (g := mv_setTake); exact Moves.refl; decide +kernel
    decide +kernel

theorem mv_recoverCopy {s : State} {seg : Nat} {copy : Option (Nat × List Byte)} : Moves 0x2000002000000000000000000000000000000000000000000f83c8000c00000000000000100034 s (State.recoverCopy s seg copy) := by
  unfold State.recoverCopy
  with_reducible
    split; exact Moves.refl; apply mvIte; exact Moves.refl; apply Moves.step (g := mv_placeTake)
    apply Moves.step (g := mv_walkFrom); apply mvPut; apply mvPut; exact Moves.refl; decide +kernel; decide +kernel
    decide +kernel; decide +kernel

theorem mv_recoverSeg {s : State} {seg : Nat} : Moves 0x2000002000000000000000000000000000000000000000000f83c8000c00000000000000100034 s (State.recoverSeg s seg) := by
  unfold State.recoverSeg
  with_reducible
    apply Moves.step (g := mv_recoverCopy); apply Moves.step (g := mv_galRead); exact Moves.refl; decide +kernel
    decide +kernel

theorem mv_execTakeRecovery {dmg : Damage} {s : State} : MovesR 0x2000002000000000000000000000000000000000000000000f83c8000c00000000000000100034 s (execTakeRecovery dmg s) := by
  unfold execTakeRecovery
  with_reducible
    apply mvIteR; apply mvNext; exact Moves.refl; apply mvNext; refine mvMk ?_; apply mvFold
    apply Moves.step (g := mv_strike); exact Moves.refl; decide +kernel; intro u x hu
    apply Moves.step (g := mv_recoverSeg); assumption; decide +kernel

end Sys2Proof.Laws
end

