-- ==== Sys2Proof/Laws/MovesCal.lean ====
section
/-!
SUPPORT. What each definition of Machine/Cal.lean can change (Laws/Moves.lean).
-/
set_option Elab.async false

namespace Sys2Proof.Laws
open Sys2Proof.Machine

theorem mv_calFollow {s : State} {addr : Nat} {used : Byte} {atOnce : Bool} : Moves 0x20000 s (State.calFollow s addr used atOnce) := by
  unfold State.calFollow
  with_reducible
    refine mvMk ?_; exact Moves.refl

theorem mv_calSlewing {s : State} {b : Nat} : Moves 0x100000000000000000000000000000000000000000000000000000000000000000 s (State.calSlewing s b) := by
  unfold State.calSlewing
  with_reducible
    apply mvSetFlag; exact Moves.refl; decide +kernel

theorem mv_calSet {s : State} {addr : Nat} {v : Byte} {atOnce : Bool} : Moves 0x420000 s (State.calSet s addr v atOnce) := by
  unfold State.calSet
  with_reducible
    apply Moves.step (g := mv_calFollow); apply mvWrAny; exact Moves.refl; decide +kernel; decide +kernel

theorem mv_calSense {s : State} {temps : List Nat} : Moves 0x400000000000000000000000000000000000000000000000000000000000000000 s (State.calSense s temps) := by
  unfold State.calSense
  with_reducible
    apply mvFold; exact Moves.refl; intro u x hu; split; apply mvPut; assumption; decide +kernel; assumption

theorem mv_execCalTemperatureCheck {temps : List Nat} {s : State} : MovesR 0x500000000000000000000000000000000000000000000000000000000000000000 s (execCalTemperatureCheck temps s) := by
  unfold execCalTemperatureCheck
  with_reducible
    apply mvIteR; apply mvNext; apply Moves.step (g := mv_calSense); exact Moves.refl; decide +kernel; apply mvNext
    apply mvFold; apply Moves.step (g := mv_calSense); exact Moves.refl; decide +kernel; intro u x hu; apply mvIte
    apply mvSetFlag; assumption; decide +kernel; assumption

theorem mv_execCalRunRequest {b : Fin 6} {s : State} : MovesR 0x100000000000000000000000000000000000000000000000000000000000000000 s (execCalRunRequest b s) := by
  unfold execCalRunRequest
  with_reducible
    apply mvNext; apply mvSetFlag; exact Moves.refl; decide +kernel

theorem mv_execCalRunStart {s : State} : MovesR 0x180000000000000000000000000000000000000000000000000000000000000000 s (execCalRunStart s) := by
  unfold execCalRunStart
  with_reducible
    apply mvIteR; apply mvNext; exact Moves.refl; split; apply mvNext; exact Moves.refl; apply mvNext; apply mvPut
    apply mvPut; apply mvSetFlag; apply mvSetFlag; exact Moves.refl; decide +kernel; decide +kernel; decide +kernel
    decide +kernel

theorem mv_calResult {s : State} {b : Nat} {reset : Bool} {c : Nat × Byte} : Moves 0x420000 s (State.calResult s b reset c) := by
  unfold State.calResult
  with_reducible
    apply mvIte; exact Moves.refl; apply mvIte; exact Moves.refl; split; apply mvIte; exact Moves.refl
    apply Moves.step (g := mv_calSet); exact Moves.refl; decide +kernel; apply mvIte; apply Moves.step (g := mv_calSet)
    exact Moves.refl; decide +kernel; exact Moves.refl; apply Moves.step (g := mv_calSet); exact Moves.refl
    decide +kernel

theorem mv_calSwapAmps {s : State} : Moves 0x420000 s (State.calSwapAmps s) := by
  unfold State.calSwapAmps
  with_reducible
    apply mvFold; exact Moves.refl; intro u x hu; apply Moves.step (g := mv_calSet); assumption; decide +kernel

theorem mv_execCalRunComplete {codes : List (Nat × Byte)} {s : State} : MovesR 0x200000200001b80000000000000000000000000000000000000000000000000000000000520000 s (execCalRunComplete codes s) := by
  unfold execCalRunComplete
  with_reducible
    apply mvIteR; apply mvNext; exact Moves.refl; apply mvNext; apply mv_event; apply Moves.step (g := mv_calSlewing)
    apply mvPut64; apply mvPut; apply mvPut; apply mvSetFlag; refine mvMk ?_; apply mvIte
    apply Moves.step (g := mv_calSwapAmps); apply mvFold; exact Moves.refl; intro u x hu
    apply Moves.step (g := mv_calResult); assumption; decide +kernel; decide +kernel; apply mvFold; exact Moves.refl
    intro u x hu; apply Moves.step (g := mv_calResult); assumption; decide +kernel; decide +kernel; decide +kernel
    decide +kernel; decide +kernel; decide +kernel; decide +kernel

theorem mv_execCalSlewStep {b : Fin 6} {s : State} : MovesR 0x100000000000000000000000000000000000000000000000000000000000020000 s (execCalSlewStep b s) := by
  unfold execCalSlewStep
  with_reducible
    apply mvNext; apply Moves.step (g := mv_calSlewing); apply mvFold; exact Moves.refl; intro u x hu
    apply Moves.step (g := mv_calFollow); assumption; decide +kernel; decide +kernel

theorem mv_execCalValueWrite {addr : Nat} {v : Word} {s : State} : MovesR 0x200000200000180000000000000000000000000000000000000000000000000000000000520000 s (execCalValueWrite addr v s) := by
  unfold execCalValueWrite
  with_reducible
    split; apply mvNext; exact Moves.refl; apply mvIteR; apply mvNext; exact Moves.refl; apply mvIteR; apply mvNext
    apply mvIte; exact Moves.refl; apply mv_event; exact Moves.refl; decide +kernel; apply mvNext
    apply Moves.step (g := mv_calSlewing); apply mvFold; exact Moves.refl; intro u x hu; apply mvIte; assumption
    apply Moves.step (g := mv_calSet); assumption; decide +kernel; decide +kernel

end Sys2Proof.Laws
end

