-- ==== Sys2Proof/Laws/MovesCmp.lean ====
section
/-!
SUPPORT. What each definition of Machine/Cmp.lean can change (Laws/Moves.lean).
-/
set_option Elab.async false

namespace Sys2Proof.Laws
open Sys2Proof.Machine

theorem mv_showBusy {s : State} : Moves 0x4000000000000000000000 s (State.showBusy s) := by
  unfold State.showBusy
  with_reducible
    apply mvPut; exact Moves.refl; decide +kernel

theorem mv_showClusters {s : State} : Moves 0x4000000000000000000000 s (State.showClusters s) := by
  unfold State.showClusters
  with_reducible
    apply mvPut; exact Moves.refl; decide +kernel

theorem mv_grant {s : State} {q comp : Nat} : Moves 0x3200000000000000000000008 s (State.grant s q comp) := by
  unfold State.grant
  with_reducible
    split; exact Moves.refl; apply mvIte; refine mvMk ?_; apply Moves.step (g := mv_setQueue); exact Moves.refl
    decide +kernel; apply mvInc; apply mvInc; refine mvMk ?_; apply Moves.step (g := mv_setQueue); exact Moves.refl
    decide +kernel; decide +kernel; decide +kernel

theorem mv_execCompositorTakeSort {s : State} : MovesR 0x3204000000000000000000008 s (execCompositorTakeSort s) := by
  unfold execCompositorTakeSort
  with_reducible
    apply mvNext; apply Moves.step (g := mv_showBusy); apply mvFold; exact Moves.refl; intro u x hu
    apply Moves.step (g := mv_grant); assumption; decide +kernel; decide +kernel

theorem mv_damageSamples {s : State} {x : List Nat} {l : List Nat} : Moves 0x200000 s (State.damageSamples s x l).2 := by
  induction l generalizing s x  with
  | nil =>
    rw [State.damageSamples]
    exact Moves.refl
  | cons hd tl ih =>
    rw [State.damageSamples]
    with_reducible
      apply Moves.step (g := ih); apply mvFree; exact Moves.refl; decide +kernel; decide +kernel

theorem mv_execAssemblyReadComplete {k : CompIx} {damaged : List Nat} {s : State} : MovesR 0x20000020000000000000000000000000000000000000000000000008400000000000000030000c s (execAssemblyReadComplete k damaged s) := by
  unfold execAssemblyReadComplete
  with_reducible
    split; apply mvNext; exact Moves.refl; apply mvIteR; apply mvNext; exact Moves.refl; split; apply mvNext
    exact Moves.refl; apply mvNext; apply mvIte; refine mvMk ?_; apply Moves.step (g := mv_setFrame)
    apply Moves.step (g := mv_damageSamples); exact Moves.refl; decide +kernel; decide +kernel; apply mv_event
    apply mvInc; refine mvMk ?_; apply Moves.step (g := mv_setFrame); apply Moves.step (g := mv_damageSamples)
    exact Moves.refl; decide +kernel; decide +kernel; decide +kernel; decide +kernel

theorem mv_execSortCoded {k : CompIx} {s : State} : MovesR 0xc7c000000000000000000008 s (execSortCoded k s) := by
  unfold execSortCoded
  with_reducible
    split; apply mvNext; exact Moves.refl; apply mvIteR; apply mvNext; exact Moves.refl; apply mvNext; apply mvIte
    apply mvAdd64; apply mvAdd64; apply mvAdd64; refine mvMk ?_; apply Moves.step (g := mv_showBusy); refine mvMk ?_
    exact Moves.refl; decide +kernel; decide +kernel; decide +kernel; decide +kernel; apply mvAdd64; apply mvAdd64
    refine mvMk ?_; apply Moves.step (g := mv_showBusy); refine mvMk ?_; exact Moves.refl; decide +kernel; decide +kernel
    decide +kernel

theorem mv_execCodedSortDelivery {s : State} : MovesR 0x2000002000000000000000000000000000000000000000000fd3c800000000000000000010001c s (execCodedSortDelivery s) := by
  unfold execCodedSortDelivery
  with_reducible
    split; apply mvNext; exact Moves.refl; apply mvIteR; apply mvNext; exact Moves.refl; apply mvNext
    apply Moves.step (g := mv_acceptSort); refine mvMk ?_; exact Moves.refl; decide +kernel

theorem mv_clusterEnable {s : State} {c : Nat} {b : Bool} : Moves 0x304000000000000000000000 s (State.clusterEnable s c b) := by
  unfold State.clusterEnable
  with_reducible
    apply Moves.step (g := mv_showClusters); apply mv_enableWrite; exact Moves.refl; decide +kernel; decide +kernel

theorem mv_clusterStarted {s : State} {c : Nat} : Moves 0x4304000000000000000000008 s (State.clusterStarted s c) := by
  unfold State.clusterStarted
  with_reducible
    apply Moves.step (g := mv_placeUnqueued); apply Moves.step (g := mv_showClusters); apply mv_unitStarted
    exact Moves.refl; decide +kernel; decide +kernel; decide +kernel

theorem mv_execCompositorMaskWrite {c : ClusterIx} {v : Word} {s : State} : MovesR 0x304000000000000000000000 s (execCompositorMaskWrite c v s) := by
  unfold execCompositorMaskWrite
  with_reducible
    apply mvIteR; apply mvNext; exact Moves.refl; apply mvNext; apply Moves.step (g := mv_clusterEnable); apply mvIte
    exact Moves.refl; apply mvPut; exact Moves.refl; decide +kernel; decide +kernel

theorem mv_execCmpCntClr {s : State} : MovesR 0x7cf8000000000000000000000 s (execCmpCntClr s) := by
  unfold execCmpCntClr
  with_reducible
    apply mvNext; apply mvFold; apply mvZero0; exact Moves.refl; decide +kernel; intro u x hu; apply mvZeroRow; assumption
    decide +kernel

end Sys2Proof.Laws
end

