-- ==== Sys2Proof/Laws/MovesCol.lean ====
section
/-!
SUPPORT. What each definition of Machine/Col.lean can change (Laws/Moves.lean).
-/
set_option Elab.async false

namespace Sys2Proof.Laws
open Sys2Proof.Machine

theorem mv_mapRecs {s : State} {f : OpenRec → OpenRec} : Moves 0x4000 s (State.mapRecs s f) := by
  unfold State.mapRecs
  with_reducible
    refine mvMk ?_; exact Moves.refl

theorem mv_setUnc {s : State} {v : Nat} : Moves 0x10000000000000000000000000000000000000000000000000000000000000004000 s (State.setUnc s v) := by
  unfold State.setUnc
  with_reducible
    apply Moves.step (g := mv_mapRecs); apply mvPut; exact Moves.refl; decide +kernel; decide +kernel

theorem mv_colPllLoss {s : State} : Moves 0x4000 s (State.colPllLoss s) := by
  unfold State.colPllLoss
  with_reducible
    apply Moves.step (g := mv_mapRecs); refine mvMk ?_; exact Moves.refl; decide +kernel

theorem mv_colPllLock {s : State} : Moves 0x10000000000000000000000000000000000000000000000000000000000000004000 s (State.colPllLock s) := by
  unfold State.colPllLock
  with_reducible
    apply mvIte; exact Moves.refl; refine mvMk ?_; apply mvIte; apply Moves.step (g := mv_setUnc); exact Moves.refl
    decide +kernel; exact Moves.refl

theorem mv_setDisc {s : State} {d : Nat} {ev : Bool} : Moves 0x200000200018000000000000000000000000000000000000000000000000000000000000104000 s (State.setDisc s d ev) := by
  unfold State.setDisc
  with_reducible
    apply mvIte; apply mv_colEvent; apply Moves.step (g := mv_setUnc); apply Moves.step (g := mv_mapRecs); apply mvPut
    refine mvMk ?_; exact Moves.refl; decide +kernel; decide +kernel; decide +kernel; decide +kernel
    apply Moves.step (g := mv_setUnc); apply Moves.step (g := mv_mapRecs); apply mvPut; refine mvMk ?_; exact Moves.refl
    decide +kernel; decide +kernel; decide +kernel

theorem mv_execDisciplineGate {good : Bool} {inc : Nat} {s : State} : MovesR 0x200000200018000000000000000000000000000000000000000000000000000000000000104000 s (execDisciplineGate good inc s) := by
  unfold execDisciplineGate
  with_reducible
    apply mvIteR; apply mvNext; exact Moves.refl; apply mvNext; split; apply mvIte; apply Moves.step (g := mv_setDisc)
    refine mvMk ?_; refine mvMk ?_; exact Moves.refl; decide +kernel; refine mvMk ?_; exact Moves.refl; apply mvIte
    refine mvMk ?_; refine mvMk ?_; exact Moves.refl; apply Moves.step (g := mv_setDisc); refine mvMk ?_; exact Moves.refl
    decide +kernel; apply mvIte; apply mvIte; apply Moves.step (g := mv_setUnc); refine mvMk ?_; exact Moves.refl
    decide +kernel; refine mvMk ?_; exact Moves.refl; apply Moves.step (g := mv_setDisc); refine mvMk ?_; exact Moves.refl
    decide +kernel; apply mvIte; apply mvIte; apply Moves.step (g := mv_setUnc); refine mvMk ?_; exact Moves.refl
    decide +kernel; refine mvMk ?_; exact Moves.refl; apply Moves.step (g := mv_setDisc); refine mvMk ?_; exact Moves.refl
    decide +kernel; apply mvIte; apply Moves.step (g := mv_setDisc); refine mvMk ?_; exact Moves.refl; decide +kernel
    apply Moves.step (g := mv_setUnc); refine mvMk ?_; exact Moves.refl; decide +kernel

theorem mv_todSet {s : State} {elapsed : Nat} : Moves 0xe0000000000000000000000000000000000000000000000000000000000000004000 s (State.todSet s elapsed) := by
  unfold State.todSet
  with_reducible
    apply mvIte; exact Moves.refl; apply mvInc; apply mvPut64; refine mvMk ?_; exact Moves.refl; decide +kernel
    decide +kernel

theorem mv_execPpsEdge {elapsed inc : Nat} {s : State} : MovesR 0x2000002000f8000000000000000000000000000000000000000000000000000000000000104000 s (execPpsEdge elapsed inc s) := by
  unfold execPpsEdge
  with_reducible
    apply mvIteR; apply mvNext; exact Moves.refl; apply mvNext; split; apply mvIte; apply Moves.step (g := mv_setDisc)
    refine mvMk ?_; apply Moves.step (g := mv_todSet); exact Moves.refl; decide +kernel; decide +kernel; refine mvMk ?_
    refine mvMk ?_; apply Moves.step (g := mv_todSet); exact Moves.refl; decide +kernel; apply mvIte
    apply Moves.step (g := mv_setDisc); refine mvMk ?_; refine mvMk ?_; apply Moves.step (g := mv_todSet)
    exact Moves.refl; decide +kernel; decide +kernel; apply Moves.step (g := mv_setUnc); refine mvMk ?_; refine mvMk ?_
    refine mvMk ?_; apply Moves.step (g := mv_todSet); exact Moves.refl; decide +kernel; decide +kernel; apply mvIte
    apply Moves.step (g := mv_setDisc); refine mvMk ?_; refine mvMk ?_; apply Moves.step (g := mv_todSet)
    exact Moves.refl; decide +kernel; decide +kernel; apply Moves.step (g := mv_setUnc); refine mvMk ?_; refine mvMk ?_
    refine mvMk ?_; apply Moves.step (g := mv_todSet); exact Moves.refl; decide +kernel; decide +kernel; apply mvIte
    apply Moves.step (g := mv_setDisc); refine mvMk ?_; apply Moves.step (g := mv_todSet); exact Moves.refl
    decide +kernel; decide +kernel; apply Moves.step (g := mv_setUnc); refine mvMk ?_; apply Moves.step (g := mv_todSet)
    exact Moves.refl; decide +kernel; decide +kernel; refine mvMk ?_; apply Moves.step (g := mv_todSet); exact Moves.refl
    decide +kernel

theorem mv_execPpsLoss {s : State} : MovesR 0x200000200018000000000000000000000000000000000000000000000000000000000000104000 s (execPpsLoss s) := by
  unfold execPpsLoss
  with_reducible
    apply mvIteR; apply mvNext; apply Moves.step (g := mv_setDisc); exact Moves.refl; decide +kernel; apply mvNext
    exact Moves.refl

theorem mv_execHoldoverExpiry {s : State} : MovesR 0x200000200018000000000000000000000000000000000000000000000000000000000000104000 s (execHoldoverExpiry s) := by
  unfold execHoldoverExpiry
  with_reducible
    apply mvIteR; apply mvNext; apply Moves.step (g := mv_setDisc); exact Moves.refl; decide +kernel; apply mvNext
    exact Moves.refl

theorem mv_execTodArm {s : State} : MovesR 0x200000200008000000000000000000000000000000000000000000000000000000000000104000 s (execTodArm s) := by
  unfold execTodArm
  with_reducible
    apply mvIteR; apply mvNext; exact Moves.refl; apply mvIteR; apply mvNext; refine mvMk ?_; exact Moves.refl
    apply mvNext; apply mv_colEvent; exact Moves.refl; decide +kernel

theorem mv_keepOpening {s : State} {frame t : Nat} : Moves 0x4000 s (State.keepOpening s frame t) := by
  unfold State.keepOpening
  with_reducible
    refine mvMk ?_; exact Moves.refl

theorem mv_execFrameStrobe {s : State} : MovesR 0xe000000000000000000000000000000000000000000000000000000000000000004000 s (execFrameStrobe s) := by
  unfold execFrameStrobe
  with_reducible
    split; apply mvIteR; apply mvNext; refine mvMk ?_; exact Moves.refl; apply mvIteR; apply mvNext; apply mvAdd64
    apply Moves.step (g := mv_keepOpening); refine mvMk ?_; refine mvMk ?_; exact Moves.refl; decide +kernel
    decide +kernel; apply mvNext; apply mvInc; apply Moves.step (g := mv_keepOpening); refine mvMk ?_; exact Moves.refl
    decide +kernel; decide +kernel; apply mvNext; exact Moves.refl

theorem mv_exposureEdge {s : State} {i t : Nat} {active : Bool} : Moves 0x4000 s (State.exposureEdge s i t active) := by
  unfold State.exposureEdge
  with_reducible
    apply mvIte; refine mvMk ?_; exact Moves.refl; split; apply Moves.step (g := mv_mapRecs); refine mvMk ?_
    exact Moves.refl; decide +kernel; exact Moves.refl

theorem mv_execTdcEdge {i : TrigIx} {rising : Bool} {fine : Fin 10} {s : State} : MovesR 0x2000003f0008000000000000000000000000000000000000000000000000000000000000104000 s (execTdcEdge i rising fine s) := by
  unfold execTdcEdge
  with_reducible
    apply mvIteR; apply mvNext; exact Moves.refl; apply mvIteR; apply mvNext; apply mv_colEvent; apply mvInc
    exact Moves.refl; decide +kernel; decide +kernel; apply mvNext; apply Moves.step (g := mv_mapRecs); apply mvIte
    apply Moves.step (g := mv_mapRecs); apply mvInc; apply mvSetFlag; apply mvPut; apply mvPut64; refine mvMk ?_
    exact Moves.refl; decide +kernel; decide +kernel; decide +kernel; decide +kernel; decide +kernel
    apply Moves.step (g := mv_exposureEdge); apply mvInc; apply mvSetFlag; apply mvPut; apply mvPut64; refine mvMk ?_
    exact Moves.refl; decide +kernel; decide +kernel; decide +kernel; decide +kernel; decide +kernel; decide +kernel

theorem mv_closeRec {s : State} {r : OpenRec} {first trig last flags : Nat} {link : Bool} : Moves 0x200000201808000000000000000000000000000000000000000000000000000000000000304000 s (State.closeRec s r first trig last flags link) := by
  unfold State.closeRec
  with_reducible
    apply mv_colEvent; apply mvPut64; refine mvMk ?_; apply mvFreeBytes; exact Moves.refl; decide +kernel; decide +kernel
    decide +kernel

theorem mv_closeAllRecs {s : State} {flags : Nat} {link : Bool} : Moves 0x200000201808000000000000000000000000000000000000000000000000000000000000304000 s (State.closeAllRecs s flags link) := by
  unfold State.closeAllRecs
  with_reducible
    apply mvFold; exact Moves.refl; intro u x hu; apply Moves.step (g := mv_closeRec); assumption; decide +kernel

theorem mv_colTake {s : State} {m : ColMsg} : Moves 0x200000201808000000000000000000000000000000000000000000000000000000000000304000 s (State.colTake s m) := by
  unfold State.colTake
  with_reducible
    split; refine mvMk ?_; exact Moves.refl; apply Moves.step (g := mv_mapRecs); exact Moves.refl; decide +kernel; split
    apply Moves.step (g := mv_closeRec); exact Moves.refl; decide +kernel; exact Moves.refl; exact Moves.refl

theorem mv_dropTakeMsg {s : State} {m : ColMsg} : Moves 0x4000 s (State.dropTakeMsg s m) := by
  unfold State.dropTakeMsg
  with_reducible
    refine mvMk ?_; exact Moves.refl

theorem mv_colMessage {s : State} {kind : ColMsg → Bool} : Moves 0x200000201808000000000000000000000000000000000000000000000000000000000000304000 s (State.colMessage s kind) := by
  unfold State.colMessage
  with_reducible
    split; exact Moves.refl; apply mvIte; exact Moves.refl; apply mvIte; apply Moves.step (g := mv_colTake)
    apply Moves.step (g := mv_dropTakeMsg); exact Moves.refl; decide +kernel; decide +kernel; split; refine mvMk ?_
    apply Moves.step (g := mv_dropTakeMsg); exact Moves.refl; decide +kernel; apply Moves.step (g := mv_dropTakeMsg)
    exact Moves.refl; decide +kernel

theorem mv_execTakeOpenMessage {s : State} : MovesR 0x200000201808000000000000000000000000000000000000000000000000000000000000304000 s (execTakeOpenMessage s) := by
  unfold execTakeOpenMessage
  with_reducible
    apply mvNext; apply Moves.step (g := mv_colMessage); exact Moves.refl; decide +kernel

theorem mv_execMembershipDecision {s : State} : MovesR 0x200000201808000000000000000000000000000000000000000000000000000000000000304000 s (execMembershipDecision s) := by
  unfold execMembershipDecision
  with_reducible
    apply mvNext; apply Moves.step (g := mv_colMessage); exact Moves.refl; decide +kernel

theorem mv_execTakeCloseMessage {s : State} : MovesR 0x200000201808000000000000000000000000000000000000000000000000000000000000304000 s (execTakeCloseMessage s) := by
  unfold execTakeCloseMessage
  with_reducible
    apply mvNext; apply Moves.step (g := mv_colMessage); exact Moves.refl; decide +kernel

theorem mv_colStarted {s : State} : Moves 0x20000020180c000000000000000000000000000000000000000000000000000000000000304000 s (State.colStarted s) := by
  unfold State.colStarted
  with_reducible
    apply mvIte; exact Moves.refl; apply mvIte; apply mv_unitStarted; exact Moves.refl; decide +kernel; apply mvFold
    apply mv_unitStarted; exact Moves.refl; decide +kernel; intro u x hu; apply Moves.step (g := mv_colTake)
    apply Moves.step (g := mv_dropTakeMsg); assumption; decide +kernel; decide +kernel

theorem mv_execColophonStartupComplete {pass : Bool} {s : State} : MovesR 0x20000020180c000000000000000000000000000000000000000000000000000000000000304000 s (execColophonStartupComplete pass s) := by
  unfold execColophonStartupComplete
  with_reducible
    apply mvIteR; apply mvNext; exact Moves.refl; apply mvIteR; apply mvNext; apply Moves.step (g := mv_colStarted)
    exact Moves.refl; decide +kernel; apply mvNext; apply mvPut; exact Moves.refl; decide +kernel

theorem mv_colEnable {s : State} {b : Bool} : Moves 0x20000020180c000000000000000000000000000000000000000000000000000000000000304000 s (State.colEnable s b) := by
  unfold State.colEnable
  with_reducible
    apply mvIte; exact Moves.refl; apply mv_enableWrite; apply mvIte; apply Moves.step (g := mv_closeAllRecs)
    exact Moves.refl; decide +kernel; exact Moves.refl; decide +kernel

theorem mv_execColophonDisable {s : State} : MovesR 0x20000020180c000000000000000000000000000000000000000000000000000000000000304000 s (execColophonDisable s) := by
  unfold execColophonDisable
  with_reducible
    apply mvNext; apply Moves.step (g := mv_colEnable); exact Moves.refl; decide +kernel

theorem mv_execColophonHeartbeatSend {s : State} : MovesR 0x4000 s (execColophonHeartbeatSend s) := by
  unfold execColophonHeartbeatSend
  with_reducible
    apply mvNext; refine mvMk ?_; exact Moves.refl

theorem mv_execColophonLinkLost {s : State} : MovesR 0x200000201808000000000000000000000000000000000000000000000000000000000000304000 s (execColophonLinkLost s) := by
  unfold execColophonLinkLost
  with_reducible
    apply mvIteR; apply mvNext; exact Moves.refl; apply mvNext; apply mv_colEvent; apply Moves.step (g := mv_closeAllRecs)
    refine mvMk ?_; exact Moves.refl; decide +kernel; decide +kernel

theorem mv_execAuthProvision {s : State} : MovesR 0x200000000000000000000000000000000000000000000000000000000000000004000 s (execAuthProvision s) := by
  unfold execAuthProvision
  with_reducible
    apply mvIteR; apply mvNext; exact Moves.refl; apply mvIteR; apply mvNext; apply mvSetFlag; refine mvMk ?_
    exact Moves.refl; decide +kernel; apply mvNext; exact Moves.refl

theorem mv_showSeal {s : State} : Moves 0x100000000000000000000000000000000000000000000000000000000000000000000 s (State.showSeal s) := by
  unfold State.showSeal
  with_reducible
    apply mvSetFlag; apply mvPut; exact Moves.refl; decide +kernel; decide +kernel

theorem mv_changeResult {s : State} {code : Nat} : Moves 0x200000200408000000000000000000000000000000000000000000000000000000000000100000 s (State.changeResult s code) := by
  unfold State.changeResult
  with_reducible
    apply mv_colEvent; apply mvPut; exact Moves.refl; decide +kernel; decide +kernel

theorem mv_execChangeGo {cell : Fin 3} {entryOk : Bool} {s : State} : MovesR 0x200000200508000000000000000000000000000000000000000000000000000000000000104000 s (execChangeGo cell entryOk s) := by
  unfold execChangeGo
  with_reducible
    apply mvIteR; apply mvNext; exact Moves.refl; apply mvIteR; apply mvNext; apply Moves.step (g := mv_changeResult)
    exact Moves.refl; decide +kernel; apply mvIteR; apply mvNext; apply Moves.step (g := mv_changeResult)
    exact Moves.refl; decide +kernel; apply mvIteR; apply mvNext; apply Moves.step (g := mv_changeResult)
    exact Moves.refl; decide +kernel; apply mvIteR; apply mvNext; apply Moves.step (g := mv_changeResult)
    exact Moves.refl; decide +kernel; apply mvIteR; apply mvNext; apply Moves.step (g := mv_changeResult); apply mvIte
    exact Moves.refl; apply Moves.step (g := mv_showSeal); refine mvMk ?_; exact Moves.refl; decide +kernel
    decide +kernel; apply mvIteR; apply mvNext; apply Moves.step (g := mv_changeResult)
    apply Moves.step (g := mv_showSeal); refine mvMk ?_; exact Moves.refl; decide +kernel; decide +kernel; apply mvNext
    apply Moves.step (g := mv_changeResult); refine mvMk ?_; apply Moves.step (g := mv_showSeal); refine mvMk ?_
    exact Moves.refl; decide +kernel; decide +kernel

theorem mv_colReset {s : State} : Moves 0x200000200308000000000000000000000000000000000000000000000000000000000000504004 s (State.colReset s) := by
  unfold State.colReset
  dsimp only
  generalize (fun k => !(decide (0x100000000 ≤ k) && decide (k < 0x1000F0000)) : Nat → Bool) = p
  have h1 : Moves 0x200000200308000000000000000000000000000000000000000000000000000000000000504004 s { s with regs := skeep s.regs p } := mvSkeep Moves.refl (by decide +kernel)
  have h2 : ∀ c, Moves 0x200000200308000000000000000000000000000000000000000000000000000000000000504004 s (State.clearShadows { s with regs := skeep s.regs p, col := c } p) := fun c =>
    (mvMk h1 (h14 := .inr (by decide +kernel)) : Moves 0x200000200308000000000000000000000000000000000000000000000000000000000000504004 s { s with regs := skeep s.regs p, col := c }).step mv_clearShadows
      (by decide +kernel)
  apply mvIte
  · apply mv_colEvent; apply mvSetFlag; apply Moves.step (g := mv_showSeal); exact h2 _; decide +kernel; decide +kernel; decide +kernel
  · apply mvSetFlag; apply Moves.step (g := mv_showSeal); exact h2 _; decide +kernel; decide +kernel

theorem mv_execColophonPowerOnReset {s : State} : MovesR 0x200000200308000000000000000000000000000000000000000000000000000000000000504004 s (execColophonPowerOnReset s) := by
  unfold execColophonPowerOnReset
  with_reducible
    apply mvIteR; apply mvNext; exact Moves.refl; apply mvNext; apply mvSetFlag; refine mvMk ?_
    apply Moves.step (g := mv_colReset); exact Moves.refl; decide +kernel; decide +kernel

theorem mv_colBoot {s : State} : Moves 0x8000000000000000000000000000000000000000000000000000000000000204000 s (State.colBoot s) := by
  unfold State.colBoot
  with_reducible
    apply mvIte; apply mvPut; apply mvSetFlag; refine mvMk ?_; apply mvFreeBytes; exact Moves.refl; decide +kernel
    decide +kernel; decide +kernel; apply mvSetFlag; refine mvMk ?_; apply mvFreeBytes; exact Moves.refl; decide +kernel
    decide +kernel

theorem mv_execColVddReturn {s : State} : MovesR 0x8000000000000000000000000000000000000000000000000000000000000204000 s (execColVddReturn s) := by
  unfold execColVddReturn
  with_reducible
    apply mvIteR; apply mvNext; exact Moves.refl; apply mvNext; apply Moves.step (g := mv_colBoot); exact Moves.refl
    decide +kernel

theorem mv_execColCntClr {s : State} : MovesR 0x18e000000000000000000000000000000000000000000000000000000000000000000000 s (execColCntClr s) := by
  unfold execColCntClr
  with_reducible
    apply mvIteR; apply mvNext; exact Moves.refl; apply mvNext; apply mvFold; apply mvPut; apply mvPut64; exact Moves.refl
    decide +kernel; decide +kernel; intro u x hu; apply mvPut; apply mvPut; assumption; decide +kernel; decide +kernel

end Sys2Proof.Laws
end

