-- ==== Sys2Proof/Laws/MovesRx.lean ====
section
/-!
SUPPORT. What each definition of Machine/Rx.lean can change (Laws/Moves.lean).
-/
set_option Elab.async false

namespace Sys2Proof.Laws
open Sys2Proof.Machine

theorem mv_setLane {s : State} {n : Nat} {x : LaneSt} : Moves 0x1 s (State.setLane s n x) := by
  unfold State.setLane
  with_reducible
    refine mvMk ?_; exact Moves.refl

theorem mv_setPort {s : State} {p : Nat} {x : PortSt} : Moves 0x2 s (State.setPort s p x) := by
  unfold State.setPort
  with_reducible
    refine mvMk ?_; exact Moves.refl

theorem mv_sendBlocks {s : State} {n : Nat} {bs : List LineBlock} : Moves 0x8000000000000000000000000000000000000000000000100801 s (State.sendBlocks s n bs) := by
  unfold State.sendBlocks
  with_reducible
    refine mvMk ?_; apply Moves.step (g := mv_setLane); exact Moves.refl; decide +kernel

theorem mv_setRx {s : State} {n v : Nat} : Moves 0x8000000000000 s (State.setRx s n v) := by
  unfold State.setRx
  with_reducible
    apply mvPut; exact Moves.refl; decide +kernel

theorem mv_showTx {s : State} {n : Nat} : Moves 0x8000000000000 s (State.showTx s n) := by
  unfold State.showTx
  with_reducible
    apply mvPut; exact Moves.refl; decide +kernel

theorem mv_settleLines {s : State} {p : Nat} : Moves 0x2000002000000000000000000000000000000000000000000f83cc20000000000000000010001c s (State.settleLines s p) := by
  unfold State.settleLines
  with_reducible
    split; exact Moves.refl; split; exact Moves.refl; apply mvIte; apply Moves.step (g := mv_cutRows)
    apply Moves.step (g := mv_setFrame); exact Moves.refl; decide +kernel; decide +kernel; exact Moves.refl

theorem mv_settleAll {s : State} {p : Nat} : Moves 0x2000002000000000000000000000000000000000000000000f83cc20000000000000000010001c s (State.settleAll s p) := by
  unfold State.settleAll
  with_reducible
    split; exact Moves.refl; split; exact Moves.refl; apply Moves.step (g := mv_cutRows)
    apply Moves.step (g := mv_setFrame); exact Moves.refl; decide +kernel; decide +kernel

theorem mv_txSend {s : State} {p k : Nat} {b : LineBlock} : Moves 0x200000200000000000000000008000000000000000000000000000000000000002000000100801 s (State.txSend s p k b) := by
  unfold State.txSend
  with_reducible
    apply mvIte; apply Moves.step (g := mv_sendBlocks); exact Moves.refl; decide +kernel; apply mvIte; exact Moves.refl
    apply mv_event; exact Moves.refl; decide +kernel

theorem mv_txAll {s : State} {p : Nat} {b : LineBlock} : Moves 0x200000200000000000000000008000000000000000000000000000000000000002000000100801 s (State.txAll s p b) := by
  unfold State.txAll
  with_reducible
    apply mvFold; exact Moves.refl; intro u x hu; apply Moves.step (g := mv_txSend); assumption; decide +kernel

theorem mv_txContent {s : State} {p : Nat} {on : Bool} : Moves 0x8000000000001 s (State.txContent s p on) := by
  unfold State.txContent
  with_reducible
    apply mvFold; exact Moves.refl; intro u x hu; apply Moves.step (g := mv_showTx); apply Moves.step (g := mv_setLane)
    assumption; decide +kernel; decide +kernel

theorem mv_headEnd {s : State} {p : Nat} : Moves 0x20000020000000000000000000800000000000000000000000000000000000000a000000100803 s (State.headEnd s p) := by
  unfold State.headEnd
  with_reducible
    dsimp only; split; apply Moves.step (g := mv_setPort); apply Moves.step (g := mv_txContent)
    apply Moves.step (g := mv_txAll); exact Moves.refl; decide +kernel; decide +kernel; decide +kernel; exact Moves.refl

theorem mv_headOpen {s : State} {p : Nat} {f : Frame} : Moves 0x20000020000000000000000000800000000000000000000000000000000000000a000000100803 s (State.headOpen s p f) := by
  unfold State.headOpen
  with_reducible
    apply Moves.step (g := mv_setPort); apply Moves.step (g := mv_txAll); apply Moves.step (g := mv_txAll)
    apply Moves.step (g := mv_txAll); apply Moves.step (g := mv_txContent); exact Moves.refl; decide +kernel
    decide +kernel; decide +kernel; decide +kernel; decide +kernel

theorem mv_headGo {s : State} {p : Nat} {k : Nat} : Moves 0x20000020000000000000000000800000000000000000000000000000000000000a000000100803 s (State.headGo s p k) := by
  induction k generalizing s p  with
  | zero =>
    rw [State.headGo]
    exact Moves.refl
  | succ n ih =>
    rw [State.headGo]
    with_reducible
      split; split; apply mvIte; apply Moves.step (g := ih); apply Moves.step (g := mv_headEnd); exact Moves.refl
      decide +kernel; decide +kernel; exact Moves.refl; apply Moves.step (g := ih); apply Moves.step (g := mv_headEnd)
      exact Moves.refl; decide +kernel; decide +kernel; split; apply mvIte; apply Moves.step (g := ih)
      apply Moves.step (g := mv_headEnd); apply Moves.step (g := mv_headOpen); exact Moves.refl; decide +kernel
      decide +kernel; decide +kernel; exact Moves.refl; exact Moves.refl

theorem mv_headSweep {s : State} : Moves 0x20000020000000000000000000800000000000000000000000000000000000000a000000100803 s (State.headSweep s) := by
  unfold State.headSweep
  with_reducible
    apply mvFold; exact Moves.refl; intro u x hu; apply mvIte; assumption; apply Moves.step (g := mv_headGo); assumption
    decide +kernel

theorem mv_lineErr {s : State} : Moves 0x200000200000000000000000000000000000000000000000000000000000408000000000100000 s (State.lineErr s) := by
  unfold State.lineErr
  with_reducible
    apply mv_event; apply mvInc; exact Moves.refl; decide +kernel; decide +kernel

theorem mv_capEnd {s : State} {p n : Nat} : Moves 0x2400002000000000000200000080000000000000004410000f83cc20080000000a0000001078ff s (State.capEnd s p n) := by
  unfold State.capEnd
  with_reducible
    split; exact Moves.refl; apply Moves.step (g := mv_headSweep); apply mvIte; apply Moves.step (g := mv_closeFrame)
    apply Moves.step (g := mv_setFrame); exact Moves.refl; decide +kernel; decide +kernel
    apply Moves.step (g := mv_setFrame); exact Moves.refl; decide +kernel; decide +kernel

theorem mv_noFrame {s : State} {p : Nat} {stale : Bool} : Moves 0x2 s (State.noFrame s p stale) := by
  unfold State.noFrame
  with_reducible
    apply Moves.step (g := mv_setPort); exact Moves.refl; decide +kernel

theorem mv_toFrame {s : State} {p n : Nat} : Moves 0x6 s (State.toFrame s p n) := by
  unfold State.toFrame
  with_reducible
    apply Moves.step (g := mv_setPort); split; apply Moves.step (g := mv_setFrame); exact Moves.refl; decide +kernel
    exact Moves.refl; decide +kernel

theorem mv_passFrames {s : State} {p seq : Nat} : Moves 0x2000002000000000000000000000000000000000000000000f83cc20000080800000000010001c s (State.passFrames s p seq) := by
  unfold State.passFrames
  with_reducible
    apply mvFold; exact Moves.refl; intro u x hu; apply Moves.step (g := mv_excludePorts); assumption; decide +kernel

theorem mv_capFs {s : State} {p seq : Nat} : Moves 0x2400002000000000000200000080000000000000004410000f83cc20080ab0800a0000003078ff s (State.capFs s p seq) := by
  unfold State.capFs
  with_reducible
    apply mvIte; apply Moves.step (g := mv_noFrame); exact Moves.refl; decide +kernel; apply mvIte
    apply Moves.step (g := mv_noFrame); exact Moves.refl; decide +kernel; split; apply mvIte
    apply Moves.step (g := mv_toFrame); apply Moves.step (g := mv_passFrames); exact Moves.refl; decide +kernel
    decide +kernel; apply Moves.step (g := mv_noFrame); exact Moves.refl; decide +kernel; apply mvIte
    apply Moves.step (g := mv_noFrame); exact Moves.refl; decide +kernel; apply Moves.step (g := mv_toFrame)
    apply Moves.step (g := mv_openFrame); exact Moves.refl; decide +kernel; decide +kernel; apply mvIte; apply mvIte
    apply Moves.step (g := mv_noFrame); exact Moves.refl; decide +kernel; apply Moves.step (g := mv_toFrame)
    apply Moves.step (g := mv_headSweep); apply Moves.step (g := mv_openFrame); apply mvIte
    apply Moves.step (g := mv_passFrames); exact Moves.refl; decide +kernel; apply mv_event; apply mvAdd
    apply Moves.step (g := mv_passFrames); exact Moves.refl; decide +kernel; decide +kernel; decide +kernel
    decide +kernel; decide +kernel; decide +kernel; apply Moves.step (g := mv_noFrame); apply mv_event; apply mvInc
    exact Moves.refl; decide +kernel; decide +kernel; decide +kernel

theorem mv_judgeLine {s : State} {f : Frame} {p line samples : Nat} : Moves 0x2400002000000000000200000000000000000000004410000f83cc2008054080000000001070fc s (State.judgeLine s f p line samples).2 := by
  unfold State.judgeLine
  with_reducible
    dsimp only; split; apply mvIteSnd; apply Moves.step (g := mv_lineErr); exact Moves.refl; decide +kernel
    apply mvIteSnd; apply Moves.step (g := mv_cutRows); apply Moves.step (g := mv_takeSlots)
    apply Moves.step (g := mv_setFrame); exact Moves.refl; decide +kernel; decide +kernel; decide +kernel
    apply Moves.step (g := mv_cutRows); apply Moves.step (g := mv_lineErr); apply Moves.step (g := mv_setFrame)
    exact Moves.refl; decide +kernel; decide +kernel; decide +kernel; apply Moves.step (g := mv_lineErr); exact Moves.refl
    decide +kernel

theorem mv_capLine {s : State} {p line samples : Nat} : Moves 0x2400002000000000000200000000000000000000004410000f83cc2008074080000000001070fc s (State.capLine s p line samples).2 := by
  unfold State.capLine
  with_reducible
    apply mvIteSnd; exact Moves.refl; apply mvIteSnd; apply Moves.step (g := mv_lineErr); exact Moves.refl; decide +kernel
    split; exact Moves.refl; split; exact Moves.refl; apply mvIteSnd; exact Moves.refl
    apply Moves.step (g := mv_judgeLine); apply Moves.step (g := mv_countOwed); exact Moves.refl; decide +kernel
    decide +kernel

theorem mv_capGroup {s : State} {p line g : Nat} {bits : BitVec 448} : Moves 0x4 s (State.capGroup s p line g bits) := by
  unfold State.capGroup
  with_reducible
    split; exact Moves.refl; split; exact Moves.refl; apply mvIte; exact Moves.refl; apply Moves.step (g := mv_setFrame)
    exact Moves.refl; decide +kernel

theorem mv_endPortFrame {s : State} {p : Nat} : Moves 0x2400002000000000000200000080000000000000004410000f83cc20080000000a0000001078ff s (State.endPortFrame s p) := by
  unfold State.endPortFrame
  with_reducible
    dsimp only; split; apply Moves.step (g := mv_capEnd); apply Moves.step (g := mv_setPort); apply mvFold
    apply Moves.step (g := mv_settleAll); exact Moves.refl; decide +kernel; intro u x hu
    apply Moves.step (g := mv_setLane); assumption; decide +kernel; decide +kernel; decide +kernel
    apply Moves.step (g := mv_setPort); apply mvFold; apply Moves.step (g := mv_settleAll); exact Moves.refl
    decide +kernel; intro u x hu; apply Moves.step (g := mv_setLane); assumption; decide +kernel; decide +kernel

theorem mv_fsCheck {s : State} {p : Nat} : Moves 0x2400002000000000000200000080000000000000004410000f83cc20080ab0800a0000003078ff s (State.fsCheck s p) := by
  unfold State.fsCheck
  with_reducible
    apply mvIte; exact Moves.refl; apply mvIte; apply Moves.step (g := mv_capFs); apply Moves.step (g := mv_setPort)
    apply Moves.step (g := mv_settleAll); exact Moves.refl; decide +kernel; decide +kernel; decide +kernel
    apply Moves.step (g := mv_setPort); apply Moves.step (g := mv_settleAll); exact Moves.refl; decide +kernel
    decide +kernel

theorem mv_feCheck {s : State} {p : Nat} : Moves 0x2400002000000000000200000080000000000000004410000f83cc20080000000a0000001078ff s (State.feCheck s p) := by
  unfold State.feCheck
  with_reducible
    apply mvIte; apply Moves.step (g := mv_endPortFrame); exact Moves.refl; decide +kernel; exact Moves.refl

theorem mv_laneOut {s : State} {n : Nat} : Moves 0x2400002000000000000200000080000000000000004410000f83cc20080ab0800a0000003078ff s (State.laneOut s n) := by
  unfold State.laneOut
  with_reducible
    apply mvIte; apply Moves.step (g := mv_setLane); exact Moves.refl; decide +kernel; apply mvIte
    apply Moves.step (g := mv_setPort); apply Moves.step (g := mv_settleLines); apply Moves.step (g := mv_setLane)
    exact Moves.refl; decide +kernel; decide +kernel; decide +kernel; apply Moves.step (g := mv_feCheck)
    apply Moves.step (g := mv_fsCheck); apply Moves.step (g := mv_settleLines); apply Moves.step (g := mv_setLane)
    exact Moves.refl; decide +kernel; decide +kernel; decide +kernel; decide +kernel

theorem mv_rxOff {s : State} {n : Nat} : Moves 0x8000000000001 s (State.rxOff s n) := by
  unfold State.rxOff
  with_reducible
    apply Moves.step (g := mv_showTx); apply mvSetFlag; apply Moves.step (g := mv_setRx)
    apply Moves.step (g := mv_setLane); exact Moves.refl; decide +kernel; decide +kernel; decide +kernel; decide +kernel

theorem mv_rxOn {s : State} {n : Nat} : Moves 0x8000000000000 s (State.rxOn s n) := by
  unfold State.rxOn
  with_reducible
    apply Moves.step (g := mv_setRx); exact Moves.refl; decide +kernel

theorem mv_portStart {s : State} {p : Nat} : Moves 0x8000000000002 s (State.portStart s p) := by
  unfold State.portStart
  with_reducible
    apply Moves.step (g := mv_setPort); apply mvFold; exact Moves.refl; intro u x hu; apply Moves.step (g := mv_rxOn)
    assumption; decide +kernel; decide +kernel

theorem mv_portStopped {s : State} {p : Nat} : Moves 0x2400002000000000000200000080000000000000004410000f83cc20080000000b0000001078ff s (State.portStopped s p) := by
  unfold State.portStopped
  with_reducible
    apply mvIte; apply Moves.step (g := mv_portStart); apply Moves.step (g := mv_setPort); apply mvFold
    apply mv_unitDrained; apply Moves.step (g := mv_endPortFrame); exact Moves.refl; decide +kernel; decide +kernel
    intro u x hu; apply Moves.step (g := mv_rxOff); assumption; decide +kernel; decide +kernel; decide +kernel
    apply Moves.step (g := mv_setPort); apply mvFold; apply mv_unitDrained; apply Moves.step (g := mv_endPortFrame)
    exact Moves.refl; decide +kernel; decide +kernel; intro u x hu; apply Moves.step (g := mv_rxOff); assumption
    decide +kernel; decide +kernel

theorem mv_drainPort {s : State} {p : Nat} : Moves 0x2400002000000000000200000080000000000000004410000f83cc20080000000b0000001078ff s (State.drainPort s p) := by
  unfold State.drainPort
  with_reducible
    apply mvIte; apply Moves.step (g := mv_portStopped); exact Moves.refl; decide +kernel; exact Moves.refl

theorem mv_drainLane {s : State} {n : Nat} : Moves 0x2400002000000000000200000080000000000000004410000f83cc20080000000b0000001078ff s (State.drainLane s n) := by
  unfold State.drainLane
  with_reducible
    apply mvIte; exact Moves.refl; apply Moves.step (g := mv_drainPort); apply Moves.step (g := mv_setPort)
    apply Moves.step (g := mv_setLane); exact Moves.refl; decide +kernel; decide +kernel; decide +kernel

theorem mv_portEnable {s : State} {p : Nat} {b : Bool} : Moves 0x2400002000000000000200000080000000000000004410000f83cc20080000000b0000001078ff s (State.portEnable s p b) := by
  unfold State.portEnable
  with_reducible
    apply mvIte; apply Moves.step (g := mv_portStart); apply mv_enableWrite; exact Moves.refl; decide +kernel
    decide +kernel; apply mvIte; apply Moves.step (g := mv_drainPort); apply Moves.step (g := mv_setPort)
    apply mv_enableWrite; exact Moves.refl; decide +kernel; decide +kernel; decide +kernel; apply mv_enableWrite
    exact Moves.refl; decide +kernel

theorem mv_portStarted {s : State} {p : Nat} : Moves 0x2400002000000000000200000080000000000000004410000f83cc20080000000b0000001078ff s (State.portStarted s p) := by
  unfold State.portStarted
  with_reducible
    apply Moves.step (g := mv_drainPort); apply mv_unitStarted; exact Moves.refl; decide +kernel; decide +kernel

theorem mv_deskew {s : State} {p k seq slot : Nat} : Moves 0x2400002000000000000200000080000000000000004410000f83cc20080000000b0000001078ff s (State.deskew s p k seq slot) := by
  unfold State.deskew
  with_reducible
    apply mvIte; exact Moves.refl; apply mvIte; apply Moves.step (g := mv_setPort); exact Moves.refl; decide +kernel
    apply mvIte; apply mv_event; apply Moves.step (g := mv_setPort); exact Moves.refl; decide +kernel; decide +kernel
    apply mvIte; apply Moves.step (g := mv_portStarted); apply mvFold; apply mvPut; apply Moves.step (g := mv_setPort)
    apply Moves.step (g := mv_settleAll); exact Moves.refl; decide +kernel; decide +kernel; decide +kernel; intro u x hu
    apply Moves.step (g := mv_setLane); assumption; decide +kernel; decide +kernel; apply mvFold; apply mvPut
    apply Moves.step (g := mv_setPort); apply Moves.step (g := mv_settleAll); exact Moves.refl; decide +kernel
    decide +kernel; decide +kernel; intro u x hu; apply Moves.step (g := mv_setLane); assumption; decide +kernel

theorem mv_alignSlip {s : State} {p : Nat} : Moves 0x2400002000000000000200000080000000000000004410000f83cc20080000000a0000001078ff s (State.alignSlip s p) := by
  unfold State.alignSlip
  with_reducible
    apply Moves.step (g := mv_setPort); apply Moves.step (g := mv_endPortFrame); apply mv_event; apply mvInc
    exact Moves.refl; decide +kernel; decide +kernel; decide +kernel; decide +kernel

theorem mv_rejoin {s : State} {p k d : Nat} : Moves 0x3 s (State.rejoin s p k d) := by
  unfold State.rejoin
  with_reducible
    apply Moves.step (g := mv_setPort); apply Moves.step (g := mv_setLane); exact Moves.refl; decide +kernel
    decide +kernel

theorem mv_openSlot {s : State} {p k t : Nat} : Moves 0x3 s (State.openSlot s p k t) := by
  unfold State.openSlot
  with_reducible
    apply mvFold; apply Moves.step (g := mv_setPort); exact Moves.refl; decide +kernel; intro u x hu; split; apply mvIte
    assumption; apply Moves.step (g := mv_rejoin); assumption; decide +kernel; assumption

theorem mv_slotCheck {s : State} {p k seq slot : Nat} : Moves 0x2400002000000000000200000080000000000000004410000f83cc20080000000b0000001078ff s (State.slotCheck s p k seq slot) := by
  unfold State.slotCheck
  with_reducible
    apply mvIte; split; dsimp only; split; apply Moves.step (g := mv_rejoin); exact Moves.refl; decide +kernel
    apply Moves.step (g := mv_setPort); exact Moves.refl; decide +kernel; apply Moves.step (g := mv_setPort)
    exact Moves.refl; decide +kernel; split; apply Moves.step (g := mv_openSlot); exact Moves.refl; decide +kernel
    apply mvIte; apply Moves.step (g := mv_setPort); exact Moves.refl; decide +kernel; apply mvIte
    apply Moves.step (g := mv_openSlot); exact Moves.refl; decide +kernel; apply Moves.step (g := mv_deskew)
    apply Moves.step (g := mv_alignSlip); exact Moves.refl; decide +kernel; decide +kernel

theorem mv_slipCheck {s : State} {n slot : Nat} : Moves 0x2400002000000000000200000080000000000000004410000f83cc20080000000a0000001078ff s (State.slipCheck s n slot) := by
  unfold State.slipCheck
  with_reducible
    apply mvIte; apply Moves.step (g := mv_alignSlip); exact Moves.refl; decide +kernel; exact Moves.refl

theorem mv_takeAlign {s : State} {n : Nat} {d : Word64} {slot : Nat} : Moves 0x2400002000000000000200000080000000000000004410000f83cc20080ab0800b0000003078ff s (State.takeAlign s n d slot) := by
  unfold State.takeAlign
  with_reducible
    apply mvIte; apply mvIte; apply Moves.step (g := mv_laneOut); apply Moves.step (g := mv_setRx); apply mv_event
    exact Moves.refl; decide +kernel; decide +kernel; decide +kernel; apply mv_event; exact Moves.refl; decide +kernel
    apply mvIte; apply Moves.step (g := mv_setRx); exact Moves.refl; decide +kernel; apply mvIte; exact Moves.refl
    apply mvIte; apply Moves.step (g := mv_deskew); exact Moves.refl; decide +kernel; apply mvIte
    apply Moves.step (g := mv_slotCheck); exact Moves.refl; decide +kernel; exact Moves.refl

theorem mv_ebAdj {M : Nat} {s t : State} {n : Nat} {f : Fld} (h : Moves M s t)
    (hc : covers M f.base f.stride f.count = true) : Moves M s (t.ebAdj n f) := mvPut h hc

theorem mv_relayDrop {s : State} {n : Nat} : Moves 0x200000000000000 s (State.relayDrop s n).2 := by
  unfold State.relayDrop
  with_reducible
    split; apply mvIteSnd; apply mv_ebAdj; exact Moves.refl; decide +kernel; exact Moves.refl; exact Moves.refl

theorem mv_relaySlot {s : State} {n : Nat} {b : List LineBlock} : Moves 0x8000000000000000000000000000000000000200000000100801 s (State.relaySlot s n b) := by
  unfold State.relaySlot
  with_reducible
    split; apply Moves.step (g := mv_sendBlocks); exact Moves.refl; decide +kernel; apply mvIte; apply mv_ebAdj
    apply Moves.step (g := mv_sendBlocks); apply Moves.step (g := mv_setLane); exact Moves.refl; decide +kernel
    decide +kernel; decide +kernel; apply Moves.step (g := mv_sendBlocks); apply Moves.step (g := mv_setLane)
    exact Moves.refl; decide +kernel; decide +kernel

theorem mv_relaySlots {s : State} {n : Nat} {k : Nat} : Moves 0x8000000000000000000000000000000000000200000000100801 s (State.relaySlots s n k) := by
  induction k generalizing s n  with
  | zero =>
    rw [State.relaySlots]
    exact Moves.refl
  | succ n ih =>
    rw [State.relaySlots]
    with_reducible
      apply Moves.step (g := ih); apply Moves.step (g := mv_relaySlot); apply Moves.step (g := mv_relayDrop)
      exact Moves.refl; decide +kernel; decide +kernel; decide +kernel

theorem mv_relayPush {s : State} {n : Nat} {b : LineBlock} : Moves 0x200000200000000000000000000000000000000000000000000000000000000408000000100001 s (State.relayPush s n b) := by
  unfold State.relayPush
  with_reducible
    apply mvIte; apply mv_event; apply mvInc; apply Moves.step (g := mv_setLane); exact Moves.refl; decide +kernel
    decide +kernel; decide +kernel; apply Moves.step (g := mv_setLane); exact Moves.refl; decide +kernel

theorem mv_relayBlock {s : State} {n : Nat} {h0 h1 : Bool} {d : Word64} : Moves 0x200000200000000000000000000000000000000000000000000000000000000408000000100001 s (State.relayBlock s n h0 h1 d) := by
  unfold State.relayBlock
  with_reducible
    apply mvIte; exact Moves.refl; apply mvIte; apply Moves.step (g := mv_relayPush); exact Moves.refl; decide +kernel
    apply mvIte; exact Moves.refl; apply mvIte; apply Moves.step (g := mv_relayPush); apply Moves.step (g := mv_showTx)
    apply Moves.step (g := mv_setLane); exact Moves.refl; decide +kernel; decide +kernel; decide +kernel; apply mvIte
    exact Moves.refl; apply Moves.step (g := mv_relayPush); exact Moves.refl; decide +kernel

theorem mv_prbsSlots {s : State} {n : Nat} {k : Nat} : Moves 0x100001 s (State.prbsSlots s n k) := by
  induction k generalizing s n  with
  | zero =>
    rw [State.prbsSlots]
    exact Moves.refl
  | succ n ih =>
    rw [State.prbsSlots]
    with_reducible
      apply Moves.step (g := ih); apply mvEmit; apply Moves.step (g := mv_setLane); exact Moves.refl; decide +kernel
      decide +kernel; decide +kernel

theorem mv_prbsBit {s : State} {n : Nat} {b : Bool} : Moves 0x3800000000000001 s (State.prbsBit s n b) := by
  unfold State.prbsBit
  with_reducible
    apply mvIte; apply Moves.step (g := mv_setLane); exact Moves.refl; decide +kernel; apply mvIte; apply mvAdd64
    apply Moves.step (g := mv_setLane); exact Moves.refl; decide +kernel; decide +kernel; apply mvInc; apply mvAdd64
    apply Moves.step (g := mv_setLane); exact Moves.refl; decide +kernel; decide +kernel; decide +kernel

theorem mv_rxCommon {s0 : State} {n : Nat} {h0 h1 : Bool} {p : Word64} {i : RxInfo} : Moves 0x2400002000000000000200000080000000000000004410000f83cc200800003e3a0000001078ff s0 (State.rxCommon s0 n h0 h1 p i) := by
  unfold State.rxCommon
  with_reducible
    apply mvIte; apply mvIte; apply Moves.step (g := mv_prbsSlots); exact Moves.refl; decide +kernel; exact Moves.refl
    apply mvIte; apply mvFold; apply mvIte; apply Moves.step (g := mv_prbsSlots); exact Moves.refl; decide +kernel
    exact Moves.refl; intro u x hu; apply Moves.step (g := mv_prbsBit); assumption; decide +kernel; apply mvIte
    apply Moves.step (g := mv_setLane); apply mvIte; apply Moves.step (g := mv_relaySlots); apply mvIte
    apply Moves.step (g := mv_prbsSlots); exact Moves.refl; decide +kernel; exact Moves.refl; decide +kernel; apply mvIte
    apply Moves.step (g := mv_prbsSlots); exact Moves.refl; decide +kernel; exact Moves.refl; decide +kernel
    apply Moves.step (g := mv_slipCheck); apply mvIte; apply mvInc; apply mvAdd64; apply Moves.step (g := mv_setLane)
    apply mvIte; apply Moves.step (g := mv_relaySlots); apply mvIte; apply Moves.step (g := mv_prbsSlots)
    exact Moves.refl; decide +kernel; exact Moves.refl; decide +kernel; apply mvIte; apply Moves.step (g := mv_prbsSlots)
    exact Moves.refl; decide +kernel; exact Moves.refl; decide +kernel; decide +kernel; decide +kernel; apply mvAdd64
    apply Moves.step (g := mv_setLane); apply mvIte; apply Moves.step (g := mv_relaySlots); apply mvIte
    apply Moves.step (g := mv_prbsSlots); exact Moves.refl; decide +kernel; exact Moves.refl; decide +kernel; apply mvIte
    apply Moves.step (g := mv_prbsSlots); exact Moves.refl; decide +kernel; exact Moves.refl; decide +kernel
    decide +kernel; decide +kernel

theorem mv_takeControl {s : State} {n : Nat} {d : Word64} : Moves 0x88000000000021 s (State.takeControl s n d) := by
  unfold State.takeControl
  with_reducible
    apply mvIte; apply mvInc; exact Moves.refl; decide +kernel; apply mvIte; refine mvMk ?_; apply mvIte
    apply Moves.step (g := mv_setRx); apply Moves.step (g := mv_setLane); exact Moves.refl; decide +kernel; decide +kernel
    apply Moves.step (g := mv_setLane); exact Moves.refl; decide +kernel; apply mvIte; apply Moves.step (g := mv_setRx)
    apply Moves.step (g := mv_setLane); exact Moves.refl; decide +kernel; decide +kernel
    apply Moves.step (g := mv_setLane); exact Moves.refl; decide +kernel

theorem mv_rxRow {M : Nat} {rS : State} {s : State} {n : Nat} {h0 h1 : Bool} {p : Word64} {i : RxInfo} {mine : Word64 → Bool} {act : State → Word64 → State} (hS : Moves M rS s)
    (hs : sub 0x2400002000000000000200000080000000000000004410000f83cc200800003e3a0000001078ff M = true) (hf0 : ∀ u a, Moves M rS u → Moves M rS (act u a)) : MovesR M rS (State.rxRow s n h0 h1 p i mine act) := by
  unfold State.rxRow
  with_reducible
    apply mvIteR; apply mvNext; apply Moves.step (g := mv_rxCommon); exact hS; assumption; apply mvIteR; apply mvNext
    exact hS; apply mvNext; apply hf0; apply Moves.step (g := mv_rxCommon); exact hS; assumption

theorem mv_rxControl {M : Nat} {rS : State} {s : State} {n : Nat} {d : Word64} {good : State → State} (hS : Moves M rS s)
    (hs : sub 0x200000200000000000000000000000000000000000000000000000000000000488000000100021 M = true) (hf0 : ∀ u, Moves M rS u → Moves M rS (good u)) : Moves M rS (State.rxControl s n d good) := by
  unfold State.rxControl
  with_reducible
    apply mvIte; apply hf0; apply Moves.step (g := mv_relayBlock); apply Moves.step (g := mv_takeControl); exact hS
    exact sub_trans (b := 0x200000200000000000000000000000000000000000000000000000000000000488000000100021) (by decide +kernel) hs
    exact sub_trans (b := 0x200000200000000000000000000000000000000000000000000000000000000488000000100021) (by decide +kernel) hs
    apply Moves.step (g := mv_relayBlock); apply Moves.step (g := mv_takeControl); exact hS
    exact sub_trans (b := 0x200000200000000000000000000000000000000000000000000000000000000488000000100021) (by decide +kernel) hs
    exact sub_trans (b := 0x200000200000000000000000000000000000000000000000000000000000000488000000100021) (by decide +kernel) hs

theorem mv_execRxBlockLock {l : LaneIx} {s : State} : MovesR 0x8000000000001 s (execRxBlockLock l s) := by
  unfold execRxBlockLock
  with_reducible
    apply mvIteR; apply mvNext; apply Moves.step (g := mv_setLane); apply Moves.step (g := mv_setRx); exact Moves.refl
    decide +kernel; decide +kernel; apply mvNext; exact Moves.refl

theorem mv_execReceiveIdle {l : LaneIx} {payload : Word64} {i : RxInfo} {s : State} : MovesR 0x2400002000000000000200000080000000000000004410000f83cc200800003eba0000001078ff s (execReceiveIdle l payload i s) := by
  unfold execReceiveIdle
  with_reducible
    apply mv_rxRow; exact Moves.refl; decide +kernel; intro u x hu; apply mv_rxControl; assumption; decide +kernel
    intro u hu; assumption

theorem mv_execReceiveAlign {l : LaneIx} {payload : Word64} {i : RxInfo} {s : State} : MovesR 0x2400002000000000000200000080000000000000004410000f83cc20080ab0bebb0000003078ff s (execReceiveAlign l payload i s) := by
  unfold execReceiveAlign
  with_reducible
    apply mv_rxRow; exact Moves.refl; decide +kernel; intro u x hu; apply mv_rxControl; assumption; decide +kernel
    intro u hu; apply Moves.step (g := mv_takeAlign); assumption; decide +kernel

theorem mv_portFs {s : State} {n seq : Nat} : Moves 0x2400002000000000000200000080000000000000004410000f83cc20080ab0800a0000003078ff s (State.portFs s n seq) := by
  unfold State.portFs
  with_reducible
    apply Moves.step (g := mv_fsCheck); apply Moves.step (g := mv_setPort); apply Moves.step (g := mv_setLane)
    exact Moves.refl; decide +kernel; decide +kernel; decide +kernel

theorem mv_execReceiveFs {l : LaneIx} {payload : Word64} {i : RxInfo} {s : State} : MovesR 0x2400002000000000000200000080000000000000004410000f83cc20080ab0bebb0000003078ff s (execReceiveFs l payload i s) := by
  unfold execReceiveFs
  with_reducible
    apply mv_rxRow; exact Moves.refl; decide +kernel; intro u x hu; apply mv_rxControl; assumption; decide +kernel
    intro u hu; apply mvIte; assumption; apply mvIte; apply Moves.step (g := mv_drainLane); assumption; decide +kernel
    apply Moves.step (g := mv_portFs); assumption; decide +kernel

theorem mv_portLs {s : State} {n line samples : Nat} : Moves 0x2400002000000000000200000000000000000000004410000f83cc2008074080000000001070ff s (State.portLs s n line samples) := by
  unfold State.portLs
  with_reducible
    apply mvIte; exact Moves.refl; split; apply mvIte; apply Moves.step (g := mv_settleLines)
    apply Moves.step (g := mv_setLane); exact Moves.refl; decide +kernel; decide +kernel
    apply Moves.step (g := mv_settleLines); apply Moves.step (g := mv_setLane); apply Moves.step (g := mv_setPort)
    apply Moves.step (g := mv_capLine); exact Moves.refl; decide +kernel; decide +kernel; decide +kernel; decide +kernel
    apply Moves.step (g := mv_settleLines); apply Moves.step (g := mv_setLane); apply Moves.step (g := mv_setPort)
    apply Moves.step (g := mv_capLine); exact Moves.refl; decide +kernel; decide +kernel; decide +kernel; decide +kernel

theorem mv_execReceiveLs {l : LaneIx} {payload : Word64} {i : RxInfo} {s : State} : MovesR 0x2400002000000000000200000080000000000000004410000f83cc20080740bebb0000001078ff s (execReceiveLs l payload i s) := by
  unfold execReceiveLs
  with_reducible
    apply mv_rxRow; exact Moves.refl; decide +kernel; intro u x hu; apply mv_rxControl; assumption; decide +kernel
    intro u hu; apply mvIte; apply mvIte; apply Moves.step (g := mv_setLane); assumption; decide +kernel; assumption
    apply mvIte; apply Moves.step (g := mv_drainLane); apply mvIte; apply Moves.step (g := mv_setLane); assumption
    decide +kernel; assumption; decide +kernel; apply Moves.step (g := mv_portLs); apply mvIte
    apply Moves.step (g := mv_setLane); assumption; decide +kernel; assumption; decide +kernel

theorem mv_portData {s : State} {n : Nat} {d : Word64} {bad : Bool} : Moves 0x2000002000000000000000000000000000000000000000000f83cc20000000000000000010001d s (State.portData s n d bad) := by
  unfold State.portData
  with_reducible
    dsimp only; split; exact Moves.refl; apply mvIte; apply Moves.step (g := mv_setLane); exact Moves.refl; decide +kernel
    apply Moves.step (g := mv_settleLines); apply mvIte; apply Moves.step (g := mv_setLane); exact Moves.refl
    decide +kernel; apply Moves.step (g := mv_capGroup); apply Moves.step (g := mv_setLane); exact Moves.refl
    decide +kernel; decide +kernel; decide +kernel

theorem mv_setEpochRx {s : State} {k : Nat} {x : EpochRx} : Moves 0x20 s (State.setEpochRx s k x) := by
  unfold State.setEpochRx
  with_reducible
    refine mvMk ?_; exact Moves.refl

theorem mv_pairData {s : State} {n : Nat} {d : Word64} : Moves 0x20 s (State.pairData s n d) := by
  unfold State.pairData
  with_reducible
    apply mvIte; apply Moves.step (g := mv_setEpochRx); exact Moves.refl; decide +kernel; exact Moves.refl

theorem mv_execReceiveDataBlock {l : LaneIx} {payload : Word64} {i : RxInfo} {s : State} : MovesR 0x2400002000000000000200000080000000000000004410000f83cc200800003e3a0000001078ff s (execReceiveDataBlock l payload i s) := by
  unfold execReceiveDataBlock
  with_reducible
    apply mv_rxRow; exact Moves.refl; decide +kernel; split; intro u x hu; apply Moves.step (g := mv_pairData)
    apply Moves.step (g := mv_relayBlock); assumption; decide +kernel; decide +kernel; intro u x hu; apply mvIte
    apply Moves.step (g := mv_portData); apply Moves.step (g := mv_relayBlock); assumption; decide +kernel; decide +kernel
    apply Moves.step (g := mv_relayBlock); assumption; decide +kernel

theorem mv_execReceiveFe {l : LaneIx} {payload : Word64} {i : RxInfo} {s : State} : MovesR 0x2400002000000000000200000080000000000000004410000f83cc200800003ebb0000001078ff s (execReceiveFe l payload i s) := by
  unfold execReceiveFe
  with_reducible
    apply mv_rxRow; exact Moves.refl; decide +kernel; intro u x hu; apply mv_rxControl; assumption; decide +kernel
    intro u hu; apply mvIte; assumption; apply mvIte; apply Moves.step (g := mv_drainLane); assumption; decide +kernel
    apply mvIte; assumption; apply Moves.step (g := mv_feCheck); apply Moves.step (g := mv_settleLines)
    apply Moves.step (g := mv_setPort); apply Moves.step (g := mv_setLane); assumption; decide +kernel; decide +kernel
    decide +kernel; decide +kernel

theorem mv_execReceiveMk {l : LaneIx} {payload : Word64} {i : RxInfo} {s : State} : MovesR 0x2400002000000000000200000080000000000000004410000f83cc200800003eba0000001078ff s (execReceiveMk l payload i s) := by
  unfold execReceiveMk
  with_reducible
    apply mv_rxRow; exact Moves.refl; decide +kernel; intro u x hu; apply mv_rxControl; assumption; decide +kernel
    intro u hu; assumption

theorem mv_execReceiveTrain {l : LaneIx} {payload : Word64} {i : RxInfo} {s : State} : MovesR 0x2400002000000000000200000080000000000000004410000f83cc200800003eba0000001078ff s (execReceiveTrain l payload i s) := by
  unfold execReceiveTrain
  with_reducible
    apply mv_rxRow; exact Moves.refl; decide +kernel; intro u x hu; apply mv_rxControl; assumption; decide +kernel
    intro u hu; assumption

theorem mv_lockLoss {s : State} {n : Nat} : Moves 0x2400002000000000000200000080000000000000004410000f83cc20080ab0810a0000003078ff s (State.lockLoss s n) := by
  unfold State.lockLoss
  with_reducible
    apply Moves.step (g := mv_showTx); apply Moves.step (g := mv_laneOut); apply Moves.step (g := mv_setLane)
    apply mv_event; apply mvInc; apply Moves.step (g := mv_setRx); exact Moves.refl; decide +kernel; decide +kernel
    decide +kernel; decide +kernel; decide +kernel; decide +kernel

theorem mv_badHeader {s : State} {n : Nat} : Moves 0x2400002000000000000200000080000000000000004410000f83cc20080ab0814a0000003078ff s (State.badHeader s n) := by
  unfold State.badHeader
  with_reducible
    apply mvIte; apply Moves.step (g := mv_lockLoss); apply mvIte; apply mv_event; apply mvSetFlag; apply mvInc
    apply Moves.step (g := mv_setLane); exact Moves.refl; decide +kernel; decide +kernel; decide +kernel; decide +kernel
    apply mvInc; apply Moves.step (g := mv_setLane); exact Moves.refl; decide +kernel; decide +kernel; decide +kernel
    apply mvIte; apply mv_event; apply mvSetFlag; apply mvInc; apply Moves.step (g := mv_setLane); exact Moves.refl
    decide +kernel; decide +kernel; decide +kernel; decide +kernel; apply mvInc; apply Moves.step (g := mv_setLane)
    exact Moves.refl; decide +kernel; decide +kernel

theorem mv_execReceiveInvalidSyncHeader {l : LaneIx} {ones : Bool} {payload : Word64} {i : RxInfo} {s : State} : MovesR 0x2400002000000000000200000080000000000000004410000f83cc20080ab0bf7a0000003078ff s (execReceiveInvalidSyncHeader l ones payload i s) := by
  unfold execReceiveInvalidSyncHeader
  with_reducible
    apply mvIteR; apply mvNext; apply Moves.step (g := mv_rxCommon); exact Moves.refl; decide +kernel; apply mvIteR
    apply mvNext; apply Moves.step (g := mv_badHeader); apply Moves.step (g := mv_rxCommon); exact Moves.refl
    decide +kernel; decide +kernel; apply mvNext; apply Moves.step (g := mv_badHeader); apply mvIte
    apply Moves.step (g := mv_portData); apply Moves.step (g := mv_relayBlock); apply Moves.step (g := mv_rxCommon)
    exact Moves.refl; decide +kernel; decide +kernel; decide +kernel; apply Moves.step (g := mv_relayBlock)
    apply Moves.step (g := mv_rxCommon); exact Moves.refl; decide +kernel; decide +kernel; decide +kernel

theorem mv_execHiBerClear {l : LaneIx} {s : State} : MovesR 0x8000000000000 s (execHiBerClear l s) := by
  unfold execHiBerClear
  with_reducible
    apply mvIteR; apply mvNext; exact Moves.refl; apply mvNext; apply mvSetFlag; exact Moves.refl; decide +kernel

theorem mv_execFrameTimeout {frame : Nat} {s : State} : MovesR 0x2400002000000000000200000080000000000000004410000f83cc20080000000a0000001078ff s (execFrameTimeout frame s) := by
  unfold execFrameTimeout
  with_reducible
    split; apply mvNext; exact Moves.refl; apply mvIteR; apply mvNext; exact Moves.refl; apply mvNext
    apply Moves.step (g := mv_headSweep); apply Moves.step (g := mv_closeFrame); exact Moves.refl; decide +kernel
    decide +kernel

theorem mv_execLaneDrainTimeout {l : LaneIx} {s : State} : MovesR 0x2400002000000000000200000080000000000000004410000f83cc20080000000b0000001078ff s (execLaneDrainTimeout l s) := by
  unfold execLaneDrainTimeout
  with_reducible
    apply mvIteR; apply mvNext; apply Moves.step (g := mv_drainLane); exact Moves.refl; decide +kernel; apply mvNext
    exact Moves.refl

end Sys2Proof.Laws
end

