-- ==== Sys2Proof/Laws/MovesTx.lean ====
section
/-!
SUPPORT. What each definition of Machine/Tx.lean can change (Laws/Moves.lean).
-/
set_option Elab.async false

namespace Sys2Proof.Laws
open Sys2Proof.Machine

theorem mv_execLanePortCtlWrite {p : PortIx} {v : Word} {s : State} : MovesR 0x2400002000000000000200000080000000000000004410000f83cc20080000000b0000001078ff s (execLanePortCtlWrite p v s) := by
  unfold execLanePortCtlWrite
  with_reducible
    apply mvIteR; apply mvNext; exact Moves.refl; apply mvNext; apply Moves.step (g := mv_portEnable); apply mvIte
    apply mv_event; apply mvIte; apply Moves.step (g := mv_headEnd); apply mvIte; apply mvPut; apply mvIte
    exact Moves.refl; apply mvPut; apply mvPut; exact Moves.refl; decide +kernel; decide +kernel; decide +kernel
    apply mvPut; apply mvPut; apply mvIte; exact Moves.refl; apply mvPut; apply mvPut; exact Moves.refl; decide +kernel
    decide +kernel; decide +kernel; decide +kernel; decide +kernel; apply mvIte; apply Moves.step (g := mv_setPort)
    apply mvIte; apply mvPut; apply mvIte; exact Moves.refl; apply mvPut; apply mvPut; exact Moves.refl; decide +kernel
    decide +kernel; decide +kernel; apply mvPut; apply mvPut; apply mvIte; exact Moves.refl; apply mvPut; apply mvPut
    exact Moves.refl; decide +kernel; decide +kernel; decide +kernel; decide +kernel; decide +kernel; apply mvIte
    apply mvPut; apply mvIte; exact Moves.refl; apply mvPut; apply mvPut; exact Moves.refl; decide +kernel; decide +kernel
    decide +kernel; apply mvPut; apply mvPut; apply mvIte; exact Moves.refl; apply mvPut; apply mvPut; exact Moves.refl
    decide +kernel; decide +kernel; decide +kernel; decide +kernel; decide +kernel; apply mvIte
    apply Moves.step (g := mv_headEnd); apply mvIte; apply mvPut; apply mvIte; exact Moves.refl; apply mvPut; apply mvPut
    exact Moves.refl; decide +kernel; decide +kernel; decide +kernel; apply mvPut; apply mvPut; apply mvIte
    exact Moves.refl; apply mvPut; apply mvPut; exact Moves.refl; decide +kernel; decide +kernel; decide +kernel
    decide +kernel; decide +kernel; apply mvIte; apply Moves.step (g := mv_setPort); apply mvIte; apply mvPut; apply mvIte
    exact Moves.refl; apply mvPut; apply mvPut; exact Moves.refl; decide +kernel; decide +kernel; decide +kernel
    apply mvPut; apply mvPut; apply mvIte; exact Moves.refl; apply mvPut; apply mvPut; exact Moves.refl; decide +kernel
    decide +kernel; decide +kernel; decide +kernel; decide +kernel; apply mvIte; apply mvPut; apply mvIte
    exact Moves.refl; apply mvPut; apply mvPut; exact Moves.refl; decide +kernel; decide +kernel; decide +kernel
    apply mvPut; apply mvPut; apply mvIte; exact Moves.refl; apply mvPut; apply mvPut; exact Moves.refl; decide +kernel
    decide +kernel; decide +kernel; decide +kernel; decide +kernel

theorem mv_trainStart {s : State} {n : Nat} : Moves 0x8000000000000000000000000000000000000008000000100801 s (State.trainStart s n) := by
  unfold State.trainStart
  with_reducible
    apply mvIte; exact Moves.refl; apply Moves.step (g := mv_showTx); apply Moves.step (g := mv_sendBlocks)
    apply Moves.step (g := mv_setLane); exact Moves.refl; decide +kernel; decide +kernel; decide +kernel

theorem mv_relayEnd {s : State} {n : Nat} : Moves 0x8000000000001 s (State.relayEnd s n) := by
  unfold State.relayEnd
  with_reducible
    apply Moves.step (g := mv_showTx); apply Moves.step (g := mv_setLane); exact Moves.refl; decide +kernel
    decide +kernel

theorem mv_laneCntClr {s : State} {n : Nat} : Moves 0x3ff0000000000000 s (State.laneCntClr s n) := by
  unfold State.laneCntClr
  with_reducible
    apply mvZeroRow; exact Moves.refl; decide +kernel

theorem mv_prbsRx {s : State} {n : Nat} {on : Bool} : Moves 0x2400002000000000000200000080000000000000004410000f83cc20080ab0800e0000003078ff s (State.prbsRx s n on) := by
  unfold State.prbsRx
  with_reducible
    apply mvIte; apply Moves.step (g := mv_showTx); apply Moves.step (g := mv_setLane); apply Moves.step (g := mv_laneOut)
    apply Moves.step (g := mv_setRx); apply mvSetFlag; exact Moves.refl; decide +kernel; decide +kernel; decide +kernel
    decide +kernel; decide +kernel; apply mvIte; apply Moves.step (g := mv_setRx); apply mvSetFlag; exact Moves.refl
    decide +kernel; decide +kernel; apply mvSetFlag; exact Moves.refl; decide +kernel

theorem mv_prbsTx {s : State} {n : Nat} {on : Bool} : Moves 0xc000000300001 s (State.prbsTx s n on) := by
  unfold State.prbsTx
  with_reducible
    apply mvIte; apply Moves.step (g := mv_setLane); apply Moves.step (g := mv_relayEnd); apply mvSetFlag
    exact Moves.refl; decide +kernel; decide +kernel; decide +kernel; apply mvIte; apply Moves.step (g := mv_prbsSlots)
    apply Moves.step (g := mv_setLane); apply mvFree; apply Moves.step (g := mv_relayEnd); apply mvSetFlag
    exact Moves.refl; decide +kernel; decide +kernel; decide +kernel; decide +kernel; decide +kernel
    apply Moves.step (g := mv_setLane); apply mvFree; apply Moves.step (g := mv_relayEnd); apply mvSetFlag
    exact Moves.refl; decide +kernel; decide +kernel; decide +kernel; decide +kernel

theorem mv_egress {s : State} {n v : Nat} : Moves 0x800000000000000000000000000000000000000c000000100801 s (State.egress s n v) := by
  unfold State.egress
  with_reducible
    apply mvIte; exact Moves.refl; apply mvIte; apply Moves.step (g := mv_trainStart); apply Moves.step (g := mv_relayEnd)
    apply mvPut; exact Moves.refl; decide +kernel; decide +kernel; decide +kernel; apply mvIte
    apply Moves.step (g := mv_showTx); apply Moves.step (g := mv_setLane); apply Moves.step (g := mv_relayEnd)
    apply mvPut; exact Moves.refl; decide +kernel; decide +kernel; decide +kernel; decide +kernel
    apply Moves.step (g := mv_relayEnd); apply mvPut; exact Moves.refl; decide +kernel; decide +kernel

theorem mv_execLaneEgressChange {l : LaneIx} {v : Word} {s : State} : MovesR 0x2400002000000000000200000080000000000000004410000f83cc20080ab0bffe0000003078ff s (execLaneEgressChange l v s) := by
  unfold execLaneEgressChange
  with_reducible
    apply mvIteR; apply mvNext; exact Moves.refl; apply mvNext; apply mvIte; apply Moves.step (g := mv_laneCntClr)
    apply mvIte; apply Moves.step (g := mv_trainStart); apply Moves.step (g := mv_egress); apply mvIte
    apply Moves.step (g := mv_prbsTx); apply mvIte; apply Moves.step (g := mv_prbsRx); apply mvIte; apply mvPut
    apply mvIte; apply mv_event; apply mvPut; exact Moves.refl; decide +kernel; decide +kernel; apply mvPut; apply mvPut
    exact Moves.refl; decide +kernel; decide +kernel; decide +kernel; apply mvIte; apply mv_event; apply mvPut
    exact Moves.refl; decide +kernel; decide +kernel; apply mvPut; apply mvPut; exact Moves.refl; decide +kernel
    decide +kernel; decide +kernel; apply mvIte; apply mvPut; apply mvIte; apply mv_event; apply mvPut; exact Moves.refl
    decide +kernel; decide +kernel; apply mvPut; apply mvPut; exact Moves.refl; decide +kernel; decide +kernel
    decide +kernel; apply mvIte; apply mv_event; apply mvPut; exact Moves.refl; decide +kernel; decide +kernel
    apply mvPut; apply mvPut; exact Moves.refl; decide +kernel; decide +kernel; decide +kernel; apply mvIte
    apply Moves.step (g := mv_prbsRx); apply mvIte; apply mvPut; apply mvIte; apply mv_event; apply mvPut
    exact Moves.refl; decide +kernel; decide +kernel; apply mvPut; apply mvPut; exact Moves.refl; decide +kernel
    decide +kernel; decide +kernel; apply mvIte; apply mv_event; apply mvPut; exact Moves.refl; decide +kernel
    decide +kernel; apply mvPut; apply mvPut; exact Moves.refl; decide +kernel; decide +kernel; decide +kernel
    apply mvIte; apply mvPut; apply mvIte; apply mv_event; apply mvPut; exact Moves.refl; decide +kernel; decide +kernel
    apply mvPut; apply mvPut; exact Moves.refl; decide +kernel; decide +kernel; decide +kernel; apply mvIte
    apply mv_event; apply mvPut; exact Moves.refl; decide +kernel; decide +kernel; apply mvPut; apply mvPut
    exact Moves.refl; decide +kernel; decide +kernel; decide +kernel; decide +kernel; apply Moves.step (g := mv_egress)
    apply mvIte; apply Moves.step (g := mv_prbsTx); apply mvIte; apply Moves.step (g := mv_prbsRx); apply mvIte
    apply mvPut; apply mvIte; apply mv_event; apply mvPut; exact Moves.refl; decide +kernel; decide +kernel; apply mvPut
    apply mvPut; exact Moves.refl; decide +kernel; decide +kernel; decide +kernel; apply mvIte; apply mv_event
    apply mvPut; exact Moves.refl; decide +kernel; decide +kernel; apply mvPut; apply mvPut; exact Moves.refl
    decide +kernel; decide +kernel; decide +kernel; apply mvIte; apply mvPut; apply mvIte; apply mv_event; apply mvPut
    exact Moves.refl; decide +kernel; decide +kernel; apply mvPut; apply mvPut; exact Moves.refl; decide +kernel
    decide +kernel; decide +kernel; apply mvIte; apply mv_event; apply mvPut; exact Moves.refl; decide +kernel
    decide +kernel; apply mvPut; apply mvPut; exact Moves.refl; decide +kernel; decide +kernel; decide +kernel
    apply mvIte; apply Moves.step (g := mv_prbsRx); apply mvIte; apply mvPut; apply mvIte; apply mv_event; apply mvPut
    exact Moves.refl; decide +kernel; decide +kernel; apply mvPut; apply mvPut; exact Moves.refl; decide +kernel
    decide +kernel; decide +kernel; apply mvIte; apply mv_event; apply mvPut; exact Moves.refl; decide +kernel
    decide +kernel; apply mvPut; apply mvPut; exact Moves.refl; decide +kernel; decide +kernel; decide +kernel
    apply mvIte; apply mvPut; apply mvIte; apply mv_event; apply mvPut; exact Moves.refl; decide +kernel; decide +kernel
    apply mvPut; apply mvPut; exact Moves.refl; decide +kernel; decide +kernel; decide +kernel; apply mvIte
    apply mv_event; apply mvPut; exact Moves.refl; decide +kernel; decide +kernel; apply mvPut; apply mvPut
    exact Moves.refl; decide +kernel; decide +kernel; decide +kernel; decide +kernel; apply mvIte
    apply Moves.step (g := mv_trainStart); apply Moves.step (g := mv_egress); apply mvIte
    apply Moves.step (g := mv_prbsTx); apply mvIte; apply Moves.step (g := mv_prbsRx); apply mvIte; apply mvPut
    apply mvIte; apply mv_event; apply mvPut; exact Moves.refl; decide +kernel; decide +kernel; apply mvPut; apply mvPut
    exact Moves.refl; decide +kernel; decide +kernel; decide +kernel; apply mvIte; apply mv_event; apply mvPut
    exact Moves.refl; decide +kernel; decide +kernel; apply mvPut; apply mvPut; exact Moves.refl; decide +kernel
    decide +kernel; decide +kernel; apply mvIte; apply mvPut; apply mvIte; apply mv_event; apply mvPut; exact Moves.refl
    decide +kernel; decide +kernel; apply mvPut; apply mvPut; exact Moves.refl; decide +kernel; decide +kernel
    decide +kernel; apply mvIte; apply mv_event; apply mvPut; exact Moves.refl; decide +kernel; decide +kernel
    apply mvPut; apply mvPut; exact Moves.refl; decide +kernel; decide +kernel; decide +kernel; apply mvIte
    apply Moves.step (g := mv_prbsRx); apply mvIte; apply mvPut; apply mvIte; apply mv_event; apply mvPut
    exact Moves.refl; decide +kernel; decide +kernel; apply mvPut; apply mvPut; exact Moves.refl; decide +kernel
    decide +kernel; decide +kernel; apply mvIte; apply mv_event; apply mvPut; exact Moves.refl; decide +kernel
    decide +kernel; apply mvPut; apply mvPut; exact Moves.refl; decide +kernel; decide +kernel; decide +kernel
    apply mvIte; apply mvPut; apply mvIte; apply mv_event; apply mvPut; exact Moves.refl; decide +kernel; decide +kernel
    apply mvPut; apply mvPut; exact Moves.refl; decide +kernel; decide +kernel; decide +kernel; apply mvIte
    apply mv_event; apply mvPut; exact Moves.refl; decide +kernel; decide +kernel; apply mvPut; apply mvPut
    exact Moves.refl; decide +kernel; decide +kernel; decide +kernel; decide +kernel; apply Moves.step (g := mv_egress)
    apply mvIte; apply Moves.step (g := mv_prbsTx); apply mvIte; apply Moves.step (g := mv_prbsRx); apply mvIte
    apply mvPut; apply mvIte; apply mv_event; apply mvPut; exact Moves.refl; decide +kernel; decide +kernel; apply mvPut
    apply mvPut; exact Moves.refl; decide +kernel; decide +kernel; decide +kernel; apply mvIte; apply mv_event
    apply mvPut; exact Moves.refl; decide +kernel; decide +kernel; apply mvPut; apply mvPut; exact Moves.refl
    decide +kernel; decide +kernel; decide +kernel; apply mvIte; apply mvPut; apply mvIte; apply mv_event; apply mvPut
    exact Moves.refl; decide +kernel; decide +kernel; apply mvPut; apply mvPut; exact Moves.refl; decide +kernel
    decide +kernel; decide +kernel; apply mvIte; apply mv_event; apply mvPut; exact Moves.refl; decide +kernel
    decide +kernel; apply mvPut; apply mvPut; exact Moves.refl; decide +kernel; decide +kernel; decide +kernel
    apply mvIte; apply Moves.step (g := mv_prbsRx); apply mvIte; apply mvPut; apply mvIte; apply mv_event; apply mvPut
    exact Moves.refl; decide +kernel; decide +kernel; apply mvPut; apply mvPut; exact Moves.refl; decide +kernel
    decide +kernel; decide +kernel; apply mvIte; apply mv_event; apply mvPut; exact Moves.refl; decide +kernel
    decide +kernel; apply mvPut; apply mvPut; exact Moves.refl; decide +kernel; decide +kernel; decide +kernel
    apply mvIte; apply mvPut; apply mvIte; apply mv_event; apply mvPut; exact Moves.refl; decide +kernel; decide +kernel
    apply mvPut; apply mvPut; exact Moves.refl; decide +kernel; decide +kernel; decide +kernel; apply mvIte
    apply mv_event; apply mvPut; exact Moves.refl; decide +kernel; decide +kernel; apply mvPut; apply mvPut
    exact Moves.refl; decide +kernel; decide +kernel; decide +kernel

theorem mv_execLaneRetrain {l : LaneIx} {s : State} : MovesR 0x8000000000000000000000000000000000000008000000100801 s (execLaneRetrain l s) := by
  unfold execLaneRetrain
  with_reducible
    apply mvIteR; apply mvNext; apply Moves.step (g := mv_trainStart); exact Moves.refl; decide +kernel; apply mvNext
    exact Moves.refl

theorem mv_execTrainingBurstEnd {l : LaneIx} {s : State} : MovesR 0x20000020000000000000000000800000000000000000000000000000000000000a000000100803 s (execTrainingBurstEnd l s) := by
  unfold execTrainingBurstEnd
  with_reducible
    apply mvIteR; apply mvNext; apply Moves.step (g := mv_headSweep); apply Moves.step (g := mv_showTx)
    apply Moves.step (g := mv_setLane); exact Moves.refl; decide +kernel; decide +kernel; decide +kernel; apply mvNext
    exact Moves.refl

theorem mv_execLaneCntClr {l : LaneIx} {s : State} : MovesR 0x3ff0000000000000 s (execLaneCntClr l s) := by
  unfold execLaneCntClr
  with_reducible
    apply mvIteR; apply mvNext; apply Moves.step (g := mv_laneCntClr); exact Moves.refl; decide +kernel; apply mvNext
    exact Moves.refl

theorem mv_execPrbsTxEnable {l : LaneIx} {s : State} : MovesR 0xc000000300001 s (execPrbsTxEnable l s) := by
  unfold execPrbsTxEnable
  with_reducible
    apply mvIteR; apply mvNext; apply Moves.step (g := mv_prbsTx); exact Moves.refl; decide +kernel; apply mvNext
    exact Moves.refl

theorem mv_execPrbsRxEnable {l : LaneIx} {s : State} : MovesR 0x2400002000000000000200000080000000000000004410000f83cc20080ab0800e0000003078ff s (execPrbsRxEnable l s) := by
  unfold execPrbsRxEnable
  with_reducible
    apply mvIteR; apply mvNext; apply Moves.step (g := mv_prbsRx); exact Moves.refl; decide +kernel; apply mvNext
    exact Moves.refl

theorem mv_execTransmitAlign {p : Fin 33} {s : State} : MovesR 0x8000000000000000000000000000000000000000000000100803 s (execTransmitAlign p s) := by
  unfold execTransmitAlign
  with_reducible
    apply mvNext; apply Moves.step (g := mv_setPort); apply mvFold; exact Moves.refl; intro u x hu
    apply Moves.step (g := mv_sendBlocks); assumption; decide +kernel; decide +kernel

theorem mv_headLine {s : State} {p : Nat} {f : Frame} {line : Nat} : Moves 0x200000200000000000000000008000000000000000000000000000000000000002000000100801 s (State.headLine s p f line) := by
  unfold State.headLine
  with_reducible
    apply mvFold; apply Moves.step (g := mv_txAll); exact Moves.refl; decide +kernel; intro u x hu; apply mvFold
    assumption; intro u x hu; apply Moves.step (g := mv_txSend); assumption; decide +kernel

theorem mv_execHeadTransmitLine {p : PortIx} {frame line : Nat} {s : State} : MovesR 0x20000020000000000000000000800000000000000000000000000000000000000a000000100803 s (execHeadTransmitLine p frame line s) := by
  unfold execHeadTransmitLine
  with_reducible
    split; apply mvNext; exact Moves.refl; apply mvIteR; apply mvNext; exact Moves.refl; apply mvNext
    apply Moves.step (g := mv_headSweep); apply Moves.step (g := mv_setPort); apply Moves.step (g := mv_headLine)
    apply mvIte; exact Moves.refl; apply Moves.step (g := mv_headOpen); exact Moves.refl; decide +kernel; decide +kernel
    decide +kernel; decide +kernel

end Sys2Proof.Laws
end

