-- ==== Sys2Proof/Laws/MovesPair.lean ====
section
/-!
SUPPORT. What each definition of Machine/Pair.lean can change (Laws/Moves.lean).
-/
set_option Elab.async false

namespace Sys2Proof.Laws
open Sys2Proof.Machine

theorem mv_setRole {s : State} {r : Nat} : Moves 0x200000000000000000000000000000 s (State.setRole s r) := by
  unfold State.setRole
  with_reducible
    apply mvPut; exact Moves.refl; decide +kernel

theorem mv_pairSend {s : State} {k : Nat} {b : LineBlock} : Moves 0x8000000000000000000000000000000000000000000000100801 s (State.pairSend s k b) := by
  unfold State.pairSend
  with_reducible
    apply mvIte; exact Moves.refl; apply Moves.step (g := mv_sendBlocks); exact Moves.refl; decide +kernel

theorem mv_execPairHeartbeatSend {k : Fin 2} {s : State} : MovesR 0x8000000000000000000000000000000000000000000000100801 s (execPairHeartbeatSend k s) := by
  unfold execPairHeartbeatSend
  with_reducible
    split; split; apply mvNext; apply Moves.step (g := mv_pairSend); exact Moves.refl; decide +kernel; apply mvNext
    apply Moves.step (g := mv_pairSend); exact Moves.refl; decide +kernel; apply mvNext
    apply Moves.step (g := mv_pairSend); exact Moves.refl; decide +kernel; apply mvNext
    apply Moves.step (g := mv_pairSend); exact Moves.refl; decide +kernel; apply mvNext; exact Moves.refl; split
    apply mvNext; apply Moves.step (g := mv_pairSend); exact Moves.refl; decide +kernel; apply mvNext
    apply Moves.step (g := mv_pairSend); exact Moves.refl; decide +kernel; apply mvNext
    apply Moves.step (g := mv_pairSend); exact Moves.refl; decide +kernel; apply mvNext
    apply Moves.step (g := mv_pairSend); exact Moves.refl; decide +kernel; apply mvNext; exact Moves.refl

theorem mv_execEpochSend {s : State} : MovesR 0x8000000000000000000040800000000000000000000000100821 s (execEpochSend s) := by
  unfold execEpochSend
  with_reducible
    apply mvIteR; apply mvNext; exact Moves.refl; apply mvNext; apply mvPut; apply mvIte; apply mvInc; refine mvMk ?_
    apply mvFold; exact Moves.refl; split; intro u x hu; apply mvFold; assumption; intro u x hu
    apply Moves.step (g := mv_pairSend); assumption; decide +kernel; intro u x hu; apply mvFold; assumption; intro u x hu
    apply Moves.step (g := mv_pairSend); assumption; decide +kernel; decide +kernel; refine mvMk ?_; apply mvFold
    exact Moves.refl; split; intro u x hu; apply mvFold; assumption; intro u x hu; apply Moves.step (g := mv_pairSend)
    assumption; decide +kernel; intro u x hu; apply mvFold; assumption; intro u x hu; apply Moves.step (g := mv_pairSend)
    assumption; decide +kernel; decide +kernel

theorem mv_execEpochAckTimeout {s : State} : MovesR 0x20 s (execEpochAckTimeout s) := by
  unfold execEpochAckTimeout
  with_reducible
    apply mvIteR; apply mvNext; refine mvMk ?_; exact Moves.refl; apply mvNext; exact Moves.refl

theorem mv_applyErr {s : State} : Moves 0x200000200000000000000000000000000000000000000010200000000000000000000000100000 s (State.applyErr s) := by
  unfold State.applyErr
  with_reducible
    apply mv_event; apply mvInc; exact Moves.refl; decide +kernel; decide +kernel

theorem mv_lateFor {s : State} {q : Nat} : Moves 0x8000000000000000000000000000000 s (State.lateFor s q) := by
  unfold State.lateFor
  with_reducible
    split; apply mvIte; apply mvInc; exact Moves.refl; decide +kernel; exact Moves.refl; exact Moves.refl

theorem mv_applyTrigger {s : State} {seg q : Nat} : Moves 0x2400002000000000000200000000000000000000004410080f83c82008000000000000003070fc s (State.applyTrigger s seg q) := by
  unfold State.applyTrigger
  with_reducible
    apply mvIte; exact Moves.refl; split; apply Moves.step (g := mv_fixFrom); apply Moves.step (g := mv_setTake)
    exact Moves.refl; decide +kernel; decide +kernel; apply Moves.step (g := mv_lateFor)
    apply Moves.step (g := mv_setTake); exact Moves.refl; decide +kernel; decide +kernel

theorem mv_applyStop {s : State} {seg q : Nat} : Moves 0x8000000000000000000000000000004 s (State.applyStop s seg q) := by
  unfold State.applyStop
  with_reducible
    apply mvIte; exact Moves.refl; apply Moves.step (g := mv_lateFor); apply Moves.step (g := mv_setTake)
    exact Moves.refl; decide +kernel; decide +kernel

theorem mv_cancelStop {s : State} {seg : Nat} : Moves 0x4 s (State.cancelStop s seg) := by
  unfold State.cancelStop
  with_reducible
    apply mvIte; apply Moves.step (g := mv_setTake); exact Moves.refl; decide +kernel; exact Moves.refl

theorem mv_followTakeId {s : State} {id : Nat} : Moves 0x4 s (State.followTakeId s id) := by
  unfold State.followTakeId
  with_reducible
    apply mvIte; refine mvMk ?_; exact Moves.refl; exact Moves.refl

theorem mv_markArm {s : State} {seg id : Nat} {failed : Bool} : Moves 0x20 s (State.markArm s seg id failed) := by
  unfold State.markArm
  with_reducible
    refine mvMk ?_; exact Moves.refl

theorem mv_applySeg {s0 : State} {r : List Byte} : Moves 0x2400002000000000000200000000000000000000004410182f83c82038000000000000003070fc s0 (State.applySeg s0 r) := by
  unfold State.applySeg
  with_reducible
    apply mvIte; exact Moves.refl; apply mvIte; apply mvIte; apply mvIte; apply Moves.step (g := mv_toIdle); apply mvIte
    exact Moves.refl; apply Moves.step (g := mv_followTakeId); exact Moves.refl; decide +kernel; decide +kernel
    apply mvIte; exact Moves.refl; apply Moves.step (g := mv_followTakeId); exact Moves.refl; decide +kernel; apply mvIte
    apply Moves.step (g := mv_applyStop); apply mvIte; apply Moves.step (g := mv_applyTrigger); apply mvIte
    exact Moves.refl; apply Moves.step (g := mv_followTakeId); exact Moves.refl; decide +kernel; decide +kernel
    apply mvIte; exact Moves.refl; apply Moves.step (g := mv_followTakeId); exact Moves.refl; decide +kernel
    decide +kernel; apply Moves.step (g := mv_cancelStop); apply mvIte; apply Moves.step (g := mv_applyTrigger)
    apply mvIte; exact Moves.refl; apply Moves.step (g := mv_followTakeId); exact Moves.refl; decide +kernel
    decide +kernel; apply mvIte; exact Moves.refl; apply Moves.step (g := mv_followTakeId); exact Moves.refl
    decide +kernel; decide +kernel; apply mvIte; apply mvIte; apply Moves.step (g := mv_applyErr)
    apply Moves.step (g := mv_markArm); apply mvIte; exact Moves.refl; apply Moves.step (g := mv_followTakeId)
    exact Moves.refl; decide +kernel; decide +kernel; decide +kernel; split; apply mvIte
    apply Moves.step (g := mv_applyStop); apply mvIte; apply Moves.step (g := mv_applyTrigger)
    apply Moves.step (g := mv_lateFor); refine mvMk ?_; apply Moves.step (g := mv_createTake)
    apply Moves.step (g := mv_markArm); apply mvIte; exact Moves.refl; apply Moves.step (g := mv_followTakeId)
    exact Moves.refl; decide +kernel; decide +kernel; decide +kernel; decide +kernel; decide +kernel
    apply Moves.step (g := mv_lateFor); refine mvMk ?_; apply Moves.step (g := mv_createTake)
    apply Moves.step (g := mv_markArm); apply mvIte; exact Moves.refl; apply Moves.step (g := mv_followTakeId)
    exact Moves.refl; decide +kernel; decide +kernel; decide +kernel; decide +kernel; decide +kernel
    apply Moves.step (g := mv_cancelStop); apply mvIte; apply Moves.step (g := mv_applyTrigger)
    apply Moves.step (g := mv_lateFor); refine mvMk ?_; apply Moves.step (g := mv_createTake)
    apply Moves.step (g := mv_markArm); apply mvIte; exact Moves.refl; apply Moves.step (g := mv_followTakeId)
    exact Moves.refl; decide +kernel; decide +kernel; decide +kernel; decide +kernel; decide +kernel
    apply Moves.step (g := mv_lateFor); refine mvMk ?_; apply Moves.step (g := mv_createTake)
    apply Moves.step (g := mv_markArm); apply mvIte; exact Moves.refl; apply Moves.step (g := mv_followTakeId)
    exact Moves.refl; decide +kernel; decide +kernel; decide +kernel; decide +kernel; decide +kernel; apply mvIte
    apply Moves.step (g := mv_applyStop); apply mvIte; apply Moves.step (g := mv_applyTrigger)
    apply Moves.step (g := mv_chain); refine mvMk ?_; apply Moves.step (g := mv_createTake)
    apply Moves.step (g := mv_markArm); apply mvIte; exact Moves.refl; apply Moves.step (g := mv_followTakeId)
    exact Moves.refl; decide +kernel; decide +kernel; decide +kernel; decide +kernel; decide +kernel
    apply Moves.step (g := mv_chain); refine mvMk ?_; apply Moves.step (g := mv_createTake)
    apply Moves.step (g := mv_markArm); apply mvIte; exact Moves.refl; apply Moves.step (g := mv_followTakeId)
    exact Moves.refl; decide +kernel; decide +kernel; decide +kernel; decide +kernel; decide +kernel
    apply Moves.step (g := mv_cancelStop); apply mvIte; apply Moves.step (g := mv_applyTrigger)
    apply Moves.step (g := mv_chain); refine mvMk ?_; apply Moves.step (g := mv_createTake)
    apply Moves.step (g := mv_markArm); apply mvIte; exact Moves.refl; apply Moves.step (g := mv_followTakeId)
    exact Moves.refl; decide +kernel; decide +kernel; decide +kernel; decide +kernel; decide +kernel
    apply Moves.step (g := mv_chain); refine mvMk ?_; apply Moves.step (g := mv_createTake)
    apply Moves.step (g := mv_markArm); apply mvIte; exact Moves.refl; apply Moves.step (g := mv_followTakeId)
    exact Moves.refl; decide +kernel; decide +kernel; decide +kernel; decide +kernel; decide +kernel; apply mvIte
    apply Moves.step (g := mv_markArm); apply mvIte; exact Moves.refl; apply Moves.step (g := mv_followTakeId)
    exact Moves.refl; decide +kernel; decide +kernel; apply mvIte; apply Moves.step (g := mv_applyErr); apply mvIte
    exact Moves.refl; apply Moves.step (g := mv_followTakeId); exact Moves.refl; decide +kernel; decide +kernel
    apply mvIte; exact Moves.refl; apply Moves.step (g := mv_followTakeId); exact Moves.refl; decide +kernel

theorem mv_applyConfig {s : State} {r : List Byte} : Moves 0x2400002000000000000200000000000000000000004410102f83c8200ff00300000000001070fc s (State.applyConfig s r) := by
  unfold State.applyConfig
  dsimp only
  split
  · exact mv_applyErr.mono (by decide +kernel)
  · next hm =>
    have h : mirrored (0x300000 + fieldAt r 2 2) = true := by simpa using hm
    exact mvIte Moves.refl (mvIte (mv_applyErr.mono (by decide +kernel)) ((mv_capWrite h).mono (by decide +kernel)))

theorem mv_applyRecords32 {s : State} {k : Nat} {b : List Byte} : Moves 0x2400002000000000000200000000000000000000004410182f83c8203ff00300000000003070fc s (State.applyRecords32 s k b) := by
  induction k generalizing s b with
  | zero =>
    rw [State.applyRecords32]
    exact Moves.refl
  | succ n ih =>
    rw [State.applyRecords32]
    with_reducible
      apply Moves.step (g := ih); split; apply Moves.step (g := mv_applySeg); exact Moves.refl; decide +kernel
      apply Moves.step (g := mv_applyConfig); exact Moves.refl; decide +kernel; apply Moves.step (g := mv_applyErr)
      exact Moves.refl; decide +kernel; decide +kernel

theorem mv_fixShadows {s : State} : Moves 0x2400002000000000000200000000000000000000004410000f83c82008000000000000001070fc s (State.fixShadows s) := by
  unfold State.fixShadows
  with_reducible
    apply Moves.step (g := mv_chain); apply mvFold; exact Moves.refl; intro u x hu; split
    apply Moves.step (g := mv_fixTrigger); assumption; decide +kernel; assumption; decide +kernel

theorem mv_isolate {s : State} : Moves 0x2400002000000000000200000000000000000000004410002f83c82008000000000000001070fc s (State.isolate s) := by
  unfold State.isolate
  with_reducible
    apply Moves.step (g := mv_fixShadows); apply Moves.step (g := mv_setRole); exact Moves.refl; decide +kernel
    decide +kernel

theorem mv_flushCopy {s : State} : Moves 0x2400002000000000000200000000000000000000004410182f83c8203ff00300000000003070fc s (State.flushCopy s) := by
  unfold State.flushCopy
  with_reducible
    split; apply Moves.step (g := mv_applyRecords32); refine mvMk ?_; exact Moves.refl; decide +kernel; exact Moves.refl

theorem mv_takeOver {s0 : State} : Moves 0x2400002000000000000200000000000000000000004410186f83c8203ff00300000000003070fc s0 (State.takeOver s0) := by
  unfold State.takeOver
  with_reducible
    apply mvSetFlag; apply Moves.step (g := mv_setRole); refine mvMk ?_; apply Moves.step (g := mv_flushCopy)
    exact Moves.refl; decide +kernel; decide +kernel; decide +kernel

theorem mv_takeOverEnd {s : State} : Moves 0x2400002000000000000200000000000000000000004410212fa3c82008000000000040001070fc s (State.takeOverEnd s) := by
  unfold State.takeOverEnd
  with_reducible
    apply mv_event; apply mvInc; apply mvPut; apply Moves.step (g := mv_setRole); refine mvMk ?_; apply mvIte
    apply Moves.step (g := mv_hostAccess); apply Moves.step (g := mv_fixShadows); exact Moves.refl; decide +kernel
    decide +kernel; apply Moves.step (g := mv_fixShadows); exact Moves.refl; decide +kernel; decide +kernel
    decide +kernel; decide +kernel; decide +kernel

theorem mv_execPeerHigh {s : State} : MovesR 0x2400002000000000000200000000000000000000004410186f83c8203ff00300000000003070fc s (execPeerHigh s) := by
  unfold execPeerHigh
  with_reducible
    apply mvIteR; apply mvNext; apply Moves.step (g := mv_takeOver); apply mvSetFlag; refine mvMk ?_; exact Moves.refl
    decide +kernel; decide +kernel; apply mvIteR; apply mvNext; apply mv_event; apply mvSetFlag; refine mvMk ?_
    exact Moves.refl; decide +kernel; decide +kernel; apply mvNext; apply mvSetFlag; refine mvMk ?_; exact Moves.refl
    decide +kernel

theorem mv_pairLaneDown {s : State} {k : Nat} : Moves 0x2400002000000000000200000000000000000000004410186f83c8203ff00300000000003070fc s (State.pairLaneDown s k) := by
  unfold State.pairLaneDown
  with_reducible
    apply mvIte; exact Moves.refl; apply mvIte; apply Moves.step (g := mv_flushCopy); refine mvMk ?_; exact Moves.refl
    decide +kernel; split; apply mv_event; apply Moves.step (g := mv_flushCopy); refine mvMk ?_; exact Moves.refl
    decide +kernel; decide +kernel; apply mvIte; apply Moves.step (g := mv_takeOver); apply Moves.step (g := mv_flushCopy)
    refine mvMk ?_; exact Moves.refl; decide +kernel; decide +kernel; apply mvIte; apply Moves.step (g := mv_flushCopy)
    refine mvMk ?_; exact Moves.refl; decide +kernel; apply Moves.step (g := mv_isolate); apply mv_event
    apply Moves.step (g := mv_flushCopy); refine mvMk ?_; exact Moves.refl; decide +kernel; decide +kernel; decide +kernel
    apply mvIte; apply Moves.step (g := mv_takeOver); apply Moves.step (g := mv_flushCopy); refine mvMk ?_
    exact Moves.refl; decide +kernel; decide +kernel; apply Moves.step (g := mv_flushCopy); refine mvMk ?_
    exact Moves.refl; decide +kernel; apply Moves.step (g := mv_flushCopy); refine mvMk ?_; exact Moves.refl
    decide +kernel

theorem mv_peerLevel {s : State} {high : Bool} : Moves 0x400000000000000000000000000020 s (State.peerLevel s high) := by
  unfold State.peerLevel
  with_reducible
    apply mvSetFlag; refine mvMk ?_; exact Moves.refl; decide +kernel

theorem mv_execPairingLaneDown {k : Fin 2} {peer : Bool} {s : State} : MovesR 0x2400002000000000000200000000000000000000004410186f83c8203ff00300000000003070fc s (execPairingLaneDown k s peer) := by
  unfold execPairingLaneDown
  with_reducible
    apply mvIteR; apply mvNext; apply Moves.step (g := mv_pairLaneDown); apply Moves.step (g := mv_peerLevel)
    exact Moves.refl; decide +kernel; decide +kernel; apply mvNext; exact Moves.refl

theorem mv_commitEpoch {s0 : State} {k e n : Nat} {resync : Bool} {bytes : List Byte} : Moves 0x2400002000000000000200000000000000000000004410592f83c8203ff00300000000003070fc s0 (State.commitEpoch s0 k e n resync bytes) := by
  unfold State.commitEpoch
  with_reducible
    apply mvIte; refine mvMk ?_; apply mvIte; refine mvMk ?_; apply mvPut; apply Moves.step (g := mv_flushCopy)
    exact Moves.refl; decide +kernel; decide +kernel; apply Moves.step (g := mv_applyRecords32); apply mvPut
    apply Moves.step (g := mv_flushCopy); exact Moves.refl; decide +kernel; decide +kernel; decide +kernel; apply mvIte
    apply Moves.step (g := mv_setRole); apply mvSetFlag; apply mvInc; refine mvMk ?_; apply mvIte; refine mvMk ?_
    apply mvPut; apply Moves.step (g := mv_flushCopy); exact Moves.refl; decide +kernel; decide +kernel
    apply Moves.step (g := mv_applyRecords32); apply mvPut; apply Moves.step (g := mv_flushCopy); exact Moves.refl
    decide +kernel; decide +kernel; decide +kernel; decide +kernel; decide +kernel; decide +kernel; apply mvSetFlag
    apply mvInc; refine mvMk ?_; apply mvIte; refine mvMk ?_; apply mvPut; apply Moves.step (g := mv_flushCopy)
    exact Moves.refl; decide +kernel; decide +kernel; apply Moves.step (g := mv_applyRecords32); apply mvPut
    apply Moves.step (g := mv_flushCopy); exact Moves.refl; decide +kernel; decide +kernel; decide +kernel; decide +kernel
    decide +kernel

theorem mv_secondCopy {s : State} {k e n : Nat} {bytes : List Byte} : Moves 0x24000020000000000002000000000000000000000044101c2f83c8203ff00300000000003070fc s (State.secondCopy s k e n bytes) := by
  unfold State.secondCopy
  with_reducible
    split; apply mvIte; exact Moves.refl; apply mvIte; apply Moves.step (g := mv_flushCopy); exact Moves.refl
    decide +kernel; apply mvIte; apply Moves.step (g := mv_applyRecords32); apply mvInc; refine mvMk ?_; exact Moves.refl
    decide +kernel; decide +kernel; apply mvInc; refine mvMk ?_; exact Moves.refl; decide +kernel; exact Moves.refl

theorem mv_epochEnd {s : State} {k seq param : Nat} : Moves 0x24000020000000000002000000000000000000000044105f2f83c8203ff00300000000003070fc s (State.epochEnd s k seq param) := by
  unfold State.epochEnd
  with_reducible
    apply mvIte; apply mvIte; apply Moves.step (g := mv_flushCopy); apply Moves.step (g := mv_setEpochRx)
    exact Moves.refl; decide +kernel; decide +kernel; apply Moves.step (g := mv_setEpochRx); exact Moves.refl
    decide +kernel; split; apply mvIte; apply Moves.step (g := mv_flushCopy); apply Moves.step (g := mv_setEpochRx)
    exact Moves.refl; decide +kernel; decide +kernel; apply Moves.step (g := mv_setEpochRx); exact Moves.refl
    decide +kernel; apply mvIte; apply mvIte; refine mvMk ?_; apply mvIte; apply Moves.step (g := mv_flushCopy)
    apply Moves.step (g := mv_setEpochRx); exact Moves.refl; decide +kernel; decide +kernel
    apply Moves.step (g := mv_setEpochRx); exact Moves.refl; decide +kernel; apply mvIte
    apply Moves.step (g := mv_flushCopy); apply Moves.step (g := mv_setEpochRx); exact Moves.refl; decide +kernel
    decide +kernel; apply Moves.step (g := mv_setEpochRx); exact Moves.refl; decide +kernel; apply mvIte; apply mvIte
    refine mvMk ?_; apply mvInc; apply mvIte; apply Moves.step (g := mv_flushCopy); apply Moves.step (g := mv_setEpochRx)
    exact Moves.refl; decide +kernel; decide +kernel; apply Moves.step (g := mv_setEpochRx); exact Moves.refl
    decide +kernel; decide +kernel; apply mvInc; apply mvIte; apply Moves.step (g := mv_flushCopy)
    apply Moves.step (g := mv_setEpochRx); exact Moves.refl; decide +kernel; decide +kernel
    apply Moves.step (g := mv_setEpochRx); exact Moves.refl; decide +kernel; decide +kernel; apply mvIte; apply mvIte
    refine mvMk ?_; apply mvIte; apply Moves.step (g := mv_flushCopy); apply Moves.step (g := mv_setEpochRx)
    exact Moves.refl; decide +kernel; decide +kernel; apply Moves.step (g := mv_setEpochRx); exact Moves.refl
    decide +kernel; apply mvIte; apply Moves.step (g := mv_flushCopy); apply Moves.step (g := mv_setEpochRx)
    exact Moves.refl; decide +kernel; decide +kernel; apply Moves.step (g := mv_setEpochRx); exact Moves.refl
    decide +kernel; apply mvIte; apply Moves.step (g := mv_secondCopy); apply mvIte; apply Moves.step (g := mv_flushCopy)
    apply Moves.step (g := mv_setEpochRx); exact Moves.refl; decide +kernel; decide +kernel
    apply Moves.step (g := mv_setEpochRx); exact Moves.refl; decide +kernel; decide +kernel; apply mvIte
    apply Moves.step (g := mv_commitEpoch); apply mvIte; apply Moves.step (g := mv_flushCopy)
    apply Moves.step (g := mv_setEpochRx); exact Moves.refl; decide +kernel; decide +kernel
    apply Moves.step (g := mv_setEpochRx); exact Moves.refl; decide +kernel; decide +kernel; apply mvIte; apply mvIte
    apply Moves.step (g := mv_flushCopy); apply Moves.step (g := mv_setEpochRx); exact Moves.refl; decide +kernel
    decide +kernel; apply Moves.step (g := mv_setEpochRx); exact Moves.refl; decide +kernel; apply mvIte
    apply Moves.step (g := mv_commitEpoch); apply mvIte; apply Moves.step (g := mv_flushCopy)
    apply Moves.step (g := mv_setEpochRx); exact Moves.refl; decide +kernel; decide +kernel
    apply Moves.step (g := mv_setEpochRx); exact Moves.refl; decide +kernel; decide +kernel; apply mvIte; apply mvIte
    refine mvMk ?_; apply mvSetFlag; apply mvIte; apply Moves.step (g := mv_flushCopy)
    apply Moves.step (g := mv_setEpochRx); exact Moves.refl; decide +kernel; decide +kernel
    apply Moves.step (g := mv_setEpochRx); exact Moves.refl; decide +kernel; decide +kernel; apply mvSetFlag; apply mvIte
    apply Moves.step (g := mv_flushCopy); apply Moves.step (g := mv_setEpochRx); exact Moves.refl; decide +kernel
    decide +kernel; apply Moves.step (g := mv_setEpochRx); exact Moves.refl; decide +kernel; decide +kernel; apply mvIte
    apply Moves.step (g := mv_flushCopy); apply Moves.step (g := mv_setEpochRx); exact Moves.refl; decide +kernel
    decide +kernel; apply Moves.step (g := mv_setEpochRx); exact Moves.refl; decide +kernel

theorem mv_pairBlock {s : State} {k : Nat} {ctl : Bool} {payload : Word64} : Moves 0x24000020000000000002000000800000000000000044105f2f83cc203ff0033eba0000003078ff s (State.pairBlock s k ctl payload) := by
  unfold State.pairBlock
  with_reducible
    apply mvIte; apply Moves.step (g := mv_rxCommon); exact Moves.refl; decide +kernel; apply mvIte
    apply Moves.step (g := mv_pairData); apply Moves.step (g := mv_rxCommon); exact Moves.refl; decide +kernel
    decide +kernel; apply mvIte; apply Moves.step (g := mv_takeControl); apply Moves.step (g := mv_rxCommon)
    exact Moves.refl; decide +kernel; decide +kernel; apply mvIte; apply Moves.step (g := mv_setEpochRx)
    apply Moves.step (g := mv_takeControl); apply Moves.step (g := mv_rxCommon); exact Moves.refl; decide +kernel
    decide +kernel; decide +kernel; apply mvIte; apply Moves.step (g := mv_epochEnd)
    apply Moves.step (g := mv_takeControl); apply Moves.step (g := mv_rxCommon); exact Moves.refl; decide +kernel
    decide +kernel; decide +kernel; apply Moves.step (g := mv_takeControl); apply Moves.step (g := mv_rxCommon)
    exact Moves.refl; decide +kernel; decide +kernel

theorem mv_execReceiveEpochEnd {k : Fin 2} {blocks : List Word64} {s : State} : MovesR 0x24000020000000000002000000800000000000000044105f2f83cc203ff0033eba0000003078ff s (execReceiveEpochEnd k blocks s) := by
  unfold execReceiveEpochEnd
  with_reducible
    split; apply mvNext; exact Moves.refl; apply mvNext; apply mvFold; apply mvFold; apply Moves.step (g := mv_pairBlock)
    exact Moves.refl; decide +kernel; intro u x hu; apply Moves.step (g := mv_pairBlock); assumption; decide +kernel
    intro u x hu; apply Moves.step (g := mv_pairBlock); assumption; decide +kernel

theorem mv_pairHeartbeat {s : State} {d : Word64} : Moves 0x2400002000000000000200000000000000000000004410196f83c8203ff00300000000003070fc s (State.pairHeartbeat s d) := by
  unfold State.pairHeartbeat
  with_reducible
    apply mvIte; apply mvIte; apply mvIte; apply mvIte; apply mvPut; refine mvMk ?_; exact Moves.refl; decide +kernel
    refine mvMk ?_; exact Moves.refl; refine mvMk ?_; apply mvIte; apply mvPut; refine mvMk ?_; exact Moves.refl
    decide +kernel; refine mvMk ?_; exact Moves.refl; refine mvMk ?_; exact Moves.refl; apply mvIte
    apply Moves.step (g := mv_takeOver); refine mvMk ?_; exact Moves.refl; decide +kernel; refine mvMk ?_
    exact Moves.refl

theorem mv_execReceivePairHeartbeat {k : Fin 2} {payload : Word64} {peer : Bool} {s : State} : MovesR 0x2400002000000000000200000080000000000000004410196f83cc203ff0033eba0000003078ff s (execReceivePairHeartbeat k payload s peer) := by
  unfold execReceivePairHeartbeat
  with_reducible
    apply mv_rxRow; exact Moves.refl; decide +kernel; split; intro u x hu; apply mvIte
    apply Moves.step (g := mv_pairHeartbeat); apply Moves.step (g := mv_flushCopy); apply Moves.step (g := mv_peerLevel)
    apply Moves.step (g := mv_takeControl); assumption; decide +kernel; decide +kernel; decide +kernel; decide +kernel
    apply Moves.step (g := mv_flushCopy); apply Moves.step (g := mv_peerLevel); apply Moves.step (g := mv_takeControl)
    assumption; decide +kernel; decide +kernel; decide +kernel; intro u x hu; apply mvIte
    apply Moves.step (g := mv_pairHeartbeat); apply Moves.step (g := mv_peerLevel); apply Moves.step (g := mv_takeControl)
    assumption; decide +kernel; decide +kernel; decide +kernel; apply Moves.step (g := mv_peerLevel)
    apply Moves.step (g := mv_takeControl); assumption; decide +kernel; decide +kernel

theorem mv_pairStart {s : State} : Moves 0x1a00000000000000008000000000020 s (State.pairStart s) := by
  unfold State.pairStart
  with_reducible
    apply mvSetFlag; apply mvPut; apply mvPut; refine mvMk ?_; apply Moves.step (g := mv_setRole)
    apply Moves.step (g := mv_rxOn); apply Moves.step (g := mv_rxOn); exact Moves.refl; decide +kernel; decide +kernel
    decide +kernel; decide +kernel; decide +kernel; decide +kernel

theorem mv_pairIdle {s : State} : Moves 0x600000000000000008000000000021 s (State.pairIdle s) := by
  unfold State.pairIdle
  with_reducible
    refine mvMk ?_; apply mvSetFlag; apply Moves.step (g := mv_setRole); apply Moves.step (g := mv_releaseClaim)
    apply Moves.step (g := mv_rxOff); apply Moves.step (g := mv_rxOff); exact Moves.refl; decide +kernel; decide +kernel
    decide +kernel; decide +kernel; decide +kernel

theorem mv_pairStopping {s : State} : Moves 0x20 s (State.pairStopping s) := by
  unfold State.pairStopping
  with_reducible
    apply mvIte; refine mvMk ?_; exact Moves.refl; exact Moves.refl

theorem mv_pairStarted {s : State} : Moves 0x300000000000000000000000000020 s (State.pairStarted s) := by
  unfold State.pairStarted
  with_reducible
    apply Moves.step (g := mv_pairStopping); apply mv_unitStarted; exact Moves.refl; decide +kernel; decide +kernel

theorem mv_pairEnable {s : State} {b : Bool} : Moves 0x1f00000000000000008000000000021 s (State.pairEnable s b) := by
  unfold State.pairEnable
  with_reducible
    apply mvIte; apply mvIte; apply Moves.step (g := mv_pairStart); apply mvPut; apply mvSetFlag; apply mvSetFlag
    exact Moves.refl; decide +kernel; decide +kernel; decide +kernel; decide +kernel; apply Moves.step (g := mv_pairIdle)
    apply mvPut; apply mvSetFlag; apply mvSetFlag; exact Moves.refl; decide +kernel; decide +kernel; decide +kernel
    decide +kernel; apply mvIte; apply mvSetFlag; exact Moves.refl; decide +kernel; apply mvIte
    apply Moves.step (g := mv_pairStart); apply Moves.step (g := mv_pairStopping); apply mv_enableWrite; exact Moves.refl
    decide +kernel; decide +kernel; decide +kernel; apply Moves.step (g := mv_pairStopping); apply mv_enableWrite
    exact Moves.refl; decide +kernel; decide +kernel

theorem mv_pairDrained {s : State} : Moves 0x1f00000000000000008000000000021 s (State.pairDrained s) := by
  unfold State.pairDrained
  with_reducible
    apply mvIte; exact Moves.refl; apply mvIte; apply Moves.step (g := mv_pairStart); apply Moves.step (g := mv_pairIdle)
    apply mv_unitDrained; exact Moves.refl; decide +kernel; decide +kernel; decide +kernel
    apply Moves.step (g := mv_pairIdle); apply mv_unitDrained; exact Moves.refl; decide +kernel; decide +kernel

theorem mv_execPairLeavingEnd {s : State} : MovesR 0x600000000000000000000000000020 s (execPairLeavingEnd s) := by
  unfold execPairLeavingEnd
  with_reducible
    apply mvIteR; apply mvNext; exact Moves.refl; apply mvNext; apply Moves.step (g := mv_releaseClaim); refine mvMk ?_
    exact Moves.refl; decide +kernel

theorem mv_peerPin {s : State} {high : Bool} : Moves 0x400000000000000000000000000020 s (State.peerPin s high) := by
  unfold State.peerPin
  with_reducible
    apply mvSetFlag; refine mvMk ?_; exact Moves.refl; decide +kernel

theorem mv_execPairRoleEvaluation {peerHigh : Bool} {s : State} : MovesR 0x700000000000000000000000000020 s (execPairRoleEvaluation peerHigh s) := by
  unfold execPairRoleEvaluation
  with_reducible
    apply mvIteR; apply mvNext; exact Moves.refl; apply mvIteR; apply mvNext; apply Moves.step (g := mv_peerPin)
    exact Moves.refl; decide +kernel; apply mvIteR; apply mvNext; apply mvSetFlag; refine mvMk ?_
    apply Moves.step (g := mv_peerPin); exact Moves.refl; decide +kernel; decide +kernel; apply mvNext
    apply Moves.step (g := mv_pairStarted); apply Moves.step (g := mv_setRole); apply Moves.step (g := mv_peerPin)
    exact Moves.refl; decide +kernel; decide +kernel; decide +kernel

theorem mv_contend {s : State} : Moves 0x200000200000000000000000000000000000000000000000600000000000000000000000100000 s (State.contend s) := by
  unfold State.contend
  with_reducible
    apply mv_event; apply mvPut; apply Moves.step (g := mv_setRole); apply Moves.step (g := mv_releaseClaim)
    exact Moves.refl; decide +kernel; decide +kernel; decide +kernel; decide +kernel

theorem mv_execPairClaimResample {peerHigh : Bool} {s : State} : MovesR 0x2400002000000000000200000000000000000000004410217fa3c82008000000000040001070fc s (execPairClaimResample peerHigh s) := by
  unfold execPairClaimResample
  with_reducible
    apply mvIteR; apply mvIteR; apply mvNext; refine mvMk ?_; apply Moves.step (g := mv_peerPin); exact Moves.refl
    decide +kernel; apply mvIteR; apply mvIteR; apply mvNext; apply Moves.step (g := mv_takeOverEnd); refine mvMk ?_
    apply Moves.step (g := mv_peerPin); exact Moves.refl; decide +kernel; decide +kernel; apply mvNext
    apply Moves.step (g := mv_isolate); apply Moves.step (g := mv_releaseClaim); refine mvMk ?_
    apply Moves.step (g := mv_peerPin); exact Moves.refl; decide +kernel; decide +kernel; decide +kernel; apply mvIteR
    apply mvNext; apply Moves.step (g := mv_pairStarted); apply Moves.step (g := mv_setRole); refine mvMk ?_
    apply Moves.step (g := mv_peerPin); exact Moves.refl; decide +kernel; decide +kernel; decide +kernel; apply mvIteR
    apply mvNext; apply Moves.step (g := mv_pairStarted); apply Moves.step (g := mv_setRole)
    apply Moves.step (g := mv_releaseClaim); refine mvMk ?_; refine mvMk ?_; apply Moves.step (g := mv_peerPin)
    exact Moves.refl; decide +kernel; decide +kernel; decide +kernel; decide +kernel; apply mvNext
    apply Moves.step (g := mv_pairStarted); apply Moves.step (g := mv_setRole); refine mvMk ?_; refine mvMk ?_
    apply Moves.step (g := mv_peerPin); exact Moves.refl; decide +kernel; decide +kernel; decide +kernel; apply mvIteR
    apply mvIteR; apply mvNext; apply Moves.step (g := mv_contend); refine mvMk ?_; apply Moves.step (g := mv_peerPin)
    exact Moves.refl; decide +kernel; decide +kernel; apply mvNext; refine mvMk ?_; apply Moves.step (g := mv_peerPin)
    exact Moves.refl; decide +kernel; apply mvNext; exact Moves.refl

theorem mv_execPairCntClr {s : State} : MovesR 0x7e000000000000000000000000000000 s (execPairCntClr s) := by
  unfold execPairCntClr
  with_reducible
    apply mvNext; apply mvZero0; exact Moves.refl; decide +kernel

end Sys2Proof.Laws
end

