-- ==== Sys2Proof/Laws/MovesPcie.lean ====
section
/-!
SUPPORT. What each definition of Machine/Pcie.lean can change (Laws/Moves.lean).
-/
set_option Elab.async false

namespace Sys2Proof.Laws
open Sys2Proof.Machine

theorem mv_execLinkTrained {speed width : Nat} {flit : Bool} {errs : List LinkErr} {s0 : State} : MovesR 0x3cfff0a000000000000000000000000000000000004001000000000000000000000004003000c0 s0 (execLinkTrained speed width flit s0 errs) := by
  unfold execLinkTrained
  with_reducible
    split; dsimp only; split; apply mvNext; exact Moves.refl; apply mvIteR; apply mvNext; exact Moves.refl; apply mvNext
    apply Moves.step (g := mv_resumeFn); apply Moves.step (g := mv_resumeFn); apply mvIte; apply mv_event; refine mvMk ?_
    apply mvSetFlag; apply mvPut; apply mvPut; exact Moves.refl; decide +kernel; decide +kernel; decide +kernel
    decide +kernel; refine mvMk ?_; apply mvSetFlag; apply mvPut; apply mvPut; exact Moves.refl; decide +kernel
    decide +kernel; decide +kernel; decide +kernel; decide +kernel; dsimp only; split; apply mvNext; apply mvFold
    exact Moves.refl; intro u x hu; apply Moves.step (g := mv_logLink); assumption; decide +kernel; apply mvIteR
    apply mvNext; apply mvFold; exact Moves.refl; intro u x hu; apply Moves.step (g := mv_logLink); assumption
    decide +kernel; apply mvNext; apply Moves.step (g := mv_resumeFn); apply Moves.step (g := mv_resumeFn); apply mvIte
    apply mv_event; refine mvMk ?_; apply mvSetFlag; apply mvPut; apply mvPut; apply mvFold; exact Moves.refl
    intro u x hu; apply Moves.step (g := mv_logLink); assumption; decide +kernel; decide +kernel; decide +kernel
    decide +kernel; decide +kernel; refine mvMk ?_; apply mvSetFlag; apply mvPut; apply mvPut; apply mvFold
    exact Moves.refl; intro u x hu; apply Moves.step (g := mv_logLink); assumption; decide +kernel; decide +kernel
    decide +kernel; decide +kernel; decide +kernel; decide +kernel

theorem mv_execBar0AccessBadShape {f : FnIx} {write : Bool} {_addr : Nat} {s : State} : MovesR 0x3cfff0a00000000000000000000000000000000000000000000000000000000000000000300000 s (execBar0AccessBadShape f write _addr s) := by
  unfold execBar0AccessBadShape
  with_reducible
    apply mvIteR; apply mvNext; exact Moves.refl; apply mvIteR; apply mvNext; apply Moves.step (g := mv_refuseBar)
    exact Moves.refl; decide +kernel; apply mvNext; apply Moves.step (g := mv_busFault); exact Moves.refl; decide +kernel

theorem mv_bar2Miss {s : State} : Moves 0x200000200000000000000000000000000000000000000000000000000000000000002400100000 s (State.bar2Miss s) := by
  unfold State.bar2Miss
  with_reducible
    apply mv_event; apply mvInc; exact Moves.refl; decide +kernel; decide +kernel

theorem mv_bar2Refused {s : State} : Moves 0x3cfff0a00000000000000000000000000000000000000000000000000000000000000000300000 s (State.bar2Refused s) := by
  unfold State.bar2Refused
  with_reducible
    apply Moves.step (g := mv_logUnc); exact Moves.refl; decide +kernel

theorem mv_bar2Request {M : Nat} {rS : State} {s : State} {write : Bool} {addr : Nat} {miss : State → State} {f : State → Nat → State} (hS : Moves M rS s)
    (hs : sub 0x3cfff0a00000000000000000000000000000000000000000000000000000000000002400300000 M = true) (hf0 : ∀ u, Moves M rS u → Moves M rS (miss u)) (hf1 : ∀ u a, Moves M rS u → Moves M rS (f u a)) : Moves M rS (State.bar2Request s write addr miss f) := by
  unfold State.bar2Request
  with_reducible
    apply mvIte; apply Moves.step (g := mv_refuseBar); exact hS
    exact sub_trans (b := 0x3cfff0a00000000000000000000000000000000000000000000000000000000000002400300000) (by decide +kernel) hs
    apply mvIte; apply mvIte; apply Moves.step (g := mv_bar2Refused); exact hS
    exact sub_trans (b := 0x3cfff0a00000000000000000000000000000000000000000000000000000000000002400300000) (by decide +kernel) hs
    apply mvEmit; apply Moves.step (g := mv_bar2Refused); exact hS
    exact sub_trans (b := 0x3cfff0a00000000000000000000000000000000000000000000000000000000000002400300000) (by decide +kernel) hs
    exact bit_mono (a := 0x3cfff0a00000000000000000000000000000000000000000000000000000000000002400300000) (by decide +kernel) hs
    split; apply hf0; apply Moves.step (g := mv_bar2Miss); exact hS
    exact sub_trans (b := 0x3cfff0a00000000000000000000000000000000000000000000000000000000000002400300000) (by decide +kernel) hs
    apply hf1; exact hS

theorem mv_execBar2Read {addr len : Nat} {dmg : Damage} {s : State} : MovesR 0x3cfff0a000000000000000000000000000000000000000000fa3c8000000000000006400300010 s (execBar2Read addr len dmg s) := by
  unfold execBar2Read
  with_reducible
    apply mvIteR; apply mvNext; exact Moves.refl; apply mvNext; apply mv_bar2Request; exact Moves.refl; decide +kernel
    intro u hu; apply mvEmit; assumption; decide +kernel; intro u x hu; apply Moves.step (g := mv_hostAccess)
    apply Moves.step (g := mv_strike); assumption; decide +kernel; decide +kernel

theorem mv_bar2Write {s : State} {addr : Nat} {bytes : List (Option Byte)} {poisoned : Bool} {dmg : Damage} : Moves 0x3cfff0a000000000000000000000000000000000000000000fa3c800000000000000e400300010 s (State.bar2Write s addr bytes poisoned dmg) := by
  unfold State.bar2Write
  with_reducible
    apply mv_bar2Request; apply mvIte; apply mvInc; apply Moves.step (g := mv_logUnc); exact Moves.refl; decide +kernel
    decide +kernel; exact Moves.refl; decide +kernel; intro u hu; assumption; intro u x hu
    apply Moves.step (g := mv_hostAccess); apply Moves.step (g := mv_strike); assumption; decide +kernel; decide +kernel

theorem mv_execBar2Write {addr : Nat} {bytes : List (Option Byte)} {poisoned : Bool} {dmg : Damage} {s : State} : MovesR 0x3cfff0a000000000000000000000000000000000000000000fa3c800000000000000e400300010 s (execBar2Write addr bytes poisoned dmg s) := by
  unfold execBar2Write
  with_reducible
    apply mvIteR; apply mvNext; exact Moves.refl; apply mvNext; apply Moves.step (g := mv_bar2Write); exact Moves.refl
    decide +kernel

theorem mv_setBar2Size {s : State} {code : Nat} : Moves 0x10003000000000000000000000000000000000000000000000000000000000000000000000000 s (State.setBar2Size s code) := by
  unfold State.setBar2Size
  with_reducible
    apply mvPut; apply mvPut; apply mvPut; exact Moves.refl; decide +kernel; decide +kernel; decide +kernel

theorem mv_execResizableBarWrite {v : Word} {s : State} : MovesR 0x10003000000000000000000000000000000000000000000000000000000000000000000000000 s (execResizableBarWrite v s) := by
  unfold execResizableBarWrite
  with_reducible
    apply mvIteR; apply mvNext; exact Moves.refl; apply mvNext; apply Moves.step (g := mv_setBar2Size); exact Moves.refl
    decide +kernel

theorem mv_xwinEnable {s : State} {w : Nat} : Moves 0x200000200000000000000000000000000000000000000000000000000000000000010400100000 s (State.xwinEnable s w) := by
  unfold State.xwinEnable
  with_reducible
    apply mvIte; exact Moves.refl; apply mvIte; apply mvSetFlag; exact Moves.refl; decide +kernel; apply mv_event
    exact Moves.refl; decide +kernel

theorem mv_execXwinEnable {w : Nat} {s : State} : MovesR 0x200000200000000000000000000000000000000000000000000000000000000000010400100000 s (execXwinEnable w s) := by
  unfold execXwinEnable
  with_reducible
    apply mvIteR; apply mvNext; apply Moves.step (g := mv_xwinEnable); exact Moves.refl; decide +kernel; apply mvNext
    exact Moves.refl

theorem mv_execMsixPendingSend {f : FnIx} {vec : Nat} {s : State} : MovesR 0x200000200000000000000000000000000000000000000000000000000000000000000000100000 s (execMsixPendingSend f vec s) := by
  unfold execMsixPendingSend
  with_reducible
    apply mvIteR; apply mvNext; apply Moves.step (g := mv_signal); exact Moves.refl; decide +kernel; apply mvNext
    exact Moves.refl

theorem mv_failUse {s : State} {r : ReadTag} {why : ReadFail} : Moves 0x3cfff0a00000000000000000000000000000000000447100000000000000000000008c003000c0 s (State.failUse s r why) := by
  unfold State.failUse
  with_reducible
    split; apply Moves.step (g := mv_summaryFailed); apply Moves.step (g := mv_failTag); exact Moves.refl; decide +kernel
    decide +kernel; apply Moves.step (g := mv_doorbellFailed); apply Moves.step (g := mv_failTag); exact Moves.refl
    decide +kernel; decide +kernel; apply Moves.step (g := mv_headRejected); apply Moves.step (g := mv_failTag)
    exact Moves.refl; decide +kernel; decide +kernel; apply Moves.step (g := mv_ringFault)
    apply Moves.step (g := mv_failTag); exact Moves.refl; decide +kernel; decide +kernel
    apply Moves.step (g := mv_failTag); exact Moves.refl; decide +kernel

theorem mv_poisonedWrite {s : State} {fn : Nat} : Moves 0x3cfff0a00000000000000000000000000000000000000000000000000000000000008000300000 s (State.poisonedWrite s fn) := by
  unfold State.poisonedWrite
  with_reducible
    apply mvInc; apply Moves.step (g := mv_logUnc); exact Moves.refl; decide +kernel; decide +kernel

theorem mv_execPoisonedTlpReceived {f : FnIx} {kind : PoisonKind} {s : State} : MovesR 0x3cfff0a000000000000000000000000000000000004471000fa3c800000000000000ec003000d0 s (execPoisonedTlpReceived f kind s) := by
  unfold execPoisonedTlpReceived
  with_reducible
    split; apply mvNext; apply mvIte; apply Moves.step (g := mv_refuseBar); exact Moves.refl; decide +kernel
    apply Moves.step (g := mv_poisonedWrite); exact Moves.refl; decide +kernel; apply mvNext
    apply Moves.step (g := mv_bar2Write); exact Moves.refl; decide +kernel; apply mvNext; apply mvEmit
    apply Moves.step (g := mv_poisonedWrite); exact Moves.refl; decide +kernel; decide +kernel; split; apply mvNext
    apply Moves.step (g := mv_failUse); exact Moves.refl; decide +kernel; apply mvNext; exact Moves.refl

theorem mv_execCompletionTimeout {tag : Nat} {s : State} : MovesR 0x3cfff0a00000000000000000000000000000000000447100000000000000000000008c003000c0 s (execCompletionTimeout tag s) := by
  unfold execCompletionTimeout
  with_reducible
    split; apply mvNext; apply Moves.step (g := mv_failUse); exact Moves.refl; decide +kernel; apply mvNext
    exact Moves.refl

theorem mv_execLateCompletion {tag : Nat} {s : State} : MovesR 0x3cfff0a00000000000000000000000000000000000000000000000000000000000001400300040 s (execLateCompletion tag s) := by
  unfold execLateCompletion
  with_reducible
    apply mvIteR; apply mvNext; exact Moves.refl; apply mvNext; apply mv_event; apply mvInc
    apply Moves.step (g := mv_logUnc); refine mvMk ?_; exact Moves.refl; decide +kernel; decide +kernel; decide +kernel

theorem mv_execInternalDatapathError {corrected : Bool} {s : State} : MovesR 0x3cfff0a00000000000000000000000000000000000000000000000000000000000000000300000 s (execInternalDatapathError s corrected) := by
  unfold execInternalDatapathError
  with_reducible
    apply mvIteR; apply mvNext; apply Moves.step (g := mv_logCor); apply Moves.step (g := mv_logCor); exact Moves.refl
    decide +kernel; decide +kernel; apply mvNext; apply Moves.step (g := mv_contain); apply Moves.step (g := mv_contain)
    apply Moves.step (g := mv_logUnc); apply Moves.step (g := mv_logUnc); exact Moves.refl; decide +kernel; decide +kernel
    decide +kernel; decide +kernel

theorem mv_freezeFn {s : State} {fn : Nat} : Moves 0x3e0000200000000000000000000000000000000000000000000000000000000000000000100000 s (State.freezeFn s fn) := by
  unfold State.freezeFn
  with_reducible
    apply mvIte; apply mvSetFlag; apply Moves.step (g := mv_contain); exact Moves.refl; decide +kernel; decide +kernel
    exact Moves.refl

theorem mv_execContainmentFreeze {f : FnIx} {s : State} : MovesR 0x3e0000200000000000000000000000000000000000000000000000000000000000000000100000 s (execContainmentFreeze f s) := by
  unfold execContainmentFreeze
  with_reducible
    apply mvNext; apply Moves.step (g := mv_freezeFn); exact Moves.refl; decide +kernel

theorem mv_endContainment {s : State} {fn : Nat} : Moves 0x60000000000000000000000000000000000000000000000000000000000000000000000000000 s (State.endContainment s fn) := by
  unfold State.endContainment
  with_reducible
    apply mvSetFlag; apply mvSetFlag; apply mvSetFlag; apply mvSetFlag; apply mvSetFlag; exact Moves.refl; decide +kernel
    decide +kernel; decide +kernel; decide +kernel; decide +kernel

theorem mv_releaseFn {s : State} {fn seq : Nat} : Moves 0x2600002000000000000000000000000000000000004001000000000000000000000000001000c0 s (State.releaseFn s fn seq) := by
  unfold State.releaseFn
  with_reducible
    apply mvIte; exact Moves.refl; apply mvIte; apply mvSetFlag; exact Moves.refl; decide +kernel
    apply Moves.step (g := mv_resumeFn); apply Moves.step (g := mv_endContainment); exact Moves.refl; decide +kernel
    decide +kernel

theorem mv_execContainmentRelease {f : FnIx} {v : Word} {s : State} : MovesR 0x2600002000000000000000000000000000000000004001000000000000000000000000001000c0 s (execContainmentRelease f v s) := by
  unfold execContainmentRelease
  with_reducible
    apply mvIteR; apply mvNext; apply Moves.step (g := mv_releaseFn); exact Moves.refl; decide +kernel; apply mvNext
    exact Moves.refl

theorem mv_powerState {s : State} {fn v : Nat} : Moves 0x2400082000000000000000000000000000000000004001000000000000000000000000001000c0 s (State.powerState s fn v) := by
  unfold State.powerState
  with_reducible
    apply mvIte; exact Moves.refl; apply mvIte; apply Moves.step (g := mv_resumeFn); apply mvPut; exact Moves.refl
    decide +kernel; decide +kernel; apply mvPut; exact Moves.refl; decide +kernel

theorem mv_execD3hotEntry {f : FnIx} {s : State} : MovesR 0x2400082000000000000000000000000000000000004001000000000000000000000000001000c0 s (execD3hotEntry f s) := by
  unfold execD3hotEntry
  with_reducible
    apply mvNext; apply Moves.step (g := mv_powerState); exact Moves.refl; decide +kernel

theorem mv_execD0Return {f : FnIx} {s : State} : MovesR 0x2400082000000000000000000000000000000000004001000000000000000000000000001000c0 s (execD0Return f s) := by
  unfold execD0Return
  with_reducible
    apply mvNext; apply Moves.step (g := mv_powerState); exact Moves.refl; decide +kernel

theorem mv_busMaster {s : State} {fn : Nat} {b : Bool} : Moves 0x240000a000000000000000000000000000000000004001000000000000000000000000001000c0 s (State.busMaster s fn b) := by
  unfold State.busMaster
  with_reducible
    apply mvIte; exact Moves.refl; apply mvIte; apply Moves.step (g := mv_resumeFn); apply mvSetFlag; exact Moves.refl
    decide +kernel; decide +kernel; apply mvSetFlag; exact Moves.refl; decide +kernel

theorem mv_execBusMasterEnableClear {f : FnIx} {s : State} : MovesR 0x240000a000000000000000000000000000000000004001000000000000000000000000001000c0 s (execBusMasterEnableClear f s) := by
  unfold execBusMasterEnableClear
  with_reducible
    apply mvNext; apply Moves.step (g := mv_busMaster); exact Moves.refl; decide +kernel

theorem mv_execBusMasterEnableSet {f : FnIx} {s : State} : MovesR 0x240000a000000000000000000000000000000000004001000000000000000000000000001000c0 s (execBusMasterEnableSet f s) := by
  unfold execBusMasterEnableSet
  with_reducible
    apply mvNext; apply Moves.step (g := mv_busMaster); exact Moves.refl; decide +kernel

theorem mv_execPcieCntClr {s : State} : MovesR 0xf800000000 s (execPcieCntClr s) := by
  unfold execPcieCntClr
  with_reducible
    apply mvNext; apply mvZero0; exact Moves.refl; decide +kernel

end Sys2Proof.Laws
end

