-- ==== Sys2Proof/Laws/MovesCores.lean ====
section
/-!
SUPPORT. What each definition of Machine/Cores.lean can change (Laws/Moves.lean).
-/
set_option Elab.async false

namespace Sys2Proof.Laws
open Sys2Proof.Machine

theorem mv_haltCapture {s : State} : Moves 0x2400002000000000000200000000000000000000004410000f83c82008000000000000001070fc s (State.haltCapture s) := by
  unfold State.haltCapture
  with_reducible
    refine mvMk ?_; apply Moves.step (g := mv_cutTakes); exact Moves.refl; decide +kernel

theorem mv_cutArchive {s : State} : Moves 0x80000000000000000000000000000000000000000400 s (State.cutArchive s) := by
  unfold State.cutArchive
  with_reducible
    refine mvMk ?_; apply Moves.step (g := mv_endArchive); exact Moves.refl; decide +kernel

theorem mv_aosSafe {s : State} : Moves 0x3c00002000000000000203001088000800800000004410006f83c8200800000008080000187cfd s (State.aosSafe s) := by
  unfold State.aosSafe
  with_reducible
    apply mvIte; apply mv_cause; exact Moves.refl; decide +kernel; refine mvMk ?_; apply Moves.step (g := mv_releaseClaim)
    apply Moves.step (g := mv_selfRefresh); apply Moves.step (g := mv_lanesIdle); apply Moves.step (g := mv_safeActuators)
    apply Moves.step (g := mv_cutArchive); apply Moves.step (g := mv_haltCapture); apply mv_cause
    apply Moves.step (g := mv_contain); apply Moves.step (g := mv_contain); exact Moves.refl; decide +kernel
    decide +kernel; decide +kernel; decide +kernel; decide +kernel; decide +kernel; decide +kernel; decide +kernel
    decide +kernel

theorem mv_bumpCounter {s : State} {id n : Nat} : Moves 0x18000000000000000000000000000000000000000000000000000000008000 s (State.bumpCounter s id n) := by
  unfold State.bumpCounter
  with_reducible
    apply Moves.step (g := mv_journalCompact); apply Moves.step (g := mv_journalPut); exact Moves.refl; decide +kernel
    decide +kernel

theorem mv_countLockups {s : State} : Moves 0x18000000000000000000000000000000000000000000000000000000018000 s (State.countLockups s) := by
  unfold State.countLockups
  with_reducible
    apply mvIte; exact Moves.refl; apply Moves.step (g := mv_bumpCounter); refine mvMk ?_; exact Moves.refl
    decide +kernel

theorem mv_countStarts {s : State} : Moves 0x18000000000000000000000000000000000000000000000000000000008000 s (State.countStarts s) := by
  unfold State.countStarts
  with_reducible
    apply mvIte; apply Moves.step (g := mv_bumpCounter); apply mvIte; apply Moves.step (g := mv_bumpCounter); apply mvIte
    apply Moves.step (g := mv_bumpCounter); exact Moves.refl; decide +kernel; exact Moves.refl; decide +kernel
    apply mvIte; apply Moves.step (g := mv_bumpCounter); exact Moves.refl; decide +kernel; exact Moves.refl
    decide +kernel; apply mvIte; apply Moves.step (g := mv_bumpCounter); apply mvIte
    apply Moves.step (g := mv_bumpCounter); exact Moves.refl; decide +kernel; exact Moves.refl; decide +kernel
    apply mvIte; apply Moves.step (g := mv_bumpCounter); exact Moves.refl; decide +kernel; exact Moves.refl

theorem mv_lockCore {s : State} {k cause : Nat} {info : Word} : Moves 0x3c00002000001ee8980207003488020808800000014410006f83c820080000800808020019fcfd s (State.lockCore s k cause info) := by
  unfold State.lockCore
  with_reducible
    apply mvIte; apply mvIte; apply Moves.step (g := mv_aosSafe); apply mvFold; apply mv_event
    apply Moves.step (g := mv_notice); apply mvPut; apply mvIte; apply Moves.step (g := mv_abandonCal); apply mv_event
    apply Moves.step (g := mv_bumpCore); apply mvPut; apply mvPut; apply mvPut; apply mvPut64; refine mvMk ?_
    exact Moves.refl; decide +kernel; decide +kernel; decide +kernel; decide +kernel; decide +kernel; decide +kernel
    decide +kernel; apply mv_event; apply Moves.step (g := mv_bumpCore); apply mvPut; apply mvPut; apply mvPut
    apply mvPut64; refine mvMk ?_; exact Moves.refl; decide +kernel; decide +kernel; decide +kernel; decide +kernel
    decide +kernel; decide +kernel; decide +kernel; decide +kernel; decide +kernel; intro u x hu
    apply Moves.step (g := mv_failUnit); assumption; decide +kernel; decide +kernel
    apply Moves.step (g := mv_countLockups); apply mvFold; apply mv_event; apply Moves.step (g := mv_notice); apply mvPut
    apply mvIte; apply Moves.step (g := mv_abandonCal); apply mv_event; apply Moves.step (g := mv_bumpCore); apply mvPut
    apply mvPut; apply mvPut; apply mvPut64; refine mvMk ?_; exact Moves.refl; decide +kernel; decide +kernel
    decide +kernel; decide +kernel; decide +kernel; decide +kernel; decide +kernel; apply mv_event
    apply Moves.step (g := mv_bumpCore); apply mvPut; apply mvPut; apply mvPut; apply mvPut64; refine mvMk ?_
    exact Moves.refl; decide +kernel; decide +kernel; decide +kernel; decide +kernel; decide +kernel; decide +kernel
    decide +kernel; decide +kernel; decide +kernel; intro u x hu; apply Moves.step (g := mv_failUnit); assumption
    decide +kernel; decide +kernel; apply Moves.step (g := mv_countLockups); apply Moves.step (g := mv_notice)
    apply mvPut; apply mvIte; apply Moves.step (g := mv_abandonCal); apply mv_event; apply Moves.step (g := mv_bumpCore)
    apply mvPut; apply mvPut; apply mvPut; apply mvPut64; refine mvMk ?_; exact Moves.refl; decide +kernel; decide +kernel
    decide +kernel; decide +kernel; decide +kernel; decide +kernel; decide +kernel; apply mv_event
    apply Moves.step (g := mv_bumpCore); apply mvPut; apply mvPut; apply mvPut; apply mvPut64; refine mvMk ?_
    exact Moves.refl; decide +kernel; decide +kernel; decide +kernel; decide +kernel; decide +kernel; decide +kernel
    decide +kernel; decide +kernel; decide +kernel

theorem mv_execCoreLockup {k : Fin 5} {cause : Nat} {info : Word} {s : State} : MovesR 0x3c00002000001ee8980207003488020808800000014410006f83c820080000800808020019fcfd s (execCoreLockup k cause info s) := by
  unfold execCoreLockup
  with_reducible
    apply mvIteR; apply mvNext; exact Moves.refl; apply mvNext; apply Moves.step (g := mv_lockCore); exact Moves.refl
    decide +kernel

theorem mv_execCoreWatchdogTimeout {k : Fin 5} {info : Word} {s : State} : MovesR 0x3c00002000001ee8980207003488020808800000014410006f83c820080000800808020019fcfd s (execCoreWatchdogTimeout k info s) := by
  unfold execCoreWatchdogTimeout
  with_reducible
    apply mvIteR; apply mvNext; apply Moves.step (g := mv_aosSafe); apply mv_cause; apply Moves.step (g := mv_lockCore)
    exact Moves.refl; decide +kernel; decide +kernel; decide +kernel; apply mvIteR; apply mvNext
    apply Moves.step (g := mv_lockCore); exact Moves.refl; decide +kernel; apply mvNext; exact Moves.refl

theorem mv_bootFirmware {s : State} {want : Nat} {fw0 fw1 : Bool} : Moves 0x24000020000000001a02070034880200088000000144100020000000000000800000020018bcc0 s (State.bootFirmware s want fw0 fw1) := by
  unfold State.bootFirmware
  with_reducible
    apply mvIte; apply mvPut; apply mvSetFlag; apply mvSetFlag; exact Moves.refl; decide +kernel; decide +kernel
    decide +kernel; apply mvIte; apply mvSetFlag; apply mvPut; apply mvSetFlag; apply mvSetFlag; exact Moves.refl
    decide +kernel; decide +kernel; decide +kernel; decide +kernel; apply mvFold; apply mvSetFlag; apply mvSetFlag
    apply mvSetFlag; exact Moves.refl; decide +kernel; decide +kernel; decide +kernel; intro u x hu
    apply Moves.step (g := mv_failUnit); assumption; decide +kernel

theorem mv_execCoreRestart {k : Fin 5} {fw0 fw1 : Bool} {s : State} : MovesR 0x24000020000000181a02070034880200088000000144100020000000000000800000020018bcc0 s (execCoreRestart k fw0 fw1 s) := by
  unfold execCoreRestart
  with_reducible
    apply mvIteR; apply mvNext; exact Moves.refl; apply mvNext; apply mvIte; apply Moves.step (g := mv_bootFirmware)
    apply mvInc; apply mvPut; exact Moves.refl; decide +kernel; decide +kernel; decide +kernel; apply mvInc; apply mvPut
    exact Moves.refl; decide +kernel; decide +kernel

theorem mv_execCoreSleep {k : Fin 5} {s : State} : MovesR 0x800000000000000000000000000000000000000000000000000000000000000 s (execCoreSleep k s) := by
  unfold execCoreSleep
  with_reducible
    apply mvIteR; apply mvNext; apply mvPut; exact Moves.refl; decide +kernel; apply mvNext; exact Moves.refl

theorem mv_bootDone {s : State} : Moves 0x200000200000030d00000000000000000000000000000000000000000000000000000000100000 s (State.bootDone s) := by
  unfold State.bootDone
  with_reducible
    apply Moves.step (g := mv_sendBox); exact Moves.refl; decide +kernel

theorem mv_secSelfTest {s : State} {engines : BitVec 16} {tests : Bool} : Moves 0x240000200000000018060f0034880200088000000144100020000000000000800000020018bcc0 s (State.secSelfTest s engines tests) := by
  unfold State.secSelfTest
  with_reducible
    apply mvIte; apply Moves.step (g := mv_failUnit); apply mvIte; apply mv_event; apply mvPut; apply mvFold
    exact Moves.refl; intro u x hu; apply mvSetFlag; assumption; decide +kernel; decide +kernel; decide +kernel
    apply mvPut; apply mvFold; exact Moves.refl; intro u x hu; apply mvSetFlag; assumption; decide +kernel; decide +kernel
    decide +kernel; apply mvIte; apply mvIte; apply mv_event; apply mvPut; apply mvFold; exact Moves.refl; intro u x hu
    apply mvSetFlag; assumption; decide +kernel; decide +kernel; decide +kernel; apply mvPut; apply mvFold
    exact Moves.refl; intro u x hu; apply mvSetFlag; assumption; decide +kernel; decide +kernel; apply mvPut; apply mvPut
    apply mvIte; apply mv_event; apply mvPut; apply mvFold; exact Moves.refl; intro u x hu; apply mvSetFlag; assumption
    decide +kernel; decide +kernel; decide +kernel; apply mvPut; apply mvFold; exact Moves.refl; intro u x hu
    apply mvSetFlag; assumption; decide +kernel; decide +kernel; decide +kernel; decide +kernel

theorem mv_restoreFwSlots {s : State} : Moves 0x20000000000000000000000000000000000000000000000000000000000 s (State.restoreFwSlots s) := by
  unfold State.restoreFwSlots
  with_reducible
    apply mvPut; apply mvSetFlag; apply mvFold; exact Moves.refl; intro u x hu; apply mvPut; apply mvSetFlag; assumption
    decide +kernel; decide +kernel; decide +kernel; decide +kernel

theorem mv_execCoreFirstHeartbeat {k : Fin 5} {engines : BitVec 16} {tests : Bool} {s : State} : MovesR 0x240000200000030d18060f0034880200088000000144100020000000000000800000020019bcc0 s (execCoreFirstHeartbeat k engines tests s) := by
  unfold execCoreFirstHeartbeat
  with_reducible
    apply mvIteR; apply mvNext; exact Moves.refl; apply mvNext; apply mvIte; apply Moves.step (g := mv_restoreFwSlots)
    apply Moves.step (g := mv_secSelfTest); apply mvIte; apply Moves.step (g := mv_countLockups); apply mvIte; apply mvIte
    apply Moves.step (g := mv_bootDone); apply Moves.step (g := mv_countStarts); apply mvIte; refine mvMk ?_; apply mvIte
    apply Moves.step (g := mv_notice); apply mvPut; exact Moves.refl; decide +kernel; decide +kernel; apply mvPut
    exact Moves.refl; decide +kernel; apply mvIte; apply Moves.step (g := mv_notice); apply mvPut; exact Moves.refl
    decide +kernel; decide +kernel; apply mvPut; exact Moves.refl; decide +kernel; decide +kernel; decide +kernel
    apply mvIte; refine mvMk ?_; apply mvIte; apply Moves.step (g := mv_notice); apply mvPut; exact Moves.refl
    decide +kernel; decide +kernel; apply mvPut; exact Moves.refl; decide +kernel; apply mvIte
    apply Moves.step (g := mv_notice); apply mvPut; exact Moves.refl; decide +kernel; decide +kernel; apply mvPut
    exact Moves.refl; decide +kernel; apply mvIte; apply Moves.step (g := mv_notice); apply mvPut; exact Moves.refl
    decide +kernel; decide +kernel; apply mvPut; exact Moves.refl; decide +kernel; decide +kernel; apply mvIte
    apply mvIte; apply Moves.step (g := mv_bootDone); apply Moves.step (g := mv_countStarts); apply mvIte; refine mvMk ?_
    apply mvIte; apply Moves.step (g := mv_notice); apply mvPut; exact Moves.refl; decide +kernel; decide +kernel
    apply mvPut; exact Moves.refl; decide +kernel; apply mvIte; apply Moves.step (g := mv_notice); apply mvPut
    exact Moves.refl; decide +kernel; decide +kernel; apply mvPut; exact Moves.refl; decide +kernel; decide +kernel
    decide +kernel; apply mvIte; refine mvMk ?_; apply mvIte; apply Moves.step (g := mv_notice); apply mvPut
    exact Moves.refl; decide +kernel; decide +kernel; apply mvPut; exact Moves.refl; decide +kernel; apply mvIte
    apply Moves.step (g := mv_notice); apply mvPut; exact Moves.refl; decide +kernel; decide +kernel; apply mvPut
    exact Moves.refl; decide +kernel; apply mvIte; apply Moves.step (g := mv_notice); apply mvPut; exact Moves.refl
    decide +kernel; decide +kernel; apply mvPut; exact Moves.refl; decide +kernel; decide +kernel; decide +kernel
    apply mvIte; apply Moves.step (g := mv_countLockups); apply mvIte; apply mvIte; apply Moves.step (g := mv_bootDone)
    apply Moves.step (g := mv_countStarts); apply mvIte; refine mvMk ?_; apply mvIte; apply Moves.step (g := mv_notice)
    apply mvPut; exact Moves.refl; decide +kernel; decide +kernel; apply mvPut; exact Moves.refl; decide +kernel
    apply mvIte; apply Moves.step (g := mv_notice); apply mvPut; exact Moves.refl; decide +kernel; decide +kernel
    apply mvPut; exact Moves.refl; decide +kernel; decide +kernel; decide +kernel; apply mvIte; refine mvMk ?_
    apply mvIte; apply Moves.step (g := mv_notice); apply mvPut; exact Moves.refl; decide +kernel; decide +kernel
    apply mvPut; exact Moves.refl; decide +kernel; apply mvIte; apply Moves.step (g := mv_notice); apply mvPut
    exact Moves.refl; decide +kernel; decide +kernel; apply mvPut; exact Moves.refl; decide +kernel; apply mvIte
    apply Moves.step (g := mv_notice); apply mvPut; exact Moves.refl; decide +kernel; decide +kernel; apply mvPut
    exact Moves.refl; decide +kernel; decide +kernel; apply mvIte; apply mvIte; apply Moves.step (g := mv_bootDone)
    apply Moves.step (g := mv_countStarts); apply mvIte; refine mvMk ?_; apply mvIte; apply Moves.step (g := mv_notice)
    apply mvPut; exact Moves.refl; decide +kernel; decide +kernel; apply mvPut; exact Moves.refl; decide +kernel
    apply mvIte; apply Moves.step (g := mv_notice); apply mvPut; exact Moves.refl; decide +kernel; decide +kernel
    apply mvPut; exact Moves.refl; decide +kernel; decide +kernel; decide +kernel; apply mvIte; refine mvMk ?_
    apply mvIte; apply Moves.step (g := mv_notice); apply mvPut; exact Moves.refl; decide +kernel; decide +kernel
    apply mvPut; exact Moves.refl; decide +kernel; apply mvIte; apply Moves.step (g := mv_notice); apply mvPut
    exact Moves.refl; decide +kernel; decide +kernel; apply mvPut; exact Moves.refl; decide +kernel; apply mvIte
    apply Moves.step (g := mv_notice); apply mvPut; exact Moves.refl; decide +kernel; decide +kernel; apply mvPut
    exact Moves.refl; decide +kernel

theorem mv_execColophonCoreLockup {s : State} : MovesR 0x8000000000000000000000000000000000000000000000000000000000000004000 s (execColophonCoreLockup s) := by
  unfold execColophonCoreLockup
  with_reducible
    apply mvIteR; apply mvNext; exact Moves.refl; apply mvNext; apply mvIte; apply mvPut; refine mvMk ?_; exact Moves.refl
    decide +kernel; refine mvMk ?_; exact Moves.refl

end Sys2Proof.Laws
end

