-- ==== Sys2Proof/Laws/MovesExp.lean ====
section
/-!
SUPPORT. What each definition of Machine/Exp.lean can change (Laws/Moves.lean).
-/
set_option Elab.async false

namespace Sys2Proof.Laws
open Sys2Proof.Machine

theorem mv_exportPiece {s : State} {puns : Puns} {ecc : NandEcc} {bad : List Nat} {keyed : Bool} {u off : Nat} {data : List Byte} {t : State × Nat}
    (e : s.exportPiece puns ecc bad keyed u off data = some t) : Moves 0x2000002000000000000000000000000000000007c10000000f81c8000000000000000000302100 s t.1 := by
  unfold State.exportPiece at e
  obtain ⟨w, hw, he⟩ := Option.map_eq_some_iff.mp e
  subst he
  have h0 : Moves 0x2000002000000000000000000000000000000007c10000000f81c8000000000000000000302100 s (if data.length = 16384 then (([] : List Byte), 0, s) else s.readUnit u (15 - sectorMask off data.length) ecc).2.2 := by
    split
    · exact Moves.refl
    · exact mv_readUnit.mono (by decide +kernel)
  have h1 := h0.step (mv_programUnit hw) (by decide +kernel)
  refine mvAdd64 (f := Reg.MAG_HOST_WR) (n := 1) (i := 0) ?_ (by decide +kernel)
  exact mvMk (h1.step mv_markPoison (by decide +kernel))

theorem mv_exportWrite {s : State} {puns : Puns} {ecc : NandEcc} {bad : List Nat} {keyed : Bool} {pos : Nat} {data : List Byte} :
    Moves 0x2400002000000000000200000000000000008007d14410000f83c80000000000000000003033d0 s (s.exportWrite puns ecc bad keyed pos data).2 := by
  unfold State.exportWrite
  dsimp only
  generalize hr : List.foldl _ _ _ = r
  have h : Moves 0x2400002000000000000200000000000000008007d14410000f83c80000000000000000003033d0 s r.2 := by
    rw [← hr]
    apply mvFoldSnd
    · exact Moves.refl
    · intro b u x hu
      dsimp only
      split
      · exact hu
      · split
        · next e => exact hu.step (mv_exportPiece e) (by decide +kernel)
        · exact hu
  refine mvIteSnd h ?_
  exact mvSnd ((((h.step mv_journalMap (by decide +kernel)).step mv_bufDrop (by decide +kernel)).step mv_checkFlushes
    (by decide +kernel)).step mv_spareCheck (by decide +kernel))

theorem mv_exportBlocks {s : State} {k : Cmd} {puns : Puns} {ecc : NandEcc} {plain : List Byte} {bad : List Nat} {frame : Option Nat} : Moves 0x2400002000000000000200000000000000008007d14410000f83c80000000000000000003033d4 s (State.exportBlocks s k puns ecc plain bad frame) := by
  unfold State.exportBlocks
  with_reducible
    apply mvIte; apply Moves.step (g := mv_finish); exact Moves.refl; decide +kernel; apply mvIte
    apply Moves.step (g := mv_finish); exact Moves.refl; decide +kernel; apply mvIte; apply Moves.step (g := mv_finish)
    apply Moves.step (g := mv_exportWrite); apply mvIte; apply Moves.step (g := mv_queueAes); exact Moves.refl
    decide +kernel; exact Moves.refl; decide +kernel; decide +kernel; split; apply Moves.step (g := mv_finish)
    apply Moves.step (g := mv_exportWrite); apply mvIte; apply Moves.step (g := mv_queueAes); exact Moves.refl
    decide +kernel; exact Moves.refl; decide +kernel; decide +kernel; apply Moves.step (g := mv_setCmd)
    apply Moves.step (g := mv_setTake); apply Moves.step (g := mv_exportWrite); apply mvIte
    apply Moves.step (g := mv_queueAes); exact Moves.refl; decide +kernel; exact Moves.refl; decide +kernel
    decide +kernel; decide +kernel

theorem mv_exportStep {s : State} {k : Cmd} {puns : Puns} {ecc : NandEcc} : Moves 0x2400002000000000000200000000000000008007d14410000f83c80000000000000000003033d4 s (State.exportStep s k puns ecc) := by
  unfold State.exportStep
  with_reducible
    dsimp only; split; apply Moves.step (g := mv_exportBlocks); apply Moves.step (g := mv_galRead); exact Moves.refl
    decide +kernel; decide +kernel; apply mvIte; apply Moves.step (g := mv_exportBlocks); exact Moves.refl; decide +kernel
    exact Moves.refl

theorem mv_execExportTake {c : Nat} {dmg : Damage} {puns : Puns} {ecc : NandEcc} {s : State} : MovesR 0x2400002000000000000200000000000000008007d14410000f83c80000000000000000003033d4 s (execExportTake c dmg puns s ecc) := by
  unfold execExportTake
  with_reducible
    apply mv_onCmd; exact Moves.refl; decide +kernel; intro u x hu; apply mvIte; apply Moves.step (g := mv_finish)
    assumption; decide +kernel; split; apply Moves.step (g := mv_finish); assumption; decide +kernel; apply mvIte
    apply Moves.step (g := mv_finish); assumption; decide +kernel; apply mvIte; apply Moves.step (g := mv_exportStep)
    apply Moves.step (g := mv_strike); apply mvIte; apply mvSetFlag; apply Moves.step (g := mv_bindKey); assumption
    decide +kernel; decide +kernel; assumption; decide +kernel; decide +kernel; apply mvIte; apply mvSetFlag
    apply Moves.step (g := mv_bindKey); assumption; decide +kernel; decide +kernel; assumption

theorem formeFirst_state {a n : Nat} {b : List Byte} {ps : List Nat} {r : Nat × List Byte × List Nat × Option Nat × State} :
    (formeFirst a n b ps r).2.2.2.2 = r.2.2.2.2 := rfl

theorem mvIteFifth {α β γ δ : Type} {M : Nat} {s : State} {a b : α × β × γ × δ × State} {c : Prop} [Decidable c]
    (ha : Moves M s a.2.2.2.2) (hb : Moves M s b.2.2.2.2) : Moves M s (if c then a else b).2.2.2.2 := by split <;> assumption

theorem mv_readFormes {s : State} {seg room : Nat} {l : List Span} :
    Moves 0x2000002000000000000000000000000000000000000000000f81c8000000000000000000100000 s (State.readFormes s seg room l).2.2.2.2 := by
  induction l generalizing s room with
  | nil => rw [State.readFormes]; exact Moves.refl
  | cons x r ih =>
    rw [State.readFormes]
    with_reducible apply mvIteFifth
    · exact mvFifth Moves.refl
    · rw [formeFirst_state]
      exact Moves.step (mv_galRead.mono (by decide +kernel)) ih (by decide +kernel)

theorem mv_execGalleyRead {c : Nat} {dmg : Damage} {s : State} : MovesR 0x2400002000000000000200000000000000000000004410000f81c80000000000000040001030d0 s (execGalleyRead c dmg s) := by
  unfold execGalleyRead
  with_reducible
    apply mv_onCmd; exact Moves.refl; decide +kernel; intro u x hu; apply mvIte; apply Moves.step (g := mv_finish)
    assumption; decide +kernel; apply mvIte; assumption; apply mvIte; apply Moves.step (g := mv_finish); assumption
    decide +kernel; split; apply Moves.step (g := mv_finish); apply Moves.step (g := mv_deliver)
    apply Moves.step (g := mv_readFormes); apply Moves.step (g := mv_strike); assumption; decide +kernel; decide +kernel
    decide +kernel; decide +kernel; apply Moves.step (g := mv_finish); apply Moves.step (g := mv_deliver)
    apply Moves.step (g := mv_readFormes); apply Moves.step (g := mv_strike); assumption; decide +kernel; decide +kernel
    decide +kernel; decide +kernel

theorem mv_playUnits {s : State} {p seg : Nat} {x : Span} {first : Nat} : Moves 0x2000002000000000000000000080000000000000000000000f81c8000000000002000000100801 s (State.playUnits s p seg x first) := by
  unfold State.playUnits
  with_reducible
    apply mvFold; apply Moves.step (g := mv_galRead); exact Moves.refl; decide +kernel; intro u x hu; apply mvFold
    assumption; split; intro u x hu; apply Moves.step (g := mv_txSend); assumption; decide +kernel; intro u x hu
    apply Moves.step (g := mv_txSend); assumption; decide +kernel

theorem mv_playStep {s : State} {k : Cmd} {p seg : Nat} {x : Span} : Moves 0x2000002000000000000000000080000000000000000000000f81c800000000000a000000100881 s (State.playStep s k p seg x) := by
  unfold State.playStep
  with_reducible
    apply mvIte; apply Moves.step (g := mv_setCmd); apply Moves.step (g := mv_playUnits); apply mvIte
    apply Moves.step (g := mv_txAll); apply Moves.step (g := mv_txContent); exact Moves.refl; decide +kernel
    decide +kernel; exact Moves.refl; decide +kernel; decide +kernel; apply Moves.step (g := mv_setCmd)
    apply Moves.step (g := mv_txContent); apply Moves.step (g := mv_txAll); apply Moves.step (g := mv_playUnits)
    apply mvIte; apply Moves.step (g := mv_txAll); apply Moves.step (g := mv_txContent); exact Moves.refl; decide +kernel
    decide +kernel; exact Moves.refl; decide +kernel; decide +kernel; decide +kernel; decide +kernel

theorem mv_playEnd {s : State} {k : Cmd} {p status : Nat} : Moves 0x2400002000000000000200000000000000000000004410000000000000000000080000001030c1 s (State.playEnd s k p status) := by
  unfold State.playEnd
  with_reducible
    apply Moves.step (g := mv_finish); apply mvIte; exact Moves.refl; apply Moves.step (g := mv_txContent)
    exact Moves.refl; decide +kernel; decide +kernel

theorem mv_execEgressPlay {c : Nat} {dmg : Damage} {s : State} : MovesR 0x2400002000000000000200000080000000000000004410000f81c800000000000a0000001038d1 s (execEgressPlay c dmg s) := by
  unfold execEgressPlay
  with_reducible
    apply mv_onCmd; exact Moves.refl; decide +kernel; intro u x hu; split; apply Moves.step (g := mv_finish); assumption
    decide +kernel; apply mvIte; apply Moves.step (g := mv_setCmd); assumption; decide +kernel; apply mvIte
    apply Moves.step (g := mv_playEnd); assumption; decide +kernel; apply mvIte; apply Moves.step (g := mv_playEnd)
    assumption; decide +kernel; apply mvIte; apply mvIte; apply Moves.step (g := mv_txAll); assumption; decide +kernel
    assumption; apply mvIte; assumption; split; dsimp only; split; assumption; apply mvIte
    apply Moves.step (g := mv_finish); apply Moves.step (g := mv_playStep); apply Moves.step (g := mv_strike); assumption
    decide +kernel; decide +kernel; decide +kernel; apply Moves.step (g := mv_playStep); apply Moves.step (g := mv_strike)
    assumption; decide +kernel; decide +kernel; dsimp only; split; apply Moves.step (g := mv_playEnd); assumption
    decide +kernel; apply mvIte; apply Moves.step (g := mv_finish); apply Moves.step (g := mv_playStep)
    apply Moves.step (g := mv_strike); assumption; decide +kernel; decide +kernel; decide +kernel
    apply Moves.step (g := mv_playStep); apply Moves.step (g := mv_strike); assumption; decide +kernel; decide +kernel

theorem mv_sanitizeJournal {s : State} {j : SanitizeJob} {st progress : Nat} : Moves 0x18000000000000000000000000000000000000000000000000000000008000 s (State.sanitizeJournal s j st progress) := by
  unfold State.sanitizeJournal
  with_reducible
    apply Moves.step (g := mv_journalCompact); apply Moves.step (g := mv_journalPut); exact Moves.refl; decide +kernel
    decide +kernel

theorem mv_showSanitize {s : State} {kind st progress : Nat} {resumed : Bool} : Moves 0x200000000000000000000000000000000 s (State.showSanitize s kind st progress resumed) := by
  unfold State.showSanitize
  with_reducible
    apply mvSetFlag; apply mvPut; apply mvPut; apply mvPut; exact Moves.refl; decide +kernel; decide +kernel
    decide +kernel; decide +kernel

theorem mv_eraseDie {s : State} {d : Die} : Moves 0x100 s (State.eraseDie s d) := by
  unfold State.eraseDie
  with_reducible
    apply mvFold; exact Moves.refl; intro u x hu; apply Moves.step (g := mv_eraseBlock); assumption; decide +kernel

theorem mv_zeroSegments {s : State} : Moves 0x208000000000000000000000010 s (State.zeroSegments s) := by
  unfold State.zeroSegments
  with_reducible
    apply mvFold; exact Moves.refl; intro u x hu; apply Moves.step (g := mv_galZero); assumption; decide +kernel

theorem mv_wipe {s : State} {j : SanitizeJob} : Moves 0x24000020000000000002000000000000000080201f4410000000000000000000000000003033c0 s (State.wipe s j) := by
  unfold State.wipe
  with_reducible
    apply Moves.step (g := mv_becomeReady); apply Moves.step (g := mv_mapForget); refine mvMk ?_
    apply Moves.step (g := mv_setNand); apply mvFreeBytes; apply Moves.step (g := mv_discardBuffer); exact Moves.refl
    decide +kernel; decide +kernel; decide +kernel; decide +kernel; decide +kernel

theorem mv_sanitizeStep {s : State} {j : SanitizeJob} {resumed : Bool} : Moves 0x24000020000000001802000000000000000080201f44120000020800000000000000000030b3d0 s (State.sanitizeStep s j resumed) := by
  unfold State.sanitizeStep
  with_reducible
    apply mvIte; apply Moves.step (g := mv_showSanitize); apply Moves.step (g := mv_sanitizeJournal); refine mvMk ?_
    split; apply Moves.step (g := mv_eraseDie); exact Moves.refl; decide +kernel; apply mvIte
    apply Moves.step (g := mv_wipe); exact Moves.refl; decide +kernel; apply Moves.step (g := mv_zeroSegments)
    exact Moves.refl; decide +kernel; decide +kernel; decide +kernel; apply Moves.step (g := mv_showSanitize)
    apply Moves.step (g := mv_sanitizeJournal); refine mvMk ?_; split; apply Moves.step (g := mv_eraseDie)
    exact Moves.refl; decide +kernel; apply mvIte; apply Moves.step (g := mv_wipe); exact Moves.refl; decide +kernel
    apply Moves.step (g := mv_zeroSegments); exact Moves.refl; decide +kernel; decide +kernel; decide +kernel

theorem mv_sanitizeCmd {s : State} {k : Cmd} {kind lbs : Nat} {galley : Bool} : Moves 0x24000020000000001802000000000000000080201f44120000020800000000000000000030b3d0 s (State.sanitizeCmd s k kind lbs galley) := by
  unfold State.sanitizeCmd
  with_reducible
    split; split; apply mvIte; exact Moves.refl; apply mvIte; apply Moves.step (g := mv_finish)
    apply Moves.step (g := mv_sanitizeStep); exact Moves.refl; decide +kernel; decide +kernel
    apply Moves.step (g := mv_sanitizeStep); exact Moves.refl; decide +kernel; apply mvIte
    apply Moves.step (g := mv_finish); exact Moves.refl; decide +kernel; apply mvIte; exact Moves.refl; apply mvIte
    apply Moves.step (g := mv_finish); apply Moves.step (g := mv_showSanitize); exact Moves.refl; decide +kernel
    decide +kernel; apply Moves.step (g := mv_showSanitize); apply Moves.step (g := mv_sanitizeJournal); refine mvMk ?_
    exact Moves.refl; decide +kernel; decide +kernel; apply mvIte; apply Moves.step (g := mv_finish); exact Moves.refl
    decide +kernel; apply mvIte; exact Moves.refl; apply mvIte; apply Moves.step (g := mv_finish)
    apply Moves.step (g := mv_showSanitize); exact Moves.refl; decide +kernel; decide +kernel
    apply Moves.step (g := mv_showSanitize); apply Moves.step (g := mv_sanitizeJournal); refine mvMk ?_; exact Moves.refl
    decide +kernel; decide +kernel

theorem mv_execSanitize {c : Nat} {s : State} : MovesR 0x24000020000000001802000000000000000080201f44120000020800000000000000000030b3d0 s (execSanitize c s) := by
  unfold execSanitize
  with_reducible
    apply mv_onCmd; exact Moves.refl; decide +kernel; intro u x hu; apply Moves.step (g := mv_sanitizeCmd); assumption
    decide +kernel

theorem mv_execFormat {c : Nat} {s : State} : MovesR 0x24000020000000001802000000000000000080201f44120000020800000000000000000030b3d0 s (execFormat c s) := by
  unfold execFormat
  with_reducible
    apply mv_onCmd; exact Moves.refl; decide +kernel; intro u x hu; apply Moves.step (g := mv_sanitizeCmd); assumption
    decide +kernel

theorem mv_loadSanitize {s : State} : Moves 0x200000000000000000000000000000100 s (State.loadSanitize s) := by
  unfold State.loadSanitize
  with_reducible
    split; refine mvMk ?_; exact Moves.refl; refine mvMk ?_; apply Moves.step (g := mv_showSanitize); exact Moves.refl
    decide +kernel

theorem mv_execSanitizeResume {s : State} : MovesR 0x24000020000000001802000000000000000080201f44120000020800000000000000000030b3d0 s (execSanitizeResume s) := by
  unfold execSanitizeResume
  with_reducible
    split; apply mvIteR; apply mvNext; exact Moves.refl; apply mvNext; apply Moves.step (g := mv_sanitizeStep)
    exact Moves.refl; decide +kernel; apply mvNext; exact Moves.refl

end Sys2Proof.Laws
end

