-- ==== Sys2Proof/Laws/MovesJtag.lean ====
section
/-!
SUPPORT. What each definition of Machine/Jtag.lean can change (Laws/Moves.lean).
-/
set_option Elab.async false

namespace Sys2Proof.Laws
open Sys2Proof.Machine

theorem mv_scanBypass {s : State} {tdi : List Bool} : Moves 0x140000 s (State.scanBypass s tdi) := by
  unfold State.scanBypass
  with_reducible
    apply mvEmit; refine mvMk ?_; exact Moves.refl; decide +kernel

theorem mv_testOutputs {s : State} : Moves 0x108800080000000000000000000000000000000000000000081c00 s (State.testOutputs s) := by
  unfold State.testOutputs
  with_reducible
    apply Moves.step (g := mv_bridgesOff); apply Moves.step (g := mv_spindleOff); apply Moves.step (g := mv_loopsOff)
    apply Moves.step (g := mv_lasersOff); exact Moves.refl; decide +kernel; decide +kernel; decide +kernel; decide +kernel

theorem mv_execTapReset {s : State} : MovesR 0x200000200002040000000000000000000000000000000000000000000000000000000000150000 s (execTapReset s) := by
  unfold execTapReset
  with_reducible
    apply mvNext; apply mv_event; apply mvSetFlag; refine mvMk ?_; apply Moves.step (g := mv_orphan); exact Moves.refl
    decide +kernel; decide +kernel; decide +kernel

theorem mv_tapInstr {s : State} {n : Nat} : Moves 0x2000000000000000000000000000000000000000000000000000000000000040000 s (State.tapInstr s n) := by
  unfold State.tapInstr
  with_reducible
    apply mvSetFlag; refine mvMk ?_; exact Moves.refl; decide +kernel

theorem mv_execBypass {tdi : List Bool} {s : State} : MovesR 0x2000000000000000000000000000000000000000000000000000000000000140000 s (execBypass tdi s) := by
  unfold execBypass
  with_reducible
    apply mvNext; apply Moves.step (g := mv_scanBypass); apply Moves.step (g := mv_tapInstr); exact Moves.refl
    decide +kernel; decide +kernel

theorem mv_execIdcode {tdi : List Bool} {s : State} : MovesR 0x2000000000000000000000000000000000000000000000000000000000000140000 s (execIdcode tdi s) := by
  unfold execIdcode
  with_reducible
    apply mvNext; apply mvEmit; apply Moves.step (g := mv_tapInstr); exact Moves.refl; decide +kernel; decide +kernel

theorem mv_execSamplePreload {pins tdi : List Bool} {s : State} : MovesR 0x2000000000000000000000000000000000000000000000000000000000000140000 s (execSamplePreload pins tdi s) := by
  unfold execSamplePreload
  with_reducible
    apply mvNext; apply mvEmit; refine mvMk ?_; apply Moves.step (g := mv_tapInstr); exact Moves.refl; decide +kernel
    decide +kernel

theorem mv_execExtest {tdi : List Bool} {s : State} : MovesR 0x2400002000020000000200001088000800000000004410000f83c82008000000000000001c7cfc s (execExtest tdi s) := by
  unfold execExtest
  with_reducible
    apply mvNext; apply mvEmit; refine mvMk ?_; apply Moves.step (g := mv_testOutputs)
    apply Moves.step (g := mv_tapInstr); exact Moves.refl; decide +kernel; decide +kernel; decide +kernel

theorem mv_execClamp {tdi : List Bool} {s : State} : MovesR 0x20000000000001088000800000000000000000000000000000000000000001c1c00 s (execClamp tdi s) := by
  unfold execClamp
  with_reducible
    apply mvNext; apply Moves.step (g := mv_scanBypass); apply Moves.step (g := mv_testOutputs)
    apply Moves.step (g := mv_tapInstr); exact Moves.refl; decide +kernel; decide +kernel; decide +kernel

theorem mv_execHighz {tdi : List Bool} {s : State} : MovesR 0x20000000000001088000800000000000000000000000000000000000000001c1c00 s (execHighz tdi s) := by
  unfold execHighz
  with_reducible
    apply mvNext; apply Moves.step (g := mv_scanBypass); apply Moves.step (g := mv_testOutputs)
    apply Moves.step (g := mv_tapInstr); exact Moves.refl; decide +kernel; decide +kernel; decide +kernel

end Sys2Proof.Laws
end

