-- ==== Sys2Proof/Laws/MovesMap.lean ====
section
/-!
SUPPORT. What each definition of Machine/Map.lean can change (Laws/Moves.lean).
-/
set_option Elab.async false

namespace Sys2Proof.Laws
open Sys2Proof.Machine

theorem mv_served {s : State} {set r : Nat} : Moves 0x200 s (State.served s set r) := by
  unfold State.served
  with_reducible
    refine mvMk ?_; exact Moves.refl

theorem mv_perform {s : State} {key : Nat} {m : MapLine} {a : MapAccess} : Moves 0x2000002000000000000000000000000000008000000000000f83c8000000000000000000100210 s (State.perform s key m a) := by
  unfold State.perform
  with_reducible
    split; apply mvEmit; apply Moves.step (g := mv_served); exact Moves.refl; decide +kernel; decide +kernel
    apply Moves.step (g := mv_countDirty); apply mvIte; apply Moves.step (g := mv_served)
    apply Moves.step (g := mv_setLine); exact Moves.refl; decide +kernel; decide +kernel
    apply Moves.step (g := mv_writeBack); apply Moves.step (g := mv_served); apply Moves.step (g := mv_setLine)
    exact Moves.refl; decide +kernel; decide +kernel; decide +kernel; decide +kernel

theorem mv_setStream {s : State} {r : Nat} {v : Nat × Nat × Bool} : Moves 0x200 s (State.setStream s r v) := by
  unfold State.setStream
  with_reducible
    refine mvMk ?_; exact Moves.refl

theorem mv_streamHit {s : State} {r l : Nat} : Moves 0x200 s (State.streamHit s r l) := by
  unfold State.streamHit
  with_reducible
    apply mvIte; exact Moves.refl; apply mvIte; apply Moves.step (g := mv_setStream); exact Moves.refl; decide +kernel
    apply Moves.step (g := mv_setStream); exact Moves.refl; decide +kernel

theorem mv_streamMiss {s : State} {r l : Nat} : Moves 0x200 s (State.streamMiss s r l) := by
  unfold State.streamMiss
  with_reducible
    apply Moves.step (g := mv_setStream); exact Moves.refl; decide +kernel

theorem mv_mapMiss {s : State} {a : MapAccess} {streaming : Bool} : Moves 0xc000000000000000000000000000000000000000200 s (State.mapMiss s a streaming) := by
  unfold State.mapMiss
  with_reducible
    apply mvIte; refine mvMk ?_; refine mvMk ?_; apply Moves.step (g := mv_streamMiss); apply mvAdd64; exact Moves.refl
    decide +kernel; decide +kernel; refine mvMk ?_; refine mvMk ?_; apply Moves.step (g := mv_streamMiss); apply mvAdd64
    exact Moves.refl; decide +kernel; decide +kernel

theorem mv_mapHit {s : State} {key : Nat} {m : MapLine} {a : MapAccess} : Moves 0x2000002000000000000000000000000000038000000000000f83c8000000000000000000100210 s (State.mapHit s key m a) := by
  unfold State.mapHit
  with_reducible
    apply Moves.step (g := mv_perform); apply Moves.step (g := mv_streamHit); apply mvAdd64
    apply Moves.step (g := mv_setLine); exact Moves.refl; decide +kernel; decide +kernel; decide +kernel; decide +kernel

theorem mv_mapDouble {s : State} {key : Nat} {m : MapLine} {a : MapAccess} {streaming : Bool} : Moves 0x20000020000000000000000000000000000c8c8000000000000000000000000000000000100200 s (State.mapDouble s key m a streaming) := by
  unfold State.mapDouble
  with_reducible
    apply mvIte; apply mvEmit; apply mv_event; exact Moves.refl; decide +kernel; decide +kernel; apply mvIte
    apply Moves.step (g := mv_mapMiss); refine mvMk ?_; apply mvInc; apply Moves.step (g := mv_countDirty)
    apply Moves.step (g := mv_setLine); apply mv_event; exact Moves.refl; decide +kernel; decide +kernel; decide +kernel
    decide +kernel; decide +kernel; apply Moves.step (g := mv_mapMiss); apply mvInc; apply Moves.step (g := mv_countDirty)
    apply Moves.step (g := mv_setLine); apply mv_event; exact Moves.refl; decide +kernel; decide +kernel; decide +kernel
    decide +kernel; decide +kernel

theorem mv_execMapCacheAccess {r : Fin 5} {addr size : Nat} {w : Option (List Byte)} {err : SramErr} {streaming : Bool} {s : State} : MovesR 0x20000020000000000000000000000000000f8e80000000000f83c8000000000000000000100210 s (execMapCacheAccess r addr size w err streaming s) := by
  unfold execMapCacheAccess
  with_reducible
    apply mvIteR; apply mvNext; exact Moves.refl; apply mvIteR; apply mvNext; apply mvEmit; exact Moves.refl
    decide +kernel; split; apply mvNext; apply Moves.step (g := mv_mapMiss); exact Moves.refl; decide +kernel; dsimp only
    split; apply mvNext; apply Moves.step (g := mv_mapMiss); exact Moves.refl; decide +kernel; apply mvNext
    apply Moves.step (g := mv_mapHit); exact Moves.refl; decide +kernel; apply mvNext; apply Moves.step (g := mv_mapHit)
    apply mv_event; apply mvInc; exact Moves.refl; decide +kernel; decide +kernel; decide +kernel; apply mvNext
    apply Moves.step (g := mv_mapDouble); exact Moves.refl; decide +kernel

theorem mv_victim {s : State} {r set : Nat} {t : Nat × State} (e : s.victim r set = some t) : Moves 0x200 s t.2 := by
  unfold State.victim at e
  dsimp only at e
  split at e
  · cases e; exact Moves.refl
  · split at e
    · cases e
    · obtain ⟨w, _, hw⟩ := Option.map_eq_some_iff.mp e
      subst hw
      refine mvFold Moves.refl (fun u x hu => ?_)
      split
      · exact hu.step mv_setLine (by decide +kernel)
      · exact hu

theorem mv_evict {s : State} {key : Nat} : Moves 0x2000002000000000000000000000000000007000000000000f83c8000000000000000000100210 s (State.evict s key) := by
  unfold State.evict
  with_reducible
    split; exact Moves.refl; apply mvIte; apply mvIte; apply mvInc; apply Moves.step (g := mv_writeBack)
    apply Moves.step (g := mv_setLine); exact Moves.refl; decide +kernel; decide +kernel; decide +kernel
    apply Moves.step (g := mv_setLine); exact Moves.refl; decide +kernel; apply mvIte; apply Moves.step (g := mv_setLine)
    exact Moves.refl; decide +kernel; apply mvIte; apply mvInc; apply Moves.step (g := mv_writeBack); apply mvInc
    apply Moves.step (g := mv_setLine); exact Moves.refl; decide +kernel; decide +kernel; decide +kernel; decide +kernel
    apply mvIte; apply Moves.step (g := mv_writeBack); apply mvInc; apply Moves.step (g := mv_setLine); exact Moves.refl
    decide +kernel; decide +kernel; decide +kernel; apply mvInc; apply mvInc; apply Moves.step (g := mv_setLine)
    exact Moves.refl; decide +kernel; decide +kernel; decide +kernel

theorem mv_insertLine {s : State} {r l : Nat} {streaming : Bool} {d : List Byte} : MovesO 0x200000200000000000000000000000000010f000000000000f83c8000000000000000000100210 s (State.insertLine s r l streaming d) := by
  unfold State.insertLine
  with_reducible
    apply mvMapO; split; intro u hu; apply Moves.step (g := mv_countDirty); apply mvInc
    apply Moves.step (g := mv_setLine); apply Moves.step (g := mv_evict)
    apply Moves.step (g := mv_victim (by assumption)); exact Moves.refl; decide +kernel; decide +kernel; decide +kernel
    decide +kernel; decide +kernel; intro u hu; apply Moves.step (g := mv_countDirty); apply Moves.step (g := mv_setLine)
    apply Moves.step (g := mv_evict); apply Moves.step (g := mv_victim (by assumption)); exact Moves.refl; decide +kernel
    decide +kernel; decide +kernel; decide +kernel

theorem mv_serveFill {s : State} {l : Nat} : Moves 0x2000002000000000000000000000000000008000000000000f83c8000000000000000000100210 s (State.serveFill s l) := by
  unfold State.serveFill
  with_reducible
    apply mvFold; refine mvMk ?_; exact Moves.refl; intro u x hu; split; split; apply Moves.step (g := mv_perform)
    assumption; decide +kernel; assumption; assumption

theorem mv_pageLines {s : State} {r l : Nat} : Moves 0x200000200000000000000000000000000010f000000000000f83c8000000000000000000100210 s (State.pageLines s r l) := by
  unfold State.pageLines
  with_reducible
    apply mvFold; exact Moves.refl; intro u x hu; apply mvIte; assumption; apply mvGetD
    apply MovesO.step (g := mv_insertLine); assumption; decide +kernel; assumption

theorem mv_placeFill {s : State} {f : MapFill} : MovesO 0x200000200000000000000000000000000010f000000000000f83c8000000000000000000100210 s (s.placeFill f) := by
  unfold State.placeFill
  refine mvMapO (fun t e => ?_)
  have h : Moves 0x200000200000000000000000000000000010f000000000000f83c8000000000000000000100210 s t := by
    split at e
    · cases e; exact Moves.refl
    · exact (Moves.refl.step mv_backing (by decide +kernel)).step (MovesO.run mv_insertLine e) (by decide +kernel)
  refine Moves.step ?_ mv_serveFill (by decide +kernel)
  exact mvIte (h.step mv_pageLines (by decide +kernel)) h

theorem mv_execMapFillComplete {line : Nat} {s : State} : MovesR 0x200000200000000000000000000000000010f000000000000f83c8000000000000000000100210 s (execMapFillComplete line s) := by
  unfold execMapFillComplete
  with_reducible
    split; apply mvNext; exact Moves.refl; apply mvIteR; apply mvNext; exact Moves.refl; split; apply mvNext
    apply Moves.step (g := MovesO.run mv_placeFill (by assumption)); exact Moves.refl; decide +kernel; apply mvNext
    refine mvMk ?_; exact Moves.refl

theorem mv_execMapFillRetry {line : Nat} {s : State} : MovesR 0x200000200000000000000000000000000030f000000000000f83c8000000000000000000100210 s (execMapFillRetry line s) := by
  unfold execMapFillRetry
  with_reducible
    split; apply mvNext; exact Moves.refl; apply mvNext; apply mvGetD; apply MovesO.step (g := mv_placeFill); apply mvIte
    apply mvInc; refine mvMk ?_; exact Moves.refl; decide +kernel; refine mvMk ?_; exact Moves.refl; decide +kernel
    apply mvIte; apply mvInc; refine mvMk ?_; exact Moves.refl; decide +kernel; refine mvMk ?_; exact Moves.refl

theorem mv_cleanLines {s : State} {p : Nat → Bool} : Moves 0x200000200000000000000000000000000000c000000000000f83c8000000000000000000100210 s (State.cleanLines s p) := by
  unfold State.cleanLines
  with_reducible
    apply Moves.step (g := mv_countDirty); apply mvFold; exact Moves.refl; intro u x hu; apply mvInc
    apply Moves.step (g := mv_writeBack); apply Moves.step (g := mv_setLine); assumption; decide +kernel; decide +kernel
    decide +kernel; decide +kernel

theorem mv_execMapDirtyClean {set : Nat} {s : State} : MovesR 0x200000200000000000000000000000000000c000000000000f83c8000000000000000000100210 s (execMapDirtyClean set s) := by
  unfold execMapDirtyClean
  with_reducible
    apply mvIteR; apply mvNext; apply Moves.step (g := mv_cleanLines); exact Moves.refl; decide +kernel; apply mvNext
    exact Moves.refl

theorem mv_mapInvalidate {s : State} : Moves 0x808000000000000000000000000000000000000200 s (State.mapInvalidate s) := by
  unfold State.mapInvalidate
  with_reducible
    apply mvPut; apply mvSetFlag; refine mvMk ?_; exact Moves.refl; decide +kernel; decide +kernel

theorem mv_execMapInvalidationComplete {s : State} : MovesR 0x8000000000000000000000000000000000000000 s (execMapInvalidationComplete s) := by
  unfold execMapInvalidationComplete
  with_reducible
    apply mvNext; apply mvSetFlag; exact Moves.refl; decide +kernel

theorem mv_execMapWaymaskWrite {r : Fin 5} {v : Word} {s : State} : MovesR 0x10000000000000000000000000000000000000000 s (execMapWaymaskWrite r v s) := by
  unfold execMapWaymaskWrite
  with_reducible
    apply mvNext; apply mvWriteAt; exact Moves.refl; decide +kernel

theorem mv_execMapCntClr {s : State} : MovesR 0x3f7e0000000000000000000000000000000000000000 s (execMapCntClr s) := by
  unfold execMapCntClr
  with_reducible
    apply mvNext; apply mvFold; apply mvZero0; apply mvZero0; exact Moves.refl; decide +kernel; decide +kernel
    intro u x hu; apply mvZeroRow; assumption; decide +kernel

end Sys2Proof.Laws
end

