-- ==== Sys2Proof/Laws/MovesSave.lean ====
section
/-!
SUPPORT. What each definition of Machine/Save.lean can change (Laws/Moves.lean).
-/
set_option Elab.async false

namespace Sys2Proof.Laws
open Sys2Proof.Machine

theorem mv_powerEvent {s : State} : Moves 0x200000200000000000000000000000000000000000000000000000000000000000000000100000 s (State.powerEvent s) := by
  unfold State.powerEvent
  with_reducible
    apply Moves.step (g := mv_signal); exact Moves.refl; decide +kernel

theorem mv_enterRide {s : State} : Moves 0x24000020000018001802020030000008088000002044100000000000000000000040000018b4c0 s (State.enterRide s) := by
  unfold State.enterRide
  with_reducible
    apply Moves.step (g := mv_budget); apply Moves.step (g := mv_powerEvent); apply Moves.step (g := mv_spindleBrake)
    apply Moves.step (g := mv_lasersOff); apply mvIte; apply Moves.step (g := mv_stopMove)
    apply Moves.step (g := mv_archiveStop); apply Moves.step (g := mv_abandonCal); apply mvPut; exact Moves.refl
    decide +kernel; decide +kernel; decide +kernel; decide +kernel; apply Moves.step (g := mv_abandonCal); apply mvPut
    exact Moves.refl; decide +kernel; decide +kernel; decide +kernel; decide +kernel; decide +kernel; decide +kernel

theorem mv_chrysalisEntry {s : State} {kind : Nat} {payload : List Byte} : Moves 0x18000000000000000000000000000000000000000000000000000000008000 s (State.chrysalisEntry s kind payload) := by
  unfold State.chrysalisEntry
  with_reducible
    apply Moves.step (g := mv_journalCompact); apply Moves.step (g := mv_journalPut); exact Moves.refl; decide +kernel
    decide +kernel

theorem mv_holdFlash {s : State} : Moves 0x200000200000000004280000000000000000000000000000000000000000000000000000108000 s (State.holdFlash s) := by
  unfold State.holdFlash
  with_reducible
    refine mvMk ?_; apply Moves.step (g := mv_efcAbortErase); exact Moves.refl; decide +kernel

theorem mv_enterSave {s : State} {cause : Nat} : Moves 0x24000020000018001c2a00000000000000000000204410000f83c820080000000040000018f0fc s (State.enterSave s cause) := by
  unfold State.enterSave
  with_reducible
    apply Moves.step (g := mv_chrysalisEntry); apply Moves.step (g := mv_holdFlash); apply Moves.step (g := mv_abandonCal)
    refine mvMk ?_; apply Moves.step (g := mv_haltCapture); apply Moves.step (g := mv_budget)
    apply Moves.step (g := mv_powerEvent); apply mvPut; refine mvMk ?_; exact Moves.refl; decide +kernel; decide +kernel
    decide +kernel; decide +kernel; decide +kernel; decide +kernel; decide +kernel

theorem mv_writeRecord {s : State} {upTo : Nat} : Moves 0x18000000000000000000000000000000000000000000000000000000088100 s (State.writeRecord s upTo) := by
  unfold State.writeRecord
  with_reducible
    apply Moves.step (g := mv_chrysalisEntry); apply mvIte; apply Moves.step (g := mv_setNand); refine mvMk ?_
    exact Moves.refl; decide +kernel; refine mvMk ?_; exact Moves.refl; decide +kernel

theorem mv_saveCommit {s : State} : Moves 0x2400002000000000000200000000000000008003d14410000f83c80000000000000000001833d0 s (State.saveCommit s) := by
  unfold State.saveCommit
  with_reducible
    refine mvMk ?_; apply mvIte; apply Moves.step (g := mv_commitAllUnits); exact Moves.refl; decide +kernel
    exact Moves.refl

theorem mv_saved {s : State} : Moves 0x200000200000000000000000000000000000000000000000000000000000000000480000180000 s (State.saved s) := by
  unfold State.saved
  with_reducible
    refine mvMk ?_; apply mv_cause; apply Moves.step (g := mv_powerEvent); apply mvPut; exact Moves.refl; decide +kernel
    decide +kernel; decide +kernel

theorem mv_endSaveEarly {s : State} : Moves 0x200000200000000000000000000000000000000000000000000000000000000000480000180000 s (State.endSaveEarly s) := by
  unfold State.endSaveEarly
  with_reducible
    apply mvIte; apply Moves.step (g := mv_saved); exact Moves.refl; decide +kernel; exact Moves.refl

end Sys2Proof.Laws
end

