-- ==== Sys2Proof/Laws/MovesReset.lean ====
section
/-!
SUPPORT. What each definition of Machine/Reset.lean can change (Laws/Moves.lean).
-/
set_option Elab.async false

namespace Sys2Proof.Laws
open Sys2Proof.Machine

theorem mv_keepFlds {M : Nat} {s t old : State} {fs : List (Fld × Nat)} (h : Moves M s t)
    (hc : M.testBit 22 = true) : Moves M s (t.keepFlds old fs) :=
  mvFold h (fun _ _ hu => mvPut hu (by simp [covers, hc]))

theorem mv_clearRegs {s : State} {p : Nat → Bool} : Moves 0x400004 s (State.clearRegs s p) := by
  unfold State.clearRegs
  apply Moves.step (g := mv_clearShadows); exact mvSkeep Moves.refl (by decide +kernel); decide +kernel

theorem mv_pageReset {s : State} {n : Nat} : Moves 0x400004 s (State.pageReset s n) := by
  unfold State.pageReset
  with_reducible
    apply Moves.step (g := mv_applyRecords); apply Moves.step (g := mv_clearRegs); exact Moves.refl; decide +kernel
    decide +kernel

theorem mv_asBuilt {s : State} : Moves 0x18000000000000000000000000 s (State.asBuilt s) := by
  unfold State.asBuilt
  with_reducible
    apply mvPut; apply mvPut; exact Moves.refl; decide +kernel; decide +kernel

theorem mv_cutFlash {s : State} : Moves 0x208000 s (State.cutFlash s) := by
  unfold State.cutFlash
  with_reducible
    split; exact Moves.refl; split; apply Moves.step (g := mv_flashPut); apply mvFreeBytes; refine mvMk ?_
    exact Moves.refl; decide +kernel; decide +kernel; apply Moves.step (g := mv_otpPut); apply mvFreeBytes; refine mvMk ?_
    exact Moves.refl; decide +kernel; decide +kernel; refine mvMk ?_; refine mvMk ?_; exact Moves.refl; refine mvMk ?_
    exact Moves.refl

theorem mv_keepProgram {s old : State} : Moves 0x400000 s (State.keepProgram s old) := by
  unfold State.keepProgram
  with_reducible
    apply mvIte; apply mv_keepFlds; exact Moves.refl; decide +kernel; exact Moves.refl

theorem mv_flashReset {s : State} : Moves 0x200000200000000004280000000000000000000000000000000000000000000000000000108000 s (State.flashReset s) := by
  unfold State.flashReset
  with_reducible
    refine mvMk ?_; apply Moves.step (g := mv_efcAbortErase); exact Moves.refl; decide +kernel

theorem mv_bumpAll {s : State} : Moves 0x40800000000000000000000000000000000000000000000000000000000010000 s (State.bumpAll s) := by
  unfold State.bumpAll
  with_reducible
    apply mvFold; apply Moves.step (g := mv_bumpHost); exact Moves.refl; decide +kernel; intro u x hu
    apply Moves.step (g := mv_bumpCore); assumption; decide +kernel

theorem mv_endAosContainment {s : State} {fn : Nat} : Moves 0x40000000000000000000000000000000000000000000000000000000000000000000000000000 s (State.endAosContainment s fn) := by
  unfold State.endAosContainment
  with_reducible
    apply mvIte; exact Moves.refl; apply mvSetFlag; apply mvPut; apply mvSetFlag; exact Moves.refl; decide +kernel
    decide +kernel; decide +kernel

theorem mv_resetUnits {s : State} {perst : Bool} : Moves 0xb3fff s (State.resetUnits s perst) := by
  unfold State.resetUnits
  with_reducible
    refine mvMk ?_; exact Moves.refl

theorem mv_hardReset {s : State} {perst : Bool} : Moves 0x2400002000000408042a02001088000800008003d14410000f83c82008000000080800005bffff s (State.hardReset s perst) := by
  unfold State.hardReset
  with_reducible
    apply mv_cause; apply mvPut; apply mvPut; apply Moves.step (g := mv_keepProgram); apply mvIte; apply mv_keepFlds
    apply mv_keepFlds; apply Moves.step (g := mv_clearShadows); apply Moves.step (g := mv_clearRegs)
    apply Moves.step (g := mv_resetUnits); apply Moves.step (g := mv_bumpAll); apply Moves.step (g := mv_powerUpOutputs)
    apply Moves.step (g := mv_flashReset); apply Moves.step (g := mv_selfRefresh); apply Moves.step (g := mv_dropStaged)
    apply mvIte; apply Moves.step (g := mv_commitAllUnits); apply Moves.step (g := mv_electricalIdle)
    apply Moves.step (g := mv_haltCapture); exact Moves.refl; decide +kernel; decide +kernel; decide +kernel
    apply Moves.step (g := mv_electricalIdle); apply Moves.step (g := mv_haltCapture); exact Moves.refl; decide +kernel
    decide +kernel; decide +kernel; decide +kernel; decide +kernel; decide +kernel; decide +kernel; decide +kernel
    decide +kernel; decide +kernel; decide +kernel; decide +kernel; apply Moves.step (g := mv_endAosContainment)
    apply Moves.step (g := mv_endAosContainment); apply mv_keepFlds; apply mv_keepFlds
    apply Moves.step (g := mv_clearShadows); apply Moves.step (g := mv_clearRegs); apply Moves.step (g := mv_resetUnits)
    apply Moves.step (g := mv_bumpAll); apply Moves.step (g := mv_powerUpOutputs); apply Moves.step (g := mv_flashReset)
    apply Moves.step (g := mv_selfRefresh); apply Moves.step (g := mv_dropStaged); apply mvIte
    apply Moves.step (g := mv_commitAllUnits); apply Moves.step (g := mv_electricalIdle)
    apply Moves.step (g := mv_haltCapture); exact Moves.refl; decide +kernel; decide +kernel; decide +kernel
    apply Moves.step (g := mv_electricalIdle); apply Moves.step (g := mv_haltCapture); exact Moves.refl; decide +kernel
    decide +kernel; decide +kernel; decide +kernel; decide +kernel; decide +kernel; decide +kernel; decide +kernel
    decide +kernel; decide +kernel; decide +kernel; decide +kernel; decide +kernel; decide +kernel; decide +kernel
    decide +kernel; decide +kernel; split; decide +kernel; decide +kernel

theorem mv_resetAsserted {s : State} {perst : Bool} : Moves 0x2400002000001c081c2a02001088000800008003f14410000f83c82008000000084800005bffff s (State.resetAsserted s perst) := by
  unfold State.resetAsserted
  with_reducible
    apply mvIte; exact Moves.refl; apply mvIte; refine mvMk ?_; apply mvIte; apply Moves.step (g := mv_enterSave)
    exact Moves.refl; decide +kernel; exact Moves.refl; apply Moves.step (g := mv_hardReset); exact Moves.refl
    decide +kernel

theorem mv_execPerstNAssert {s : State} : MovesR 0x2400002000001c081c2a02001088000800008003f14410000f83c82008000000084800005bffff s (execPerstNAssert s) := by
  unfold execPerstNAssert
  with_reducible
    apply mvIteR; apply mvNext; exact Moves.refl; apply mvNext; apply Moves.step (g := mv_resetAsserted); refine mvMk ?_
    exact Moves.refl; decide +kernel

theorem mv_execSysRstNAssert {s : State} : MovesR 0x2400002000001c081c2a02001088000800008003f14410000f83c82008000000084800005bffff s (execSysRstNAssert s) := by
  unfold execSysRstNAssert
  with_reducible
    apply mvIteR; apply mvNext; exact Moves.refl; apply mvNext; apply Moves.step (g := mv_resetAsserted); refine mvMk ?_
    exact Moves.refl; decide +kernel

theorem mv_execPowerOnReset {s : State} : MovesR 0x7fffff s (execPowerOnReset s) := by
  unfold execPowerOnReset
  dsimp only
  refine mvNext ?_
  refine mv_keepFlds ?_ (by decide +kernel)
  have h : Moves 0x7fffff s s.cutFlash := mv_cutFlash.mono (by decide +kernel)
  generalize s.cutFlash = t at h ⊢
  exact mvMk (t := { t with regs := skeep t.regs isCol }) (mvSkeep h (by decide +kernel)) (fun _ => ⟨rfl, rfl, rfl, rfl⟩)
    (fun e => efcMk e.flash e.otp) (fun _ => ⟨rfl, rfl⟩) (fun _ => rfl) (fun _ => rfl)

theorem mv_startEnabled {s : State} {n : Nat} : Moves 0x2400002000000000180203003688030008c0000001c41001ff83cc30480000c00b00000018fcff s (State.startEnabled s n) := by
  unfold State.startEnabled
  with_reducible
    split; apply mvFold; exact Moves.refl; intro u x hu; apply mvIte; apply Moves.step (g := mv_portEnable); assumption
    decide +kernel; assumption; apply mvIte; apply Moves.step (g := mv_capEnable); exact Moves.refl; decide +kernel
    exact Moves.refl; apply mvFold; exact Moves.refl; intro u x hu; apply mvIte; apply Moves.step (g := mv_clusterEnable)
    assumption; decide +kernel; assumption; apply mvIte; apply Moves.step (g := mv_pairEnable); exact Moves.refl
    decide +kernel; exact Moves.refl; apply mvIte; apply Moves.step (g := mv_magEnable); exact Moves.refl; decide +kernel
    exact Moves.refl; apply mvIte; apply Moves.step (g := mv_ochEnable); exact Moves.refl; decide +kernel
    exact Moves.refl; apply mvIte; apply Moves.step (g := mv_srvEnable); exact Moves.refl; decide +kernel
    exact Moves.refl; apply mvIte; apply Moves.step (g := mv_motEnable); exact Moves.refl; decide +kernel
    exact Moves.refl; exact Moves.refl

theorem mv_calReset {s : State} : Moves 0x180000000000000000000000000000000000000000000000000000000000020000 s (State.calReset s) := by
  unfold State.calReset
  with_reducible
    apply mvFold; apply mvPut; refine mvMk ?_; exact Moves.refl; decide +kernel; intro u x hu; apply mvSetFlag; assumption
    decide +kernel

theorem mv_freshBar2 {s : State} : Moves 0x10003000000000000000000000000000000000000000000000000000000000000000000000000 s (State.freshBar2 s) := by
  unfold State.freshBar2
  with_reducible
    apply Moves.step (g := mv_setBar2Size); exact Moves.refl; decide +kernel

theorem mv_startUp {s : State} {fw0 fw1 : Bool} : Moves 0x25000760000018081b8a07003688030008c0808021c41301ff83dc30480000c00b4002005affff s (State.startUp s fw0 fw1) := by
  unfold State.startUp
  with_reducible
    apply mvIte; exact Moves.refl; apply Moves.step (g := mv_resumeFn); apply Moves.step (g := mv_resumeFn); apply mvFold
    refine mvMk ?_; apply Moves.step (g := mv_loadSanitize); apply Moves.step (g := mv_bootFirmware); apply mvFold
    apply Moves.step (g := mv_calReset); apply Moves.step (g := mv_commitAll); apply Moves.step (g := mv_budget)
    apply mvSetFlag; apply Moves.step (g := mv_mapInvalidate); apply mvIte; apply Moves.step (g := mv_freshBar2)
    apply Moves.step (g := mv_asBuilt); apply Moves.step (g := mv_selectImage); apply Moves.step (g := mv_readOtpStatus)
    refine mvMk ?_; exact Moves.refl; decide +kernel; decide +kernel; decide +kernel; decide +kernel
    apply Moves.step (g := mv_asBuilt); apply Moves.step (g := mv_selectImage); apply Moves.step (g := mv_readOtpStatus)
    refine mvMk ?_; exact Moves.refl; decide +kernel; decide +kernel; decide +kernel; decide +kernel; decide +kernel
    decide +kernel; decide +kernel; decide +kernel; intro u x hu; apply mvPut; assumption; decide +kernel; decide +kernel
    decide +kernel; intro u x hu; apply Moves.step (g := mv_startEnabled); assumption; decide +kernel; decide +kernel
    decide +kernel

theorem mv_execPorRelease {selfTest fw0 fw1 : Bool} {s : State} : MovesR 0x25000760000818081b8a07003688030008c0808021c41301ff83dc30480000c00b4002007affff s (execPorRelease selfTest fw0 fw1 s) := by
  unfold execPorRelease
  with_reducible
    apply mvIteR; apply mvNext; exact Moves.refl; apply mvNext; apply Moves.step (g := mv_startUp); apply mvPut
    apply mvIte; apply Moves.step (g := mv_colBoot); refine mvMk ?_; exact Moves.refl; decide +kernel; refine mvMk ?_
    exact Moves.refl; decide +kernel; decide +kernel

theorem mv_execResetDeassert {sys fw0 fw1 : Bool} {s : State} : MovesR 0x25000760000018081b8a07003688030008c0808021c41301ff83dc30480000c00b4002005affff s (execResetDeassert sys fw0 fw1 s) := by
  unfold execResetDeassert
  with_reducible
    apply mvNext; apply Moves.step (g := mv_startUp); refine mvMk ?_; exact Moves.refl; decide +kernel

theorem mv_execThermalResetRelease {temp : Nat} {fw0 fw1 : Bool} {s : State} : MovesR 0x25000760000018081b8a07003688030008c0808021c41301ff83dc30480000c00bc002005affff s (execThermalResetRelease temp fw0 fw1 s) := by
  unfold execThermalResetRelease
  with_reducible
    apply mvIteR; apply mvNext; exact Moves.refl; apply mvNext; apply Moves.step (g := mv_startUp); apply mvPut
    refine mvMk ?_; exact Moves.refl; decide +kernel; decide +kernel

theorem mv_resetFn {s : State} {fn : Nat} : Moves 0x50003000000000000000000000000000000000000000000000000000000000000000000400004 s (State.resetFn s fn) := by
  unfold State.resetFn
  with_reducible
    apply mvIte; apply Moves.step (g := mv_freshBar2); apply mv_keepFlds; apply mvSetFlag; apply mvSetFlag
    apply Moves.step (g := mv_clearRegs); exact Moves.refl; decide +kernel; decide +kernel; decide +kernel; decide +kernel
    decide +kernel; apply mv_keepFlds; apply mvSetFlag; apply mvSetFlag; apply Moves.step (g := mv_clearRegs)
    exact Moves.refl; decide +kernel; decide +kernel; decide +kernel; decide +kernel

theorem mv_hqReset {s : State} : Moves 0x2400002000000000000200000000000000800000004412000000000000000000000000005035c4 s (State.hqReset s) := by
  unfold State.hqReset
  with_reducible
    apply Moves.step (g := mv_loadSanitize); apply mvPut; apply Moves.step (g := mv_pageReset); apply mvIte
    apply Moves.step (g := mv_endArchive); refine mvMk ?_; apply mvFold; refine mvMk ?_; exact Moves.refl; intro u x hu
    apply Moves.step (g := mv_unbind); assumption; decide +kernel; decide +kernel; refine mvMk ?_; apply mvFold
    refine mvMk ?_; exact Moves.refl; intro u x hu; apply Moves.step (g := mv_unbind); assumption; decide +kernel
    decide +kernel; decide +kernel; decide +kernel

theorem mv_emptyHostSlots {s : State} : Moves 0x20000000000000000000000000000000000000000000000000000002000 s (State.emptyHostSlots s) := by
  unfold State.emptyHostSlots
  with_reducible
    apply mvFold; exact Moves.refl; intro u x hu; apply Moves.step (g := mv_emptySlot); assumption; decide +kernel

theorem mv_resetHost {s : State} : Moves 0x2500032000000400000a000000000000008000000044120000000000000000000000000051b5c4 s (State.resetHost s) := by
  unfold State.resetHost
  with_reducible
    apply Moves.step (g := mv_resetFn); apply Moves.step (g := mv_bumpHost); apply mvIte
    apply Moves.step (g := mv_efcDrop); apply Moves.step (g := mv_emptyHostSlots); apply Moves.step (g := mv_hqReset)
    exact Moves.refl; decide +kernel; decide +kernel; decide +kernel; apply Moves.step (g := mv_emptyHostSlots)
    apply Moves.step (g := mv_hqReset); exact Moves.refl; decide +kernel; decide +kernel; decide +kernel; decide +kernel

theorem mv_hotReset {s : State} : Moves 0x2500032000000400000a000000000000008000000044120000000000000000000008040051b5c4 s (State.hotReset s) := by
  unfold State.hotReset
  with_reducible
    apply mv_cause; refine mvMk ?_; apply mvSetFlag; apply mvPut; apply mvPut; apply mvIte
    apply Moves.step (g := mv_resetFn); apply Moves.step (g := mv_resetHost); exact Moves.refl; decide +kernel
    decide +kernel; apply Moves.step (g := mv_resetHost); exact Moves.refl; decide +kernel; decide +kernel; decide +kernel
    decide +kernel; decide +kernel

theorem mv_execHotReset {s : State} : MovesR 0x2500032000000400000a000000000000008000000044120000000000000000000008040051b5c4 s (execHotReset s) := by
  unfold execHotReset
  with_reducible
    apply mvIteR; apply mvNext; exact Moves.refl; apply mvNext; apply Moves.step (g := mv_hotReset); exact Moves.refl
    decide +kernel

theorem mv_flrWindow {s : State} {fn : Nat} : Moves 0x2500032000000400000a000000000000008000000044120000000000000000000008000071b5c4 s (State.flrWindow s fn) := by
  unfold State.flrWindow
  with_reducible
    refine mvMk ?_; apply mvFree; exact Moves.refl; decide +kernel

theorem mv_flr {s : State} {fn : Nat} : Moves 0x2500032000000400000a000000000000008000000044120000000000000000000008000071b5c4 s (State.flr s fn) := by
  unfold State.flr
  with_reducible
    apply mvIte; exact Moves.refl; apply mvIte; apply Moves.step (g := mv_flrWindow); apply mv_cause
    apply Moves.step (g := mv_resetHost); exact Moves.refl; decide +kernel; decide +kernel; decide +kernel
    apply Moves.step (g := mv_flrWindow); apply mv_cause; apply Moves.step (g := mv_resetFn); exact Moves.refl
    decide +kernel; decide +kernel; decide +kernel

theorem mv_execFlrFunction0 {s : State} : MovesR 0x2500032000000400000a000000000000008000000044120000000000000000000008000071b5c4 s (execFlrFunction0 s) := by
  unfold execFlrFunction0
  with_reducible
    apply mvIteR; apply mvNext; exact Moves.refl; apply mvNext; apply Moves.step (g := mv_flr); exact Moves.refl
    decide +kernel

theorem mv_execFlrFunction1 {s : State} : MovesR 0x2500032000000400000a000000000000008000000044120000000000000000000008000071b5c4 s (execFlrFunction1 s) := by
  unfold execFlrFunction1
  with_reducible
    apply mvIteR; apply mvNext; exact Moves.refl; apply mvNext; apply Moves.step (g := mv_flr); exact Moves.refl
    decide +kernel

theorem mv_surpriseDown {s : State} : Moves 0x2500032000000400000a000000000000008000000044120000000000000000000008040051b5c4 s (State.surpriseDown s) := by
  unfold State.surpriseDown
  with_reducible
    apply mv_event; apply Moves.step (g := mv_hotReset); exact Moves.refl; decide +kernel; decide +kernel

theorem mv_execSurpriseLinkDown {s : State} : MovesR 0x2500032000000400000a000000000000008000000044120000000000000000000008040051b5c4 s (execSurpriseLinkDown s) := by
  unfold execSurpriseLinkDown
  with_reducible
    apply mvIteR; apply mvNext; exact Moves.refl; apply mvNext; apply Moves.step (g := mv_surpriseDown); exact Moves.refl
    decide +kernel

end Sys2Proof.Laws
end

