-- ==== Sys2Proof/Laws/MovesUnitReset.lean ====
section
/-!
SUPPORT. What each definition of Machine/UnitReset.lean can change (Laws/Moves.lean).
-/
set_option Elab.async false

namespace Sys2Proof.Laws
open Sys2Proof.Machine

theorem mv_failAgain {s : State} {n : Nat} {b : Bool} : Moves 0x24000020000000001802070034880200088000000144100020000000000000800000020018bcc0 s (State.failAgain s n b) := by
  unfold State.failAgain
  with_reducible
    apply mvIte; apply Moves.step (g := mv_failUnit); exact Moves.refl; decide +kernel; exact Moves.refl

theorem mv_enableUnit {s : State} {u : UnitRef} {b : Bool} : Moves 0x24000020180c0000180207003688030008c0000001e61101ff83cc30480000c00b00020038fcff s (State.enableUnit s u b) := by
  unfold State.enableUnit
  with_reducible
    apply mvIte; exact Moves.refl; split; apply Moves.step (g := mv_portEnable); exact Moves.refl; decide +kernel
    apply Moves.step (g := mv_capEnable); exact Moves.refl; decide +kernel; apply Moves.step (g := mv_clusterEnable)
    exact Moves.refl; decide +kernel; apply Moves.step (g := mv_pairEnable); exact Moves.refl; decide +kernel
    apply Moves.step (g := mv_sqEnable); exact Moves.refl; decide +kernel; apply Moves.step (g := mv_cqEnable)
    exact Moves.refl; decide +kernel; apply Moves.step (g := mv_failAgain); apply Moves.step (g := mv_magEnable)
    exact Moves.refl; decide +kernel; decide +kernel; apply Moves.step (g := mv_failAgain)
    apply Moves.step (g := mv_ochEnable); exact Moves.refl; decide +kernel; decide +kernel
    apply Moves.step (g := mv_failAgain); apply Moves.step (g := mv_srvEnable); exact Moves.refl; decide +kernel
    decide +kernel; apply Moves.step (g := mv_failAgain); apply Moves.step (g := mv_motEnable); exact Moves.refl
    decide +kernel; decide +kernel; apply Moves.step (g := mv_colEnable); exact Moves.refl; decide +kernel

theorem mv_execUnitEnableWrite {u : UnitRef} {v : Bool} {s : State} : MovesR 0x24000020180c0000180207003688030008c0000001e61101ff83cc30480000c00b00020038fcff s (execUnitEnableWrite u v s) := by
  unfold execUnitEnableWrite
  with_reducible
    apply mvIteR; apply mvNext; apply Moves.step (g := mv_enableUnit); exact Moves.refl; decide +kernel; apply mvNext
    exact Moves.refl

theorem mv_unitUp {s : State} {u : UnitRef} : Moves 0x24000020180c0000180200000680030008c0000001e610000f83cc30480000c00b00000030fcff s (State.unitUp s u) := by
  unfold State.unitUp
  with_reducible
    apply mvIte; exact Moves.refl; split; apply mvIte; apply Moves.step (g := mv_portStarted); exact Moves.refl
    decide +kernel; exact Moves.refl; apply mvIte; apply Moves.step (g := mv_chain); apply Moves.step (g := mv_stopCheck)
    apply Moves.step (g := mv_markStop); apply mv_unitStarted; exact Moves.refl; decide +kernel; decide +kernel
    decide +kernel; decide +kernel; exact Moves.refl; apply mvIte; apply Moves.step (g := mv_clusterStarted)
    exact Moves.refl; decide +kernel; exact Moves.refl; exact Moves.refl; apply Moves.step (g := mv_sqStarted)
    exact Moves.refl; decide +kernel; apply Moves.step (g := mv_cqStarted); exact Moves.refl; decide +kernel
    apply mv_unitStarted; exact Moves.refl; decide +kernel; apply mv_unitStarted; exact Moves.refl; decide +kernel
    apply mv_unitStarted; exact Moves.refl; decide +kernel; apply mv_unitStarted; exact Moves.refl; decide +kernel
    apply Moves.step (g := mv_colStarted); exact Moves.refl; decide +kernel

theorem mv_execUnitStartupComplete {u : UnitRef} {s : State} : MovesR 0x24000020180c0000180200000680030008c0000001e610000f83cc30480000c00b00000030fcff s (execUnitStartupComplete u s) := by
  unfold execUnitStartupComplete
  with_reducible
    apply mvIteR; apply mvNext; apply Moves.step (g := mv_unitUp); exact Moves.refl; decide +kernel; apply mvNext
    exact Moves.refl

theorem mv_unitDown {s : State} {u : UnitRef} : Moves 0x24000020000c0000000200000680030800c08003ddff9101ff83cc30480000c00b000000187fff s (State.unitDown s u) := by
  unfold State.unitDown
  with_reducible
    split; apply Moves.step (g := mv_drainPort); exact Moves.refl; decide +kernel; apply mvIte
    apply Moves.step (g := mv_chain); apply mv_unitDrained; exact Moves.refl; decide +kernel; decide +kernel
    exact Moves.refl; apply mvIte; apply Moves.step (g := mv_showClusters); apply mv_unitDrained; exact Moves.refl
    decide +kernel; decide +kernel; exact Moves.refl; apply Moves.step (g := mv_pairDrained); exact Moves.refl
    decide +kernel; apply Moves.step (g := mv_sqDrained); exact Moves.refl; decide +kernel
    apply Moves.step (g := mv_cqDrained); exact Moves.refl; decide +kernel; apply Moves.step (g := mv_magDrained)
    exact Moves.refl; decide +kernel; apply Moves.step (g := mv_ochDrained); exact Moves.refl; decide +kernel
    apply mv_unitDrained; exact Moves.refl; decide +kernel; apply mvIte; apply mv_unitDrained; exact Moves.refl
    decide +kernel; exact Moves.refl; apply mvIte; apply mv_unitDrained; exact Moves.refl; decide +kernel
    exact Moves.refl

theorem mv_disableUnit {s : State} {n : Nat} : Moves 0x2400002000000000180203003688030008c0000001c61101ff83cc30480000c00b00000018fcff s (State.disableUnit s n) := by
  unfold State.disableUnit
  with_reducible
    split; apply mvFold; exact Moves.refl; intro u x hu; apply Moves.step (g := mv_portEnable); assumption; decide +kernel
    apply Moves.step (g := mv_capEnable); exact Moves.refl; decide +kernel; apply mvFold; exact Moves.refl; intro u x hu
    apply Moves.step (g := mv_clusterEnable); assumption; decide +kernel; apply Moves.step (g := mv_pairEnable)
    exact Moves.refl; decide +kernel; apply mvFold; exact Moves.refl; intro u x hu; apply Moves.step (g := mv_sqEnable)
    assumption; decide +kernel; apply Moves.step (g := mv_magEnable); exact Moves.refl; decide +kernel
    apply Moves.step (g := mv_ochEnable); exact Moves.refl; decide +kernel; apply Moves.step (g := mv_srvEnable)
    exact Moves.refl; decide +kernel; apply Moves.step (g := mv_motEnable); exact Moves.refl; decide +kernel
    exact Moves.refl

theorem mv_showUnitReset {s : State} : Moves 0x100000000000 s (State.showUnitReset s) := by
  unfold State.showUnitReset
  with_reducible
    apply mvPut; exact Moves.refl; decide +kernel

theorem mv_cutWork {s : State} {n : Nat} : Moves 0x2400002000000000000200000000000000000000004410000000000000000000000000001030c0 s (State.cutWork s n) := by
  unfold State.cutWork
  with_reducible
    apply mvFold; exact Moves.refl; intro u x hu; apply Moves.step (g := mv_cutCmd); assumption; decide +kernel

theorem mv_resetLane {s : State} : Moves 0x2400002000000000000200000080000000000000004410186f83cc203ff003000a0000007078ff s (State.resetLane s) := by
  unfold State.resetLane
  with_reducible
    apply mvIte; apply mvFold; apply Moves.step (g := mv_pageReset); refine mvMk ?_; apply mvFold; exact Moves.refl
    intro u x hu; apply mvIte; assumption; apply Moves.step (g := mv_endPortFrame); assumption; decide +kernel
    decide +kernel; intro u x hu; apply Moves.step (g := mv_showTx); assumption; decide +kernel
    apply Moves.step (g := mv_rxOn); apply Moves.step (g := mv_rxOn); apply Moves.step (g := mv_pairLaneDown)
    apply Moves.step (g := mv_pairLaneDown); apply mvFold; apply Moves.step (g := mv_pageReset); refine mvMk ?_
    apply mvFold; exact Moves.refl; intro u x hu; apply mvIte; assumption; apply Moves.step (g := mv_endPortFrame)
    assumption; decide +kernel; decide +kernel; intro u x hu; apply Moves.step (g := mv_showTx); assumption
    decide +kernel; decide +kernel; decide +kernel; decide +kernel; decide +kernel

theorem mv_resetCap {s : State} : Moves 0x2400002000000000000200000000000000000000004410000f83c82008003c00000000005070fc s (State.resetCap s) := by
  unfold State.resetCap
  with_reducible
    apply mvPut64; refine mvMk ?_; apply mvPut64; apply mv_keepFlds; apply Moves.step (g := mv_pageReset)
    apply Moves.step (g := mv_haltCapture); exact Moves.refl; decide +kernel; decide +kernel; decide +kernel
    decide +kernel; decide +kernel

theorem mv_resetGal {s : State} : Moves 0x18000000000000000000400014 s (State.resetGal s) := by
  unfold State.resetGal
  with_reducible
    apply Moves.step (g := mv_asBuilt); refine mvMk ?_; apply mv_keepFlds; apply Moves.step (g := mv_pageReset)
    exact Moves.refl; decide +kernel; decide +kernel; decide +kernel

theorem mv_resetPair {s : State} : Moves 0x600000000000000008000000400025 s (State.resetPair s) := by
  unfold State.resetPair
  with_reducible
    apply mv_keepFlds; apply Moves.step (g := mv_pageReset); apply Moves.step (g := mv_pairIdle); exact Moves.refl
    decide +kernel; decide +kernel; decide +kernel

theorem mv_resetMag {s : State} : Moves 0x804021000200000000000000000000400000480304 s (State.resetMag s) := by
  unfold State.resetMag
  with_reducible
    apply Moves.step (g := mv_budget); apply Moves.step (g := mv_loadSanitize); apply mvPut
    apply Moves.step (g := mv_pageReset); apply Moves.step (g := mv_channelsOff); refine mvMk ?_
    apply Moves.step (g := mv_mapForget); apply Moves.step (g := mv_dropStaged); exact Moves.refl; decide +kernel
    decide +kernel; decide +kernel; decide +kernel; decide +kernel; decide +kernel; decide +kernel

theorem mv_resetMap {s : State} : Moves 0x200000200000000000000000000000000000c080000000000f83c8000000000000000000500214 s (State.resetMap s) := by
  unfold State.resetMap
  with_reducible
    apply mvSetFlag; apply Moves.step (g := mv_mapInvalidate); apply Moves.step (g := mv_pageReset); apply mvIte
    exact Moves.refl; apply Moves.step (g := mv_cleanLines); exact Moves.refl; decide +kernel; decide +kernel
    decide +kernel; decide +kernel

theorem mv_resetOch {s : State} : Moves 0x80080000000000000000000000000000000000000480404 s (State.resetOch s) := by
  unfold State.resetOch
  with_reducible
    apply Moves.step (g := mv_pageReset); refine mvMk ?_; apply Moves.step (g := mv_lasersOff)
    apply Moves.step (g := mv_cutArchive); exact Moves.refl; decide +kernel; decide +kernel; decide +kernel

theorem mv_resetSrv {s : State} : Moves 0x8800000000000000000000000000000000000000000000480804 s (State.resetSrv s) := by
  unfold State.resetSrv
  with_reducible
    apply Moves.step (g := mv_commitAll); apply Moves.step (g := mv_pageReset); refine mvMk ?_
    apply Moves.step (g := mv_loopsOff); exact Moves.refl; decide +kernel; decide +kernel; decide +kernel

theorem mv_resetMot {s : State} : Moves 0x100000000000000000000000000000000000000000000000481004 s (State.resetMot s) := by
  unfold State.resetMot
  with_reducible
    apply Moves.step (g := mv_pageReset); refine mvMk ?_; apply Moves.step (g := mv_bridgesOff)
    apply Moves.step (g := mv_spindleOff); exact Moves.refl; decide +kernel; decide +kernel; decide +kernel

theorem mv_resetSec {s : State} : Moves 0x20c00000000000000000000000000000000000000000000000000402004 s (State.resetSec s) := by
  unfold State.resetSec
  with_reducible
    apply mvPut; apply mvPut; refine mvMk ?_; apply mv_keepFlds; apply Moves.step (g := mv_pageReset)
    apply Moves.step (g := mv_emptyHostSlots); exact Moves.refl; decide +kernel; decide +kernel; decide +kernel
    decide +kernel; decide +kernel

theorem mv_resetEfc {s : State} : Moves 0x200000200000000004280000000000000000000000000000000000000000000000000000508004 s (State.resetEfc s) := by
  unfold State.resetEfc
  with_reducible
    apply Moves.step (g := mv_readOtpStatus); apply Moves.step (g := mv_keepProgram); apply mv_keepFlds
    apply Moves.step (g := mv_pageReset); refine mvMk ?_; apply Moves.step (g := mv_efcAbortErase); exact Moves.refl
    decide +kernel; decide +kernel; decide +kernel; decide +kernel; decide +kernel

theorem mv_resetMbx {s : State} : Moves 0x46000000000000000000000000000000000000000000000000000000000410004 s (State.resetMbx s) := by
  unfold State.resetMbx
  with_reducible
    refine mvMk ?_; apply mvFold; apply mv_keepFlds; apply Moves.step (g := mv_pageReset); apply mvFold; exact Moves.refl
    intro u x hu; apply mvIte; apply mvSetFlag; apply mvSetFlag; assumption; decide +kernel; decide +kernel; assumption
    decide +kernel; decide +kernel; intro u x hu; apply mvPut64; assumption; decide +kernel

theorem mv_resetClk {s : State} : Moves 0x20000000000000000000000000400000480004 s (State.resetClk s) := by
  unfold State.resetClk
  with_reducible
    apply Moves.step (g := mv_budget); refine mvMk ?_; apply mv_keepFlds; apply Moves.step (g := mv_pageReset)
    exact Moves.refl; decide +kernel; decide +kernel; decide +kernel

theorem mv_resetCal {s : State} : Moves 0x180000000000000000000000000000000000000000000000000000000000420004 s (State.resetCal s) := by
  unfold State.resetCal
  with_reducible
    apply Moves.step (g := mv_calReset); apply mv_keepFlds; apply Moves.step (g := mv_pageReset); exact Moves.refl
    decide +kernel; decide +kernel; decide +kernel

theorem mv_resetUnit {s : State} {n : Nat} : Moves 0x2400002000001c60042a0c00108800080080c0c0214412186f83dc203ff03f000a4000007bffff s (State.resetUnit s n) := by
  unfold State.resetUnit
  with_reducible
    split; apply Moves.step (g := mv_resetClk); exact Moves.refl; decide +kernel; apply Moves.step (g := mv_resetLane)
    exact Moves.refl; decide +kernel; apply Moves.step (g := mv_resetCap); exact Moves.refl; decide +kernel
    apply Moves.step (g := mv_pageReset); refine mvMk ?_; apply Moves.step (g := mv_haltCapture); exact Moves.refl
    decide +kernel; decide +kernel; apply Moves.step (g := mv_resetGal); exact Moves.refl; decide +kernel
    apply Moves.step (g := mv_resetPair); exact Moves.refl; decide +kernel; apply Moves.step (g := mv_hqReset)
    exact Moves.refl; decide +kernel; apply Moves.step (g := mv_resetMag); exact Moves.refl; decide +kernel
    apply Moves.step (g := mv_resetMap); exact Moves.refl; decide +kernel; apply Moves.step (g := mv_resetOch)
    exact Moves.refl; decide +kernel; apply Moves.step (g := mv_resetSrv); exact Moves.refl; decide +kernel
    apply Moves.step (g := mv_resetMot); exact Moves.refl; decide +kernel; apply Moves.step (g := mv_resetSec)
    exact Moves.refl; decide +kernel; apply Moves.step (g := mv_resetEfc); exact Moves.refl; decide +kernel
    apply Moves.step (g := mv_resetMbx); exact Moves.refl; decide +kernel; apply Moves.step (g := mv_resetCal)
    exact Moves.refl; decide +kernel; apply mv_keepFlds; apply Moves.step (g := mv_pageReset); exact Moves.refl
    decide +kernel; decide +kernel; exact Moves.refl

theorem mv_finishUnitReset {s : State} {n : Nat} : Moves 0x2400002000001c601c2a0f003688030808c0c0c021c41219ff83dc307ff03fc00b5002007bffff s (State.finishUnitReset s n) := by
  unfold State.finishUnitReset
  with_reducible
    apply Moves.step (g := mv_showUnitReset); apply Moves.step (g := mv_startEnabled); refine mvMk ?_; apply mvWr0
    apply Moves.step (g := mv_resetUnit); apply mvIte; exact Moves.refl; apply Moves.step (g := mv_cutWork)
    exact Moves.refl; decide +kernel; decide +kernel; decide +kernel; decide +kernel; decide +kernel

theorem mv_settleUnitResets {s : State} : Moves 0x2400002000001c601c2a0f003688030808c0c0c021c41219ff83dc307ff03fc00b5002007bffff s (State.settleUnitResets s) := by
  unfold State.settleUnitResets
  with_reducible
    apply mvFold; exact Moves.refl; intro u x hu; apply mvIte; apply Moves.step (g := mv_finishUnitReset); assumption
    decide +kernel; assumption

theorem mv_beginUnitReset {s : State} {n : Nat} : Moves 0x2400002000000000180203003688030008c0000001c61101ff83cc30480000c00b00000018fcff s (State.beginUnitReset s n) := by
  unfold State.beginUnitReset
  with_reducible
    apply mvIte; exact Moves.refl; refine mvMk ?_; apply Moves.step (g := mv_disableUnit); exact Moves.refl
    decide +kernel

theorem mv_unitResets {s : State} {mask : Nat} : Moves 0x2400002000001c601c2a0f003688030808c0c0c021c61319ff83dc307ff03fc00b5002007bffff s (State.unitResets s mask) := by
  unfold State.unitResets
  with_reducible
    apply Moves.step (g := mv_showUnitReset); apply Moves.step (g := mv_settleUnitResets); apply mvFold; exact Moves.refl
    intro u x hu; apply Moves.step (g := mv_beginUnitReset); assumption; decide +kernel; decide +kernel; decide +kernel

theorem mv_writeUnitReset {s : State} {mask : Nat} : Moves 0x2400002000001c601c2a0f003688030808c0c0c021c61319ff83dc307ff03fc00b5002007bffff s (State.writeUnitReset s mask) := by
  unfold State.writeUnitReset
  with_reducible
    apply mvIte; exact Moves.refl; apply mvIte; apply Moves.step (g := mv_showUnitReset); refine mvMk ?_; apply mvIte
    apply Moves.step (g := mv_enterSave); exact Moves.refl; decide +kernel; exact Moves.refl; decide +kernel
    apply Moves.step (g := mv_unitResets); exact Moves.refl; decide +kernel

theorem mv_execUnitReset {v : Word} {s : State} : MovesR 0x2400002000001c601c2a0f003688030808c0c0c021c61319ff83dc307ff03fc00b5002007bffff s (execUnitReset v s) := by
  unfold execUnitReset
  with_reducible
    apply mvIteR; apply mvNext; apply Moves.step (g := mv_writeUnitReset); exact Moves.refl; decide +kernel; apply mvNext
    exact Moves.refl

theorem mv_execUnitResetDrainTimeout {s : State} : MovesR 0x2400002000001c601c2a0f003688030808c0c0c021c41219ff83dc307ff03fc00b5002007bffff s (execUnitResetDrainTimeout s) := by
  unfold execUnitResetDrainTimeout
  with_reducible
    apply mvNext; apply mvFold; exact Moves.refl; intro u x hu; apply Moves.step (g := mv_finishUnitReset); assumption
    decide +kernel

theorem mv_execUnitDrainComplete {u : UnitRef} {s : State} : MovesR 0x24000020000c1c601c2a0f003688030808c0c0c3fdff9319ff83dc307ff03fc00b5002007bffff s (execUnitDrainComplete u s) := by
  unfold execUnitDrainComplete
  with_reducible
    apply mvIteR; apply mvNext; apply Moves.step (g := mv_settleUnitResets); apply Moves.step (g := mv_unitDown)
    exact Moves.refl; decide +kernel; decide +kernel; apply mvNext; exact Moves.refl

theorem mv_afterSave {s : State} : Moves 0x2400002000001c681c2a0f003688030808c0c0c3f1c61319ff83dc307ff03fc00b5802007bffff s (State.afterSave s) := by
  unfold State.afterSave
  with_reducible
    apply mvIte; exact Moves.refl; split; apply Moves.step (g := mv_hardReset); exact Moves.refl; decide +kernel
    apply mvIte; exact Moves.refl; apply Moves.step (g := mv_unitResets); refine mvMk ?_; exact Moves.refl; decide +kernel

theorem mv_writeMode {s : State} {v : Word} : Moves 0x1f00000000000000008000100000021 s (State.writeMode s v) := by
  unfold State.writeMode
  with_reducible
    apply mvIte; apply mvIte; apply mvSetFlag; exact Moves.refl; decide +kernel; exact Moves.refl; apply mvIte
    apply mvSetFlag; apply mvIte; apply mvSetFlag; exact Moves.refl; decide +kernel; exact Moves.refl; decide +kernel
    apply mvIte; apply Moves.step (g := mv_pairEnable); apply mvPut; apply mvIte; apply mvSetFlag; exact Moves.refl
    decide +kernel; exact Moves.refl; decide +kernel; decide +kernel; apply mvPut; apply mvIte; apply mvSetFlag
    exact Moves.refl; decide +kernel; exact Moves.refl; decide +kernel

theorem mv_execTopModeWrite {v : Word} {s : State} : MovesR 0x1f00000000000000008000100000021 s (execTopModeWrite v s) := by
  unfold execTopModeWrite
  with_reducible
    apply mvIteR; apply mvNext; apply Moves.step (g := mv_writeMode); exact Moves.refl; decide +kernel; apply mvNext
    exact Moves.refl

end Sys2Proof.Laws
end

