-- ==== Sys2Proof/Laws/MovesPower.lean ====
section
/-!
SUPPORT. What each definition of Machine/Power.lean can change (Laws/Moves.lean).
-/
set_option Elab.async false

namespace Sys2Proof.Laws
open Sys2Proof.Machine

theorem mv_setPll {s : State} {p : Pll} {b : Bool} : Moves 0x60000000000 s (State.setPll s p b) := by
  unfold State.setPll
  with_reducible
    split; apply mvSetFlag; exact Moves.refl; decide +kernel; apply mvPut; exact Moves.refl; decide +kernel; apply mvPut
    exact Moves.refl; decide +kernel; apply mvSetFlag; exact Moves.refl; decide +kernel; apply mvSetFlag; exact Moves.refl
    decide +kernel; apply mvSetFlag; exact Moves.refl; decide +kernel

theorem mv_showPort {s : State} {p : Nat} : Moves 0x8000000000000 s (State.showPort s p) := by
  unfold State.showPort
  with_reducible
    apply mvFold; exact Moves.refl; intro u x hu; apply Moves.step (g := mv_showTx); assumption; decide +kernel

theorem mv_execPllLock {p : Pll} {s : State} : MovesR 0x10000000000000000000000000000000000000000000000000000008060000004000 s (execPllLock p s) := by
  unfold execPllLock
  with_reducible
    apply mvIteR; apply mvNext; exact Moves.refl; apply mvNext; split; apply Moves.step (g := mv_showPort)
    apply Moves.step (g := mv_setPll); exact Moves.refl; decide +kernel; decide +kernel; apply Moves.step (g := mv_showTx)
    apply Moves.step (g := mv_showTx); apply Moves.step (g := mv_setPll); exact Moves.refl; decide +kernel; decide +kernel
    decide +kernel; apply Moves.step (g := mv_colPllLock); apply Moves.step (g := mv_setPll); exact Moves.refl
    decide +kernel; decide +kernel; apply Moves.step (g := mv_setPll); exact Moves.refl; decide +kernel

theorem mv_portPllLoss {s : State} {p : Nat} : Moves 0x2400002000000000000200000080000000000000004410000f83cc20080000000b0000001078ff s (State.portPllLoss s p) := by
  unfold State.portPllLoss
  with_reducible
    apply Moves.step (g := mv_setPort); apply mvFold; apply mvPut; apply mvIte; apply mvSetFlag; apply mvSetFlag
    exact Moves.refl; decide +kernel; decide +kernel; apply Moves.step (g := mv_endPortFrame); apply mvSetFlag
    apply mvSetFlag; exact Moves.refl; decide +kernel; decide +kernel; decide +kernel; decide +kernel; intro u x hu
    apply Moves.step (g := mv_showTx); apply Moves.step (g := mv_rxOff); apply Moves.step (g := mv_setLane); assumption
    decide +kernel; decide +kernel; decide +kernel; decide +kernel

theorem mv_pairPllLoss {s : State} : Moves 0x2400002000000000000200000080000000000000004410186f83cc203ffab3810a0000003078ff s (State.pairPllLoss s) := by
  unfold State.pairPllLoss
  with_reducible
    apply Moves.step (g := mv_pairLaneDown); apply Moves.step (g := mv_pairLaneDown); apply Moves.step (g := mv_showTx)
    apply mvIte; apply Moves.step (g := mv_lockLoss); apply Moves.step (g := mv_showTx); apply mvIte
    apply Moves.step (g := mv_lockLoss); exact Moves.refl; decide +kernel; exact Moves.refl; decide +kernel
    decide +kernel; apply Moves.step (g := mv_showTx); apply mvIte; apply Moves.step (g := mv_lockLoss); exact Moves.refl
    decide +kernel; exact Moves.refl; decide +kernel; decide +kernel; decide +kernel; decide +kernel

theorem mv_pllLoss {s : State} {p : Pll} : Moves 0x3d00032000000400000a03001088000800800000004412186f83cc203ffab3810b0e040079fdff s (State.pllLoss s p) := by
  unfold State.pllLoss
  with_reducible
    apply mvIte; exact Moves.refl; split; apply Moves.step (g := mv_aosSafe); apply mv_cause; apply mvSetFlag
    apply Moves.step (g := mv_setPll); exact Moves.refl; decide +kernel; decide +kernel; decide +kernel; decide +kernel
    apply Moves.step (g := mv_aosSafe); apply mv_cause; apply mvSetFlag; apply Moves.step (g := mv_setPll)
    exact Moves.refl; decide +kernel; decide +kernel; decide +kernel; decide +kernel
    apply Moves.step (g := mv_portPllLoss); apply mvSetFlag; apply Moves.step (g := mv_setPll); exact Moves.refl
    decide +kernel; decide +kernel; decide +kernel; apply Moves.step (g := mv_pairPllLoss); apply mvSetFlag
    apply Moves.step (g := mv_setPll); exact Moves.refl; decide +kernel; decide +kernel; decide +kernel; apply mvIte
    apply Moves.step (g := mv_surpriseDown); apply mvSetFlag; apply Moves.step (g := mv_setPll); exact Moves.refl
    decide +kernel; decide +kernel; decide +kernel; apply mvSetFlag; apply Moves.step (g := mv_setPll); exact Moves.refl
    decide +kernel; decide +kernel; apply Moves.step (g := mv_colPllLoss); apply mvSetFlag
    apply Moves.step (g := mv_setPll); exact Moves.refl; decide +kernel; decide +kernel; decide +kernel

theorem mv_execPllLossOfLock {p : Pll} {s : State} : MovesR 0x3d00032000000400000a03001088000800800000004412186f83cc203ffab3810b0e040079fdff s (execPllLossOfLock p s) := by
  unfold execPllLossOfLock
  with_reducible
    apply mvNext; apply Moves.step (g := mv_pllLoss); exact Moves.refl; decide +kernel

theorem mv_execLanePllLoss {p : PortIx} {s : State} : MovesR 0x3d00032000000400000a03001088000800800000004412186f83cc203ffab3810b0e040079fdff s (execLanePllLoss p s) := by
  unfold execLanePllLoss
  with_reducible
    apply mvNext; apply Moves.step (g := mv_pllLoss); exact Moves.refl; decide +kernel

theorem mv_execRefclkLost {s : State} : MovesR 0x3c00002000000000000203001088000800800000004410006f83c82008000000080a0000187cfd s (execRefclkLost s) := by
  unfold execRefclkLost
  with_reducible
    apply mvIteR; apply mvNext; exact Moves.refl; apply mvNext; apply Moves.step (g := mv_aosSafe); apply mv_cause
    apply mvSetFlag; apply mvSetFlag; exact Moves.refl; decide +kernel; decide +kernel; decide +kernel; decide +kernel

theorem mv_execAosLockstepMismatch {s : State} : MovesR 0x2400002000001c681c2a0f003688030808c0c0c3f1c61319ff83dc307ff03fc00b5802007bffff s (execAosLockstepMismatch s) := by
  unfold execAosLockstepMismatch
  with_reducible
    apply mvIteR; apply mvNext; exact Moves.refl; apply mvNext; apply Moves.step (g := mv_afterSave)
    apply Moves.step (g := mv_endSaveEarly); refine mvMk ?_; apply Moves.step (g := mv_releaseClaim)
    apply Moves.step (g := mv_selfRefresh); apply Moves.step (g := mv_electricalIdle)
    apply Moves.step (g := mv_powerUpOutputs); apply Moves.step (g := mv_haltCapture); apply mv_cause; exact Moves.refl
    decide +kernel; decide +kernel; decide +kernel; decide +kernel; decide +kernel; decide +kernel; decide +kernel
    decide +kernel

theorem mv_execMc0HeartbeatTimeout {s : State} : MovesR 0x3c00002000001ee8980207003488020808800000014410006f83c820080000800808020039fcfd s (execMc0HeartbeatTimeout s) := by
  unfold execMc0HeartbeatTimeout
  with_reducible
    apply mvIteR; apply mvNext; apply Moves.step (g := mv_aosSafe); apply mv_cause; apply Moves.step (g := mv_lockCore)
    apply mvFree; exact Moves.refl; decide +kernel; decide +kernel; decide +kernel; decide +kernel; apply mvIteR
    apply mvNext; apply Moves.step (g := mv_aosSafe); apply mv_cause; exact Moves.refl; decide +kernel; decide +kernel
    apply mvNext; exact Moves.refl

theorem mv_execSupplyFailDeclared {vbus holdup ibus : Nat} {s : State} : MovesR 0x24000020000018001c2a02003000000808800000204410000f83c820080000000040000018f4fc s (execSupplyFailDeclared vbus holdup ibus s) := by
  unfold execSupplyFailDeclared
  with_reducible
    apply mvIteR; apply mvNext; exact Moves.refl; apply mvIteR; apply mvNext; apply Moves.step (g := mv_budget)
    apply Moves.step (g := mv_powerEvent); refine mvMk ?_; exact Moves.refl; decide +kernel; decide +kernel; apply mvIteR
    apply mvNext; apply Moves.step (g := mv_enterSave); apply Moves.step (g := mv_budget)
    apply Moves.step (g := mv_powerEvent); refine mvMk ?_; exact Moves.refl; decide +kernel; decide +kernel
    decide +kernel; apply mvNext; apply Moves.step (g := mv_enterRide); apply Moves.step (g := mv_budget)
    apply Moves.step (g := mv_powerEvent); refine mvMk ?_; exact Moves.refl; decide +kernel; decide +kernel
    decide +kernel

theorem mv_execSupplyWarnDeclared {vbus : Nat} {s : State} : MovesR 0x200000200000000000000000000000000000000000000000000000000000000000000000180000 s (execSupplyWarnDeclared vbus s) := by
  unfold execSupplyWarnDeclared
  with_reducible
    apply mvIteR; apply mvNext; exact Moves.refl; apply mvNext; apply Moves.step (g := mv_powerEvent); refine mvMk ?_
    exact Moves.refl; decide +kernel

theorem mv_execSupplyWarnClear {vbus : Nat} {s : State} : MovesR 0x80000 s (execSupplyWarnClear vbus s) := by
  unfold execSupplyWarnClear
  with_reducible
    apply mvIteR; apply mvNext; exact Moves.refl; apply mvNext; refine mvMk ?_; exact Moves.refl

theorem mv_execSupplyReturned {vbus holdup ibus : Nat} {s : State} : MovesR 0x200000200000000000000000000000000000000020000000000000000000000000400000180000 s (execSupplyReturned vbus holdup ibus s) := by
  unfold execSupplyReturned
  with_reducible
    apply mvIteR; apply mvNext; exact Moves.refl; apply mvIteR; apply mvNext; apply Moves.step (g := mv_budget)
    apply Moves.step (g := mv_powerEvent); apply mvPut; refine mvMk ?_; exact Moves.refl; decide +kernel; decide +kernel
    decide +kernel; apply mvNext; apply Moves.step (g := mv_budget); refine mvMk ?_; exact Moves.refl; decide +kernel

theorem mv_execHoldupReserveReached {holdup : Nat} {s : State} : MovesR 0x24000020000018001c2a00000000000000000000204410000f83c820080000000040000018f0fc s (execHoldupReserveReached holdup s) := by
  unfold execHoldupReserveReached
  with_reducible
    apply mvIteR; apply mvNext; exact Moves.refl; apply mvNext; apply Moves.step (g := mv_enterSave); refine mvMk ?_
    exact Moves.refl; decide +kernel

theorem mv_execChrysalisSaveComplete {s : State} : MovesR 0x3c00002000001c681c2a0f003688030808c0c0c3f1c61319ff83dc307ff03fc00b5802007bffff s (execChrysalisSaveComplete s) := by
  unfold execChrysalisSaveComplete
  with_reducible
    apply mvIteR; apply mvNext; exact Moves.refl; apply mvNext; apply Moves.step (g := mv_afterSave)
    apply Moves.step (g := mv_aosSafe); apply Moves.step (g := mv_saved); apply Moves.step (g := mv_writeRecord)
    apply Moves.step (g := mv_saveCommit); exact Moves.refl; decide +kernel; decide +kernel; decide +kernel
    decide +kernel; decide +kernel

theorem mv_execHoldupBelowMinimum {holdup : Nat} {s : State} : MovesR 0x3c00002000001c681c2a0f003688030808c0c0c3f1c61319ff83dc307ff03fc00b5802007bffff s (execHoldupBelowMinimum holdup s) := by
  unfold execHoldupBelowMinimum
  with_reducible
    apply mvIteR; apply mvNext; exact Moves.refl; apply mvNext; apply Moves.step (g := mv_afterSave)
    apply Moves.step (g := mv_aosSafe); apply Moves.step (g := mv_endSaveEarly); refine mvMk ?_; exact Moves.refl
    decide +kernel; decide +kernel; decide +kernel

theorem mv_writeThresh {s : State} {v : Word} : Moves 0x20000000000000000000000000600000000000 s (State.writeThresh s v) := by
  unfold State.writeThresh
  with_reducible
    apply mvIte; exact Moves.refl; apply Moves.step (g := mv_budget); apply mvWrite0; exact Moves.refl; decide +kernel
    decide +kernel

theorem mv_execPwrBusThreshWrite {v : Word} {s : State} : MovesR 0x20000000000000000000000000600000000000 s (execPwrBusThreshWrite v s) := by
  unfold execPwrBusThreshWrite
  with_reducible
    apply mvIteR; apply mvNext; apply Moves.step (g := mv_writeThresh); exact Moves.refl; decide +kernel; apply mvNext
    exact Moves.refl

theorem mv_execTWarnReached {temp : Nat} {s : State} : MovesR 0x200000200000000000000000000000000000000000000000000000000000000000800000180000 s (execTWarnReached temp s) := by
  unfold execTWarnReached
  with_reducible
    apply mvIteR; apply mvNext; exact Moves.refl; apply mvNext; apply Moves.step (g := mv_powerEvent); apply mvPut
    refine mvMk ?_; exact Moves.refl; decide +kernel; decide +kernel

theorem mv_execTWarnClear {temp : Nat} {s : State} : MovesR 0x800000080000 s (execTWarnClear temp s) := by
  unfold execTWarnClear
  with_reducible
    apply mvIteR; apply mvNext; exact Moves.refl; apply mvNext; apply mvPut; refine mvMk ?_; exact Moves.refl
    decide +kernel

theorem mv_execTShutReached {temp : Nat} {s : State} : MovesR 0x2400002000001800042a00000000000000000000004410000f83c820080000000080000018f0fc s (execTShutReached temp s) := by
  unfold execTShutReached
  with_reducible
    apply mvIteR; apply mvNext; exact Moves.refl; apply mvIteR; apply mvNext; apply mvPut; refine mvMk ?_
    exact Moves.refl; decide +kernel; apply mvNext; refine mvMk ?_; apply Moves.step (g := mv_abandonCal)
    apply Moves.step (g := mv_holdFlash); apply Moves.step (g := mv_haltCapture); apply mvPut; refine mvMk ?_
    exact Moves.refl; decide +kernel; decide +kernel; decide +kernel; decide +kernel

theorem mv_execTShutDeferralEnd {s : State} : MovesR 0x3c00002000001c681c2a0f003688030808c0c0c3f1c61319ff83dc307ff03fc00b5802007bffff s (execTShutDeferralEnd s) := by
  unfold execTShutDeferralEnd
  with_reducible
    apply mvIteR; apply mvNext; exact Moves.refl; apply mvNext; apply Moves.step (g := mv_afterSave); refine mvMk ?_
    apply Moves.step (g := mv_aosSafe); apply mv_cause; apply mvIte; apply Moves.step (g := mv_powerEvent); apply mvPut
    apply Moves.step (g := mv_writeRecord); refine mvMk ?_; refine mvMk ?_; exact Moves.refl; decide +kernel
    decide +kernel; decide +kernel; refine mvMk ?_; exact Moves.refl; decide +kernel; decide +kernel; decide +kernel

theorem mv_pllsOff {s : State} : Moves 0x60000000000 s (State.pllsOff s) := by
  unfold State.pllsOff
  with_reducible
    apply mvPut; apply mvPut; apply mvPut; apply mvPut; apply mvPut; exact Moves.refl; decide +kernel; decide +kernel
    decide +kernel; decide +kernel; decide +kernel

theorem mv_execTTrip {temp : Nat} {s : State} : MovesR 0x2400002000001c681c2a0f003688030808c0c0c3f1c61319ff83dc307ff03fc00bde02007bffff s (execTTrip temp s) := by
  unfold execTTrip
  with_reducible
    apply mvIteR; apply mvNext; exact Moves.refl; apply mvNext; apply Moves.step (g := mv_afterSave); refine mvMk ?_
    apply mvFold; apply mvSetFlag; apply Moves.step (g := mv_pllsOff); split; apply mvIte
    apply Moves.step (g := mv_efcAbortErase); apply Moves.step (g := mv_endSaveEarly)
    apply Moves.step (g := mv_releaseClaim); apply Moves.step (g := mv_electricalIdle)
    apply Moves.step (g := mv_powerUpOutputs); apply Moves.step (g := mv_haltCapture); apply mv_cause; apply mvPut
    exact Moves.refl; decide +kernel; decide +kernel; decide +kernel; decide +kernel; decide +kernel; decide +kernel
    decide +kernel; decide +kernel; apply Moves.step (g := mv_cutFlash); apply Moves.step (g := mv_endSaveEarly)
    apply Moves.step (g := mv_releaseClaim); apply Moves.step (g := mv_electricalIdle)
    apply Moves.step (g := mv_powerUpOutputs); apply Moves.step (g := mv_haltCapture); apply mv_cause; apply mvPut
    exact Moves.refl; decide +kernel; decide +kernel; decide +kernel; decide +kernel; decide +kernel; decide +kernel
    decide +kernel; decide +kernel; apply Moves.step (g := mv_endSaveEarly); apply Moves.step (g := mv_releaseClaim)
    apply Moves.step (g := mv_electricalIdle); apply Moves.step (g := mv_powerUpOutputs)
    apply Moves.step (g := mv_haltCapture); apply mv_cause; apply mvPut; exact Moves.refl; decide +kernel; decide +kernel
    decide +kernel; decide +kernel; decide +kernel; decide +kernel; decide +kernel; decide +kernel; decide +kernel
    intro u x hu; apply mvPut; assumption; decide +kernel; decide +kernel

end Sys2Proof.Laws
end

