-- ==== Sys2Proof/Laws/MovesRegs.lean ====
section
/-!
SUPPORT. What each definition of Machine/Regs.lean can change (Laws/Moves.lean).
-/
set_option Elab.async false

namespace Sys2Proof.Laws
open Sys2Proof.Machine

theorem mv_andThen {M : Nat} {s : State} {r : Result} {f : State → Result} (h : MovesR M s r)
    (hf : ∀ u, Moves M s u → MovesR M s (f u)) : MovesR M s (andThen r f) := by
  obtain ⟨t, e, g⟩ := h
  subst e
  exact hf t g

theorem mv_alsoIf {M : Nat} {s : State} {b : Bool} {r : Result} {f : State → Result} (h : MovesR M s r)
    (hf : ∀ u, Moves M s u → MovesR M s (f u)) : MovesR M s (alsoIf b f r) := by
  unfold alsoIf
  split
  · exact mv_andThen h hf
  · exact h

theorem mv_plainWrite {s : State} {k : Nat} {v : Word} : Moves 0x200000200000000000000000000000000000000000000000000000000000000000000000500000 s (State.plainWrite s k v) := by
  unfold State.plainWrite
  with_reducible
    apply mvIte; apply Moves.step (g := mv_resignal); apply mvWrite; exact Moves.refl; decide +kernel; decide +kernel
    apply mvWrite; exact Moves.refl; decide +kernel

theorem mv_lockedWrite {M : Nat} {rS : State} {s : State} {k : Nat} {v mask : Word} {lock : Bool} {flag : State → State} (hS : Moves M rS s)
    (hs : sub 0x400000 M = true) (hf0 : ∀ u, Moves M rS u → Moves M rS (flag u)) : Moves M rS (State.lockedWrite s k v mask lock flag) := by
  unfold State.lockedWrite
  with_reducible
    apply mvIte; apply mvWrite; exact hS; exact bit_mono (a := 0x400000) (by decide +kernel) hs; apply mvIte
    apply mvWriteExcept; exact hS; exact bit_mono (a := 0x400000) (by decide +kernel) hs; apply hf0; apply mvWriteExcept
    exact hS; exact bit_mono (a := 0x400000) (by decide +kernel) hs

theorem mv_writeHqCtl {s : State} {v : Word} : Moves 0x180000000000000000000000000000080 s (State.writeHqCtl s v) := by
  unfold State.writeHqCtl
  with_reducible
    apply mvIte; apply mvSetFlag; refine mvMk ?_; apply mvSetFlag; exact Moves.refl; decide +kernel; decide +kernel
    apply mvSetFlag; exact Moves.refl; decide +kernel

theorem mv_writeSq {s : State} {n k : Nat} {v : Word} : Moves 0x24000020000000001802000000000000088000000046110000000000000000000000000050b4e4 s (State.writeSq s n k v) := by
  unfold State.writeSq
  with_reducible
    apply mvIte; apply mv_lockedWrite; exact Moves.refl; decide +kernel; intro u hu; apply Moves.step (g := mv_cfgRej)
    assumption; decide +kernel; apply mvIte; apply mvSetFlag; apply mvIte; apply Moves.step (g := mv_cfgRej); apply mvPut
    apply mv_lockedWrite; exact Moves.refl; decide +kernel; intro u hu; apply Moves.step (g := mv_cfgRej); assumption
    decide +kernel; decide +kernel; decide +kernel; apply mv_lockedWrite; exact Moves.refl; decide +kernel; intro u hu
    apply Moves.step (g := mv_cfgRej); assumption; decide +kernel; decide +kernel; apply Moves.step (g := mv_sqEnable)
    apply mvSetFlag; apply mvIte; apply Moves.step (g := mv_cfgRej); apply mvPut; apply mv_lockedWrite; exact Moves.refl
    decide +kernel; intro u hu; apply Moves.step (g := mv_cfgRej); assumption; decide +kernel; decide +kernel
    decide +kernel; apply mv_lockedWrite; exact Moves.refl; decide +kernel; intro u hu; apply Moves.step (g := mv_cfgRej)
    assumption; decide +kernel; decide +kernel; decide +kernel

theorem mv_writeCq {s : State} {m k : Nat} {v : Word} : Moves 0x600100000000000000000000000000400000 s (State.writeCq s m k v) := by
  unfold State.writeCq
  with_reducible
    apply mvIte; apply mv_lockedWrite; exact Moves.refl; decide +kernel; intro u hu; apply Moves.step (g := mv_cfgRej)
    assumption; decide +kernel; apply mvIte; apply mvSetFlag; apply mv_lockedWrite; exact Moves.refl; decide +kernel
    intro u hu; apply Moves.step (g := mv_cfgRej); assumption; decide +kernel; decide +kernel
    apply Moves.step (g := mv_cqEnable); apply mvSetFlag; apply mv_lockedWrite; exact Moves.refl; decide +kernel
    intro u hu; apply Moves.step (g := mv_cfgRej); assumption; decide +kernel; decide +kernel; decide +kernel

theorem mv_writeXwin {s : State} {w k : Nat} {v : Word} : Moves 0x200000200000000000000000000000000000000000000000000000000000000000010400500000 s (State.writeXwin s w k v) := by
  unfold State.writeXwin
  with_reducible
    apply mvIte; apply mv_lockedWrite; exact Moves.refl; decide +kernel; intro u hu; apply mv_event; assumption
    decide +kernel; apply mvIte; apply Moves.step (g := mv_xwinEnable); apply mvSetFlag; apply mv_lockedWrite
    exact Moves.refl; decide +kernel; intro u hu; apply mv_event; assumption; decide +kernel; decide +kernel
    decide +kernel; apply mvSetFlag; apply mvSetFlag; apply mv_lockedWrite; exact Moves.refl; decide +kernel; intro u hu
    apply mv_event; assumption; decide +kernel; decide +kernel; decide +kernel

theorem mv_writeVector {s : State} {fn vec k : Nat} {v : Word} : Moves 0x200000200000000000000000000000000000000000000000000000000000000000000000500000 s (State.writeVector s fn vec k v) := by
  unfold State.writeVector
  with_reducible
    apply mvIte; apply Moves.step (g := mv_signal); apply mvWrite; exact Moves.refl; decide +kernel; decide +kernel
    apply mvWrite; exact Moves.refl; decide +kernel

theorem mv_writeBeam {s : State} {k : Nat} {v : Word} : Moves 0x400400 s (State.writeBeam s k v) := by
  unfold State.writeBeam
  with_reducible
    apply mvWrite; apply mvIte; exact Moves.refl; apply Moves.step (g := mv_atWedge); exact Moves.refl; decide +kernel
    decide +kernel

theorem mv_writeSetpt {s : State} {l k : Nat} {v : Word} : Moves 0x200000200000000000000000000002000000000000000000000000000000000000000000500000 s (State.writeSetpt s l k v) := by
  unfold State.writeSetpt
  with_reducible
    apply mv_lockedWrite; exact Moves.refl; decide +kernel; intro u hu; apply mv_event; assumption; decide +kernel

theorem mv_writePort {s : State} {q : Requester} {k : Nat} {v : Word} : MovesR 0x3cfff0a00000000000380000000000000000000000000000000000000000000000000000308000 s (State.writePort s q k v) := by
  unfold State.writePort
  with_reducible
    apply mvIteR; apply MovesR.step (g := mv_execEfcKeyWrite); exact Moves.refl; decide +kernel; apply mvIteR
    apply mvNext; apply Moves.step (g := mv_efcCmd); exact Moves.refl; decide +kernel; apply mvIteR; apply mvNext
    apply Moves.step (g := mv_efcAddr); exact Moves.refl; decide +kernel; apply mvNext; apply Moves.step (g := mv_efcData)
    exact Moves.refl; decide +kernel

theorem mv_axisCmd {q : Requester} {a : AxisIx} {v : Word} {s : State} : MovesR 0x3cfff0a00000000000000300040000000000000000000000000000000000000000000000381000 s (axisCmd q a v s) := by
  unfold axisCmd
  with_reducible
    split; apply MovesR.step (g := mv_execSeek); exact Moves.refl; decide +kernel; apply MovesR.step (g := mv_execSweep)
    exact Moves.refl; decide +kernel; apply MovesR.step (g := mv_execAxisStop); exact Moves.refl; decide +kernel
    apply MovesR.step (g := mv_execAxisResume); exact Moves.refl; decide +kernel; apply MovesR.step (g := mv_execHome)
    exact Moves.refl; decide +kernel; apply MovesR.step (g := mv_execPark); exact Moves.refl; decide +kernel; apply mvNext
    exact Moves.refl

theorem mv_ctlWrite {M : Nat} {s t : State} {u : UnitRef} {clear : State → Result} {v : Word} (h : Moves M s t)
    (hs : sub 0x24000020180c0000180207003688030008c0000001e61101ff83cc30480000c00b00020038fcff M = true) (hf : ∀ u, Moves M s u → MovesR M s (clear u)) : MovesR M s (ctlWrite u clear v t) := by
  unfold ctlWrite
  refine mv_andThen ?_ (fun u hu => mvNext (hu.step mv_enableUnit hs))
  split
  · exact hf t h
  · exact mvNext h

theorem mv_writePage01 {k : Nat} {v : Word} {s : State} : MovesR 0x2400002000001c601c2a0f003688030808c0c0c021c61319ff83dc307ff03fc00b71ff007bffff s (writePage01 k v s) := by
  unfold writePage01
  with_reducible
    apply mvIteR; apply mvNext; apply Moves.step (g := mv_writeMode); exact Moves.refl; decide +kernel; apply mvIteR
    apply mvIteR; apply MovesR.step (g := mv_execPcieCntClr); exact Moves.refl; decide +kernel; apply mvNext
    exact Moves.refl; apply mvIteR; apply mvNext; refine mvMk ?_; apply mvWrite; exact Moves.refl; decide +kernel
    apply mvIteR; apply mvNext; apply Moves.step (g := mv_writeUnitReset); exact Moves.refl; decide +kernel; apply mvIteR
    apply mvNext; apply Moves.step (g := mv_writeThresh); exact Moves.refl; decide +kernel; split; apply mvNext
    apply Moves.step (g := mv_writeXwin); exact Moves.refl; decide +kernel; apply mvNext; apply mvIte
    apply Moves.step (g := mv_budget); apply Moves.step (g := mv_plainWrite); exact Moves.refl; decide +kernel
    decide +kernel; apply Moves.step (g := mv_plainWrite); exact Moves.refl; decide +kernel

theorem mv_writePage26 {k : Nat} {v : Word} {s : State} : MovesR 0x24000020180c0000180207003688030008c0000001e6117fffffefffcffff3ffff00020078fcff s (writePage26 k v s) := by
  unfold writePage26
  with_reducible
    apply mvIteR; apply MovesR.step (g := mv_execCapConfigWrite); exact Moves.refl; decide +kernel; apply mvIteR
    apply mv_ctlWrite; exact Moves.refl; decide +kernel; intro u hu; apply MovesR.step (g := mv_execCapCntClr); assumption
    decide +kernel; apply mvIteR; apply mv_alsoIf; apply mvNext; apply mvWrite; exact Moves.refl; decide +kernel
    intro u hu; apply MovesR.step (g := mv_execCmpCntClr); assumption; decide +kernel; apply mvIteR; apply mvIteR
    apply MovesR.step (g := mv_execGalCntClr); exact Moves.refl; decide +kernel; apply mvNext; exact Moves.refl
    apply mvIteR; apply MovesR.step (g := mv_execGalArbWmWrite); exact Moves.refl; decide +kernel; apply mvIteR
    apply MovesR.step (g := mv_execGalErrorLogFree); exact Moves.refl; decide +kernel; apply mvIteR; apply mv_ctlWrite
    apply mvWriteExcept; exact Moves.refl; decide +kernel; decide +kernel; intro u hu
    apply MovesR.step (g := mv_execPairCntClr); assumption; decide +kernel; apply mvIteR
    apply MovesR.step (g := mv_execLanePortCtlWrite); exact Moves.refl; decide +kernel; apply mvIteR
    apply MovesR.step (g := mv_execLaneEgressChange); exact Moves.refl; decide +kernel; apply mvIteR
    apply MovesR.step (g := mv_execLaneEgressChange); exact Moves.refl; decide +kernel; apply mvIteR
    apply MovesR.step (g := mv_execCompositorMaskWrite); exact Moves.refl; decide +kernel; apply mvNext
    apply Moves.step (g := mv_plainWrite); exact Moves.refl; decide +kernel

theorem mv_writePage79 {k : Nat} {v : Word} {s : State} : MovesR 0x24000020180c0000180207003688030008ff7e3fc1e67d81ff83cc30480000c00b00020078fdff s (writePage79 k v s) := by
  unfold writePage79
  with_reducible
    apply mvIteR; apply mv_alsoIf; apply mvNext; apply Moves.step (g := mv_writeHqCtl); exact Moves.refl; decide +kernel
    intro u hu; apply MovesR.step (g := mv_execHqCntClr); assumption; decide +kernel; apply mvIteR; apply mvNext
    apply mv_lockedWrite; exact Moves.refl; decide +kernel; intro u hu; apply Moves.step (g := mv_cfgRej); assumption
    decide +kernel; apply mvIteR; apply MovesR.step (g := mv_execHqWake); exact Moves.refl; decide +kernel; apply mvIteR
    apply mv_ctlWrite; exact Moves.refl; decide +kernel; intro u hu; apply MovesR.step (g := mv_execMagCntClr); assumption
    decide +kernel; apply mvIteR; apply mvIteR; apply MovesR.step (g := mv_execMapCntClr); exact Moves.refl
    decide +kernel; apply mvNext; exact Moves.refl; split; apply mvIteR; apply mvIteR
    apply MovesR.step (g := mv_execSqResume); exact Moves.refl; decide +kernel; apply mvNext; exact Moves.refl
    apply mvIteR; apply mvNext; apply Moves.step (g := mv_writeSq); exact Moves.refl; decide +kernel; apply mvNext
    exact Moves.refl; apply mvIteR; apply mvNext; apply Moves.step (g := mv_writeCq); exact Moves.refl; decide +kernel
    apply mvNext; exact Moves.refl; apply mvNext; apply Moves.step (g := mv_plainWrite); exact Moves.refl; decide +kernel

theorem mv_writePageAB {k : Nat} {v : Word} {s : State} : MovesR 0x24000020180c00001802070036cbf7e1fec0000001e61101ff83cc30480000c00b00020078fcff s (writePageAB k v s) := by
  unfold writePageAB
  with_reducible
    apply mvIteR; apply mv_ctlWrite; exact Moves.refl; decide +kernel; intro u hu
    apply MovesR.step (g := mv_execOchCntClr); assumption; decide +kernel; apply mvIteR; apply mv_ctlWrite
    exact Moves.refl; decide +kernel; intro u hu; apply MovesR.step (g := mv_execSrvCntClr); assumption; decide +kernel
    apply mvIteR; apply MovesR.step (g := mv_execServiceModeEnable); exact Moves.refl; decide +kernel; apply mvIteR
    apply MovesR.step (g := mv_execGovernorThresholdWrite); exact Moves.refl; decide +kernel; apply mvIteR
    apply MovesR.step (g := mv_execGovernorThresholdWrite); exact Moves.refl; decide +kernel; apply mvIteR; apply mvNext
    apply Moves.step (g := mv_writeBeam); exact Moves.refl; decide +kernel; split; apply mvIteR; apply mv_alsoIf
    apply mvNext; apply mvWrite; exact Moves.refl; decide +kernel; intro u hu; apply MovesR.step (g := mv_execLoopCommit)
    assumption; decide +kernel; apply mvIteR; apply mvNext; apply Moves.step (g := mv_writeSetpt); exact Moves.refl
    decide +kernel; apply mvNext; apply mvWrite; exact Moves.refl; decide +kernel; apply mvIteR
    apply MovesR.step (g := mv_execCoilCfgWrite); exact Moves.refl; decide +kernel; apply mvNext; exact Moves.refl
    apply mvIteR; apply mv_alsoIf; apply mvNext; apply mvWrite; exact Moves.refl; decide +kernel; intro u hu
    apply MovesR.step (g := mv_execFfBankSwap); assumption; decide +kernel; apply mvNext; apply mvWrite; exact Moves.refl
    decide +kernel; apply mvNext; apply Moves.step (g := mv_plainWrite); exact Moves.refl; decide +kernel

theorem mv_writePageCD {q : Requester} {k : Nat} {v : Word} {s : State} : MovesR 0x3cfff0a0180c00001803f77cbe88030008c0000001e61101ff83cc30480000c00b00020078fcff s (writePageCD q k v s) := by
  unfold writePageCD
  with_reducible
    apply mvIteR; apply mv_ctlWrite; exact Moves.refl; decide +kernel; intro u hu
    apply MovesR.step (g := mv_execMotCntClr); assumption; decide +kernel; apply mvIteR
    apply MovesR.step (g := mv_execMotPwmWrite); exact Moves.refl; decide +kernel; apply mvIteR
    apply MovesR.step (g := mv_execSpindleServiceEnable); exact Moves.refl; decide +kernel; apply mvIteR; apply mvIteR
    apply MovesR.step (g := mv_execSecCntClr); exact Moves.refl; decide +kernel; apply mvNext; exact Moves.refl; split
    apply mvIteR; apply MovesR.step (g := mv_axisCmd); exact Moves.refl; decide +kernel; apply mvIteR; apply mvNext
    apply mv_lockedWrite; exact Moves.refl; decide +kernel; intro u hu; apply Moves.step (g := mv_motRej); assumption
    decide +kernel; apply mvNext; apply mvWrite; exact Moves.refl; decide +kernel; apply mvNext
    apply Moves.step (g := mv_plainWrite); exact Moves.refl; decide +kernel

theorem mv_writePageE {q : Requester} {k : Nat} {v : Word} {s : State} : MovesR 0x3cfff0a000001f1ffc780000000000000000000000000000000000000000000000000000728000 s (writePageE q k v s) := by
  unfold writePageE
  with_reducible
    apply mvIteR; apply MovesR.step (g := mv_execEfcWindowWrite); exact Moves.refl; decide +kernel; apply mvIteR
    apply mvIteR; apply MovesR.step (g := mv_execEfcCntClr); exact Moves.refl; decide +kernel; apply mvNext
    exact Moves.refl; apply mvIteR; apply MovesR.step (g := mv_writePort); exact Moves.refl; decide +kernel; apply mvIteR
    apply MovesR.step (g := mv_execEfcEccLogFree); exact Moves.refl; decide +kernel; apply mvIteR
    apply MovesR.step (g := mv_execEfcAbortAddrClr); exact Moves.refl; decide +kernel; apply mvIteR; apply mvIteR
    apply MovesR.step (g := mv_execMbxCntClr); exact Moves.refl; decide +kernel; apply mvNext; exact Moves.refl
    apply mvIteR; apply MovesR.step (g := mv_execCalValueWrite); exact Moves.refl; decide +kernel; split; apply mvIteR
    apply MovesR.step (g := mv_execMailboxWrite); exact Moves.refl; decide +kernel; apply mvNext
    apply Moves.step (g := mv_plainWrite); exact Moves.refl; decide +kernel; apply mvIteR
    apply MovesR.step (g := mv_execQuoinRelease); exact Moves.refl; decide +kernel; apply mvNext; exact Moves.refl
    apply mvIteR; apply mv_alsoIf; apply mvNext; apply mvWrite; exact Moves.refl; decide +kernel; intro u hu
    apply MovesR.step (g := mv_execCalRunRequest); assumption; decide +kernel; apply mvNext; exact Moves.refl
    apply mvNext; apply Moves.step (g := mv_plainWrite); exact Moves.refl; decide +kernel

theorem mv_writeColophon {k : Nat} {v : Word} {s : State} : MovesR 0x24000038fa0c0000180207003688030008c0000001e61101ff83cc30480000c00b00020078fcff s (writeColophon k v s) := by
  unfold writeColophon
  with_reducible
    apply mvIteR; apply mv_ctlWrite; exact Moves.refl; decide +kernel; intro u hu
    apply MovesR.step (g := mv_execColCntClr); assumption; decide +kernel; apply mvIteR; apply mvIteR
    apply MovesR.step (g := mv_execTodArm); exact Moves.refl; decide +kernel; apply mvNext; exact Moves.refl; apply mvIteR
    apply mvIteR; apply MovesR.step (g := mv_execAuthProvision); exact Moves.refl; decide +kernel; apply mvNext
    exact Moves.refl; apply mvIteR; apply mvNext; exact Moves.refl; split; apply mvNext
    apply Moves.step (g := mv_writeVector); exact Moves.refl; decide +kernel; apply mvNext
    apply Moves.step (g := mv_plainWrite); exact Moves.refl; decide +kernel

theorem mv_hostWrite {s : State} {q : Requester} {k : Nat} {v : Word} : MovesR 0x3cfff0b8fa0c1f7ffc7bff7cbecbf7e9fefffeffe1e67fffffffffffffffffffff71ff007bffff s (State.hostWrite s q k v) := by
  unfold State.hostWrite
  with_reducible
    apply mvIteR; apply mvNext; apply Moves.step (g := mv_writeVector); exact Moves.refl; decide +kernel; apply mvIteR
    apply MovesR.step (g := mv_writeColophon); exact Moves.refl; decide +kernel; apply mvIteR
    apply MovesR.step (g := mv_writePage01); exact Moves.refl; decide +kernel; apply mvIteR
    apply MovesR.step (g := mv_writePage26); exact Moves.refl; decide +kernel; apply mvIteR
    apply MovesR.step (g := mv_writePage79); exact Moves.refl; decide +kernel; apply mvIteR
    apply MovesR.step (g := mv_writePageAB); exact Moves.refl; decide +kernel; apply mvIteR
    apply MovesR.step (g := mv_writePageCD); exact Moves.refl; decide +kernel; apply MovesR.step (g := mv_writePageE)
    exact Moves.refl; decide +kernel

theorem mv_wordWrite {s : State} {q : Requester} {k : Nat} {v : Word} : MovesR 0x3cfff0b8fa0c1f7ffc7bff7cbecbf7e9fefffeffe1e67fffffffffffffffffffff71ff007bffff s (State.wordWrite s q k v) := by
  unfold State.wordWrite
  with_reducible
    apply mvIteR; apply mvNext; exact Moves.refl; apply MovesR.step (g := mv_hostWrite); exact Moves.refl; decide +kernel

theorem mv_execRegisterWrite {q : Requester} {addr : Nat} {v : Word} {hi : Option Word} {s : State} : MovesR 0x3cfff0b8fa0c1f7ffc7bff7cbecbf7e9fefffeffe1e67fffffffffffffffffffff71ff007bffff s (execRegisterWrite q addr v s hi) := by
  unfold execRegisterWrite
  with_reducible
    apply mvIteR; apply mvNext; exact Moves.refl; apply mvIteR; apply mvNext; apply Moves.step (g := mv_refuseBar)
    exact Moves.refl; decide +kernel; split; apply MovesR.step (g := mv_wordWrite); exact Moves.refl; decide +kernel
    apply mv_andThen; apply MovesR.step (g := mv_wordWrite); exact Moves.refl; decide +kernel; intro u hu
    apply MovesR.step (g := mv_wordWrite); assumption; decide +kernel

theorem mv_execEventBitClear {q : Requester} {addr : Nat} {v : Word} {s : State} : MovesR 0x3cfff0a00000000000000000000000000000000000000000000000000000000000000000700000 s (execEventBitClear q addr v s) := by
  unfold execEventBitClear
  with_reducible
    apply mvIteR; apply mvNext; exact Moves.refl; apply mvIteR; apply mvNext; apply Moves.step (g := mv_refuseBar)
    exact Moves.refl; decide +kernel; apply mvIteR; apply mvNext; exact Moves.refl; split; apply mvNext; exact Moves.refl
    apply mvNext; apply Moves.step (g := mv_resignal); apply mvWrAny; exact Moves.refl; decide +kernel; decide +kernel

theorem mv_execRead64bitLowWord {q : Requester} {addr : Nat} {wide : Bool} {s : State} : MovesR 0x3cfff0a00000000000000000000000000000000000000000000000000000000000000000300004 s (execRead64bitLowWord q addr s wide) := by
  unfold execRead64bitLowWord
  with_reducible
    apply mvIteR; apply mvNext; exact Moves.refl; apply mvIteR; apply mvNext; apply Moves.step (g := mv_refuseBar)
    exact Moves.refl; decide +kernel; apply mvNext; apply mvEmit; refine mvMk ?_; exact Moves.refl; decide +kernel

theorem mv_configWrite {s : State} {f off : Nat} {v : Word} : Moves 0x3f000ba000000400000a000000000000008000000044130000000000000000000008000071b5c4 s (State.configWrite s f off v) := by
  unfold State.configWrite
  with_reducible
    split; apply mvIte; apply mvWriteExcept; exact Moves.refl; decide +kernel; apply Moves.step (g := mv_busMaster)
    apply mvWriteExcept; exact Moves.refl; decide +kernel; decide +kernel; apply mvIte
    apply Moves.step (g := mv_setBar2Size); apply mvWrite; exact Moves.refl; decide +kernel; decide +kernel
    exact Moves.refl; apply mvIte; apply Moves.step (g := mv_setBar2Size); apply mvWrite; exact Moves.refl; decide +kernel
    decide +kernel; exact Moves.refl; apply mvIte; exact Moves.refl; apply Moves.step (g := mv_powerState)
    exact Moves.refl; decide +kernel; apply mvIte; apply Moves.step (g := mv_flr); apply mvWrite; exact Moves.refl
    decide +kernel; decide +kernel; apply mvWrite; exact Moves.refl; decide +kernel; apply mvIte
    apply Moves.step (g := mv_sendPending); apply mvWrite; exact Moves.refl; decide +kernel; decide +kernel; apply mvWrite
    exact Moves.refl; decide +kernel; apply mvIte; exact Moves.refl; apply Moves.step (g := mv_setBar2Size)
    exact Moves.refl; decide +kernel; apply mvIte; apply Moves.step (g := mv_releaseFn); apply mvIte
    apply Moves.step (g := mv_freezeFn); apply mvWriteExcept; exact Moves.refl; decide +kernel; decide +kernel
    apply mvWriteExcept; exact Moves.refl; decide +kernel; decide +kernel; apply mvIte
    apply Moves.step (g := mv_freezeFn); apply mvWriteExcept; exact Moves.refl; decide +kernel; decide +kernel
    apply mvWriteExcept; exact Moves.refl; decide +kernel; apply mvWrite; exact Moves.refl; decide +kernel

theorem mv_execConfigRequest {f : FnIx} {off : Nat} {v : Option Word} {s : State} : MovesR 0x3f000ba000000400000a000000000000008000000044130000000000000000000008000071b5c4 s (execConfigRequest f off v s) := by
  unfold execConfigRequest
  with_reducible
    apply mvIteR; apply mvNext; exact Moves.refl; apply mvIteR; apply mvNext; apply mvEmit; exact Moves.refl
    decide +kernel; apply mvIteR; apply mvNext; apply mvEmit; exact Moves.refl; decide +kernel; apply mvIteR; apply mvNext
    apply mvEmit; exact Moves.refl; decide +kernel; split; apply mvNext; apply mvEmit; exact Moves.refl; decide +kernel
    apply mvNext; apply mvEmit; apply Moves.step (g := mv_configWrite); exact Moves.refl; decide +kernel; decide +kernel

end Sys2Proof.Laws
end

