-- ==== Sys2Proof/Laws/MovesTick.lean ====
section
/-!
SUPPORT. What each definition of Machine/Tick.lean can change (Laws/Moves.lean).
-/
set_option Elab.async false

namespace Sys2Proof.Laws
open Sys2Proof.Machine

theorem mv_colTick {s : State} : Moves 0x60000000000000000000000000000000000000000000000000000000000000004000 s (State.colTick s) := by
  unfold State.colTick
  with_reducible
    apply mvIte; exact Moves.refl; refine mvMk ?_; apply mvPut64; exact Moves.refl; decide +kernel

theorem mv_galTick {s : State} : Moves 0xc00000000000000000000000010 s (State.galTick s) := by
  unfold State.galTick
  with_reducible
    apply mvIte; exact Moves.refl; apply mvPut64; refine mvMk ?_; exact Moves.refl; decide +kernel

theorem mv_tick {s : State} : Moves 0x60000000000000000000000000000000000000000c000000000c0000000000004010 s (State.tick s) := by
  unfold State.tick
  with_reducible
    apply mvIte; exact Moves.refl; apply mvIte; apply Moves.step (g := mv_colTick); apply Moves.step (g := mv_galTick)
    apply mvPut64; exact Moves.refl; decide +kernel; decide +kernel; decide +kernel; apply Moves.step (g := mv_galTick)
    apply mvPut64; exact Moves.refl; decide +kernel; decide +kernel

end Sys2Proof.Laws
end

