-- ==== Sys2Proof/Laws/Commands.lean ====
section
/-!
SUPPORT. What every command leaves alone, all of them together: each answers a next state, and moves only what its own mask names.
-/
set_option Elab.async false
namespace Sys2Proof.Laws
open Sys2Proof Sys2Proof.Machine

/-- Every command answers a next state, which keeps the canonical form, the part and the queue. -/
theorem exec_moves (c : Instr) (s : State) : ∃ M : Nat, MovesR M s (exec c s) := by
  cases c with
  | registerWrite q addr v hi => exact ⟨_, mv_execRegisterWrite⟩
  | eventBitClear q addr v => exact ⟨_, mv_execEventBitClear⟩
  | read64bitLowWord q addr wide => exact ⟨_, mv_execRead64bitLowWord⟩
  | configRequest f off v => exact ⟨_, mv_execConfigRequest⟩
  | topModeWrite v => exact ⟨_, mv_execTopModeWrite⟩
  | unitEnableWrite u v => exact ⟨_, mv_execUnitEnableWrite⟩
  | unitStartupComplete u => exact ⟨_, mv_execUnitStartupComplete⟩
  | unitDrainComplete u => exact ⟨_, mv_execUnitDrainComplete⟩
  | unitReset v => exact ⟨_, mv_execUnitReset⟩
  | unitResetDrainTimeout => exact ⟨_, mv_execUnitResetDrainTimeout⟩
  | powerOnReset => exact ⟨_, mv_execPowerOnReset⟩
  | porRelease selfTest fw0 fw1 => exact ⟨_, mv_execPorRelease⟩
  | perstNAssert => exact ⟨_, mv_execPerstNAssert⟩
  | sysRstNAssert => exact ⟨_, mv_execSysRstNAssert⟩
  | resetDeassert sys fw0 fw1 => exact ⟨_, mv_execResetDeassert⟩
  | hotReset => exact ⟨_, mv_execHotReset⟩
  | flrFunction0 => exact ⟨_, mv_execFlrFunction0⟩
  | flrFunction1 => exact ⟨_, mv_execFlrFunction1⟩
  | pllLock p => exact ⟨_, mv_execPllLock⟩
  | pllLossOfLock p => exact ⟨_, mv_execPllLossOfLock⟩
  | lanePllLoss p => exact ⟨_, mv_execLanePllLoss⟩
  | refclkLost => exact ⟨_, mv_execRefclkLost⟩
  | aosLockstepMismatch => exact ⟨_, mv_execAosLockstepMismatch⟩
  | mc0HeartbeatTimeout => exact ⟨_, mv_execMc0HeartbeatTimeout⟩
  | supplyFailDeclared vbus holdup ibus => exact ⟨_, mv_execSupplyFailDeclared⟩
  | supplyWarnDeclared vbus => exact ⟨_, mv_execSupplyWarnDeclared⟩
  | supplyWarnClear vbus => exact ⟨_, mv_execSupplyWarnClear⟩
  | supplyReturned vbus holdup ibus => exact ⟨_, mv_execSupplyReturned⟩
  | holdupReserveReached holdup => exact ⟨_, mv_execHoldupReserveReached⟩
  | chrysalisSaveComplete => exact ⟨_, mv_execChrysalisSaveComplete⟩
  | holdupBelowMinimum holdup => exact ⟨_, mv_execHoldupBelowMinimum⟩
  | pwrBusThreshWrite v => exact ⟨_, mv_execPwrBusThreshWrite⟩
  | writeBufferSpaceFreed c h ecc => exact ⟨_, mv_execWriteBufferSpaceFreed⟩
  | tWarnReached temp => exact ⟨_, mv_execTWarnReached⟩
  | tWarnClear temp => exact ⟨_, mv_execTWarnClear⟩
  | tShutReached temp => exact ⟨_, mv_execTShutReached⟩
  | tShutDeferralEnd => exact ⟨_, mv_execTShutDeferralEnd⟩
  | tTrip temp => exact ⟨_, mv_execTTrip⟩
  | thermalResetRelease temp fw0 fw1 => exact ⟨_, mv_execThermalResetRelease⟩
  | rxBlockLock l => exact ⟨_, mv_execRxBlockLock⟩
  | receiveInvalidSyncHeader l ones payload info => exact ⟨_, mv_execReceiveInvalidSyncHeader⟩
  | hiBerClear l => exact ⟨_, mv_execHiBerClear⟩
  | receiveIdle l payload info => exact ⟨_, mv_execReceiveIdle⟩
  | receiveAlign l payload info => exact ⟨_, mv_execReceiveAlign⟩
  | receiveFs l payload info => exact ⟨_, mv_execReceiveFs⟩
  | fsSkewTimeout frame => exact ⟨_, mv_execFsSkewTimeout⟩
  | receiveLs l payload info => exact ⟨_, mv_execReceiveLs⟩
  | receiveDataBlock l payload info => exact ⟨_, mv_execReceiveDataBlock⟩
  | receiveFe l payload info => exact ⟨_, mv_execReceiveFe⟩
  | frameTimeout frame => exact ⟨_, mv_execFrameTimeout⟩
  | receiveMk l payload info => exact ⟨_, mv_execReceiveMk⟩
  | receiveTrain l payload info => exact ⟨_, mv_execReceiveTrain⟩
  | laneDrainTimeout l => exact ⟨_, mv_execLaneDrainTimeout⟩
  | lanePortCtlWrite p v => exact ⟨_, mv_execLanePortCtlWrite⟩
  | laneEgressChange l v => exact ⟨_, mv_execLaneEgressChange⟩
  | laneRetrain l => exact ⟨_, mv_execLaneRetrain⟩
  | trainingBurstEnd l => exact ⟨_, mv_execTrainingBurstEnd⟩
  | laneCntClr l => exact ⟨_, mv_execLaneCntClr⟩
  | prbsTxEnable l => exact ⟨_, mv_execPrbsTxEnable⟩
  | prbsRxEnable l => exact ⟨_, mv_execPrbsRxEnable⟩
  | transmitAlign p => exact ⟨_, mv_execTransmitAlign⟩
  | headTransmitLine p frame line => exact ⟨_, mv_execHeadTransmitLine⟩
  | pairingLaneDown k peer => exact ⟨_, mv_execPairingLaneDown⟩
  | triggerEdge t level => exact ⟨_, mv_execTriggerEdge⟩
  | triggerQualifyingEvent t => exact ⟨_, mv_execTriggerQualifyingEvent⟩
  | formeComplete frame => exact ⟨_, mv_execFormeComplete⟩
  | colophonRecordReceived seg => exact ⟨_, mv_execColophonRecordReceived⟩
  | colophonRecordTimeout seg => exact ⟨_, mv_execColophonRecordTimeout⟩
  | certTimeReturned => exact ⟨_, mv_execCertTimeReturned⟩
  | capConfigWrite addr v => exact ⟨_, mv_execCapConfigWrite⟩
  | capDisable => exact ⟨_, mv_execCapDisable⟩
  | capCntClr => exact ⟨_, mv_execCapCntClr⟩
  | compositorTakeSort => exact ⟨_, mv_execCompositorTakeSort⟩
  | assemblyReadComplete k damaged => exact ⟨_, mv_execAssemblyReadComplete⟩
  | sortCoded k => exact ⟨_, mv_execSortCoded⟩
  | compositorMaskWrite c v => exact ⟨_, mv_execCompositorMaskWrite⟩
  | cmpCntClr => exact ⟨_, mv_execCmpCntClr⟩
  | codedSortDelivery => exact ⟨_, mv_execCodedSortDelivery⟩
  | drainThrottleRelease => exact ⟨_, mv_execDrainThrottleRelease⟩
  | backgroundInitGranule => exact ⟨_, mv_execBackgroundInitGranule⟩
  | patrolScrubRead dmg => exact ⟨_, mv_execPatrolScrubRead⟩
  | galErrorLogFree v => exact ⟨_, mv_execGalErrorLogFree⟩
  | galArbWmWrite v => exact ⟨_, mv_execGalArbWmWrite⟩
  | galCntClr => exact ⟨_, mv_execGalCntClr⟩
  | selfRefreshExit => exact ⟨_, mv_execSelfRefreshExit⟩
  | takeRecovery dmg => exact ⟨_, mv_execTakeRecovery⟩
  | pairRoleEvaluation peerHigh => exact ⟨_, mv_execPairRoleEvaluation⟩
  | pairClaimResample peerHigh => exact ⟨_, mv_execPairClaimResample⟩
  | peerHigh => exact ⟨_, mv_execPeerHigh⟩
  | epochSend => exact ⟨_, mv_execEpochSend⟩
  | receiveEpochEnd k blocks => exact ⟨_, mv_execReceiveEpochEnd⟩
  | receivePairHeartbeat k payload peer => exact ⟨_, mv_execReceivePairHeartbeat⟩
  | pairHeartbeatSend k => exact ⟨_, mv_execPairHeartbeatSend⟩
  | epochAckTimeout => exact ⟨_, mv_execEpochAckTimeout⟩
  | pairLeavingEnd => exact ⟨_, mv_execPairLeavingEnd⟩
  | pairCntClr => exact ⟨_, mv_execPairCntClr⟩
  | linkTrained speed width flit errs => exact ⟨_, mv_execLinkTrained⟩
  | bar0AccessBadShape f write addr => exact ⟨_, mv_execBar0AccessBadShape (_addr := addr)⟩
  | bar2Read addr len dmg => exact ⟨_, mv_execBar2Read⟩
  | bar2Write addr bytes poisoned dmg => exact ⟨_, mv_execBar2Write⟩
  | resizableBarWrite v => exact ⟨_, mv_execResizableBarWrite⟩
  | xwinEnable w => exact ⟨_, mv_execXwinEnable⟩
  | msixPendingSend f vec => exact ⟨_, mv_execMsixPendingSend⟩
  | poisonedTlpReceived f kind => exact ⟨_, mv_execPoisonedTlpReceived⟩
  | completionTimeout tag => exact ⟨_, mv_execCompletionTimeout⟩
  | lateCompletion tag => exact ⟨_, mv_execLateCompletion⟩
  | internalDatapathError corrected => exact ⟨_, mv_execInternalDatapathError⟩
  | containmentFreeze f => exact ⟨_, mv_execContainmentFreeze⟩
  | containmentRelease f v => exact ⟨_, mv_execContainmentRelease⟩
  | surpriseLinkDown => exact ⟨_, mv_execSurpriseLinkDown⟩
  | d3hotEntry f => exact ⟨_, mv_execD3hotEntry⟩
  | d0Return f => exact ⟨_, mv_execD0Return⟩
  | busMasterEnableClear f => exact ⟨_, mv_execBusMasterEnableClear⟩
  | busMasterEnableSet f => exact ⟨_, mv_execBusMasterEnableSet⟩
  | pcieCntClr => exact ⟨_, mv_execPcieCntClr⟩
  | doorbellScan => exact ⟨_, mv_execDoorbellScan⟩
  | summaryLineReceived r => exact ⟨_, mv_execSummaryLineReceived⟩
  | doorbellLineReceived j r => exact ⟨_, mv_execDoorbellLineReceived⟩
  | hqWake v => exact ⟨_, mv_execHqWake (_v := v)⟩
  | cqHeadDoorbellReceived m r => exact ⟨_, mv_execCqHeadDoorbellReceived⟩
  | submissionEntryFetch => exact ⟨_, mv_execSubmissionEntryFetch⟩
  | submissionEntryReceived n slot r => exact ⟨_, mv_execSubmissionEntryReceived⟩
  | cqCoalesceExpiry m => exact ⟨_, mv_execCqCoalesceExpiry⟩
  | sqResume n skip => exact ⟨_, mv_execSqResume⟩
  | hqCntClr => exact ⟨_, mv_execHqCntClr⟩
  | write c h ecc => exact ⟨_, mv_execWrite⟩
  | read c ecc => exact ⟨_, mv_execRead⟩
  | flush c => exact ⟨_, mv_execFlush⟩
  | discard c ecc => exact ⟨_, mv_execDiscard⟩
  | atomicWrite c h ecc => exact ⟨_, mv_execAtomicWrite⟩
  | arm c => exact ⟨_, mv_execArm⟩
  | stop c => exact ⟨_, mv_execStop⟩
  | release c => exact ⟨_, mv_execRelease⟩
  | releaseHeldComplete seg => exact ⟨_, mv_execReleaseHeldComplete⟩
  | exportTake c dmg puns ecc => exact ⟨_, mv_execExportTake⟩
  | galleyRead c dmg => exact ⟨_, mv_execGalleyRead⟩
  | egressPlay c dmg => exact ⟨_, mv_execEgressPlay⟩
  | discLoad c => exact ⟨_, mv_execDiscLoad⟩
  | discEject c => exact ⟨_, mv_execDiscEject⟩
  | archiveWrite c ecc opc pass => exact ⟨_, mv_execArchiveWrite⟩
  | archiveRead c pass => exact ⟨_, mv_execArchiveRead⟩
  | sealImago c => exact ⟨_, mv_execSealImago⟩
  | archiveVerify c pass => exact ⟨_, mv_execArchiveVerify⟩
  | keyLoad c h => exact ⟨_, mv_execKeyLoad⟩
  | keyClear c => exact ⟨_, mv_execKeyClear⟩
  | cipher c h => exact ⟨_, mv_execCipher⟩
  | mac c h => exact ⟨_, mv_execMac⟩
  | attest c => exact ⟨_, mv_execAttest⟩
  | abort c => exact ⟨_, mv_execAbort⟩
  | logRead c => exact ⟨_, mv_execLogRead⟩
  | featureGet c => exact ⟨_, mv_execFeatureGet⟩
  | featureSet c => exact ⟨_, mv_execFeatureSet⟩
  | ringCreate c => exact ⟨_, mv_execRingCreate⟩
  | ringDelete c => exact ⟨_, mv_execRingDelete⟩
  | ringResume c => exact ⟨_, mv_execRingResume⟩
  | sanitize c => exact ⟨_, mv_execSanitize⟩
  | format c => exact ⟨_, mv_execFormat⟩
  | certRead c => exact ⟨_, mv_execCertRead⟩
  | sanitizeResume => exact ⟨_, mv_execSanitizeResume⟩
  | magazineInserted m => exact ⟨_, mv_execMagazineInserted⟩
  | magazineRemoved => exact ⟨_, mv_execMagazineRemoved⟩
  | mountStart rates => exact ⟨_, mv_execMountStart⟩
  | mountComplete => exact ⟨_, mv_execMountComplete⟩
  | bufferUnitCommit puns dmg => exact ⟨_, mv_execBufferUnitCommit⟩
  | nandProgramComplete c => exact ⟨_, mv_execNandProgramComplete⟩
  | programEraseFail block moves ecc => exact ⟨_, mv_execProgramEraseFail⟩
  | fold block moves ecc => exact ⟨_, mv_execFold⟩
  | blockRefresh block moves ecc => exact ⟨_, mv_execBlockRefresh⟩
  | patrolRead u ecc => exact ⟨_, mv_execPatrolRead⟩
  | rootWrite => exact ⟨_, mv_execRootWrite⟩
  | channelRetrain m rate => exact ⟨_, mv_execChannelRetrain⟩
  | backgroundErase block => exact ⟨_, mv_execBackgroundErase⟩
  | magDisable => exact ⟨_, mv_execMagDisable⟩
  | magCntClr => exact ⟨_, mv_execMagCntClr⟩
  | mapCacheAccess r addr size w err streaming => exact ⟨_, mv_execMapCacheAccess⟩
  | mapFillComplete line => exact ⟨_, mv_execMapFillComplete⟩
  | mapFillRetry line => exact ⟨_, mv_execMapFillRetry⟩
  | mapDirtyClean set => exact ⟨_, mv_execMapDirtyClean⟩
  | mapInvalidationComplete => exact ⟨_, mv_execMapInvalidationComplete⟩
  | mapWaymaskWrite r v => exact ⟨_, mv_execMapWaymaskWrite⟩
  | mapCntClr => exact ⟨_, mv_execMapCntClr⟩
  | pilotLock => exact ⟨_, mv_execPilotLock⟩
  | pilotLockLoss => exact ⟨_, mv_execPilotLockLoss⟩
  | samDetected pilot phase spots => exact ⟨_, mv_execSamDetected⟩
  | laserFault b => exact ⟨_, mv_execLaserFault⟩
  | laserPowerOn => exact ⟨_, mv_execLaserPowerOn⟩
  | proofRowVerdict b row corrected flagged => exact ⟨_, mv_execProofRowVerdict⟩
  | folioProofVerdict b => exact ⟨_, mv_execFolioProofVerdict⟩
  | writeFault beams => exact ⟨_, mv_execWriteFault⟩
  | writeFaultRecovery b => exact ⟨_, mv_execWriteFaultRecovery⟩
  | folioReadRetry pass => exact ⟨_, mv_execFolioReadRetry⟩
  | ochDisable => exact ⟨_, mv_execOchDisable⟩
  | ochCntClr => exact ⟨_, mv_execOchCntClr⟩
  | loopAcquireStart l => exact ⟨_, mv_execLoopAcquireStart⟩
  | loopLocked l radius => exact ⟨_, mv_execLoopLocked⟩
  | loopHoldEntry l => exact ⟨_, mv_execLoopHoldEntry⟩
  | loopHoldExit l => exact ⟨_, mv_execLoopHoldExit⟩
  | loopHoldTimeout l => exact ⟨_, mv_execLoopHoldTimeout⟩
  | loopLoss l => exact ⟨_, mv_execLoopLoss⟩
  | acquisitionTimeout l => exact ⟨_, mv_execAcquisitionTimeout⟩
  | loopCommit l => exact ⟨_, mv_execLoopCommit⟩
  | coilReversal l pos => exact ⟨_, mv_execCoilReversal⟩
  | coilDwellExpiry l => exact ⟨_, mv_execCoilDwellExpiry⟩
  | coilCfgWrite l v => exact ⟨_, mv_execCoilCfgWrite⟩
  | layerJumpStart down => exact ⟨_, mv_execLayerJumpStart⟩
  | jumpKickEnd => exact ⟨_, mv_execJumpKickEnd⟩
  | jumpScurvePeak => exact ⟨_, mv_execJumpScurvePeak⟩
  | jumpBrakeEnd => exact ⟨_, mv_execJumpBrakeEnd⟩
  | jumpComplete layer => exact ⟨_, mv_execJumpComplete⟩
  | jumpTimeout layer => exact ⟨_, mv_execJumpTimeout⟩
  | ffBankSwap t => exact ⟨_, mv_execFfBankSwap⟩
  | ffSwapApply t => exact ⟨_, mv_execFfSwapApply⟩
  | governorUpdate vbus ibus => exact ⟨_, mv_execGovernorUpdate⟩
  | governorRise => exact ⟨_, mv_execGovernorRise⟩
  | governorThresholdWrite ibus v => exact ⟨_, mv_execGovernorThresholdWrite⟩
  | saturationFault l => exact ⟨_, mv_execSaturationFault⟩
  | serviceModeEnable v => exact ⟨_, mv_execServiceModeEnable⟩
  | serviceInputLost spindle => exact ⟨_, mv_execServiceInputLost⟩
  | srvDisable => exact ⟨_, mv_execSrvDisable⟩
  | srvCntClr => exact ⟨_, mv_execSrvCntClr⟩
  | spindleStart zone => exact ⟨_, mv_execSpindleStart⟩
  | spindleFreqLock => exact ⟨_, mv_execSpindleFreqLock⟩
  | spindlePhaseAcquire => exact ⟨_, mv_execSpindlePhaseAcquire⟩
  | spindlePhaseLock => exact ⟨_, mv_execSpindlePhaseLock⟩
  | spindlePhaseLoss => exact ⟨_, mv_execSpindlePhaseLoss⟩
  | spindleZoneChange zone => exact ⟨_, mv_execSpindleZoneChange⟩
  | spindleBrakeRegen => exact ⟨_, mv_execSpindleBrakeRegen⟩
  | spindleBrakeShort speed => exact ⟨_, mv_execSpindleBrakeShort⟩
  | spindleStopped => exact ⟨_, mv_execSpindleStopped⟩
  | spindleServiceEnable q v => exact ⟨_, mv_execSpindleServiceEnable⟩
  | currentPredictionLimit => exact ⟨_, mv_execCurrentPredictionLimit⟩
  | kineticEnergyUpdate speed => exact ⟨_, mv_execKineticEnergyUpdate⟩
  | seek q a => exact ⟨_, mv_execSeek⟩
  | sweep q a => exact ⟨_, mv_execSweep⟩
  | axisStop q a => exact ⟨_, mv_execAxisStop⟩
  | axisResume q a => exact ⟨_, mv_execAxisResume⟩
  | home q a => exact ⟨_, mv_execHome⟩
  | park q a => exact ⟨_, mv_execPark⟩
  | axisMoveComplete a pos => exact ⟨_, mv_execAxisMoveComplete⟩
  | axisStandstill a => exact ⟨_, mv_execAxisStandstill⟩
  | homeSwitchEdge a asserted => exact ⟨_, mv_execHomeSwitchEdge⟩
  | homeFail a pos => exact ⟨_, mv_execHomeFail⟩
  | exchangeStepTimeout => exact ⟨_, mv_execExchangeStepTimeout⟩
  | discSenseChange asserted => exact ⟨_, mv_execDiscSenseChange⟩
  | discReturnAfterReset => exact ⟨_, mv_execDiscReturnAfterReset⟩
  | vdrvUndervoltage => exact ⟨_, mv_execVdrvUndervoltage⟩
  | vdrvRecovery => exact ⟨_, mv_execVdrvRecovery⟩
  | motPwmWrite v => exact ⟨_, mv_execMotPwmWrite⟩
  | motDisable => exact ⟨_, mv_execMotDisable⟩
  | motCntClr => exact ⟨_, mv_execMotCntClr⟩
  | enginePieceDispatch e => exact ⟨_, mv_execEnginePieceDispatch⟩
  | enginePieceComplete e => exact ⟨_, mv_execEnginePieceComplete⟩
  | trngWindowFail consecutive => exact ⟨_, mv_execTrngWindowFail⟩
  | secCntClr => exact ⟨_, mv_execSecCntClr⟩
  | colophonPowerOnReset => exact ⟨_, mv_execColophonPowerOnReset⟩
  | colophonStartupComplete pass => exact ⟨_, mv_execColophonStartupComplete⟩
  | colophonDisable => exact ⟨_, mv_execColophonDisable⟩
  | disciplineGate good inc => exact ⟨_, mv_execDisciplineGate⟩
  | ppsEdge elapsed inc => exact ⟨_, mv_execPpsEdge⟩
  | ppsLoss => exact ⟨_, mv_execPpsLoss⟩
  | holdoverExpiry => exact ⟨_, mv_execHoldoverExpiry⟩
  | todArm => exact ⟨_, mv_execTodArm⟩
  | frameStrobe => exact ⟨_, mv_execFrameStrobe⟩
  | tdcEdge inp rising fine => exact ⟨_, mv_execTdcEdge⟩
  | takeOpenMessage => exact ⟨_, mv_execTakeOpenMessage⟩
  | membershipDecision => exact ⟨_, mv_execMembershipDecision⟩
  | takeCloseMessage => exact ⟨_, mv_execTakeCloseMessage⟩
  | colophonHeartbeatSend => exact ⟨_, mv_execColophonHeartbeatSend⟩
  | colophonLinkLost => exact ⟨_, mv_execColophonLinkLost⟩
  | authProvision => exact ⟨_, mv_execAuthProvision⟩
  | changeGo cell entryOk => exact ⟨_, mv_execChangeGo⟩
  | colCntClr => exact ⟨_, mv_execColCntClr⟩
  | efcKeyWrite q v => exact ⟨_, mv_execEfcKeyWrite⟩
  | program q v => exact ⟨_, mv_execProgram⟩
  | sectorErase q v => exact ⟨_, mv_execSectorErase⟩
  | otpProgram q v => exact ⟨_, mv_execOtpProgram⟩
  | blankCheck q v => exact ⟨_, mv_execBlankCheck⟩
  | efcOperationComplete verified => exact ⟨_, mv_execEfcOperationComplete⟩
  | efcEraseSuspend resume => exact ⟨_, mv_execEfcEraseSuspend⟩
  | efcWindowRead q addr len errs => exact ⟨_, mv_execEfcWindowRead⟩
  | efcWindowWrite q addr v => exact ⟨_, mv_execEfcWindowWrite (_v := v)⟩
  | efcEccLogFree v => exact ⟨_, mv_execEfcEccLogFree⟩
  | efcAbortAddrClr v => exact ⟨_, mv_execEfcAbortAddrClr⟩
  | efcCntClr => exact ⟨_, mv_execEfcCntClr⟩
  | journalAppend journal kind payload => exact ⟨_, mv_execJournalAppend⟩
  | coreLockup k cause info => exact ⟨_, mv_execCoreLockup⟩
  | coreWatchdogTimeout k info => exact ⟨_, mv_execCoreWatchdogTimeout⟩
  | coreRestart k fw0 fw1 => exact ⟨_, mv_execCoreRestart⟩
  | coreFirstHeartbeat k engines tests => exact ⟨_, mv_execCoreFirstHeartbeat⟩
  | coreSleep k => exact ⟨_, mv_execCoreSleep⟩
  | colophonCoreLockup => exact ⟨_, mv_execColophonCoreLockup⟩
  | mailboxWrite q n v => exact ⟨_, mv_execMailboxWrite⟩
  | mailboxRead q n => exact ⟨_, mv_execMailboxRead⟩
  | aosNoticePost => exact ⟨_, mv_execAosNoticePost⟩
  | quoinTake q n => exact ⟨_, mv_execQuoinTake⟩
  | quoinRelease q n => exact ⟨_, mv_execQuoinRelease⟩
  | mbxCntClr => exact ⟨_, mv_execMbxCntClr⟩
  | calTemperatureCheck temps => exact ⟨_, mv_execCalTemperatureCheck⟩
  | calRunRequest b => exact ⟨_, mv_execCalRunRequest⟩
  | calRunStart => exact ⟨_, mv_execCalRunStart⟩
  | calRunComplete codes => exact ⟨_, mv_execCalRunComplete⟩
  | calSlewStep b => exact ⟨_, mv_execCalSlewStep⟩
  | calValueWrite addr v => exact ⟨_, mv_execCalValueWrite⟩
  | tapReset => exact ⟨_, mv_execTapReset⟩
  | bypass tdi => exact ⟨_, mv_execBypass⟩
  | idcode tdi => exact ⟨_, mv_execIdcode⟩
  | samplePreload pins tdi => exact ⟨_, mv_execSamplePreload⟩
  | extest tdi => exact ⟨_, mv_execExtest⟩
  | clamp tdi => exact ⟨_, mv_execClamp⟩
  | highz tdi => exact ⟨_, mv_execHighz⟩
  | colVddReturn => exact ⟨_, mv_execColVddReturn⟩
  | cartPresentChange cart => exact ⟨_, mv_execCartPresentChange⟩
  | serviceInputReturn spindle n => exact ⟨_, mv_execServiceInputReturn⟩
  | loopSample l inp => exact ⟨_, mv_execLoopSample⟩
  | pwmPeriod inp => exact ⟨_, mv_execPwmPeriod⟩
  | triggerLevelInactive t => exact ⟨_, mv_execTriggerLevelInactive⟩
  | garbageCollection block moves ecc => exact ⟨_, mv_execGarbageCollection⟩

end Sys2Proof.Laws
end

