-- ==== Sys2Proof/Laws/Regs.lean ====
section
/-!
SUPPORT. Reading a register field after a write: of the same field, of another field, and across any operation whose mask
(Laws/Moves.lean) leaves the field alone; and the frame of statements (`Keeps`, Safety.lean) from a mask.
-/
set_option Elab.async false

namespace Sys2Proof.Laws
open Sys2Proof.Machine

/-- No word of one array is a word of the other: `n` words from `b` on, `st` apart. -/
def rowsApart (b st n b' st' n' : Nat) : Bool :=
  decide (b + st * (n - 1) < b') || decide (b' + st' * (n' - 1) < b) || (st == st' && decide (b % st ≠ b' % st)) ||
    (n == 1 && st' != 0 && decide ((b + (st' - b' % st')) % st' ≠ 0)) ||
    (n' == 1 && st != 0 && decide ((b' + (st - b % st)) % st ≠ 0))

theorem mod_of_add {b st a k : Nat} (h : k = a + st * b) : k % st = a % st := by
  rw [h, Nat.add_mul_mod_self_left]

theorem comp_mod {b b' st' j : Nat} (hs : st' ≠ 0) (h : b = b' + st' * j) : (b + (st' - b' % st')) % st' = 0 := by
  have h1 : b' % st' < st' := Nat.mod_lt _ (Nat.pos_of_ne_zero hs)
  have h2 : b' = st' * (b' / st') + b' % st' := (Nat.div_add_mod b' st').symm
  have : b + (st' - b' % st') = st' * (b' / st' + j + 1) := by
    rw [Nat.mul_add, Nat.mul_add, Nat.mul_one]
    omega
  rw [this, Nat.mul_mod_right]

theorem rowsApart_ne {b st n b' st' n' i j : Nat} (h : rowsApart b st n b' st' n' = true) (hi : i < n) (hj : j < n') :
    b + st * i ≠ b' + st' * j := by
  intro e
  have h1 : st * i ≤ st * (n - 1) := Nat.mul_le_mul_left _ (by omega)
  have h2 : st' * j ≤ st' * (n' - 1) := Nat.mul_le_mul_left _ (by omega)
  simp only [rowsApart, Bool.or_eq_true, Bool.and_eq_true, decide_eq_true_eq, beq_iff_eq, bne_iff_ne] at h
  rcases h with (((h | h) | ⟨h, g⟩) | ⟨⟨h, z⟩, g⟩) | ⟨⟨h, z⟩, g⟩
  · omega
  · omega
  · subst h
    exact g (by rw [← mod_of_add (k := b + st * i) rfl, e, mod_of_add (k := b' + st * j) rfl])
  · have : i = 0 := by omega
    subst this
    exact g (comp_mod z (j := j) (by simpa using e))
  · have : j = 0 := by omega
    subst this
    exact g (comp_mod z (j := i) (by simpa using e.symm))

/-- The bits of a field lie in a word. -/
def fits (f : Fld) : Bool := decide (f.lo ≤ f.hi) && decide (f.hi < 32)

/-- Writing one field leaves the other alone: they lie in different words, or in different bits of the words of one array. -/
def apart (f g : Fld) : Bool :=
  rowsApart f.base f.stride f.count g.base g.stride g.count ||
    (f.base == g.base && f.stride == g.stride && fits f && fits g && (decide (f.hi < g.lo) || decide (g.hi < f.lo)))

theorem setBits_toNat {w : Word} {hi lo v : Nat} (h1 : lo ≤ hi) (h2 : hi < 32) :
    (setBits w hi lo v).toNat =
      w.toNat % 2 ^ lo + (v % 2 ^ (hi + 1 - lo)) * 2 ^ lo + w.toNat / 2 ^ (hi + 1) * 2 ^ (hi + 1) := by
  unfold setBits bitsOf
  simp only [BitVec.toNat_ofNat, Nat.shiftRight_eq_div_pow]
  have hw : w.toNat < 2 ^ 32 := w.isLt
  have e1 : 2 ^ (hi + 1) = 2 ^ lo * 2 ^ (hi + 1 - lo) := by rw [← Nat.pow_add]; congr 1; omega
  have e2 : (2 : Nat) ^ 32 = 2 ^ (hi + 1) * 2 ^ (32 - (hi + 1)) := by rw [← Nat.pow_add]; congr 1; omega
  generalize hA : 2 ^ lo = A at *
  generalize hB : 2 ^ (hi + 1 - lo) = B at *
  have hA0 : 0 < A := by rw [← hA]; exact Nat.two_pow_pos _
  have hB0 : 0 < B := by rw [← hB]; exact Nat.two_pow_pos _
  generalize w.toNat = x at *
  have d1 : x = A * (x / A) + x % A := (Nat.div_add_mod x A).symm
  have d2 : x / A = B * (x / A / B) + x / A % B := (Nat.div_add_mod (x / A) B).symm
  have d3 : x / A / B = x / 2 ^ (hi + 1) := by rw [Nat.div_div_eq_div_mul, e1]
  have key : x - x / A % B * A = x % A + x / 2 ^ (hi + 1) * 2 ^ (hi + 1) := by
    have : x = x % A + x / A % B * A + x / 2 ^ (hi + 1) * 2 ^ (hi + 1) := by
      conv => lhs; rw [d1, d2, d3]
      rw [e1, Nat.mul_add]
      have : A * (B * (x / (A * B))) = x / (A * B) * (A * B) := by
        rw [← Nat.mul_assoc, Nat.mul_comm]
      rw [this, Nat.mul_comm A (x / A % B)]
      omega
    omega
  rw [key]
  have hr : x % A < A := Nat.mod_lt _ hA0
  have hv : v % B < B := Nat.mod_lt _ hB0
  have hq : x / 2 ^ (hi + 1) < 2 ^ (32 - (hi + 1)) := by
    rw [Nat.div_lt_iff_lt_mul (Nat.two_pow_pos _), Nat.mul_comm, ← e2]; exact hw
  have hv2 : v % B * A + A ≤ 2 ^ (hi + 1) := by
    rw [e1]
    calc v % B * A + A = (v % B + 1) * A := by rw [Nat.add_mul, Nat.one_mul]
      _ ≤ B * A := Nat.mul_le_mul_right _ hv
      _ = A * B := Nat.mul_comm _ _
  have hq2 : x / 2 ^ (hi + 1) * 2 ^ (hi + 1) + 2 ^ (hi + 1) ≤ 2 ^ 32 := by
    rw [e2]
    calc x / 2 ^ (hi + 1) * 2 ^ (hi + 1) + 2 ^ (hi + 1) = (x / 2 ^ (hi + 1) + 1) * 2 ^ (hi + 1) := by
          rw [Nat.add_mul, Nat.one_mul]
      _ ≤ 2 ^ (32 - (hi + 1)) * 2 ^ (hi + 1) := Nat.mul_le_mul_right _ hq
      _ = 2 ^ (hi + 1) * 2 ^ (32 - (hi + 1)) := Nat.mul_comm _ _
  rw [Nat.mod_eq_of_lt (by omega)]
  omega

/-- A field written is read back, narrowed to its width. -/
theorem bitsOf_setBits_same {w : Word} {hi lo v : Nat} (h1 : lo ≤ hi) (h2 : hi < 32) :
    bitsOf (setBits w hi lo v) hi lo = v % 2 ^ (hi + 1 - lo) := by
  unfold bitsOf
  rw [setBits_toNat h1 h2, Nat.shiftRight_eq_div_pow]
  have e1 : 2 ^ (hi + 1) = 2 ^ lo * 2 ^ (hi + 1 - lo) := by rw [← Nat.pow_add]; congr 1; omega
  rw [e1]
  have hA0 : 0 < 2 ^ lo := Nat.two_pow_pos _
  have hr : w.toNat % 2 ^ lo < 2 ^ lo := Nat.mod_lt _ hA0
  generalize 2 ^ lo = A at *
  generalize 2 ^ (hi + 1 - lo) = B at *
  have : w.toNat % A + v % B * A + w.toNat / (A * B) * (A * B) = w.toNat % A + A * (v % B + B * (w.toNat / (A * B))) := by
    rw [Nat.mul_add, Nat.mul_comm A (v % B), ← Nat.mul_assoc A B, Nat.mul_comm (w.toNat / (A * B))]
    omega
  rw [this, Nat.add_mul_div_left _ _ hA0, Nat.div_eq_of_lt hr, Nat.zero_add, Nat.add_mul_mod_self_left, Nat.mod_mod]

/-- Fields in other bits of a word stay. -/
theorem bitsOf_setBits_apart {w : Word} {hi lo v hi' lo' : Nat} (h1 : lo ≤ hi) (h2 : hi < 32)
    (h : hi < lo' ∨ hi' < lo) : bitsOf (setBits w hi lo v) hi' lo' = bitsOf w hi' lo' := by
  unfold bitsOf
  rw [setBits_toNat h1 h2, Nat.shiftRight_eq_div_pow, Nat.shiftRight_eq_div_pow]
  have hA0 : 0 < 2 ^ lo := Nat.two_pow_pos _
  have e1 : 2 ^ (hi + 1) = 2 ^ lo * 2 ^ (hi + 1 - lo) := by rw [← Nat.pow_add]; congr 1; omega
  have hr : w.toNat % 2 ^ lo < 2 ^ lo := Nat.mod_lt _ hA0
  have hv : v % 2 ^ (hi + 1 - lo) < 2 ^ (hi + 1 - lo) := Nat.mod_lt _ (Nat.two_pow_pos _)
  have hlow : w.toNat % 2 ^ lo + v % 2 ^ (hi + 1 - lo) * 2 ^ lo < 2 ^ (hi + 1) := by
    rw [e1]
    calc _ < 2 ^ lo + v % 2 ^ (hi + 1 - lo) * 2 ^ lo := by omega
      _ = (v % 2 ^ (hi + 1 - lo) + 1) * 2 ^ lo := by rw [Nat.add_mul, Nat.one_mul, Nat.add_comm]
      _ ≤ 2 ^ (hi + 1 - lo) * 2 ^ lo := Nat.mul_le_mul_right _ hv
      _ = _ := Nat.mul_comm _ _
  rcases h with h | h
  · -- above the field
    have e2 : 2 ^ lo' = 2 ^ (hi + 1) * 2 ^ (lo' - (hi + 1)) := by rw [← Nat.pow_add]; congr 1; omega
    rw [e2, ← Nat.div_div_eq_div_mul, ← Nat.div_div_eq_div_mul, Nat.add_mul_div_right _ _ (Nat.two_pow_pos _),
      Nat.div_eq_of_lt hlow, Nat.zero_add]
  · -- below the field
    by_cases hle : lo' ≤ hi'
    · have e3 : 2 ^ lo = 2 ^ lo' * (2 ^ (hi' + 1 - lo') * 2 ^ (lo - (hi' + 1))) := by
        rw [← Nat.pow_add, ← Nat.pow_add]; congr 1; omega
      have hx : w.toNat % 2 ^ lo + v % 2 ^ (hi + 1 - lo) * 2 ^ lo + w.toNat / 2 ^ (hi + 1) * 2 ^ (hi + 1) =
          w.toNat % 2 ^ lo + 2 ^ lo * (v % 2 ^ (hi + 1 - lo) + w.toNat / 2 ^ (hi + 1) * 2 ^ (hi + 1 - lo)) := by
        rw [Nat.mul_add, Nat.mul_comm (2 ^ lo) (v % _), ← Nat.mul_assoc, Nat.mul_comm (2 ^ lo) (w.toNat / _), Nat.mul_assoc, ← e1]
        omega
      rw [hx]
      have step : ∀ y z : Nat, (y + 2 ^ lo * z) / 2 ^ lo' % 2 ^ (hi' + 1 - lo') = y / 2 ^ lo' % 2 ^ (hi' + 1 - lo') := by
        intro y z
        rw [e3, Nat.mul_assoc, Nat.add_mul_div_left _ _ (Nat.two_pow_pos _), Nat.mul_assoc, Nat.add_mul_mod_self_left]
      rw [step]
      conv => rhs; rw [← Nat.mod_add_div w.toNat (2 ^ lo), step]
    · have : hi' + 1 - lo' = 0 := by omega
      rw [this]
      simp [Nat.mod_one]

/-- A field written is read back. -/
theorem get_put_same {s : State} {f : Fld} {v i : Nat} (hf : fits f = true) (hi : i < f.count) :
    (s.put f v i).get f i = v % 2 ^ f.width := by
  simp only [fits, Bool.and_eq_true, decide_eq_true_eq] at hf
  unfold State.put State.get
  rw [if_pos hi, rd_wr_same]
  exact bitsOf_setBits_same hf.1 hf.2

/-- A field that lies apart stays. -/
theorem get_put_apart {s : State} {f g : Fld} {v i j : Nat} (h : apart f g = true) (hj : j < g.count) :
    (s.put f v i).get g j = s.get g j := by
  unfold State.put
  split
  · next hi =>
    simp only [apart, Bool.or_eq_true, Bool.and_eq_true, beq_iff_eq, decide_eq_true_eq, fits] at h
    unfold State.get
    rcases h with h | ⟨⟨⟨⟨hb, hs⟩, h1⟩, h2⟩, h3⟩
    · rw [rd_wr_ne (rowsApart_ne h hi hj).symm]
    · by_cases e : f.base + f.stride * i = g.base + g.stride * j
      · rw [e, rd_wr_same]
        exact bitsOf_setBits_apart h1.1 h1.2 h3
      · rw [rd_wr_ne (fun x => e x.symm)]
  · rfl

/-- Another element of the array stays. -/
theorem get_put_other {s : State} {f g : Fld} {v i j : Nat} (hb : f.base = g.base) (hs : f.stride = g.stride)
    (h0 : f.stride ≠ 0) (h : i ≠ j) : (s.put f v i).get g j = s.get g j := by
  unfold State.put
  split
  · unfold State.get
    rw [rd_wr_ne]
    rw [← hb, ← hs]
    intro e
    exact h (Nat.eq_of_mul_eq_mul_left (Nat.pos_of_ne_zero h0) (Nat.add_left_cancel e)).symm
  · rfl

/-- A 64-bit pair written is read back. -/
theorem get64_put64_same {s : State} {f : Fld} {v i : Nat} (hi : i < f.count) : (s.put64 f v i).get64 f i = v % 2 ^ 64 := by
  unfold State.put64 State.get64
  rw [if_pos hi, rd_wr_same, rd_wr_ne (by omega), rd_wr_same]
  simp only [BitVec.toNat_ofNat]
  omega

/-- A field that lies apart from both words of a pair stays. -/
theorem get_put64_apart {s : State} {f g : Fld} {v i j : Nat}
    (h : (rowsApart f.base f.stride f.count g.base g.stride g.count &&
      rowsApart (f.base + 4) f.stride f.count g.base g.stride g.count) = true) (hj : j < g.count) :
    (s.put64 f v i).get g j = s.get g j := by
  simp only [Bool.and_eq_true] at h
  unfold State.put64
  split
  · next hi =>
    unfold State.get
    rw [rd_wr_ne, rd_wr_ne (rowsApart_ne h.1 hi hj).symm]
    have := rowsApart_ne h.2 hi hj
    omega
  · rfl

/-- A pair that lies apart from a field stays. -/
theorem get64_put_apart {s : State} {f g : Fld} {v i j : Nat}
    (h : (rowsApart f.base f.stride f.count g.base g.stride g.count &&
      rowsApart f.base f.stride f.count (g.base + 4) g.stride g.count) = true) (hj : j < g.count) :
    (s.put f v i).get64 g j = s.get64 g j := by
  simp only [Bool.and_eq_true] at h
  unfold State.put
  split
  · next hi =>
    unfold State.get64
    rw [rd_wr_ne (rowsApart_ne h.1 hi hj).symm, rd_wr_ne]
    have := rowsApart_ne h.2 hi hj
    omega
  · rfl

/-- The mask names no array that has a word of the field's array; `i` is the place of the first entry. -/
def freesFrom (M : Nat) (b st n : Nat) : Nat → List (Nat × Nat × Nat) → Bool
  | i, [] => !M.testBit (32 + i)
  | i, (b', st', n') :: r => (!M.testBit (32 + i) || rowsApart b' st' n' b st n) && freesFrom M b st n (i + 1) r

/-- The mask leaves a field alone. -/
def frees (M : Nat) (f : Fld) : Bool := !M.testBit 22 && freesFrom M f.base f.stride f.count 0 written

theorem freesFrom_place {M b st n i : Nat} {l : List (Nat × Nat × Nat)} {p q r : Nat} (h : freesFrom M b st n i l = true)
    (hc : M.testBit (32 + (i + place p q r l)) = true) : rowsApart p q r b st n = true := by
  induction l generalizing i with
  | nil => simp [freesFrom, place] at h hc; rw [hc] at h; cases h
  | cons x t ih =>
    obtain ⟨b', st', n'⟩ := x
    simp only [freesFrom, Bool.and_eq_true, Bool.or_eq_true, Bool.not_eq_true'] at h
    simp only [place] at hc
    split at hc
    · next e =>
      simp only [Bool.and_eq_true, beq_iff_eq] at e
      obtain ⟨⟨rfl, rfl⟩, rfl⟩ := e
      rcases h.1 with g | g
      · rw [show 32 + (i + 0) = 32 + i by omega] at hc; rw [hc] at g; cases g
      · exact g
    · exact ih h.2 (by rw [show i + 1 + place p q r t = i + (place p q r t + 1) by omega]; exact hc)

/-- A word of a register that the mask leaves alone stays. -/
theorem rd_of_moves {M : Nat} {s t : State} (m : Moves M s t) {f : Fld} (h : frees M f = true) {j : Nat} (hj : j < f.count) :
    t.rd (f.base + f.stride * j) = s.rd (f.base + f.stride * j) := by
  simp only [frees, Bool.and_eq_true, Bool.not_eq_true'] at h
  refine m.regs h.1 _ (fun p q r hc i hi => ?_)
  simp only [covers, h.1, Bool.false_or] at hc
  exact (rowsApart_ne (freesFrom_place (i := 0) h.2 (by simpa using hc)) hi hj).symm

/-- A field that the mask leaves alone stays. -/
theorem get_of_moves {M : Nat} {s t : State} (m : Moves M s t) {f : Fld} (h : frees M f = true) {j : Nat}
    (hj : j < f.count) : t.get f j = s.get f j := by
  unfold State.get
  rw [rd_of_moves m h hj]

/-- A 64-bit pair that the mask leaves alone stays. -/
theorem get64_of_moves {M : Nat} {s t : State} (m : Moves M s t) {f : Fld} (h : (frees M f && frees M f.high) = true) {j : Nat}
    (hj : j < f.count) : t.get64 f j = s.get64 f j := by
  simp only [Bool.and_eq_true] at h
  have h2 := rd_of_moves m (f := f.high) h.2 (j := j) hj
  simp only [Fld.high, Fld.off] at h2
  unfold State.get64
  rw [rd_of_moves m h.1 hj, show f.base + f.stride * j + 4 = f.base + 4 + f.stride * j by omega, h2]

/-- The bit of a part of the state in a mask. -/
def Holding.bit : Holding → Nat
  | .lanes => 0 | .ports => 1 | .cap => 2 | .cmp => 3 | .gal => 4 | .pair => 5 | .pcie => 6 | .hq => 7 | .mag => 8 | .map => 9
  | .och => 10 | .srv => 11 | .mot => 12 | .sec => 13 | .col => 14 | .efc => 15 | .mbx => 16 | .cal => 17 | .jtag => 18
  | .pwr => 19 | .outbox => 20 | .fresh => 21

/-- All parts. -/
def Holding.all : List Holding :=
  [.lanes, .ports, .cap, .cmp, .gal, .pair, .pcie, .hq, .mag, .map, .och, .srv, .mot, .sec, .col, .efc, .mbx, .cal, .jtag,
   .pwr, .outbox, .fresh]

/-- Every array that the mask names is the array of some field of the list. -/
def within (M : Nat) (rs : List Fld) : Nat → List (Nat × Nat × Nat) → Bool
  | i, [] => !M.testBit (32 + i)
  | i, (b, st, n) :: r =>
    (!M.testBit (32 + i) || rs.any (fun f => f.base == b && f.stride == st && decide (n ≤ f.count))) && within M rs (i + 1) r

/-- The mask names no more than the parts `ps` and the registers `rs`. -/
def allows (M : Nat) (ps : List Holding) (rs : List Fld) : Bool :=
  !M.testBit 22 && Holding.all.all (fun p => ps.contains p || !M.testBit (Holding.bit p)) && within M rs 0 written

theorem within_place {M i : Nat} {rs : List Fld} {l : List (Nat × Nat × Nat)} {p q r : Nat} (h : within M rs i l = true)
    (hc : M.testBit (32 + (i + place p q r l)) = true) : ∃ f ∈ rs, f.base = p ∧ f.stride = q ∧ r ≤ f.count := by
  induction l generalizing i with
  | nil => simp [within, place] at h hc; rw [hc] at h; cases h
  | cons x t ih =>
    obtain ⟨b', st', n'⟩ := x
    simp only [within, Bool.and_eq_true, Bool.or_eq_true, Bool.not_eq_true'] at h
    simp only [place] at hc
    split at hc
    · next e =>
      simp only [Bool.and_eq_true, beq_iff_eq] at e
      obtain ⟨⟨rfl, rfl⟩, rfl⟩ := e
      rcases h.1 with g | g
      · rw [show 32 + (i + 0) = 32 + i by omega] at hc; rw [hc] at g; cases g
      · obtain ⟨f, hf, hx⟩ := List.any_eq_true.mp g
        simp only [Bool.and_eq_true, beq_iff_eq, decide_eq_true_eq] at hx
        exact ⟨f, hf, hx.1.1, hx.1.2, hx.2⟩
    · exact ih h.2 (by rw [show i + 1 + place p q r t = i + (place p q r t + 1) by omega]; exact hc)

theorem same_of_moves {M : Nat} {s t : State} (m : Moves M s t) (p : Holding) (h : M.testBit (Holding.bit p) = false) :
    p.same s t := by
  cases p
  · exact m.lanes h
  · exact m.ports h
  · exact m.cap h
  · exact m.cmp h
  · exact m.gal h
  · exact m.pair h
  · exact m.pcie h
  · exact m.hq h
  · exact m.mag h
  · exact m.map h
  · exact m.och h
  · exact m.srv h
  · exact m.mot h
  · exact m.sec h
  · exact m.col h
  · exact m.efc h
  · exact m.mbx h
  · exact m.cal h
  · exact m.jtag h
  · exact m.pwr h
  · exact m.outbox h
  · exact m.fresh h

theorem Holding.mem_all (p : Holding) : p ∈ Holding.all := by cases p <;> decide

/-- The frame of a statement from a mask. -/
theorem keeps_of {M : Nat} {ps : List Holding} {rs : List Fld} {s t : State} (m : Moves M s t)
    (h : allows M ps rs = true) : Keeps ps rs s t := by
  simp only [allows, Bool.and_eq_true, Bool.not_eq_true', List.all_eq_true, Bool.or_eq_true] at h
  refine ⟨m.part, m.pending, fun p hp => same_of_moves m p ?_, fun k hk => ?_⟩
  · rcases h.1.2 p (Holding.mem_all p) with g | g
    · exact absurd (by simpa using g) hp
    · exact g
  · refine m.regs h.1.1 k (fun b st n hc i hi => ?_)
    simp only [covers, h.1.1, Bool.false_or] at hc
    obtain ⟨f, hf, hb, hs, hn⟩ := within_place (i := 0) h.2 (by simpa using hc)
    intro e
    exact hk f hf ⟨i, by omega, by rw [hb, hs]; exact e⟩

/-- The frame without registers from a mask. -/
theorem keepsParts_of {M : Nat} {ps : List Holding} {s t : State} (m : Moves M s t)
    (h : Holding.all.all (fun p => ps.contains p || !M.testBit (Holding.bit p)) = true) : KeepsParts ps s t := by
  simp only [Bool.not_eq_true', List.all_eq_true, Bool.or_eq_true] at h
  refine ⟨m.part, m.pending, fun p hp => same_of_moves m p ?_⟩
  rcases h p (Holding.mem_all p) with g | g
  · exact absurd (by simpa using g) hp
  · exact g

end Sys2Proof.Laws
end

