-- ==== Sys2Proof/Laws/State.lean ====
section
/-!
SUPPORT. What each update of the state leaves, one lemma per field and per update: register writes leave every other part alone,
an update of a part leaves the registers and every other part alone.
-/
set_option Elab.async false

namespace Sys2Proof.Laws
open Sys2Proof.Machine

@[simp] theorem wr_part {s : State} {k : Nat} {v : Word} : (s.wr k v).part = s.part := rfl
@[simp] theorem wr_fresh {s : State} {k : Nat} {v : Word} : (s.wr k v).fresh = s.fresh := rfl
@[simp] theorem wr_lanes {s : State} {k : Nat} {v : Word} : (s.wr k v).lanes = s.lanes := rfl
@[simp] theorem wr_ports {s : State} {k : Nat} {v : Word} : (s.wr k v).ports = s.ports := rfl
@[simp] theorem wr_cap {s : State} {k : Nat} {v : Word} : (s.wr k v).cap = s.cap := rfl
@[simp] theorem wr_cmp {s : State} {k : Nat} {v : Word} : (s.wr k v).cmp = s.cmp := rfl
@[simp] theorem wr_gal {s : State} {k : Nat} {v : Word} : (s.wr k v).gal = s.gal := rfl
@[simp] theorem wr_pair {s : State} {k : Nat} {v : Word} : (s.wr k v).pair = s.pair := rfl
@[simp] theorem wr_pcie {s : State} {k : Nat} {v : Word} : (s.wr k v).pcie = s.pcie := rfl
@[simp] theorem wr_hq {s : State} {k : Nat} {v : Word} : (s.wr k v).hq = s.hq := rfl
@[simp] theorem wr_mag {s : State} {k : Nat} {v : Word} : (s.wr k v).mag = s.mag := rfl
@[simp] theorem wr_map {s : State} {k : Nat} {v : Word} : (s.wr k v).map = s.map := rfl
@[simp] theorem wr_och {s : State} {k : Nat} {v : Word} : (s.wr k v).och = s.och := rfl
@[simp] theorem wr_srv {s : State} {k : Nat} {v : Word} : (s.wr k v).srv = s.srv := rfl
@[simp] theorem wr_mot {s : State} {k : Nat} {v : Word} : (s.wr k v).mot = s.mot := rfl
@[simp] theorem wr_sec {s : State} {k : Nat} {v : Word} : (s.wr k v).sec = s.sec := rfl
@[simp] theorem wr_col {s : State} {k : Nat} {v : Word} : (s.wr k v).col = s.col := rfl
@[simp] theorem wr_efc {s : State} {k : Nat} {v : Word} : (s.wr k v).efc = s.efc := rfl
@[simp] theorem wr_mbx {s : State} {k : Nat} {v : Word} : (s.wr k v).mbx = s.mbx := rfl
@[simp] theorem wr_cal {s : State} {k : Nat} {v : Word} : (s.wr k v).cal = s.cal := rfl
@[simp] theorem wr_jtag {s : State} {k : Nat} {v : Word} : (s.wr k v).jtag = s.jtag := rfl
@[simp] theorem wr_pwr {s : State} {k : Nat} {v : Word} : (s.wr k v).pwr = s.pwr := rfl
@[simp] theorem wr_outbox {s : State} {k : Nat} {v : Word} : (s.wr k v).outbox = s.outbox := rfl
@[simp] theorem wr_pending {s : State} {k : Nat} {v : Word} : (s.wr k v).pending = s.pending := rfl

@[simp] theorem put_part {s : State} {f : Fld} {v i : Nat} : (s.put f v i).part = s.part := by unfold State.put; split <;> rfl
@[simp] theorem put_fresh {s : State} {f : Fld} {v i : Nat} : (s.put f v i).fresh = s.fresh := by unfold State.put; split <;> rfl
@[simp] theorem put_lanes {s : State} {f : Fld} {v i : Nat} : (s.put f v i).lanes = s.lanes := by unfold State.put; split <;> rfl
@[simp] theorem put_ports {s : State} {f : Fld} {v i : Nat} : (s.put f v i).ports = s.ports := by unfold State.put; split <;> rfl
@[simp] theorem put_cap {s : State} {f : Fld} {v i : Nat} : (s.put f v i).cap = s.cap := by unfold State.put; split <;> rfl
@[simp] theorem put_cmp {s : State} {f : Fld} {v i : Nat} : (s.put f v i).cmp = s.cmp := by unfold State.put; split <;> rfl
@[simp] theorem put_gal {s : State} {f : Fld} {v i : Nat} : (s.put f v i).gal = s.gal := by unfold State.put; split <;> rfl
@[simp] theorem put_pair {s : State} {f : Fld} {v i : Nat} : (s.put f v i).pair = s.pair := by unfold State.put; split <;> rfl
@[simp] theorem put_pcie {s : State} {f : Fld} {v i : Nat} : (s.put f v i).pcie = s.pcie := by unfold State.put; split <;> rfl
@[simp] theorem put_hq {s : State} {f : Fld} {v i : Nat} : (s.put f v i).hq = s.hq := by unfold State.put; split <;> rfl
@[simp] theorem put_mag {s : State} {f : Fld} {v i : Nat} : (s.put f v i).mag = s.mag := by unfold State.put; split <;> rfl
@[simp] theorem put_map {s : State} {f : Fld} {v i : Nat} : (s.put f v i).map = s.map := by unfold State.put; split <;> rfl
@[simp] theorem put_och {s : State} {f : Fld} {v i : Nat} : (s.put f v i).och = s.och := by unfold State.put; split <;> rfl
@[simp] theorem put_srv {s : State} {f : Fld} {v i : Nat} : (s.put f v i).srv = s.srv := by unfold State.put; split <;> rfl
@[simp] theorem put_mot {s : State} {f : Fld} {v i : Nat} : (s.put f v i).mot = s.mot := by unfold State.put; split <;> rfl
@[simp] theorem put_sec {s : State} {f : Fld} {v i : Nat} : (s.put f v i).sec = s.sec := by unfold State.put; split <;> rfl
@[simp] theorem put_col {s : State} {f : Fld} {v i : Nat} : (s.put f v i).col = s.col := by unfold State.put; split <;> rfl
@[simp] theorem put_efc {s : State} {f : Fld} {v i : Nat} : (s.put f v i).efc = s.efc := by unfold State.put; split <;> rfl
@[simp] theorem put_mbx {s : State} {f : Fld} {v i : Nat} : (s.put f v i).mbx = s.mbx := by unfold State.put; split <;> rfl
@[simp] theorem put_cal {s : State} {f : Fld} {v i : Nat} : (s.put f v i).cal = s.cal := by unfold State.put; split <;> rfl
@[simp] theorem put_jtag {s : State} {f : Fld} {v i : Nat} : (s.put f v i).jtag = s.jtag := by unfold State.put; split <;> rfl
@[simp] theorem put_pwr {s : State} {f : Fld} {v i : Nat} : (s.put f v i).pwr = s.pwr := by unfold State.put; split <;> rfl
@[simp] theorem put_outbox {s : State} {f : Fld} {v i : Nat} : (s.put f v i).outbox = s.outbox := by unfold State.put; split <;> rfl
@[simp] theorem put_pending {s : State} {f : Fld} {v i : Nat} : (s.put f v i).pending = s.pending := by unfold State.put; split <;> rfl

@[simp] theorem put64_part {s : State} {f : Fld} {v i : Nat} : (s.put64 f v i).part = s.part := by unfold State.put64; split <;> rfl
@[simp] theorem put64_fresh {s : State} {f : Fld} {v i : Nat} : (s.put64 f v i).fresh = s.fresh := by unfold State.put64; split <;> rfl
@[simp] theorem put64_lanes {s : State} {f : Fld} {v i : Nat} : (s.put64 f v i).lanes = s.lanes := by unfold State.put64; split <;> rfl
@[simp] theorem put64_ports {s : State} {f : Fld} {v i : Nat} : (s.put64 f v i).ports = s.ports := by unfold State.put64; split <;> rfl
@[simp] theorem put64_cap {s : State} {f : Fld} {v i : Nat} : (s.put64 f v i).cap = s.cap := by unfold State.put64; split <;> rfl
@[simp] theorem put64_cmp {s : State} {f : Fld} {v i : Nat} : (s.put64 f v i).cmp = s.cmp := by unfold State.put64; split <;> rfl
@[simp] theorem put64_gal {s : State} {f : Fld} {v i : Nat} : (s.put64 f v i).gal = s.gal := by unfold State.put64; split <;> rfl
@[simp] theorem put64_pair {s : State} {f : Fld} {v i : Nat} : (s.put64 f v i).pair = s.pair := by unfold State.put64; split <;> rfl
@[simp] theorem put64_pcie {s : State} {f : Fld} {v i : Nat} : (s.put64 f v i).pcie = s.pcie := by unfold State.put64; split <;> rfl
@[simp] theorem put64_hq {s : State} {f : Fld} {v i : Nat} : (s.put64 f v i).hq = s.hq := by unfold State.put64; split <;> rfl
@[simp] theorem put64_mag {s : State} {f : Fld} {v i : Nat} : (s.put64 f v i).mag = s.mag := by unfold State.put64; split <;> rfl
@[simp] theorem put64_map {s : State} {f : Fld} {v i : Nat} : (s.put64 f v i).map = s.map := by unfold State.put64; split <;> rfl
@[simp] theorem put64_och {s : State} {f : Fld} {v i : Nat} : (s.put64 f v i).och = s.och := by unfold State.put64; split <;> rfl
@[simp] theorem put64_srv {s : State} {f : Fld} {v i : Nat} : (s.put64 f v i).srv = s.srv := by unfold State.put64; split <;> rfl
@[simp] theorem put64_mot {s : State} {f : Fld} {v i : Nat} : (s.put64 f v i).mot = s.mot := by unfold State.put64; split <;> rfl
@[simp] theorem put64_sec {s : State} {f : Fld} {v i : Nat} : (s.put64 f v i).sec = s.sec := by unfold State.put64; split <;> rfl
@[simp] theorem put64_col {s : State} {f : Fld} {v i : Nat} : (s.put64 f v i).col = s.col := by unfold State.put64; split <;> rfl
@[simp] theorem put64_efc {s : State} {f : Fld} {v i : Nat} : (s.put64 f v i).efc = s.efc := by unfold State.put64; split <;> rfl
@[simp] theorem put64_mbx {s : State} {f : Fld} {v i : Nat} : (s.put64 f v i).mbx = s.mbx := by unfold State.put64; split <;> rfl
@[simp] theorem put64_cal {s : State} {f : Fld} {v i : Nat} : (s.put64 f v i).cal = s.cal := by unfold State.put64; split <;> rfl
@[simp] theorem put64_jtag {s : State} {f : Fld} {v i : Nat} : (s.put64 f v i).jtag = s.jtag := by unfold State.put64; split <;> rfl
@[simp] theorem put64_pwr {s : State} {f : Fld} {v i : Nat} : (s.put64 f v i).pwr = s.pwr := by unfold State.put64; split <;> rfl
@[simp] theorem put64_outbox {s : State} {f : Fld} {v i : Nat} : (s.put64 f v i).outbox = s.outbox := by unfold State.put64; split <;> rfl
@[simp] theorem put64_pending {s : State} {f : Fld} {v i : Nat} : (s.put64 f v i).pending = s.pending := by unfold State.put64; split <;> rfl

@[simp] theorem emit_part {s : State} {o : Output} : (s.emit o).part = s.part := rfl
@[simp] theorem emit_regs {s : State} {o : Output} : (s.emit o).regs = s.regs := rfl
@[simp] theorem emit_fresh {s : State} {o : Output} : (s.emit o).fresh = s.fresh := rfl
@[simp] theorem emit_lanes {s : State} {o : Output} : (s.emit o).lanes = s.lanes := rfl
@[simp] theorem emit_ports {s : State} {o : Output} : (s.emit o).ports = s.ports := rfl
@[simp] theorem emit_cap {s : State} {o : Output} : (s.emit o).cap = s.cap := rfl
@[simp] theorem emit_cmp {s : State} {o : Output} : (s.emit o).cmp = s.cmp := rfl
@[simp] theorem emit_gal {s : State} {o : Output} : (s.emit o).gal = s.gal := rfl
@[simp] theorem emit_pair {s : State} {o : Output} : (s.emit o).pair = s.pair := rfl
@[simp] theorem emit_pcie {s : State} {o : Output} : (s.emit o).pcie = s.pcie := rfl
@[simp] theorem emit_hq {s : State} {o : Output} : (s.emit o).hq = s.hq := rfl
@[simp] theorem emit_mag {s : State} {o : Output} : (s.emit o).mag = s.mag := rfl
@[simp] theorem emit_map {s : State} {o : Output} : (s.emit o).map = s.map := rfl
@[simp] theorem emit_och {s : State} {o : Output} : (s.emit o).och = s.och := rfl
@[simp] theorem emit_srv {s : State} {o : Output} : (s.emit o).srv = s.srv := rfl
@[simp] theorem emit_mot {s : State} {o : Output} : (s.emit o).mot = s.mot := rfl
@[simp] theorem emit_sec {s : State} {o : Output} : (s.emit o).sec = s.sec := rfl
@[simp] theorem emit_col {s : State} {o : Output} : (s.emit o).col = s.col := rfl
@[simp] theorem emit_efc {s : State} {o : Output} : (s.emit o).efc = s.efc := rfl
@[simp] theorem emit_mbx {s : State} {o : Output} : (s.emit o).mbx = s.mbx := rfl
@[simp] theorem emit_cal {s : State} {o : Output} : (s.emit o).cal = s.cal := rfl
@[simp] theorem emit_jtag {s : State} {o : Output} : (s.emit o).jtag = s.jtag := rfl
@[simp] theorem emit_pwr {s : State} {o : Output} : (s.emit o).pwr = s.pwr := rfl
@[simp] theorem emit_pending {s : State} {o : Output} : (s.emit o).pending = s.pending := rfl
@[simp] theorem emit_rd {s : State} {o : Output} {j : Nat} : (s.emit o).rd j = s.rd j := rfl
@[simp] theorem emit_get {s : State} {o : Output} {g : Fld} {j : Nat} : (s.emit o).get g j = s.get g j := rfl
@[simp] theorem emit_get64 {s : State} {o : Output} {g : Fld} {j : Nat} : (s.emit o).get64 g j = s.get64 g j := rfl

@[simp] theorem setLane_part {s : State} {n : Nat} {x : LaneSt} : (s.setLane n x).part = s.part := rfl
@[simp] theorem setLane_regs {s : State} {n : Nat} {x : LaneSt} : (s.setLane n x).regs = s.regs := rfl
@[simp] theorem setLane_fresh {s : State} {n : Nat} {x : LaneSt} : (s.setLane n x).fresh = s.fresh := rfl
@[simp] theorem setLane_ports {s : State} {n : Nat} {x : LaneSt} : (s.setLane n x).ports = s.ports := rfl
@[simp] theorem setLane_cap {s : State} {n : Nat} {x : LaneSt} : (s.setLane n x).cap = s.cap := rfl
@[simp] theorem setLane_cmp {s : State} {n : Nat} {x : LaneSt} : (s.setLane n x).cmp = s.cmp := rfl
@[simp] theorem setLane_gal {s : State} {n : Nat} {x : LaneSt} : (s.setLane n x).gal = s.gal := rfl
@[simp] theorem setLane_pair {s : State} {n : Nat} {x : LaneSt} : (s.setLane n x).pair = s.pair := rfl
@[simp] theorem setLane_pcie {s : State} {n : Nat} {x : LaneSt} : (s.setLane n x).pcie = s.pcie := rfl
@[simp] theorem setLane_hq {s : State} {n : Nat} {x : LaneSt} : (s.setLane n x).hq = s.hq := rfl
@[simp] theorem setLane_mag {s : State} {n : Nat} {x : LaneSt} : (s.setLane n x).mag = s.mag := rfl
@[simp] theorem setLane_map {s : State} {n : Nat} {x : LaneSt} : (s.setLane n x).map = s.map := rfl
@[simp] theorem setLane_och {s : State} {n : Nat} {x : LaneSt} : (s.setLane n x).och = s.och := rfl
@[simp] theorem setLane_srv {s : State} {n : Nat} {x : LaneSt} : (s.setLane n x).srv = s.srv := rfl
@[simp] theorem setLane_mot {s : State} {n : Nat} {x : LaneSt} : (s.setLane n x).mot = s.mot := rfl
@[simp] theorem setLane_sec {s : State} {n : Nat} {x : LaneSt} : (s.setLane n x).sec = s.sec := rfl
@[simp] theorem setLane_col {s : State} {n : Nat} {x : LaneSt} : (s.setLane n x).col = s.col := rfl
@[simp] theorem setLane_efc {s : State} {n : Nat} {x : LaneSt} : (s.setLane n x).efc = s.efc := rfl
@[simp] theorem setLane_mbx {s : State} {n : Nat} {x : LaneSt} : (s.setLane n x).mbx = s.mbx := rfl
@[simp] theorem setLane_cal {s : State} {n : Nat} {x : LaneSt} : (s.setLane n x).cal = s.cal := rfl
@[simp] theorem setLane_jtag {s : State} {n : Nat} {x : LaneSt} : (s.setLane n x).jtag = s.jtag := rfl
@[simp] theorem setLane_pwr {s : State} {n : Nat} {x : LaneSt} : (s.setLane n x).pwr = s.pwr := rfl
@[simp] theorem setLane_outbox {s : State} {n : Nat} {x : LaneSt} : (s.setLane n x).outbox = s.outbox := rfl
@[simp] theorem setLane_pending {s : State} {n : Nat} {x : LaneSt} : (s.setLane n x).pending = s.pending := rfl
@[simp] theorem setLane_rd {s : State} {n : Nat} {x : LaneSt} {j : Nat} : (s.setLane n x).rd j = s.rd j := rfl
@[simp] theorem setLane_get {s : State} {n : Nat} {x : LaneSt} {g : Fld} {j : Nat} : (s.setLane n x).get g j = s.get g j := rfl
@[simp] theorem setLane_get64 {s : State} {n : Nat} {x : LaneSt} {g : Fld} {j : Nat} : (s.setLane n x).get64 g j = s.get64 g j := rfl

@[simp] theorem setPort_part {s : State} {p : Nat} {x : PortSt} : (s.setPort p x).part = s.part := rfl
@[simp] theorem setPort_regs {s : State} {p : Nat} {x : PortSt} : (s.setPort p x).regs = s.regs := rfl
@[simp] theorem setPort_fresh {s : State} {p : Nat} {x : PortSt} : (s.setPort p x).fresh = s.fresh := rfl
@[simp] theorem setPort_lanes {s : State} {p : Nat} {x : PortSt} : (s.setPort p x).lanes = s.lanes := rfl
@[simp] theorem setPort_cap {s : State} {p : Nat} {x : PortSt} : (s.setPort p x).cap = s.cap := rfl
@[simp] theorem setPort_cmp {s : State} {p : Nat} {x : PortSt} : (s.setPort p x).cmp = s.cmp := rfl
@[simp] theorem setPort_gal {s : State} {p : Nat} {x : PortSt} : (s.setPort p x).gal = s.gal := rfl
@[simp] theorem setPort_pair {s : State} {p : Nat} {x : PortSt} : (s.setPort p x).pair = s.pair := rfl
@[simp] theorem setPort_pcie {s : State} {p : Nat} {x : PortSt} : (s.setPort p x).pcie = s.pcie := rfl
@[simp] theorem setPort_hq {s : State} {p : Nat} {x : PortSt} : (s.setPort p x).hq = s.hq := rfl
@[simp] theorem setPort_mag {s : State} {p : Nat} {x : PortSt} : (s.setPort p x).mag = s.mag := rfl
@[simp] theorem setPort_map {s : State} {p : Nat} {x : PortSt} : (s.setPort p x).map = s.map := rfl
@[simp] theorem setPort_och {s : State} {p : Nat} {x : PortSt} : (s.setPort p x).och = s.och := rfl
@[simp] theorem setPort_srv {s : State} {p : Nat} {x : PortSt} : (s.setPort p x).srv = s.srv := rfl
@[simp] theorem setPort_mot {s : State} {p : Nat} {x : PortSt} : (s.setPort p x).mot = s.mot := rfl
@[simp] theorem setPort_sec {s : State} {p : Nat} {x : PortSt} : (s.setPort p x).sec = s.sec := rfl
@[simp] theorem setPort_col {s : State} {p : Nat} {x : PortSt} : (s.setPort p x).col = s.col := rfl
@[simp] theorem setPort_efc {s : State} {p : Nat} {x : PortSt} : (s.setPort p x).efc = s.efc := rfl
@[simp] theorem setPort_mbx {s : State} {p : Nat} {x : PortSt} : (s.setPort p x).mbx = s.mbx := rfl
@[simp] theorem setPort_cal {s : State} {p : Nat} {x : PortSt} : (s.setPort p x).cal = s.cal := rfl
@[simp] theorem setPort_jtag {s : State} {p : Nat} {x : PortSt} : (s.setPort p x).jtag = s.jtag := rfl
@[simp] theorem setPort_pwr {s : State} {p : Nat} {x : PortSt} : (s.setPort p x).pwr = s.pwr := rfl
@[simp] theorem setPort_outbox {s : State} {p : Nat} {x : PortSt} : (s.setPort p x).outbox = s.outbox := rfl
@[simp] theorem setPort_pending {s : State} {p : Nat} {x : PortSt} : (s.setPort p x).pending = s.pending := rfl
@[simp] theorem setPort_rd {s : State} {p : Nat} {x : PortSt} {j : Nat} : (s.setPort p x).rd j = s.rd j := rfl
@[simp] theorem setPort_get {s : State} {p : Nat} {x : PortSt} {g : Fld} {j : Nat} : (s.setPort p x).get g j = s.get g j := rfl
@[simp] theorem setPort_get64 {s : State} {p : Nat} {x : PortSt} {g : Fld} {j : Nat} : (s.setPort p x).get64 g j = s.get64 g j := rfl

@[simp] theorem setSq_part {s : State} {n : Nat} {q : SqSt} : (s.setSq n q).part = s.part := rfl
@[simp] theorem setSq_regs {s : State} {n : Nat} {q : SqSt} : (s.setSq n q).regs = s.regs := rfl
@[simp] theorem setSq_fresh {s : State} {n : Nat} {q : SqSt} : (s.setSq n q).fresh = s.fresh := rfl
@[simp] theorem setSq_lanes {s : State} {n : Nat} {q : SqSt} : (s.setSq n q).lanes = s.lanes := rfl
@[simp] theorem setSq_ports {s : State} {n : Nat} {q : SqSt} : (s.setSq n q).ports = s.ports := rfl
@[simp] theorem setSq_cap {s : State} {n : Nat} {q : SqSt} : (s.setSq n q).cap = s.cap := rfl
@[simp] theorem setSq_cmp {s : State} {n : Nat} {q : SqSt} : (s.setSq n q).cmp = s.cmp := rfl
@[simp] theorem setSq_gal {s : State} {n : Nat} {q : SqSt} : (s.setSq n q).gal = s.gal := rfl
@[simp] theorem setSq_pair {s : State} {n : Nat} {q : SqSt} : (s.setSq n q).pair = s.pair := rfl
@[simp] theorem setSq_pcie {s : State} {n : Nat} {q : SqSt} : (s.setSq n q).pcie = s.pcie := rfl
@[simp] theorem setSq_mag {s : State} {n : Nat} {q : SqSt} : (s.setSq n q).mag = s.mag := rfl
@[simp] theorem setSq_map {s : State} {n : Nat} {q : SqSt} : (s.setSq n q).map = s.map := rfl
@[simp] theorem setSq_och {s : State} {n : Nat} {q : SqSt} : (s.setSq n q).och = s.och := rfl
@[simp] theorem setSq_srv {s : State} {n : Nat} {q : SqSt} : (s.setSq n q).srv = s.srv := rfl
@[simp] theorem setSq_mot {s : State} {n : Nat} {q : SqSt} : (s.setSq n q).mot = s.mot := rfl
@[simp] theorem setSq_sec {s : State} {n : Nat} {q : SqSt} : (s.setSq n q).sec = s.sec := rfl
@[simp] theorem setSq_col {s : State} {n : Nat} {q : SqSt} : (s.setSq n q).col = s.col := rfl
@[simp] theorem setSq_efc {s : State} {n : Nat} {q : SqSt} : (s.setSq n q).efc = s.efc := rfl
@[simp] theorem setSq_mbx {s : State} {n : Nat} {q : SqSt} : (s.setSq n q).mbx = s.mbx := rfl
@[simp] theorem setSq_cal {s : State} {n : Nat} {q : SqSt} : (s.setSq n q).cal = s.cal := rfl
@[simp] theorem setSq_jtag {s : State} {n : Nat} {q : SqSt} : (s.setSq n q).jtag = s.jtag := rfl
@[simp] theorem setSq_pwr {s : State} {n : Nat} {q : SqSt} : (s.setSq n q).pwr = s.pwr := rfl
@[simp] theorem setSq_outbox {s : State} {n : Nat} {q : SqSt} : (s.setSq n q).outbox = s.outbox := rfl
@[simp] theorem setSq_pending {s : State} {n : Nat} {q : SqSt} : (s.setSq n q).pending = s.pending := rfl
@[simp] theorem setSq_rd {s : State} {n : Nat} {q : SqSt} {j : Nat} : (s.setSq n q).rd j = s.rd j := rfl
@[simp] theorem setSq_get {s : State} {n : Nat} {q : SqSt} {g : Fld} {j : Nat} : (s.setSq n q).get g j = s.get g j := rfl
@[simp] theorem setSq_get64 {s : State} {n : Nat} {q : SqSt} {g : Fld} {j : Nat} : (s.setSq n q).get64 g j = s.get64 g j := rfl

@[simp] theorem setCq_part {s : State} {m : Nat} {q : CqSt} : (s.setCq m q).part = s.part := rfl
@[simp] theorem setCq_regs {s : State} {m : Nat} {q : CqSt} : (s.setCq m q).regs = s.regs := rfl
@[simp] theorem setCq_fresh {s : State} {m : Nat} {q : CqSt} : (s.setCq m q).fresh = s.fresh := rfl
@[simp] theorem setCq_lanes {s : State} {m : Nat} {q : CqSt} : (s.setCq m q).lanes = s.lanes := rfl
@[simp] theorem setCq_ports {s : State} {m : Nat} {q : CqSt} : (s.setCq m q).ports = s.ports := rfl
@[simp] theorem setCq_cap {s : State} {m : Nat} {q : CqSt} : (s.setCq m q).cap = s.cap := rfl
@[simp] theorem setCq_cmp {s : State} {m : Nat} {q : CqSt} : (s.setCq m q).cmp = s.cmp := rfl
@[simp] theorem setCq_gal {s : State} {m : Nat} {q : CqSt} : (s.setCq m q).gal = s.gal := rfl
@[simp] theorem setCq_pair {s : State} {m : Nat} {q : CqSt} : (s.setCq m q).pair = s.pair := rfl
@[simp] theorem setCq_pcie {s : State} {m : Nat} {q : CqSt} : (s.setCq m q).pcie = s.pcie := rfl
@[simp] theorem setCq_mag {s : State} {m : Nat} {q : CqSt} : (s.setCq m q).mag = s.mag := rfl
@[simp] theorem setCq_map {s : State} {m : Nat} {q : CqSt} : (s.setCq m q).map = s.map := rfl
@[simp] theorem setCq_och {s : State} {m : Nat} {q : CqSt} : (s.setCq m q).och = s.och := rfl
@[simp] theorem setCq_srv {s : State} {m : Nat} {q : CqSt} : (s.setCq m q).srv = s.srv := rfl
@[simp] theorem setCq_mot {s : State} {m : Nat} {q : CqSt} : (s.setCq m q).mot = s.mot := rfl
@[simp] theorem setCq_sec {s : State} {m : Nat} {q : CqSt} : (s.setCq m q).sec = s.sec := rfl
@[simp] theorem setCq_col {s : State} {m : Nat} {q : CqSt} : (s.setCq m q).col = s.col := rfl
@[simp] theorem setCq_efc {s : State} {m : Nat} {q : CqSt} : (s.setCq m q).efc = s.efc := rfl
@[simp] theorem setCq_mbx {s : State} {m : Nat} {q : CqSt} : (s.setCq m q).mbx = s.mbx := rfl
@[simp] theorem setCq_cal {s : State} {m : Nat} {q : CqSt} : (s.setCq m q).cal = s.cal := rfl
@[simp] theorem setCq_jtag {s : State} {m : Nat} {q : CqSt} : (s.setCq m q).jtag = s.jtag := rfl
@[simp] theorem setCq_pwr {s : State} {m : Nat} {q : CqSt} : (s.setCq m q).pwr = s.pwr := rfl
@[simp] theorem setCq_outbox {s : State} {m : Nat} {q : CqSt} : (s.setCq m q).outbox = s.outbox := rfl
@[simp] theorem setCq_pending {s : State} {m : Nat} {q : CqSt} : (s.setCq m q).pending = s.pending := rfl
@[simp] theorem setCq_rd {s : State} {m : Nat} {q : CqSt} {j : Nat} : (s.setCq m q).rd j = s.rd j := rfl
@[simp] theorem setCq_get {s : State} {m : Nat} {q : CqSt} {g : Fld} {j : Nat} : (s.setCq m q).get g j = s.get g j := rfl
@[simp] theorem setCq_get64 {s : State} {m : Nat} {q : CqSt} {g : Fld} {j : Nat} : (s.setCq m q).get64 g j = s.get64 g j := rfl

@[simp] theorem setCmd_part {s : State} {c : Cmd} : (s.setCmd c).part = s.part := rfl
@[simp] theorem setCmd_regs {s : State} {c : Cmd} : (s.setCmd c).regs = s.regs := rfl
@[simp] theorem setCmd_fresh {s : State} {c : Cmd} : (s.setCmd c).fresh = s.fresh := rfl
@[simp] theorem setCmd_lanes {s : State} {c : Cmd} : (s.setCmd c).lanes = s.lanes := rfl
@[simp] theorem setCmd_ports {s : State} {c : Cmd} : (s.setCmd c).ports = s.ports := rfl
@[simp] theorem setCmd_cap {s : State} {c : Cmd} : (s.setCmd c).cap = s.cap := rfl
@[simp] theorem setCmd_cmp {s : State} {c : Cmd} : (s.setCmd c).cmp = s.cmp := rfl
@[simp] theorem setCmd_gal {s : State} {c : Cmd} : (s.setCmd c).gal = s.gal := rfl
@[simp] theorem setCmd_pair {s : State} {c : Cmd} : (s.setCmd c).pair = s.pair := rfl
@[simp] theorem setCmd_pcie {s : State} {c : Cmd} : (s.setCmd c).pcie = s.pcie := rfl
@[simp] theorem setCmd_mag {s : State} {c : Cmd} : (s.setCmd c).mag = s.mag := rfl
@[simp] theorem setCmd_map {s : State} {c : Cmd} : (s.setCmd c).map = s.map := rfl
@[simp] theorem setCmd_och {s : State} {c : Cmd} : (s.setCmd c).och = s.och := rfl
@[simp] theorem setCmd_srv {s : State} {c : Cmd} : (s.setCmd c).srv = s.srv := rfl
@[simp] theorem setCmd_mot {s : State} {c : Cmd} : (s.setCmd c).mot = s.mot := rfl
@[simp] theorem setCmd_sec {s : State} {c : Cmd} : (s.setCmd c).sec = s.sec := rfl
@[simp] theorem setCmd_col {s : State} {c : Cmd} : (s.setCmd c).col = s.col := rfl
@[simp] theorem setCmd_efc {s : State} {c : Cmd} : (s.setCmd c).efc = s.efc := rfl
@[simp] theorem setCmd_mbx {s : State} {c : Cmd} : (s.setCmd c).mbx = s.mbx := rfl
@[simp] theorem setCmd_cal {s : State} {c : Cmd} : (s.setCmd c).cal = s.cal := rfl
@[simp] theorem setCmd_jtag {s : State} {c : Cmd} : (s.setCmd c).jtag = s.jtag := rfl
@[simp] theorem setCmd_pwr {s : State} {c : Cmd} : (s.setCmd c).pwr = s.pwr := rfl
@[simp] theorem setCmd_outbox {s : State} {c : Cmd} : (s.setCmd c).outbox = s.outbox := rfl
@[simp] theorem setCmd_pending {s : State} {c : Cmd} : (s.setCmd c).pending = s.pending := rfl
@[simp] theorem setCmd_rd {s : State} {c : Cmd} {j : Nat} : (s.setCmd c).rd j = s.rd j := rfl
@[simp] theorem setCmd_get {s : State} {c : Cmd} {g : Fld} {j : Nat} : (s.setCmd c).get g j = s.get g j := rfl
@[simp] theorem setCmd_get64 {s : State} {c : Cmd} {g : Fld} {j : Nat} : (s.setCmd c).get64 g j = s.get64 g j := rfl

@[simp] theorem emit_outbox {s : State} {o : Output} : (s.emit o).outbox = o :: s.outbox := rfl

/-- An update of other parts leaves the registers alone. -/
@[simp] theorem rd_mk {s : State} {xpart xfresh xlanes xports xcap xcmp xgal xpair xpcie xhq xmag xmap xoch xsrv xmot xsec xcol xefc xmbx xcal xjtag xpwr xoutbox xpending} {j : Nat} :
    (State.mk xpart s.regs xfresh xlanes xports xcap xcmp xgal xpair xpcie xhq xmag xmap xoch xsrv xmot xsec xcol xefc xmbx xcal xjtag xpwr xoutbox xpending).rd j = s.rd j := rfl
@[simp] theorem get_mk {s : State} {xpart xfresh xlanes xports xcap xcmp xgal xpair xpcie xhq xmag xmap xoch xsrv xmot xsec xcol xefc xmbx xcal xjtag xpwr xoutbox xpending} {g : Fld} {j : Nat} :
    (State.mk xpart s.regs xfresh xlanes xports xcap xcmp xgal xpair xpcie xhq xmag xmap xoch xsrv xmot xsec xcol xefc xmbx xcal xjtag xpwr xoutbox xpending).get g j = s.get g j := rfl
@[simp] theorem get64_mk {s : State} {xpart xfresh xlanes xports xcap xcmp xgal xpair xpcie xhq xmag xmap xoch xsrv xmot xsec xcol xefc xmbx xcal xjtag xpwr xoutbox xpending} {g : Fld} {j : Nat} :
    (State.mk xpart s.regs xfresh xlanes xports xcap xcmp xgal xpair xpcie xhq xmag xmap xoch xsrv xmot xsec xcol xefc xmbx xcal xjtag xpwr xoutbox xpending).get64 g j = s.get64 g j := rfl

end Sys2Proof.Laws
end

