-- ==== Sys2Proof/Laws/Facts.lean ====
section
/-!
SUPPORT. What shared operations do, beyond what they leave alone (Laws/Moves.lean): bits set and cleared, the AOS safe state.
-/
set_option Elab.async false

namespace Sys2Proof.Laws
open Sys2Proof.Machine

theorem withBit_testBit {v n : Nat} {b : Bool} : (withBit v n b).testBit n = b := by
  unfold withBit
  split
  · next h => simpa using h
  · next h =>
    cases b
    · have hv : v.testBit n = true := by simpa using h
      simp only [Bool.false_eq_true, if_false]
      have hge := Nat.ge_two_pow_of_testBit hv
      have e := Nat.testBit_two_pow_add_eq (v - 2 ^ n) n
      rw [Nat.add_sub_cancel' hge, hv] at e
      simpa using e.symm
    · have hv : v.testBit n = false := by simpa using h
      simp only [if_true]
      rw [Nat.add_comm, Nat.testBit_two_pow_add_eq, hv]
      rfl

/-- The bit of a PLL after it is set or cleared. -/
theorem pllLocked_setPll {s : State} {p : Pll} {b : Bool} : (s.setPll p b).pllLocked p = b := by
  cases p <;> simp only [State.setPll, State.pllLocked, State.flag, State.setFlag]
  case gphy g =>
    rw [get_put_same (by decide +kernel) (by decide)]
    have : Reg.CLK_PLL_STATUS_GPHY_LOCK.width = 4 := by decide
    rw [this, Nat.testBit_mod_two_pow, withBit_testBit]
    simp
  case lane n =>
    rw [get_put_same (by decide +kernel) (by decide)]
    have : Reg.CLK_LANE_PLL_LOCK_LOCK.width = 32 := by decide
    rw [this, Nat.testBit_mod_two_pow, withBit_testBit]
    simp
  all_goals
    rw [get_put_same (by decide +kernel) (by decide)]
    cases b <;> decide

/-- A PLL's lock bit depends on the two lock registers only. -/
theorem pllLocked_congr {s t : State} {p : Pll} (h1 : t.rd 0x100000 = s.rd 0x100000) (h2 : t.rd 0x100004 = s.rd 0x100004) :
    t.pllLocked p = s.pllLocked p := by
  cases p <;> simp only [State.pllLocked, State.flag, State.get, Reg.CLK_PLL_STATUS_CORE_LOCK, Reg.CLK_PLL_STATUS_GPHY_LOCK,
    Reg.CLK_LANE_PLL_LOCK_LOCK, Reg.CLK_PLL_STATUS_PAIR_LOCK, Reg.CLK_PLL_STATUS_PCIE_LOCK, Reg.CLK_PLL_STATUS_COL_LOCK,
    Nat.zero_mul, Nat.add_zero, h1, h2]

/-- A value put into an association list is found. -/
theorem lookupD_insertKey {α : Type} {d v : α} {m : List (Nat × α)} {k : Nat} : lookupD d (insertKey m k v) k = v := by
  unfold lookupD
  induction m with
  | nil => simp [insertKey, List.lookup]
  | cons x r ih =>
    obtain ⟨j, w⟩ := x
    simp only [insertKey]
    split
    · simp [List.lookup]
    · split
      · simp [List.lookup]
      · next h1 h2 =>
        have : (k == j) = false := by simpa using h2
        simp only [List.lookup, this]
        exact ih

/-- A field that every step of a run leaves alone stays. -/
theorem fold_get {α : Type} {l : List α} {g : State → α → State} {s : State} {f : Fld} {j : Nat}
    (h : ∀ t x, (g t x).get f j = t.get f j) : (l.foldl g s).get f j = s.get f j := by
  induction l generalizing s with
  | nil => rfl
  | cons x r ih => exact ih.trans (h s x)

/-! ### A part that every step of a run leaves alone stays -/

theorem fold_lanes {α : Type} {l : List α} {g : State → α → State} {s : State} (h : ∀ t x, (g t x).lanes = t.lanes) :
    (l.foldl g s).lanes = s.lanes := by
  induction l generalizing s with
  | nil => rfl
  | cons x r ih => exact ih.trans (h s x)

theorem fold_ports {α : Type} {l : List α} {g : State → α → State} {s : State} (h : ∀ t x, (g t x).ports = t.ports) :
    (l.foldl g s).ports = s.ports := by
  induction l generalizing s with
  | nil => rfl
  | cons x r ih => exact ih.trans (h s x)

theorem fold_cap {α : Type} {l : List α} {g : State → α → State} {s : State} (h : ∀ t x, (g t x).cap = t.cap) :
    (l.foldl g s).cap = s.cap := by
  induction l generalizing s with
  | nil => rfl
  | cons x r ih => exact ih.trans (h s x)

theorem fold_cmp {α : Type} {l : List α} {g : State → α → State} {s : State} (h : ∀ t x, (g t x).cmp = t.cmp) :
    (l.foldl g s).cmp = s.cmp := by
  induction l generalizing s with
  | nil => rfl
  | cons x r ih => exact ih.trans (h s x)

theorem fold_gal {α : Type} {l : List α} {g : State → α → State} {s : State} (h : ∀ t x, (g t x).gal = t.gal) :
    (l.foldl g s).gal = s.gal := by
  induction l generalizing s with
  | nil => rfl
  | cons x r ih => exact ih.trans (h s x)

theorem fold_pair {α : Type} {l : List α} {g : State → α → State} {s : State} (h : ∀ t x, (g t x).pair = t.pair) :
    (l.foldl g s).pair = s.pair := by
  induction l generalizing s with
  | nil => rfl
  | cons x r ih => exact ih.trans (h s x)

theorem fold_pcie {α : Type} {l : List α} {g : State → α → State} {s : State} (h : ∀ t x, (g t x).pcie = t.pcie) :
    (l.foldl g s).pcie = s.pcie := by
  induction l generalizing s with
  | nil => rfl
  | cons x r ih => exact ih.trans (h s x)

theorem fold_hq {α : Type} {l : List α} {g : State → α → State} {s : State} (h : ∀ t x, (g t x).hq = t.hq) :
    (l.foldl g s).hq = s.hq := by
  induction l generalizing s with
  | nil => rfl
  | cons x r ih => exact ih.trans (h s x)

theorem fold_mag {α : Type} {l : List α} {g : State → α → State} {s : State} (h : ∀ t x, (g t x).mag = t.mag) :
    (l.foldl g s).mag = s.mag := by
  induction l generalizing s with
  | nil => rfl
  | cons x r ih => exact ih.trans (h s x)

theorem fold_map {α : Type} {l : List α} {g : State → α → State} {s : State} (h : ∀ t x, (g t x).map = t.map) :
    (l.foldl g s).map = s.map := by
  induction l generalizing s with
  | nil => rfl
  | cons x r ih => exact ih.trans (h s x)

theorem fold_och {α : Type} {l : List α} {g : State → α → State} {s : State} (h : ∀ t x, (g t x).och = t.och) :
    (l.foldl g s).och = s.och := by
  induction l generalizing s with
  | nil => rfl
  | cons x r ih => exact ih.trans (h s x)

theorem fold_srv {α : Type} {l : List α} {g : State → α → State} {s : State} (h : ∀ t x, (g t x).srv = t.srv) :
    (l.foldl g s).srv = s.srv := by
  induction l generalizing s with
  | nil => rfl
  | cons x r ih => exact ih.trans (h s x)

theorem fold_mot {α : Type} {l : List α} {g : State → α → State} {s : State} (h : ∀ t x, (g t x).mot = t.mot) :
    (l.foldl g s).mot = s.mot := by
  induction l generalizing s with
  | nil => rfl
  | cons x r ih => exact ih.trans (h s x)

theorem fold_sec {α : Type} {l : List α} {g : State → α → State} {s : State} (h : ∀ t x, (g t x).sec = t.sec) :
    (l.foldl g s).sec = s.sec := by
  induction l generalizing s with
  | nil => rfl
  | cons x r ih => exact ih.trans (h s x)

theorem fold_col {α : Type} {l : List α} {g : State → α → State} {s : State} (h : ∀ t x, (g t x).col = t.col) :
    (l.foldl g s).col = s.col := by
  induction l generalizing s with
  | nil => rfl
  | cons x r ih => exact ih.trans (h s x)

theorem fold_efc {α : Type} {l : List α} {g : State → α → State} {s : State} (h : ∀ t x, (g t x).efc = t.efc) :
    (l.foldl g s).efc = s.efc := by
  induction l generalizing s with
  | nil => rfl
  | cons x r ih => exact ih.trans (h s x)

theorem fold_mbx {α : Type} {l : List α} {g : State → α → State} {s : State} (h : ∀ t x, (g t x).mbx = t.mbx) :
    (l.foldl g s).mbx = s.mbx := by
  induction l generalizing s with
  | nil => rfl
  | cons x r ih => exact ih.trans (h s x)

theorem fold_cal {α : Type} {l : List α} {g : State → α → State} {s : State} (h : ∀ t x, (g t x).cal = t.cal) :
    (l.foldl g s).cal = s.cal := by
  induction l generalizing s with
  | nil => rfl
  | cons x r ih => exact ih.trans (h s x)

theorem fold_jtag {α : Type} {l : List α} {g : State → α → State} {s : State} (h : ∀ t x, (g t x).jtag = t.jtag) :
    (l.foldl g s).jtag = s.jtag := by
  induction l generalizing s with
  | nil => rfl
  | cons x r ih => exact ih.trans (h s x)

theorem fold_pwr {α : Type} {l : List α} {g : State → α → State} {s : State} (h : ∀ t x, (g t x).pwr = t.pwr) :
    (l.foldl g s).pwr = s.pwr := by
  induction l generalizing s with
  | nil => rfl
  | cons x r ih => exact ih.trans (h s x)

theorem fold_outbox {α : Type} {l : List α} {g : State → α → State} {s : State} (h : ∀ t x, (g t x).outbox = t.outbox) :
    (l.foldl g s).outbox = s.outbox := by
  induction l generalizing s with
  | nil => rfl
  | cons x r ih => exact ih.trans (h s x)

theorem fold_fresh {α : Type} {l : List α} {g : State → α → State} {s : State} (h : ∀ t x, (g t x).fresh = t.fresh) :
    (l.foldl g s).fresh = s.fresh := by
  induction l generalizing s with
  | nil => rfl
  | cons x r ih => exact ih.trans (h s x)

/-! ### Signals and events leave every part of the state alone -/

@[simp] theorem setPba_part {s : State} {fn v : Nat} {b : Bool} : (s.setPba fn v b).part = s.part := by
  unfold State.setPba; simp
@[simp] theorem setPba_fresh {s : State} {fn v : Nat} {b : Bool} : (s.setPba fn v b).fresh = s.fresh := by
  unfold State.setPba; simp
@[simp] theorem setPba_lanes {s : State} {fn v : Nat} {b : Bool} : (s.setPba fn v b).lanes = s.lanes := by
  unfold State.setPba; simp
@[simp] theorem setPba_ports {s : State} {fn v : Nat} {b : Bool} : (s.setPba fn v b).ports = s.ports := by
  unfold State.setPba; simp
@[simp] theorem setPba_cap {s : State} {fn v : Nat} {b : Bool} : (s.setPba fn v b).cap = s.cap := by
  unfold State.setPba; simp
@[simp] theorem setPba_cmp {s : State} {fn v : Nat} {b : Bool} : (s.setPba fn v b).cmp = s.cmp := by
  unfold State.setPba; simp
@[simp] theorem setPba_gal {s : State} {fn v : Nat} {b : Bool} : (s.setPba fn v b).gal = s.gal := by
  unfold State.setPba; simp
@[simp] theorem setPba_pair {s : State} {fn v : Nat} {b : Bool} : (s.setPba fn v b).pair = s.pair := by
  unfold State.setPba; simp
@[simp] theorem setPba_pcie {s : State} {fn v : Nat} {b : Bool} : (s.setPba fn v b).pcie = s.pcie := by
  unfold State.setPba; simp
@[simp] theorem setPba_hq {s : State} {fn v : Nat} {b : Bool} : (s.setPba fn v b).hq = s.hq := by
  unfold State.setPba; simp
@[simp] theorem setPba_mag {s : State} {fn v : Nat} {b : Bool} : (s.setPba fn v b).mag = s.mag := by
  unfold State.setPba; simp
@[simp] theorem setPba_map {s : State} {fn v : Nat} {b : Bool} : (s.setPba fn v b).map = s.map := by
  unfold State.setPba; simp
@[simp] theorem setPba_och {s : State} {fn v : Nat} {b : Bool} : (s.setPba fn v b).och = s.och := by
  unfold State.setPba; simp
@[simp] theorem setPba_srv {s : State} {fn v : Nat} {b : Bool} : (s.setPba fn v b).srv = s.srv := by
  unfold State.setPba; simp
@[simp] theorem setPba_mot {s : State} {fn v : Nat} {b : Bool} : (s.setPba fn v b).mot = s.mot := by
  unfold State.setPba; simp
@[simp] theorem setPba_sec {s : State} {fn v : Nat} {b : Bool} : (s.setPba fn v b).sec = s.sec := by
  unfold State.setPba; simp
@[simp] theorem setPba_col {s : State} {fn v : Nat} {b : Bool} : (s.setPba fn v b).col = s.col := by
  unfold State.setPba; simp
@[simp] theorem setPba_efc {s : State} {fn v : Nat} {b : Bool} : (s.setPba fn v b).efc = s.efc := by
  unfold State.setPba; simp
@[simp] theorem setPba_mbx {s : State} {fn v : Nat} {b : Bool} : (s.setPba fn v b).mbx = s.mbx := by
  unfold State.setPba; simp
@[simp] theorem setPba_cal {s : State} {fn v : Nat} {b : Bool} : (s.setPba fn v b).cal = s.cal := by
  unfold State.setPba; simp
@[simp] theorem setPba_jtag {s : State} {fn v : Nat} {b : Bool} : (s.setPba fn v b).jtag = s.jtag := by
  unfold State.setPba; simp
@[simp] theorem setPba_pwr {s : State} {fn v : Nat} {b : Bool} : (s.setPba fn v b).pwr = s.pwr := by
  unfold State.setPba; simp
@[simp] theorem setPba_pending {s : State} {fn v : Nat} {b : Bool} : (s.setPba fn v b).pending = s.pending := by
  unfold State.setPba; simp
@[simp] theorem signal_part {s : State} {fn v : Nat} : (s.signal fn v).part = s.part := by
  unfold State.signal State.signalIf; split <;> (try split) <;> simp
@[simp] theorem signal_fresh {s : State} {fn v : Nat} : (s.signal fn v).fresh = s.fresh := by
  unfold State.signal State.signalIf; split <;> (try split) <;> simp
@[simp] theorem signal_lanes {s : State} {fn v : Nat} : (s.signal fn v).lanes = s.lanes := by
  unfold State.signal State.signalIf; split <;> (try split) <;> simp
@[simp] theorem signal_ports {s : State} {fn v : Nat} : (s.signal fn v).ports = s.ports := by
  unfold State.signal State.signalIf; split <;> (try split) <;> simp
@[simp] theorem signal_cap {s : State} {fn v : Nat} : (s.signal fn v).cap = s.cap := by
  unfold State.signal State.signalIf; split <;> (try split) <;> simp
@[simp] theorem signal_cmp {s : State} {fn v : Nat} : (s.signal fn v).cmp = s.cmp := by
  unfold State.signal State.signalIf; split <;> (try split) <;> simp
@[simp] theorem signal_gal {s : State} {fn v : Nat} : (s.signal fn v).gal = s.gal := by
  unfold State.signal State.signalIf; split <;> (try split) <;> simp
@[simp] theorem signal_pair {s : State} {fn v : Nat} : (s.signal fn v).pair = s.pair := by
  unfold State.signal State.signalIf; split <;> (try split) <;> simp
@[simp] theorem signal_pcie {s : State} {fn v : Nat} : (s.signal fn v).pcie = s.pcie := by
  unfold State.signal State.signalIf; split <;> (try split) <;> simp
@[simp] theorem signal_hq {s : State} {fn v : Nat} : (s.signal fn v).hq = s.hq := by
  unfold State.signal State.signalIf; split <;> (try split) <;> simp
@[simp] theorem signal_mag {s : State} {fn v : Nat} : (s.signal fn v).mag = s.mag := by
  unfold State.signal State.signalIf; split <;> (try split) <;> simp
@[simp] theorem signal_map {s : State} {fn v : Nat} : (s.signal fn v).map = s.map := by
  unfold State.signal State.signalIf; split <;> (try split) <;> simp
@[simp] theorem signal_och {s : State} {fn v : Nat} : (s.signal fn v).och = s.och := by
  unfold State.signal State.signalIf; split <;> (try split) <;> simp
@[simp] theorem signal_srv {s : State} {fn v : Nat} : (s.signal fn v).srv = s.srv := by
  unfold State.signal State.signalIf; split <;> (try split) <;> simp
@[simp] theorem signal_mot {s : State} {fn v : Nat} : (s.signal fn v).mot = s.mot := by
  unfold State.signal State.signalIf; split <;> (try split) <;> simp
@[simp] theorem signal_sec {s : State} {fn v : Nat} : (s.signal fn v).sec = s.sec := by
  unfold State.signal State.signalIf; split <;> (try split) <;> simp
@[simp] theorem signal_col {s : State} {fn v : Nat} : (s.signal fn v).col = s.col := by
  unfold State.signal State.signalIf; split <;> (try split) <;> simp
@[simp] theorem signal_efc {s : State} {fn v : Nat} : (s.signal fn v).efc = s.efc := by
  unfold State.signal State.signalIf; split <;> (try split) <;> simp
@[simp] theorem signal_mbx {s : State} {fn v : Nat} : (s.signal fn v).mbx = s.mbx := by
  unfold State.signal State.signalIf; split <;> (try split) <;> simp
@[simp] theorem signal_cal {s : State} {fn v : Nat} : (s.signal fn v).cal = s.cal := by
  unfold State.signal State.signalIf; split <;> (try split) <;> simp
@[simp] theorem signal_jtag {s : State} {fn v : Nat} : (s.signal fn v).jtag = s.jtag := by
  unfold State.signal State.signalIf; split <;> (try split) <;> simp
@[simp] theorem signal_pwr {s : State} {fn v : Nat} : (s.signal fn v).pwr = s.pwr := by
  unfold State.signal State.signalIf; split <;> (try split) <;> simp
@[simp] theorem signal_pending {s : State} {fn v : Nat} : (s.signal fn v).pending = s.pending := by
  unfold State.signal State.signalIf; split <;> (try split) <;> simp
@[simp] theorem event_part {s : State} {f : Fld} {i : Nat} : (s.event f i).part = s.part := by
  unfold State.event State.setFlag; dsimp only; split
  · simp
  · split <;> simp
@[simp] theorem event_fresh {s : State} {f : Fld} {i : Nat} : (s.event f i).fresh = s.fresh := by
  unfold State.event State.setFlag; dsimp only; split
  · simp
  · split <;> simp
@[simp] theorem event_lanes {s : State} {f : Fld} {i : Nat} : (s.event f i).lanes = s.lanes := by
  unfold State.event State.setFlag; dsimp only; split
  · simp
  · split <;> simp
@[simp] theorem event_ports {s : State} {f : Fld} {i : Nat} : (s.event f i).ports = s.ports := by
  unfold State.event State.setFlag; dsimp only; split
  · simp
  · split <;> simp
@[simp] theorem event_cap {s : State} {f : Fld} {i : Nat} : (s.event f i).cap = s.cap := by
  unfold State.event State.setFlag; dsimp only; split
  · simp
  · split <;> simp
@[simp] theorem event_cmp {s : State} {f : Fld} {i : Nat} : (s.event f i).cmp = s.cmp := by
  unfold State.event State.setFlag; dsimp only; split
  · simp
  · split <;> simp
@[simp] theorem event_gal {s : State} {f : Fld} {i : Nat} : (s.event f i).gal = s.gal := by
  unfold State.event State.setFlag; dsimp only; split
  · simp
  · split <;> simp
@[simp] theorem event_pair {s : State} {f : Fld} {i : Nat} : (s.event f i).pair = s.pair := by
  unfold State.event State.setFlag; dsimp only; split
  · simp
  · split <;> simp
@[simp] theorem event_pcie {s : State} {f : Fld} {i : Nat} : (s.event f i).pcie = s.pcie := by
  unfold State.event State.setFlag; dsimp only; split
  · simp
  · split <;> simp
@[simp] theorem event_hq {s : State} {f : Fld} {i : Nat} : (s.event f i).hq = s.hq := by
  unfold State.event State.setFlag; dsimp only; split
  · simp
  · split <;> simp
@[simp] theorem event_mag {s : State} {f : Fld} {i : Nat} : (s.event f i).mag = s.mag := by
  unfold State.event State.setFlag; dsimp only; split
  · simp
  · split <;> simp
@[simp] theorem event_map {s : State} {f : Fld} {i : Nat} : (s.event f i).map = s.map := by
  unfold State.event State.setFlag; dsimp only; split
  · simp
  · split <;> simp
@[simp] theorem event_och {s : State} {f : Fld} {i : Nat} : (s.event f i).och = s.och := by
  unfold State.event State.setFlag; dsimp only; split
  · simp
  · split <;> simp
@[simp] theorem event_srv {s : State} {f : Fld} {i : Nat} : (s.event f i).srv = s.srv := by
  unfold State.event State.setFlag; dsimp only; split
  · simp
  · split <;> simp
@[simp] theorem event_mot {s : State} {f : Fld} {i : Nat} : (s.event f i).mot = s.mot := by
  unfold State.event State.setFlag; dsimp only; split
  · simp
  · split <;> simp
@[simp] theorem event_sec {s : State} {f : Fld} {i : Nat} : (s.event f i).sec = s.sec := by
  unfold State.event State.setFlag; dsimp only; split
  · simp
  · split <;> simp
@[simp] theorem event_col {s : State} {f : Fld} {i : Nat} : (s.event f i).col = s.col := by
  unfold State.event State.setFlag; dsimp only; split
  · simp
  · split <;> simp
@[simp] theorem event_efc {s : State} {f : Fld} {i : Nat} : (s.event f i).efc = s.efc := by
  unfold State.event State.setFlag; dsimp only; split
  · simp
  · split <;> simp
@[simp] theorem event_mbx {s : State} {f : Fld} {i : Nat} : (s.event f i).mbx = s.mbx := by
  unfold State.event State.setFlag; dsimp only; split
  · simp
  · split <;> simp
@[simp] theorem event_cal {s : State} {f : Fld} {i : Nat} : (s.event f i).cal = s.cal := by
  unfold State.event State.setFlag; dsimp only; split
  · simp
  · split <;> simp
@[simp] theorem event_jtag {s : State} {f : Fld} {i : Nat} : (s.event f i).jtag = s.jtag := by
  unfold State.event State.setFlag; dsimp only; split
  · simp
  · split <;> simp
@[simp] theorem event_pwr {s : State} {f : Fld} {i : Nat} : (s.event f i).pwr = s.pwr := by
  unfold State.event State.setFlag; dsimp only; split
  · simp
  · split <;> simp
@[simp] theorem event_pending {s : State} {f : Fld} {i : Nat} : (s.event f i).pending = s.pending := by
  unfold State.event State.setFlag; dsimp only; split
  · simp
  · split <;> simp

/-- A vector signalled leaves every field but pending bits alone. -/
theorem signal_get {s : State} {fn vec : Nat} {f : Fld} {j : Nat} (hj : j < f.count) (h0 : apart Reg.MSIX0_PBA f = true)
    (h1 : apart Reg.MSIX1_PBA f = true) : (s.signal fn vec).get f j = s.get f j := by
  have hp : ∀ (u : State) (b : Bool), (u.setPba fn vec b).get f j = u.get f j := by
    intro u b
    unfold State.setPba pbaFld
    split
    · exact get_put_apart h0 hj
    · exact get_put_apart h1 hj
  unfold State.signal State.signalIf
  split
  · rfl
  · split
    · exact hp _ _
    · rw [hp]; rfl

/-- An event bit is set. -/
theorem event_flag {s : State} {f : Fld} {i : Nat} (h : (fits f && apart Reg.MSIX0_PBA f && apart Reg.MSIX1_PBA f) = true)
    (hi : i < f.count) : (s.event f i).flag f i = true := by
  simp only [Bool.and_eq_true] at h
  have h1 : (s.setFlag f true i).flag f i = true := by
    unfold State.flag State.setFlag
    rw [get_put_same h.1.1 hi]
    simp only [fits, Bool.and_eq_true, decide_eq_true_eq] at h
    have : 1 < 2 ^ f.width := Nat.one_lt_two_pow (by unfold Fld.width; omega)
    simp [Nat.mod_eq_of_lt this]
  unfold State.event
  split
  · exact h1
  · split
    · exact h1
    · unfold State.flag
      rw [signal_get hi h.1.2 h.2]
      exact h1

/-- An event leaves every other field but pending bits alone. -/
theorem event_get {s : State} {f g : Fld} {i j : Nat} (h : apart f g = true) (hj : j < g.count)
    (h0 : apart Reg.MSIX0_PBA g = true) (h1 : apart Reg.MSIX1_PBA g = true) : (s.event f i).get g j = s.get g j := by
  have e : (s.setFlag f true i).get g j = s.get g j := get_put_apart h hj
  unfold State.event
  split
  · exact e
  · split
    · exact e
    · rw [signal_get hj h0 h1]
      exact e

/-- The AOS safe state is entered. -/
theorem aosSafe_on {s : State} : s.aosSafe.pwr.aosSafe = true := by
  unfold State.aosSafe
  by_cases h : s.pwr.aosSafe = true
  · rw [if_pos h]
    unfold State.cause State.setFlag
    rw [put_pwr]
    exact h
  · rw [if_neg h]

/-! ### The supervisor's state beside the actuators -/

/-- The supervisor's state with every actuator output blanked: what actuator operations leave alone. -/
def still (p : PowerSt) : PowerSt :=
  { p with ldEn := false, coils := [], spindleOn := false, axesOn := [], nandOn := false, sensRefclk := false, monDac := [] }

@[simp] theorem still_f_por {p : PowerSt} : (still p).por = p.por := rfl
@[simp] theorem still_f_faultLow {p : PowerSt} : (still p).faultLow = p.faultLow := rfl
@[simp] theorem still_f_selfTestFailed {p : PowerSt} : (still p).selfTestFailed = p.selfTestFailed := rfl
@[simp] theorem still_f_imageApplied {p : PowerSt} : (still p).imageApplied = p.imageApplied := rfl
@[simp] theorem still_f_perst {p : PowerSt} : (still p).perst = p.perst := rfl
@[simp] theorem still_f_sysRst {p : PowerSt} : (still p).sysRst = p.sysRst := rfl
@[simp] theorem still_f_inReset {p : PowerSt} : (still p).inReset = p.inReset := rfl
@[simp] theorem still_f_aosSafe {p : PowerSt} : (still p).aosSafe = p.aosSafe := rfl
@[simp] theorem still_f_lockstep {p : PowerSt} : (still p).lockstep = p.lockstep := rfl
@[simp] theorem still_f_trip {p : PowerSt} : (still p).trip = p.trip := rfl
@[simp] theorem still_f_thermalHold {p : PowerSt} : (still p).thermalHold = p.thermalHold := rfl
@[simp] theorem still_f_tWarn {p : PowerSt} : (still p).tWarn = p.tWarn := rfl
@[simp] theorem still_f_deferral {p : PowerSt} : (still p).deferral = p.deferral := rfl
@[simp] theorem still_f_failInDeferral {p : PowerSt} : (still p).failInDeferral = p.failInDeferral := rfl
@[simp] theorem still_f_warn {p : PowerSt} : (still p).warn = p.warn := rfl
@[simp] theorem still_f_fail {p : PowerSt} : (still p).fail = p.fail := rfl
@[simp] theorem still_f_vbus {p : PowerSt} : (still p).vbus = p.vbus := rfl
@[simp] theorem still_f_holdup {p : PowerSt} : (still p).holdup = p.holdup := rfl
@[simp] theorem still_f_ibus {p : PowerSt} : (still p).ibus = p.ibus := rfl
@[simp] theorem still_f_holdupFull {p : PowerSt} : (still p).holdupFull = p.holdupFull := rfl
@[simp] theorem still_f_pendingReset {p : PowerSt} : (still p).pendingReset = p.pendingReset := rfl
@[simp] theorem still_f_pendingUnits {p : PowerSt} : (still p).pendingUnits = p.pendingUnits := rfl
@[simp] theorem still_f_record {p : PowerSt} : (still p).record = p.record := rfl
@[simp] theorem still_f_unitReset {p : PowerSt} : (still p).unitReset = p.unitReset := rfl
@[simp] theorem still_f_vdrvLow {p : PowerSt} : (still p).vdrvLow = p.vdrvLow := rfl
@[simp] theorem still_f_cfgFresh {p : PowerSt} : (still p).cfgFresh = p.cfgFresh := rfl

theorem still_of {M : Nat} {s t : State} (m : Moves M s t) (h : M.testBit 19 = false) : still t.pwr = still s.pwr := by
  rw [m.pwr h]

theorem fold_still {α : Type} {l : List α} {g : State → α → State} {s : State}
    (h : ∀ t x, still (g t x).pwr = still t.pwr) : still (l.foldl g s).pwr = still s.pwr := by
  induction l generalizing s with
  | nil => rfl
  | cons x r ih => exact ih.trans (h s x)

theorem still_lasersOff {s : State} : still s.lasersOff.pwr = still s.pwr := by
  unfold State.lasersOff
  exact (fold_still (fun t x => by rw [put_pwr, put_pwr])).trans rfl

theorem still_coilOff {s : State} {l : Nat} : still (s.coilOff l).pwr = still s.pwr := by
  unfold State.coilOff
  simp [still]

theorem still_loopOff {s : State} {l : Nat} : still (s.loopOff l).pwr = still s.pwr := by
  unfold State.loopOff
  rw [still_coilOff, put_pwr]
  unfold State.setLoop
  dsimp only
  rw [mv_dropJump.pwr (by decide +kernel)]

theorem still_loopsOff {s : State} : still s.loopsOff.pwr = still s.pwr := by
  unfold State.loopsOff
  exact fold_still (fun t x => still_loopOff)

theorem still_spindleOff {s : State} : still s.spindleOff.pwr = still s.pwr := by
  unfold State.spindleOff
  dsimp only
  have : ∀ u : State, (u.bridgesOff 0 3).pwr = u.pwr := fun u => rfl
  simp [still, this]

theorem still_startMove {s : State} {a k : Nat} {x v : Int} : still (s.startMove a k x v).pwr = still s.pwr := by
  unfold State.startMove State.setFlag
  have h1 : ∀ (u : State) (i j : Nat), (u.bridgesOn i j).pwr = u.pwr := fun u i j => rfl
  have h2 : ∀ (u : State) (a : Nat) (y : AxisSt), (u.setAxis a y).pwr = u.pwr := fun u a y => rfl
  simp [still, h1, h2]

theorem still_parkSled {s : State} : still s.parkSled.pwr = still s.pwr := by
  unfold State.parkSled
  split
  · exact still_startMove
  · rfl

theorem still_safeActuators {s : State} : still s.safeActuators.pwr = still s.pwr := by
  have h0 : still s.lasersOff.loopsOff.pwr = still s.pwr := by rw [still_loopsOff, still_lasersOff]
  have h1 : ∀ (c : Prop) [Decidable c] (u : State), still (if c then u else u.put Reg.MOT_SPN_STATUS_SSTATE 6).pwr = still u.pwr := by
    intro c _ u
    split
    · rfl
    · rw [put_pwr]
  have h2 : ∀ w : State, still (if (!w.bridgesLive) = true then w
    else if (w.flag Reg.MOT_AXIS_STATUS_POS_VALID 0 && w.flag Reg.CLK_PLL_STATUS_CORE_LOCK) = true then
      (w.parkSled.stopMove 1).stopMove 2
    else [0, 1, 2].foldl (fun t a =>
      ((t.put Reg.MOT_AXIS_STATUS_ASTATE 5 a).setFlag Reg.MOT_AXIS_STATUS_POS_VALID false a).setFlag
        Reg.MOT_AXIS_STATUS_MOVING false a) w).pwr = still w.pwr := by
    intro w
    split
    · rfl
    · split
      · rw [still_of mv_stopMove (by decide +kernel), still_of mv_stopMove (by decide +kernel), still_parkSled]
      · apply fold_still
        intro t x
        unfold State.setFlag
        rw [put_pwr, put_pwr, put_pwr]
  unfold State.safeActuators
  exact (h2 _).trans ((h1 _ _).trans h0)

theorem still_powerUpOutputs {s : State} : still s.powerUpOutputs.pwr = still s.pwr := by
  have h1 : ∀ (u : State) (i j : Nat), (u.bridgesOff i j).pwr = u.pwr := fun u i j => rfl
  have h2 : still ((s.lasersOff.loopsOff.spindleOff).bridgesOff 3 64).pwr = still s.pwr := by
    rw [h1, still_spindleOff, still_loopsOff, still_lasersOff]
  have h3 : ∀ u : State, still ([0, 1, 2].foldl (fun (t : State) a => ((t.put Reg.MOT_AXIS_STATUS_ASTATE 0 a).setFlag
      Reg.MOT_AXIS_STATUS_MOVING false a).setFlag Reg.MOT_AXIS_STATUS_POS_VALID false a) u).pwr = still u.pwr := fun u =>
    fold_still (fun t x => by unfold State.setFlag; rw [put_pwr, put_pwr, put_pwr])
  have h4 : ∀ p : PowerSt, still { p with axesOn := [], nandOn := false, sensRefclk := false, monDac := [0, 0, 0, 0] } = still p :=
    fun p => rfl
  unfold State.powerUpOutputs
  exact (h4 _).trans ((h3 _).trans h2)

theorem still_aosSafe {s : State} : still s.aosSafe.pwr = { still s.pwr with aosSafe := true } := by
  by_cases h : s.pwr.aosSafe = true
  · have e : s.aosSafe = s.cause Reg.RST_CAUSE_AOS_SAFE := if_pos h
    rw [e]
    unfold State.cause State.setFlag
    rw [put_pwr]
    simp [still, ← h]
  · have e : still s.aosSafe.pwr = { still ((((((s.contain 0 3).contain 1 3).cause Reg.RST_CAUSE_AOS_SAFE).haltCapture.cutArchive.safeActuators.lanesIdle).selfRefresh).releaseClaim).pwr with aosSafe := true } := by
      unfold State.aosSafe
      rw [if_neg h]
      rfl
    have h1 : ∀ u : State, still u.selfRefresh.pwr = still u.pwr := fun u => by
      unfold State.selfRefresh State.setFlag
      dsimp only
      rw [put_pwr, put_pwr]
    rw [e, still_of mv_releaseClaim (by decide +kernel), h1, still_of mv_lanesIdle (by decide +kernel), still_safeActuators,
      still_of mv_cutArchive (by decide +kernel), still_of mv_haltCapture (by decide +kernel)]
    unfold State.cause State.setFlag
    rw [put_pwr, still_of mv_contain (by decide +kernel), still_of mv_contain (by decide +kernel)]

theorem still_saved {s : State} : still s.saved.pwr = still s.pwr := by
  unfold State.saved State.cause State.setFlag State.powerEvent
  simp [still]

/-- A conditional that leaves the power piece alone. -/
theorem ite_pwr {c : Prop} [Decidable c] {u v : State} (h : v.pwr = u.pwr) : (if c then v else u).pwr = u.pwr := by
  by_cases g : c
  · rw [if_pos g]; exact h
  · rw [if_neg g]

/-- Entering the AOS safe state, and the end of a save, leave the supervisor's state beside the actuators alone. -/
theorem aosSafe_waits {s : State} : s.aosSafe.pwr.pendingReset = s.pwr.pendingReset ∧ s.aosSafe.pwr.pendingUnits = s.pwr.pendingUnits ∧
    s.aosSafe.pwr.record = s.pwr.record := by
  have h := still_aosSafe (s := s)
  have h1 := congrArg PowerSt.pendingReset h
  have h2 := congrArg PowerSt.pendingUnits h
  have h3 := congrArg PowerSt.record h
  simp only [still_f_pendingReset, still_f_pendingUnits, still_f_record] at h1 h2 h3
  exact ⟨h1, h2, h3⟩

theorem saved_waits {s : State} : s.saved.pwr.pendingReset = s.pwr.pendingReset ∧ s.saved.pwr.pendingUnits = s.pwr.pendingUnits ∧
    s.saved.pwr.record = s.pwr.record := by
  have h := still_saved (s := s)
  have h1 := congrArg PowerSt.pendingReset h
  have h2 := congrArg PowerSt.pendingUnits h
  have h3 := congrArg PowerSt.record h
  simp only [still_f_pendingReset, still_f_pendingUnits, still_f_record] at h1 h2 h3
  exact ⟨h1, h2, h3⟩

/-- Of the supervisor's state, writing the record changes the record only. -/
theorem writeRecord_pwr {s : State} {n : Nat} : ∃ r, (s.writeRecord n).pwr = { s.pwr with record := r } := by
  unfold State.writeRecord
  dsimp only
  rw [mv_chrysalisEntry.pwr (by decide +kernel)]
  generalize hu : ({ s with pwr := { s.pwr with record := { s.pwr.record with takes := s.closedTakes, lastStep := n } } } : State) = u
  have h : ∃ r, u.pwr = { s.pwr with record := r } := by
    rw [← hu]
    exact ⟨_, rfl⟩
  by_cases g : u.magTakes = true
  · rw [if_pos g]; exact h
  · rw [if_neg g]; exact h

theorem writeRecord_waits {s : State} {n : Nat} : (s.writeRecord n).pwr.pendingReset = s.pwr.pendingReset ∧
    (s.writeRecord n).pwr.pendingUnits = s.pwr.pendingUnits := by
  obtain ⟨r, h⟩ := writeRecord_pwr (s := s) (n := n)
  rw [h]
  exact ⟨rfl, rfl⟩

/-- Of the supervisor's state, the save's commit changes the record only. -/
theorem saveCommit_pwr {s : State} : ∃ r, s.saveCommit.pwr = { s.pwr with record := r } := by
  have h : (if s.magTakes = true then s.commitAllUnits else s).pwr = s.pwr := ite_pwr (mv_commitAllUnits.pwr (by decide +kernel))
  unfold State.saveCommit
  dsimp only
  rw [h]
  exact ⟨_, rfl⟩

theorem saveCommit_waits {s : State} : s.saveCommit.pwr.pendingReset = s.pwr.pendingReset ∧
    s.saveCommit.pwr.pendingUnits = s.pwr.pendingUnits := by
  obtain ⟨r, h⟩ := saveCommit_pwr (s := s)
  rw [h]
  exact ⟨rfl, rfl⟩

/-- Nothing waits for SAVED. -/
theorem afterSave_idle {s : State} (h1 : s.pwr.pendingReset = none) (h2 : s.pwr.pendingUnits = 0) :
    s.afterSave = s := by
  unfold State.afterSave
  split
  · rfl
  · simp [h1, h2]

/-- Fields depend on the registers only. -/
theorem get_regs {s t : State} {f : Fld} {j : Nat} (h : t.regs = s.regs) : t.get f j = s.get f j := by
  unfold State.get State.rd
  rw [h]

theorem selfRefresh_get {s : State} {f : Fld} {j : Nat} (hj : j < f.count) (h1 : apart Reg.GAL_STATUS_SR f = true)
    (h2 : apart Reg.RST_CAUSE_GALLEY_KEPT f = true) : s.selfRefresh.get f j = s.get f j := by
  have e : s.selfRefresh.get f j = ((s.put Reg.GAL_STATUS_SR 2).setFlag Reg.RST_CAUSE_GALLEY_KEPT (!s.pwr.trip)).get f j := by
    unfold State.selfRefresh
    exact get_mk
  rw [e]
  unfold State.setFlag
  rw [get_put_apart h2 hj, get_put_apart h1 hj]

/-- The galley goes into self-refresh. -/
theorem selfRefresh_sr {s : State} : s.selfRefresh.get Reg.GAL_STATUS_SR = 2 := by
  have e : s.selfRefresh.get Reg.GAL_STATUS_SR =
      ((s.put Reg.GAL_STATUS_SR 2).setFlag Reg.RST_CAUSE_GALLEY_KEPT (!s.pwr.trip)).get Reg.GAL_STATUS_SR := by
    unfold State.selfRefresh
    exact get_mk
  rw [e]
  unfold State.setFlag
  rw [get_put_apart (by decide +kernel) (by decide), get_put_same (by decide +kernel) (by decide)]
  rfl

/-- What the AOS safe state leaves of a field that its parts leave alone. -/
theorem aosSafe_get {s : State} {f : Fld} {j : Nat} (hj : j < f.count) (h1 : apart Reg.RST_CAUSE_AOS_SAFE f = true)
    (h2 : apart Reg.RST_CAUSE_GALLEY_KEPT f = true) (h3 : apart Reg.GAL_STATUS_SR f = true)
    (h4 : ∀ u : State, u.haltCapture.get f j = u.get f j) (h5 : ∀ u : State, u.cutArchive.get f j = u.get f j)
    (h6 : ∀ u : State, u.safeActuators.get f j = u.get f j) (h7 : ∀ u : State, u.lanesIdle.get f j = u.get f j)
    (h8 : ∀ u : State, u.releaseClaim.get f j = u.get f j) (h9 : ∀ (u : State) (n : Nat), (u.contain n 3).get f j = u.get f j) :
    s.aosSafe.get f j = s.get f j := by
  by_cases h : s.pwr.aosSafe = true
  · have e : s.aosSafe = s.cause Reg.RST_CAUSE_AOS_SAFE := if_pos h
    rw [e]
    exact get_put_apart h1 hj
  · have e : s.aosSafe.get f j = ((((((s.contain 0 3).contain 1 3).cause Reg.RST_CAUSE_AOS_SAFE).haltCapture.cutArchive.safeActuators.lanesIdle).selfRefresh).releaseClaim).get f j := by
      unfold State.aosSafe
      rw [if_neg h]
      exact get_mk
    rw [e, h8, selfRefresh_get hj h3 h2, h7, h6, h5, h4]
    unfold State.cause State.setFlag
    rw [get_put_apart h1 hj, h9, h9]

theorem frees_congr {M : Nat} {f g : Fld} (hb : f.base = g.base) (hs : f.stride = g.stride) (hn : f.count = g.count) :
    frees M f = frees M g := by
  unfold frees
  rw [hb, hs, hn]

/-- The AOS safe state leaves every other cause of `RST.CAUSE` as it was (02 R43, R49). -/
theorem aosSafe_rst {s : State} {f : Fld} (hb : f.base = 0x100100) (hs : f.stride = 0) (hn : f.count = 1)
    (h1 : apart Reg.RST_CAUSE_AOS_SAFE f = true) (h2 : apart Reg.RST_CAUSE_GALLEY_KEPT f = true) :
    s.aosSafe.get f = s.get f := by
  have hj : 0 < f.count := by omega
  have fw : ∀ {M : Nat}, frees M Reg.RST_CAUSE_AOS_SAFE = true → frees M f = true := fun {M} h => by
    rw [← h]
    exact frees_congr hb hs hn
  have ha : apart Reg.GAL_STATUS_SR f = true := by
    simp [apart, rowsApart, hb, hs, hn, Reg.GAL_STATUS_SR]
  exact aosSafe_get hj h1 h2 ha
    (fun u => get_of_moves mv_haltCapture (fw (by decide +kernel)) hj)
    (fun u => get_of_moves mv_cutArchive (fw (by decide +kernel)) hj)
    (fun u => get_of_moves mv_safeActuators (fw (by decide +kernel)) hj)
    (fun u => get_of_moves mv_lanesIdle (fw (by decide +kernel)) hj)
    (fun u => get_of_moves mv_releaseClaim (fw (by decide +kernel)) hj)
    (fun u n => get_of_moves mv_contain (fw (by decide +kernel)) hj)

end Sys2Proof.Laws
end

