-- ==== Sys2Proof/Laws/Starts.lean ====
section
/-!
SUPPORT. What the start of the device, its resets and unit failures leave of the supervisor's state.
-/
set_option Elab.async false

namespace Sys2Proof.Laws
open Sys2Proof.Machine

/-- A property that both branches have. -/
theorem ite_both {c : Prop} [Decidable c] {α : Type} {u v : α} {P : α → Prop} (hu : P u) (hv : P v) : P (if c then u else v) := by
  by_cases g : c
  · rw [if_pos g]; exact hu
  · rw [if_neg g]; exact hv

theorem enableWrite_pwr {s : State} {f : UnitFlds} {b : Bool} {i : Nat} : (s.enableWrite f b i).pwr = s.pwr := by
  unfold State.enableWrite State.setFlag
  dsimp only
  split
  · exact ite_both (P := fun t => State.pwr t = s.pwr) (by simp) (by simp)
  · simp
  · exact ite_both (P := fun t => State.pwr t = s.pwr) (by simp) (by simp)
  · simp
  · simp

theorem still_srvEnable {s : State} {b : Bool} : still (s.srvEnable b).pwr = still s.pwr := by
  have h : still (if (!b && decide (s.get Reg.SRV_STATUS_STATE = 2)) = true then (s.archiveStop (some 0x15)).loopsOff else s).pwr =
      still s.pwr :=
    ite_both (P := fun t => still (State.pwr t) = still s.pwr) (by rw [still_loopsOff, still_of mv_archiveStop (by decide +kernel)]) rfl
  unfold State.srvEnable
  dsimp only
  rw [enableWrite_pwr]
  exact h

theorem still_motEnable {s : State} {b : Bool} : still (s.motEnable b).pwr = still s.pwr := by
  unfold State.motEnable
  dsimp only
  rw [enableWrite_pwr]
  refine ite_both (P := fun t => still (State.pwr t) = still s.pwr) ?_ rfl
  have h0 : still ((s.archiveStop (some 0x15)).spindleBrake).pwr = still s.pwr := by
    rw [still_of mv_spindleBrake (by decide +kernel), still_of mv_archiveStop (by decide +kernel)]
  have h1 : still ([0, 1, 2].foldl (fun (t : State) a => if t.get Reg.MOT_AXIS_STATUS_KIND a = 2 then t.stopMove a else t)
      ((s.archiveStop (some 0x15)).spindleBrake)).pwr = still s.pwr := by
    refine (fold_still (fun t x => ?_)).trans h0
    exact ite_both (P := fun u => still (State.pwr u) = still t.pwr) (still_of mv_stopMove (by decide +kernel)) rfl
  exact ite_both (P := fun u => still (State.pwr u) = still s.pwr) h1 (still_parkSled.trans h1)

theorem still_failUnit {s : State} {n : Nat} : still (s.failUnit n).pwr = still s.pwr := by
  unfold State.failUnit
  refine ite_both (P := fun t => still (State.pwr t) = still s.pwr) rfl ?_
  dsimp only
  refine (still_of mv_failJob (by decide +kernel)).trans ?_
  refine (fold_still (fun t x => still_of mv_cutCmd (by decide +kernel))).trans ?_
  have h2 : still (match unitStateFld n with | some f => (s.markUnitFailed n).put f 4 | none => s.markUnitFailed n).pwr = still s.pwr := by
    split
    · rw [put_pwr, still_of mv_markUnitFailed (by decide +kernel)]
    · rw [still_of mv_markUnitFailed (by decide +kernel)]
  refine ite_both (P := fun t => still (State.pwr t) = still s.pwr) (by rw [still_loopsOff]; exact h2) ?_
  exact ite_both (P := fun t => still (State.pwr t) = still s.pwr)
    (by rw [still_parkSled, still_of mv_spindleBrake (by decide +kernel)]; exact h2) h2

theorem still_startEnabled {s : State} {n : Nat} : still (s.startEnabled n).pwr = still s.pwr := by
  unfold State.startEnabled
  split
  · exact fold_still (fun t x => ite_both (P := fun u => still (State.pwr u) = still t.pwr) (still_of mv_portEnable (by decide +kernel)) rfl)
  · exact ite_both (P := fun u => still (State.pwr u) = still s.pwr) (still_of mv_capEnable (by decide +kernel)) rfl
  · exact fold_still (fun t x => ite_both (P := fun u => still (State.pwr u) = still t.pwr) (still_of mv_clusterEnable (by decide +kernel)) rfl)
  · exact ite_both (P := fun u => still (State.pwr u) = still s.pwr) (still_of mv_pairEnable (by decide +kernel)) rfl
  · exact ite_both (P := fun u => still (State.pwr u) = still s.pwr) (still_of mv_magEnable (by decide +kernel)) rfl
  · exact ite_both (P := fun u => still (State.pwr u) = still s.pwr) (still_of mv_ochEnable (by decide +kernel)) rfl
  · exact ite_both (P := fun u => still (State.pwr u) = still s.pwr) still_srvEnable rfl
  · exact ite_both (P := fun u => still (State.pwr u) = still s.pwr) still_motEnable rfl
  · rfl

theorem still_bootFirmware {s : State} {w : Nat} {a b : Bool} : still (s.bootFirmware w a b).pwr = still s.pwr := by
  unfold State.bootFirmware State.setFlag
  dsimp only
  refine ite_both (P := fun t => still (State.pwr t) = still s.pwr) (by simp) ?_
  refine ite_both (P := fun t => still (State.pwr t) = still s.pwr) (by simp) ?_
  refine (fold_still (fun t x => still_failUnit)).trans ?_
  simp

/-- The start of the device (02 R38): it leaves reset with the image applied, and a fresh configuration space is in place. -/
theorem still_startUp {s : State} {a b : Bool} (h : s.mayStart = true) :
    still (s.startUp a b).pwr = { still s.pwr with inReset := false, imageApplied := true, cfgFresh := false } := by
  unfold State.startUp
  rw [if_neg (by simp [h])]
  dsimp only
  rw [still_of mv_resumeFn (by decide +kernel), still_of mv_resumeFn (by decide +kernel)]
  refine (fold_still (fun t x => still_startEnabled)).trans ?_
  have h5 : ∀ u v : State, still u.pwr = still v.pwr → still ({ u.pwr with cfgFresh := false, sensRefclk := u.flag Reg.CLK_SENS_REFCLK_EN } : PowerSt) =
      { still v.pwr with cfgFresh := false } := by
    intro u v g
    rw [← g]
    rfl
  refine (h5 _ ({ s with pwr := { s.pwr with inReset := false, imageApplied := true } } : State) ?_).trans rfl
  rw [still_of mv_loadSanitize (by decide +kernel), still_bootFirmware]
  refine (fold_still (fun t x => by rw [put_pwr])).trans ?_
  rw [still_of mv_calReset (by decide +kernel), still_of mv_commitAll (by decide +kernel), still_of mv_budget (by decide +kernel)]
  unfold State.setFlag
  rw [put_pwr, still_of mv_mapInvalidate (by decide +kernel)]
  refine (ite_both (P := fun t => still (State.pwr t) = _) (still_of mv_freshBar2 (by decide +kernel)) rfl).trans ?_
  rw [still_of mv_asBuilt (by decide +kernel), still_of mv_selectImage (by decide +kernel), still_of mv_readOtpStatus (by decide +kernel)]

/-- The start of the device begins the boot of every management core (02 R38). -/
theorem startUp_core {s : State} {a b : Bool} (h : s.mayStart = true) {k : Nat} (hk : k < 5) :
    (s.startUp a b).get Reg.MBX_CORE_STATUS_STATE k = 1 := by
  have hc : k < Reg.MBX_CORE_STATUS_STATE.count := Nat.lt_of_lt_of_le hk (by decide)
  unfold State.startUp
  rw [if_neg (by simp [h])]
  dsimp only
  rw [get_of_moves mv_resumeFn (by decide +kernel) hc, get_of_moves mv_resumeFn (by decide +kernel) hc]
  refine (fold_get (fun t x => get_of_moves mv_startEnabled (by decide +kernel) hc)).trans ?_
  refine get_mk.trans ?_
  rw [get_of_moves mv_loadSanitize (by decide +kernel) hc, get_of_moves mv_bootFirmware (by decide +kernel) hc]
  generalize State.calReset _ = u
  have hf : fits Reg.MBX_CORE_STATUS_STATE = true := by decide +kernel
  have h5 : (1 : Nat) % 2 ^ Reg.MBX_CORE_STATUS_STATE.width = 1 := by decide
  show ((((((u.put Reg.MBX_CORE_STATUS_STATE 1 0).put Reg.MBX_CORE_STATUS_STATE 1 1).put Reg.MBX_CORE_STATUS_STATE 1 2).put
    Reg.MBX_CORE_STATUS_STATE 1 3).put Reg.MBX_CORE_STATUS_STATE 1 4).get Reg.MBX_CORE_STATUS_STATE k) = 1
  have other : ∀ (v : State) (i : Nat), i ≠ k → (v.put Reg.MBX_CORE_STATUS_STATE 1 i).get Reg.MBX_CORE_STATUS_STATE k =
      v.get Reg.MBX_CORE_STATUS_STATE k := fun v i hi => get_put_other rfl rfl (by decide) hi
  have same : ∀ v : State, (v.put Reg.MBX_CORE_STATUS_STATE 1 k).get Reg.MBX_CORE_STATUS_STATE k = 1 := fun v => by
    rw [get_put_same hf hc, h5]
  have : k = 0 ∨ k = 1 ∨ k = 2 ∨ k = 3 ∨ k = 4 := by omega
  rcases this with rfl | rfl | rfl | rfl | rfl
  · rw [other _ 4 (by decide), other _ 3 (by decide), other _ 2 (by decide), other _ 1 (by decide), same]
  · rw [other _ 4 (by decide), other _ 3 (by decide), other _ 2 (by decide), same]
  · rw [other _ 4 (by decide), other _ 3 (by decide), same]
  · rw [other _ 4 (by decide), same]
  · exact same _

/-! ### Registers after a reset -/

/-- Clearing registers: a word that is kept stays, every other takes its reset value. -/
theorem rd_clearRegs {s : State} {p : Nat → Bool} {k : Nat} : (s.clearRegs p).rd k = if p k then s.rd k else regReset k :=
  sget_skeep _ _ _ _

/-- A field written leaves the words of other registers alone. -/
theorem rd_put_apart {s : State} {f : Fld} {v i k : Nat} (h : ¬ f.holds k) : (s.put f v i).rd k = s.rd k := by
  unfold State.put
  split
  · next hi => exact rd_wr_ne (fun e => h ⟨i, hi, e⟩)
  · rfl

/-- Putting back kept fields leaves the words of other registers alone. -/
theorem rd_keepFlds {s old : State} {fs : List (Fld × Nat)} {k : Nat} (h : ∀ e ∈ fs, ¬ e.1.holds k) :
    (s.keepFlds old fs).rd k = s.rd k := by
  unfold State.keepFlds
  induction fs generalizing s with
  | nil => rfl
  | cons x r ih =>
    rw [List.foldl_cons, ih (fun e he => h e (List.mem_cons_of_mem _ he)), rd_put_apart (h x (List.mem_cons_self ..))]

theorem resetOwn_holds {f g : Fld} {k : Nat} (hk : ∀ f ∈ resetOwn, ¬ f.holds k) (hg : g ∈ resetOwn)
    (h : f.base = g.base ∧ f.stride = g.stride ∧ f.count = g.count) : ¬ f.holds k := by
  intro ⟨i, hi, e⟩
  exact hk g hg ⟨i, by omega, by rw [e, h.1, h.2.1]⟩

theorem resetOwn_all {fs : List (Fld × Nat)} {k : Nat} (hk : ∀ f ∈ resetOwn, ¬ f.holds k)
    (h : fs.all (fun e => resetOwn.any (fun g => e.1.base == g.base && e.1.stride == g.stride && e.1.count == g.count)) = true) :
    ∀ e ∈ fs, ¬ e.1.holds k := by
  intro e he
  have := List.all_eq_true.mp h e he
  obtain ⟨g, hg, x⟩ := List.any_eq_true.mp this
  simp only [Bool.and_eq_true, beq_iff_eq] at x
  exact resetOwn_holds hk hg ⟨x.1.1, x.1.2, x.2⟩

/-- A reset of the whole device puts every other register that it covers back to its reset value (02 R40). -/
theorem hardReset_rd {s : State} {p : Bool} {k : Nat} (hk : ∀ f ∈ resetOwn, ¬ f.holds k)
    (h : (keptWord k || isCol k || (!p && (isCfg 0 k || isCfg 1 k))) = false) : (s.hardReset p).rd k = regReset k := by
  have one : ∀ {f : Fld} {u : State} {v i : Nat}, (resetOwn.any (fun g => f.base == g.base && f.stride == g.stride && f.count == g.count)) = true →
      (u.put f v i).rd k = u.rd k := by
    intro f u v i hf
    obtain ⟨g, hg, x⟩ := List.any_eq_true.mp hf
    simp only [Bool.and_eq_true, beq_iff_eq] at x
    exact rd_put_apart (resetOwn_holds hk hg ⟨x.1.1, x.1.2, x.2⟩)
  have aos : ∀ {u : State} {fn : Nat}, (u.endAosContainment fn).rd k = u.rd k := by
    intro u fn
    unfold State.endAosContainment State.setFlag
    refine ite_both (P := fun t => State.rd t k = u.rd k) rfl ?_
    dsimp only
    rw [one (by decide +kernel), one (by decide +kernel), one (by decide +kernel)]
  have kp : ∀ {u v : State}, (u.keepProgram v).rd k = u.rd k := by
    intro u v
    unfold State.keepProgram
    exact ite_both (P := fun t => State.rd t k = u.rd k) (rd_keepFlds (resetOwn_all hk (by decide +kernel))) rfl
  unfold State.hardReset State.cause State.setFlag
  dsimp only
  generalize (if (s.haltCapture.electricalIdle).magTakes = true then (s.haltCapture.electricalIdle).commitAllUnits
    else s.haltCapture.electricalIdle).dropStaged.selfRefresh.flashReset = s2
  generalize s2.powerUpOutputs.bumpAll.resetUnits p = s3
  have sh : ∀ {u : State} {q : Nat → Bool}, (u.clearShadows q).rd k = u.rd k := fun {u q} => rfl
  have r4 : ((((s3.clearRegs (fun k => keptWord k || (isCol k || !p && (isCfg 0 k || isCfg 1 k)))).clearShadows
      (fun k => isCol k || !p && (isCfg 0 k || isCfg 1 k))).keepFlds s2 (if p = true then keptFlds else keptFlds ++ keptLink)).keepFlds s3
      ((List.range 5).map (fun k => (Reg.MBX_CORE_STATUS_STAMP, k)))).rd k = regReset k := by
    rw [rd_keepFlds (resetOwn_all hk (by decide +kernel))]
    cases p
    · rw [rd_keepFlds (resetOwn_all hk (by decide +kernel)), sh, rd_clearRegs, if_neg (by simpa [Bool.or_assoc] using h)]
    · rw [rd_keepFlds (resetOwn_all hk (by decide +kernel)), sh, rd_clearRegs, if_neg (by simpa [Bool.or_assoc] using h)]
  generalize ((((s3.clearRegs _).clearShadows _).keepFlds s2 _).keepFlds s3 _) = s4 at r4
  rw [rd_put_apart (by cases p <;> exact resetOwn_holds hk (g := Reg.RST_CAUSE_WORD) (by decide) ⟨rfl, rfl, rfl⟩), one (by decide +kernel), one (by decide +kernel), kp]
  exact ite_both (P := fun t => State.rd t k = regReset k) r4 (by rw [aos, aos]; exact r4)

/-- The state after a reset of the whole device (02 R40, R41): outside the registers it is `resetUnits` of a state whose supervisor
differs from the old one in actuator outputs only; the galley is in self-refresh. -/
theorem hardReset_parts {s : State} {p : Bool} : ∃ u : State, still u.pwr = still s.pwr ∧
    Moves 0x40000000000000000000000000000000000000000000000000000000000000000000000400004 (u.resetUnits p) (s.hardReset p) ∧ (s.hardReset p).get Reg.GAL_STATUS_SR = 2 ∧
    (s.hardReset p).flag (if p then Reg.RST_CAUSE_PERST else Reg.RST_CAUSE_SYS) = true := by
  have sr : ∀ u : State, still u.selfRefresh.pwr = still u.pwr := fun u => by
    unfold State.selfRefresh State.setFlag
    dsimp only
    rw [put_pwr, put_pwr]
  unfold State.hardReset
  dsimp only
  generalize h2 : (if (s.haltCapture.electricalIdle).magTakes = true then (s.haltCapture.electricalIdle).commitAllUnits
    else s.haltCapture.electricalIdle).dropStaged.selfRefresh.flashReset = s2
  have p2 : still s2.pwr = still s.pwr := by
    rw [← h2, still_of mv_flashReset (by decide +kernel), sr, still_of mv_dropStaged (by decide +kernel)]
    refine ite_both (P := fun t => still (State.pwr t) = still s.pwr) ?_ ?_
    · rw [still_of mv_commitAllUnits (by decide +kernel), still_of mv_electricalIdle (by decide +kernel), still_of mv_haltCapture (by decide +kernel)]
    · rw [still_of mv_electricalIdle (by decide +kernel), still_of mv_haltCapture (by decide +kernel)]
  have m3 : ∀ (u : State) (c q : Nat → Bool) (fs gs : List (Fld × Nat)), Moves 0x40000000000000000000000000000000000000000000000000000000000000000000000400004 u ((((u.clearRegs c).clearShadows q).keepFlds s2 fs).keepFlds u gs) :=
    fun u c q fs gs => mv_keepFlds (mv_keepFlds (Moves.step (mv_clearRegs.mono (by decide)) mv_clearShadows (by decide +kernel)) (by decide)) (by decide)
  refine ⟨s2.powerUpOutputs.bumpAll, ?_, ?_, ?_, ?_⟩
  · rw [still_of mv_bumpAll (by decide +kernel), still_powerUpOutputs, p2]
  · generalize s2.powerUpOutputs.bumpAll.resetUnits p = s3
    refine mvSetFlag (mvPut (mvPut (Moves.step ?_ mv_keepProgram (by decide +kernel)) (by decide +kernel)) (by decide +kernel)) (by cases p <;> decide +kernel)
    exact mvIte (m3 _ _ _ _ _) (Moves.step (Moves.step (m3 _ _ _ _ _) mv_endAosContainment (by decide +kernel)) mv_endAosContainment (by decide +kernel))
  · generalize State.keepProgram _ _ = x
    unfold State.cause State.setFlag
    have h : (((x.put Reg.GAL_STATUS_SR 2).put Reg.MAG_STATUS_MAG_STATE (if s.mag.module.isSome = true then 7 else 0))).get Reg.GAL_STATUS_SR = 2 := by
      rw [get_put_apart (by decide +kernel) (by decide), get_put_same (by decide +kernel) (by decide)]
      rfl
    cases p
    · exact (get_put_apart (by decide +kernel) (by decide)).trans h
    · exact (get_put_apart (by decide +kernel) (by decide)).trans h
  · unfold State.flag State.cause State.setFlag
    generalize State.put _ Reg.MAG_STATUS_MAG_STATE _ = x
    cases p
    · rw [get_put_same (by decide +kernel) (by decide)]
      decide
    · rw [get_put_same (by decide +kernel) (by decide)]
      decide

/-- Clearing the rings leaves no read outstanding (02 R42; 08 R216). -/
theorem hqReset_reads {s : State} : s.hqReset.pcie.reads = [] := by
  unfold State.hqReset
  dsimp only
  rw [mv_loadSanitize.pcie (by decide +kernel), put_pcie, mv_pageReset.pcie (by decide +kernel)]
  exact ite_both (P := fun t => (State.pcie t).reads = []) (by rw [mv_endArchive.pcie (by decide +kernel)]) rfl

/-- What a reset of a function leaves of its configuration space (02 R42; 08 R222). -/
theorem resetFn_rd {s : State} {fn k : Nat} (h : isCfg fn k = true)
    (hk : ∀ f ∈ [Reg.CFG_ID_WORD, Reg.CFG_SUBSYS, Reg.CFG_CONT_STATUS_WORD, Reg.CFG_BAR2_LO_WORD, Reg.CFG_BAR2_HI_WORD, Reg.CFG_RBAR_CTL_WORD],
      ¬ f.holds k) : (s.resetFn fn).rd k = regReset k := by
  have one : ∀ (f g : Fld) {u : State} {v i : Nat}, g ∈ [Reg.CFG_ID_WORD, Reg.CFG_SUBSYS, Reg.CFG_CONT_STATUS_WORD, Reg.CFG_BAR2_LO_WORD, Reg.CFG_BAR2_HI_WORD, Reg.CFG_RBAR_CTL_WORD] →
      (f.base = g.base ∧ f.stride = g.stride ∧ f.count = g.count) → (u.put f v i).rd k = u.rd k := by
    intro f g u v i hg h
    refine rd_put_apart ?_
    intro ⟨j, hj, e⟩
    exact hk g hg ⟨j, by omega, by rw [e, h.1, h.2.1]⟩
  unfold State.resetFn State.setFlag State.keepFlds
  dsimp only [List.foldl]
  have base : ∀ a b c d : Nat, (((((s.clearRegs (fun k => !isCfg fn k)).put Reg.CFG_CONT_STATUS_CAUSE_AOS a fn).put Reg.CFG_CONT_STATUS_CONTAINED b fn).put
      Reg.CFG_ID_VENDOR c fn).put Reg.CFG_SUBSYS d fn).rd k = regReset k := by
    intro a b c d
    rw [one Reg.CFG_SUBSYS Reg.CFG_SUBSYS (by decide) ⟨rfl, rfl, rfl⟩, one Reg.CFG_ID_VENDOR Reg.CFG_ID_WORD (by decide) ⟨rfl, rfl, rfl⟩,
      one Reg.CFG_CONT_STATUS_CONTAINED Reg.CFG_CONT_STATUS_WORD (by decide) ⟨rfl, rfl, rfl⟩, one Reg.CFG_CONT_STATUS_CAUSE_AOS Reg.CFG_CONT_STATUS_WORD (by decide) ⟨rfl, rfl, rfl⟩,
      rd_clearRegs, if_neg (by simp [h])]
  have fresh : ∀ u : State, u.rd k = regReset k → u.freshBar2.rd k = regReset k := by
    intro u hr
    unfold State.freshBar2 State.setBar2Size
    dsimp only
    rw [one Reg.CFG_BAR2_HI_ADDR Reg.CFG_BAR2_HI_WORD (by decide) ⟨rfl, rfl, rfl⟩,
      one Reg.CFG_BAR2_LO_ADDR Reg.CFG_BAR2_LO_WORD (by decide) ⟨rfl, rfl, rfl⟩,
      one Reg.CFG_RBAR_CTL_SIZE Reg.CFG_RBAR_CTL_WORD (by decide) ⟨rfl, rfl, rfl⟩, hr]
  exact ite_both (P := fun t => State.rd t k = regReset k) (fresh _ (base _ _ _ _)) (base _ _ _ _)

/-- Hot reset and FLR of function 0: the rings, the reads and the function's configuration space (02 R42; 08 R222). -/
theorem resetHost_reads {s : State} : s.resetHost.pcie.reads = [] := by
  unfold State.resetHost
  dsimp only
  rw [mv_resetFn.pcie (by decide +kernel), mv_bumpHost.pcie (by decide +kernel)]
  have h : s.hqReset.emptyHostSlots.pcie.reads = [] := by rw [mv_emptyHostSlots.pcie (by decide +kernel), hqReset_reads]
  exact ite_both (P := fun t => (State.pcie t).reads = []) (by rw [mv_efcDrop.pcie (by decide +kernel)]; exact h) h

theorem resetHost_rd {s : State} {k : Nat} (h : isCfg 0 k = true)
    (hk : ∀ f ∈ [Reg.CFG_ID_WORD, Reg.CFG_SUBSYS, Reg.CFG_CONT_STATUS_WORD, Reg.CFG_BAR2_LO_WORD, Reg.CFG_BAR2_HI_WORD, Reg.CFG_RBAR_CTL_WORD],
      ¬ f.holds k) : s.resetHost.rd k = regReset k := by
  unfold State.resetHost
  exact resetFn_rd h hk

/-- A hot reset (02 R42; 08 R222). -/
theorem hotReset_facts {s : State} : s.hotReset.pcie.linkUp = false ∧ s.hotReset.pcie.reads = [] ∧
    s.hotReset.get Reg.RST_CAUSE_HOT = 1 ∧ s.hotReset.get Reg.PCIE_STATUS_RATE = 0 := by
  have key : ∀ v w : State, v.pcie.reads = [] →
      w = (((v.put Reg.PCIE_STATUS_RATE 0).put Reg.PCIE_STATUS_WIDTH 0).setFlag Reg.PCIE_STATUS_FLIT false) → 
      (({ w with pcie := { w.pcie with linkUp := false } } : State).cause Reg.RST_CAUSE_HOT).pcie.linkUp = false ∧
      (({ w with pcie := { w.pcie with linkUp := false } } : State).cause Reg.RST_CAUSE_HOT).pcie.reads = [] ∧
      (({ w with pcie := { w.pcie with linkUp := false } } : State).cause Reg.RST_CAUSE_HOT).get Reg.RST_CAUSE_HOT = 1 ∧
      (({ w with pcie := { w.pcie with linkUp := false } } : State).cause Reg.RST_CAUSE_HOT).get Reg.PCIE_STATUS_RATE = 0 := by
    intro v w h hw
    have h1 : w.pcie.reads = [] := by rw [hw]; unfold State.setFlag; rw [put_pcie, put_pcie, put_pcie, h]
    have h2 : w.get Reg.PCIE_STATUS_RATE = 0 := by
      rw [hw]
      unfold State.setFlag
      rw [get_put_apart (by decide +kernel) (by decide), get_put_apart (by decide +kernel) (by decide),
        get_put_same (by decide +kernel) (by decide)]
      rfl
    unfold State.cause State.setFlag
    rw [put_pcie]
    refine ⟨rfl, h1, ?_, ?_⟩
    · rw [get_put_same (by decide +kernel) (by decide)]; rfl
    · rw [get_put_apart (by decide +kernel) (by decide), get_mk, h2]
  unfold State.hotReset
  exact key _ _ (ite_both (P := fun t => (State.pcie t).reads = []) (by rw [mv_resetFn.pcie (by decide +kernel)]; exact resetHost_reads) resetHost_reads) rfl

/-! ### Unit resets -/

theorem still_page {u w : State} {n : Nat} (h : still w.pwr = still u.pwr) : still (w.pageReset n).pwr = still u.pwr := by
  rw [still_of mv_pageReset (by decide +kernel), h]

theorem still_resetClk {s : State} : still s.resetClk.pwr = still s.pwr := by
  have key : ∀ u : State, still u.pwr = still s.pwr →
      still (({ u with pwr := { u.pwr with sensRefclk := u.flag Reg.CLK_SENS_REFCLK_EN } } : State).budget).pwr = still s.pwr := by
    intro u h
    rw [still_of mv_budget (by decide +kernel), ← h]
    rfl
  unfold State.resetClk
  refine key _ ?_
  rw [still_of (mv_keepFlds (mv_pageReset (s := s) (n := 1)) (by decide +kernel)) (by decide +kernel)]

theorem still_resetOch {s : State} : still s.resetOch.pwr = still s.pwr := by
  have key : ∀ u : State, still u.pwr = still s.pwr → still (({ u with och := u.och.afterReset } : State).pageReset 10).pwr = still s.pwr :=
    fun u h => still_page (u := s) h
  unfold State.resetOch
  exact key _ (by rw [still_lasersOff, still_of mv_cutArchive (by decide +kernel)])

theorem still_resetSrv {s : State} : still s.resetSrv.pwr = still s.pwr := by
  have key : ∀ u : State, still u.pwr = still s.pwr → still ((({ u with srv := {} } : State).pageReset 11).commitAll).pwr = still s.pwr := by
    intro u h
    rw [still_of mv_commitAll (by decide +kernel)]
    exact still_page (u := s) h
  unfold State.resetSrv
  exact key _ still_loopsOff

theorem still_resetMot {s : State} : still s.resetMot.pwr = still s.pwr := by
  have key : ∀ u : State, still u.pwr = still s.pwr →
      still (({ u with mot := u.mot.afterReset, pwr := { u.pwr with axesOn := [] } } : State).pageReset 12).pwr = still s.pwr :=
    fun u h => still_page (u := s) (Eq.trans rfl h)
  have h1 : ∀ (u : State) (i j : Nat), (u.bridgesOff i j).pwr = u.pwr := fun u i j => rfl
  unfold State.resetMot
  exact key _ (by rw [h1, still_spindleOff])

theorem still_channelsOff {s : State} : still s.channelsOff.pwr = still s.pwr := by
  have key : ∀ u : State, still u.pwr = still s.pwr → still ({ u with pwr := { u.pwr with nandOn := false } } : State).pwr = still s.pwr :=
    fun u h => Eq.trans rfl h
  unfold State.channelsOff
  exact key _ (fold_still (fun t x => by rw [put_pwr, put_pwr]))

theorem still_resetMag {s : State} : still s.resetMag.pwr = still s.pwr := by
  have key : ∀ u : State, still u.pwr = still s.pwr → still ((u.put Reg.MAG_STATUS_MAG_STATE (if s.mag.module.isSome then 7 else 0)).loadSanitize.budget).pwr = still s.pwr := by
    intro u h
    rw [still_of mv_budget (by decide +kernel), still_of mv_loadSanitize (by decide +kernel), put_pwr, h]
  have fin : ∀ u : State, still u.pwr = still s.pwr → still (({ u with mag := u.mag.unmounted } : State).pwr) = still s.pwr := fun u h => h
  unfold State.resetMag
  exact key _ (still_page (u := s) (by rw [still_channelsOff]; exact fin _ (by rw [still_of mv_mapForget (by decide +kernel), still_of mv_dropStaged (by decide +kernel)])))

theorem still_resetUnit {s : State} {n : Nat} : still (s.resetUnit n).pwr = still s.pwr := by
  have cmp : ∀ u : State, still u.pwr = still s.pwr → still (({ u with cmp := {} } : State).pageReset 4).pwr = still s.pwr :=
    fun u h => still_page (u := s) h
  unfold State.resetUnit
  split
  · exact still_resetClk
  · exact still_of mv_resetLane (by decide +kernel)
  · exact still_of mv_resetCap (by decide +kernel)
  · exact cmp _ (still_of mv_haltCapture (by decide +kernel))
  · exact still_of mv_resetGal (by decide +kernel)
  · exact still_of mv_resetPair (by decide +kernel)
  · exact still_of mv_hqReset (by decide +kernel)
  · exact still_resetMag
  · exact still_of mv_resetMap (by decide +kernel)
  · exact still_resetOch
  · exact still_resetSrv
  · exact still_resetMot
  · exact still_of mv_resetSec (by decide +kernel)
  · exact still_of mv_resetEfc (by decide +kernel)
  · exact still_of mv_resetMbx (by decide +kernel)
  · exact still_of mv_resetCal (by decide +kernel)
  · exact still_of (mv_keepFlds (mv_pageReset (s := s) (n := 17)) (by decide +kernel)) (by decide +kernel)
  · rfl

/-- A unit reset that completes leaves the list of those that run (02 R45). -/
theorem finishUnitReset_list {s : State} {n : Nat} :
    (s.finishUnitReset n).pwr.unitReset = s.pwr.unitReset.filter (· != n) := by
  unfold State.finishUnitReset
  dsimp only
  rw [mv_showUnitReset.pwr (by decide +kernel)]
  have h1 : still ((if n = 7 then s else s.cutWork n).resetUnit n).pwr = still s.pwr :=
    still_resetUnit.trans (ite_both (P := fun t => still (State.pwr t) = still s.pwr) rfl (still_of mv_cutWork (by decide +kernel)))
  have key : ∀ u w : State, w.pwr = u.pwr → still u.pwr = still s.pwr →
      (({ w with pwr := { w.pwr with unitReset := w.pwr.unitReset.filter (· != n) } } : State).startEnabled n).pwr.unitReset =
        s.pwr.unitReset.filter (· != n) := by
    intro u w h h2
    have h3 := congrArg PowerSt.unitReset (still_startEnabled (s := ({ w with pwr := { w.pwr with unitReset := w.pwr.unitReset.filter (· != n) } } : State)) (n := n))
    have h4 := congrArg PowerSt.unitReset h2
    simp only [still_f_unitReset] at h3 h4
    rw [h3, h, h4]
  exact key _ _ rfl h1

/-- A completed reset of a unit without an enable bit: what the unit's own reset leaves, and the unit no longer marked failed. -/
theorem finishUnitReset_rd {s : State} {k : Nat} (h1 : k ≠ Reg.TOP_UNIT_FAILED_WORD.base) (h2 : ¬ Reg.RST_UNIT_RESET_RESET.holds k) :
    (s.finishUnitReset 17).rd k = ((s.cutWork 17).resetUnit 17).rd k := by
  have key : ∀ u : State, ∀ v : Word,
      ((({ u.wr Reg.TOP_UNIT_FAILED_WORD.base v with pwr := { (u.wr Reg.TOP_UNIT_FAILED_WORD.base v).pwr with
        unitReset := (u.wr Reg.TOP_UNIT_FAILED_WORD.base v).pwr.unitReset.filter (· != 17) } } : State).startEnabled 17).showUnitReset).rd k = u.rd k := by
    intro u v
    unfold State.showUnitReset
    rw [rd_put_apart h2]
    exact rd_wr_ne h1
  unfold State.finishUnitReset
  rw [if_neg (by decide)]
  exact key _ _

theorem finishUnitReset_failed {s : State} : (s.finishUnitReset 17).unitFailed 17 = false := by
  have ap : ∀ y : Nat, y &&& 2 ^ 17 = 2 ^ 17 * (y / 2 ^ 17 % 2) := by
    intro y
    apply Nat.eq_of_testBit_eq
    intro i
    rw [Nat.testBit_and, Nat.testBit_two_pow, Nat.testBit_two_pow_mul]
    by_cases h : i = 17
    · subst h
      rw [Nat.testBit_eq_decide_div_mod_eq]
      rcases Nat.mod_two_eq_zero_or_one (y / 2 ^ 17) with g | g <;> rw [g] <;> simp
    · by_cases g : i < 17
      · simp [show ¬ 17 = i by omega, show ¬ 17 ≤ i by omega]
      · rw [Nat.testBit_lt_two_pow (x := y / 2 ^ 17 % 2) (i := i - 17)]
        · simp [show ¬ 17 = i by omega]
        · exact Nat.lt_of_lt_of_le (Nat.mod_lt _ (show 2 > 0 by decide)) (Nat.pow_le_pow_right (n := 2) (by decide) (show 1 ≤ i - 17 by omega))
  have bits : ∀ x : Nat, x < 2 ^ 32 → (BitVec.ofNat 32 (x - (x &&& 2 ^ 17))).toNat &&& 2 ^ 17 = 0 := by
    intro x hx
    rw [ap x, BitVec.toNat_ofNat, Nat.mod_eq_of_lt (by omega), ap]
    omega
  have key : ∀ u w : State, w = u.wr Reg.TOP_UNIT_FAILED_WORD.base
      (BitVec.ofNat 32 ((u.rd Reg.TOP_UNIT_FAILED_WORD.base).toNat - ((u.rd Reg.TOP_UNIT_FAILED_WORD.base).toNat &&& 2 ^ 17))) →
      ((({ w with pwr := { w.pwr with unitReset := w.pwr.unitReset.filter (· != 17) } } : State).startEnabled 17).showUnitReset).unitFailed 17 = false := by
    intro u w hw
    unfold State.unitFailed State.showUnitReset
    rw [rd_put_apart (by intro ⟨i, hi, e⟩; revert e; simp [Reg.RST_UNIT_RESET_RESET, Reg.TOP_UNIT_FAILED_WORD])]
    show ((w.rd Reg.TOP_UNIT_FAILED_WORD.base).toNat &&& 2 ^ 17 != 0) = false
    rw [hw, rd_wr_same, bits _ (BitVec.isLt _)]
    rfl
  unfold State.finishUnitReset
  rw [if_neg (by decide)]
  exact key _ _ rfl

end Sys2Proof.Laws
end

