-- ==== Sys2Proof/Laws/Lanes.lean ====
section
/-!
SUPPORT. What receiving a block leaves of a lane (03 R76, R87, R88): the part of it that its port sees, its receiver's state.
-/
set_option Elab.async false

namespace Sys2Proof.Laws
open Sys2Proof Sys2Proof.Machine

theorem lane_setLane {s : State} {n m : Nat} {x : LaneSt} : (s.setLane n x).lane m = if m = n then x else s.lane m := by
  unfold State.setLane State.lane
  by_cases h : m = n
  · rw [if_pos h, h]
    exact sget_sput_same _ _ _ _
  · rw [if_neg h]
    exact sget_sput_ne _ _ _ _ _ h

/-- Lanes depend on the part `lanes` only. -/
theorem lane_congr {s t : State} (h : t.lanes = s.lanes) {m : Nat} : t.lane m = s.lane m := by
  unfold State.lane
  rw [h]

/-- What a lane's port sees of it. -/
def seen (x : LaneSt) : Bool × Bool × Option Nat × Bool × List Word64 × Bool × Nat :=
  (x.joined, x.rejoining, x.line, x.accepted, x.group, x.groupBad, x.groupsDone)

theorem seen_setLane {s : State} {n m : Nat} {x : LaneSt} (h : seen x = seen (s.lane n)) :
    seen ((s.setLane n x).lane m) = seen (s.lane m) := by
  rw [lane_setLane]
  by_cases g : m = n
  · rw [if_pos g, g, h]
  · rw [if_neg g]

theorem seen_relayPush {s : State} {n m : Nat} {b : LineBlock} : seen ((s.relayPush n b).lane m) = seen (s.lane m) := by
  have key : ∀ x : LaneSt, seen x = seen (s.lane n) →
      seen ((((s.setLane n x).inc Reg.LANE_L_EB_SLIPS n).event Reg.LANE_L_STATUS_EB_SLIP n).lane m) = seen (s.lane m) := by
    intro x h
    rw [lane_congr (s := s.setLane n x) (by simp [State.inc, State.add]), seen_setLane h]
  unfold State.relayPush
  exact ite_both (P := fun t => seen (State.lane t m) = seen (s.lane m)) (key _ rfl) (seen_setLane rfl)

theorem lane_showTx {s : State} {n m : Nat} : (s.showTx n).lane m = s.lane m := lane_congr (mv_showTx.lanes (by decide +kernel))

theorem seen_relayBlock {s : State} {n m : Nat} {a b : Bool} {d : Word64} :
    seen ((s.relayBlock n a b d).lane m) = seen (s.lane m) := by
  unfold State.relayBlock
  refine ite_both (P := fun t => seen (State.lane t m) = seen (s.lane m)) rfl ?_
  dsimp only
  refine ite_both (P := fun t => seen (State.lane t m) = seen (s.lane m)) seen_relayPush ?_
  refine ite_both (P := fun t => seen (State.lane t m) = seen (s.lane m)) rfl ?_
  refine ite_both (P := fun t => seen (State.lane t m) = seen (s.lane m)) ?_ ?_
  · rw [seen_relayPush, lane_showTx]
    exact seen_setLane rfl
  · exact ite_both (P := fun t => seen (State.lane t m) = seen (s.lane m)) rfl seen_relayPush

theorem seen_sendBlocks {s : State} {n m : Nat} {bs : List LineBlock} : seen ((s.sendBlocks n bs).lane m) = seen (s.lane m) := by
  have key : ∀ x : LaneSt, seen x = seen (s.lane n) → ∀ o, seen (({ s.setLane n x with outbox := o } : State).lane m) = seen (s.lane m) :=
    fun x h o => seen_setLane h
  unfold State.sendBlocks
  dsimp only
  refine key _ ?_ _
  exact rfl

theorem seen_relaySlots {s : State} {n m k : Nat} : seen ((s.relaySlots n k).lane m) = seen (s.lane m) := by
  have drop : ∀ u : State, seen ((u.relayDrop n).2.lane m) = seen (u.lane m) := by
    intro u
    unfold State.relayDrop State.ebAdj State.inc State.add
    split
    · split
      · exact congrArg seen (lane_congr (put_lanes ..))
      · rfl
    · rfl
  have slot : ∀ (u : State) (b : List LineBlock), seen ((u.relaySlot n b).lane m) = seen (u.lane m) := by
    intro u b
    cases b with
    | nil => exact seen_sendBlocks
    | cons h r =>
      have key : ∀ x : LaneSt, seen x = seen (u.lane n) → seen (((u.setLane n x).sendBlocks n [h]).lane m) = seen (u.lane m) := by
        intro x hx
        rw [seen_sendBlocks, seen_setLane hx]
      unfold State.relaySlot
      dsimp only
      refine ite_both (P := fun t => seen (State.lane t m) = seen (u.lane m)) ?_ (key _ rfl)
      unfold State.ebAdj State.inc State.add
      rw [lane_congr (put_lanes ..)]
      exact key _ rfl
  induction k generalizing s with
  | zero => rfl
  | succ k ih => exact ih.trans ((slot _ _).trans (drop s))

theorem seen_prbsSlots {s : State} {n m k : Nat} : seen ((s.prbsSlots n k).lane m) = seen (s.lane m) := by
  induction k generalizing s with
  | zero => rfl
  | succ k ih =>
    have key : ∀ x : LaneSt, seen x = seen (s.lane n) → ∀ o, seen (((s.setLane n x).emit o).lane m) = seen (s.lane m) := by
      intro x h o
      rw [lane_congr (s := s.setLane n x) (by simp), seen_setLane h]
    unfold State.prbsSlots
    refine ih.trans ?_
    dsimp only
    refine key _ ?_ _
    exact rfl

/-- Whether a slot is missed depends on the port, on what it sees of the lane, and on two states (03 R80). -/
theorem slotMissed_congr {s t : State} {n k : Nat} (hp : t.ports = s.ports) (hs : t.portState (portOf n) = s.portState (portOf n))
    (hr : t.rxState n = s.rxState n) (hl : seen (t.lane n) = seen (s.lane n)) : t.slotMissed n k = s.slotMissed n k := by
  have hj : (t.lane n).joined = (s.lane n).joined := congrArg (fun x => x.1) hl
  unfold State.slotMissed State.port
  rw [hp, hs, hr, hj]

/-- A received block that misses no deskewed slot: the port stays, and of the registers only counters of the lane move (03 R76, R80, R88). -/
theorem rxCommon_quiet {s : State} {n : Nat} {a b : Bool} {p : Word64} {i : RxInfo} (hn : n < 258) (h : s.rxLive n i = true)
    (q : s.slotMissed n i.slot = false) :
    Moves 0x8000000000000000000000000000000000000630000000100801 s (s.rxCommon n a b p i) ∧
      ∀ m, seen ((s.rxCommon n a b p i).lane m) = seen (s.lane m) := by
  have hx : laneReg n < Reg.LANE_L_STATUS_RX_STATE.count := by unfold laneReg; split <;> simp [Reg.LANE_L_STATUS_RX_STATE] <;> omega
  have m0 : Moves 0x8000000000000000000000000000000000000630000000100801 s (if s.sendsPrbs n then s.prbsSlots n i.txSlots else s) :=
    mvIte (mv_prbsSlots.mono (by decide +kernel)) Moves.refl
  have l0 : ∀ m, seen ((if s.sendsPrbs n then s.prbsSlots n i.txSlots else s).lane m) = seen (s.lane m) :=
    fun m => ite_both (P := fun t => seen (State.lane t m) = seen (s.lane m)) seen_prbsSlots rfl
  unfold State.rxCommon
  dsimp only
  generalize (if s.sendsPrbs n then s.prbsSlots n i.txSlots else s) = u0 at m0 l0
  have r0 : u0.rxState n = s.rxState n := get_of_moves m0 (by decide +kernel) hx
  have h2 : 2 ≤ u0.rxState n ∧ u0.rxState n ≤ 4 := by
    rw [r0]
    simp [State.rxLive] at h
    omega
  rw [if_neg (by omega), if_neg (by omega)]
  have m1 : Moves 0x8000000000000000000000000000000000000630000000100801 s
      (if (u0.relays n && decide (3 ≤ u0.rxState n)) = true then u0.relaySlots n i.txSlots else u0) :=
    mvIte (Moves.step m0 mv_relaySlots (by decide +kernel)) m0
  have l1 : ∀ m, seen ((if (u0.relays n && decide (3 ≤ u0.rxState n)) = true then u0.relaySlots n i.txSlots else u0).lane m) = seen (s.lane m) :=
    fun m => ite_both (P := fun t => seen (State.lane t m) = seen (s.lane m)) (seen_relaySlots.trans (l0 m)) (l0 m)
  generalize (if (u0.relays n && decide (3 ≤ u0.rxState n)) = true then u0.relaySlots n i.txSlots else u0) = u at m1 l1
  rw [if_neg (by omega)]
  have key : ∀ x : LaneSt, seen x = seen (u.lane n) →
      Moves 0x8000000000000000000000000000000000000630000000100801 s ((u.setLane n x).add64 Reg.LANE_L_BLOCKS 1 (laneReg n)) ∧
      ∀ m, seen (((u.setLane n x).add64 Reg.LANE_L_BLOCKS 1 (laneReg n)).lane m) = seen (s.lane m) := by
    intro x hx
    refine ⟨mvAdd64 (Moves.step m1 mv_setLane (by decide +kernel)) (by decide +kernel), fun m => ?_⟩
    rw [lane_congr (s := u.setLane n x) (by unfold State.add64; simp), seen_setLane hx, l1]
  have fin : ∀ w : State, (Moves 0x8000000000000000000000000000000000000630000000100801 s w ∧ ∀ m, seen (w.lane m) = seen (s.lane m)) →
      Moves 0x8000000000000000000000000000000000000630000000100801 s (w.slipCheck n i.slot) ∧
        ∀ m, seen ((w.slipCheck n i.slot).lane m) = seen (s.lane m) := by
    intro w hw
    have e : w.slotMissed n i.slot = s.slotMissed n i.slot := by
      by_cases g : n < 256
      · refine slotMissed_congr (hw.1.ports (by decide +kernel)) ?_ (get_of_moves hw.1 (by decide +kernel) hx) (hw.2 n)
        exact get_of_moves hw.1 (by decide +kernel) (by unfold portOf; simp [Reg.LANE_PORT_STATUS_STATE]; omega)
      · unfold State.slotMissed
        simp [g]
    unfold State.slipCheck
    rw [if_neg (by rw [e, q]; decide)]
    exact hw
  refine fin _ (ite_both (P := fun t => Moves 0x8000000000000000000000000000000000000630000000100801 s t ∧ ∀ m, seen (State.lane t m) = seen (s.lane m)) ?_ (key _ rfl))
  have bump : ∀ w : State, (Moves 0x8000000000000000000000000000000000000630000000100801 s w ∧ ∀ m, seen (w.lane m) = seen (s.lane m)) →
      (Moves 0x8000000000000000000000000000000000000630000000100801 s (w.inc Reg.LANE_L_EB_SLIPS (laneReg n)) ∧
        ∀ m, seen ((w.inc Reg.LANE_L_EB_SLIPS (laneReg n)).lane m) = seen (s.lane m)) := by
    intro w hw
    refine ⟨mvInc hw.1 (by decide +kernel), fun m => ?_⟩
    unfold State.inc State.add
    rw [lane_congr (put_lanes ..)]
    exact hw.2 m
  exact bump _ (key _ rfl)

/-! ### The receiver's state -/

theorem laneReg_lt {n : Nat} (h : n < 258) : laneReg n < 514 := by
  unfold laneReg
  split <;> omega

theorem relayPush_get {s : State} {n j : Nat} {b : LineBlock} {f : Fld} (hj : j < f.count)
    (h : (apart Reg.LANE_L_EB_SLIPS f && apart Reg.LANE_L_STATUS_EB_SLIP f && apart Reg.MSIX0_PBA f && apart Reg.MSIX1_PBA f) = true) :
    (s.relayPush n b).get f j = s.get f j := by
  simp only [Bool.and_eq_true] at h
  have key : ∀ x : LaneSt, (((s.setLane n x).inc Reg.LANE_L_EB_SLIPS n).event Reg.LANE_L_STATUS_EB_SLIP n).get f j = s.get f j := by
    intro x
    unfold State.inc State.add
    rw [event_get h.1.1.2 hj h.1.2 h.2, get_put_apart h.1.1.1 hj]
    rfl
  unfold State.relayPush
  exact ite_both (P := fun t => State.get t f j = s.get f j) (key _) rfl

/-- The relay path leaves fields alone that it does not show (03 R87, R88). -/
theorem relayBlock_get {s : State} {n j : Nat} {a b : Bool} {d : Word64} {f : Fld} (hj : j < f.count)
    (h : (apart Reg.LANE_L_EB_SLIPS f && apart Reg.LANE_L_STATUS_EB_SLIP f && apart Reg.MSIX0_PBA f && apart Reg.MSIX1_PBA f) = true)
    (g : apart Reg.LANE_L_STATUS_TX_STATE f = true) : (s.relayBlock n a b d).get f j = s.get f j := by
  have key : ∀ x : LaneSt, ((s.setLane n x).showTx n).get f j = s.get f j := by
    intro x
    unfold State.showTx
    dsimp only
    rw [get_put_apart g hj]
    rfl
  unfold State.relayBlock
  refine ite_both (P := fun t => State.get t f j = s.get f j) rfl ?_
  dsimp only
  refine ite_both (P := fun t => State.get t f j = s.get f j) (relayPush_get hj h) ?_
  refine ite_both (P := fun t => State.get t f j = s.get f j) rfl ?_
  refine ite_both (P := fun t => State.get t f j = s.get f j) ((relayPush_get hj h).trans (key _)) ?_
  exact ite_both (P := fun t => State.get t f j = s.get f j) rfl (relayPush_get hj h)

/-- A good control block takes a LOCKED receiver to SYNCED (03 R76); what the port sees of the lane, and the port, stay. -/
theorem control_facts {s u : State} {n : Nat} {p d : Word64} {i : RxInfo} (hn : n < 258) (h : s.rxLive n i = true)
    (q : s.slotMissed n i.slot = false) (ok : ctlOk d = true) (hu : u = ((s.rxCommon n true false p i).takeControl n d).relayBlock n true false d) :
    u.rxState n = (if s.rxState n = 2 then 3 else s.rxState n) ∧ (∀ m, seen (u.lane m) = seen (s.lane m)) ∧ u.ports = s.ports ∧
      (∀ f j, j < f.count → (f.base == Reg.LANE_PORT_CTL_WORD.base || f.base == Reg.LANE_PORT_STATUS_WORD.base) = true →
        f.stride = 32 → f.count = 32 → fits f = true → u.get f j = s.get f j) := by
  have hx : laneReg n < Reg.LANE_L_STATUS_RX_STATE.count := laneReg_lt hn
  obtain ⟨mq, hl⟩ := rxCommon_quiet (a := true) (b := false) (p := p) hn h q
  have hc : (s.rxCommon n true false p i).rxState n = s.rxState n := get_of_moves mq (by decide +kernel) hx
  generalize hv : s.rxCommon n true false p i = v at hu hc mq hl
  subst hu
  have back : ∀ x : LaneSt, seen x = seen (v.lane n) → ∀ m, seen ((v.setLane n x).lane m) = seen (s.lane m) := fun x h m => (seen_setLane h).trans (hl m)
  have tl : ∀ m, seen ((v.takeControl n d).lane m) = seen (s.lane m) := by
    intro m
    unfold State.takeControl
    rw [if_neg (by simp [ok])]
    dsimp only
    have one : ∀ w : State, seen (w.lane m) = seen (s.lane m) → seen ((if 256 ≤ n then ({ w with pair := { w.pair with down := w.pair.down.filter (· != n - 256) } } : State) else w).lane m) =
        seen (s.lane m) := fun w h => ite_both (P := fun t => seen (State.lane t m) = seen (s.lane m)) h h
    have two : ∀ w : State, seen (w.lane m) = seen (s.lane m) → seen ((if w.rxState n = 2 then w.setRx n 3 else w).lane m) = seen (s.lane m) := by
      intro w h
      refine ite_both (P := fun t => seen (State.lane t m) = seen (s.lane m)) ?_ h
      unfold State.setRx
      rw [lane_congr (put_lanes ..)]
      exact h
    refine one _ (two _ ?_)
    refine back _ ?_ m
    exact rfl
  refine ⟨?_, ?_, ?_, ?_⟩
  · show State.get _ _ _ = _
    rw [relayBlock_get hx (by decide +kernel) (by decide +kernel)]
    unfold State.takeControl
    rw [if_neg (by simp [ok])]
    dsimp only
    have e : ∀ w : State, (if 256 ≤ n then ({ w with pair := { w.pair with down := w.pair.down.filter (· != n - 256) } } : State) else w).get
        Reg.LANE_L_STATUS_RX_STATE (laneReg n) = w.get Reg.LANE_L_STATUS_RX_STATE (laneReg n) := fun w => by
      by_cases g : 256 ≤ n
      · rw [if_pos g]; exact get_mk
      · rw [if_neg g]
    have f : ∀ w : State, w.rxState n = s.rxState n → (if w.rxState n = 2 then w.setRx n 3 else w).get Reg.LANE_L_STATUS_RX_STATE (laneReg n) =
        (if s.rxState n = 2 then 3 else s.rxState n) := by
      intro w hw
      rw [hw]
      by_cases g : s.rxState n = 2
      · rw [if_pos g, if_pos g]
        unfold State.setRx
        rw [get_put_same (by decide +kernel) hx]
        exact Nat.mod_eq_of_lt (by decide)
      · rw [if_neg g, if_neg g]
        exact hw
    rw [e]
    exact f _ hc
  · intro m
    rw [seen_relayBlock, tl]
  · show State.ports (State.relayBlock _ _ _ _ _) = _
    rw [mv_relayBlock.ports (by decide +kernel), mv_takeControl.ports (by decide +kernel), mq.ports (by decide +kernel)]
  · intro f j hj hb hs hn hf
    have fr1 : ∀ {M : Nat}, (frees M Reg.LANE_PORT_CTL_WORD && frees M Reg.LANE_PORT_STATUS_WORD) = true → frees M f = true := by
      intro M hM
      simp only [Bool.and_eq_true] at hM
      simp only [Bool.or_eq_true, beq_iff_eq] at hb
      rcases hb with hb | hb
      · rw [← hM.1]; exact frees_congr hb hs hn
      · rw [← hM.2]; exact frees_congr hb hs hn
    show State.get (State.relayBlock _ _ _ _ _) _ _ = _
    rw [get_of_moves mv_relayBlock (fr1 (by decide +kernel)) hj, get_of_moves mv_takeControl (fr1 (by decide +kernel)) hj,
      get_of_moves mq (fr1 (by decide +kernel)) hj]

/-- A receive row whose block is of its own kind and good (03 R69, R76). -/
theorem rxRow_good {s : State} {n : Nat} {p : Word64} {i : RxInfo} {mine : Word64 → Bool} {good : Word64 → State → State}
    (h : s.rxLive n i = true) (hm : mine (s.peek n p) = true) (ok : ctlOk (s.peek n p) = true) :
    s.rxRow n true false p i mine (fun s d => s.rxControl n d (good d)) =
      .next (good (s.peek n p) (((s.rxCommon n true false p i).takeControl n (s.peek n p)).relayBlock n true false (s.peek n p))) := by
  unfold State.rxRow
  rw [if_neg (by simp [h]), if_neg (by simp [hm])]
  dsimp only
  unfold State.rxControl
  dsimp only
  rw [if_pos ok]

/-! ### Ports -/

theorem port_setPort {s : State} {n m : Nat} {x : PortSt} : (s.setPort n x).port m = if m = n then x else s.port m := by
  unfold State.setPort State.port
  by_cases h : m = n
  · rw [if_pos h, h]
    exact sget_sput_same _ _ _ _
  · rw [if_neg h]
    exact sget_sput_ne _ _ _ _ _ h

theorem port_congr {s t : State} (h : t.ports = s.ports) {m : Nat} : t.port m = s.port m := by
  unfold State.port
  rw [h]

theorem lookup_insertKey {α : Type} {v : α} {m : List (Nat × α)} {k : Nat} : (insertKey m k v).lookup k = some v := by
  induction m with
  | nil => simp [insertKey, List.lookup]
  | cons x r ih =>
    obtain ⟨j, w⟩ := x
    simp only [insertKey]
    split
    · simp [List.lookup]
    · split
      · simp [List.lookup]
      · next h1 h2 =>
        have : (k == j) = false := by simpa using h2
        simp only [List.lookup, this]
        exact ih

theorem mem_insertKey {α : Type} {v : α} {m : List (Nat × α)} {k : Nat} {e : Nat × α} (h : e ∈ insertKey m k v) : e = (k, v) ∨ e ∈ m := by
  induction m with
  | nil => exact .inl (by simpa [insertKey] using h)
  | cons x r ih =>
    obtain ⟨j, w⟩ := x
    simp only [insertKey] at h
    split at h
    · rcases List.mem_cons.mp h with h | h
      · exact .inl h
      · exact .inr h
    · split at h
      · rcases List.mem_cons.mp h with h | h
        · exact .inl h
        · exact .inr (List.mem_cons_of_mem _ h)
      · rcases List.mem_cons.mp h with h | h
        · exact .inr (by rw [h]; exact List.mem_cons_self ..)
        · rcases ih h with h | h
          · exact .inl h
          · exact .inr (List.mem_cons_of_mem _ h)

/-- The lanes of a port that deliver depend on its width and on what the port sees of its lanes. -/
theorem joinedLanes_congr {s t : State} {p : Nat} (hw : t.get Reg.LANE_PORT_CTL_WIDTH p = s.get Reg.LANE_PORT_CTL_WIDTH p)
    (hl : ∀ m, (t.lane m).joined = (s.lane m).joined) : t.joinedLanes p = s.joinedLanes p := by
  unfold State.joinedLanes State.rxWidth
  rw [hw]
  congr 1
  funext k
  exact hl _

theorem joined_of_seen {x y : LaneSt} (h : seen x = seen y) : x.joined = y.joined ∧ x.rejoining = y.rejoining ∧ x.line = y.line ∧
    x.accepted = y.accepted ∧ x.group = y.group ∧ x.groupBad = y.groupBad ∧ x.groupsDone = y.groupsDone := by
  simp only [seen, Prod.mk.injEq] at h
  exact h

end Sys2Proof.Laws
end

