-- ==== Sys2Proof/Laws/Ring.lean ====
section
/-!
SUPPORT. What ending a ring command does to the outstanding commands and to the error log (09 R241, R245, R249).
-/
set_option Elab.async false
namespace Sys2Proof.Laws
open Sys2Proof Sys2Proof.Machine

/-- Outstanding commands and the error log are the same. -/
def sameRing (s t : State) : Prop := t.hq.cmds = s.hq.cmds ∧ t.hq.log = s.hq.log

theorem sameRing_trans {s t u : State} (a : sameRing s t) (b : sameRing t u) : sameRing s u := ⟨b.1.trans a.1, b.2.trans a.2⟩

theorem sameRing_hq {s t : State} (h : t.hq = s.hq) : sameRing s t := by unfold sameRing; rw [h]; exact ⟨rfl, rfl⟩

theorem setCq_ring {s : State} {m : Nat} {q : CqSt} : sameRing s (s.setCq m q) := ⟨rfl, rfl⟩

theorem countHeld_ring {s : State} : sameRing s s.countHeld := sameRing_hq (by unfold State.countHeld; simp)

theorem readFull_ring {s : State} {m : Nat} : sameRing s ((s.setFlag Reg.HQ_CQ_STATUS_FULL true m).readHead m) := by
  refine sameRing_hq ?_
  unfold State.readHead State.setFlag
  refine ite_both (P := fun t => State.hq t = _) (by simp) ?_
  unfold State.issueRead
  simp

theorem postCpl_ring {s : State} {m : Nat} {e : CplEntry} : sameRing s (s.postCpl m e) := by
  have w : sameRing s (s.writeCpl m e) := sameRing_hq (by unfold State.writeCpl; simp)
  unfold State.postCpl
  dsimp only
  refine ite_both ?_ ?_
  · refine sameRing_trans w ?_
    unfold State.cplMessage
    refine ite_both (sameRing_hq rfl) (ite_both (sameRing_hq (by simp)) setCq_ring)
  · refine sameRing_trans ?_ countHeld_ring
    refine ite_both ?_ setCq_ring
    exact sameRing_trans setCq_ring readFull_ring

/-- Ending a command takes it out of the outstanding ones; a success logs nothing (09 R241, R249). -/
theorem complete_cmds {s : State} {c : Cmd} {st r d : Nat} {p : Bool} :
    (s.complete c st r p d).hq.cmds = s.hq.cmds.filter (fun x => x.tag != c.tag) := by
  unfold State.complete
  dsimp only
  refine ite_both (P := fun t : State => t.hq.cmds = _) rfl (ite_both (P := fun t : State => t.hq.cmds = _) ?_ ?_)
  · rw [postCpl_ring.1]
  · rw [postCpl_ring.1]
    refine ite_both (P := fun t : State => t.hq.cmds = _) ?_ rfl
    unfold State.freezeRing State.dropFetches
    simp [State.setFlag, State.inc, State.add]
    rfl

theorem complete_log {s : State} {c : Cmd} {r d : Nat} {p : Bool} : (s.complete c 0 r p d).hq.log = s.hq.log := by
  unfold State.complete
  dsimp only
  refine ite_both (P := fun t : State => t.hq.log = _) rfl ?_
  refine (congrArg (fun t : State => t.hq.log) (if_pos rfl)).trans ?_
  rw [postCpl_ring.2]

/-- Outstanding commands only end, and nothing is logged. -/
def fewer (s t : State) : Prop := (∀ c ∈ t.hq.cmds, c ∈ s.hq.cmds) ∧ t.hq.log = s.hq.log

theorem fewer_trans {s t u : State} (a : fewer s t) (b : fewer t u) : fewer s u :=
  ⟨fun c h => a.1 c (b.1 c h), b.2.trans a.2⟩

theorem fewer_of_ring {s t : State} (h : sameRing s t) : fewer s t := ⟨fun c hc => by rw [← h.1]; exact hc, h.2⟩

theorem fewer_fold {α : Type} {l : List α} {g : State → α → State} {s : State} (h : ∀ t x, fewer t (g t x)) :
    fewer s (l.foldl g s) := by
  induction l generalizing s with
  | nil => exact fewer_of_ring ⟨rfl, rfl⟩
  | cons x r ih => exact fewer_trans (h s x) ih

theorem fewer_complete {s : State} {c : Cmd} {r d : Nat} {p : Bool} : fewer s (s.complete c 0 r p d) :=
  ⟨fun x hx => by rw [complete_cmds] at hx; exact (List.mem_filter.mp hx).1, complete_log⟩

theorem fewer_sec {s : State} {x : SecSt} : fewer s { s with sec := x } := ⟨fun _ h => h, rfl⟩

theorem fewer_unbind {s : State} {tag : Nat} : fewer s (s.unbind tag) := by
  unfold State.unbind
  dsimp only
  refine fewer_trans ?_ (fewer_fold fun t k => ?_)
  · refine fewer_trans ?_ fewer_sec
    exact fewer_trans fewer_sec (fewer_fold fun t b => fewer_of_ring (sameRing_hq (mv_countBound.hq (by decide +kernel))))
  · split
    · exact fewer_complete
    · exact fewer_of_ring ⟨rfl, rfl⟩

theorem cmd_none_of_fewer {s t : State} {tag : Nat} (h : fewer s t) (n : s.cmd tag = none) : t.cmd tag = none := by
  unfold State.cmd at *
  rw [List.find?_eq_none] at n ⊢
  exact fun x hx => n x (h.1 x hx)

theorem cmd_tag {s : State} {tag : Nat} {c : Cmd} (h : s.cmd tag = some c) : c.tag = tag := by
  unfold State.cmd at h
  simpa using List.find?_some h

/-- A command that completes is outstanding no more (09 R241). -/
theorem finish_gone {s : State} {tag st r d : Nat} {p : Bool} : (s.finish tag st r p d).cmd tag = none := by
  unfold State.finish
  dsimp only
  refine cmd_none_of_fewer fewer_unbind ?_
  split
  · next c hc =>
    unfold State.cmd
    rw [List.find?_eq_none, complete_cmds]
    intro x hx
    have := (List.mem_filter.mp hx).2
    rw [cmd_tag hc] at this
    simpa using this
  · next h => exact h

/-- A success logs nothing, and ends commands only (09 R249). -/
theorem fewer_finish {s : State} {tag r d : Nat} {p : Bool} : fewer s (s.finish tag 0 r p d) := by
  unfold State.finish
  dsimp only
  refine fewer_trans ?_ fewer_unbind
  split
  · exact fewer_complete
  · exact fewer_of_ring ⟨rfl, rfl⟩

/-- A command that completes with SUCCESS is done, where nothing was logged on the way. -/
theorem finish_done {s u : State} {tag r d : Nat} {p : Bool} (h : u.hq.log = s.hq.log) : Done s (u.finish tag 0 r p d) tag :=
  ⟨finish_gone, fewer_finish.2.trans h⟩

/-- A ring command that is taken up runs its meaning (09 R245). -/
theorem onCmd_ready {s : State} {tag op : Nat} {c : Cmd} {f : State → Cmd → State} (h : Ready s tag op c) :
    s.onCmd tag op f = .next (f (s.setCmd { c with begun := true }) c) := by
  unfold State.onCmd
  rw [h.out]
  dsimp only
  rw [if_neg (by simp [h.opcode, h.may, h.saving]), if_neg (by simp [h.failed])]
  refine if_neg ?_
  intro a
  simp only [Bool.or_eq_true, Bool.and_eq_true, Bool.not_eq_true', h.cores, h.held, h.service, decide_eq_true_eq, or_false, false_or,
    Bool.true_eq_false, Bool.false_eq_true] at a
  rcases a with a | a
  · have := h.send a.1
    rw [this] at a
    exact absurd a.2 (by decide)
  · exact h.room a.1 a.2

theorem setCmd_log {s : State} {c : Cmd} : (s.setCmd c).hq.log = s.hq.log := rfl

end Sys2Proof.Laws
end

