-- ==== Sys2Proof/WellFormed.lean ====
section
/-!
DEFINITION. Well-formed commands: the operands that no sender outside the block can send are out.  One arm per constructor; `true` where
every operand of its type can come.
-/
namespace Sys2Proof

/-- A 14-bit code of a supply sense input (02 R51). -/
def sense (c : Nat) : Bool := decide (c < 16384)

/-- A junction temperature as `PWR.TEMP` codes it (02). -/
def tempOk (t : Nat) : Bool := decide (t < 4096)

/-- Damaged places of a galley line: 72 bytes of its codeword and three tag copies (06 R156, R157). -/
def damageOk (d : Damage) : Bool := d.all (fun e => e.2.all (fun p => decide (p.1 < 75)))

/-- A read of `n` bytes answered in full, or failed. -/
def readOf (n : Nat) (r : HostRead) : Bool :=
  match r with
  | .data b => b.length == n
  | .failed b _ => decide (b.length ≤ n)

/-- A read of at least `n` bytes answered in full, or failed: an entry comes with its descriptor list (09 R236). -/
def readFrom (n : Nat) (r : HostRead) : Bool :=
  match r with
  | .data b => decide (n ≤ b.length)
  | .failed _ _ => true

/-- A module has four root copies of two slots and numbers its dies apart (10 R262, R278). -/
def moduleOk (m : Module) : Bool :=
  m.roots.length == 4 && m.roots.all (fun r => r.length == 2) && m.dies.all (fun d => decide (d.num < 512)) &&
    (m.dies.map Die.num).eraseDups.length == m.dies.length

/-- The command can be sent. -/
def Instr.wf (i : Instr) : Bool :=
  match i with
  | .registerWrite _ addr _ hi => addr % (if hi.isSome then 8 else 4) == 0
  | .eventBitClear _ addr _ => addr % 4 == 0
  | .read64bitLowWord _ addr wide => addr % (if wide then 8 else 4) == 0
  | .configRequest _ off _ => off % 4 == 0 && decide (off < 4096)
  | .topModeWrite _ => true
  | .unitEnableWrite _ _ => true
  | .unitStartupComplete _ => true
  | .unitDrainComplete _ => true
  | .unitReset _ => true
  | .unitResetDrainTimeout => true
  | .powerOnReset => true
  | .porRelease _ _ _ => true
  | .perstNAssert => true
  | .sysRstNAssert => true
  | .resetDeassert _ _ _ => true
  | .hotReset => true
  | .flrFunction0 => true
  | .flrFunction1 => true
  | .pllLock _ => true
  | .pllLossOfLock _ => true
  | .lanePllLoss _ => true
  | .refclkLost => true
  | .aosLockstepMismatch => true
  | .mc0HeartbeatTimeout => true
  | .supplyFailDeclared vbus holdup ibus => sense vbus && sense holdup && sense ibus
  | .supplyWarnDeclared vbus => sense vbus
  | .supplyWarnClear vbus => sense vbus
  | .supplyReturned vbus holdup ibus => sense vbus && sense holdup && sense ibus
  | .holdupReserveReached holdup => sense holdup
  | .chrysalisSaveComplete => true
  | .holdupBelowMinimum holdup => sense holdup
  | .pwrBusThreshWrite _ => true
  | .writeBufferSpaceFreed _ _ _ => true
  | .tWarnReached temp => tempOk temp
  | .tWarnClear temp => tempOk temp
  | .tShutReached temp => tempOk temp
  | .tShutDeferralEnd => true
  | .tTrip temp => tempOk temp
  | .thermalResetRelease temp _ _ => tempOk temp
  | .rxBlockLock _ => true
  | .receiveInvalidSyncHeader _ _ _ _ => true
  | .hiBerClear _ => true
  | .receiveIdle _ _ _ => true
  | .receiveAlign _ _ _ => true
  | .receiveFs _ _ _ => true
  | .fsSkewTimeout _ => true
  | .receiveLs _ _ _ => true
  | .receiveDataBlock _ _ _ => true
  | .receiveFe _ _ _ => true
  | .frameTimeout _ => true
  | .receiveMk _ _ _ => true
  | .receiveTrain _ _ _ => true
  | .laneDrainTimeout _ => true
  | .lanePortCtlWrite _ _ => true
  | .laneEgressChange _ _ => true
  | .laneRetrain _ => true
  | .trainingBurstEnd _ => true
  | .laneCntClr _ => true
  | .prbsTxEnable _ => true
  | .prbsRxEnable _ => true
  | .transmitAlign _ => true
  | .headTransmitLine _ _ line => decide (line < 32768)
  | .pairingLaneDown _ _ => true
  | .triggerEdge _ _ => true
  | .triggerQualifyingEvent _ => true
  | .formeComplete _ => true
  | .colophonRecordReceived _ => true
  | .colophonRecordTimeout _ => true
  | .certTimeReturned => true
  | .capConfigWrite addr _ => addr % 4 == 0
  | .capDisable => true
  | .capCntClr => true
  | .compositorTakeSort => true
  | .assemblyReadComplete _ damaged => damaged.all (fun i => decide (i < 4096))
  | .sortCoded _ => true
  | .compositorMaskWrite _ _ => true
  | .cmpCntClr => true
  | .codedSortDelivery => true
  | .drainThrottleRelease => true
  | .backgroundInitGranule => true
  | .patrolScrubRead dmg => damageOk dmg
  | .galErrorLogFree _ => true
  | .galArbWmWrite _ => true
  | .galCntClr => true
  | .selfRefreshExit => true
  | .takeRecovery dmg => damageOk dmg
  | .pairRoleEvaluation _ => true
  | .pairClaimResample _ => true
  | .peerHigh => true
  | .epochSend => true
  | .receiveEpochEnd _ _ => true
  | .receivePairHeartbeat _ _ _ => true
  | .pairHeartbeatSend _ => true
  | .epochAckTimeout => true
  | .pairLeavingEnd => true
  | .pairCntClr => true
  | .linkTrained speed width _ _ => decide (1 ≤ speed) && decide (speed ≤ 6) && [1, 2, 4, 8, 16].contains width
  | .bar0AccessBadShape _ _ addr => decide (addr < 0x4000000)
  | .bar2Read _ _ dmg => damageOk dmg
  | .bar2Write _ _ _ dmg => damageOk dmg
  | .resizableBarWrite _ => true
  | .xwinEnable w => decide (w < 16)
  | .msixPendingSend f vec => decide (vec < (if f.val = 0 then 2048 else 8))
  | .poisonedTlpReceived _ _ => true
  | .completionTimeout tag => decide (tag < 16384)
  | .lateCompletion tag => decide (tag < 16384)
  | .internalDatapathError _ => true
  | .containmentFreeze _ => true
  | .containmentRelease _ _ => true
  | .surpriseLinkDown => true
  | .d3hotEntry _ => true
  | .d0Return _ => true
  | .busMasterEnableClear _ => true
  | .busMasterEnableSet _ => true
  | .pcieCntClr => true
  | .doorbellScan => true
  | .summaryLineReceived r => readOf 64 r
  | .doorbellLineReceived _ r => readOf 64 r
  | .hqWake _ => true
  | .cqHeadDoorbellReceived _ r => readOf 4 r
  | .submissionEntryFetch => true
  | .submissionEntryReceived _ slot r => decide (slot < 65536) && readFrom 64 r
  | .cqCoalesceExpiry _ => true
  | .sqResume _ _ => true
  | .hqCntClr => true
  | .write _ _ _ => true
  | .read _ _ => true
  | .flush _ => true
  | .discard _ _ => true
  | .atomicWrite _ _ _ => true
  | .arm _ => true
  | .stop _ => true
  | .release _ => true
  | .releaseHeldComplete _ => true
  | .exportTake _ dmg _ _ => damageOk dmg
  | .galleyRead _ dmg => damageOk dmg
  | .egressPlay _ dmg => damageOk dmg
  | .discLoad _ => true
  | .discEject _ => true
  | .archiveWrite _ _ _ _ => true
  | .archiveRead _ _ => true
  | .sealImago _ => true
  | .archiveVerify _ _ => true
  | .keyLoad _ _ => true
  | .keyClear _ => true
  | .cipher _ _ => true
  | .mac _ _ => true
  | .attest _ => true
  | .abort _ => true
  | .logRead _ => true
  | .featureGet _ => true
  | .featureSet _ => true
  | .ringCreate _ => true
  | .ringDelete _ => true
  | .ringResume _ => true
  | .sanitize _ => true
  | .format _ => true
  | .certRead _ => true
  | .sanitizeResume => true
  | .magazineInserted m => moduleOk m
  | .magazineRemoved => true
  | .mountStart _ => true
  | .mountComplete => true
  | .bufferUnitCommit _ dmg => damageOk dmg
  | .nandProgramComplete _ => true
  | .programEraseFail _ _ _ => true
  | .fold _ _ _ => true
  | .blockRefresh _ _ _ => true
  | .patrolRead _ _ => true
  | .rootWrite => true
  | .channelRetrain _ rate => decide (rate < 8)
  | .backgroundErase _ => true
  | .magDisable => true
  | .magCntClr => true
  | .mapCacheAccess _ _ size w _ _ => decide (0 < size) && (match w with | some b => b.length == size | none => true)
  | .mapFillComplete _ => true
  | .mapFillRetry _ => true
  | .mapDirtyClean _ => true
  | .mapInvalidationComplete => true
  | .mapWaymaskWrite _ _ => true
  | .mapCntClr => true
  | .pilotLock => true
  | .pilotLockLoss => true
  | .samDetected _ _ _ => true
  | .laserFault _ => true
  | .laserPowerOn => true
  | .proofRowVerdict _ row _ _ => decide (row < 320)
  | .folioProofVerdict _ => true
  | .writeFault beams => !beams.isEmpty && beams.all (fun b => decide (b < 16))
  | .writeFaultRecovery _ => true
  | .folioReadRetry _ => true
  | .ochDisable => true
  | .ochCntClr => true
  | .loopAcquireStart _ => true
  | .loopLocked _ _ => true
  | .loopHoldEntry _ => true
  | .loopHoldExit _ => true
  | .loopHoldTimeout _ => true
  | .loopLoss _ => true
  | .acquisitionTimeout _ => true
  | .loopCommit _ => true
  | .coilReversal _ _ => true
  | .coilDwellExpiry _ => true
  | .coilCfgWrite _ _ => true
  | .layerJumpStart _ => true
  | .jumpKickEnd => true
  | .jumpScurvePeak => true
  | .jumpBrakeEnd => true
  | .jumpComplete layer => decide (layer < 12)
  | .jumpTimeout layer => decide (layer < 12)
  | .ffBankSwap _ => true
  | .ffSwapApply _ => true
  | .governorUpdate vbus ibus => sense vbus && sense ibus
  | .governorRise => true
  | .governorThresholdWrite _ _ => true
  | .saturationFault _ => true
  | .serviceModeEnable _ => true
  | .serviceInputLost _ => true
  | .srvDisable => true
  | .srvCntClr => true
  | .spindleStart _ => true
  | .spindleFreqLock => true
  | .spindlePhaseAcquire => true
  | .spindlePhaseLock => true
  | .spindlePhaseLoss => true
  | .spindleZoneChange _ => true
  | .spindleBrakeRegen => true
  | .spindleBrakeShort speed => decide (speed < 65536)
  | .spindleStopped => true
  | .spindleServiceEnable _ _ => true
  | .currentPredictionLimit => true
  | .kineticEnergyUpdate speed => decide (speed < 65536)
  | .seek _ _ => true
  | .sweep _ _ => true
  | .axisStop _ _ => true
  | .axisResume _ _ => true
  | .home _ _ => true
  | .park _ _ => true
  | .axisMoveComplete _ _ => true
  | .axisStandstill _ => true
  | .homeSwitchEdge _ _ => true
  | .homeFail _ _ => true
  | .exchangeStepTimeout => true
  | .discSenseChange _ => true
  | .discReturnAfterReset => true
  | .vdrvUndervoltage => true
  | .vdrvRecovery => true
  | .motPwmWrite _ => true
  | .motDisable => true
  | .motCntClr => true
  | .enginePieceDispatch _ => true
  | .enginePieceComplete _ => true
  | .trngWindowFail _ => true
  | .secCntClr => true
  | .colophonPowerOnReset => true
  | .colophonStartupComplete _ => true
  | .colophonDisable => true
  | .disciplineGate _ _ => true
  | .ppsEdge _ _ => true
  | .ppsLoss => true
  | .holdoverExpiry => true
  | .todArm => true
  | .frameStrobe => true
  | .tdcEdge _ _ _ => true
  | .takeOpenMessage => true
  | .membershipDecision => true
  | .takeCloseMessage => true
  | .colophonHeartbeatSend => true
  | .colophonLinkLost => true
  | .authProvision => true
  | .changeGo _ _ => true
  | .colCntClr => true
  | .efcKeyWrite _ _ => true
  | .program _ _ => true
  | .sectorErase _ _ => true
  | .otpProgram _ _ => true
  | .blankCheck _ _ => true
  | .efcOperationComplete _ => true
  | .efcEraseSuspend _ => true
  | .efcWindowRead _ addr len _ => decide (0x2000000 ≤ addr) && decide (addr + len ≤ 0x4000000) && (len == 4 || len == 8) && addr % len == 0
  | .efcWindowWrite _ addr _ => decide (0x2000000 ≤ addr) && decide (addr < 0x4000000)
  | .efcEccLogFree _ => true
  | .efcAbortAddrClr _ => true
  | .efcCntClr => true
  | .journalAppend journal _ _ => decide (1 ≤ journal) && decide (journal ≤ 4)
  | .coreLockup _ cause _ => decide (cause < 256)
  | .coreWatchdogTimeout _ _ => true
  | .coreRestart _ _ _ => true
  | .coreFirstHeartbeat _ _ _ => true
  | .coreSleep _ => true
  | .colophonCoreLockup => true
  | .mailboxWrite _ _ _ => true
  | .mailboxRead _ _ => true
  | .aosNoticePost => true
  | .quoinTake _ _ => true
  | .quoinRelease _ _ => true
  | .mbxCntClr => true
  | .calTemperatureCheck temps => temps.length == 6 && temps.all tempOk
  | .calRunRequest _ => true
  | .calRunStart => true
  | .calRunComplete _ => true
  | .calSlewStep _ => true
  | .calValueWrite addr _ => addr % 4 == 0
  | .tapReset => true
  | .bypass _ => true
  | .idcode _ => true
  | .samplePreload _ _ => true
  | .extest _ => true
  | .clamp _ => true
  | .highz _ => true
  | .colVddReturn => true
  | .cartPresentChange cart => (match cart with | some c => c.length == 12 | none => true)
  | .serviceInputReturn _ n => decide (n < 16384)
  | .loopSample _ _ => true
  | .pwmPeriod _ => true
  | .triggerLevelInactive _ => true
  | .garbageCollection _ _ _ => true

end Sys2Proof
end

