-- ==== Sys2Proof/Tests/Base.lean ====
section
/-!
SUPPORT. Small states that the tests start from.
-/
namespace Sys2Proof.Tests
open Sys2Proof Sys2Proof.Machine

/-- The state after reset with register fields set: field, element, value. -/
def set (l : List (Fld × Nat × Nat)) (s : State) : State := l.foldl (fun t e => t.put e.1 e.2.2 e.2.1) s

/-- Out of reset: POR released, no reset asserted. -/
def up : State := { State.reset with pwr := { por := false, inReset := false, faultLow := false } }

/-- Out of reset, with register fields set. -/
def at_ (l : List (Fld × Nat × Nat)) : State := set l up

/-- The payload on the line of a block whose bits are `d`, where the 58 bits sent before were 0. -/
def onLine (d : Word64) : Word64 := d ^^^ (d <<< 39) ^^^ (d <<< 58)

/-- What goes with a received block when nothing special happens. -/
def calm : RxInfo := ⟨0, 0, .none⟩

/-- Lane 0 joined to port 0, ALIGNED and deskewed, behind a descrambler that holds zeros; other fields of the lane and of the port given. -/
def onLane (x : LaneSt) (p : PortSt) (l : List (Fld × Nat × Nat)) : State :=
  let s := at_ ([(Reg.LANE_L_STATUS_RX_STATE, 0, 4), (Reg.LANE_PORT_STATUS_STATE, 0, 2), (Reg.LANE_PORT_CTL_WIDTH, 0, 1)] ++ l)
  { s with lanes := [(0, { x with descrambler := 0, sinceLock := 1, joined := true }),
                     (1, { descrambler := 0, sinceLock := 1, joined := true })], ports := [(0, { p with deskewed := true })] }

/-- A frame of one sort, 64 by 64. -/
def frame (n : Nat) : Frame := { num := n, seq := 1, devtime := 0, width := 64, height := 64, cfa := 0, stripes := [⟨true, 0, 64, 1⟩] }

/-- A state that holds frames. -/
def withFrames (l : List Frame) (s : State) : State := { s with cap := { s.cap with frames := l } }

/-- Out of reset with cores and units running, the galley serving, the link up and both functions enabled. -/
def live : State :=
  { at_ [(Reg.MBX_CORE_STATUS_STATE, 0, 2), (Reg.MBX_CORE_STATUS_STATE, 1, 2), (Reg.MBX_CORE_STATUS_STATE, 2, 2),
      (Reg.MBX_CORE_STATUS_STATE, 3, 2), (Reg.MBX_CORE_STATUS_STATE, 4, 2), (Reg.CFG_COMMAND_BME, 0, 1),
      (Reg.CFG_COMMAND_BME, 1, 1), (Reg.CFG_COMMAND_MSE, 0, 1), (Reg.CFG_COMMAND_MSE, 1, 1), (Reg.CAP_STATUS_STATE, 0, 2),
      (Reg.MAG_STATUS_STATE, 0, 2), (Reg.OCH_STATUS_STATE, 0, 2), (Reg.SRV_STATUS_STATE, 0, 2), (Reg.MOT_STATUS_STATE, 0, 2),
      (Reg.SEC_STATUS_STATE, 0, 2), (Reg.COL_STATUS_STATE, 0, 2), (Reg.GAL_STATUS_SR, 0, 0), (Reg.MAP_STATUS_INVAL_BUSY, 0, 0),
      (Reg.PWR_HOLDUP_STATUS_STATE, 0, 0)] with pcie := { linkUp := true } }

/-- The same, with register fields set. -/
def run (l : List (Fld × Nat × Nat)) : State := set l live

/-- The 64 bytes of a submission entry: opcode, and fields by offset, length and value. -/
def ent (op : Nat) (l : List (Nat × Nat × Nat)) : List Byte :=
  l.foldl (fun b e => b.take e.1 ++ (List.range e.2.1).map (fun i => BitVec.ofNat 8 (e.2.2 / 256 ^ i)) ++ b.drop (e.1 + e.2.1))
    (BitVec.ofNat 8 op :: zeros 63)

/-- A ring command that has not begun. -/
def cmd (op : Nat) (l : List (Nat × Nat × Nat)) : Cmd := { tag := 0, sq := 0, cid := 0, epoch := 0, entry := ent op l }

/-- The one outstanding ring command. -/
def issue (k : Cmd) (s : State) : State := { s with hq := { s.hq with cmds := [k] } }

/-- A die of 8 blocks. -/
def die : Die :=
  { num := 0, sane := true, qualified := true, blocks := 8, pages := 16, planes := 4, ratedPe := 3000, uid := [], factoryBad := [] }

/-- A magazine module with nothing in it. -/
def bare : Module := { dies := [], roots := [], journal := [], units := [], blocks := [] }

/-- Out of reset with a READY magazine of one die and its NAND powered, register fields set. -/
def mounted (l : List (Fld × Nat × Nat)) : State :=
  { run ((Reg.MAG_STATUS_MAG_STATE, 0, 2) :: l) with pwr := { up.pwr with nandOn := true }, mag := { dies := [die] } }

/-- A root that this device signed for the module without dies. -/
def goodRoot : Root :=
  { gen := 1, lbs := 512, exportUnits := 1, snapshot := [], journalFrom := 1, bad := [],
    binding := { magId := (sha384 []).take 32, serial := deviceSerial, key := [], gen := 1, valid := true } }

/-- A module with that root in two copies. -/
def twoRoots : Module := { bare with roots := [[some goodRoot], [some goodRoot]] }

theorem bestRoot_twoRoots : nandBestRoot twoRoots = some goodRoot := by
  simp [nandBestRoot, nandValidRoots, nandAgreed, twoRoots, List.filterMap, List.find?]

/-- A wedge ID word of a wedge position and layer, with its CRC (12 R310). -/
def wedgeWord (p layer : Nat) : BitVec 48 :=
  let v := p * 2 ^ 29 + layer * 2 ^ 25
  BitVec.ofNat 48 (v + 2 ^ 40 * crc8 ((List.range 40).map (fun i => v.testBit i)))

/-- A folio on beam 15. -/
def flight : FolioJob :=
  { beam := 15, pfa := 0, lfn := 0, area := [], spare := false, ended := false, rowFailed := false, rowExceeded := false,
    corrected := 0, rows := 0 }

end Sys2Proof.Tests
end

