-- ==== Sys2Proof/Tests/Slice0.lean ====
section
/-!
SUPPORT. Own tests.
-/
namespace Sys2Proof.Tests
open Sys2Proof Sys2Proof.Machine

theorem test_wf_register_write : Instr.wf (.registerWrite .host0 4 0 (some 0)) = false := by decide
theorem test_wf_event_bit_clear : Instr.wf (.eventBitClear .host0 3 0) = false := by decide
theorem test_wf_read_64bit_low_word : Instr.wf (.read64bitLowWord .host0 4 true) = false := by decide
theorem test_wf_config_request : Instr.wf (.configRequest 0 4096 none) = false := by decide
theorem test_wf_supply_fail_declared : Instr.wf (.supplyFailDeclared 16384 0 0) = false := by decide
theorem test_wf_supply_warn_declared : Instr.wf (.supplyWarnDeclared 16384) = false := by decide
theorem test_wf_supply_warn_clear : Instr.wf (.supplyWarnClear 16384) = false := by decide
theorem test_wf_supply_returned : Instr.wf (.supplyReturned 0 16384 0) = false := by decide
theorem test_wf_holdup_reserve_reached : Instr.wf (.holdupReserveReached 16384) = false := by decide
theorem test_wf_holdup_below_minimum : Instr.wf (.holdupBelowMinimum 16384) = false := by decide
theorem test_wf_t_warn_reached : Instr.wf (.tWarnReached 4096) = false := by decide
theorem test_wf_t_warn_clear : Instr.wf (.tWarnClear 4096) = false := by decide
theorem test_wf_t_shut_reached : Instr.wf (.tShutReached 4096) = false := by decide
theorem test_wf_t_trip : Instr.wf (.tTrip 4096) = false := by decide
theorem test_wf_thermal_reset_release : Instr.wf (.thermalResetRelease 4096 true true) = false := by decide
theorem test_wf_head_transmit_line : Instr.wf (.headTransmitLine 0 0 32768) = false := by decide
theorem test_wf_cap_config_write : Instr.wf (.capConfigWrite 0x300011 0) = false := by decide
theorem test_wf_assembly_read_complete : Instr.wf (.assemblyReadComplete 0 [4096]) = false := by decide
theorem test_wf_patrol_scrub_read : Instr.wf (.patrolScrubRead [(0, [(75, 1)])]) = false := by decide
theorem test_wf_take_recovery : Instr.wf (.takeRecovery [(0, [(75, 1)])]) = false := by decide
theorem test_wf_link_trained : Instr.wf (.linkTrained 6 3 true []) = false := by decide
theorem test_wf_bar0_access_bad_shape : Instr.wf (.bar0AccessBadShape 0 true 0x4000000) = false := by decide
theorem test_wf_bar2_read : Instr.wf (.bar2Read 0 0 [(0, [(75, 1)])]) = false := by decide
theorem test_wf_bar2_write : Instr.wf (.bar2Write 0 [] false [(0, [(75, 1)])]) = false := by decide
theorem test_wf_xwin_enable : Instr.wf (.xwinEnable 16) = false := by decide
theorem test_wf_msix_pending_send : Instr.wf (.msixPendingSend 1 8) = false := by decide
theorem test_wf_completion_timeout : Instr.wf (.completionTimeout 16384) = false := by decide
theorem test_wf_late_completion : Instr.wf (.lateCompletion 16384) = false := by decide
theorem test_wf_summary_line_received : Instr.wf (.summaryLineReceived (.data [])) = false := by decide
theorem test_wf_doorbell_line_received : Instr.wf (.doorbellLineReceived 0 (.data [])) = false := by decide
theorem test_wf_cq_head_doorbell_received : Instr.wf (.cqHeadDoorbellReceived 0 (.data [])) = false := by decide
theorem test_wf_submission_entry_received : Instr.wf (.submissionEntryReceived 0 65536 (.data [])) = false := by decide
theorem test_wf_export_take : Instr.wf (.exportTake 0 [(0, [(75, 1)])] [] []) = false := by decide
theorem test_wf_galley_read : Instr.wf (.galleyRead 0 [(0, [(75, 1)])]) = false := by decide
theorem test_wf_egress_play : Instr.wf (.egressPlay 0 [(0, [(75, 1)])]) = false := by decide
theorem test_wf_magazine_inserted : Instr.wf (.magazineInserted ⟨[], [], [], [], [], [], [], false⟩) = false := by decide
theorem test_wf_buffer_unit_commit : Instr.wf (.bufferUnitCommit [] [(0, [(75, 1)])]) = false := by decide
theorem test_wf_channel_retrain : Instr.wf (.channelRetrain 0 8) = false := by decide
theorem test_wf_map_cache_access : Instr.wf (.mapCacheAccess 0 0 0 none .none false) = false := by decide
theorem test_wf_proof_row_verdict : Instr.wf (.proofRowVerdict 0 320 none 0) = false := by decide
theorem test_wf_write_fault : Instr.wf (.writeFault []) = false := by decide
theorem test_wf_jump_complete : Instr.wf (.jumpComplete 12) = false := by decide
theorem test_wf_jump_timeout : Instr.wf (.jumpTimeout 12) = false := by decide
theorem test_wf_governor_update : Instr.wf (.governorUpdate 16384 0) = false := by decide
theorem test_wf_spindle_brake_short : Instr.wf (.spindleBrakeShort 65536) = false := by decide
theorem test_wf_kinetic_energy_update : Instr.wf (.kineticEnergyUpdate 65536) = false := by decide
theorem test_wf_efc_window_read : Instr.wf (.efcWindowRead .host0 0 4 []) = false := by decide
theorem test_wf_efc_window_write : Instr.wf (.efcWindowWrite .host0 0 0) = false := by decide
theorem test_wf_journal_append : Instr.wf (.journalAppend 0 0 []) = false := by decide
theorem test_wf_core_lockup : Instr.wf (.coreLockup 0 256 0) = false := by decide
theorem test_wf_cal_temperature_check : Instr.wf (.calTemperatureCheck []) = false := by decide
theorem test_wf_cal_value_write : Instr.wf (.calValueWrite 0x1010001 0) = false := by decide
theorem test_wf_cart_present_change : Instr.wf (.cartPresentChange (some [])) = false := by decide
theorem test_wf_service_input_return : Instr.wf (.serviceInputReturn false 16384) = false := by decide

end Sys2Proof.Tests
end

