-- ==== Sys2Proof/Tests/Witnesses.lean ====
section
/-!
SUPPORT. For each statement with hypotheses and each clause of it: concrete operands and a state that meet them together.
-/
set_option linter.all false
set_option Elab.async false
namespace Sys2Proof.Tests
open Sys2Proof Sys2Proof.Machine

/-- The state after reset is in canonical form and its step answers it. -/
theorem witness_StepKeepsCanon_all :
    ∃ (s t : State),
      Canon s ∧
      Sys2Proof.Machine.step s = .next t :=
  ⟨State.reset, State.reset, ⟨rfl, rfl, rfl, rfl, rfl, rfl, rfl, rfl, rfl, rfl, rfl⟩, rfl⟩

theorem witness_EmptyQueueTicks_ticks :
    ∃ (s : State),
      s.pending = [] ∧
      s.pwr.por = false ∧
      s.flag Reg.CLK_PLL_STATUS_CORE_LOCK = true :=
  ⟨at_ [(Reg.CLK_PLL_STATUS_CORE_LOCK, 0, 1)],
    by decide +kernel, by decide +kernel, by decide +kernel⟩

theorem witness_EmptyQueueTicks_stands :
    ∃ (s : State),
      s.pending = [] ∧
      ((s.pwr.por = true ∨ s.flag Reg.CLK_PLL_STATUS_CORE_LOCK = false)) :=
  ⟨State.reset,
    by decide +kernel, by decide +kernel⟩

theorem witness_ReservedEncodings_all :
    ∃ (k : Nat) (r : RReg) (v : Word) (s : State),
      regFind k = some r :=
  ⟨0x10, ⟨"TOP.MODE", 16, [], 0, [⟨8, 8, .w1c, false, []⟩, ⟨1, 0, .rw, true, [(3, 3)]⟩]⟩, 3, State.reset,
    by decide +kernel⟩

theorem witness_AccessTypes_all :
    ∃ (locked : Bool) (v w : Word) (f : RField),
      f.lo ≤ f.hi ∧
      f.hi < 32 :=
  ⟨true, 0, 0, ⟨1, 0, .rw, true, [(3, 3)]⟩,
    by decide +kernel, by decide +kernel⟩

theorem witness_HeldRequests_all :
    ∃ (f : UnitFlds) (i : Nat) (a b : Bool) (s : State),
      f ∈ [portUnit, capUnit, clusterUnit, pairUnit, sqUnit, cqUnit, magUnit, ochUnit, srvUnit, motUnit, colUnit] ∧
      i < f.en.count :=
  ⟨magUnit, 0, true, false, State.reset,
    by decide +kernel, by decide +kernel⟩

theorem witness_PllLockAndLoss_pllLock_0 :
    ∃ (p : Pll) (s : State),
      s.mayLock p = true :=
  ⟨.core, up,
    by decide +kernel⟩

theorem witness_PllLockAndLoss_pllLock_1 :
    ∃ (p : Pll) (s : State),
      s.mayLock p = true :=
  ⟨.lane 31, up,
    by decide +kernel⟩

theorem witness_PllLockAndLoss_pllLossOfLock :
    ∃ (p : Pll) (s : State),
      s.pllLocked p = true ∧
      ((p = .pcie → s.pcie.linkUp = false)) :=
  ⟨.core, at_ [(Reg.CLK_PLL_STATUS_CORE_LOCK, 0, 1)],
    by decide +kernel, by decide +kernel⟩

theorem witness_PllLockAndLoss_pcieLoss :
    ∃ (s : State),
      s.pllLocked .pcie = true ∧
      s.pcie.linkUp = true :=
  ⟨{ (at_ [(Reg.CLK_PLL_STATUS_PCIE_LOCK, 0, 1)]) with pcie := { linkUp := true } },
    by decide +kernel, by decide +kernel⟩

theorem witness_PllLockAndLoss_lanePllLoss :
    ∃ (n : PortIx) (s : State),
      s.pllLocked (.lane n) = true :=
  ⟨31, (up.setPll (.lane 31) true),
    by decide +kernel⟩

theorem witness_PllLockAndLoss_refclkLost :
    ∃ (s : State),
      s.pwr.por = false :=
  ⟨up,
    by decide +kernel⟩

theorem witness_SupplyEvents_supplyFailDeclared :
    ∃ (v h i : Nat) (s : State),
      s.pwr.por = false ∧
      s.pwr.fail = false ∧
      s.voltsBelow v (s.get Reg.PWR_BUS_THRESH_VBUS_FAIL) = true :=
  ⟨0, 0, 0, at_ [(Reg.PWR_BUS_THRESH_VBUS_FAIL, 0, 100)],
    by decide +kernel, by decide +kernel, by decide +kernel⟩

theorem witness_SupplyEvents_supplyWarnDeclared :
    ∃ (v : Nat) (s : State),
      s.pwr.por = false ∧
      s.pwr.warn = false ∧
      s.voltsBelow v (s.get Reg.PWR_BUS_THRESH_VBUS_WARN) = true :=
  ⟨0, at_ [(Reg.PWR_BUS_THRESH_VBUS_WARN, 0, 100)],
    by decide +kernel, by decide +kernel, by decide +kernel⟩

theorem witness_SupplyEvents_supplyWarnClear :
    ∃ (v : Nat) (s : State),
      s.pwr.warn = true ∧
      s.voltsBelow v (s.get Reg.PWR_BUS_THRESH_VBUS_WARN + 5) = false :=
  ⟨16383, { up with pwr := { up.pwr with warn := true } },
    by decide +kernel, by decide +kernel⟩

theorem witness_SupplyEvents_supplyReturned :
    ∃ (v h i : Nat) (s : State),
      s.pwr.por = false ∧
      s.voltsBelow v (s.get Reg.PWR_BUS_THRESH_VBUS_WARN + 5) = false ∧
      s.currentAbove i = true :=
  ⟨16383, 0, 16383, at_ [(Reg.PWR_SENSE_CFG_IDIV, 0, 10)],
    by decide +kernel, by decide +kernel, by decide +kernel⟩

theorem witness_SupplyEvents_holdupReserveReached :
    ∃ (h : Nat) (s : State),
      s.get Reg.PWR_HOLDUP_STATUS_STATE = 1 ∧
      s.pwr.deferral = false ∧
      s.canSave = true ∧
      s.bankEnergy h ≤ s.reserveEnergy :=
  ⟨0, at_ [(Reg.PWR_HOLDUP_STATUS_STATE, 0, 1)],
    by decide +kernel, by decide +kernel, by decide +kernel, by decide +kernel⟩

theorem witness_SupplyEvents_pwrBusThreshWrite :
    ∃ (v : Word) (s : State),
      s.awake = true :=
  ⟨0, up,
    by decide +kernel⟩

theorem witness_SaveAndSupervisor_chrysalisSaveComplete :
    ∃ (s : State),
      s.get Reg.PWR_HOLDUP_STATUS_STATE = 2 ∧
      s.pwr.pendingReset = none ∧
      s.pwr.pendingUnits = 0 :=
  ⟨at_ [(Reg.PWR_HOLDUP_STATUS_STATE, 0, 2)],
    by decide +kernel, by decide +kernel, by decide +kernel⟩

theorem witness_SaveAndSupervisor_holdupBelowMinimum :
    ∃ (h : Nat) (s : State),
      s.get Reg.PWR_HOLDUP_STATUS_STATE = 2 ∧
      s.voltsBelow h (s.get Reg.PWR_BUS_THRESH_HOLDUP_MIN) = true ∧
      s.pwr.pendingReset = none ∧
      s.pwr.pendingUnits = 0 :=
  ⟨0, at_ [(Reg.PWR_HOLDUP_STATUS_STATE, 0, 2), (Reg.PWR_BUS_THRESH_HOLDUP_MIN, 0, 100)],
    by decide +kernel, by decide +kernel, by decide +kernel, by decide +kernel⟩

theorem witness_SaveAndSupervisor_aosLockstepMismatch :
    ∃ (s : State),
      s.pwr.por = false ∧
      s.pwr.lockstep = false ∧
      s.pwr.pendingReset = none ∧
      s.pwr.pendingUnits = 0 :=
  ⟨up,
    by decide +kernel, by decide +kernel, by decide +kernel, by decide +kernel⟩

theorem witness_SaveAndSupervisor_mc0HeartbeatTimeout_0 :
    ∃ (s : State),
      (s.get Reg.MBX_CORE_STATUS_STATE 0 = 1 ∨ s.get Reg.MBX_CORE_STATUS_STATE 0 = 5) :=
  ⟨at_ [(Reg.MBX_CORE_STATUS_STATE, 0, 1)],
    by decide +kernel⟩

theorem witness_SaveAndSupervisor_mc0HeartbeatTimeout_1 :
    ∃ (s : State),
      (s.get Reg.MBX_CORE_STATUS_STATE 0 = 1 ∨ s.get Reg.MBX_CORE_STATUS_STATE 0 = 5) :=
  ⟨at_ [(Reg.MBX_CORE_STATUS_STATE, 0, 5)],
    by decide +kernel⟩

theorem witness_Thermal_tWarnReached :
    ∃ (temp : Nat) (s : State),
      400 ≤ temp ∧
      s.pwr.tWarn = false ∧
      s.pwr.por = false :=
  ⟨400, up,
    by decide +kernel, by decide +kernel, by decide +kernel⟩

theorem witness_Thermal_tWarnClear :
    ∃ (temp : Nat) (s : State),
      temp < 380 ∧
      s.pwr.tWarn = true :=
  ⟨379, { up with pwr := { up.pwr with tWarn := true } },
    by decide +kernel, by decide +kernel⟩

theorem witness_Thermal_tShutReached :
    ∃ (temp : Nat) (s : State),
      440 ≤ temp ∧
      s.pwr.por = false ∧
      s.pwr.trip = false ∧
      s.pwr.deferral = false ∧
      s.pwr.inReset = false ∧
      s.get Reg.PWR_HOLDUP_STATUS_STATE < 2 :=
  ⟨440, up,
    by decide +kernel, by decide +kernel, by decide +kernel, by decide +kernel, by decide +kernel, by decide +kernel⟩

theorem witness_Thermal_tShutDeferralEnd :
    ∃ (s : State),
      s.pwr.deferral = true ∧
      s.pwr.pendingReset = none ∧
      s.pwr.pendingUnits = 0 :=
  ⟨{ up with pwr := { up.pwr with deferral := true } },
    by decide +kernel, by decide +kernel, by decide +kernel⟩

theorem witness_Thermal_tTrip :
    ∃ (temp : Nat) (s : State),
      500 ≤ temp ∧
      s.pwr.por = false ∧
      s.pwr.trip = false ∧
      s.pwr.pendingReset = none ∧
      s.pwr.pendingUnits = 0 :=
  ⟨500, up,
    by decide +kernel, by decide +kernel, by decide +kernel, by decide +kernel, by decide +kernel⟩

theorem witness_Thermal_thermalResetRelease :
    ∃ (temp : Nat) (fw0 fw1 : Bool) (s : State),
      temp ≤ 380 ∧
      s.pwr.thermalHold = true ∧
      ({ s with pwr := { s.pwr with thermalHold := false } } : State).mayStart = true :=
  ⟨380, true, true, { up with pwr := { up.pwr with thermalHold := true, inReset := true } },
    by decide +kernel, by decide +kernel, by decide +kernel⟩

theorem witness_Resets_perstNAssert_0 :
    ∃ (s : State),
      s.pwr.perst = false ∧
      s.pwr.por = false ∧
      ((s.get Reg.PWR_HOLDUP_STATUS_STATE ≠ 1 ∧ s.get Reg.PWR_HOLDUP_STATUS_STATE ≠ 2 ∨ s.pwr.trip = true ∨ s.pwr.lockstep =
          true)) :=
  ⟨up,
    by decide +kernel, by decide +kernel, by decide +kernel⟩

theorem witness_Resets_perstNAssert_1 :
    ∃ (s : State),
      s.pwr.perst = false ∧
      s.pwr.por = false ∧
      ((s.get Reg.PWR_HOLDUP_STATUS_STATE ≠ 1 ∧ s.get Reg.PWR_HOLDUP_STATUS_STATE ≠ 2 ∨ s.pwr.trip = true ∨ s.pwr.lockstep =
          true)) :=
  ⟨at_ [(Reg.PWR_HOLDUP_STATUS_STATE, 0, 3)],
    by decide +kernel, by decide +kernel, by decide +kernel⟩

theorem witness_Resets_sysRstNAssert :
    ∃ (s : State),
      s.pwr.sysRst = false ∧
      s.pwr.por = false ∧
      ((s.get Reg.PWR_HOLDUP_STATUS_STATE ≠ 1 ∧ s.get Reg.PWR_HOLDUP_STATUS_STATE ≠ 2 ∨ s.pwr.trip = true ∨ s.pwr.lockstep =
          true)) :=
  ⟨up,
    by decide +kernel, by decide +kernel, by decide +kernel⟩

theorem witness_Resets_waits :
    ∃ (s : State),
      s.pwr.perst = false ∧
      s.pwr.por = false ∧
      s.get Reg.PWR_HOLDUP_STATUS_STATE = 2 ∧
      s.pwr.trip = false ∧
      s.pwr.lockstep = false :=
  ⟨at_ [(Reg.PWR_HOLDUP_STATUS_STATE, 0, 2)],
    by decide +kernel, by decide +kernel, by decide +kernel, by decide +kernel, by decide +kernel⟩

theorem witness_StartAndFunctionResets_porRelease :
    ∃ (fw0 fw1 : Bool) (s : State),
      s.pwr.por = true ∧
      ({ s with pwr := { s.pwr with por := false, selfTestFailed := false } } : State).mayStart = true :=
  ⟨true, true, State.reset,
    by decide +kernel, by decide +kernel⟩

theorem witness_StartAndFunctionResets_selfTestFails :
    ∃ (fw0 fw1 : Bool) (s : State),
      s.pwr.por = true :=
  ⟨true, true, State.reset,
    by decide +kernel⟩

theorem witness_StartAndFunctionResets_resetDeassert :
    ∃ (sys fw0 fw1 : Bool) (s : State),
      ({ s with pwr := { s.pwr with perst := s.pwr.perst && sys, sysRst := s.pwr.sysRst && !sys } } : State).mayStart = true :=
  ⟨true, true, true, { up with pwr := { up.pwr with sysRst := true, inReset := true } },
    by decide +kernel⟩

theorem witness_StartAndFunctionResets_hotReset :
    ∃ (s : State),
      s.pwr.por = false :=
  ⟨up,
    by decide +kernel⟩

theorem witness_StartAndFunctionResets_flrFunction0 :
    ∃ (s : State),
      s.pwr.por = false :=
  ⟨up,
    by decide +kernel⟩

theorem witness_StartAndFunctionResets_flrFunction1 :
    ∃ (s : State),
      s.pwr.por = false ∧
      s.part.colophon = true :=
  ⟨up,
    by decide +kernel, by decide +kernel⟩

theorem witness_StartAndFunctionResets_surpriseLinkDown :
    ∃ (s : State),
      s.pcie.linkUp = true :=
  ⟨{ up with pcie := { linkUp := true } },
    by decide +kernel⟩

theorem witness_UnitStateMachine_unitEnableWrite_0 :
    ∃ (v : Bool) (s : State),
      s.awake = true ∧
      ((v = true → s.firmwareGone 8 = false)) :=
  ⟨true, up,
    by decide +kernel, by decide +kernel⟩

theorem witness_UnitStateMachine_unitEnableWrite_1 :
    ∃ (v : Bool) (s : State),
      s.awake = true ∧
      ((v = true → s.firmwareGone 8 = false)) :=
  ⟨false, at_ [(Reg.MAG_STATUS_STATE, 0, 2)],
    by decide +kernel, by decide +kernel⟩

theorem witness_UnitStateMachine_stuck :
    ∃ (u : UnitRef) (v : Bool) (s : State),
      s.hasUnit u = false :=
  ⟨.och, true, { up with part := Part.zy4128 },
    by decide +kernel⟩

theorem witness_UnitStateMachine_unitStartupComplete :
    ∃ (u : UnitRef) (f : UnitFlds) (s : State),
      (u, f) ∈ [(.mag, magUnit), (.och, ochUnit), (.srv, srvUnit), (.mot, motUnit)] ∧
      s.awake = true ∧
      s.hasUnit u = true ∧
      s.get f.st = 1 :=
  ⟨.mot, motUnit, at_ [(Reg.MOT_STATUS_STATE, 0, 1)],
    by decide +kernel, by decide +kernel, by decide +kernel, by decide +kernel⟩

theorem witness_UnitStateMachine_unitDrainComplete :
    ∃ (s : State),
      s.awake = true ∧
      s.get Reg.SRV_STATUS_STATE = 3 ∧
      s.pwr.unitReset = [] :=
  ⟨at_ [(Reg.SRV_STATUS_STATE, 0, 3)],
    by decide +kernel, by decide +kernel, by decide +kernel⟩

theorem witness_UnitStateMachine_unitReset :
    ∃ (v : Word) (s : State),
      s.awake = true ∧
      bitsOf v 18 1 = 2 ^ 16 ∧
      s.get Reg.PWR_HOLDUP_STATUS_STATE ≠ 1 ∧
      s.get Reg.PWR_HOLDUP_STATUS_STATE ≠ 2 ∧
      s.pwr.unitReset = [] :=
  ⟨0x20000, up,
    by decide +kernel, by decide +kernel, by decide +kernel, by decide +kernel, by decide +kernel⟩

theorem witness_UnitStateMachine_topModeWrite_0 :
    ∃ (v : Word) (s : State),
      s.awake = true ∧
      bitsOf v 1 0 ≠ 3 ∧
      bitsOf v 1 0 ≠ s.get Reg.TOP_MODE_ROLE :=
  ⟨2, up,
    by decide +kernel, by decide +kernel, by decide +kernel⟩

theorem witness_UnitStateMachine_topModeWrite_1 :
    ∃ (v : Word) (s : State),
      s.awake = true ∧
      bitsOf v 1 0 ≠ 3 ∧
      bitsOf v 1 0 ≠ s.get Reg.TOP_MODE_ROLE :=
  ⟨1, at_ [(Reg.TOP_MODE_ROLE, 0, 2), (Reg.PAIR_STATUS_STATE, 0, 1)],
    by decide +kernel, by decide +kernel, by decide +kernel⟩

theorem witness_RegisterAccess_scratch_0 :
    ∃ (q : Requester) (i : Nat) (v : Word) (s : State),
      i < 4 ∧
      s.awake = true ∧
      s.asleep q (Reg.DBG_SCRATCH.base + Reg.DBG_SCRATCH.stride * i) = false :=
  ⟨.host0, 0, 0, live,
    by decide +kernel, by decide +kernel, by decide +kernel⟩

theorem witness_RegisterAccess_scratch_1 :
    ∃ (q : Requester) (i : Nat) (v : Word) (s : State),
      i < 4 ∧
      s.awake = true ∧
      s.asleep q (Reg.DBG_SCRATCH.base + Reg.DBG_SCRATCH.stride * i) = false :=
  ⟨.dbg, 3, 0, up,
    by decide +kernel, by decide +kernel, by decide +kernel⟩

theorem witness_RegisterAccess_absent :
    ∃ (q : Requester) (k : Nat) (v : Word) (s : State),
      s.awake = true ∧
      s.asleep q k = false ∧
      ((s.absentAt k = true ∨ s.colSilent k = true)) :=
  ⟨.host0, 0xA00000, 0, { live with part := Part.zy4128 },
    by decide +kernel, by decide +kernel, by decide +kernel⟩

theorem witness_RegisterAccess_both :
    ∃ (q : Requester) (v h : Word) (s : State),
      s.awake = true ∧
      s.asleep q Reg.DBG_SCRATCH.base = false :=
  ⟨.host0, 0, 0, live,
    by decide +kernel, by decide +kernel⟩

theorem witness_RegisterAccess_eventBitClear :
    ∃ (q : Requester) (v : Word) (s : State),
      s.awake = true ∧
      s.asleep q Reg.TOP_MODE_WORD.base = false :=
  ⟨.host0, 0x100, live,
    by decide +kernel, by decide +kernel⟩

theorem witness_RegisterAccess_read64bitLowWord_0 :
    ∃ (q : Requester) (k : Nat) (wide : Bool) (s : State),
      barKey k = true ∧
      s.awake = true ∧
      s.asleep q k = false ∧
      ((wide = true → k % 8 = 0)) :=
  ⟨.host0, 0x300020, true, live,
    by decide +kernel, by decide +kernel, by decide +kernel, by decide +kernel⟩

theorem witness_RegisterAccess_read64bitLowWord_1 :
    ∃ (q : Requester) (k : Nat) (wide : Bool) (s : State),
      barKey k = true ∧
      s.awake = true ∧
      s.asleep q k = false ∧
      ((wide = true → k % 8 = 0)) :=
  ⟨.dbg, 0x300020, false, up,
    by decide +kernel, by decide +kernel, by decide +kernel, by decide +kernel⟩

theorem witness_RegisterAccess_configRetry_0 :
    ∃ (f : FnIx) (off : Nat) (v : Option Word) (s : State),
      off < 4096 ∧
      off % 4 = 0 ∧
      ((s.pwr.por = true ∨ s.pwr.inReset = true ∨ s.pwr.faultLow = true)) :=
  ⟨0, 0, none, State.reset,
    by decide +kernel, by decide +kernel, by decide +kernel⟩

theorem witness_RegisterAccess_configRetry_1 :
    ∃ (f : FnIx) (off : Nat) (v : Option Word) (s : State),
      off < 4096 ∧
      off % 4 = 0 ∧
      ((s.pwr.por = true ∨ s.pwr.inReset = true ∨ s.pwr.faultLow = true)) :=
  ⟨1, 4092, some 0, State.reset,
    by decide +kernel, by decide +kernel, by decide +kernel⟩

theorem witness_RegisterAccess_configRead :
    ∃ (f : FnIx) (off : Nat) (s : State),
      off < 4096 ∧
      off % 4 = 0 ∧
      s.awake = true ∧
      s.pwr.faultLow = false ∧
      s.pwr.pendingReset = none ∧
      s.hasFn f.val = true ∧
      s.inFlr f.val = false :=
  ⟨1, 4092, up,
    by decide +kernel, by decide +kernel, by decide +kernel, by decide +kernel, by decide +kernel, by decide +kernel,
    by decide +kernel⟩

theorem witness_RegisterAccess_configWrite :
    ∃ (f : FnIx) (off : Nat) (v : Word) (s : State),
      off < 4096 ∧
      off % 4 = 0 ∧
      off ∉ [0x04, 0x18, 0x1C, 0x44, 0x58, 0xB0, 0x348, 0x388] ∧
      s.awake = true ∧
      s.pwr.faultLow = false ∧
      s.pwr.pendingReset = none ∧
      s.hasFn f.val = true ∧
      s.inFlr f.val = false :=
  ⟨0, 0x0C, 0, up,
    by decide +kernel, by decide +kernel, by decide +kernel, by decide +kernel, by decide +kernel, by decide +kernel,
    by decide +kernel, by decide +kernel⟩

theorem witness_Receive_rxBlockLock :
    ∃ (l : LaneIx) (s : State),
      s.rxState l.val = 1 :=
  ⟨257, at_ [(Reg.LANE_L_STATUS_RX_STATE, laneReg 257, 1)],
    by decide +kernel⟩

theorem witness_Receive_receiveIdle :
    ∃ (l : LaneIx) (p : Word64) (i : RxInfo) (s : State),
      s.rxLive l.val i = true ∧
      blkType (s.peek l.val p) = 0x1E ∧
      s.slotMissed l.val i.slot = false ∧
      ctlOk (s.peek l.val p) = true :=
  ⟨0, onLine (0x1E), calm, onLane {} {} [],
    by decide +kernel, by decide +kernel, by decide +kernel, by decide +kernel⟩

theorem witness_Receive_receiveTrain :
    ∃ (l : LaneIx) (p : Word64) (i : RxInfo) (s : State),
      s.rxLive l.val i = true ∧
      isCt 1 (s.peek l.val p) = true ∧
      s.slotMissed l.val i.slot = false ∧
      ctlOk (s.peek l.val p) = true :=
  ⟨0, onLine ((ctBlock 1 0 false 0 0).payload), calm, onLane {} {} [],
    by decide +kernel, by decide +kernel, by decide +kernel, by decide +kernel⟩

theorem witness_Receive_receiveMk :
    ∃ (l : LaneIx) (p : Word64) (i : RxInfo) (s : State),
      s.rxLive l.val i = true ∧
      blkType (s.peek l.val p) = 0x66 ∧
      s.slotMissed l.val i.slot = false ∧
      ctlOk (s.peek l.val p) = true :=
  ⟨0, onLine ((mkBlock 0x20 0).payload), calm, onLane {} {} [],
    by decide +kernel, by decide +kernel, by decide +kernel, by decide +kernel⟩

theorem witness_Receive_markBad :
    ∃ (l : LaneIx) (p : Word64) (i : RxInfo) (s : State),
      s.rxLive l.val i = true ∧
      blkType (s.peek l.val p) = 0x66 ∧
      s.slotMissed l.val i.slot = false ∧
      ctlOk (s.peek l.val p) = false :=
  ⟨0, onLine 0x0100000000000066, calm, onLane {} {} [],
    by decide +kernel, by decide +kernel, by decide +kernel, by decide +kernel⟩

theorem witness_Receive_receiveAlign :
    ∃ (l : LaneIx) (p : Word64) (i : RxInfo) (s : State),
      s.rxLive l.val i = true ∧
      isCt 2 (s.peek l.val p) = true ∧
      ctlOk (s.peek l.val p) = true ∧
      s.alignMatches l.val (s.peek l.val p) = true ∧
      s.rxState l.val ≤ 3 :=
  ⟨7, onLine (ctBlock 2 7 false 0 0).payload, calm, { (at_ [(Reg.LANE_L_STATUS_RX_STATE, 7, 3)]) with lanes := [(7, { descrambler := 0, sinceLock := 1 })] },
    by decide +kernel, by decide +kernel, by decide +kernel, by decide +kernel, by decide +kernel⟩

theorem witness_ReceiveFrame_receiveFs :
    ∃ (l : LaneIx) (p : Word64) (i : RxInfo) (s : State),
      s.rxLive l.val i = true ∧
      blkType (s.peek l.val p) = 0x33 ∧
      s.slotMissed l.val i.slot = false ∧
      ctlOk (s.peek l.val p) = true ∧
      s.delivers l.val = true ∧
      s.portState (portOf l.val) = 2 ∧
      ((∃ k ∈ s.joinedLanes (portOf l.val), k ≠ l.val % 8 ∧ ∀ e ∈ (s.port (portOf l.val)).fs, e.1 ≠ k)) :=
  ⟨0, onLine (fsBlock 5 0).payload, calm, onLane {} {} [],
    by decide +kernel, by decide +kernel, by decide +kernel, by decide +kernel, by decide +kernel, by decide +kernel,
    by decide +kernel⟩

theorem witness_ReceiveFrame_receiveLs :
    ∃ (l : LaneIx) (p : Word64) (i : RxInfo) (acc : Bool) (s : State),
      s.rxLive l.val i = true ∧
      blkType (s.peek l.val p) = 0x4B ∧
      s.slotMissed l.val i.slot = false ∧
      ctlOk (s.peek l.val p) = true ∧
      s.delivers l.val = true ∧
      (s.lane l.val).rejoining = false ∧
      s.portState (portOf l.val) = 2 ∧
      (s.port (portOf l.val)).delivering = true ∧
      ((∀ e ∈ (s.port (portOf l.val)).fs, e.1 ≠ l.val % 8)) ∧
      (s.port (portOf l.val)).line = some (lineOf (s.peek l.val p), acc) :=
  ⟨0, onLine (lsBlock 3 64 5).payload, calm, true, onLane {} { delivering := true, line := some (3, true) } [],
    by decide +kernel, by decide +kernel, by decide +kernel, by decide +kernel, by decide +kernel, by decide +kernel,
    by decide +kernel, by decide +kernel, by decide +kernel, by decide +kernel⟩

theorem witness_ReceiveFrame_receiveDataBlock :
    ∃ (l : LaneIx) (p : Word64) (i : RxInfo) (y : Nat) (s : State),
      s.rxLive l.val i = true ∧
      s.slotMissed l.val i.slot = false ∧
      s.delivers l.val = true ∧
      (s.lane l.val).line = some y ∧
      (s.lane l.val).group.length < 6 :=
  ⟨0, 0, calm, 3, onLane { line := some 3 } {} [],
    by decide +kernel, by decide +kernel, by decide +kernel, by decide +kernel, by decide +kernel⟩

theorem witness_ReceiveFrame_receiveFe :
    ∃ (l : LaneIx) (p : Word64) (i : RxInfo) (s : State),
      s.rxLive l.val i = true ∧
      blkType (s.peek l.val p) = 0x55 ∧
      s.slotMissed l.val i.slot = false ∧
      ctlOk (s.peek l.val p) = true ∧
      s.delivers l.val = true ∧
      s.portState (portOf l.val) = 2 ∧
      (s.port (portOf l.val)).delivering = true ∧
      ((∃ k ∈ s.joinedLanes (portOf l.val), k ≠ l.val % 8 ∧ k ∉ (s.port (portOf l.val)).fe)) :=
  ⟨0, onLine (feBlock 5 1).payload, calm, onLane {} { delivering := true } [],
    by decide +kernel, by decide +kernel, by decide +kernel, by decide +kernel, by decide +kernel, by decide +kernel,
    by decide +kernel, by decide +kernel⟩

theorem witness_ReceiveFrame_receiveInvalidSyncHeader_0 :
    ∃ (l : LaneIx) (ones : Bool) (p : Word64) (i : RxInfo) (s : State),
      2 ≤ s.rxState l.val ∧
      s.rxState l.val ≤ 4 :=
  ⟨257, false, 0, calm, at_ [(Reg.LANE_L_STATUS_RX_STATE, laneReg 257, 2)],
    by decide +kernel, by decide +kernel⟩

theorem witness_ReceiveFrame_receiveInvalidSyncHeader_1 :
    ∃ (l : LaneIx) (ones : Bool) (p : Word64) (i : RxInfo) (s : State),
      2 ≤ s.rxState l.val ∧
      s.rxState l.val ≤ 4 :=
  ⟨0, true, 0, calm, at_ [(Reg.LANE_L_STATUS_RX_STATE, 0, 4)],
    by decide +kernel, by decide +kernel⟩

theorem witness_ReceiveFrame_hiBerClear :
    ∃ (l : LaneIx) (s : State),
      (((s.lane l.val).bad.length < 16 ∨ (s.lane l.val).bad.getLastD 0 + 50000 ≤ (s.lane l.val).lockTime)) :=
  ⟨0, up,
    by decide +kernel⟩

theorem witness_ReceiveFrame_laneDrainTimeout :
    ∃ (l : LaneIx) (s : State),
      l.val < 256 ∧
      s.portState (portOf l.val) = 3 ∧
      ((∃ k ∈ s.joinedLanes (portOf l.val), k ≠ l.val % 8 ∧ k ∉ (s.port (portOf l.val)).drained ∧ (s.lane (8 * portOf l.val +
          k)).line ≠ none)) :=
  ⟨1, (onLane { line := some 3 } {} []).put Reg.LANE_PORT_STATUS_STATE 3 0,
    by decide +kernel, by decide +kernel, by decide +kernel⟩

theorem witness_Transmit_lanePortCtlWrite :
    ∃ (p : PortIx) (v : Word) (s : State),
      s.awake = true ∧
      s.hasUnit (.port p) = true ∧
      s.portState p.val ≠ 0 :=
  ⟨31, 0, at_ [(Reg.LANE_PORT_STATUS_STATE, 31, 2)],
    by decide +kernel, by decide +kernel, by decide +kernel⟩

theorem witness_Transmit_laneEgressChange :
    ∃ (l : LaneIx) (v : Word) (s : State),
      s.laneThere l.val = true :=
  ⟨257, 0, live,
    by decide +kernel⟩

theorem witness_Transmit_laneRetrain :
    ∃ (l : LaneIx) (s : State),
      s.laneThere l.val = true ∧
      s.laneOpen l.val = true ∧
      s.flag Reg.LANE_L_CTL_PRBS_TX (laneReg l.val) = false :=
  ⟨0, set [(Reg.LANE_PORT_CTL_EN, 0, 1)] (up.setPll (.lane 0) true),
    by decide +kernel, by decide +kernel, by decide +kernel⟩

theorem witness_Transmit_trainingBurstEnd :
    ∃ (l : LaneIx) (s : State),
      (s.lane l.val).inBurst = true :=
  ⟨0, { up with lanes := [(0, { inBurst := true })] },
    by decide +kernel⟩

theorem witness_Transmit_laneCntClr :
    ∃ (l : LaneIx) (s : State),
      s.laneThere l.val = true :=
  ⟨255, live,
    by decide +kernel⟩

theorem witness_Transmit_prbsTxEnable :
    ∃ (l : LaneIx) (s : State),
      s.laneThere l.val = true :=
  ⟨0, live,
    by decide +kernel⟩

theorem witness_Transmit_prbsRxEnable :
    ∃ (l : LaneIx) (s : State),
      s.laneThere l.val = true ∧
      s.rxState l.val ≠ 0 :=
  ⟨0, at_ [(Reg.LANE_L_STATUS_RX_STATE, 0, 1)],
    by decide +kernel, by decide +kernel⟩

theorem witness_Transmit_alignSent :
    ∃ (p : Fin 33) (n : Nat) (s : State),
      (alignLanes p.val).filter (fun k => s.sendsAlign k) = [n] :=
  ⟨32, 256, { (live.setPll .pairing true) with lanes := [(257, { inBurst := true })] },
    by decide +kernel⟩

theorem witness_Transmit_headTransmitLine :
    ∃ (p : PortIx) (n y : Nat) (f : Frame) (s : State),
      s.headLineNext p.val = some (f, y) ∧
      f.num = n ∧
      s.frame n = some f ∧
      (s.port p.val).head = some n ∧
      s.get Reg.LANE_PORT_CTL_TX_SRC p.val = 2 ∧
      s.txWaits p.val = false ∧
      f.overFor p.val = false :=
  ⟨0, 1, 0, { frame 1 with lines := [(0, 2)] }, withFrames [{ frame 1 with lines := [(0, 2)] }] { (at_ [(Reg.LANE_PORT_CTL_TX_SRC, 0, 2)]) with ports := [(0, { head := some 1 })] },
    by decide +kernel, by decide +kernel, by decide +kernel, by decide +kernel, by decide +kernel, by decide +kernel,
    by decide +kernel⟩

theorem witness_Transmit_frameTimeout :
    ∃ (n : Nat) (f : Frame) (s : State),
      s.frame n = some f ∧
      f.isOpen = true ∧
      f.span = none ∧
      f.devtime + f.timeout * 16000 ≤ s.now ∧
      s.cap.stopSeg = none ∧
      s.currentTake = none ∧
      s.nextTake = none :=
  ⟨1, { frame 1 with devtime := 0 }, withFrames [frame 1] ((at_ [(Reg.CAP_STATUS_STATE, 0, 2)]).put Reg.CAP_FRAME_CFG_TIMEOUT 0),
    by decide +kernel, by decide +kernel, by decide +kernel, by decide +kernel, by decide +kernel, by decide +kernel,
    by decide +kernel⟩

theorem witness_FormesAndClosing_fsSkewTimeout :
    ∃ (n : Nat) (f : Frame) (late : List Nat) (s : State),
      s.frame n = some f ∧
      f.isOpen = true ∧
      f.devtime + f.skew * 1600 ≤ s.now ∧
      late = (List.range 32).filter (fun p => (f.stripes.getD p ⟨false, 0, 0, 0⟩).en && !f.fsPorts.contains p &&
          !f.excluded.contains p) ∧
      late ≠ [] :=
  ⟨1, frame 1, [0], withFrames [frame 1] ((up.put Reg.CAP_FRAME_CFG_SKEW 0).put64 Reg.CAP_DEVTIME 100000),
    by decide +kernel, by decide +kernel, by decide +kernel, by decide +kernel, by decide +kernel⟩

theorem witness_FormesAndClosing_formeComplete :
    ∃ (f : Frame) (s : State),
      s.frame s.latestNum = some f ∧
      f.complete = false ∧
      f.dropped = false ∧
      f.span ≠ none ∧
      f.count ≤ f.frontier ∧
      s.takeState (f.take.getD 0) < 4 ∧
      s.cap.stopSeg = none ∧
      s.currentTake ≠ none :=
  ⟨{ frame 0 with take := some 0, span := some 0, frontier := 1 }, withFrames [{ frame 0 with take := some 0, span := some 0, frontier := 1 }] (at_ [(Reg.CAP_SEG_TAKE_STATE, 0, 3)]),
    by decide +kernel, by decide +kernel, by decide +kernel, by decide +kernel, by decide +kernel, by decide +kernel,
    by decide +kernel, by decide +kernel⟩

theorem witness_FormesAndClosing_certTimeReturned :
    ∃ (n k : Nat) (r : List (Nat × Nat)) (f : Frame) (s : State),
      s.col.answers = (n, k) :: r ∧
      s.frame n = some f ∧
      f.complete = false :=
  ⟨1, 7, [], frame 1, { (withFrames [frame 1] up) with col := { answers := [(1, 7)] } },
    by decide +kernel, by decide +kernel, by decide +kernel⟩

theorem witness_FormesAndClosing_colophonRecordReceived :
    ∃ (seg : SegIx) (r : Nat × List Byte) (s : State),
      s.col.outRecords.find? (fun r => r.1 == seg.val) = some r ∧
      s.takeState seg.val = 4 ∧
      fieldAt r.2 8 2 = s.takeId seg.val ∧
      s.galActive = true ∧
      s.pendingFrames seg.val = [] ∧
      ((∀ k < 16, s.takeState k ≠ 1)) :=
  ⟨15, (15, zeros 64), { (at_ [(Reg.CAP_SEG_TAKE_STATE, 15, 4)]) with col := { outRecords := [(15, zeros 64)] } },
    by decide +kernel, by decide +kernel, by decide +kernel, by decide +kernel, by decide +kernel, by decide +kernel⟩

theorem witness_FormesAndClosing_colophonRecordTimeout :
    ∃ (seg : SegIx) (s : State),
      s.takeState seg.val = 4 ∧
      (s.take seg.val).recordArrived = false ∧
      (s.take seg.val).closeTime + 16000000 ≤ s.now ∧
      s.pendingFrames seg.val = [] ∧
      ((∀ k < 16, s.takeState k ≠ 1)) :=
  ⟨0, (at_ [(Reg.CAP_SEG_TAKE_STATE, 0, 4)]).put64 Reg.CAP_DEVTIME 16000000,
    by decide +kernel, by decide +kernel, by decide +kernel, by decide +kernel, by decide +kernel⟩

theorem witness_TriggersAndConfiguration_triggerQualifyingEvent :
    ∃ (i : TrigIx) (k : Nat) (s : State),
      s.qualifies i.val (s.trig i.val).pin = true ∧
      (s.trig i.val).since = some k ∧
      k + s.get Reg.CAP_TRIG_CFG_MIN_WIDTH i.val ≤ s.now :=
  ⟨7, 0, (at_ [(Reg.CAP_TRIG_CFG_EN, 7, 1)]).setTrig 7 { pin := true, since := some 0 },
    by decide +kernel, by decide +kernel, by decide +kernel⟩

theorem witness_TriggersAndConfiguration_triggerLevelInactive :
    ∃ (i : TrigIx) (k : Nat) (s : State),
      s.trigIsLevel i.val = true ∧
      s.qualifies i.val (s.trig i.val).pin = false ∧
      (s.trig i.val).since = some k ∧
      k + s.get Reg.CAP_TRIG_CFG_MIN_WIDTH i.val ≤ s.now :=
  ⟨7, 0, (at_ [(Reg.CAP_TRIG_CFG_EN, 7, 1), (Reg.CAP_TRIG_CFG_MODE, 7, 3)]).setTrig 7 { pin := false, filtered := true, since := some 0 },
    by decide +kernel, by decide +kernel, by decide +kernel, by decide +kernel⟩

theorem witness_TriggersAndConfiguration_capConfigWrite_0 :
    ∃ (addr : Nat) (v : Word) (s : State),
      mirrored addr = true ∧
      s.written addr v ≠ s.rd addr ∧
      s.capLocked addr = false ∧
      s.pairPassive = false ∧
      (¬ (0x300200 ≤ addr ∧ addr < 0x300280)) ∧
      s.awake = true ∧
      s.absentAt addr = false :=
  ⟨0x300010, 0x00800080, up,
    by decide +kernel, by decide +kernel, by decide +kernel, by decide +kernel, by decide +kernel, by decide +kernel,
    by decide +kernel⟩

theorem witness_TriggersAndConfiguration_capConfigWrite_1 :
    ∃ (addr : Nat) (v : Word) (s : State),
      mirrored addr = true ∧
      s.written addr v ≠ s.rd addr ∧
      s.capLocked addr = false ∧
      s.pairPassive = false ∧
      (¬ (0x300200 ≤ addr ∧ addr < 0x300280)) ∧
      s.awake = true ∧
      s.absentAt addr = false :=
  ⟨0x3003F0, 0x10000, up,
    by decide +kernel, by decide +kernel, by decide +kernel, by decide +kernel, by decide +kernel, by decide +kernel,
    by decide +kernel⟩

theorem witness_TriggersAndConfiguration_capDisable :
    ∃ (s : State),
      s.get Reg.CAP_STATUS_STATE = 2 :=
  ⟨at_ [(Reg.CAP_STATUS_STATE, 0, 2)],
    by decide +kernel⟩

theorem witness_TriggersAndConfiguration_takeRecovery :
    ∃ (d : Damage) (s : State),
      s.gal.recover = true ∧
      s.galActive = true ∧
      2 ∉ s.cal.resetRuns :=
  ⟨[], { up with gal := { recover := true } },
    by decide +kernel, by decide +kernel, by decide +kernel⟩

theorem witness_CompositorArray_compositorTakeSort :
    ∃ (c k : Nat) (x : Nat × Nat) (r : List (Nat × Nat)) (s : State),
      c < max 1 s.clusters ∧
      s.freeComp c = some k ∧
      s.queue c = x :: r ∧
      ((∀ d < max 1 s.clusters, d ≠ c → s.freeComp d = none)) :=
  ⟨0, 0, (1, 0), [], { (at_ [(Reg.CMP_CLUSTER_STATUS_STATE, 0, 2), (Reg.CMP_CLUSTER_CTL_MASK, 0, 1)]) with cmp := { queues := [(0, [(1, 0)])] } },
    by decide +kernel, by decide +kernel, by decide +kernel, by decide +kernel⟩

theorem witness_CompositorArray_assemblyReadComplete :
    ∃ (k : CompIx) (h : Held) (f : Frame) (s : State),
      s.cmp.held.lookup k.val = some h ∧
      h.read = false ∧
      s.frame h.frame = some f ∧
      f.dropped = false :=
  ⟨0, { frame := 1, sort := 0 }, frame 1, { (withFrames [frame 1] up) with cmp := { held := [(0, { frame := 1, sort := 0 })] } },
    by decide +kernel, by decide +kernel, by decide +kernel, by decide +kernel⟩

theorem witness_CompositorArray_sortCoded :
    ∃ (k : CompIx) (h : Held) (s : State),
      s.cmp.held.lookup k.val = some h ∧
      h.read = true :=
  ⟨0, { frame := 1, sort := 0, read := true }, { up with cmp := { held := [(0, { frame := 1, sort := 0, read := true })] } },
    by decide +kernel, by decide +kernel⟩

theorem witness_CompositorArray_codedSortDelivery :
    ∃ (c : CodedSort) (r : List CodedSort) (s : State),
      s.cmp.out = c :: r ∧
      s.galActive = true :=
  ⟨⟨1, 0, [], .complete, false⟩, [], { up with cmp := { out := [⟨1, 0, [], .complete, false⟩] } },
    by decide +kernel, by decide +kernel⟩

theorem witness_CompositorArray_compositorMaskWrite :
    ∃ (c : ClusterIx) (v : Word) (s : State),
      s.awake = true ∧
      s.hasUnit (.cluster c) = true ∧
      bitsOf v 31 16 ≠ 0 :=
  ⟨31, 0xFFFF0001, up,
    by decide +kernel, by decide +kernel, by decide +kernel⟩

theorem witness_TakeCommands_arm :
    ∃ (c : Nat) (k : Cmd) (s : State),
      Ready s c 0x10 k ∧
      s.pairPassive = false ∧
      s.armCheck (k.fld 0x18 1) k.takeParams = none :=
  ⟨0, cmd 0x10 [(0x18, 1, 15)], issue (cmd 0x10 [(0x18, 1, 15)]) (run [(Reg.CAP_GEOM_HEIGHT, 0, 64), (Reg.CAP_GEOM_WIDTH, 0,
      64), (Reg.CAP_STRIPE_MAP_EN, 0, 1), (Reg.CAP_STRIPE_MAP_COUNT, 0, 64), (Reg.CAP_STRIPE_STEP_STRIDE, 0, 1),
      (Reg.CAP_SEG_CFG_SIZE, 15, 1), (Reg.GAL_REGION_CAP_UNITS, 0, 16)]),
    ⟨by decide +kernel, by decide +kernel, by decide +kernel, by decide +kernel, by decide +kernel, by decide +kernel,
     by decide +kernel, by decide +kernel, by decide +kernel, by decide +kernel⟩, by decide +kernel, by decide +kernel⟩

theorem witness_TakeCommands_stopQueued :
    ∃ (c : Nat) (k : Cmd) (s : State),
      Ready s c 0x11 k ∧
      c ∉ (s.take (k.fld 0x18 1)).waiting ∧
      s.pairPassive = false ∧
      s.takeNamed k = true ∧
      s.takeState (k.fld 0x18 1) = 1 :=
  ⟨0, cmd 0x11 [(0x18, 1, 15)], issue (cmd 0x11 [(0x18, 1, 15)]) (run [(Reg.CAP_SEG_TAKE_STATE, 15, 1)]),
    ⟨by decide +kernel, by decide +kernel, by decide +kernel, by decide +kernel, by decide +kernel, by decide +kernel,
     by decide +kernel, by decide +kernel, by decide +kernel, by decide +kernel⟩, by decide +kernel, by decide +kernel,
    by decide +kernel, by decide +kernel⟩

theorem witness_TakeCommands_stopClosed :
    ∃ (c : Nat) (k : Cmd) (s : State),
      Ready s c 0x11 k ∧
      c ∉ (s.take (k.fld 0x18 1)).waiting ∧
      s.pairPassive = false ∧
      s.takeNamed k = true ∧
      s.takeState (k.fld 0x18 1) = 5 :=
  ⟨0, cmd 0x11 [(0x18, 1, 15)], issue (cmd 0x11 [(0x18, 1, 15)]) (run [(Reg.CAP_SEG_TAKE_STATE, 15, 5)]),
    ⟨by decide +kernel, by decide +kernel, by decide +kernel, by decide +kernel, by decide +kernel, by decide +kernel,
     by decide +kernel, by decide +kernel, by decide +kernel, by decide +kernel⟩, by decide +kernel, by decide +kernel,
    by decide +kernel, by decide +kernel⟩

theorem witness_TakeCommands_release :
    ∃ (c : Nat) (k : Cmd) (s : State),
      Ready s c 0x12 k ∧
      k.begun = false ∧
      s.takeNamed k = true ∧
      s.takeState (k.fld 0x18 1) = 5 ∧
      s.draining (k.fld 0x18 1) = false :=
  ⟨0, cmd 0x12 [(0x18, 1, 15)], issue (cmd 0x12 [(0x18, 1, 15)]) (run [(Reg.CAP_SEG_TAKE_STATE, 15, 5)]),
    ⟨by decide +kernel, by decide +kernel, by decide +kernel, by decide +kernel, by decide +kernel, by decide +kernel,
     by decide +kernel, by decide +kernel, by decide +kernel, by decide +kernel⟩, by decide +kernel, by decide +kernel,
    by decide +kernel, by decide +kernel⟩

theorem witness_TakeCommands_releaseHeldComplete :
    ∃ (seg : SegIx) (s : State),
      s.flag Reg.CAP_SEG_TAKE_RELEASE_HELD seg.val = true ∧
      s.draining seg.val = false ∧
      s.heldReleases seg.val ≠ [] :=
  ⟨15, issue { cmd 0x12 [(0x18, 1, 15)] with begun := true } (run [(Reg.CAP_SEG_TAKE_RELEASE_HELD, 15, 1)]),
    by decide +kernel, by decide +kernel, by decide +kernel⟩

theorem witness_Galley_drainThrottleRelease :
    ∃ (s : State),
      s.gal.paused = true ∧
      s.storeBytes ≤ s.get Reg.GAL_ARB_WM_LOW * 1024 :=
  ⟨{ live with gal := { paused := true } },
    by decide +kernel, by decide +kernel⟩

theorem witness_Galley_galArbWmWrite :
    ∃ (v : Word) (s : State),
      v.toNat / 65536 ≤ 16384 ∧
      v.toNat % 65536 < v.toNat / 65536 :=
  ⟨0x40000001, live,
    by decide +kernel, by decide +kernel⟩

theorem witness_Galley_galErrorLogFree :
    ∃ (v : Word) (s : State),
      v.getLsbD Reg.GAL_ERR_INFO_VALID.lo = true :=
  ⟨BitVec.allOnes 32, live,
    by decide +kernel⟩

theorem witness_Galley_backgroundInitGranule :
    ∃ (g : Nat) (s : State),
      s.galActive = true ∧
      s.saving = false ∧
      s.flag Reg.GAL_STATUS_INIT_DONE = false ∧
      s.nextGranule = some g :=
  ⟨(live.nextGranule).getD 0, live,
    by decide +kernel, by decide +kernel, by decide +kernel, by decide +kernel⟩

theorem witness_Galley_patrolScrubRead :
    ∃ (l : Nat) (dmg : Damage) (s : State),
      s.flag Reg.GAL_SCRUB_EN = true ∧
      s.galActive = true ∧
      s.saving = false ∧
      s.nextScrub = some l :=
  ⟨0, [], { run [(Reg.GAL_SCRUB_EN, 0, 1)] with gal := { written := [(0, true)] } },
    by decide +kernel, by decide +kernel, by decide +kernel, by decide +kernel⟩

theorem witness_Galley_selfRefreshExit :
    ∃ (s : State),
      s.get Reg.GAL_STATUS_SR = 2 ∧
      ((∀ g < s.part.stackCount, (s.get Reg.CLK_PLL_STATUS_GPHY_LOCK >>> g) % 2 = 1)) ∧
      s.pwr.aosSafe = false ∧
      s.pwr.lockstep = false ∧
      s.pwr.trip = false ∧
      s.pwr.thermalHold = false ∧
      s.saving = false ∧
      s.pwr.inReset = false :=
  ⟨run [(Reg.GAL_STATUS_SR, 0, 2), (Reg.CLK_PLL_STATUS_GPHY_LOCK, 0, 15)],
    by decide +kernel, by decide +kernel, by decide +kernel, by decide +kernel, by decide +kernel, by decide +kernel,
    by decide +kernel, by decide +kernel⟩

theorem witness_Pairing_pairingLaneDown :
    ∃ (k : Fin 2) (b : Bool) (s : State),
      s.laneIsDown k.val = true ∧
      s.pairState ≠ 0 ∧
      s.pair.down.contains k.val = false ∧
      s.pair.down.contains (1 - k.val) = false ∧
      s.pair.heldCopy = none :=
  ⟨0, true, { run [(Reg.PAIR_STATUS_STATE, 0, 2)] with pair := { down := [] } },
    by decide +kernel, by decide +kernel, by decide +kernel, by decide +kernel, by decide +kernel⟩

theorem witness_Pairing_pairingLanesDown :
    ∃ (k : Fin 2) (s : State),
      s.laneIsDown k.val = true ∧
      s.pairState ≠ 0 ∧
      s.pair.down.contains k.val = false ∧
      s.pair.down.contains (1 - k.val) = true ∧
      s.pair.heldCopy = none ∧
      (s.pairRole = 2 ∨ s.pairRole = 3) ∧
      s.pair.peerHigh = true ∧
      s.driven = true :=
  ⟨0, { run [(Reg.PAIR_STATUS_STATE, 0, 2), (Reg.PAIR_STATUS_ROLE, 0, 2)] with pair := { down := [1], peerHigh := true } },
    by decide +kernel, by decide +kernel, by decide +kernel, by decide +kernel, by decide +kernel, by decide +kernel,
    by decide +kernel, by decide +kernel⟩

theorem witness_Pairing_pairRoleEvaluation :
    ∃ (b : Bool) (s : State),
      s.pairState = 1 ∧
      s.pairRole = 0 ∧
      s.pair.resampling = false ∧
      s.flag Reg.PAIR_STATUS_HELD = false ∧
      s.driven = true :=
  ⟨true, run [(Reg.PAIR_STATUS_STATE, 0, 1)],
    by decide +kernel, by decide +kernel, by decide +kernel, by decide +kernel, by decide +kernel⟩

theorem witness_Pairing_pairClaimActive :
    ∃ (s : State),
      s.pair.resampling = true ∧
      s.driven = true ∧
      s.pairRole ≠ 4 ∧
      s.pairState = 1 ∧
      s.flag Reg.PAIR_STATUS_HELD = false :=
  ⟨{ run [(Reg.PAIR_STATUS_STATE, 0, 1)] with pair := { resampling := true } },
    by decide +kernel, by decide +kernel, by decide +kernel, by decide +kernel, by decide +kernel⟩

theorem witness_Pairing_pairClaimStandby :
    ∃ (s : State),
      s.pair.resampling = true ∧
      s.driven = true ∧
      s.pairRole ≠ 4 ∧
      s.flag Reg.PAIR_PINS_STRAP = true ∧
      s.pairState = 1 ∧
      s.flag Reg.PAIR_STATUS_HELD = false :=
  ⟨{ run [(Reg.PAIR_STATUS_STATE, 0, 1), (Reg.PAIR_PINS_STRAP, 0, 1)] with pair := { resampling := true } },
    by decide +kernel, by decide +kernel, by decide +kernel, by decide +kernel, by decide +kernel, by decide +kernel⟩

theorem witness_Pairing_peerHigh :
    ∃ (s : State),
      ((s.pairRole ≠ 2 ∧ s.pairRole ≠ 3) ∨ (s.lanesDown = false ∧ s.pair.peerRole ≠ 3 ∧ s.pair.peerRole ≠ 1)) :=
  ⟨live,
    by decide +kernel⟩

theorem witness_Pairing_epochSend :
    ∃ (s : State),
      s.pairRole = 1 ∧
      s.pairState = 2 ∧
      s.pair.records ≠ [] ∧
      s.pair.resync = false :=
  ⟨{ run [(Reg.PAIR_STATUS_STATE, 0, 2), (Reg.PAIR_STATUS_ROLE, 0, 1)] with pair := { records := [[]] } },
    by decide +kernel, by decide +kernel, by decide +kernel, by decide +kernel⟩

theorem witness_Pairing_pairHeartbeatSend :
    ∃ (k : Fin 2) (s : State),
      (s.pairRole = 1 ∨ s.pairRole = 2 ∨ s.pairRole = 3 ∨ s.pairRole = 4) ∧
      s.flag Reg.LANE_L_CTL_PRBS_TX (laneReg (256 + k.val)) = false ∧
      (s.lane (256 + k.val)).inBurst = false ∧
      s.laneOpen (256 + k.val) = true :=
  ⟨1, (set [(Reg.PAIR_STATUS_ROLE, 0, 2)] (live.setPll .pairing true)),
    by decide +kernel, by decide +kernel, by decide +kernel, by decide +kernel⟩

theorem witness_Pairing_epochAckTimeout :
    ∃ (s : State),
      s.pairRole = 1 ∧
      s.get Reg.PAIR_EPOCH_COMMIT + 4 < s.get Reg.PAIR_EPOCH_SENT :=
  ⟨run [(Reg.PAIR_STATUS_ROLE, 0, 1), (Reg.PAIR_EPOCH_SENT, 0, 5)],
    by decide +kernel, by decide +kernel⟩

theorem witness_Pairing_pairLeavingEnd :
    ∃ (s : State),
      s.pair.leaving = true :=
  ⟨{ live with pair := { leaving := true } },
    by decide +kernel⟩

theorem witness_Pairing_receivePairHeartbeat :
    ∃ (k : Fin 2) (p : Word64) (b : Bool) (s : State),
      s.rxLive (256 + k.val) { slot := 0, txSlots := 0, elastic := .none } = true ∧
      isCt 0x10 (s.peek (256 + k.val) p) = true ∧
      ctlOk (s.peek (256 + k.val) p) = true ∧
      s.slotMissed (256 + k.val) 0 = false ∧
      s.pairRole = 1 ∧
      s.pair.heldCopy = none :=
  ⟨1, onLine (ctBlock 0x10 1 true 0 2).payload, true, { run [(Reg.LANE_L_STATUS_RX_STATE, laneReg 257, 4), (Reg.PAIR_STATUS_ROLE, 0, 1)] with lanes := [(257, { descrambler := 0, sinceLock := 1 })] },
    by decide +kernel, by decide +kernel, by decide +kernel, by decide +kernel, by decide +kernel, by decide +kernel⟩

theorem witness_Link_linkTrained :
    ∃ (speed width : Nat) (flit : Bool) (errs : List LinkErr) (s : State),
      0 < speed ∧
      speed ≤ 6 ∧
      0 < width ∧
      s.flag Reg.CLK_PLL_STATUS_PCIE_LOCK = true ∧
      s.pwr.por = false ∧
      s.pwr.perst = false :=
  ⟨6, 1, true, [], run [(Reg.CLK_PLL_STATUS_PCIE_LOCK, 0, 1)],
    by decide +kernel, by decide +kernel, by decide +kernel, by decide +kernel, by decide +kernel, by decide +kernel⟩

theorem witness_Link_bar0AccessBadShape :
    ∃ (f : FnIx) (write : Bool) (a : Nat) (s : State),
      s.hasFn f.val = true ∧
      s.barRefuses f.val = false :=
  ⟨1, true, 0, live,
    by decide +kernel, by decide +kernel⟩

theorem witness_Link_bar2Read :
    ∃ (o len a : Nat) (dmg : Damage) (s : State),
      s.awake = true ∧
      s.barRefuses 0 = false ∧
      s.flag Reg.CFG_CONT_STATUS_CONTAINED 0 = false ∧
      s.bar2Target o = some a ∧
      s.saving = false ∧
      (s.strike dmg).bufRuns = true :=
  ⟨0, 4, 0, [], live,
    by decide +kernel, by decide +kernel, by decide +kernel, by decide +kernel, by decide +kernel, by decide +kernel⟩

theorem witness_Link_bar2Write :
    ∃ (o a : Nat) (bytes : List (Option Byte)) (dmg : Damage) (s : State),
      s.awake = true ∧
      s.barRefuses 0 = false ∧
      s.flag Reg.CFG_CONT_STATUS_CONTAINED 0 = false ∧
      s.bar2Target o = some a ∧
      s.saving = false ∧
      (s.strike dmg).bufRuns = true :=
  ⟨0, 0, [some 1, none], [], live,
    by decide +kernel, by decide +kernel, by decide +kernel, by decide +kernel, by decide +kernel, by decide +kernel⟩

theorem witness_Link_poisonedBar2Write :
    ∃ (o : Nat) (bytes : List (Option Byte)) (s : State),
      s.awake = true ∧
      s.barRefuses 0 = false :=
  ⟨0, [], live,
    by decide +kernel, by decide +kernel⟩

theorem witness_Link_resizableBarWrite :
    ∃ (v : Word) (s : State),
      s.flag Reg.CFG_COMMAND_MSE 0 = false ∧
      8 ≤ bitsOf v 13 8 ∧
      bitsOf v 13 8 ≤ 18 :=
  ⟨0x1200, up,
    by decide +kernel, by decide +kernel, by decide +kernel⟩

theorem witness_Link_xwinEnable :
    ∃ (w : Nat) (s : State),
      w < 16 ∧
      s.xwinOk w = true :=
  ⟨15, run [(Reg.PCIE_XWIN_CTL_SIZE, 15, 20)],
    by decide +kernel, by decide +kernel⟩

theorem witness_Link_msixPendingSend :
    ∃ (f : FnIx) (v : Nat) (s : State),
      v < (if f.val = 0 then 2048 else 8) ∧
      s.pba f.val v = true ∧
      s.flag Reg.CFG_MSIX_ENABLE f.val = true ∧
      s.flag Reg.CFG_MSIX_FMASK f.val = false ∧
      s.vecMasked f.val v = false ∧
      s.canSend f.val = true :=
  ⟨1, 7, run [(Reg.MSIX1_PBA, 0, 0x80), (Reg.CFG_MSIX_ENABLE, 1, 1), (Reg.MSIX1_CTL_MASK, 7, 0)],
    by decide +kernel, by decide +kernel, by decide +kernel, by decide +kernel, by decide +kernel, by decide +kernel⟩

theorem witness_PcieErrorsAndPower_completionTimeout :
    ∃ (tag : Nat) (r : ReadTag) (s : State),
      s.tagRead tag = some r :=
  ⟨0, ⟨0, .summary⟩, { live with pcie := { linkUp := true, reads := [⟨0, .summary⟩] } },
    by decide +kernel⟩

theorem witness_PcieErrorsAndPower_lateCompletion :
    ∃ (tag : Nat) (s : State),
      s.pcie.late.any (fun l => l.1 == tag) = true :=
  ⟨0, { live with pcie := { linkUp := true, late := [(0, 0)] } },
    by decide +kernel⟩

theorem witness_PcieErrorsAndPower_containmentFreeze :
    ∃ (f : FnIx) (s : State),
      s.hasFn f.val = true :=
  ⟨1, live,
    by decide +kernel⟩

theorem witness_PcieErrorsAndPower_containmentRelease :
    ∃ (f : FnIx) (v : Word) (s : State),
      v.getLsbD 16 = true ∧
      s.hasFn f.val = true ∧
      bitsOf v 15 8 = s.get Reg.CFG_CONT_STATUS_FREEZE_SEQ f.val ∧
      s.causeStays f.val = false :=
  ⟨1, 0x00010000, live,
    by decide +kernel, by decide +kernel, by decide +kernel, by decide +kernel⟩

theorem witness_PcieErrorsAndPower_d3hotEntry :
    ∃ (f : FnIx) (s : State),
      s.hasFn f.val = true :=
  ⟨1, live,
    by decide +kernel⟩

theorem witness_PcieErrorsAndPower_d0Return :
    ∃ (f : FnIx) (s : State),
      s.hasFn f.val = true :=
  ⟨1, live,
    by decide +kernel⟩

theorem witness_PcieErrorsAndPower_busMasterEnableClear :
    ∃ (f : FnIx) (s : State),
      s.hasFn f.val = true :=
  ⟨1, live,
    by decide +kernel⟩

theorem witness_PcieErrorsAndPower_busMasterEnableSet :
    ∃ (f : FnIx) (s : State),
      s.hasFn f.val = true :=
  ⟨1, live,
    by decide +kernel⟩

theorem witness_Rings_doorbellScan :
    ∃ (s : State),
      s.canSend 0 = true ∧
      s.flag Reg.HQ_CTL_SCAN_EN = true ∧
      s.reading .summary = false ∧
      s.hq.sumHeld = none ∧
      s.saving = false ∧
      s.readRoom ≠ 0 ∧
      s.hq.cq = [] ∧
      s.hq.lineWait = [] :=
  ⟨run [(Reg.HQ_CTL_SCAN_EN, 0, 1)],
    by decide +kernel, by decide +kernel, by decide +kernel, by decide +kernel, by decide +kernel, by decide +kernel,
    by decide +kernel, by decide +kernel⟩

theorem witness_Rings_summaryLineReceived :
    ∃ (line : List Byte) (s : State),
      s.reading .summary = true ∧
      s.canSend 0 = true ∧
      ((∀ j < 64, line.getD j 0 = 0)) :=
  ⟨zeros 64, { live with pcie := { linkUp := true, reads := [⟨0, .summary⟩] } },
    by decide +kernel, by decide +kernel, by decide +kernel⟩

theorem witness_Rings_doorbellLineReceived :
    ∃ (j : Fin 64) (b : List Byte) (s : State),
      s.reading (.line j.val) = true ∧
      s.lineRings j.val = [] :=
  ⟨63, [], { live with pcie := { linkUp := true, reads := [⟨0, .line 63⟩] } },
    by decide +kernel, by decide +kernel⟩

theorem witness_Rings_doorbellTail :
    ∃ (j : Fin 64) (n : Nat) (b : List Byte) (s : State),
      s.reading (.line j.val) = true ∧
      s.lineRings j.val = [n] ∧
      fieldAt b (4 * (n % 16)) 4 < s.sqDepth n :=
  ⟨63, 1023, zeros 64, { run [(Reg.HQ_SQ_STATUS_STATE, 1023, 2), (Reg.HQ_SQ_CTL_DEPTH_M1, 1023, 15)] with pcie := { linkUp := true, reads := [⟨0, .line 63⟩] } },
    by decide +kernel, by decide +kernel, by decide +kernel⟩

theorem witness_Rings_hqWake :
    ∃ (v : Word) (s : State),
      s.flag Reg.HQ_CTL_SCAN_EN = true :=
  ⟨0, run [(Reg.HQ_CTL_SCAN_EN, 0, 1)],
    by decide +kernel⟩

theorem witness_Rings_cqHeadDoorbellReceived :
    ∃ (c : RingIx) (b : List Byte) (s : State),
      s.reading (.head c.val) = true ∧
      fieldAt b 0 4 < s.cqDepth c.val ∧
      (fieldAt b 0 4 + s.cqDepth c.val - (s.cq c.val).head) % s.cqDepth c.val ≤ (s.get Reg.HQ_CQ_STATUS_TAIL c.val + s.cqDepth
          c.val - (s.cq c.val).head) % s.cqDepth c.val ∧
      (s.cq c.val).held = [] :=
  ⟨1023, zeros 4, { run [(Reg.HQ_CQ_CTL_DEPTH_M1, 1023, 15)] with pcie := { linkUp := true, reads := [⟨0, .head 1023⟩] } },
    by decide +kernel, by decide +kernel, by decide +kernel, by decide +kernel⟩

theorem witness_Rings_submissionEntryFetch :
    ∃ (s : State),
      s.canSend 0 = true ∧
      s.fetches 0 = true ∧
      0 < s.unfetched 0 :=
  ⟨{ run [(Reg.HQ_SQ_STATUS_STATE, 0, 2), (Reg.HQ_SQ_CTL_DEPTH_M1, 0, 15)] with hq := { sq := [(0, { tail := 1 })] } },
    by decide +kernel, by decide +kernel, by decide +kernel⟩

theorem witness_Rings_submissionEntryReceived :
    ∃ (n : RingIx) (slot : Nat) (b : List Byte) (c : Cmd) (s : State),
      s.reading (.stale n.val slot) = false ∧
      s.reading (.entry n.val slot) = true ∧
      slot = s.get Reg.HQ_SQ_STATUS_HEAD n.val ∧
      s.saving = false ∧
      s.hq.stopped = false ∧
      c = { tag := s.hq.nextTag, sq := n.val, cid := fieldAt b 2 2, epoch := (s.sq n.val).wraps % 16, entry := b } ∧
      s.entryStatus c = none ∧
      c.op ≠ 3 :=
  ⟨1023, 0, ent 0x12 [(6, 2, 0xFFFF)], { cmd 0x12 [(6, 2, 0xFFFF)] with sq := 1023 }, { run [(Reg.HQ_SQ_STATUS_STATE, 1023, 2)] with pcie := { linkUp := true, reads := [⟨0, .entry 1023 0⟩] } },
    by decide +kernel, by decide +kernel, by decide +kernel, by decide +kernel, by decide +kernel, rfl, by decide +kernel,
    by decide +kernel⟩

theorem witness_Rings_cqCoalesceExpiry :
    ∃ (c : RingIx) (s : State),
      (s.cq c.val).coalescing = true :=
  ⟨1023, { live with hq := { cq := [(1023, { coalescing := true })] } },
    by decide +kernel⟩

theorem witness_Rings_sqResume :
    ∃ (n : RingIx) (b : Bool) (s : State),
      s.flag Reg.HQ_SQ_STATUS_FROZEN n.val = true :=
  ⟨1023, true, run [(Reg.HQ_SQ_STATUS_FROZEN, 1023, 1)],
    by decide +kernel⟩

theorem witness_Administration_logRead :
    ∃ (c : Nat) (k : Cmd) (s : State),
      Ready s c 0x41 k ∧
      (k.fld 0x18 1 = 1 ∨ k.fld 0x18 1 = 2) :=
  ⟨0, cmd 0x41 [(0x18, 1, 1)], issue (cmd 0x41 [(0x18, 1, 1)]) live,
    ⟨by decide +kernel, by decide +kernel, by decide +kernel, by decide +kernel, by decide +kernel, by decide +kernel,
     by decide +kernel, by decide +kernel, by decide +kernel, by decide +kernel⟩, by decide +kernel⟩

theorem witness_Administration_featureGet :
    ∃ (c : Nat) (k : Cmd) (s : State),
      Ready s c 0x42 k ∧
      (k.fld 0x18 2 = 1 ∨ k.fld 0x18 2 = 2 ∧ s.mounted = true ∨ k.fld 0x18 2 = 3) :=
  ⟨0, cmd 0x42 [(0x18, 2, 1)], issue (cmd 0x42 [(0x18, 2, 1)]) live,
    ⟨by decide +kernel, by decide +kernel, by decide +kernel, by decide +kernel, by decide +kernel, by decide +kernel,
     by decide +kernel, by decide +kernel, by decide +kernel, by decide +kernel⟩, by decide +kernel⟩

theorem witness_Administration_featureSet :
    ∃ (c : Nat) (k : Cmd) (s : State),
      Ready s c 0x43 k ∧
      k.fld 0x18 2 = 1 ∧
      k.fld 0x20 8 ≤ 1 :=
  ⟨0, cmd 0x43 [(0x18, 2, 1), (0x20, 8, 1)], issue (cmd 0x43 [(0x18, 2, 1), (0x20, 8, 1)]) live,
    ⟨by decide +kernel, by decide +kernel, by decide +kernel, by decide +kernel, by decide +kernel, by decide +kernel,
     by decide +kernel, by decide +kernel, by decide +kernel, by decide +kernel⟩, by decide +kernel, by decide +kernel⟩

theorem witness_Administration_ringCreate :
    ∃ (c : Nat) (k : Cmd) (s : State),
      Ready s c 0x44 k ∧
      k.begun = false ∧
      k.fld 0x18 1 = 0 ∧
      k.fld 0x1A 2 < 1024 ∧
      k.fld 0x2C 2 < 1024 ∧
      s.get Reg.HQ_SQ_STATUS_STATE (k.fld 0x1A 2) = 0 ∧
      s.get Reg.HQ_CQ_STATUS_STATE (k.fld 0x2C 2) = 2 :=
  ⟨0, cmd 0x44 [(0x1A, 2, 1023), (0x2C, 2, 1023)], issue (cmd 0x44 [(0x1A, 2, 1023), (0x2C, 2, 1023)]) (run
      [(Reg.HQ_CQ_STATUS_STATE, 1023, 2)]),
    ⟨by decide +kernel, by decide +kernel, by decide +kernel, by decide +kernel, by decide +kernel, by decide +kernel,
     by decide +kernel, by decide +kernel, by decide +kernel, by decide +kernel⟩, by decide +kernel, by decide +kernel,
    by decide +kernel, by decide +kernel, by decide +kernel, by decide +kernel⟩

theorem witness_Administration_ringDelete :
    ∃ (c : Nat) (k : Cmd) (s : State),
      Ready s c 0x45 k ∧
      k.begun = false ∧
      k.fld 0x18 1 = 0 ∧
      s.get Reg.HQ_SQ_STATUS_STATE (k.fld 0x1A 2) = 0 :=
  ⟨0, cmd 0x45 [(0x1A, 2, 1)], issue (cmd 0x45 [(0x1A, 2, 1)]) live,
    ⟨by decide +kernel, by decide +kernel, by decide +kernel, by decide +kernel, by decide +kernel, by decide +kernel,
     by decide +kernel, by decide +kernel, by decide +kernel, by decide +kernel⟩, by decide +kernel, by decide +kernel,
    by decide +kernel⟩

theorem witness_Administration_ringResume :
    ∃ (c : Nat) (k : Cmd) (s : State),
      Ready s c 0x46 k ∧
      k.fld 0x1A 2 < 1024 ∧
      s.flag Reg.HQ_SQ_STATUS_FROZEN (k.fld 0x1A 2) = true :=
  ⟨0, cmd 0x46 [(0x1A, 2, 1023)], issue (cmd 0x46 [(0x1A, 2, 1023)]) (run [(Reg.HQ_SQ_STATUS_FROZEN, 1023, 1)]),
    ⟨by decide +kernel, by decide +kernel, by decide +kernel, by decide +kernel, by decide +kernel, by decide +kernel,
     by decide +kernel, by decide +kernel, by decide +kernel, by decide +kernel⟩, by decide +kernel, by decide +kernel⟩

theorem witness_Administration_abort :
    ∃ (c : Nat) (k : Cmd) (s : State),
      Ready s c 0x40 k ∧
      s.hq.aborts = [] ∧
      k.begun = false ∧
      s.canSend 0 = false ∧
      s.fetchesOf (k.fld 0x18 2) = 0 ∧
      s.unfetched (k.fld 0x18 2) = 0 ∧
      ((∀ d ∈ s.hq.cmds, d.tag ≠ c → (d.sq == k.fld 0x18 2 && d.cid == k.fld 0x1A 2 && d.epoch == k.fld 0x1C 1) = false)) :=
  ⟨0, cmd 0x40 [], issue (cmd 0x40 []) { live with pcie := {} },
    ⟨by decide +kernel, by decide +kernel, by decide +kernel, by decide +kernel, by decide +kernel, by decide +kernel,
     by decide +kernel, by decide +kernel, by decide +kernel, by decide +kernel⟩, by decide +kernel, by decide +kernel,
    by decide +kernel, by decide +kernel, by decide +kernel, by decide +kernel⟩

theorem witness_BlockCommands_write :
    ∃ (c : Nat) (k : Cmd) (d : List Byte) (ecc : NandEcc) (s u : State),
      Ready s c 0x01 k ∧
      u = s.setCmd { k with begun := true } ∧
      u.magRefuse k true = none ∧
      k.ioBlocks * max 1 u.mag.lbs ≠ 0 ∧
      k.dataLen = k.ioBlocks * max 1 u.mag.lbs ∧
      k.ioLba + k.ioBlocks ≤ u.lbaCount ∧
      k.pastAbort = false ∧
      u.mapWait k = false ∧
      u.bufRuns = true ∧
      k.progress = 0 ∧
      k.fua = false ∧
      u.writeThrough = false ∧
      (u.enter (some d) ecc k.tag 0 (piecesOf (k.ioLba * max 1 u.mag.lbs) k.dataLen)).1 = k.dataLen :=
  ⟨0, cmd 1 [(16, 4, 512), (0x20, 4, 1)], zeros 512, [], issue (cmd 1 [(16, 4, 512), (0x20, 4, 1)]) { mounted [] with mag := { dies := [die], lbs := 512, exportUnits := 1 } }, _,
    ⟨by decide +kernel, by decide +kernel, by decide +kernel, by decide +kernel, by decide +kernel, by decide +kernel,
     by decide +kernel, by decide +kernel, by decide +kernel, by decide +kernel⟩, rfl, by decide +kernel, by decide +kernel,
    by decide +kernel, by decide +kernel, by decide +kernel, by decide +kernel, by decide +kernel, by decide +kernel,
    by decide +kernel, by decide +kernel, by decide +kernel⟩

theorem witness_BlockCommands_discard :
    ∃ (c : Nat) (k : Cmd) (ecc : NandEcc) (s u : State),
      Ready s c 0x04 k ∧
      u = s.setCmd { k with begun := true } ∧
      u.magRefuse k true = none ∧
      k.ioBlocks * max 1 u.mag.lbs ≠ 0 ∧
      k.ioLba + k.ioBlocks ≤ u.lbaCount ∧
      k.pastAbort = false ∧
      u.mapWait k = false ∧
      u.bufRuns = true ∧
      k.progress = 0 ∧
      k.fua = false ∧
      u.writeThrough = false ∧
      (u.enter none ecc k.tag 0 (piecesOf (k.ioLba * max 1 u.mag.lbs) (k.ioBlocks * max 1 u.mag.lbs))).1 = k.ioBlocks * max 1
          u.mag.lbs :=
  ⟨0, cmd 4 [(16, 4, 512), (0x20, 4, 1)], [], issue (cmd 4 [(16, 4, 512), (0x20, 4, 1)]) { mounted [] with mag := { dies := [die], lbs := 512, exportUnits := 1 } }, _,
    ⟨by decide +kernel, by decide +kernel, by decide +kernel, by decide +kernel, by decide +kernel, by decide +kernel,
     by decide +kernel, by decide +kernel, by decide +kernel, by decide +kernel⟩, rfl, by decide +kernel, by decide +kernel,
    by decide +kernel, by decide +kernel, by decide +kernel, by decide +kernel, by decide +kernel, by decide +kernel,
    by decide +kernel, by decide +kernel⟩

theorem witness_BlockCommands_atomicWrite :
    ∃ (c : Nat) (k : Cmd) (d : List Byte) (ecc : NandEcc) (n : Nat) (s u : State),
      Ready s c 0x05 k ∧
      u = s.setCmd { k with begun := true } ∧
      n = k.ioBlocks * max 1 u.mag.lbs ∧
      u.magRefuse k true = none ∧
      n ≠ 0 ∧
      k.dataLen = n ∧
      n ≤ 2 ^ 20 ∧
      k.ioLba * max 1 u.mag.lbs / 2 ^ 20 = (k.ioLba * max 1 u.mag.lbs + n - 1) / 2 ^ 20 ∧
      k.ioLba + k.ioBlocks ≤ u.lbaCount ∧
      k.pastAbort = false ∧
      u.mapWait k = false ∧
      u.bufRuns = true ∧
      ((∀ j ≤ (piecesOf (k.ioLba * max 1 u.mag.lbs) n).length, u.bufRoom j = true)) ∧
      k.fua = false ∧
      u.writeThrough = false :=
  ⟨0, cmd 5 [(16, 4, 512), (0x20, 4, 1)], zeros 512, [], 512, issue (cmd 5 [(16, 4, 512), (0x20, 4, 1)]) { mounted [] with mag := { dies := [die], lbs := 512, exportUnits := 1 } }, _,
    ⟨by decide +kernel, by decide +kernel, by decide +kernel, by decide +kernel, by decide +kernel, by decide +kernel,
     by decide +kernel, by decide +kernel, by decide +kernel, by decide +kernel⟩, rfl, by decide +kernel, by decide +kernel,
    by decide +kernel, by decide +kernel, by decide +kernel, by decide +kernel, by decide +kernel, by decide +kernel,
    by decide +kernel, by decide +kernel, by decide +kernel, by decide +kernel, by decide +kernel⟩

theorem witness_BlockCommands_read :
    ∃ (c : Nat) (k : Cmd) (ecc : NandEcc) (s u : State),
      Ready s c 0x02 k ∧
      u = s.setCmd { k with begun := true } ∧
      u.magRefuse k false = none ∧
      k.ioBlocks ≠ 0 ∧
      k.dataLen = k.ioBlocks * max 1 u.mag.lbs ∧
      k.ioLba + k.ioBlocks ≤ u.lbaCount ∧
      u.mapWait k = false ∧
      u.bufRuns = true ∧
      (u.readRange (k.ioLba * max 1 u.mag.lbs) (k.ioBlocks * max 1 u.mag.lbs) ecc).2.1 = [] :=
  ⟨0, cmd 2 [(16, 4, 512), (0x20, 4, 1)], [], issue (cmd 2 [(16, 4, 512), (0x20, 4, 1)]) { mounted [] with mag := { dies := [die], lbs := 512, exportUnits := 1 } }, _,
    ⟨by decide +kernel, by decide +kernel, by decide +kernel, by decide +kernel, by decide +kernel, by decide +kernel,
     by decide +kernel, by decide +kernel, by decide +kernel, by decide +kernel⟩, rfl, by decide +kernel, by decide +kernel,
    by decide +kernel, by decide +kernel, by decide +kernel, by decide +kernel, by decide +kernel⟩

theorem witness_BlockCommands_flush :
    ∃ (c : Nat) (k : Cmd) (s u : State),
      Ready s c 0x03 k ∧
      u = s.setCmd { k with begun := true } ∧
      u.magRefuse k false = none ∧
      s.flushDone c = true :=
  ⟨0, cmd 3 [(16, 4, 512), (0x20, 4, 1)], issue (cmd 3 [(16, 4, 512), (0x20, 4, 1)]) { mounted [] with mag := { dies := [die], lbs := 512, exportUnits := 1 } }, _,
    ⟨by decide +kernel, by decide +kernel, by decide +kernel, by decide +kernel, by decide +kernel, by decide +kernel,
     by decide +kernel, by decide +kernel, by decide +kernel, by decide +kernel⟩, rfl, by decide +kernel, by decide +kernel⟩

theorem witness_GalleyCommands_exportTake :
    ∃ (c : Nat) (k : Cmd) (dmg : Damage) (puns : Puns) (ecc : NandEcc) (s u : State),
      Ready s c 0x13 k ∧
      u = s.setCmd { k with begun := true } ∧
      u.takeNamed k = true ∧
      u.takeState (k.fld 0x18 1) = 5 ∧
      u.magRefuse k true = none ∧
      k.keySlot = 0xFFFF ∧
      u.drainsRun = true ∧
      u.mayProgram = true :=
  ⟨0, cmd 0x13 [(0x18, 1, 15), (0x1A, 2, 9), (6, 2, 0xFFFF)], [], [], [], issue (cmd 0x13 [(0x18, 1, 15), (0x1A, 2, 9), (6, 2,
      0xFFFF)]) (mounted [(Reg.CAP_SEG_TAKE_STATE, 15, 5), (Reg.CAP_SEG_TAKE_TAKE_ID, 15, 9)]), _,
    ⟨by decide +kernel, by decide +kernel, by decide +kernel, by decide +kernel, by decide +kernel, by decide +kernel,
     by decide +kernel, by decide +kernel, by decide +kernel, by decide +kernel⟩, rfl, by decide +kernel, by decide +kernel,
    by decide +kernel, by decide +kernel, by decide +kernel, by decide +kernel⟩

theorem witness_GalleyCommands_galleyRead :
    ∃ (c : Nat) (k : Cmd) (dmg : Damage) (s u : State),
      Ready s c 0x14 k ∧
      u = s.setCmd { k with begun := true } ∧
      u.takeNamed k = true ∧
      u.drainsRun = true ∧
      ((u.strike dmg).readFormes (k.fld 0x18 1) k.dataLen (u.formesNamed k)).1 ≠ 0 ∧
      ((u.strike dmg).readFormes (k.fld 0x18 1) k.dataLen (u.formesNamed k)).2.2.2.1 = none :=
  ⟨0, cmd 0x14 [(16, 4, 64), (0x18, 1, 15), (0x1A, 2, 9), (0x28, 4, 1)], [], issue (cmd 0x14 [(16, 4, 64), (0x18, 1, 15), (0x1A, 2, 9), (0x28, 4, 1)]) { run [(Reg.CAP_SEG_TAKE_STATE, 15, 5), (Reg.CAP_SEG_TAKE_TAKE_ID, 15, 9)] with cap := { takes := [(15, { spans := [{ off := 0, len := 64, kind := .forme, frame := 0, bytes := 64 }] })] } }, _,
    ⟨by decide +kernel, by decide +kernel, by decide +kernel, by decide +kernel, by decide +kernel, by decide +kernel,
     by decide +kernel, by decide +kernel, by decide +kernel, by decide +kernel⟩, rfl, by decide +kernel, by decide +kernel,
    by decide +kernel, by decide +kernel⟩

theorem witness_GalleyCommands_egressPlay :
    ∃ (c : Nat) (k : Cmd) (dmg : Damage) (x : Span) (s u : State),
      Ready s c 0x15 k ∧
      u = s.setCmd { k with begun := true } ∧
      ((k.unit = 0 → k.caught = none)) ∧
      u.playWaits k = false ∧
      u.takeNamed k = true ∧
      k.fld 0x1C 1 ≤ 31 ∧
      u.get Reg.LANE_PORT_CTL_TX_SRC (k.fld 0x1C 1) = 1 ∧
      u.drainsRun = true ∧
      ((k.unit = 0 → u.txWaits (k.fld 0x1C 1) = false)) ∧
      (u.formesNamed k).filter (fun x => decide (k.detail ≤ x.frame)) = [x] ∧
      k.fld 0x1D 1 = 0 ∧
      x.bytes ≤ 56 * ((if x.frame = k.detail then k.unit else 0) + 8) :=
  ⟨0, cmd 0x15 [(0x18, 1, 15), (0x1A, 2, 9), (0x1C, 1, 31), (0x28, 4, 1)], [], { off := 0, len := 64, kind := .forme, frame := 0, bytes := 64 }, issue (cmd 0x15 [(0x18, 1, 15), (0x1A, 2, 9), (0x1C, 1, 31), (0x28, 4, 1)]) { run [(Reg.CAP_SEG_TAKE_STATE, 15, 5), (Reg.CAP_SEG_TAKE_TAKE_ID, 15, 9), (Reg.LANE_PORT_CTL_TX_SRC, 31, 1)] with cap := { takes := [(15, { spans := [{ off := 0, len := 64, kind := .forme, frame := 0, bytes := 64 }] })] } }, _,
    ⟨by decide +kernel, by decide +kernel, by decide +kernel, by decide +kernel, by decide +kernel, by decide +kernel,
     by decide +kernel, by decide +kernel, by decide +kernel, by decide +kernel⟩, rfl, by decide +kernel, by decide +kernel,
    by decide +kernel, by decide +kernel, by decide +kernel, by decide +kernel, by decide +kernel, by decide +kernel,
    by decide +kernel, by decide +kernel⟩

theorem witness_ArchiveCommands_discLoad :
    ∃ (c : Nat) (k : Cmd) (x : Exchange) (d : Disc) (s : State),
      Ready s c 0x20 k ∧
      s.mot.exchange = some x ∧
      x.cmd = some c ∧
      x.acts = [] ∧
      s.och.disc = some d ∧
      d.wedgesGood = true :=
  ⟨0, cmd 0x20 [], { cmd := some 0, load := true, slot := 0, acts := [], issued := false }, { wedgesGood := true, folios := [] }, issue (cmd 0x20 []) { live with mot := { exchange := some { cmd := some 0, load := true, slot := 0, acts := [], issued := false } }, och := { disc := some { wedgesGood := true, folios := [] } } },
    ⟨by decide +kernel, by decide +kernel, by decide +kernel, by decide +kernel, by decide +kernel, by decide +kernel,
     by decide +kernel, by decide +kernel, by decide +kernel, by decide +kernel⟩, by decide +kernel, by decide +kernel,
    by decide +kernel, by decide +kernel, by decide +kernel⟩

theorem witness_ArchiveCommands_discLoadBegins :
    ∃ (c : Nat) (k : Cmd) (s : State),
      Ready s c 0x20 k ∧
      s.mot.exchange = none ∧
      s.mot.noSlot = false ∧
      s.mot.cartPresent = true ∧
      s.och.job = none ∧
      s.och.reading = none ∧
      s.mot.clamped = false :=
  ⟨0, cmd 0x20 [], issue (cmd 0x20 []) { live with mot := { cartPresent := true } },
    ⟨by decide +kernel, by decide +kernel, by decide +kernel, by decide +kernel, by decide +kernel, by decide +kernel,
     by decide +kernel, by decide +kernel, by decide +kernel, by decide +kernel⟩, by decide +kernel, by decide +kernel,
    by decide +kernel, by decide +kernel, by decide +kernel, by decide +kernel⟩

theorem witness_ArchiveCommands_discEject :
    ∃ (c : Nat) (k : Cmd) (x : Exchange) (s : State),
      Ready s c 0x21 k ∧
      s.mot.exchange = some x ∧
      x.cmd = some c ∧
      x.acts = [] :=
  ⟨0, cmd 0x21 [], { cmd := some 0, load := true, slot := 0, acts := [], issued := false }, issue (cmd 0x21 []) { live with mot := { exchange := some { cmd := some 0, load := true, slot := 0, acts := [], issued := false } } },
    ⟨by decide +kernel, by decide +kernel, by decide +kernel, by decide +kernel, by decide +kernel, by decide +kernel,
     by decide +kernel, by decide +kernel, by decide +kernel, by decide +kernel⟩, by decide +kernel, by decide +kernel,
    by decide +kernel⟩

theorem witness_ArchiveCommands_archiveWrite :
    ∃ (c : Nat) (k : Cmd) (ecc : NandEcc) (opc : List (List Bool)) (pass : FolioPass) (d : Disc) (j : ArchiveJob) (s u : State),
      Ready s c 0x22 k ∧
      u = s.setCmd { k with begun := true } ∧
      u.ochRefuse k = none ∧
      u.magRefuse k false = none ∧
      u.och.known = true ∧
      u.och.disc = some d ∧
      u.och.job = some j ∧
      j.cmd = c ∧
      j.info = none ∧
      j.readBack = [] ∧
      j.endLfn ≤ j.nextLfn ∧
      u.och.relocQ = [] ∧
      u.och.flight = [] :=
  ⟨0, cmd 0x22 [], [], [], { rows := [] }, { wedgesGood := true, folios := [] }, { cmd := 0, firstLfn := 0, endLfn := 0, nextLfn := 0 }, issue (cmd 0x22 []) { run [(Reg.MAG_STATUS_MAG_STATE, 0, 2)] with mot := { clamped := true }, och := { disc := some { wedgesGood := true, folios := [] }, known := true, job := some { cmd := 0, firstLfn := 0, endLfn := 0, nextLfn := 0 } } }, _,
    ⟨by decide +kernel, by decide +kernel, by decide +kernel, by decide +kernel, by decide +kernel, by decide +kernel,
     by decide +kernel, by decide +kernel, by decide +kernel, by decide +kernel⟩, rfl, by decide +kernel, by decide +kernel,
    by decide +kernel, by decide +kernel, by decide +kernel, by decide +kernel, by decide +kernel, by decide +kernel,
    by decide +kernel, by decide +kernel, by decide +kernel⟩

theorem witness_ArchiveCommands_archiveRead :
    ∃ (c : Nat) (k k1 : Cmd) (pass : FolioPass) (s u v : State),
      Ready s c 0x23 k ∧
      u = s.setCmd { k with begun := true } ∧
      u.ochRefuse k = none ∧
      k.dataLen = 65536 * k.blocks ∧
      k.blocks ≠ 0 ∧
      k.lba + k.blocks ≤ discFolios ∧
      u.och.job = none ∧
      u.hq.cmds.any (fun d => (d.op == 0x23 || d.op == 0x25) && d.begun && decide (d.tag < c)) = false ∧
      k.caught = none ∧
      v = u.readFolio k (k.lba + k.progress) pass ∧
      v.cmd c = some k1 :=
  ⟨0, cmd 0x23 [(16, 4, 65536), (0x28, 4, 1)], ((((issue (cmd 0x23 [(16, 4, 65536), (0x28, 4, 1)]) { live with mot := { clamped := true }, och := { disc := some { wedgesGood := true, folios := [] } } }).setCmd { cmd 0x23 [(16, 4, 65536), (0x28, 4, 1)] with begun := true }).readFolio (cmd 0x23 [(16, 4, 65536), (0x28, 4, 1)]) ((cmd 0x23 [(16, 4, 65536), (0x28, 4, 1)]).lba + (cmd 0x23 [(16, 4, 65536), (0x28, 4, 1)]).progress) { rows := [] }).cmd 0).getD (cmd 0x23 [(16, 4, 65536), (0x28, 4, 1)]), { rows := [] }, issue (cmd 0x23 [(16, 4, 65536), (0x28, 4, 1)]) { live with mot := { clamped := true }, och := { disc := some { wedgesGood := true, folios := [] } } }, (issue (cmd 0x23 [(16, 4, 65536), (0x28, 4, 1)]) { live with mot := { clamped := true }, och := { disc := some { wedgesGood := true, folios := [] } } }).setCmd { cmd 0x23 [(16, 4, 65536), (0x28, 4, 1)] with begun := true }, ((issue (cmd 0x23 [(16, 4, 65536), (0x28, 4, 1)]) { live with mot := { clamped := true }, och := { disc := some { wedgesGood := true, folios := [] } } }).setCmd { cmd 0x23 [(16, 4, 65536), (0x28, 4, 1)] with begun := true }).readFolio (cmd 0x23 [(16, 4, 65536), (0x28, 4, 1)]) ((cmd 0x23 [(16, 4, 65536), (0x28, 4, 1)]).lba + (cmd 0x23 [(16, 4, 65536), (0x28, 4, 1)]).progress) { rows := [] },
    ⟨by decide +kernel, by decide +kernel, by decide +kernel, by decide +kernel, by decide +kernel, by decide +kernel,
     by decide +kernel, by decide +kernel, by decide +kernel, by decide +kernel⟩, rfl, by decide +kernel, by decide +kernel,
    by decide +kernel, by decide +kernel, by decide +kernel, by decide +kernel, by decide +kernel, rfl, by decide +kernel⟩

theorem witness_ArchiveCommands_sealImago :
    ∃ (c : Nat) (k : Cmd) (d : Disc) (j : ArchiveJob) (dir : List Byte) (s u : State),
      Ready s c 0x24 k ∧
      u = s.setCmd { k with begun := true } ∧
      u.ochRefuse k = none ∧
      u.och.known = true ∧
      u.och.disc = some d ∧
      u.och.job = some j ∧
      j.cmd = c ∧
      j.info = none ∧
      j.readBack = [] ∧
      j.endLfn ≤ j.nextLfn ∧
      u.och.relocQ = [] ∧
      u.och.flight = [] ∧
      j.dir = some dir ∧
      j.dirSlot ≠ none ∧
      4 ≤ j.dirGood :=
  ⟨0, cmd 0x24 [], { wedgesGood := true, folios := [] }, { cmd := 0, sealing := true, firstLfn := 0, endLfn := 0, nextLfn := 0, dir := some [], dirSlot := some 0, dirGood := 4 }, [], issue (cmd 0x24 []) { live with mot := { clamped := true }, och := { disc := some { wedgesGood := true, folios := [] }, known := true, job := some { cmd := 0, sealing := true, firstLfn := 0, endLfn := 0, nextLfn := 0, dir := some [], dirSlot := some 0, dirGood := 4 } } }, _,
    ⟨by decide +kernel, by decide +kernel, by decide +kernel, by decide +kernel, by decide +kernel, by decide +kernel,
     by decide +kernel, by decide +kernel, by decide +kernel, by decide +kernel⟩, rfl, by decide +kernel, by decide +kernel,
    by decide +kernel, by decide +kernel, by decide +kernel, by decide +kernel, by decide +kernel, by decide +kernel,
    by decide +kernel, by decide +kernel, by decide +kernel, by decide +kernel, by decide +kernel⟩

theorem witness_ArchiveCommands_archiveVerify :
    ∃ (c : Nat) (k k1 : Cmd) (pass : FolioPass) (d : Disc) (w : List Byte) (s u v : State),
      Ready s c 0x25 k ∧
      u = s.setCmd { k with begun := true } ∧
      u.ochRefuse k = none ∧
      u.och.job = none ∧
      u.hq.cmds.any (fun d => (d.op == 0x23 || d.op == 0x25) && d.begun && decide (d.tag < c)) = false ∧
      u.och.disc = some d ∧
      imagoEntry d (k.fld 0x18 2) = some w ∧
      k.begun = true ∧
      k.caught = none ∧
      k.progress < fieldAt w 0x1C 4 - fieldAt w 8 4 ∧
      v = u.readFolio k (fieldAt w 8 4 + k.progress) pass ∧
      v.cmd c = some k1 :=
  ⟨0, { cmd 0x25 [(0x18, 2, 1)] with begun := true }, ((((issue ({ cmd 0x25 [(0x18, 2, 1)] with begun := true }) { live with mot := { clamped := true }, och := { disc := some { wedgesGood := true, folios := [(1, zeros 128 ++ ent 0x5A [(1, 3, 0x445359), (4, 2, 3), (6, 2, 1), (0x1C, 4, 1)])] } } }).setCmd { { cmd 0x25 [(0x18, 2, 1)] with begun := true } with begun := true }).readFolio ({ cmd 0x25 [(0x18, 2, 1)] with begun := true }) (fieldAt (ent 0x5A [(1, 3, 0x445359), (4, 2, 3), (6, 2, 1), (0x1C, 4, 1)]) 8 4 + ({ cmd 0x25 [(0x18, 2, 1)] with begun := true }).progress) { rows := [] }).cmd 0).getD ({ cmd 0x25 [(0x18, 2, 1)] with begun := true }), { rows := [] }, { wedgesGood := true, folios := [(1, zeros 128 ++ ent 0x5A [(1, 3, 0x445359), (4, 2, 3), (6, 2, 1), (0x1C, 4, 1)])] }, ent 0x5A [(1, 3, 0x445359), (4, 2, 3), (6, 2, 1), (0x1C, 4, 1)], issue ({ cmd 0x25 [(0x18, 2, 1)] with begun := true }) { live with mot := { clamped := true }, och := { disc := some { wedgesGood := true, folios := [(1, zeros 128 ++ ent 0x5A [(1, 3, 0x445359), (4, 2, 3), (6, 2, 1), (0x1C, 4, 1)])] } } }, (issue ({ cmd 0x25 [(0x18, 2, 1)] with begun := true }) { live with mot := { clamped := true }, och := { disc := some { wedgesGood := true, folios := [(1, zeros 128 ++ ent 0x5A [(1, 3, 0x445359), (4, 2, 3), (6, 2, 1), (0x1C, 4, 1)])] } } }).setCmd { { cmd 0x25 [(0x18, 2, 1)] with begun := true } with begun := true }, ((issue ({ cmd 0x25 [(0x18, 2, 1)] with begun := true }) { live with mot := { clamped := true }, och := { disc := some { wedgesGood := true, folios := [(1, zeros 128 ++ ent 0x5A [(1, 3, 0x445359), (4, 2, 3), (6, 2, 1), (0x1C, 4, 1)])] } } }).setCmd { { cmd 0x25 [(0x18, 2, 1)] with begun := true } with begun := true }).readFolio ({ cmd 0x25 [(0x18, 2, 1)] with begun := true }) (fieldAt (ent 0x5A [(1, 3, 0x445359), (4, 2, 3), (6, 2, 1), (0x1C, 4, 1)]) 8 4 + ({ cmd 0x25 [(0x18, 2, 1)] with begun := true }).progress) { rows := [] },
    ⟨by decide +kernel, by decide +kernel, by decide +kernel, by decide +kernel, by decide +kernel, by decide +kernel,
     by decide +kernel, by decide +kernel, by decide +kernel, by decide +kernel⟩, rfl, by decide +kernel, by decide +kernel,
    by decide +kernel, by decide +kernel, by decide +kernel, by decide +kernel, by decide +kernel, by decide +kernel,
    by with_reducible rfl, by decide +kernel⟩

theorem witness_SecurityCommands_keyLoad :
    ∃ (c : Nat) (k : Cmd) (b : List Byte) (s : State),
      Ready s c 0x30 k ∧
      k.keySlot < 248 ∧
      k.fld 0x1A 2 = 0xFFFF ∧
      (k.fld 0x18 2 = 128 ∨ k.fld 0x18 2 = 192 ∨ k.fld 0x18 2 = 256) ∧
      k.dataLen = 48 ∧
      blobOk b (k.fld 0x18 2) k.keySlot = true ∧
      useOk (fieldAt b 8 1) (s.flag Reg.SEC_POLICY_COMPAT_OK) = true ∧
      s.flag Reg.SEC_POLICY_PLAIN_OK = true ∧
      (((b.drop 16).take 32).drop (k.fld 0x18 2 / 8)).any (· != 0) = false :=
  ⟨0, cmd 0x30 [(6, 2, 247), (16, 4, 48), (0x18, 2, 128), (0x1A, 2, 0xFFFF)], leBytes 4 0x4B4B595A ++ leBytes 2 128 ++ leBytes
      2 247 ++ [1] ++ zeros 39, issue (cmd 0x30 [(6, 2, 247), (16, 4, 48), (0x18, 2, 128), (0x1A, 2, 0xFFFF)]) (run
      [(Reg.SEC_POLICY_PLAIN_OK, 0, 1)]),
    ⟨by decide +kernel, by decide +kernel, by decide +kernel, by decide +kernel, by decide +kernel, by decide +kernel,
     by decide +kernel, by decide +kernel, by decide +kernel, by decide +kernel⟩, by decide +kernel, by decide +kernel,
    by decide +kernel, by decide +kernel, by decide +kernel, by decide +kernel, by decide +kernel, by decide +kernel⟩

theorem witness_SecurityCommands_keyClear :
    ∃ (c : Nat) (k : Cmd) (s : State),
      Ready s c 0x31 k ∧
      s.sec.clears.any (fun e => e.1 == c) = false ∧
      k.keySlot < 248 ∧
      ((∀ v, s.keySlot k.keySlot = some v → s.sec.bound.any (fun b => b.serial == v.serial) = false)) :=
  ⟨0, cmd 0x31 [(6, 2, 247)], issue (cmd 0x31 [(6, 2, 247)]) live,
    ⟨by decide +kernel, by decide +kernel, by decide +kernel, by decide +kernel, by decide +kernel, by decide +kernel,
     by decide +kernel, by decide +kernel, by decide +kernel, by decide +kernel⟩, by decide +kernel, by decide +kernel,
    (fun v h => nomatch (show (none : Option KeySlot) = some v from h))⟩

theorem witness_SecurityCommands_cipher :
    ∃ (c : Nat) (k : Cmd) (b key : List Byte) (s : State),
      Ready s c 0x32 k ∧
      k.list = false ∧
      badOverlap k.dataAddr (k.fld 0x30 8) k.dataLen = false ∧
      k.dataLen % 16 = 0 ∧
      k.dataLen ≠ 0 ∧
      s.boundKey c = some key ∧
      s.aesBusy c = false :=
  ⟨0, cmd 0x32 [(16, 4, 16)], zeros 16, zeros 16, issue (cmd 0x32 [(16, 4, 16)]) { live with sec := { bound := [⟨0, 0, 0, zeros 16⟩] } },
    ⟨by decide +kernel, by decide +kernel, by decide +kernel, by decide +kernel, by decide +kernel, by decide +kernel,
     by decide +kernel, by decide +kernel, by decide +kernel, by decide +kernel⟩, by decide +kernel, by decide +kernel,
    by decide +kernel, by decide +kernel, by decide +kernel, by decide +kernel⟩

theorem witness_SecurityCommands_mac :
    ∃ (c : Nat) (k : Cmd) (b key : List Byte) (s : State),
      Ready s c 0x33 k ∧
      k.dataLen % 16 = 0 ∧
      k.dataLen ≠ 0 ∧
      s.boundKey c = some key ∧
      s.aesBusy c = false :=
  ⟨0, cmd 0x33 [(16, 4, 16)], zeros 16, zeros 16, issue (cmd 0x33 [(16, 4, 16)]) { live with sec := { bound := [⟨0, 0, 0, zeros 16⟩] } },
    ⟨by decide +kernel, by decide +kernel, by decide +kernel, by decide +kernel, by decide +kernel, by decide +kernel,
     by decide +kernel, by decide +kernel, by decide +kernel, by decide +kernel⟩, by decide +kernel, by decide +kernel,
    by decide +kernel, by decide +kernel⟩

theorem witness_SecurityCommands_attest :
    ∃ (c : Nat) (k : Cmd) (s : State),
      Ready s c 0x34 k ∧
      416 ≤ k.dataLen :=
  ⟨0, cmd 0x34 [(16, 4, 416)], issue (cmd 0x34 [(16, 4, 416)]) live,
    ⟨by decide +kernel, by decide +kernel, by decide +kernel, by decide +kernel, by decide +kernel, by decide +kernel,
     by decide +kernel, by decide +kernel, by decide +kernel, by decide +kernel⟩, by decide +kernel⟩

theorem witness_SecurityCommands_certRead :
    ∃ (c : Nat) (k : Cmd) (s : State),
      Ready s c 0x49 k ∧
      ((Config.cert (k.fld 0x18 1)).take 2048).length ≤ k.dataLen :=
  ⟨0, cmd 0x49 [(16, 4, 2048)], issue (cmd 0x49 [(16, 4, 2048)]) live,
    ⟨by decide +kernel, by decide +kernel, by decide +kernel, by decide +kernel, by decide +kernel, by decide +kernel,
     by decide +kernel, by decide +kernel, by decide +kernel, by decide +kernel⟩,
    by rw [List.length_take]; exact Nat.le_trans (Nat.min_le_left _ _) (by decide +kernel)⟩

theorem witness_SecurityEngines_enginePieceDispatch :
    ∃ (n : Fin 16) (p : Piece) (s : State),
      s.flag Reg.SEC_ENG_STATUS_OK n.val = true ∧
      s.flag Reg.SEC_ENG_STATUS_BUSY n.val = false ∧
      s.get Reg.SEC_STATUS_STATE = 2 ∧
      s.coreRuns 4 = true ∧
      s.nextPiece n.val = some p :=
  ⟨15, { cls := .host, slot := 0, cmd := none, blocks := 1 }, { run [(Reg.SEC_ENG_STATUS_OK, 15, 1)] with sec := { waiting := [{ cls := .host, slot := 0, cmd := none, blocks := 1 }] } },
    by decide +kernel, by decide +kernel, by decide +kernel, by decide +kernel, by decide +kernel⟩

theorem witness_SecurityEngines_enginePieceComplete :
    ∃ (n : Fin 16) (p : Piece) (s : State),
      s.sec.engines.lookup n.val = some p :=
  ⟨15, { cls := .host, slot := 0, cmd := none, blocks := 1 }, { live with sec := { engines := [(15, { cls := .host, slot := 0, cmd := none, blocks := 1 })] } },
    by decide +kernel⟩

theorem witness_SecurityEngines_trngThirdFail :
    ∃ (s : State),
      2 ≤ s.sec.trngFails :=
  ⟨{ live with sec := { trngFails := 2 } },
    by decide +kernel⟩

theorem witness_Sanitize_sanitize :
    ∃ (c : Nat) (k : Cmd) (s u : State),
      Ready s c 0x47 k ∧
      u = s.setCmd { k with begun := true } ∧
      u.mag.sanitize = none ∧
      u.sanitizing c = false ∧
      u.hq.cmds.any (fun d => usesMag d.op && decide (d.tag < c)) = false ∧
      u.sanitizable = true :=
  ⟨0, cmd 0x47 [], issue (cmd 0x47 []) { mounted [] with mag := { module := some bare, dies := [die] } }, _,
    ⟨by decide +kernel, by decide +kernel, by decide +kernel, by decide +kernel, by decide +kernel, by decide +kernel,
     by decide +kernel, by decide +kernel, by decide +kernel, by decide +kernel⟩, rfl, by decide +kernel, by decide +kernel,
    by decide +kernel, by decide +kernel⟩

theorem witness_Sanitize_format :
    ∃ (c : Nat) (k : Cmd) (s u : State),
      Ready s c 0x48 k ∧
      u = s.setCmd { k with begun := true } ∧
      u.mag.sanitize = none ∧
      u.sanitizing c = false ∧
      u.hq.cmds.any (fun d => usesMag d.op && decide (d.tag < c)) = false ∧
      u.sanitizable = true :=
  ⟨0, cmd 0x48 [], issue (cmd 0x48 []) { mounted [] with mag := { module := some bare, dies := [die] } }, _,
    ⟨by decide +kernel, by decide +kernel, by decide +kernel, by decide +kernel, by decide +kernel, by decide +kernel,
     by decide +kernel, by decide +kernel, by decide +kernel, by decide +kernel⟩, rfl, by decide +kernel, by decide +kernel,
    by decide +kernel, by decide +kernel⟩

theorem witness_Sanitize_sanitizeLastPhase :
    ∃ (c : Nat) (k : Cmd) (j : SanitizeJob) (s u : State),
      Ready s c 0x47 k ∧
      u = s.setCmd { k with begun := true } ∧
      u.mag.sanitize = some j ∧
      j.cmd = some c ∧
      u.mayProgram = true ∧
      u.sanitizePhases j ≤ j.phase + 1 :=
  ⟨0, cmd 0x47 [], { kind := 0, lbs := 512, galley := false, cmd := some 0 }, issue (cmd 0x47 []) { mounted [] with mag := { dies := [die], sanitize := some { kind := 0, lbs := 512, galley := false, cmd := some 0 } } }, _,
    ⟨by decide +kernel, by decide +kernel, by decide +kernel, by decide +kernel, by decide +kernel, by decide +kernel,
     by decide +kernel, by decide +kernel, by decide +kernel, by decide +kernel⟩, rfl, by decide +kernel, by decide +kernel,
    by decide +kernel, by decide +kernel⟩

theorem witness_Sanitize_sanitizeResume :
    ∃ (j : SanitizeJob) (s : State),
      s.mag.sanitize = some j ∧
      j.cmd = none ∧
      s.sanitizable = true ∧
      ((∀ n ≤ 2, s.coreRuns n = true)) ∧
      s.saving = false :=
  ⟨{ kind := 0, lbs := 512, galley := false, cmd := none }, { mounted [] with mag := { module := some bare, dies := [die], sanitize := some { kind := 0, lbs := 512, galley := false, cmd := none } } },
    by decide +kernel, by decide +kernel, by decide +kernel, by decide +kernel, by decide +kernel⟩

theorem witness_MagazineStates_magazineInserted :
    ∃ (v : Module) (s : State),
      s.pwr.por = false ∧
      s.mag.module = none ∧
      s.get Reg.MAG_STATUS_STATE ≠ 2 :=
  ⟨bare, up,
    by decide +kernel, by decide +kernel, by decide +kernel⟩

theorem witness_MagazineStates_magazineRemoved :
    ∃ (v : Module) (s : State),
      s.mag.module = some v :=
  ⟨bare, { live with mag := { module := some bare } },
    by decide +kernel⟩

theorem witness_MagazineStates_mountStart :
    ∃ (rates : List (Nat × Nat)) (v : Module) (s : State),
      s.mag.module = some v ∧
      s.get Reg.MAG_STATUS_STATE = 2 ∧
      s.bridgesLive = true ∧
      s.magState = 7 :=
  ⟨[], bare, { run [(Reg.MAG_STATUS_MAG_STATE, 0, 7)] with mag := { module := some bare } },
    by decide +kernel, by decide +kernel, by decide +kernel, by decide +kernel⟩

theorem witness_MagazineStates_mountBlank :
    ∃ (v : Module) (s : State),
      s.mag.module = some v ∧
      s.magState = 1 ∧
      s.get Reg.MAG_STATUS_STATE = 2 ∧
      nandValidRoots v = [] :=
  ⟨bare, { run [(Reg.MAG_STATUS_MAG_STATE, 0, 1)] with mag := { module := some bare } },
    by decide +kernel, by decide +kernel, by decide +kernel, by decide +kernel⟩

theorem witness_MagazineStates_mountComplete :
    ∃ (v : Module) (r : Root) (s : State),
      s.mag.module = some v ∧
      s.magState = 1 ∧
      s.get Reg.MAG_STATUS_STATE = 2 ∧
      nandValidRoots v ≠ [] ∧
      nandBestRoot v = some r ∧
      s.bindingGood r = true :=
  ⟨twoRoots, goodRoot, { run [(Reg.MAG_STATUS_MAG_STATE, 0, 1)] with mag := { module := some twoRoots } },
    rfl, by decide +kernel, by decide +kernel, by decide +kernel, bestRoot_twoRoots,
    by simp [State.bindingGood, goodRoot]; decide +kernel⟩

theorem witness_MagazineStates_magDisable :
    ∃ (s : State),
      s.get Reg.MAG_STATUS_STATE = 2 :=
  ⟨live,
    by decide +kernel⟩

theorem witness_MagazineStates_channelRetrain :
    ∃ (c : ChannelIx) (rate : Nat) (s : State),
      s.get Reg.MAG_CH_STATUS_RATE c.val ≠ 7 ∧
      s.mag.maxRates.getD c.val 3 < 8 :=
  ⟨31, 0, run [(Reg.MAG_CH_STATUS_RATE, 31, 0)],
    by decide +kernel, by decide +kernel⟩

theorem witness_MagazineWork_writeBufferSpaceFreed :
    ∃ (c : Nat) (k : Cmd) (d : List Byte) (ecc : NandEcc) (s u : State),
      c ∈ s.mag.spaceWait ∧
      Ready s c 0x01 k ∧
      u = s.setCmd { k with begun := true } ∧
      u.magRefuse k true = none ∧
      k.ioBlocks * max 1 u.mag.lbs ≠ 0 ∧
      k.dataLen = k.ioBlocks * max 1 u.mag.lbs ∧
      k.ioLba + k.ioBlocks ≤ u.lbaCount ∧
      k.pastAbort = false ∧
      u.mapWait k = false ∧
      u.bufRuns = true ∧
      k.progress = 0 ∧
      k.fua = false ∧
      u.writeThrough = false ∧
      (u.enter (some d) ecc k.tag 0 (piecesOf (k.ioLba * max 1 u.mag.lbs) k.dataLen)).1 = k.dataLen :=
  ⟨0, cmd 1 [(16, 4, 512), (0x20, 4, 1)], zeros 512, [], issue (cmd 1 [(16, 4, 512), (0x20, 4, 1)]) { mounted [] with mag := { dies := [die], lbs := 512, exportUnits := 1, spaceWait := [0] } }, _,
    by decide +kernel,
    ⟨by decide +kernel, by decide +kernel, by decide +kernel, by decide +kernel, by decide +kernel, by decide +kernel,
     by decide +kernel, by decide +kernel, by decide +kernel, by decide +kernel⟩, rfl, by decide +kernel, by decide +kernel,
    by decide +kernel, by decide +kernel, by decide +kernel, by decide +kernel, by decide +kernel, by decide +kernel,
    by decide +kernel, by decide +kernel, by decide +kernel⟩

theorem witness_MagazineWork_bufferUnitCommit :
    ∃ (puns : Puns) (dmg : Damage) (us : List BufUnit) (s u t : State),
      s.mayCommit = true ∧
      s.saving = false ∧
      s.bufRuns = true ∧
      u = s.strike dmg ∧
      ((∀ b ∈ u.mag.buf, puns.lookup b.unit = none)) ∧
      us = u.closure ((u.mag.buf.take 1).map BufUnit.unit) ∧
      u.commitUnits us puns = (t, true) :=
  ⟨[], [], ((State.strike ({ mounted [] with mag := { dies := [die], buf := [{ unit := 0, content := none, poison := 0, group := none, writers := [] }] } }) []).closure (((State.strike ({ mounted [] with mag := { dies := [die], buf := [{ unit := 0, content := none, poison := 0, group := none, writers := [] }] } }) []).mag.buf.take 1).map BufUnit.unit)), { mounted [] with mag := { dies := [die], buf := [{ unit := 0, content := none, poison := 0, group := none, writers := [] }] } }, (State.strike ({ mounted [] with mag := { dies := [die], buf := [{ unit := 0, content := none, poison := 0, group := none, writers := [] }] } }) []), ((State.strike ({ mounted [] with mag := { dies := [die], buf := [{ unit := 0, content := none, poison := 0, group := none, writers := [] }] } }) []).commitUnits ((State.strike ({ mounted [] with mag := { dies := [die], buf := [{ unit := 0, content := none, poison := 0, group := none, writers := [] }] } }) []).closure (((State.strike ({ mounted [] with mag := { dies := [die], buf := [{ unit := 0, content := none, poison := 0, group := none, writers := [] }] } }) []).mag.buf.take 1).map BufUnit.unit)) []).1,
    by decide +kernel, by decide +kernel, by decide +kernel, rfl, by decide +kernel, rfl,
    Prod.ext (by with_reducible rfl) (by decide +kernel)⟩

theorem witness_MagazineWork_nandProgramComplete :
    ∃ (c : Nat) (k : Cmd) (s : State),
      s.cmd c = some k ∧
      k.pastAbort = true ∧
      s.saving = false ∧
      (k.op = 0x01 ∨ k.op = 0x04 ∨ k.op = 0x05 ∨ k.op = 0x13) ∧
      s.mag.buf.any (fun b => b.writers.contains c) = false :=
  ⟨0, { cmd 4 [] with begun := true, pastAbort := true }, issue { cmd 4 [] with begun := true, pastAbort := true } (mounted []),
    by decide +kernel, by decide +kernel, by decide +kernel, by decide +kernel, by decide +kernel⟩

theorem witness_MagazineWork_programEraseFail :
    ∃ (b : Nat) (moves : Puns) (ecc : NandEcc) (v : Module) (s : State),
      s.mag.module = some v ∧
      s.allBlocks.contains b = true ∧
      (s.block b).grownBad = false :=
  ⟨7, [], [], bare, { mounted [] with mag := { module := some bare, dies := [die] } },
    by decide +kernel, by decide +kernel, by decide +kernel⟩

theorem witness_MagazineWork_fold :
    ∃ (b : Nat) (moves : Puns) (ecc : NandEcc) (s : State),
      s.ftlRuns = true ∧
      s.foldPaused = false ∧
      ((∀ x ∈ s.validIn b, ∃ v, s.nand.units.lookup x.2 = some v ∧ v.slc = true)) :=
  ⟨7, [], [], mounted [],
    by decide +kernel, by decide +kernel, (fun x h => nomatch (show x ∈ ([] : List (Nat × Nat)) from h))⟩

theorem witness_MagazineWork_blockRefresh :
    ∃ (b : Nat) (moves : Puns) (ecc : NandEcc) (s : State),
      s.ftlRuns = true ∧
      s.mag.refreshQ.contains b = true ∧
      (s.moveBlock b moves ecc).validIn b = [] :=
  ⟨7, [], [], { mounted [] with mag := { dies := [die], refreshQ := [7] } },
    by decide +kernel, by decide +kernel, by decide +kernel⟩

theorem witness_MagazineWork_patrolRead :
    ∃ (n p : Nat) (ecc : NandEcc) (s : State),
      s.mounted = true ∧
      s.unitRuns 8 = true ∧
      s.get Reg.MAG_REFRESH_PATROL_DAYS ≠ 0 ∧
      s.mag.map.lookup n = some p :=
  ⟨0, 0, [], { mounted [(Reg.MAG_REFRESH_PATROL_DAYS, 0, 30)] with mag := { dies := [die], map := [(0, 0)] } },
    by decide +kernel, by decide +kernel, by decide +kernel, by decide +kernel⟩

theorem witness_MagazineWork_rootWrite :
    ∃ (r : Root) (s : State),
      s.mayCommit = true ∧
      s.mag.root = some r :=
  ⟨goodRoot, { mounted [] with mag := { dies := [die], root := some goodRoot } },
    by decide +kernel, rfl⟩

theorem witness_MagazineWork_backgroundErase :
    ∃ (b : Nat) (s : State),
      s.ftlRuns = true ∧
      s.mag.eraseQ.contains b = true ∧
      s.blockNamed b = false ∧
      s.validIn b = [] :=
  ⟨7, { mounted [] with mag := { dies := [die], eraseQ := [7] } },
    by decide +kernel, by decide +kernel, by decide +kernel, by decide +kernel⟩

theorem witness_MagazineWork_garbageCollection :
    ∃ (b : Nat) (moves : Puns) (ecc : NandEcc) (s : State),
      s.ftlRuns = true ∧
      s.allBlocks.contains b = true ∧
      s.blockGood b = true :=
  ⟨7, [], [], { mounted [] with mag := { dies := [die] } },
    by decide +kernel, by decide +kernel, by decide +kernel⟩

theorem witness_MapCache_mapHit :
    ∃ (r : Fin 5) (addr size way : Nat) (w : Option (List Byte)) (v : MapLine) (str : Bool) (s : State),
      s.flag Reg.MAP_STATUS_INVAL_BUSY = false ∧
      s.map.waiting.any (fun x => x.req == r.val) = false ∧
      (size = 4 ∨ size = 8 ∨ size = 64) ∧
      addr % size = 0 ∧
      mapAddrOk addr = true ∧
      s.findWay (addr / 256) = some way ∧
      s.map.lines.lookup (16 * lineSet (addr / 256) + way) = some v :=
  ⟨4, 0, 64, 0, none, { tag := 0, age := 0, dirty := false, data := zeros 256 }, false, { live with map := { lines := [(0, { tag := 0, age := 0, dirty := false, data := zeros 256 })] } },
    by decide +kernel, by decide +kernel, by decide +kernel, by decide +kernel, by decide +kernel, by decide +kernel,
    by decide +kernel⟩

theorem witness_MapCache_mapMiss :
    ∃ (r : Fin 5) (addr size : Nat) (w : Option (List Byte)) (str : Bool) (s : State),
      s.flag Reg.MAP_STATUS_INVAL_BUSY = false ∧
      s.map.waiting.any (fun x => x.req == r.val) = false ∧
      (size = 4 ∨ size = 8 ∨ size = 64) ∧
      addr % size = 0 ∧
      mapAddrOk addr = true ∧
      s.findWay (addr / 256) = none :=
  ⟨4, 2 ^ 39, 8, none, true, live,
    by decide +kernel, by decide +kernel, by decide +kernel, by decide +kernel, by decide +kernel, by decide +kernel⟩

theorem witness_MapCache_mapFillComplete :
    ∃ (l : Nat) (f : MapFill) (s t : State),
      s.map.fills.find? (fun f => f.line == l) = some f ∧
      s.fillRuns l = true ∧
      s.placeFill f = some t :=
  ⟨0, { line := 0, reqs := [], streaming := false, owner := 0, arrived := false }, { live with map := { fills := [{ line := 0, reqs := [], streaming := false, owner := 0, arrived := false }] } }, ((({ live with map := { fills := [{ line := 0, reqs := [], streaming := false, owner := 0, arrived := false }] } } : State).placeFill { line := 0, reqs := [], streaming := false, owner := 0, arrived := false }).get (by decide +kernel)),
    by decide +kernel, by decide +kernel, (Option.some_get _).symm⟩

theorem witness_MapCache_mapFillRetry :
    ∃ (l : Nat) (f : MapFill) (s u t : State),
      s.map.fills.find? (fun f => f.line == l && f.arrived) = some f ∧
      u = { s with map := { s.map with stall := insertKey s.map.stall f.owner ((lookupD 0 s.map.stall f.owner + 1) % 1024) } } ∧
      lookupD 0 s.map.stall f.owner + 1 < 1024 ∧
      u.placeFill f = some t :=
  ⟨0, { line := 0, reqs := [], streaming := false, owner := 0, arrived := true }, { live with map := { fills := [{ line := 0, reqs := [], streaming := false, owner := 0, arrived := true }] } }, { live with map := { fills := [{ line := 0, reqs := [], streaming := false, owner := 0, arrived := true }], stall := [(0, 1)] } }, ((({ live with map := { fills := [{ line := 0, reqs := [], streaming := false, owner := 0, arrived := true }], stall := [(0, 1)] } } : State).placeFill { line := 0, reqs := [], streaming := false, owner := 0, arrived := true }).get (by decide +kernel)),
    by decide +kernel, by decide +kernel, by decide +kernel, (Option.some_get _).symm⟩

theorem witness_MapCache_mapDirtyClean :
    ∃ (n : Nat) (s : State),
      s.paged = true ∧
      s.unitRuns 8 = true ∧
      s.mayProgram = true :=
  ⟨0, mounted [(Reg.MAP_STATUS_PAGED, 0, 1)],
    by decide +kernel, by decide +kernel, by decide +kernel⟩

theorem witness_ArchiveChannel_pilotLock :
    ∃ (s : State),
      8 ≤ s.och.pilotGood ∧
      s.och.lasersOn = true :=
  ⟨{ live with och := { pilotGood := 8, lasersOn := true } },
    by decide +kernel, by decide +kernel⟩

theorem witness_ArchiveChannel_pilotLockLoss :
    ∃ (s : State),
      s.flag Reg.OCH_ZONE_PILOT_LOCK = true :=
  ⟨run [(Reg.OCH_ZONE_PILOT_LOCK, 0, 1)],
    by decide +kernel⟩

theorem witness_ArchiveChannel_samDetected :
    ∃ (w : BitVec 48) (phase : Int) (spots : List SpotWedge) (p layer i j : Nat) (s : State),
      s.och.lasersOn = true ∧
      -1 ≤ phase ∧
      phase ≤ 1 ∧
      wedgeId w = some (p, layer, i, j) ∧
      layer < 16 :=
  ⟨wedgeWord 16 11, 1, [], 16, 11, 0, 0, { live with och := { lasersOn := true } },
    by decide +kernel, by decide +kernel, by decide +kernel, by decide +kernel, by decide +kernel⟩

theorem witness_ArchiveChannel_laserFault :
    ∃ (b : BeamIx) (s : State),
      s.och.job = none ∧
      lookupD 0 s.och.laserFaults b.val = 0 :=
  ⟨15, live,
    by decide +kernel, by decide +kernel⟩

theorem witness_ArchiveChannel_laserPowerOn :
    ∃ (s : State),
      s.mot.clamped = true ∧
      s.get Reg.OCH_STATUS_STATE = 2 ∧
      s.mc3Runs = true ∧
      s.driven = true ∧
      s.get Reg.PWR_HOLDUP_STATUS_STATE = 0 ∧
      2 ≤ s.sstate ∧
      s.sstate ≤ 4 :=
  ⟨{ run [(Reg.MOT_SPN_STATUS_SSTATE, 0, 2)] with mot := { clamped := true } },
    by decide +kernel, by decide +kernel, by decide +kernel, by decide +kernel, by decide +kernel, by decide +kernel,
    by decide +kernel⟩

theorem witness_ArchiveChannel_proofRowVerdict :
    ∃ (b : BeamIx) (row n k : Nat) (f : FolioJob) (s : State),
      s.proofFolio b.val = some f ∧
      row < 320 :=
  ⟨15, 319, 0, 0, flight, { live with och := { flight := [flight] } },
    by decide +kernel, by decide +kernel⟩

theorem witness_ArchiveChannel_folioProofVerdict :
    ∃ (b : BeamIx) (j : ArchiveJob) (f : FolioJob) (s : State),
      s.och.job = some j ∧
      s.proofFolio b.val = some f ∧
      f.rowFailed = false ∧
      f.rowExceeded = false ∧
      f.corrected ≤ s.get Reg.OCH_PROOF_FOLIO_LIM :=
  ⟨15, { cmd := 0, firstLfn := 0, endLfn := 0, nextLfn := 0 }, flight, { live with och := { job := some { cmd := 0, firstLfn := 0, endLfn := 0, nextLfn := 0 }, flight := [flight] } },
    by decide +kernel, by decide +kernel, by decide +kernel, by decide +kernel, by decide +kernel⟩

theorem witness_ArchiveChannel_writeFault :
    ∃ (bs : List Nat) (s : State),
      (bs.filter (fun b => s.och.writing.contains b && decide (4 ≤ lookupD 0 s.och.missed b))).eraseDups ≠ [] :=
  ⟨[15], { live with och := { writing := [15], missed := [(15, 4)] } },
    by decide +kernel⟩

theorem witness_ArchiveChannel_writeFaultRecovery :
    ∃ (b : BeamIx) (s : State),
      s.och.faulted.contains b.val = true ∧
      2 ≤ lookupD 0 s.och.good b.val :=
  ⟨15, { live with och := { faulted := [15], good := [(15, 2)] } },
    by decide +kernel, by decide +kernel⟩

theorem witness_ArchiveChannel_folioReadRetry :
    ∃ (pass : FolioPass) (lfn pfa : Nat) (k : Cmd) (s : State),
      s.och.reading = some (lfn, pfa) ∧
      s.hq.cmds.find? (fun k => (k.op == 0x23 || k.op == 0x25) && k.begun) = some k ∧
      s.och.passes ≠ [] ∧
      Ready s k.tag k.op k :=
  ⟨{ rows := [] }, 0, 0, { cmd 0x23 [] with begun := true }, issue { cmd 0x23 [] with begun := true } { live with och := { reading := some (0, 0), passes := [{ rows := [] }] } },
    by decide +kernel, by decide +kernel, by decide +kernel,
    ⟨by decide +kernel, by decide +kernel, by decide +kernel, by decide +kernel, by decide +kernel, by decide +kernel,
     by decide +kernel, by decide +kernel, by decide +kernel, by decide +kernel⟩⟩

theorem witness_ArchiveChannel_ochDisable :
    ∃ (s : State),
      s.archived = true ∧
      s.get Reg.OCH_STATUS_STATE = 2 ∧
      s.och.job = none :=
  ⟨live,
    by decide +kernel, by decide +kernel, by decide +kernel⟩

theorem witness_ArchiveChannel_ochCntClr :
    ∃ (s : State),
      s.archived = true :=
  ⟨live,
    by decide +kernel⟩

theorem witness_ServoLoops_loopAcquireStart :
    ∃ (l : LoopIx) (s : State),
      s.get Reg.SRV_STATUS_STATE = 2 ∧
      s.mc3Runs = true ∧
      s.driven = true ∧
      (s.lstate l.val = 0 ∨ s.lstate l.val = 4) ∧
      (l.val = 0 ∨ s.lstate 0 = 2) :=
  ⟨3, run [(Reg.SRV_LOOP_STATUS_LSTATE, 0, 2), (Reg.SRV_LOOP_STATUS_LSTATE, 3, 4)],
    by decide +kernel, by decide +kernel, by decide +kernel, by decide +kernel, by decide +kernel⟩

theorem witness_ServoLoops_loopLocked :
    ∃ (l : LoopIx) (radius : Int) (s : State),
      s.lstate l.val = 1 ∧
      (s.loop l.val).closed = true ∧
      64 ≤ (s.loop l.val).lockRun ∧
      (l.val ≠ 1 ∨ (s.srv.pilotP = 8 ∧ s.srv.pilotLayer = s.srv.target)) :=
  ⟨1, 0, { run [(Reg.SRV_LOOP_STATUS_LSTATE, 1, 1)] with srv := { loops := [{}, { closed := true, lockRun := 64 }, {}, {}], pilotP := 8 } },
    by decide +kernel, by decide +kernel, by decide +kernel, by decide +kernel⟩

theorem witness_ServoLoops_loopHoldEntry :
    ∃ (l : LoopIx) (s : State),
      s.lstate l.val = 2 ∧
      ((s.loop l.val).sumGood = false ∨ l.val ≠ 0 ∧ (s.lstate 0 = 3 ∨ s.srv.jump.isSome = true)) :=
  ⟨3, run [(Reg.SRV_LOOP_STATUS_LSTATE, 3, 2)],
    by decide +kernel, by decide +kernel⟩

theorem witness_ServoLoops_loopHoldExit :
    ∃ (l : LoopIx) (s : State),
      s.lstate l.val = 3 ∧
      16 ≤ (s.loop l.val).sumRun ∧
      (l.val = 0 ∨ (s.lstate 0 = 2 ∧ s.jumpOut 0 = none)) :=
  ⟨3, { run [(Reg.SRV_LOOP_STATUS_LSTATE, 3, 3), (Reg.SRV_LOOP_STATUS_LSTATE, 0, 2)] with srv := { loops := [{}, {}, {}, { sumRun := 16 }] } },
    by decide +kernel, by decide +kernel, by decide +kernel⟩

theorem witness_ServoLoops_loopHoldTimeout :
    ∃ (l : LoopIx) (s : State),
      s.lstate l.val = 3 ∧
      s.get Reg.SRV_LOOP_SUM_HOLD_MAX l.val ≤ (s.loop l.val).holdCnt :=
  ⟨3, { run [(Reg.SRV_LOOP_STATUS_LSTATE, 3, 3)] with srv := { loops := [{}, {}, {}, { holdCnt := 65535 }] } },
    by decide +kernel, by decide +kernel⟩

theorem witness_ServoLoops_loopLoss :
    ∃ (l : LoopIx) (s : State),
      s.lstate l.val = 2 ∧
      16 ≤ (s.loop l.val).offRun :=
  ⟨3, { run [(Reg.SRV_LOOP_STATUS_LSTATE, 3, 2)] with srv := { loops := [{}, {}, {}, { offRun := 16 }] } },
    by decide +kernel, by decide +kernel⟩

theorem witness_ServoLoops_acquisitionTimeout :
    ∃ (l : LoopIx) (s : State),
      s.lstate l.val = 1 :=
  ⟨3, run [(Reg.SRV_LOOP_STATUS_LSTATE, 3, 1)],
    by decide +kernel⟩

theorem witness_ServoLoops_loopCommit :
    ∃ (l : LoopIx) (s : State),
      s.archived = true :=
  ⟨3, live,
    by decide +kernel⟩

theorem witness_ServoLoops_loopSample :
    ∃ (l : LoopIx) (i : LoopInput) (s : State),
      s.lstate l.val = 3 ∧
      s.jumpOut l.val = none ∧
      i.aux = none :=
  ⟨3, { x := 0, sum := 0, imeas := 0, cross := false, disc := 0, rotor := 0, aux := none }, run [(Reg.SRV_LOOP_STATUS_LSTATE, 3, 3)],
    by decide +kernel, by decide +kernel, by decide +kernel⟩

theorem witness_ServoLoops_closedLoop :
    ∃ (l : LoopIx) (i : LoopInput) (x er out : Int) (v w : LoopSt) (s : State),
      s.lstate l.val = 2 ∧
      s.srv.jump = none ∧
      i.aux = none ∧
      s.serviced l.val = false ∧
      (s.loop l.val).commit = false ∧
      (s.loop l.val).returning = false ∧
      (s.loop l.val).closed = true ∧
      x = (if l.val = 1 then i.x + s.srv.trackOfs else if l.val = 3 then s.srv.skew else i.x) ∧
      er = satCodes (1024 * x - 1024 * s.getInt Reg.SRV_LOOP_SETPT_SETPT l.val) ∧
      v.setpt = s.getInt Reg.SRV_LOOP_SETPT_SETPT l.val ∧
      v.sumGood = s.sumOk l.val i.sum ∧
      v.sumRun = (if v.sumGood then (s.loop l.val).sumRun + 1 else 0) ∧
      v.ff = s.ffSum l.val i.disc i.rotor ∧
      v = { s.loop l.val with setpt := v.setpt, sumGood := v.sumGood, sumRun := v.sumRun, ff := v.ff } ∧
      compensate true (s.judge l.val v er) er = (w, out) ∧
      -8192 ≤ out ∧
      out < 8192 :=
  ⟨2, { x := 8, sum := 0, imeas := 0, cross := false, disc := 0, rotor := 0, aux := none }, 8, 8192, (compensate true ((run [(Reg.SRV_LOOP_STATUS_LSTATE, 2, 2)]).judge 2 { setpt := 0, sumGood := true, sumRun := 1, closed := true } 8192) 8192).2, { setpt := 0, sumGood := true, sumRun := 1, closed := true }, (compensate true ((run [(Reg.SRV_LOOP_STATUS_LSTATE, 2, 2)]).judge 2 { setpt := 0, sumGood := true, sumRun := 1, closed := true } 8192) 8192).1, { run [(Reg.SRV_LOOP_STATUS_LSTATE, 2, 2)] with srv := { loops := [{}, {}, { closed := true }, {}] } },
    by decide +kernel, by decide +kernel, by decide +kernel, by decide +kernel, by decide +kernel, by decide +kernel,
    by decide +kernel, by decide +kernel, by decide +kernel, by decide +kernel, by decide +kernel, by decide +kernel,
    by decide +kernel, by decide +kernel, by decide +kernel, by decide +kernel, by decide +kernel⟩

theorem witness_ServoLoops_saturationFault :
    ∃ (l : LoopIx) (s : State),
      s.lstate l.val ≠ 0 ∧
      s.lstate l.val ≠ 4 ∧
      s.get Reg.SRV_LOOP_SAT_SAT_COUNT l.val ≤ s.get Reg.SRV_LOOP_STATUS_SAT_ACC l.val ∧
      s.get Reg.SRV_LOOP_CTL_ACTION l.val = 0 :=
  ⟨3, run [(Reg.SRV_LOOP_STATUS_LSTATE, 3, 2), (Reg.SRV_LOOP_SAT_SAT_COUNT, 3, 0), (Reg.SRV_LOOP_CTL_ACTION, 3, 0)],
    by decide +kernel, by decide +kernel, by decide +kernel, by decide +kernel⟩

theorem witness_ServoLoops_opens :
    ∃ (l : LoopIx) (s : State),
      s.lstate l.val ≠ 0 ∧
      s.lstate l.val ≠ 4 ∧
      s.get Reg.SRV_LOOP_SAT_SAT_COUNT l.val ≤ s.get Reg.SRV_LOOP_STATUS_SAT_ACC l.val ∧
      s.get Reg.SRV_LOOP_CTL_ACTION l.val = 1 :=
  ⟨3, run [(Reg.SRV_LOOP_STATUS_LSTATE, 3, 2), (Reg.SRV_LOOP_SAT_SAT_COUNT, 3, 0), (Reg.SRV_LOOP_CTL_ACTION, 3, 1)],
    by decide +kernel, by decide +kernel, by decide +kernel, by decide +kernel⟩

theorem witness_LayerJump_layerJumpStart_0 :
    ∃ (down : Bool) (s : State),
      s.lstate 0 = 2 ∧
      s.srv.jump = none ∧
      s.och.writing = [] ∧
      s.get Reg.SRV_STATUS_STATE = 2 ∧
      s.mc3Runs = true ∧
      ((down = true → 0 < s.srv.pilotLayer)) ∧
      ((down = false → s.srv.pilotLayer < 11)) :=
  ⟨true, { run [(Reg.SRV_LOOP_STATUS_LSTATE, 0, 2)] with srv := { pilotLayer := 1 } },
    by decide +kernel, by decide +kernel, by decide +kernel, by decide +kernel, by decide +kernel, by decide +kernel,
    by decide +kernel⟩

theorem witness_LayerJump_layerJumpStart_1 :
    ∃ (down : Bool) (s : State),
      s.lstate 0 = 2 ∧
      s.srv.jump = none ∧
      s.och.writing = [] ∧
      s.get Reg.SRV_STATUS_STATE = 2 ∧
      s.mc3Runs = true ∧
      ((down = true → 0 < s.srv.pilotLayer)) ∧
      ((down = false → s.srv.pilotLayer < 11)) :=
  ⟨false, { run [(Reg.SRV_LOOP_STATUS_LSTATE, 0, 2)] with srv := { pilotLayer := 10 } },
    by decide +kernel, by decide +kernel, by decide +kernel, by decide +kernel, by decide +kernel, by decide +kernel,
    by decide +kernel⟩

theorem witness_LayerJump_jumpKickEnd :
    ∃ (j : Jump) (s : State),
      s.srv.jump = some j ∧
      j.step = .kick :=
  ⟨{ step := .kick, down := true, target := 0, fails := 0 }, { live with srv := { jump := some { step := .kick, down := true, target := 0, fails := 0 } } },
    by decide +kernel, by decide +kernel⟩

theorem witness_LayerJump_jumpScurvePeak :
    ∃ (j : Jump) (s : State),
      s.srv.jump = some j ∧
      j.step = .coast :=
  ⟨{ step := .coast, down := true, target := 0, fails := 0 }, { live with srv := { jump := some { step := .coast, down := true, target := 0, fails := 0 } } },
    by decide +kernel, by decide +kernel⟩

theorem witness_LayerJump_jumpBrakeEnd :
    ∃ (j : Jump) (s : State),
      s.srv.jump = some j ∧
      j.step = .brake :=
  ⟨{ step := .brake, down := true, target := 0, fails := 0 }, { live with srv := { jump := some { step := .brake, down := true, target := 0, fails := 0 } } },
    by decide +kernel, by decide +kernel⟩

theorem witness_LayerJump_jumpComplete :
    ∃ (layer : Nat) (j : Jump) (s : State),
      s.srv.jump = some j ∧
      j.step = .close ∧
      s.lstate 0 = 2 ∧
      layer = j.target :=
  ⟨0, { step := .close, down := true, target := 0, fails := 0 }, { run [(Reg.SRV_LOOP_STATUS_LSTATE, 0, 2)] with srv := { jump := some { step := .close, down := true, target := 0, fails := 0 } } },
    by decide +kernel, by decide +kernel, by decide +kernel, by decide +kernel⟩

theorem witness_LayerJump_jumpTimeout :
    ∃ (layer : Nat) (j : Jump) (s : State),
      s.srv.jump = some j :=
  ⟨0, { step := .close, down := true, target := 0, fails := 0 }, { live with srv := { jump := some { step := .close, down := true, target := 0, fails := 0 } } },
    by decide +kernel⟩

theorem witness_CoilsAndGovernor_coilReversal :
    ∃ (l : LoopIx) (pos : Bool) (s : State),
      s.get Reg.SRV_COIL_STATUS_BRIDGE l.val ≠ 0 :=
  ⟨3, true, run [(Reg.SRV_COIL_STATUS_BRIDGE, 3, 1)],
    by decide +kernel⟩

theorem witness_CoilsAndGovernor_coilDwellExpiry :
    ∃ (l : LoopIx) (pos : Bool) (s : State),
      (s.loop l.val).deferred = some pos ∧
      s.get Reg.SRV_COIL_STATUS_BRIDGE l.val ≠ 0 :=
  ⟨3, true, { run [(Reg.SRV_COIL_STATUS_BRIDGE, 3, 1)] with srv := { loops := [{}, {}, {}, { deferred := some true }] } },
    by decide +kernel, by decide +kernel⟩

theorem witness_CoilsAndGovernor_none :
    ∃ (l : LoopIx) (s : State),
      (s.loop l.val).deferred = none :=
  ⟨3, live,
    by decide +kernel⟩

theorem witness_CoilsAndGovernor_coilCfgWrite :
    ∃ (l : LoopIx) (v : Word) (s : State),
      s.archived = true ∧
      s.lstate l.val = 0 :=
  ⟨3, 0, live,
    by decide +kernel, by decide +kernel⟩

theorem witness_CoilsAndGovernor_refused :
    ∃ (l : LoopIx) (v : Word) (s : State),
      s.archived = true ∧
      s.lstate l.val ≠ 0 ∧
      s.written (Reg.SRV_COIL_CFG_IFS.base + Reg.SRV_COIL_CFG_IFS.stride * l.val) v ≠ s.rd (Reg.SRV_COIL_CFG_IFS.base +
          Reg.SRV_COIL_CFG_IFS.stride * l.val) :=
  ⟨3, 0x01010101, run [(Reg.SRV_LOOP_STATUS_LSTATE, 3, 2)],
    by decide +kernel, by decide +kernel, by decide +kernel⟩

theorem witness_CoilsAndGovernor_ffBankSwap :
    ∃ (n : Fin 6) (s : State),
      s.archived = true :=
  ⟨5, live,
    by decide +kernel⟩

theorem witness_CoilsAndGovernor_ffSwapApply :
    ∃ (n : Fin 6) (s : State),
      s.srv.swap.getD n.val false = true :=
  ⟨5, { live with srv := { swap := [false, false, false, false, false, true] } },
    by decide +kernel⟩

theorem witness_CoilsAndGovernor_governorUpdate :
    ∃ (vbus ibus : Nat) (s : State),
      s.part.archive = true ∧
      (s.govCandidates vbus ibus).foldl min 1024 < s.get Reg.SRV_GOV_STATUS_G :=
  ⟨0, 0, run [(Reg.SRV_GOV_STATUS_G, 0, 1024)],
    by decide +kernel, by decide +kernel⟩

theorem witness_CoilsAndGovernor_governorRise :
    ∃ (s : State),
      s.get Reg.SRV_GOV_STATUS_G < s.get Reg.SRV_GOV_STATUS_TARGET :=
  ⟨run [(Reg.SRV_GOV_STATUS_G, 0, 0), (Reg.SRV_GOV_STATUS_TARGET, 0, 1024)],
    by decide +kernel⟩

theorem witness_CoilsAndGovernor_governorThresholdWrite :
    ∃ (ibus : Bool) (v : Word) (s : State),
      s.archived = true :=
  ⟨true, 0, live,
    by decide +kernel⟩

theorem witness_CoilsAndGovernor_serviceModeEnable :
    ∃ (v : Word) (s : State),
      s.archived = true ∧
      s.get Reg.OCH_STATUS_MODE ≠ 1 :=
  ⟨0, live,
    by decide +kernel, by decide +kernel⟩

theorem witness_CoilsAndGovernor_serviceInputLost :
    ∃ (s : State),
      s.flag Reg.SRV_SVC_EN = true ∧
      s.srv.svcLost = false ∧
      s.get Reg.SRV_SVC_SRC ≠ 0 :=
  ⟨run [(Reg.SRV_SVC_EN, 0, 1), (Reg.SRV_SVC_SRC, 0, 1)],
    by decide +kernel, by decide +kernel, by decide +kernel⟩

theorem witness_CoilsAndGovernor_spindleInputLost :
    ∃ (s : State),
      s.sstate = 7 ∧
      s.mot.svcLost = false ∧
      s.get Reg.MOT_SPN_SVC_SRC ≠ 0 :=
  ⟨run [(Reg.MOT_SPN_STATUS_SSTATE, 0, 7), (Reg.MOT_SPN_SVC_SRC, 0, 1)],
    by decide +kernel, by decide +kernel, by decide +kernel⟩

theorem witness_CoilsAndGovernor_serviceInputReturn :
    ∃ (n : Nat) (s : State),
      s.srv.svcLost = true :=
  ⟨0, { live with srv := { svcLost := true } },
    by decide +kernel⟩

theorem witness_CoilsAndGovernor_spindleInputReturn :
    ∃ (n : Nat) (s : State),
      s.mot.svcLost = true :=
  ⟨0, { live with mot := { svcLost := true } },
    by decide +kernel⟩

theorem witness_CoilsAndGovernor_srvDisable :
    ∃ (s : State),
      s.archived = true :=
  ⟨live,
    by decide +kernel⟩

theorem witness_CoilsAndGovernor_srvCntClr :
    ∃ (s : State),
      s.archived = true :=
  ⟨live,
    by decide +kernel⟩

theorem witness_Spindle_spindleStart :
    ∃ (zone : Fin 32) (s : State),
      s.get Reg.MOT_STATUS_STATE = 2 ∧
      s.mc3Runs = true ∧
      s.pwr.vdrvLow = false ∧
      s.driven = true ∧
      s.mot.held ≠ [] ∧
      s.sstate = 0 ∧
      s.spinAllowed = true :=
  ⟨31, { run [(Reg.MOT_AXIS_STATUS_POS_VALID, 1, 1), (Reg.MOT_XCHG_LIFT_XFER, 0, 0)] with mot := { held := [0] } },
    by decide +kernel, by decide +kernel, by decide +kernel, by decide +kernel, by decide +kernel, by decide +kernel,
    by decide +kernel⟩

theorem witness_Spindle_interlock :
    ∃ (zone : Fin 32) (s : State),
      s.get Reg.MOT_STATUS_STATE = 2 ∧
      s.mc3Runs = true ∧
      s.pwr.vdrvLow = false ∧
      s.driven = true ∧
      s.mot.held ≠ [] ∧
      s.sstate = 0 ∧
      s.spinAllowed = false :=
  ⟨31, { live with mot := { held := [0] } },
    by decide +kernel, by decide +kernel, by decide +kernel, by decide +kernel, by decide +kernel, by decide +kernel,
    by decide +kernel⟩

theorem witness_Spindle_spindleFreqLock :
    ∃ (s : State),
      s.sstate = 1 :=
  ⟨run [(Reg.MOT_SPN_STATUS_SSTATE, 0, 1)],
    by decide +kernel⟩

theorem witness_Spindle_spindlePhaseAcquire :
    ∃ (s : State),
      s.sstate = 2 ∧
      s.get Reg.OCH_ZONE_CLK_NUM = 31 + s.mot.zone ∧
      0 < s.och.pilotGood :=
  ⟨{ run [(Reg.MOT_SPN_STATUS_SSTATE, 0, 2), (Reg.OCH_ZONE_CLK_NUM, 0, 31)] with och := { pilotGood := 1 } },
    by decide +kernel, by decide +kernel, by decide +kernel⟩

theorem witness_Spindle_spindlePhaseLock :
    ∃ (s : State),
      s.sstate = 3 ∧
      480 ≤ s.mot.phaseGood :=
  ⟨{ run [(Reg.MOT_SPN_STATUS_SSTATE, 0, 3)] with mot := { phaseGood := 480 } },
    by decide +kernel, by decide +kernel⟩

theorem witness_Spindle_spindlePhaseLoss :
    ∃ (s : State),
      s.sstate = 4 ∧
      8 ≤ s.mot.phaseBad :=
  ⟨{ run [(Reg.MOT_SPN_STATUS_SSTATE, 0, 4)] with mot := { phaseBad := 8 } },
    by decide +kernel, by decide +kernel⟩

theorem witness_Spindle_spindleZoneChange :
    ∃ (zone : Fin 32) (s : State),
      1 ≤ s.sstate ∧
      s.sstate ≤ 4 ∧
      s.och.writing = [] ∧
      s.och.reading = none ∧
      s.mc3Runs = true ∧
      s.mot.held ≠ [] :=
  ⟨31, { run [(Reg.MOT_SPN_STATUS_SSTATE, 0, 4)] with mot := { held := [0] } },
    by decide +kernel, by decide +kernel, by decide +kernel, by decide +kernel, by decide +kernel, by decide +kernel⟩

theorem witness_Spindle_spindleBrakeRegen :
    ∃ (s : State),
      s.sstate ≠ 0 ∧
      s.sstate ≠ 5 ∧
      s.sstate ≠ 6 :=
  ⟨run [(Reg.MOT_SPN_STATUS_SSTATE, 0, 7)],
    by decide +kernel, by decide +kernel, by decide +kernel⟩

theorem witness_Spindle_spindleBrakeShort :
    ∃ (speed : Nat) (s : State),
      s.sstate = 5 ∧
      speed < 10 * s.get Reg.MOT_SPN_BRAKE_SHORT_RPM ∧
      speed < 65536 :=
  ⟨0, run [(Reg.MOT_SPN_STATUS_SSTATE, 0, 5), (Reg.MOT_SPN_BRAKE_SHORT_RPM, 0, 1)],
    by decide +kernel, by decide +kernel, by decide +kernel⟩

theorem witness_Spindle_spindleStopped :
    ∃ (s : State),
      s.sstate = 6 :=
  ⟨run [(Reg.MOT_SPN_STATUS_SSTATE, 0, 6)],
    by decide +kernel⟩

theorem witness_Spindle_spindleServiceEnable :
    ∃ (q : Requester) (v : Word) (s : State),
      s.barShut q = false ∧
      s.archived = true ∧
      bitsOf v 31 31 = 1 ∧
      s.flag Reg.MOT_SPN_SVC_EN = false ∧
      s.mot.held = [] ∧
      s.sstate = 0 ∧
      s.driven = true ∧
      s.get Reg.MOT_STATUS_STATE = 2 ∧
      s.spinAllowed = true :=
  ⟨.host0, 0x80000000, run [(Reg.MOT_AXIS_STATUS_POS_VALID, 1, 1), (Reg.MOT_XCHG_LIFT_XFER, 0, 0)],
    by decide +kernel, by decide +kernel, by decide +kernel, by decide +kernel, by decide +kernel, by decide +kernel,
    by decide +kernel, by decide +kernel, by decide +kernel⟩

theorem witness_Spindle_held :
    ∃ (q : Requester) (v : Word) (s : State),
      s.barShut q = false ∧
      s.archived = true ∧
      bitsOf v 31 31 = 1 ∧
      s.flag Reg.MOT_SPN_SVC_EN = false ∧
      s.mot.held ≠ [] :=
  ⟨.host0, 0x80000000, { live with mot := { held := [0] } },
    by decide +kernel, by decide +kernel, by decide +kernel, by decide +kernel, by decide +kernel⟩

theorem witness_Spindle_currentPredictionLimit :
    ∃ (s : State),
      s.get Reg.MOT_SPN_SAMPLE_PRED_MAX ≤ s.mot.predicted :=
  ⟨{ live with mot := { predicted := 65535 } },
    by decide +kernel⟩

theorem witness_Spindle_kineticEnergyUpdate :
    ∃ (speed : Nat) (s : State),
      s.part.archive = true ∧
      speed < 65536 :=
  ⟨65535, live,
    by decide +kernel, by decide +kernel⟩

theorem witness_Axes_seek :
    ∃ (q : Requester) (a : AxisIx) (s : State),
      s.barShut q = false ∧
      s.archived = true ∧
      s.axisHeld q = false ∧
      s.posValid a.val = true ∧
      s.get Reg.MOT_STATUS_STATE = 2 ∧
      s.get Reg.PWR_HOLDUP_STATUS_STATE ≠ 2 ∧
      s.pwr.vdrvLow = false ∧
      s.driven = true ∧
      s.moveAllowed a.val = true :=
  ⟨.host0, 0, run [(Reg.MOT_AXIS_STATUS_POS_VALID, 0, 1)],
    by decide +kernel, by decide +kernel, by decide +kernel, by decide +kernel, by decide +kernel, by decide +kernel,
    by decide +kernel, by decide +kernel, by decide +kernel⟩

theorem witness_Axes_interlock :
    ∃ (q : Requester) (a : AxisIx) (s : State),
      s.barShut q = false ∧
      s.archived = true ∧
      s.axisHeld q = false ∧
      s.posValid a.val = true ∧
      s.get Reg.MOT_STATUS_STATE = 2 ∧
      s.get Reg.PWR_HOLDUP_STATUS_STATE ≠ 2 ∧
      s.pwr.vdrvLow = false ∧
      s.driven = true ∧
      s.moveAllowed a.val = false :=
  ⟨.host0, 2, run [(Reg.MOT_AXIS_STATUS_POS_VALID, 2, 1)],
    by decide +kernel, by decide +kernel, by decide +kernel, by decide +kernel, by decide +kernel, by decide +kernel,
    by decide +kernel, by decide +kernel, by decide +kernel⟩

theorem witness_Axes_noPosition :
    ∃ (q : Requester) (a : AxisIx) (s : State),
      s.barShut q = false ∧
      s.archived = true ∧
      s.posValid a.val = false :=
  ⟨.host0, 2, live,
    by decide +kernel, by decide +kernel, by decide +kernel⟩

theorem witness_Axes_sweep :
    ∃ (q : Requester) (a : AxisIx) (s : State),
      s.barShut q = false ∧
      s.archived = true ∧
      s.axisHeld q = false ∧
      s.posValid a.val = true ∧
      s.get Reg.MOT_STATUS_STATE = 2 ∧
      s.get Reg.PWR_HOLDUP_STATUS_STATE ≠ 2 ∧
      s.pwr.vdrvLow = false ∧
      s.driven = true ∧
      s.moveAllowed a.val = true :=
  ⟨.host0, 0, run [(Reg.MOT_AXIS_STATUS_POS_VALID, 0, 1)],
    by decide +kernel, by decide +kernel, by decide +kernel, by decide +kernel, by decide +kernel, by decide +kernel,
    by decide +kernel, by decide +kernel, by decide +kernel⟩

theorem witness_Axes_axisStop :
    ∃ (q : Requester) (a : AxisIx) (s : State),
      s.barShut q = false ∧
      s.archived = true ∧
      s.axisHeld q = false ∧
      s.flag Reg.MOT_AXIS_STATUS_MOVING a.val = true :=
  ⟨.host0, 2, run [(Reg.MOT_AXIS_STATUS_MOVING, 2, 1)],
    by decide +kernel, by decide +kernel, by decide +kernel, by decide +kernel⟩

theorem witness_Axes_axisResume :
    ∃ (q : Requester) (a : AxisIx) (target v : Int) (s : State),
      s.barShut q = false ∧
      s.archived = true ∧
      s.axisHeld q = false ∧
      s.posValid a.val = true ∧
      s.get Reg.MOT_STATUS_STATE = 2 ∧
      s.get Reg.PWR_HOLDUP_STATUS_STATE ≠ 2 ∧
      s.pwr.vdrvLow = false ∧
      s.driven = true ∧
      s.moveAllowed a.val = true ∧
      (s.axis a.val).resume = some (target, v) ∧
      s.getInt Reg.MOT_AXIS_REMAIN_REMAIN a.val ≠ 0 ∧
      (s.axis a.val).moved = false :=
  ⟨.host0, 0, 1, 1, { run [(Reg.MOT_AXIS_STATUS_POS_VALID, 0, 1), (Reg.MOT_AXIS_REMAIN_REMAIN, 0, 1)] with mot := { axes := [{ resume := some (1, 1) }, {}, {}] } },
    by decide +kernel, by decide +kernel, by decide +kernel, by decide +kernel, by decide +kernel, by decide +kernel,
    by decide +kernel, by decide +kernel, by decide +kernel, by decide +kernel, by decide +kernel, by decide +kernel⟩

theorem witness_Axes_noResume :
    ∃ (q : Requester) (a : AxisIx) (s : State),
      s.barShut q = false ∧
      s.archived = true ∧
      ((s.axis a.val).resume = none ∨ s.getInt Reg.MOT_AXIS_REMAIN_REMAIN a.val = 0 ∨ (s.axis a.val).moved = true) :=
  ⟨.host0, 2, live,
    by decide +kernel, by decide +kernel, by decide +kernel⟩

theorem witness_Axes_home :
    ∃ (q : Requester) (a : AxisIx) (s : State),
      s.barShut q = false ∧
      s.archived = true ∧
      s.axisHeld q = false ∧
      s.get Reg.MOT_STATUS_STATE = 2 ∧
      s.get Reg.PWR_HOLDUP_STATUS_STATE ≠ 2 ∧
      s.pwr.vdrvLow = false ∧
      s.driven = true ∧
      s.moveAllowed a.val = true :=
  ⟨.host0, 0, live,
    by decide +kernel, by decide +kernel, by decide +kernel, by decide +kernel, by decide +kernel, by decide +kernel,
    by decide +kernel, by decide +kernel⟩

theorem witness_Axes_park :
    ∃ (q : Requester) (s : State),
      s.barShut q = false ∧
      s.archived = true ∧
      s.axisHeld q = false ∧
      s.posValid 0 = true ∧
      s.get Reg.MOT_STATUS_STATE = 2 ∧
      s.get Reg.PWR_HOLDUP_STATUS_STATE ≠ 2 ∧
      s.pwr.vdrvLow = false ∧
      s.driven = true :=
  ⟨.host0, run [(Reg.MOT_AXIS_STATUS_POS_VALID, 0, 1)],
    by decide +kernel, by decide +kernel, by decide +kernel, by decide +kernel, by decide +kernel, by decide +kernel,
    by decide +kernel, by decide +kernel⟩

theorem witness_Axes_axisMoveComplete :
    ∃ (a : AxisIx) (pos : Int) (s : State),
      s.flag Reg.MOT_AXIS_STATUS_MOVING a.val = true ∧
      s.get Reg.MOT_AXIS_STATUS_KIND a.val = 1 ∧
      s.get Reg.MOT_AXIS_STATUS_ASTATE a.val ≠ 3 :=
  ⟨2, 5, run [(Reg.MOT_AXIS_STATUS_MOVING, 2, 1), (Reg.MOT_AXIS_STATUS_KIND, 2, 1)],
    by decide +kernel, by decide +kernel, by decide +kernel⟩

theorem witness_Axes_sweepEnd :
    ∃ (a : AxisIx) (pos : Int) (s : State),
      s.flag Reg.MOT_AXIS_STATUS_MOVING a.val = true ∧
      s.get Reg.MOT_AXIS_STATUS_KIND a.val = 2 ∧
      s.get Reg.MOT_AXIS_STATUS_ASTATE a.val = 3 :=
  ⟨2, 5, run [(Reg.MOT_AXIS_STATUS_MOVING, 2, 1), (Reg.MOT_AXIS_STATUS_KIND, 2, 2), (Reg.MOT_AXIS_STATUS_ASTATE, 2, 3)],
    by decide +kernel, by decide +kernel, by decide +kernel⟩

theorem witness_Axes_axisStandstill :
    ∃ (a : AxisIx) (s : State),
      s.flag Reg.MOT_AXIS_STATUS_MOVING a.val = false :=
  ⟨2, live,
    by decide +kernel⟩

theorem witness_Axes_homeSwitchEdge :
    ∃ (a : AxisIx) (s : State),
      s.get Reg.MOT_AXIS_STATUS_KIND a.val = 3 ∧
      (s.axis a.val).homing = some .final :=
  ⟨2, { run [(Reg.MOT_AXIS_STATUS_KIND, 2, 3)] with mot := { axes := [{}, {}, { homing := some .final }] } },
    by decide +kernel, by decide +kernel⟩

theorem witness_Axes_homeFail :
    ∃ (a : AxisIx) (pos : Int) (s : State),
      s.get Reg.MOT_AXIS_STATUS_KIND a.val = 3 ∧
      (s.axis a.val).homing ≠ none ∧
      256 * s.get Reg.MOT_AXIS_HOME_LIM_HOME_MAX a.val ≤ (pos - (s.axis a.val).homeStart).natAbs ∧
      s.mot.exchange = none :=
  ⟨2, -(2 ^ 30), { run [(Reg.MOT_AXIS_STATUS_KIND, 2, 3)] with mot := { axes := [{}, {}, { homing := some .final }] } },
    by decide +kernel, by decide +kernel, by decide +kernel, by decide +kernel⟩

theorem witness_ExchangerAndDrives_exchangeStepTimeout :
    ∃ (x : Exchange) (s : State),
      s.mot.exchange = some x :=
  ⟨{ cmd := some 0, load := true, slot := 0, acts := [], issued := false }, { live with mot := { exchange := some { cmd := some 0, load := true, slot := 0, acts := [], issued := false } } },
    by decide +kernel⟩

theorem witness_ExchangerAndDrives_discReturnAfterReset :
    ∃ (i g n x y : Nat) (s : State),
      s.mot.exchange = none ∧
      s.mot.forkFound = true ∧
      s.mot.discSense = true ∧
      s.mot.clamped = false ∧
      s.mc3Runs = true ∧
      currentOf (s.journalEntries 4 0x1E00000) 2 = some (i, g, n, x, y) :=
  ⟨0, 1, 1, 1, 2, { (live.journalPut 4 0x1E00000 2 [5]) with mot := { forkFound := true, discSense := true } },
    by decide +kernel, by decide +kernel, by decide +kernel, by decide +kernel, by decide +kernel, by decide +kernel⟩

theorem witness_ExchangerAndDrives_slotUnknown :
    ∃ (s : State),
      s.mot.exchange = none ∧
      s.mot.forkFound = true ∧
      s.mot.discSense = true ∧
      s.mot.clamped = false ∧
      s.mc3Runs = true ∧
      currentOf (s.journalEntries 4 0x1E00000) 2 = none :=
  ⟨{ live with mot := { forkFound := true, discSense := true } },
    by decide +kernel, by decide +kernel, by decide +kernel, by decide +kernel, by decide +kernel, by decide +kernel⟩

theorem witness_ExchangerAndDrives_motPwmWrite :
    ∃ (v : Word) (s : State),
      s.archived = true ∧
      s.mot.bridges = [] ∧
      bitsOf (s.written Reg.MOT_PWM_PERIOD.base v) 7 0 ≤ bitsOf (s.written Reg.MOT_PWM_PERIOD.base v) 15 8 ∧
      4 * bitsOf (s.written Reg.MOT_PWM_PERIOD.base v) 15 8 ≤ bitsOf (s.written Reg.MOT_PWM_PERIOD.base v) 31 16 :=
  ⟨0x02000A01, live,
    by decide +kernel, by decide +kernel, by decide +kernel, by decide +kernel⟩

theorem witness_ExchangerAndDrives_enabled :
    ∃ (v : Word) (s : State),
      s.archived = true ∧
      s.mot.bridges ≠ [] ∧
      s.written Reg.MOT_PWM_PERIOD.base v ≠ s.rd Reg.MOT_PWM_PERIOD.base :=
  ⟨0x02000A01, { live with mot := { bridges := [(0, {})] } },
    by decide +kernel, by decide +kernel, by decide +kernel⟩

theorem witness_ExchangerAndDrives_motDisable :
    ∃ (s : State),
      s.archived = true :=
  ⟨live,
    by decide +kernel⟩

theorem witness_ExchangerAndDrives_motCntClr :
    ∃ (s : State),
      s.archived = true :=
  ⟨live,
    by decide +kernel⟩

theorem witness_ColophonClock_colophonPowerOnReset :
    ∃ (s : State),
      s.part.colophon = true :=
  ⟨live,
    by decide +kernel⟩

theorem witness_ColophonClock_colophonStartupComplete :
    ∃ (s : State),
      s.col.powered = true ∧
      s.get Reg.COL_STATUS_STATE = 1 ∧
      s.col.toCol = [] ∧
      s.flag Reg.COL_STATUS_HELD = false :=
  ⟨run [(Reg.COL_STATUS_STATE, 0, 1)],
    by decide +kernel, by decide +kernel, by decide +kernel, by decide +kernel⟩

theorem witness_ColophonClock_failed :
    ∃ (s : State),
      s.col.powered = true ∧
      s.get Reg.COL_STATUS_STATE = 1 :=
  ⟨run [(Reg.COL_STATUS_STATE, 0, 1)],
    by decide +kernel, by decide +kernel⟩

theorem witness_ColophonClock_colophonDisable :
    ∃ (s : State),
      s.col.powered = true ∧
      s.get Reg.COL_STATUS_STATE = 2 :=
  ⟨live,
    by decide +kernel, by decide +kernel⟩

theorem witness_ColophonClock_disciplineGate :
    ∃ (good : Bool) (inc : Nat) (s : State),
      s.col.powered = true ∧
      s.disc < 4 :=
  ⟨true, 0, run [(Reg.COL_STATUS_DISC, 0, 3)],
    by decide +kernel, by decide +kernel⟩

theorem witness_ColophonClock_ppsEdge :
    ∃ (elapsed inc : Nat) (s : State),
      s.col.powered = true ∧
      s.disc = 1 ∧
      s.col.todArmed = false ∧
      s.col.ppsGood = 3 ∧
      ((∀ x, s.col.lastPps = some x → 10 ^ 10 - 10 ^ 4 ≤ s.cert - elapsed - x ∧ s.cert - elapsed - x ≤ 10 ^ 10 + 10 ^ 4)) ∧
      s.col.lastPps ≠ none :=
  ⟨0, 0, (({ run [(Reg.COL_STATUS_DISC, 0, 1)] with col := { ppsGood := 3, lastPps := some 0 } } : State).put64 Reg.COL_TIME (10 ^ 10)),
    by decide +kernel, by decide +kernel, by decide +kernel, by decide +kernel, (fun x h => by cases h; decide +kernel),
    by decide +kernel⟩

theorem witness_ColophonClock_ppsLoss :
    ∃ (s : State),
      s.col.powered = true ∧
      s.disc = 3 :=
  ⟨run [(Reg.COL_STATUS_DISC, 0, 3)],
    by decide +kernel, by decide +kernel⟩

theorem witness_ColophonClock_holdoverExpiry :
    ∃ (s : State),
      s.col.powered = true ∧
      s.disc = 4 :=
  ⟨run [(Reg.COL_STATUS_DISC, 0, 4)],
    by decide +kernel, by decide +kernel⟩

theorem witness_ColophonClock_todArm :
    ∃ (s : State),
      s.col.powered = true ∧
      s.timescalePps = true ∧
      s.col.recs = [] ∧
      (s.disc = 2 ∨ s.disc = 3) :=
  ⟨{ run [(Reg.COL_STATUS_DISC, 0, 3)] with col := { sealCount := 1, entries := [(1, (leBytes 4 0x4D43595A ++ [0, 0, 2] ++ zeros 245) ++ leBytes 4 (crc32 (leBytes 4 0x4D43595A ++ [0, 0, 2] ++ zeros 245)))] } },
    by decide +kernel, by decide +kernel, by decide +kernel, by decide +kernel⟩

theorem witness_ColophonClock_todRefused :
    ∃ (s : State),
      s.col.powered = true ∧
      (s.timescalePps = false ∨ s.col.recs ≠ [] ∨ (s.disc ≠ 2 ∧ s.disc ≠ 3)) :=
  ⟨run [(Reg.COL_STATUS_DISC, 0, 1)],
    by decide +kernel, by decide +kernel⟩

theorem witness_ColophonClock_authProvision :
    ∃ (s : State),
      s.col.powered = true ∧
      s.flag Reg.COL_AUTH_PROVISIONED = false ∧
      onCurve (beNat ((s.colBytes Reg.COL_AUTH_KEY 24).take 48)) (beNat ((s.colBytes Reg.COL_AUTH_KEY 24).drop 48)) = true :=
  ⟨run [(Reg.COL_AUTH_KEY, 0, 0x22ca87aa), (Reg.COL_AUTH_KEY, 1, 0x37058bbe), (Reg.COL_AUTH_KEY, 2, 0x1ec7b18e),
      (Reg.COL_AUTH_KEY, 3, 0x74ad20f3), (Reg.COL_AUTH_KEY, 4, 0x623b1d6e), (Reg.COL_AUTH_KEY, 5, 0x989ba78b),
      (Reg.COL_AUTH_KEY, 6, 0xe041f759), (Reg.COL_AUTH_KEY, 7, 0x382a5482), (Reg.COL_AUTH_KEY, 8, 0x5df20255),
      (Reg.COL_AUTH_KEY, 9, 0x6c2955bf), (Reg.COL_AUTH_KEY, 10, 0x385e543a), (Reg.COL_AUTH_KEY, 11, 0xb70a7672),
      (Reg.COL_AUTH_KEY, 12, 0x4ade1736), (Reg.COL_AUTH_KEY, 13, 0x6f2c2696), (Reg.COL_AUTH_KEY, 14, 0xbf989e5d),
      (Reg.COL_AUTH_KEY, 15, 0x29dc9292), (Reg.COL_AUTH_KEY, 16, 0xbd1df4f8), (Reg.COL_AUTH_KEY, 17, 0x7c149a28),
      (Reg.COL_AUTH_KEY, 18, 0x1331dae9), (Reg.COL_AUTH_KEY, 19, 0xc0b8f0b5), (Reg.COL_AUTH_KEY, 20, 0xceb1600a),
      (Reg.COL_AUTH_KEY, 21, 0x9d817e1d), (Reg.COL_AUTH_KEY, 22, 0x7c1d437a), (Reg.COL_AUTH_KEY, 23, 0x5f0eea90)],
    by decide +kernel, by decide +kernel, by decide +kernel⟩

theorem witness_ColophonClock_changeGo :
    ∃ (cell : Fin 3) (entryOk : Bool) (key : List Byte) (s : State),
      s.col.powered = true ∧
      s.col.authKey = some key ∧
      fieldAt (s.colBytes Reg.COL_CHANGE 56) 4 2 = s.col.sealCount + 1 ∧
      ecdsaVerify key ((s.colBytes Reg.COL_CHANGE 56).take 128) (((s.colBytes Reg.COL_CHANGE 56).drop 128).take 96) = true ∧
      s.col.recs = [] ∧
      s.col.sealCount < 256 ∧
      cell.val = 2 ∧
      entryOk = true :=
  ⟨2, true, beBytes 96 0x8cb5c7821abfdd2284ee138bd7fa8811531597fd8368a930e0cd08697503de783c8fca13a7ab420bf1f5a61f1f23a7aade2da2790c6a8f495bc93a799d4544ac2e6cf6dcecfecf3114cc31a52c5dda3038d13df087b4f71091ea98b0d54e0152, { run [(Reg.COL_CHANGE, 1, 0x1), (Reg.COL_CHANGE, 32, 0xe1066515), (Reg.COL_CHANGE, 33, 0xc2daec97), (Reg.COL_CHANGE, 34, 0x23320fa), (Reg.COL_CHANGE, 35, 0x659c64e4), (Reg.COL_CHANGE, 36, 0xb67892b1), (Reg.COL_CHANGE, 37, 0x3035664d), (Reg.COL_CHANGE, 38, 0xa6e9a5cd), (Reg.COL_CHANGE, 39, 0x588059ca), (Reg.COL_CHANGE, 40, 0x675498ba), (Reg.COL_CHANGE, 41, 0x72acce15), (Reg.COL_CHANGE, 42, 0xc3b39611), (Reg.COL_CHANGE, 43, 0x6a2628df), (Reg.COL_CHANGE, 44, 0xe1066515), (Reg.COL_CHANGE, 45, 0xc2daec97), (Reg.COL_CHANGE, 46, 0x23320fa), (Reg.COL_CHANGE, 47, 0x659c64e4), (Reg.COL_CHANGE, 48, 0xb67892b1), (Reg.COL_CHANGE, 49, 0x3035664d), (Reg.COL_CHANGE, 50, 0xa6e9a5cd), (Reg.COL_CHANGE, 51, 0x588059ca), (Reg.COL_CHANGE, 52, 0x675498ba), (Reg.COL_CHANGE, 53, 0x72acce15), (Reg.COL_CHANGE, 54, 0xc3b39611), (Reg.COL_CHANGE, 55, 0x6a2628df)] with col := { authKey := some (beBytes 96 0x8cb5c7821abfdd2284ee138bd7fa8811531597fd8368a930e0cd08697503de783c8fca13a7ab420bf1f5a61f1f23a7aade2da2790c6a8f495bc93a799d4544ac2e6cf6dcecfecf3114cc31a52c5dda3038d13df087b4f71091ea98b0d54e0152) } },
    by decide +kernel, by decide +kernel, by decide +kernel, by decide +kernel, by decide +kernel, by decide +kernel,
    by decide +kernel, by decide +kernel⟩

theorem witness_ColophonClock_badIndex :
    ∃ (cell : Fin 3) (entryOk : Bool) (s : State),
      s.col.powered = true ∧
      fieldAt (s.colBytes Reg.COL_CHANGE 56) 4 2 ≠ s.col.sealCount + 1 :=
  ⟨0, true, live,
    by decide +kernel, by decide +kernel⟩

theorem witness_ColophonClock_colVddReturn :
    ∃ (s : State),
      s.part.colophon = true ∧
      s.col.powered = false :=
  ⟨{ live with col := { powered := false } },
    by decide +kernel, by decide +kernel⟩

theorem witness_ColophonClock_colCntClr :
    ∃ (s : State),
      s.col.powered = true :=
  ⟨live,
    by decide +kernel⟩

theorem witness_TakeRecords_frameStrobe :
    ∃ (frame time : Nat) (s : State),
      s.col.toCol.find? ColMsg.isStrobe = some (.strobe frame time) ∧
      s.col.powered = true ∧
      s.get Reg.COL_STATUS_STATE = 2 ∧
      s.flag Reg.CLK_PLL_STATUS_COL_LOCK = true ∧
      (s.requireLock = false ∨ s.disc = 3) :=
  ⟨1, 2, { run [(Reg.COL_STATUS_DISC, 0, 3), (Reg.CLK_PLL_STATUS_COL_LOCK, 0, 1)] with col := { toCol := [.strobe 1 2] } },
    by decide +kernel, by decide +kernel, by decide +kernel, by decide +kernel, by decide +kernel⟩

theorem witness_TakeRecords_unanswered :
    ∃ (frame time : Nat) (s : State),
      s.col.toCol.find? ColMsg.isStrobe = some (.strobe frame time) ∧
      s.col.powered = true ∧
      (s.get Reg.COL_STATUS_STATE ≠ 2 ∨ s.flag Reg.CLK_PLL_STATUS_COL_LOCK = false) :=
  ⟨1, 2, { run [(Reg.COL_STATUS_STATE, 0, 1)] with col := { toCol := [.strobe 1 2] } },
    by decide +kernel, by decide +kernel, by decide +kernel⟩

theorem witness_TakeRecords_tdcEdge :
    ∃ (i : TrigIx) (rising : Bool) (fine : Fin 10) (s : State),
      s.col.powered = true ∧
      s.get Reg.COL_STATUS_STATE = 2 ∧
      tdcTimes (s.tdcCfg i.val) rising = true ∧
      s.col.lastEdge.lookup i.val = none :=
  ⟨7, true, 9, live,
    by decide +kernel, by decide +kernel, by decide +kernel, by decide +kernel⟩

theorem witness_TakeRecords_overrun :
    ∃ (i : TrigIx) (rising : Bool) (fine : Fin 10) (x : Nat) (s : State),
      s.col.powered = true ∧
      s.get Reg.COL_STATUS_STATE = 2 ∧
      tdcTimes (s.tdcCfg i.val) rising = true ∧
      s.col.lastEdge.lookup i.val = some x ∧
      10 * s.cert + fine.val < x + 400 :=
  ⟨7, true, 9, 0, { live with col := { lastEdge := [(7, 0)] } },
    by decide +kernel, by decide +kernel, by decide +kernel, by decide +kernel, by decide +kernel⟩

theorem witness_TakeRecords_takeOpenMessage :
    ∃ (g id : Nat) (s : State),
      s.col.toCol.find? (fun m => !m.isStrobe) = some (.openTake g id) ∧
      s.col.powered = true ∧
      s.get Reg.COL_STATUS_STATE = 2 :=
  ⟨15, 1, { live with col := { toCol := [.openTake 15 1] } },
    by decide +kernel, by decide +kernel, by decide +kernel⟩

theorem witness_TakeRecords_membershipDecision :
    ∃ (g frame : Nat) (uncert : Bool) (s : State),
      s.col.toCol.find? (fun m => !m.isStrobe) = some (.member g frame false uncert) ∧
      s.col.powered = true ∧
      s.get Reg.COL_STATUS_STATE = 2 ∧
      s.col.opens.length < 65536 :=
  ⟨15, 1, true, { live with col := { toCol := [.member 15 1 false true] } },
    by decide +kernel, by decide +kernel, by decide +kernel, by decide +kernel⟩

theorem witness_TakeRecords_takeCloseMessage :
    ∃ (g id first trig last : Nat) (save : Bool) (r : OpenRec) (s : State),
      s.col.toCol.find? (fun m => !m.isStrobe) = some (.closeTake g id first trig last save) ∧
      s.col.powered = true ∧
      s.get Reg.COL_STATUS_STATE = 2 ∧
      s.col.recs.find? (fun r => r.seg == g && r.takeId == id) = some r :=
  ⟨15, 1, 0, 0, 0, true, { seg := 15, takeId := 1 }, { live with col := { toCol := [.closeTake 15 1 0 0 0 true], recs := [{ seg := 15, takeId := 1 }] } },
    by decide +kernel, by decide +kernel, by decide +kernel, by decide +kernel⟩

theorem witness_TakeRecords_discarded :
    ∃ (g id : Nat) (s : State),
      s.col.toCol.find? (fun m => !m.isStrobe) = some (.openTake g id) ∧
      (s.col.powered = false ∨ (s.get Reg.COL_STATUS_STATE ≠ 1 ∧ s.get Reg.COL_STATUS_STATE ≠ 2)) :=
  ⟨15, 1, { run [(Reg.COL_STATUS_STATE, 0, 3)] with col := { toCol := [.openTake 15 1] } },
    by decide +kernel, by decide +kernel⟩

theorem witness_TakeRecords_colophonLinkLost :
    ∃ (s : State),
      s.col.powered = true ∧
      s.col.heartbeatSeen = true :=
  ⟨live,
    by decide +kernel, by decide +kernel⟩

theorem witness_FlashPort_efcKeyWrite :
    ∃ (q : Requester) (v : Word) (s : State),
      s.barShut q = false ∧
      hostPort q = true ∧
      s.get Reg.EFC_STATUS_SEQ = 0 ∧
      bitsOf v 15 0 = 0x6E2A :=
  ⟨.host0, 0x6E2A, live,
    by decide +kernel, by decide +kernel, by decide +kernel, by decide +kernel⟩

theorem witness_FlashPort_secondKey :
    ∃ (q : Requester) (v : Word) (s : State),
      s.barShut q = false ∧
      hostPort q = true ∧
      s.get Reg.EFC_STATUS_SEQ = 1 ∧
      s.efc.owner = some q ∧
      bitsOf v 15 0 = 0x91D5 :=
  ⟨.host0, 0x91D5, { run [(Reg.EFC_STATUS_SEQ, 0, 1)] with efc := { owner := some .host0 } },
    by decide +kernel, by decide +kernel, by decide +kernel, by decide +kernel, by decide +kernel⟩

theorem witness_FlashPort_wrongKey :
    ∃ (q : Requester) (v : Word) (s : State),
      s.barShut q = false ∧
      hostPort q = true ∧
      s.get Reg.EFC_STATUS_SEQ = 0 ∧
      bitsOf v 15 0 ≠ 0x6E2A :=
  ⟨.dbg, 0, live,
    by decide +kernel, by decide +kernel, by decide +kernel, by decide +kernel⟩

theorem witness_FlashPort_program :
    ∃ (q : Requester) (v : Word) (s : State),
      s.barShut q = false ∧
      hostPort q = true ∧
      s.get Reg.EFC_STATUS_SEQ = 5 ∧
      s.efc.owner = some q ∧
      s.efc.words.length = 7 ∧
      s.efc.op = some .program ∧
      s.efc.refuse = false ∧
      s.mayFlash .program (s.get Reg.EFC_ADDR_ADDR) = true :=
  ⟨.host0, 7, { run [(Reg.EFC_STATUS_SEQ, 0, 5), (Reg.EFC_ADDR_ADDR, 0, 0xFF0000)] with efc := { owner := some .host0, op := some .program, words := List.replicate 7 0 } },
    by decide +kernel, by decide +kernel, by decide +kernel, by decide +kernel, by decide +kernel, by decide +kernel,
    by decide +kernel, by decide +kernel⟩

theorem witness_FlashPort_protected :
    ∃ (q : Requester) (v : Word) (s : State),
      s.barShut q = false ∧
      hostPort q = true ∧
      s.get Reg.EFC_STATUS_SEQ = 5 ∧
      s.efc.owner = some q ∧
      s.efc.words.length = 7 ∧
      s.efc.op = some .program ∧
      s.efc.refuse = false ∧
      s.mayFlash .program (s.get Reg.EFC_ADDR_ADDR) = false :=
  ⟨.host0, 7, { run [(Reg.EFC_STATUS_SEQ, 0, 5), (Reg.EFC_ADDR_ADDR, 0, 0xE00000)] with efc := { owner := some .host0, op := some .program, words := List.replicate 7 0 } },
    by decide +kernel, by decide +kernel, by decide +kernel, by decide +kernel, by decide +kernel, by decide +kernel,
    by decide +kernel, by decide +kernel⟩

theorem witness_FlashPort_otpProgram :
    ∃ (q : Requester) (v : Word) (s : State),
      s.barShut q = false ∧
      hostPort q = true ∧
      s.get Reg.EFC_STATUS_SEQ = 5 ∧
      s.efc.owner = some q ∧
      s.efc.words.length = 7 ∧
      s.efc.op = some .otpProgram ∧
      s.efc.refuse = false ∧
      s.mayFlash .otpProgram (s.get Reg.EFC_ADDR_ADDR) = true :=
  ⟨.host0, 7, { run [(Reg.EFC_STATUS_SEQ, 0, 5), (Reg.EFC_ADDR_ADDR, 0, 0x800)] with efc := { owner := some .host0, op := some .otpProgram, words := List.replicate 7 0 } },
    by decide +kernel, by decide +kernel, by decide +kernel, by decide +kernel, by decide +kernel, by decide +kernel,
    by decide +kernel, by decide +kernel⟩

theorem witness_FlashPort_sectorErase :
    ∃ (q : Requester) (v : Word) (s : State),
      s.barShut q = false ∧
      hostPort q = true ∧
      s.get Reg.EFC_STATUS_SEQ = 3 ∧
      s.efc.owner = some q ∧
      s.efc.op = some .sectorErase ∧
      bitsOf v 24 0 % 4096 = 0 ∧
      s.efc.refuse = false ∧
      s.mayFlash .sectorErase (bitsOf v 24 0) = true :=
  ⟨.host0, 0xFF0000, { run [(Reg.EFC_STATUS_SEQ, 0, 3)] with efc := { owner := some .host0, op := some .sectorErase } },
    by decide +kernel, by decide +kernel, by decide +kernel, by decide +kernel, by decide +kernel, by decide +kernel,
    by decide +kernel, by decide +kernel⟩

theorem witness_FlashPort_blankCheck :
    ∃ (q : Requester) (v : Word) (s : State),
      s.barShut q = false ∧
      hostPort q = true ∧
      s.get Reg.EFC_STATUS_SEQ = 3 ∧
      s.efc.owner = some q ∧
      s.efc.op = some .blankCheck ∧
      bitsOf v 24 0 % 4096 = 0 ∧
      s.efc.refuse = false :=
  ⟨.host0, 0x1000, { run [(Reg.EFC_STATUS_SEQ, 0, 3)] with efc := { owner := some .host0, op := some .blankCheck } },
    by decide +kernel, by decide +kernel, by decide +kernel, by decide +kernel, by decide +kernel, by decide +kernel,
    by decide +kernel⟩

theorem witness_FlashPort_efcOperationComplete :
    ∃ (r : FlashRun) (s : State),
      s.efc.run = some r ∧
      s.flag Reg.EFC_STATUS_SUSPENDED = false ∧
      r.op = .program ∧
      allBlank (s.flashRead r.addr 32) = true ∧
      s.deadSector r.addr = false :=
  ⟨{ op := .program, addr := 0, data := [] }, { live with efc := { run := some { op := .program, addr := 0, data := [] } } },
    by decide +kernel, by decide +kernel, by decide +kernel, by decide +kernel, by decide +kernel⟩

theorem witness_FlashPort_notBlank :
    ∃ (r : FlashRun) (b : Bool) (s : State),
      s.efc.run = some r ∧
      s.flag Reg.EFC_STATUS_SUSPENDED = false ∧
      r.op = .program ∧
      allBlank (s.flashRead r.addr 32) = false :=
  ⟨{ op := .program, addr := 0, data := [] }, false, { live with efc := { run := some { op := .program, addr := 0, data := [] }, flash := [(31, 0)] } },
    by decide +kernel, by decide +kernel, by decide +kernel, by decide +kernel⟩

theorem witness_FlashPort_erased :
    ∃ (r : FlashRun) (b : Bool) (s : State),
      s.efc.run = some r ∧
      s.flag Reg.EFC_STATUS_SUSPENDED = false ∧
      r.op = .sectorErase :=
  ⟨{ op := .sectorErase, addr := 0, data := [] }, false, { live with efc := { run := some { op := .sectorErase, addr := 0, data := [] } } },
    by decide +kernel, by decide +kernel, by decide +kernel⟩

theorem witness_FlashPort_efcEraseSuspend :
    ∃ (resume : Bool) (r : FlashRun) (s : State),
      s.efc.run = some r ∧
      r.op = .sectorErase :=
  ⟨true, { op := .sectorErase, addr := 0, data := [] }, { live with efc := { run := some { op := .sectorErase, addr := 0, data := [] } } },
    by decide +kernel, by decide +kernel⟩

theorem witness_FlashPort_efcWindowRead :
    ∃ (q : Requester) (addr len : Nat) (s : State),
      s.barShut q = false ∧
      0x2000000 ≤ addr ∧
      addr + len ≤ 0x4000000 ∧
      s.flag Reg.EFC_STATUS_BUSY0 = false ∧
      s.flag Reg.EFC_STATUS_BUSY1 = false ∧
      0xE00000 ≤ addr % 0x1000000 ∧
      s.deadSector (addr - 0x2000000) = false :=
  ⟨.host0, 0x3FFFFFC, 4, live,
    by decide +kernel, by decide +kernel, by decide +kernel, by decide +kernel, by decide +kernel, by decide +kernel,
    by decide +kernel⟩

theorem witness_FlashPort_executeOnly :
    ∃ (q : Requester) (addr len : Nat) (errs : List (Nat × Nat)) (s : State),
      s.barShut q = false ∧
      0x2000000 ≤ addr ∧
      addr + len ≤ 0x4000000 ∧
      s.flag Reg.EFC_STATUS_BUSY0 = false ∧
      s.flag Reg.EFC_STATUS_BUSY1 = false ∧
      addr % 0x1000000 < 0xE00000 :=
  ⟨.host0, 0x2000000, 4, [], live,
    by decide +kernel, by decide +kernel, by decide +kernel, by decide +kernel, by decide +kernel, by decide +kernel⟩

theorem witness_FlashPort_efcWindowWrite :
    ∃ (q : Requester) (addr : Nat) (v : Word) (s : State),
      s.barShut q = false ∧
      0x2000000 ≤ addr ∧
      addr < 0x4000000 :=
  ⟨.host0, 0x3FFFFFC, 0, live,
    by decide +kernel, by decide +kernel, by decide +kernel⟩

theorem witness_FlashPort_efcEccLogFree :
    ∃ (v : Word) (s : State),
      v.getLsbD 31 = true :=
  ⟨0x80000000, live,
    by decide +kernel⟩

theorem witness_FlashPort_efcAbortAddrClr :
    ∃ (v : Word) (s : State),
      v.getLsbD 30 = true :=
  ⟨0x40000000, live,
    by decide +kernel⟩

theorem witness_FlashPort_journalAppend :
    ∃ (j kind base : Nat) (payload : List Byte) (s : State),
      journalBase j = some base ∧
      s.efc.run = none ∧
      payload.length ≤ 240 :=
  ⟨4, 2, 0x1E00000, zeros 240, live,
    by decide +kernel, by decide +kernel, by decide +kernel⟩

theorem witness_CoresAndColophonCore_coreLockup :
    ∃ (k : Fin 5) (cause : Nat) (info : Word) (s : State),
      1 ≤ cause ∧
      cause ≤ 4 ∧
      ((s.get Reg.MBX_CORE_STATUS_STATE k.val = 1 ∨ s.get Reg.MBX_CORE_STATUS_STATE k.val = 2 ∨ s.get Reg.MBX_CORE_STATUS_STATE
          k.val = 3 ∨ s.get Reg.MBX_CORE_STATUS_STATE k.val = 5)) :=
  ⟨4, 4, 0, live,
    by decide +kernel, by decide +kernel, by decide +kernel⟩

theorem witness_CoresAndColophonCore_coreWatchdogTimeout :
    ∃ (k : Fin 5) (info : Word) (s : State),
      ((s.get Reg.MBX_CORE_STATUS_STATE k.val = 2 ∨ s.get Reg.MBX_CORE_STATUS_STATE k.val = 3 ∨ (s.get
          Reg.MBX_CORE_STATUS_STATE k.val = 5 ∧ k.val ≠ 0))) :=
  ⟨4, 0, live,
    by decide +kernel⟩

theorem witness_CoresAndColophonCore_coreRestart :
    ∃ (k : Fin 5) (fw0 fw1 : Bool) (s : State),
      s.get Reg.MBX_CORE_STATUS_STATE k.val = 4 ∧
      (k.val ≠ 0 ∨ (fw0 = true ∧ fw1 = true)) :=
  ⟨0, true, true, run [(Reg.MBX_CORE_STATUS_STATE, 0, 4)],
    by decide +kernel, by decide +kernel⟩

theorem witness_CoresAndColophonCore_coreFirstHeartbeat :
    ∃ (k : Fin 5) (engines : BitVec 16) (tests : Bool) (s : State),
      (s.get Reg.MBX_CORE_STATUS_STATE k.val = 1 ∨ s.get Reg.MBX_CORE_STATUS_STATE k.val = 5) :=
  ⟨0, 0, true, run [(Reg.MBX_CORE_STATUS_STATE, 0, 1)],
    by decide +kernel⟩

theorem witness_CoresAndColophonCore_coreSleep :
    ∃ (k : Fin 5) (s : State),
      s.get Reg.MBX_CORE_STATUS_STATE k.val = 2 :=
  ⟨4, live,
    by decide +kernel⟩

theorem witness_CoresAndColophonCore_colophonCoreLockup :
    ∃ (s : State),
      s.col.powered = true ∧
      s.get Reg.COL_STATUS_STATE ≠ 4 :=
  ⟨live,
    by decide +kernel, by decide +kernel⟩

theorem witness_MailboxesAndQuoins_mailboxWrite :
    ∃ (q : Requester) (n : Fin 64) (v : Word) (st : Nat) (s : State),
      s.barShut q = false ∧
      s.stamp q = some st ∧
      mayWriteBox q n.val = true ∧
      ((∀ k, boxCore n.val = some k → s.get Reg.MBX_CORE_STATUS_STATE k ≠ 6)) ∧
      s.flag Reg.MBX_BOX_STATUS_FULL n.val = false ∧
      st < 256 :=
  ⟨.host0, 63, 0, 1, live,
    by decide +kernel, by decide +kernel, by decide +kernel, (fun k h => nomatch (show (none : Option Nat) = some k from h)),
    by decide +kernel, by decide +kernel⟩

theorem witness_MailboxesAndQuoins_overrun :
    ∃ (q : Requester) (n : Fin 64) (v : Word) (st : Nat) (s : State),
      s.barShut q = false ∧
      s.stamp q = some st ∧
      mayWriteBox q n.val = true ∧
      ((∀ k, boxCore n.val = some k → s.get Reg.MBX_CORE_STATUS_STATE k ≠ 6)) ∧
      s.flag Reg.MBX_BOX_STATUS_FULL n.val = true :=
  ⟨.host0, 63, 0, 1, run [(Reg.MBX_BOX_STATUS_FULL, 63, 1)],
    by decide +kernel, by decide +kernel, by decide +kernel, (fun k h => nomatch (show (none : Option Nat) = some k from h)),
    by decide +kernel⟩

theorem witness_MailboxesAndQuoins_rejected :
    ∃ (q : Requester) (n : Fin 64) (v : Word) (st : Nat) (s : State),
      s.barShut q = false ∧
      s.stamp q = some st ∧
      mayWriteBox q n.val = false :=
  ⟨.host0, 0, 0, 1, live,
    by decide +kernel, by decide +kernel, by decide +kernel⟩

theorem witness_MailboxesAndQuoins_mailboxRead :
    ∃ (q : Requester) (n : Fin 64) (s : State),
      s.barShut q = false ∧
      mayReadBox q n.val = true ∧
      s.flag Reg.MBX_BOX_STATUS_FULL n.val = true :=
  ⟨.host0, 40, run [(Reg.MBX_BOX_STATUS_FULL, 40, 1)],
    by decide +kernel, by decide +kernel, by decide +kernel⟩

theorem witness_MailboxesAndQuoins_emptyRead :
    ∃ (q : Requester) (n : Fin 64) (s : State),
      s.barShut q = false ∧
      (mayReadBox q n.val = false ∨ s.flag Reg.MBX_BOX_STATUS_FULL n.val = false) :=
  ⟨.host0, 63, live,
    by decide +kernel, by decide +kernel⟩

theorem witness_MailboxesAndQuoins_aosNoticePost :
    ∃ (w : Nat) (r : List Nat) (s : State),
      s.mbx.notices = w :: r ∧
      s.flag Reg.MBX_BOX_STATUS_FULL 40 = false :=
  ⟨7, [], { live with mbx := { notices := [7] } },
    by decide +kernel, by decide +kernel⟩

theorem witness_MailboxesAndQuoins_quoinTake :
    ∃ (q : Requester) (n : Fin 64) (st : Nat) (s : State),
      s.barShut q = false ∧
      s.stamp q = some st ∧
      quoinGroup q n.val = true ∧
      s.flag Reg.MBX_QUOIN_STATE_HELD n.val = false ∧
      st < 256 :=
  ⟨.host0, 63, 1, live,
    by decide +kernel, by decide +kernel, by decide +kernel, by decide +kernel, by decide +kernel⟩

theorem witness_MailboxesAndQuoins_taken :
    ∃ (q : Requester) (n : Fin 64) (st : Nat) (s : State),
      s.barShut q = false ∧
      s.stamp q = some st ∧
      quoinGroup q n.val = true ∧
      s.flag Reg.MBX_QUOIN_STATE_HELD n.val = true ∧
      s.get Reg.MBX_QUOIN_STATE_OWNER n.val ≠ st :=
  ⟨.host0, 63, 1, run [(Reg.MBX_QUOIN_STATE_HELD, 63, 1), (Reg.MBX_QUOIN_STATE_OWNER, 63, 2)],
    by decide +kernel, by decide +kernel, by decide +kernel, by decide +kernel, by decide +kernel⟩

theorem witness_MailboxesAndQuoins_quoinRelease :
    ∃ (q : Requester) (n : Fin 64) (st : Nat) (s : State),
      s.barShut q = false ∧
      s.stamp q = some st ∧
      quoinGroup q n.val = true ∧
      s.flag Reg.MBX_QUOIN_STATE_HELD n.val = true ∧
      s.get Reg.MBX_QUOIN_STATE_OWNER n.val = st :=
  ⟨.host0, 63, 1, run [(Reg.MBX_QUOIN_STATE_HELD, 63, 1), (Reg.MBX_QUOIN_STATE_OWNER, 63, 1)],
    by decide +kernel, by decide +kernel, by decide +kernel, by decide +kernel, by decide +kernel⟩

theorem witness_MailboxesAndQuoins_notOwner :
    ∃ (q : Requester) (n : Fin 64) (st : Nat) (s : State),
      s.barShut q = false ∧
      s.stamp q = some st ∧
      quoinGroup q n.val = true ∧
      (s.flag Reg.MBX_QUOIN_STATE_HELD n.val = false ∨ s.get Reg.MBX_QUOIN_STATE_OWNER n.val ≠ st) :=
  ⟨.host0, 63, 1, live,
    by decide +kernel, by decide +kernel, by decide +kernel, by decide +kernel⟩

theorem witness_Calibration_calTemperatureCheck :
    ∃ (temps : List Nat) (b : Fin 6) (s : State),
      s.get Reg.MBX_CORE_STATUS_STATE 0 = 2 ∧
      s.unitFailed 16 = false ∧
      (s.calSense temps).calDrift b.val = true ∧
      s.flag Reg.CAL_BLK_CTL_HOLD b.val = false :=
  ⟨[60000, 60000, 60000, 60000, 60000, 60000], 5, live,
    by decide +kernel, by decide +kernel, by decide +kernel, by decide +kernel⟩

theorem witness_Calibration_calRunStart :
    ∃ (b : Nat) (s : State),
      6 ≤ s.get Reg.CAL_STATUS_ACTIVE ∧
      s.calMay = true ∧
      (List.range 6).find? (fun b => s.flag Reg.CAL_BLK_STATUS_PENDING b) = some b :=
  ⟨5, run [(Reg.CAL_BLK_STATUS_PENDING, 5, 1), (Reg.CAL_STATUS_ACTIVE, 0, 7)],
    by decide +kernel, by decide +kernel, by decide +kernel⟩

theorem witness_Calibration_calRunComplete :
    ∃ (codes : List (Nat × Byte)) (s : State),
      s.get Reg.CAL_STATUS_ACTIVE < 6 :=
  ⟨[], run [(Reg.CAL_STATUS_ACTIVE, 0, 5)],
    by decide +kernel⟩

theorem witness_Calibration_calValueWrite :
    ∃ (addr b : Nat) (v : Word) (s : State),
      calOf addr = some b ∧
      addr % 4 = 0 ∧
      s.absentAt addr = false ∧
      s.flag Reg.CAL_BLK_STATUS_RUNNING b = false :=
  ⟨(calBlock 0).base, 0, 0, live,
    by decide +kernel, by decide +kernel, by decide +kernel, by decide +kernel⟩

theorem witness_Calibration_refused :
    ∃ (addr b : Nat) (v : Word) (s : State),
      calOf addr = some b ∧
      s.absentAt addr = false ∧
      s.flag Reg.CAL_BLK_STATUS_RUNNING b = true ∧
      s.written addr v ≠ s.rd addr :=
  ⟨(calBlock 0).base, 0, 0x01010101, run [(Reg.CAL_BLK_STATUS_RUNNING, 0, 1)],
    by decide +kernel, by decide +kernel, by decide +kernel, by decide +kernel⟩

theorem witness_TestAccess_idcode :
    ∃ (tdi : List Bool) (s : State),
      tdi.length = 32 :=
  ⟨List.replicate 32 true, live,
    by decide +kernel⟩

end Sys2Proof.Tests
end

section
/-!
Partial writes of a register word (00 R10, R12): the fields of every register of the table lie in bits of their own, so what a
requester's write leaves in one field does not depend on what it does to the others.
-/
namespace Sys2Proof.Proofs
open Sys2Proof.Machine Sys2Proof.Laws

/-- The bits of a field lie in a word. -/
abbrev FieldFits (f : RField) : Prop := f.lo ≤ f.hi ∧ f.hi < 32

/-- Two fields share no bit. -/
abbrev FieldsApart (f g : RField) : Prop := f.hi < g.lo ∨ g.hi < f.lo

/-- The fields of a register lie in the word, and no two of them share a bit. -/
abbrev LaidOut (fs : List RField) : Prop := (∀ f ∈ fs, FieldFits f) ∧ fs.Pairwise FieldsApart

/-! ### The layout of the register table -/

/-- The pages (key / 1 MiB) on which the table has registers. -/
def tablePages : List Nat := List.range 18 ++ [4096, 8192, 12288, 16384]

theorem regPage_eq_nil_of_notMem_tablePages {p : Nat} (h : p ∉ tablePages) : regPage p = [] := by
  simp only [tablePages, List.mem_append, List.mem_range, List.mem_cons, List.not_mem_nil, or_false, not_or] at h
  obtain ⟨hlow, h1, h2, h3, h4⟩ := h
  unfold regPage
  repeat rw [if_neg (by omega)]

theorem tablePages_laidOut : ∀ p ∈ tablePages, ∀ r ∈ regPage p, LaidOut r.fields := by
  decide +kernel

theorem regFind_laidOut {k : Nat} {r : RReg} (h : regFind k = some r) : LaidOut r.fields := by
  have hmem : r ∈ regPage (k / 0x100000) := List.mem_of_find?_eq_some h
  by_cases hp : k / 0x100000 ∈ tablePages
  · exact tablePages_laidOut _ hp r hmem
  · rw [regPage_eq_nil_of_notMem_tablePages hp] at hmem
    exact absurd hmem List.not_mem_nil

/-! ### The write of one field -/

section OneField
variable {locked : Bool} {v w w' : Word} {f g : RField}

theorem fieldWrite_eq_self_or_setBits (locked : Bool) (v w : Word) (f : RField) :
    fieldWrite locked v w f = w ∨ ∃ n, fieldWrite locked v w f = setBits w f.hi f.lo n := by
  unfold fieldWrite
  cases f.acc with
  | ro | wo => exact .inl rfl
  | w1c | w1s => exact .inr ⟨_, rfl⟩
  | rw | rws | rwl =>
    dsimp only
    split
    · exact .inl rfl
    · exact .inr ⟨_, rfl⟩

theorem bitsOf_fieldWrite_apart (hf : FieldFits f) (h : FieldsApart f g) :
    bitsOf (fieldWrite locked v w f) g.hi g.lo = bitsOf w g.hi g.lo := by
  obtain hw | ⟨n, hw⟩ := fieldWrite_eq_self_or_setBits locked v w f
  · rw [hw]
  · rw [hw]
    exact bitsOf_setBits_apart hf.1 hf.2 h

/-- What the write of a field leaves in it is decided by the written value and by what the field held. -/
theorem bitsOf_fieldWrite_congr (hf : FieldFits f) (h : bitsOf w f.hi f.lo = bitsOf w' f.hi f.lo) :
    bitsOf (fieldWrite locked v w f) f.hi f.lo = bitsOf (fieldWrite locked v w' f) f.hi f.lo := by
  have hset (n : Nat) : bitsOf (setBits w f.hi f.lo n) f.hi f.lo = bitsOf (setBits w' f.hi f.lo n) f.hi f.lo := by
    rw [bitsOf_setBits_same hf.1 hf.2, bitsOf_setBits_same hf.1 hf.2]
  unfold fieldWrite
  cases f.acc with
  | ro | wo => exact h
  | w1c | w1s =>
    dsimp only
    rw [h]
    exact hset _
  | rw | rws | rwl =>
    dsimp only
    split
    · exact h
    · exact hset _

theorem fieldWrite_reserved (hbad : badValue f (bitsOf v f.hi f.lo) = true)
    (hacc : f.acc = .rw ∨ f.acc = .rws ∨ f.acc = .rwl) : fieldWrite locked v w f = w := by
  rcases hacc with h | h | h <;> simp [fieldWrite, h, hbad]

end OneField

/-! ### The write of a word -/

section Word
variable {locked : Bool} {v w : Word} {f : RField} {fs : List RField}

theorem bitsOf_foldl_fieldWrite_apart (hfit : ∀ g ∈ fs, FieldFits g) (h : ∀ g ∈ fs, FieldsApart g f) :
    bitsOf (fs.foldl (fieldWrite locked v) w) f.hi f.lo = bitsOf w f.hi f.lo := by
  induction fs generalizing w with
  | nil => rfl
  | cons g gs ih =>
    obtain ⟨hg, hgs⟩ := List.forall_mem_cons.mp hfit
    obtain ⟨hgf, hgsf⟩ := List.forall_mem_cons.mp h
    rw [List.foldl_cons, ih hgs hgsf, bitsOf_fieldWrite_apart hg hgf]

theorem bitsOf_foldl_fieldWrite (hfs : LaidOut fs) (hf : f ∈ fs) :
    bitsOf (fs.foldl (fieldWrite locked v) w) f.hi f.lo = bitsOf (fieldWrite locked v w f) f.hi f.lo := by
  induction fs generalizing w with
  | nil => exact absurd hf List.not_mem_nil
  | cons g gs ih =>
    obtain ⟨hfit, hapart⟩ := hfs
    obtain ⟨hg, hgs⟩ := List.forall_mem_cons.mp hfit
    obtain ⟨hgApart, hgsApart⟩ := List.pairwise_cons.mp hapart
    rw [List.foldl_cons]
    obtain rfl | hmem := List.mem_cons.mp hf
    · exact bitsOf_foldl_fieldWrite_apart hgs fun g' hg' => (hgApart g' hg').symm
    · rw [ih ⟨hgs, hgsApart⟩ hmem]
      exact bitsOf_fieldWrite_congr (hgs f hmem) (bitsOf_fieldWrite_apart hg (hgApart f hmem))

end Word

theorem written_of_regFind {k : Nat} {r : RReg} (s : State) (v : Word) (h : regFind k = some r) :
    s.written k v = r.fields.foldl (fieldWrite s.locked v) (s.rd k) := by
  simp only [State.written, h]

theorem bitsOf_written {k : Nat} {r : RReg} {f : RField} (s : State) (v : Word) (h : regFind k = some r)
    (hf : f ∈ r.fields) :
    bitsOf (s.written k v) f.hi f.lo = bitsOf (fieldWrite s.locked v (s.rd k) f) f.hi f.lo := by
  rw [written_of_regFind s v h, bitsOf_foldl_fieldWrite (regFind_laidOut h) hf]

/-- Settles O6: every field of a written word holds what the write of that field alone leaves, and that write leaves the word
where the value is a reserved encoding. -/
theorem reservedEncodings : Obligations.ReservedEncodings := by
  intro k r v s hr f hf
  have hfield := bitsOf_written s v hr hf
  refine ⟨fun hbad hacc => ?_, hfield⟩
  rw [hfield, fieldWrite_reserved hbad hacc]

end Sys2Proof.Proofs
end

section
/-!
Held enable requests (02 R46, R47). A write to the enable bit of a unit or ring in STARTING or STOPPING leaves its state and
writes its held bit afresh, from the written value alone, so the last write decides how the start-up or the drain ends.
-/
namespace Sys2Proof.Proofs
open Sys2Proof.Machine Sys2Proof.Laws

/-- The fields of a unit or ring: as many elements of each as there are enable bits, a state of three bits and a held bit that
lie in the word, and a write of the enable bit or of the held bit leaves the state alone. -/
structure UnitLaidOut (f : UnitFlds) : Prop where
  stCount : f.st.count = f.en.count
  heldCount : f.held.count = f.en.count
  stFits : fits f.st = true
  heldFits : fits f.held = true
  stWidth : f.st.width = 3
  heldWidth : f.held.width = 1
  enSt : apart f.en f.st = true
  heldSt : apart f.held f.st = true

/-- The units and rings of which R47 speaks. -/
abbrev enableUnits : List UnitFlds :=
  [portUnit, capUnit, clusterUnit, pairUnit, sqUnit, cqUnit, magUnit, ochUnit, srvUnit, motUnit, colUnit]

theorem enableUnits_laidOut : ∀ f ∈ enableUnits, UnitLaidOut f := by
  intro f hf
  constructor <;> revert f <;> decide +kernel

/-! ### A write to the enable bit -/

/-- What a write to the enable bit does while a request may be held: the bit takes `b`, the held bit `r`. -/
def noteRequest (f : UnitFlds) (b r : Bool) (i : Nat) (s : State) : State := (s.setFlag f.en b i).setFlag f.held r i

section Unit
variable {f : UnitFlds} {i : Nat} {b r : Bool} {s : State}

theorem flag_setFlag_same {g : Fld} (hfit : fits g = true) (hwidth : g.width = 1) (hi : i < g.count) :
    (s.setFlag g b i).flag g i = b := by
  rw [State.flag, State.setFlag, get_put_same hfit hi, hwidth]
  cases b <;> rfl

theorem get_st_noteRequest (hf : UnitLaidOut f) (hi : i < f.en.count) :
    (noteRequest f b r i s).get f.st i = s.get f.st i := by
  have hst : i < f.st.count := hf.stCount ▸ hi
  exact (get_put_apart hf.heldSt hst).trans (get_put_apart hf.enSt hst)

theorem flag_held_noteRequest (hf : UnitLaidOut f) (hi : i < f.en.count) :
    (noteRequest f b r i s).flag f.held i = r :=
  flag_setFlag_same hf.heldFits hf.heldWidth (hf.heldCount ▸ hi)

/-- During STARTING the state stays, and a request is held where the write is a disable. -/
theorem enableWrite_of_starting (hf : UnitLaidOut f) (hi : i < f.en.count) (h : s.get f.st i = 1) :
    (s.enableWrite f b i).get f.st i = 1 ∧ (s.enableWrite f b i).flag f.held i = !b := by
  have hwrite : s.enableWrite f b i = noteRequest f b (!b) i s := by
    simp only [State.enableWrite, noteRequest, h]
  rw [hwrite]
  exact ⟨(get_st_noteRequest hf hi).trans h, flag_held_noteRequest hf hi⟩

/-- During STOPPING the state stays, and a request is held where the write is an enable. -/
theorem enableWrite_of_stopping (hf : UnitLaidOut f) (hi : i < f.en.count) (h : s.get f.st i = 3) :
    (s.enableWrite f b i).get f.st i = 3 ∧ (s.enableWrite f b i).flag f.held i = b := by
  have hwrite : s.enableWrite f b i = noteRequest f b b i s := by
    simp only [State.enableWrite, noteRequest, h]
  rw [hwrite]
  exact ⟨(get_st_noteRequest hf hi).trans h, flag_held_noteRequest hf hi⟩

/-! ### The end of the start-up and of the drain -/

theorem get_st_put_st {v : Nat} (hf : UnitLaidOut f) (hi : i < f.en.count) (hv : v < 8) :
    (s.put f.st v i).get f.st i = v := by
  rw [get_put_same hf.stFits (hf.stCount ▸ hi), hf.stWidth]
  exact Nat.mod_eq_of_lt hv

theorem get_st_unitStarted (hf : UnitLaidOut f) (hi : i < f.en.count) (h : s.get f.st i = 1) :
    (s.unitStarted f i).get f.st i = if s.flag f.held i then 3 else 2 := by
  rw [State.unitStarted, h, if_neg (by decide)]
  split
  · exact get_st_put_st hf hi (by decide)
  · exact get_st_put_st hf hi (by decide)

theorem get_st_unitDrained (hf : UnitLaidOut f) (hi : i < f.en.count) (h : s.get f.st i = 3) :
    (s.unitDrained f i).get f.st i = if s.flag f.held i then 1 else 0 := by
  rw [State.unitDrained, h, if_neg (by decide)]
  split
  · exact get_st_put_st hf hi (by decide)
  · exact get_st_put_st hf hi (by decide)

end Unit

/-- Settles O8: in STARTING and in STOPPING each write to the enable bit writes the held bit afresh, so the second of two
writes alone says what the end of the start-up or of the drain finds held. -/
theorem heldRequests : Obligations.HeldRequests := by
  intro f i a b s hmem hi
  have hf : UnitLaidOut f := enableUnits_laidOut f hmem
  constructor
  · intro hstopping
    have hafter (c : Bool) := enableWrite_of_stopping (b := c) hf hi hstopping
    refine ⟨(enableWrite_of_stopping hf hi (hafter true).1).2, ?_⟩
    obtain ⟨hst, hheld⟩ := enableWrite_of_stopping (b := b) hf hi (hafter a).1
    rw [get_st_unitDrained hf hi hst, hheld]
  · intro hstarting
    have hafter := enableWrite_of_starting (b := a) hf hi hstarting
    obtain ⟨hst, hheld⟩ := enableWrite_of_starting (b := b) hf hi hafter.1
    rw [get_st_unitStarted hf hi hst, hheld]
    cases b <;> rfl

end Sys2Proof.Proofs
end

section
/-!
Every command answers a next state (00), and every step keeps the canonical form of the sparse maps: both follow from
`Laws.exec_moves`, which says of every command what it can change.
-/
set_option Elab.async false

namespace Sys2Proof.Proofs
open Sys2Proof.Machine Sys2Proof.Laws

/-- Settles O3: every command moves only what its mask names, which is never the part nor the queue. -/
theorem everyCommandAnswers : Obligations.EveryCommandAnswers := by
  intro c s
  obtain ⟨_, t, hnext, hmoves⟩ := exec_moves c s
  exact ⟨t, hnext, hmoves.part, hmoves.pending⟩

theorem exec_keeps_canon {c : Instr} {s t : State} (hs : Canon s) (h : exec c s = .next t) : Canon t := by
  obtain ⟨_, u, hnext, hmoves⟩ := exec_moves c s
  obtain rfl : u = t := Host.Outcome.next.inj (hnext.symm.trans h)
  exact hmoves.canon hs

/-- The queue is no sparse map: taking a command from it leaves the canonical form alone. -/
theorem canon_pending {s : State} {rest : List Instr} (hs : Canon s) : Canon { s with pending := rest } :=
  ⟨hs.regs, hs.mem, hs.poison, hs.errs, hs.written, hs.flash, hs.otp, hs.lanes, hs.ports, hs.sq, hs.cq⟩

/-- Settles O4: a step lets one tick pass, or runs the front command on the state without it. -/
theorem stepKeepsCanon : Obligations.StepKeepsCanon := by
  intro s t hs h
  unfold Machine.step at h
  split at h
  · obtain rfl : s.tick = t := Host.Outcome.next.inj h
    exact mv_tick.canon hs
  · exact exec_keeps_canon (canon_pending hs) h

end Sys2Proof.Proofs
end

section
/-!
From a command's mask (`Laws.mv_exec…`) and the state that it answers to the frame of a statement, and reading flags and fields
across the operations behind a command.
-/
set_option Elab.async false

namespace Sys2Proof.Proofs
open Sys2Proof.Machine Sys2Proof.Laws

section Frame
variable {M : Nat} {ps : List Holding} {rs : List Fld} {s t : State} {r : Result}

theorem moves_of_next (m : MovesR M s r) (h : r = .next t) : Moves M s t := by
  obtain ⟨u, hu, hm⟩ := m
  obtain rfl : u = t := Host.Outcome.next.inj (hu.symm.trans h)
  exact hm

theorem sub_self (M : Nat) : sub M M = true := by simp [sub]

/-- Operations under one mask, one after the other. -/
theorem moves_trans {u : State} (h : Moves M s t) (g : Moves M t u) : Moves M s u := h.step g (sub_self M)

/-- The frame of a command that answers `t`, from its mask. -/
theorem keeps_of_next (m : MovesR M s r) (h : r = .next t) (ha : allows M ps rs = true) : Keeps ps rs s t :=
  keeps_of (moves_of_next m h) ha

theorem keepsParts_of_next (m : MovesR M s r) (h : r = .next t)
    (ha : Holding.all.all (fun p => ps.contains p || !M.testBit (Holding.bit p)) = true) : KeepsParts ps s t :=
  keepsParts_of (moves_of_next m h) ha

theorem keeps_refl : Keeps ps rs s s := ⟨rfl, rfl, fun p _ => by cases p <;> rfl, fun _ _ => rfl⟩

/-- The frame of one operation after another. -/
theorem keeps_trans {u : State} (h : Keeps ps rs s t) (g : Keeps ps rs t u) : Keeps ps rs s u where
  part := g.part.trans h.part
  pending := g.pending.trans h.pending
  regs k hk := (g.regs k hk).trans (h.regs k hk)
  pieces p hp := by
    have a := h.pieces p hp
    have b := g.pieces p hp
    cases p <;> exact Eq.trans b a

theorem keepsParts_trans {u : State} (h : KeepsParts ps s t) (g : KeepsParts ps t u) : KeepsParts ps s u where
  part := g.part.trans h.part
  pending := g.pending.trans h.pending
  pieces p hp := by
    have a := h.pieces p hp
    have b := g.pieces p hp
    cases p <;> exact Eq.trans b a

/-- The register array of a field is among those of the list. -/
def listed (rs : List Fld) (f : Fld) : Bool := rs.any fun g => f.base == g.base && f.stride == g.stride && decide (f.count ≤ g.count)

theorem keeps_put {f : Fld} {v i : Nat} (hf : listed rs f = true) : Keeps ps rs s (s.put f v i) where
  part := put_part
  pending := put_pending
  pieces p _ := by cases p <;> simp [Holding.same]
  regs k hk := by
    refine rd_put_apart ?_
    rintro ⟨j, hj, rfl⟩
    obtain ⟨g, hg, hx⟩ := List.any_eq_true.mp hf
    simp only [Bool.and_eq_true, beq_iff_eq, decide_eq_true_eq] at hx
    obtain ⟨⟨hb, hs⟩, hc⟩ := hx
    exact hk g hg ⟨j, Nat.lt_of_lt_of_le hj hc, by rw [hb, hs]⟩

theorem keeps_setFlag {f : Fld} {b : Bool} {i : Nat} (hf : listed rs f = true) : Keeps ps rs s (s.setFlag f b i) := keeps_put hf

/-- Writing one word of a register of the list. -/
theorem keeps_wr {f : Fld} {k i : Nat} {v : Word} (hf : f ∈ rs) (hi : i < f.count) (hk : k = f.base + f.stride * i) :
    Keeps ps rs s (s.wr k v) where
  part := rfl
  pending := rfl
  pieces p _ := by cases p <;> rfl
  regs j hj := rd_wr_ne fun e => hj f hf ⟨i, hi, e.trans hk⟩

theorem moves_emit {o : Output} : Moves 0x100000 s (s.emit o) := mvMk Moves.refl

end Frame

section Flags
variable {M : Nat} {s t : State} {f g : Fld} {i j : Nat} {b : Bool}

theorem flag_of_moves (m : Moves M s t) (h : frees M f = true) (hj : j < f.count) : t.flag f j = s.flag f j := by
  rw [State.flag, State.flag, get_of_moves m h hj]

theorem flag_put_apart {v : Nat} (h : apart f g = true) (hj : j < g.count) : (s.put f v i).flag g j = s.flag g j := by
  rw [State.flag, State.flag, get_put_apart h hj]

theorem flag_setFlag_apart (h : apart f g = true) (hj : j < g.count) : (s.setFlag f b i).flag g j = s.flag g j :=
  flag_put_apart h hj

theorem get_setFlag_apart (h : apart f g = true) (hj : j < g.count) : (s.setFlag f b i).get g j = s.get g j :=
  get_put_apart h hj

theorem flag_event_apart (h : apart f g = true) (hj : j < g.count) (h0 : apart Reg.MSIX0_PBA g = true)
    (h1 : apart Reg.MSIX1_PBA g = true) : (s.event f i).flag g j = s.flag g j := by
  rw [State.flag, State.flag, event_get h hj h0 h1]

/-- A cause bit that the supervisor sets. -/
theorem flag_cause_same (hfit : fits f = true) (hwidth : f.width = 1) (hf : 0 < f.count) : (s.cause f).flag f = true :=
  flag_setFlag_same hfit hwidth hf

theorem flag_regs (h : t.regs = s.regs) : t.flag f j = s.flag f j := by
  rw [State.flag, State.flag, get_regs h]

end Flags

/-- A field of the supervisor's state that is no actuator: `still` leaves it alone. -/
theorem of_still {α : Type} {p q : PowerSt} (h : still p = still q) (g : PowerSt → α) (hg : ∀ x, g (still x) = g x) : g p = g q := by
  rw [← hg p, h, hg q]

/-- An update of the supervisor's part moves nothing else. -/
theorem moves_setPwr {s : State} {p : PowerSt} : Moves 0x80000 s { s with pwr := p } := mvMk Moves.refl

/-! ### A part of an updated state

Rewriting with these, an updated state is taken apart without comparing its other parts. -/

section Update
variable {xpart : Part} {xregs : List (Nat × Word)} {xfresh : Nat} {xlanes : List (Nat × LaneSt)} {xports : List (Nat × PortSt)}
  {xcap : CapSt} {xcmp : CmpSt} {xgal : GalSt} {xpair : PairSt} {xpcie : PcieSt} {xhq : HqSt} {xmag : MagSt} {xmap : MapSt}
  {xoch : OchSt} {xsrv : SrvSt} {xmot : MotSt} {xsec : SecSt} {xcol : ColSt} {xefc : EfcSt} {xmbx : MbxSt} {xcal : CalSt}
  {xjtag : JtagSt} {xpwr : PowerSt} {xoutbox : List Output} {xpending : List Instr}

theorem regs_mk : (State.mk xpart xregs xfresh xlanes xports xcap xcmp xgal xpair xpcie xhq xmag xmap xoch xsrv xmot xsec xcol xefc xmbx xcal xjtag xpwr
    xoutbox xpending).regs = xregs := rfl

theorem fresh_mk : (State.mk xpart xregs xfresh xlanes xports xcap xcmp xgal xpair xpcie xhq xmag xmap xoch xsrv xmot xsec xcol xefc xmbx xcal xjtag xpwr
    xoutbox xpending).fresh = xfresh := rfl

theorem lanes_mk : (State.mk xpart xregs xfresh xlanes xports xcap xcmp xgal xpair xpcie xhq xmag xmap xoch xsrv xmot xsec xcol xefc xmbx xcal xjtag xpwr
    xoutbox xpending).lanes = xlanes := rfl

theorem ports_mk : (State.mk xpart xregs xfresh xlanes xports xcap xcmp xgal xpair xpcie xhq xmag xmap xoch xsrv xmot xsec xcol xefc xmbx xcal xjtag xpwr
    xoutbox xpending).ports = xports := rfl

theorem cap_mk : (State.mk xpart xregs xfresh xlanes xports xcap xcmp xgal xpair xpcie xhq xmag xmap xoch xsrv xmot xsec xcol xefc xmbx xcal xjtag xpwr
    xoutbox xpending).cap = xcap := rfl

theorem cmp_mk : (State.mk xpart xregs xfresh xlanes xports xcap xcmp xgal xpair xpcie xhq xmag xmap xoch xsrv xmot xsec xcol xefc xmbx xcal xjtag xpwr
    xoutbox xpending).cmp = xcmp := rfl

theorem gal_mk : (State.mk xpart xregs xfresh xlanes xports xcap xcmp xgal xpair xpcie xhq xmag xmap xoch xsrv xmot xsec xcol xefc xmbx xcal xjtag xpwr
    xoutbox xpending).gal = xgal := rfl

theorem pair_mk : (State.mk xpart xregs xfresh xlanes xports xcap xcmp xgal xpair xpcie xhq xmag xmap xoch xsrv xmot xsec xcol xefc xmbx xcal xjtag xpwr
    xoutbox xpending).pair = xpair := rfl

theorem pcie_mk : (State.mk xpart xregs xfresh xlanes xports xcap xcmp xgal xpair xpcie xhq xmag xmap xoch xsrv xmot xsec xcol xefc xmbx xcal xjtag xpwr
    xoutbox xpending).pcie = xpcie := rfl

theorem hq_mk : (State.mk xpart xregs xfresh xlanes xports xcap xcmp xgal xpair xpcie xhq xmag xmap xoch xsrv xmot xsec xcol xefc xmbx xcal xjtag xpwr
    xoutbox xpending).hq = xhq := rfl

theorem mag_mk : (State.mk xpart xregs xfresh xlanes xports xcap xcmp xgal xpair xpcie xhq xmag xmap xoch xsrv xmot xsec xcol xefc xmbx xcal xjtag xpwr
    xoutbox xpending).mag = xmag := rfl

theorem map_mk : (State.mk xpart xregs xfresh xlanes xports xcap xcmp xgal xpair xpcie xhq xmag xmap xoch xsrv xmot xsec xcol xefc xmbx xcal xjtag xpwr
    xoutbox xpending).map = xmap := rfl

theorem och_mk : (State.mk xpart xregs xfresh xlanes xports xcap xcmp xgal xpair xpcie xhq xmag xmap xoch xsrv xmot xsec xcol xefc xmbx xcal xjtag xpwr
    xoutbox xpending).och = xoch := rfl

theorem srv_mk : (State.mk xpart xregs xfresh xlanes xports xcap xcmp xgal xpair xpcie xhq xmag xmap xoch xsrv xmot xsec xcol xefc xmbx xcal xjtag xpwr
    xoutbox xpending).srv = xsrv := rfl

theorem mot_mk : (State.mk xpart xregs xfresh xlanes xports xcap xcmp xgal xpair xpcie xhq xmag xmap xoch xsrv xmot xsec xcol xefc xmbx xcal xjtag xpwr
    xoutbox xpending).mot = xmot := rfl

theorem sec_mk : (State.mk xpart xregs xfresh xlanes xports xcap xcmp xgal xpair xpcie xhq xmag xmap xoch xsrv xmot xsec xcol xefc xmbx xcal xjtag xpwr
    xoutbox xpending).sec = xsec := rfl

theorem col_mk : (State.mk xpart xregs xfresh xlanes xports xcap xcmp xgal xpair xpcie xhq xmag xmap xoch xsrv xmot xsec xcol xefc xmbx xcal xjtag xpwr
    xoutbox xpending).col = xcol := rfl

theorem efc_mk : (State.mk xpart xregs xfresh xlanes xports xcap xcmp xgal xpair xpcie xhq xmag xmap xoch xsrv xmot xsec xcol xefc xmbx xcal xjtag xpwr
    xoutbox xpending).efc = xefc := rfl

theorem mbx_mk : (State.mk xpart xregs xfresh xlanes xports xcap xcmp xgal xpair xpcie xhq xmag xmap xoch xsrv xmot xsec xcol xefc xmbx xcal xjtag xpwr
    xoutbox xpending).mbx = xmbx := rfl

theorem cal_mk : (State.mk xpart xregs xfresh xlanes xports xcap xcmp xgal xpair xpcie xhq xmag xmap xoch xsrv xmot xsec xcol xefc xmbx xcal xjtag xpwr
    xoutbox xpending).cal = xcal := rfl

theorem jtag_mk : (State.mk xpart xregs xfresh xlanes xports xcap xcmp xgal xpair xpcie xhq xmag xmap xoch xsrv xmot xsec xcol xefc xmbx xcal xjtag xpwr
    xoutbox xpending).jtag = xjtag := rfl

theorem pwr_mk : (State.mk xpart xregs xfresh xlanes xports xcap xcmp xgal xpair xpcie xhq xmag xmap xoch xsrv xmot xsec xcol xefc xmbx xcal xjtag xpwr
    xoutbox xpending).pwr = xpwr := rfl

theorem outbox_mk : (State.mk xpart xregs xfresh xlanes xports xcap xcmp xgal xpair xpcie xhq xmag xmap xoch xsrv xmot xsec xcol xefc xmbx xcal xjtag xpwr
    xoutbox xpending).outbox = xoutbox := rfl

end Update

end Sys2Proof.Proofs
end

section
/-!
PLLs: lock, loss of lock, loss of the reference clock (02 R33 to R37, R48).
-/
set_option Elab.async false

namespace Sys2Proof.Proofs
open Sys2Proof.Machine Sys2Proof.Laws

section Lock
variable {M : Nat} {s t : State} {p : Pll}

/-- What leaves the two lock registers alone leaves every PLL's lock bit. -/
theorem pllLocked_of_moves (m : Moves M s t) (hpll : frees M Reg.CLK_PLL_STATUS_WORD = true)
    (hlane : frees M Reg.CLK_LANE_PLL_LOCK_WORD = true) : t.pllLocked p = s.pllLocked p :=
  pllLocked_congr (rd_of_moves m hpll (j := 0) (by decide)) (rd_of_moves m hlane (j := 0) (by decide))

theorem pllLocked_setFlag_lossEvent : (s.setFlag Reg.CLK_PLL_STATUS_LOSS_EVENT true).pllLocked p = s.pllLocked p := by
  cases p <;> simp only [State.pllLocked]
  case lane => rw [get_setFlag_apart (by decide) (by decide)]
  case gphy => rw [get_setFlag_apart (by decide) (by decide)]
  all_goals rw [flag_setFlag_apart (by decide) (by decide)]

/-- The state in which a PLL has just lost lock. -/
abbrev unlocked (p : Pll) (s : State) : State := (s.setPll p false).setFlag Reg.CLK_PLL_STATUS_LOSS_EVENT true

theorem pllLocked_unlocked : (unlocked p s).pllLocked p = false := by
  rw [unlocked, pllLocked_setFlag_lossEvent, pllLocked_setPll]

theorem flag_lossEvent_unlocked : (unlocked p s).flag Reg.CLK_PLL_STATUS_LOSS_EVENT = true :=
  flag_setFlag_same (by decide) (by decide) (by decide)

/-- Loss of lock goes on from the unlocked state; what follows leaves the lock registers alone. -/
theorem lost_of_moves (m : Moves M (unlocked p s) t) (hpll : frees M Reg.CLK_PLL_STATUS_WORD = true)
    (hlane : frees M Reg.CLK_LANE_PLL_LOCK_WORD = true) :
    t.pllLocked p = false ∧ t.flag Reg.CLK_PLL_STATUS_LOSS_EVENT = true := by
  refine ⟨(pllLocked_of_moves m hpll hlane).trans pllLocked_unlocked, Eq.trans ?_ (flag_lossEvent_unlocked (s := s) (p := p))⟩
  exact flag_of_moves m ((frees_congr rfl rfl rfl).trans hpll) (by decide)

theorem execPllLock_of_mayLock (h : s.mayLock p = true) : ∃ t, execPllLock p s = .next t ∧ t.pllLocked p = true := by
  unfold execPllLock
  rw [if_neg (by simp [h])]
  refine ⟨_, rfl, ?_⟩
  have hset : (s.setPll p true).pllLocked p = true := pllLocked_setPll
  cases p with
  | lane n => exact (pllLocked_of_moves mv_showPort (by decide +kernel) (by decide +kernel)).trans hset
  | pairing =>
    refine (pllLocked_of_moves mv_showTx (by decide +kernel) (by decide +kernel)).trans ?_
    exact (pllLocked_of_moves mv_showTx (by decide +kernel) (by decide +kernel)).trans hset
  | colophon => exact (pllLocked_of_moves mv_colPllLock (by decide +kernel) (by decide +kernel)).trans hset
  | core | gphy _ | pcie => exact hset

/-- Loss of lock, but for the PCIe PLL under a link, which takes the link down (02 R35). -/
theorem pllLoss_facts (h : s.pllLocked p = true) (hlink : p = .pcie → s.pcie.linkUp = false) :
    (s.pllLoss p).pllLocked p = false ∧ (s.pllLoss p).flag Reg.CLK_PLL_STATUS_LOSS_EVENT = true := by
  unfold State.pllLoss
  rw [if_neg (by simp [h])]
  cases p with
  | core | gphy _ =>
    exact lost_of_moves (moves_trans (mv_cause Moves.refl (by decide +kernel)) mv_aosSafe) (by decide +kernel) (by decide +kernel)
  | lane n => exact lost_of_moves mv_portPllLoss (by decide +kernel) (by decide +kernel)
  | pairing => exact lost_of_moves mv_pairPllLoss (by decide +kernel) (by decide +kernel)
  | colophon => exact lost_of_moves mv_colPllLoss (by decide +kernel) (by decide +kernel)
  | pcie =>
    have hdown : (unlocked .pcie s).pcie.linkUp = false := by
      simpa [unlocked, State.setPll, State.setFlag] using hlink rfl
    dsimp only
    rw [if_neg (by simp [hdown])]
    exact ⟨pllLocked_unlocked, flag_lossEvent_unlocked⟩

end Lock

/-! ### Loss of one port's lane PLL -/

theorem surpriseDown_facts {s : State} :
    s.surpriseDown.pcie.linkUp = false ∧ s.surpriseDown.flag Reg.PCIE_STATUS_SURPRISE_DOWN_EV = true := by
  unfold State.surpriseDown
  exact ⟨by rw [event_pcie, hotReset_facts.1], event_flag (by decide) (by decide)⟩

theorem pllLoss_pcie_of_linkUp {s : State} (h : s.pllLocked .pcie = true) (hup : s.pcie.linkUp = true) :
    s.pllLoss .pcie = (unlocked .pcie s).surpriseDown := by
  unfold State.pllLoss
  rw [if_neg (by simp [h])]
  exact if_pos (by simpa [unlocked, State.setPll, State.setFlag] using hup)

/-- The lanes of a port that lost its PLL go idle; the port's registers stay as they are. -/
theorem portPllLoss_get {s : State} {p : Nat} {f : Fld}
    (hrx : ∀ {u : State} {n : Nat}, (u.rxOff n).get f p = u.get f p) (htx : ∀ {u : State} {n : Nat}, (u.showTx n).get f p = u.get f p) :
    (s.portPllLoss p).get f p =
      ((if ((s.setFlag Reg.LANE_PORT_CTL_EN false p).setFlag Reg.LANE_PORT_STATUS_HELD false p).portState p = 0 then
          (s.setFlag Reg.LANE_PORT_CTL_EN false p).setFlag Reg.LANE_PORT_STATUS_HELD false p
        else ((s.setFlag Reg.LANE_PORT_CTL_EN false p).setFlag Reg.LANE_PORT_STATUS_HELD false p).endPortFrame p).put
          Reg.LANE_PORT_STATUS_STATE 0 p).get f p := by
  unfold State.portPllLoss
  exact fold_get fun t k => by rw [htx, hrx, setLane_get]

theorem portPllLoss_facts {s : State} {p : Nat} (hp : p < 32) :
    (s.portPllLoss p).flag Reg.LANE_PORT_CTL_EN p = false ∧ (s.portPllLoss p).get Reg.LANE_PORT_STATUS_STATE p = 0 := by
  have hctl : p < Reg.LANE_PORT_CTL_EN.count := hp
  have hst : p < Reg.LANE_PORT_STATUS_STATE.count := hp
  constructor
  · rw [State.flag, portPllLoss_get (get_of_moves mv_rxOff (by decide +kernel) hctl)
      (get_of_moves mv_showTx (by decide +kernel) hctl), get_put_apart (by decide) hctl]
    have hoff : ((s.setFlag Reg.LANE_PORT_CTL_EN false p).setFlag Reg.LANE_PORT_STATUS_HELD false p).get Reg.LANE_PORT_CTL_EN p = 0 := by
      rw [get_setFlag_apart (by decide) hctl]
      exact get_put_same (by decide) hctl
    split
    · rw [hoff]; rfl
    · rw [get_of_moves mv_endPortFrame (by decide +kernel) hctl, hoff]; rfl
  · rw [portPllLoss_get (get_of_moves mv_rxOff (by decide +kernel) hst)
      (get_of_moves mv_showTx (by decide +kernel) hst)]
    exact get_put_same (by decide) hst

/-- Losing the reference clock outside POR: the flags and the cause stay through the safe state. -/
theorem refclkLost_facts {s : State} (h : s.pwr.por = false) : ∃ t, execRefclkLost s = .next t ∧
    t.flag Reg.CLK_PLL_STATUS_REF_LOST = true ∧ t.flag Reg.CLK_PLL_STATUS_LOSS_EVENT = true ∧
    t.flag Reg.RST_CAUSE_REF_LOST = true ∧ t.pwr.aosSafe = true := by
  unfold execRefclkLost
  rw [if_neg (by simp [h])]
  refine ⟨_, rfl, ?_, ?_, ?_, aosSafe_on⟩
  · rw [flag_of_moves mv_aosSafe (by decide +kernel) (by decide), State.cause, flag_setFlag_apart (by decide) (by decide),
      flag_setFlag_apart (by decide) (by decide), flag_setFlag_same (by decide) (by decide) (by decide)]
  · rw [flag_of_moves mv_aosSafe (by decide +kernel) (by decide), State.cause, flag_setFlag_apart (by decide) (by decide),
      flag_setFlag_same (by decide) (by decide) (by decide)]
  · rw [State.flag, aosSafe_rst rfl rfl rfl (by decide) (by decide)]
    exact flag_cause_same (by decide) (by decide) (by decide)

/-- Settles O9: lock and loss of lock go on from the lock register just written, which what follows leaves alone. -/
theorem pllLockAndLoss : Obligations.PllLockAndLoss := by
  refine ⟨fun p s hmay => ?_, fun p s hlocked hlink => ?_, fun s hlocked hup => ?_, fun n s hlocked => ?_, fun s hpor => ?_⟩
  · obtain ⟨t, hnext, hlock⟩ := execPllLock_of_mayLock hmay
    exact ⟨t, hnext, hlock, keeps_of_next mv_execPllLock hnext (by decide +kernel)⟩
  · obtain ⟨hlost, hev⟩ := pllLoss_facts hlocked hlink
    exact ⟨_, rfl, hlost, hev, keepsParts_of mv_pllLoss (by decide +kernel)⟩
  · obtain ⟨hdown, hev⟩ := surpriseDown_facts (s := unlocked .pcie s)
    rw [← pllLoss_pcie_of_linkUp hlocked hup] at hdown hev
    exact ⟨_, rfl, hdown, hev, keepsParts_of mv_pllLoss (by decide +kernel)⟩
  · obtain ⟨hen, hst⟩ := portPllLoss_facts (s := unlocked (.lane n) s) n.isLt
    have heq : s.pllLoss (.lane n) = (unlocked (.lane n) s).portPllLoss n.val := if_neg (by simp [hlocked])
    rw [← heq] at hen hst
    refine ⟨_, rfl, (pllLoss_facts hlocked nofun).1, hen, hst, ?_⟩
    rw [heq]
    exact keeps_trans (keeps_trans (keeps_of mv_setPll (by decide +kernel)) (keeps_put (by decide)))
      (keeps_of mv_portPllLoss (by decide +kernel))
  · obtain ⟨t, hnext, href, hev, hcause, hsafe⟩ := refclkLost_facts hpor
    exact ⟨t, hnext, href, hev, hcause, hsafe, keeps_of_next mv_execRefclkLost hnext (by decide +kernel)⟩

end Sys2Proof.Proofs
end

section
/-!
Supply events (02 R51 to R54, R59): failure and warning declared and withdrawn, the reserve reached, the thresholds written.
-/
set_option Elab.async false

namespace Sys2Proof.Proofs
open Sys2Proof.Machine Sys2Proof.Laws

/-! ### What the entries to RIDE and SAVE do to the supervisor -/

theorem still_enterRide {s : State} : still s.enterRide.pwr = still s.pwr := by
  unfold State.enterRide
  rw [still_of mv_budget (by decide +kernel), still_of mv_powerEvent (by decide +kernel),
    still_of mv_spindleBrake (by decide +kernel), still_lasersOff]
  have hput : still ((s.put Reg.PWR_HOLDUP_STATUS_STATE 1).abandonCal).pwr = still s.pwr := by
    rw [still_of mv_abandonCal (by decide +kernel), put_pwr]
  split
  · rw [still_of mv_stopMove (by decide +kernel), still_of mv_archiveStop (by decide +kernel), hput]
  · exact hput

/-- The record with which a save begins. -/
def saveRecord (s : State) (cause : Nat) : Chrysalis :=
  { cause, failTime := s.pwr.record.failTime, saveTime := s.now, unsaved := s.dirty }

theorem enterSave_pwr {s : State} {cause : Nat} : (s.enterSave cause).pwr = { s.pwr with record := saveRecord s cause } := by
  rw [State.enterSave, mv_chrysalisEntry.pwr (by decide +kernel), mv_holdFlash.pwr (by decide +kernel),
    mv_abandonCal.pwr (by decide +kernel), pwr_mk, mv_haltCapture.pwr (by decide +kernel), mv_budget.pwr (by decide +kernel),
    mv_powerEvent.pwr (by decide +kernel), put_pwr]
  rfl

theorem enterSave_stopped {s : State} {cause : Nat} : (s.enterSave cause).hq.stopped = true := by
  rw [State.enterSave, mv_chrysalisEntry.hq (by decide +kernel), mv_holdFlash.hq (by decide +kernel),
    mv_abandonCal.hq (by decide +kernel), hq_mk]

/-- The budget is recomputed; the chrysalis state is not (02 R59). -/
theorem budget_holdupState {s : State} : s.budget.get Reg.PWR_HOLDUP_STATUS_STATE = s.get Reg.PWR_HOLDUP_STATUS_STATE := by
  unfold State.budget
  rw [get_put_apart (by decide) (by decide), get_setFlag_apart (by decide) (by decide), get_put_apart (by decide) (by decide),
    get_put_apart (by decide) (by decide)]

theorem enterSave_holdupState {s : State} {cause : Nat} : (s.enterSave cause).get Reg.PWR_HOLDUP_STATUS_STATE = 2 := by
  rw [State.enterSave, get_of_moves mv_chrysalisEntry (by decide +kernel) (by decide), get_of_moves mv_holdFlash (by decide +kernel) (by decide),
    get_of_moves mv_abandonCal (by decide +kernel) (by decide), get_mk, get_of_moves mv_haltCapture (by decide +kernel) (by decide),
    budget_holdupState, get_of_moves mv_powerEvent (by decide +kernel) (by decide), get_put_same (by decide) (by decide)]
  decide

/-! ### The commands -/

section Commands
variable {s : State} {vbus holdup ibus : Nat} {v : Word}

/-- The supervisor after a declared failure, whichever of the entries to SAVE and RIDE follows. -/
theorem supplyFail_entered {c₁ c₂ : Prop} [Decidable c₁] [Decidable c₂] (hfail : s.pwr.fail = true) (hvbus : s.pwr.vbus = vbus) :
    ∃ t, (if c₁ then .next s else if c₂ then .next (s.enterSave 1) else .next s.enterRide : Result) = .next t ∧ t.pwr.fail = true ∧
      t.pwr.vbus = vbus := by
  split
  · exact ⟨s, rfl, hfail, hvbus⟩
  · split
    · exact ⟨_, rfl, by rw [enterSave_pwr]; exact hfail, by rw [enterSave_pwr]; exact hvbus⟩
    · exact ⟨_, rfl, (of_still still_enterRide PowerSt.fail fun _ => rfl).trans hfail,
        (of_still still_enterRide PowerSt.vbus fun _ => rfl).trans hvbus⟩

theorem supplyFail_facts (hpor : s.pwr.por = false) (hfail : s.pwr.fail = false)
    (hlow : s.voltsBelow vbus (s.get Reg.PWR_BUS_THRESH_VBUS_FAIL) = true) :
    ∃ t, execSupplyFailDeclared vbus holdup ibus s = .next t ∧ t.pwr.fail = true ∧ t.pwr.vbus = vbus := by
  have hpwr : ∀ u : State, u.powerEvent.budget.pwr = u.pwr := fun u => by
    rw [mv_budget.pwr (by decide +kernel), mv_powerEvent.pwr (by decide +kernel)]
  rw [execSupplyFailDeclared, if_neg (by simp [hpor, hfail, hlow])]
  refine supplyFail_entered ?_ ?_
  · rw [hpwr]
  · rw [hpwr]

theorem supplyWarn_facts (hpor : s.pwr.por = false) (hwarn : s.pwr.warn = false)
    (hlow : s.voltsBelow vbus (s.get Reg.PWR_BUS_THRESH_VBUS_WARN) = true) :
    ∃ t, execSupplyWarnDeclared vbus s = .next t ∧ t.pwr = { s.pwr with warn := true, vbus } := by
  unfold execSupplyWarnDeclared
  rw [if_neg (by simp [hpor, hwarn, hlow])]
  exact ⟨_, rfl, mv_powerEvent.pwr (by decide +kernel)⟩

theorem supplyWarnClear_facts (hwarn : s.pwr.warn = true) (hup : s.voltsBelow vbus (s.get Reg.PWR_BUS_THRESH_VBUS_WARN + 5) = false) :
    ∃ t, execSupplyWarnClear vbus s = .next t ∧ t.pwr = { s.pwr with warn := false, vbus } := by
  unfold execSupplyWarnClear
  rw [if_neg (by simp [hwarn, hup])]
  exact ⟨_, rfl, rfl⟩

theorem supplyReturned_facts (hpor : s.pwr.por = false)
    (hup : s.voltsBelow vbus (s.get Reg.PWR_BUS_THRESH_VBUS_WARN + 5) = false) (hcur : s.currentAbove ibus = true) :
    ∃ t, execSupplyReturned vbus holdup ibus s = .next t ∧ t.pwr = { s.pwr with fail := false, vbus, holdup, ibus } ∧
      t.get Reg.PWR_HOLDUP_STATUS_STATE =
        if s.get Reg.PWR_HOLDUP_STATUS_STATE = 1 ∧ s.pwr.deferral = false then 0 else s.get Reg.PWR_HOLDUP_STATUS_STATE := by
  unfold execSupplyReturned
  rw [if_neg (by simp [hpor, hup, hcur])]
  by_cases h : s.get Reg.PWR_HOLDUP_STATUS_STATE = 1 ∧ s.pwr.deferral = false
  · rw [if_pos h]
    refine ⟨_, if_pos (by simp [h]), ?_, ?_⟩
    · rw [mv_budget.pwr (by decide +kernel), mv_powerEvent.pwr (by decide +kernel), put_pwr]
    · rw [budget_holdupState, get_of_moves mv_powerEvent (by decide +kernel) (by decide), get_put_same (by decide) (by decide)]
      decide
  · rw [if_neg h]
    refine ⟨_, if_neg fun hc => h ?_, ?_, ?_⟩
    · simp only [get_mk, Bool.and_eq_true, Bool.not_eq_true'] at hc
      exact ⟨of_decide_eq_true hc.1, hc.2⟩
    · rw [mv_budget.pwr (by decide +kernel)]
    · rw [budget_holdupState, get_mk]

theorem execHoldupReserveReached_of_ride (hride : s.get Reg.PWR_HOLDUP_STATUS_STATE = 1) (hdef : s.pwr.deferral = false)
    (hsave : s.canSave = true) (hbank : s.bankEnergy holdup ≤ s.reserveEnergy) :
    execHoldupReserveReached holdup s = .next (({ s with pwr := { s.pwr with holdup } } : State).enterSave 2) :=
  if_neg (by simpa [hride, hdef, hsave] using hbank)

theorem busThresh_facts (hawake : s.awake = true) :
    ∃ t, execPwrBusThreshWrite v s = .next t ∧
      t.rd Reg.PWR_BUS_THRESH_VBUS_WARN.base =
        if bitsOf v 9 0 < bitsOf v 19 10 ∧ bitsOf v 19 10 < bitsOf v 29 20 then
          s.written Reg.PWR_BUS_THRESH_VBUS_WARN.base v else s.rd Reg.PWR_BUS_THRESH_VBUS_WARN.base := by
  refine ⟨_, if_pos hawake, ?_⟩
  unfold State.writeThresh
  by_cases h : bitsOf v 9 0 < bitsOf v 19 10 ∧ bitsOf v 19 10 < bitsOf v 29 20
  · rw [if_pos h, if_neg (by simpa using And.symm h)]
    exact (rd_of_moves mv_budget (f := Reg.PWR_BUS_THRESH_WORD) (by decide +kernel) (j := 0) (by decide)).trans rd_wr_same
  · rw [if_neg h, if_pos (by simp; omega)]

end Commands

/-- Settles O10: each command's condition holds, and what it does to the supervisor and the chrysalis state stays to the end. -/
theorem supplyEvents : Obligations.SupplyEvents := by
  refine ⟨fun v h i s hpor hfail hlow => ?_, fun v s hpor hwarn hlow => ?_, fun v s hwarn hup => ?_,
    fun v h i s hpor hup hcur => ?_, fun h s hride hdef hsave hbank => ?_, fun v s hawake => ?_⟩
  · obtain ⟨t, hnext, hf, hv⟩ := supplyFail_facts hpor hfail hlow
    exact ⟨t, hnext, hf, hv, keeps_of_next mv_execSupplyFailDeclared hnext (by decide +kernel)⟩
  · obtain ⟨t, hnext, hpwr⟩ := supplyWarn_facts hpor hwarn hlow
    exact ⟨t, hnext, hpwr, keeps_of_next mv_execSupplyWarnDeclared hnext (by decide +kernel)⟩
  · obtain ⟨t, hnext, hpwr⟩ := supplyWarnClear_facts hwarn hup
    exact ⟨t, hnext, hpwr, keeps_of_next mv_execSupplyWarnClear hnext (by decide +kernel)⟩
  · obtain ⟨t, hnext, hpwr, hst⟩ := supplyReturned_facts hpor hup hcur
    exact ⟨t, hnext, hpwr, hst, keeps_of_next mv_execSupplyReturned hnext (by decide +kernel)⟩
  · have hnext := execHoldupReserveReached_of_ride hride hdef hsave hbank
    exact ⟨_, hnext, enterSave_holdupState, enterSave_stopped, by rw [enterSave_pwr]; rfl,
      keeps_of_next mv_execHoldupReserveReached hnext (by decide +kernel)⟩
  · obtain ⟨t, hnext, hrd⟩ := busThresh_facts hawake
    exact ⟨t, hnext, hrd, keeps_of_next mv_execPwrBusThreshWrite hnext (by decide +kernel)⟩

end Sys2Proof.Proofs
end

section
/-!
One step, the state after reset, and what a write leaves in a field (00 R8 to R12; log 7).
-/
set_option Elab.async false

namespace Sys2Proof.Proofs
open Sys2Proof.Machine Sys2Proof.Laws

/-- Settles O1: `step` takes the front of the queue and runs it. -/
theorem stepRunsFrontCommand : Obligations.StepRunsFrontCommand := by
  intro c rest s
  rfl

/-! ### The tick of an empty queue -/

/-- One tick of the device time, before the throttle's and the colophon's own counts. -/
def nextTick (s : State) : State := s.put64 Reg.CAP_DEVTIME ((s.now + 1) % 2 ^ 64)

theorem now_nextTick {s : State} : (nextTick s).now = (s.now + 1) % 2 ^ 64 := by
  rw [nextTick, State.now, get64_put64_same (by decide), Nat.mod_mod]

/-- Settles O2: while the core clock runs a tick adds one to the device time, which the galley and the colophon leave alone. -/
theorem emptyQueueTicks : Obligations.EmptyQueueTicks := by
  refine ⟨fun s hempty hpor hlock => ?_, fun s hempty hstop => ?_⟩
  · have hstep : Machine.step s = .next s.tick := by simp [Machine.step, hempty]
    refine ⟨s.tick, hstep, ?_, keeps_of mv_tick (by decide +kernel)⟩
    have hgal : (nextTick s).galTick.now = (s.now + 1) % 2 ^ 64 :=
      (get64_of_moves mv_galTick (by decide +kernel) (by decide)).trans now_nextTick
    unfold State.tick
    rw [if_neg (by simp [hpor, hlock])]
    dsimp only
    split
    · exact (get64_of_moves mv_colTick (by decide +kernel) (by decide)).trans hgal
    · exact hgal
  · have hstay : s.tick = s := if_pos (by simpa using hstop)
    simp [Machine.step, hempty, hstay]

/-- Settles O5: after reset nothing is stored, so every map is canonical and every register reads its reset value. -/
theorem resetState : Obligations.ResetState :=
  ⟨⟨rfl, rfl, rfl, rfl, rfl, rfl, rfl, rfl, rfl, rfl, rfl⟩, fun _ => rfl, rfl, rfl, rfl, rfl, rfl, rfl, rfl, rfl⟩

/-! ### The bits of a field -/

section Bits
variable {w v : Word} {f : RField} {locked : Bool}

theorem testBit_bitsOf {hi lo i : Nat} : (bitsOf w hi lo).testBit i = (decide (i < hi + 1 - lo) && w.getLsbD (lo + i)) := by
  rw [bitsOf, Nat.testBit_mod_two_pow, Nat.testBit_shiftRight, BitVec.testBit_toNat]

theorem getLsbD_eq_testBit_bitsOf {hi lo j : Nat} (hlo : lo ≤ j) (hhi : j ≤ hi) :
    w.getLsbD j = (bitsOf w hi lo).testBit (j - lo) := by
  rw [testBit_bitsOf, decide_eq_true (by omega), Bool.true_and, Nat.add_sub_cancel' hlo]

theorem bitsOf_lt {hi lo : Nat} : bitsOf w hi lo < 2 ^ (hi + 1 - lo) := Nat.mod_lt _ (Nat.two_pow_pos _)

theorem get_lt {s : State} {g : Fld} {j : Nat} : s.get g j < 2 ^ g.width := bitsOf_lt

/-- A write of one field leaves every bit outside it. -/
theorem fieldWrite_getLsbD_outside (hle : f.lo ≤ f.hi) (hlt : f.hi < 32) {j : Nat} (hj : j < f.lo ∨ f.hi < j) :
    (fieldWrite locked v w f).getLsbD j = w.getLsbD j := by
  rw [getLsbD_eq_testBit_bitsOf (lo := j) (hi := j) (Nat.le_refl j) (Nat.le_refl j), getLsbD_eq_testBit_bitsOf (lo := j) (hi := j) (Nat.le_refl j) (Nat.le_refl j)]
  obtain hw | ⟨n, hw⟩ := fieldWrite_eq_self_or_setBits locked v w f
  · rw [hw]
  · rw [hw, bitsOf_setBits_apart hle hlt hj.symm]

theorem getLsbD_fieldWrite_w1c (hle : f.lo ≤ f.hi) (hlt : f.hi < 32) (h : f.acc = .w1c) {j : Nat} (hlo : f.lo ≤ j) (hhi : j ≤ f.hi) :
    (fieldWrite locked v w f).getLsbD j = (w.getLsbD j && !v.getLsbD j) := by
  have hi : j - f.lo < f.hi + 1 - f.lo := by omega
  rw [getLsbD_eq_testBit_bitsOf hlo hhi, getLsbD_eq_testBit_bitsOf (w := w) hlo hhi, getLsbD_eq_testBit_bitsOf (w := v) hlo hhi]
  simp only [fieldWrite, h]
  rw [bitsOf_setBits_same hle hlt, Nat.testBit_mod_two_pow, Nat.testBit_and, Nat.sub_sub, Nat.add_comm 1,
    Nat.testBit_two_pow_sub_succ bitsOf_lt, decide_eq_true hi, Bool.true_and, Bool.true_and]

/-- A write that sets bits leaves the union, which is no wider than the field. -/
theorem bitsOf_fieldWrite_w1s (hle : f.lo ≤ f.hi) (hlt : f.hi < 32) (h : f.acc = .w1s) :
    bitsOf (fieldWrite locked v w f) f.hi f.lo = bitsOf w f.hi f.lo ||| bitsOf v f.hi f.lo := by
  simp only [fieldWrite, h]
  rw [bitsOf_setBits_same hle hlt, Nat.mod_eq_of_lt (Nat.or_lt_two_pow bitsOf_lt bitsOf_lt)]

theorem bitsOf_fieldWrite_writable (hle : f.lo ≤ f.hi) (hlt : f.hi < 32)
    (h : f.acc = .rw ∨ f.acc = .rws ∨ (f.acc = .rwl ∧ locked = false)) (hgood : badValue f (bitsOf v f.hi f.lo) = false) :
    bitsOf (fieldWrite locked v w f) f.hi f.lo = bitsOf v f.hi f.lo := by
  have hset : fieldWrite locked v w f = setBits w f.hi f.lo (bitsOf v f.hi f.lo) := by
    rcases h with h | h | ⟨h, hopen⟩
    · simp [fieldWrite, h, hgood]
    · simp [fieldWrite, h, hgood]
    · simp [fieldWrite, h, hgood, hopen]
  rw [hset, bitsOf_setBits_same hle hlt, Nat.mod_eq_of_lt bitsOf_lt]

theorem fieldWrite_readOnly (h : f.acc = .ro ∨ f.acc = .wo) : fieldWrite locked v w f = w := by
  rcases h with h | h <;> simp [fieldWrite, h]

end Bits

/-- Settles O7: one lemma per access type, and one for the bits outside the field. -/
theorem accessTypes : Obligations.AccessTypes := by
  intro locked v w f hle hlt
  refine ⟨fieldWrite_readOnly, bitsOf_fieldWrite_writable hle hlt, fun hacc hlocked => by simp [fieldWrite, hacc, hlocked],
    bitsOf_fieldWrite_w1s hle hlt, fun hacc j => getLsbD_fieldWrite_w1c hle hlt hacc, fun j => fieldWrite_getLsbD_outside hle hlt⟩

end Sys2Proof.Proofs
end

section
/-!
The end of a save, the lockstep mismatch and MC0's lost heartbeat (02 R48, R50, R54 to R58; log 72).
-/
set_option Elab.async false

namespace Sys2Proof.Proofs
open Sys2Proof.Machine Sys2Proof.Laws

/-- What waits for the end of a save is no actuator. -/
theorem waits_of_still {p q : PowerSt} (h : still p = still q) : p.pendingReset = q.pendingReset ∧ p.pendingUnits = q.pendingUnits :=
  ⟨of_still h PowerSt.pendingReset fun _ => rfl, of_still h PowerSt.pendingUnits fun _ => rfl⟩

section Saved
variable {s : State}

theorem holdupState_aosSafe : s.aosSafe.get Reg.PWR_HOLDUP_STATUS_STATE = s.get Reg.PWR_HOLDUP_STATUS_STATE :=
  get_of_moves mv_aosSafe (by decide +kernel) (by decide)

theorem chrysalis_aosSafe : s.aosSafe.flag Reg.RST_CAUSE_CHRYSALIS = s.flag Reg.RST_CAUSE_CHRYSALIS := by
  rw [State.flag, State.flag, aosSafe_rst rfl rfl rfl (by decide) (by decide)]

/-- What a saved device shows: its state and its cause. -/
theorem saved_facts : s.saved.get Reg.PWR_HOLDUP_STATUS_STATE = 3 ∧ s.saved.flag Reg.RST_CAUSE_CHRYSALIS = true := by
  rw [State.saved]
  refine ⟨?_, (flag_regs regs_mk).trans (flag_cause_same (by decide) (by decide) (by decide))⟩
  rw [get_mk, State.cause, get_setFlag_apart (by decide) (by decide), get_of_moves mv_powerEvent (by decide +kernel) (by decide),
    get_put_same (by decide) (by decide)]
  decide

/-- The fields that a save's end leaves alone. -/
theorem saved_get {f : Fld} {j : Nat} (hj : j < f.count) (hst : apart Reg.PWR_HOLDUP_STATUS_STATE f = true)
    (hc : apart Reg.RST_CAUSE_CHRYSALIS f = true) (h0 : apart Reg.MSIX0_PBA f = true) (h1 : apart Reg.MSIX1_PBA f = true) :
    s.saved.get f j = s.get f j := by
  rw [State.saved, get_mk, State.cause, get_setFlag_apart hc hj, State.powerEvent, signal_get hj h0 h1, get_put_apart hst hj]

/-- A save in progress that ends, with the safe state after it. -/
theorem saved_aosSafe_facts : s.saved.aosSafe.get Reg.PWR_HOLDUP_STATUS_STATE = 3 ∧
    s.saved.aosSafe.flag Reg.RST_CAUSE_CHRYSALIS = true ∧ s.saved.aosSafe.pwr.aosSafe = true :=
  ⟨holdupState_aosSafe.trans saved_facts.1, chrysalis_aosSafe.trans saved_facts.2, aosSafe_on⟩

theorem saved_aosSafe_waits : s.saved.aosSafe.pwr.pendingReset = s.pwr.pendingReset ∧
    s.saved.aosSafe.pwr.pendingUnits = s.pwr.pendingUnits ∧ s.saved.aosSafe.pwr.record = s.pwr.record := by
  obtain ⟨h1, h2, h3⟩ := aosSafe_waits (s := s.saved)
  obtain ⟨g1, g2, g3⟩ := saved_waits (s := s)
  exact ⟨h1.trans g1, h2.trans g2, h3.trans g3⟩

theorem execChrysalisSaveComplete_of_save (hsave : s.get Reg.PWR_HOLDUP_STATUS_STATE = 2) (hreset : s.pwr.pendingReset = none)
    (hunits : s.pwr.pendingUnits = 0) : execChrysalisSaveComplete s = .next (s.saveCommit.writeRecord 6).saved.aosSafe := by
  unfold execChrysalisSaveComplete
  rw [if_neg (by simp [hsave])]
  obtain ⟨h1, h2, -⟩ := saved_aosSafe_waits (s := s.saveCommit.writeRecord 6)
  obtain ⟨r1, r2⟩ := writeRecord_waits (s := s.saveCommit) (n := 6)
  obtain ⟨c1, c2⟩ := saveCommit_waits (s := s)
  rw [afterSave_idle (by rw [h1, r1, c1, hreset]) (by rw [h2, r2, c2, hunits])]

theorem execHoldupBelowMinimum_of_save {h : Nat} (hsave : s.get Reg.PWR_HOLDUP_STATUS_STATE = 2)
    (hlow : s.voltsBelow h (s.get Reg.PWR_BUS_THRESH_HOLDUP_MIN) = true) (hreset : s.pwr.pendingReset = none)
    (hunits : s.pwr.pendingUnits = 0) :
    execHoldupBelowMinimum h s = .next ({ s with pwr := { s.pwr with holdup := h } } : State).saved.aosSafe := by
  unfold execHoldupBelowMinimum
  rw [if_neg (by simp [hsave, hlow]), State.endSaveEarly, if_pos (by rw [get_mk]; exact hsave)]
  obtain ⟨h1, h2, -⟩ := saved_aosSafe_waits (s := ({ s with pwr := { s.pwr with holdup := h } } : State))
  rw [afterSave_idle (h1.trans hreset) (h2.trans hunits)]

end Saved

/-! ### The lockstep stop -/

section Lockstep
variable {s : State} {f : Fld} {j : Nat}

/-- The machine with the outputs in their power-up state, the lanes idle, the galley in self-refresh and the claim released. -/
def shutOff (s : State) (f : Fld) : State := ((s.cause f).haltCapture).powerUpOutputs.electricalIdle.selfRefresh.releaseClaim

theorem still_shutOff : still (shutOff s f).pwr = still s.pwr := by
  unfold shutOff
  rw [still_of mv_releaseClaim (by decide +kernel), still_of mv_selfRefresh (by decide +kernel),
    still_of mv_electricalIdle (by decide +kernel), still_powerUpOutputs, still_of mv_haltCapture (by decide +kernel), State.cause,
    State.setFlag, put_pwr]

/-- The cause of the stop stays: what follows writes no other bit of `RST.CAUSE` but GALLEY_KEPT. -/
theorem flag_shutOff (hb : f.base = 0x100100) (hs : f.stride = 0) (hn : f.count = 1) (hfit : fits f = true) (hwidth : f.width = 1)
    (hsr : apart Reg.GAL_STATUS_SR f = true) (hkept : apart Reg.RST_CAUSE_GALLEY_KEPT f = true) : (shutOff s f).flag f = true := by
  have h0 : 0 < f.count := by omega
  have free : ∀ {M : Nat}, frees M Reg.RST_CAUSE_WORD = true → frees M f = true :=
    fun h => (frees_congr hb hs hn : frees _ f = frees _ Reg.RST_CAUSE_WORD).trans h
  unfold shutOff
  rw [flag_of_moves mv_releaseClaim (free (by decide +kernel)) h0, State.flag, selfRefresh_get h0 hsr hkept]
  rw [get_of_moves mv_electricalIdle (free (by decide +kernel)) h0, get_of_moves mv_powerUpOutputs (free (by decide +kernel)) h0,
    get_of_moves mv_haltCapture (free (by decide +kernel)) h0]
  exact flag_cause_same hfit hwidth h0

theorem shutOff_galley : (shutOff s f).get Reg.GAL_STATUS_SR = 2 := by
  unfold shutOff
  rw [get_of_moves mv_releaseClaim (by decide +kernel) (by decide), selfRefresh_sr]

theorem shutOff_claim : (shutOff s f).flag Reg.PAIR_PINS_CLAIM = false := by
  rw [shutOff, State.releaseClaim]
  exact flag_setFlag_same (by decide) (by decide) (by decide)

theorem endSaveEarly_get (hj : j < f.count) (hst : apart Reg.PWR_HOLDUP_STATUS_STATE f = true)
    (hc : apart Reg.RST_CAUSE_CHRYSALIS f = true) (h0 : apart Reg.MSIX0_PBA f = true) (h1 : apart Reg.MSIX1_PBA f = true) :
    s.endSaveEarly.get f j = s.get f j := by
  unfold State.endSaveEarly
  split
  · exact saved_get hj hst hc h0 h1
  · rfl

theorem still_endSaveEarly : still s.endSaveEarly.pwr = still s.pwr := by
  unfold State.endSaveEarly
  split
  · exact still_saved
  · rfl

/-- The frame of the stop, for every cause of the reset record. -/
theorem keeps_shutOff : Keeps [.lanes, .cap, .cmp, .gal, .pair, .pcie, .hq, .och, .srv, .mot, .sec, .col, .pwr, .outbox] (takeRegs ++
    [Reg.RST_CAUSE_WORD, Reg.PWR_HOLDUP_STATUS_WORD, Reg.LANE_L_STATUS_WORD, Reg.CMP_CLUSTER_STATUS_WORD, Reg.PAIR_STATUS_WORD,
      Reg.PAIR_PINS_WORD, Reg.OCH_LASER_DRIVE_WORD, Reg.SRV_LOOP_STATUS_WORD, Reg.SRV_COIL_STATUS_WORD, Reg.MOT_SPN_STATUS_WORD,
      Reg.MOT_AXIS_STATUS_WORD]) s (shutOff s Reg.RST_CAUSE_LOCKSTEP) := by
  unfold shutOff State.cause
  refine keeps_trans ?_ (keeps_of mv_releaseClaim (by decide +kernel))
  refine keeps_trans ?_ (keeps_of mv_selfRefresh (by decide +kernel))
  refine keeps_trans ?_ (keeps_of mv_electricalIdle (by decide +kernel))
  refine keeps_trans ?_ (keeps_of mv_powerUpOutputs (by decide +kernel))
  exact keeps_trans (keeps_setFlag (by decide)) (keeps_of mv_haltCapture (by decide +kernel))

/-- The lockstep comparison has stopped the device, with FAULT_N low. -/
def stopped (s : State) : State := { s with pwr := { s.pwr with lockstep := true, faultLow := true } }

theorem moves_stopped : Moves 0x80000 s (stopped s) := moves_setPwr

theorem stopped_endSaveEarly_waits : (stopped s).endSaveEarly.pwr.pendingReset = s.pwr.pendingReset ∧
    (stopped s).endSaveEarly.pwr.pendingUnits = s.pwr.pendingUnits :=
  have h := waits_of_still (still_endSaveEarly (s := stopped s))
  ⟨h.1, h.2⟩

theorem stopped_endSaveEarly_facts : (stopped s).endSaveEarly.pwr.lockstep = true ∧ (stopped s).endSaveEarly.pwr.faultLow = true := by
  have hend := still_endSaveEarly (s := stopped s)
  exact ⟨congrArg PowerSt.lockstep hend, congrArg PowerSt.faultLow hend⟩

/-- The stop ends in the machine shut off, with FAULT_N low; a save in progress is over. -/
theorem execAosLockstepMismatch_of_first (hpor : s.pwr.por = false) (hfirst : s.pwr.lockstep = false)
    (hreset : s.pwr.pendingReset = none) (hunits : s.pwr.pendingUnits = 0) :
    execAosLockstepMismatch s = .next (stopped (shutOff s Reg.RST_CAUSE_LOCKSTEP)).endSaveEarly := by
  have hstep : execAosLockstepMismatch s = .next (stopped (shutOff s Reg.RST_CAUSE_LOCKSTEP)).endSaveEarly.afterSave := by
    rw [execAosLockstepMismatch, if_neg (by simp [hpor, hfirst])]
    rfl
  obtain ⟨hr, hu⟩ := stopped_endSaveEarly_waits (s := shutOff s Reg.RST_CAUSE_LOCKSTEP)
  obtain ⟨hr', hu'⟩ := waits_of_still (still_shutOff (s := s) (f := Reg.RST_CAUSE_LOCKSTEP))
  rw [hstep, afterSave_idle (hr.trans (hr'.trans hreset)) (hu.trans (hu'.trans hunits))]

end Lockstep

/-! ### The lost heartbeat -/

theorem wdog_aosSafe_facts {s : State} :
    (s.cause Reg.RST_CAUSE_WDOG).aosSafe.flag Reg.RST_CAUSE_WDOG = true ∧ (s.cause Reg.RST_CAUSE_WDOG).aosSafe.pwr.aosSafe = true := by
  refine ⟨?_, aosSafe_on⟩
  rw [State.flag, aosSafe_rst rfl rfl rfl (by decide) (by decide)]
  exact flag_cause_same (by decide) (by decide) (by decide)

theorem mc0Heartbeat_facts {s : State} (h : s.get Reg.MBX_CORE_STATUS_STATE 0 = 1 ∨ s.get Reg.MBX_CORE_STATUS_STATE 0 = 5) :
    ∃ t, execMc0HeartbeatTimeout s = .next t ∧ t.flag Reg.RST_CAUSE_WDOG = true ∧ t.pwr.aosSafe = true := by
  unfold execMc0HeartbeatTimeout
  rcases h with h | h
  · exact ⟨_, (if_neg (by simp [h])).trans (if_pos h), wdog_aosSafe_facts⟩
  · exact ⟨_, if_pos h, wdog_aosSafe_facts⟩

/-- Settles O11: each end writes its state and cause, and neither the safe state nor the waiting resets (there are none) undo them. -/
theorem saveAndSupervisor : Obligations.SaveAndSupervisor := by
  refine ⟨fun s hsave hreset hunits => ?_, fun h s hsave hlow hreset hunits => ?_, fun s hpor hfirst hreset hunits => ?_,
    fun s hboot => ?_⟩
  · have hnext := execChrysalisSaveComplete_of_save hsave hreset hunits
    obtain ⟨hst, hcause, hsafe⟩ := saved_aosSafe_facts (s := s.saveCommit.writeRecord 6)
    exact ⟨_, hnext, hst, hcause, hsafe, keeps_trans (keeps_of mv_saveCommit (by decide +kernel))
      (keeps_trans (keeps_of mv_writeRecord (by decide +kernel))
        (keeps_trans (keeps_of mv_saved (by decide +kernel)) (keeps_of mv_aosSafe (by decide +kernel))))⟩
  · have hnext := execHoldupBelowMinimum_of_save hsave hlow hreset hunits
    obtain ⟨hst, hcause, hsafe⟩ := saved_aosSafe_facts (s := ({ s with pwr := { s.pwr with holdup := h } } : State))
    exact ⟨_, hnext, hst, hcause, hsafe, saved_aosSafe_waits.2.2,
      keeps_trans (keeps_of moves_setPwr (by decide +kernel))
        (keeps_trans (keeps_of mv_saved (by decide +kernel)) (keeps_of mv_aosSafe (by decide +kernel)))⟩
  · have hnext := execAosLockstepMismatch_of_first hpor hfirst hreset hunits
    obtain ⟨hstop, hfault⟩ := stopped_endSaveEarly_facts (s := shutOff s Reg.RST_CAUSE_LOCKSTEP)
    refine ⟨_, hnext, hstop, hfault, ?_, ?_, ?_, ?_⟩
    · rw [State.flag, endSaveEarly_get (f := Reg.RST_CAUSE_LOCKSTEP) (by decide) (by decide) (by decide) (by decide) (by decide),
        stopped, get_mk]
      exact flag_shutOff rfl rfl rfl (by decide) (by decide) (by decide) (by decide)
    · rw [endSaveEarly_get (f := Reg.GAL_STATUS_SR) (by decide) (by decide) (by decide) (by decide) (by decide),
        stopped, get_mk]
      exact shutOff_galley
    · rw [State.flag, endSaveEarly_get (f := Reg.PAIR_PINS_CLAIM) (by decide) (by decide) (by decide) (by decide) (by decide),
        stopped, get_mk]
      exact shutOff_claim
    · exact keeps_trans keeps_shutOff (keeps_trans (keeps_of moves_stopped (by decide +kernel)) (keeps_of mv_endSaveEarly (by decide +kernel)))
  · obtain ⟨t, hnext, hcause, hsafe⟩ := mc0Heartbeat_facts hboot
    exact ⟨t, hnext, hcause, hsafe, keeps_of_next mv_execMc0HeartbeatTimeout hnext (by decide +kernel)⟩

end Sys2Proof.Proofs
end

section
/-!
Temperature: the warning, the shutdown and its deferral, the trip, and the release (02 R62 to R66; 18 R458; logs 23, 24, 77).
-/
set_option Elab.async false

namespace Sys2Proof.Proofs
open Sys2Proof.Machine Sys2Proof.Laws

section Temperature
variable {s : State} {temp : Nat}

theorem tWarnReached_facts (hhot : 400 ≤ temp) (hfirst : s.pwr.tWarn = false) (hpor : s.pwr.por = false) :
    ∃ t, execTWarnReached temp s = .next t ∧ t.pwr = { s.pwr with tWarn := true } ∧
      t.get Reg.PWR_TEMP_TEMP = temp % 2 ^ Reg.PWR_TEMP_TEMP.width := by
  rw [execTWarnReached, if_neg (by simp [hfirst, hpor, hhot])]
  refine ⟨_, rfl, ?_, ?_⟩
  · rw [mv_powerEvent.pwr (by decide +kernel), put_pwr]
  · rw [get_of_moves mv_powerEvent (by decide +kernel) (by decide), get_put_same (by decide) (by decide)]

theorem tWarnClear_facts (hcool : temp < 380) (hwarn : s.pwr.tWarn = true) :
    ∃ t, execTWarnClear temp s = .next t ∧ t.pwr = { s.pwr with tWarn := false } ∧
      t.get Reg.PWR_TEMP_TEMP = temp % 2 ^ Reg.PWR_TEMP_TEMP.width := by
  rw [execTWarnClear, if_neg (by simp [hwarn, hcool])]
  exact ⟨_, rfl, put_pwr, get_put_same (by decide) (by decide)⟩

/-! ### The shutdown -/

theorem holdFlash_refuse : s.holdFlash.efc.refuse = true := by
  rw [State.holdFlash]

/-- What the shutdown stops at once: capture, flash erases and calibration. -/
def shutWork (s : State) : State := s.haltCapture.holdFlash.abandonCal

theorem shutWork_facts : (shutWork s).efc.refuse = true ∧ (shutWork s).pwr = s.pwr := by
  unfold shutWork
  rw [mv_abandonCal.efc (by decide +kernel), mv_abandonCal.pwr (by decide +kernel), mv_holdFlash.pwr (by decide +kernel),
    mv_haltCapture.pwr (by decide +kernel)]
  exact ⟨holdFlash_refuse, rfl⟩

/-- The deferral runs, after a supply failure where `b`. -/
def deferring (s : State) (b : Bool) : State := { s with pwr := { s.pwr with deferral := true, failInDeferral := b } }

theorem deferring_eq {b : Bool} :
    ({ s with pwr := { s.pwr with deferral := true, failInDeferral := b } } : State) = deferring s b := rfl

theorem deferring_facts {b : Bool} : (deferring s b).efc = s.efc ∧
    (deferring s b).pwr = { s.pwr with deferral := true, failInDeferral := b } := ⟨rfl, rfl⟩

theorem tShutReached_facts (hhot : 440 ≤ temp) (hpor : s.pwr.por = false) (htrip : s.pwr.trip = false)
    (hdef : s.pwr.deferral = false) (hrun : s.pwr.inReset = false) (hst : s.get Reg.PWR_HOLDUP_STATUS_STATE < 2) :
    ∃ t, execTShutReached temp s = .next t ∧ t.efc.refuse = true ∧
      t.pwr = { s.pwr with
        thermalHold := true, deferral := true, failInDeferral := s.get Reg.PWR_HOLDUP_STATUS_STATE == 1 } := by
  rw [execTShutReached, if_neg (by simp [hpor, htrip, hdef, hhot])]
  extract_lets p1 s1 st
  have hst1 : st = s.get Reg.PWR_HOLDUP_STATUS_STATE := (get_put_apart (by decide) (by decide)).trans get_mk
  have hpwr1 : s1.pwr = { s.pwr with thermalHold := true } := put_pwr
  rw [if_neg (by rw [hst1, hpwr1]; simp [hst, hrun])]
  obtain ⟨hrefuse, hpwr⟩ := shutWork_facts (s := s1)
  obtain ⟨hefc, hp⟩ := deferring_facts (s := shutWork s1) (b := st == 1)
  refine ⟨deferring (shutWork s1) (st == 1), congrArg Host.Outcome.next deferring_eq, (congrArg EfcSt.refuse hefc).trans hrefuse, ?_⟩
  rw [hp, hpwr, hpwr1, hst1]

/-! ### The end of the deferral -/

/-- The state from which the shutdown goes on: after a supply failure the record is written first (02 R66). -/
def deferralRecorded (s : State) : State :=
  let r : Chrysalis := { cause := 4, failTime := s.pwr.record.failTime, saveTime := s.now, unsaved := s.dirty }
  let s1 : State := { s with pwr := { s.pwr with deferral := false } }
  if s.pwr.failInDeferral then
    ((({ s1 with pwr := { s1.pwr with record := r } } : State).writeRecord 1).put Reg.PWR_HOLDUP_STATUS_STATE 3).powerEvent
  else s1

/-- The NAND power is off. -/
def nandOff (s : State) : State := { s with pwr := { s.pwr with nandOn := false } }

theorem deferralRecorded_pwr : ∃ r, (deferralRecorded s).pwr = { s.pwr with deferral := false, record := r } := by
  rw [deferralRecorded]
  split
  · obtain ⟨r, h⟩ := writeRecord_pwr (s := ({ s with pwr := { s.pwr with
      deferral := false,
      record := { cause := 4, failTime := s.pwr.record.failTime, saveTime := s.now, unsaved := s.dirty } } } : State)) (n := 1)
    exact ⟨r, by rw [mv_powerEvent.pwr (by decide +kernel), put_pwr, h]⟩
  · exact ⟨s.pwr.record, rfl⟩

/-- The registers that the end of the deferral may write. -/
abbrev shutRegs : List Fld := safeRegs ++ [Reg.PWR_HOLDUP_STATUS_WORD, Reg.EFC_PROGRAMS, Reg.EFC_ERASES]

theorem keeps_deferralRecorded : Keeps [.lanes, .cap, .cmp, .gal, .pair, .pcie, .hq, .mag, .och, .srv, .mot, .sec, .col, .efc, .pwr,
    .outbox] shutRegs s (deferralRecorded s) := by
  rw [deferralRecorded]
  split
  · refine keeps_trans ?_ (keeps_of mv_powerEvent (by decide +kernel))
    refine keeps_trans ?_ (keeps_put (by decide))
    refine keeps_trans ?_ (keeps_of mv_writeRecord (by decide +kernel))
    exact keeps_trans (keeps_of moves_setPwr (by decide +kernel)) (keeps_of moves_setPwr (by decide +kernel))
  · exact keeps_of moves_setPwr (by decide +kernel)

/-- The shutdown's safe state from `s`. -/
def shutDown (s : State) : State := nandOff (s.cause Reg.RST_CAUSE_T_SHUT).aosSafe

theorem nandOff_facts : (nandOff s).pwr.nandOn = false ∧ still (nandOff s).pwr = still s.pwr := ⟨rfl, rfl⟩

theorem still_shutDown : still (shutDown s).pwr = still { s.pwr with aosSafe := true } := by
  rw [shutDown, nandOff_facts.2, still_aosSafe, State.cause, State.setFlag, put_pwr]
  rfl

theorem keeps_shutDown : Keeps [.lanes, .cap, .cmp, .gal, .pair, .pcie, .hq, .mag, .och, .srv, .mot, .sec, .col, .efc, .pwr,
    .outbox] shutRegs s (shutDown s) := by
  rw [shutDown, nandOff, State.cause]
  refine keeps_trans ?_ (keeps_of moves_setPwr (by decide +kernel))
  exact keeps_trans (keeps_setFlag (by decide)) (keeps_of mv_aosSafe (by decide +kernel))

theorem flag_shutDown : (shutDown s).flag Reg.RST_CAUSE_T_SHUT = true := by
  rw [shutDown, nandOff, State.flag, get_mk, aosSafe_rst rfl rfl rfl (by decide) (by decide)]
  exact flag_cause_same (by decide) (by decide) (by decide)

theorem execTShutDeferralEnd_of_deferral (hdef : s.pwr.deferral = true) (hreset : s.pwr.pendingReset = none)
    (hunits : s.pwr.pendingUnits = 0) : execTShutDeferralEnd s = .next (shutDown (deferralRecorded s)) := by
  have hstep : execTShutDeferralEnd s = .next (shutDown (deferralRecorded s)).afterSave := by
    rw [execTShutDeferralEnd, if_neg (by simp [hdef])]
    rfl
  obtain ⟨r, hrec⟩ := deferralRecorded_pwr (s := s)
  obtain ⟨hr, hu⟩ := waits_of_still (still_shutDown (s := deferralRecorded s))
  rw [hstep, afterSave_idle (hr.trans (by rw [hrec]; exact hreset)) (hu.trans (by rw [hrec]; exact hunits))]

theorem tShutDeferralEnd_facts : (shutDown (deferralRecorded s)).pwr.deferral = false ∧
    (shutDown (deferralRecorded s)).pwr.aosSafe = true ∧ (shutDown (deferralRecorded s)).pwr.nandOn = false := by
  obtain ⟨r, hrec⟩ := deferralRecorded_pwr (s := s)
  have h := still_shutDown (s := deferralRecorded s)
  refine ⟨(of_still h PowerSt.deferral fun _ => rfl).trans ?_, of_still h PowerSt.aosSafe fun _ => rfl, nandOff_facts.1⟩
  rw [hrec]

end Temperature

/-! ### The trip -/

section Trip
variable {s : State} {f : Fld}

/-- The machine as a trip shuts it off: the galley gets no clock, so it enters no self-refresh (log 77). -/
def tripOff (s : State) : State := (s.cause Reg.RST_CAUSE_T_TRIP).haltCapture.powerUpOutputs.electricalIdle.releaseClaim

/-- `t` is `s` with a running flash operation cut: an erase is aborted, a program leaves its granule marginal (18 R458). -/
def CutFrom (s t : State) : Prop := t = s ∨ t = s.efcAbortErase false ∨ t = s.cutFlash

theorem still_tripOff : still (tripOff s).pwr = still s.pwr := by
  unfold tripOff
  rw [still_of mv_releaseClaim (by decide +kernel), still_of mv_electricalIdle (by decide +kernel), still_powerUpOutputs,
    still_of mv_haltCapture (by decide +kernel), State.cause, State.setFlag, put_pwr]

theorem flag_tripOff : (tripOff s).flag Reg.RST_CAUSE_T_TRIP = true := by
  unfold tripOff
  rw [flag_of_moves mv_releaseClaim (by decide +kernel) (by decide), flag_of_moves mv_electricalIdle (by decide +kernel) (by decide),
    flag_of_moves mv_powerUpOutputs (by decide +kernel) (by decide), flag_of_moves mv_haltCapture (by decide +kernel) (by decide)]
  exact flag_cause_same (by decide) (by decide) (by decide)

theorem CutFrom.pwr {t : State} (h : CutFrom s t) : t.pwr = s.pwr := by
  obtain rfl | rfl | rfl := h
  · rfl
  · exact mv_efcAbortErase.pwr (by decide +kernel)
  · exact mv_cutFlash.pwr (by decide +kernel)

theorem CutFrom.flag {t : State} (h : CutFrom s t) : t.flag Reg.RST_CAUSE_T_TRIP = s.flag Reg.RST_CAUSE_T_TRIP := by
  obtain rfl | rfl | rfl := h
  · rfl
  · exact flag_of_moves mv_efcAbortErase (by decide +kernel) (by decide)
  · exact flag_of_moves mv_cutFlash (by decide +kernel) (by decide)

/-- Every PLL is off, and every core is held. -/
def clocksOff (s : State) : State :=
  (List.range 5).foldl (fun (t : State) k => t.put Reg.MBX_CORE_STATUS_STATE 0 k) (s.pllsOff.setFlag Reg.CLK_PLL_STATUS_LOSS_EVENT true)

theorem clocksOff_pwr : (clocksOff s).pwr = s.pwr := by
  unfold clocksOff
  rw [fold_pwr fun t k => put_pwr, State.setFlag, put_pwr, mv_pllsOff.pwr (by decide +kernel)]

theorem clocksOff_flag : (clocksOff s).flag Reg.RST_CAUSE_T_TRIP = s.flag Reg.RST_CAUSE_T_TRIP := by
  rw [State.flag, State.flag, clocksOff, fold_get fun t k => get_put_apart (by decide) (by decide), get_setFlag_apart (by decide) (by decide),
    get_of_moves mv_pllsOff (by decide +kernel) (by decide)]

theorem clocksOff_core : (clocksOff s).get Reg.CLK_PLL_STATUS_CORE_LOCK = 0 := by
  rw [clocksOff, fold_get fun t k => get_put_apart (by decide) (by decide), get_setFlag_apart (by decide) (by decide), State.pllsOff]
  rw [get_put_apart (by decide) (by decide), get_put_apart (by decide) (by decide), get_put_apart (by decide) (by decide),
    get_put_apart (by decide) (by decide), get_put_same (by decide) (by decide)]
  decide

/-- The latch of the trip: the device is held in reset, the link is down and the write buffer is lost. -/
def tripLatch (s : State) : State :=
  { s with
    pcie := { s.pcie with linkUp := false }, mag := { s.mag with buf := [], bufTag := [] },
    pwr := { s.pwr with trip := true, thermalHold := true, deferral := false, faultLow := true, inReset := true } }

theorem tripLatch_waits : (tripLatch s).pwr.pendingReset = s.pwr.pendingReset ∧ (tripLatch s).pwr.pendingUnits = s.pwr.pendingUnits :=
  ⟨rfl, rfl⟩

theorem tripLatch_facts : (tripLatch s).pwr.trip = true ∧ (tripLatch s).pwr.faultLow = true ∧ (tripLatch s).pwr.inReset = true ∧
    (tripLatch s).pwr.thermalHold = true ∧ (tripLatch s).pcie.linkUp = false ∧ (tripLatch s).mag.buf = [] :=
  ⟨rfl, rfl, rfl, rfl, rfl, rfl⟩

/-- What the latch and the stopped clocks leave of the state that the trip has shut off. -/
theorem tripLatch_of_cut {u : State} (h : CutFrom (tripOff s).endSaveEarly u) :
    (tripLatch (clocksOff u)).pwr.pendingReset = s.pwr.pendingReset ∧ (tripLatch (clocksOff u)).pwr.pendingUnits = s.pwr.pendingUnits ∧
    (tripLatch (clocksOff u)).flag Reg.RST_CAUSE_T_TRIP = true ∧ (tripLatch (clocksOff u)).get Reg.CLK_PLL_STATUS_CORE_LOCK = 0 := by
  obtain ⟨hr, hu⟩ := tripLatch_waits (s := clocksOff u)
  have hoff := waits_of_still ((still_endSaveEarly (s := tripOff s)).trans still_tripOff)
  rw [clocksOff_pwr, h.pwr] at hr hu
  refine ⟨hr.trans hoff.1, hu.trans hoff.2, ?_, by rw [tripLatch, get_mk, clocksOff_core]⟩
  rw [tripLatch, State.flag, get_mk]
  refine (clocksOff_flag.trans h.flag).trans ?_
  rw [State.flag, endSaveEarly_get (by decide) (by decide) (by decide) (by decide) (by decide)]
  exact flag_tripOff

theorem execTTrip_eq {temp : Nat} (hhot : 500 ≤ temp) (hpor : s.pwr.por = false) (hfirst : s.pwr.trip = false) :
    ∃ u, CutFrom (tripOff (s.put Reg.PWR_TEMP_TEMP temp)).endSaveEarly u ∧
      execTTrip temp s = .next (tripLatch (clocksOff u)).afterSave := by
  rw [execTTrip, if_neg (by simp [hpor, hfirst, hhot])]
  refine ⟨_, ?_, rfl⟩
  split
  · exact ite_both (.inr (.inl rfl)) (.inr (.inr rfl))
  · exact .inl rfl

theorem tTrip_facts {temp : Nat} (hhot : 500 ≤ temp) (hpor : s.pwr.por = false) (hfirst : s.pwr.trip = false)
    (hreset : s.pwr.pendingReset = none) (hunits : s.pwr.pendingUnits = 0) :
    ∃ u, execTTrip temp s = .next (tripLatch u) ∧ (tripLatch u).flag Reg.RST_CAUSE_T_TRIP = true ∧
      (tripLatch u).get Reg.CLK_PLL_STATUS_CORE_LOCK = 0 := by
  obtain ⟨u, hcut, hstep⟩ := execTTrip_eq hhot hpor hfirst
  obtain ⟨hr, hu, hcause, hcore⟩ := tripLatch_of_cut hcut
  rw [put_pwr] at hr hu
  exact ⟨clocksOff u, by rw [hstep, afterSave_idle (hr.trans hreset) (hu.trans hunits)], hcause, hcore⟩

end Trip

/-! ### The release -/

/-- A device that may start leaves reset with its image applied and every core in BOOT. -/
theorem startUp_facts {s : State} {a b : Bool} (h : s.mayStart = true) : (s.startUp a b).pwr.inReset = false ∧
    (s.startUp a b).pwr.imageApplied = true ∧ ∀ k < 5, (s.startUp a b).get Reg.MBX_CORE_STATUS_STATE k = 1 := by
  have hstill : still (s.startUp a b).pwr = still { s.pwr with inReset := false, imageApplied := true, cfgFresh := false } :=
    still_startUp h
  exact ⟨of_still hstill PowerSt.inReset fun _ => rfl, of_still hstill PowerSt.imageApplied fun _ => rfl, fun k hk => startUp_core h hk⟩

/-- What the start leaves of the supervisor's state beside the reset and the actuators. -/
theorem startUp_pwr {α : Type} {s : State} {a b : Bool} (h : s.mayStart = true) (g : PowerSt → α) (hg : ∀ x, g (still x) = g x)
    (hs : ∀ p : PowerSt, g { p with inReset := false, imageApplied := true, cfgFresh := false } = g p) :
    g (s.startUp a b).pwr = g s.pwr :=
  (of_still (q := { s.pwr with inReset := false, imageApplied := true, cfgFresh := false }) (still_startUp h) g hg).trans (hs s.pwr)

theorem mayStart_congr {s t : State} (h : t.pwr = s.pwr) : t.mayStart = s.mayStart := by
  rw [State.mayStart, State.mayStart, h]

/-- Settles O12: the thresholds by the stated codes; the shutdown ends in the state `shutDown`, the trip in its latch. -/
theorem thermal : Obligations.Thermal := by
  refine ⟨fun temp s hhot hfirst hpor => ?_, fun temp s hcool hwarn => ?_, fun temp s hhot hpor htrip hdef hrun hst => ?_,
    fun s hdef hreset hunits => ?_, fun temp s hhot hpor hfirst hreset hunits => ?_, fun temp fw0 fw1 s hcool hhold hstart => ?_⟩
  · obtain ⟨t, hnext, hpwr, htemp⟩ := tWarnReached_facts hhot hfirst hpor
    exact ⟨t, hnext, hpwr, htemp, keeps_of_next mv_execTWarnReached hnext (by decide +kernel)⟩
  · obtain ⟨t, hnext, hpwr, htemp⟩ := tWarnClear_facts hcool hwarn
    exact ⟨t, hnext, hpwr, htemp, keeps_of_next mv_execTWarnClear hnext (by decide +kernel)⟩
  · obtain ⟨t, hnext, hrefuse, hpwr⟩ := tShutReached_facts hhot hpor htrip hdef hrun hst
    exact ⟨t, hnext, hrefuse, hpwr, keeps_of_next mv_execTShutReached hnext (by decide +kernel)⟩
  · have hnext := execTShutDeferralEnd_of_deferral hdef hreset hunits
    obtain ⟨hend, hsafe, hnand⟩ := tShutDeferralEnd_facts (s := s)
    exact ⟨_, hnext, hend, hsafe, hnand, flag_shutDown, keeps_trans keeps_deferralRecorded keeps_shutDown⟩
  · obtain ⟨u, hnext, hcause, hcore⟩ := tTrip_facts hhot hpor hfirst hreset hunits
    obtain ⟨htrip, hfault, hheld, hhold, hlink, hbuf⟩ := tripLatch_facts (s := u)
    exact ⟨_, hnext, htrip, hfault, hheld, hhold, hcause, hcore, hlink, hbuf,
      keepsParts_of_next mv_execTTrip hnext (by decide +kernel)⟩
  · have hstart' : (({ s with pwr := { s.pwr with thermalHold := false } } : State).put Reg.PWR_TEMP_TEMP temp).mayStart = true :=
      (mayStart_congr put_pwr).trans hstart
    have hnext : execThermalResetRelease temp fw0 fw1 s = .next ((({ s with pwr := { s.pwr with thermalHold := false } } : State).put
        Reg.PWR_TEMP_TEMP temp).startUp fw0 fw1) := if_neg (by simp [hhold, hcool])
    obtain ⟨hrun, himage, hcore⟩ := startUp_facts (a := fw0) (b := fw1) hstart'
    have hfree := startUp_pwr (a := fw0) (b := fw1) hstart' PowerSt.thermalHold (fun _ => rfl) (fun _ => rfl)
    rw [put_pwr] at hfree
    exact ⟨_, hnext, hfree, hrun, himage, hcore, keepsParts_of_next mv_execThermalResetRelease hnext (by decide +kernel)⟩

end Sys2Proof.Proofs
end

section
/-!
PERST_N, SYS_RST_N and power-on reset (02 R38 to R41, R44).
-/
set_option Elab.async false

namespace Sys2Proof.Proofs
open Sys2Proof.Machine Sys2Proof.Laws

section Hard
variable {s : State} {perst : Bool}

theorem resetUnits_facts : (s.resetUnits perst).pwr.inReset = true ∧ (s.resetUnits perst).pwr.faultLow = true ∧
    (s.resetUnits perst).lanes = [] ∧ (s.resetUnits perst).ports = [] ∧ (s.resetUnits perst).hq.cmds = [] :=
  ⟨rfl, rfl, rfl, rfl, rfl⟩

theorem resetUnits_keeps : (s.resetUnits perst).pwr.perst = s.pwr.perst ∧ (s.resetUnits perst).pwr.sysRst = s.pwr.sysRst ∧
    (s.resetUnits perst).pcie.linkUp = (s.pcie.linkUp && !perst) := ⟨rfl, rfl, rfl⟩

/-- A hard reset leaves the device held, with nothing on its lanes, ports and rings; the pins read as before. -/
theorem hardReset_facts : (s.hardReset perst).pwr.inReset = true ∧ (s.hardReset perst).pwr.faultLow = true ∧
    (s.hardReset perst).lanes = [] ∧ (s.hardReset perst).ports = [] ∧ (s.hardReset perst).hq.cmds = [] ∧
    (s.hardReset perst).pwr.perst = s.pwr.perst ∧ (s.hardReset perst).pwr.sysRst = s.pwr.sysRst := by
  obtain ⟨u, hstill, hmoves, -, -⟩ := hardReset_parts (s := s) (p := perst)
  obtain ⟨hheld, hfault, hlanes, hports, hcmds⟩ := resetUnits_facts (s := u) (perst := perst)
  obtain ⟨hperst, hsys, -⟩ := resetUnits_keeps (s := u) (perst := perst)
  rw [hmoves.pwr (by decide +kernel), hmoves.lanes (by decide +kernel), hmoves.ports (by decide +kernel), hmoves.hq (by decide +kernel)]
  exact ⟨hheld, hfault, hlanes, hports, hcmds, hperst.trans (of_still hstill PowerSt.perst fun _ => rfl),
    hsys.trans (of_still hstill PowerSt.sysRst fun _ => rfl)⟩

theorem hardReset_linkUp : (s.hardReset true).pcie.linkUp = false := by
  obtain ⟨u, -, hmoves, -, -⟩ := hardReset_parts (s := s) (p := true)
  rw [hmoves.pcie (by decide +kernel), resetUnits_keeps.2.2, Bool.not_true, Bool.and_false]

theorem hardReset_galley : (s.hardReset perst).get Reg.GAL_STATUS_SR = 2 := by
  obtain ⟨u, -, -, hsr, -⟩ := hardReset_parts (s := s) (p := perst)
  exact hsr

theorem hardReset_cause : (s.hardReset perst).flag (if perst then Reg.RST_CAUSE_PERST else Reg.RST_CAUSE_SYS) = true := by
  obtain ⟨u, -, -, -, hcause⟩ := hardReset_parts (s := s) (p := perst)
  exact hcause

/-- With no save under way an asserted reset takes effect at once. -/
theorem resetAsserted_of_free (hpor : s.pwr.por = false)
    (hfree : s.get Reg.PWR_HOLDUP_STATUS_STATE ≠ 1 ∧ s.get Reg.PWR_HOLDUP_STATUS_STATE ≠ 2 ∨ s.pwr.trip = true ∨ s.pwr.lockstep = true) :
    s.resetAsserted perst = s.hardReset perst := by
  rw [State.resetAsserted, if_neg (by simp [hpor])]
  refine if_neg fun hsave => ?_
  simp only [Bool.and_eq_true, Bool.or_eq_true, decide_eq_true_eq, Bool.not_eq_true'] at hsave
  obtain ⟨⟨hst, htrip⟩, hlock⟩ := hsave
  simp only [htrip, hlock, Bool.false_eq_true, or_self, or_false] at hfree
  omega

end Hard

section Assert
variable {s : State}

/-- The pin PERST_N, or SYS_RST_N, reads low. -/
abbrev withPerst (s : State) : State := { s with pwr := { s.pwr with perst := true } }
@[inherit_doc withPerst] abbrev withSysRst (s : State) : State := { s with pwr := { s.pwr with sysRst := true } }

theorem execPerstNAssert_of_free (hfirst : s.pwr.perst = false) (hpor : s.pwr.por = false)
    (hfree : s.get Reg.PWR_HOLDUP_STATUS_STATE ≠ 1 ∧ s.get Reg.PWR_HOLDUP_STATUS_STATE ≠ 2 ∨ s.pwr.trip = true ∨ s.pwr.lockstep = true) :
    execPerstNAssert s = .next ((withPerst s).hardReset true) := by
  rw [execPerstNAssert, if_neg (by simp [hfirst]), resetAsserted_of_free (s := withPerst s) hpor hfree]

theorem execSysRstNAssert_of_free (hfirst : s.pwr.sysRst = false) (hpor : s.pwr.por = false)
    (hfree : s.get Reg.PWR_HOLDUP_STATUS_STATE ≠ 1 ∧ s.get Reg.PWR_HOLDUP_STATUS_STATE ≠ 2 ∨ s.pwr.trip = true ∨ s.pwr.lockstep = true) :
    execSysRstNAssert s = .next ((withSysRst s).hardReset false) := by
  rw [execSysRstNAssert, if_neg (by simp [hfirst]), resetAsserted_of_free (s := withSysRst s) hpor hfree]

/-- During a save the assertion waits. -/
theorem execPerstNAssert_of_save (hfirst : s.pwr.perst = false) (hpor : s.pwr.por = false)
    (hsave : s.get Reg.PWR_HOLDUP_STATUS_STATE = 2) (htrip : s.pwr.trip = false) (hlock : s.pwr.lockstep = false) :
    execPerstNAssert s = .next { s with pwr := { s.pwr with perst := true, pendingReset := some .perst } } := by
  have hst : (withPerst s).get Reg.PWR_HOLDUP_STATUS_STATE = 2 := hsave
  have hwait : (withPerst s).resetAsserted true = { withPerst s with pwr := { (withPerst s).pwr with pendingReset := some .perst } } := by
    rw [State.resetAsserted, if_neg (by simp [hpor])]
    refine (if_pos (by simp [hst, htrip, hlock])).trans ?_
    rw [if_neg (by simp [hst])]
    rfl
  rw [execPerstNAssert, if_neg (by simp [hfirst]), hwait]

end Assert

/-! ### Power-on reset -/

section PowerOn
variable {s : State}

/-- The fields that the pins, the colophon's PLL and the sensor hold through a power-on reset. -/
abbrev porKept : List (Fld × Nat) :=
  [(Reg.PAIR_PINS_STRAP, 0), (Reg.PAIR_PINS_PEER, 0), (Reg.CLK_PLL_STATUS_COL_LOCK, 0), (Reg.PWR_TEMP_TEMP, 0)]

/-- The state from which those fields are put back: that after reset, but for what the matrix of R40 keeps. -/
def porState (s s0 : State) : State :=
  { State.reset with
    part := s0.part, fresh := s0.fresh, outbox := s0.outbox, pending := s0.pending, regs := skeep s0.regs isCol, col := s0.col,
    cap := { trig := s.cap.pins, shadows := s.cap.shadows.filter (fun e => isCol (e.1 / 16)) },
    mag := { module := s.mag.module }, och := s.och.afterReset, mot := s.mot.afterReset,
    efc := { flash := s0.efc.flash, otp := s0.efc.otp, dead := s0.efc.dead },
    pwr := { perst := s.pwr.perst, sysRst := s.pwr.sysRst, vbus := s.pwr.vbus, holdup := s.pwr.holdup, ibus := s.pwr.ibus,
             vdrvLow := s.pwr.vdrvLow } }

theorem porState_facts {s0 : State} : (porState s s0).pwr.por = true ∧ (porState s s0).pwr.inReset = State.reset.pwr.inReset ∧
    (porState s s0).lanes = [] ∧ (porState s s0).hq = {} ∧ (porState s s0).mag.module = s.mag.module ∧
    (porState s s0).efc.flash = s0.efc.flash ∧ (porState s s0).col = s0.col ∧ (porState s s0).outbox = s0.outbox :=
  ⟨rfl, rfl, rfl, rfl, rfl, rfl, rfl, rfl⟩

theorem rd_porState {s0 : State} {k : Nat} (hk : isCol k = false) : (porState s s0).rd k = regReset k := by
  refine (sget_skeep regReset s0.regs isCol k).trans (if_neg ?_)
  simp [hk]

theorem execPowerOnReset_eq : execPowerOnReset s = .next ((porState s s.cutFlash).keepFlds s porKept) := rfl

/-- Putting fields back is a change of registers only. -/
theorem moves_keepFlds {u old : State} {fs : List (Fld × Nat)} : Moves 0x400000 u (u.keepFlds old fs) :=
  mv_keepFlds Moves.refl (by decide +kernel)

theorem porKept_apart {k : Nat} (hk : ∀ f ∈ [Reg.PAIR_PINS_WORD, Reg.CLK_PLL_STATUS_WORD, Reg.PWR_TEMP_WORD], ¬ f.holds k) :
    ∀ e ∈ porKept, ¬ e.1.holds k := by
  simp only [porKept, List.mem_cons, List.not_mem_nil, or_false, forall_eq_or_imp, forall_eq] at hk ⊢
  exact ⟨hk.1, hk.1, hk.2.1, hk.2.2⟩

end PowerOn

/-- Settles O13: an assertion is a hard reset, or it waits for the save; power-on keeps what the matrix keeps. -/
theorem resets : Obligations.Resets := by
  refine ⟨fun s hfirst hpor hfree => ?_, fun s hfirst hpor hfree => ?_, fun s hfirst hpor hsave htrip hlock => ?_, fun s => ?_⟩
  · have hnext := execPerstNAssert_of_free hfirst hpor hfree
    obtain ⟨hheld, hfault, hlanes, hports, hcmds, hperst, -⟩ := hardReset_facts (s := withPerst s) (perst := true)
    refine ⟨_, hnext, hperst, hheld, hfault, hardReset_linkUp, hlanes, hports, hcmds, hardReset_galley,
      hardReset_cause (perst := true), fun k hkept hcol hown => hardReset_rd hown (by simp [hkept, hcol]), ?_⟩
    exact keepsParts_of_next mv_execPerstNAssert hnext (by decide +kernel)
  · have hnext := execSysRstNAssert_of_free hfirst hpor hfree
    obtain ⟨hheld, hfault, hlanes, hports, hcmds, -, hsys⟩ := hardReset_facts (s := withSysRst s) (perst := false)
    refine ⟨_, hnext, hsys, hheld, hfault, hlanes, hports, hcmds, hardReset_galley, hardReset_cause (perst := false),
      fun k hkept hcol hcfg0 hcfg1 hown => hardReset_rd hown (by simp [hkept, hcol, hcfg0, hcfg1]), ?_⟩
    exact keepsParts_of_next mv_execSysRstNAssert hnext (by decide +kernel)
  · exact ⟨_, execPerstNAssert_of_save hfirst hpor hsave htrip hlock, rfl, keeps_of moves_setPwr (by decide +kernel)⟩
  · have hnext := execPowerOnReset_eq (s := s)
    obtain ⟨hpor, hheld, hlanes, hhq, hmod, hflash, hcol, hout⟩ := porState_facts (s := s) (s0 := s.cutFlash)
    have hm := moves_keepFlds (u := porState s s.cutFlash) (old := s) (fs := porKept)
    refine ⟨_, hnext, ?_, ?_, ?_, ?_, ?_, ?_, ?_, ?_, fun k hk hown => ?_, keepsParts_of_next mv_execPowerOnReset hnext (by decide +kernel)⟩
    · rw [hm.pwr (by decide +kernel), hpor]
    · rw [hm.pwr (by decide +kernel), hheld]
    · rw [hm.lanes (by decide +kernel), hlanes]
    · rw [hm.hq (by decide +kernel), hhq]
    · rw [hm.mag (by decide +kernel), hmod]
    · rw [hm.efc (by decide +kernel), hflash]
    · rw [hm.col (by decide +kernel), hcol, mv_cutFlash.col (by decide +kernel)]
    · rw [hm.outbox (by decide +kernel), hout, mv_cutFlash.outbox (by decide +kernel)]
    · rw [rd_keepFlds (porKept_apart hown), rd_porState hk]

end Sys2Proof.Proofs
end

section
/-!
Release from reset, hot reset, function level resets, surprise link down (02 R38, R41, R42; 08 R222, R223; log 75).
-/
set_option Elab.async false

namespace Sys2Proof.Proofs
open Sys2Proof.Machine Sys2Proof.Laws

/-! ### The start -/

section Release
variable {s : State} {selfTest fw0 fw1 : Bool}

/-- POR is released, with the outcome of the self-test. -/
abbrev withSelfTest (s : State) (selfTest : Bool) : State :=
  { s with pwr := { s.pwr with por := false, selfTestFailed := !selfTest } }

/-- Whether or not the colophon boots, the supervisor's state is that of the release. -/
theorem execPorRelease_eq (hpor : s.pwr.por = true) : ∃ u : State,
    u.pwr = { s.pwr with por := false, selfTestFailed := !selfTest } ∧ execPorRelease selfTest fw0 fw1 s = .next (u.startUp fw0 fw1) := by
  rw [execPorRelease, if_neg (by simp [hpor])]
  refine ⟨_, ?_, rfl⟩
  rw [put_pwr]
  exact ite_both (P := fun t => State.pwr t = _) (mv_colBoot.pwr (by decide +kernel)) rfl

theorem porRelease_facts (hpor : s.pwr.por = true)
    (hstart : ({ s with pwr := { s.pwr with por := false, selfTestFailed := false } } : State).mayStart = true) :
    ∃ t, execPorRelease true fw0 fw1 s = .next t ∧ t.pwr.por = false ∧ t.pwr.inReset = false ∧ t.pwr.imageApplied = true ∧
      ∀ k < 5, t.get Reg.MBX_CORE_STATUS_STATE k = 1 := by
  obtain ⟨u, hpwr, hnext⟩ := execPorRelease_eq (selfTest := true) (fw0 := fw0) (fw1 := fw1) hpor
  have hmay : u.mayStart = true := (mayStart_congr hpwr).trans hstart
  obtain ⟨hrun, himage, hcore⟩ := startUp_facts (a := fw0) (b := fw1) hmay
  have hpor' := startUp_pwr (a := fw0) (b := fw1) hmay PowerSt.por (fun _ => rfl) (fun _ => rfl)
  rw [hpwr] at hpor'
  exact ⟨_, hnext, hpor', hrun, himage, hcore⟩

/-- With the self-test failed nothing starts. -/
theorem porRelease_failed (hpor : s.pwr.por = true) :
    ∃ t, execPorRelease false fw0 fw1 s = .next t ∧ t.pwr = { s.pwr with por := false, selfTestFailed := true } := by
  obtain ⟨u, hpwr, hnext⟩ := execPorRelease_eq (selfTest := false) (fw0 := fw0) (fw1 := fw1) hpor
  have hstay : u.startUp fw0 fw1 = u := if_pos (by simp [State.mayStart, hpwr])
  exact ⟨u, by rw [hnext, hstay], hpwr⟩

end Release

/-! ### Hot reset and FLR -/

section Host
variable {s : State}

theorem isCfg_cause {fn k : Nat} (hfn : fn < 2) (h : isCfg fn k = true) : ¬ Reg.RST_CAUSE_WORD.holds k := by
  rintro ⟨i, hi, rfl⟩
  obtain rfl : i = 0 := by simpa [Reg.RST_CAUSE_WORD] using hi
  obtain rfl | rfl : fn = 0 ∨ fn = 1 := by omega
  · exact absurd h (by decide)
  · exact absurd h (by decide)

theorem cause_rd {f : Fld} {k : Nat} (hb : f.base = Reg.RST_CAUSE_WORD.base) (hs : f.stride = Reg.RST_CAUSE_WORD.stride)
    (hn : f.count = Reg.RST_CAUSE_WORD.count) (hk : ¬ Reg.RST_CAUSE_WORD.holds k) : (s.cause f).rd k = s.rd k :=
  rd_put_apart fun ⟨i, hi, he⟩ => hk ⟨i, hn ▸ hi, by rw [he, hb, hs]⟩

theorem flrWindow_rd {fn k : Nat} : (s.flrWindow fn).rd k = s.rd k := rfl

theorem flrWindow_reads {fn : Nat} : (s.flrWindow fn).pcie.reads = s.pcie.reads := rfl

theorem flrWindow_flag {fn j : Nat} {f : Fld} : (s.flrWindow fn).flag f j = s.flag f j := rfl

theorem flr_zero : s.flr 0 = (s.resetHost.cause Reg.RST_CAUSE_FLR0).flrWindow 0 := by
  rw [State.flr, if_neg (by simp [State.hasFn]), if_pos rfl]

theorem flr_one (h : s.part.colophon = true) : s.flr 1 = ((s.resetFn 1).cause Reg.RST_CAUSE_FLR1).flrWindow 1 := by
  rw [State.flr, if_neg (by simp [State.hasFn, h]), if_neg (by decide)]

theorem flr_zero_facts : (s.flr 0).pcie.reads = [] ∧ (s.flr 0).flag Reg.RST_CAUSE_FLR0 = true := by
  rw [flr_zero, flrWindow_reads, flrWindow_flag]
  refine ⟨?_, flag_cause_same (by decide) (by decide) (by decide)⟩
  rw [State.cause, State.setFlag, put_pcie, resetHost_reads]

theorem flr_zero_rd {k : Nat} (h : isCfg 0 k = true)
    (hk : ∀ f ∈ [Reg.CFG_ID_WORD, Reg.CFG_SUBSYS, Reg.CFG_CONT_STATUS_WORD, Reg.CFG_BAR2_LO_WORD, Reg.CFG_BAR2_HI_WORD,
      Reg.CFG_RBAR_CTL_WORD], ¬ f.holds k) : (s.flr 0).rd k = regReset k := by
  rw [flr_zero, flrWindow_rd, cause_rd (f := Reg.RST_CAUSE_FLR0) rfl rfl rfl (isCfg_cause (by decide) h), resetHost_rd h hk]

theorem flr_one_flag (hcol : s.part.colophon = true) : (s.flr 1).flag Reg.RST_CAUSE_FLR1 = true := by
  rw [flr_one hcol, flrWindow_flag]
  exact flag_cause_same (by decide) (by decide) (by decide)

theorem flr_one_rd (hcol : s.part.colophon = true) {k : Nat} (h : isCfg 1 k = true)
    (hk : ∀ f ∈ [Reg.CFG_ID_WORD, Reg.CFG_SUBSYS, Reg.CFG_CONT_STATUS_WORD, Reg.CFG_BAR2_LO_WORD, Reg.CFG_BAR2_HI_WORD,
      Reg.CFG_RBAR_CTL_WORD], ¬ f.holds k) : (s.flr 1).rd k = regReset k := by
  rw [flr_one hcol, flrWindow_rd, cause_rd (f := Reg.RST_CAUSE_FLR1) rfl rfl rfl (isCfg_cause (by decide) h), resetFn_rd h hk]

theorem hotReset_hot : s.hotReset.flag Reg.RST_CAUSE_HOT = true := by
  rw [State.flag, hotReset_facts.2.2.1]
  rfl

theorem surpriseDown_hot : s.surpriseDown.flag Reg.RST_CAUSE_HOT = true := by
  rw [State.surpriseDown, flag_event_apart (by decide) (by decide) (by decide) (by decide), hotReset_hot]

end Host

/-- Settles O14: a start by `startUp_facts`, hot reset and FLR by what they write after the host's reset. -/
theorem startAndFunctionResets : Obligations.StartAndFunctionResets := by
  refine ⟨fun fw0 fw1 s hpor hstart => ?_, fun fw0 fw1 s hpor => ?_, fun sys fw0 fw1 s hstart => ?_, fun s hpor => ?_,
    fun s hpor => ?_, fun s hpor hcol => ?_, fun s hup => ?_⟩
  · obtain ⟨t, hnext, hpor', hrun, himage, hcore⟩ := porRelease_facts (fw0 := fw0) (fw1 := fw1) hpor hstart
    exact ⟨t, hnext, hpor', hrun, himage, hcore, keepsParts_of_next mv_execPorRelease hnext (by decide +kernel)⟩
  · obtain ⟨t, hnext, hpwr⟩ := porRelease_failed (fw0 := fw0) (fw1 := fw1) hpor
    exact ⟨t, hnext, hpwr, keepsParts_of_next mv_execPorRelease hnext (by decide +kernel)⟩
  · obtain ⟨hrun, himage, hcore⟩ := startUp_facts (a := fw0) (b := fw1) hstart
    have hnext : execResetDeassert sys fw0 fw1 s = .next _ := rfl
    exact ⟨_, hnext, hrun, himage, hcore, keepsParts_of_next mv_execResetDeassert hnext (by decide +kernel)⟩
  · have hnext : execHotReset s = .next s.hotReset := if_neg (by simp [hpor])
    obtain ⟨hdown, hreads, -, hrate⟩ := hotReset_facts (s := s)
    exact ⟨_, hnext, hdown, hreads, hotReset_hot, hrate, keepsParts_of_next mv_execHotReset hnext (by decide +kernel)⟩
  · have hnext : execFlrFunction0 s = .next (s.flr 0) := if_neg (by simp [hpor])
    obtain ⟨hreads, hcause⟩ := flr_zero_facts (s := s)
    exact ⟨_, hnext, hreads, hcause, fun k => flr_zero_rd, keepsParts_of_next mv_execFlrFunction0 hnext (by decide +kernel)⟩
  · have hnext : execFlrFunction1 s = .next (s.flr 1) := if_neg (by simp [hpor])
    exact ⟨_, hnext, flr_one_flag hcol, fun k => flr_one_rd hcol, keepsParts_of_next mv_execFlrFunction1 hnext (by decide +kernel)⟩
  · have hnext : execSurpriseLinkDown s = .next s.surpriseDown := if_neg (by simp [hup])
    obtain ⟨hdown, hev⟩ := surpriseDown_facts (s := s)
    exact ⟨_, hnext, hdown, hev, surpriseDown_hot, keepsParts_of_next mv_execSurpriseLinkDown hnext (by decide +kernel)⟩

end Sys2Proof.Proofs
end

section
/-!
Enable bits, start-up and drain of units, unit resets, and the device's role (02 R44 to R47; 01 R21).
-/
set_option Elab.async false

namespace Sys2Proof.Proofs
open Sys2Proof.Machine Sys2Proof.Laws

/-! ### Enable bit, start-up, drain -/

section Unit
variable {s : State} {f : UnitFlds} {b : Bool}

theorem magUnit_laidOut : UnitLaidOut magUnit := enableUnits_laidOut magUnit (by simp)

/-- What a write to MAG's enable bit leaves in its state. -/
theorem magEnable_state : (s.magEnable b).get Reg.MAG_STATUS_STATE =
    if s.get Reg.MAG_STATUS_STATE = 0 ∧ b = true then 1
    else if s.get Reg.MAG_STATUS_STATE = 2 ∧ b = false then 3 else s.get Reg.MAG_STATUS_STATE := by
  have hkeep : (s.setFlag Reg.MAG_CTL_EN b).get Reg.MAG_STATUS_STATE = s.get Reg.MAG_STATUS_STATE := get_setFlag_apart (by decide) (by decide)
  have hheld (c : Bool) : ((s.setFlag Reg.MAG_CTL_EN b).setFlag Reg.MAG_STATUS_HELD c).get Reg.MAG_STATUS_STATE =
      s.get Reg.MAG_STATUS_STATE := (get_setFlag_apart (by decide) (by decide)).trans hkeep
  have hput {v : Nat} (hv : v < 8) : ((s.setFlag Reg.MAG_CTL_EN b).put Reg.MAG_STATUS_STATE v).get Reg.MAG_STATUS_STATE = v :=
    get_st_put_st magUnit_laidOut (i := 0) (by decide) hv
  unfold State.magEnable State.enableWrite magUnit
  dsimp only
  split
  next h => cases b <;> simp [h, hkeep, hput]
  next h => simp [h, hheld]
  next h => cases b <;> simp [h, hkeep, hput]
  next h => simp [h, hheld]
  next h0 _ h2 _ => rw [hkeep, if_neg fun h => h0 h.1, if_neg fun h => h2 h.1]

/-- Its held bit is written in STARTING and STOPPING only. -/
theorem magEnable_held : (s.magEnable b).flag Reg.MAG_STATUS_HELD =
    if s.get Reg.MAG_STATUS_STATE = 1 then !b
    else if s.get Reg.MAG_STATUS_STATE = 3 then b else s.flag Reg.MAG_STATUS_HELD := by
  have hkeep : (s.setFlag Reg.MAG_CTL_EN b).flag Reg.MAG_STATUS_HELD = s.flag Reg.MAG_STATUS_HELD := flag_setFlag_apart (by decide) (by decide)
  have hheld (c : Bool) : ((s.setFlag Reg.MAG_CTL_EN b).setFlag Reg.MAG_STATUS_HELD c).flag Reg.MAG_STATUS_HELD = c :=
    flag_setFlag_same (by decide) (by decide) (by decide)
  have hput (v : Nat) : ((s.setFlag Reg.MAG_CTL_EN b).put Reg.MAG_STATUS_STATE v).flag Reg.MAG_STATUS_HELD = s.flag Reg.MAG_STATUS_HELD :=
    (flag_put_apart (by decide) (by decide)).trans hkeep
  unfold State.magEnable State.enableWrite magUnit
  dsimp only
  split
  next h => cases b <;> simp [h, hkeep, hput]
  next h => simp [h, hheld]
  next h => cases b <;> simp [h, hkeep, hput]
  next h => simp [h, hheld]
  next _ h1 _ h3 => rw [hkeep, if_neg h1, if_neg h3]

/-- The enable bit takes the written value, whatever follows. -/
theorem magEnable_en : (s.magEnable b).flag Reg.MAG_CTL_EN = b := by
  have hset : (s.setFlag Reg.MAG_CTL_EN b).flag Reg.MAG_CTL_EN = b := flag_setFlag_same (by decide) (by decide) (by decide)
  have hheld (c : Bool) : ((s.setFlag Reg.MAG_CTL_EN b).setFlag Reg.MAG_STATUS_HELD c).flag Reg.MAG_CTL_EN = b :=
    (flag_setFlag_apart (by decide) (by decide)).trans hset
  have hput (v : Nat) : ((s.setFlag Reg.MAG_CTL_EN b).put Reg.MAG_STATUS_STATE v).flag Reg.MAG_CTL_EN = b :=
    (flag_put_apart (by decide) (by decide)).trans hset
  unfold State.magEnable State.enableWrite magUnit
  dsimp only
  split
  · cases b
    · exact hset
    · exact hput 1
  · exact hheld _
  · cases b
    · exact hput 3
    · exact hset
  · exact hheld _
  · exact hset

theorem execUnitEnableWrite_mag (hawake : s.awake = true) (hfirm : b = true → s.firmwareGone 8 = false) :
    execUnitEnableWrite .mag b s = .next (s.magEnable b) := by
  have hmoves := mv_magEnable (s := s) (b := b)
  have hgone : (s.magEnable b).firmwareGone 8 = s.firmwareGone 8 := by
    have hcore (k : Nat) (hk : k ∈ List.range 5) : (s.magEnable b).get Reg.MBX_CORE_STATUS_STATE k = s.get Reg.MBX_CORE_STATUS_STATE k :=
      get_of_moves hmoves (by decide +kernel) (List.mem_range.mp hk)
    have hrec : (s.magEnable b).flag Reg.EFC_FW_RECOVERY = s.flag Reg.EFC_FW_RECOVERY := flag_of_moves hmoves (by decide +kernel) (by decide)
    rw [State.firmwareGone, State.firmwareGone, hrec]
    congr 1
    rw [Bool.eq_iff_iff, List.any_eq_true, List.any_eq_true]
    exact exists_congr fun k => and_congr_right fun hk => by rw [hcore k hk]
  have hsame : (s.magEnable b).failAgain 8 b = s.magEnable b := by
    refine if_neg ?_
    rw [hgone]
    cases b
    · simp
    · simp [hfirm rfl]
  rw [execUnitEnableWrite, if_pos hawake, State.enableUnit, if_neg (by simp [State.hasUnit]), hsame]

theorem execUnitEnableWrite_absent {u : UnitRef} (h : s.hasUnit u = false) : execUnitEnableWrite u b s = .next s := by
  unfold execUnitEnableWrite State.enableUnit
  simp [h]

/-- The start-up's end leaves nothing held. -/
theorem flag_held_unitStarted (hf : UnitLaidOut f) (hst : apart f.st f.held = true) (h0 : 0 < f.en.count) (h : s.get f.st = 1) :
    (s.unitStarted f).flag f.held = false := by
  have hc : 0 < f.held.count := hf.heldCount ▸ h0
  rw [State.unitStarted, h, if_neg (by decide)]
  split
  · rw [flag_put_apart hst hc, flag_setFlag_same hf.heldFits hf.heldWidth hc]
  next hheld => rw [flag_put_apart hst hc, Bool.not_eq_true _ |>.mp hheld]

theorem flag_held_unitDrained (hf : UnitLaidOut f) (hst : apart f.st f.held = true) (h0 : 0 < f.en.count) (h : s.get f.st = 3) :
    (s.unitDrained f).flag f.held = false := by
  have hc : 0 < f.held.count := hf.heldCount ▸ h0
  rw [State.unitDrained, h, if_neg (by decide)]
  split
  · rw [flag_put_apart hst hc, flag_setFlag_same hf.heldFits hf.heldWidth hc]
  next hheld => rw [flag_put_apart hst hc, Bool.not_eq_true _ |>.mp hheld]

section Frame
variable {rs : List Fld}

theorem keeps_unitStarted (hheld : listed rs f.held = true) (hst : listed rs f.st = true) : Keeps [] rs s (s.unitStarted f) := by
  unfold State.unitStarted
  split
  · exact keeps_refl
  · split
    · exact keeps_trans (keeps_setFlag hheld) (keeps_put hst)
    · exact keeps_put hst

theorem keeps_unitDrained (hheld : listed rs f.held = true) (hst : listed rs f.st = true) : Keeps [] rs s (s.unitDrained f) := by
  unfold State.unitDrained
  split
  · exact keeps_refl
  · split
    · exact keeps_trans (keeps_setFlag hheld) (keeps_put hst)
    · exact keeps_put hst

end Frame

/-- Units whose start-up ends with the common state machine alone. -/
abbrev plainUnits : List (UnitRef × UnitFlds) := [(.mag, magUnit), (.och, ochUnit), (.srv, srvUnit), (.mot, motUnit)]

theorem unitUp_of_plain {u : UnitRef} (h : (u, f) ∈ plainUnits) (hunit : s.hasUnit u = true) : s.unitUp u = s.unitStarted f := by
  unfold State.unitUp
  rw [if_neg (by simp [hunit])]
  simp only [plainUnits, List.mem_cons, List.not_mem_nil, or_false, Prod.mk.injEq] at h
  obtain ⟨rfl, rfl⟩ | ⟨rfl, rfl⟩ | ⟨rfl, rfl⟩ | ⟨rfl, rfl⟩ := h <;> rfl

/-- What the laws of the state machine ask of a unit's fields. -/
theorem plainUnits_fields : ∀ e ∈ plainUnits, UnitLaidOut e.2 ∧ apart e.2.st e.2.held = true ∧ 0 < e.2.en.count ∧
    listed [e.2.st] e.2.held = true ∧ listed [e.2.st] e.2.st = true := by
  have hmem : ∀ e ∈ plainUnits, e.2 ∈ enableUnits := by decide
  have hrest : ∀ e ∈ plainUnits, apart e.2.st e.2.held = true ∧ 0 < e.2.en.count ∧ listed [e.2.st] e.2.held = true ∧
      listed [e.2.st] e.2.st = true := by decide
  exact fun e he => ⟨enableUnits_laidOut e.2 (hmem e he), hrest e he⟩

end Unit

/-! ### Unit resets -/

section Reset
variable {s : State}

theorem present_dbg : s.present 17 = true := by
  simp [State.present, capEntries]

/-- Of the mask with bit 17 alone, only the debug port's reset is asked for. -/
theorem dbgOnly (i : Nat) : ((2 ^ 17).testBit (i + 1) && s.present (i + 1)) = decide (i = 16) := by
  rw [Nat.testBit_two_pow]
  by_cases h : i = 16
  · subst h
    simp [present_dbg]
  · simp [h, show ¬ 17 = i + 1 by omega]

/-- The debug port's reset begins. -/
abbrev dbgBegun (s : State) : State := { s with pwr := { s.pwr with unitReset := s.pwr.unitReset ++ [17] } }

theorem opUnit_ne_dbg (op : Nat) : opUnit op ≠ 17 := by
  unfold opUnit
  repeat' split
  all_goals decide

theorem unitQuiet_dbg : s.unitQuiet 17 = true := by
  simp [State.unitQuiet, State.instStates, opUnit_ne_dbg]

theorem unitResets_dbg (hnone : s.pwr.unitReset = []) : s.unitResets (2 ^ 17) = ((dbgBegun s).finishUnitReset 17).showUnitReset := by
  have hlist : (List.range 17).filter (fun i => (2 ^ 17).testBit (i + 1) && s.present (i + 1)) = [16] := by
    simp only [dbgOnly]
    decide
  have hbegin : s.beginUnitReset 17 = dbgBegun s := if_neg (by simp [hnone])
  have hsettle : (dbgBegun s).settleUnitResets = (dbgBegun s).finishUnitReset 17 := by
    rw [State.settleUnitResets, pwr_mk, hnone]
    exact if_pos unitQuiet_dbg
  simp only [State.unitResets, hlist, List.foldl_cons, List.foldl_nil, hbegin, hsettle]

theorem execUnitReset_dbg {v : Word} (hawake : s.awake = true) (hv : bitsOf v 18 1 = 2 ^ 16)
    (h1 : s.get Reg.PWR_HOLDUP_STATUS_STATE ≠ 1) (h2 : s.get Reg.PWR_HOLDUP_STATUS_STATE ≠ 2) (hnone : s.pwr.unitReset = []) :
    execUnitReset v s = .next ((dbgBegun s).finishUnitReset 17).showUnitReset := by
  have hmask : (List.range 17).foldl (fun a i => if (2 ^ 17).testBit (i + 1) && s.present (i + 1) then a ||| 2 ^ (i + 1) else a) 0 =
      2 ^ 17 := by
    simp only [dbgOnly]
    decide
  have hwrite : s.writeUnitReset (2 ^ 17) = s.unitResets (2 ^ 17) := by
    unfold State.writeUnitReset
    rw [hmask, if_neg (by decide), if_neg (by simp [h1, h2])]
  rw [execUnitReset, if_pos hawake, hv, show 2 ^ 16 * 2 = 2 ^ 17 by decide, hwrite, unitResets_dbg hnone]

theorem rd_applyRecords {img : List Byte} {p : Nat → Bool} {k : Nat} (h : ∀ j < fieldAt img 0x10 4, (imageRecord img j).1 ≠ k) :
    (s.applyRecords img p).rd k = s.rd k := by
  refine List.foldlRecOn (motive := fun t : State => t.rd k = s.rd k) _ _ rfl fun t ht j hj => ?_
  dsimp only
  split
  · rw [rd_wr_ne (h j (List.mem_range.mp hj)).symm, ht]
  · exact ht

/-- A register of a unit's page that the image leaves out takes its reset value. -/
theorem rd_pageReset {n k : Nat} (hpage : k / 0x100000 = n) (h : ∀ j < fieldAt s.efc.image 0x10 4, (imageRecord s.efc.image j).1 ≠ k) :
    (s.pageReset n).rd k = regReset k := by
  rw [State.pageReset, rd_applyRecords h, rd_clearRegs]
  exact if_neg (by simp [hpage])

theorem showUnitReset_rd {k : Nat} (h : ¬ Reg.RST_UNIT_RESET_RESET.holds k) : s.showUnitReset.rd k = s.rd k :=
  rd_put_apart h

/-- What the debug port's reset leaves of its own registers. -/
theorem dbgReset_rd {k : Nat} (hpage : k / 0x100000 = 17) :
    ((dbgBegun s).finishUnitReset 17).showUnitReset.rd k = (((dbgBegun s).cutWork 17).resetUnit 17).rd k := by
  have hrst : ¬ Reg.RST_UNIT_RESET_RESET.holds k := by
    rintro ⟨i, hi, rfl⟩
    simp only [Reg.RST_UNIT_RESET_RESET] at hi hpage
    omega
  have htop : k ≠ Reg.TOP_UNIT_FAILED_WORD.base := by
    rintro rfl
    exact absurd hpage (by decide)
  rw [showUnitReset_rd hrst, finishUnitReset_rd htop hrst]

theorem cutWork_image {n : Nat} : ((dbgBegun s).cutWork n).efc.image = s.efc.image := by
  rw [mv_cutWork.efc (by decide +kernel)]

theorem dbgReset_scratch {i : Nat} (hi : i < 4)
    (h : ∀ j < fieldAt s.efc.image 0x10 4, (imageRecord s.efc.image j).1 ≠ 0x1100010 + 4 * i) :
    ((dbgBegun s).finishUnitReset 17).showUnitReset.rd (0x1100010 + 4 * i) = regReset (0x1100010 + 4 * i) := by
  rw [dbgReset_rd (by omega), State.resetUnit, rd_keepFlds, rd_pageReset (by omega) (by rw [cutWork_image]; exact h)]
  simp only [List.mem_singleton, forall_eq]
  rintro ⟨j, hj, he⟩
  simp only [Reg.DBG_STATUS_TAP_ACTIVE] at he
  omega

/-- TAP_ACTIVE is put back after the page is cleared. -/
theorem dbgReset_tap : ((dbgBegun s).finishUnitReset 17).showUnitReset.flag Reg.DBG_STATUS_TAP_ACTIVE = s.flag Reg.DBG_STATUS_TAP_ACTIVE := by
  have hrd := dbgReset_rd (s := s) (k := Reg.DBG_STATUS_TAP_ACTIVE.base + Reg.DBG_STATUS_TAP_ACTIVE.stride * 0) (by decide)
  have hkept : (((dbgBegun s).cutWork 17).resetUnit 17).get Reg.DBG_STATUS_TAP_ACTIVE = s.get Reg.DBG_STATUS_TAP_ACTIVE := by
    rw [State.resetUnit, State.keepFlds, List.foldl_cons, List.foldl_nil]
    refine (get_put_same (by decide) (by decide)).trans ?_
    rw [Nat.mod_eq_of_lt get_lt]
    exact (get_of_moves mv_cutWork (by decide +kernel) (by decide)).trans get_mk
  rw [State.flag, State.flag, ← hkept, State.get, State.get, hrd]

theorem dbgReset_list (hnone : s.pwr.unitReset = []) : ((dbgBegun s).finishUnitReset 17).showUnitReset.pwr.unitReset = [] := by
  rw [mv_showUnitReset.pwr (by decide +kernel), finishUnitReset_list, pwr_mk, hnone]
  rfl

theorem dbgReset_failed : ((dbgBegun s).finishUnitReset 17).showUnitReset.unitFailed 17 = false := by
  have hrd : ((dbgBegun s).finishUnitReset 17).showUnitReset.rd Reg.TOP_UNIT_FAILED_WORD.base =
      ((dbgBegun s).finishUnitReset 17).rd Reg.TOP_UNIT_FAILED_WORD.base := showUnitReset_rd (by
    rintro ⟨i, hi, he⟩
    simp [Reg.RST_UNIT_RESET_RESET, Reg.TOP_UNIT_FAILED_WORD] at he)
  rw [State.unitFailed, hrd]
  exact finishUnitReset_failed

/-- Each completed reset leaves the list of those that run. -/
theorem foldl_finishUnitReset_list {l : List Nat} :
    (l.foldl State.finishUnitReset s).pwr.unitReset = s.pwr.unitReset.filter fun n => !l.contains n := by
  induction l generalizing s with
  | nil => exact (List.filter_eq_self.2 fun _ _ => rfl).symm
  | cons x l ih =>
    rw [List.foldl_cons, ih, finishUnitReset_list, List.filter_filter]
    congr 1
    funext n
    rw [List.contains_cons, Bool.not_or, Bool.and_comm, bne]

end Reset

/-! ### The role -/

section Role
variable {s : State} {v : Word}

/-- REJECTED as the written word clears it. -/
def clearRejected (s : State) (v : Word) : State := if v.getLsbD 8 then s.setFlag Reg.TOP_MODE_REJECTED false else s

theorem clearRejected_role : (clearRejected s v).get Reg.TOP_MODE_ROLE = s.get Reg.TOP_MODE_ROLE := by
  unfold clearRejected
  split
  · exact get_setFlag_apart (by decide) (by decide)
  · rfl

theorem clearRejected_flag : (clearRejected s v).flag Reg.TOP_MODE_REJECTED = (s.flag Reg.TOP_MODE_REJECTED && !v.getLsbD 8) := by
  unfold clearRejected
  split
  next h => rw [flag_setFlag_same (by decide) (by decide) (by decide), h, Bool.not_true, Bool.and_false]
  next h => rw [Bool.not_eq_true _ |>.mp h, Bool.not_false, Bool.and_true]

theorem writeMode_refused (hres : bitsOf v 1 0 ≠ 3) (hnew : bitsOf v 1 0 ≠ s.get Reg.TOP_MODE_ROLE)
    (h : s.takesLive = true ∨ s.get Reg.TOP_MODE_ROLE = 2 ∧ s.pairState ≠ 0) :
    s.writeMode v = (clearRejected s v).setFlag Reg.TOP_MODE_REJECTED true := by
  unfold State.writeMode
  refine (if_neg (by simp [hres, hnew])).trans (if_pos ?_)
  simpa using h

theorem writeMode_taken (hres : bitsOf v 1 0 ≠ 3) (hnew : bitsOf v 1 0 ≠ s.get Reg.TOP_MODE_ROLE) (htakes : s.takesLive = false)
    (hpair : s.get Reg.TOP_MODE_ROLE = 2 → s.pairState = 0) :
    s.writeMode v = (clearRejected s v).put Reg.TOP_MODE_ROLE (bitsOf v 1 0) ∨
    s.writeMode v = ((clearRejected s v).put Reg.TOP_MODE_ROLE (bitsOf v 1 0)).pairEnable true := by
  have htake : s.writeMode v = if bitsOf v 1 0 = 2 && ((clearRejected s v).put Reg.TOP_MODE_ROLE (bitsOf v 1 0)).flag Reg.PAIR_CTL_EN &&
      ((clearRejected s v).put Reg.TOP_MODE_ROLE (bitsOf v 1 0)).pairState == 0 then
      ((clearRejected s v).put Reg.TOP_MODE_ROLE (bitsOf v 1 0)).pairEnable true
      else (clearRejected s v).put Reg.TOP_MODE_ROLE (bitsOf v 1 0) := by
    unfold State.writeMode
    refine (if_neg (by simp [hres, hnew])).trans (if_neg ?_)
    simpa [htakes] using hpair
  rw [htake]
  exact ite_both (P := fun t => t = _ ∨ t = _) (.inr rfl) (.inl rfl)

theorem pairEnable_role {b : Bool} : (s.pairEnable b).get Reg.TOP_MODE_ROLE = s.get Reg.TOP_MODE_ROLE ∧
    (s.pairEnable b).flag Reg.TOP_MODE_REJECTED = s.flag Reg.TOP_MODE_REJECTED :=
  ⟨get_of_moves mv_pairEnable (by decide +kernel) (by decide), flag_of_moves mv_pairEnable (by decide +kernel) (by decide)⟩

theorem writeMode_taken_facts (hres : bitsOf v 1 0 ≠ 3) (hnew : bitsOf v 1 0 ≠ s.get Reg.TOP_MODE_ROLE) (htakes : s.takesLive = false)
    (hpair : s.get Reg.TOP_MODE_ROLE = 2 → s.pairState = 0) : (s.writeMode v).get Reg.TOP_MODE_ROLE = bitsOf v 1 0 ∧
    (s.writeMode v).flag Reg.TOP_MODE_REJECTED = (s.flag Reg.TOP_MODE_REJECTED && !v.getLsbD 8) := by
  have hput : ((clearRejected s v).put Reg.TOP_MODE_ROLE (bitsOf v 1 0)).get Reg.TOP_MODE_ROLE = bitsOf v 1 0 ∧
      ((clearRejected s v).put Reg.TOP_MODE_ROLE (bitsOf v 1 0)).flag Reg.TOP_MODE_REJECTED =
        (s.flag Reg.TOP_MODE_REJECTED && !v.getLsbD 8) := by
    refine ⟨?_, (flag_put_apart (by decide) (by decide)).trans clearRejected_flag⟩
    rw [get_put_same (by decide) (by decide)]
    exact Nat.mod_eq_of_lt bitsOf_lt
  obtain h | h := writeMode_taken hres hnew htakes hpair
  · rw [h]
    exact hput
  · rw [h, pairEnable_role.1, pairEnable_role.2]
    exact hput

theorem writeMode_refused_facts (hres : bitsOf v 1 0 ≠ 3) (hnew : bitsOf v 1 0 ≠ s.get Reg.TOP_MODE_ROLE)
    (h : s.takesLive = true ∨ s.get Reg.TOP_MODE_ROLE = 2 ∧ s.pairState ≠ 0) :
    (s.writeMode v).get Reg.TOP_MODE_ROLE = s.get Reg.TOP_MODE_ROLE ∧ (s.writeMode v).flag Reg.TOP_MODE_REJECTED = true := by
  rw [writeMode_refused hres hnew h]
  exact ⟨(get_setFlag_apart (by decide) (by decide)).trans clearRejected_role, flag_setFlag_same (by decide) (by decide) (by decide)⟩

end Role

/-- Settles O15: one lemma per command; the start-up and the drain go by the laws of every unit with an enable bit. -/
theorem unitStateMachine : Obligations.UnitStateMachine := by
  refine ⟨fun v s hawake hfirm => ?_, fun u v s habsent => ⟨s, execUnitEnableWrite_absent habsent, rfl⟩,
    fun u f s hmem hawake hunit hst => ?_, fun s hawake hst hnone => ?_, fun v s hawake hv h1 h2 hnone => ?_, fun s => ?_,
    fun v s hawake hres hnew => ?_⟩
  · exact ⟨_, execUnitEnableWrite_mag hawake hfirm, magEnable_en, magEnable_state, magEnable_held,
      keeps_of mv_magEnable (by decide +kernel)⟩
  · have hnext : execUnitStartupComplete u s = .next (s.unitStarted f) := by
      rw [execUnitStartupComplete, if_pos hawake, unitUp_of_plain hmem hunit]
    obtain ⟨hlaid, hapart, h0, hlh, hls⟩ := plainUnits_fields (u, f) hmem
    exact ⟨_, hnext, get_st_unitStarted hlaid h0 hst, flag_held_unitStarted hlaid hapart h0 hst, keeps_unitStarted hlh hls⟩
  · have hlaid : UnitLaidOut srvUnit := enableUnits_laidOut _ (by simp)
    have hlist : (s.unitDrained srvUnit).pwr.unitReset = [] := by
      rw [(mv_unitDrained (s := s) (f := srvUnit) (i := 0) (M := 0x400000) Moves.refl (by decide +kernel)).pwr (by decide +kernel), hnone]
    have hnext : execUnitDrainComplete .srv s = .next (s.unitDrained srvUnit) := by
      rw [execUnitDrainComplete, if_pos hawake, State.unitDown, State.settleUnitResets, hlist, List.foldl_nil]
    exact ⟨_, hnext, get_st_unitDrained hlaid (i := 0) (by decide) hst, flag_held_unitDrained hlaid (by decide) (by decide) hst,
      keeps_unitDrained (by decide) (by decide)⟩
  · have hnext := execUnitReset_dbg hawake hv h1 h2 hnone
    exact ⟨_, hnext, dbgReset_list hnone, dbgReset_failed, dbgReset_tap, fun i hi h => dbgReset_scratch hi h,
      keepsParts_of_next mv_execUnitReset hnext (by decide +kernel)⟩
  · have hnext : execUnitResetDrainTimeout s = .next _ := rfl
    refine ⟨_, hnext, ?_, keepsParts_of_next mv_execUnitResetDrainTimeout hnext (by decide +kernel)⟩
    rw [foldl_finishUnitReset_list, List.filter_eq_nil_iff]
    simp
  · have hnext : execTopModeWrite v s = .next (s.writeMode v) := if_pos hawake
    exact ⟨_, hnext, writeMode_refused_facts hres hnew, writeMode_taken_facts hres hnew,
      keeps_of_next mv_execTopModeWrite hnext (by decide +kernel)⟩

end Sys2Proof.Proofs
end

section
/-!
Register writes and reads, event bits, 64-bit accesses, configuration requests (00 R5, R10 to R13; 02 R39; 04 R127; 08 R203, R220).
-/
set_option Elab.async false

namespace Sys2Proof.Proofs
open Sys2Proof.Machine Sys2Proof.Laws

/-! ### The scratch registers -/

section Scratch
variable {s : State} {q : Requester} {i : Nat} {v h : Word}

/-- The word of scratch register `i`. -/
abbrev scratchKey (i : Nat) : Nat := Reg.DBG_SCRATCH.base + Reg.DBG_SCRATCH.stride * i

theorem lt_four (hi : i < 4) : i = 0 ∨ i = 1 ∨ i = 2 ∨ i = 3 := by omega

theorem scratch_plain (hi : i < 4) : hasEvents (scratchKey i) = false := by
  obtain rfl | rfl | rfl | rfl := lt_four hi <;> decide +kernel

/-- A scratch register is one field that takes what is written. -/
theorem written_scratch (hi : i < 4) : s.written (scratchKey i) v = v := by
  have hfind : ∀ j < 4, ∃ r : RReg, regFind (scratchKey j) = some r ∧ (⟨31, 0, .rw, false, []⟩ : RField) ∈ r.fields := by
    intro j hj
    obtain rfl | rfl | rfl | rfl := lt_four hj
    all_goals exact ⟨_, rfl, by decide⟩
  obtain ⟨r, hr, hf⟩ := hfind i hi
  have hbits := bitsOf_written s v hr hf
  rw [bitsOf_fieldWrite_writable (by decide) (by decide) (.inl rfl) rfl] at hbits
  have hall : ∀ w : Word, bitsOf w 31 0 = w.toNat := fun w => Nat.mod_eq_of_lt w.isLt
  exact BitVec.eq_of_toNat_eq ((hall _).symm.trans (hbits.trans (hall v)))

theorem absentAt_scratch (hi : i < 4) : s.absentAt (scratchKey i) = false := by
  obtain rfl | rfl | rfl | rfl := lt_four hi <;> rfl

theorem hostWrite_scratch (hi : i < 4) : s.hostWrite q (scratchKey i) v = .next (s.wr (scratchKey i) v) := by
  have hplain : s.plainWrite (scratchKey i) v = s.wr (scratchKey i) v := by
    rw [State.plainWrite, if_neg (by rw [scratch_plain hi]; decide), State.write, written_scratch hi]
  have hpage : s.hostWrite q (scratchKey i) v = .next (s.plainWrite (scratchKey i) v) := by
    obtain rfl | rfl | rfl | rfl := lt_four hi <;> rfl
  rw [hpage, hplain]

theorem wordWrite_scratch (hi : i < 4) : s.wordWrite q (scratchKey i) v = .next (s.wr (scratchKey i) v) := by
  have hsilent : s.colSilent (scratchKey i) = false := by
    obtain rfl | rfl | rfl | rfl := lt_four hi <;> rfl
  rw [State.wordWrite, absentAt_scratch hi, hsilent, if_neg (by decide), hostWrite_scratch hi]

theorem barKey_scratch (hi : i < 4) : barKey (scratchKey i) = true := by
  obtain rfl | rfl | rfl | rfl := lt_four hi <;> decide

theorem get_wr_scratch (i : Nat) : (s.wr (scratchKey i) v).get Reg.DBG_SCRATCH i = v.toNat := by
  rw [State.get, rd_wr_same]
  exact Nat.mod_eq_of_lt v.isLt

theorem execRegisterWrite_scratch (hi : i < 4) (hawake : s.awake = true) (hup : s.asleep q (scratchKey i) = false) :
    execRegisterWrite q (scratchKey i) v s = .next (s.wr (scratchKey i) v) := by
  rw [execRegisterWrite, if_neg (by simp [barKey_scratch hi, hawake]), if_neg (by simp [hup])]
  exact wordWrite_scratch hi

theorem execRegisterWrite_absent {k : Nat} (hup : s.asleep q k = false)
    (habsent : s.absentAt k = true ∨ s.colSilent k = true) : execRegisterWrite q k v s = .next s := by
  have hword : s.wordWrite q k v = .next s := if_pos (by simpa using habsent)
  unfold execRegisterWrite
  split
  · rfl
  · rw [if_neg (by simp [hup])]
    exact hword

theorem execRegisterWrite_both (hawake : s.awake = true) (hup : s.asleep q (scratchKey 0) = false) :
    execRegisterWrite q (scratchKey 0) v s (some h) = .next ((s.wr (scratchKey 0) v).wr (scratchKey 1) h) := by
  rw [execRegisterWrite, if_neg (by simp [barKey_scratch, hawake]; decide), if_neg (by simp [hup])]
  dsimp only [andThen]
  rw [wordWrite_scratch (by decide)]
  exact wordWrite_scratch (i := 1) (by decide)

end Scratch

/-! ### Event bits -/

section Event
variable {s : State} {q : Requester} {v : Word}

/-- The word of `TOP.MODE` with REJECTED cleared where `v` says so. -/
def modeCleared (s : State) (v : Word) : Word := fieldWrite true v (s.rd Reg.TOP_MODE_WORD.base) ⟨8, 8, .w1c, false, []⟩

theorem modeCleared_role : bitsOf (modeCleared s v) 1 0 = s.get Reg.TOP_MODE_ROLE :=
  bitsOf_fieldWrite_apart (f := ⟨8, 8, .w1c, false, []⟩) (g := ⟨1, 0, .rw, true, [(3, 3)]⟩) (by decide) (by decide)

theorem bitsOf_bit (w : Word) (j : Nat) : (bitsOf w j j != 0) = w.getLsbD j := by
  rw [getLsbD_eq_testBit_bitsOf (lo := j) (hi := j) (Nat.le_refl j) (Nat.le_refl j), Nat.sub_self]
  have h : bitsOf w j j < 2 := by simpa using bitsOf_lt (w := w) (hi := j) (lo := j)
  obtain h | h : bitsOf w j j = 0 ∨ bitsOf w j j = 1 := by omega
  · rw [h]; rfl
  · rw [h]; rfl

theorem flag_rejected : s.flag Reg.TOP_MODE_REJECTED = (s.rd Reg.TOP_MODE_WORD.base).getLsbD 8 := bitsOf_bit _ 8

theorem modeCleared_rejected : (modeCleared s v).getLsbD 8 = (s.flag Reg.TOP_MODE_REJECTED && !v.getLsbD 8) := by
  rw [flag_rejected]
  exact getLsbD_fieldWrite_w1c (f := ⟨8, 8, .w1c, false, []⟩) (by decide) (by decide) rfl (by decide) (by decide)

theorem execEventBitClear_mode (hawake : s.awake = true) (hup : s.asleep q Reg.TOP_MODE_WORD.base = false) :
    execEventBitClear q Reg.TOP_MODE_WORD.base v s =
      .next ((s.wr Reg.TOP_MODE_WORD.base (modeCleared s v)).resignal Reg.TOP_MODE_WORD.base) := by
  have habsent : s.absentAt Reg.TOP_MODE_WORD.base = false := rfl
  have hsilent : s.colSilent Reg.TOP_MODE_WORD.base = false := rfl
  rw [execEventBitClear, if_neg (by simp [hawake]; decide), if_neg (by simp [hup]), if_neg (by simp [habsent, hsilent])]
  rfl

theorem eventBitClear_facts : ((s.wr Reg.TOP_MODE_WORD.base (modeCleared s v)).resignal Reg.TOP_MODE_WORD.base).get Reg.TOP_MODE_ROLE =
      s.get Reg.TOP_MODE_ROLE ∧
    ((s.wr Reg.TOP_MODE_WORD.base (modeCleared s v)).resignal Reg.TOP_MODE_WORD.base).flag Reg.TOP_MODE_REJECTED =
      (s.flag Reg.TOP_MODE_REJECTED && !v.getLsbD 8) := by
  have hrd : (s.wr Reg.TOP_MODE_WORD.base (modeCleared s v)).rd Reg.TOP_MODE_WORD.base = modeCleared s v := rd_wr_same
  constructor
  · rw [get_of_moves mv_resignal (by decide +kernel) (by decide)]
    exact (congrArg (bitsOf · 1 0) hrd).trans modeCleared_role
  · rw [flag_of_moves mv_resignal (by decide +kernel) (by decide), flag_rejected, hrd, modeCleared_rejected]

end Event

/-! ### 64-bit reads and configuration requests -/

section Request
variable {s : State} {q : Requester} {k off : Nat} {wide : Bool} {f : FnIx} {v : Word}

/-- The high word of the pair at `k` as the requester's shadow. -/
def latchHigh (s : State) (q : Requester) (k : Nat) : State :=
  { s with cap := { s.cap with
      shadows := insertKey s.cap.shadows (16 * (k + 4) + shadowIx q) (s.readWord q (k + 4) false).toNat } }

/-- The high word is kept for the requester, and the answer leaves. -/
theorem execRead64_eq (hkey : barKey k = true) (hawake : s.awake = true) (hup : s.asleep q k = false) (hwide : wide = true → k % 8 = 0) :
    execRead64bitLowWord q k s wide =
      .next ((latchHigh s q k).emit
        (.value ((s.readWord q k false).toNat + (if wide then 2 ^ 32 * (s.readWord q (k + 4) false).toNat else 0)))) := by
  rw [execRead64bitLowWord, if_neg (by simpa [hkey, hawake] using hwide), if_neg (by simp [hup])]
  cases wide <;> rfl

theorem moves_setCap {c : CapSt} : Moves 0x4 s { s with cap := c } := mvMk Moves.refl

theorem awake_iff : s.awake = true ↔ s.pwr.por = false ∧ s.pwr.inReset = false := by
  simp [State.awake]

theorem execConfigRequest_retry {w : Option Word} (hoff : off < 4096) (halign : off % 4 = 0)
    (hheld : s.pwr.por = true ∨ s.pwr.inReset = true ∨ s.pwr.faultLow = true) : execConfigRequest f off w s = .next (s.emit .retry) := by
  unfold execConfigRequest
  rw [if_neg (by simp [halign, hoff]), if_pos (by obtain h | h | h := hheld <;> simp [h])]

/-- A request that is served: the function takes it. -/
theorem execConfigRequest_served {w : Option Word} (hoff : off < 4096) (halign : off % 4 = 0) (hawake : s.awake = true)
    (hfault : s.pwr.faultLow = false) (hreset : s.pwr.pendingReset = none) (hfn : s.hasFn f.val = true) (hflr : s.inFlr f.val = false) :
    execConfigRequest f off w s = .next (match w with
      | none => s.emit (.value (s.configWord f.val off).toNat)
      | some w => (s.configWrite f.val off w).emit .cplOk) := by
  obtain ⟨hpor, hrun⟩ := awake_iff.mp hawake
  unfold execConfigRequest
  rw [if_neg (by simp [halign, hoff]), if_neg (by simp [hpor, hrun, hfault, hreset]), if_neg (by simp [hfn]),
    if_neg (by simp [hflr])]
  cases w <;> rfl

/-- A word without effects of its own takes the write by its access types. -/
theorem configWrite_plain {fn : Nat} (hoff : off ∉ [0x04, 0x18, 0x1C, 0x44, 0x58, 0xB0, 0x348, 0x388]) :
    s.configWrite fn off v = s.write ((2 + fn) * 2 ^ 32 + off) v := by
  unfold State.configWrite
  split
  case h_9 => rfl
  all_goals exact absurd (by decide) hoff

/-- A plain write that is answered. -/
theorem write_emit_facts {o : Output} : ((s.write k v).emit o).outbox = o :: s.outbox ∧ ((s.write k v).emit o).rd k = s.written k v ∧
    (∀ j, j ≠ k → ((s.write k v).emit o).rd j = s.rd j) ∧ KeepsParts [.outbox] s ((s.write k v).emit o) :=
  ⟨rfl, rd_wr_same, fun _ hj => rd_wr_ne hj,
    keepsParts_of (M := 0x500000) (mvMk (mvWrite Moves.refl (by decide))) (by decide +kernel)⟩

end Request

/-- Settles O16: each access is one write, one emitted answer, or both. -/
theorem registerAccess : Obligations.RegisterAccess := by
  refine ⟨fun q i v s hi hawake hup => ?_, fun q k v s _ hup habsent => execRegisterWrite_absent hup habsent,
    fun q v h s hawake hup => ?_, fun q v s hawake hup => ?_, fun q k wide s hkey hawake hup hwide => ?_,
    fun f off w s hoff halign hheld => ?_, fun f off s hoff halign hawake hfault hreset hfn hflr => ?_,
    fun f off v s hoff halign hplain hawake hfault hreset hfn hflr => ?_⟩
  · exact ⟨_, execRegisterWrite_scratch hi hawake hup, get_wr_scratch i, keeps_wr (f := Reg.DBG_SCRATCH) (by simp) hi rfl⟩
  · refine ⟨_, execRegisterWrite_both hawake hup, ?_, get_wr_scratch 1, ?_⟩
    · have hkeep : ((s.wr (scratchKey 0) v).wr (scratchKey 1) h).rd (scratchKey 0) = (s.wr (scratchKey 0) v).rd (scratchKey 0) :=
        rd_wr_ne (by decide)
      exact (congrArg (bitsOf · 31 0) hkeep).trans (get_wr_scratch 0)
    · exact keeps_trans (keeps_wr (f := Reg.DBG_SCRATCH) (i := 0) (by simp) (by decide) rfl)
        (keeps_wr (f := Reg.DBG_SCRATCH) (i := 1) (by simp) (by decide) rfl)
  · refine ⟨_, execEventBitClear_mode hawake hup, eventBitClear_facts.1, eventBitClear_facts.2, ?_⟩
    exact keepsParts_trans (keepsParts_of (mvWrAny (M := 0x400000) Moves.refl (by decide)) (by decide +kernel))
      (keepsParts_of mv_resignal (by decide +kernel))
  · refine ⟨_, execRead64_eq hkey hawake hup hwide, rfl, lookupD_insertKey, ?_⟩
    exact keeps_trans (keeps_of moves_setCap (by decide +kernel)) (keeps_of moves_emit (by decide +kernel))
  · exact ⟨_, execConfigRequest_retry hoff halign hheld, rfl, keeps_of moves_emit (by decide +kernel)⟩
  · exact ⟨_, execConfigRequest_served (w := none) hoff halign hawake hfault hreset hfn hflr, rfl, keeps_of moves_emit (by decide +kernel)⟩
  · have hnext := execConfigRequest_served (f := f) (w := some v) hoff halign hawake hfault hreset hfn hflr
    dsimp only at hnext
    rw [configWrite_plain hplain] at hnext
    exact ⟨_, hnext, write_emit_facts⟩

end Sys2Proof.Proofs
end

section
/-!
Counters, and the lanes' registers after operations that show nothing of them.
-/
set_option Elab.async false

namespace Sys2Proof.Proofs
open Sys2Proof.Machine Sys2Proof.Laws

section Counter
variable {s : State} {f : Fld} {i n : Nat}

/-- A saturating counter counts on, or stays at its maximum. -/
theorem get_add_same (hfit : fits f = true) (hi : i < f.count) : (s.add f n i).get f i = min (s.get f i + n) (2 ^ f.width - 1) := by
  rw [State.add, get_put_same hfit hi]
  exact Nat.mod_eq_of_lt (Nat.lt_of_le_of_lt (Nat.min_le_right _ _) (Nat.sub_lt (Nat.two_pow_pos _) Nat.one_pos))

theorem get_inc_same (hfit : fits f = true) (hi : i < f.count) : (s.inc f i).get f i = min (s.get f i + 1) (2 ^ f.width - 1) :=
  get_add_same hfit hi

theorem get_inc_apart {g : Fld} {j : Nat} (h : apart f g = true) (hj : j < g.count) : (s.inc f i).get g j = s.get g j :=
  get_put_apart h hj

end Counter

end Sys2Proof.Proofs
end

section
/-!
Receiving control blocks on a lane (03 R69, R76 to R81; log 124).
-/
set_option Elab.async false

namespace Sys2Proof.Proofs
open Sys2Proof Sys2Proof.Machine Sys2Proof.Laws

section Control
variable {s : State} {n : Nat} {p : Word64} {i : RxInfo}

/-- The lane after a good control block, before what the block's own row does. -/
def controlled (s : State) (n : Nat) (p : Word64) (i : RxInfo) : State :=
  ((s.rxCommon n true false p i).takeControl n (s.peek n p)).relayBlock n true false (s.peek n p)

theorem rxRow_plain {mine : Word64 → Bool} (hlive : s.rxLive n i = true) (hm : mine (s.peek n p) = true) (hok : ctlOk (s.peek n p) = true) :
    s.rxRow n true false p i mine (fun s d => s.rxControl n d fun t => t) = .next (controlled s n p i) :=
  rxRow_good (good := fun _ t => t) hlive hm hok

theorem controlled_rxState (hn : n < 258) (hlive : s.rxLive n i = true) (hq : s.slotMissed n i.slot = false)
    (hok : ctlOk (s.peek n p) = true) : (controlled s n p i).rxState n = if s.rxState n = 2 then 3 else s.rxState n :=
  (control_facts hn hlive hq hok rfl).1

/-- A marker is of no other row's kind. -/
theorem marker_mine {d : Word64} (h : blkType d = 0x66) :
    (!(blkType d == 0x1E || blkType d == 0x33 || blkType d == 0x4B || blkType d == 0x55 || isCt 1 d || isCt 2 d)) = true := by
  simp [isCt, h]

/-- A block that fails its check counts; nothing else of the receiver moves. -/
theorem bad_control_facts (hn : n < 258) (hlive : s.rxLive n i = true) (hq : s.slotMissed n i.slot = false)
    {mine : Word64 → Bool} {good : Word64 → State → State} (hm : mine (s.peek n p) = true) (hbad : ctlOk (s.peek n p) = false) :
    ∃ t, s.rxRow n true false p i mine (fun s d => s.rxControl n d (good d)) = .next t ∧ t.rxState n = s.rxState n ∧
      t.get Reg.LANE_L_ERR_CTL (laneReg n) = min (s.get Reg.LANE_L_ERR_CTL (laneReg n) + 1) (2 ^ 32 - 1) := by
  have hrow : s.rxRow n true false p i mine (fun s d => s.rxControl n d (good d)) =
      .next (((s.rxCommon n true false p i).inc Reg.LANE_L_ERR_CTL (laneReg n)).relayBlock n true false (s.peek n p)) := by
    unfold State.rxRow
    rw [if_neg (by simp [hlive]), if_neg (by simp [hm])]
    simp [State.rxControl, State.takeControl, hbad]
  have hst : laneReg n < Reg.LANE_L_STATUS_RX_STATE.count := laneReg_lt hn
  have herr : laneReg n < Reg.LANE_L_ERR_CTL.count := laneReg_lt hn
  have hm := (rxCommon_quiet (a := true) (b := false) (p := p) hn hlive hq).1
  refine ⟨_, hrow, ?_, ?_⟩
  · rw [State.rxState, State.rxState, relayBlock_get hst (by decide) (by decide), get_inc_apart (by decide) hst,
      get_of_moves hm (by decide +kernel) hst]
  · rw [relayBlock_get herr (by decide) (by decide), get_inc_same (by decide) herr, get_of_moves hm (by decide +kernel) herr]
    rfl

/-- Below ALIGNED no deskewed slot is missed. -/
theorem slotMissed_of_unaligned (h : s.rxState n ≤ 3) {k : Nat} : s.slotMissed n k = false := by
  have : s.rxState n ≠ 4 := by omega
  simp [State.slotMissed, this]

/-- The identity check asks the port's register only. -/
theorem alignMatches_congr {t : State} {d : Word64}
    (h : n < 256 → t.flag Reg.LANE_PORT_CTL_ID_CHECK (portOf n) = s.flag Reg.LANE_PORT_CTL_ID_CHECK (portOf n)) :
    t.alignMatches n d = s.alignMatches n d := by
  unfold State.alignMatches
  split
  · rfl
  next hlt => rw [h (by omega)]

theorem takeAlign_of_synced (hn : n < 258) {d : Word64} {k : Nat} (hmatch : s.alignMatches n d = true) (hst : s.rxState n = 3) :
    (s.takeAlign n d k).rxState n = 4 := by
  have htake : s.takeAlign n d k = s.setRx n 4 := by
    unfold State.takeAlign
    rw [if_neg (by simp [hmatch])]
    exact if_pos hst
  rw [htake, State.rxState, State.setRx, get_put_same (by decide) (laneReg_lt hn)]
  rfl

theorem receiveAlign_facts (hn : n < 258) (hlive : s.rxLive n i = true) (hkind : isCt 2 (s.peek n p) = true)
    (hok : ctlOk (s.peek n p) = true) (hmatch : s.alignMatches n (s.peek n p) = true) (hst : s.rxState n ≤ 3) :
    ∃ t, s.rxRow n true false p i (isCt 2) (fun s d => s.rxControl n d fun t => t.takeAlign n d i.slot) = .next t ∧ t.rxState n = 4 := by
  refine ⟨_, rxRow_good (good := fun d t => t.takeAlign n d i.slot) hlive hkind hok, ?_⟩
  obtain ⟨hrx, -, -, hport⟩ := control_facts hn hlive (slotMissed_of_unaligned hst) hok rfl
  refine takeAlign_of_synced hn (Eq.trans (alignMatches_congr fun hlt => ?_) hmatch) (hrx.trans ?_)
  · rw [State.flag, State.flag, hport _ _ (by unfold portOf; simp [Reg.LANE_PORT_CTL_ID_CHECK]; omega) (by decide) rfl rfl (by decide)]
  · have h2 : 2 ≤ s.rxState n := by
      simp [State.rxLive] at hlive
      omega
    split
    · rfl
    · omega

end Control

theorem rxBlockLock_facts {l : LaneIx} {s : State} (hseek : s.rxState l.val = 1) : ∃ t, execRxBlockLock l s = .next t ∧
    t.rxState l.val = 2 ∧ (t.lane l.val).sinceLock = 0 := by
  refine ⟨_, if_pos hseek, ?_, ?_⟩
  · show (s.setRx l.val 2).rxState l.val = 2
    rw [State.rxState, State.setRx, get_put_same (by decide) (laneReg_lt l.isLt)]
    rfl
  · rw [lane_setLane, if_pos rfl]

/-- Settles O17: control blocks by what they leave of the receiver's state, good or bad, and the ALIGN after its control block. -/
theorem receive : Obligations.Receive := by
  refine ⟨fun l s hseek => ?_, fun l p i s hlive hkind hq hok => ?_, fun l p i s hlive hkind hq hok => ?_,
    fun l p i s hlive hkind hq hok => ?_, fun l p i s hlive hkind hq hbad => ?_, fun l p i s hlive hkind hok hmatch hst => ?_⟩
  · obtain ⟨t, hnext, hrx, hlock⟩ := rxBlockLock_facts hseek
    exact ⟨t, hnext, hrx, hlock, keeps_of_next mv_execRxBlockLock hnext (by decide +kernel)⟩
  · have hnext : execReceiveIdle l p i s = .next _ := rxRow_plain hlive (by simp [hkind]) hok
    exact ⟨_, hnext, controlled_rxState l.isLt hlive hq hok, keeps_of_next mv_execReceiveIdle hnext (by decide +kernel)⟩
  · have hnext : execReceiveTrain l p i s = .next _ := rxRow_plain hlive hkind hok
    exact ⟨_, hnext, controlled_rxState l.isLt hlive hq hok, keeps_of_next mv_execReceiveTrain hnext (by decide +kernel)⟩
  · have hnext : execReceiveMk l p i s = .next _ := rxRow_plain hlive (marker_mine hkind) hok
    exact ⟨_, hnext, controlled_rxState l.isLt hlive hq hok, keeps_of_next mv_execReceiveMk hnext (by decide +kernel)⟩
  · obtain ⟨t, hrow, hrx, herr⟩ := bad_control_facts
      (mine := fun d => !(blkType d == 0x1E || blkType d == 0x33 || blkType d == 0x4B || blkType d == 0x55 || isCt 1 d || isCt 2 d))
      (good := fun _ t => t) l.isLt hlive hq (marker_mine hkind) hbad
    have hnext : execReceiveMk l p i s = .next t := hrow
    exact ⟨t, hnext, hrx, herr, keeps_of_next mv_execReceiveMk hnext (by decide +kernel)⟩
  · obtain ⟨t, hrow, hrx⟩ := receiveAlign_facts l.isLt hlive hkind hok hmatch hst
    have hnext : execReceiveAlign l p i s = .next t := hrow
    exact ⟨t, hnext, hrx, keeps_of_next mv_execReceiveAlign hnext (by decide +kernel)⟩

end Sys2Proof.Proofs
end

section
/-!
Receiving frames, lines and data on a port (03 R67, R72, R74, R76, R82, R93).
-/
set_option Elab.async false

namespace Sys2Proof.Proofs
open Sys2Proof Sys2Proof.Machine Sys2Proof.Laws

section Port
variable {s t : State} {n p : Nat}

/-- Whether a lane delivers is read from the lane, from its port and from the port's state. -/
theorem delivers_congr (hj : (t.lane n).joined = (s.lane n).joined) (hp : t.ports = s.ports)
    (hst : n < 256 → t.portState (portOf n) = s.portState (portOf n)) : t.delivers n = s.delivers n := by
  unfold State.delivers
  rw [hj, port_congr hp]
  by_cases h : n < 256
  · rw [hst h]
  · simp [h]

theorem delivers_lt (h : s.delivers n = true) : n < 256 := by
  simp only [State.delivers, Bool.and_eq_true, decide_eq_true_eq] at h
  exact h.1.1.1

theorem portOf_lt (h : n < 256) : portOf n < 32 := by
  unfold portOf
  omega

theorem lane_of_port (n : Nat) : 8 * portOf n + n % 8 = n := by
  unfold portOf
  omega

theorem joinedLanes_setLane {x : LaneSt} (h : x.joined = (s.lane n).joined) : (s.setLane n x).joinedLanes p = s.joinedLanes p := by
  refine joinedLanes_congr rfl fun m => ?_
  rw [lane_setLane]
  split
  next hm => rw [hm, h]
  · rfl

/-- A lane leaves the line that it was in. -/
def leftLine (s : State) (n : Nat) : State :=
  s.setLane n { s.lane n with line := none, accepted := false, group := [], groupBad := false }

theorem leftLine_facts : ((leftLine s n).lane n).line = none ∧ (leftLine s n).joinedLanes p = s.joinedLanes p ∧
    (leftLine s n).port p = s.port p := by
  refine ⟨?_, joinedLanes_setLane rfl, rfl⟩
  rw [leftLine, lane_setLane, if_pos rfl]

/-! ### Waiting for the other lanes -/

theorem fsCheck_waits {k : Nat} (hk : k ∈ s.joinedLanes p) (hmiss : ∀ e ∈ (s.port p).fs, e.1 ≠ k) : s.fsCheck p = s := by
  refine if_pos ?_
  have hno : (s.joinedLanes p).all (fun k => (s.port p).fs.any fun e => e.1 == k) = false := by
    refine List.all_eq_false.mpr ⟨k, hk, ?_⟩
    rw [List.any_eq_true]
    rintro ⟨e, he, hek⟩
    exact hmiss e he (beq_iff_eq.mp hek)
  rw [hno]
  simp

theorem feCheck_waits {k : Nat} (hk : k ∈ s.joinedLanes p) (hmiss : k ∉ (s.port p).fe) : s.feCheck p = s := by
  refine if_neg ?_
  have hno : (s.joinedLanes p).all (fun k => (s.port p).fe.contains k) = false := by
    refine List.all_eq_false.mpr ⟨k, hk, ?_⟩
    simpa using hmiss
  rw [hno]
  simp

theorem drainPort_waits {k : Nat} (hk : k ∈ s.joinedLanes p) (hmiss : k ∉ (s.port p).drained)
    (hline : (s.lane (8 * p + k)).line ≠ none) : s.drainPort p = s := by
  refine if_neg ?_
  have hno : s.portDrainedNow p = false := by
    refine List.all_eq_false.mpr ⟨k, hk, ?_⟩
    simpa [hmiss] using hline
  rw [hno]
  simp

/-- The FS of a lane is noted; the port waits while another lane has sent none. -/
theorem portFs_facts {k seq : Nat} (hk : k ∈ s.joinedLanes (portOf n)) (hne : k ≠ n % 8)
    (hmiss : ∀ e ∈ (s.port (portOf n)).fs, e.1 ≠ k) :
    ((s.portFs n seq).port (portOf n)).fs.lookup (n % 8) = some seq ∧ ((s.portFs n seq).lane n).line = none := by
  obtain ⟨hline, hjoined, hport⟩ := leftLine_facts (s := s) (n := n) (p := portOf n)
  have hnoted : ∀ fs : List (Nat × Nat), (∀ e ∈ fs, e.1 ≠ k) →
      ((((leftLine s n).setPort (portOf n) { (leftLine s n).port (portOf n) with fs := insertKey fs (n % 8) seq }).fsCheck
        (portOf n)).port (portOf n)).fs.lookup (n % 8) = some seq ∧
      ((((leftLine s n).setPort (portOf n) { (leftLine s n).port (portOf n) with fs := insertKey fs (n % 8) seq }).fsCheck
        (portOf n)).lane n).line = none := by
    intro fs hfs
    rw [fsCheck_waits (k := k) (hjoined ▸ hk)]
    · exact ⟨by rw [port_setPort, if_pos rfl]; exact lookup_insertKey, hline⟩
    · rw [port_setPort, if_pos rfl]
      intro e he
      rcases mem_insertKey he with h | h
      · rw [h]
        exact Ne.symm hne
      · exact hfs e h
  unfold State.portFs
  dsimp only
  split
  · exact hnoted _ fun e he => hmiss e (List.mem_filter.1 he).1
  · exact hnoted _ hmiss

/-- A lane of a STOPPING port is noted as drained. -/
def drainNoted (s : State) (n : Nat) : State :=
  (leftLine s n).setPort (portOf n) { (leftLine s n).port (portOf n) with drained := ((leftLine s n).port (portOf n)).drained ++ [n % 8] }

theorem drainNoted_facts : ((drainNoted s n).port (portOf n)).drained = (s.port (portOf n)).drained ++ [n % 8] ∧
    (drainNoted s n).joinedLanes p = s.joinedLanes p ∧ (∀ m, (drainNoted s n).lane m = (leftLine s n).lane m) := by
  refine ⟨?_, joinedLanes_setLane rfl, fun _ => rfl⟩
  rw [drainNoted, port_setPort, if_pos rfl]
  rfl

theorem drainLane_facts {k : Nat} (hst : s.portState (portOf n) = 3) (hk : k ∈ s.joinedLanes (portOf n))
    (hne : k ≠ n % 8) (hmiss : k ∉ (s.port (portOf n)).drained) (hin : (s.lane (8 * portOf n + k)).line ≠ none) :
    ((s.drainLane n).port (portOf n)).drained = (s.port (portOf n)).drained ++ [n % 8] ∧ ((s.drainLane n).lane n).line = none := by
  obtain ⟨hdrained, hjoined, hlanes⟩ := drainNoted_facts (s := s) (n := n) (p := portOf n)
  have hother : 8 * portOf n + k ≠ n := by
    have := lane_of_port n
    omega
  have hwait : (drainNoted s n).drainPort (portOf n) = drainNoted s n := by
    refine drainPort_waits (k := k) (hjoined ▸ hk) (by simp [hdrained, hmiss, hne]) ?_
    rw [hlanes, leftLine, lane_setLane, if_neg hother]
    exact hin
  have hdrain : s.drainLane n = drainNoted s n := by
    unfold State.drainLane
    rw [if_neg (by simp [hst])]
    exact hwait
  rw [hdrain, hlanes]
  exact ⟨hdrained, (leftLine_facts (p := 0)).1⟩

/-- A lane begins a line. -/
def begunLine (s : State) (n y : Nat) (acc : Bool) : State :=
  s.setLane n { s.lane n with line := some y, accepted := acc, group := [], groupBad := false, groupsDone := 0 }

/-- A lane of the port's line in progress joins it. -/
theorem portLs_facts {y samples : Nat} {acc : Bool} (hfs : ∀ e ∈ (s.port (portOf n)).fs, e.1 ≠ n % 8)
    (hdel : (s.port (portOf n)).delivering = true) (hline : (s.port (portOf n)).line = some (y, acc)) :
    ((s.portLs n y samples).lane n).line = some y ∧ ((s.portLs n y samples).lane n).accepted = acc ∧
      ((s.portLs n y samples).lane n).groupsDone = 0 := by
  have hstart : s.portLs n y samples = (begunLine s n y acc).settleLines (portOf n) := by
    unfold State.portLs
    dsimp only
    have hno : (s.port (portOf n)).fs.any (fun e => e.1 == n % 8) = false := by
      rw [List.any_eq_false]
      exact fun e he h => hfs e he (beq_iff_eq.mp h)
    rw [if_neg (by simp [hno, hdel]), hline]
    exact if_pos rfl
  rw [hstart, lane_congr (mv_settleLines.lanes (by decide +kernel)), begunLine, lane_setLane, if_pos rfl]
  exact ⟨rfl, rfl, rfl⟩

/-- Below seven blocks a data block only joins its group (03 R72). -/
theorem portData_facts {d : Word64} {bad : Bool} {y : Nat} (hline : (s.lane n).line = some y) (hlen : (s.lane n).group.length < 6) :
    ((s.portData n d bad).lane n).group = (s.lane n).group ++ [d] ∧ ((s.portData n d bad).lane n).line = some y ∧
      (s.portData n d bad).ports = s.ports := by
  have hjoins : s.portData n d bad = s.setLane n { s.lane n with group := (s.lane n).group ++ [d], groupBad := (s.lane n).groupBad || bad } := by
    unfold State.portData
    dsimp only
    rw [hline]
    exact if_pos (by simp; omega)
  rw [hjoins, lane_setLane, if_pos rfl]
  exact ⟨rfl, hline, rfl⟩

/-- The FE of a lane is noted; the port waits while another lane has sent none. -/
def feNoted (s : State) (n : Nat) : State :=
  ((leftLine s n).setPort (portOf n) { (leftLine s n).port (portOf n) with fe := ((leftLine s n).port (portOf n)).fe ++ [n % 8] }).settleLines
    (portOf n)

theorem feNoted_facts {k : Nat} (hn : n < 256) (hk : k ∈ s.joinedLanes (portOf n)) (hne : k ≠ n % 8) (hmiss : k ∉ (s.port (portOf n)).fe) :
    (((feNoted s n).feCheck (portOf n)).port (portOf n)).fe = (s.port (portOf n)).fe ++ [n % 8] ∧
      (((feNoted s n).feCheck (portOf n)).lane n).line = none := by
  obtain ⟨hline, hjoined, hport⟩ := leftLine_facts (s := s) (n := n) (p := portOf n)
  have hsettle : (feNoted s n).ports = ((leftLine s n).setPort (portOf n)
      { (leftLine s n).port (portOf n) with fe := ((leftLine s n).port (portOf n)).fe ++ [n % 8] }).ports :=
    mv_settleLines.ports (by decide +kernel)
  have hfe : ((feNoted s n).port (portOf n)).fe = (s.port (portOf n)).fe ++ [n % 8] := by
    rw [port_congr hsettle, port_setPort, if_pos rfl, hport]
  have hlanes : (feNoted s n).lanes = (leftLine s n).lanes := mv_settleLines.lanes (by decide +kernel)
  have hwidth : (feNoted s n).get Reg.LANE_PORT_CTL_WIDTH (portOf n) = (leftLine s n).get Reg.LANE_PORT_CTL_WIDTH (portOf n) :=
    get_of_moves mv_settleLines (by decide +kernel) (portOf_lt hn)
  have hjs : (feNoted s n).joinedLanes (portOf n) = s.joinedLanes (portOf n) :=
    (joinedLanes_congr hwidth fun m => by rw [lane_congr hlanes]).trans hjoined
  rw [feCheck_waits (k := k) (hjs ▸ hk) (by simp [hfe, hmiss, hne]), lane_congr hlanes]
  exact ⟨hfe, hline⟩

/-- A control block of the port's lane, checked: the lane, its port and the port's registers read as before. -/
theorem controlled_facts {q : Word64} {i : RxInfo} (hn : n < 258) (hlive : s.rxLive n i = true) (hq : s.slotMissed n i.slot = false)
    (hok : ctlOk (s.peek n q) = true) :
    (∀ m, seen ((controlled s n q i).lane m) = seen (s.lane m)) ∧ (∀ m, (controlled s n q i).port m = s.port m) ∧
      (n < 256 → (controlled s n q i).portState (portOf n) = s.portState (portOf n)) ∧
      (n < 256 → (controlled s n q i).joinedLanes (portOf n) = s.joinedLanes (portOf n)) ∧
      (controlled s n q i).delivers n = s.delivers n := by
  obtain ⟨-, hseen, hports, hregs⟩ := control_facts (u := controlled s n q i) hn hlive hq hok rfl
  have hjoined : ∀ m, ((controlled s n q i).lane m).joined = (s.lane m).joined := fun m => (joined_of_seen (hseen m)).1
  have hstate : n < 256 → (controlled s n q i).portState (portOf n) = s.portState (portOf n) := fun hlt =>
    hregs Reg.LANE_PORT_STATUS_STATE (portOf n) (portOf_lt hlt) rfl rfl rfl (by decide)
  have hwidth : n < 256 → (controlled s n q i).get Reg.LANE_PORT_CTL_WIDTH (portOf n) = s.get Reg.LANE_PORT_CTL_WIDTH (portOf n) := fun hlt =>
    hregs Reg.LANE_PORT_CTL_WIDTH (portOf n) (portOf_lt hlt) rfl rfl rfl (by decide)
  exact ⟨hseen, fun m => port_congr hports, hstate, fun hlt => joinedLanes_congr (hwidth hlt) hjoined,
    delivers_congr (hjoined n) hports hstate⟩

end Port

section Rows
variable {s : State} {l : LaneIx} {p : Word64} {i : RxInfo}

theorem receiveFs_facts (hlive : s.rxLive l.val i = true) (hkind : blkType (s.peek l.val p) = 0x33) (hq : s.slotMissed l.val i.slot = false)
    (hok : ctlOk (s.peek l.val p) = true) (hdel : s.delivers l.val = true) (hst : s.portState (portOf l.val) = 2)
    (hwait : ∃ k ∈ s.joinedLanes (portOf l.val), k ≠ l.val % 8 ∧ ∀ e ∈ (s.port (portOf l.val)).fs, e.1 ≠ k) :
    ∃ t, execReceiveFs l p i s = .next t ∧ (t.port (portOf l.val)).fs.lookup (l.val % 8) = some (frameSeqOf (s.peek l.val p)) ∧
      (t.lane l.val).line = none := by
  have hlt := delivers_lt hdel
  obtain ⟨-, hport, hstate, hjoined, hdelivers⟩ := controlled_facts l.isLt hlive hq hok
  obtain ⟨k, hk, hne, hmiss⟩ := hwait
  obtain ⟨hfs, hline⟩ := portFs_facts (s := controlled s l.val p i) (seq := frameSeqOf (s.peek l.val p)) (k := k)
    (hjoined hlt ▸ hk) hne (hport _ ▸ hmiss)
  refine ⟨_, ?_, hfs, hline⟩
  refine (rxRow_good hlive (by simp [hkind]) hok).trans (congrArg Host.Outcome.next ?_)
  have hdel' : ¬ (!(controlled s l.val p i).delivers l.val) = true := by simp [hdelivers, hdel]
  have hst' : ¬ (controlled s l.val p i).portState (portOf l.val) = 3 := by simp [hstate hlt, hst]
  exact (if_neg hdel').trans (if_neg hst')

theorem receiveLs_facts {acc : Bool} (hlive : s.rxLive l.val i = true) (hkind : blkType (s.peek l.val p) = 0x4B)
    (hq : s.slotMissed l.val i.slot = false) (hok : ctlOk (s.peek l.val p) = true) (hdel : s.delivers l.val = true)
    (hrejoin : (s.lane l.val).rejoining = false) (hst : s.portState (portOf l.val) = 2)
    (hframe : (s.port (portOf l.val)).delivering = true) (hfs : ∀ e ∈ (s.port (portOf l.val)).fs, e.1 ≠ l.val % 8)
    (hline : (s.port (portOf l.val)).line = some (lineOf (s.peek l.val p), acc)) :
    ∃ t, execReceiveLs l p i s = .next t ∧ (t.lane l.val).line = some (lineOf (s.peek l.val p)) ∧ (t.lane l.val).accepted = acc ∧
      (t.lane l.val).groupsDone = 0 := by
  have hlt := delivers_lt hdel
  obtain ⟨hseen, hport, hstate, -, hdelivers⟩ := controlled_facts l.isLt hlive hq hok
  obtain ⟨hthere, hacc, hgroups⟩ := portLs_facts (s := controlled s l.val p i) (n := l.val) (y := lineOf (s.peek l.val p))
    (samples := samplesOf (s.peek l.val p)) (acc := acc) (by rw [hport]; exact hfs) (by rw [hport]; exact hframe) (by rw [hport]; exact hline)
  have hback : ((controlled s l.val p i).lane l.val).rejoining = false := (joined_of_seen (hseen l.val)).2.1.trans hrejoin
  refine ⟨_, ?_, hthere, hacc, hgroups⟩
  refine (rxRow_good hlive (by simp [hkind]) hok).trans (congrArg Host.Outcome.next ?_)
  dsimp only
  generalize hu : State.relayBlock _ l.val true false _ = u
  have hcontrolled : controlled s l.val p i = u := hu
  rw [hcontrolled] at hback hdelivers hstate ⊢
  rw [if_neg (c := ((u.lane l.val).rejoining && _) = true) (by simp [hback]), if_neg (by simp [hdelivers, hdel]),
    if_neg (by simp [hstate hlt, hst])]

theorem receiveFe_facts (hlive : s.rxLive l.val i = true) (hkind : blkType (s.peek l.val p) = 0x55) (hq : s.slotMissed l.val i.slot = false)
    (hok : ctlOk (s.peek l.val p) = true) (hdel : s.delivers l.val = true) (hst : s.portState (portOf l.val) = 2)
    (hframe : (s.port (portOf l.val)).delivering = true)
    (hwait : ∃ k ∈ s.joinedLanes (portOf l.val), k ≠ l.val % 8 ∧ k ∉ (s.port (portOf l.val)).fe) :
    ∃ t, execReceiveFe l p i s = .next t ∧ (t.port (portOf l.val)).fe = (s.port (portOf l.val)).fe ++ [l.val % 8] ∧
      (t.lane l.val).line = none := by
  have hlt := delivers_lt hdel
  obtain ⟨-, hport, hstate, hjoined, hdelivers⟩ := controlled_facts l.isLt hlive hq hok
  obtain ⟨k, hk, hne, hmiss⟩ := hwait
  obtain ⟨hfe, hline⟩ := feNoted_facts (s := controlled s l.val p i) (n := l.val) (k := k) hlt (hjoined hlt ▸ hk) hne (hport _ ▸ hmiss)
  refine ⟨_, ?_, by rw [hfe, hport], hline⟩
  refine (rxRow_good hlive (by simp [hkind]) hok).trans (congrArg Host.Outcome.next ?_)
  have hdel' : ¬ (!(controlled s l.val p i).delivers l.val) = true := by simp [hdelivers, hdel]
  have hst' : ¬ (controlled s l.val p i).portState (portOf l.val) = 3 := by simp [hstate hlt, hst]
  have hframe' : ¬ (!((controlled s l.val p i).port (portOf l.val)).delivering) = true := by simp [hport, hframe]
  exact (if_neg hdel').trans ((if_neg hst').trans (if_neg hframe'))

/-- A data block, relayed: the lane, its port and the port's registers read as before. -/
theorem dataRelayed_facts {u : State} (hlt : l.val < 256) (hlive : s.rxLive l.val i = true) (hq : s.slotMissed l.val i.slot = false)
    (hu : u = (s.rxCommon l.val false true p i).relayBlock l.val false true (s.peek l.val p)) :
    seen (u.lane l.val) = seen (s.lane l.val) ∧ u.ports = s.ports ∧ u.delivers l.val = s.delivers l.val := by
  obtain ⟨hquiet, hlanes⟩ := rxCommon_quiet (a := false) (b := true) (p := p) l.isLt hlive hq
  have hseen : seen (u.lane l.val) = seen (s.lane l.val) := by
    rw [hu, seen_relayBlock]
    exact hlanes l.val
  have hports : u.ports = s.ports := by
    rw [hu, mv_relayBlock.ports (by decide +kernel)]
    exact hquiet.ports (by decide +kernel)
  have hstate : u.portState (portOf l.val) = s.portState (portOf l.val) := by
    have hin : portOf l.val < Reg.LANE_PORT_STATUS_STATE.count := portOf_lt hlt
    rw [hu, State.portState, State.portState, get_of_moves mv_relayBlock (by decide +kernel) hin, get_of_moves hquiet (by decide +kernel) hin]
  exact ⟨hseen, hports, delivers_congr (joined_of_seen hseen).1 hports fun _ => hstate⟩

theorem receiveDataBlock_facts {y : Nat} (hlive : s.rxLive l.val i = true) (hq : s.slotMissed l.val i.slot = false)
    (hdel : s.delivers l.val = true) (hline : (s.lane l.val).line = some y) (hlen : (s.lane l.val).group.length < 6) :
    ∃ t, execReceiveDataBlock l p i s = .next t ∧ (t.lane l.val).group = (s.lane l.val).group ++ [s.peek l.val p] ∧
      (t.lane l.val).line = some y ∧ t.ports = s.ports := by
  have hlt := delivers_lt hdel
  obtain ⟨hseen, hports, hdelivers⟩ := dataRelayed_facts (p := p) hlt hlive hq rfl
  obtain ⟨-, -, hsameLine, -, hsameGroup, -⟩ := joined_of_seen hseen
  obtain ⟨hgroup, hin, hkept⟩ := portData_facts (d := s.peek l.val p) (bad := false) (hsameLine.trans hline) (by rw [hsameGroup]; exact hlen)
  refine ⟨_, ?_, by rw [hgroup, hsameGroup], hin, hkept.trans hports⟩
  unfold execReceiveDataBlock State.rxRow
  rw [if_neg (by simp [hlive]), if_neg (by simp)]
  refine congrArg Host.Outcome.next ?_
  dsimp only
  rw [if_neg (by omega), if_pos (hdelivers.trans hdel)]

/-- An invalid header counts once, whatever else it shows (03 R93). -/
theorem badHeader_errSh {s : State} {n : Nat} (hn : n < 258) : (s.badHeader n).get Reg.LANE_L_ERR_SH (laneReg n) =
    min (s.get Reg.LANE_L_ERR_SH (laneReg n) + 1) (2 ^ 32 - 1) := by
  have hin : laneReg n < Reg.LANE_L_ERR_SH.count := laneReg_lt hn
  have hcount : ∀ x : LaneSt, ((s.setLane n x).inc Reg.LANE_L_ERR_SH (laneReg n)).get Reg.LANE_L_ERR_SH (laneReg n) =
      min (s.get Reg.LANE_L_ERR_SH (laneReg n) + 1) (2 ^ 32 - 1) := fun x => get_inc_same (by decide) hin
  have hshow : ∀ (u : State) (c : Bool), (if c then (u.setFlag Reg.LANE_L_STATUS_HI_BER true (laneReg n)).event Reg.LANE_L_STATUS_HI_BER_EV (laneReg n)
      else u).get Reg.LANE_L_ERR_SH (laneReg n) = u.get Reg.LANE_L_ERR_SH (laneReg n) := by
    intro u c
    refine ite_both (P := fun v => State.get v Reg.LANE_L_ERR_SH (laneReg n) = u.get Reg.LANE_L_ERR_SH (laneReg n)) ?_ rfl
    rw [event_get (by decide) hin (by decide) (by decide), get_setFlag_apart (by decide) hin]
  have hlost : ∀ (u : State) (c : Bool), (if c then u.lockLoss n else u).get Reg.LANE_L_ERR_SH (laneReg n) = u.get Reg.LANE_L_ERR_SH (laneReg n) :=
    fun u c => ite_both (P := fun v => State.get v Reg.LANE_L_ERR_SH (laneReg n) = u.get Reg.LANE_L_ERR_SH (laneReg n))
      (get_of_moves mv_lockLoss (by decide +kernel) hin) rfl
  exact (hlost _ _).trans ((hshow _ _).trans (hcount _))

theorem receiveInvalidSyncHeader_facts {ones : Bool} (h2 : 2 ≤ s.rxState l.val) (h4 : s.rxState l.val ≤ 4) :
    ∃ t, execReceiveInvalidSyncHeader l ones p i s = .next t ∧
      t.get Reg.LANE_L_ERR_SH (laneReg l.val) = min (s.get Reg.LANE_L_ERR_SH (laneReg l.val) + 1) (2 ^ 32 - 1) := by
  have hin : laneReg l.val < Reg.LANE_L_ERR_SH.count := laneReg_lt l.isLt
  have hcommon : (s.rxCommon l.val ones ones p i).get Reg.LANE_L_ERR_SH (laneReg l.val) = s.get Reg.LANE_L_ERR_SH (laneReg l.val) :=
    get_of_moves mv_rxCommon (by decide +kernel) hin
  have hdata : ∀ (u : State) (c : Bool), (if c then u.portData l.val (s.peek l.val p) true else u).get Reg.LANE_L_ERR_SH (laneReg l.val) =
      u.get Reg.LANE_L_ERR_SH (laneReg l.val) := fun u c =>
    ite_both (P := fun v => State.get v Reg.LANE_L_ERR_SH (laneReg l.val) = u.get Reg.LANE_L_ERR_SH (laneReg l.val))
      (get_of_moves mv_portData (by decide +kernel) hin) rfl
  unfold execReceiveInvalidSyncHeader
  dsimp only
  rw [if_neg (by simp; omega)]
  split
  · exact ⟨_, rfl, by rw [badHeader_errSh l.isLt, hcommon]⟩
  · exact ⟨_, rfl, by rw [badHeader_errSh l.isLt, hdata, relayBlock_get hin (by decide) (by decide), hcommon]⟩

theorem hiBerClear_facts (h : (s.lane l.val).bad.length < 16 ∨ (s.lane l.val).bad.getLastD 0 + 50000 ≤ (s.lane l.val).lockTime) :
    execHiBerClear l s = .next (s.setFlag Reg.LANE_L_STATUS_HI_BER false (laneReg l.val)) :=
  if_neg (by simp only [Bool.and_eq_true, decide_eq_true_eq]; omega)

theorem laneDrainTimeout_facts (hlt : l.val < 256) (hst : s.portState (portOf l.val) = 3)
    (hwait : ∃ k ∈ s.joinedLanes (portOf l.val), k ≠ l.val % 8 ∧ k ∉ (s.port (portOf l.val)).drained ∧
      (s.lane (8 * portOf l.val + k)).line ≠ none) :
    ∃ t, execLaneDrainTimeout l s = .next t ∧ (t.port (portOf l.val)).drained = (s.port (portOf l.val)).drained ++ [l.val % 8] ∧
      (t.lane l.val).line = none := by
  obtain ⟨k, hk, hne, hmiss, hin⟩ := hwait
  exact ⟨_, if_pos (by simp [hlt, hst]), drainLane_facts hst hk hne hmiss hin⟩

end Rows

/-- Settles O18: the blocks of a frame by what each leaves of its lane and port while another lane of the port is behind; invalid headers;
the drain of a lane. -/
theorem receiveFrame : Obligations.ReceiveFrame := by
  refine ⟨fun l p i s hlive hkind hq hok hdel hst hwait => ?_,
    fun l p i acc s hlive hkind hq hok hdel hrejoin hst hframe hfs hline => ?_,
    fun l p i y s hlive hq hdel hline hlen => ?_, fun l p i s hlive hkind hq hok hdel hst hframe hwait => ?_,
    fun l ones p i s h2 h4 => ?_, fun l s h => ?_, fun l s hlt hst hwait => ?_⟩
  · obtain ⟨t, hnext, hfs, hline⟩ := receiveFs_facts hlive hkind hq hok hdel hst hwait
    exact ⟨t, hnext, hfs, hline, keeps_of_next mv_execReceiveFs hnext (by decide +kernel)⟩
  · obtain ⟨t, hnext, hthere, hacc, hgroups⟩ := receiveLs_facts hlive hkind hq hok hdel hrejoin hst hframe hfs hline
    exact ⟨t, hnext, hthere, hacc, hgroups, keeps_of_next mv_execReceiveLs hnext (by decide +kernel)⟩
  · obtain ⟨t, hnext, hgroup, hin, hports⟩ := receiveDataBlock_facts hlive hq hdel hline hlen
    exact ⟨t, hnext, hgroup, hin, hports, keeps_of_next mv_execReceiveDataBlock hnext (by decide +kernel)⟩
  · obtain ⟨t, hnext, hfe, hline⟩ := receiveFe_facts hlive hkind hq hok hdel hst hframe hwait
    exact ⟨t, hnext, hfe, hline, keeps_of_next mv_execReceiveFe hnext (by decide +kernel)⟩
  · obtain ⟨t, hnext, herr⟩ := receiveInvalidSyncHeader_facts h2 h4
    exact ⟨t, hnext, herr, keeps_of_next mv_execReceiveInvalidSyncHeader hnext (by decide +kernel)⟩
  · have hnext := hiBerClear_facts h
    exact ⟨_, hnext, flag_setFlag_same (by decide) (by decide) (laneReg_lt l.isLt), keeps_of_next mv_execHiBerClear hnext (by decide +kernel)⟩
  · obtain ⟨t, hnext, hdrained, hline⟩ := laneDrainTimeout_facts hlt hst hwait
    exact ⟨t, hnext, hdrained, hline, keeps_of_next mv_execLaneDrainTimeout hnext (by decide +kernel)⟩

end Sys2Proof.Proofs
end

section
/-!
Lane transmitters, head transmit, and frames that close without a forme (03 R83 to R86, R91, R94, R95; 04 R102).
-/
set_option Elab.async false

namespace Sys2Proof.Proofs
open Sys2Proof Sys2Proof.Machine Sys2Proof.Laws

/-! ### Head transmit -/

/-- What the transmit streams leave alone: the lanes' training bursts, and of the ports CFG_REJ and the state. -/
structure Streams (s t : State) : Prop where
  burst : ∀ m, (t.lane m).inBurst = (s.lane m).inBurst
  rej : ∀ j < 32, t.get Reg.LANE_PORT_STATUS_CFG_REJ j = s.get Reg.LANE_PORT_STATUS_CFG_REJ j
  st : ∀ j < 32, t.portState j = s.portState j

section Stream
variable {s t u : State} {p n : Nat}

theorem Streams.refl : Streams s s := ⟨fun _ => rfl, fun _ _ => rfl, fun _ _ => rfl⟩

theorem Streams.trans (h : Streams s t) (g : Streams t u) : Streams s u :=
  ⟨fun m => (g.burst m).trans (h.burst m), fun j hj => (g.rej j hj).trans (h.rej j hj), fun j hj => (g.st j hj).trans (h.st j hj)⟩

theorem Streams.ite {c : Prop} [Decidable c] (h : Streams s t) (g : Streams s u) : Streams s (if c then t else u) :=
  ite_both (P := Streams s) h g

theorem streams_of_moves {M : Nat} (m : Moves M s t) (hl : t.lanes = s.lanes) (hf : frees M Reg.LANE_PORT_STATUS_CFG_REJ = true)
    (hg : frees M Reg.LANE_PORT_STATUS_STATE = true) : Streams s t :=
  ⟨fun _ => congrArg LaneSt.inBurst (lane_congr hl), fun _ hj => get_of_moves m hf hj, fun _ hj => get_of_moves m hg hj⟩

theorem streams_fold {α : Type} {l : List α} {g : State → α → State} (h : ∀ t x, Streams t (g t x)) : Streams s (l.foldl g s) := by
  induction l generalizing s with
  | nil => exact Streams.refl
  | cons x r ih => exact (h s x).trans ih

theorem streams_setLane {x : LaneSt} (h : x.inBurst = (s.lane n).inBurst) : Streams s (s.setLane n x) := by
  refine ⟨fun m => ?_, fun j _ => rfl, fun _ _ => rfl⟩
  rw [lane_setLane]
  split
  next hm => rw [hm, h]
  · rfl

theorem streams_sendBlocks {bs : List LineBlock} : Streams s (s.sendBlocks n bs) := by
  have key : ∀ (x : LaneSt) (o : List Output), x.inBurst = (s.lane n).inBurst → Streams s { s.setLane n x with outbox := o } :=
    fun x o h => ⟨(streams_setLane h).burst, fun _ _ => rfl, fun _ _ => rfl⟩
  exact key _ _ rfl

theorem streams_showTx : Streams s (s.showTx n) := streams_of_moves mv_showTx (mv_showTx.lanes (by decide +kernel)) (by decide +kernel) (by decide +kernel)

theorem streams_event {f : Fld} {i : Nat} (h : apart f Reg.LANE_PORT_STATUS_CFG_REJ = true) (g : apart f Reg.LANE_PORT_STATUS_STATE = true) :
    Streams s (s.event f i) :=
  ⟨fun _ => congrArg LaneSt.inBurst (lane_congr (by simp)), fun _ hj => event_get h hj (by decide) (by decide),
    fun _ hj => event_get g hj (by decide) (by decide)⟩

theorem streams_txSend {k : Nat} {b : LineBlock} : Streams s (s.txSend p k b) :=
  Streams.ite streams_sendBlocks (Streams.ite Streams.refl (streams_event (by decide) (by decide)))

theorem streams_txAll {b : LineBlock} : Streams s (s.txAll p b) := streams_fold fun _ _ => streams_txSend

theorem streams_shown {x : LaneSt} (h : x.inBurst = (s.lane n).inBurst) : Streams s ((s.setLane n x).showTx n) :=
  (streams_setLane h).trans streams_showTx

theorem streams_txContent {on : Bool} : Streams s (s.txContent p on) := by
  refine streams_fold fun t k => ?_
  refine streams_shown ?_
  exact rfl

theorem streams_setPort {q : PortSt} : Streams s (s.setPort p q) := ⟨fun _ => rfl, fun _ _ => rfl, fun _ _ => rfl⟩

theorem streams_headEnd : Streams s (s.headEnd p) := by
  unfold State.headEnd
  dsimp only
  split
  · exact (streams_txAll.trans streams_txContent).trans streams_setPort
  · exact Streams.refl

theorem streams_headOpen {f : Frame} : Streams s (s.headOpen p f) := by
  unfold State.headOpen
  exact (((streams_txContent.trans streams_txAll).trans streams_txAll).trans streams_txAll).trans streams_setPort

theorem streams_headGo {k : Nat} : Streams s (s.headGo p k) := by
  induction k generalizing s with
  | zero => exact Streams.refl
  | succ k ih =>
    unfold State.headGo
    dsimp only
    split
    · split
      · exact Streams.ite (streams_headEnd.trans ih) Streams.refl
      · exact streams_headEnd.trans ih
    · split
      · exact Streams.ite ((streams_headOpen.trans streams_headEnd).trans ih) Streams.refl
      · exact Streams.refl

theorem streams_headSweep : Streams s s.headSweep := streams_fold fun _ _ => Streams.ite Streams.refl streams_headGo

/-! ### A port stays where head transmit waits for a line -/

theorem port_headEnd {m : Nat} (h : m ≠ p) : (s.headEnd p).port m = s.port m := by
  unfold State.headEnd
  dsimp only
  split
  · rw [port_setPort, if_neg h]
    exact port_congr ((mv_txContent.ports (by decide +kernel)).trans (mv_txAll.ports (by decide +kernel)))
  · rfl

theorem port_headOpen {f : Frame} {m : Nat} (h : m ≠ p) : (s.headOpen p f).port m = s.port m := by
  unfold State.headOpen
  dsimp only
  rw [port_setPort, if_neg h]
  refine port_congr ?_
  rw [mv_txAll.ports (by decide +kernel), mv_txAll.ports (by decide +kernel), mv_txAll.ports (by decide +kernel),
    mv_txContent.ports (by decide +kernel)]

theorem port_headGo {k m : Nat} (h : m ≠ p) : (s.headGo p k).port m = s.port m := by
  induction k generalizing s with
  | zero => rfl
  | succ k ih =>
    unfold State.headGo
    dsimp only
    split
    · split
      · exact ite_both (P := fun t => State.port t m = s.port m) (ih.trans (port_headEnd h)) rfl
      · exact ih.trans (port_headEnd h)
    · split
      · exact ite_both (P := fun t => State.port t m = s.port m) (ih.trans ((port_headEnd h).trans (port_headOpen h))) rfl
      · rfl

/-- Head transmit waits on a port whose frame has not ended. -/
theorem headGo_waits {f : Frame} {k : Nat} (hhead : (s.port p).head = some n) (hframe : s.frame n = some f) (hopen : f.overFor p = false) :
    s.headGo p k = s := by
  cases k with
  | zero => rfl
  | succ k =>
    unfold State.headGo
    dsimp only
    rw [hhead]
    dsimp only
    rw [hframe]
    exact if_neg (by simp [hopen])

theorem frame_congr (h : t.cap = s.cap) : t.frame n = s.frame n := by
  unfold State.frame
  rw [h]

theorem port_headSweep {f : Frame} (hhead : (s.port p).head = some n) (hframe : s.frame n = some f) (hopen : f.overFor p = false) :
    s.headSweep.port p = s.port p := by
  have hgo : ∀ (l : List Nat) (t : State), t.port p = s.port p → t.cap = s.cap →
      (l.foldl (fun (t : State) q => if t.get Reg.LANE_PORT_CTL_TX_SRC q != 2 || t.txWaits q then t else t.headGo q (t.cap.frames.length + 1)) t).port p =
        s.port p := by
    intro l
    induction l with
    | nil => exact fun t hp _ => hp
    | cons q r ih =>
      intro t hp hc
      refine ih _ ?_ ?_
      · refine ite_both (P := fun u => State.port u p = s.port p) hp ?_
        by_cases hq : p = q
        · rw [← hq, headGo_waits (n := n) (f := f) (by rw [hp]; exact hhead) ((frame_congr hc).trans hframe) hopen, hp]
        · rw [port_headGo hq, hp]
      · exact ite_both (P := fun u => State.cap u = s.cap) hc ((mv_headGo.cap (by decide +kernel)).trans hc)
  exact hgo _ s rfl rfl

end Stream

/-! ### Counters cleared together -/

section Cleared
variable {s : State} {f : Fld} {i j k n : Nat}

theorem rd_zeroWords_of_zero (h : s.rd j = 0) : (s.zeroWords k n).rd j = 0 := by
  induction n generalizing s k with
  | zero => exact h
  | succ n ih =>
    refine ih ?_
    by_cases hk : j = k
    · rw [hk, rd_wr_same]
    · rw [rd_wr_ne hk, h]

theorem rd_zeroWords (hj : j < n) : (s.zeroWords k n).rd (k + 4 * j) = 0 := by
  induction n generalizing s k j with
  | zero => omega
  | succ n ih =>
    cases j with
    | zero => exact rd_zeroWords_of_zero (s := s.wr k 0) rd_wr_same
    | succ j =>
      rw [show k + 4 * (j + 1) = k + 4 + 4 * j by omega]
      exact ih (by omega)

theorem rd_zeroRow (hi : i < f.count) (hj : j < n) : (s.zeroRow f i n).rd (f.base + f.stride * i + 4 * j) = 0 := by
  rw [State.zeroRow, if_pos hi]
  exact rd_zeroWords hj

end Cleared

/-! ### The port's control register -/

section Control
variable {s : State} {f : UnitFlds} {g : Fld} {b : Bool} {i j p : Nat}

theorem get_enableWrite_apart (h : (apart f.en g && apart f.st g && apart f.held g) = true) (hj : j < g.count) :
    (s.enableWrite f b i).get g j = s.get g j := by
  simp only [Bool.and_eq_true] at h
  obtain ⟨⟨hen, hst⟩, hheld⟩ := h
  have hset : (s.setFlag f.en b i).get g j = s.get g j := get_setFlag_apart hen hj
  unfold State.enableWrite
  dsimp only
  split
  · exact ite_both (P := fun t => State.get t g j = s.get g j) ((get_put_apart hst hj).trans hset) hset
  · exact (get_setFlag_apart hheld hj).trans hset
  · exact ite_both (P := fun t => State.get t g j = s.get g j) hset ((get_put_apart hst hj).trans hset)
  · exact (get_setFlag_apart hheld hj).trans hset
  · exact hset

theorem get_unitDrained_apart (h : (apart f.st g && apart f.held g) = true) (hj : j < g.count) : (s.unitDrained f i).get g j = s.get g j := by
  simp only [Bool.and_eq_true] at h
  obtain ⟨hst, hheld⟩ := h
  unfold State.unitDrained
  refine ite_both (P := fun t => State.get t g j = s.get g j) rfl ?_
  refine ite_both (P := fun t => State.get t g j = s.get g j) ?_ (get_put_apart hst hj)
  exact (get_put_apart hst hj).trans (get_setFlag_apart hheld hj)

theorem get_setPort {q : PortSt} : (s.setPort p q).get g j = s.get g j := rfl

theorem get_setLane {x : LaneSt} : (s.setLane p x).get g j = s.get g j := rfl

/-- The end of a port's frame shows nothing in CFG_REJ. -/
theorem rej_endPortFrame (hj : j < 32) :
    (s.endPortFrame p).get Reg.LANE_PORT_STATUS_CFG_REJ j = s.get Reg.LANE_PORT_STATUS_CFG_REJ j := by
  have hcap : ∀ (u : State) (n : Nat), (u.capEnd p n).get Reg.LANE_PORT_STATUS_CFG_REJ j = u.get Reg.LANE_PORT_STATUS_CFG_REJ j := by
    intro u n
    unfold State.capEnd
    split
    · rfl
    · refine (streams_headSweep.rej j hj).trans ?_
      exact ite_both (P := fun t => State.get t Reg.LANE_PORT_STATUS_CFG_REJ j = u.get Reg.LANE_PORT_STATUS_CFG_REJ j)
        (get_of_moves mv_closeFrame (by decide +kernel) hj) rfl
  have hsettle : (s.settleAll p).get Reg.LANE_PORT_STATUS_CFG_REJ j = s.get Reg.LANE_PORT_STATUS_CFG_REJ j :=
    get_of_moves mv_settleAll (by decide +kernel) hj
  unfold State.endPortFrame
  dsimp only
  split
  · rw [hcap, get_setPort, fold_get fun _ _ => get_setLane, hsettle]
  · rw [get_setPort, fold_get fun _ _ => get_setLane, hsettle]

/-- A drain shows in the port's state and held bit, in its lanes, and in what the end of its frame shows. -/
theorem get_drainPort (hend : ∀ u : State, (u.endPortFrame p).get g j = u.get g j) (hst : (apart portUnit.st g && apart portUnit.held g) = true)
    (hlanes : frees 0x8000000000003 g = true) (hj : j < g.count) : (s.drainPort p).get g j = s.get g j := by
  have hoff : ∀ (u : State) (l : List Nat), (l.foldl (fun (t : State) k => t.rxOff (8 * p + k)) u).get g j = u.get g j :=
    fun u l => fold_get fun t k => get_of_moves (mv_rxOff.mono (by decide +kernel)) hlanes hj
  have hstop : ((s.endPortFrame p).unitDrained portUnit p).get g j = s.get g j := (get_unitDrained_apart hst hj).trans (hend s)
  have hstart : ∀ (c : Prop) [Decidable c] (u : State), (if c then u.portStart p else u).get g j = u.get g j := fun c _ u =>
    ite_both (P := fun t => State.get t g j = u.get g j) (get_of_moves (mv_portStart.mono (by decide +kernel)) hlanes hj) rfl
  unfold State.drainPort
  refine ite_both (P := fun t => State.get t g j = s.get g j) ?_ rfl
  unfold State.portStopped
  exact (hstart _ _).trans ((hoff _ _).trans hstop)

/-- A write of the enable bit of a port that is not IDLE shows in the enable bit and the port's state only, and in what the drain shows. -/
theorem get_portEnable (hbusy : s.portState p ≠ 0) (h : (apart portUnit.en g && apart portUnit.st g && apart portUnit.held g) = true)
    (hj : j < g.count) (hdrain : ∀ u : State, (u.drainPort p).get g j = u.get g j) : (s.portEnable p b).get g j = s.get g j := by
  have hwrite : (s.enableWrite portUnit b p).get g j = s.get g j := get_enableWrite_apart h hj
  unfold State.portEnable
  dsimp only
  rw [if_neg (by simp [hbusy])]
  exact ite_both (P := fun t => State.get t g j = s.get g j) ((hdrain _).trans hwrite) hwrite

/-- The steps of a write of a busy port's control register up to its enable bit leave a field apart from TX_SRC and CFG_REJ. -/
theorem get_portSource {c₁ c₂ c₃ c₄ : Prop} [Decidable c₁] [Decidable c₂] [Decidable c₃] [Decidable c₄] {u : State} {v : Nat} {q : PortSt}
    (hsrc : apart Reg.LANE_PORT_CTL_TX_SRC g = true) (hrej : apart Reg.LANE_PORT_STATUS_CFG_REJ g = true)
    (hm : (apart Reg.MSIX0_PBA g && apart Reg.MSIX1_PBA g) = true) (hj : j < g.count) (hend : ∀ w : State, (w.headEnd p).get g j = w.get g j)
    {w : State} (hw : w = if c₁ then u else u.put Reg.LANE_PORT_CTL_TX_SRC v p) {x : State}
    (hx : x = if c₂ then w.headEnd p else if c₃ then w.setPort p q else w) :
    (if c₄ then x.event Reg.LANE_PORT_STATUS_CFG_REJ p else x).get g j = u.get g j := by
  simp only [Bool.and_eq_true] at hm
  have hput : w.get g j = u.get g j := by
    rw [hw]
    exact ite_both (P := fun t => State.get t g j = u.get g j) rfl (get_put_apart hsrc hj)
  have hhead : x.get g j = u.get g j := by
    rw [hx]
    exact ite_both (P := fun t => State.get t g j = u.get g j) ((hend _).trans hput)
      (ite_both (P := fun t => State.get t g j = u.get g j) hput hput)
  exact ite_both (P := fun t => State.get t g j = u.get g j) ((event_get hrej hj hm.1 hm.2).trans hhead) hhead

theorem portSource_busy {c₁ c₂ c₃ c₄ : Prop} [Decidable c₁] [Decidable c₂] [Decidable c₃] [Decidable c₄] {u : State} {v : Nat} {q : PortSt}
    (hp : p < 32) (hbusy : u.portState p ≠ 0) {w : State} (hw : w = if c₁ then u else u.put Reg.LANE_PORT_CTL_TX_SRC v p) {x : State}
    (hx : x = if c₂ then w.headEnd p else if c₃ then w.setPort p q else w) :
    (if c₄ then x.event Reg.LANE_PORT_STATUS_CFG_REJ p else x).portState p ≠ 0 :=
  fun hidle => hbusy ((get_portSource (g := Reg.LANE_PORT_STATUS_STATE) (by decide) (by decide) (by decide) hp
    (fun _ => streams_headEnd.st _ hp) hw hx).symm.trans hidle)

theorem lanePortCtlWrite_facts {q : PortIx} {v : Word} (hawake : s.awake = true) (hunit : s.hasUnit (.port q) = true) (hbusy : s.portState q.val ≠ 0) :
    ∃ t, execLanePortCtlWrite q v s = .next t ∧
      t.get Reg.LANE_PORT_CTL_TX_WIDTH q.val = bitsOf v Reg.LANE_PORT_CTL_TX_WIDTH.hi Reg.LANE_PORT_CTL_TX_WIDTH.lo ∧
      t.get Reg.LANE_PORT_CTL_WIDTH q.val = s.get Reg.LANE_PORT_CTL_WIDTH q.val ∧
      (bitsOf v Reg.LANE_PORT_CTL_WIDTH.hi Reg.LANE_PORT_CTL_WIDTH.lo ≠ s.get Reg.LANE_PORT_CTL_WIDTH q.val →
        t.flag Reg.LANE_PORT_STATUS_CFG_REJ q.val = true) := by
  have hend : ∀ {g : Fld}, frees 0x20000020000000000000000000800000000000000000000000000000000000000a000000100803 g = true → q.val < g.count →
      ∀ u : State, (u.headEnd q.val).get g q.val = u.get g q.val := fun hg hj u => get_of_moves mv_headEnd hg hj
  unfold execLanePortCtlWrite
  dsimp only
  rw [if_neg (by simp [hawake, hunit]), if_pos (c := (s.portState q.val != 0) = true) (by simpa using hbusy)]
  have hlt : q.val < 32 := q.isLt
  have hst : ∀ x, (s.put Reg.LANE_PORT_CTL_TX_WIDTH x q.val).portState q.val = s.portState q.val := fun x =>
    get_put_apart (by decide) hlt
  have hbusy' : ∀ x, (s.put Reg.LANE_PORT_CTL_TX_WIDTH x q.val).portState q.val ≠ 0 := fun x hidle => hbusy ((hst x).symm.trans hidle)
  refine ⟨_, rfl, ?_, ?_, fun hwidth => ?_⟩
  · rw [get_portEnable (portSource_busy hlt (hbusy' _) rfl rfl) (by decide) hlt fun u => get_drainPort (fun _ => get_of_moves mv_endPortFrame (by decide +kernel) hlt)
        (by decide) (by decide +kernel) hlt]
    rw [get_portSource (by decide) (by decide) (by decide) hlt (hend (by decide +kernel) hlt) rfl rfl, get_put_same (by decide) hlt]
    exact Nat.mod_eq_of_lt bitsOf_lt
  · rw [get_portEnable (portSource_busy hlt (hbusy' _) rfl rfl) (by decide) hlt fun u => get_drainPort (fun _ => get_of_moves mv_endPortFrame (by decide +kernel) hlt)
        (by decide) (by decide +kernel) hlt]
    rw [get_portSource (by decide) (by decide) (by decide) hlt (hend (by decide +kernel) hlt) rfl rfl, get_put_apart (by decide) hlt]
  · rw [State.flag, get_portEnable (portSource_busy hlt (hbusy' _) rfl rfl) (by decide) hlt fun u => get_drainPort (fun _ => rej_endPortFrame hlt)
        (by decide) (by decide +kernel) hlt]
    have hchange : changes v (s.rd (Reg.LANE_PORT_CTL_EN.base + Reg.LANE_PORT_CTL_EN.stride * q.val)) Reg.LANE_PORT_CTL_WIDTH = true :=
      bne_iff_ne.mpr hwidth
    rw [if_pos (c := (((s.portState q.val != 0) && (changes v _ Reg.LANE_PORT_CTL_WIDTH || _)) || _) = true) (by simp [hchange, hbusy])]
    exact event_flag (by decide) hlt

end Control

/-! ### A lane's control register and its bursts -/

section Lane
variable {s : State} {n : Nat} {l : LaneIx}

/-- A step that leaves a field alone does so where it is taken. -/
theorem get_ite_step {g : Fld} {j : Nat} {f : State → State} (h : ∀ u : State, (f u).get g j = u.get g j) (c : Prop) [Decidable c] (u : State) :
    (if c then f u else u).get g j = u.get g j :=
  ite_both (P := fun t => State.get t g j = u.get g j) (h u) rfl

theorem txPol_prbsRx {b : Bool} (hn : n < 258) :
    (s.prbsRx n b).get Reg.LANE_L_CTL_TX_POL (laneReg n) = s.get Reg.LANE_L_CTL_TX_POL (laneReg n) := by
  have hin : laneReg n < Reg.LANE_L_CTL_TX_POL.count := laneReg_lt hn
  have hset : (s.setFlag Reg.LANE_L_CTL_PRBS_RX b (laneReg n)).get Reg.LANE_L_CTL_TX_POL (laneReg n) = s.get Reg.LANE_L_CTL_TX_POL (laneReg n) :=
    get_setFlag_apart (by decide) hin
  have hrx : ∀ (u : State) (k : Nat), (u.setRx n k).get Reg.LANE_L_CTL_TX_POL (laneReg n) = u.get Reg.LANE_L_CTL_TX_POL (laneReg n) :=
    fun u k => get_of_moves mv_setRx (by decide +kernel) hin
  unfold State.prbsRx
  dsimp only
  split
  · rw [get_of_moves mv_showTx (by decide +kernel) hin, get_setLane, get_of_moves mv_laneOut (by decide +kernel) hin, hrx, hset]
  · exact ite_both (P := fun t => State.get t Reg.LANE_L_CTL_TX_POL (laneReg n) = s.get Reg.LANE_L_CTL_TX_POL (laneReg n)) ((hrx _ _).trans hset) hset

theorem txPol_relayEnd (hn : n < 258) : (s.relayEnd n).get Reg.LANE_L_CTL_TX_POL (laneReg n) = s.get Reg.LANE_L_CTL_TX_POL (laneReg n) :=
  get_of_moves (f := Reg.LANE_L_CTL_TX_POL) mv_relayEnd (by decide +kernel) (laneReg_lt hn)

theorem txPol_trainStart (hn : n < 258) : (s.trainStart n).get Reg.LANE_L_CTL_TX_POL (laneReg n) = s.get Reg.LANE_L_CTL_TX_POL (laneReg n) :=
  get_of_moves (f := Reg.LANE_L_CTL_TX_POL) mv_trainStart (by decide +kernel) (laneReg_lt hn)

theorem txPol_prbsTx {b : Bool} (hn : n < 258) :
    (s.prbsTx n b).get Reg.LANE_L_CTL_TX_POL (laneReg n) = s.get Reg.LANE_L_CTL_TX_POL (laneReg n) := by
  have hin : laneReg n < Reg.LANE_L_CTL_TX_POL.count := laneReg_lt hn
  have hend : ((s.setFlag Reg.LANE_L_CTL_PRBS_TX b (laneReg n)).relayEnd n).get Reg.LANE_L_CTL_TX_POL (laneReg n) =
      s.get Reg.LANE_L_CTL_TX_POL (laneReg n) := (txPol_relayEnd hn).trans (get_setFlag_apart (by decide) hin)
  have hslots : ∀ u : State, (if u.sendsPrbs n then u.prbsSlots n 1 else u).get Reg.LANE_L_CTL_TX_POL (laneReg n) =
      u.get Reg.LANE_L_CTL_TX_POL (laneReg n) := fun u =>
    get_ite_step (f := fun u => u.prbsSlots n 1) (fun _ => get_of_moves mv_prbsSlots (by decide +kernel) hin) _ u
  unfold State.prbsTx State.free
  dsimp only
  split
  · rw [get_setLane, hend]
  · rw [hslots, get_setLane]
    exact hend

theorem txPol_egress {k : Nat} (hn : n < 258) :
    (s.egress n k).get Reg.LANE_L_CTL_TX_POL (laneReg n) = s.get Reg.LANE_L_CTL_TX_POL (laneReg n) := by
  have hin : laneReg n < Reg.LANE_L_CTL_TX_POL.count := laneReg_lt hn
  have hput : ((s.put Reg.LANE_L_CTL_EGRESS k n).relayEnd n).get Reg.LANE_L_CTL_TX_POL (laneReg n) = s.get Reg.LANE_L_CTL_TX_POL (laneReg n) :=
    (txPol_relayEnd hn).trans (get_put_apart (by decide) hin)
  unfold State.egress
  dsimp only
  split
  · rfl
  · split
    · rw [txPol_trainStart hn, hput]
    · split
      · rw [get_of_moves mv_showTx (by decide +kernel) hin, get_setLane, hput]
      · exact hput

theorem laneEgressChange_facts {v : Word} (hthere : s.laneThere l.val = true) :
    ∃ t, execLaneEgressChange l v s = .next t ∧ t.get Reg.LANE_L_CTL_TX_POL (laneReg l.val) = bitsOf v 13 13 := by
  have hin : laneReg l.val < Reg.LANE_L_CTL_TX_POL.count := laneReg_lt l.isLt
  refine ⟨_, if_neg (by simp [hthere]), ?_⟩
  refine (get_ite_step (f := fun u => u.laneCntClr l.val) (fun _ => get_of_moves mv_laneCntClr (by decide +kernel) hin) _ _).trans ?_
  refine (get_ite_step (f := fun u => u.trainStart l.val) (fun _ => txPol_trainStart l.isLt) _ _).trans ?_
  refine (txPol_egress l.isLt).trans ?_
  refine (get_ite_step (f := fun u => u.prbsTx l.val (v.getLsbD 8)) (fun _ => txPol_prbsTx l.isLt) _ _).trans ?_
  refine (get_ite_step (f := fun u => u.prbsRx l.val (v.getLsbD 9)) (fun _ => txPol_prbsRx l.isLt) _ _).trans ?_
  refine (get_ite_step (f := fun u => u.put Reg.LANE_L_CTL_EB_CENTRE (bitsOf v 7 2) (laneReg l.val)) (fun _ => get_put_apart (by decide) hin) _ _).trans ?_
  have hpol : (s.put Reg.LANE_L_CTL_TX_POL (bitsOf v 13 13) (laneReg l.val)).get Reg.LANE_L_CTL_TX_POL (laneReg l.val) = bitsOf v 13 13 := by
    rw [get_put_same (by decide) hin]
    exact Nat.mod_eq_of_lt bitsOf_lt
  exact ite_both (P := fun t => State.get t Reg.LANE_L_CTL_TX_POL (laneReg l.val) = bitsOf v 13 13)
    ((event_get (by decide) hin (by decide) (by decide)).trans hpol) ((get_put_apart (by decide) hin).trans hpol)

theorem outbox_sendBlocks {bs : List LineBlock} : (s.sendBlocks n bs).outbox = (onLine n (s.lane n).scrambler bs).1.reverse ++ s.outbox := rfl

/-- The lane's part of a burst's begin: bursts are counted modulo 65,536, relaying waits for its next FS. -/
def burstBegun (x : LaneSt) : LaneSt := { x with inBurst := true, bursts := (x.bursts + 1) % 65536, relayOn := false, relayBuf := [] }

theorem lane_sendBlocks_facts {bs : List LineBlock} : ((s.sendBlocks n bs).lane n).inBurst = (s.lane n).inBurst ∧
    ((s.sendBlocks n bs).lane n).bursts = (s.lane n).bursts := by
  have key : ∀ (x : LaneSt) (o : List Output), x.inBurst = (s.lane n).inBurst → x.bursts = (s.lane n).bursts →
      (({ s.setLane n x with outbox := o } : State).lane n).inBurst = (s.lane n).inBurst ∧
        (({ s.setLane n x with outbox := o } : State).lane n).bursts = (s.lane n).bursts := by
    intro x o hb hn
    have hlane : ({ s.setLane n x with outbox := o } : State).lane n = x := (lane_setLane (s := s)).trans (if_pos rfl)
    rw [hlane]
    exact ⟨hb, hn⟩
  exact key _ _ rfl rfl

theorem trainStart_facts (hopen : s.laneOpen n = true) (hprbs : s.flag Reg.LANE_L_CTL_PRBS_TX (laneReg n) = false) :
    ((s.trainStart n).lane n).inBurst = true ∧ ((s.trainStart n).lane n).bursts = ((s.lane n).bursts + 1) % 65536 ∧
      (s.trainStart n).outbox =
        (onLine n (s.lane n).scrambler (burstBlocks n (s.lane n).bursts (s.get Reg.LANE_TX_CFG_TRAIN_LEN * 1024))).1.reverse ++ s.outbox := by
  have hstart : s.trainStart n = ((s.setLane n (burstBegun (s.lane n))).sendBlocks n
      (burstBlocks n (s.lane n).bursts (s.get Reg.LANE_TX_CFG_TRAIN_LEN * 1024))).showTx n := by
    unfold State.trainStart
    dsimp only
    rw [if_neg (by simp [hopen, hprbs])]
    rfl
  have hlane : (s.setLane n (burstBegun (s.lane n))).lane n = burstBegun (s.lane n) := by rw [lane_setLane, if_pos rfl]
  obtain ⟨hburst, hcount⟩ := lane_sendBlocks_facts (s := s.setLane n (burstBegun (s.lane n))) (n := n)
    (bs := burstBlocks n (s.lane n).bursts (s.get Reg.LANE_TX_CFG_TRAIN_LEN * 1024))
  rw [hstart, lane_showTx, hburst, hcount, mv_showTx.outbox (by decide +kernel), outbox_sendBlocks, hlane]
  exact ⟨rfl, rfl, rfl⟩

theorem trainingBurstEnd_facts (hin : (s.lane l.val).inBurst = true) :
    ∃ t, execTrainingBurstEnd l s = .next t ∧ (t.lane l.val).inBurst = false := by
  have hlane : ∀ x : LaneSt, (((s.setLane l.val x).showTx l.val).headSweep.lane l.val).inBurst = x.inBurst := by
    intro x
    rw [streams_headSweep.burst, lane_showTx, lane_setLane, if_pos rfl]
  exact ⟨_, if_pos hin, hlane _⟩

theorem laneCntClr_facts (hthere : s.laneThere l.val = true) : ∃ t, execLaneCntClr l s = .next t ∧
    ∀ k < 10, t.rd (Reg.LANE_L_BLOCKS.base + Reg.LANE_L_BLOCKS.stride * laneReg l.val + 4 * k) = 0 :=
  ⟨_, if_pos hthere, fun _ hk => rd_zeroRow (laneReg_lt l.isLt) hk⟩

theorem prbsTxEnable_facts (hthere : s.laneThere l.val = true) : ∃ t, execPrbsTxEnable l s = .next t ∧
    t.flag Reg.LANE_L_CTL_PRBS_TX (laneReg l.val) = true ∧ t.fresh = s.fresh + 1 := by
  have hin : laneReg l.val < Reg.LANE_L_CTL_PRBS_TX.count := laneReg_lt l.isLt
  have hflag : ((s.setFlag Reg.LANE_L_CTL_PRBS_TX true (laneReg l.val)).relayEnd l.val).flag Reg.LANE_L_CTL_PRBS_TX (laneReg l.val) = true :=
    (flag_of_moves mv_relayEnd (by decide +kernel) hin).trans (flag_setFlag_same (by decide) (by decide) hin)
  have hfresh : ((s.setFlag Reg.LANE_L_CTL_PRBS_TX true (laneReg l.val)).relayEnd l.val).fresh = s.fresh := by
    rw [mv_relayEnd.fresh (by decide +kernel)]
    simp [State.setFlag]
  have hslots : ∀ u : State, (if u.sendsPrbs l.val then u.prbsSlots l.val 1 else u).flag Reg.LANE_L_CTL_PRBS_TX (laneReg l.val) =
      u.flag Reg.LANE_L_CTL_PRBS_TX (laneReg l.val) ∧ (if u.sendsPrbs l.val then u.prbsSlots l.val 1 else u).fresh = u.fresh := by
    intro u
    split
    · exact ⟨flag_of_moves mv_prbsSlots (by decide +kernel) hin, mv_prbsSlots.fresh (by decide +kernel)⟩
    · exact ⟨rfl, rfl⟩
  have hseed : ∀ (u : State) (x : LaneSt), (({ u with fresh := u.fresh + 1 } : State).setLane l.val x).flag Reg.LANE_L_CTL_PRBS_TX (laneReg l.val) =
      u.flag Reg.LANE_L_CTL_PRBS_TX (laneReg l.val) ∧ (({ u with fresh := u.fresh + 1 } : State).setLane l.val x).fresh = u.fresh + 1 :=
    fun _ _ => ⟨rfl, rfl⟩
  refine ⟨_, if_pos hthere, ?_, ?_⟩
  · exact (hslots _).1.trans ((hseed _ _).1.trans hflag)
  · exact (hslots _).2.trans ((hseed _ _).2.trans (congrArg (· + 1) hfresh))

/-- A lane that delivers to no port leaves its registers as they are. -/
theorem laneOut_get_of_apart {f : Fld} {j : Nat} (h : (s.lane n).joined = false) : (s.laneOut n).get f j = s.get f j := by
  unfold State.laneOut
  dsimp only
  rw [if_pos (by simp [h])]
  rfl

theorem prbsRxEnable_facts (hthere : s.laneThere l.val = true) (hst : s.rxState l.val ≠ 0) : ∃ t, execPrbsRxEnable l s = .next t ∧
    t.flag Reg.LANE_L_CTL_PRBS_RX (laneReg l.val) = true ∧ ((s.lane l.val).joined = false → t.rxState l.val = 5) := by
  have hin : laneReg l.val < Reg.LANE_L_CTL_PRBS_RX.count := laneReg_lt l.isLt
  have hrx : laneReg l.val < Reg.LANE_L_STATUS_RX_STATE.count := laneReg_lt l.isLt
  have hflag : (s.setFlag Reg.LANE_L_CTL_PRBS_RX true (laneReg l.val)).flag Reg.LANE_L_CTL_PRBS_RX (laneReg l.val) = true :=
    flag_setFlag_same (by decide) (by decide) hin
  have hlanes : ((s.setFlag Reg.LANE_L_CTL_PRBS_RX true (laneReg l.val)).setRx l.val 5).lane l.val = s.lane l.val :=
    lane_congr (by simp [State.setRx, State.setFlag])
  refine ⟨_, if_pos hthere, ?_, fun hjoined => ?_⟩
  · unfold State.prbsRx
    dsimp only
    split
    · rw [flag_of_moves mv_showTx (by decide +kernel) hin, State.flag, get_setLane, ← State.flag, flag_of_moves mv_laneOut (by decide +kernel) hin,
        flag_of_moves mv_setRx (by decide +kernel) hin, hflag]
    · rw [if_neg (by simp), hflag]
  · unfold State.prbsRx
    dsimp only
    split
    · rw [State.rxState, State.showTx, get_put_apart (by decide) hrx, get_setLane, laneOut_get_of_apart (by rw [hlanes, hjoined]), State.setRx, get_put_same (by decide) hrx]
      rfl
    next hno =>
      have h5 : s.rxState l.val = 5 := by
        simpa [hst] using hno
      rw [if_neg (by simp), State.rxState, get_setFlag_apart (by decide) hrx]
      exact h5

theorem transmitAlign_facts {p : Fin 33} : ∃ t, execTransmitAlign p s = .next t ∧ (t.port p.val).alignSeq = ((s.port p.val).alignSeq + 1) % 65536 :=
  ⟨_, rfl, by rw [port_setPort, if_pos rfl]⟩

theorem alignSent_facts {p : Fin 33} (hone : (alignLanes p.val).filter (fun k => s.sendsAlign k) = [n]) : ∃ t, execTransmitAlign p s = .next t ∧
    t.outbox = (onLine n (s.lane n).scrambler [laneCt 0x02 n (s.port p.val).alignSeq]).1.reverse ++ s.outbox := by
  refine ⟨_, rfl, ?_⟩
  rw [setPort_outbox, hone]
  exact outbox_sendBlocks

/-- A line that head transmit sends is noted; it waits for the next, as the frame goes on. -/
theorem headTransmitLine_facts {p : PortIx} {y : Nat} {f : Frame} (hnext : s.headLineNext p.val = some (f, y)) (hnum : f.num = n)
    (hframe : s.frame n = some f) (hhead : (s.port p.val).head = some n) (hsrc : s.get Reg.LANE_PORT_CTL_TX_SRC p.val = 2)
    (hwait : s.txWaits p.val = false) (hover : f.overFor p.val = false) :
    ∃ t, execHeadTransmitLine p n y s = .next t ∧ (t.port p.val).headSent = (s.port p.val).headSent ++ [y] := by
  have hport : (s.headLine p.val f y).port p.val = s.port p.val := port_congr (mv_headLine.ports (by decide +kernel))
  have hcap : (s.headLine p.val f y).cap = s.cap := mv_headLine.cap (by decide +kernel)
  have hsent : ∀ u : State, u.port p.val = s.port p.val → u.cap = s.cap →
      ((u.setPort p.val { u.port p.val with headSent := (u.port p.val).headSent ++ [y] }).headSweep.port p.val).headSent =
        (s.port p.val).headSent ++ [y] := by
    intro u hp hc
    rw [port_headSweep (n := n) (f := f), port_setPort, if_pos rfl, hp]
    · rw [port_setPort, if_pos rfl, hp]
      exact hhead
    · exact (frame_congr hc).trans hframe
    · exact hover
  refine ⟨_, ?_, hsent _ hport hcap⟩
  unfold execHeadTransmitLine
  rw [hnext]
  dsimp only
  rw [if_neg (by simp [hsrc, hnum, hwait]), if_pos (by simp [hhead])]

end Lane

/-! ### A frame that closes without a forme -/

/-- A state that differs in its frames only. -/
def framed (s : State) (fs : List Frame) : State := { s with cap := { s.cap with frames := fs } }

section Closing
variable {s : State} {n : Nat}

/-- Frame `n` is closed, and no take stores it. -/
def closedOut (n : Nat) (fs : List Frame) : Prop := ∀ g ∈ fs, g.num = n → g.isOpen = false ∧ g.span = none

theorem mem_of_frame {f : Frame} (h : s.frame n = some f) : f ∈ s.cap.frames ∧ f.num = n :=
  ⟨List.mem_of_find?_eq_some h, by simpa using List.find?_some h⟩

theorem closedOut_map {fs : List Frame} {f : Frame} (hnum : f.num = n) (hopen : f.isOpen = false) (hspan : f.span = none) :
    closedOut n (fs.map fun g => if g.num == f.num then f else g) := by
  intro g hg hgn
  obtain ⟨e, -, rfl⟩ := List.mem_map.mp hg
  by_cases he : (e.num == f.num) = true
  · rw [if_pos he]
    exact ⟨hopen, hspan⟩
  · rw [if_neg he] at hgn
    exact absurd (beq_iff_eq.mpr (hgn.trans hnum.symm)) he

/-- A tile row of such a frame only frees its slots. -/
theorem cutRow_closedOut {r : Nat} {fs : List Frame} (h : closedOut n fs) : ∃ gs, (framed s fs).cutRow n r = framed s gs ∧ closedOut n gs := by
  unfold State.cutRow
  split
  · exact ⟨fs, rfl, h⟩
  next f hf =>
    obtain ⟨hmem, hnum⟩ := mem_of_frame hf
    obtain ⟨hopen, hspan⟩ := h f hmem hnum
    split
    · exact ⟨fs, rfl, h⟩
    · dsimp only
      rw [if_neg (c := (f.span.isSome && !f.dropped) = true) (by simp [hspan])]
      exact ⟨_, rfl, closedOut_map hnum hopen hspan⟩

theorem cutRows_closedOut {fs : List Frame} (h : closedOut n fs) : ∃ gs, (framed s fs).cutRows n = framed s gs ∧ closedOut n gs := by
  have hrows : ∀ (l : List Nat) (fs : List Frame), closedOut n fs →
      ∃ gs, l.foldl (fun (t : State) r => t.cutRow n r) (framed s fs) = framed s gs ∧ closedOut n gs := by
    intro l
    induction l with
    | nil => exact fun fs h => ⟨fs, rfl, h⟩
    | cons r l ih =>
      intro fs h
      obtain ⟨gs, hcut, hgs⟩ := cutRow_closedOut (s := s) (r := r) h
      rw [List.foldl_cons, hcut]
      exact ih gs hgs
  unfold State.cutRows
  split
  · exact ⟨fs, rfl, h⟩
  · exact hrows _ fs h

/-- Without a take there is none to close or to begin. -/
theorem closing_idle (hcur : s.currentTake = none) (hstop : s.cap.stopSeg = none) (hnext : s.nextTake = none) :
    s.limitCheck.stopCheck.chain = s := by
  have hlimit : s.limitCheck = s := by rw [State.limitCheck, hcur]
  have hcheck : s.stopCheck = s := by rw [State.stopCheck, hstop]
  rw [hlimit, hcheck, State.chain, State.promote, hcur, hnext]

theorem closeFrame_closedOut {f : Frame} (hframe : s.frame n = some f) (hopen : f.isOpen = true) (hspan : f.span = none)
    (hstop : s.cap.stopSeg = none) (hcur : s.currentTake = none) (hnext : s.nextTake = none) :
    closedOut n (s.closeFrame n).cap.frames := by
  obtain ⟨-, hnum⟩ := mem_of_frame hframe
  obtain ⟨gs, hcut, hgs⟩ := cutRows_closedOut (s := s) (n := n) (closedOut_map (fs := s.cap.frames) (f := { f with isOpen := false }) hnum rfl hspan)
  have hclose : s.closeFrame n = (framed s gs).retire := by
    unfold State.closeFrame
    rw [hframe]
    dsimp only
    rw [if_pos hopen, ← closing_idle (s := framed s gs) hcur hstop hnext]
    exact congrArg (fun u : State => u.limitCheck.stopCheck.chain.retire) hcut
  rw [hclose]
  exact fun g hg => hgs g (List.mem_filter.1 hg).1

theorem frameTimeout_facts {f : Frame} (hframe : s.frame n = some f) (hopen : f.isOpen = true) (hspan : f.span = none)
    (htime : f.devtime + f.timeout * 16000 ≤ s.now) (hstop : s.cap.stopSeg = none) (hcur : s.currentTake = none) (hnext : s.nextTake = none) :
    ∃ t, execFrameTimeout n s = .next t ∧ ∀ g ∈ t.openFrames, g.num ≠ n := by
  refine ⟨(s.closeFrame n).headSweep, ?_, fun g hg hn => ?_⟩
  · unfold execFrameTimeout
    rw [hframe]
    exact if_neg (by simp [hopen, htime])
  · rw [State.openFrames, mv_headSweep.cap (by decide +kernel)] at hg
    obtain ⟨hmem, hgopen⟩ := List.mem_filter.mp hg
    rw [(closeFrame_closedOut hframe hopen hspan hstop hcur hnext g hmem hn).1] at hgopen
    exact absurd hgopen (by decide)

end Closing

/-- Settles O19: writes of the port's and the lanes' control registers, bursts, PRBS, ALIGN blocks, head transmit, and the closing of a frame
that no take stores. -/
theorem transmit : Obligations.Transmit := by
  refine ⟨fun p v s hawake hunit hbusy => ?_, fun l v s hthere => ?_, fun l s hthere hopen hprbs => ?_, fun l s hin => ?_,
    fun l s hthere => ?_, fun l s hthere => ?_, fun l s hthere hst => ?_, fun p s => ?_, fun p n s hone => ?_,
    fun p n y f s hline hnum hframe hhead hsrc hwait hover => ?_,
    fun n f s hframe hopen hspan htime hstop hcur hq => ?_⟩
  · obtain ⟨t, hnext, htx, hwidth, hrej⟩ := lanePortCtlWrite_facts (v := v) hawake hunit hbusy
    exact ⟨t, hnext, htx, hwidth, hrej, keeps_of_next mv_execLanePortCtlWrite hnext (by decide +kernel)⟩
  · obtain ⟨t, hnext, hpol⟩ := laneEgressChange_facts (v := v) hthere
    exact ⟨t, hnext, hpol, keeps_of_next mv_execLaneEgressChange hnext (by decide +kernel)⟩
  · have hnext : execLaneRetrain l s = .next (s.trainStart l.val) := if_pos hthere
    obtain ⟨hburst, hcount, hout⟩ := trainStart_facts hopen hprbs
    exact ⟨_, hnext, hburst, hcount, hout, keeps_of_next mv_execLaneRetrain hnext (by decide +kernel)⟩
  · obtain ⟨t, hnext, hburst⟩ := trainingBurstEnd_facts hin
    exact ⟨t, hnext, hburst, keeps_of_next mv_execTrainingBurstEnd hnext (by decide +kernel)⟩
  · obtain ⟨t, hnext, hzero⟩ := laneCntClr_facts hthere
    exact ⟨t, hnext, hzero, keeps_of_next mv_execLaneCntClr hnext (by decide +kernel)⟩
  · obtain ⟨t, hnext, hflag, hfresh⟩ := prbsTxEnable_facts hthere
    exact ⟨t, hnext, hflag, hfresh, keeps_of_next mv_execPrbsTxEnable hnext (by decide +kernel)⟩
  · obtain ⟨t, hnext, hflag, hrx⟩ := prbsRxEnable_facts hthere hst
    exact ⟨t, hnext, hflag, hrx, keeps_of_next mv_execPrbsRxEnable hnext (by decide +kernel)⟩
  · obtain ⟨t, hnext, hseq⟩ := transmitAlign_facts (s := s) (p := p)
    exact ⟨t, hnext, hseq, keeps_of_next mv_execTransmitAlign hnext (by decide +kernel)⟩
  · obtain ⟨t, hnext, hout⟩ := alignSent_facts hone
    exact ⟨t, hnext, hout, keeps_of_next mv_execTransmitAlign hnext (by decide +kernel)⟩
  · obtain ⟨t, hnext, hsent⟩ := headTransmitLine_facts hline hnum hframe hhead hsrc hwait hover
    exact ⟨t, hnext, hsent, keeps_of_next mv_execHeadTransmitLine hnext (by decide +kernel)⟩
  · obtain ⟨t, hnext, hclosed⟩ := frameTimeout_facts hframe hopen hspan htime hstop hcur hq
    exact ⟨t, hnext, hclosed, keeps_of_next mv_execFrameTimeout hnext (by decide +kernel)⟩

end Sys2Proof.Proofs
end

section
/-!
Held frames and takes by what their operations leave of them; the completion of a forme and the end of a CLOSING take (04 R100, R106, R109,
R116, R122).
-/
set_option Elab.async false

namespace Sys2Proof.Proofs
open Sys2Proof Sys2Proof.Machine Sys2Proof.Laws

/-! ### Held frames -/

section Frames
variable {s t : State} {n : Nat} {f g : Frame}

/-- The list of held frames with `f` in the place of those of its number. -/
theorem find_map_frame {fs : List Frame} (hnum : f.num = n) (h : fs.find? (fun g => g.num == n) = some g) :
    (fs.map fun g => if g.num == f.num then f else g).find? (fun g => g.num == n) = some f := by
  induction fs with
  | nil => simp at h
  | cons e r ih =>
    by_cases he : e.num = n
    · rw [List.map_cons, if_pos (by simp [he, hnum]), List.find?_cons_of_pos (by simp [hnum])]
    · rw [List.find?_cons_of_neg (by simp [he])] at h
      rw [List.map_cons, if_neg (by simp [hnum, he]), List.find?_cons_of_neg (by simp [he]), ih h]

theorem frame_setFrame (hnum : f.num = n) (h : s.frame n = some g) : (s.setFrame f).frame n = some f := find_map_frame hnum h

theorem frame_setTake {seg : Nat} {x : TakeSt} : (s.setTake seg x).frame n = s.frame n := rfl

theorem take_setTake {seg : Nat} {x : TakeSt} : (s.setTake seg x).take seg = x := by
  rw [State.take, State.setTake, lookup_insertKey, Option.getD_some]

/-- One of the two latest frames is not forgotten. -/
theorem frame_retire (hlate : s.latestNum < n + 2) : s.retire.frame n = s.frame n := by
  show (s.cap.frames.filter _).find? (fun f => f.num == n) = s.cap.frames.find? (fun f => f.num == n)
  rw [List.find?_filter]
  congr 1
  funext f
  by_cases hf : f.num = n
  · simp [hf, hlate]
  · simp [hf]

theorem take_retire {seg : Nat} : s.retire.take seg = s.take seg := rfl

/-! ### Cutting rows leaves the ports of the frame alone -/

theorem settle_ports {c : CodedSort} {bad : List Nat} : (s.settle f c bad).1.num = f.num ∧ (s.settle f c bad).1.excluded = f.excluded := ⟨rfl, rfl⟩

theorem advance_ports {k : Nat} : (s.advance f k).1.num = f.num ∧ (s.advance f k).1.excluded = f.excluded := by
  induction k generalizing s f with
  | zero => exact ⟨rfl, rfl⟩
  | succ k ih =>
    unfold State.advance
    dsimp only
    split
    · exact ⟨rfl, rfl⟩
    · split
      · exact ih
      · split
        · exact ih
        · exact ih
        · exact ⟨rfl, rfl⟩

theorem advanceFrame_ports (h : s.frame n = some f) :
    ∃ g, (s.advanceFrame n).frame n = some g ∧ g.num = n ∧ g.excluded = f.excluded := by
  obtain ⟨-, hnum⟩ := mem_of_frame h
  unfold State.advanceFrame
  rw [h]
  dsimp only
  split
  · exact ⟨f, h, hnum, rfl⟩
  · obtain ⟨hn, hex⟩ := advance_ports (s := s) (f := f) (k := f.count + 1)
    exact ⟨_, frame_setFrame (hn.trans hnum) ((frame_congr (mv_advance.cap (by decide +kernel))).trans h), hn.trans hnum, hex⟩

theorem cutRow_ports {r : Nat} (h : s.frame n = some f) : ∃ g, (s.cutRow n r).frame n = some g ∧ g.num = n ∧ g.excluded = f.excluded := by
  obtain ⟨-, hnum⟩ := mem_of_frame h
  have hput : ∀ (l : List Nat) (u : State) (e : Frame), e.num = n → e.excluded = f.excluded → u.frame n = some e →
      ∃ g, ((l.foldl (fun (t : State) k => t.placeQueue n k) u).advanceFrame n).frame n = some g ∧ g.num = n ∧ g.excluded = f.excluded := by
    intro l u e hen hex hu
    have hcap : (l.foldl (fun (t : State) k => t.placeQueue n k) u).cap = u.cap := fold_cap fun _ _ => mv_placeQueue.cap (by decide +kernel)
    obtain ⟨g, hg, hgn, hgx⟩ := advanceFrame_ports ((frame_congr hcap).trans hu)
    exact ⟨g, hg, hgn, hgx.trans hex⟩
  unfold State.cutRow
  rw [h]
  dsimp only
  split
  · exact ⟨f, h, hnum, rfl⟩
  · split
    · refine hput _ _ _ ?_ ?_ (frame_setFrame ?_ h)
      · exact hnum
      · rfl
      · exact hnum
    · refine ⟨_, frame_setFrame ?_ h, ?_, ?_⟩
      · exact hnum
      · exact hnum
      · rfl

theorem cutRows_ports (h : s.frame n = some f) : ∃ g, (s.cutRows n).frame n = some g ∧ g.excluded = f.excluded := by
  have hrows : ∀ (l : List Nat) (u : State) (e : Frame), u.frame n = some e → e.excluded = f.excluded →
      ∃ g, (l.foldl (fun (t : State) r => t.cutRow n r) u).frame n = some g ∧ g.excluded = f.excluded := by
    intro l
    induction l with
    | nil => exact fun u e hu hex => ⟨e, hu, hex⟩
    | cons r l ih =>
      intro u e hu hex
      obtain ⟨g, hg, -, hgx⟩ := cutRow_ports (r := r) hu
      exact ih _ g hg (hgx.trans hex)
  unfold State.cutRows
  rw [h]
  exact hrows _ s f h rfl

/-- Excluded ports leave the frame, count as errors of the sequence, and show LINE_EV. -/
theorem excludePorts_facts {ps : List Nat} (h : s.frame n = some f) (hne : ps ≠ []) :
    (s.excludePorts n ps).flag Reg.CAP_STATUS_LINE_EV = true ∧
      (s.excludePorts n ps).get Reg.CAP_SEQ_ERR = min (s.get Reg.CAP_SEQ_ERR + ps.length) (2 ^ 32 - 1) ∧
      ∃ g, (s.excludePorts n ps).frame n = some g ∧ g.excluded = f.excluded ++ ps := by
  obtain ⟨-, hnum⟩ := mem_of_frame h
  have hcounted : ∀ e : Frame, e.num = n → e.excluded = f.excluded ++ ps →
      ((((s.setFrame e).add Reg.CAP_SEQ_ERR ps.length).event Reg.CAP_STATUS_LINE_EV).cutRows n).flag Reg.CAP_STATUS_LINE_EV = true ∧
      ((((s.setFrame e).add Reg.CAP_SEQ_ERR ps.length).event Reg.CAP_STATUS_LINE_EV).cutRows n).get Reg.CAP_SEQ_ERR =
        min (s.get Reg.CAP_SEQ_ERR + ps.length) (2 ^ 32 - 1) ∧
      ∃ g, ((((s.setFrame e).add Reg.CAP_SEQ_ERR ps.length).event Reg.CAP_STATUS_LINE_EV).cutRows n).frame n = some g ∧
        g.excluded = f.excluded ++ ps := by
    intro e hen hex
    have hframe : (((s.setFrame e).add Reg.CAP_SEQ_ERR ps.length).event Reg.CAP_STATUS_LINE_EV).frame n = some e :=
      (frame_congr (by simp [State.add])).trans (frame_setFrame hen h)
    obtain ⟨g, hg, hgx⟩ := cutRows_ports hframe
    refine ⟨?_, ?_, g, hg, hgx.trans hex⟩
    · rw [flag_of_moves mv_cutRows (by decide +kernel) (by decide)]
      exact event_flag (by decide) (by decide)
    · rw [get_of_moves mv_cutRows (by decide +kernel) (by decide), event_get (by decide) (by decide) (by decide) (by decide),
        get_add_same (by decide) (by decide)]
      rfl
  have hexclude : ∃ e : Frame, e.num = n ∧ e.excluded = f.excluded ++ ps ∧
      s.excludePorts n ps = (((s.setFrame e).add Reg.CAP_SEQ_ERR ps.length).event Reg.CAP_STATUS_LINE_EV).cutRows n := by
    unfold State.excludePorts
    rw [h]
    dsimp only
    rw [if_neg (by simp [hne])]
    refine ⟨_, ?_, ?_, rfl⟩
    · exact hnum
    · rfl
  obtain ⟨e, hen, hex, heq⟩ := hexclude
  rw [heq]
  exact hcounted e hen hex

end Frames

/-! ### The completion of a forme -/

section Completion
variable {s : State} {f : Frame} {n : Nat}

/-- What completion notes in a frame. -/
def completed (s : State) (f : Frame) : Frame :=
  { f with complete := true, takeSeq := (s.take (f.take.getD 0)).seqNext, missing := f.sorts.countP (fun e => e.2 != .complete) }

/-- The take's count goes on and the frame is complete. -/
def counted (s : State) (f : Frame) : State :=
  (s.setTake (f.take.getD 0) { s.take (f.take.getD 0) with seqNext := (s.take (f.take.getD 0)).seqNext + 1 }).setFrame (completed s f)

/-- The latest frame of a take that still records keeps its open header. -/
theorem finishForme_latest (h : s.frame s.latestNum = some f) (hst : s.takeState (f.take.getD 0) < 4) : s.finishForme s.latestNum = s := by
  unfold State.finishForme
  rw [h]
  dsimp only
  rw [if_pos (by simp [hst])]

theorem markComplete_latest (h : s.frame s.latestNum = some f) (hcomplete : f.complete = false) (hdropped : f.dropped = false)
    (hspan : f.span ≠ none) (hcount : f.count ≤ f.frontier) (hst : s.takeState (f.take.getD 0) < 4) :
    s.markComplete s.latestNum = counted s f := by
  obtain ⟨-, hnum⟩ := mem_of_frame h
  have hframe : (counted s f).frame (counted s f).latestNum = some (completed s f) := frame_setFrame hnum h
  have hlatest : (counted s f).finishForme (counted s f).latestNum = counted s f := finishForme_latest hframe hst
  unfold State.markComplete
  rw [h]
  dsimp only
  rw [if_neg (by simp [hcomplete, hdropped, hspan, hcount])]
  exact hlatest

theorem formeComplete_facts (h : s.frame s.latestNum = some f) (hcomplete : f.complete = false) (hdropped : f.dropped = false)
    (hspan : f.span ≠ none) (hcount : f.count ≤ f.frontier) (hst : s.takeState (f.take.getD 0) < 4) (hstop : s.cap.stopSeg = none)
    (hcur : s.currentTake ≠ none) :
    ∃ t, execFormeComplete s.latestNum s = .next t ∧ t.frame s.latestNum = some (completed s f) ∧
      (t.take (f.take.getD 0)).seqNext = (s.take (f.take.getD 0)).seqNext + 1 := by
  obtain ⟨-, hnum⟩ := mem_of_frame h
  have hstopped : (counted s f).stopCheck = counted s f := by
    unfold State.stopCheck
    rw [show (counted s f).cap.stopSeg = none from hstop]
  have hchain : (counted s f).chain = counted s f := by
    obtain ⟨k, hk⟩ := Option.ne_none_iff_exists'.mp hcur
    rw [State.chain, State.promote, show (counted s f).currentTake = some k from hk]
  refine ⟨(counted s f).retire, ?_, ?_, ?_⟩
  · rw [execFormeComplete, markComplete_latest h hcomplete hdropped hspan hcount hst, hstopped, hchain]
  · rw [frame_retire (s := counted s f) (show s.latestNum < s.latestNum + 2 by omega)]
    exact frame_setFrame hnum h
  · rw [take_retire]
    exact congrArg TakeSt.seqNext take_setTake

theorem certTimeReturned_facts {k : Nat} {r : List (Nat × Nat)} (hans : s.col.answers = (n, k) :: r) (h : s.frame n = some f)
    (hcomplete : f.complete = false) :
    ∃ t, execCertTimeReturned s = .next t ∧ t.frame n = some { f with cert := some k } ∧ t.col.answers = r := by
  obtain ⟨-, hnum⟩ := mem_of_frame h
  have hframe : ∀ c : ColSt, ({ s with col := c } : State).frame n = some f := fun _ => h
  refine ⟨({ s with col := { s.col with answers := r } } : State).setFrame { f with cert := some k }, ?_, frame_setFrame hnum (hframe _), rfl⟩
  unfold execCertTimeReturned
  rw [hans]
  dsimp only
  rw [hframe]
  dsimp only
  rw [if_neg (by simp [hcomplete])]

end Completion

/-! ### The end of a CLOSING take -/

section Closed
variable {s : State} {seg k : Nat}

theorem takeState_setTakeState {v : Nat} (hs : seg < 16) (hv : v < 8) : (s.setTakeState seg v).takeState seg = v := by
  rw [State.takeState, State.setTakeState, get_of_moves mv_noteSeg (by decide +kernel) hs, get_of_moves mv_writeSlot (by decide +kernel) hs,
    get_put_same (by decide) hs]
  exact Nat.mod_eq_of_lt hv

theorem takeState_setTakeState_ne {v : Nat} (hk : k < 16) (hne : k ≠ seg) :
    (s.setTakeState seg v).takeState k = s.takeState k := by
  rw [State.takeState, State.setTakeState, get_of_moves mv_noteSeg (by decide +kernel) hk, get_of_moves mv_writeSlot (by decide +kernel) hk,
    get_put_other rfl rfl (by decide) (Ne.symm hne)]
  rfl

/-- No take is queued: none takes over. -/
theorem nextTake_none (h : ∀ k < 16, s.takeState k ≠ 1) : s.nextTake = none := by
  unfold State.nextTake
  dsimp only
  rw [List.filter_eq_nil_iff.mpr fun k hk => by simp [h k (List.mem_range.mp hk)]]
  rfl

theorem chain_idle (h : ∀ k < 16, s.takeState k ≠ 1) : s.chain = s := by
  rw [State.chain, State.promote, nextTake_none h]
  cases s.currentTake with
  | none => rfl
  | some k => rfl

/-- What the end of a take leaves once its slot says CLOSED: an event and the completions of the commands that waited. -/
def closedTold (s : State) (seg : Nat) (waiting : List Nat) (result : Nat) : State :=
  waiting.foldl (fun (u : State) c => u.finish c 0 result) ((s.setTakeState seg 5).signal 0 4)

theorem takeState_closedTold {waiting : List Nat} {result : Nat} (hs : seg < 16) :
    (closedTold s seg waiting result).takeState seg = 5 ∧
      ∀ k < 16, k ≠ seg → (closedTold s seg waiting result).takeState k = s.takeState k := by
  have htold : ∀ k < 16, (closedTold s seg waiting result).takeState k = (s.setTakeState seg 5).takeState k := fun k hk =>
    (fold_get fun u c => get_of_moves mv_finish (by decide +kernel) hk).trans (get_of_moves mv_signal (by decide +kernel) hk)
  exact ⟨(htold seg hs).trans (takeState_setTakeState hs (by decide)), fun k hk hne => (htold k hk).trans (takeState_setTakeState_ne hk hne)⟩

/-- A CLOSING take whose formes are done closes once its record has come or is given up. -/
theorem tryClose_closes (hs : seg < 16) (hst : s.takeState seg = 4) (hpending : s.pendingFrames seg = [])
    (hdone : ((s.take seg).recordArrived || (s.take seg).uncertified) = true) :
    (s.tryClose seg).takeState seg = 5 ∧ ∀ k < 16, k ≠ seg → (s.tryClose seg).takeState k = s.takeState k := by
  have hclosed : ∀ (u : State) (x : TakeSt) (w : List Nat) (r : Nat), (∀ k, u.takeState k = s.takeState k) →
      (closedTold (u.setTake seg x) seg w r).takeState seg = 5 ∧
        ∀ k < 16, k ≠ seg → (closedTold (u.setTake seg x) seg w r).takeState k = s.takeState k := by
    intro u x w r hu
    obtain ⟨h5, hrest⟩ := takeState_closedTold (s := u.setTake seg x) (waiting := w) (result := r) hs
    exact ⟨h5, fun k hk hne => (hrest k hk hne).trans (hu k)⟩
  unfold State.tryClose
  rw [if_neg (by simp [hst, hpending])]
  dsimp only
  rw [if_neg (c := (!(s.take seg).recordArrived && !(s.take seg).uncertified) = true)
    (by rw [← Bool.not_or, hdone]; decide)]
  refine hclosed _ _ _ _ fun k => ?_
  exact ite_both (P := fun u => State.takeState u k = s.takeState k) rfl rfl

theorem closes_then_chain (hs : seg < 16) (hst : s.takeState seg = 4) (hpending : s.pendingFrames seg = [])
    (hdone : ((s.take seg).recordArrived || (s.take seg).uncertified) = true) (hqueue : ∀ k < 16, s.takeState k ≠ 1) :
    (s.tryClose seg).chain.takeState seg = 5 := by
  obtain ⟨h5, hrest⟩ := tryClose_closes hs hst hpending hdone
  rw [chain_idle fun k hk => ?_]
  · exact h5
  · by_cases hk' : k = seg
    · rw [hk', h5]
      decide
    · rw [hrest k hk hk']
      exact hqueue k hk

theorem pendingFrames_congr {t : State} (h : t.cap.frames = s.cap.frames) : t.pendingFrames seg = s.pendingFrames seg := by
  rw [State.pendingFrames, h, State.pendingFrames]

theorem colophonRecordReceived_facts {seg : SegIx} {r : Nat × List Byte} (hrec : s.col.outRecords.find? (fun r => r.1 == seg.val) = some r)
    (hst : s.takeState seg.val = 4) (hid : fieldAt r.2 8 2 = s.takeId seg.val) (hgal : s.galActive = true)
    (hpending : s.pendingFrames seg.val = []) (hqueue : ∀ k < 16, s.takeState k ≠ 1) :
    ∃ t, execColophonRecordReceived seg s = .next t ∧ t.takeState seg.val = 5 := by
  have hstored : ∀ (u : State) (a : Nat) (b : List Byte), u.cap = s.cap → (∀ k, u.takeState k = s.takeState k) →
      ((((u.ingest a b []).setTake seg.val { (u.ingest a b []).take seg.val with recordArrived := true }).tryClose seg.val).chain).takeState
        seg.val = 5 := by
    intro u a b hcap hsame
    have hstate : ∀ k < 16, (u.ingest a b []).takeState k = s.takeState k := fun k hk =>
      (get_of_moves mv_ingest (by decide +kernel) hk).trans (hsame k)
    have hframes : (u.ingest a b []).cap = s.cap := (mv_ingest.cap (by decide +kernel)).trans hcap
    refine closes_then_chain seg.isLt ((hstate _ seg.isLt).trans hst) ?_ ?_ fun k hk => ?_
    · exact (pendingFrames_congr (congrArg CapSt.frames hframes)).trans hpending
    · rw [take_setTake]
      rfl
    · exact fun hno => hqueue k hk ((hstate k hk).symm.trans hno)
  refine ⟨_, ?_, hstored { s with col := { s.col with outRecords := s.col.outRecords.erase r } }
    (State.slotAddr { s with col := { s.col with outRecords := s.col.outRecords.erase r } } seg.val + 0x800) (padTo (roundUp r.2.length 64) r.2)
    rfl fun _ => rfl⟩
  unfold execColophonRecordReceived
  rw [hrec]
  dsimp only
  have hst' : (State.takeState { s with col := { s.col with outRecords := s.col.outRecords.erase r } } seg.val) = 4 := hst
  have hid' : fieldAt r.2 8 2 = (State.takeId { s with col := { s.col with outRecords := s.col.outRecords.erase r } } seg.val) := hid
  have hgal' : (State.galActive { s with col := { s.col with outRecords := s.col.outRecords.erase r } }) = true := hgal
  rw [if_neg (by simp [hst', hid', hgal'])]

theorem colophonRecordTimeout_facts {seg : SegIx} (hst : s.takeState seg.val = 4) (hrec : (s.take seg.val).recordArrived = false)
    (htime : (s.take seg.val).closeTime + 16000000 ≤ s.now) (hpending : s.pendingFrames seg.val = [])
    (hqueue : ∀ k < 16, s.takeState k ≠ 1) :
    ∃ t, execColophonRecordTimeout seg s = .next t ∧ t.takeState seg.val = 5 := by
  have hclosed : ∀ x : TakeSt, x.uncertified = true → (((s.setTake seg.val x).tryClose seg.val).chain).takeState seg.val = 5 := by
    intro x hx
    refine closes_then_chain seg.isLt hst hpending ?_ hqueue
    rw [take_setTake, hx, Bool.or_true]
  refine ⟨_, ?_, hclosed { s.take seg.val with uncertified := true } rfl⟩
  unfold execColophonRecordTimeout
  dsimp only
  rw [if_neg (by simp [hst, hrec, htime])]

end Closed

/-- Settles O20: late ports leave their frame, the latest frame completes, and a CLOSING take closes with its record or without it. -/
theorem formesAndClosing : Obligations.FormesAndClosing := by
  refine ⟨fun n f late s hframe hopen htime hlate hne => ?_, fun f s hframe hcomplete hdropped hspan hcount hst hstop hcur => ?_,
    fun n k r f s hans hframe hcomplete => ?_, fun seg r s hrec hst hid hgal hpending hqueue => ?_,
    fun seg s hst hrec htime hpending hqueue => ?_⟩
  · have hnext : execFsSkewTimeout n s = .next (s.excludePorts n late) := by
      unfold execFsSkewTimeout
      rw [hframe]
      dsimp only
      rw [if_neg (by simp [hopen, htime]), hlate]
      rfl
    obtain ⟨hflag, herr, hout⟩ := excludePorts_facts hframe hne
    exact ⟨_, hnext, hflag, herr, hout, keeps_of_next mv_execFsSkewTimeout hnext (by decide +kernel)⟩
  · obtain ⟨t, hnext, hdone, hseq⟩ := formeComplete_facts hframe hcomplete hdropped hspan hcount hst hstop hcur
    exact ⟨t, hnext, ⟨_, hdone, rfl, rfl, rfl⟩, hseq, keeps_of_next mv_execFormeComplete hnext (by decide +kernel)⟩
  · obtain ⟨t, hnext, hcert, hrest⟩ := certTimeReturned_facts hans hframe hcomplete
    exact ⟨t, hnext, hcert, hrest, keeps_of_next mv_execCertTimeReturned hnext (by decide +kernel)⟩
  · obtain ⟨t, hnext, hclosed⟩ := colophonRecordReceived_facts hrec hst hid hgal hpending hqueue
    exact ⟨t, hnext, hclosed, keeps_of_next mv_execColophonRecordReceived hnext (by decide +kernel)⟩
  · obtain ⟨t, hnext, hclosed⟩ := colophonRecordTimeout_facts hst hrec htime hpending hqueue
    exact ⟨t, hnext, hclosed, keeps_of_next mv_execColophonRecordTimeout hnext (by decide +kernel)⟩

end Sys2Proof.Proofs
end

section
/-!
Trigger inputs, the capture unit's configuration, its disable, its counters and the recovery of takes (04 R110, R125, R126; 06 R181).
-/
set_option Elab.async false

namespace Sys2Proof.Proofs
open Sys2Proof Sys2Proof.Machine Sys2Proof.Laws

section Trigger
variable {s : State} {i k : Nat} {x : TrigSt} {l : TrigIx}

theorem trig_setTrig : (s.setTrig i x).trig i = x := by
  rw [State.trig, State.setTrig, lookup_insertKey, Option.getD_some]

/-- An input whose transition has lasted MIN_WIDTH. -/
def settledTrig (s : State) (i k : Nat) : State :=
  s.setTrig i { s.trig i with filtered := (s.trig i).pin, since := none, settled := k + s.get Reg.CAP_TRIG_CFG_MIN_WIDTH i }

theorem settleTrig_lasted (hsince : (s.trig i).since = some k) (hlast : k + s.get Reg.CAP_TRIG_CFG_MIN_WIDTH i ≤ s.now) :
    s.settleTrig i = if s.qualifies i (s.trig i).pin then (settledTrig s i k).qualify i k else settledTrig s i k := by
  unfold State.settleTrig
  dsimp only
  rw [hsince]
  dsimp only
  rw [if_neg (by omega)]
  rfl

theorem triggerEdge_facts {b : Bool} : ∃ t, execTriggerEdge l b s = .next t ∧ (t.trig l.val).pin = b := by
  unfold execTriggerEdge
  dsimp only
  split
  next h => exact ⟨_, rfl, beq_iff_eq.mp h⟩
  · exact ⟨_, rfl, by rw [trig_setTrig]⟩

/-- What a qualifying event counts before a take sees it. -/
def eventCounted (s : State) (i k : Nat) : State := (s.inc Reg.CAP_TRIG_COUNT i).put64 Reg.CAP_TRIG_LAST k i

theorem qualify_moves : Moves 0x2400002000000000000200000000000000000000004410000f83c82008000000000000001070fc (eventCounted s i k) (s.qualify i k) := by
  unfold State.qualify
  dsimp only
  split
  · split
    · exact mvIte Moves.refl (mv_setFrame.mono (by decide +kernel))
    · exact Moves.refl
  · refine mvIte ?_ (Moves.step (Moves.step (Moves.step ?_ mv_setTake (by decide +kernel)) mv_judgeTake (by decide +kernel)) mv_chain
      (by decide +kernel))
    all_goals
      split
      · exact mvIte Moves.refl (mv_setFrame.mono (by decide +kernel))
      · exact Moves.refl

theorem eventCounted_facts (hi : i < 8) : (eventCounted s i k).get Reg.CAP_TRIG_COUNT i = min (s.get Reg.CAP_TRIG_COUNT i + 1) (2 ^ 32 - 1) ∧
    (eventCounted s i k).get64 Reg.CAP_TRIG_LAST i = k % 2 ^ 64 :=
  ⟨(get_put64_apart (by decide) hi).trans (get_inc_same (by decide) hi), get64_put64_same hi⟩

theorem triggerQualifyingEvent_facts (hq : s.qualifies l.val (s.trig l.val).pin = true) (hsince : (s.trig l.val).since = some k)
    (hlast : k + s.get Reg.CAP_TRIG_CFG_MIN_WIDTH l.val ≤ s.now) :
    ∃ t, execTriggerQualifyingEvent l s = .next t ∧ t.get Reg.CAP_TRIG_COUNT l.val = min (s.get Reg.CAP_TRIG_COUNT l.val + 1) (2 ^ 32 - 1) ∧
      t.get64 Reg.CAP_TRIG_LAST l.val = k % 2 ^ 64 := by
  have hsettle : s.settleTrig l.val = (settledTrig s l.val k).qualify l.val k := by rw [settleTrig_lasted hsince hlast, if_pos hq]
  obtain ⟨hcount, htime⟩ := eventCounted_facts (s := settledTrig s l.val k) (k := k) l.isLt
  refine ⟨_, if_pos hq, ?_, ?_⟩
  · rw [hsettle, get_of_moves qualify_moves (by decide +kernel) l.isLt, hcount]
    rfl
  · rw [hsettle, get64_of_moves qualify_moves (by decide +kernel) l.isLt, htime]

theorem triggerLevelInactive_facts (hlevel : s.trigIsLevel l.val = true) (hq : s.qualifies l.val (s.trig l.val).pin = false)
    (hsince : (s.trig l.val).since = some k) (hlast : k + s.get Reg.CAP_TRIG_CFG_MIN_WIDTH l.val ≤ s.now) :
    ∃ t, execTriggerLevelInactive l s = .next t ∧ (t.trig l.val).filtered = (s.trig l.val).pin ∧ (t.trig l.val).since = none := by
  have hsettle : s.settleTrig l.val = settledTrig s l.val k := by rw [settleTrig_lasted hsince hlast, if_neg (by simp [hq])]
  refine ⟨_, if_pos (by simp [hlevel, hq]), ?_⟩
  rw [hsettle, settledTrig, trig_setTrig]
  exact ⟨rfl, rfl⟩

end Trigger

section Unit
variable {s : State}

theorem capConfigWrite_facts {addr : Nat} {v : Word} (hmirror : mirrored addr = true) (hnew : s.written addr v ≠ s.rd addr)
    (hlock : s.capLocked addr = false) (hpassive : s.pairPassive = false) (htrig : ¬ (0x300200 ≤ addr ∧ addr < 0x300280))
    (hawake : s.awake = true) (habsent : s.absentAt addr = false) :
    ∃ t, execCapConfigWrite addr v s = .next t ∧ t.rd addr = s.written addr v := by
  have hlow : 0x300000 ≤ addr := by
    simp only [mirrored, Bool.and_eq_true, decide_eq_true_eq] at hmirror
    exact hmirror.1
  have hwrite : s.capWrite addr v = s.wr addr (s.written addr v) := by
    unfold State.capWrite
    dsimp only
    rw [if_neg (by simp only [Bool.and_eq_true, decide_eq_true_eq]; omega)]
    rfl
  unfold execCapConfigWrite
  dsimp only
  rw [if_neg (by simp [hmirror, hawake, habsent]), if_neg (by simpa using hnew), if_neg (by simp [hlock, hpassive]), hwrite]
  refine ⟨_, rfl, ?_⟩
  exact ite_both (P := fun t => State.rd t addr = s.written addr v) rd_wr_same rd_wr_same

theorem capDisable_facts (hst : s.get Reg.CAP_STATUS_STATE = 2) : ∃ t, execCapDisable s = .next t ∧ t.flag Reg.CAP_CTL_EN = false ∧
    t.get Reg.CAP_STATUS_STATE = 3 := by
  have hwrite : s.enableWrite capUnit false = (s.setFlag Reg.CAP_CTL_EN false).put Reg.CAP_STATUS_STATE 3 := by
    unfold State.enableWrite
    rw [show s.get capUnit.st 0 = 2 from hst]
    rfl
  have htell : ∀ u : State, Moves 0x2400002000000000000200000000000000000000004410000f83c82008000000000000001070fc u (u.markStop.stopCheck.chain) := fun u =>
    Moves.step (Moves.step (mv_markStop.mono (by decide +kernel)) mv_stopCheck (by decide +kernel)) mv_chain (by decide +kernel)
  have hdone : execCapDisable s = .next (((s.setFlag Reg.CAP_CTL_EN false).put Reg.CAP_STATUS_STATE 3).markStop.stopCheck.chain) := by
    unfold execCapDisable State.capEnable
    dsimp only
    rw [hwrite, if_neg (by rw [hst]; decide)]
  refine ⟨_, hdone, ?_, ?_⟩
  · rw [flag_of_moves (htell _) (by decide +kernel) (by decide), flag_put_apart (by decide) (by decide)]
    exact flag_setFlag_same (by decide) (by decide) (by decide)
  · rw [get_of_moves (htell _) (by decide +kernel) (by decide), get_put_same (by decide) (by decide)]
    rfl

/-- Elements written one after the other from the first on. -/
theorem get_fold_put {f : Fld} {v n j : Nat} (hfit : fits f = true) (h0 : f.stride ≠ 0) (hj : j < n) (hn : n ≤ f.count) :
    ((List.range n).foldl (fun (t : State) i => t.put f v i) s).get f j = v % 2 ^ f.width := by
  induction n with
  | zero => omega
  | succ n ih =>
    rw [List.range_succ, List.foldl_append, List.foldl_cons, List.foldl_nil]
    by_cases hjn : j = n
    · rw [hjn, get_put_same hfit (by omega)]
    · rw [get_put_other rfl rfl h0 (by omega), ih (by omega) (by omega)]

/-- A fold whose steps leave a word alone leaves it alone. -/
theorem rd_fold {α : Type} {l : List α} {g : State → α → State} {a : Nat} (h : ∀ t x, (g t x).rd a = t.rd a) : (l.foldl g s).rd a = s.rd a := by
  induction l generalizing s with
  | nil => rfl
  | cons x r ih => exact ih.trans (h s x)

theorem capCntClr_facts : ∃ t, execCapCntClr s = .next t ∧ (∀ k < 6, t.rd (Reg.CAP_LINE_ERR.base + 4 * k) = 0) ∧
    ∀ i < 8, t.get Reg.CAP_TRIG_COUNT i = 0 := by
  refine ⟨_, rfl, fun k hk => ?_, fun i hi => ?_⟩
  · rw [rd_fold fun t i => rd_put_apart ?_, rd_zeroWords hk]
    simp only [Fld.holds, Reg.CAP_TRIG_COUNT, Reg.CAP_LINE_ERR]
    omega
  · exact get_fold_put (by decide) (by decide) hi (by decide)

theorem takeRecovery_facts {d : Damage} (hrec : s.gal.recover = true) (hgal : s.galActive = true) (hrun : 2 ∉ s.cal.resetRuns) :
    ∃ t, execTakeRecovery d s = .next t ∧ t.gal.recover = false :=
  ⟨_, if_neg (by simp [hrec, hgal, hrun]), rfl⟩

end Unit

/-- Settles O21: what a trigger transition leaves of its input and counts, and the capture unit's configuration, disable, counters and
recovery. -/
theorem triggersAndConfiguration : Obligations.TriggersAndConfiguration := by
  refine ⟨fun i b s => ?_, fun i k s hq hsince hlast => ?_, fun i k s hlevel hq hsince hlast => ?_,
    fun addr v s hmirror hnew hlock hpassive htrig hawake habsent => ?_, fun s hst => ?_, fun s => ?_, fun d s hrec hgal hrun => ?_⟩
  · obtain ⟨t, hnext, hpin⟩ := triggerEdge_facts (l := i) (b := b) (s := s)
    exact ⟨t, hnext, hpin, keeps_of_next mv_execTriggerEdge hnext (by decide +kernel)⟩
  · obtain ⟨t, hnext, hcount, htime⟩ := triggerQualifyingEvent_facts hq hsince hlast
    exact ⟨t, hnext, hcount, htime, keeps_of_next mv_execTriggerQualifyingEvent hnext (by decide +kernel)⟩
  · obtain ⟨t, hnext, hfiltered, hnone⟩ := triggerLevelInactive_facts hlevel hq hsince hlast
    exact ⟨t, hnext, hfiltered, hnone, keeps_of_next mv_execTriggerLevelInactive hnext (by decide +kernel)⟩
  · obtain ⟨t, hnext, hword⟩ := capConfigWrite_facts hmirror hnew hlock hpassive htrig hawake habsent
    exact ⟨t, hnext, hword, keeps_of_next mv_execCapConfigWrite hnext (by decide +kernel)⟩
  · obtain ⟨t, hnext, hen, hstate⟩ := capDisable_facts hst
    exact ⟨t, hnext, hen, hstate, keeps_of_next mv_execCapDisable hnext (by decide +kernel)⟩
  · obtain ⟨t, hnext, hwords, hcounts⟩ := capCntClr_facts (s := s)
    exact ⟨t, hnext, hwords, hcounts, keeps_of_next mv_execCapCntClr hnext (by decide +kernel)⟩
  · obtain ⟨t, hnext, hdone⟩ := takeRecovery_facts (d := d) hrec hgal hrun
    exact ⟨t, hnext, hdone, keeps_of_next mv_execTakeRecovery hnext (by decide +kernel)⟩

end Sys2Proof.Proofs
end

section
/-!
The compositor array (05 R128 to R140), and rows of counters cleared together.
-/
set_option Elab.async false

namespace Sys2Proof.Proofs
open Sys2Proof Sys2Proof.Machine Sys2Proof.Laws

/-! ### Registers -/

section Registers
variable {s : State}

/-- A pair is read from the registers. -/
theorem get64_regs {t : State} {f : Fld} {j : Nat} (h : t.regs = s.regs) : t.get64 f j = s.get64 f j := by
  unfold State.get64 State.rd
  rw [h]

/-- Two pairs that share no word. -/
def pairsApart (f g : Fld) : Bool :=
  rowsApart f.base f.stride f.count g.base g.stride g.count && rowsApart (f.base + 4) f.stride f.count g.base g.stride g.count &&
    (rowsApart f.base f.stride f.count (g.base + 4) g.stride g.count && rowsApart (f.base + 4) f.stride f.count (g.base + 4) g.stride g.count)

theorem get64_put64_apart {f g : Fld} {v i j : Nat} (h : pairsApart f g = true) (hj : j < g.count) :
    (s.put64 f v i).get64 g j = s.get64 g j := by
  simp only [pairsApart, Bool.and_eq_true] at h
  obtain ⟨⟨hll, hhl⟩, hlh, hhh⟩ := h
  unfold State.put64
  split
  next hi =>
    have h1 := rowsApart_ne hll hi hj
    have h2 := rowsApart_ne hhl hi hj
    have h3 := rowsApart_ne hlh hi hj
    have h4 := rowsApart_ne hhh hi hj
    unfold State.get64
    rw [rd_wr_ne (by omega), rd_wr_ne (by omega), rd_wr_ne (by omega), rd_wr_ne (by omega)]
  · rfl

theorem get64_add64_apart {f g : Fld} {n i j : Nat} (h : pairsApart f g = true) (hj : j < g.count) : (s.add64 f n i).get64 g j = s.get64 g j :=
  get64_put64_apart h hj

theorem get64_add64_same {f : Fld} {n i : Nat} (hi : i < f.count) : (s.add64 f n i).get64 f i = min (s.get64 f i + n) (2 ^ 64 - 1) := by
  rw [State.add64, get64_put64_same hi]
  exact Nat.mod_eq_of_lt (by omega)

/-- A word at zero stays at zero while rows are cleared. -/
theorem rd_zeroRow_of_zero {f : Fld} {i n a : Nat} (h : s.rd a = 0) : (s.zeroRow f i n).rd a = 0 :=
  ite_both (P := fun t => State.rd t a = 0) (rd_zeroWords_of_zero h) h

theorem rd_zeroRows_of_zero {f : Fld} {l : List Nat} {m a : Nat} (h : s.rd a = 0) :
    (l.foldl (fun (t : State) c => t.zeroRow f c m) s).rd a = 0 := by
  induction l generalizing s with
  | nil => exact h
  | cons c r ih => exact ih (rd_zeroRow_of_zero h)

theorem rd_zeroRows {f : Fld} {n m c k : Nat} (hc : c < n) (hn : n ≤ f.count) (hk : k < m) :
    ((List.range n).foldl (fun (t : State) c => t.zeroRow f c m) s).rd (f.base + f.stride * c + 4 * k) = 0 := by
  induction n with
  | zero => omega
  | succ n ih =>
    rw [List.range_succ, List.foldl_append, List.foldl_cons, List.foldl_nil]
    by_cases hcn : c = n
    · rw [hcn]
      exact rd_zeroRow (by omega) hk
    · exact rd_zeroRow_of_zero (ih (by omega) (by omega))

/-- A write of the enable bit leaves it as written. -/
theorem flag_en_enableWrite {f : UnitFlds} {b : Bool} {i : Nat} (hfit : (fits f.en && f.en.width == 1 && apart f.st f.en && apart f.held f.en) = true)
    (hi : i < f.en.count) : (s.enableWrite f b i).flag f.en i = b := by
  simp only [Bool.and_eq_true, beq_iff_eq] at hfit
  obtain ⟨⟨⟨hfits, hwidth⟩, hst⟩, hheld⟩ := hfit
  have hset : (s.setFlag f.en b i).flag f.en i = b := flag_setFlag_same hfits hwidth hi
  unfold State.enableWrite
  dsimp only
  split
  · exact ite_both (P := fun t => State.flag t f.en i = b) ((flag_put_apart hst hi).trans hset) hset
  · exact (flag_setFlag_apart hheld hi).trans hset
  · exact ite_both (P := fun t => State.flag t f.en i = b) hset ((flag_put_apart hst hi).trans hset)
  · exact (flag_setFlag_apart hheld hi).trans hset
  · exact hset

end Registers

/-! ### The array -/

section Array
variable {s : State} {c k : Nat}

theorem filterMap_range_single {α : Type} {f : Nat → Option α} {y : α} {n : Nat} (hc : c < n) (hy : f c = some y)
    (hn : ∀ d < n, d ≠ c → f d = none) : (List.range n).filterMap f = [y] := by
  induction n with
  | zero => omega
  | succ n ih =>
    rw [List.range_succ, List.filterMap_append]
    by_cases hcn : c = n
    · have hnone : (List.range n).filterMap f = [] := by
        rw [List.filterMap_eq_nil_iff]
        intro d hd
        have := List.mem_range.mp hd
        exact hn d (by omega) (by omega)
      rw [hnone, ← hcn]
      simp [hy]
    · rw [ih (by omega) fun d hd => hn d (by omega)]
      simp [hn n (by omega) (Ne.symm hcn)]

theorem queue_setQueue {q : List (Nat × Nat)} : (s.setQueue c q).queue c = q := by
  have hput : ∀ u : State, (u.put Reg.CMP_CLUSTER_STATUS_QUEUE q.length c).queue c = u.queue c := fun u => by
    rw [State.queue, State.queue, put_cmp]
  rw [State.setQueue, hput, State.queue, lookup_insertKey, Option.getD_some]

theorem wanted_own (h : s.queue c ≠ []) : s.wanted c = some c := by
  unfold State.wanted
  dsimp only
  rw [List.cons_append, List.find?_cons_of_pos (by simpa using h)]

theorem grantTo_own {n : Nat} : grantTo c n [(c, c)] = some c := by
  simp [grantTo]

theorem grantTo_other {q n : Nat} (h : q ≠ c) : grantTo q n [(c, c)] = none := by
  simp [grantTo, Ne.symm h]

theorem grant_facts {x : Nat × Nat} {r : List (Nat × Nat)} (hq : s.queue c = x :: r) :
    (s.grant c k).cmp.held.lookup k = some { frame := x.1, sort := x.2 } ∧ (s.grant c k).queue c = r := by
  have hheld : ∀ h : List (Nat × Held), ({ s.setQueue c r with cmp := { (s.setQueue c r).cmp with held := h } } : State).cmp.held = h ∧
      ({ s.setQueue c r with cmp := { (s.setQueue c r).cmp with held := h } } : State).queue c = r := fun h => ⟨rfl, queue_setQueue⟩
  have hstolen : ∀ u : State, ((u.inc Reg.CMP_CLUSTER_STOLEN_IN (k / 16)).inc Reg.CMP_CLUSTER_STOLEN_OUT c).cmp = u.cmp := fun u => by
    simp [State.inc, State.add]
  unfold State.grant
  rw [hq]
  dsimp only
  split
  · exact ⟨lookup_insertKey, (hheld _).2⟩
  · rw [hstolen, State.queue, hstolen]
    exact ⟨lookup_insertKey, (hheld _).2⟩

theorem compositorTakeSort_facts {x : Nat × Nat} {r : List (Nat × Nat)} (hc : c < max 1 s.clusters) (hfree : s.freeComp c = some k)
    (hq : s.queue c = x :: r) (hother : ∀ d < max 1 s.clusters, d ≠ c → s.freeComp d = none) :
    ∃ t, execCompositorTakeSort s = .next t ∧ t.cmp.held.lookup k = some { frame := x.1, sort := x.2 } ∧ t.queue c = r := by
  have hone : (List.range (max 1 s.clusters)).filterMap (fun c => (s.freeComp c).map fun f => (c, f)) = [(c, k)] :=
    filterMap_range_single hc (by simp [hfree]) fun d hd hne => by simp [hother d hd hne]
  have hreqs : [(c, k)].filterMap (fun e => (s.wanted e.1).map fun q => (e.1, q)) = [(c, c)] := by
    simp [wanted_own (s := s) (c := c) (by rw [hq]; simp)]
  have hgrants : (List.range (max 1 s.clusters)).filterMap (fun q => (grantTo q (max 1 s.clusters) [(c, c)]).map fun c' => (q, lookupD 0 [(c, k)] c')) =
      [(c, k)] := filterMap_range_single hc (by simp [grantTo_own, lookupD]) fun d _ hne => by simp [grantTo_other hne]
  have hshow : ∀ u : State, u.showBusy.cmp = u.cmp := fun u => by simp [State.showBusy]
  obtain ⟨hheld, hqueue⟩ := grant_facts (k := k) hq
  refine ⟨(s.grant c k).showBusy, ?_, by rw [hshow]; exact hheld, by rw [State.queue, hshow]; exact hqueue⟩
  unfold execCompositorTakeSort
  dsimp only
  rw [hone, hreqs, hgrants]
  rfl

/-- A compositor has the copy `g` of its sort, and the frame is `f` after. -/
def copied (s : State) (i : Nat) (f : Frame) (g : Held) : State :=
  { s.setFrame f with cmp := { (s.setFrame f).cmp with held := insertKey (s.setFrame f).cmp.held i g } }

theorem copied_facts {i n : Nat} {f f' : Frame} {g : Held} (hframe : s.frame n = some f') (hnum : f.num = n) :
    (copied s i f g).cmp.held.lookup i = some g ∧ (copied s i f g).frame n = some f :=
  ⟨lookup_insertKey, frame_setFrame hnum hframe⟩

/-- The copy that a compositor takes of an undamaged sort. -/
def copyOf (s : State) (h : Held) (f : Frame) : Held :=
  { frame := h.frame, sort := h.sort, read := true, samples := f.samples h.sort, mode := (s.take (f.take.getD 0)).p.codeMode,
    bound := (s.take (f.take.getD 0)).p.bound, cfa := f.cfa, state := (f.sorts.lookup h.sort).getD .complete, poisoned := false }

theorem copyOf_facts {h : Held} {f : Frame} : (copyOf s h f).frame = h.frame ∧ (copyOf s h f).sort = h.sort ∧ (copyOf s h f).read = true ∧
    (copyOf s h f).samples = f.samples h.sort ∧ (copyOf s h f).poisoned = false := by
  simp only [copyOf, and_self]

theorem damageSamples_nil {x : List Nat} : s.damageSamples x [] = (x, s) := rfl

theorem assemblyReadComplete_facts {i : CompIx} {h : Held} {f : Frame} (hheld : s.cmp.held.lookup i.val = some h) (hread : h.read = false)
    (hframe : s.frame h.frame = some f) (hdropped : f.dropped = false) :
    ∃ t, execAssemblyReadComplete i [] s = .next t ∧
      (∃ g, t.cmp.held.lookup i.val = some g ∧ g.frame = h.frame ∧ g.sort = h.sort ∧ g.read = true ∧ g.samples = f.samples h.sort ∧
        g.poisoned = false) ∧ t.frame h.frame = some { f with slots := f.slots - 1 } := by
  obtain ⟨-, hnum⟩ := mem_of_frame hframe
  have hexec : execAssemblyReadComplete i [] s = .next (copied s i.val { f with slots := f.slots - 1 } (copyOf s h f)) := by
    unfold execAssemblyReadComplete
    rw [hheld]
    dsimp only
    rw [if_neg (by simp [hread]), hframe]
    dsimp only
    rw [damageSamples_nil, if_neg (c := f.dropped = true) (by simp [hdropped]), if_pos (c := ([] : List Nat).isEmpty = true) rfl, copied, copyOf]
    simp only [List.isEmpty_nil, Bool.not_true]
  obtain ⟨hcopy, hslots⟩ := copied_facts (s := s) (i := i.val) (f := { f with slots := f.slots - 1 }) (g := copyOf s h f) hframe hnum
  exact ⟨_, hexec, ⟨_, hcopy, copyOf_facts⟩, hslots⟩

/-- A compositor is free again. -/
def freed (s : State) (i : Nat) : State := ({ s with cmp := { s.cmp with held := eraseKey s.cmp.held i } } : State).showBusy

theorem freed_facts {i : Nat} : (freed s i).cmp = { s.cmp with held := eraseKey s.cmp.held i } ∧
    (freed s i).get64 Reg.CMP_SORTS = s.get64 Reg.CMP_SORTS :=
  ⟨put_cmp, (get64_put_apart (by decide) (by decide)).trans (get64_regs rfl)⟩

/-- A coded sort waits for its delivery. -/
def waiting (s : State) (y : CodedSort) : State := { s with cmp := { s.cmp with out := s.cmp.out ++ [y] } }

theorem waiting_facts {y : CodedSort} : (waiting s y).cmp.held = s.cmp.held ∧ (waiting s y).cmp.out = s.cmp.out ++ [y] ∧
    (waiting s y).get64 Reg.CMP_SORTS = s.get64 Reg.CMP_SORTS := ⟨rfl, rfl, get64_regs rfl⟩

/-- The counts of a coded sort. -/
def sortCounted (s : State) (i : Nat) (fell : Bool) : State :=
  if fell then ((s.add64 Reg.CMP_SORTS 1).add64 Reg.CMP_CLUSTER_CODED 1 (i / 16)).add64 Reg.CMP_FALLBACK 1
  else (s.add64 Reg.CMP_SORTS 1).add64 Reg.CMP_CLUSTER_CODED 1 (i / 16)

theorem sortCounted_facts {i : Nat} {fell : Bool} : (sortCounted s i fell).cmp = s.cmp ∧
    (sortCounted s i fell).get64 Reg.CMP_SORTS = min (s.get64 Reg.CMP_SORTS + 1) (2 ^ 64 - 1) := by
  have hsorts : ((s.add64 Reg.CMP_SORTS 1).add64 Reg.CMP_CLUSTER_CODED 1 (i / 16)).get64 Reg.CMP_SORTS = min (s.get64 Reg.CMP_SORTS + 1) (2 ^ 64 - 1) :=
    (get64_add64_apart (by decide) (by decide)).trans (get64_add64_same (by decide))
  have hcmp : ((s.add64 Reg.CMP_SORTS 1).add64 Reg.CMP_CLUSTER_CODED 1 (i / 16)).cmp = s.cmp := by simp [State.add64]
  unfold sortCounted
  split
  · rw [get64_add64_apart (by decide) (by decide), hsorts]
    exact ⟨put64_cmp.trans hcmp, rfl⟩
  · exact ⟨hcmp, hsorts⟩

theorem sortCoded_facts {i : CompIx} {h : Held} (hheld : s.cmp.held.lookup i.val = some h) (hread : h.read = true) :
    ∃ t, execSortCoded i s = .next t ∧ t.cmp.held = eraseKey s.cmp.held i.val ∧
      t.cmp.out = s.cmp.out ++ [{ frame := h.frame, sort := h.sort, bytes := (codeSort h.sort h.mode h.bound (h.cfa == 1)
        (h.state == .incomplete) h.samples).1, state := h.state, poisoned := h.poisoned }] ∧
      t.get64 Reg.CMP_SORTS = min (s.get64 Reg.CMP_SORTS + 1) (2 ^ 64 - 1) := by
  have hexec : ∃ y fell, y = { frame := h.frame, sort := h.sort, bytes := (codeSort h.sort h.mode h.bound (h.cfa == 1)
      (h.state == .incomplete) h.samples).1, state := h.state, poisoned := h.poisoned } ∧
      execSortCoded i s = .next (sortCounted (waiting (freed s i.val) y) i.val fell) := by
    refine ⟨_, (codeSort h.sort h.mode h.bound (h.cfa == 1) (h.state == .incomplete) h.samples).2, rfl, ?_⟩
    unfold execSortCoded
    rw [hheld]
    dsimp only
    rw [if_neg (by simp [hread])]
    simp only [sortCounted, waiting, freed]
  obtain ⟨y, fell, hy, hexec⟩ := hexec
  obtain ⟨hcmp, hsorts⟩ := sortCounted_facts (s := waiting (freed s i.val) y) (i := i.val) (fell := fell)
  obtain ⟨hfree, hout, hsame⟩ := waiting_facts (s := freed s i.val) (y := y)
  obtain ⟨hfreed, hbefore⟩ := freed_facts (s := s) (i := i.val)
  refine ⟨_, hexec, ?_, ?_, ?_⟩
  · rw [hcmp, hfree, hfreed]
  · rw [hcmp, hout, hfreed, hy]
  · rw [hsorts, hsame, hbefore]

theorem codedSortDelivery_facts {x : CodedSort} {r : List CodedSort} (hout : s.cmp.out = x :: r) (hgal : s.galActive = true) :
    ∃ t, execCodedSortDelivery s = .next t ∧ t.cmp.out = r := by
  unfold execCodedSortDelivery
  rw [hout]
  dsimp only
  rw [if_neg (by simp [hgal])]
  exact ⟨_, rfl, congrArg CmpSt.out (mv_acceptSort.cmp (by decide +kernel))⟩

theorem compositorMaskWrite_facts {i : ClusterIx} {v : Word} (hawake : s.awake = true) (hunit : s.hasUnit (.cluster i) = true)
    (hmask : bitsOf v 31 16 ≠ 0) :
    ∃ t, execCompositorMaskWrite i v s = .next t ∧ t.get Reg.CMP_CLUSTER_CTL_MASK i.val = bitsOf v 31 16 ∧
      t.flag Reg.CMP_CLUSTER_CTL_EN i.val = v.getLsbD 0 := by
  have hi : i.val < 32 := i.isLt
  unfold execCompositorMaskWrite
  dsimp only
  rw [if_neg (by simp [hawake, hunit]), if_neg hmask]
  refine ⟨_, rfl, ?_, ?_⟩
  · rw [State.clusterEnable, State.showClusters, get_put_apart (by decide) hi, get_enableWrite_apart (by decide) hi, get_put_same (by decide) hi]
    exact Nat.mod_eq_of_lt bitsOf_lt
  · rw [State.clusterEnable, State.showClusters, flag_put_apart (by decide) hi]
    exact flag_en_enableWrite (f := clusterUnit) (by decide) hi

end Array

/-- Settles O22: the array's steps by what they hold, code and deliver, with its masks and counters. -/
theorem compositorArray : Obligations.CompositorArray := by
  refine ⟨fun c k x r s hc hfree hq hother => ?_, fun k h f s hheld hread hframe hdropped => ?_, fun k h s hheld hread => ?_,
    fun c r s hout hgal => ?_, fun c v s hawake hunit hmask => ?_, fun s => ?_⟩
  · obtain ⟨t, hnext, hheld, hqueue⟩ := compositorTakeSort_facts hc hfree hq hother
    exact ⟨t, hnext, hheld, hqueue, keeps_of_next mv_execCompositorTakeSort hnext (by decide +kernel)⟩
  · obtain ⟨t, hnext, hnoted, hslot⟩ := assemblyReadComplete_facts hheld hread hframe hdropped
    exact ⟨t, hnext, hnoted, hslot, keeps_of_next mv_execAssemblyReadComplete hnext (by decide +kernel)⟩
  · obtain ⟨t, hnext, hfree, hout, hsorts⟩ := sortCoded_facts hheld hread
    exact ⟨t, hnext, hfree, hout, hsorts, keeps_of_next mv_execSortCoded hnext (by decide +kernel)⟩
  · obtain ⟨t, hnext, hrest⟩ := codedSortDelivery_facts hout hgal
    exact ⟨t, hnext, hrest, keeps_of_next mv_execCodedSortDelivery hnext (by decide +kernel)⟩
  · obtain ⟨t, hnext, hword, hen⟩ := compositorMaskWrite_facts hawake hunit hmask
    exact ⟨t, hnext, hword, hen, keeps_of_next mv_execCompositorMaskWrite hnext (by decide +kernel)⟩
  · have hnext : execCmpCntClr s = .next ((List.range 32).foldl (fun (t : State) c => t.zeroRow Reg.CMP_CLUSTER_CODED c 5)
        (s.zeroWords Reg.CMP_SORTS.base 5)) := rfl
    exact ⟨_, hnext, fun k hk => rd_zeroRows_of_zero (rd_zeroWords hk), fun c hc k hk => rd_zeroRows hc (by decide) hk,
      keeps_of_next mv_execCmpCntClr hnext (by decide +kernel)⟩

end Sys2Proof.Proofs
end

section
/-!
Take commands (04 R115, R116).
-/
set_option Elab.async false

namespace Sys2Proof.Proofs
open Sys2Proof Sys2Proof.Machine Sys2Proof.Laws

/-- An outstanding command that has begun its work. -/
def begun (s : State) (k : Cmd) : State := s.setCmd { k with begun := true }

section Take
variable {s : State} {seg c : Nat} {k : Cmd}

/-! ### ARM -/

theorem armCheck_seg {p : TakeParams} (h : s.armCheck seg p = none) : seg < 16 := by
  refine Nat.lt_of_not_le fun hlt => ?_
  unfold State.armCheck at h
  dsimp only at h
  rw [if_pos (c := (decide (16 ≤ seg) || !p.ok) = true) (by simp; omega)] at h
  repeat' split at h
  all_goals cases h

/-- A take that is created keeps its F_cap and P (04 R115). -/
theorem createTake_fields {id : Nat} {p : TakeParams} {first : Option Nat} (hs : seg < 16) :
    (s.createTake seg id p first).get Reg.CAP_SEG_FCAP seg = s.fCap seg % 2 ^ 32 ∧
      (s.createTake seg id p first).get Reg.CAP_SEG_PRE seg = s.preFrames seg p.preFrac % 2 ^ 32 := by
  have hfields : ∀ (u : State) (a b : Nat) (x : List Byte) (y : Nat),
      ((((u.put Reg.CAP_SEG_FCAP a seg).put Reg.CAP_SEG_PRE b seg).ingest y x []).setTakeState seg 1).get Reg.CAP_SEG_FCAP seg = a % 2 ^ 32 ∧
      ((((u.put Reg.CAP_SEG_FCAP a seg).put Reg.CAP_SEG_PRE b seg).ingest y x []).setTakeState seg 1).get Reg.CAP_SEG_PRE seg = b % 2 ^ 32 := by
    intro u a b x y
    constructor
    · rw [get_of_moves mv_setTakeState (by decide +kernel) hs, get_of_moves mv_ingest (by decide +kernel) hs, get_put_apart (by decide) hs,
        get_put_same (by decide) hs]
      rfl
    · rw [get_of_moves mv_setTakeState (by decide +kernel) hs, get_of_moves mv_ingest (by decide +kernel) hs, get_put_same (by decide) hs]
      rfl
  exact hfields _ _ _ _ _

theorem takeArm_facts (hready : Ready s c 0x10 k) (hpassive : s.pairPassive = false) (hcheck : s.armCheck (k.fld 0x18 1) k.takeParams = none) :
    ∃ t, execArm c s = .next t ∧ t.cmd c = none ∧ t.get Reg.CAP_SEG_FCAP (k.fld 0x18 1) = s.fCap (k.fld 0x18 1) % 2 ^ 32 ∧
      t.get Reg.CAP_SEG_PRE (k.fld 0x18 1) = s.preFrames (k.fld 0x18 1) (k.fld 0x1C 1) % 2 ^ 32 := by
  have hs : k.fld 0x18 1 < 16 := armCheck_seg hcheck
  have hdone : ∀ (u : State) (g : Bool) (id : Nat), ((if g then u else u.chain).finish c 0 id).cmd c = none ∧
      ((if g then u else u.chain).finish c 0 id).get Reg.CAP_SEG_FCAP (k.fld 0x18 1) = u.get Reg.CAP_SEG_FCAP (k.fld 0x18 1) ∧
      ((if g then u else u.chain).finish c 0 id).get Reg.CAP_SEG_PRE (k.fld 0x18 1) = u.get Reg.CAP_SEG_PRE (k.fld 0x18 1) := by
    intro u g id
    refine ⟨finish_gone, ?_, ?_⟩
    · rw [get_of_moves mv_finish (by decide +kernel) hs]
      exact ite_both (P := fun t => State.get t Reg.CAP_SEG_FCAP (k.fld 0x18 1) = u.get Reg.CAP_SEG_FCAP (k.fld 0x18 1)) rfl
        (get_of_moves mv_chain (by decide +kernel) hs)
    · rw [get_of_moves mv_finish (by decide +kernel) hs]
      exact ite_both (P := fun t => State.get t Reg.CAP_SEG_PRE (k.fld 0x18 1) = u.get Reg.CAP_SEG_PRE (k.fld 0x18 1)) rfl
        (get_of_moves mv_chain (by decide +kernel) hs)
  have hmean : execArm c s = .next ((if (begun s k).guardSeq.isSome then (begun s k).createTake (k.fld 0x18 1) (((begun s k).cap.takeId + 1) % 65536)
      k.takeParams (begun s k).guardSeq else ((begun s k).createTake (k.fld 0x18 1) (((begun s k).cap.takeId + 1) % 65536)
      k.takeParams (begun s k).guardSeq).chain).finish c 0 (((begun s k).cap.takeId + 1) % 65536)) := by
    refine (onCmd_ready hready).trans (congrArg Host.Outcome.next ?_)
    have hp : (s.setCmd { k with begun := true }).pairPassive = false := hpassive
    have hc : (s.setCmd { k with begun := true }).armCheck (k.fld 0x18 1) k.takeParams = none := hcheck
    dsimp only
    rw [if_neg (by rw [hp]; decide), hc]
    rfl
  obtain ⟨hgone, hfcap, hpre⟩ := hdone ((begun s k).createTake (k.fld 0x18 1) (((begun s k).cap.takeId + 1) % 65536) k.takeParams
    (begun s k).guardSeq) (begun s k).guardSeq.isSome (((begun s k).cap.takeId + 1) % 65536)
  obtain ⟨hf, hq⟩ := createTake_fields (s := begun s k) (id := ((begun s k).cap.takeId + 1) % 65536) (p := k.takeParams)
    (first := (begun s k).guardSeq) hs
  exact ⟨_, hmean, hgone, hfcap.trans hf, hpre.trans hq⟩

/-! ### A take leaves its segment -/

theorem toIdle_facts (hs : seg < 16) : (s.toIdle seg).takeState seg = 0 ∧ (s.toIdle seg).flag Reg.CAP_SEG_TAKE_RELEASE_HELD seg = false ∧
    (s.toIdle seg).hq = s.hq := by
  have hidle : ∀ (u : State) (x : CapSt), ({ u with cap := x } : State).takeState seg = u.takeState seg ∧
      ({ u with cap := x } : State).flag Reg.CAP_SEG_TAKE_RELEASE_HELD seg = u.flag Reg.CAP_SEG_TAKE_RELEASE_HELD seg ∧
      ({ u with cap := x } : State).hq = u.hq := fun _ _ => ⟨rfl, rfl, rfl⟩
  have hflag : ((s.setFlag Reg.CAP_SEG_TAKE_RELEASE_HELD false seg).setTakeState seg 0).flag Reg.CAP_SEG_TAKE_RELEASE_HELD seg = false := by
    rw [State.setTakeState, flag_of_moves mv_noteSeg (by decide +kernel) hs, flag_of_moves mv_writeSlot (by decide +kernel) hs,
      flag_put_apart (by decide) hs]
    exact flag_setFlag_same (by decide) (by decide) hs
  obtain ⟨hst, hheld, hhq⟩ := hidle ((s.setFlag Reg.CAP_SEG_TAKE_RELEASE_HELD false seg).setTakeState seg 0)
    { ((s.setFlag Reg.CAP_SEG_TAKE_RELEASE_HELD false seg).setTakeState seg 0).cap with
      takes := eraseKey ((s.setFlag Reg.CAP_SEG_TAKE_RELEASE_HELD false seg).setTakeState seg 0).cap.takes seg }
  refine ⟨hst.trans (takeState_setTakeState hs (by decide)), hheld.trans hflag, hhq.trans ?_⟩
  rw [mv_setTakeState.hq (by decide +kernel)]
  simp [State.setFlag]

theorem takeState_finish {tag st r d : Nat} {p : Bool} (hs : seg < 16) : (s.finish tag st r p d).takeState seg = s.takeState seg :=
  get_of_moves (f := Reg.CAP_SEG_TAKE_STATE) mv_finish (by decide +kernel) hs

theorem takeState_finishAll {tags : List Nat} {r : Nat} (hs : seg < 16) : (s.finishAll tags r).takeState seg = s.takeState seg :=
  fold_get (f := Reg.CAP_SEG_TAKE_STATE) fun _ _ => takeState_finish hs

theorem takeNamed_seg (h : s.takeNamed k = true) : k.fld 0x18 1 < 16 := by
  simp only [State.takeNamed, Bool.and_eq_true, decide_eq_true_eq] at h
  exact h.1.1

/-- A STOP that the take may obey, up to the take's state. -/
theorem stop_named (hready : Ready s c 0x11 k) (hwait : c ∉ (s.take (k.fld 0x18 1)).waiting) (hpassive : s.pairPassive = false)
    (hnamed : s.takeNamed k = true) {v : Nat} (hst : s.takeState (k.fld 0x18 1) = v) :
    (v = 1 → execStop c s = .next ((((begun s k).toIdle (k.fld 0x18 1)).finishAll (s.take (k.fld 0x18 1)).waiting 0).finish c 0 0)) ∧
      (v = 5 → execStop c s = .next ((begun s k).finish c 0 (s.take (k.fld 0x18 1)).stored)) := by
  have hw : ¬ ((s.setCmd { k with begun := true }).take (k.fld 0x18 1)).waiting.contains c = true := by
    simpa [State.take, State.setCmd] using hwait
  have hp : (s.setCmd { k with begun := true }).pairPassive = false := hpassive
  have hn : (s.setCmd { k with begun := true }).takeNamed k = true := hnamed
  have hv : (s.setCmd { k with begun := true }).takeState (k.fld 0x18 1) = v := hst
  constructor
  · rintro rfl
    refine (onCmd_ready hready).trans (congrArg Host.Outcome.next ?_)
    dsimp only
    rw [if_neg hw, if_neg (by rw [hp]; decide), if_neg (by rw [hn]; decide), hv]
    rfl
  · rintro rfl
    refine (onCmd_ready hready).trans (congrArg Host.Outcome.next ?_)
    dsimp only
    rw [if_neg hw, if_neg (by rw [hp]; decide), if_neg (by rw [hn]; decide), hv]
    rfl

/-! ### RELEASE -/

/-- A command that is no drain starts none by beginning. -/
theorem draining_begun (hop : k.op = 0x12) (h : s.draining seg = false) : (begun s k).draining seg = false := by
  have hnone : ∀ d ∈ (s.setCmd { k with begun := true }).hq.cmds, d ∈ s.hq.cmds ∨ d.op = 0x12 := by
    intro d hd
    obtain ⟨e, he, rfl⟩ := List.mem_map.mp hd
    by_cases htag : (e.tag == ({ k with begun := true } : Cmd).tag) = true
    · rw [if_pos htag]
      exact .inr hop
    · rw [if_neg htag]
      exact .inl he
  unfold State.draining State.drainsOf at h ⊢
  rw [List.any_eq_false] at h ⊢
  intro d hd
  obtain ⟨hmem, hdrain⟩ := List.mem_filter.mp hd
  rcases hnone d hmem with hold | h12
  · exact h d (List.mem_filter.mpr ⟨hold, hdrain⟩)
  · simp [h12] at hdrain

theorem release_facts (hready : Ready s c 0x12 k) (hbegun : k.begun = false) (hnamed : s.takeNamed k = true)
    (hst : s.takeState (k.fld 0x18 1) = 5) (hdrain : s.draining (k.fld 0x18 1) = false) :
    execRelease c s = .next (((begun s k).toIdle (k.fld 0x18 1)).finish c 0 0) := by
  have hn : (s.setCmd { k with begun := true }).takeNamed k = true := hnamed
  have hv : (s.setCmd { k with begun := true }).takeState (k.fld 0x18 1) = 5 := hst
  have hd : (s.setCmd { k with begun := true }).draining (k.fld 0x18 1) = false := draining_begun hready.opcode hdrain
  refine (onCmd_ready hready).trans (congrArg Host.Outcome.next ?_)
  dsimp only
  rw [if_neg (by rw [hbegun]; decide), if_neg (by simp [hn, hv]), if_neg (by rw [hd]; decide)]
  rfl

theorem releaseHeldComplete_facts {i : SegIx} (hheld : s.flag Reg.CAP_SEG_TAKE_RELEASE_HELD i.val = true) (hdrain : s.draining i.val = false)
    (hreleases : s.heldReleases i.val ≠ []) :
    ∃ t, execReleaseHeldComplete i s = .next t ∧ t.takeState i.val = 0 ∧ t.flag Reg.CAP_SEG_TAKE_RELEASE_HELD i.val = false := by
  have hs : i.val < 16 := i.isLt
  have hexec : execReleaseHeldComplete i s = .next ((s.toIdle i.val).finishAll (s.heldReleases i.val) 0) := by
    unfold execReleaseHeldComplete
    dsimp only
    rw [if_neg (by simp [hheld, hdrain]), if_neg (by simpa using hreleases)]
    rfl
  obtain ⟨hst, hflag, -⟩ := toIdle_facts (s := s) hs
  refine ⟨_, hexec, (takeState_finishAll hs).trans hst, ?_⟩
  have htold : ((s.toIdle i.val).finishAll (s.heldReleases i.val) 0).get Reg.CAP_SEG_TAKE_RELEASE_HELD i.val =
      (s.toIdle i.val).get Reg.CAP_SEG_TAKE_RELEASE_HELD i.val := fold_get fun _ _ => get_of_moves mv_finish (by decide +kernel) hs
  rw [State.flag, htold]
  exact hflag

end Take

/-- Settles O23: an ARM that passes its checks, and the STOP and RELEASE that leave a segment or find its take closed. -/
theorem takeCommands : Obligations.TakeCommands := by
  refine ⟨fun c k s hready hpassive hcheck => ?_, fun c k s hready hwait hpassive hnamed hst => ?_,
    fun c k s hready hwait hpassive hnamed hst => ?_, fun c k s hready hbegun hnamed hst hdrain => ?_,
    fun seg s hheld hdrain hreleases => ?_⟩
  · obtain ⟨t, hnext, hgone, hfcap, hpre⟩ := takeArm_facts hready hpassive hcheck
    exact ⟨t, hnext, hgone, hfcap, hpre, keeps_of_next mv_execArm hnext (by decide +kernel)⟩
  · have hnext := (stop_named hready hwait hpassive hnamed hst).1 rfl
    have hs := takeNamed_seg hnamed
    refine ⟨_, hnext, finish_gone, ?_, keeps_of_next mv_execStop hnext (by decide +kernel)⟩
    rw [takeState_finish hs, takeState_finishAll hs]
    exact (toIdle_facts hs).1
  · have hnext := (stop_named hready hwait hpassive hnamed hst).2 rfl
    refine ⟨_, hnext, finish_done setCmd_log, ?_, keeps_of_next mv_execStop hnext (by decide +kernel)⟩
    exact (takeState_finish (takeNamed_seg hnamed)).trans hst
  · have hnext := release_facts hready hbegun hnamed hst hdrain
    have hs := takeNamed_seg hnamed
    exact ⟨_, hnext, finish_gone, (takeState_finish hs).trans (toIdle_facts hs).1, keeps_of_next mv_execRelease hnext (by decide +kernel)⟩
  · obtain ⟨t, hnext, hst, hflag⟩ := releaseHeldComplete_facts hheld hdrain hreleases
    exact ⟨t, hnext, hst, hflag, keeps_of_next mv_execReleaseHeldComplete hnext (by decide +kernel)⟩

end Sys2Proof.Proofs
end

section
/-!
The galley: throttle, watermarks, error log, counters, initialization, scrub and self-refresh (06 R168, R169, R174 to R180).
-/
set_option Elab.async false

namespace Sys2Proof.Proofs
open Sys2Proof Sys2Proof.Machine Sys2Proof.Laws

section Words
variable {s : State} {f g : Fld} {a k n m j : Nat}

theorem rd_zeroWords_below (h : a < k) : (s.zeroWords k n).rd a = s.rd a := by
  induction n generalizing s k with
  | zero => rfl
  | succ n ih => exact (ih (by omega)).trans (rd_wr_ne (by omega))

/-- Rows of counters leave the words below them alone. -/
theorem rd_zeroRows_below {l : List Nat} (h : a < f.base) : (l.foldl (fun (t : State) c => t.zeroRow f c m) s).rd a = s.rd a :=
  rd_fold fun t c => ite_both (P := fun u => State.rd u a = t.rd a) (rd_zeroWords_below (by omega)) rfl

theorem get_zeroRows_below {l : List Nat} (h : g.base + g.stride * j < f.base) :
    (l.foldl (fun (t : State) c => t.zeroRow f c m) s).get g j = s.get g j := by
  rw [State.get, State.get, rd_zeroRows_below h]

end Words

section Galley
variable {s : State} {v : Word}

/-- Nothing waits: serving what waited changes nothing. -/
theorem serveDelayed_nil (h : s.gal.delayed = []) : s.serveDelayed = s := by
  have hsame : ∀ g : GalSt, g = s.gal → ({ s with gal := g } : State) = s := fun g hg => by rw [hg]
  unfold State.serveDelayed
  rw [h]
  refine hsame _ ?_
  simp only [List.filter_nil]
  rw [← h]

theorem drainThrottleRelease_facts (hpaused : s.gal.paused = true) (hlow : s.storeBytes ≤ s.get Reg.GAL_ARB_WM_LOW * 1024) :
    ∃ t, execDrainThrottleRelease s = .next t ∧ (s.gal.delayed = [] → t.gal = { s.gal with paused := false }) := by
  refine ⟨_, if_pos (by simp [hpaused, hlow]), fun h => ?_⟩
  rw [serveDelayed_nil (s := { s with gal := { s.gal with paused := false } }) h]

theorem galArbWmWrite_facts (hmax : v.toNat / 65536 ≤ 16384) (hord : v.toNat % 65536 < v.toNat / 65536) :
    ∃ t, execGalArbWmWrite v s = .next t ∧ t.get Reg.GAL_ARB_WM_HIGH = v.toNat / 65536 ∧ t.get Reg.GAL_ARB_WM_LOW = v.toNat % 65536 := by
  refine ⟨_, if_neg (by simp; omega), ?_, ?_⟩
  · rw [get_of_moves mv_throttle (by decide +kernel) (by decide), get_put_apart (by decide) (by decide), get_put_same (by decide) (by decide)]
    exact Nat.mod_eq_of_lt (Nat.lt_of_le_of_lt hmax (by decide))
  · rw [get_of_moves mv_throttle (by decide +kernel) (by decide), get_put_same (by decide) (by decide)]
    exact Nat.mod_eq_of_lt (Nat.mod_lt _ (by decide))

/-- The counters of the galley after CNT_CLR, before the throttle's ticks. -/
def galCleared (s : State) : State :=
  (List.range 4).foldl (fun (t : State) g => t.zeroRow Reg.GAL_STACK_CE g 5)
    ((((s.put64 Reg.GAL_THROTTLE 0).put Reg.GAL_SPILLS 0).put Reg.GAL_WR_DISCARD 0).put Reg.GAL_STORE_PEAK 0)

theorem galCleared_facts : (galCleared s).get64 Reg.GAL_THROTTLE = 0 ∧ (galCleared s).get Reg.GAL_SPILLS = 0 ∧
    (galCleared s).get Reg.GAL_WR_DISCARD = 0 ∧ (galCleared s).get Reg.GAL_STORE_PEAK = 0 ∧
    ∀ g < 4, ∀ k < 5, (galCleared s).rd (Reg.GAL_STACK_CE.base + Reg.GAL_STACK_CE.stride * g + 4 * k) = 0 := by
  refine ⟨?_, ?_, ?_, ?_, fun g hg k hk => rd_zeroRows hg (by decide) hk⟩
  · rw [galCleared, State.get64, rd_zeroRows_below (by decide), rd_zeroRows_below (by decide), ← State.get64,
      get64_put_apart (by decide) (by decide), get64_put_apart (by decide) (by decide), get64_put_apart (by decide) (by decide)]
    exact get64_put64_same (by decide)
  · rw [galCleared, get_zeroRows_below (by decide), get_put_apart (by decide) (by decide), get_put_apart (by decide) (by decide),
      get_put_same (by decide) (by decide)]
    rfl
  · rw [galCleared, get_zeroRows_below (by decide), get_put_apart (by decide) (by decide), get_put_same (by decide) (by decide)]
    rfl
  · rw [galCleared, get_zeroRows_below (by decide), get_put_same (by decide) (by decide)]
    rfl

theorem galCntClr_facts : ∃ t, execGalCntClr s = .next t ∧ t.get64 Reg.GAL_THROTTLE = 0 ∧ t.get Reg.GAL_SPILLS = 0 ∧
    t.get Reg.GAL_WR_DISCARD = 0 ∧ t.get Reg.GAL_STORE_PEAK = 0 ∧
    ∀ g < 4, ∀ k < 5, t.rd (Reg.GAL_STACK_CE.base + Reg.GAL_STACK_CE.stride * g + 4 * k) = 0 := by
  obtain ⟨hthrottle, hspills, hdiscard, hpeak, hstacks⟩ := galCleared_facts (s := s)
  have hticks : ∀ (u : State) (g : GalSt), ({ u with gal := g } : State).get64 Reg.GAL_THROTTLE = u.get64 Reg.GAL_THROTTLE ∧
      (∀ f j, ({ u with gal := g } : State).get f j = u.get f j) ∧ ∀ a, ({ u with gal := g } : State).rd a = u.rd a := fun u g =>
    ⟨get64_regs rfl, fun _ _ => rfl, fun _ => rfl⟩
  obtain ⟨h64, hget, hrd⟩ := hticks (galCleared s) { (galCleared s).gal with pausedTicks := 0 }
  exact ⟨_, rfl, h64.trans hthrottle, (hget _ _).trans hspills, (hget _ _).trans hdiscard, (hget _ _).trans hpeak,
    fun g hg k hk => (hrd _).trans (hstacks g hg k hk)⟩

/-- A granule that is touched is written. -/
theorem granuleWritten_touch {g : Nat} : (s.touchGranule g).granuleWritten g = true := by
  have hlisted : ∀ u : State, sget (fun _ => false) u.gal.written g = true → u.granuleWritten g = true := fun u h => by
    rw [State.granuleWritten, h, Bool.or_true]
  have hshown : ∀ (u : State) (c : Prop) [Decidable c] (n : Nat),
      (if c then (u.put Reg.GAL_INIT_PROGRESS n).initComplete else u.put Reg.GAL_INIT_PROGRESS n).gal = u.gal := fun u c _ n =>
    ite_both (P := fun t => State.gal t = u.gal) (by simp [State.initComplete, State.setFlag]) put_gal
  unfold State.touchGranule
  split
  next h => exact h
  · refine hlisted _ ?_
    rw [hshown]
    exact sget_sput_same (fun _ => false) s.gal.written g true

theorem backgroundInitGranule_facts {g : Nat} (hgal : s.galActive = true) (hsave : s.saving = false)
    (hdone : s.flag Reg.GAL_STATUS_INIT_DONE = false) (hgran : s.nextGranule = some g) :
    execBackgroundInitGranule s = .next (s.touchGranule g) := by
  unfold execBackgroundInitGranule
  rw [if_neg (by simp [hgal, hsave, hdone]), hgran]

theorem patrolScrubRead_facts {l : Nat} {d : Damage} (hen : s.flag Reg.GAL_SCRUB_EN = true) (hgal : s.galActive = true)
    (hsave : s.saving = false) (hline : s.nextScrub = some l) :
    ∃ t, execPatrolScrubRead d s = .next t ∧ t.gal.scrubLine = (l + 1) % (s.galSize / 64) := by
  unfold execPatrolScrubRead
  rw [if_neg (by simp [hen, hgal, hsave]), hline]
  exact ⟨_, rfl, rfl⟩

theorem selfRefreshExit_facts (hsr : s.get Reg.GAL_STATUS_SR = 2)
    (hlock : ∀ g < s.part.stackCount, (s.get Reg.CLK_PLL_STATUS_GPHY_LOCK >>> g) % 2 = 1) (haos : s.pwr.aosSafe = false)
    (hstep : s.pwr.lockstep = false) (htrip : s.pwr.trip = false) (hhold : s.pwr.thermalHold = false) (hsave : s.saving = false)
    (hreset : s.pwr.inReset = false) :
    ∃ t, execSelfRefreshExit s = .next t ∧ (s.gal.delayed = [] → t.get Reg.GAL_STATUS_SR = 0 ∧ t.gal = { s.gal with kept := false }) := by
  have hall : (List.range s.part.stackCount).all (fun g => (s.get Reg.CLK_PLL_STATUS_GPHY_LOCK >>> g) % 2 == 1) = true := by
    rw [List.all_eq_true]
    intro g hg
    exact beq_iff_eq.mpr (hlock g (List.mem_range.mp hg))
  have hshown : ∀ u : State, (u.put Reg.GAL_STATUS_SR 0).get Reg.GAL_STATUS_SR = 0 ∧ (u.put Reg.GAL_STATUS_SR 0).gal = u.gal := fun u =>
    ⟨get_put_same (by decide) (by decide), put_gal⟩
  unfold execSelfRefreshExit
  dsimp only
  rw [hall, if_neg (by simp [hsr, haos, hstep, htrip, hhold, hsave, hreset])]
  refine ⟨_, rfl, fun h => ?_⟩
  rw [serveDelayed_nil (by rw [(hshown _).2]; exact h)]
  exact hshown _

end Galley

/-- Settles O24: the throttle, the watermarks, the error log, the counters, the granules and the scrubber, and the exit from self-refresh. -/
theorem galley : Obligations.Galley := by
  refine ⟨fun s hpaused hlow => ?_, fun v s hmax hord => ?_, fun v s hvalid => ?_, fun s => ?_, fun g s hgal hsave hdone hgran => ?_,
    fun l dmg s hen hgal hsave hline => ?_, fun s hsr hlock haos hstep htrip hhold hsave hreset => ?_⟩
  · obtain ⟨t, hnext, hg⟩ := drainThrottleRelease_facts hpaused hlow
    exact ⟨t, hnext, hg, keeps_of_next mv_execDrainThrottleRelease hnext (by decide +kernel)⟩
  · obtain ⟨t, hnext, hhigh, hl⟩ := galArbWmWrite_facts (s := s) hmax hord
    exact ⟨t, hnext, hhigh, hl, keeps_of_next mv_execGalArbWmWrite hnext (by decide +kernel)⟩
  · have hnext : execGalErrorLogFree v s = .next (s.wr Reg.GAL_ERR_INFO_VALID.base (s.written Reg.GAL_ERR_INFO_VALID.base v)) := rfl
    exact ⟨_, hnext, rd_wr_same, keeps_of_next mv_execGalErrorLogFree hnext (by decide +kernel)⟩
  · obtain ⟨t, hnext, hthrottle, hspills, hdiscard, hpeak, hstacks⟩ := galCntClr_facts (s := s)
    exact ⟨t, hnext, hthrottle, hspills, hdiscard, hpeak, hstacks, keeps_of_next mv_execGalCntClr hnext (by decide +kernel)⟩
  · have hnext := backgroundInitGranule_facts hgal hsave hdone hgran
    exact ⟨_, hnext, granuleWritten_touch, keeps_of_next mv_execBackgroundInitGranule hnext (by decide +kernel)⟩
  · obtain ⟨t, hnext, hscrub⟩ := patrolScrubRead_facts (d := dmg) hen hgal hsave hline
    exact ⟨t, hnext, hscrub, keeps_of_next mv_execPatrolScrubRead hnext (by decide +kernel)⟩
  · obtain ⟨t, hnext, hg⟩ := selfRefreshExit_facts hsr hlock haos hstep htrip hhold hsave hreset
    exact ⟨t, hnext, hg, keeps_of_next mv_execSelfRefreshExit hnext (by decide +kernel)⟩

end Sys2Proof.Proofs
end

section
/-!
The PCIe link and BAR2: training, badly shaped accesses, reads and writes, the BAR's size, windows and pending messages
(08 R199 to R213).
-/
set_option Elab.async false

namespace Sys2Proof.Proofs
open Sys2Proof Sys2Proof.Machine Sys2Proof.Laws

section Training
variable {s u : State} {speed width w : Nat} {flit : Bool} {errs : List LinkErr}

/-- Some width is at most the trained and the allowed one: x1 is. -/
theorem linkWidth_found {m : Nat} (h : 0 < width) :
    ∃ w, [16, 8, 4, 2, 1].find? (fun w => decide (w ≤ min width (2 ^ m))) = some w := by
  refine Option.isSome_iff_exists.mp (List.find?_isSome.mpr ⟨1, by simp, decide_eq_true ?_⟩)
  exact Nat.le_min.mpr ⟨h, Nat.one_le_two_pow⟩

/-- The link at a rate and a width, in L0. -/
def linkShown (u : State) (rate w : Nat) (flit : Bool) : State :=
  let v := ((u.put Reg.PCIE_STATUS_RATE rate).put Reg.PCIE_STATUS_WIDTH w).setFlag Reg.PCIE_STATUS_FLIT flit
  { v with pcie := { v.pcie with linkUp := true } }

theorem linkShown_rate {rate : Nat} : (linkShown u rate w flit).get Reg.PCIE_STATUS_RATE = rate % 16 := by
  have hup : ∀ (v : State) (x : PcieSt), ({ v with pcie := x } : State).get Reg.PCIE_STATUS_RATE = v.get Reg.PCIE_STATUS_RATE :=
    fun _ _ => rfl
  rw [linkShown, hup, get_setFlag_apart (by decide) (by decide), get_put_apart (by decide) (by decide),
    get_put_same (by decide) (by decide)]
  rfl

/-- What resumes at L0 leaves the rate shown. -/
theorem resumed_rate (c : Bool) : (((if c = true then u.event Reg.PCIE_STATUS_LINK_DEGRADED_EV else u).resumeFn 0).resumeFn 1).get
    Reg.PCIE_STATUS_RATE = u.get Reg.PCIE_STATUS_RATE := by
  rw [get_of_moves mv_resumeFn (by decide +kernel) (by decide), get_of_moves mv_resumeFn (by decide +kernel) (by decide)]
  exact ite_both (P := fun t => State.get t Reg.PCIE_STATUS_RATE = u.get Reg.PCIE_STATUS_RATE)
    (event_get (by decide) (by decide) (by decide) (by decide)) rfl

/-- Logging the link's errors moves function registers and messages only. -/
theorem moves_logLinks : Moves 0x3cfff0a00000000000000000000000000000000000000000000000000000000000000000300000 s
    (errs.foldl State.logLink s) := mvFold Moves.refl fun t e h => h.step mv_logLink (by decide +kernel)

theorem linkTrained_facts (hspeed : 0 < speed) (hmax : speed ≤ 6) (hwidth : 0 < width)
    (hlock : s.flag Reg.CLK_PLL_STATUS_PCIE_LOCK = true) (hpor : s.pwr.por = false) (hperst : s.pwr.perst = false) :
    ∃ t, execLinkTrained speed width flit s errs = .next t ∧
      t.get Reg.PCIE_STATUS_RATE = min speed (s.get Reg.PCIE_CFG_MAX_RATE + 3) % 16 := by
  have hm := moves_logLinks (s := s) (errs := errs)
  have hpwr : (errs.foldl State.logLink s).pwr = s.pwr := hm.pwr (by decide +kernel)
  have hrate := get_of_moves hm (f := Reg.PCIE_CFG_MAX_RATE) (j := 0) (by decide +kernel) (by decide)
  have hlk := flag_of_moves hm (f := Reg.CLK_PLL_STATUS_PCIE_LOCK) (j := 0) (by decide +kernel) (by decide)
  obtain ⟨w, hw⟩ := linkWidth_found (m := (errs.foldl State.logLink s).get Reg.PCIE_CFG_MAX_WIDTH) hwidth
  unfold execLinkTrained
  rw [if_neg (c := (s.pwr.por || s.pwr.perst) = true) (by simp [hpor, hperst])]
  dsimp only
  rw [hw]
  dsimp only
  rw [if_neg (by rw [hpwr, hlk, hpor, hperst, hlock]; simp; omega)]
  refine ⟨_, rfl, (resumed_rate _).trans ((linkShown_rate).trans ?_)⟩
  rw [hrate]

end Training

section Bar2
variable {s : State} {fn o a len : Nat} {write : Bool} {dmg : Damage} {bytes : List (Option Byte)}

/-- An error message sets no Status bit but Signaled System Error. -/
theorem flag_errMessage {g : Fld} {j kind : Nat} (h : apart Reg.CFG_COMMAND_SSE g = true) (hj : j < g.count)
    (hmsg : frees 0x100000 g = true) : (s.errMessage fn kind).flag g j = s.flag g j := by
  have hsse : ∀ c : Bool, (if c = true then s.setFlag Reg.CFG_COMMAND_SSE true fn else s).flag g j = s.flag g j := fun c =>
    ite_both (P := fun t => State.flag t g j = s.flag g j) (flag_setFlag_apart h hj) rfl
  unfold State.errMessage
  exact ite_both (P := fun t => State.flag t g j = s.flag g j) (hsse _) ((flag_of_moves moves_emit hmsg hj).trans (hsse _))

theorem markUnc_abort {kind : Nat} (hfn : fn < 2) : (s.markUnc fn aerAbort kind).flag Reg.CFG_COMMAND_STA fn = true := by
  have hset : ∀ u : State, (u.setFlag Reg.CFG_COMMAND_STA true fn).flag Reg.CFG_COMMAND_STA fn = true := fun u =>
    flag_setFlag_same (by decide) (by decide) hfn
  unfold State.markUnc
  match kind with
  | 0 =>
    refine (flag_setFlag_apart (by decide) hfn).trans ((flag_put_apart (by decide) hfn).trans ?_)
    exact hset _
  | 1 =>
    refine (flag_setFlag_apart (by decide) hfn).trans ?_
    exact hset _
  | _ + 2 =>
    refine (flag_setFlag_apart (by decide) hfn).trans ?_
    exact hset _

theorem fatalStop_sta {kind : Nat} (hfn : fn < 2) :
    (s.fatalStop fn kind).flag Reg.CFG_COMMAND_STA fn = s.flag Reg.CFG_COMMAND_STA fn :=
  ite_both (P := fun t => State.flag t Reg.CFG_COMMAND_STA fn = s.flag Reg.CFG_COMMAND_STA fn)
    (flag_of_moves mv_contain (by decide +kernel) hfn) rfl

/-- A Completer Abort sets Signaled Target Abort. -/
theorem logUnc_abort {adv : Bool} (hfn : fn < 2) (hhas : s.hasFn fn = true) :
    (s.logUnc fn aerAbort adv).flag Reg.CFG_COMMAND_STA fn = true := by
  unfold State.logUnc
  rw [if_neg (by simp [hhas])]
  refine (fatalStop_sta hfn).trans ?_
  exact ite_both (P := fun t => State.flag t Reg.CFG_COMMAND_STA fn = true)
    ((flag_errMessage (by decide) hfn (by decide +kernel)).trans (markUnc_abort hfn)) (markUnc_abort hfn)

theorem busFault_host {f : FnIx} (hhas : s.hasFn f.val = true) :
    (s.busFault (if f.val = 0 then .host0 else .host1) write).flag Reg.CFG_COMMAND_STA f.val = true := by
  have hq : hostFn (if f.val = 0 then .host0 else .host1) = some f.val := by
    rcases f with ⟨n, hn⟩
    match n, hn with
    | 0, _ => rfl
    | 1, _ => rfl
  unfold State.busFault
  rw [hq]
  exact ite_both (P := fun t => State.flag t Reg.CFG_COMMAND_STA f.val = true) (logUnc_abort f.isLt hhas)
    ((flag_of_moves moves_emit (by decide +kernel) f.isLt).trans (logUnc_abort f.isLt hhas))

/-- A request of BAR2 that the function takes, that is not contained and finds its target. -/
theorem bar2Request_found {miss : State → State} {f : State → Nat → State} (hbar : s.barRefuses 0 = false)
    (hcont : s.flag Reg.CFG_CONT_STATUS_CONTAINED 0 = false) (hto : s.bar2Target o = some a) :
    s.bar2Request write o miss f = f s a := by
  unfold State.bar2Request
  rw [if_neg (by simp [hbar]), if_neg (by simp [hcont]), hto]

/-- The galley serves a host access that meets no pause. -/
theorem hostAccess_served {x : HostAccess} (hsave : s.saving = false) (hruns : (s.strike dmg).bufRuns = true) :
    (s.strike dmg).hostAccess x = (s.strike dmg).hostServe x := by
  have hsaving : (s.strike dmg).saving = false := by
    rw [← hsave, State.saving, State.saving, get_of_moves mv_strike (by decide +kernel) (by decide)]
  unfold State.hostAccess State.mayServe State.drainsRun
  rw [if_pos (by simp [hruns, hsaving])]

theorem bar2Read_facts (hawake : s.awake = true) (hbar : s.barRefuses 0 = false)
    (hcont : s.flag Reg.CFG_CONT_STATUS_CONTAINED 0 = false) (hto : s.bar2Target o = some a) (hsave : s.saving = false)
    (hruns : (s.strike dmg).bufRuns = true) : execBar2Read o len dmg s = .next ((s.strike dmg).hostReadAt a len) := by
  unfold execBar2Read
  rw [if_neg (by simp [hawake]), bar2Request_found hbar hcont hto, hostAccess_served hsave hruns]
  rfl

theorem hostReadAt_replies : ∃ data ps rest, (s.hostReadAt a len).outbox = .reply data ps :: rest := ⟨_, _, _, rfl⟩

theorem bar2Write_facts (hawake : s.awake = true) (hbar : s.barRefuses 0 = false)
    (hcont : s.flag Reg.CFG_CONT_STATUS_CONTAINED 0 = false) (hto : s.bar2Target o = some a) (hsave : s.saving = false)
    (hruns : (s.strike dmg).bufRuns = true) :
    execBar2Write o bytes false dmg s = .next ((s.strike dmg).hostWriteAt a bytes false) := by
  unfold execBar2Write State.bar2Write
  rw [if_neg (by simp [hawake]), if_neg (by simp), bar2Request_found hbar hcont hto, hostAccess_served hsave hruns]
  rfl

theorem bar2Write_poisoned (hawake : s.awake = true) :
    execBar2Write o bytes true [] s = .next (s.bar2Write o bytes true []) := if_neg (by simp [hawake])

theorem resizableBarWrite_facts {v : Word} (hmse : s.flag Reg.CFG_COMMAND_MSE 0 = false) (hlow : 8 ≤ bitsOf v 13 8)
    (hhigh : bitsOf v 13 8 ≤ 18) : ∃ t, execResizableBarWrite v s = .next t ∧ t.get Reg.CFG_RBAR_CTL_SIZE = bitsOf v 13 8 := by
  refine ⟨_, if_neg (by simp [hmse]; omega), ?_⟩
  unfold State.setBar2Size
  dsimp only
  rw [get_put_apart (by decide) (by decide), get_put_apart (by decide) (by decide), get_put_same (by decide) (by decide)]
  exact Nat.mod_eq_of_lt (Nat.lt_of_le_of_lt hhigh (by decide))

theorem xwinEnable_facts {w : Nat} (hw : w < 16) (hok : s.xwinOk w = true) :
    ∃ t, execXwinEnable w s = .next t ∧ t.flag Reg.PCIE_XWIN_CTL_EN w = true := by
  refine ⟨_, if_pos hw, ?_⟩
  unfold State.xwinEnable
  rw [if_pos hok]
  split
  next h => exact h
  · exact flag_setFlag_same (by decide) (by decide) hw

end Bar2

section Messages
variable {s : State} {fn v : Nat}

/-- A word's bit as a number. -/
theorem and_two_pow_of_testBit (w b : Nat) : w &&& 2 ^ b = if w.testBit b then 2 ^ b else 0 := by
  refine Nat.eq_of_testBit_eq fun j => ?_
  rw [Nat.testBit_and, Nat.testBit_two_pow]
  by_cases hj : b = j
  · subst hj
    cases w.testBit b <;> simp
  · rw [decide_eq_false hj, Bool.and_false]
    split
    · rw [Nat.testBit_two_pow, decide_eq_false hj]
    · exact (Nat.zero_testBit j).symm

/-- A word without one of its bits has that bit 0. -/
theorem clearedBit (w : Nat) {b : Nat} (hb : b < 32) : ((w - (w &&& 2 ^ b)) % 2 ^ 32) >>> b % 2 = 0 := by
  have hdrop : (w - (w &&& 2 ^ b)) / 2 ^ b % 2 = 0 := by
    rw [and_two_pow_of_testBit, Nat.testBit_eq_decide_div_mod_eq]
    rcases Nat.mod_two_eq_zero_or_one (w / 2 ^ b) with h | h
    · simp [h]
    · have hsub : (w - 2 ^ b) / 2 ^ b = w / 2 ^ b - 1 := by
        have := Nat.sub_mul_div w (2 ^ b) 1
        rwa [Nat.mul_one] at this
      rw [if_pos (decide_eq_true h), hsub]
      omega
  have hdvd : 2 ∣ 2 ^ (32 - b) := Nat.pow_dvd_pow 2 (show 1 ≤ 32 - b by omega)
  rw [Nat.shiftRight_eq_div_pow, show (2 : Nat) ^ 32 = 2 ^ b * 2 ^ (32 - b) by rw [← Nat.pow_add]; congr 1; omega, Nat.mod_mul_right_div_self,
    Nat.mod_mod_of_dvd _ hdvd, hdrop]

/-- The words of pending bits hold those of every vector of a function. -/
theorem pba_laidOut {f : FnIx} (hv : v < (if f.val = 0 then 2048 else 8)) :
    fits (pbaFld f.val) = true ∧ (pbaFld f.val).width = 32 ∧ v / 32 < (pbaFld f.val).count := by
  match f, hv with
  | 0, hv => exact ⟨by decide, rfl, Nat.div_lt_of_lt_mul (show v < 32 * 64 from hv)⟩
  | 1, hv => exact ⟨by decide, rfl, Nat.div_lt_of_lt_mul (Nat.lt_of_lt_of_le (show v < 8 from hv) (by decide))⟩

theorem pba_cleared (hfit : fits (pbaFld fn) = true) (hw : (pbaFld fn).width = 32) (hi : v / 32 < (pbaFld fn).count) :
    (s.setPba fn v false).pba fn v = false := by
  unfold State.pba State.setPba
  dsimp only
  rw [get_put_same hfit hi, hw, if_neg Bool.false_ne_true, clearedBit _ (Nat.mod_lt _ (by decide))]
  rfl

theorem msixPendingSend_facts {f : FnIx} (hv : v < (if f.val = 0 then 2048 else 8)) (hpba : s.pba f.val v = true)
    (hen : s.flag Reg.CFG_MSIX_ENABLE f.val = true) (hmask : s.flag Reg.CFG_MSIX_FMASK f.val = false)
    (hvec : s.vecMasked f.val v = false) (hsend : s.canSend f.val = true) :
    ∃ t, execMsixPendingSend f v s = .next t ∧ t.outbox = .msix f.val v :: s.outbox ∧ t.pba f.val v = false := by
  obtain ⟨hfit, hw, hi⟩ := pba_laidOut hv
  have hsig : s.signal f.val v = (s.emit (.msix f.val v)).setPba f.val v false := by
    unfold State.signal State.signalIf
    rw [if_neg (by simp [hen]), if_neg (by simp [hmask, hvec, hsend])]
  refine ⟨_, if_pos (by rw [hpba, Bool.and_true]; exact decide_eq_true hv), ?_, ?_⟩
  · rw [hsig, State.setPba, put_outbox, emit_outbox]
  · rw [hsig]
    exact pba_cleared hfit hw hi

end Messages

/-- Settles O26: the link, the accesses to BAR0 and BAR2, the BAR's size, the windows and the pending messages. -/
theorem link : Obligations.Link := by
  refine ⟨fun speed width flit errs s hspeed hmax hwidth hlock hpor hperst => ?_, fun f write a s hhas hbar => ?_,
    fun o len a dmg s hawake hbar hcont hto hsave hruns => ?_, fun o a bytes dmg s hawake hbar hcont hto hsave hruns => ?_,
    fun o bytes s hawake hbar => ?_, fun v s hmse hlow hhigh => ?_, fun w s hw hok => ?_,
    fun f v s hv hpba hen hmask hvec hsend => ?_⟩
  · obtain ⟨t, hnext, hrate⟩ := linkTrained_facts (flit := flit) (errs := errs) hspeed hmax hwidth hlock hpor hperst
    exact ⟨t, hnext, hrate, keeps_of_next mv_execLinkTrained hnext (by decide +kernel)⟩
  · have hnext : execBar0AccessBadShape f write a s = .next (s.busFault (if f.val = 0 then .host0 else .host1) write) := by
      unfold execBar0AccessBadShape
      rw [if_neg (by simp [hhas]), if_neg (by simp [hbar])]
    exact ⟨_, hnext, busFault_host hhas, keeps_of_next mv_execBar0AccessBadShape hnext (by decide +kernel)⟩
  · have hnext := bar2Read_facts (len := len) hawake hbar hcont hto hsave hruns
    exact ⟨_, hnext, hostReadAt_replies, keeps_of_next mv_execBar2Read hnext (by decide +kernel)⟩
  · have hnext := bar2Write_facts (bytes := bytes) hawake hbar hcont hto hsave hruns
    exact ⟨_, hnext, rfl, keeps_of_next mv_execBar2Write hnext (by decide +kernel)⟩
  · have hnext := bar2Write_poisoned (o := o) (bytes := bytes) hawake
    exact ⟨_, hnext, rfl, keeps_of_next mv_execBar2Write hnext (by decide +kernel)⟩
  · obtain ⟨t, hnext, hsize⟩ := resizableBarWrite_facts hmse hlow hhigh
    exact ⟨t, hnext, hsize, keeps_of_next mv_execResizableBarWrite hnext (by decide +kernel)⟩
  · obtain ⟨t, hnext, hen⟩ := xwinEnable_facts hw hok
    exact ⟨t, hnext, hen, keeps_of_next mv_execXwinEnable hnext (by decide +kernel)⟩
  · obtain ⟨t, hnext, hout, hclear⟩ := msixPendingSend_facts hv hpba hen hmask hvec hsend
    exact ⟨t, hnext, hout, hclear, keeps_of_next mv_execMsixPendingSend hnext (by decide +kernel)⟩

end Sys2Proof.Proofs
end

section
/-!
PCIe errors, containment and power states: poisoned configuration writes, reads that time out, internal errors, FREEZE and
RELEASE, D3hot and D0, Bus Master Enable (08 R213 to R224, R534).
-/
set_option Elab.async false

namespace Sys2Proof.Proofs
open Sys2Proof Sys2Proof.Machine Sys2Proof.Laws

section Errors
variable {s : State} {fn tag : Nat} {r : ReadTag}

theorem poisonedWrite_counts {o : Output} : ((s.poisonedWrite fn).emit o).get Reg.PCIE_POISON_RX =
    min (s.get Reg.PCIE_POISON_RX + 1) (2 ^ 32 - 1) := by
  rw [get_of_moves moves_emit (by decide +kernel) (by decide), State.poisonedWrite, get_inc_same (by decide) (by decide),
    get_of_moves mv_logUnc (by decide +kernel) (by decide)]
  rfl

theorem readTimeout_counts : (s.readTimeout tag).get Reg.PCIE_CPL_TIMEOUT = min (s.get Reg.PCIE_CPL_TIMEOUT + 1) (2 ^ 32 - 1) := by
  have hlate : ∀ (u : State) (x : PcieSt), ({ u with pcie := x } : State).get Reg.PCIE_CPL_TIMEOUT = u.get Reg.PCIE_CPL_TIMEOUT :=
    fun _ _ => rfl
  unfold State.readTimeout
  rw [hlate, event_get (by decide) (by decide) (by decide) (by decide), get_inc_same (by decide) (by decide),
    get_of_moves mv_logUnc (by decide +kernel) (by decide)]
  rfl

/-- What a failed read was for does not count time-outs. -/
theorem failUse_cplTimeout {why : ReadFail} :
    (s.failUse r why).get Reg.PCIE_CPL_TIMEOUT = (s.readFailed why r.tag).get Reg.PCIE_CPL_TIMEOUT := by
  have htag : (s.failTag r.tag why).get Reg.PCIE_CPL_TIMEOUT = (s.readFailed why r.tag).get Reg.PCIE_CPL_TIMEOUT :=
    get_of_moves mv_endTag (by decide +kernel) (by decide)
  unfold State.failUse
  dsimp only
  split
  · exact (get_of_moves mv_summaryFailed (by decide +kernel) (by decide)).trans htag
  · exact (get_of_moves mv_doorbellFailed (by decide +kernel) (by decide)).trans htag
  · exact (get_of_moves mv_headRejected (by decide +kernel) (by decide)).trans htag
  · exact (get_of_moves mv_ringFault (by decide +kernel) (by decide)).trans htag
  · exact htag

theorem completionTimeout_facts (hread : s.tagRead tag = some r) : ∃ t, execCompletionTimeout tag s = .next t ∧
    t.get Reg.PCIE_CPL_TIMEOUT = min (s.get Reg.PCIE_CPL_TIMEOUT + 1) (2 ^ 32 - 1) := by
  unfold execCompletionTimeout
  rw [hread]
  exact ⟨_, rfl, failUse_cplTimeout.trans readTimeout_counts⟩

/-- A late completion's tag is free again. -/
def tagFreed (s : State) (tag : Nat) : State := { s with pcie := { s.pcie with late := s.pcie.late.eraseP (fun l => l.1 == tag) } }

theorem lateCompletion_facts (hlate : s.pcie.late.any (fun l => l.1 == tag) = true) : ∃ t, execLateCompletion tag s = .next t ∧
    t.pcie = { s.pcie with late := s.pcie.late.eraseP (fun l => l.1 == tag) } ∧
    t.get Reg.PCIE_LATE_CPL = min (s.get Reg.PCIE_LATE_CPL + 1) (2 ^ 32 - 1) ∧ t.flag Reg.PCIE_STATUS_LATE_CPL_EV = true := by
  have hm : Moves 0x3cfff0a00000000000000000000000000000000000000000000000000000000000000000300000 (tagFreed s tag)
    ((tagFreed s tag).logUnc 0 aerUnexpected true) := mv_logUnc.mono (by decide +kernel)
  have hfreed : (tagFreed s tag).get Reg.PCIE_LATE_CPL = s.get Reg.PCIE_LATE_CPL := rfl
  refine ⟨(((tagFreed s tag).logUnc 0 aerUnexpected true).inc Reg.PCIE_LATE_CPL).event Reg.PCIE_STATUS_LATE_CPL_EV,
    if_neg (by simp [hlate]), ?_, ?_, event_flag (by decide) (by decide)⟩
  · rw [event_pcie, State.inc, State.add, put_pcie, hm.pcie (by decide +kernel)]
    rfl
  · rw [event_get (by decide) (by decide) (by decide) (by decide), get_inc_same (by decide) (by decide),
      get_of_moves hm (by decide +kernel) (by decide), hfreed]
    rfl

end Errors

section Containment
variable {s : State} {fn cause j : Nat} {g : Fld} {f : FnIx}

/-- The causes' bits are single bits of CONT_STATUS. -/
theorem causeFld_laidOut : fits (causeFld cause) = true ∧ (causeFld cause).width = 1 ∧ (causeFld cause).count = 2 ∧
    (causeFld cause).base = Reg.CFG_CONT_STATUS_WORD.base ∧ (causeFld cause).stride = Reg.CFG_CONT_STATUS_WORD.stride ∧
    apart (causeFld cause) Reg.CFG_CONT_STATUS_CONTAINED = true ∧ apart Reg.CFG_CONT_STATUS_CONTAINED (causeFld cause) = true ∧
    apart Reg.CFG_CONT_STATUS_FREEZE_SEQ (causeFld cause) = true := by
  match cause with
  | 0 => decide +kernel
  | 1 => decide +kernel
  | 2 => decide +kernel
  | _ + 3 =>
    simp only [causeFld]
    decide +kernel

/-- Fields of CONT_STATUS stay apart from ENTRY_TIME. -/
theorem flag_entryTime {v : Nat} (hb : g.base = Reg.CFG_CONT_STATUS_WORD.base) (hs : g.stride = Reg.CFG_CONT_STATUS_WORD.stride)
    (hc : g.count = 2) (hj : j < 2) : (s.put64 Reg.CFG_ENTRY_TIME v fn).flag g j = s.flag g j := by
  have happ : (rowsApart Reg.CFG_ENTRY_TIME.base Reg.CFG_ENTRY_TIME.stride Reg.CFG_ENTRY_TIME.count g.base g.stride g.count &&
      rowsApart (Reg.CFG_ENTRY_TIME.base + 4) Reg.CFG_ENTRY_TIME.stride Reg.CFG_ENTRY_TIME.count g.base g.stride g.count) = true := by
    rw [hb, hs, hc]
    decide +kernel
  rw [State.flag, State.flag, get_put64_apart happ (by omega)]

/-- A function that enters containment is contained, and shows the cause. -/
theorem contain_facts (hfn : fn < 2) (hhas : s.hasFn fn = true) : (s.contain fn cause).flag Reg.CFG_CONT_STATUS_CONTAINED fn = true ∧
    (s.contain fn cause).flag (causeFld cause) fn = true := by
  obtain ⟨hfit, hwidth, hcount, hb, hs, hapart, hapart', hseq⟩ := causeFld_laidOut (cause := cause)
  have hsame : ∀ u : State, (u.setFlag (causeFld cause) true fn).flag (causeFld cause) fn = true := fun u =>
    flag_setFlag_same hfit hwidth (by omega)
  unfold State.contain
  rw [if_neg (by simp [hhas])]
  split
  next h => exact ⟨(flag_setFlag_apart hapart hfn).trans h, hsame s⟩
  · dsimp only
    constructor
    · refine (flag_entryTime (g := Reg.CFG_CONT_STATUS_CONTAINED) rfl rfl rfl hfn).trans ((flag_put_apart (by decide) hfn).trans ?_)
      exact flag_setFlag_same (by decide) (by decide) hfn
    · refine (flag_entryTime hb hs hcount hfn).trans ((flag_put_apart hseq (by omega)).trans ?_)
      exact (flag_setFlag_apart hapart' (by omega)).trans (hsame _)

/-- Containment of one function leaves what CONT_STATUS shows of the other. -/
theorem contain_other (hb : g.base = Reg.CFG_CONT_STATUS_WORD.base) (hs : g.stride = Reg.CFG_CONT_STATUS_WORD.stride)
    (hc : g.count = 2) (hj : j < 2) (hne : fn ≠ j)
    (hsig : frees 0x200000200000000000000000000000000000000000000000000000000000000000000000100000 g = true) :
    (s.contain fn cause).flag g j = s.flag g j := by
  obtain ⟨-, -, -, hcb, hcs, -, -, -⟩ := causeFld_laidOut (cause := cause)
  have hput : ∀ (u : State) (x : Fld) (v : Nat), x.base = Reg.CFG_CONT_STATUS_WORD.base → x.stride = Reg.CFG_CONT_STATUS_WORD.stride →
      (u.put x v fn).flag g j = u.flag g j := fun u x v hxb hxs => by
    rw [State.flag, State.flag, get_put_other (hxb.trans hb.symm) (hxs.trans hs.symm) (by rw [hxs]; decide) hne]
  unfold State.contain
  split
  · rfl
  · split
    · exact hput _ _ _ hcb hcs
    · dsimp only
      rw [flag_entryTime hb hs hc hj, hput _ Reg.CFG_CONT_STATUS_FREEZE_SEQ _ rfl rfl, State.setFlag,
        hput _ Reg.CFG_CONT_STATUS_CONTAINED _ rfl rfl, State.setFlag, hput _ _ _ hcb hcs, flag_of_moves mv_signal hsig (by omega)]

theorem internalDatapathError_facts : ∃ t, execInternalDatapathError s false = .next t ∧
    t.flag Reg.CFG_CONT_STATUS_CONTAINED 0 = true ∧ t.flag Reg.CFG_CONT_STATUS_CAUSE_INTERNAL 0 = true := by
  obtain ⟨hcont, hcause⟩ := contain_facts (s := (s.logUnc 0 aerInternal false).logUnc 1 aerInternal false) (cause := 2)
    (fn := 0) (by decide) rfl
  refine ⟨_, if_neg (by decide), ?_, ?_⟩
  · exact (contain_other (g := Reg.CFG_CONT_STATUS_CONTAINED) rfl rfl rfl (by decide) (by decide) (by decide +kernel)).trans hcont
  · exact (contain_other (g := Reg.CFG_CONT_STATUS_CAUSE_INTERNAL) rfl rfl rfl (by decide) (by decide) (by decide +kernel)).trans hcause

theorem internalDatapathError_corrected : ∃ t, execInternalDatapathError s true = .next t ∧
    t.flag Reg.CFG_CONT_STATUS_CONTAINED 0 = s.flag Reg.CFG_CONT_STATUS_CONTAINED 0 :=
  ⟨_, if_pos rfl, (flag_of_moves mv_logCor (by decide +kernel) (by decide)).trans
    (flag_of_moves mv_logCor (by decide +kernel) (by decide))⟩

theorem containmentFreeze_facts (hhas : s.hasFn f.val = true) : ∃ t, execContainmentFreeze f s = .next t ∧
    t.flag Reg.CFG_CONT_CTL_FREEZE f.val = true := by
  refine ⟨_, rfl, ?_⟩
  rw [State.freezeFn, if_pos hhas]
  exact flag_setFlag_same (by decide) (by decide) f.isLt

theorem endContainment_unfreezes (hfn : fn < 2) : (s.endContainment fn).flag Reg.CFG_CONT_CTL_FREEZE fn = false := by
  unfold State.endContainment
  exact (flag_setFlag_apart (by decide) hfn).trans (flag_setFlag_same (by decide) (by decide) hfn)

theorem containmentRelease_facts {v : Word} (hv : v.getLsbD 16 = true) (hhas : s.hasFn f.val = true)
    (hseq : bitsOf v 15 8 = s.get Reg.CFG_CONT_STATUS_FREEZE_SEQ f.val) (hstays : s.causeStays f.val = false) :
    ∃ t, execContainmentRelease f v s = .next t ∧ t.flag Reg.CFG_CONT_CTL_FREEZE f.val = false := by
  refine ⟨_, if_pos hv, ?_⟩
  rw [State.releaseFn, if_neg (by simp [hhas]), if_neg (by simp [hseq, hstays]), flag_of_moves mv_resumeFn (by decide +kernel) f.isLt]
  exact endContainment_unfreezes f.isLt

end Containment

section Power
variable {s : State} {f : FnIx}

theorem d3hotEntry_facts (hhas : s.hasFn f.val = true) :
    ∃ t, execD3hotEntry f s = .next t ∧ t.get Reg.CFG_PMCSR_STATE f.val = 3 := by
  refine ⟨_, rfl, ?_⟩
  unfold State.powerState
  rw [if_neg (by simp [hhas])]
  exact get_put_same (by decide) f.isLt

theorem d0Return_facts (hhas : s.hasFn f.val = true) :
    ∃ t, execD0Return f s = .next t ∧ t.get Reg.CFG_PMCSR_STATE f.val = 0 := by
  refine ⟨_, rfl, ?_⟩
  unfold State.powerState
  rw [if_neg (by simp [hhas])]
  exact (get_of_moves mv_resumeFn (by decide +kernel) f.isLt).trans (get_put_same (by decide) f.isLt)

theorem busMasterEnableClear_facts (hhas : s.hasFn f.val = true) : ∃ t, execBusMasterEnableClear f s = .next t ∧
    t.flag Reg.CFG_COMMAND_BME f.val = false ∧ t.canSend f.val = false := by
  have hbme : (s.setFlag Reg.CFG_COMMAND_BME false f.val).flag Reg.CFG_COMMAND_BME f.val = false :=
    flag_setFlag_same (by decide) (by decide) f.isLt
  have hst : s.busMaster f.val false = s.setFlag Reg.CFG_COMMAND_BME false f.val := by
    unfold State.busMaster
    rw [if_neg (by simp [hhas])]
    rfl
  refine ⟨_, congrArg Host.Outcome.next hst, hbme, ?_⟩
  rw [State.canSend, hbme, Bool.and_false, Bool.false_and]

theorem busMasterEnableSet_facts (hhas : s.hasFn f.val = true) : ∃ t, execBusMasterEnableSet f s = .next t ∧
    t.flag Reg.CFG_COMMAND_BME f.val = true := by
  refine ⟨_, rfl, ?_⟩
  unfold State.busMaster
  rw [if_neg (by simp [hhas])]
  exact (flag_of_moves mv_resumeFn (by decide +kernel) f.isLt).trans (flag_setFlag_same (by decide) (by decide) f.isLt)

end Power

/-- Settles O27: failed requests and reads, internal errors, containment, power states, Bus Master Enable and the counters. -/
theorem pcieErrorsAndPower : Obligations.PcieErrorsAndPower := by
  refine ⟨fun f a s => ?_, fun tag r s hread => ?_, fun tag s hlate => ?_, fun s => ?_, fun s => ?_, fun f s hhas => ?_,
    fun f v s hv hhas hseq hstays => ?_, fun f s hhas => ?_, fun f s hhas => ?_, fun f s hhas => ?_, fun f s hhas => ?_, fun s => ?_⟩
  · exact ⟨_, rfl, poisonedWrite_counts, rfl, keeps_of_next (mv_execPoisonedTlpReceived (f := f) (kind := .configWrite a)) rfl (by decide +kernel)⟩
  · obtain ⟨t, hnext, hcount⟩ := completionTimeout_facts hread
    exact ⟨t, hnext, hcount, keeps_of_next mv_execCompletionTimeout hnext (by decide +kernel)⟩
  · obtain ⟨t, hnext, hpcie, hcount, hev⟩ := lateCompletion_facts hlate
    exact ⟨t, hnext, hpcie, hcount, hev, keeps_of_next mv_execLateCompletion hnext (by decide +kernel)⟩
  · obtain ⟨t, hnext, hcont, hcause⟩ := internalDatapathError_facts (s := s)
    exact ⟨t, hnext, hcont, hcause, keeps_of_next mv_execInternalDatapathError hnext (by decide +kernel)⟩
  · obtain ⟨t, hnext, hcont⟩ := internalDatapathError_corrected (s := s)
    exact ⟨t, hnext, hcont, keeps_of_next mv_execInternalDatapathError hnext (by decide +kernel)⟩
  · obtain ⟨t, hnext, hfreeze⟩ := containmentFreeze_facts hhas
    exact ⟨t, hnext, hfreeze, keeps_of_next mv_execContainmentFreeze hnext (by decide +kernel)⟩
  · obtain ⟨t, hnext, hfreeze⟩ := containmentRelease_facts hv hhas hseq hstays
    exact ⟨t, hnext, hfreeze, keeps_of_next mv_execContainmentRelease hnext (by decide +kernel)⟩
  · obtain ⟨t, hnext, hd3⟩ := d3hotEntry_facts hhas
    exact ⟨t, hnext, hd3, keeps_of_next mv_execD3hotEntry hnext (by decide +kernel)⟩
  · obtain ⟨t, hnext, hd0⟩ := d0Return_facts hhas
    exact ⟨t, hnext, hd0, keeps_of_next mv_execD0Return hnext (by decide +kernel)⟩
  · obtain ⟨t, hnext, hbme, hsend⟩ := busMasterEnableClear_facts hhas
    exact ⟨t, hnext, hbme, hsend, keeps_of_next mv_execBusMasterEnableClear hnext (by decide +kernel)⟩
  · obtain ⟨t, hnext, hbme⟩ := busMasterEnableSet_facts hhas
    exact ⟨t, hnext, hbme, keeps_of_next mv_execBusMasterEnableSet hnext (by decide +kernel)⟩
  · exact ⟨_, rfl, fun j hj => rd_zeroWords hj, keeps_of_next mv_execPcieCntClr rfl (by decide +kernel)⟩

end Sys2Proof.Proofs
end

section
/-!
Rings: the doorbell scan, summary and doorbell lines, entry fetch, coalescing, RESUME and the counters (09 R229 to R248).
-/
set_option Elab.async false

namespace Sys2Proof.Proofs
open Sys2Proof Sys2Proof.Machine Sys2Proof.Laws

section Scan
variable {s : State} {n k : Nat} {line : List Byte}

theorem hq_same {h : HqSt} (hh : h = s.hq) : ({ s with hq := h } : State) = s := by rw [hh]

/-- A scan where nothing waits reads the summary line. -/
theorem scan_reads (hsend : s.canSend 0 = true) (hen : s.flag Reg.HQ_CTL_SCAN_EN = true) (hread : s.reading .summary = false)
    (hheld : s.hq.sumHeld = none) (hsave : s.saving = false) (hroom : s.readRoom ≠ 0) (hcq : s.hq.cq = []) (hwait : s.hq.lineWait = []) :
    s.scan = s.issueRead .summary (s.get64 Reg.HQ_SUM_ADDR) 64 := by
  have hsame : ({ s with hq := { s.hq with lineWait := [] } } : State) = s := hq_same (by rw [← hwait])
  unfold State.scan
  rw [if_neg (by simp [hsend]), hcq]
  simp only [List.filter_nil, List.map_nil, List.foldl_nil, hwait, hsame]
  rw [if_neg (by simp [hen, hread, hheld, hsave, hroom])]

theorem issueRead_reading {use : ReadUse} {a len : Nat} : (s.issueRead use a len).reading use = true := by
  rw [State.reading, State.issueRead]
  exact List.any_eq_true.mpr ⟨_, List.mem_append_right _ (List.mem_singleton_self _), beq_self_eq_true use⟩

/-- A summary line of zeros is one more empty scan. -/
theorem takeSummary_zeros (hzero : ∀ j < 64, line.getD j 0 = 0) :
    s.takeSummary line = ({ s with hq := { s.hq with emptyScans := s.hq.emptyScans + 1 } } : State).setFlag Reg.HQ_STATUS_SCAN_IDLE
      (s.flag Reg.HQ_STATUS_SCAN_IDLE || decide (4000 ≤ s.hq.emptyScans + 1)) := by
  have hnone : (List.range 64).filter (fun j => line.getD j 0 != 0) = [] := by
    rw [List.filter_eq_nil_iff]
    intro j hj
    rw [hzero j (List.mem_range.mp hj)]
    decide
  unfold State.takeSummary
  rw [hnone]
  rfl

/-- A read ends: what remains outstanding. -/
theorem endRead_facts {use : ReadUse} : (s.endRead use).canSend 0 = s.canSend 0 ∧ (s.endRead use).regs = s.regs ∧
    (s.endRead use).hq = s.hq := ⟨rfl, rfl, rfl⟩

theorem summaryLineReceived_facts (hread : s.reading .summary = true) (hsend : s.canSend 0 = true)
    (hzero : ∀ j < 64, line.getD j 0 = 0) : ∃ t, execSummaryLineReceived (.data line) s = .next t ∧ t.hq.sumFails = 0 ∧
      t.hq.emptyScans = s.hq.emptyScans + 1 ∧
      t.flag Reg.HQ_STATUS_SCAN_IDLE = (s.flag Reg.HQ_STATUS_SCAN_IDLE || decide (4000 ≤ s.hq.emptyScans + 1)) := by
  have hst : ∀ u : State, u.canSend 0 = true → (u.summaryLine line).hq.sumFails = 0 ∧
      (u.summaryLine line).hq.emptyScans = u.hq.emptyScans + 1 ∧ (u.summaryLine line).flag Reg.HQ_STATUS_SCAN_IDLE =
        (u.flag Reg.HQ_STATUS_SCAN_IDLE || decide (4000 ≤ u.hq.emptyScans + 1)) := by
    intro u hu
    have hsend' : ({ u with hq := { u.hq with sumFails := 0 } } : State).canSend 0 = true := hu
    unfold State.summaryLine
    dsimp only
    rw [if_pos hsend', takeSummary_zeros hzero]
    refine ⟨?_, ?_, flag_setFlag_same (by decide) (by decide) (by decide)⟩
    · rw [State.setFlag, put_hq]
    · rw [State.setFlag, put_hq]
  unfold execSummaryLineReceived
  rw [if_neg (by simp [hread])]
  exact ⟨_, rfl, hst _ hsend⟩

end Scan

section Doorbells
variable {s : State} {j : Fin 64} {c : RingIx} {n : Nat} {b : List Byte}

theorem doorbellLineReceived_facts (hread : s.reading (.line j.val) = true) :
    execDoorbellLineReceived j (.data b) s = .next ((s.endRead (.line j.val)).doorbellLine j.val b) := by
  unfold execDoorbellLineReceived
  rw [if_neg (by simp [hread])]

theorem doorbellLine_rings {use : ReadUse} {j : Nat} : (s.endRead use).doorbellLine j b =
    (s.lineRings j).foldl (fun (t : State) n => t.takeTail n (fieldAt b (4 * (n % 16)) 4)) (s.endRead use) := rfl

theorem takeTail_inside {w : Nat} (hw : w < s.sqDepth n) : ((s.takeTail n w).sq n).tail = w := by
  rw [State.takeTail, if_neg (by omega), State.sq, State.setSq, sget_sput_same]

theorem hqWake_facts {v : Word} (hen : s.flag Reg.HQ_CTL_SCAN_EN = true) :
    ∃ t, execHqWake v s = .next t ∧ t.flag Reg.HQ_STATUS_SCAN_IDLE = false := by
  refine ⟨_, if_neg (by simp [hen]), ?_⟩
  rw [flag_of_moves mv_scan (by decide +kernel) (by decide)]
  exact flag_setFlag_same (by decide) (by decide) (by decide)

/-- A HEAD that frees no more entries than the ring holds is taken. -/
theorem takeHead_taken {m w : Nat} (hw : w < s.cqDepth m) (hle : (w + s.cqDepth m - (s.cq m).head) % s.cqDepth m ≤
    (s.get Reg.HQ_CQ_STATUS_TAIL m + s.cqDepth m - (s.cq m).head) % s.cqDepth m) (hheld : (s.cq m).held = []) :
    ((s.takeHead m w).cq m).head = w := by
  have hset : (s.setCq m { s.cq m with head := w }).cq m = { s.cq m with head := w } := by
    rw [State.cq, State.setCq, sget_sput_same]
  unfold State.takeHead State.releaseHeld
  dsimp only
  rw [if_neg (by simp; omega), hset, if_pos (by simp [hheld]), hset]

theorem cqHeadDoorbellReceived_facts (hread : s.reading (.head c.val) = true) (hw : fieldAt b 0 4 < s.cqDepth c.val)
    (hle : (fieldAt b 0 4 + s.cqDepth c.val - (s.cq c.val).head) % s.cqDepth c.val ≤
      (s.get Reg.HQ_CQ_STATUS_TAIL c.val + s.cqDepth c.val - (s.cq c.val).head) % s.cqDepth c.val)
    (hheld : (s.cq c.val).held = []) :
    ∃ t, execCqHeadDoorbellReceived c (.data b) s = .next t ∧ (t.cq c.val).head = fieldAt b 0 4 := by
  unfold execCqHeadDoorbellReceived
  rw [if_neg (by simp [hread])]
  exact ⟨_, rfl, takeHead_taken (s := s.endRead (.head c.val)) hw hle hheld⟩

end Doorbells

section Entries
variable {s : State} {n k : Nat}

/-- Each entry that is fetched is one more read. -/
theorem fetchEntries_reads : (s.fetchEntries n k).pcie.reads.length = s.pcie.reads.length + k := by
  induction k generalizing s with
  | zero => rfl
  | succ k ih =>
    rw [State.fetchEntries, ih]
    simp only [State.issueRead, emit_pcie, List.length_append, List.length_singleton]
    omega

theorem submissionEntryFetch_facts (hsend : s.canSend 0 = true) (hfetch : s.fetches 0 = true) (hunf : 0 < s.unfetched 0) :
    ∃ t, execSubmissionEntryFetch s = .next t ∧ t.pcie.reads.length = s.pcie.reads.length + min s.readRoom (s.unfetched 0) := by
  unfold execSubmissionEntryFetch
  rw [if_neg (by simp [hsend]), if_pos (by simp [hfetch, hunf])]
  exact ⟨_, rfl, fetchEntries_reads⟩

theorem advanceHead_facts : (s.advanceHead n).hq.cmds = s.hq.cmds ∧ (s.advanceHead n).part = s.part := by
  unfold State.advanceHead
  dsimp only
  split <;> simp [State.setSq]

/-- An entry that passes its checks becomes an outstanding command. -/
theorem acceptEntry_cmds {b : List Byte} {c : Cmd}
    (hc : c = { tag := s.hq.nextTag, sq := n, cid := fieldAt b 2 2, epoch := (s.sq n).wraps % 16, entry := b })
    (hst : s.entryStatus c = none) (hop : c.op ≠ 3) : (s.acceptEntry n b none).hq.cmds = s.hq.cmds ++ [c] := by
  have hin : ∀ u : State, u.part = s.part → u.entryStatus c = none := fun u hu => by
    rw [← hst, State.entryStatus, State.entryStatus, hu]
  obtain ⟨hcmds, hpart⟩ := advanceHead_facts (n := n)
    (s := ({ s with hq := { s.hq with nextTag := s.hq.nextTag + 1 } } : State).add64 Reg.HQ_COMMANDS 1)
  have hadd : ∀ u : State, (u.add64 Reg.HQ_COMMANDS 1).hq = u.hq ∧ (u.add64 Reg.HQ_COMMANDS 1).part = u.part := fun u =>
    ⟨by rw [State.add64, put64_hq], by rw [State.add64, put64_part]⟩
  unfold State.acceptEntry
  dsimp only [Option.isSome_none]
  rw [if_neg Bool.false_ne_true, ← hc, hin _ (hpart.trans (hadd _).2)]
  dsimp only
  rw [if_neg hop]
  have hlisted := congrArg (· ++ [c]) (hcmds.trans (congrArg HqSt.cmds (hadd _).1))
  exact ite_both (P := fun t => (State.hq t).cmds = s.hq.cmds ++ [c]) hlisted hlisted

theorem submissionEntryReceived_facts {r : RingIx} {slot : Nat} {b : List Byte} {c : Cmd} (hstale : s.reading (.stale r.val slot) = false)
    (hread : s.reading (.entry r.val slot) = true) (hslot : slot = s.get Reg.HQ_SQ_STATUS_HEAD r.val) (hsave : s.saving = false)
    (hstop : s.hq.stopped = false)
    (hc : c = { tag := s.hq.nextTag, sq := r.val, cid := fieldAt b 2 2, epoch := (s.sq r.val).wraps % 16, entry := b })
    (hst : s.entryStatus c = none) (hop : c.op ≠ 3) :
    ∃ t, execSubmissionEntryReceived r slot (.data b) s = .next t ∧ t.hq.cmds = s.hq.cmds ++ [c] := by
  unfold execSubmissionEntryReceived
  rw [if_neg (by simp [hstale]), if_neg (by simp [hread, ← hslot, hsave, hstop])]
  exact ⟨_, rfl, acceptEntry_cmds (s := s.endRead (.entry r.val slot)) hc hst hop⟩

end Entries

section Rings
variable {s : State} {c n : RingIx} {b : Bool}

theorem cqCoalesceExpiry_facts (hco : (s.cq c.val).coalescing = true) : ∃ t, execCqCoalesceExpiry c s = .next t ∧
    t.cq c.val = { s.cq c.val with coalescing := false, owed := false } := by
  have hset : ∀ q : CqSt, (s.setCq c.val q).cq c.val = q := fun q => by rw [State.cq, State.setCq, sget_sput_same]
  have hsig : ∀ (d : Bool) (u : State) (v : Nat), (if d = true then u.signal 0 v else u).cq c.val = u.cq c.val := fun d u v =>
    ite_both (P := fun t => State.cq t c.val = u.cq c.val) (by rw [State.cq, State.cq, signal_hq]) rfl
  refine ⟨_, if_neg (by simp [hco]), ?_⟩
  exact (hsig _ _ _).trans (hset _)

theorem resumeRing_unfreezes {m : Nat} (hm : m < 1024) : (s.resumeRing m b).2.flag Reg.HQ_SQ_STATUS_FROZEN m = false := by
  have hclear : (s.setFlag Reg.HQ_SQ_STATUS_FROZEN false m).flag Reg.HQ_SQ_STATUS_FROZEN m = false :=
    flag_setFlag_same (by decide) (by decide) hm
  have hset : ∀ (u : State) (q : SqSt), (u.setSq m q).flag Reg.HQ_SQ_STATUS_FROZEN m = u.flag Reg.HQ_SQ_STATUS_FROZEN m := fun _ _ => rfl
  unfold State.resumeRing
  cases b with
  | false => exact (flag_of_moves mv_readLine (by decide +kernel) hm).trans hclear
  | true =>
    refine (flag_of_moves mv_readLine (by decide +kernel) hm).trans ((flag_put_apart (by decide) hm).trans ?_)
    exact (flag_put_apart (by decide) hm).trans ((hset _ _).trans hclear)

theorem hqCntClr_facts : ∃ t, execHqCntClr s = .next t ∧ t.get64 Reg.HQ_COMMANDS = 0 ∧ t.get Reg.HQ_FREEZES = 0 ∧
    t.get Reg.HQ_SUM_FAIL = 0 ∧ t.get Reg.HQ_CQ_HEAD_ERRS = 0 := by
  refine ⟨_, rfl, ?_, ?_, ?_, get_put_same (by decide) (by decide)⟩
  · rw [get64_put_apart (by decide) (by decide), get64_put_apart (by decide) (by decide), get64_put_apart (by decide) (by decide)]
    exact get64_put64_same (by decide)
  · rw [get_put_apart (by decide) (by decide), get_put_apart (by decide) (by decide), get_put_same (by decide) (by decide)]
    rfl
  · rw [get_put_apart (by decide) (by decide), get_put_same (by decide) (by decide)]
    rfl

end Rings

/-- Settles O28: the scan, the summary line, doorbell lines, head doorbells, entries, coalescing, RESUME and the counters. -/
theorem rings : Obligations.Rings := by
  refine ⟨fun s hsend hen hread hheld hsave hroom hcq hwait => ?_, fun line s hread hsend hzero => ?_,
    fun j b s hread hnone => ?_, fun j n b s hread hone htail => ?_, fun v s hen => ?_, fun c b s hread hw hle hheld => ?_,
    fun s hsend hfetch hunf => ?_, fun n slot b c s hstale hread hslot hsave hstop hc hst hop => ?_, fun c s hco => ?_,
    fun n b s hfrozen => ?_, fun s => ?_⟩
  · have hscan := scan_reads hsend hen hread hheld hsave hroom hcq hwait
    exact ⟨_, rfl, by rw [hscan]; rfl, by rw [hscan]; exact issueRead_reading, keeps_of_next mv_execDoorbellScan rfl (by decide +kernel)⟩
  · obtain ⟨t, hnext, hfails, hempty, hidle⟩ := summaryLineReceived_facts hread hsend hzero
    exact ⟨t, hnext, hfails, hempty, hidle, keeps_of_next mv_execSummaryLineReceived hnext (by decide +kernel)⟩
  · have hnext := doorbellLineReceived_facts (b := b) hread
    exact ⟨_, hnext, by rw [doorbellLine_rings, hnone]; rfl, keeps_of_next mv_execDoorbellLineReceived hnext (by decide +kernel)⟩
  · have hnext := doorbellLineReceived_facts (b := b) hread
    refine ⟨_, hnext, ?_, keeps_of_next mv_execDoorbellLineReceived hnext (by decide +kernel)⟩
    rw [doorbellLine_rings, hone]
    exact takeTail_inside (s := s.endRead (.line j.val)) htail
  · obtain ⟨t, hnext, hidle⟩ := hqWake_facts (v := v) hen
    exact ⟨t, hnext, hidle, keeps_of_next mv_execHqWake hnext (by decide +kernel)⟩
  · obtain ⟨t, hnext, hhead⟩ := cqHeadDoorbellReceived_facts hread hw hle hheld
    exact ⟨t, hnext, hhead, keeps_of_next mv_execCqHeadDoorbellReceived hnext (by decide +kernel)⟩
  · obtain ⟨t, hnext, hreads⟩ := submissionEntryFetch_facts hsend hfetch hunf
    exact ⟨t, hnext, hreads, keeps_of_next mv_execSubmissionEntryFetch hnext (by decide +kernel)⟩
  · obtain ⟨t, hnext, hcmds⟩ := submissionEntryReceived_facts hstale hread hslot hsave hstop hc hst hop
    exact ⟨t, hnext, hcmds, keeps_of_next mv_execSubmissionEntryReceived hnext (by decide +kernel)⟩
  · obtain ⟨t, hnext, hcq⟩ := cqCoalesceExpiry_facts hco
    exact ⟨t, hnext, hcq, keeps_of_next mv_execCqCoalesceExpiry hnext (by decide +kernel)⟩
  · have hnext : execSqResume n b s = .next (s.resumeRing n.val b).2 := if_pos hfrozen
    exact ⟨_, hnext, resumeRing_unfreezes n.isLt, keeps_of_next mv_execSqResume hnext (by decide +kernel)⟩
  · obtain ⟨t, hnext, hcmds, hfreezes, hsum, hhead⟩ := hqCntClr_facts (s := s)
    exact ⟨t, hnext, hcmds, hfreezes, hsum, hhead, keeps_of_next mv_execHqCntClr hnext (by decide +kernel)⟩

end Sys2Proof.Proofs
end

section
/-!
Administration commands (09 R239, R248 to R251).
-/
set_option Elab.async false

namespace Sys2Proof.Proofs
open Sys2Proof Sys2Proof.Machine Sys2Proof.Laws

section Commands
variable {s : State} {c : Nat} {k : Cmd}

/-- A command that ends with SUCCESS, where nothing was logged on the way, is done. -/
theorem exists_done {u : State} {v d : Nat} {p : Bool} (h : u.hq.log = s.hq.log) :
    ∃ t, (Host.Outcome.next (u.finish c 0 v p d) : Result) = .next t ∧ Done s t c := ⟨_, rfl, finish_done h⟩

theorem logRead_facts (hready : Ready s c 0x41 k) (hpage : k.fld 0x18 1 = 1 ∨ k.fld 0x18 1 = 2) :
    ∃ t, execLogRead c s = .next t ∧ Done s t c := by
  have hlog : ∀ d : List Byte, ((begun s k).deliver k d []).hq.log = s.hq.log := fun d => by
    rw [mv_deliver.hq (by decide +kernel)]
    rfl
  unfold execLogRead
  rw [onCmd_ready hready]
  dsimp only
  rw [if_neg (by rcases hpage with h | h <;> simp [h])]
  exact exists_done (hlog _)

theorem featureGet_facts (hready : Ready s c 0x42 k)
    (hwhat : k.fld 0x18 2 = 1 ∨ k.fld 0x18 2 = 2 ∧ s.mounted = true ∨ k.fld 0x18 2 = 3) :
    ∃ t, execFeatureGet c s = .next t ∧ Done s t c := by
  unfold execFeatureGet
  rw [onCmd_ready hready]
  rcases hwhat with h | ⟨h, hmount⟩ | h
  · rw [h]
    exact exists_done rfl
  · have hm : (s.setCmd { k with begun := true }).mounted = true := hmount
    rw [h]
    rw [if_pos hm]
    exact exists_done rfl
  · rw [h]
    exact exists_done rfl

theorem featureSet_facts (hready : Ready s c 0x43 k) (hwhat : k.fld 0x18 2 = 1) (hval : k.fld 0x20 8 ≤ 1) :
    ∃ t, execFeatureSet c s = .next t ∧ Done s t c := by
  unfold execFeatureSet
  rw [onCmd_ready hready]
  dsimp only
  rw [if_pos (by simp [hwhat, hval])]
  exact exists_done rfl

/-! ### RING_CREATE -/

/-- An IDLE submission ring whose completion ring runs is enabled: it starts. -/
theorem sqEnable_starts {n : Nat} (hn : n < 1024) (hidle : s.get Reg.HQ_SQ_STATUS_STATE n = 0)
    (hcq : s.cqRunning (s.get Reg.HQ_SQ_CTL_CQ n) = true) :
    (s.sqEnable n true).get Reg.HQ_SQ_STATUS_STATE n = 1 ∧ (s.sqEnable n true).hq = s.hq := by
  have henable : s.sqEnable n true = (s.setFlag Reg.HQ_SQ_CTL_EN true n).put Reg.HQ_SQ_STATUS_STATE 1 n := by
    unfold State.sqEnable State.enableWrite
    rw [if_neg (by simp [hcq])]
    simp only [sqUnit, hidle]
    rfl
  rw [henable]
  exact ⟨get_put_same (by decide) hn, by simp [State.setFlag]⟩

/-- The fields of a created submission ring. -/
theorem setSqFields_facts {n : Nat} {f : RingFields} (hn : n < 1024) :
    (s.setSqFields n f).get Reg.HQ_SQ_CTL_CQ n = f.target % 1024 ∧
      (s.setSqFields n f).get Reg.HQ_SQ_STATUS_STATE n = s.get Reg.HQ_SQ_STATUS_STATE n ∧
      ∀ m < 1024, (s.setSqFields n f).cqRunning m = s.cqRunning m := by
  unfold State.setSqFields
  refine ⟨?_, ?_, fun m hm => ?_⟩
  · rw [get_setFlag_apart (by decide) hn, get_put_apart (by decide) hn, get_put_same (by decide) hn]
    rfl
  · rw [get_setFlag_apart (by decide) hn, get_put_apart (by decide) hn, get_put_apart (by decide) hn, get_put_apart (by decide) hn,
      get_put64_apart (by decide) hn]
  · rw [State.cqRunning, State.cqRunning, get_setFlag_apart (by decide) hm, get_put_apart (by decide) hm,
      get_put_apart (by decide) hm, get_put_apart (by decide) hm, get_put64_apart (by decide) hm]

/-- A submission ring is created on a completion ring that runs. -/
theorem createRing_facts {n : Nat} {f : RingFields} (hn : n < 1024) (htarget : f.target < 1024)
    (hidle : s.get Reg.HQ_SQ_STATUS_STATE n = 0) (hcq : s.cqRunning f.target = true) {q : SqSt} :
    (s.setSqFields n f).cqRunning f.target = true ∧
      (((s.setSqFields n f).setSq n q).sqEnable n true).get Reg.HQ_SQ_STATUS_STATE n = 1 ∧
      (((s.setSqFields n f).setSq n q).sqEnable n true).sq n = q := by
  obtain ⟨hfield, hst, hruns⟩ := setSqFields_facts (s := s) (f := f) hn
  have hset : ∀ (u : State) (x : Fld) (i : Nat), (u.setSq n q).get x i = u.get x i := fun _ _ _ => rfl
  have hon : ((s.setSqFields n f).setSq n q).cqRunning (((s.setSqFields n f).setSq n q).get Reg.HQ_SQ_CTL_CQ n) = true := by
    rw [hset, hfield, Nat.mod_eq_of_lt htarget, State.cqRunning, hset, ← State.cqRunning, hruns _ htarget, hcq]
  obtain ⟨hstate, hhq⟩ := sqEnable_starts hn ((hset _ _ _).trans (hst.trans hidle)) hon
  refine ⟨(hruns _ htarget).trans hcq, hstate, ?_⟩
  rw [State.sq, hhq, State.setSq, sget_sput_same]

/-- The fields of the submission ring that a RING_CREATE names (09 R226). -/
def sqFields (k : Cmd) : RingFields :=
  { base := k.fld 0x20 8, depth := k.fld 0x28 4 - 1, target := k.fld 0x2C 2, rate := k.fld 0x2E 1 % 16, opt := k.fld 0x2E 1 / 16 == 1 }

theorem ringCreate_facts (hready : Ready s c 0x44 k) (hbegun : k.begun = false) (hkind : k.fld 0x18 1 = 0)
    (hn : k.fld 0x1A 2 < 1024) (htarget : k.fld 0x2C 2 < 1024) (hidle : s.get Reg.HQ_SQ_STATUS_STATE (k.fld 0x1A 2) = 0)
    (hcq : s.get Reg.HQ_CQ_STATUS_STATE (k.fld 0x2C 2) = 2) : ∃ t, execRingCreate c s = .next t ∧
      t.get Reg.HQ_SQ_STATUS_STATE (k.fld 0x1A 2) = 1 ∧ (t.sq (k.fld 0x1A 2)).creating = [c] := by
  have hrun : (begun s k).cqRunning (sqFields k).target = true := beq_iff_eq.mpr hcq
  have hst : (begun s k).get Reg.HQ_SQ_STATUS_STATE (k.fld 0x1A 2) = 0 := hidle
  obtain ⟨hruns, hstate, hsq⟩ := createRing_facts (s := begun s k) (f := sqFields k) hn htarget hst hrun
    (q := { ((begun s k).setSqFields (k.fld 0x1A 2) (sqFields k)).sq (k.fld 0x1A 2) with creating := [c] })
  refine ⟨_, (onCmd_ready hready).trans (congrArg Host.Outcome.next ?_), hstate, congrArg SqSt.creating hsq⟩
  have hs0 : (s.setCmd { k with begun := true }).get Reg.HQ_SQ_STATUS_STATE (k.fld 0x1A 2) = 0 := hidle
  have hr0 : ((s.setCmd { k with begun := true }).setSqFields (k.fld 0x1A 2) (sqFields k)).cqRunning (k.fld 0x2C 2) = true := hruns
  dsimp only
  rw [if_neg (by simp [hbegun]), if_pos hkind, hs0]
  exact if_neg (by rw [← sqFields, hr0]; decide)

/-! ### RING_DELETE, RING_RESUME, ABORT -/

theorem ringDelete_facts (hready : Ready s c 0x45 k) (hbegun : k.begun = false) (hkind : k.fld 0x18 1 = 0)
    (hidle : s.get Reg.HQ_SQ_STATUS_STATE (k.fld 0x1A 2) = 0) : ∃ t, execRingDelete c s = .next t ∧ Done s t c := by
  have hst : (s.setCmd { k with begun := true }).get Reg.HQ_SQ_STATUS_STATE (k.fld 0x1A 2) = 0 := hidle
  unfold execRingDelete
  rw [onCmd_ready hready]
  dsimp only
  rw [if_neg (by simp [hbegun]), if_pos hkind, if_pos hst]
  exact exists_done rfl

theorem readLine_log {j : Nat} : (s.readLine j).hq.log = s.hq.log := by
  unfold State.readLine
  split
  · rw [State.issueRead, hq_mk, emit_hq]
  · split
    · rfl
    · rfl

theorem resumeRing_log {n : Nat} {skip : Bool} : (s.resumeRing n skip).2.hq.log = s.hq.log := by
  unfold State.resumeRing
  cases skip with
  | false => exact readLine_log.trans (by rw [State.setFlag, put_hq])
  | true =>
    refine readLine_log.trans ?_
    rw [put_hq, put_hq]
    simp [State.setSq, State.setFlag]

theorem ringResume_facts (hready : Ready s c 0x46 k) (hfrozen : s.flag Reg.HQ_SQ_STATUS_FROZEN (k.fld 0x1A 2) = true) :
    ∃ t, execRingResume c s = .next t ∧ Done s t c := by
  have hf : (s.setCmd { k with begun := true }).flag Reg.HQ_SQ_STATUS_FROZEN (k.fld 0x1A 2) = true := hfrozen
  unfold execRingResume
  rw [onCmd_ready hready]
  dsimp only
  rw [if_neg (by rw [hf]; decide)]
  exact exists_done (resumeRing_log (s := begun s k))

/-- What a command has become is in its place; the others stay. -/
theorem mem_setCmd {d : Cmd} (h : d ∈ (s.setCmd k).hq.cmds) : d.tag = k.tag ∨ d ∈ s.hq.cmds := by
  obtain ⟨x, hx, rfl⟩ := List.mem_map.mp h
  split
  · exact Or.inl rfl
  · exact Or.inr hx

theorem abort_facts (hready : Ready s c 0x40 k) (hnone : s.hq.aborts = []) (hsend : s.canSend 0 = false)
    (hfetch : s.fetchesOf (k.fld 0x18 2) = 0) (hunf : s.unfetched (k.fld 0x18 2) = 0)
    (hmiss : ∀ d ∈ s.hq.cmds, d.tag ≠ c →
      (d.sq == k.fld 0x18 2 && d.cid == k.fld 0x1A 2 && d.epoch == k.fld 0x1C 1) = false) :
    ∃ t, execAbort c s = .next t ∧ Done s t c := by
  have htag : k.tag = c := cmd_tag hready.out
  have hn : (s.setCmd { k with begun := true }).hq.aborts = [] := hnone
  have hc : (s.setCmd { k with begun := true }).canSend 0 = false := hsend
  have hf : (s.setCmd { k with begun := true }).fetchesOf (k.fld 0x18 2) = 0 := hfetch
  have hu : (s.setCmd { k with begun := true }).unfetched (k.fld 0x18 2) = 0 := hunf
  have hfind : ∀ n : Nat, (((s.setCmd { k with begun := true }).setCmd { k with begun := true, progress := n }).hq.cmds.find? (fun d =>
      d.sq == k.fld 0x18 2 && d.cid == k.fld 0x1A 2 && d.epoch == k.fld 0x1C 1 && d.tag != c && !d.abandoned)) = none := by
    intro n
    rw [List.find?_eq_none]
    intro d hd
    by_cases hdc : d.tag = c
    · simp [hdc]
    · rcases mem_setCmd hd with h | h
      · exact absurd (h.trans htag) hdc
      · rcases mem_setCmd h with h | h
        · exact absurd (h.trans htag) hdc
        · simp [hmiss d h hdc]
  unfold execAbort
  rw [onCmd_ready hready]
  dsimp only
  rw [hn, List.find?_nil]
  dsimp only
  rw [if_neg (c := (State.canSend _ 0 && _) = true) (by rw [hc]; simp), if_neg (by rw [hf, hu]; simp), hfind]
  exact exists_done rfl

end Commands

/-- Settles O29: LOG_READ, the features, the creation, deletion and resumption of rings, and ABORT. -/
theorem administration : Obligations.Administration := by
  refine ⟨fun c k s hready hpage => ?_, fun c k s hready hwhat => ?_, fun c k s hready hwhat hval => ?_,
    fun c k s hready hbegun hkind hn htarget hidle hcq => ?_, fun c k s hready hbegun hkind hidle => ?_,
    fun c k s hready hn hfrozen => ?_, fun c k s hready hnone hbegun hsend hfetch hunf hmiss => ?_⟩
  · obtain ⟨t, hnext, hdone⟩ := logRead_facts hready hpage
    exact ⟨t, hnext, hdone, keeps_of_next mv_execLogRead hnext (by decide +kernel)⟩
  · obtain ⟨t, hnext, hdone⟩ := featureGet_facts hready hwhat
    exact ⟨t, hnext, hdone, keeps_of_next mv_execFeatureGet hnext (by decide +kernel)⟩
  · obtain ⟨t, hnext, hdone⟩ := featureSet_facts hready hwhat hval
    exact ⟨t, hnext, hdone, keeps_of_next mv_execFeatureSet hnext (by decide +kernel)⟩
  · obtain ⟨t, hnext, hstate, hsq⟩ := ringCreate_facts hready hbegun hkind hn htarget hidle hcq
    exact ⟨t, hnext, hstate, hsq, keeps_of_next mv_execRingCreate hnext (by decide +kernel)⟩
  · obtain ⟨t, hnext, hdone⟩ := ringDelete_facts hready hbegun hkind hidle
    exact ⟨t, hnext, hdone, keeps_of_next mv_execRingDelete hnext (by decide +kernel)⟩
  · obtain ⟨t, hnext, hdone⟩ := ringResume_facts hready hfrozen
    exact ⟨t, hnext, hdone, keeps_of_next mv_execRingResume hnext (by decide +kernel)⟩
  · obtain ⟨t, hnext, hdone⟩ := abort_facts hready hnone hsend hfetch hunf hmiss
    exact ⟨t, hnext, hdone, keeps_of_next mv_execAbort hnext (by decide +kernel)⟩

end Sys2Proof.Proofs
end

section
/-!
Block commands: WRITE, DISCARD, ATOMIC_WRITE, READ and FLUSH (09 R242 to R247; 10 R265 to R274).
-/
set_option Elab.async false

namespace Sys2Proof.Proofs
open Sys2Proof Sys2Proof.Machine Sys2Proof.Laws

section Writes
variable {s u : State} {c n : Nat} {k : Cmd} {b : List Byte} {ecc : NandEcc}

/-- All data is in the buffer, and the command does not wait for its programs: it completes. -/
theorem entered_done {t : State} (hlog : t.hq = s.hq) :
    ∃ v : State, t.entered k false = v.finish k.tag 0 k.ioBlocks ∧ v.hq.log = s.hq.log := by
  unfold State.entered
  rw [if_neg Bool.false_ne_true]
  exact ⟨_, rfl, congrArg HqSt.log hlog⟩

/-- A WRITE or DISCARD in range whose data all enters the buffer. -/
theorem blockWrite_done {discard : Bool} (hrefuse : s.magRefuse k true = none) (hn : k.ioBlocks * max 1 s.mag.lbs = n) (h0 : n ≠ 0)
    (hlen : discard = true ∨ k.dataLen = n) (hrange : k.ioLba + k.ioBlocks ≤ s.lbaCount) (hpast : k.pastAbort = false)
    (hwait : s.mapWait k = false) (hruns : s.bufRuns = true) (hprog : k.progress = 0) (hfua : k.fua = false)
    (hthrough : s.writeThrough = false)
    (hgot : (s.enter (if discard = true then none else some b) ecc k.tag 0 (piecesOf (k.ioLba * max 1 s.mag.lbs) n)).1 = n) :
    ∃ v : State, s.blockWrite k discard (.data b) ecc = v.finish k.tag 0 k.ioBlocks ∧ v.hq.log = s.hq.log := by
  have hbad : ¬ (decide (n = 0) || !discard && k.dataLen != n) = true := by rcases hlen with h | h <;> simp [h, h0]
  unfold State.blockWrite
  rw [hrefuse]
  dsimp only
  rw [hn, if_neg hbad, if_neg (by omega), if_neg (by simp [hpast, hwait, hruns]), hprog]
  simp only [Bool.and_false, Bool.false_eq_true, if_false, Nat.zero_mul, Nat.add_zero, Nat.sub_zero, Nat.zero_add, List.drop_zero,
    hgot, Nat.lt_irrefl, hfua, hthrough, Bool.or_self]
  exact entered_done (mv_enter.hq (by decide +kernel))

theorem write_facts (hready : Ready s c 0x01 k) (hu : u = s.setCmd { k with begun := true }) (hrefuse : u.magRefuse k true = none)
    (h0 : k.ioBlocks * max 1 u.mag.lbs ≠ 0) (hlen : k.dataLen = k.ioBlocks * max 1 u.mag.lbs)
    (hrange : k.ioLba + k.ioBlocks ≤ u.lbaCount) (hpast : k.pastAbort = false) (hwait : u.mapWait k = false) (hruns : u.bufRuns = true)
    (hprog : k.progress = 0) (hfua : k.fua = false) (hthrough : u.writeThrough = false)
    (hgot : (u.enter (some b) ecc k.tag 0 (piecesOf (k.ioLba * max 1 u.mag.lbs) k.dataLen)).1 = k.dataLen) :
    ∃ t, execWrite c (.data b) s ecc = .next t ∧ Done s t c := by
  subst hu
  obtain ⟨v, hv, hlog⟩ := blockWrite_done (discard := false) hrefuse hlen.symm (hlen ▸ h0) (Or.inr rfl) hrange hpast hwait hruns hprog
    hfua hthrough hgot
  unfold execWrite
  rw [onCmd_ready hready, hv, cmd_tag hready.out]
  exact exists_done (hlog.trans rfl)

theorem discard_facts (hready : Ready s c 0x04 k) (hu : u = s.setCmd { k with begun := true }) (hrefuse : u.magRefuse k true = none)
    (h0 : k.ioBlocks * max 1 u.mag.lbs ≠ 0) (hrange : k.ioLba + k.ioBlocks ≤ u.lbaCount) (hpast : k.pastAbort = false)
    (hwait : u.mapWait k = false) (hruns : u.bufRuns = true) (hprog : k.progress = 0) (hfua : k.fua = false)
    (hthrough : u.writeThrough = false)
    (hgot : (u.enter none ecc k.tag 0 (piecesOf (k.ioLba * max 1 u.mag.lbs) (k.ioBlocks * max 1 u.mag.lbs))).1 =
      k.ioBlocks * max 1 u.mag.lbs) : ∃ t, execDiscard c s ecc = .next t ∧ Done s t c := by
  subst hu
  obtain ⟨v, hv, hlog⟩ := blockWrite_done (discard := true) (b := []) hrefuse rfl h0 (Or.inl rfl) hrange hpast hwait hruns hprog
    hfua hthrough hgot
  unfold execDiscard
  rw [onCmd_ready hready, hv, cmd_tag hready.out]
  exact exists_done (hlog.trans rfl)

/-- Pieces entered as one group move the magazine's and the galley's part only. -/
theorem merged_hq {d : List Byte} {group : Option Nat} {w : Nat} {ps : List (Nat × Nat × Nat)} {a : Nat × State} :
    (ps.foldl (fun (a : Nat × State) p =>
      (a.1 + p.2.2, a.2.bufMerge p.1 p.2.1 p.2.2 (some ((d.drop a.1).take p.2.2)) ecc group w)) a).2.hq = a.2.hq := by
  induction ps generalizing a with
  | nil => rfl
  | cons p ps ih => exact ih.trans (mv_bufMerge.hq (by decide +kernel))

/-- An ATOMIC_WRITE in range for which the buffer has room. -/
theorem atomicWrite_done (hrefuse : s.magRefuse k true = none) (hn : n = k.ioBlocks * max 1 s.mag.lbs) (h0 : n ≠ 0) (hlen : k.dataLen = n)
    (hmax : n ≤ 2 ^ 20) (hone : k.ioLba * max 1 s.mag.lbs / 2 ^ 20 = (k.ioLba * max 1 s.mag.lbs + n - 1) / 2 ^ 20)
    (hrange : k.ioLba + k.ioBlocks ≤ s.lbaCount) (hpast : k.pastAbort = false) (hwait : s.mapWait k = false) (hruns : s.bufRuns = true)
    (hroom : ∀ j ≤ (piecesOf (k.ioLba * max 1 s.mag.lbs) n).length, s.bufRoom j = true) (hfua : k.fua = false)
    (hthrough : s.writeThrough = false) :
    ∃ v : State, s.atomicWrite k (.data b) ecc = v.finish k.tag 0 k.ioBlocks ∧ v.hq.log = s.hq.log := by
  unfold State.atomicWrite
  rw [hrefuse]
  dsimp only
  rw [← hn, if_neg (by simp [h0, hlen]; exact ⟨hmax, hone⟩), if_neg (by omega), if_neg (by simp [hpast, hwait, hruns]),
    hroom _ (List.length_filter_le _ _), hfua, hthrough]
  exact entered_done merged_hq

theorem atomicWrite_facts (hready : Ready s c 0x05 k) (hu : u = s.setCmd { k with begun := true })
    (hn : n = k.ioBlocks * max 1 u.mag.lbs) (hrefuse : u.magRefuse k true = none) (h0 : n ≠ 0) (hlen : k.dataLen = n)
    (hmax : n ≤ 2 ^ 20) (hone : k.ioLba * max 1 u.mag.lbs / 2 ^ 20 = (k.ioLba * max 1 u.mag.lbs + n - 1) / 2 ^ 20)
    (hrange : k.ioLba + k.ioBlocks ≤ u.lbaCount) (hpast : k.pastAbort = false) (hwait : u.mapWait k = false) (hruns : u.bufRuns = true)
    (hroom : ∀ j ≤ (piecesOf (k.ioLba * max 1 u.mag.lbs) n).length, u.bufRoom j = true) (hfua : k.fua = false)
    (hthrough : u.writeThrough = false) : ∃ t, execAtomicWrite c (.data b) s ecc = .next t ∧ Done s t c := by
  subst hu
  obtain ⟨v, hv, hlog⟩ := atomicWrite_done (b := b) (ecc := ecc) hrefuse hn h0 hlen hmax hone hrange hpast hwait hruns hroom hfua hthrough
  unfold execAtomicWrite
  rw [onCmd_ready hready, hv, cmd_tag hready.out]
  exact exists_done (hlog.trans rfl)

end Writes

section Reads
variable {s u : State} {c : Nat} {k : Cmd} {ecc : NandEcc}

theorem read_facts (hready : Ready s c 0x02 k) (hu : u = s.setCmd { k with begun := true }) (hrefuse : u.magRefuse k false = none)
    (h0 : k.ioBlocks ≠ 0) (hlen : k.dataLen = k.ioBlocks * max 1 u.mag.lbs) (hrange : k.ioLba + k.ioBlocks ≤ u.lbaCount)
    (hwait : u.mapWait k = false) (hruns : u.bufRuns = true)
    (hgood : (u.readRange (k.ioLba * max 1 u.mag.lbs) (k.ioBlocks * max 1 u.mag.lbs) ecc).2.1 = []) :
    ∃ t, execRead c ecc s = .next t ∧ Done s t c := by
  have hlog : (u.readRange (k.ioLba * max 1 u.mag.lbs) (k.ioBlocks * max 1 u.mag.lbs) ecc).2.2.hq.log = s.hq.log := by
    rw [mv_readRange.hq (by decide +kernel), hu]
    rfl
  unfold execRead
  rw [onCmd_ready hready]
  dsimp only
  rw [← hu, hrefuse]
  dsimp only
  rw [if_neg (by simp [h0, hlen]), if_neg (by omega), if_neg (by simp [hwait, hruns]), hgood]
  exact exists_done ((congrArg HqSt.log (mv_deliver.hq (by decide +kernel))).trans hlog)

theorem flush_facts (hready : Ready s c 0x03 k) (hu : u = s.setCmd { k with begun := true }) (hrefuse : u.magRefuse k false = none)
    (hflush : s.flushDone c = true) : ∃ t, execFlush c s = .next t ∧ Done s t c := by
  have hdone : (s.setCmd { k with begun := true }).flushDone c = true := hflush
  subst hu
  unfold execFlush
  rw [onCmd_ready hready, hrefuse]
  exact ⟨_, congrArg Host.Outcome.next (if_pos hdone), finish_done rfl⟩

end Reads

/-- Settles O30: WRITE, DISCARD, ATOMIC_WRITE, READ and FLUSH. -/
theorem blockCommands : Obligations.BlockCommands := by
  refine ⟨fun c k d ecc s u hready hu hrefuse h0 hlen hrange hpast hwait hruns hprog hfua hthrough hgot => ?_,
    fun c k ecc s u hready hu hrefuse h0 hrange hpast hwait hruns hprog hfua hthrough hgot => ?_,
    fun c k d ecc n s u hready hu hn hrefuse h0 hlen hmax hone hrange hpast hwait hruns hroom hfua hthrough => ?_,
    fun c k ecc s u hready hu hrefuse h0 hlen hrange hwait hruns hgood => ?_, fun c k s u hready hu hrefuse hflush => ?_⟩
  · obtain ⟨t, hnext, hdone⟩ := write_facts hready hu hrefuse h0 hlen hrange hpast hwait hruns hprog hfua hthrough hgot
    exact ⟨t, hnext, hdone, keeps_of_next mv_execWrite hnext (by decide +kernel)⟩
  · obtain ⟨t, hnext, hdone⟩ := discard_facts hready hu hrefuse h0 hrange hpast hwait hruns hprog hfua hthrough hgot
    exact ⟨t, hnext, hdone, keeps_of_next mv_execDiscard hnext (by decide +kernel)⟩
  · obtain ⟨t, hnext, hdone⟩ := atomicWrite_facts hready hu hn hrefuse h0 hlen hmax hone hrange hpast hwait hruns hroom hfua hthrough
    exact ⟨t, hnext, hdone, keeps_of_next mv_execAtomicWrite hnext (by decide +kernel)⟩
  · obtain ⟨t, hnext, hdone⟩ := read_facts hready hu hrefuse h0 hlen hrange hwait hruns hgood
    exact ⟨t, hnext, hdone, keeps_of_next mv_execRead hnext (by decide +kernel)⟩
  · obtain ⟨t, hnext, hdone⟩ := flush_facts hready hu hrefuse hflush
    exact ⟨t, hnext, hdone, keeps_of_next mv_execFlush hnext (by decide +kernel)⟩

end Sys2Proof.Proofs
end

section
/-!
EXPORT_TAKE, GALLEY_READ and EGRESS_PLAY (09 R238, R239; 03 R92).
-/
set_option Elab.async false

namespace Sys2Proof.Proofs
open Sys2Proof Sys2Proof.Machine Sys2Proof.Laws

section Galley
variable {s u : State} {c : Nat} {k : Cmd} {dmg : Damage} {x : Span}

theorem exportTake_facts {puns : Puns} {ecc : NandEcc} (hready : Ready s c 0x13 k) (hu : u = s.setCmd { k with begun := true })
    (hnamed : u.takeNamed k = true) (hclosed : u.takeState (k.fld 0x18 1) = 5) (hrefuse : u.magRefuse k true = none)
    (hkey : k.keySlot = 0xFFFF) (hdrains : u.drainsRun = true) (hprog : u.mayProgram = true) :
    execExportTake c dmg puns s ecc = .next ((u.strike dmg).exportStep k puns ecc) := by
  subst hu
  refine (onCmd_ready hready).trans (congrArg Host.Outcome.next ?_)
  dsimp only
  rw [if_neg (by simp [hnamed, hclosed]), hrefuse]
  dsimp only
  rw [if_neg (by simp [hkey]), if_neg (c := (!k.begun && k.keySlot != 0xFFFF) = true) (by simp [hkey]),
    if_pos (by rw [hdrains, hprog]; rfl)]

theorem galleyRead_facts (hready : Ready s c 0x14 k) (hu : u = s.setCmd { k with begun := true }) (hnamed : u.takeNamed k = true)
    (hdrains : u.drainsRun = true) (hsome : ((u.strike dmg).readFormes (k.fld 0x18 1) k.dataLen (u.formesNamed k)).1 ≠ 0)
    (hgood : ((u.strike dmg).readFormes (k.fld 0x18 1) k.dataLen (u.formesNamed k)).2.2.2.1 = none) :
    ∃ t, execGalleyRead c dmg s = .next t ∧ Done s t c := by
  have hlog : ((u.strike dmg).readFormes (k.fld 0x18 1) k.dataLen (u.formesNamed k)).2.2.2.2.hq.log = s.hq.log := by
    rw [mv_readFormes.hq (by decide +kernel), mv_strike.hq (by decide +kernel), hu]
    rfl
  subst hu
  unfold execGalleyRead
  rw [onCmd_ready hready]
  dsimp only
  rw [if_neg (by simp [hnamed]), if_neg (by simp [hdrains]), if_neg (by simp [hsome]), hgood]
  exact exists_done ((congrArg HqSt.log (mv_deliver.hq (by decide +kernel))).trans hlog)

theorem egressPlay_facts (hready : Ready s c 0x15 k) (hu : u = s.setCmd { k with begun := true }) (hcaught : k.unit = 0 → k.caught = none)
    (hplay : u.playWaits k = false) (hnamed : u.takeNamed k = true) (hport : k.fld 0x1C 1 ≤ 31)
    (hsrc : u.get Reg.LANE_PORT_CTL_TX_SRC (k.fld 0x1C 1) = 1) (hdrains : u.drainsRun = true)
    (htx : k.unit = 0 → u.txWaits (k.fld 0x1C 1) = false)
    (hone : (u.formesNamed k).filter (fun x => decide (k.detail ≤ x.frame)) = [x]) (hloop : k.fld 0x1D 1 = 0)
    (hlast : x.bytes ≤ 56 * ((if x.frame = k.detail then k.unit else 0) + 8)) :
    ∃ t, execEgressPlay c dmg s = .next t ∧ t.cmd c = none := by
  have hgoes : (if k.unit = 0 then k.caught else none) = none := by
    split
    next h => exact hcaught h
    next => rfl
  subst hu
  unfold execEgressPlay
  rw [onCmd_ready hready]
  dsimp only
  rw [hgoes]
  dsimp only
  rw [if_neg (by simp [hplay]), if_neg (by simp [hnamed]), if_neg (by simp [hsrc]; omega), if_neg (by simp [hdrains]),
    if_neg (by simp; exact htx), hone]
  exact ⟨_, congrArg Host.Outcome.next (if_pos (by simp [hloop]; exact hlast)), finish_gone⟩

end Galley

/-- Settles O31: EXPORT_TAKE, GALLEY_READ and EGRESS_PLAY. -/
theorem galleyCommands : Obligations.GalleyCommands := by
  refine ⟨fun c k dmg puns ecc s u hready hu hnamed hclosed hrefuse hkey hdrains hprog => ?_,
    fun c k dmg s u hready hu hnamed hdrains hsome hgood => ?_,
    fun c k dmg x s u hready hu hcaught hplay hnamed hport hsrc hdrains htx hone hloop hlast => ?_⟩
  · have hnext := exportTake_facts (dmg := dmg) (puns := puns) (ecc := ecc) hready hu hnamed hclosed hrefuse hkey hdrains hprog
    exact ⟨_, hnext, rfl, keeps_of_next mv_execExportTake hnext (by decide +kernel)⟩
  · obtain ⟨t, hnext, hdone⟩ := galleyRead_facts hready hu hnamed hdrains hsome hgood
    exact ⟨t, hnext, hdone, keeps_of_next mv_execGalleyRead hnext (by decide +kernel)⟩
  · obtain ⟨t, hnext, hgone⟩ := egressPlay_facts (dmg := dmg) hready hu hcaught hplay hnamed hport hsrc hdrains htx hone hloop hlast
    exact ⟨t, hnext, hgone, keeps_of_next mv_execEgressPlay hnext (by decide +kernel)⟩

end Sys2Proof.Proofs
end

section
/-!
Archive commands: the exchange, writing, sealing, reading and verifying (15 R398; 13 R343 to R355; 12 R325 to R328).
-/
set_option Elab.async false

namespace Sys2Proof.Proofs
open Sys2Proof Sys2Proof.Machine Sys2Proof.Laws

section Exchange
variable {s u : State} {c : Nat} {k : Cmd} {x : Exchange} {d : Disc}

/-- The exchange of a load is over: the session of a disc with good wedges is read. -/
theorem discLoaded_done (hdisc : s.och.disc = some d) (hgood : d.wedgesGood = true) :
    ∃ v : State, s.discLoaded c = v.loadSession.finish c 0 0 ∧ v.hq = s.hq := by
  unfold State.discLoaded
  simp only [hdisc, hgood, Bool.not_true, Bool.false_eq_true, if_false]
  exact ⟨_, rfl, rfl⟩

theorem discLoad_ends (hready : Ready s c 0x20 k) (hx : s.mot.exchange = some x) (hcmd : x.cmd = some c) (hacts : x.acts = [])
    (hdisc : s.och.disc = some d) (hgood : d.wedgesGood = true) : ∃ t, execDiscLoad c s = .next t ∧ Done s t c := by
  have hx' : (s.setCmd { k with begun := true }).mot.exchange = some x := hx
  obtain ⟨v, hv, hhq⟩ := discLoaded_done (s := s.setCmd { k with begun := true }) (c := c) hdisc hgood
  unfold execDiscLoad
  rw [onCmd_ready hready]
  dsimp only
  rw [hx']
  dsimp only
  rw [if_neg (by simp [hcmd]), if_pos (by simp [hacts]), hv]
  have hlog : v.hq.log = s.hq.log := (congrArg HqSt.log hhq).trans rfl
  exact exists_done ((congrArg HqSt.log (mv_loadSession.hq (by decide +kernel))).trans hlog)

theorem discLoad_starts (hready : Ready s c 0x20 k) (hx : s.mot.exchange = none) (hslot : s.mot.noSlot = false)
    (hcart : s.mot.cartPresent = true) (hjob : s.och.job = none) (hread : s.och.reading = none) (hclamp : s.mot.clamped = false) :
    ∃ t, execDiscLoad c s = .next t ∧ t.mot.exchange =
      some { cmd := some c, load := true, slot := k.fld 0x18 1, acts := loadActs (k.fld 0x18 1), issued := false } := by
  have hx' : (s.setCmd { k with begun := true }).mot.exchange = none := hx
  have hs' : (s.setCmd { k with begun := true }).mot.noSlot = false := hslot
  have hc' : (s.setCmd { k with begun := true }).mot.cartPresent = true := hcart
  have hl' : (s.setCmd { k with begun := true }).mot.clamped = false := hclamp
  have hj' : (s.setCmd { k with begun := true }).och.job = none := hjob
  have hr' : (s.setCmd { k with begun := true }).och.reading = none := hread
  unfold execDiscLoad
  rw [onCmd_ready hready]
  dsimp only
  rw [hx']
  dsimp only
  rw [if_neg (by rw [hs']; decide), if_neg (by rw [hc']; decide), if_neg (by rw [hj', hr']; decide),
    if_neg (c := (s.setCmd { k with begun := true }).mot.clamped = true) (by rw [hl']; decide)]
  exact ⟨_, rfl, rfl⟩

theorem discEject_ends (hready : Ready s c 0x21 k) (hx : s.mot.exchange = some x) (hcmd : x.cmd = some c) (hacts : x.acts = []) :
    ∃ t, execDiscEject c s = .next t ∧ Done s t c := by
  have hx' : (s.setCmd { k with begun := true }).mot.exchange = some x := hx
  unfold execDiscEject
  rw [onCmd_ready hready]
  dsimp only
  rw [hx']
  dsimp only
  rw [if_neg (by simp [hcmd]), if_pos (by simp [hacts])]
  exact exists_done rfl

end Exchange

section Writing
variable {s u : State} {c : Nat} {k : Cmd} {d : Disc} {j : ArchiveJob} {ecc : NandEcc} {opc : List (List Bool)} {pass : FolioPass}

/-- A job with every folio written and verified has no piece left. -/
theorem archivePiece_none (hinfo : j.info = none) (hback : j.readBack = []) (hend : j.endLfn ≤ j.nextLfn) (hreloc : s.och.relocQ = [])
    (hflight : s.och.flight = []) : s.archivePiece j ecc opc pass = none := by
  unfold State.archivePiece
  rw [hinfo, hback]
  dsimp only
  rw [if_neg (by simp; omega), if_neg (by simp [hreloc]), if_pos (by simp [hflight, hend])]

theorem finishArchive_done {t : State} {res : Nat} (hcmd : j.cmd = c) (hlog : t.hq.log = s.hq.log) :
    ∃ u, (Host.Outcome.next (t.finishArchive j 0 res) : Result) = .next u ∧ Done s u c := by
  unfold State.finishArchive
  rw [hcmd]
  exact exists_done ((congrArg HqSt.log (mv_endArchive.hq (by decide +kernel))).trans hlog)

theorem archiveWrite_ends (hready : Ready s c 0x22 k) (hu : u = s.setCmd { k with begun := true }) (hoch : u.ochRefuse k = none)
    (hmag : u.magRefuse k false = none) (hknown : u.och.known = true) (hdisc : u.och.disc = some d) (hjob : u.och.job = some j)
    (hcmd : j.cmd = c) (hinfo : j.info = none) (hback : j.readBack = []) (hend : j.endLfn ≤ j.nextLfn) (hreloc : u.och.relocQ = [])
    (hflight : u.och.flight = []) : ∃ t, execArchiveWrite c ecc opc pass s = .next t ∧ Done s t c := by
  have hlog : u.hq.log = s.hq.log := by rw [hu]; rfl
  have hsess : u.withSession = u := if_pos hknown
  unfold execArchiveWrite
  rw [onCmd_ready hready]
  dsimp only
  rw [← hu, hoch, hmag]
  dsimp only
  rw [hsess, hdisc, hjob]
  dsimp only
  rw [if_neg (by simp [hcmd]), archivePiece_none hinfo hback hend hreloc hflight]
  exact finishArchive_done hcmd hlog

theorem sealImago_ends {dir : List Byte} (hready : Ready s c 0x24 k) (hu : u = s.setCmd { k with begun := true })
    (hoch : u.ochRefuse k = none) (hknown : u.och.known = true) (hdisc : u.och.disc = some d) (hjob : u.och.job = some j)
    (hcmd : j.cmd = c) (hinfo : j.info = none) (hback : j.readBack = []) (hend : j.endLfn ≤ j.nextLfn) (hreloc : u.och.relocQ = [])
    (hflight : u.och.flight = []) (hdir : j.dir = some dir) (hslot : j.dirSlot ≠ none) (hcopies : 4 ≤ j.dirGood) :
    ∃ t, execSealImago c s = .next t ∧ Done s t c := by
  have hlog : u.hq.log = s.hq.log := by rw [hu]; rfl
  have hsess : u.withSession = u := if_pos hknown
  obtain ⟨n, hn⟩ := Option.ne_none_iff_exists'.mp hslot
  unfold execSealImago
  rw [onCmd_ready hready]
  dsimp only
  rw [← hu, hoch]
  dsimp only
  rw [hsess, hdisc, hjob]
  dsimp only
  rw [if_neg (by simp [hcmd]), archivePiece_none hinfo hback hend hreloc hflight, hdir]
  dsimp only
  unfold State.sealDirectory
  dsimp only
  rw [hn]
  dsimp only
  rw [if_pos hcopies]
  exact finishArchive_done hcmd hlog

end Writing

section Reading
variable {s u v : State} {c : Nat} {k k1 : Cmd} {pass : FolioPass}

theorem archiveRead_facts (hready : Ready s c 0x23 k) (hu : u = s.setCmd { k with begun := true }) (hoch : u.ochRefuse k = none)
    (hlen : k.dataLen = 65536 * k.blocks) (h0 : k.blocks ≠ 0) (hrange : k.lba + k.blocks ≤ discFolios) (hjob : u.och.job = none)
    (hturn : u.hq.cmds.any (fun d => (d.op == 0x23 || d.op == 0x25) && d.begun && decide (d.tag < c)) = false) (hcaught : k.caught = none)
    (hv : v = u.readFolio k (k.lba + k.progress) pass) (hk : v.cmd c = some k1) :
    ∃ t, execArchiveRead c pass s = .next t ∧ (k1.progress < k.blocks → t = v) ∧ (k.blocks ≤ k1.progress → t.cmd c = none) := by
  unfold execArchiveRead
  rw [onCmd_ready hready]
  dsimp only
  rw [← hu, hoch]
  dsimp only
  rw [if_neg (by simp [hlen]), if_neg (by omega), if_neg (by rw [hjob, hturn]; decide), if_neg (by simp [hcaught]), if_neg h0, ← hv, hk]
  refine ⟨_, rfl, fun h => if_pos h, fun h => ?_⟩
  dsimp only
  rw [if_neg (by omega)]
  exact finish_gone

theorem archiveVerify_facts {d : Disc} {w : List Byte} (hready : Ready s c 0x25 k) (hu : u = s.setCmd { k with begun := true })
    (hoch : u.ochRefuse k = none) (hjob : u.och.job = none)
    (hturn : u.hq.cmds.any (fun d => (d.op == 0x23 || d.op == 0x25) && d.begun && decide (d.tag < c)) = false)
    (hdisc : u.och.disc = some d) (hentry : imagoEntry d (k.fld 0x18 2) = some w) (hbegun : k.begun = true) (hcaught : k.caught = none)
    (hleft : k.progress < fieldAt w 0x1C 4 - fieldAt w 8 4) (hv : v = u.readFolio k (fieldAt w 8 4 + k.progress) pass)
    (hk : v.cmd c = some k1) :
    ∃ t, execArchiveVerify c pass s = .next t ∧ (k1.progress < fieldAt w 0x1C 4 - fieldAt w 8 4 → t = v) ∧
      (fieldAt w 0x1C 4 - fieldAt w 8 4 ≤ k1.progress → t.cmd c = none) := by
  unfold execArchiveVerify
  rw [onCmd_ready hready]
  dsimp only
  rw [← hu, hoch]
  dsimp only
  rw [if_neg (by rw [hjob, hturn]; decide), hdisc, Option.bind_some, hentry]
  dsimp only
  rw [if_neg (by simp [hcaught]), if_neg (by omega), if_pos hbegun, ← hv, hk]
  refine ⟨_, rfl, fun h => if_pos h, fun h => ?_⟩
  dsimp only
  rw [if_neg (by omega)]
  exact finish_gone

end Reading

/-- Settles O32: the exchange of a disc, the end of a write and of a seal, and reading and verifying folio by folio. -/
theorem archiveCommands : Obligations.ArchiveCommands := by
  refine ⟨fun c k x d s hready hx hcmd hacts hdisc hgood => ?_, fun c k s hready hx hslot hcart hjob hread hclamp => ?_,
    fun c k x s hready hx hcmd hacts => ?_,
    fun c k ecc opc pass d j s u hready hu hoch hmag hknown hdisc hjob hcmd hinfo hback hend hreloc hflight => ?_,
    fun c k k1 pass s u v hready hu hoch hlen h0 hrange hjob hturn hcaught hv hk => ?_,
    fun c k d j dir s u hready hu hoch hknown hdisc hjob hcmd hinfo hback hend hreloc hflight hdir hslot hcopies => ?_,
    fun c k k1 pass d w s u v hready hu hoch hjob hturn hdisc hentry hbegun hcaught hleft hv hk => ?_⟩
  · obtain ⟨t, hnext, hdone⟩ := discLoad_ends hready hx hcmd hacts hdisc hgood
    exact ⟨t, hnext, hdone, keeps_of_next mv_execDiscLoad hnext (by decide +kernel)⟩
  · obtain ⟨t, hnext, hex⟩ := discLoad_starts hready hx hslot hcart hjob hread hclamp
    exact ⟨t, hnext, hex, keeps_of_next mv_execDiscLoad hnext (by decide +kernel)⟩
  · obtain ⟨t, hnext, hdone⟩ := discEject_ends hready hx hcmd hacts
    exact ⟨t, hnext, hdone, keeps_of_next mv_execDiscEject hnext (by decide +kernel)⟩
  · obtain ⟨t, hnext, hdone⟩ := archiveWrite_ends (ecc := ecc) (opc := opc) (pass := pass) hready hu hoch hmag hknown hdisc hjob hcmd
      hinfo hback hend hreloc hflight
    exact ⟨t, hnext, hdone, keeps_of_next mv_execArchiveWrite hnext (by decide +kernel)⟩
  · obtain ⟨t, hnext, hmore, hlast⟩ := archiveRead_facts hready hu hoch hlen h0 hrange hjob hturn hcaught hv hk
    exact ⟨t, hnext, hmore, hlast, keeps_of_next mv_execArchiveRead hnext (by decide +kernel)⟩
  · obtain ⟨t, hnext, hdone⟩ := sealImago_ends hready hu hoch hknown hdisc hjob hcmd hinfo hback hend hreloc hflight hdir hslot hcopies
    exact ⟨t, hnext, hdone, keeps_of_next mv_execSealImago hnext (by decide +kernel)⟩
  · obtain ⟨t, hnext, hmore, hlast⟩ := archiveVerify_facts hready hu hoch hjob hturn hdisc hentry hbegun hcaught hleft hv hk
    exact ⟨t, hnext, hmore, hlast, keeps_of_next mv_execArchiveVerify hnext (by decide +kernel)⟩

end Sys2Proof.Proofs
end

section
/-!
Security commands: KEY_LOAD, KEY_CLEAR, CIPHER, MAC, ATTEST and CERT_READ (16 R401 to R412, R424, R427).
-/
set_option Elab.async false

namespace Sys2Proof.Proofs
open Sys2Proof Sys2Proof.Machine Sys2Proof.Laws

section Keys
variable {s u : State} {c : Nat} {k : Cmd} {b : List Byte}

theorem fillSlot_hq {n bits use : Nat} {key : List Byte} : (s.fillSlot n bits use key).hq = s.hq := by
  simp [State.fillSlot, State.setFlag]

/-- A good plain blob fills its slot. -/
theorem keyBlob_loads (hblob : blobOk b (k.fld 0x18 2) k.keySlot = true)
    (huse : useOk (fieldAt b 8 1) (s.flag Reg.SEC_POLICY_COMPAT_OK) = true) (hwrap : k.fld 0x1A 2 = 0xFFFF)
    (hplain : s.flag Reg.SEC_POLICY_PLAIN_OK = true) (hpad : (((b.drop 16).take 32).drop (k.fld 0x18 2 / 8)).any (· != 0) = false) :
    s.keyBlob k b = s.keyLoaded k.tag k.keySlot (k.fld 0x18 2) (fieldAt b 8 1) ((b.drop 16).take 32) := by
  unfold State.keyBlob
  dsimp only
  rw [if_neg (by simp [hblob, huse]), if_pos hwrap, if_neg (by simp [hplain]), if_neg (by rw [hpad]; decide)]

theorem keyLoad_facts (hready : Ready s c 0x30 k) (hslot : k.keySlot < 248) (hwrap : k.fld 0x1A 2 = 0xFFFF)
    (hbits : k.fld 0x18 2 = 128 ∨ k.fld 0x18 2 = 192 ∨ k.fld 0x18 2 = 256) (hlen : k.dataLen = 48)
    (hblob : blobOk b (k.fld 0x18 2) k.keySlot = true) (huse : useOk (fieldAt b 8 1) (s.flag Reg.SEC_POLICY_COMPAT_OK) = true)
    (hplain : s.flag Reg.SEC_POLICY_PLAIN_OK = true) (hpad : (((b.drop 16).take 32).drop (k.fld 0x18 2 / 8)).any (· != 0) = false) :
    ∃ t, execKeyLoad c (.data b) s = .next t ∧ Done s t c := by
  have hload := keyBlob_loads (s := s.setCmd { k with begun := true }) hblob huse hwrap hplain hpad
  have hne : ¬ (65535 = k.keySlot) := by omega
  unfold execKeyLoad
  rw [onCmd_ready hready]
  dsimp only
  rw [if_neg (by rcases hbits with h | h | h <;> simp [hwrap, hlen, h, hne] <;> omega), hload, cmd_tag hready.out]
  unfold State.keyLoaded
  exact exists_done (by rw [State.inc, State.add, put_hq, fillSlot_hq]; rfl)

theorem emptySlot_facts {n : Nat} : (s.emptySlot n).hq = s.hq ∧ (s.emptySlot n).sec.bound = s.sec.bound := by
  simp [State.emptySlot, State.setFlag]

theorem keyClear_facts (hready : Ready s c 0x31 k) (hnone : s.sec.clears.any (fun e => e.1 == c) = false) (hslot : k.keySlot < 248)
    (hfree : ∀ v, s.keySlot k.keySlot = some v → s.sec.bound.any (fun b => b.serial == v.serial) = false) :
    ∃ t, execKeyClear c s = .next t ∧ Done s t c := by
  have hc : (s.setCmd { k with begun := true }).sec.clears.any (fun e => e.1 == c) = false := hnone
  have hf : ∀ v, (s.setCmd { k with begun := true }).keySlot k.keySlot = some v →
      (s.setCmd { k with begun := true }).sec.bound.any (fun b => b.serial == v.serial) = false := hfree
  obtain ⟨hhq, hbound⟩ := emptySlot_facts (s := s.setCmd { k with begun := true }) (n := k.keySlot)
  unfold execKeyClear
  rw [onCmd_ready hready]
  dsimp only
  rw [if_neg (by rw [hc]; decide), if_neg (by omega)]
  cases hv : (s.setCmd { k with begun := true }).keySlot k.keySlot with
  | none => exact exists_done rfl
  | some v =>
    dsimp only
    rw [if_neg (by rw [hbound, hf v hv]; decide)]
    exact exists_done ((congrArg HqSt.log hhq).trans rfl)

end Keys

section Engines
variable {s : State} {c : Nat} {k : Cmd} {b key : List Byte}

/-- A host AES command whose key is bound and whose pieces are done computes. -/
theorem hostAes_computes {bit : Nat} {feedback : Bool} {f : State → List Byte → List Byte → State} (hblocks : k.dataLen % 16 = 0)
    (h0 : k.dataLen ≠ 0) (hkey : s.boundKey k.tag = some key) (hbusy : s.aesBusy k.tag = false) :
    s.hostAes k (.data b) bit feedback f = f s key b := by
  unfold State.hostAes
  rw [if_neg (by simp [hblocks]), if_neg h0, hkey]
  dsimp only
  rw [if_neg (by simp [hbusy])]

theorem hostPiece_hq {a : Nat} {p : Bool} : (s.hostPiece a b p).hq = s.hq := mv_hostPiece.hq (by decide +kernel)

theorem cipher_facts (hready : Ready s c 0x32 k) (hlist : k.list = false)
    (hover : badOverlap k.dataAddr (k.fld 0x30 8) k.dataLen = false) (hblocks : k.dataLen % 16 = 0) (h0 : k.dataLen ≠ 0)
    (hkey : s.boundKey c = some key) (hbusy : s.aesBusy c = false) : ∃ t, execCipher c (.data b) s = .next t ∧ Done s t c := by
  have htag : k.tag = c := cmd_tag hready.out
  have hkey' : (s.setCmd { k with begun := true }).boundKey k.tag = some key := htag ▸ hkey
  have hbusy' : (s.setCmd { k with begun := true }).aesBusy k.tag = false := htag ▸ hbusy
  unfold execCipher
  rw [onCmd_ready hready]
  dsimp only
  rw [if_neg (by simp [hover]), hostAes_computes hblocks h0 hkey' hbusy']
  simp only [hlist, Bool.false_and, Bool.false_eq_true, if_false]
  exact exists_done ((congrArg HqSt.log hostPiece_hq).trans rfl)

theorem mac_facts (hready : Ready s c 0x33 k) (hblocks : k.dataLen % 16 = 0) (h0 : k.dataLen ≠ 0) (hkey : s.boundKey c = some key)
    (hbusy : s.aesBusy c = false) : ∃ t, execMac c (.data b) s = .next t ∧ Done s t c := by
  have htag : k.tag = c := cmd_tag hready.out
  have hkey' : (s.setCmd { k with begun := true }).boundKey k.tag = some key := htag ▸ hkey
  have hbusy' : (s.setCmd { k with begun := true }).aesBusy k.tag = false := htag ▸ hbusy
  unfold execMac
  rw [onCmd_ready hready]
  rw [hostAes_computes hblocks h0 hkey' hbusy']
  exact exists_done ((congrArg HqSt.log hostPiece_hq).trans rfl)

theorem deliver_log {bytes : List Byte} {bad : List Nat} : (s.deliver k bytes bad).hq.log = s.hq.log :=
  congrArg HqSt.log (mv_deliver.hq (by decide +kernel))

theorem attest_facts (hready : Ready s c 0x34 k) (hlen : 416 ≤ k.dataLen) : ∃ t, execAttest c s = .next t ∧ Done s t c := by
  unfold execAttest
  rw [onCmd_ready hready]
  dsimp only
  rw [if_neg (by omega)]
  exact exists_done (deliver_log.trans rfl)

theorem certRead_facts (hready : Ready s c 0x49 k) (hlen : ((Config.cert (k.fld 0x18 1)).take 2048).length ≤ k.dataLen) :
    ∃ t, execCertRead c s = .next t ∧ Done s t c := by
  unfold execCertRead
  rw [onCmd_ready hready]
  dsimp only
  rw [if_neg (Nat.not_lt.mpr hlen)]
  exact exists_done (deliver_log.trans rfl)

end Engines

/-- Settles O33: keys, ciphers, MACs, the report and the certificate. -/
theorem securityCommands : Obligations.SecurityCommands := by
  refine ⟨fun c k b s hready hslot hwrap hbits hlen hblob huse hplain hpad => ?_, fun c k s hready hnone hslot hfree => ?_,
    fun c k b key s hready hlist hover hblocks h0 hkey hbusy => ?_, fun c k b key s hready hblocks h0 hkey hbusy => ?_,
    fun c k s hready hlen => ?_, fun c k s hready hlen => ?_⟩
  · obtain ⟨t, hnext, hdone⟩ := keyLoad_facts hready hslot hwrap hbits hlen hblob huse hplain hpad
    exact ⟨t, hnext, hdone, keeps_of_next mv_execKeyLoad hnext (by decide +kernel)⟩
  · obtain ⟨t, hnext, hdone⟩ := keyClear_facts hready hnone hslot hfree
    exact ⟨t, hnext, hdone, keeps_of_next mv_execKeyClear hnext (by decide +kernel)⟩
  · obtain ⟨t, hnext, hdone⟩ := cipher_facts (b := b) hready hlist hover hblocks h0 hkey hbusy
    exact ⟨t, hnext, hdone, keeps_of_next mv_execCipher hnext (by decide +kernel)⟩
  · obtain ⟨t, hnext, hdone⟩ := mac_facts (b := b) hready hblocks h0 hkey hbusy
    exact ⟨t, hnext, hdone, keeps_of_next mv_execMac hnext (by decide +kernel)⟩
  · obtain ⟨t, hnext, hdone⟩ := attest_facts hready hlen
    exact ⟨t, hnext, hdone, keeps_of_next mv_execAttest hnext (by decide +kernel)⟩
  · obtain ⟨t, hnext, hdone⟩ := certRead_facts hready hlen
    exact ⟨t, hnext, hdone, keeps_of_next mv_execCertRead hnext (by decide +kernel)⟩

end Sys2Proof.Proofs
end

section
/-!
SANITIZE and FORMAT (09 R252, R253; 10 R282 to R284).
-/
set_option Elab.async false

namespace Sys2Proof.Proofs
open Sys2Proof Sys2Proof.Machine Sys2Proof.Laws

section Sanitize
variable {s u : State} {c kind lbs : Nat} {k : Cmd} {j : SanitizeJob} {galley : Bool}

theorem showSanitize_facts {st progress : Nat} {resumed : Bool} (hst : st < 8) (hprog : progress < 256) :
    (s.showSanitize kind st progress resumed).get Reg.HQ_SANITIZE_STATE = st ∧
      (s.showSanitize kind st progress resumed).get Reg.HQ_SANITIZE_PROGRESS = progress ∧
      (s.showSanitize kind st progress resumed).mag = s.mag := by
  unfold State.showSanitize
  refine ⟨?_, ?_, by simp [State.setFlag]⟩
  · rw [get_setFlag_apart (by decide) (by decide), get_put_apart (by decide) (by decide), get_put_same (by decide) (by decide)]
    exact Nat.mod_eq_of_lt hst
  · rw [get_setFlag_apart (by decide) (by decide), get_put_same (by decide) (by decide)]
    exact Nat.mod_eq_of_lt hprog

/-- The job of SANITIZE and FORMAT, journalled and shown. -/
def sanitizeBegun (s : State) (j : SanitizeJob) : State :=
  (({ s with mag := { s.mag with sanitize := some j } } : State).sanitizeJournal j 1 0).showSanitize j.kind 1 0 false

theorem sanitizeBegun_facts : (sanitizeBegun s j).mag.sanitize = some j ∧ (sanitizeBegun s j).get Reg.HQ_SANITIZE_STATE = 1 ∧
    (sanitizeBegun s j).get Reg.HQ_SANITIZE_PROGRESS = 0 := by
  obtain ⟨hst, hprog, hmag⟩ := showSanitize_facts (s := ({ s with mag := { s.mag with sanitize := some j } } : State).sanitizeJournal j 1 0)
    (kind := j.kind) (st := 1) (progress := 0) (resumed := false) (by decide) (by decide)
  refine ⟨?_, hst, hprog⟩
  rw [sanitizeBegun, hmag, mv_sanitizeJournal.mag (by decide +kernel)]

/-- A command that may begin an operation begins it. -/
theorem sanitizeCmd_begins (hnone : s.mag.sanitize = none) (hfree : s.sanitizing k.tag = false)
    (hturn : s.hq.cmds.any (fun d => usesMag d.op && decide (d.tag < k.tag)) = false) (hable : s.sanitizable = true) :
    s.sanitizeCmd k kind lbs galley = sanitizeBegun s { kind, lbs, galley, cmd := some k.tag } := by
  unfold State.sanitizeCmd
  rw [hnone]
  dsimp only
  rw [if_neg (by simp [hfree]), if_neg (by rw [hturn]; decide), if_neg (by simp [hable])]
  rfl

theorem sanitize_begins (hready : Ready s c 0x47 k) (hu : u = s.setCmd { k with begun := true }) (hnone : u.mag.sanitize = none)
    (hfree : u.sanitizing c = false) (hturn : u.hq.cmds.any (fun d => usesMag d.op && decide (d.tag < c)) = false)
    (hable : u.sanitizable = true) : execSanitize c s =
      .next (sanitizeBegun u { kind := k.fld 0x18 1, lbs := 0, galley := k.fld 0x19 1 == 1, cmd := some c }) := by
  obtain rfl := cmd_tag hready.out
  unfold execSanitize
  rw [onCmd_ready hready, ← hu, sanitizeCmd_begins hnone hfree hturn hable]

theorem format_begins (hready : Ready s c 0x48 k) (hu : u = s.setCmd { k with begun := true }) (hnone : u.mag.sanitize = none)
    (hfree : u.sanitizing c = false) (hturn : u.hq.cmds.any (fun d => usesMag d.op && decide (d.tag < c)) = false)
    (hable : u.sanitizable = true) : execFormat c s =
      .next (sanitizeBegun u { kind := 3, lbs := if k.fld 0x18 1 = 1 then 16384 else 4096, galley := false, cmd := some c }) := by
  obtain rfl := cmd_tag hready.out
  unfold execFormat
  rw [onCmd_ready hready, ← hu, sanitizeCmd_begins hnone hfree hturn hable]

/-- The last phase ends the operation. -/
theorem sanitizeStep_ends {resumed : Bool} (hlast : s.sanitizePhases j ≤ j.phase + 1) : (s.sanitizeStep j resumed).mag.sanitize = none := by
  unfold State.sanitizeStep
  dsimp only
  rw [if_pos hlast, (showSanitize_facts (by decide) (by decide)).2.2, mv_sanitizeJournal.mag (by decide +kernel)]

theorem sanitize_ends (hready : Ready s c 0x47 k) (hu : u = s.setCmd { k with begun := true }) (hjob : u.mag.sanitize = some j)
    (hcmd : j.cmd = some c) (hprog : u.mayProgram = true) (hlast : u.sanitizePhases j ≤ j.phase + 1) :
    ∃ t, execSanitize c s = .next t ∧ t.cmd c = none := by
  obtain rfl := cmd_tag hready.out
  unfold execSanitize State.sanitizeCmd
  rw [onCmd_ready hready, ← hu, hjob]
  dsimp only
  rw [if_pos (by simp [hcmd])]
  dsimp only
  rw [if_neg (by simp [hprog]), sanitizeStep_ends hlast]
  exact ⟨_, rfl, finish_gone⟩

theorem sanitizeResume_facts (hjob : s.mag.sanitize = some j) (hcmd : j.cmd = none) (hable : s.sanitizable = true)
    (hcores : ∀ n ≤ 2, s.coreRuns n = true) (hsave : s.saving = false) : execSanitizeResume s = .next (s.sanitizeStep j true) := by
  unfold execSanitizeResume
  rw [hjob]
  dsimp only
  rw [if_neg (by simp [hcmd, hable, hsave, hcores 0 (by decide), hcores 1 (by decide), hcores 2 (by decide)])]

end Sanitize

/-- Settles O35: the beginning of an operation, its last phase and its resumption. -/
theorem sanitize : Obligations.Sanitize := by
  refine ⟨fun c k s u hready hu hnone hfree hturn hable => ?_, fun c k s u hready hu hnone hfree hturn hable => ?_,
    fun c k j s u hready hu hjob hcmd hprog hlast => ?_, fun j s hjob hcmd hable hcores hsave => ?_⟩
  · have hnext := sanitize_begins hready hu hnone hfree hturn hable
    obtain ⟨hmag, hst, hprog⟩ := sanitizeBegun_facts (s := u)
      (j := { kind := k.fld 0x18 1, lbs := 0, galley := k.fld 0x19 1 == 1, cmd := some c })
    exact ⟨_, hnext, hmag, hst, hprog, keeps_of_next mv_execSanitize hnext (by decide +kernel)⟩
  · have hnext := format_begins hready hu hnone hfree hturn hable
    obtain ⟨hmag, hst, hprog⟩ := sanitizeBegun_facts (s := u)
      (j := { kind := 3, lbs := if k.fld 0x18 1 = 1 then 16384 else 4096, galley := false, cmd := some c })
    exact ⟨_, hnext, hmag, hst, hprog, keeps_of_next mv_execFormat hnext (by decide +kernel)⟩
  · obtain ⟨t, hnext, hgone⟩ := sanitize_ends hready hu hjob hcmd hprog hlast
    exact ⟨t, hnext, hgone, keeps_of_next mv_execSanitize hnext (by decide +kernel)⟩
  · have hnext := sanitizeResume_facts hjob hcmd hable hcores hsave
    exact ⟨_, hnext, rfl, keeps_of_next mv_execSanitizeResume hnext (by decide +kernel)⟩

end Sys2Proof.Proofs
end

section
/-!
States of the magazine: insertion, removal, mounting, disabling and channel rates (10 R256 to R260, R278, R283, R286).
-/
set_option Elab.async false

namespace Sys2Proof.Proofs
open Sys2Proof Sys2Proof.Machine Sys2Proof.Laws

section States
variable {s : State} {v : Module} {n : Nat}

theorem magState_put (hn : n < 16) : (s.put Reg.MAG_STATUS_MAG_STATE n).magState = n := by
  rw [State.magState, get_put_same (by decide) (by decide)]
  exact Nat.mod_eq_of_lt hn

theorem magazineInserted_facts (hpor : s.pwr.por = false) (hnone : s.mag.module = none) (hst : s.get Reg.MAG_STATUS_STATE ≠ 2) :
    ∃ t, execMagazineInserted v s = .next t ∧ t.mag.module = some v ∧ t.magState = 7 := by
  unfold execMagazineInserted
  rw [if_neg (by simp [hpor, hnone])]
  dsimp only
  rw [if_neg hst]
  refine ⟨_, rfl, ?_, magState_put (by decide)⟩
  rw [put_mag, hnone]
  rfl

/-- What a removal shows: channels at their power-up levels, no capacity, ABSENT, no geometry. -/
def shownAbsent (u : State) : State :=
  (((((((u.channelsOff.hideCapacity.put Reg.MAG_STATUS_MAG_STATE 0).put Reg.MAG_GEOM_DIES 0).put Reg.MAG_GEOM_LBS 0).put
    Reg.MAG_GEOM_CHANNELS 0).put Reg.MAG_SLC_SIZE 0).put Reg.MAG_SLC_FILL 0).put Reg.MAG_SAVE_SAVE_RATE 0).budget.event
    Reg.MAG_STATUS_REMOVE_EV

theorem shownAbsent_facts : (shownAbsent s).magState = 0 ∧ (shownAbsent s).flag Reg.MAG_STATUS_REMOVE_EV = true ∧
    (shownAbsent s).get Reg.MAG_GEOM_DIES = 0 := by
  refine ⟨?_, event_flag (by decide) (by decide), ?_⟩
  · rw [shownAbsent, State.magState, event_get (by decide) (by decide) (by decide) (by decide),
      get_of_moves mv_budget (by decide +kernel) (by decide), get_put_apart (by decide) (by decide), get_put_apart (by decide) (by decide),
      get_put_apart (by decide) (by decide), get_put_apart (by decide) (by decide), get_put_apart (by decide) (by decide),
      get_put_apart (by decide) (by decide), get_put_same (by decide) (by decide)]
    rfl
  · rw [shownAbsent, event_get (by decide) (by decide) (by decide) (by decide),
      get_of_moves mv_budget (by decide +kernel) (by decide), get_put_apart (by decide) (by decide), get_put_apart (by decide) (by decide),
      get_put_apart (by decide) (by decide), get_put_apart (by decide) (by decide), get_put_apart (by decide) (by decide),
      get_put_same (by decide) (by decide)]
    rfl

theorem magazineRemoved_facts (hmod : s.mag.module = some v) :
    ∃ u, execMagazineRemoved s = .next (shownAbsent u) := by
  unfold execMagazineRemoved
  rw [if_neg (by simp [hmod])]
  exact ⟨_, rfl⟩

/-- What discovery shows before the channels are charged to the budget: MOUNTING. -/
theorem mounting_state {rates : List (Nat × Nat)} {a b c : Nat} {l : List Nat} :
    ((((l.foldl (fun t c => t.startChannel rates c) (s.put Reg.MAG_STATUS_MAG_STATE 1)).put Reg.MAG_GEOM_DIES a).put
      Reg.MAG_GEOM_CHANNELS b).put Reg.MAG_SAVE_SAVE_RATE c).mapForget.budget.magState = 1 := by
  rw [State.magState, get_of_moves mv_budget (by decide +kernel) (by decide), get_of_moves mv_mapForget (by decide +kernel) (by decide),
    get_put_apart (by decide) (by decide), get_put_apart (by decide) (by decide), get_put_apart (by decide) (by decide),
    fold_get fun t c => get_of_moves mv_startChannel (by decide +kernel) (by decide), get_put_same (by decide) (by decide)]
  rfl

theorem mountStart_facts {rates : List (Nat × Nat)} (hmod : s.mag.module = some v) (hst : s.get Reg.MAG_STATUS_STATE = 2)
    (hbridges : s.bridgesLive = true) (hun : s.magState = 7) : ∃ t, execMountStart rates s = .next t ∧ t.magState = 1 := by
  unfold execMountStart
  rw [hmod]
  dsimp only
  rw [if_neg (by simp [hst, hbridges, hun])]
  exact ⟨_, rfl, mounting_state⟩

theorem mountComplete_blank (hmod : s.mag.module = some v) (hmount : s.magState = 1) (hst : s.get Reg.MAG_STATUS_STATE = 2)
    (hroots : nandValidRoots v = []) : execMountComplete s = .next (s.put Reg.MAG_STATUS_MAG_STATE 5) := by
  unfold execMountComplete
  rw [hmod]
  dsimp only
  rw [if_neg (by simp [hmount, hst]), if_pos (by simp [hroots])]

theorem mountComplete_mounts {r : Root} (hmod : s.mag.module = some v) (hmount : s.magState = 1) (hst : s.get Reg.MAG_STATUS_STATE = 2)
    (hroots : nandValidRoots v ≠ []) (hbest : nandBestRoot v = some r) (hbind : s.bindingGood r = true) :
    ∃ u : State, execMountComplete s = .next (u.event Reg.MAG_STATUS_INSERT_EV) := by
  unfold execMountComplete
  rw [hmod]
  dsimp only
  rw [if_neg (by simp [hmount, hst]), if_neg (by simp [hroots]), hbest]
  dsimp only
  rw [if_neg (by simp [hbind])]
  exact ⟨_, rfl⟩

theorem zeroWords_mag {k n : Nat} : (s.zeroWords k n).mag = s.mag := by
  induction n generalizing s k with
  | zero => rfl
  | succ n ih => exact ih

theorem magCntClr_facts : ∃ t, execMagCntClr s = .next t ∧ t.mag = { s.mag with lost := 0 } ∧
    ∀ j < 8, t.rd (Reg.MAG_HOST_WR.base + 4 * j) = 0 := by
  have hrd : ∀ (u : State) (m : MagSt) (a : Nat), ({ u with mag := m } : State).rd a = u.rd a := fun _ _ _ => rfl
  refine ⟨_, rfl, ?_, fun j hj => (hrd _ _ _).trans (rd_zeroWords hj)⟩
  rw [mag_mk, zeroWords_mag]

theorem channelRetrain_facts {c : ChannelIx} {rate : Nat} (hstarted : s.get Reg.MAG_CH_STATUS_RATE c.val ≠ 7)
    (hcap : s.mag.maxRates.getD c.val 3 < 8) : ∃ t, execChannelRetrain c rate s = .next t ∧
      t.get Reg.MAG_CH_STATUS_RATE c.val = min rate (s.mag.maxRates.getD c.val 3) := by
  refine ⟨_, if_neg hstarted, ?_⟩
  rw [get_put_same (by decide) c.isLt]
  exact Nat.mod_eq_of_lt (Nat.lt_of_le_of_lt (Nat.min_le_right _ _) hcap)

end States

/-- Settles O36: insertion, removal, the start and the ends of a mount, disabling, the counters and channel rates. -/
theorem magazineStates : Obligations.MagazineStates := by
  refine ⟨fun v s hpor hnone hst => ?_, fun v s hmod => ?_, fun rates v s hmod hst hbridges hun => ?_,
    fun v s hmod hmount hst hroots => ?_, fun v r s hmod hmount hst hroots hbest hbind => ?_, fun s hst => ?_, fun s => ?_,
    fun c rate s hstarted hcap => ?_⟩
  · obtain ⟨t, hnext, hm, hshow⟩ := magazineInserted_facts (v := v) hpor hnone hst
    exact ⟨t, hnext, hm, hshow, keeps_of_next mv_execMagazineInserted hnext (by decide +kernel)⟩
  · obtain ⟨u, hnext⟩ := magazineRemoved_facts hmod
    obtain ⟨habsent, hev, hdies⟩ := shownAbsent_facts (s := u)
    exact ⟨_, hnext, habsent, hev, hdies, keeps_of_next mv_execMagazineRemoved hnext (by decide +kernel)⟩
  · obtain ⟨t, hnext, hshow⟩ := mountStart_facts (rates := rates) hmod hst hbridges hun
    exact ⟨t, hnext, hshow, keeps_of_next mv_execMountStart hnext (by decide +kernel)⟩
  · have hnext := mountComplete_blank hmod hmount hst hroots
    exact ⟨_, hnext, magState_put (by decide), keeps_of_next mv_execMountComplete hnext (by decide +kernel)⟩
  · obtain ⟨u, hnext⟩ := mountComplete_mounts hmod hmount hst hroots hbest hbind
    exact ⟨_, hnext, event_flag (by decide) (by decide), keeps_of_next mv_execMountComplete hnext (by decide +kernel)⟩
  · refine ⟨_, rfl, ?_, magEnable_en, keeps_of_next mv_execMagDisable rfl (by decide +kernel)⟩
    rw [magEnable_state, hst]
    rfl
  · obtain ⟨t, hnext, hm, hwords⟩ := magCntClr_facts (s := s)
    exact ⟨t, hnext, hm, hwords, keeps_of_next mv_execMagCntClr hnext (by decide +kernel)⟩
  · obtain ⟨t, hnext, hrate⟩ := channelRetrain_facts (rate := rate) hstarted hcap
    exact ⟨t, hnext, hrate, keeps_of_next mv_execChannelRetrain hnext (by decide +kernel)⟩

end Sys2Proof.Proofs
end

section
/-!
Work of the magazine controller: commits, completions, failed blocks, moving and erasing blocks, roots (10 R265 to R281).
-/
set_option Elab.async false

namespace Sys2Proof.Proofs
open Sys2Proof Sys2Proof.Machine Sys2Proof.Laws

section Buffer
variable {s u t : State} {c : Nat} {k : Cmd} {b : List Byte} {ecc : NandEcc}

theorem writeBufferSpaceFreed_facts (hwaits : c ∈ s.mag.spaceWait) (hready : Ready s c 0x01 k) (hu : u = s.setCmd { k with begun := true })
    (hrefuse : u.magRefuse k true = none) (h0 : k.ioBlocks * max 1 u.mag.lbs ≠ 0) (hlen : k.dataLen = k.ioBlocks * max 1 u.mag.lbs)
    (hrange : k.ioLba + k.ioBlocks ≤ u.lbaCount) (hpast : k.pastAbort = false) (hwait : u.mapWait k = false) (hruns : u.bufRuns = true)
    (hprog : k.progress = 0) (hfua : k.fua = false) (hthrough : u.writeThrough = false)
    (hgot : (u.enter (some b) ecc k.tag 0 (piecesOf (k.ioLba * max 1 u.mag.lbs) k.dataLen)).1 = k.dataLen) :
    ∃ t, execWriteBufferSpaceFreed c (.data b) s ecc = .next t ∧ Done s t c := by
  subst hu
  obtain ⟨v, hv, hlog⟩ := blockWrite_done (discard := false) hrefuse hlen.symm (hlen ▸ h0) (Or.inr rfl) hrange hpast hwait hruns hprog
    hfua hthrough hgot
  unfold execWriteBufferSpaceFreed
  rw [if_neg (by simp [hwaits]), hready.out]
  dsimp only
  rw [hready.opcode, onCmd_ready hready]
  rw [hready.opcode, if_neg (by decide)]
  refine ⟨_, congrArg Host.Outcome.next hv, ?_⟩
  rw [cmd_tag hready.out]
  exact finish_done (hlog.trans rfl)

theorem bufferUnitCommit_facts {puns : Puns} {dmg : Damage} {us : List BufUnit} (hmay : s.mayCommit = true) (hsave : s.saving = false)
    (hruns : s.bufRuns = true) (hu : u = s.strike dmg) (hnone : ∀ b ∈ u.mag.buf, puns.lookup b.unit = none)
    (hus : us = u.closure ((u.mag.buf.take 1).map BufUnit.unit)) (hcommit : u.commitUnits us puns = (t, true)) :
    execBufferUnitCommit puns dmg s = .next t := by
  have hnamed : u.mag.buf.filter (fun b => (puns.lookup b.unit).isSome) = [] := by
    rw [List.filter_eq_nil_iff]
    intro x hx
    simp [hnone x hx]
  unfold execBufferUnitCommit
  rw [if_neg (by simp [hmay, hsave, hruns])]
  dsimp only
  rw [← hu, hnamed, List.map_nil, if_pos List.isEmpty_nil, ← hus, hcommit]
  rfl

theorem nandProgramComplete_facts (hcmd : s.cmd c = some k) (hpast : k.pastAbort = true) (hsave : s.saving = false)
    (hop : k.op = 0x01 ∨ k.op = 0x04 ∨ k.op = 0x05 ∨ k.op = 0x13) (hleft : s.mag.buf.any (fun b => b.writers.contains c) = false) :
    ∃ t, execNandProgramComplete c s = .next t ∧ Done s t c := by
  unfold execNandProgramComplete
  rw [hcmd]
  dsimp only
  rw [if_neg (by rw [hleft]; rcases hop with h | h | h | h <;> simp [hpast, hsave, h])]
  exact exists_done rfl

end Buffer

section Blocks
variable {s : State} {b n : Nat} {moves : Puns} {ecc : NandEcc}

/-- A block that is grown bad, and waits neither for its erasure nor for its refresh (10 R279). -/
def retired (s : State) (b : Nat) : State :=
  let s1 := s.setNand { s.nand with blocks := insertKey s.nand.blocks b { s.block b with grownBad := true } }
  { s1 with mag := { s1.mag with eraseQ := s1.mag.eraseQ.filter (· != b), refreshQ := s1.mag.refreshQ.filter (· != b) } }

theorem retired_get {f : Fld} {j : Nat} : (retired s b).get f j = s.get f j := rfl

/-- What follows a block's retirement does not count it again. -/
theorem retired_counted {u : State} {d : Bool} : ((moves.map Prod.fst).foldl (fun t u => t.relocate moves ecc u)
    (if d = true then (u.event Reg.MAG_STATUS_GROWN_BAD_EV).spareCheck else u.event Reg.MAG_STATUS_GROWN_BAD_EV)).get Reg.MAG_GROWN_BAD =
      u.get Reg.MAG_GROWN_BAD := by
  have hev : (u.event Reg.MAG_STATUS_GROWN_BAD_EV).get Reg.MAG_GROWN_BAD = u.get Reg.MAG_GROWN_BAD :=
    event_get (by decide) (by decide) (by decide) (by decide)
  rw [fold_get fun t x => get_of_moves mv_relocate (by decide +kernel) (by decide)]
  exact ite_both (P := fun t => State.get t Reg.MAG_GROWN_BAD = u.get Reg.MAG_GROWN_BAD)
    ((get_of_moves mv_spareCheck (by decide +kernel) (by decide)).trans hev) hev

theorem programEraseFail_facts {v : Module} (hmod : s.mag.module = some v) (hblock : s.allBlocks.contains b = true)
    (hgood : (s.block b).grownBad = false) : ∃ t, execProgramEraseFail b moves s ecc = .next t ∧
      t.get Reg.MAG_GROWN_BAD = min (s.get Reg.MAG_GROWN_BAD + 1) (2 ^ 32 - 1) := by
  unfold execProgramEraseFail
  rw [if_neg (by simp [hmod]; simpa using hblock)]
  dsimp only
  rw [if_neg (c := (s.block b).grownBad = true) (by simp [hgood])]
  refine ⟨_, rfl, retired_counted.trans ((get_inc_same (s := retired s b) (by decide) (by decide)).trans ?_)⟩
  rw [retired_get]
  rfl

theorem fold_facts (hruns : s.ftlRuns = true) (hpause : s.foldPaused = false)
    (hslc : ∀ x ∈ s.validIn b, ∃ v, s.nand.units.lookup x.2 = some v ∧ v.slc = true) :
    execFold b moves ecc s = .next (s.moveBlock b moves ecc) := by
  have hall : (s.validIn b).filter (fun e => match s.nand.units.lookup e.2 with | some v => v.slc | none => false) = s.validIn b := by
    rw [List.filter_eq_self]
    intro x hx
    obtain ⟨v, hv, hs⟩ := hslc x hx
    rw [hv]
    exact hs
  unfold execFold
  rw [if_neg (by simp [hruns, hpause])]
  exact congrArg (fun us : List (Nat × Nat) =>
    (Host.Outcome.next ((us.map Prod.fst).foldl (fun t u => t.moveUnit moves ecc false (some b) u) s) : Result)) hall

theorem blockRefresh_facts (hruns : s.ftlRuns = true) (hqueued : s.mag.refreshQ.contains b = true)
    (hmoved : (s.moveBlock b moves ecc).validIn b = []) : ∃ t, execBlockRefresh b moves ecc s = .next t ∧
      t.get Reg.MAG_REFRESHES = min (s.get Reg.MAG_REFRESHES + 1) (2 ^ 32 - 1) := by
  have hcount : ∀ m : MagSt, ({ s.moveBlock b moves ecc with mag := m } : State).get Reg.MAG_REFRESHES =
      (s.moveBlock b moves ecc).get Reg.MAG_REFRESHES := fun _ => rfl
  unfold execBlockRefresh
  rw [if_neg (by rw [hruns, hqueued]; decide)]
  dsimp only
  rw [hmoved, if_neg (by decide)]
  refine ⟨_, rfl, ?_⟩
  rw [get_of_moves mv_eraseOrQueue (by decide +kernel) (by decide), get_inc_same (by decide) (by decide), hcount,
    get_of_moves mv_moveBlock (by decide +kernel) (by decide)]
  rfl

theorem patrolRead_facts {p : Nat} (hmount : s.mounted = true) (hruns : s.unitRuns 8 = true)
    (hdays : s.get Reg.MAG_REFRESH_PATROL_DAYS ≠ 0) (hmap : s.mag.map.lookup n = some p) :
    execPatrolRead n ecc s = .next (s.readNand n 15 ecc).2.2 := if_neg (by simp [hmount, hruns, hdays, hmap])

theorem rootWrite_facts {r : Root} (hmay : s.mayCommit = true) (hroot : s.mag.root = some r) :
    ∃ t, execRootWrite s = .next t ∧ t.mag.generation = s.mag.generation + 1 := by
  refine ⟨_, if_pos hmay, ?_⟩
  unfold State.writeRoot
  rw [hroot]
  rfl

theorem backgroundErase_facts (hruns : s.ftlRuns = true) (hqueued : s.mag.eraseQ.contains b = true) (hnamed : s.blockNamed b = false)
    (hvalid : s.validIn b = []) : ∃ t, execBackgroundErase b s = .next t ∧ b ∉ t.mag.eraseQ := by
  refine ⟨_, if_neg (by rw [hruns, hqueued]; decide), ?_⟩
  unfold State.eraseOrQueue
  rw [if_neg (by simp [hnamed, hvalid])]
  simp

theorem garbageCollection_facts (hruns : s.ftlRuns = true) (hblock : s.allBlocks.contains b = true) (hgood : s.blockGood b = true) :
    execGarbageCollection b moves ecc s = .next ((s.moveBlock b moves ecc).eraseOrQueue b) :=
  if_neg (by rw [hruns, hblock, hgood]; decide)

end Blocks

/-- Settles O37: commits, completions, failed blocks, folding, refresh, patrol, roots, erasure and garbage collection. -/
theorem magazineWork : Obligations.MagazineWork := by
  refine ⟨fun c k d ecc s u hwaits hready hu hrefuse h0 hlen hrange hpast hwait hruns hprog hfua hthrough hgot => ?_,
    fun puns dmg us s u t hmay hsave hruns hu hnone hus hcommit => ?_, fun c k s hcmd hpast hsave hop hleft => ?_,
    fun b moves ecc v s hmod hblock hgood => ?_, fun b moves ecc s hruns hpause hslc => ?_, fun b moves ecc s hruns hqueued hmoved => ?_,
    fun n p ecc s hmount hruns hdays hmap => ?_, fun r s hmay hroot => ?_, fun b s hruns hqueued hnamed hvalid => ?_,
    fun b moves ecc s hruns hblock hgood => ?_⟩
  · obtain ⟨t, hnext, hdone⟩ := writeBufferSpaceFreed_facts hwaits hready hu hrefuse h0 hlen hrange hpast hwait hruns hprog hfua hthrough hgot
    exact ⟨t, hnext, hdone, keeps_of_next mv_execWriteBufferSpaceFreed hnext (by decide +kernel)⟩
  · have hnext := bufferUnitCommit_facts hmay hsave hruns hu hnone hus hcommit
    exact ⟨hnext, keeps_of_next mv_execBufferUnitCommit hnext (by decide +kernel)⟩
  · obtain ⟨t, hnext, hdone⟩ := nandProgramComplete_facts hcmd hpast hsave hop hleft
    exact ⟨t, hnext, hdone, keeps_of_next mv_execNandProgramComplete hnext (by decide +kernel)⟩
  · obtain ⟨t, hnext, hcount⟩ := programEraseFail_facts (moves := moves) (ecc := ecc) hmod hblock hgood
    exact ⟨t, hnext, hcount, keeps_of_next mv_execProgramEraseFail hnext (by decide +kernel)⟩
  · have hnext := fold_facts (moves := moves) (ecc := ecc) hruns hpause hslc
    exact ⟨_, hnext, rfl, keeps_of_next mv_execFold hnext (by decide +kernel)⟩
  · obtain ⟨t, hnext, hcount⟩ := blockRefresh_facts hruns hqueued hmoved
    exact ⟨t, hnext, hcount, keeps_of_next mv_execBlockRefresh hnext (by decide +kernel)⟩
  · have hnext := patrolRead_facts (ecc := ecc) hmount hruns hdays hmap
    exact ⟨_, hnext, rfl, keeps_of_next mv_execPatrolRead hnext (by decide +kernel)⟩
  · obtain ⟨t, hnext, hgen⟩ := rootWrite_facts hmay hroot
    exact ⟨t, hnext, hgen, keeps_of_next mv_execRootWrite hnext (by decide +kernel)⟩
  · obtain ⟨t, hnext, hout⟩ := backgroundErase_facts hruns hqueued hnamed hvalid
    exact ⟨t, hnext, hout, keeps_of_next mv_execBackgroundErase hnext (by decide +kernel)⟩
  · have hnext := garbageCollection_facts (moves := moves) (ecc := ecc) hruns hblock hgood
    exact ⟨_, hnext, rfl, keeps_of_next mv_execGarbageCollection hnext (by decide +kernel)⟩

end Sys2Proof.Proofs
end

section
/-!
The map cache: hits, misses, fills, dirty lines, invalidation and counters (11 R288 to R301).
-/
set_option Elab.async false

namespace Sys2Proof.Proofs
open Sys2Proof Sys2Proof.Machine Sys2Proof.Laws

section Access
variable {s : State} {key : Nat} {m : MapLine} {a : MapAccess} {streaming : Bool}

/-- A hit counts for its requester. -/
theorem mapHit_counts (hreq : a.req < 5) :
    (s.mapHit key m a).get64 Reg.MAP_REQ_HITS a.req = min (s.get64 Reg.MAP_REQ_HITS a.req + 1) (2 ^ 64 - 1) := by
  unfold State.mapHit
  dsimp only
  rw [get64_of_moves mv_perform (by decide +kernel) hreq, get64_of_moves mv_streamHit (by decide +kernel) hreq,
    get64_add64_same hreq, get64_of_moves mv_setLine (by decide +kernel) hreq]

/-- A miss counts for its requester. -/
theorem mapMiss_counts (hreq : a.req < 5) :
    (s.mapMiss a streaming).get64 Reg.MAP_REQ_MISSES a.req = min (s.get64 Reg.MAP_REQ_MISSES a.req + 1) (2 ^ 64 - 1) := by
  have hcount : ((s.add64 Reg.MAP_REQ_MISSES 1 a.req).streamMiss a.req (a.addr / 256)).get64 Reg.MAP_REQ_MISSES a.req =
      min (s.get64 Reg.MAP_REQ_MISSES a.req + 1) (2 ^ 64 - 1) := by
    rw [get64_of_moves mv_streamMiss (by decide +kernel) hreq, get64_add64_same hreq]
  refine (get64_regs ?_).trans hcount
  exact ite_both (P := fun t => State.regs t = ((s.add64 Reg.MAP_REQ_MISSES 1 a.req).streamMiss a.req (a.addr / 256)).regs) rfl rfl

variable {r : Fin 5} {addr size way : Nat} {w : Option (List Byte)}

/-- An access that the cache takes up. -/
theorem access_taken (hbusy : s.flag Reg.MAP_STATUS_INVAL_BUSY = false) (hwait : s.map.waiting.any (fun x => x.req == r.val) = false)
    (hsize : size = 4 ∨ size = 8 ∨ size = 64) (halign : addr % size = 0) :
    ¬ (s.flag Reg.MAP_STATUS_INVAL_BUSY || s.map.waiting.any (fun x => x.req == r.val) || !(size == 4 || size == 8 || size == 64) ||
      addr % size != 0) = true := by
  rw [hbusy, hwait, halign]
  rcases hsize with h | h | h <;> simp [h]

theorem mapCacheAccess_hit (hbusy : s.flag Reg.MAP_STATUS_INVAL_BUSY = false)
    (hwait : s.map.waiting.any (fun x => x.req == r.val) = false) (hsize : size = 4 ∨ size = 8 ∨ size = 64) (halign : addr % size = 0)
    (hok : mapAddrOk addr = true) (hway : s.findWay (addr / 256) = some way)
    (hline : s.map.lines.lookup (16 * lineSet (addr / 256) + way) = some m) :
    execMapCacheAccess r addr size w .none streaming s =
      .next (s.mapHit (16 * lineSet (addr / 256) + way) m { req := r.val, addr, size, write := w }) := by
  unfold execMapCacheAccess
  dsimp only
  rw [if_neg (access_taken hbusy hwait hsize halign), if_neg (by simp [hok]), hway]
  dsimp only
  rw [hline]

theorem mapCacheAccess_miss (hbusy : s.flag Reg.MAP_STATUS_INVAL_BUSY = false)
    (hwait : s.map.waiting.any (fun x => x.req == r.val) = false) (hsize : size = 4 ∨ size = 8 ∨ size = 64) (halign : addr % size = 0)
    (hok : mapAddrOk addr = true) (hway : s.findWay (addr / 256) = none) :
    execMapCacheAccess r addr size w .none streaming s =
      .next (s.mapMiss { req := r.val, addr, size, write := w } (streaming && (r.val == 1 || r.val == 2))) := by
  unfold execMapCacheAccess
  dsimp only
  rw [if_neg (access_taken hbusy hwait hsize halign), if_neg (by simp [hok]), hway]

end Access

section Fills
variable {s t u : State} {l : Nat} {f : MapFill}

theorem mapFillComplete_facts (hfill : s.map.fills.find? (fun f => f.line == l) = some f) (hruns : s.fillRuns l = true)
    (hplace : s.placeFill f = some t) : execMapFillComplete l s = .next t := by
  unfold execMapFillComplete
  rw [hfill]
  dsimp only
  rw [if_neg (by simp [hruns]), hplace]

theorem mapFillRetry_facts (hfill : s.map.fills.find? (fun f => f.line == l && f.arrived) = some f)
    (hu : u = { s with map := { s.map with stall := insertKey s.map.stall f.owner ((lookupD 0 s.map.stall f.owner + 1) % 1024) } })
    (hlt : lookupD 0 s.map.stall f.owner + 1 < 1024) (hplace : u.placeFill f = some t) : execMapFillRetry l s = .next t := by
  unfold execMapFillRetry
  rw [hfill]
  dsimp only
  rw [if_neg (by omega), ← hu, hplace]
  rfl

theorem mapCntClr_facts : ∃ t, execMapCntClr s = .next t ∧
    ∀ r < 5, ∀ k < 6, t.rd (Reg.MAP_REQ_HITS.base + Reg.MAP_REQ_HITS.stride * r + 4 * k) = 0 :=
  ⟨_, rfl, fun _ hr _ hk => rd_zeroRows hr (by decide) hk⟩

end Fills

/-- Settles O38: hits and misses, fills, dirty lines, invalidation, the way masks and the counters. -/
theorem mapCache : Obligations.MapCache := by
  refine ⟨fun r addr size way w v str s hbusy hwait hsize halign hok hway hline => ?_,
    fun r addr size w str s hbusy hwait hsize halign hok hway => ?_, fun l f s t hfill hruns hplace => ?_,
    fun l f s u t hfill hu hlt hplace => ?_, fun n s hpaged hruns hmay => ?_, fun s => ?_, fun r v s => ?_, fun s => ?_⟩
  · have hnext := mapCacheAccess_hit (w := w) (streaming := str) hbusy hwait hsize halign hok hway hline
    exact ⟨_, hnext, mapHit_counts r.isLt, keeps_of_next mv_execMapCacheAccess hnext (by decide +kernel)⟩
  · have hnext := mapCacheAccess_miss (w := w) (streaming := str) hbusy hwait hsize halign hok hway
    exact ⟨_, hnext, mapMiss_counts r.isLt, keeps_of_next mv_execMapCacheAccess hnext (by decide +kernel)⟩
  · have hnext := mapFillComplete_facts hfill hruns hplace
    exact ⟨hnext, keeps_of_next mv_execMapFillComplete hnext (by decide +kernel)⟩
  · have hnext := mapFillRetry_facts hfill hu hlt hplace
    exact ⟨hnext, keeps_of_next mv_execMapFillRetry hnext (by decide +kernel)⟩
  · have hnext : execMapDirtyClean n s = .next (s.cleanLines (fun k => k / 16 == n)) := if_pos (by simp [hpaged, hruns, hmay])
    exact ⟨_, hnext, rfl, keeps_of_next mv_execMapDirtyClean hnext (by decide +kernel)⟩
  · exact ⟨_, rfl, flag_setFlag_same (by decide) (by decide) (by decide),
      keeps_of_next mv_execMapInvalidationComplete rfl (by decide +kernel)⟩
  · refine ⟨_, rfl, ?_, keeps_of_next (mv_execMapWaymaskWrite (r := r) (v := v)) rfl (by decide +kernel)⟩
    have hr : r.val < Reg.MAP_WAYMASK_MASK.count := r.isLt
    rw [State.writeAt, if_pos hr, State.write, rd_wr_same]
  · obtain ⟨t, hnext, hrows⟩ := mapCntClr_facts (s := s)
    exact ⟨t, hnext, hrows, keeps_of_next mv_execMapCntClr hnext (by decide +kernel)⟩

end Sys2Proof.Proofs
end

section
/-!
The archive channel: pilot, wedges, lasers, proofs of folios, write faults, disabling and counters (13 R331 to R355).
-/
set_option Elab.async false

namespace Sys2Proof.Proofs
open Sys2Proof Sys2Proof.Machine Sys2Proof.Laws

theorem enableWrite_running {s : State} {f : UnitFlds} {i : Nat} (hrun : s.get f.st i = 2) :
    s.enableWrite f false i = (s.setFlag f.en false i).put f.st 3 i := by
  simp only [State.enableWrite, hrun]
  rfl

/-- A RUNNING unit that is disabled stops, and its enable bit shows it. -/
theorem enableWrite_stops {s : State} {f : UnitFlds} {i : Nat} (hf : UnitLaidOut f) (hen : fits f.en = true) (hw : f.en.width = 1)
    (happ : apart f.st f.en = true) (hi : i < f.en.count) (hrun : s.get f.st i = 2) :
    (s.enableWrite f false i).get f.st i = 3 ∧ (s.enableWrite f false i).flag f.en i = false := by
  rw [enableWrite_running hrun]
  exact ⟨get_st_put_st hf hi (by decide), (flag_put_apart happ hi).trans (flag_setFlag_same hen hw hi)⟩

section Pilot
variable {s : State} {b : BeamIx}

/-- A write fault leaves the pilot's lock alone. -/
theorem pilotLockLoss_facts (hlock : s.flag Reg.OCH_ZONE_PILOT_LOCK = true) :
    ∃ t, execPilotLockLoss s = .next t ∧ t.flag Reg.OCH_ZONE_PILOT_LOCK = false ∧
      (s.och.writing = [] → t.flag Reg.OCH_STATUS_PILOT_EV = true ∧ t.och = { s.och with pilotGood := 0 }) := by
  have hlost : ∀ (u : State) (x : OchSt), ({ u with och := x } : State).flag Reg.OCH_ZONE_PILOT_LOCK = u.flag Reg.OCH_ZONE_PILOT_LOCK ∧
      ({ u with och := x } : State).flag Reg.OCH_STATUS_PILOT_EV = u.flag Reg.OCH_STATUS_PILOT_EV ∧
      ({ u with och := x } : State).och = x := fun _ _ => ⟨rfl, rfl, rfl⟩
  have hclear : ((s.setFlag Reg.OCH_ZONE_PILOT_LOCK false).event Reg.OCH_STATUS_PILOT_EV).flag Reg.OCH_ZONE_PILOT_LOCK = false :=
    (flag_event_apart (by decide) (by decide) (by decide) (by decide)).trans (flag_setFlag_same (by decide) (by decide) (by decide))
  have hev : ((s.setFlag Reg.OCH_ZONE_PILOT_LOCK false).event Reg.OCH_STATUS_PILOT_EV).flag Reg.OCH_STATUS_PILOT_EV = true :=
    event_flag (by decide) (by decide)
  have hoch : ((s.setFlag Reg.OCH_ZONE_PILOT_LOCK false).event Reg.OCH_STATUS_PILOT_EV).och = s.och := by simp [State.setFlag]
  unfold execPilotLockLoss
  rw [if_neg (by simp [hlock])]
  dsimp only
  rw [hoch]
  refine ⟨_, rfl, ?_, fun hnone => ?_⟩
  · exact ite_both (P := fun t => State.flag t Reg.OCH_ZONE_PILOT_LOCK = false) ((hlost _ _).1.trans hclear)
      ((flag_of_moves mv_writeFault (by decide +kernel) (by decide)).trans ((hlost _ _).1.trans hclear))
  · rw [if_pos (by rw [hnone]; rfl)]
    exact ⟨(hlost _ _).2.1.trans hev, rfl⟩

theorem beamWedges_pilot {l : List SpotWedge} : (l.foldl State.beamWedge s).och.pilotGood = s.och.pilotGood := by
  induction l generalizing s with
  | nil => rfl
  | cons w l ih => exact ih

theorem channelGains_och {l : List SpotWedge} : (l.foldl State.channelGain s).och = s.och := by
  induction l generalizing s with
  | nil => rfl
  | cons w l ih => exact ih.trans (mv_channelGain.och (by decide +kernel))

/-- A wedge with the pilot in place and a valid ID. -/
theorem samDetected_facts {w : BitVec 48} {phase : Int} {spots : List SpotWedge} {p layer i j : Nat} (hon : s.och.lasersOn = true)
    (hlow : -1 ≤ phase) (hhigh : phase ≤ 1) (hid : wedgeId w = some (p, layer, i, j)) (hlayer : layer < 16) :
    ∃ t, execSamDetected (some w) phase spots s = .next t ∧ t.och.pilotGood = s.och.pilotGood + 1 ∧
      t.get Reg.OCH_ZONE_LAYER = layer ∧ t.srv.pilotLayer = layer := by
  have hshown : ∀ (u : State) (v : Int) (x : SrvSt), (({ (u.putInt Reg.MOT_SPN_PHASE_PHASE_ERR v) with srv := x } : State).put
      Reg.OCH_ZONE_LAYER layer).och = u.och ∧ (({ (u.putInt Reg.MOT_SPN_PHASE_PHASE_ERR v) with srv := x } : State).put
      Reg.OCH_ZONE_LAYER layer).get Reg.OCH_ZONE_LAYER = layer ∧ (({ (u.putInt Reg.MOT_SPN_PHASE_PHASE_ERR v) with srv := x } : State).put
      Reg.OCH_ZONE_LAYER layer).srv = x := by
    intro u v x
    refine ⟨by rw [put_och, och_mk, State.putInt, put_och], ?_, by rw [put_srv, srv_mk]⟩
    rw [get_put_same (by decide) (by decide)]
    exact Nat.mod_eq_of_lt hlayer
  unfold execSamDetected
  rw [if_neg (by simp [hon])]
  dsimp only
  rw [hid]
  dsimp only
  refine ⟨_, rfl, ?_, (hshown _ _ _).2.1, ?_⟩
  · rw [(hshown _ _ _).1, och_mk, if_pos (by simp [hlow, hhigh]), mv_burstUpdate.och (by decide +kernel), beamWedges_pilot, channelGains_och]
  · rw [(hshown _ _ _).2.2]

theorem writeFault_idle {l : List Nat} (hjob : s.och.job = none) : s.writeFault l = s := by
  unfold State.writeFault
  rw [hjob]

theorem laserFault_facts (hjob : s.och.job = none) (hfirst : lookupD 0 s.och.laserFaults b.val = 0) :
    ∃ t, execLaserFault b s = .next t ∧ t.flag Reg.OCH_STATUS_LASER_FAULT_EV = true ∧ lookupD 0 t.och.laserFaults b.val = 1 := by
  have hoch : ∀ (u : State) (v : Nat), ((u.put Reg.OCH_LASER_DRIVE_IW v b.val).event Reg.OCH_STATUS_LASER_FAULT_EV).och = u.och := fun u v => by
    rw [event_och, put_och]
  unfold execLaserFault
  dsimp only
  rw [hfirst, if_neg (by decide), writeFault_idle (by rw [hoch]; exact hjob)]
  refine ⟨_, rfl, event_flag (by decide) (by decide), ?_⟩
  rw [hoch]
  exact lookupD_insertKey

theorem laserPowerOn_facts (hclamp : s.mot.clamped = true) (hst : s.get Reg.OCH_STATUS_STATE = 2) (hmc : s.mc3Runs = true)
    (hdrive : s.driven = true) (hsupply : s.get Reg.PWR_HOLDUP_STATUS_STATE = 0) (hlow : 2 ≤ s.sstate) (hhigh : s.sstate ≤ 4) :
    ∃ t, execLaserPowerOn s = .next t ∧ t.pwr.ldEn = true ∧ t.och.lasersOn = true := by
  unfold execLaserPowerOn
  rw [if_neg (by simp [hclamp, hst, hmc, hdrive, hsupply]), if_neg (by simp [hlow, hhigh])]
  exact ⟨_, rfl, rfl, rfl⟩

end Pilot

section Proofs
variable {s : State} {b : BeamIx} {f : FolioJob} {j : ArchiveJob}

theorem proofRowVerdict_facts {row n k : Nat} (hfolio : s.proofFolio b.val = some f) (hrow : row < 320) :
    ∃ t, execProofRowVerdict b row (some n) s k = .next t ∧
      t.get Reg.OCH_RD_ROW_CE b.val = min (s.get Reg.OCH_RD_ROW_CE b.val + n) (2 ^ 32 - 1) := by
  have hadd : (s.add Reg.OCH_RD_FLAGGED k b.val).proofFolio b.val = some f := by
    rw [State.proofFolio, State.add, put_och, ← State.proofFolio, hfolio]
  have hset : ∀ (u : State) (g : FolioJob), (u.setFolio g).get Reg.OCH_RD_ROW_CE b.val = u.get Reg.OCH_RD_ROW_CE b.val := fun _ _ => rfl
  unfold execProofRowVerdict
  rw [hfolio, if_pos (Option.isSome_some)]
  dsimp only
  rw [hadd]
  dsimp only
  rw [if_neg (by omega)]
  refine ⟨_, rfl, ?_⟩
  rw [get_add_same (by decide) b.isLt, hset, State.add, get_put_apart (by decide) b.isLt]
  rfl

/-- A folio without a failed or exceeded row is counted and leaves the flight. -/
theorem folioVerdict_good (hfail : f.rowFailed = false) (hexceed : f.rowExceeded = false)
    (hlim : f.corrected ≤ s.get Reg.OCH_PROOF_FOLIO_LIM) :
    (s.folioVerdict j f).get64 Reg.OCH_FOLIOS = min (s.get64 Reg.OCH_FOLIOS + 1) (2 ^ 64 - 1) ∧
      (s.folioVerdict j f).och.flight = s.och.flight.filter (fun g => g.pfa != f.pfa) := by
  have hcount : ∀ u : State, u.get64 Reg.OCH_FOLIOS = s.get64 Reg.OCH_FOLIOS →
      (if f.spare = true then (u.add64 Reg.OCH_FOLIOS 1).inc Reg.OCH_RELOCS else u.add64 Reg.OCH_FOLIOS 1).get64 Reg.OCH_FOLIOS =
        min (s.get64 Reg.OCH_FOLIOS + 1) (2 ^ 64 - 1) ∧
      (if f.spare = true then (u.add64 Reg.OCH_FOLIOS 1).inc Reg.OCH_RELOCS else u.add64 Reg.OCH_FOLIOS 1).och = u.och := by
    intro u hu
    have hone : (u.add64 Reg.OCH_FOLIOS 1).get64 Reg.OCH_FOLIOS = min (s.get64 Reg.OCH_FOLIOS + 1) (2 ^ 64 - 1) := by
      rw [get64_add64_same (by decide), hu]
    have hoch : (u.add64 Reg.OCH_FOLIOS 1).och = u.och := by rw [State.add64, put64_och]
    split
    · exact ⟨(get64_put_apart (by decide) (by decide)).trans hone, by rw [State.inc, State.add, put_och, hoch]⟩
    · exact ⟨hone, hoch⟩
  unfold State.folioVerdict
  dsimp only
  rw [if_pos (by simp [hfail, hexceed, hlim])]
  obtain ⟨h64, hoch⟩ := hcount (({ s with och := { s.och with flight := s.och.flight.filter (fun g => g.pfa != f.pfa) } } : State).setJob
    { j with written := if (decide (j.firstLfn ≤ f.lfn) && decide (f.lfn < j.endLfn)) = true then j.written + 1 else j.written
             dirGood := if f.lfn = 0xFFFFFFFF then j.dirGood + 1 else j.dirGood }) (get64_regs rfl)
  exact ⟨h64, by rw [hoch]; rfl⟩

theorem folioProofVerdict_facts (hjob : s.och.job = some j) (hfolio : s.proofFolio b.val = some f) :
    execFolioProofVerdict b s = .next (s.folioVerdict j f) := by
  unfold execFolioProofVerdict
  rw [hjob, hfolio]

theorem folioReadRetry_facts {pass : FolioPass} {lfn pfa : Nat} {k : Cmd} (hread : s.och.reading = some (lfn, pfa))
    (hcmd : s.hq.cmds.find? (fun k => (k.op == 0x23 || k.op == 0x25) && k.begun) = some k) (hpasses : s.och.passes ≠ [])
    (hready : Ready s k.tag k.op k) : execFolioReadRetry pass s = .next ((s.setCmd { k with begun := true }).readFolio k lfn pass) := by
  unfold execFolioReadRetry
  rw [hread]
  dsimp only
  rw [hcmd]
  dsimp only
  rw [if_neg (by simp [hpasses]), onCmd_ready hready]

theorem ochDisable_facts (harch : s.archived = true) (hst : s.get Reg.OCH_STATUS_STATE = 2) (hjob : s.och.job = none) :
    ∃ t, execOchDisable s = .next t ∧ t.get Reg.OCH_STATUS_STATE = 3 ∧ t.flag Reg.OCH_CTL_EN = false := by
  obtain ⟨hstops, hoff⟩ := enableWrite_stops (s := s) (i := 0) (enableUnits_laidOut ochUnit (by decide)) (by decide) (by decide)
    (by decide) (by decide) hst
  have hcmds : ∀ (u : State) (x : HqSt), ({ u with hq := x } : State).get Reg.OCH_STATUS_STATE = u.get Reg.OCH_STATUS_STATE ∧
      ({ u with hq := x } : State).flag Reg.OCH_CTL_EN = u.flag Reg.OCH_CTL_EN := fun _ _ => ⟨rfl, rfl⟩
  have hnone : (s.enableWrite ochUnit false).och.job = none := by
    rw [enableWrite_running (f := ochUnit) hst, put_och, State.setFlag, put_och, hjob]
  refine ⟨_, if_pos harch, ?_⟩
  unfold State.ochEnable
  dsimp only
  rw [if_neg (by simp [hst]), hnone]
  exact ⟨(hcmds _ _).1.trans hstops, (hcmds _ _).2.trans hoff⟩

theorem ochCntClr_facts (harch : s.archived = true) : ∃ t, execOchCntClr s = .next t ∧
    ∀ c < 16, ∀ k < 3, t.rd (Reg.OCH_RD_FLAGGED.base + Reg.OCH_RD_FLAGGED.stride * c + 4 * k) = 0 :=
  ⟨_, if_neg (by simp [harch]), fun _ hc _ hk => rd_zeroRows hc (by decide) hk⟩

end Proofs

/-- Settles O39: the pilot, the wedges, the lasers, proofs of rows and folios, write faults, retries, disabling and the counters. -/
theorem archiveChannel : Obligations.ArchiveChannel := by
  refine ⟨fun s hgood hon => ?_, fun s hlock => ?_, fun w phase spots p layer i j s hon hlow hhigh hid hlayer => ?_,
    fun b s hjob hfirst => ?_, fun s hclamp hst hmc hdrive hsupply hlow hhigh => ?_, fun b row n k f s hfolio hrow => ?_,
    fun b j f s hjob hfolio hfail hexceed hlim => ?_, fun bs s hhit => ?_, fun b s hfault hgood => ?_,
    fun pass lfn pfa k s hread hcmd hpasses hready => ?_, fun s harch hst hjob => ?_, fun s harch => ?_⟩
  · have hnext : execPilotLock s = .next (s.setFlag Reg.OCH_ZONE_PILOT_LOCK true) := if_pos (by simp [hgood, hon])
    exact ⟨_, hnext, flag_setFlag_same (by decide) (by decide) (by decide), keeps_of_next mv_execPilotLock hnext (by decide +kernel)⟩
  · obtain ⟨t, hnext, hlost, hidle⟩ := pilotLockLoss_facts hlock
    exact ⟨t, hnext, hlost, hidle, keeps_of_next mv_execPilotLockLoss hnext (by decide +kernel)⟩
  · obtain ⟨t, hnext, hpilot, hshow, hsrv⟩ := samDetected_facts (spots := spots) hon hlow hhigh hid hlayer
    exact ⟨t, hnext, hpilot, hshow, hsrv, keeps_of_next mv_execSamDetected hnext (by decide +kernel)⟩
  · obtain ⟨t, hnext, hev, hcount⟩ := laserFault_facts hjob hfirst
    exact ⟨t, hnext, hev, hcount, keeps_of_next mv_execLaserFault hnext (by decide +kernel)⟩
  · obtain ⟨t, hnext, hld, hlasers⟩ := laserPowerOn_facts hclamp hst hmc hdrive hsupply hlow hhigh
    exact ⟨t, hnext, hld, hlasers, keeps_of_next mv_execLaserPowerOn hnext (by decide +kernel)⟩
  · obtain ⟨t, hnext, hcount⟩ := proofRowVerdict_facts (n := n) (k := k) hfolio hrow
    exact ⟨t, hnext, hcount, keeps_of_next mv_execProofRowVerdict hnext (by decide +kernel)⟩
  · have hnext := folioProofVerdict_facts hjob hfolio
    obtain ⟨hcount, hflight⟩ := folioVerdict_good (j := j) hfail hexceed hlim
    exact ⟨_, hnext, hcount, hflight, keeps_of_next mv_execFolioProofVerdict hnext (by decide +kernel)⟩
  · have hnext : execWriteFault bs s = .next (s.writeFault
        (bs.filter (fun b => s.och.writing.contains b && decide (4 ≤ lookupD 0 s.och.missed b))).eraseDups) :=
      if_neg (by simpa only [List.isEmpty_iff] using hhit)
    exact ⟨_, hnext, rfl, keeps_of_next mv_execWriteFault hnext (by decide +kernel)⟩
  · have hnext : execWriteFaultRecovery b s = .next { s with och := { s.och with faulted := s.och.faulted.filter (· != b.val) } } :=
      if_pos (by rw [hfault, Bool.true_and]; exact decide_eq_true hgood)
    exact ⟨_, hnext, rfl, keeps_of_next mv_execWriteFaultRecovery hnext (by decide +kernel)⟩
  · have hnext := folioReadRetry_facts (pass := pass) hread hcmd hpasses hready
    exact ⟨_, hnext, rfl, keeps_of_next mv_execFolioReadRetry hnext (by decide +kernel)⟩
  · obtain ⟨t, hnext, hstops, hoff⟩ := ochDisable_facts harch hst hjob
    exact ⟨t, hnext, hstops, hoff, keeps_of_next mv_execOchDisable hnext (by decide +kernel)⟩
  · obtain ⟨t, hnext, hrows⟩ := ochCntClr_facts harch
    exact ⟨t, hnext, hrows, keeps_of_next mv_execOchCntClr hnext (by decide +kernel)⟩

end Sys2Proof.Proofs
end

section
/-!
Servo loops: acquisition, hold, faults, samples and the saturation supervisor (14 R356 to R373).
-/
set_option Elab.async false

namespace Sys2Proof.Proofs
open Sys2Proof Sys2Proof.Machine Sys2Proof.Laws

/-- The range of a field is twice that of its magnitude. -/
theorem two_pow_width {w : Nat} (hw : 0 < w) : (2 : Int) ^ w = 2 * 2 ^ (w - 1) := by
  obtain ⟨n, rfl⟩ : ∃ n, w = n + 1 := ⟨w - 1, by omega⟩
  exact (Int.pow_succ 2 n).trans (Int.mul_comm _ _)

theorem natCast_two_pow (n : Nat) : ((2 ^ n : Nat) : Int) = 2 ^ n := Int.natCast_pow 2 n

/-- What a two's-complement field holds is the remainder of the integer put in it. -/
theorem get_putInt_same {s : State} {f : Fld} {v : Int} {i : Nat} (hfit : fits f = true) (hi : i < f.count) :
    ((s.putInt f v i).get f i : Int) = v % 2 ^ f.width := by
  have hpos : (0 : Int) < 2 ^ f.width := Int.pow_pos (by decide)
  have hge : 0 ≤ v % 2 ^ f.width := Int.emod_nonneg v (by omega)
  have hlt : v % 2 ^ f.width < 2 ^ f.width := Int.emod_lt_of_pos v hpos
  have hnat : (v % 2 ^ f.width).toNat < 2 ^ f.width := (Int.toNat_lt hge).2 (by rw [natCast_two_pow]; exact hlt)
  rw [State.putInt, get_put_same hfit hi, Nat.mod_eq_of_lt hnat, Int.toNat_of_nonneg hge]

/-- A two's-complement field reads the integer that was put in it, if that fits. -/
theorem getInt_putInt_same {s : State} {f : Fld} {v : Int} {i : Nat} (hfit : fits f = true) (hi : i < f.count) (hw : 0 < f.width)
    (hlow : -2 ^ (f.width - 1) ≤ v) (hhigh : v < 2 ^ (f.width - 1)) : (s.putInt f v i).getInt f i = v := by
  have hhalf := two_pow_width hw
  have hpos : (0 : Int) < 2 ^ (f.width - 1) := Int.pow_pos (by decide)
  have hcast := natCast_two_pow (f.width - 1)
  have hread := get_putInt_same (s := s) (v := v) hfit hi
  unfold State.getInt
  dsimp only
  rcases Int.lt_or_le v 0 with hneg | hnon
  · have hmod : v % 2 ^ f.width = v + 2 ^ f.width := by
      rw [← Int.add_emod_right, Int.emod_eq_of_lt (by rw [hhalf]; omega) (by omega)]
    have hout : ¬ (s.putInt f v i).get f i < 2 ^ (f.width - 1) := fun hin => by
      have hin' := Int.ofNat_lt.2 hin
      rw [hread, hmod, hcast, hhalf] at hin'
      omega
    rw [if_neg hout, hread, hmod, Int.add_sub_cancel]
  · have hmod : v % 2 ^ f.width = v := Int.emod_eq_of_lt hnon (by rw [hhalf]; omega)
    have hin : (s.putInt f v i).get f i < 2 ^ (f.width - 1) := Int.ofNat_lt.1 (by rw [hread, hmod, hcast]; exact hhigh)
    rw [if_pos hin, hread, hmod]

theorem getInt_of_get {s t : State} {f : Fld} {i j : Nat} (h : t.get f i = s.get f j) : t.getInt f i = s.getInt f j := by
  rw [State.getInt, State.getInt, h]

section Loops
variable {s : State} {l k : Nat}

theorem get_setLoop {v : LoopSt} {f : Fld} {j : Nat} : (s.setLoop l v).get f j = s.get f j := rfl

theorem get_dropJump {f : Fld} {j : Nat} : (s.dropJump l).get f j = s.get f j :=
  ite_both (P := fun t => State.get t f j = s.get f j) rfl rfl

theorem get_coilOff {f : Fld} {j : Nat} (h : apart Reg.SRV_COIL_STATUS_BRIDGE f = true) (hj : j < f.count) :
    (s.coilOff l).get f j = s.get f j := get_put_apart (s := s) h hj

theorem lstate_coilOff (hk : k < 4) : (s.coilOff l).lstate k = s.lstate k := get_coilOff (by decide) hk

/-- A loop that goes OFF leaves the states of the others. -/
theorem lstate_loopOff (hne : l ≠ k) (hk : k < 4) : (s.loopOff l).lstate k = s.lstate k := by
  unfold State.loopOff
  rw [lstate_coilOff hk]
  exact (get_put_other rfl rfl (by decide) hne).trans get_dropJump

theorem lstate_servoFault (hk : k < 4) : s.servoFault.lstate k = s.lstate k :=
  get_of_moves mv_servoFault (by decide +kernel) hk

/-- A loop that faults shows FAULT. -/
theorem lstate_loopFault {cause : Nat} (hl : l < 4) : (s.loopFault l cause).lstate l = 4 := by
  have hput : ∀ u : State, ((((u.put Reg.SRV_LOOP_STATUS_LSTATE 4 l).put Reg.SRV_LOOP_STATUS_CAUSE cause l).inc
      Reg.SRV_LOOP_FAULTS).event Reg.SRV_STATUS_LOOP_FAULT_EV).lstate l = 4 := by
    intro u
    refine (event_get (by decide) hl (by decide) (by decide)).trans ((get_inc_apart (by decide) hl).trans ?_)
    exact (get_put_apart (by decide) hl).trans (get_put_same (by decide) hl)
  unfold State.loopFault
  dsimp only
  rw [lstate_servoFault hl]
  have hcoil : ∀ u : State, u.lstate l = 4 → (if cause = 1 then u.coilOff l else u).lstate l = 4 := fun u hu =>
    ite_both (P := fun t => State.lstate t l = 4) ((lstate_coilOff hl).trans hu) hu
  have hoff : ∀ u : State, u.lstate l = 4 → (if l = 0 then [3, 2, 1].foldl State.loopOff u else u).lstate l = 4 := by
    intro u hu
    split
    next h0 =>
      subst h0
      exact (lstate_loopOff (by decide) hl).trans ((lstate_loopOff (by decide) hl).trans ((lstate_loopOff (by decide) hl).trans hu))
    next => exact hu
  exact hoff _ (hcoil _ (hput _))

theorem lstate_holdLoop (hheld : s.lstate l = 2) (hl : l < 4) : (s.holdLoop l).lstate l = 3 := by
  unfold State.holdLoop
  rw [if_neg (by rw [hheld]; decide)]
  have hput : ∀ u : State, (u.put Reg.SRV_LOOP_STATUS_LSTATE 3 l).lstate l = 3 := fun u => get_put_same (by decide) hl
  exact ite_both (P := fun t => State.lstate t l = 3) ((lstate_servoFault hl).trans (hput _)) (hput _)

end Loops

section Acquisition
variable {l : LoopIx} {s : State}

theorem loopAcquireStart_acquires (hrun : s.get Reg.SRV_STATUS_STATE = 2) (hmc3 : s.mc3Runs = true) (hdriven : s.driven = true)
    (hidle : s.lstate l.val = 0 ∨ s.lstate l.val = 4) (hfocus : l.val = 0 ∨ s.lstate 0 = 2) :
    ∃ t, execLoopAcquireStart l s = .next t ∧ t.lstate l.val = 1 := by
  have hopen : (s.lstate l.val == 0 || s.lstate l.val == 4) = true := by simpa using hidle
  have hready : (l.val != 0 && s.lstate 0 != 2) = false := by
    rcases hfocus with h | h <;> simp [h]
  unfold execLoopAcquireStart
  dsimp only
  rw [if_neg (by simp [hrun, hmc3, hdriven, hopen, hready])]
  exact ⟨_, rfl, get_put_same (by decide) l.isLt⟩

theorem loopLocked_locks {radius : Int} (hacq : s.lstate l.val = 1) (hclosed : (s.loop l.val).closed = true)
    (hrun : 64 ≤ (s.loop l.val).lockRun) (hid : l.val ≠ 1 ∨ (s.srv.pilotP = 8 ∧ s.srv.pilotLayer = s.srv.target)) :
    ∃ t, execLoopLocked l s radius = .next t ∧ t.lstate l.val = 2 := by
  have hidOk : (l.val != 1 || (s.srv.pilotP == 8 && s.srv.pilotLayer == s.srv.target)) = true := by
    rcases hid with h | ⟨hp, hlayer⟩
    · simp [h]
    · simp [hp, hlayer]
  have hput : ∀ u : State, (u.put Reg.SRV_LOOP_STATUS_LSTATE 2 l.val).lstate l.val = 2 := fun u => get_put_same (by decide) l.isLt
  unfold execLoopLocked
  dsimp only
  rw [if_pos (by simp [hacq, hclosed, hrun, hidOk])]
  refine ⟨_, rfl, ?_⟩
  exact ite_both (P := fun t => State.lstate t l.val = 2)
    ((get_of_moves mv_correctSled (by decide +kernel) l.isLt).trans (hput _)) (hput _)

/-- Retried from its start, or the third failed attempt's FAULT. -/
theorem acquisitionTimeout_facts (hacq : s.lstate l.val = 1) :
    ∃ t, execAcquisitionTimeout l s = .next t ∧
      ((s.loop l.val).attempts < 3 → t.regs = s.regs ∧ t.srv.loops = s.srv.loops.set l.val
        { s.loop l.val with attempts := (s.loop l.val).attempts + 1, closed := l.val == 2, lockRun := 0, integ := 0 }) ∧
      (3 ≤ (s.loop l.val).attempts → t = s.loopFault l.val 2 ∧ t.lstate l.val = 4) := by
  unfold execAcquisitionTimeout
  dsimp only
  rw [if_neg (by simp [hacq])]
  split
  next hmore => exact ⟨_, rfl, fun _ => ⟨rfl, rfl⟩, fun hlast => absurd hmore (Nat.not_lt.mpr hlast)⟩
  next hlast => exact ⟨_, rfl, fun hmore => absurd hmore hlast, fun _ => ⟨rfl, lstate_loopFault l.isLt⟩⟩

end Acquisition

section Hold
variable {l : LoopIx} {s : State}

theorem loopHoldEntry_holds (hlocked : s.lstate l.val = 2)
    (hwhy : (s.loop l.val).sumGood = false ∨ l.val ≠ 0 ∧ (s.lstate 0 = 3 ∨ s.srv.jump.isSome = true)) :
    ∃ t, execLoopHoldEntry l s = .next t ∧ t.lstate l.val = 3 := by
  have hcond : (!(s.loop l.val).sumGood || (l.val != 0 && (s.lstate 0 == 3 || s.srv.jump.isSome))) = true := by
    rcases hwhy with h | ⟨h0, h | h⟩ <;> simp [*]
  unfold execLoopHoldEntry
  rw [if_pos hcond]
  exact ⟨_, rfl, lstate_holdLoop hlocked l.isLt⟩

theorem loopHoldExit_locks (hheld : s.lstate l.val = 3) (hrun : 16 ≤ (s.loop l.val).sumRun)
    (hfocus : l.val = 0 ∨ (s.lstate 0 = 2 ∧ s.jumpOut 0 = none)) : ∃ t, execLoopHoldExit l s = .next t ∧ t.lstate l.val = 2 := by
  have hready : (l.val == 0 || (s.lstate 0 == 2 && (s.jumpOut 0).isNone)) = true := by
    rcases hfocus with h | ⟨hstate, hjump⟩
    · simp [h]
    · simp [hstate, hjump]
  unfold execLoopHoldExit
  dsimp only
  rw [if_pos (by simp [hheld, hrun, hready])]
  exact ⟨_, rfl, get_put_same (by decide) l.isLt⟩

theorem loopHoldTimeout_faults (hheld : s.lstate l.val = 3) (hlong : s.get Reg.SRV_LOOP_SUM_HOLD_MAX l.val ≤ (s.loop l.val).holdCnt) :
    execLoopHoldTimeout l s = .next (s.loopFault l.val 3) := by
  unfold execLoopHoldTimeout
  rw [if_pos (by simp [hheld, hlong])]

theorem loopLoss_faults (hlocked : s.lstate l.val = 2) (hoff : 16 ≤ (s.loop l.val).offRun) :
    execLoopLoss l s = .next (s.loopFault l.val 2) := by
  unfold execLoopLoss
  rw [if_pos (by simp [hlocked, hoff])]

end Hold

section Samples
variable {l : LoopIx} {i : LoopInput} {s : State}

/-- The interval before a sample: the coil current is shown, and unless a jump drives the coil its saturation is counted. -/
theorem sampled_facts {imeas : Int} {skip saturated : Bool} {n : Nat} (hn : n < 4) :
    let t := if skip then s.putInt Reg.SRV_COIL_STATUS_IMEAS imeas l.val
      else (s.putInt Reg.SRV_COIL_STATUS_IMEAS imeas l.val).satCount l.val saturated
    t.srv = s.srv ∧ t.lstate n = s.lstate n ∧ t.get Reg.SRV_LOOP_OUT_OUT n = s.get Reg.SRV_LOOP_OUT_OUT n ∧
      t.get Reg.SRV_LOOP_ACQ_LOCK_THR n = s.get Reg.SRV_LOOP_ACQ_LOCK_THR n ∧
      t.get Reg.SRV_LOOP_ACQ_OFF_THR n = s.get Reg.SRV_LOOP_ACQ_OFF_THR n := by
  have hshown : ∀ g : Fld, apart Reg.SRV_COIL_STATUS_IMEAS g = true → n < g.count →
      (s.putInt Reg.SRV_COIL_STATUS_IMEAS imeas l.val).get g n = s.get g n := fun g h hg => get_put_apart h hg
  have hcount : ∀ (u : State) (g : Fld), apart Reg.SRV_LOOP_STATUS_SAT_ACC g = true → n < g.count →
      (u.satCount l.val saturated).get g n = u.get g n := fun u g h hg =>
    ite_both (P := fun t => State.get t g n = u.get g n) (get_put_apart h hg) (get_put_apart h hg)
  dsimp only
  split
  · exact ⟨put_srv, hshown _ (by decide) hn, hshown _ (by decide) hn, hshown _ (by decide) hn, hshown _ (by decide) hn⟩
  · refine ⟨(mv_satCount.srv (by decide +kernel)).trans put_srv, ?_, ?_, ?_, ?_⟩
    · exact (hcount _ _ (by decide) hn).trans (hshown _ (by decide) hn)
    · exact (hcount _ _ (by decide) hn).trans (hshown _ (by decide) hn)
    · exact (hcount _ _ (by decide) hn).trans (hshown _ (by decide) hn)
    · exact (hcount _ _ (by decide) hn).trans (hshown _ (by decide) hn)

theorem nextSetpt_holdCnt {v : LoopSt} : (s.nextSetpt l.val v).holdCnt = v.holdCnt := by
  simp only [State.nextSetpt]
  split
  · split <;> rfl
  · split <;> rfl

theorem eq_of_set_getElem? {α : Type} {xs : List α} {k : Nat} {v x : α} (h : (xs.set k v)[k]? = some x) : x = v := by
  rw [List.getElem?_set, if_pos rfl] at h
  split at h
  · exact (Option.some.inj h).symm
  · cases h

/-- In HOLD a sample computes nothing. -/
theorem loopSample_held (hheld : s.lstate l.val = 3) (hjump : s.jumpOut l.val = none) (haux : i.aux = none) :
    ∃ t, execLoopSample l i s = .next t ∧ t.lstate l.val = 3 ∧
      t.getInt Reg.SRV_LOOP_OUT_OUT l.val = s.getInt Reg.SRV_LOOP_OUT_OUT l.val ∧
      ∀ x, t.srv.loops[l.val]? = some x → x.holdCnt = (s.loop l.val).holdCnt + 1 := by
  have hin : s.auxIn i.aux = s := by rw [haux]; rfl
  unfold execLoopSample
  dsimp only
  rw [hin, hheld, hjump, if_neg (by decide), if_pos rfl]
  dsimp only
  obtain ⟨hsrv, hstate, hout, -, -⟩ := sampled_facts (s := s) (l := l) (imeas := i.imeas) (skip := false)
    (saturated := (s.loop l.val).clamped || s.coilSaturated l.val i.imeas) l.isLt
  refine ⟨_, rfl, hstate.trans hheld, getInt_of_get hout, fun x hx => ?_⟩
  rw [eq_of_set_getElem? hx]
  simp only [nextSetpt_holdCnt]
  split <;> rfl

/-- What a LOCKED closed loop's sample leaves, with the compensator's result. -/
theorem runSample_locked {u : State} {x out : Int} {v w : LoopSt} {er : Int} (hsrv : u.srv = s.srv) (hjump : s.srv.jump = none)
    (hlocked : u.lstate l.val = 2) (hthr : ∀ v e, u.judge l.val v e = s.judge l.val v e)
    (her : er = satCodes (1024 * (if l.val = 1 then x + s.srv.trackOfs else if l.val = 3 then s.srv.skew else x) - 1024 * v.setpt))
    (hcomp : compensate true (s.judge l.val v er) er = (w, out)) (hlow : -8192 ≤ out) (hhigh : out < 8192) :
    (u.runSample l.val x v).getInt Reg.SRV_LOOP_OUT_OUT l.val = out ∧
      (u.runSample l.val x v).srv.loops = s.srv.loops.set l.val w := by
  have hnone : u.jumpOut l.val = none := by
    unfold State.jumpOut
    rw [hsrv, hjump]
    exact ite_both (P := fun o => o = none) rfl rfl
  unfold State.runSample
  dsimp only
  rw [hnone, hsrv, ← her, hthr, hlocked]
  dsimp only
  rw [show ((2 : Nat) == 2) = true from rfl, hcomp]
  refine ⟨getInt_putInt_same (by decide) l.isLt (by decide) hlow hhigh, ?_⟩
  simp only [State.putInt, put_srv, State.setLoop, hsrv]

/-- A closed loop in LOCKED puts out what the compensator gives. -/
theorem loopSample_locked {x er out : Int} {v w : LoopSt} (hlocked : s.lstate l.val = 2) (hjump : s.srv.jump = none)
    (haux : i.aux = none) (hserv : s.serviced l.val = false) (hcommit : (s.loop l.val).commit = false)
    (hret : (s.loop l.val).returning = false) (hclosed : (s.loop l.val).closed = true)
    (hx : x = if l.val = 1 then i.x + s.srv.trackOfs else if l.val = 3 then s.srv.skew else i.x)
    (her : er = satCodes (1024 * x - 1024 * s.getInt Reg.SRV_LOOP_SETPT_SETPT l.val))
    (hset : v.setpt = s.getInt Reg.SRV_LOOP_SETPT_SETPT l.val) (hgood : v.sumGood = s.sumOk l.val i.sum)
    (hrun : v.sumRun = if v.sumGood then (s.loop l.val).sumRun + 1 else 0) (hff : v.ff = s.ffSum l.val i.disc i.rotor)
    (hv : v = { s.loop l.val with setpt := v.setpt, sumGood := v.sumGood, sumRun := v.sumRun, ff := v.ff })
    (hcomp : compensate true (s.judge l.val v er) er = (w, out)) (hlow : -8192 ≤ out) (hhigh : out < 8192) :
    ∃ t, execLoopSample l i s = .next t ∧ t.getInt Reg.SRV_LOOP_OUT_OUT l.val = out ∧
      t.srv.loops = s.srv.loops.set l.val w := by
  have hin : s.auxIn i.aux = s := by rw [haux]; rfl
  have hnone : s.jumpOut l.val = none := by
    unfold State.jumpOut
    rw [hjump]
    exact ite_both (P := fun o => o = none) rfl rfl
  have hnext : ∀ y : LoopSt, y.returning = false → s.nextSetpt l.val y = { y with setpt := s.getInt Reg.SRV_LOOP_SETPT_SETPT l.val } := by
    intro y hy
    unfold State.nextSetpt
    dsimp only
    rw [if_neg (by simp [hserv]), if_neg (by simp [hy])]
  obtain ⟨hsrv, hstate, -, hlock, hoff⟩ := sampled_facts (s := s) (l := l) (imeas := i.imeas) (skip := false)
    (saturated := (s.loop l.val).clamped || s.coilSaturated l.val i.imeas) l.isLt
  unfold execLoopSample
  dsimp only
  rw [hin, hlocked, hnone, if_neg (by decide), if_neg (by decide), hcommit]
  rw [if_neg (show ¬ (false = true) from Bool.false_ne_true)]
  rw [hnext { s.loop l.val with
      sumGood := s.sumOk l.val i.sum
      sumRun := if s.sumOk l.val i.sum then (s.loop l.val).sumRun + 1 else 0 } hret]
  dsimp only
  rw [hclosed]
  rw [Bool.true_or, Bool.true_or, Bool.true_or, if_pos rfl]
  refine ⟨_, rfl, ?_⟩
  have hv' : v = { s.loop l.val with
      setpt := s.getInt Reg.SRV_LOOP_SETPT_SETPT l.val
      sumGood := s.sumOk l.val i.sum
      sumRun := if s.sumOk l.val i.sum then (s.loop l.val).sumRun + 1 else 0
      closed := true
      ff := s.ffSum l.val i.disc i.rotor } := by
    rw [hv, hset, hrun, hgood, hff, ← hclosed]
  rw [← hv']
  refine runSample_locked hsrv hjump (hstate.trans hlocked) (fun y e => ?_) (by rw [her, hx, hset]) hcomp hlow hhigh
  unfold State.judge
  dsimp only at hlock hoff ⊢
  rw [hlock, hoff]

end Samples

section Saturation
variable {l : LoopIx} {s : State}

/-- The supervisor's report of a saturated loop. -/
def saturated (s : State) (l : Nat) : State :=
  (((s.inc Reg.SRV_SAT_FAULTS).event Reg.SRV_STATUS_SAT_EV).put Reg.SRV_LOOP_STATUS_SAT_ACC 0 l).servoFault

theorem saturated_facts : (saturated s l.val).get Reg.SRV_LOOP_STATUS_SAT_ACC l.val = 0 ∧
    (saturated s l.val).get Reg.SRV_SAT_FAULTS = min (s.get Reg.SRV_SAT_FAULTS + 1) (2 ^ 32 - 1) ∧
    (saturated s l.val).flag Reg.SRV_STATUS_SAT_EV = true ∧ (saturated s l.val).lstate l.val = s.lstate l.val := by
  refine ⟨?_, ?_, ?_, ?_⟩
  · exact (get_of_moves mv_servoFault (by decide +kernel) l.isLt).trans (get_put_same (by decide) l.isLt)
  · refine (get_of_moves mv_servoFault (by decide +kernel) (by decide)).trans ((get_put_apart (by decide) (by decide)).trans ?_)
    exact (event_get (by decide) (by decide) (by decide) (by decide)).trans (get_inc_same (by decide) (by decide))
  · refine (flag_of_moves mv_servoFault (by decide +kernel) (by decide)).trans ((flag_put_apart (by decide) (by decide)).trans ?_)
    exact event_flag (by decide) (by decide)
  · refine (lstate_servoFault l.isLt).trans ((get_put_apart (by decide) l.isLt).trans ?_)
    exact (event_get (by decide) l.isLt (by decide) (by decide)).trans (get_inc_apart (by decide) l.isLt)

theorem openLoop_faults {k : Nat} (hk : k < 4) (hon : s.lstate k ≠ 0) (hsound : s.lstate k ≠ 4) : (s.openLoop k).lstate k = 4 := by
  unfold State.openLoop
  rw [if_neg (by simp [hon, hsound])]
  exact lstate_loopFault hk

theorem saturationFault_counts (hon : s.lstate l.val ≠ 0) (hsound : s.lstate l.val ≠ 4)
    (hfull : s.get Reg.SRV_LOOP_SAT_SAT_COUNT l.val ≤ s.get Reg.SRV_LOOP_STATUS_SAT_ACC l.val)
    (hact : s.get Reg.SRV_LOOP_CTL_ACTION l.val = 0) : execSaturationFault l s = .next (saturated s l.val) := by
  unfold execSaturationFault
  dsimp only
  rw [if_neg (by simp [hon, hsound, hfull]), hact]
  rfl

theorem saturationFault_opens (hon : s.lstate l.val ≠ 0) (hsound : s.lstate l.val ≠ 4)
    (hfull : s.get Reg.SRV_LOOP_SAT_SAT_COUNT l.val ≤ s.get Reg.SRV_LOOP_STATUS_SAT_ACC l.val)
    (hact : s.get Reg.SRV_LOOP_CTL_ACTION l.val = 1) :
    execSaturationFault l s = .next ((saturated s l.val).openLoop l.val) := by
  unfold execSaturationFault
  dsimp only
  rw [if_neg (by simp [hon, hsound, hfull]), hact]
  rfl

end Saturation

/-- Settles O40: states and samples of the servo loops. -/
theorem servoLoops : Obligations.ServoLoops := by
  unfold Obligations.ServoLoops
  refine ⟨?_, ?_, ?_, ?_, ?_, ?_, ?_, ?_, ?_, ?_, ?_, ?_⟩
  case _ =>
    intro l s hrun hmc3 hdriven hidle hfocus
    obtain ⟨t, hnext, hacq⟩ := loopAcquireStart_acquires hrun hmc3 hdriven hidle hfocus
    exact ⟨t, hnext, hacq, keeps_of_next mv_execLoopAcquireStart hnext (by decide +kernel)⟩
  case _ =>
    intro l radius s hacq hclosed hrun hid
    obtain ⟨t, hnext, hlocked⟩ := loopLocked_locks (radius := radius) hacq hclosed hrun hid
    exact ⟨t, hnext, hlocked, keeps_of_next mv_execLoopLocked hnext (by decide +kernel)⟩
  case _ =>
    intro l s hlocked hwhy
    obtain ⟨t, hnext, hheld⟩ := loopHoldEntry_holds hlocked hwhy
    exact ⟨t, hnext, hheld, keeps_of_next mv_execLoopHoldEntry hnext (by decide +kernel)⟩
  case _ =>
    intro l s hheld hrun hfocus
    obtain ⟨t, hnext, hlocked⟩ := loopHoldExit_locks hheld hrun hfocus
    exact ⟨t, hnext, hlocked, keeps_of_next mv_execLoopHoldExit hnext (by decide +kernel)⟩
  case _ =>
    intro l s hheld hlong
    have hnext := loopHoldTimeout_faults hheld hlong
    exact ⟨_, hnext, rfl, lstate_loopFault l.isLt, keeps_of_next mv_execLoopHoldTimeout hnext (by decide +kernel)⟩
  case _ =>
    intro l s hlocked hoff
    have hnext := loopLoss_faults hlocked hoff
    exact ⟨_, hnext, rfl, lstate_loopFault l.isLt, keeps_of_next mv_execLoopLoss hnext (by decide +kernel)⟩
  case _ =>
    intro l s hacq
    obtain ⟨t, hnext, hretry, hfault⟩ := acquisitionTimeout_facts hacq
    exact ⟨t, hnext, hretry, hfault, keeps_of_next mv_execAcquisitionTimeout hnext (by decide +kernel)⟩
  case _ =>
    intro l s harch
    have hnext : execLoopCommit l s = .next (s.setLoop l.val { s.loop l.val with commit := true }) := by
      unfold execLoopCommit
      rw [if_neg (by simp [harch])]
    exact ⟨_, hnext, rfl, keeps_of_next mv_execLoopCommit hnext (by decide +kernel)⟩
  case _ =>
    intro l i s hheld hjump haux
    obtain ⟨t, hnext, hstill, hout, hcnt⟩ := loopSample_held hheld hjump haux
    exact ⟨t, hnext, hstill, hout, hcnt, keeps_of_next mv_execLoopSample hnext (by decide +kernel)⟩
  case _ =>
    intro l i x er out v w s hlocked hjump haux hserv hcommit hret hclosed hx her hset hgood hrun hff hv hcomp hlow hhigh
    obtain ⟨t, hnext, hout, hloops⟩ := loopSample_locked hlocked hjump haux hserv hcommit hret hclosed hx her hset hgood hrun hff hv
      hcomp hlow hhigh
    exact ⟨t, hnext, hout, hloops, keeps_of_next mv_execLoopSample hnext (by decide +kernel)⟩
  case _ =>
    intro l s hon hsound hfull hact
    have hnext := saturationFault_counts hon hsound hfull hact
    obtain ⟨hacc, hcount, hev, -⟩ := saturated_facts (l := l) (s := s)
    exact ⟨_, hnext, hacc, hcount, hev, keeps_of_next mv_execSaturationFault hnext (by decide +kernel)⟩
  case _ =>
    intro l s hon hsound hfull hact
    have hnext := saturationFault_opens hon hsound hfull hact
    obtain ⟨-, -, -, hstate⟩ := saturated_facts (l := l) (s := s)
    exact ⟨_, hnext, openLoop_faults l.isLt (hstate ▸ hon) (hstate ▸ hsound),
      keeps_of_next mv_execSaturationFault hnext (by decide +kernel)⟩

end Sys2Proof.Proofs
end

section
/-!
Layer jumps (14 R364, R365).
-/
set_option Elab.async false

namespace Sys2Proof.Proofs
open Sys2Proof Sys2Proof.Machine Sys2Proof.Laws

section Jumps
variable {s : State} {j : Jump}

theorem startJump_jump {down : Bool} {target fails : Nat} :
    (s.startJump down target fails).srv.jump = some { step := .kick, down, target, fails } := by
  unfold State.startJump
  dsimp only
  rw [State.putInt, put_srv, srv_mk]

theorem jumpStep_srv {step : JumpStep} {out : Int} :
    (s.jumpStep j step out).srv = { s.srv with jump := some { j with step } } := by
  rw [State.jumpStep, State.putInt, put_srv, srv_mk]

theorem jumpStep_out {step : JumpStep} {out : Int} (hlow : -8192 ≤ out) (hhigh : out < 8192) :
    (s.jumpStep j step out).getInt Reg.SRV_LOOP_OUT_OUT 0 = out :=
  getInt_putInt_same (by decide) (by decide) (by decide) hlow hhigh

theorem layerJumpStart_kicks {down : Bool} (hlocked : s.lstate 0 = 2) (hnone : s.srv.jump = none) (hidle : s.och.writing = [])
    (hrun : s.get Reg.SRV_STATUS_STATE = 2) (hmc3 : s.mc3Runs = true) (hlow : down = true → 0 < s.srv.pilotLayer)
    (hhigh : down = false → s.srv.pilotLayer < 11) :
    execLayerJumpStart down s = .next (s.startJump down (if down then s.srv.pilotLayer - 1 else s.srv.pilotLayer + 1) 0) := by
  have hbottom : (down && s.srv.pilotLayer == 0) = false := by
    cases down with
    | false => rfl
    | true => simpa using Nat.pos_iff_ne_zero.mp (hlow rfl)
  have htop : (!down && decide (11 ≤ s.srv.pilotLayer)) = false := by
    cases down with
    | false => simpa using hhigh rfl
    | true => rfl
  unfold execLayerJumpStart
  dsimp only
  rw [if_neg (by simp [hlocked, hnone, hidle, hrun, hmc3, hbottom, htop])]

theorem jumpKickEnd_coasts (hj : s.srv.jump = some j) (hstep : j.step = .kick) :
    execJumpKickEnd s = .next (s.jumpStep j .coast 0) := by
  unfold execJumpKickEnd
  rw [hj]
  exact if_pos hstep

theorem jumpScurvePeak_brakes (hj : s.srv.jump = some j) (hstep : j.step = .coast) :
    execJumpScurvePeak s = .next (s.jumpStep j .brake (-s.kick j.down)) := by
  unfold execJumpScurvePeak
  rw [hj]
  exact if_pos hstep

/-- Focus closes again: the jump is at its last step and the loop in ACQUIRE. -/
theorem jumpBrakeEnd_closes (hj : s.srv.jump = some j) (hstep : j.step = .brake) :
    ∃ t, execJumpBrakeEnd s = .next t ∧ t.srv.jump = some { j with step := .close } ∧ t.lstate 0 = 1 := by
  unfold execJumpBrakeEnd
  rw [hj]
  dsimp only
  rw [if_pos hstep]
  refine ⟨_, rfl, ?_, get_put_same (by decide) (by decide)⟩
  simp only [put_srv, State.setLoop, jumpStep_srv]

theorem jumpComplete_ends {layer : Nat} (hj : s.srv.jump = some j) (hstep : j.step = .close) (hlocked : s.lstate 0 = 2)
    (hlayer : layer = j.target) :
    ∃ t, execJumpComplete layer s = .next t ∧ t.srv = { s.srv with jump := none, pilotLayer := layer } ∧
      t.get Reg.SRV_JUMPS = min (s.get Reg.SRV_JUMPS + 1) (2 ^ 32 - 1) := by
  unfold execJumpComplete
  rw [hj]
  dsimp only
  rw [if_pos (by simp [hstep, hlocked, hlayer])]
  exact ⟨_, rfl, put_srv, get_inc_same (by decide) (by decide)⟩

/-- A jump that timed out, counted and reported, with the layer of the spot. -/
def jumpFailed (s : State) (layer : Nat) : State :=
  let s1 := (s.inc Reg.SRV_JUMP_FAILS).event Reg.SRV_STATUS_JUMP_FAIL_EV
  { s1 with srv := { s1.srv with pilotLayer := layer } }

theorem jumpFailed_facts {layer : Nat} : (jumpFailed s layer).srv = { s.srv with pilotLayer := layer } ∧
    (jumpFailed s layer).get Reg.SRV_JUMP_FAILS = min (s.get Reg.SRV_JUMP_FAILS + 1) (2 ^ 32 - 1) ∧
    (jumpFailed s layer).flag Reg.SRV_STATUS_JUMP_FAIL_EV = true := by
  have hsame : ∀ (u : State) (x : SrvSt), ({ u with srv := x } : State).get Reg.SRV_JUMP_FAILS = u.get Reg.SRV_JUMP_FAILS ∧
      ({ u with srv := x } : State).flag Reg.SRV_STATUS_JUMP_FAIL_EV = u.flag Reg.SRV_STATUS_JUMP_FAIL_EV := fun _ _ => ⟨rfl, rfl⟩
  refine ⟨?_, (hsame _ _).1.trans ?_, (hsame _ _).2.trans (event_flag (by decide) (by decide))⟩
  · rw [jumpFailed, srv_mk, event_srv, State.inc, State.add, put_srv]
  · exact (event_get (by decide) (by decide) (by decide) (by decide)).trans (get_inc_same (by decide) (by decide))

/-- A failed jump that only waits for focus at its target. -/
def jumpWaiting (s : State) (j : Jump) : State := { s with srv := { s.srv with jump := some j } }

theorem jumpWaiting_facts : (jumpWaiting s j).srv = { s.srv with jump := some j } ∧ (∀ f, (jumpWaiting s j).get f = s.get f) ∧
    ∀ f, (jumpWaiting s j).flag f = s.flag f := ⟨rfl, fun _ => rfl, fun _ => rfl⟩

theorem jumpTimeout_next {layer : Nat} (hj : s.srv.jump = some j) : execJumpTimeout layer s = .next (
    if 3 ≤ j.fails + 1 then (jumpFailed s layer).loopFault 0 2
    else if layer = j.target then jumpWaiting (jumpFailed s layer) { j with fails := j.fails + 1 }
    else (jumpFailed s layer).startJump (decide (j.target < layer)) (if j.target < layer then layer - 1 else layer + 1)
      (j.fails + 1)) := by
  unfold execJumpTimeout jumpWaiting jumpFailed
  rw [hj]
  dsimp only
  split
  · rfl
  · split <;> rfl

theorem jumpTimeout_facts {layer : Nat} (hj : s.srv.jump = some j) :
    ∃ t, execJumpTimeout layer s = .next t ∧ (2 ≤ j.fails → t.lstate 0 = 4) ∧
      (j.fails < 2 → layer = j.target → t.srv = { s.srv with pilotLayer := layer, jump := some { j with fails := j.fails + 1 } } ∧
        t.get Reg.SRV_JUMP_FAILS = min (s.get Reg.SRV_JUMP_FAILS + 1) (2 ^ 32 - 1) ∧ t.flag Reg.SRV_STATUS_JUMP_FAIL_EV = true) ∧
      (j.fails < 2 → layer ≠ j.target → t.srv.jump = some ⟨.kick, decide (j.target < layer),
        if j.target < layer then layer - 1 else layer + 1, j.fails + 1⟩) := by
  refine ⟨_, jumpTimeout_next hj, fun hlast => ?_, fun hmore htarget => ?_, fun hmore hoff => ?_⟩
  · rw [if_pos (Nat.succ_le_succ hlast)]
    exact lstate_loopFault (by decide)
  · rw [if_neg (by omega), if_pos htarget]
    obtain ⟨hsrv, hcount, hev⟩ := jumpFailed_facts (s := s) (layer := layer)
    obtain ⟨hwait, hget, hflag⟩ := jumpWaiting_facts (s := jumpFailed s layer) (j := { j with fails := j.fails + 1 })
    exact ⟨hwait.trans (by rw [hsrv]), (hget _).trans hcount, (hflag _).trans hev⟩
  · rw [if_neg (by omega), if_neg hoff]
    exact startJump_jump

end Jumps

/-- Settles O41: the steps of a layer jump and its retries. -/
theorem layerJump : Obligations.LayerJump := by
  unfold Obligations.LayerJump
  refine ⟨?_, ?_, ?_, ?_, ?_, ?_⟩
  case _ =>
    intro down s hlocked hnone hidle hrun hmc3 hlow hhigh
    have hnext := layerJumpStart_kicks hlocked hnone hidle hrun hmc3 hlow hhigh
    exact ⟨_, hnext, startJump_jump, keeps_of_next mv_execLayerJumpStart hnext (by decide +kernel)⟩
  case _ =>
    intro j s hj hstep
    have hnext := jumpKickEnd_coasts hj hstep
    exact ⟨_, hnext, jumpStep_srv, jumpStep_out (by decide) (by decide), keeps_of_next mv_execJumpKickEnd hnext (by decide +kernel)⟩
  case _ =>
    intro j s hj hstep
    have hnext := jumpScurvePeak_brakes hj hstep
    exact ⟨_, hnext, rfl, keeps_of_next mv_execJumpScurvePeak hnext (by decide +kernel)⟩
  case _ =>
    intro j s hj hstep
    obtain ⟨t, hnext, hjump, hstate⟩ := jumpBrakeEnd_closes hj hstep
    exact ⟨t, hnext, hjump, hstate, keeps_of_next mv_execJumpBrakeEnd hnext (by decide +kernel)⟩
  case _ =>
    intro layer j s hj hstep hlocked hlayer
    obtain ⟨t, hnext, hsrv, hcount⟩ := jumpComplete_ends hj hstep hlocked hlayer
    exact ⟨t, hnext, hsrv, hcount, keeps_of_next mv_execJumpComplete hnext (by decide +kernel)⟩
  case _ =>
    intro layer j s hj
    obtain ⟨t, hnext, hlast, hwait, hagain⟩ := jumpTimeout_facts (layer := layer) hj
    exact ⟨t, hnext, hlast, hwait, hagain, keeps_of_next mv_execJumpTimeout hnext (by decide +kernel)⟩

end Sys2Proof.Proofs
end

section
/-!
Coil bridges, feed-forward banks, the power governor and the service inputs (14 R362 to R376).
-/
set_option Elab.async false

namespace Sys2Proof.Proofs
open Sys2Proof Sys2Proof.Machine Sys2Proof.Laws

section Coils
variable {l : LoopIx} {s : State}

theorem reverse_facts {pos : Bool} : (s.reverse l.val pos).get Reg.SRV_COIL_STATUS_BRIDGE l.val = (if pos then 1 else 2) ∧
    (s.reverse l.val pos).srv = { s.srv with loops := s.srv.loops.set l.val { s.loop l.val with dwell := true, deferred := none } } := by
  refine ⟨(get_put_same (by decide) l.isLt).trans (by cases pos <;> rfl), ?_⟩
  rw [State.reverse, put_srv]
  rfl

/-- A bridge that is on reverses at once, or after the dwell. -/
theorem coilReversal_facts {pos : Bool} (hon : s.get Reg.SRV_COIL_STATUS_BRIDGE l.val ≠ 0) :
    ∃ t, execCoilReversal l pos s = .next t ∧
      ((s.loop l.val).dwell = true → t.regs = s.regs ∧
        t.srv = { s.srv with loops := s.srv.loops.set l.val { s.loop l.val with deferred := some pos } }) ∧
      ((s.loop l.val).dwell = false → t.get Reg.SRV_COIL_STATUS_BRIDGE l.val = (if pos then 1 else 2) ∧
        t.srv = { s.srv with loops := s.srv.loops.set l.val { s.loop l.val with dwell := true, deferred := none } }) := by
  unfold execCoilReversal
  dsimp only
  rw [if_neg hon]
  split
  next hdwell => exact ⟨_, rfl, fun _ => ⟨rfl, rfl⟩, fun hout => absurd hdwell (by simp [hout])⟩
  next hout => exact ⟨_, rfl, fun hdwell => absurd hdwell hout, fun _ => reverse_facts⟩

theorem coilDwellExpiry_reverses {pos : Bool} (hdef : (s.loop l.val).deferred = some pos)
    (hon : s.get Reg.SRV_COIL_STATUS_BRIDGE l.val ≠ 0) :
    ∃ t, execCoilDwellExpiry l s = .next t ∧ t.get Reg.SRV_COIL_STATUS_BRIDGE l.val = (if pos then 1 else 2) := by
  unfold execCoilDwellExpiry
  dsimp only
  rw [hdef]
  dsimp only
  rw [if_neg hon]
  exact ⟨_, rfl, reverse_facts.1⟩

theorem coilDwellExpiry_ends (hdef : (s.loop l.val).deferred = none) :
    execCoilDwellExpiry l s = .next (s.setLoop l.val { s.loop l.val with dwell := false, deferred := none }) := by
  unfold execCoilDwellExpiry
  dsimp only
  rw [hdef]

theorem coilCfgWrite_off {v : Word} (harch : s.archived = true) (hoff : s.lstate l.val = 0) :
    execCoilCfgWrite l v s = .next (s.writeAt Reg.SRV_COIL_CFG_IFS l.val v) := by
  unfold execCoilCfgWrite
  dsimp only
  rw [if_neg (by simp [harch]), if_pos hoff]

theorem coilCfgWrite_refused {v : Word} (harch : s.archived = true) (hon : s.lstate l.val ≠ 0)
    (hother : s.written (Reg.SRV_COIL_CFG_IFS.base + Reg.SRV_COIL_CFG_IFS.stride * l.val) v ≠
      s.rd (Reg.SRV_COIL_CFG_IFS.base + Reg.SRV_COIL_CFG_IFS.stride * l.val)) :
    execCoilCfgWrite l v s = .next (s.event Reg.SRV_STATUS_CFG_REJ) := by
  unfold execCoilCfgWrite
  dsimp only
  rw [if_neg (by simp [harch]), if_neg hon, if_neg hother]

end Coils

section Banks
variable {n : Fin 6} {s : State}

theorem ffSwapApply_swaps (hswap : s.srv.swap.getD n.val false = true) :
    ∃ t, execFfSwapApply n s = .next t ∧ t.flag Reg.SRV_FF_CTL_ACTIVE n.val = (!s.srv.bank.getD n.val false) ∧
      t.srv.bank = s.srv.bank.set n.val (!s.srv.bank.getD n.val false) ∧ t.srv.swap = s.srv.swap.set n.val false := by
  unfold execFfSwapApply
  rw [if_pos hswap]
  refine ⟨_, rfl, flag_setFlag_same (by decide) (by decide) n.isLt, ?_, ?_⟩
  · rw [State.setFlag, put_srv]
  · rw [State.setFlag, put_srv]

end Banks

section Governor
variable {s : State}

theorem foldl_min_le {l : List Nat} {n : Nat} : l.foldl min n ≤ n := by
  induction l generalizing n with
  | nil => exact Nat.le_refl n
  | cons a l ih => exact Nat.le_trans ih (Nat.min_le_left n a)

theorem showWinner_get {gs : List Nat} {target : Nat} {f : Fld} (h : apart Reg.SRV_GOV_STATUS_WINNER f = true) (hf : 0 < f.count) :
    (s.showWinner gs target).get f = s.get f := get_put_apart h hf

/-- A worse candidate takes the governor down at once. -/
theorem governorUpdate_drops {vbus ibus : Nat} (harch : s.part.archive = true)
    (hlow : (s.govCandidates vbus ibus).foldl min 1024 < s.get Reg.SRV_GOV_STATUS_G) :
    ∃ t, execGovernorUpdate vbus ibus s = .next t ∧ t.get Reg.SRV_GOV_STATUS_G = (s.govCandidates vbus ibus).foldl min 1024 ∧
      t.get Reg.SRV_GOV_STATUS_TARGET = (s.govCandidates vbus ibus).foldl min 1024 := by
  have hfits : (s.govCandidates vbus ibus).foldl min 1024 < 2048 := Nat.lt_of_le_of_lt foldl_min_le (by decide)
  unfold execGovernorUpdate
  rw [if_neg (by simp [harch])]
  dsimp only
  rw [if_pos hlow]
  generalize (s.govCandidates vbus ibus).foldl min 1024 = m at hfits ⊢
  have hput : ∀ u : State, ((u.put Reg.SRV_GOV_STATUS_TARGET m).put Reg.SRV_GOV_STATUS_G m).get Reg.SRV_GOV_STATUS_G = m ∧
      ((u.put Reg.SRV_GOV_STATUS_TARGET m).put Reg.SRV_GOV_STATUS_G m).get Reg.SRV_GOV_STATUS_TARGET = m := fun u =>
    ⟨(get_put_same (by decide) (by decide)).trans (Nat.mod_eq_of_lt hfits),
      (get_put_apart (by decide) (by decide)).trans ((get_put_same (by decide) (by decide)).trans (Nat.mod_eq_of_lt hfits))⟩
  have hev : ∀ (u : State) (c : Prop) [Decidable c], (if c then u.event Reg.SRV_STATUS_GOV_EV else u).get Reg.SRV_GOV_STATUS_G =
      u.get Reg.SRV_GOV_STATUS_G ∧ (if c then u.event Reg.SRV_STATUS_GOV_EV else u).get Reg.SRV_GOV_STATUS_TARGET =
      u.get Reg.SRV_GOV_STATUS_TARGET := by
    intro u c _
    split
    · exact ⟨event_get (by decide) (by decide) (by decide) (by decide), event_get (by decide) (by decide) (by decide) (by decide)⟩
    · exact ⟨rfl, rfl⟩
  refine ⟨_, rfl, (showWinner_get (by decide) (by decide)).trans ((hev _ _).1.trans (hput _).1),
    (showWinner_get (by decide) (by decide)).trans ((hev _ _).2.trans (hput _).2)⟩

theorem governorRise_rises (hlow : s.get Reg.SRV_GOV_STATUS_G < s.get Reg.SRV_GOV_STATUS_TARGET) :
    ∃ t, execGovernorRise s = .next t ∧ t.get Reg.SRV_GOV_STATUS_G =
      min (s.get Reg.SRV_GOV_STATUS_TARGET) (s.get Reg.SRV_GOV_STATUS_G + s.get Reg.SRV_GOV_OUT_RISE) := by
  have hfits : min (s.get Reg.SRV_GOV_STATUS_TARGET) (s.get Reg.SRV_GOV_STATUS_G + s.get Reg.SRV_GOV_OUT_RISE) < 2048 :=
    Nat.lt_of_le_of_lt (Nat.min_le_left _ _) get_lt
  unfold execGovernorRise
  dsimp only
  rw [if_pos hlow]
  generalize min (s.get Reg.SRV_GOV_STATUS_TARGET) (s.get Reg.SRV_GOV_STATUS_G + s.get Reg.SRV_GOV_OUT_RISE) = m at hfits ⊢
  have hput : (s.put Reg.SRV_GOV_STATUS_G m).get Reg.SRV_GOV_STATUS_G = m :=
    (get_put_same (by decide) (by decide)).trans (Nat.mod_eq_of_lt hfits)
  exact ⟨_, rfl, ite_both (P := fun t => State.get t Reg.SRV_GOV_STATUS_G = m)
    ((get_put_apart (by decide) (by decide)).trans hput) hput⟩

theorem governorThresholdWrite_facts {ibus : Bool} {v : Word} (harch : s.archived = true) :
    ∃ t, execGovernorThresholdWrite ibus v s = .next t ∧
      (ibus = true → bitsOf (s.written Reg.SRV_GOV_IBUS_I_START.base v) 11 0 < bitsOf (s.written Reg.SRV_GOV_IBUS_I_START.base v) 23 12 →
        t = s.wr Reg.SRV_GOV_IBUS_I_START.base (s.written Reg.SRV_GOV_IBUS_I_START.base v)) ∧
      (ibus = true → bitsOf (s.written Reg.SRV_GOV_IBUS_I_START.base v) 23 12 ≤ bitsOf (s.written Reg.SRV_GOV_IBUS_I_START.base v) 11 0 →
        t = s) ∧
      (ibus = false → bitsOf (s.written Reg.SRV_GOV_TEMP_T_START.base v) 11 0 < bitsOf (s.written Reg.SRV_GOV_TEMP_T_START.base v) 27 16 →
        t = s.wr Reg.SRV_GOV_TEMP_T_START.base (s.written Reg.SRV_GOV_TEMP_T_START.base v)) ∧
      (ibus = false → bitsOf (s.written Reg.SRV_GOV_TEMP_T_START.base v) 27 16 ≤ bitsOf (s.written Reg.SRV_GOV_TEMP_T_START.base v) 11 0 →
        t = s) := by
  unfold execGovernorThresholdWrite
  cases ibus with
  | true =>
    simp only [if_true, harch, Bool.not_true, Bool.or_false, decide_eq_true_eq]
    split
    next hbad => exact ⟨_, rfl, fun _ hgood => absurd hbad (Nat.not_le.mpr hgood), fun _ _ => rfl, nofun, nofun⟩
    next hgood => exact ⟨_, rfl, fun _ _ => rfl, fun _ hbad => absurd hbad hgood, nofun, nofun⟩
  | false =>
    simp only [Bool.false_eq_true, if_false, harch, Bool.not_true, Bool.or_false, decide_eq_true_eq]
    split
    next hbad => exact ⟨_, rfl, nofun, nofun, fun _ hgood => absurd hbad (Nat.not_le.mpr hgood), fun _ _ => rfl⟩
    next hgood => exact ⟨_, rfl, nofun, nofun, fun _ _ => rfl, fun _ hbad => absurd hbad hgood⟩

end Governor

section Service
variable {s : State} {n : Nat}

theorem serviceModeEnable_facts {v : Word} (harch : s.archived = true) (hmode : s.get Reg.OCH_STATUS_MODE ≠ 1) :
    ∃ t, execServiceModeEnable v s = .next t ∧ t.regs = (s.write Reg.SRV_SVC_EN.base v).regs ∧
      (t.flag Reg.SRV_SVC_EN = true → s.flag Reg.SRV_SVC_EN = false → t.srv.svcLost = false) := by
  unfold execServiceModeEnable
  dsimp only
  rw [if_neg (by simp [harch]), if_neg (by simp [hmode])]
  split
  next => exact ⟨_, rfl, rfl, fun _ _ => rfl⟩
  next hstill => exact ⟨_, rfl, rfl, fun hon hoff => absurd hstill (by simp [hon, hoff])⟩

theorem serviceInputLost_servo (hen : s.flag Reg.SRV_SVC_EN = true) (hlive : s.srv.svcLost = false) (hsrc : s.get Reg.SRV_SVC_SRC ≠ 0) :
    ∃ t, execServiceInputLost false s = .next t ∧ t.srv = { s.srv with svcLost := true } ∧ t.flag Reg.SRV_STATUS_SVC_LOST_EV = true := by
  unfold execServiceInputLost
  rw [if_neg (by decide), if_pos (by simp [hen, hlive, hsrc])]
  exact ⟨_, rfl, event_srv, event_flag (by decide) (by decide)⟩

theorem serviceInputLost_spindle (hstate : s.sstate = 7) (hlive : s.mot.svcLost = false) (hsrc : s.get Reg.MOT_SPN_SVC_SRC ≠ 0) :
    ∃ t, execServiceInputLost true s = .next t ∧ t.mot = { s.mot with svcLost := true } ∧ t.flag Reg.MOT_STATUS_SVC_LOST_EV = true := by
  unfold execServiceInputLost
  rw [if_pos rfl, if_pos (by simp [hstate, hlive, hsrc])]
  exact ⟨_, rfl, event_mot, event_flag (by decide) (by decide)⟩

theorem serviceInputReturn_servo (hlost : s.srv.svcLost = true) :
    ∃ t, execServiceInputReturn false n s = .next t ∧ t.srv = { s.srv with svcLost := false } ∧
      t.get Reg.SRV_SVC_IN_N = min 16383 n := by
  unfold execServiceInputReturn
  rw [if_neg (by decide), if_neg (by simp [hlost])]
  exact ⟨_, rfl, put_srv, (get_put_same (by decide) (by decide)).trans
    (Nat.mod_eq_of_lt (Nat.lt_of_le_of_lt (Nat.min_le_left _ _) (by decide)))⟩

theorem serviceInputReturn_spindle (hlost : s.mot.svcLost = true) :
    ∃ t, execServiceInputReturn true n s = .next t ∧ t.mot = { s.mot with svcLost := false } ∧
      t.get Reg.MOT_SPN_SVC_IN_N = min 16383 n := by
  unfold execServiceInputReturn
  rw [if_pos rfl, if_neg (by simp [hlost])]
  refine ⟨_, rfl, put_mot.trans put_mot, (get_put_apart (by decide) (by decide)).trans ((get_put_same (by decide) (by decide)).trans ?_)⟩
  exact Nat.mod_eq_of_lt (Nat.lt_of_le_of_lt (Nat.min_le_left _ _) (by decide))

theorem srvCntClr_facts (harch : s.archived = true) :
    ∃ t, execSrvCntClr s = .next t ∧ t.get Reg.SRV_JUMPS = 0 ∧ t.get Reg.SRV_JUMP_FAILS = 0 ∧ t.get Reg.SRV_SAT_FAULTS = 0 ∧
      t.get Reg.SRV_LOOP_FAULTS = 0 := by
  unfold execSrvCntClr
  rw [if_neg (by simp [harch])]
  refine ⟨_, rfl, ?_, ?_, ?_, get_put_same (by decide) (by decide)⟩
  · refine (get_put_apart (by decide) (by decide)).trans ((get_put_apart (by decide) (by decide)).trans ?_)
    exact (get_put_apart (by decide) (by decide)).trans (get_put_same (by decide) (by decide))
  · exact (get_put_apart (by decide) (by decide)).trans ((get_put_apart (by decide) (by decide)).trans
      (get_put_same (by decide) (by decide)))
  · exact (get_put_apart (by decide) (by decide)).trans (get_put_same (by decide) (by decide))

end Service

/-- Settles O42: coils, banks, the governor and the service inputs. -/
theorem coilsAndGovernor : Obligations.CoilsAndGovernor := by
  unfold Obligations.CoilsAndGovernor
  refine ⟨?_, ?_, ?_, ?_, ?_, ?_, ?_, ?_, ?_, ?_, ?_, ?_, ?_, ?_, ?_, ?_, ?_⟩
  case _ =>
    intro l pos s hon
    obtain ⟨t, hnext, hlater, hnow⟩ := coilReversal_facts (pos := pos) hon
    exact ⟨t, hnext, hlater, hnow, keeps_of_next mv_execCoilReversal hnext (by decide +kernel)⟩
  case _ =>
    intro l pos s hdef hon
    obtain ⟨t, hnext, hbridge⟩ := coilDwellExpiry_reverses hdef hon
    exact ⟨t, hnext, hbridge, keeps_of_next mv_execCoilDwellExpiry hnext (by decide +kernel)⟩
  case _ =>
    intro l s hdef
    have hnext := coilDwellExpiry_ends hdef
    exact ⟨_, hnext, rfl, rfl, keeps_of_next mv_execCoilDwellExpiry hnext (by decide +kernel)⟩
  case _ =>
    intro l v s harch hoff
    have hnext := coilCfgWrite_off (v := v) harch hoff
    exact ⟨_, hnext, rfl, keeps_of_next mv_execCoilCfgWrite hnext (by decide +kernel)⟩
  case _ =>
    intro l v s harch hon hother
    have hnext := coilCfgWrite_refused harch hon hother
    exact ⟨_, hnext, event_flag (by decide) (by decide), event_get (by decide) l.isLt (by decide) (by decide),
      keeps_of_next mv_execCoilCfgWrite hnext (by decide +kernel)⟩
  case _ =>
    intro n s harch
    have hnext : execFfBankSwap n s = .next { s with srv := { s.srv with swap := s.srv.swap.set n.val true } } :=
      if_neg (by simp [harch])
    exact ⟨_, hnext, rfl, keeps_of_next mv_execFfBankSwap hnext (by decide +kernel)⟩
  case _ =>
    intro n s hswap
    obtain ⟨t, hnext, hactive, hbank, hdone⟩ := ffSwapApply_swaps hswap
    exact ⟨t, hnext, hactive, hbank, hdone, keeps_of_next mv_execFfSwapApply hnext (by decide +kernel)⟩
  case _ =>
    intro vbus ibus s harch hlow
    obtain ⟨t, hnext, hg, htarget⟩ := governorUpdate_drops harch hlow
    exact ⟨t, hnext, hg, htarget, keeps_of_next mv_execGovernorUpdate hnext (by decide +kernel)⟩
  case _ =>
    intro s hlow
    obtain ⟨t, hnext, hg⟩ := governorRise_rises hlow
    exact ⟨t, hnext, hg, keeps_of_next mv_execGovernorRise hnext (by decide +kernel)⟩
  case _ =>
    intro ibus v s harch
    obtain ⟨t, hnext, hcur, hcur', htemp, htemp'⟩ := governorThresholdWrite_facts (ibus := ibus) (v := v) harch
    exact ⟨t, hnext, hcur, hcur', htemp, htemp', keeps_of_next mv_execGovernorThresholdWrite hnext (by decide +kernel)⟩
  case _ =>
    intro v s harch hmode
    obtain ⟨t, hnext, hregs, hlive⟩ := serviceModeEnable_facts (v := v) harch hmode
    exact ⟨t, hnext, hregs, hlive, keeps_of_next mv_execServiceModeEnable hnext (by decide +kernel)⟩
  case _ =>
    intro s hen hlive hsrc
    obtain ⟨t, hnext, hsrv, hev⟩ := serviceInputLost_servo hen hlive hsrc
    exact ⟨t, hnext, hsrv, hev, keeps_of_next mv_execServiceInputLost hnext (by decide +kernel)⟩
  case _ =>
    intro s hstate hlive hsrc
    obtain ⟨t, hnext, hmot, hev⟩ := serviceInputLost_spindle hstate hlive hsrc
    exact ⟨t, hnext, hmot, hev, keeps_of_next mv_execServiceInputLost hnext (by decide +kernel)⟩
  case _ =>
    intro n s hlost
    obtain ⟨t, hnext, hsrv, hin⟩ := serviceInputReturn_servo (n := n) hlost
    exact ⟨t, hnext, hsrv, hin, keeps_of_next mv_execServiceInputReturn hnext (by decide +kernel)⟩
  case _ =>
    intro n s hlost
    obtain ⟨t, hnext, hmot, hin⟩ := serviceInputReturn_spindle (n := n) hlost
    exact ⟨t, hnext, hmot, hin, keeps_of_next mv_execServiceInputReturn hnext (by decide +kernel)⟩
  case _ =>
    intro s harch
    have hnext : execSrvDisable s = .next (s.srvEnable false) := if_pos harch
    exact ⟨_, hnext, rfl, keeps_of_next mv_execSrvDisable hnext (by decide +kernel)⟩
  case _ =>
    intro s harch
    obtain ⟨t, hnext, hjumps, hfails, hsat, hloop⟩ := srvCntClr_facts harch
    exact ⟨t, hnext, hjumps, hfails, hsat, hloop, keeps_of_next mv_execSrvCntClr hnext (by decide +kernel)⟩

end Sys2Proof.Proofs
end

section
/-!
The spindle: start, lock, zone change, brake, service, limits and the PWM period (15 R378 to R389).
-/
set_option Elab.async false

namespace Sys2Proof.Proofs
open Sys2Proof Sys2Proof.Machine Sys2Proof.Laws

section States
variable {s : State}

theorem sstate_event {f : Fld} {i : Nat} (h : apart f Reg.MOT_SPN_STATUS_SSTATE = true) : (s.event f i).sstate = s.sstate :=
  event_get h (by decide) (by decide) (by decide)

/-- The spindle in SPINUP for a zone. -/
theorem spinUp_facts {z : Nat} : (s.spinUp z).sstate = 1 ∧ (s.spinUp z).get Reg.MOT_SPN_TARGET_TARGET = zoneSpeed z % 65536 ∧
    (s.spinUp z).mot.zone = z ∧ (s.spinUp z).pwr.spindleOn = true := by
  have hregs : ∀ f : Fld, (s.spinUp z).get f =
      ((s.put Reg.MOT_SPN_STATUS_SSTATE 1).put Reg.MOT_SPN_TARGET_TARGET (zoneSpeed z)).get f := fun _ => rfl
  refine ⟨?_, (hregs _).trans (get_put_same (by decide) (by decide)), rfl, rfl⟩
  exact (hregs _).trans ((get_put_apart (by decide) (by decide)).trans (get_put_same (by decide) (by decide)))

/-- A start from STOPPED is left to the interlock. -/
theorem spindleStart_stopped {z : Nat} (hrun : s.get Reg.MOT_STATUS_STATE = 2) (hmc3 : s.mc3Runs = true) (hv : s.pwr.vdrvLow = false)
    (hdriven : s.driven = true) (hheld : s.mot.held ≠ []) (hstop : s.sstate = 0) :
    s.spindleStart z = if s.spinAllowed then s.spinUp z else s.event Reg.MOT_STATUS_INTERLOCK_EV := by
  unfold State.spindleStart
  rw [if_neg (by simp [hrun, hmc3, hv, hdriven, hheld]), if_neg (by simp [hstop]), if_neg (by simp [hstop])]
  cases s.spinAllowed <;> rfl

theorem spindleFreqLock_locks (hspin : s.sstate = 1) : ∃ t, execSpindleFreqLock s = .next t ∧ t.sstate = 2 := by
  have hput : (s.put Reg.MOT_SPN_STATUS_SSTATE 2).sstate = 2 := get_put_same (by decide) (by decide)
  unfold execSpindleFreqLock
  rw [if_neg (by simp [hspin])]
  dsimp only
  split
  · exact ⟨_, rfl, hput⟩
  · refine ⟨_, rfl, (get_setFlag_apart (by decide) (by decide)).trans ?_⟩
    exact (get_put_apart (by decide) (by decide)).trans ((get_put_apart (by decide) (by decide)).trans hput)

theorem spindlePhaseAcquire_acquires (hlock : s.sstate = 2) (hclk : s.get Reg.OCH_ZONE_CLK_NUM = 31 + s.mot.zone)
    (hpilot : 0 < s.och.pilotGood) :
    ∃ t, execSpindlePhaseAcquire s = .next t ∧ t.sstate = 3 ∧ t.mot = { s.mot with phaseGood := 0, phaseBad := 0 } := by
  unfold execSpindlePhaseAcquire
  rw [if_pos (by simp [hlock, hclk, hpilot])]
  exact ⟨_, rfl, get_put_same (by decide) (by decide), put_mot⟩

theorem spindlePhaseLock_locks (hacq : s.sstate = 3) (hgood : 480 ≤ s.mot.phaseGood) :
    ∃ t, execSpindlePhaseLock s = .next t ∧ t.sstate = 4 := by
  unfold execSpindlePhaseLock
  rw [if_pos (by simp [hacq, hgood])]
  exact ⟨_, rfl, get_put_same (by decide) (by decide)⟩

theorem spindlePhaseLoss_facts (hlock : s.sstate = 4) (hbad : 8 ≤ s.mot.phaseBad) :
    ∃ t, execSpindlePhaseLoss s = .next t ∧ t.sstate = 2 ∧
      t.get Reg.MOT_PHASE_LOSS = min (s.get Reg.MOT_PHASE_LOSS + 1) (2 ^ 32 - 1) ∧ t.flag Reg.MOT_STATUS_PHASE_LOSS_EV = true := by
  unfold execSpindlePhaseLoss
  rw [if_pos (by simp [hlock, hbad])]
  refine ⟨_, rfl, ?_, ?_, event_flag (by decide) (by decide)⟩
  · exact (sstate_event (by decide)).trans ((get_inc_apart (by decide) (by decide)).trans (get_put_same (by decide) (by decide)))
  · refine (event_get (by decide) (by decide) (by decide) (by decide)).trans ((get_inc_same (by decide) (by decide)).trans ?_)
    rw [get_put_apart (by decide) (by decide)]
    rfl

theorem spindleZoneChange_spins {zone : Fin 32} (hlow : 1 ≤ s.sstate) (hhigh : s.sstate ≤ 4) (hwrite : s.och.writing = [])
    (hread : s.och.reading = none) (hmc3 : s.mc3Runs = true) (hheld : s.mot.held ≠ []) :
    execSpindleZoneChange zone s = .next (s.spinUp zone.val) :=
  if_pos (by simp [hlow, hhigh, hwrite, hread, hmc3, hheld])

theorem spindleBrake_brakes (hon : s.sstate ≠ 0) (hregen : s.sstate ≠ 5) (hshort : s.sstate ≠ 6) :
    s.spindleBrake.sstate = 5 ∧ s.spindleBrake.get Reg.MOT_SPN_TARGET_TARGET = 0 := by
  have hgo : ¬ ((decide (s.get Reg.MOT_SPN_STATUS_SSTATE = 0) || decide (s.get Reg.MOT_SPN_STATUS_SSTATE = 5) ||
      decide (s.get Reg.MOT_SPN_STATUS_SSTATE = 6)) = true) := by
    simp only [State.sstate] at hon hregen hshort
    simp [hon, hregen, hshort]
  unfold State.spindleBrake
  dsimp only
  rw [if_neg hgo]
  exact ⟨(get_put_apart (by decide) (by decide)).trans (get_put_same (by decide) (by decide)), get_put_same (by decide) (by decide)⟩

theorem spindleBrakeShort_shorts {speed : Nat} (hregen : s.sstate = 5) (hslow : speed < 10 * s.get Reg.MOT_SPN_BRAKE_SHORT_RPM)
    (hfit : speed < 65536) :
    ∃ t, execSpindleBrakeShort speed s = .next t ∧ t.sstate = 6 ∧ t.get Reg.MOT_SPN_STATUS_SPEED = speed := by
  unfold execSpindleBrakeShort
  rw [if_pos (by simp [hregen, hslow])]
  refine ⟨_, rfl, get_put_same (by decide) (by decide), ?_⟩
  exact (get_put_apart (by decide) (by decide)).trans ((get_put_same (by decide) (by decide)).trans (Nat.mod_eq_of_lt hfit))

/-- A spindle whose bridge is off and whose shaft stands. -/
def spindleStill (s : State) : State := { s.spindleOff with mot := { s.spindleOff.mot with hall := false } }

theorem spindleStill_facts : (spindleStill s).sstate = 0 ∧ (spindleStill s).pwr.spindleOn = false ∧ (spindleStill s).mot.hall = false := by
  have hregs : (spindleStill s).regs = (s.put Reg.MOT_SPN_STATUS_SSTATE 0).regs := rfl
  exact ⟨(get_regs hregs).trans (get_put_same (by decide) (by decide)), rfl, rfl⟩

theorem spindleStopped_facts (hshort : s.sstate = 6) :
    ∃ t, execSpindleStopped s = .next t ∧ t.sstate = 0 ∧ t.get Reg.MOT_SPN_STATUS_SPEED = 0 ∧ t.pwr.spindleOn = false ∧
      t.mot.hall = false := by
  have hnext : execSpindleStopped s = .next ((spindleStill s).put Reg.MOT_SPN_STATUS_SPEED 0) := by
    unfold execSpindleStopped spindleStill
    rw [if_pos hshort]
  obtain ⟨hstop, hoff, hhall⟩ := spindleStill_facts (s := s)
  refine ⟨_, hnext, (get_put_apart (by decide) (by decide)).trans hstop, get_put_same (by decide) (by decide), ?_, ?_⟩
  · rw [put_pwr, hoff]
  · rw [put_mot, hhall]

end States

section Service
variable {s : State} {q : Requester} {v : Word}

/-- The spindle's bridge is on and no lost service input is remembered. -/
def serviceBridge (u : State) : State :=
  let s1 := u.bridgesOn 0 3
  { s1 with pwr := { s1.pwr with spindleOn := true }, mot := { s1.mot with hall := true, svcLost := false, mcZone := none } }

theorem serviceBridge_facts {u : State} : (serviceBridge u).regs = u.regs ∧ (serviceBridge u).pwr.spindleOn = true ∧
    (serviceBridge u).mot.svcLost = false := ⟨rfl, rfl, rfl⟩

/-- Service mode in control of the spindle. -/
def inService (s : State) (v : Word) : State := serviceBridge ((s.write Reg.MOT_SPN_SVC_EN.base v).put Reg.MOT_SPN_STATUS_SSTATE 7)

theorem inService_facts : (inService s v).sstate = 7 ∧ (inService s v).pwr.spindleOn = true ∧ (inService s v).mot.svcLost = false :=
  ⟨(get_regs serviceBridge_facts.1).trans (get_put_same (by decide) (by decide)), serviceBridge_facts.2⟩

theorem spindleServiceEnable_starts (hopen : s.barShut q = false) (harch : s.archived = true) (hon : bitsOf v 31 31 = 1)
    (hwas : s.flag Reg.MOT_SPN_SVC_EN = false) (hheld : s.mot.held = []) (hstop : s.sstate = 0) (hdriven : s.driven = true)
    (hrun : s.get Reg.MOT_STATUS_STATE = 2) (hallow : s.spinAllowed = true) :
    execSpindleServiceEnable q v s = .next (inService s v) := by
  unfold execSpindleServiceEnable
  rw [if_neg (by simp [hopen]), if_neg (by simp [harch])]
  dsimp only
  rw [hon, hwas, if_neg (by decide), if_neg (by simp [hheld]), if_pos (by decide), if_neg (by simp [hstop, hdriven, hrun]),
    if_neg (by simp [hallow]), inService, serviceBridge]

theorem spindleServiceEnable_refused (hopen : s.barShut q = false) (harch : s.archived = true) (hon : bitsOf v 31 31 = 1)
    (hwas : s.flag Reg.MOT_SPN_SVC_EN = false) (hheld : s.mot.held ≠ []) :
    ∃ t, execSpindleServiceEnable q v s = .next t ∧ t.flag Reg.MOT_STATUS_CFG_REJ = true ∧ t.sstate = s.sstate := by
  unfold execSpindleServiceEnable
  rw [if_neg (by simp [hopen]), if_neg (by simp [harch])]
  dsimp only
  rw [hon, hwas, if_neg (by decide), if_pos (by simp [hheld])]
  refine ⟨_, rfl, event_flag (by decide) (by decide), (sstate_event (by decide)).trans ?_⟩
  unfold State.sstate State.get
  rw [State.writeExcept, rd_wr_ne (by decide)]

end Service

section Limits
variable {s : State}

theorem currentPredictionLimit_facts (hlong : s.get Reg.MOT_SPN_SAMPLE_PRED_MAX ≤ s.mot.predicted) :
    ∃ t, execCurrentPredictionLimit s = .next t ∧ t.mot = { s.mot with predicted := 0, scale := true } ∧
      t.flag Reg.MOT_STATUS_PREDICT_EV = true := by
  unfold execCurrentPredictionLimit
  rw [if_neg (Nat.not_lt.mpr hlong)]
  exact ⟨_, rfl, event_mot, event_flag (by decide) (by decide)⟩

theorem kineticEnergyUpdate_facts {speed : Nat} (harch : s.part.archive = true) (hfit : speed < 65536) :
    ∃ t, execKineticEnergyUpdate speed s = .next t ∧ t.get Reg.MOT_SPN_STATUS_SPEED = speed ∧
      t.get Reg.MOT_SPN_KE_KE = s.kinetic speed := by
  have hspeed : (s.put Reg.MOT_SPN_STATUS_SPEED speed).get Reg.MOT_SPN_STATUS_SPEED = speed :=
    (get_put_same (by decide) (by decide)).trans (Nat.mod_eq_of_lt hfit)
  have hkinetic : (s.put Reg.MOT_SPN_STATUS_SPEED speed).kinetic speed = s.kinetic speed := by
    unfold State.kinetic
    rw [get_put_apart (by decide) (by decide)]
  have hmax : s.kinetic speed < 65536 := Nat.lt_of_le_of_lt (Nat.min_le_left _ _) (by decide)
  unfold execKineticEnergyUpdate
  rw [if_neg (by simp [harch])]
  dsimp only
  rw [hspeed, hkinetic]
  refine ⟨_, rfl, ?_, ?_⟩
  · exact (get_of_moves mv_budget (by decide +kernel) (by decide)).trans ((get_put_apart (by decide) (by decide)).trans hspeed)
  · exact (get_of_moves mv_budget (by decide +kernel) (by decide)).trans
      ((get_put_same (by decide) (by decide)).trans (Nat.mod_eq_of_lt hmax))

end Limits

/-! ### A PWM period

The pulses, the sampling and the axes leave the count of periods, the scaling request and the current reference alone. -/

section Period
variable {s : State}

/-- The count of periods, the scaling request and the iq reference. -/
def pacing (m : MotSt) : Nat × Bool × Int := (m.periods, m.scale, m.iqRef)

theorem foldl_keeps {α β γ : Type} {f : β → α → β} {g : β → γ} (h : ∀ u x, g (f u x) = g u) {l : List α} {u : β} :
    g (l.foldl f u) = g u := by
  induction l generalizing u with
  | nil => rfl
  | cons x l ih => exact ih.trans (h u x)

theorem pulses_pacing {treq : List (Nat × Int)} : pacing (s.pulses treq).mot = pacing s.mot := by
  refine foldl_keeps (g := fun u : State => pacing u.mot) fun u e => ?_
  dsimp only
  split
  · rfl
  · refine ite_both (P := fun t => pacing (State.mot t) = pacing u.mot) ?_ rfl
    rw [State.inc, State.add, put_mot]
    rfl

theorem sampleSpindle_pacing : pacing s.sampleSpindle.mot = pacing s.mot := by
  unfold State.sampleSpindle
  split
  · rfl
  · split
    · rfl
    · rw [State.inc, State.add, put_mot]
      rfl
    · rw [State.inc, State.add, put_mot]
      rfl

theorem weaken_pacing {vmag : Nat} : pacing (s.weaken vmag).mot = pacing s.mot := rfl

theorem axisAt_pacing {e : Nat × Int × Nat} : pacing (s.axisAt e).mot = pacing s.mot := by
  unfold State.axisAt
  dsimp only
  refine ite_both (P := fun t => pacing (State.mot t) = pacing s.mot) rfl ?_
  refine ite_both (P := fun t => pacing (State.mot t) = pacing s.mot) ?_ ?_
  · simp only [State.setAxis, pacing, State.putInt, put_mot]
  · simp only [State.putInt, put_mot]

theorem regulate_pacing {rotor : BitVec 32} : pacing (s.regulate rotor).mot = pacing s.mot := by
  refine foldl_keeps (g := fun u : State => pacing u.mot) ?_
  intro u a
  rfl

theorem regenLimit_pacing : pacing s.regenLimit.mot = pacing s.mot := by
  have hcount : ∀ c : Prop, [Decidable c] → pacing (if c then s.inc Reg.MOT_REGEN_LIMITS else s).mot = pacing s.mot := by
    intro c _
    refine ite_both (P := fun t => pacing (State.mot t) = pacing s.mot) ?_ rfl
    rw [State.inc, State.add, put_mot]
  exact hcount _

/-- The spindle after its pulses, with the currents sampled and the field weakened. -/
def sensed (s : State) (treq : List (Nat × Int)) (i : PwmInput) : State :=
  let t := (i.peaks.foldl State.range (s.pulses treq).sampleSpindle).showRange
  if t.pwr.spindleOn then t.weaken i.vmag else t

theorem sensed_facts {treq : List (Nat × Int)} {i : PwmInput} :
    pacing (sensed s treq i).mot = pacing s.mot ∧ (sensed s treq i).pwr = s.pwr := by
  have hrange : pacing (i.peaks.foldl State.range (s.pulses treq).sampleSpindle).showRange.mot = pacing s.mot := by
    rw [mv_showRange.mot (by decide +kernel)]
    refine Eq.trans (foldl_keeps (g := fun u : State => pacing u.mot) ?_) (sampleSpindle_pacing.trans pulses_pacing)
    intro u e
    rfl
  have hpwr : (i.peaks.foldl State.range (s.pulses treq).sampleSpindle).showRange.pwr = s.pwr := by
    rw [mv_showRange.pwr (by decide +kernel), foldl_keeps (g := State.pwr) fun _ _ => mv_range.pwr (by decide +kernel),
      mv_sampleSpindle.pwr (by decide +kernel), mv_pulses.pwr (by decide +kernel)]
  exact ⟨ite_both (P := fun t => pacing (State.mot t) = pacing s.mot) hrange hrange,
    ite_both (P := fun t => State.pwr t = s.pwr) hpwr hpwr⟩

/-- The current reference is set, for a spindle whose bridge is on. -/
def referred (s : State) (i : PwmInput) : State :=
  { s with mot := { s.mot with iqRef := if s.pwr.spindleOn then s.iqReference i.iq i.rotor else 0 } }

/-- The axes move and the limits are judged. -/
def settled (s : State) (i : PwmInput) : State :=
  (((i.axes.foldl State.axisAt s).regulate i.rotor).regenLimit).spindleRef i.ref

theorem settled_pacing {i : PwmInput} : pacing (settled s i).mot = pacing s.mot := by
  rw [settled, mv_spindleRef.mot (by decide +kernel), regenLimit_pacing, regulate_pacing]
  exact foldl_keeps (g := fun u : State => pacing u.mot) fun _ _ => axisAt_pacing

theorem speedReference_facts : s.speedReference.mot.periods = (s.mot.periods + 1) % 8 ∧ s.speedReference.mot.scale = s.mot.scale ∧
    s.speedReference.mot.iqRef = s.mot.iqRef := by
  unfold State.speedReference
  dsimp only
  split <;> exact ⟨rfl, rfl, rfl⟩

/-- The state whose request to scale is served. -/
def unscaled (s : State) : State := { s with mot := { s.mot with scale := false } }

theorem pwmPeriod_next {i : PwmInput} : execPwmPeriod i s = .next (settled (referred (sensed (unscaled s)
    (if s.mot.scale then scaleDown (s.get Reg.MOT_PWM_PERIOD) (s.get Reg.MOT_SPN_SAMPLE_SAMPLE_MIN) i.treq else i.treq) i) i)
    i).speedReference := rfl

theorem pwmPeriod_facts {i : PwmInput} :
    ∃ t, execPwmPeriod i s = .next t ∧ t.mot.periods = (s.mot.periods + 1) % 8 ∧ t.mot.scale = false ∧
      (s.pwr.spindleOn = false → t.mot.iqRef = 0) := by
  refine ⟨_, pwmPeriod_next, ?_⟩
  generalize hreq : (if s.mot.scale then scaleDown (s.get Reg.MOT_PWM_PERIOD) (s.get Reg.MOT_SPN_SAMPLE_SAMPLE_MIN) i.treq
    else i.treq) = treq
  obtain ⟨hpace, hpwr⟩ := sensed_facts (s := unscaled s) (treq := treq) (i := i)
  generalize sensed (unscaled s) treq i = u at hpace hpwr ⊢
  obtain ⟨hperiods, hscale, hiq⟩ := speedReference_facts (s := settled (referred u i) i)
  have hset : pacing (settled (referred u i) i).mot =
      (u.mot.periods, u.mot.scale, if u.pwr.spindleOn then u.iqReference i.iq i.rotor else 0) := settled_pacing
  simp only [pacing, Prod.mk.injEq] at hpace hset
  refine ⟨?_, ?_, fun hoff => ?_⟩
  · rw [hperiods, hset.1, hpace.1]
    rfl
  · rw [hscale, hset.2.1, hpace.2.1]
    rfl
  · have hstill : u.pwr.spindleOn = false := by rw [hpwr]; exact hoff
    rw [hiq, hset.2.2, hstill]
    rfl

end Period

/-- Settles O43: the spindle's states, limits and periods. -/
theorem spindle : Obligations.Spindle := by
  unfold Obligations.Spindle
  refine ⟨?_, ?_, ?_, ?_, ?_, ?_, ?_, ?_, ?_, ?_, ?_, ?_, ?_, ?_, ?_⟩
  case _ =>
    intro zone s hrun hmc3 hv hdriven hheld hstop hallow
    have hnext : execSpindleStart zone s = .next (s.spinUp zone.val) := by
      rw [execSpindleStart, spindleStart_stopped hrun hmc3 hv hdriven hheld hstop, if_pos hallow]
    obtain ⟨hstate, htarget, hzone, hon⟩ := spinUp_facts (s := s) (z := zone.val)
    exact ⟨_, hnext, hstate, htarget, hzone, hon, keeps_of_next mv_execSpindleStart hnext (by decide +kernel)⟩
  case _ =>
    intro zone s hrun hmc3 hv hdriven hheld hstop hallow
    have hnext : execSpindleStart zone s = .next (s.event Reg.MOT_STATUS_INTERLOCK_EV) := by
      rw [execSpindleStart, spindleStart_stopped hrun hmc3 hv hdriven hheld hstop, if_neg (by simp [hallow])]
    exact ⟨_, hnext, event_flag (by decide) (by decide), (sstate_event (by decide)).trans hstop, event_mot,
      keeps_of_next mv_execSpindleStart hnext (by decide +kernel)⟩
  case _ =>
    intro s hspin
    obtain ⟨t, hnext, hlock⟩ := spindleFreqLock_locks hspin
    exact ⟨t, hnext, hlock, keeps_of_next mv_execSpindleFreqLock hnext (by decide +kernel)⟩
  case _ =>
    intro s hlock hclk hpilot
    obtain ⟨t, hnext, hacq, hmot⟩ := spindlePhaseAcquire_acquires hlock hclk hpilot
    exact ⟨t, hnext, hacq, hmot, keeps_of_next mv_execSpindlePhaseAcquire hnext (by decide +kernel)⟩
  case _ =>
    intro s hacq hgood
    obtain ⟨t, hnext, hlock⟩ := spindlePhaseLock_locks hacq hgood
    exact ⟨t, hnext, hlock, keeps_of_next mv_execSpindlePhaseLock hnext (by decide +kernel)⟩
  case _ =>
    intro s hlock hbad
    obtain ⟨t, hnext, hstate, hcount, hev⟩ := spindlePhaseLoss_facts hlock hbad
    exact ⟨t, hnext, hstate, hcount, hev, keeps_of_next mv_execSpindlePhaseLoss hnext (by decide +kernel)⟩
  case _ =>
    intro zone s hlow hhigh hwrite hread hmc3 hheld
    have hnext := spindleZoneChange_spins (zone := zone) hlow hhigh hwrite hread hmc3 hheld
    obtain ⟨hstate, htarget, hzone, -⟩ := spinUp_facts (s := s) (z := zone.val)
    exact ⟨_, hnext, hstate, htarget, hzone, keeps_of_next mv_execSpindleZoneChange hnext (by decide +kernel)⟩
  case _ =>
    intro s hon hregen hshort
    have hnext : execSpindleBrakeRegen s = .next s.spindleBrake := rfl
    obtain ⟨hstate, htarget⟩ := spindleBrake_brakes hon hregen hshort
    exact ⟨_, hnext, hstate, htarget, keeps_of_next mv_execSpindleBrakeRegen hnext (by decide +kernel)⟩
  case _ =>
    intro speed s hregen hslow hfit
    obtain ⟨t, hnext, hstate, hspeed⟩ := spindleBrakeShort_shorts hregen hslow hfit
    exact ⟨t, hnext, hstate, hspeed, keeps_of_next mv_execSpindleBrakeShort hnext (by decide +kernel)⟩
  case _ =>
    intro s hshort
    obtain ⟨t, hnext, hstate, hspeed, hoff, hhall⟩ := spindleStopped_facts hshort
    exact ⟨t, hnext, hstate, hspeed, hoff, hhall, keeps_of_next mv_execSpindleStopped hnext (by decide +kernel)⟩
  case _ =>
    intro q v s hopen harch hon hwas hheld hstop hdriven hrun hallow
    have hnext := spindleServiceEnable_starts hopen harch hon hwas hheld hstop hdriven hrun hallow
    obtain ⟨hstate, hdrive, hlive⟩ := inService_facts (s := s) (v := v)
    exact ⟨_, hnext, hstate, hdrive, hlive, keeps_of_next mv_execSpindleServiceEnable hnext (by decide +kernel)⟩
  case _ =>
    intro q v s hopen harch hon hwas hheld
    obtain ⟨t, hnext, hrej, hstate⟩ := spindleServiceEnable_refused hopen harch hon hwas hheld
    exact ⟨t, hnext, hrej, hstate, keeps_of_next mv_execSpindleServiceEnable hnext (by decide +kernel)⟩
  case _ =>
    intro s hlong
    obtain ⟨t, hnext, hmot, hev⟩ := currentPredictionLimit_facts hlong
    exact ⟨t, hnext, hmot, hev, keeps_of_next mv_execCurrentPredictionLimit hnext (by decide +kernel)⟩
  case _ =>
    intro speed s harch hfit
    obtain ⟨t, hnext, hspeed, hke⟩ := kineticEnergyUpdate_facts harch hfit
    exact ⟨t, hnext, hspeed, hke, keeps_of_next mv_execKineticEnergyUpdate hnext (by decide +kernel)⟩
  case _ =>
    intro i s
    obtain ⟨t, hnext, hperiods, hscale, hiq⟩ := pwmPeriod_facts (i := i) (s := s)
    exact ⟨t, hnext, hperiods, hscale, hiq, keeps_of_next mv_execPwmPeriod hnext (by decide +kernel)⟩

end Sys2Proof.Proofs
end

section
/-!
Stepper axes: commands, ends of moves, homing (15 R390 to R397).
-/
set_option Elab.async false

namespace Sys2Proof.Proofs
open Sys2Proof Sys2Proof.Machine Sys2Proof.Laws

theorem getInt_bounds {s : State} {f : Fld} {i : Nat} (hw : 0 < f.width) :
    -2 ^ (f.width - 1) ≤ s.getInt f i ∧ s.getInt f i < 2 ^ (f.width - 1) := by
  have hhalf := two_pow_width hw
  have hcast := natCast_two_pow (f.width - 1)
  have hlt : (s.get f i : Int) < 2 ^ f.width := natCast_two_pow f.width ▸ Int.ofNat_lt.2 (get_lt (s := s) (g := f) (j := i))
  unfold State.getInt
  dsimp only
  split <;> omega

theorem getInt_zero {s : State} {f : Fld} {i : Nat} (h : s.get f i = 0) : s.getInt f i = 0 := by
  unfold State.getInt
  dsimp only
  rw [h, if_pos (Nat.two_pow_pos _)]
  rfl

section Moves
variable {s : State} {a : AxisIx}

/-- The registers of an axis that starts a move. -/
def moving (s : State) (a kind : Nat) : State :=
  (((s.put Reg.MOT_AXIS_STATUS_KIND kind a).put Reg.MOT_AXIS_STATUS_ASTATE 2 a).setFlag Reg.MOT_AXIS_STATUS_MOVING true a).put
    Reg.MOT_AXIS_REMAIN_REMAIN 0 a

theorem startMove_regs {n kind : Nat} {target v : Int} : ∃ x, (s.startMove n kind target v).regs = (moving (s.setAxis n x) n kind).regs :=
  ⟨_, rfl⟩

theorem moving_facts {kind : Nat} (hkind : kind < 4) : (moving s a.val kind).get Reg.MOT_AXIS_STATUS_KIND a.val = kind ∧
    (moving s a.val kind).flag Reg.MOT_AXIS_STATUS_MOVING a.val = true ∧
    (moving s a.val kind).get Reg.MOT_AXIS_STATUS_ASTATE a.val = 2 ∧
    (moving s a.val kind).getInt Reg.MOT_AXIS_REMAIN_REMAIN a.val = 0 := by
  refine ⟨?_, ?_, ?_, getInt_zero (get_put_same (by decide) a.isLt)⟩
  · refine (get_put_apart (by decide) a.isLt).trans ((get_setFlag_apart (by decide) a.isLt).trans ?_)
    exact (get_put_apart (by decide) a.isLt).trans ((get_put_same (by decide) a.isLt).trans (Nat.mod_eq_of_lt hkind))
  · exact (flag_put_apart (by decide) a.isLt).trans (flag_setFlag_same (by decide) (by decide) a.isLt)
  · refine (get_put_apart (by decide) a.isLt).trans ((get_setFlag_apart (by decide) a.isLt).trans ?_)
    exact get_put_same (by decide) a.isLt

/-- What a started move shows of its axis. -/
theorem startMove_facts {kind : Nat} {target v : Int} (hkind : kind < 4) :
    (s.startMove a.val kind target v).get Reg.MOT_AXIS_STATUS_KIND a.val = kind ∧
    (s.startMove a.val kind target v).flag Reg.MOT_AXIS_STATUS_MOVING a.val = true ∧
    (s.startMove a.val kind target v).get Reg.MOT_AXIS_STATUS_ASTATE a.val = 2 ∧
    (s.startMove a.val kind target v).getInt Reg.MOT_AXIS_REMAIN_REMAIN a.val = 0 := by
  obtain ⟨x, hregs⟩ := startMove_regs (s := s) (n := a.val) (kind := kind) (target := target) (v := v)
  obtain ⟨hk, hm, hs, hr⟩ := moving_facts (s := s.setAxis a.val x) (a := a) hkind
  exact ⟨(get_regs hregs).trans hk, (flag_regs hregs).trans hm, (get_regs hregs).trans hs, (getInt_of_get (get_regs hregs)).trans hr⟩

variable {q : Requester} {needsPos : Bool} {move : State → State}

/-- A move that requester, unit, supply and interlock allow is made. -/
theorem tryMove_moves (harch : s.archived = true) (hfree : s.axisHeld q = false) (hpos : needsPos = true → s.posValid a.val = true)
    (hrun : s.get Reg.MOT_STATUS_STATE = 2) (hsave : s.get Reg.PWR_HOLDUP_STATUS_STATE ≠ 2) (hv : s.pwr.vdrvLow = false)
    (hdriven : s.driven = true) (hallow : s.moveAllowed a.val = true) : s.tryMove q a.val needsPos move = move s := by
  have hknown : (needsPos && !s.posValid a.val) = false := by
    cases needsPos with
    | false => rfl
    | true => simp [hpos rfl]
  unfold State.tryMove
  rw [if_neg (by simp [harch]), if_neg (by simp [hfree, hknown]), if_neg (by simp [hrun, hsave, hv, hdriven]), if_neg (by simp [hallow])]

theorem tryMove_interlocked (harch : s.archived = true) (hfree : s.axisHeld q = false) (hpos : s.posValid a.val = true)
    (hrun : s.get Reg.MOT_STATUS_STATE = 2) (hsave : s.get Reg.PWR_HOLDUP_STATUS_STATE ≠ 2) (hv : s.pwr.vdrvLow = false)
    (hdriven : s.driven = true) (hagainst : s.moveAllowed a.val = false) :
    s.tryMove q a.val needsPos move = s.event Reg.MOT_STATUS_INTERLOCK_EV := by
  unfold State.tryMove
  rw [if_neg (by simp [harch]), if_neg (by simp [hfree, hpos]), if_neg (by simp [hrun, hsave, hv, hdriven]), if_pos (by simp [hagainst])]

theorem tryMove_unknown (harch : s.archived = true) (hpos : s.posValid a.val = false) : s.tryMove q a.val true move = s.motRej := by
  unfold State.tryMove
  rw [if_neg (by simp [harch]), if_pos (by simp [hpos])]

theorem motRej_facts : s.motRej.flag Reg.MOT_STATUS_CFG_REJ = true ∧ s.motRej.mot = s.mot :=
  ⟨event_flag (by decide) (by decide), event_mot⟩

theorem seek_tries (hopen : s.barShut q = false) : execSeek q a s = .next (s.tryMove q a.val true fun t =>
    t.startMove a.val 1 (t.getInt Reg.MOT_AXIS_TARGET_TARGET a.val) 0) := if_neg (by simp [hopen])

theorem axisStop_stops (hopen : s.barShut q = false) (harch : s.archived = true) (hfree : s.axisHeld q = false)
    (hmove : s.flag Reg.MOT_AXIS_STATUS_MOVING a.val = true) :
    ∃ t, execAxisStop q a s = .next t ∧ t.get Reg.MOT_AXIS_STATUS_ASTATE a.val = 3 := by
  unfold execAxisStop
  rw [if_neg (by simp [hopen]), if_neg (by simp [harch]), if_neg (by simp [hfree]), State.stopMove, if_pos hmove]
  exact ⟨_, rfl, get_put_same (by decide) a.isLt⟩

theorem axisResume_sweeps {target v : Int} (hopen : s.barShut q = false) (harch : s.archived = true) (hfree : s.axisHeld q = false)
    (hpos : s.posValid a.val = true) (hrun : s.get Reg.MOT_STATUS_STATE = 2) (hsave : s.get Reg.PWR_HOLDUP_STATUS_STATE ≠ 2)
    (hv : s.pwr.vdrvLow = false) (hdriven : s.driven = true) (hallow : s.moveAllowed a.val = true)
    (hkept : (s.axis a.val).resume = some (target, v)) (hrest : s.getInt Reg.MOT_AXIS_REMAIN_REMAIN a.val ≠ 0)
    (hstill : (s.axis a.val).moved = false) : execAxisResume q a s = .next (s.startMove a.val 2 target v) := by
  unfold execAxisResume
  rw [if_neg (by simp [hopen]), if_neg (by simp [harch])]
  dsimp only
  rw [hkept]
  dsimp only
  rw [if_neg (by simp [hrest, hstill]), tryMove_moves harch hfree (fun _ => hpos) hrun hsave hv hdriven hallow]

theorem axisResume_refused (hopen : s.barShut q = false) (harch : s.archived = true)
    (hnone : (s.axis a.val).resume = none ∨ s.getInt Reg.MOT_AXIS_REMAIN_REMAIN a.val = 0 ∨ (s.axis a.val).moved = true) :
    execAxisResume q a s = .next s.motRej := by
  unfold execAxisResume
  rw [if_neg (by simp [hopen]), if_neg (by simp [harch])]
  dsimp only
  split
  next p target v hkept =>
    refine if_pos ?_
    rcases hnone with h | h | h
    · rw [h] at hkept
      cases hkept
    · simp [h]
    · simp [h]
  next => rfl

theorem startHome_facts : (s.startHome a.val).get Reg.MOT_AXIS_STATUS_KIND a.val = 3 ∧
    (s.startHome a.val).flag Reg.MOT_AXIS_STATUS_MOVING a.val = true := by
  unfold State.startHome
  dsimp only
  obtain ⟨hkind, hmove, -, -⟩ := startMove_facts (s := s.setAxis a.val { s.axis a.val with
    homing := some (if (s.axis a.val).switchOn then .backOff else .approach), homeStart := s.axisPos a.val }) (a := a) (target := 0)
    (v := 0) (kind := 3) (by decide)
  exact ⟨hkind, hmove⟩

end Moves

section Ends
variable {s : State} {a : AxisIx} {pos : Int}

theorem standAt_facts : (s.standAt a.val pos).flag Reg.MOT_AXIS_STATUS_MOVING a.val = false ∧
    (s.standAt a.val pos).get Reg.MOT_AXIS_STATUS_ASTATE a.val = 1 ∧ (s.standAt a.val pos).get Reg.MOT_AXIS_STATUS_KIND a.val = 0 := by
  unfold State.standAt
  refine ⟨?_, ?_, ?_⟩
  · refine (flag_put_apart (by decide) a.isLt).trans ((flag_put_apart (by decide) a.isLt).trans ?_)
    exact flag_setFlag_same (by decide) (by decide) a.isLt
  · refine (get_put_apart (by decide) a.isLt).trans ((get_put_apart (by decide) a.isLt).trans ?_)
    exact (get_setFlag_apart (by decide) a.isLt).trans (get_put_same (by decide) a.isLt)
  · exact (get_put_apart (by decide) a.isLt).trans (get_put_same (by decide) a.isLt)

theorem axisMoveComplete_seek (hmove : s.flag Reg.MOT_AXIS_STATUS_MOVING a.val = true) (hkind : s.get Reg.MOT_AXIS_STATUS_KIND a.val = 1)
    (hgo : s.get Reg.MOT_AXIS_STATUS_ASTATE a.val ≠ 3) :
    execAxisMoveComplete a pos s = .next (s.standAt a.val (s.axis a.val).target) := by
  unfold execAxisMoveComplete
  dsimp only
  rw [if_neg (by simp [hmove]), hkind]
  exact congrArg (fun p => Host.Outcome.next (s.standAt a.val p)) (if_neg (by simp [hgo]))

/-- A sweep that stopped on the way keeps what remains. -/
theorem axisMoveComplete_sweep (hmove : s.flag Reg.MOT_AXIS_STATUS_MOVING a.val = true)
    (hkind : s.get Reg.MOT_AXIS_STATUS_KIND a.val = 2) (hstop : s.get Reg.MOT_AXIS_STATUS_ASTATE a.val = 3) :
    ∃ t, execAxisMoveComplete a pos s = .next t ∧
      (-2 ^ 31 ≤ (s.axis a.val).target - pos → (s.axis a.val).target - pos < 2 ^ 31 →
        t.getInt Reg.MOT_AXIS_REMAIN_REMAIN a.val = (s.axis a.val).target - pos) ∧
      t.flag Reg.MOT_AXIS_STATUS_MOVING a.val = false := by
  have hnext : execAxisMoveComplete a pos s = .next (((s.standAt a.val pos).putInt Reg.MOT_AXIS_REMAIN_REMAIN
      ((s.axis a.val).target - pos) a.val).setAxis a.val { s.axis a.val with
        moved := false, resume := some ((s.axis a.val).target, (s.axis a.val).sweepV), cmdV := 0 }) := by
    unfold execAxisMoveComplete
    dsimp only
    rw [if_neg (by simp [hmove]), hkind, hstop]
    rfl
  have hset : ∀ (u : State) (x : AxisSt), (u.setAxis a.val x).regs = u.regs := fun _ _ => rfl
  refine ⟨_, hnext, fun hlow hhigh => ?_, ?_⟩
  · exact (getInt_of_get (get_regs (hset _ _))).trans (getInt_putInt_same (by decide) a.isLt (by decide) hlow hhigh)
  · exact (flag_regs (hset _ _)).trans ((flag_put_apart (by decide) a.isLt).trans standAt_facts.1)

end Ends

section Homing
variable {s : State} {a : AxisIx}

/-- The asserting edge of the last approach sets the position. -/
theorem homeSwitchEdge_homes (hkind : s.get Reg.MOT_AXIS_STATUS_KIND a.val = 3) (hfinal : (s.axis a.val).homing = some .final) :
    ∃ t, execHomeSwitchEdge a true s = .next t ∧ t.flag Reg.MOT_AXIS_STATUS_POS_VALID a.val = true ∧
      t.getInt Reg.MOT_AXIS_POS_POS a.val = s.getInt Reg.MOT_AXIS_HOME_HOME_POS a.val ∧
      t.get Reg.MOT_AXIS_STATUS_ASTATE a.val = 3 := by
  obtain ⟨hlow, hhigh⟩ := getInt_bounds (s := s) (f := Reg.MOT_AXIS_HOME_HOME_POS) (i := a.val) (by decide)
  have hplace : ∀ u : State, (((u.putInt Reg.MOT_AXIS_POS_POS (s.getInt Reg.MOT_AXIS_HOME_HOME_POS a.val) a.val).setFlag
      Reg.MOT_AXIS_STATUS_POS_VALID true a.val).put Reg.MOT_AXIS_STATUS_ASTATE 3 a.val).getInt Reg.MOT_AXIS_POS_POS a.val =
      s.getInt Reg.MOT_AXIS_HOME_HOME_POS a.val := fun u =>
    (getInt_of_get ((get_put_apart (by decide) a.isLt).trans (get_setFlag_apart (by decide) a.isLt))).trans
      (getInt_putInt_same (by decide) a.isLt (by decide) hlow hhigh)
  unfold execHomeSwitchEdge
  dsimp only
  rw [if_neg (by simp [hkind]), hfinal]
  dsimp only
  exact ⟨_, rfl, (flag_put_apart (by decide) a.isLt).trans (flag_setFlag_same (by decide) (by decide) a.isLt), hplace _,
    get_put_same (by decide) a.isLt⟩

theorem exchangeFail_idle {n : Nat} (hnone : s.mot.exchange = none) : s.exchangeFail n = s := by
  unfold State.exchangeFail
  rw [hnone]

/-- An axis whose home search ends. -/
def homeLost (s : State) (a : Nat) : State :=
  (((s.put Reg.MOT_AXIS_STATUS_ASTATE 4 a).setFlag Reg.MOT_AXIS_STATUS_MOVING false a).put Reg.MOT_AXIS_STATUS_KIND 0 a).event
    Reg.MOT_STATUS_HOME_FAIL_EV

theorem homeLost_facts : (homeLost s a.val).get Reg.MOT_AXIS_STATUS_ASTATE a.val = 4 ∧
    (homeLost s a.val).flag Reg.MOT_STATUS_HOME_FAIL_EV = true ∧ (homeLost s a.val).flag Reg.MOT_AXIS_STATUS_MOVING a.val = false ∧
    (homeLost s a.val).mot = s.mot := by
  refine ⟨?_, event_flag (by decide) (by decide), ?_, ?_⟩
  · refine (event_get (by decide) a.isLt (by decide) (by decide)).trans ((get_put_apart (by decide) a.isLt).trans ?_)
    exact (get_setFlag_apart (by decide) a.isLt).trans (get_put_same (by decide) a.isLt)
  · refine (flag_event_apart (by decide) a.isLt (by decide) (by decide)).trans ((flag_put_apart (by decide) a.isLt).trans ?_)
    exact flag_setFlag_same (by decide) (by decide) a.isLt
  · rw [homeLost, event_mot, put_mot, State.setFlag, put_mot, put_mot]

theorem homeFail_fails {pos : Int} (hkind : s.get Reg.MOT_AXIS_STATUS_KIND a.val = 3) (hhoming : (s.axis a.val).homing ≠ none)
    (hfar : 256 * s.get Reg.MOT_AXIS_HOME_LIM_HOME_MAX a.val ≤ (pos - (s.axis a.val).homeStart).natAbs) (hnone : s.mot.exchange = none) :
    execHomeFail a s pos = .next (homeLost (s.setAxis a.val { s.axis a.val with homing := none }) a.val) := by
  unfold execHomeFail
  dsimp only
  rw [if_neg (by simp [hkind, hhoming, hfar])]
  exact congrArg Host.Outcome.next (exchangeFail_idle (s := homeLost _ a.val) (by rw [homeLost_facts.2.2.2]; exact hnone))

end Homing

/-- Settles O44: the commands of the stepper axes, the ends of their moves and homing. -/
theorem axes : Obligations.Axes := by
  unfold Obligations.Axes
  refine ⟨?_, ?_, ?_, ?_, ?_, ?_, ?_, ?_, ?_, ?_, ?_, ?_, ?_, ?_⟩
  case _ =>
    intro q a s hopen harch hfree hpos hrun hsave hv hdriven hallow
    have hnext : execSeek q a s = .next (s.startMove a.val 1 (s.getInt Reg.MOT_AXIS_TARGET_TARGET a.val) 0) := by
      rw [seek_tries hopen, tryMove_moves harch hfree (fun _ => hpos) hrun hsave hv hdriven hallow]
    obtain ⟨hkind, hmove, hstate, -⟩ := startMove_facts (s := s) (a := a) (kind := 1)
      (target := s.getInt Reg.MOT_AXIS_TARGET_TARGET a.val) (v := 0) (by decide)
    exact ⟨_, hnext, rfl, hkind, hmove, hstate, keeps_of_next mv_execSeek hnext (by decide +kernel)⟩
  case _ =>
    intro q a s hopen harch hfree hpos hrun hsave hv hdriven hagainst
    have hnext : execSeek q a s = .next (s.event Reg.MOT_STATUS_INTERLOCK_EV) := by
      rw [seek_tries hopen, tryMove_interlocked harch hfree hpos hrun hsave hv hdriven hagainst]
    exact ⟨_, hnext, event_flag (by decide) (by decide), event_mot, keeps_of_next mv_execSeek hnext (by decide +kernel)⟩
  case _ =>
    intro q a s hopen harch hpos
    have hnext : execSeek q a s = .next s.motRej := by rw [seek_tries hopen, tryMove_unknown harch hpos]
    exact ⟨_, hnext, motRej_facts.1, motRej_facts.2, keeps_of_next mv_execSeek hnext (by decide +kernel)⟩
  case _ =>
    intro q a s hopen harch hfree hpos hrun hsave hv hdriven hallow
    have hnext : execSweep q a s = .next (s.startMove a.val 2 (s.getInt Reg.MOT_AXIS_TARGET_TARGET a.val)
        (s.getInt Reg.MOT_AXIS_SWEEP_V_SWEEP_V a.val)) := by
      unfold execSweep
      rw [if_neg (by simp [hopen]), tryMove_moves harch hfree (fun _ => hpos) hrun hsave hv hdriven hallow]
    obtain ⟨hkind, hmove, -, -⟩ := startMove_facts (s := s) (a := a) (kind := 2)
      (target := s.getInt Reg.MOT_AXIS_TARGET_TARGET a.val) (v := s.getInt Reg.MOT_AXIS_SWEEP_V_SWEEP_V a.val) (by decide)
    exact ⟨_, hnext, rfl, hkind, hmove, keeps_of_next mv_execSweep hnext (by decide +kernel)⟩
  case _ =>
    intro q a s hopen harch hfree hmove
    obtain ⟨t, hnext, hstate⟩ := axisStop_stops hopen harch hfree hmove
    exact ⟨t, hnext, hstate, keeps_of_next mv_execAxisStop hnext (by decide +kernel)⟩
  case _ =>
    intro q a target v s hopen harch hfree hpos hrun hsave hv hdriven hallow hkept hrest hstill
    have hnext := axisResume_sweeps hopen harch hfree hpos hrun hsave hv hdriven hallow hkept hrest hstill
    obtain ⟨hkind, -, -, hremain⟩ := startMove_facts (s := s) (a := a) (kind := 2) (target := target) (v := v) (by decide)
    exact ⟨_, hnext, rfl, hkind, hremain, keeps_of_next mv_execAxisResume hnext (by decide +kernel)⟩
  case _ =>
    intro q a s hopen harch hnone
    have hnext := axisResume_refused hopen harch hnone
    exact ⟨_, hnext, motRej_facts.1, motRej_facts.2, keeps_of_next mv_execAxisResume hnext (by decide +kernel)⟩
  case _ =>
    intro q a s hopen harch hfree hrun hsave hv hdriven hallow
    have hnext : execHome q a s = .next (s.startHome a.val) := by
      unfold execHome
      rw [if_neg (by simp [hopen]), tryMove_moves (needsPos := false) harch hfree (by simp) hrun hsave hv hdriven hallow]
    obtain ⟨hkind, hmove⟩ := startHome_facts (s := s) (a := a)
    exact ⟨_, hnext, rfl, hkind, hmove, keeps_of_next mv_execHome hnext (by decide +kernel)⟩
  case _ =>
    intro q s hopen harch hfree hpos hrun hsave hv hdriven
    have hnext : execPark q 0 s = .next (s.startMove 0 1 (s.getInt Reg.MOT_AXIS_PARK_PARK_POS 0) 0) := by
      unfold execPark
      rw [if_neg (by simp [hopen]), if_neg (by decide)]
      exact congrArg Host.Outcome.next (tryMove_moves (a := 0) harch hfree (fun _ => hpos) hrun hsave hv hdriven rfl)
    obtain ⟨hkind, -, -, -⟩ := startMove_facts (s := s) (a := 0) (kind := 1) (target := s.getInt Reg.MOT_AXIS_PARK_PARK_POS 0) (v := 0)
      (by decide)
    exact ⟨_, hnext, rfl, hkind, keeps_of_next mv_execPark hnext (by decide +kernel)⟩
  case _ =>
    intro a pos s hmove hkind hgo
    have hnext := axisMoveComplete_seek (pos := pos) hmove hkind hgo
    obtain ⟨hstill, hstate, hnone⟩ := standAt_facts (s := s) (a := a) (pos := (s.axis a.val).target)
    exact ⟨_, hnext, rfl, hstill, hstate, hnone, keeps_of_next mv_execAxisMoveComplete hnext (by decide +kernel)⟩
  case _ =>
    intro a pos s hmove hkind hstop
    obtain ⟨t, hnext, hremain, hstill⟩ := axisMoveComplete_sweep (pos := pos) hmove hkind hstop
    exact ⟨t, hnext, hremain, hstill, keeps_of_next mv_execAxisMoveComplete hnext (by decide +kernel)⟩
  case _ =>
    intro a s hstill
    have hnext : execAxisStandstill a s = .next (s.setAxis a.val { s.axis a.val with held := true }) := if_neg (by simp [hstill])
    exact ⟨_, hnext, rfl, keeps_of_next mv_execAxisStandstill hnext (by decide +kernel)⟩
  case _ =>
    intro a s hkind hfinal
    obtain ⟨t, hnext, hvalid, hpos, hstate⟩ := homeSwitchEdge_homes hkind hfinal
    exact ⟨t, hnext, hvalid, hpos, hstate, keeps_of_next mv_execHomeSwitchEdge hnext (by decide +kernel)⟩
  case _ =>
    intro a pos s hkind hhoming hfar hnone
    have hnext := homeFail_fails hkind hhoming hfar hnone
    obtain ⟨hstate, hev, hstill, -⟩ := homeLost_facts (s := s.setAxis a.val { s.axis a.val with homing := none }) (a := a)
    exact ⟨_, hnext, hstate, hev, hstill, keeps_of_next mv_execHomeFail hnext (by decide +kernel)⟩

end Sys2Proof.Proofs
end

section
/-!
The disc exchanger and the drives (15 R378, R398 to R400; 22 R526).
-/
set_option Elab.async false

namespace Sys2Proof.Proofs
open Sys2Proof Sys2Proof.Machine Sys2Proof.Laws

section Exchanger
variable {s : State}

/-- The end of a command releases the mechanism, and leaves the exchange. -/
theorem complete_exchange {c : Cmd} {status result d : Nat} {p : Bool} :
    (s.complete c status result p d).mot.exchange = s.mot.exchange := by
  have hpost : ∀ (u : State) (m : Nat) (e : CplEntry), (u.postCpl m e).mot = u.mot := fun u m e => mv_postCpl.mot (by decide +kernel)
  have hfreeze : ∀ (u : State) (b : Bool), (if b then u.freezeRing c.sq else u).mot = u.mot := fun u b =>
    ite_both (P := fun t => State.mot t = u.mot) (mv_freezeRing.mot (by decide +kernel)) rfl
  unfold State.complete
  dsimp only
  refine ite_both (P := fun t => (State.mot t).exchange = s.mot.exchange) rfl ?_
  refine ite_both (P := fun t => (State.mot t).exchange = s.mot.exchange) ?_ ?_
  · rw [hpost]
  · rw [hpost]
    refine Eq.trans (congrArg MotSt.exchange (hfreeze _ _)) ?_
    rw [mv_logError.mot (by decide +kernel)]

theorem unbind_exchange {c : Nat} : (s.unbind c).mot.exchange = s.mot.exchange := by
  unfold State.unbind
  dsimp only
  refine Eq.trans (foldl_keeps (g := fun u : State => u.mot.exchange) ?_) ?_
  · intro u k
    split
    · exact complete_exchange
    · rfl
  · exact foldl_keeps (g := fun u : State => u.mot.exchange) fun u b => congrArg MotSt.exchange (mv_countBound.mot (by decide +kernel))

theorem finish_exchange {c status result d : Nat} {p : Bool} : (s.finish c status result p d).mot.exchange = s.mot.exchange := by
  unfold State.finish
  dsimp only
  refine unbind_exchange.trans ?_
  split
  · exact complete_exchange
  · rfl

/-- A failed exchange is over. -/
theorem exchangeFail_ends {x : Exchange} {status : Nat} (hx : s.mot.exchange = some x) :
    (s.exchangeFail status).mot.exchange = none := by
  have hstop : ∀ (l : List Nat) (u : State), (l.foldl State.stopMove u).mot = u.mot := fun l u =>
    foldl_keeps (g := State.mot) fun u a => ite_both (P := fun t => State.mot t = u.mot) put_mot rfl
  unfold State.exchangeFail
  rw [hx]
  dsimp only
  split
  · rw [finish_exchange, hstop]
  · rw [hstop]

/-- The payload byte of a MEDIA entry is the slot that a disc came from. -/
theorem discReturnAfterReset_starts {i g n x y : Nat} (hnone : s.mot.exchange = none) (hfork : s.mot.forkFound = true)
    (hsense : s.mot.discSense = true) (hfree : s.mot.clamped = false) (hmc3 : s.mc3Runs = true)
    (hentry : currentOf (s.journalEntries 4 0x1E00000) 2 = some (i, g, n, x, y)) :
    ∃ t, execDiscReturnAfterReset s = .next t ∧ t.mot.forkFound = false ∧
      t.mot.exchange = some ⟨none, false, fieldAt (s.flashRead (0x1E00000 + 4096 * i + 32 * g) (32 * n)) 8 1,
        returnActs (fieldAt (s.flashRead (0x1E00000 + 4096 * i + 32 * g) (32 * n)) 8 1), false⟩ := by
  unfold execDiscReturnAfterReset
  rw [hnone]
  dsimp only
  rw [if_neg (by simp [hfork, hsense, hfree, hmc3]), hentry]
  exact ⟨_, rfl, rfl, rfl⟩

theorem discReturnAfterReset_lost (hnone : s.mot.exchange = none) (hfork : s.mot.forkFound = true) (hsense : s.mot.discSense = true)
    (hfree : s.mot.clamped = false) (hmc3 : s.mc3Runs = true) (hentry : currentOf (s.journalEntries 4 0x1E00000) 2 = none) :
    ∃ t, execDiscReturnAfterReset s = .next t ∧ t.mot = { s.mot with noSlot := true, forkFound := false } := by
  unfold execDiscReturnAfterReset
  rw [hnone]
  dsimp only
  rw [if_neg (by simp [hfork, hsense, hfree, hmc3]), hentry]
  exact ⟨_, rfl, rfl⟩

end Exchanger

section Drives
variable {s : State} {v : Word}

theorem motPwmWrite_takes (harch : s.archived = true) (hoff : s.mot.bridges = [])
    (hdead : bitsOf (s.written Reg.MOT_PWM_PERIOD.base v) 7 0 ≤ bitsOf (s.written Reg.MOT_PWM_PERIOD.base v) 15 8)
    (hmin : 4 * bitsOf (s.written Reg.MOT_PWM_PERIOD.base v) 15 8 ≤ bitsOf (s.written Reg.MOT_PWM_PERIOD.base v) 31 16) :
    execMotPwmWrite v s = .next (s.wr Reg.MOT_PWM_PERIOD.base (s.written Reg.MOT_PWM_PERIOD.base v)) := by
  unfold execMotPwmWrite
  dsimp only
  rw [if_neg (by simp [harch]), if_neg (by simp [hoff]), if_neg (by simp [hdead, hmin])]

theorem motPwmWrite_refused (harch : s.archived = true) (hon : s.mot.bridges ≠ [])
    (hother : s.written Reg.MOT_PWM_PERIOD.base v ≠ s.rd Reg.MOT_PWM_PERIOD.base) : execMotPwmWrite v s = .next s.motRej := by
  unfold execMotPwmWrite
  dsimp only
  rw [if_neg (by simp [harch]), if_pos (by simp [hon]), if_neg hother]

theorem motCntClr_facts (harch : s.archived = true) :
    ∃ t, execMotCntClr s = .next t ∧ t.get Reg.MOT_SKIPS = 0 ∧ t.get Reg.MOT_PREDICTS = 0 ∧ t.get Reg.MOT_CLAMPS = 0 ∧
      t.get Reg.MOT_PHASE_LOSS = 0 ∧ t.get Reg.MOT_REGEN_LIMITS = 0 := by
  unfold execMotCntClr
  rw [if_neg (by simp [harch])]
  refine ⟨_, rfl, ?_, ?_, ?_, ?_, get_put_same (by decide) (by decide)⟩
  · refine (get_put_apart (by decide) (by decide)).trans ((get_put_apart (by decide) (by decide)).trans ?_)
    refine (get_put_apart (by decide) (by decide)).trans ((get_put_apart (by decide) (by decide)).trans ?_)
    exact get_put_same (by decide) (by decide)
  · refine (get_put_apart (by decide) (by decide)).trans ((get_put_apart (by decide) (by decide)).trans ?_)
    exact (get_put_apart (by decide) (by decide)).trans (get_put_same (by decide) (by decide))
  · exact (get_put_apart (by decide) (by decide)).trans ((get_put_apart (by decide) (by decide)).trans
      (get_put_same (by decide) (by decide)))
  · exact (get_put_apart (by decide) (by decide)).trans (get_put_same (by decide) (by decide))

end Drives

/-- Settles O45: the exchanger's failures and returns, the drive supply and the cartridge switch. -/
theorem exchangerAndDrives : Obligations.ExchangerAndDrives := by
  unfold Obligations.ExchangerAndDrives
  refine ⟨?_, ?_, ?_, ?_, ?_, ?_, ?_, ?_, ?_, ?_, ?_⟩
  case _ =>
    intro x s hx
    have hnext : execExchangeStepTimeout s = .next (s.exchangeFail 0x0D) := rfl
    exact ⟨_, hnext, rfl, exchangeFail_ends hx, keeps_of_next mv_execExchangeStepTimeout hnext (by decide +kernel)⟩
  case _ =>
    intro b s
    have hnext : execDiscSenseChange b s = .next { s with mot := { s.mot with discSense := b } } := rfl
    exact ⟨_, hnext, rfl, keeps_of_next mv_execDiscSenseChange hnext (by decide +kernel)⟩
  case _ =>
    intro i g n x y s hnone hfork hsense hfree hmc3 hentry
    obtain ⟨t, hnext, hdone, hstart⟩ := discReturnAfterReset_starts hnone hfork hsense hfree hmc3 hentry
    exact ⟨t, hnext, hdone, hstart, keeps_of_next mv_execDiscReturnAfterReset hnext (by decide +kernel)⟩
  case _ =>
    intro s hnone hfork hsense hfree hmc3 hentry
    obtain ⟨t, hnext, hmot⟩ := discReturnAfterReset_lost hnone hfork hsense hfree hmc3 hentry
    exact ⟨t, hnext, hmot, keeps_of_next mv_execDiscReturnAfterReset hnext (by decide +kernel)⟩
  case _ =>
    intro s
    have hnext : execVdrvUndervoltage s = .next { s with
      pwr := { s.pwr with vdrvLow := true }
      mot := { s.mot with bridges := s.mot.bridges.map (fun b => (b.1, { b.2 with out := 0 })) } } := rfl
    exact ⟨_, hnext, rfl, rfl, keeps_of_next mv_execVdrvUndervoltage hnext (by decide +kernel)⟩
  case _ =>
    intro s
    have hnext : execVdrvRecovery s = .next { s with pwr := { s.pwr with vdrvLow := false } } := rfl
    exact ⟨_, hnext, rfl, keeps_of_next mv_execVdrvRecovery hnext (by decide +kernel)⟩
  case _ =>
    intro v s harch hoff hdead hmin
    have hnext := motPwmWrite_takes harch hoff hdead hmin
    exact ⟨_, hnext, rd_wr_same, keeps_of_next mv_execMotPwmWrite hnext (by decide +kernel)⟩
  case _ =>
    intro v s harch hon hother
    have hnext := motPwmWrite_refused harch hon hother
    have hword : s.motRej.rd Reg.MOT_PWM_PERIOD.base = s.rd Reg.MOT_PWM_PERIOD.base :=
      rd_of_moves mv_motRej (f := Reg.MOT_PWM_PERIOD) (j := 0) (by decide +kernel) (by decide)
    exact ⟨_, hnext, motRej_facts.1, hword, keeps_of_next mv_execMotPwmWrite hnext (by decide +kernel)⟩
  case _ =>
    intro s harch
    have hnext : execMotDisable s = .next (s.motEnable false) := if_pos harch
    exact ⟨_, hnext, rfl, keeps_of_next mv_execMotDisable hnext (by decide +kernel)⟩
  case _ =>
    intro s harch
    obtain ⟨t, hnext, hskips, hpredicts, hclamps, hloss, hregen⟩ := motCntClr_facts harch
    exact ⟨t, hnext, hskips, hpredicts, hclamps, hloss, hregen, keeps_of_next mv_execMotCntClr hnext (by decide +kernel)⟩
  case _ =>
    intro c s
    have hnext : execCartPresentChange c s = .next { s with
      och := { s.och with cartridge := c }
      mot := { s.mot with cartPresent := c.isSome, noSlot := s.mot.noSlot && c.isNone } } := rfl
    exact ⟨_, hnext, rfl, rfl, keeps_of_next mv_execCartPresentChange hnext (by decide +kernel)⟩

end Sys2Proof.Proofs
end

section
/-!
The colophon's clock: power, discipline, time of day, authority, changes and counters (17 R430 to R447).
-/
set_option Elab.async false

namespace Sys2Proof.Proofs
open Sys2Proof Sys2Proof.Machine Sys2Proof.Laws

section Events
variable {s : State} {f g : Fld} {j : Nat}

theorem colEvent_col : (s.colEvent f).col = s.col := by
  unfold State.colEvent
  split
  · exact put_col
  · exact ite_both (P := fun t => State.col t = s.col) put_col (signal_col.trans put_col)

/-- An event of the colophon leaves every other field but pending bits alone. -/
theorem colEvent_get (h : apart f g = true) (hj : j < g.count) (h0 : apart Reg.MSIX0_PBA g = true)
    (h1 : apart Reg.MSIX1_PBA g = true) : (s.colEvent f).get g j = s.get g j := by
  have hput : (s.setFlag f true).get g j = s.get g j := get_put_apart h hj
  unfold State.colEvent
  split
  · exact hput
  · exact ite_both (P := fun t => State.get t g j = s.get g j) hput ((signal_get hj h0 h1).trans hput)

theorem colEvent_flag (hfit : fits f = true) (hw : f.width = 1) (h0 : apart Reg.MSIX0_PBA f = true)
    (h1 : apart Reg.MSIX1_PBA f = true) (hf : 0 < f.count) : (s.colEvent f).flag f = true := by
  have hput : (s.setFlag f true).flag f = true := flag_setFlag_same hfit hw hf
  unfold State.colEvent
  split
  · exact hput
  · refine ite_both (P := fun t => State.flag t f = true) hput ?_
    rw [State.flag, signal_get hf h0 h1]
    exact hput

end Events

/-! ### Power -/

section Power
variable {s : State}

/-- Keys outside the colophon's own range, which its reset leaves. -/
def outsideCol (k : Nat) : Bool := !(decide (0x100000000 ≤ k) && decide (k < 0x1000F0000))

/-- What the colophon holds after its own reset: what lies in OTP. -/
def colOtp (old : ColSt) : ColSt :=
  { powered := old.powered, toCol := [], sealCount := old.sealCount, entries := old.entries, authKey := old.authKey, ccLockups := [] }

/-- The colophon's registers and state are cleared. -/
def colCleared (s : State) : State := ({ s with regs := skeep s.regs outsideCol, col := colOtp s.col } : State).clearShadows outsideCol

/-- The colophon shows what lies in OTP, and may repair weak cells. -/
def colShown (s : State) (weak provisioned : Bool) : State :=
  let t := s.showSeal.setFlag Reg.COL_AUTH_PROVISIONED provisioned
  if weak then t.colEvent Reg.COL_STATUS_SEAL_REPAIR_EV else t

theorem colReset_eq : s.colReset = colShown (colCleared s) (!s.col.sealWeak.isEmpty) s.col.authKey.isSome := rfl

theorem colShown_col {weak b : Bool} : (colShown s weak b).col = s.col := by
  have hshow : (s.showSeal.setFlag Reg.COL_AUTH_PROVISIONED b).col = s.col := put_col.trans (put_col.trans put_col)
  exact ite_both (P := fun t => State.col t = s.col) (colEvent_col.trans hshow) hshow

theorem moves_colShown {weak b : Bool} :
    Moves 0x200000200308000000000000000000000000000000000000000000000000000000000000100000 s (colShown s weak b) := by
  unfold colShown
  dsimp only
  have hshow : Moves 0x200000200308000000000000000000000000000000000000000000000000000000000000100000 s
      (s.showSeal.setFlag Reg.COL_AUTH_PROVISIONED b) :=
    mvSetFlag (Moves.refl.step mv_showSeal (by decide +kernel)) (by decide +kernel)
  exact mvIte (mv_colEvent hshow (by decide +kernel)) hshow

/-- A word of another unit outlives the colophon's reset. -/
theorem rd_colReset {k : Nat} (hk : k < 0x100000000 ∨ 0x100100000 ≤ k ∧ k < 0x400000000) : s.colReset.rd k = s.rd k := by
  have hout : outsideCol k = true := by
    simp only [outsideCol, Bool.not_eq_true', Bool.and_eq_false_iff, decide_eq_false_iff_not]
    omega
  have hclear : (colCleared s).rd k = s.rd k := (sget_skeep _ s.regs outsideCol k).trans (if_pos hout)
  have hkeep : Keeps [.outbox] [Reg.COL_STATUS_WORD, Reg.COL_SEAL_WORD, Reg.COL_AUTH_WORD, Reg.MSIX1_PBA, Reg.MSIX0_PBA] (colCleared s)
      (colShown (colCleared s) (!s.col.sealWeak.isEmpty) s.col.authKey.isSome) := keeps_of moves_colShown (by decide +kernel)
  rw [colReset_eq, hkeep.regs k ?_, hclear]
  intro f hf
  rintro ⟨i, hi, rfl⟩
  simp only [List.mem_cons, List.not_mem_nil, or_false] at hf
  rcases hf with rfl | rfl | rfl | rfl | rfl <;> simp only [Reg.COL_STATUS_WORD, Reg.COL_SEAL_WORD, Reg.COL_AUTH_WORD, Reg.MSIX1_PBA,
    Reg.MSIX0_PBA] at hi hk <;> omega

/-- The colophon loses its supply. -/
def colOff (s : State) : State := { s with col := { s.col with powered := false } }

theorem colOff_facts : (colOff s).col = { s.col with powered := false } ∧ (colOff s).regs = s.regs := ⟨rfl, rfl⟩

theorem colophonPowerOnReset_next (hpart : s.part.colophon = true) :
    execColophonPowerOnReset s = .next ((colOff s.colReset).setFlag Reg.COL_STATUS_POWER false) := by
  unfold execColophonPowerOnReset colOff
  rw [if_neg (by simp [hpart])]

theorem colophonPowerOnReset_facts (hpart : s.part.colophon = true) :
    ∃ t, execColophonPowerOnReset s = .next t ∧ t.col.powered = false ∧ t.flag Reg.COL_STATUS_POWER = false ∧ t.col.recs = [] ∧
      t.col.toCol = [] ∧ t.col.sealCount = s.col.sealCount ∧ t.col.entries = s.col.entries ∧ t.col.authKey = s.col.authKey ∧
      ∀ k, k < 0x100000000 ∨ 0x100100000 ≤ k ∧ k < 0x400000000 → t.rd k = s.rd k := by
  have hcol : ((colOff s.colReset).setFlag Reg.COL_STATUS_POWER false).col = { colOtp s.col with powered := false } := by
    rw [State.setFlag, put_col, colOff_facts.1, colReset_eq, colShown_col]
    rfl
  refine ⟨_, colophonPowerOnReset_next hpart, ?_⟩
  rw [hcol]
  refine ⟨rfl, flag_setFlag_same (by decide) (by decide) (by decide), rfl, rfl, rfl, rfl, rfl, fun k hk => ?_⟩
  rw [State.setFlag, rd_put_apart ?_]
  · exact rd_colReset hk
  · rintro ⟨i, hi, rfl⟩
    simp only [Reg.COL_STATUS_POWER] at hi hk
    omega

/-- The colophon is supplied, with a new nonce. -/
def colUp (s : State) : State :=
  let (nonce, s1) := s.freeBytes 16
  { s1 with col := { s1.col with powered := true, bootNonce := leNat nonce } }

theorem colUp_powered : (colUp s).col.powered = true := rfl

/-- POWER shows the supply; an enabled unit starts. -/
def colStarting (s : State) : State :=
  let s1 := s.setFlag Reg.COL_STATUS_POWER true
  if s1.flag Reg.COL_CTL_EN && s1.get Reg.COL_STATUS_STATE = 0 then s1.put Reg.COL_STATUS_STATE 1 else s1

theorem colStarting_facts : (colStarting s).col = s.col ∧ (colStarting s).flag Reg.COL_STATUS_POWER = true := by
  have hpower : (s.setFlag Reg.COL_STATUS_POWER true).flag Reg.COL_STATUS_POWER = true :=
    flag_setFlag_same (by decide) (by decide) (by decide)
  unfold colStarting
  dsimp only
  split
  · exact ⟨put_col.trans put_col, (flag_put_apart (by decide) (by decide)).trans hpower⟩
  · exact ⟨put_col, hpower⟩

theorem colVddReturn_next (hpart : s.part.colophon = true) (hoff : s.col.powered = false) :
    execColVddReturn s = .next (colStarting (colUp s)) := by
  unfold execColVddReturn
  rw [if_neg (by simp [hpart, hoff])]
  rfl

theorem colVddReturn_facts (hpart : s.part.colophon = true) (hoff : s.col.powered = false) :
    ∃ t, execColVddReturn s = .next t ∧ t.col.powered = true ∧ t.flag Reg.COL_STATUS_POWER = true := by
  refine ⟨_, colVddReturn_next hpart hoff, ?_, colStarting_facts.2⟩
  rw [colStarting_facts.1]
  exact colUp_powered

end Power

/-! ### Start-up and disabling -/

section Unit
variable {s : State}

theorem colophonStartupComplete_passes (hon : s.col.powered = true) (hstart : s.get Reg.COL_STATUS_STATE = 1) (hnone : s.col.toCol = [])
    (hheld : s.flag Reg.COL_STATUS_HELD = false) :
    ∃ t, execColophonStartupComplete true s = .next t ∧ t.get Reg.COL_STATUS_STATE = 2 ∧ t.col = s.col := by
  have hunit : s.unitStarted colUnit = s.put Reg.COL_STATUS_STATE 2 := by
    unfold State.unitStarted
    rw [if_neg (by simp [colUnit, hstart]), if_neg (by simp [colUnit, hheld])]
    rfl
  have hrun : (s.put Reg.COL_STATUS_STATE 2).get Reg.COL_STATUS_STATE = 2 := get_put_same (by decide) (by decide)
  have hstarted : s.colStarted = s.put Reg.COL_STATUS_STATE 2 := by
    unfold State.colStarted
    rw [if_neg (by simp [hon, hstart])]
    dsimp only
    rw [hunit, if_neg (by simp [hrun]), put_col, hnone]
    rfl
  unfold execColophonStartupComplete
  rw [if_neg (by simp [hon, hstart]), if_pos rfl, hstarted]
  exact ⟨_, rfl, hrun, put_col⟩

theorem colophonStartupComplete_fails (hon : s.col.powered = true) (hstart : s.get Reg.COL_STATUS_STATE = 1) :
    ∃ t, execColophonStartupComplete false s = .next t ∧ t.get Reg.COL_STATUS_STATE = 4 ∧ t.col = s.col := by
  unfold execColophonStartupComplete
  rw [if_neg (by simp [hon, hstart]), if_neg (by decide)]
  exact ⟨_, rfl, get_put_same (by decide) (by decide), put_col⟩

theorem closeRec_state {r : OpenRec} {first trig last flags : Nat} {link : Bool} :
    (s.closeRec r first trig last flags link).get Reg.COL_STATUS_STATE = s.get Reg.COL_STATUS_STATE := by
  unfold State.closeRec
  dsimp only
  refine (colEvent_get (by decide) (by decide) (by decide) (by decide)).trans ((get_put64_apart (by decide) (by decide)).trans ?_)
  exact get_regs rfl

theorem closeAllRecs_state {flags : Nat} {link : Bool} : (s.closeAllRecs flags link).get Reg.COL_STATUS_STATE = s.get Reg.COL_STATUS_STATE :=
  fold_get fun _ _ => closeRec_state

/-- A disabled colophon closes its records and stops. -/
theorem colophonDisable_stops (hon : s.col.powered = true) (hrun : s.get Reg.COL_STATUS_STATE = 2) :
    ∃ t, execColophonDisable s = .next t ∧ t.get Reg.COL_STATUS_STATE = 3 ∧ t.flag Reg.COL_CTL_EN = false := by
  unfold execColophonDisable State.colEnable
  rw [if_neg (by simp [hon])]
  dsimp only
  rw [if_pos (by simp [hrun])]
  exact ⟨_, rfl, enableWrite_stops (enableUnits_laidOut colUnit (by decide)) (by decide) (by decide) (by decide) (by decide)
    (closeAllRecs_state.trans hrun)⟩

end Unit

/-! ### The discipline -/

section Discipline
variable {s : State}

/-- The increment, the latest PPS edge and its phase error. -/
def timing (c : ColSt) : Nat × Option Nat × Nat := (c.inc, c.lastPps, c.phaseErr)

theorem setUnc_facts {v : Nat} : (s.setUnc v).disc = s.disc ∧ timing (s.setUnc v).col = timing s.col := by
  have hmap : ∀ (u : State) (h : OpenRec → OpenRec), (u.mapRecs h).disc = u.disc ∧ timing (u.mapRecs h).col = timing u.col :=
    fun _ _ => ⟨rfl, rfl⟩
  unfold State.setUnc
  dsimp only
  refine ⟨(hmap _ _).1.trans (get_put_apart (by decide) (by decide)), (hmap _ _).2.trans ?_⟩
  rw [put_col]

theorem setDisc_facts {d : Nat} {ev : Bool} (hd : d < 8) : (s.setDisc d ev).disc = d ∧ timing (s.setDisc d ev).col = timing s.col := by
  have hmap : ∀ (u : State) (h : OpenRec → OpenRec), (u.mapRecs h).disc = u.disc ∧ timing (u.mapRecs h).col = timing u.col :=
    fun _ _ => ⟨rfl, rfl⟩
  have hput : ∀ u : State, (u.put Reg.COL_STATUS_DISC d).disc = d ∧ timing (u.put Reg.COL_STATUS_DISC d).col = timing u.col := fun u =>
    ⟨(get_put_same (by decide) (by decide)).trans (Nat.mod_eq_of_lt hd), congrArg timing put_col⟩
  have hev : ∀ u : State, (if ev then u.colEvent Reg.COL_STATUS_DISC_EV else u).disc = u.disc ∧
      timing (if ev then u.colEvent Reg.COL_STATUS_DISC_EV else u).col = timing u.col := by
    intro u
    split
    · exact ⟨colEvent_get (by decide) (by decide) (by decide) (by decide), congrArg timing colEvent_col⟩
    · exact ⟨rfl, rfl⟩
  unfold State.setDisc
  dsimp only
  refine ⟨(hev _).1.trans (setUnc_facts.1.trans ((hmap _ _).1.trans (hput _).1)), ?_⟩
  exact (hev _).2.trans (setUnc_facts.2.trans ((hmap _ _).2.trans ((hput _).2.trans rfl)))

/-- A gate's judgement of the 10 MHz reference is noted. -/
def gated (s : State) (good : Bool) : State := { s with col := { s.col with tenMhzGood := good } }

/-- The increment follows the gate. -/
def steered (s : State) (inc : Nat) : State := { s with col := { s.col with inc } }

theorem gated_disc {good : Bool} : (gated s good).disc = s.disc := rfl

theorem steered_disc {inc : Nat} : (steered s inc).disc = s.disc := rfl

theorem steered_inc {inc : Nat} : (steered s inc).col.inc = inc := rfl

/-- What a gate makes of the discipline state, by the state before. -/
def gateOutcome (s : State) (good : Bool) (inc : Nat) : Nat → State
  | 0 => if good then (steered s inc).setDisc 1 false else s
  | 1 => if good then steered s inc else s.setDisc 0 true
  | 2 => if good then (if s.col.lossAt.isSome then s.setUnc s.uncNow else s) else s.setDisc 0 true
  | 3 => if good then (if s.col.lossAt.isSome then s.setUnc s.uncNow else s) else s.setDisc 4 true
  | _ => s

theorem disciplineGate_next {good : Bool} {inc : Nat} (hon : s.col.powered = true) (hdisc : s.disc < 4) :
    execDisciplineGate good inc s = .next (gateOutcome (gated s good) good inc s.disc) := by
  unfold execDisciplineGate
  rw [if_neg (by simp [hon])]
  dsimp only
  generalize s.disc = d at hdisc
  match d, hdisc with
  | 0, _ => rfl
  | 1, _ => rfl
  | 2, _ => rfl
  | 3, _ => rfl

theorem uncShown_disc {c : Prop} [Decidable c] {v : Nat} : (if c then s.setUnc v else s).disc = s.disc :=
  ite_both (P := fun t => State.disc t = s.disc) setUnc_facts.1 rfl

theorem setDisc_inc {d : Nat} {ev : Bool} (hd : d < 8) : (s.setDisc d ev).col.inc = s.col.inc :=
  congrArg Prod.fst (setDisc_facts (s := s) (ev := ev) hd).2

theorem disciplineGate_facts {good : Bool} {inc : Nat} (hon : s.col.powered = true) (hdisc : s.disc < 4) :
    ∃ t, execDisciplineGate good inc s = .next t ∧ (s.disc = 0 → t.disc = if good then 1 else 0) ∧
      (s.disc = 1 → t.disc = if good then 1 else 0) ∧ (s.disc = 2 → t.disc = if good then 2 else 0) ∧
      (s.disc = 3 → t.disc = if good then 3 else 4) ∧ (s.disc < 2 → good = true → t.col.inc = inc) := by
  refine ⟨_, disciplineGate_next hon hdisc, fun h => ?_, fun h => ?_, fun h => ?_, fun h => ?_, fun h hgood => ?_⟩
  · rw [h, gateOutcome]
    cases good
    · simp only [Bool.false_eq_true, if_false, gated_disc, h]
    · simp only [if_true, (setDisc_facts (ev := false) (show 1 < 8 by decide)).1]
  · rw [h, gateOutcome]
    cases good
    · simp only [Bool.false_eq_true, if_false, (setDisc_facts (ev := true) (show 0 < 8 by decide)).1]
    · simp only [if_true, steered_disc, gated_disc, h]
  · rw [h, gateOutcome]
    cases good
    · simp only [Bool.false_eq_true, if_false, (setDisc_facts (ev := true) (show 0 < 8 by decide)).1]
    · rw [if_pos rfl, if_pos rfl, uncShown_disc, gated_disc, h]
  · rw [h, gateOutcome]
    cases good
    · simp only [Bool.false_eq_true, if_false, (setDisc_facts (ev := true) (show 4 < 8 by decide)).1]
    · rw [if_pos rfl, if_pos rfl, uncShown_disc, gated_disc, h]
  · rw [hgood]
    rcases (by omega : s.disc = 0 ∨ s.disc = 1) with h0 | h1
    · rw [h0, gateOutcome, if_pos rfl, setDisc_inc (by decide), steered_inc]
    · rw [h1, gateOutcome, if_pos rfl, steered_inc]

/-- A PPS edge is timed. -/
def ppsTimed (s : State) (t : Nat) : State := { s with col := { s.col with lastPps := some t, phaseErr := phaseOf t } }

/-- The fourth edge in place takes FREQ to PHASE. -/
theorem ppsEdge_phase {elapsed inc : Nat} (hon : s.col.powered = true) (hfreq : s.disc = 1) (htod : s.col.todArmed = false)
    (hgood : s.col.ppsGood = 3) (hspaced : ∀ x, s.col.lastPps = some x →
      10 ^ 10 - 10 ^ 4 ≤ s.cert - elapsed - x ∧ s.cert - elapsed - x ≤ 10 ^ 10 + 10 ^ 4) (hlast : s.col.lastPps ≠ none) :
    execPpsEdge elapsed inc s = .next ((ppsTimed s (s.cert - elapsed)).setDisc 2 false) := by
  obtain ⟨x, hx⟩ := Option.ne_none_iff_exists'.mp hlast
  obtain ⟨hlow, hhigh⟩ := hspaced x hx
  have hset : s.todSet elapsed = s := by
    unfold State.todSet
    rw [if_pos (by simp [htod])]
  unfold execPpsEdge
  rw [if_neg (by simp [hon])]
  dsimp only
  rw [hset, hfreq, hx]
  dsimp only
  rw [hgood, decide_eq_true hlow, decide_eq_true hhigh]
  rfl

theorem ppsLoss_holds (hon : s.col.powered = true) (hlocked : s.disc = 3) : execPpsLoss s = .next (s.setDisc 4 true) :=
  if_pos (by simp [hon, hlocked])

theorem holdoverExpiry_frees (hon : s.col.powered = true) (hheld : s.disc = 4) : execHoldoverExpiry s = .next (s.setDisc 0 true) :=
  if_pos (by simp [hon, hheld])

theorem todArm_arms (hon : s.col.powered = true) (hpps : s.timescalePps = true) (hnone : s.col.recs = [])
    (hdisc : s.disc = 2 ∨ s.disc = 3) : execTodArm s = .next { s with col := { s.col with todArmed := true } } := by
  have hready : (s.disc == 2 || s.disc == 3) = true := by simpa using hdisc
  unfold execTodArm
  rw [if_neg (by simp [hon]), if_pos (by simp [hpps, hnone, hready])]

theorem todArm_refused (hon : s.col.powered = true)
    (hwhy : s.timescalePps = false ∨ s.col.recs ≠ [] ∨ (s.disc ≠ 2 ∧ s.disc ≠ 3)) :
    execTodArm s = .next (s.colEvent Reg.COL_STATUS_CFG_REJ) := by
  unfold execTodArm
  rw [if_neg (by simp [hon]), if_neg]
  rcases hwhy with h | h | ⟨h2, h3⟩ <;> simp [*]

end Discipline

/-! ### Authority and changes -/

section Changes
variable {s : State}

theorem authProvision_facts (hon : s.col.powered = true) (hnew : s.flag Reg.COL_AUTH_PROVISIONED = false)
    (hcurve : onCurve (beNat ((s.colBytes Reg.COL_AUTH_KEY 24).take 48)) (beNat ((s.colBytes Reg.COL_AUTH_KEY 24).drop 48)) = true) :
    ∃ t, execAuthProvision s = .next t ∧ t.flag Reg.COL_AUTH_PROVISIONED = true ∧
      t.col = { s.col with authKey := some (s.colBytes Reg.COL_AUTH_KEY 24) } := by
  unfold execAuthProvision
  rw [if_neg (by simp [hon, hnew])]
  dsimp only
  rw [if_pos hcurve]
  exact ⟨_, rfl, flag_setFlag_same (by decide) (by decide) (by decide), put_col⟩

theorem changeResult_facts {code : Nat} (hcode : code < 8) : (s.changeResult code).get Reg.COL_CHANGE_STATUS_RESULT = code ∧
    (s.changeResult code).flag Reg.COL_STATUS_CHANGE_EV = true ∧ (s.changeResult code).col = s.col := by
  refine ⟨?_, colEvent_flag (by decide) (by decide) (by decide) (by decide) (by decide), colEvent_col.trans put_col⟩
  refine (colEvent_get (by decide) (by decide) (by decide) (by decide)).trans ((get_put_same (by decide) (by decide)).trans ?_)
  exact Nat.mod_eq_of_lt hcode

theorem showSeal_col : s.showSeal.col = s.col := put_col.trans put_col

/-- The seal counter counts a change. -/
def sealCounted (s : State) : State := ({ s with col := { s.col with sealCount := s.col.sealCount + 1 } } : State).showSeal

theorem sealCounted_sealCount : (sealCounted s).col.sealCount = s.col.sealCount + 1 := congrArg ColSt.sealCount showSeal_col

/-- A change's entry with its CRC. -/
def changeEntry (e : List Byte) : List Byte := e ++ zeros 28 ++ leBytes 4 (crc32 (e ++ zeros 28))

/-- The change's entry is kept. -/
def changeKept (s : State) (e : List Byte) : State :=
  { s with col := { s.col with entries := insertKey s.col.entries (fieldAt e 4 2) (changeEntry e) } }

theorem changeKept_sealCount {e : List Byte} : (changeKept s e).col.sealCount = s.col.sealCount := rfl

/-- A signed change with the next index is sealed. -/
theorem changeGo_seals {cell : Fin 3} {key : List Byte} (hon : s.col.powered = true) (hkey : s.col.authKey = some key)
    (hindex : fieldAt (s.colBytes Reg.COL_CHANGE 56) 4 2 = s.col.sealCount + 1)
    (hsigned : ecdsaVerify key ((s.colBytes Reg.COL_CHANGE 56).take 128) (((s.colBytes Reg.COL_CHANGE 56).drop 128).take 96) = true)
    (hnone : s.col.recs = []) (hroom : s.col.sealCount < 256) (hcell : cell.val = 2) :
    execChangeGo cell true s = .next ((changeKept (sealCounted s) (s.colBytes Reg.COL_CHANGE 56)).changeResult 2) := by
  unfold execChangeGo changeKept changeEntry sealCounted
  rw [if_neg (by simp [hon])]
  dsimp only
  rw [hkey]
  dsimp only
  rw [if_neg (by simp [hindex]), if_neg (by simp [hsigned]), if_neg (by simp [hnone]), if_neg (by omega), if_neg (by omega),
    if_neg (by decide)]

theorem changeGo_wrongIndex {cell : Fin 3} {entryOk : Bool} (hon : s.col.powered = true)
    (hindex : fieldAt (s.colBytes Reg.COL_CHANGE 56) 4 2 ≠ s.col.sealCount + 1) :
    execChangeGo cell entryOk s = .next (s.changeResult 4) := by
  unfold execChangeGo
  rw [if_neg (by simp [hon])]
  dsimp only
  rw [if_pos hindex]

end Changes

/-! ### Counters -/

section Counters
variable {s : State}

/-- The counters of the channels are cleared. -/
def channelsZero (s : State) : State := (List.range 8).foldl (fun t i => (t.put Reg.COL_CH_COUNT 0 i).put Reg.COL_CH_OVERRUN 0 i) s

theorem channelsZero_get {f : Fld} (hc : apart Reg.COL_CH_COUNT f = true) (ho : apart Reg.COL_CH_OVERRUN f = true) (hf : 0 < f.count) :
    (channelsZero s).get f = s.get f :=
  fold_get fun _ _ => (get_put_apart ho hf).trans (get_put_apart hc hf)

theorem channels_zeroed {n i : Nat} (hn : n ≤ 8) (hi : i < n) :
    ((List.range n).foldl (fun t i => (t.put Reg.COL_CH_COUNT 0 i).put Reg.COL_CH_OVERRUN 0 i) s).get Reg.COL_CH_COUNT i = 0 ∧
    ((List.range n).foldl (fun t i => (t.put Reg.COL_CH_COUNT 0 i).put Reg.COL_CH_OVERRUN 0 i) s).get Reg.COL_CH_OVERRUN i = 0 := by
  induction n with
  | zero => omega
  | succ n ih =>
    have hi8 : i < 8 := by omega
    have hn8 : n < 8 := by omega
    rw [List.range_succ, List.foldl_append, List.foldl_cons, List.foldl_nil]
    by_cases heq : n = i
    · subst heq
      exact ⟨(get_put_apart (by decide) hi8).trans (get_put_same (by decide) hi8), get_put_same (by decide) hi8⟩
    · obtain ⟨hc, ho⟩ := ih (by omega) (by omega)
      exact ⟨(get_put_apart (by decide) hi8).trans ((get_put_other rfl rfl (by decide) heq).trans hc),
        (get_put_other rfl rfl (by decide) heq).trans ((get_put_apart (by decide) hi8).trans ho)⟩

theorem colCntClr_facts (hon : s.col.powered = true) :
    ∃ t, execColCntClr s = .next t ∧ t.get64 Reg.COL_STROBES = 0 ∧ t.get Reg.COL_UNANSWERED = 0 ∧
      (∀ i < 8, t.get Reg.COL_CH_COUNT i = 0 ∧ t.get Reg.COL_CH_OVERRUN i = 0) ∧ t.get Reg.COL_TOD_SETS = s.get Reg.COL_TOD_SETS := by
  have hnext : execColCntClr s = .next (channelsZero ((s.put64 Reg.COL_STROBES 0).put Reg.COL_UNANSWERED 0)) := if_neg (by simp [hon])
  refine ⟨_, hnext, ?_, ?_, fun i hi => channels_zeroed (by decide) hi, ?_⟩
  · refine Eq.trans (foldl_keeps (g := fun u : State => u.get64 Reg.COL_STROBES) fun u i =>
      (get64_put_apart (by decide) (by decide)).trans (get64_put_apart (by decide) (by decide))) ?_
    exact (get64_put_apart (by decide) (by decide)).trans (get64_put64_same (by decide))
  · exact (channelsZero_get (by decide) (by decide) (by decide)).trans (get_put_same (by decide) (by decide))
  · refine (channelsZero_get (by decide) (by decide) (by decide)).trans ((get_put_apart (by decide) (by decide)).trans ?_)
    exact get_put64_apart (by decide) (by decide)

end Counters

/-- Settles O46: the colophon's power, discipline, time of day, authority and changes. -/
theorem colophonClock : Obligations.ColophonClock := by
  unfold Obligations.ColophonClock
  refine ⟨?_, ?_, ?_, ?_, ?_, ?_, ?_, ?_, ?_, ?_, ?_, ?_, ?_, ?_, ?_⟩
  case _ =>
    intro s hpart
    obtain ⟨t, hnext, hoff, hpower, hrecs, hmsgs, hcount, hentries, hkey, hwords⟩ := colophonPowerOnReset_facts hpart
    exact ⟨t, hnext, hoff, hpower, hrecs, hmsgs, hcount, hentries, hkey, hwords,
      keepsParts_of_next mv_execColophonPowerOnReset hnext (by decide +kernel)⟩
  case _ =>
    intro s hon hstart hnone hheld
    obtain ⟨t, hnext, hrun, hcol⟩ := colophonStartupComplete_passes hon hstart hnone hheld
    exact ⟨t, hnext, hrun, hcol, keeps_of_next mv_execColophonStartupComplete hnext (by decide +kernel)⟩
  case _ =>
    intro s hon hstart
    obtain ⟨t, hnext, hfail, hcol⟩ := colophonStartupComplete_fails hon hstart
    exact ⟨t, hnext, hfail, hcol, keeps_of_next mv_execColophonStartupComplete hnext (by decide +kernel)⟩
  case _ =>
    intro s hon hrun
    obtain ⟨t, hnext, hstop, hen⟩ := colophonDisable_stops hon hrun
    exact ⟨t, hnext, hstop, hen, keeps_of_next mv_execColophonDisable hnext (by decide +kernel)⟩
  case _ =>
    intro good inc s hon hdisc
    obtain ⟨t, hnext, hfree, hfreq, hphase, hlocked, hinc⟩ := disciplineGate_facts (good := good) (inc := inc) hon hdisc
    exact ⟨t, hnext, hfree, hfreq, hphase, hlocked, hinc, keeps_of_next mv_execDisciplineGate hnext (by decide +kernel)⟩
  case _ =>
    intro elapsed inc s hon hfreq htod hgood hspaced hlast
    have hnext := ppsEdge_phase (inc := inc) hon hfreq htod hgood hspaced hlast
    obtain ⟨hdisc, htiming⟩ := setDisc_facts (s := ppsTimed s (s.cert - elapsed)) (d := 2) (ev := false) (by decide)
    exact ⟨_, hnext, hdisc, congrArg (fun x => x.2.1) htiming, congrArg (fun x => x.2.2) htiming,
      keeps_of_next mv_execPpsEdge hnext (by decide +kernel)⟩
  case _ =>
    intro s hon hlocked
    have hnext := ppsLoss_holds hon hlocked
    exact ⟨_, hnext, (setDisc_facts (by decide)).1, keeps_of_next mv_execPpsLoss hnext (by decide +kernel)⟩
  case _ =>
    intro s hon hheld
    have hnext := holdoverExpiry_frees hon hheld
    exact ⟨_, hnext, (setDisc_facts (by decide)).1, keeps_of_next mv_execHoldoverExpiry hnext (by decide +kernel)⟩
  case _ =>
    intro s hon hpps hnone hdisc
    have hnext := todArm_arms hon hpps hnone hdisc
    exact ⟨_, hnext, rfl, keeps_of_next mv_execTodArm hnext (by decide +kernel)⟩
  case _ =>
    intro s hon hwhy
    have hnext := todArm_refused hon hwhy
    exact ⟨_, hnext, colEvent_flag (by decide) (by decide) (by decide) (by decide) (by decide), colEvent_col,
      keeps_of_next mv_execTodArm hnext (by decide +kernel)⟩
  case _ =>
    intro s hon hnew hcurve
    obtain ⟨t, hnext, hprov, hcol⟩ := authProvision_facts hon hnew hcurve
    exact ⟨t, hnext, hprov, hcol, keeps_of_next mv_execAuthProvision hnext (by decide +kernel)⟩
  case _ =>
    intro cell entryOk key s hon hkey hindex hsigned hnone hroom hcell hentry
    subst hentry
    have hnext := changeGo_seals hon hkey hindex hsigned hnone hroom hcell
    obtain ⟨hresult, hev, hcol⟩ := changeResult_facts (s := changeKept (sealCounted s) (s.colBytes Reg.COL_CHANGE 56)) (code := 2)
      (by decide)
    exact ⟨_, hnext, (congrArg ColSt.sealCount hcol).trans (changeKept_sealCount.trans sealCounted_sealCount), hresult, hev,
      keeps_of_next mv_execChangeGo hnext (by decide +kernel)⟩
  case _ =>
    intro cell entryOk s hon hindex
    have hnext := changeGo_wrongIndex (cell := cell) (entryOk := entryOk) hon hindex
    exact ⟨_, hnext, rfl, (changeResult_facts (by decide)).2.2, keeps_of_next mv_execChangeGo hnext (by decide +kernel)⟩
  case _ =>
    intro s hpart hoff
    obtain ⟨t, hnext, hon, hpower⟩ := colVddReturn_facts hpart hoff
    exact ⟨t, hnext, hon, hpower, keeps_of_next mv_execColVddReturn hnext (by decide +kernel)⟩
  case _ =>
    intro s hon
    obtain ⟨t, hnext, hstrobes, hunanswered, hchannels, hsets⟩ := colCntClr_facts hon
    exact ⟨t, hnext, hstrobes, hunanswered, hchannels, hsets, keeps_of_next mv_execColCntClr hnext (by decide +kernel)⟩

end Sys2Proof.Proofs
end

section
/-!
The colophon's strobes, timed edges and take records (17 R432, R437 to R443).
-/
set_option Elab.async false

namespace Sys2Proof.Proofs
open Sys2Proof Sys2Proof.Machine Sys2Proof.Laws

/-! ### Strobes -/

section Strobes
variable {s : State} {frame time : Nat}

/-- The strobe is off the link. -/
def strobeTaken (s : State) (frame time : Nat) : State := { s with col := { s.col with toCol := s.col.toCol.erase (.strobe frame time) } }

/-- The answer is on its way back. -/
def strobeAnswered (s : State) (frame t : Nat) : State := { s with col := { s.col with answers := s.col.answers ++ [(frame, t)] } }

theorem strobeTaken_facts : (strobeTaken s frame time).regs = s.regs ∧ (strobeTaken s frame time).col.answers = s.col.answers ∧
    (strobeTaken s frame time).col.toCol = s.col.toCol.erase (.strobe frame time) := ⟨rfl, rfl, rfl⟩

theorem strobeAnswered_facts {t : Nat} : (strobeAnswered s frame t).regs = s.regs ∧
    (strobeAnswered s frame t).col.answers = s.col.answers ++ [(frame, t)] ∧ (strobeAnswered s frame t).col.toCol = s.col.toCol :=
  ⟨rfl, rfl, rfl⟩

theorem keepOpening_eq {t : Nat} : ∃ l, s.keepOpening frame t = { s with col := { s.col with opens := l } } := ⟨_, State.keepOpening.eq_1 s frame t⟩

theorem keepOpening_facts {t : Nat} : (s.keepOpening frame t).regs = s.regs ∧ (s.keepOpening frame t).col.answers = s.col.answers ∧
    (s.keepOpening frame t).col.toCol = s.col.toCol := by
  obtain ⟨l, h⟩ := keepOpening_eq (s := s) (frame := frame) (t := t)
  rw [h]
  exact ⟨rfl, rfl, rfl⟩

theorem frameStrobe_answers (hmsg : s.col.toCol.find? ColMsg.isStrobe = some (.strobe frame time)) (hon : s.col.powered = true)
    (hrun : s.get Reg.COL_STATUS_STATE = 2) (hpll : s.flag Reg.CLK_PLL_STATUS_COL_LOCK = true)
    (hlock : s.requireLock = false ∨ s.disc = 3) :
    ∃ t, execFrameStrobe s = .next t ∧ t.col.answers = s.col.answers ++ [(frame, s.certAt time)] ∧
      t.col.toCol = s.col.toCol.erase (.strobe frame time) ∧
      t.get64 Reg.COL_STROBES = min (s.get64 Reg.COL_STROBES + 1) (2 ^ 64 - 1) := by
  have hmay : (!s.requireLock || s.disc == 3) = true := by
    rcases hlock with h | h <;> simp [h]
  have hnext : execFrameStrobe s = .next (((strobeAnswered (strobeTaken s frame time) frame (s.certAt time)).keepOpening frame
      (s.certAt time)).add64 Reg.COL_STROBES 1) := by
    unfold execFrameStrobe strobeAnswered strobeTaken
    rw [hmsg]
    dsimp only
    rw [if_neg (by simp [hon]), if_pos (by simp [hrun, hpll, hmay])]
  refine ⟨_, hnext, ?_, ?_, (get64_add64_same (by decide)).trans ?_⟩
  · rw [State.add64, put64_col, keepOpening_facts.2.1, strobeAnswered_facts.2.1, strobeTaken_facts.2.1]
  · rw [State.add64, put64_col, keepOpening_facts.2.2, strobeAnswered_facts.2.2, strobeTaken_facts.2.2]
  · rw [get64_regs keepOpening_facts.1, get64_regs strobeAnswered_facts.1, get64_regs strobeTaken_facts.1]

theorem frameStrobe_counts (hmsg : s.col.toCol.find? ColMsg.isStrobe = some (.strobe frame time)) (hon : s.col.powered = true)
    (hwhy : s.get Reg.COL_STATUS_STATE ≠ 2 ∨ s.flag Reg.CLK_PLL_STATUS_COL_LOCK = false) :
    ∃ t, execFrameStrobe s = .next t ∧ t.col.answers = s.col.answers ∧ t.col.toCol = s.col.toCol.erase (.strobe frame time) ∧
      t.get Reg.COL_UNANSWERED = min (s.get Reg.COL_UNANSWERED + 1) (2 ^ 32 - 1) := by
  have hnext : execFrameStrobe s = .next (((strobeTaken s frame time).keepOpening frame 0).inc Reg.COL_UNANSWERED) := by
    unfold execFrameStrobe strobeTaken
    rw [hmsg]
    dsimp only
    rw [if_neg (by simp [hon]), if_neg (by rcases hwhy with h | h <;> simp [h])]
  refine ⟨_, hnext, ?_, ?_, (get_inc_same (by decide) (by decide)).trans ?_⟩
  · rw [State.inc, State.add, put_col, keepOpening_facts.2.1, strobeTaken_facts.2.1]
  · rw [State.inc, State.add, put_col, keepOpening_facts.2.2, strobeTaken_facts.2.2]
  · rw [get_regs keepOpening_facts.1, get_regs strobeTaken_facts.1]
    rfl

end Strobes

/-! ### Timed edges -/

section Edges
variable {s : State} {i : TrigIx} {rising : Bool} {fine : Fin 10}

/-- The arrival of the channel's latest timed edge is noted. -/
def edgeNoted (s : State) (i arrival : Nat) : State := { s with col := { s.col with lastEdge := insertKey s.col.lastEdge i arrival } }

theorem edgeNoted_facts {n arrival : Nat} : (edgeNoted s n arrival).regs = s.regs ∧
    (edgeNoted s n arrival).col.lastEdge = insertKey s.col.lastEdge n arrival := ⟨rfl, rfl⟩

/-- The channel shows an edge at `t` and counts it. -/
def edgeShown (s : State) (i t : Nat) (rising : Bool) : State :=
  (((s.put64 Reg.COL_CH_LAST (t / 10) i).put Reg.COL_CH_LAST_FINE_FINE (t % 10) i).setFlag Reg.COL_CH_LAST_FINE_EDGE (!rising) i).inc
    Reg.COL_CH_COUNT i

theorem edgeShown_facts {t : Nat} : (edgeShown s i.val t rising).col = s.col ∧
    (edgeShown s i.val t rising).get Reg.COL_CH_COUNT i.val = min (s.get Reg.COL_CH_COUNT i.val + 1) (2 ^ 32 - 1) ∧
    (edgeShown s i.val t rising).flag Reg.COL_CH_LAST_FINE_EDGE i.val = !rising := by
  refine ⟨?_, ?_, ?_⟩
  · rw [edgeShown, State.inc, State.add, put_col, State.setFlag, put_col, put_col, put64_col]
  · refine (get_inc_same (by decide) i.isLt).trans ?_
    rw [get_setFlag_apart (by decide) i.isLt, get_put_apart (by decide) i.isLt, get_put64_apart (by decide) i.isLt]
    rfl
  · exact (flag_put_apart (by decide) i.isLt).trans (flag_setFlag_same (by decide) (by decide) i.isLt)

theorem mapRecs_facts {h : OpenRec → OpenRec} : (s.mapRecs h).regs = s.regs ∧ (s.mapRecs h).col.lastEdge = s.col.lastEdge := ⟨rfl, rfl⟩

theorem exposureEdge_facts {n t : Nat} {active : Bool} : (s.exposureEdge n t active).regs = s.regs ∧
    (s.exposureEdge n t active).col.lastEdge = s.col.lastEdge := by
  unfold State.exposureEdge
  split
  · exact ⟨rfl, rfl⟩
  · split <;> exact ⟨rfl, rfl⟩

/-- The open records take an edge over: a trigger event, or a side of an exposure. -/
def edgeRecorded (s : State) (cfg : Word) (i t : Nat) (rising : Bool) : State :=
  (if bitsOf cfg 1 0 = 1 then s.mapRecs (fun r => r.addEvent i t rising)
    else s.exposureEdge i t (rising != (bitsOf cfg 2 2 == 1))).mapRecs (fun r => r.countEdge i)

theorem edgeRecorded_facts {cfg : Word} {n t : Nat} : (edgeRecorded s cfg n t rising).regs = s.regs ∧
    (edgeRecorded s cfg n t rising).col.lastEdge = s.col.lastEdge := by
  unfold edgeRecorded
  split
  · exact ⟨mapRecs_facts.1.trans mapRecs_facts.1, mapRecs_facts.2.trans mapRecs_facts.2⟩
  · exact ⟨mapRecs_facts.1.trans exposureEdge_facts.1, mapRecs_facts.2.trans exposureEdge_facts.2⟩

/-- The edge's certified time less the channel's DELAY. -/
def edgeTime (cfg : Word) (arrival : Nat) : Nat :=
  if bitsOf cfg 31 16 < 0x8000 then arrival - bitsOf cfg 31 16 else arrival + (0x10000 - bitsOf cfg 31 16)

theorem tdcEdge_times (hon : s.col.powered = true) (hrun : s.get Reg.COL_STATUS_STATE = 2)
    (hsel : tdcTimes (s.tdcCfg i.val) rising = true) (hfirst : s.col.lastEdge.lookup i.val = none) :
    execTdcEdge i rising fine s = .next (edgeRecorded (edgeShown (edgeNoted s i.val (10 * s.cert + fine.val)) i.val
      (edgeTime (s.tdcCfg i.val) (10 * s.cert + fine.val)) rising) (s.tdcCfg i.val) i.val
      (edgeTime (s.tdcCfg i.val) (10 * s.cert + fine.val)) rising) := by
  unfold execTdcEdge edgeRecorded edgeShown edgeNoted edgeTime
  dsimp only
  rw [if_neg (by simp [hon, hrun, hsel]), hfirst]
  dsimp only
  rw [if_neg (by decide)]

theorem tdcEdge_overruns {x : Nat} (hon : s.col.powered = true) (hrun : s.get Reg.COL_STATUS_STATE = 2)
    (hsel : tdcTimes (s.tdcCfg i.val) rising = true) (hlast : s.col.lastEdge.lookup i.val = some x)
    (hnear : 10 * s.cert + fine.val < x + 400) :
    execTdcEdge i rising fine s = .next ((s.inc Reg.COL_CH_OVERRUN i.val).colEvent Reg.COL_STATUS_OVERRUN_EV) := by
  unfold execTdcEdge
  dsimp only
  rw [if_neg (by simp [hon, hrun, hsel]), hlast]
  dsimp only
  rw [if_pos (by simp [hnear])]

end Edges

/-! ### Take records -/

section Records
variable {s : State} {g id frame : Nat}

/-- A message of the right kind that a RUNNING colophon finds first is taken off the link and processed. -/
theorem colMessage_taken {m : ColMsg} {kind : ColMsg → Bool} (hmsg : s.col.toCol.find? (fun m => !m.isStrobe) = some m)
    (hkind : kind m = true) (hon : s.col.powered = true) (hrun : s.get Reg.COL_STATUS_STATE = 2) :
    s.colMessage kind = (s.dropTakeMsg m).colTake m := by
  unfold State.colMessage
  rw [hmsg]
  dsimp only
  rw [if_neg (by simp [hkind, hrun]), if_pos (by simp [hon, hrun])]

/-- A new record of a take. -/
def openedRec (s : State) (g id : Nat) : OpenRec :=
  { seg := g, takeId := id, discWorst := s.disc, openCert := s.cert, uncMax := s.get Reg.COL_UNC,
    flags := if s.flag Reg.CLK_PLL_STATUS_COL_LOCK then 0 else 4 }

theorem takeOpenMessage_opens (hmsg : s.col.toCol.find? (fun m => !m.isStrobe) = some (.openTake g id)) (hon : s.col.powered = true)
    (hrun : s.get Reg.COL_STATUS_STATE = 2) :
    ∃ t, execTakeOpenMessage s = .next t ∧ t.regs = s.regs ∧
      ∃ r : OpenRec, r.seg = g ∧ r.takeId = id ∧ r.discWorst = s.disc ∧ r.openCert = s.cert ∧ r.stored = [] ∧
        t.col.recs = s.col.recs.filter (fun q => q.seg != g) ++ [r] := by
  rw [execTakeOpenMessage, colMessage_taken hmsg rfl hon hrun]
  exact ⟨_, rfl, rfl, openedRec (s.dropTakeMsg (.openTake g id)) g id, rfl, rfl, rfl, rfl, rfl, rfl⟩

theorem membershipDecision_counts {uncert : Bool}
    (hmsg : s.col.toCol.find? (fun m => !m.isStrobe) = some (.member g frame false uncert)) (hon : s.col.powered = true)
    (hrun : s.get Reg.COL_STATUS_STATE = 2) (hroom : s.col.opens.length < 65536) :
    ∃ t, execMembershipDecision s = .next t ∧ t.regs = s.regs ∧
      t.col.recs = s.col.recs.map (fun r => if r.seg != g then r else { r with notStored := r.notStored + 1 }) := by
  have hkept : decide (65536 ≤ (s.dropTakeMsg (.member g frame false uncert)).col.opens.length) = false :=
    decide_eq_false (Nat.not_le.mpr hroom)
  rw [execMembershipDecision, colMessage_taken hmsg rfl hon hrun]
  refine ⟨_, rfl, rfl, ?_⟩
  refine List.map_congr_left fun r _ => ?_
  rw [hkept, Bool.false_and]
  rfl

/-- The record that a CLOSE signs, kept. -/
theorem closeRec_facts {r : OpenRec} {first trig last flags : Nat} {link : Bool} :
    (s.closeRec r first trig last flags link).col.recordSeq = s.col.recordSeq + 1 ∧
    (s.closeRec r first trig last flags link).col.recs = s.col.recs.filter (fun q => q.seg != r.seg) ∧
    (s.closeRec r first trig last flags link).get64 Reg.COL_REC_HEAD = (s.col.recordSeq + 1) % 2 ^ 64 ∧
    (s.closeRec r first trig last flags link).flag Reg.COL_STATUS_RECORD_EV = true ∧
    (link = false → (s.closeRec r first trig last flags link).col.outRecords = s.col.outRecords) := by
  have hhead : ∀ (u : State) (n : Nat), ((u.put64 Reg.COL_REC_HEAD n).colEvent Reg.COL_STATUS_RECORD_EV).get64 Reg.COL_REC_HEAD = n % 2 ^ 64 ∧
      ((u.put64 Reg.COL_REC_HEAD n).colEvent Reg.COL_STATUS_RECORD_EV).flag Reg.COL_STATUS_RECORD_EV = true ∧
      ((u.put64 Reg.COL_REC_HEAD n).colEvent Reg.COL_STATUS_RECORD_EV).col = u.col := by
    intro u n
    have hev : Moves 0x200000200008000000000000000000000000000000000000000000000000000000000000100000 (u.put64 Reg.COL_REC_HEAD n)
        ((u.put64 Reg.COL_REC_HEAD n).colEvent Reg.COL_STATUS_RECORD_EV) := mv_colEvent Moves.refl (by decide +kernel)
    exact ⟨(get64_of_moves hev (by decide +kernel) (by decide)).trans (get64_put64_same (by decide)),
      colEvent_flag (by decide) (by decide) (by decide) (by decide) (by decide), colEvent_col.trans put64_col⟩
  unfold State.closeRec
  dsimp only
  refine ⟨?_, ?_, (hhead _ _).1, (hhead _ _).2.1, fun hlink => ?_⟩
  · rw [(hhead _ _).2.2]
    rfl
  · rw [(hhead _ _).2.2]
    rfl
  · rw [(hhead _ _).2.2, hlink]
    rfl

theorem takeCloseMessage_closes {first trig last : Nat} {save : Bool} {r : OpenRec}
    (hmsg : s.col.toCol.find? (fun m => !m.isStrobe) = some (.closeTake g id first trig last save)) (hon : s.col.powered = true)
    (hrun : s.get Reg.COL_STATUS_STATE = 2) (hrec : s.col.recs.find? (fun r => r.seg == g && r.takeId == id) = some r) :
    ∃ t, execTakeCloseMessage s = .next t ∧ t.col.recordSeq = s.col.recordSeq + 1 ∧
      t.col.recs = s.col.recs.filter (fun q => q.seg != r.seg) ∧ t.get64 Reg.COL_REC_HEAD = (s.col.recordSeq + 1) % 2 ^ 64 ∧
      t.flag Reg.COL_STATUS_RECORD_EV = true := by
  have hfound : (s.dropTakeMsg (.closeTake g id first trig last save)).col.recs.find? (fun r => r.seg == g && r.takeId == id) = some r :=
    hrec
  rw [execTakeCloseMessage, colMessage_taken hmsg rfl hon hrun]
  unfold State.colTake
  dsimp only
  rw [hfound]
  obtain ⟨hseq, hrecs, hhead, hev, -⟩ := closeRec_facts (s := s.dropTakeMsg (.closeTake g id first trig last save)) (r := r)
    (first := first) (trig := trig) (last := last) (flags := if save then 8 else 0) (link := true)
  exact ⟨_, rfl, hseq, hrecs, hhead, hev⟩

/-- The take of a discarded OPEN gets no record. -/
theorem takeOpenMessage_discards (hmsg : s.col.toCol.find? (fun m => !m.isStrobe) = some (.openTake g id))
    (hwhy : s.col.powered = false ∨ (s.get Reg.COL_STATUS_STATE ≠ 1 ∧ s.get Reg.COL_STATUS_STATE ≠ 2)) :
    ∃ t, execTakeOpenMessage s = .next t ∧ t.regs = s.regs ∧ t.col.recs = s.col.recs ∧ t.col.discarded = s.col.discarded ++ [id] := by
  have hstill : ∀ n, n = 1 ∨ n = 2 → (s.col.powered && decide (s.get Reg.COL_STATUS_STATE = n)) = false := by
    rintro n (rfl | rfl) <;> rcases hwhy with h | ⟨h1, h2⟩ <;> simp [*]
  unfold execTakeOpenMessage State.colMessage
  rw [hmsg]
  dsimp only
  rw [hstill 1 (.inl rfl), hstill 2 (.inr rfl), if_neg (by simp [isOpenMsg]), if_neg (by decide)]
  exact ⟨_, rfl, rfl, rfl, rfl⟩

theorem closeAll_facts {l : List OpenRec} {flags : Nat} :
    (l.foldl (fun t r => t.closeRec r 0 0 0 flags false) s).col.recs = s.col.recs.filter (fun q => l.all fun r => q.seg != r.seg) ∧
    (l.foldl (fun t r => t.closeRec r 0 0 0 flags false) s).col.outRecords = s.col.outRecords := by
  induction l generalizing s with
  | nil => exact ⟨(List.filter_eq_self.mpr fun _ _ => rfl).symm, rfl⟩
  | cons r l ih =>
    obtain ⟨-, hrecs, -, -, hout⟩ := closeRec_facts (s := s) (r := r) (first := 0) (trig := 0) (last := 0) (flags := flags) (link := false)
    rw [List.foldl_cons]
    refine ⟨ih.1.trans ?_, ih.2.trans (hout rfl)⟩
    rw [hrecs, List.filter_filter]
    refine List.filter_congr fun q _ => ?_
    rw [List.all_cons, Bool.and_comm]

/-- The link's heartbeat is awaited again. -/
def unheard (s : State) : State := { s with col := { s.col with heartbeatSeen := false } }

theorem unheard_facts : (unheard s).col.recs = s.col.recs ∧ (unheard s).col.outRecords = s.col.outRecords := ⟨rfl, rfl⟩

theorem colophonLinkLost_facts (hon : s.col.powered = true) (hseen : s.col.heartbeatSeen = true) :
    ∃ t, execColophonLinkLost s = .next t ∧ t.flag Reg.COL_STATUS_LINK_EV = true ∧ t.col.outRecords = s.col.outRecords ∧
      t.col.recs = [] := by
  have hnext : execColophonLinkLost s = .next (((unheard s).closeAllRecs 16 false).colEvent Reg.COL_STATUS_LINK_EV) := by
    unfold execColophonLinkLost unheard
    rw [if_neg (by simp [hon, hseen])]
  refine ⟨_, hnext, colEvent_flag (by decide) (by decide) (by decide) (by decide) (by decide), ?_, ?_⟩
  · rw [colEvent_col, State.closeAllRecs, closeAll_facts.2, unheard_facts.2]
  · rw [colEvent_col, State.closeAllRecs, closeAll_facts.1, List.filter_eq_nil_iff]
    intro q hq hall
    have hself := List.all_eq_true.mp hall q hq
    simp at hself

end Records

/-- Settles O47: strobes, timed edges and the records of takes. -/
theorem takeRecords : Obligations.TakeRecords := by
  unfold Obligations.TakeRecords
  refine ⟨?_, ?_, ?_, ?_, ?_, ?_, ?_, ?_, ?_, ?_⟩
  case _ =>
    intro frame time s hmsg hon hrun hpll hlock
    obtain ⟨t, hnext, hans, hmsgs, hcount⟩ := frameStrobe_answers hmsg hon hrun hpll hlock
    exact ⟨t, hnext, hans, hmsgs, hcount, keeps_of_next mv_execFrameStrobe hnext (by decide +kernel)⟩
  case _ =>
    intro frame time s hmsg hon hwhy
    obtain ⟨t, hnext, hans, hmsgs, hcount⟩ := frameStrobe_counts hmsg hon hwhy
    exact ⟨t, hnext, hans, hmsgs, hcount, keeps_of_next mv_execFrameStrobe hnext (by decide +kernel)⟩
  case _ =>
    intro i rising fine s hon hrun hsel hfirst
    have hnext := tdcEdge_times (fine := fine) hon hrun hsel hfirst
    obtain ⟨hcol, hcount, hedge⟩ := edgeShown_facts (s := edgeNoted s i.val (10 * s.cert + fine.val)) (i := i) (rising := rising)
      (t := edgeTime (s.tdcCfg i.val) (10 * s.cert + fine.val))
    refine ⟨_, hnext, ?_, ?_, ?_, keeps_of_next mv_execTdcEdge hnext (by decide +kernel)⟩
    · rw [get_regs edgeRecorded_facts.1, hcount, get_regs edgeNoted_facts.1]
    · rw [edgeRecorded_facts.2, hcol, edgeNoted_facts.2]
    · rw [flag_regs edgeRecorded_facts.1, hedge]
  case _ =>
    intro i rising fine x s hon hrun hsel hlast hnear
    have hnext := tdcEdge_overruns hon hrun hsel hlast hnear
    refine ⟨_, hnext, ?_, colEvent_col.trans put_col, keeps_of_next mv_execTdcEdge hnext (by decide +kernel)⟩
    exact (colEvent_get (by decide) i.isLt (by decide) (by decide)).trans (get_inc_same (by decide) i.isLt)
  case _ =>
    intro g id s hmsg hon hrun
    obtain ⟨t, hnext, hregs, hrec⟩ := takeOpenMessage_opens hmsg hon hrun
    exact ⟨t, hnext, hregs, hrec, keeps_of_next mv_execTakeOpenMessage hnext (by decide +kernel)⟩
  case _ =>
    intro g frame uncert s hmsg hon hrun hroom
    obtain ⟨t, hnext, hregs, hrecs⟩ := membershipDecision_counts hmsg hon hrun hroom
    exact ⟨t, hnext, hregs, hrecs, keeps_of_next mv_execMembershipDecision hnext (by decide +kernel)⟩
  case _ =>
    intro g id first trig last save r s hmsg hon hrun hrec
    obtain ⟨t, hnext, hseq, hrecs, hhead, hev⟩ := takeCloseMessage_closes hmsg hon hrun hrec
    exact ⟨t, hnext, hseq, hrecs, hhead, hev, keeps_of_next mv_execTakeCloseMessage hnext (by decide +kernel)⟩
  case _ =>
    intro g id s hmsg hwhy
    obtain ⟨t, hnext, hregs, hrecs, hgone⟩ := takeOpenMessage_discards hmsg hwhy
    exact ⟨t, hnext, hregs, hrecs, hgone, keeps_of_next mv_execTakeOpenMessage hnext (by decide +kernel)⟩
  case _ =>
    intro s
    have hnext : execColophonHeartbeatSend s = .next { s with col := { s.col with heartbeatSeen := true } } := rfl
    exact ⟨_, hnext, rfl, keeps_of_next mv_execColophonHeartbeatSend hnext (by decide +kernel)⟩
  case _ =>
    intro s hon hseen
    obtain ⟨t, hnext, hev, hout, hrecs⟩ := colophonLinkLost_facts hon hseen
    exact ⟨t, hnext, hev, hout, hrecs, keeps_of_next mv_execColophonLinkLost hnext (by decide +kernel)⟩

end Sys2Proof.Proofs
end

section
/-!
The embedded flash: unlock, program, erase, windows, logs and journals (18 R449 to R466).
-/
set_option Elab.async false

namespace Sys2Proof.Proofs
open Sys2Proof Sys2Proof.Machine Sys2Proof.Laws

/-! ### The command port -/

section Port
variable {s : State} {q : Requester} {v : Word}

theorem efcKeyWrite_first (hopen : s.barShut q = false) (hhost : hostPort q = true) (hseq : s.get Reg.EFC_STATUS_SEQ = 0)
    (hkey : bitsOf v 15 0 = 0x6E2A) :
    ∃ t, execEfcKeyWrite q v s = .next t ∧ t.get Reg.EFC_STATUS_SEQ = 1 ∧ t.efc = { s.efc with owner := some q } := by
  unfold execEfcKeyWrite
  rw [if_neg (by simp [hopen]), if_neg (by simp [hhost])]
  dsimp only
  rw [if_pos (by simp [hseq, hkey])]
  exact ⟨_, rfl, get_put_same (by decide) (by decide), put_efc⟩

theorem efcKeyWrite_second (hopen : s.barShut q = false) (hhost : hostPort q = true) (hseq : s.get Reg.EFC_STATUS_SEQ = 1)
    (howner : s.efc.owner = some q) (hkey : bitsOf v 15 0 = 0x91D5) :
    ∃ t, execEfcKeyWrite q v s = .next t ∧ t.get Reg.EFC_STATUS_SEQ = 2 ∧ t.efc = s.efc := by
  unfold execEfcKeyWrite
  rw [if_neg (by simp [hopen]), if_neg (by simp [hhost])]
  dsimp only
  rw [if_neg (by simp [hseq]), if_pos (by simp [hseq, howner, hkey])]
  exact ⟨_, rfl, get_put_same (by decide) (by decide), put_efc⟩

theorem efcKeyWrite_wrong (hopen : s.barShut q = false) (hhost : hostPort q = true) (hseq : s.get Reg.EFC_STATUS_SEQ = 0)
    (hkey : bitsOf v 15 0 ≠ 0x6E2A) : execEfcKeyWrite q v s = .next s.efcAbandon := by
  unfold execEfcKeyWrite
  rw [if_neg (by simp [hopen]), if_neg (by simp [hhost])]
  dsimp only
  rw [if_neg (by simp [hkey]), if_neg (by simp [hseq])]

theorem efcAbandon_errs : s.efcAbandon.flag Reg.EFC_STATUS_SEQ_ERR = true := event_flag (by decide) (by decide)

/-- The registers of a command that ends: RESULT and DONE_EV. -/
def efcShown (s : State) (code : Nat) : State :=
  (((((s.put Reg.EFC_RESULT_CODE code).put Reg.EFC_STATUS_SEQ 0).setFlag Reg.EFC_STATUS_BUSY0 false).setFlag Reg.EFC_STATUS_BUSY1
    false).setFlag Reg.EFC_STATUS_SUSPENDED false).event Reg.EFC_STATUS_DONE_EV

theorem efcShown_efc {code : Nat} : (efcShown s code).efc = s.efc := by
  simp only [efcShown, event_efc, State.setFlag, put_efc]

theorem efcShown_get {code : Nat} {f : Fld} (hf : 0 < f.count) (h : (apart Reg.EFC_RESULT_CODE f && apart Reg.EFC_STATUS_SEQ f &&
    apart Reg.EFC_STATUS_BUSY0 f && apart Reg.EFC_STATUS_BUSY1 f && apart Reg.EFC_STATUS_SUSPENDED f &&
    apart Reg.EFC_STATUS_DONE_EV f && apart Reg.MSIX0_PBA f && apart Reg.MSIX1_PBA f) = true) :
    (efcShown s code).get f = s.get f := by
  simp only [Bool.and_eq_true] at h
  obtain ⟨⟨⟨⟨⟨⟨⟨hcode, hseq⟩, hbusy0⟩, hbusy1⟩, hsusp⟩, hdone⟩, h0⟩, h1⟩ := h
  refine (event_get hdone hf h0 h1).trans ((get_setFlag_apart hsusp hf).trans ((get_setFlag_apart hbusy1 hf).trans ?_))
  exact (get_setFlag_apart hbusy0 hf).trans ((get_put_apart hseq hf).trans (get_put_apart hcode hf))

theorem efcShown_code {code : Nat} (hcode : code < 8) : (efcShown s code).get Reg.EFC_RESULT_CODE = code := by
  refine (event_get (by decide) (by decide) (by decide) (by decide)).trans ((get_setFlag_apart (by decide) (by decide)).trans ?_)
  refine (get_setFlag_apart (by decide) (by decide)).trans ((get_setFlag_apart (by decide) (by decide)).trans ?_)
  exact (get_put_apart (by decide) (by decide)).trans ((get_put_same (by decide) (by decide)).trans (Nat.mod_eq_of_lt hcode))

/-- The port is free. -/
def efcFreed (s : State) : State := { s with efc := { s.efc with run := none, owner := none, op := none, words := [] } }

theorem efcFreed_facts : (efcFreed s).regs = s.regs ∧ (efcFreed s).efc.flash = s.efc.flash ∧ (efcFreed s).efc.run = none :=
  ⟨rfl, rfl, rfl⟩

theorem efcResult_eq {code : Nat} : s.efcResult code = efcFreed (efcShown s code) := rfl

/-- A command that ends with a code keeps the flash as it stands. -/
theorem efcResult_facts {code : Nat} (hcode : code < 8) : (s.efcResult code).get Reg.EFC_RESULT_CODE = code ∧
    (s.efcResult code).flag Reg.EFC_STATUS_DONE_EV = true ∧ (s.efcResult code).efc.flash = s.efc.flash ∧
    (s.efcResult code).efc.run = none := by
  rw [efcResult_eq]
  refine ⟨(get_regs efcFreed_facts.1).trans (efcShown_code hcode), ?_, ?_, efcFreed_facts.2.2⟩
  · exact (flag_regs efcFreed_facts.1).trans (event_flag (by decide) (by decide))
  · exact efcFreed_facts.2.1.trans (congrArg EfcSt.flash efcShown_efc)

theorem efcResult_get {code : Nat} {f : Fld} (hf : 0 < f.count) (h : (apart Reg.EFC_RESULT_CODE f && apart Reg.EFC_STATUS_SEQ f &&
    apart Reg.EFC_STATUS_BUSY0 f && apart Reg.EFC_STATUS_BUSY1 f && apart Reg.EFC_STATUS_SUSPENDED f &&
    apart Reg.EFC_STATUS_DONE_EV f && apart Reg.MSIX0_PBA f && apart Reg.MSIX1_PBA f) = true) :
    (s.efcResult code).get f = s.get f := by
  rw [efcResult_eq]
  exact (get_regs efcFreed_facts.1).trans (efcShown_get hf h)

variable {op : FlashOp} {a : Nat} {data : List Byte}

/-- The host port runs an operation. -/
def efcRunning (s : State) (op : FlashOp) (a : Nat) (data : List Byte) : State :=
  { s with efc := { s.efc with run := some { op, addr := a, data }, owner := none, op := none, words := [] } }

theorem efcRunning_facts : (efcRunning s op a data).efc.run = some ⟨op, a, data⟩ ∧ (efcRunning s op a data).efc.flash = s.efc.flash ∧
    (efcRunning s op a data).efc.otp = s.efc.otp := ⟨rfl, rfl, rfl⟩

/-- The port's registers while an operation runs. -/
def efcBusy (s : State) (op : FlashOp) (a : Nat) : State :=
  let s2 := (s.put Reg.EFC_STATUS_SEQ 6).put Reg.EFC_RESULT_CODE 1
  if op = .program || op = .sectorErase then
    s2.setFlag (if a / 0x1000000 = 0 then Reg.EFC_STATUS_BUSY0 else Reg.EFC_STATUS_BUSY1) true
  else s2

theorem efcBusy_facts : (efcBusy s op a).get Reg.EFC_STATUS_SEQ = 6 ∧ (efcBusy s op a).get Reg.EFC_RESULT_CODE = 1 ∧
    (efcBusy s op a).efc = s.efc := by
  have hseq : ((s.put Reg.EFC_STATUS_SEQ 6).put Reg.EFC_RESULT_CODE 1).get Reg.EFC_STATUS_SEQ = 6 :=
    (get_put_apart (by decide) (by decide)).trans (get_put_same (by decide) (by decide))
  have hcode : ((s.put Reg.EFC_STATUS_SEQ 6).put Reg.EFC_RESULT_CODE 1).get Reg.EFC_RESULT_CODE = 1 :=
    get_put_same (by decide) (by decide)
  unfold efcBusy
  dsimp only
  split
  · refine ⟨?_, ?_, ?_⟩
    · exact (get_setFlag_apart (by split <;> decide) (by decide)).trans hseq
    · exact (get_setFlag_apart (by split <;> decide) (by decide)).trans hcode
    · rw [State.setFlag, put_efc, put_efc, put_efc]
  · exact ⟨hseq, hcode, put_efc.trans put_efc⟩

theorem efcStart_runs (hopen : s.efc.refuse = false) (hmay : s.mayFlash op a = true) :
    s.efcStart op a data = efcBusy (efcRunning s op a data) op a := by
  unfold State.efcStart efcBusy efcRunning
  rw [if_neg (by simp [hopen]), if_neg (by simp [hmay])]

/-- What a started operation shows. -/
theorem efcStart_facts (hopen : s.efc.refuse = false) (hmay : s.mayFlash op a = true) :
    (s.efcStart op a data).get Reg.EFC_STATUS_SEQ = 6 ∧ (s.efcStart op a data).get Reg.EFC_RESULT_CODE = 1 ∧
    (s.efcStart op a data).efc.run = some ⟨op, a, data⟩ ∧ (s.efcStart op a data).efc.flash = s.efc.flash ∧
    (s.efcStart op a data).efc.otp = s.efc.otp := by
  obtain ⟨hseq, hcode, hefc⟩ := efcBusy_facts (s := efcRunning s op a data) (op := op) (a := a)
  obtain ⟨hrun, hflash, hotp⟩ := efcRunning_facts (s := s) (op := op) (a := a) (data := data)
  rw [efcStart_runs hopen hmay, hefc]
  exact ⟨hseq, hcode, hrun, hflash, hotp⟩

theorem efcStart_protected (hopen : s.efc.refuse = false) (hmay : s.mayFlash op a = false) :
    s.efcStart op a data = (s.event Reg.EFC_STATUS_PROT_VIOL).efcResult 3 := by
  unfold State.efcStart
  rw [if_neg (by simp [hopen]), if_pos (by simp [hmay])]

/-- The bytes that eight DATA writes give. -/
def dataBytes (words : List Word) : List Byte := words.foldl (fun b w => b ++ leBytes 4 w.toNat) []

theorem efcData_starts (hhost : hostPort q = true) (hseq : s.get Reg.EFC_STATUS_SEQ = 5) (howner : s.efc.owner = some q)
    (hlast : s.efc.words.length = 7) (hop : s.efc.op = some op) :
    s.efcData q v = s.efcStart op (s.get Reg.EFC_ADDR_ADDR) (dataBytes (s.efc.words ++ [v])) := by
  unfold State.efcData
  rw [if_neg (by simp [hhost])]
  dsimp only
  rw [if_neg (by simp [hseq, howner]), if_neg (by simp [hlast]), hop]
  rfl

theorem program_writes (hopen : s.barShut q = false) (hop : s.efc.op = some .program) (hlast : s.efc.words.length = 7) :
    execProgram q v s = .next (s.efcData q v) := by
  unfold execProgram
  rw [if_neg (by simp [hopen]), if_pos (by simp [hop, hlast])]

theorem otpProgram_writes (hopen : s.barShut q = false) (hop : s.efc.op = some .otpProgram) (hlast : s.efc.words.length = 7) :
    execOtpProgram q v s = .next (s.efcData q v) := by
  unfold execOtpProgram
  rw [if_neg (by simp [hopen]), if_pos (by simp [hop, hlast])]

theorem mayFlash_put_addr {n : Nat} : (s.put Reg.EFC_ADDR_ADDR n).mayFlash op a = s.mayFlash op a := by
  unfold State.mayFlash State.locked
  rw [flag_put_apart (by decide) (by decide), get_put_apart (by decide) (by decide)]

theorem efcAddr_erases (hhost : hostPort q = true) (hseq : s.get Reg.EFC_STATUS_SEQ = 3) (howner : s.efc.owner = some q)
    (hop : s.efc.op = some .sectorErase) (haligned : bitsOf v 24 0 % 4096 = 0) :
    s.efcAddr q v (· = .sectorErase) = (s.put Reg.EFC_ADDR_ADDR (bitsOf v 24 0)).efcStart .sectorErase (bitsOf v 24 0) [] := by
  unfold State.efcAddr
  rw [if_neg (by simp [hhost])]
  dsimp only
  rw [hop]
  dsimp only
  rw [if_neg (by simp [hseq, howner, haligned]), if_pos (by decide)]

theorem efcAddr_checks (hhost : hostPort q = true) (hseq : s.get Reg.EFC_STATUS_SEQ = 3) (howner : s.efc.owner = some q)
    (hop : s.efc.op = some .blankCheck) (haligned : bitsOf v 24 0 % 4096 = 0) :
    s.efcAddr q v (· = .blankCheck) = (s.put Reg.EFC_ADDR_ADDR (bitsOf v 24 0)).efcStart .blankCheck (bitsOf v 24 0) [] := by
  unfold State.efcAddr
  rw [if_neg (by simp [hhost])]
  dsimp only
  rw [hop]
  dsimp only
  rw [if_neg (by simp [hseq, howner, haligned]), if_pos (by decide)]

/-- The ADDR write that starts an operation without data. -/
theorem addressed_facts {n : Nat} (hopen : s.efc.refuse = false) (hmay : s.mayFlash op n = true) :
    ((s.put Reg.EFC_ADDR_ADDR n).efcStart op n []).get Reg.EFC_STATUS_SEQ = 6 ∧
    ((s.put Reg.EFC_ADDR_ADDR n).efcStart op n []).get Reg.EFC_RESULT_CODE = 1 ∧
    ((s.put Reg.EFC_ADDR_ADDR n).efcStart op n []).efc.run = some ⟨op, n, []⟩ := by
  obtain ⟨hseq, hcode, hrun, -, -⟩ := efcStart_facts (s := s.put Reg.EFC_ADDR_ADDR n) (data := []) (by rw [put_efc]; exact hopen)
    (mayFlash_put_addr.trans hmay)
  exact ⟨hseq, hcode, hrun⟩

end Port

/-! ### The end of an operation -/

section Complete
variable {s : State} {r : FlashRun}

theorem flashPut_facts {a : Nat} {b : List Byte} : (s.flashPut a b).regs = s.regs ∧
    ∀ u : State, u.efc.flash = s.efc.flash → (u.flashPut a b).efc.flash = (s.flashPut a b).efc.flash := by
  refine ⟨rfl, fun u h => ?_⟩
  unfold State.flashPut
  rw [h]

theorem efcOperationComplete_programs (hrun : s.efc.run = some r) (hgo : s.flag Reg.EFC_STATUS_SUSPENDED = false)
    (hop : r.op = .program) (hblank : allBlank (s.flashRead r.addr 32) = true) (hlive : s.deadSector r.addr = false) :
    ∃ t, execEfcOperationComplete true s = .next t ∧ t.get Reg.EFC_RESULT_CODE = 2 ∧ t.flag Reg.EFC_STATUS_DONE_EV = true ∧
      t.efc.flash = (s.flashPut r.addr r.data).efc.flash ∧ t.efc.run = none ∧
      t.get Reg.EFC_PROGRAMS = min (s.get Reg.EFC_PROGRAMS + 1) (2 ^ 32 - 1) := by
  have hnext : execEfcOperationComplete true s = .next (((s.inc Reg.EFC_PROGRAMS).flashPut r.addr r.data).efcResult 2) := by
    unfold execEfcOperationComplete
    rw [hrun]
    dsimp only
    rw [if_neg (by simp [hgo]), hop]
    dsimp only
    rw [if_neg (by simp [hblank, hlive]), if_pos rfl]
  obtain ⟨hcode, hdone, hflash, hend⟩ := efcResult_facts (s := (s.inc Reg.EFC_PROGRAMS).flashPut r.addr r.data) (code := 2) (by decide)
  refine ⟨_, hnext, hcode, hdone, hflash.trans (flashPut_facts.2 _ (congrArg EfcSt.flash put_efc)), hend, ?_⟩
  rw [efcResult_get (by decide) (by decide), get_regs flashPut_facts.1, get_inc_same (by decide) (by decide)]
  rfl

theorem efcOperationComplete_notBlank {b : Bool} (hrun : s.efc.run = some r) (hgo : s.flag Reg.EFC_STATUS_SUSPENDED = false)
    (hop : r.op = .program) (hblank : allBlank (s.flashRead r.addr 32) = false) :
    execEfcOperationComplete b s = .next (s.efcResult 4) := by
  unfold execEfcOperationComplete
  rw [hrun]
  dsimp only
  rw [if_neg (by simp [hgo]), hop]
  dsimp only
  rw [if_pos (by simp [hblank])]

/-- A sector is erased. -/
def sectorErased (s : State) (a : Nat) : State :=
  { s with efc := { s.efc with flash := sclear s.efc.flash a (a + 4096), dead := s.efc.dead.filter (· != a / 4096) } }

theorem sectorErased_flash {a : Nat} : (sectorErased s a).efc.flash = sclear s.efc.flash a (a + 4096) := rfl

theorem efcOperationComplete_erases {b : Bool} (hrun : s.efc.run = some r) (hgo : s.flag Reg.EFC_STATUS_SUSPENDED = false)
    (hop : r.op = .sectorErase) :
    ∃ t, execEfcOperationComplete b s = .next t ∧ t.get Reg.EFC_RESULT_CODE = 2 ∧
      t.efc.flash = sclear s.efc.flash r.addr (r.addr + 4096) ∧ t.efc.run = none := by
  have hnext : execEfcOperationComplete b s = .next (((sectorErased s r.addr).inc Reg.EFC_ERASES).efcResult 2) := by
    unfold execEfcOperationComplete sectorErased
    rw [hrun]
    dsimp only
    rw [if_neg (by simp [hgo]), hop]
  obtain ⟨hcode, -, hflash, hend⟩ := efcResult_facts (s := (sectorErased s r.addr).inc Reg.EFC_ERASES) (code := 2) (by decide)
  exact ⟨_, hnext, hcode, hflash.trans ((congrArg EfcSt.flash put_efc).trans sectorErased_flash), hend⟩

theorem efcEraseSuspend_shows {resume : Bool} (hrun : s.efc.run = some r) (hop : r.op = .sectorErase) :
    execEfcEraseSuspend resume s = .next (s.setFlag Reg.EFC_STATUS_SUSPENDED (!resume)) := by
  unfold execEfcEraseSuspend
  rw [hrun]
  dsimp only
  rw [if_pos hop]

end Complete

/-! ### Windows, logs, journals -/

section Windows
variable {s : State} {q : Requester} {addr len : Nat}

theorem bankIdle {a : Nat} (hbusy0 : s.flag Reg.EFC_STATUS_BUSY0 = false) (hbusy1 : s.flag Reg.EFC_STATUS_BUSY1 = false) :
    ¬ s.flag (if a / 0x1000000 = 0 then Reg.EFC_STATUS_BUSY0 else Reg.EFC_STATUS_BUSY1) = true := by
  split
  · simp [hbusy0]
  · simp [hbusy1]

theorem efcWindowRead_answers (hopen : s.barShut q = false) (hlow : 0x2000000 ≤ addr) (hhigh : addr + len ≤ 0x4000000)
    (hbusy0 : s.flag Reg.EFC_STATUS_BUSY0 = false) (hbusy1 : s.flag Reg.EFC_STATUS_BUSY1 = false)
    (hdata : 0xE00000 ≤ addr % 0x1000000) (hlive : s.deadSector (addr - 0x2000000) = false) :
    execEfcWindowRead q addr len [] s = .next (s.emit (.reply (s.flashRead (addr - 0x2000000) len) [])) := by
  unfold execEfcWindowRead
  rw [if_neg (by simp [hopen]), if_neg (by simp; omega)]
  dsimp only
  rw [if_neg (bankIdle hbusy0 hbusy1), if_neg (by omega)]
  simp only [List.filter_nil, List.foldl_nil, List.any_nil, Bool.false_eq_true, if_false, hlive]

theorem efcWindowRead_hides {errs : List (Nat × Nat)} (hopen : s.barShut q = false) (hlow : 0x2000000 ≤ addr)
    (hhigh : addr + len ≤ 0x4000000) (hbusy0 : s.flag Reg.EFC_STATUS_BUSY0 = false) (hbusy1 : s.flag Reg.EFC_STATUS_BUSY1 = false)
    (hcode : addr % 0x1000000 < 0xE00000) :
    execEfcWindowRead q addr len errs s = .next ((s.event Reg.EFC_STATUS_XO_VIOL).emit (.reply (zeros len) [])) := by
  unfold execEfcWindowRead
  rw [if_neg (by simp [hopen]), if_neg (by simp; omega)]
  dsimp only
  rw [if_neg (bankIdle hbusy0 hbusy1), if_pos (by omega)]

theorem efcWindowWrite_refused {v : Word} (hopen : s.barShut q = false) (hlow : 0x2000000 ≤ addr) (hhigh : addr < 0x4000000) :
    execEfcWindowWrite q addr v s = .next (s.event Reg.EFC_STATUS_PROT_VIOL) := by
  unfold execEfcWindowWrite
  rw [if_neg (by simp [hopen]), if_neg (by simp; omega)]

theorem efcCntClr_facts : ∃ t, execEfcCntClr s = .next t ∧ t.get Reg.EFC_PROGRAMS = 0 ∧ t.get Reg.EFC_ERASES = 0 ∧
    t.get Reg.EFC_CORRECTED = 0 ∧ t.get Reg.EFC_UE = 0 := by
  unfold execEfcCntClr
  refine ⟨_, rfl, ?_, ?_, ?_, get_put_same (by decide) (by decide)⟩
  · refine (get_put_apart (by decide) (by decide)).trans ((get_put_apart (by decide) (by decide)).trans ?_)
    exact (get_put_apart (by decide) (by decide)).trans (get_put_same (by decide) (by decide))
  · exact (get_put_apart (by decide) (by decide)).trans ((get_put_apart (by decide) (by decide)).trans
      (get_put_same (by decide) (by decide)))
  · exact (get_put_apart (by decide) (by decide)).trans (get_put_same (by decide) (by decide))

theorem journalAppend_puts {j kind base : Nat} {payload : List Byte} (hbase : journalBase j = some base) (hfree : s.efc.run = none)
    (hlen : payload.length ≤ 240) :
    execJournalAppend j kind payload s = .next ((s.journalPut j base kind payload).journalCompact j base) := by
  unfold execJournalAppend
  rw [hbase]
  dsimp only
  rw [hfree]
  exact if_neg (by simp; omega)

end Windows

/-- Settles O48: the command port of the flash, its windows, its logs and its journals. -/
theorem flashPort : Obligations.FlashPort := by
  unfold Obligations.FlashPort
  refine ⟨?_, ?_, ?_, ?_, ?_, ?_, ?_, ?_, ?_, ?_, ?_, ?_, ?_, ?_, ?_, ?_, ?_, ?_, ?_⟩
  case _ =>
    intro q v s hopen hhost hseq hkey
    obtain ⟨t, hnext, hstep, hefc⟩ := efcKeyWrite_first hopen hhost hseq hkey
    exact ⟨t, hnext, hstep, hefc, keeps_of_next mv_execEfcKeyWrite hnext (by decide +kernel)⟩
  case _ =>
    intro q v s hopen hhost hseq howner hkey
    obtain ⟨t, hnext, hstep, hefc⟩ := efcKeyWrite_second hopen hhost hseq howner hkey
    exact ⟨t, hnext, hstep, hefc, keeps_of_next mv_execEfcKeyWrite hnext (by decide +kernel)⟩
  case _ =>
    intro q v s hopen hhost hseq hkey
    have hnext := efcKeyWrite_wrong hopen hhost hseq hkey
    exact ⟨_, hnext, efcAbandon_errs, keeps_of_next mv_execEfcKeyWrite hnext (by decide +kernel)⟩
  case _ =>
    intro q v s hopen hhost hseq howner hlast hop hrefuse hmay
    have hnext : execProgram q v s = .next (s.efcStart .program (s.get Reg.EFC_ADDR_ADDR) (dataBytes (s.efc.words ++ [v]))) := by
      rw [program_writes hopen hop hlast, efcData_starts hhost hseq howner hlast hop]
    obtain ⟨hstep, hcode, hrun, hflash, -⟩ := efcStart_facts (data := dataBytes (s.efc.words ++ [v])) hrefuse hmay
    exact ⟨_, hnext, hstep, hcode, hrun, hflash, keeps_of_next mv_execProgram hnext (by decide +kernel)⟩
  case _ =>
    intro q v s hopen hhost hseq howner hlast hop hrefuse hmay
    have hnext : execProgram q v s = .next ((s.event Reg.EFC_STATUS_PROT_VIOL).efcResult 3) := by
      rw [program_writes hopen hop hlast, efcData_starts hhost hseq howner hlast hop, efcStart_protected hrefuse hmay]
    obtain ⟨hcode, -, hflash, -⟩ := efcResult_facts (s := s.event Reg.EFC_STATUS_PROT_VIOL) (code := 3) (by decide)
    refine ⟨_, hnext, ?_, hcode, hflash.trans (congrArg EfcSt.flash event_efc), keeps_of_next mv_execProgram hnext (by decide +kernel)⟩
    rw [State.flag, efcResult_get (by decide) (by decide)]
    exact event_flag (by decide) (by decide)
  case _ =>
    intro q v s hopen hhost hseq howner hlast hop hrefuse hmay
    have hnext : execOtpProgram q v s = .next (s.efcStart .otpProgram (s.get Reg.EFC_ADDR_ADDR) (dataBytes (s.efc.words ++ [v]))) := by
      rw [otpProgram_writes hopen hop hlast, efcData_starts hhost hseq howner hlast hop]
    obtain ⟨hstep, hcode, hrun, -, hotp⟩ := efcStart_facts (data := dataBytes (s.efc.words ++ [v])) hrefuse hmay
    exact ⟨_, hnext, hstep, hcode, hrun, hotp, keeps_of_next mv_execOtpProgram hnext (by decide +kernel)⟩
  case _ =>
    intro q v s hopen hhost hseq howner hop haligned hrefuse hmay
    have hnext : execSectorErase q v s = .next ((s.put Reg.EFC_ADDR_ADDR (bitsOf v 24 0)).efcStart .sectorErase (bitsOf v 24 0) []) := by
      unfold execSectorErase
      rw [if_neg (by simp [hopen]), if_pos hop, efcAddr_erases hhost hseq howner hop haligned]
    obtain ⟨hstep, hcode, hrun⟩ := addressed_facts hrefuse hmay
    exact ⟨_, hnext, hstep, hcode, hrun, keeps_of_next mv_execSectorErase hnext (by decide +kernel)⟩
  case _ =>
    intro q v s hopen hhost hseq howner hop haligned hrefuse
    have hnext : execBlankCheck q v s = .next ((s.put Reg.EFC_ADDR_ADDR (bitsOf v 24 0)).efcStart .blankCheck (bitsOf v 24 0) []) := by
      unfold execBlankCheck
      rw [if_neg (by simp [hopen]), if_pos hop, efcAddr_checks hhost hseq howner hop haligned]
    obtain ⟨hstep, hcode, hrun⟩ := addressed_facts (op := .blankCheck) (n := bitsOf v 24 0) hrefuse rfl
    exact ⟨_, hnext, hstep, hcode, hrun, keeps_of_next mv_execBlankCheck hnext (by decide +kernel)⟩
  case _ =>
    intro r s hrun hgo hop hblank hlive
    obtain ⟨t, hnext, hcode, hdone, hflash, hend, hcount⟩ := efcOperationComplete_programs hrun hgo hop hblank hlive
    exact ⟨t, hnext, hcode, hdone, hflash, hend, hcount, keeps_of_next mv_execEfcOperationComplete hnext (by decide +kernel)⟩
  case _ =>
    intro r b s hrun hgo hop hblank
    have hnext := efcOperationComplete_notBlank (b := b) hrun hgo hop hblank
    obtain ⟨hcode, -, hflash, hend⟩ := efcResult_facts (s := s) (code := 4) (by decide)
    exact ⟨_, hnext, hcode, hflash, hend, keeps_of_next mv_execEfcOperationComplete hnext (by decide +kernel)⟩
  case _ =>
    intro r b s hrun hgo hop
    obtain ⟨t, hnext, hcode, hflash, hend⟩ := efcOperationComplete_erases (b := b) hrun hgo hop
    exact ⟨t, hnext, hcode, hflash, hend, keeps_of_next mv_execEfcOperationComplete hnext (by decide +kernel)⟩
  case _ =>
    intro resume r s hrun hop
    have hnext := efcEraseSuspend_shows (resume := resume) hrun hop
    exact ⟨_, hnext, flag_setFlag_same (by decide) (by decide) (by decide), keeps_of_next mv_execEfcEraseSuspend hnext (by decide +kernel)⟩
  case _ =>
    intro q addr len s hopen hlow hhigh hbusy0 hbusy1 hdata hlive
    have hnext := efcWindowRead_answers hopen hlow hhigh hbusy0 hbusy1 hdata hlive
    exact ⟨_, hnext, rfl, keeps_of_next mv_execEfcWindowRead hnext (by decide +kernel)⟩
  case _ =>
    intro q addr len errs s hopen hlow hhigh hbusy0 hbusy1 hcode
    have hnext := efcWindowRead_hides (errs := errs) hopen hlow hhigh hbusy0 hbusy1 hcode
    have hev : ∀ (u : State) (o : Output), (u.emit o).flag Reg.EFC_STATUS_XO_VIOL = u.flag Reg.EFC_STATUS_XO_VIOL := fun _ _ => rfl
    exact ⟨_, hnext, (hev _ _).trans (event_flag (by decide) (by decide)), rfl,
      keeps_of_next mv_execEfcWindowRead hnext (by decide +kernel)⟩
  case _ =>
    intro q addr v s hopen hlow hhigh
    have hnext := efcWindowWrite_refused (v := v) hopen hlow hhigh
    exact ⟨_, hnext, event_flag (by decide) (by decide), event_efc, keeps_of_next mv_execEfcWindowWrite hnext (by decide +kernel)⟩
  case _ =>
    intro v s hbit
    have hnext : execEfcEccLogFree v s = .next (s.setFlag Reg.EFC_ECC_LOG_VALID false) := congrArg Host.Outcome.next (if_pos hbit)
    exact ⟨_, hnext, flag_setFlag_same (by decide) (by decide) (by decide), keeps_of_next mv_execEfcEccLogFree hnext (by decide +kernel)⟩
  case _ =>
    intro v s hbit
    have hnext : execEfcAbortAddrClr v s = .next ((s.setFlag Reg.EFC_ABORT_ADDR_VALID false).put Reg.EFC_ABORT_ADDR_ADDR 0) :=
      congrArg Host.Outcome.next (if_pos hbit)
    exact ⟨_, hnext, (flag_put_apart (by decide) (by decide)).trans (flag_setFlag_same (by decide) (by decide) (by decide)),
      get_put_same (by decide) (by decide), keeps_of_next mv_execEfcAbortAddrClr hnext (by decide +kernel)⟩
  case _ =>
    intro s
    obtain ⟨t, hnext, hprog, herase, hcorr, hue⟩ := efcCntClr_facts (s := s)
    exact ⟨t, hnext, hprog, herase, hcorr, hue, keeps_of_next mv_execEfcCntClr hnext (by decide +kernel)⟩
  case _ =>
    intro j kind base payload s hbase hfree hlen
    have hnext := journalAppend_puts (kind := kind) hbase hfree hlen
    exact ⟨_, hnext, rfl, keeps_of_next mv_execJournalAppend hnext (by decide +kernel)⟩

end Sys2Proof.Proofs
end

section
/-!
The rules of a mailbox that is written (19 R481, R483): what a full and an empty box become.
-/
set_option Elab.async false

namespace Sys2Proof.Proofs
open Sys2Proof Sys2Proof.Machine Sys2Proof.Laws

/-- An empty box takes the word, its sender and the next sequence bit. -/
def boxFilled (s : State) (n st : Nat) (v : Word) : State :=
  let t := ((s.put Reg.MBX_BOX_WORD v.toNat n).setFlag Reg.MBX_BOX_STATUS_FULL true n).put Reg.MBX_BOX_STATUS_SENDER st n
  t.setFlag Reg.MBX_BOX_STATUS_SEQ (!t.flag Reg.MBX_BOX_STATUS_SEQ n) n

/-- The bit of ARRIVED that a host's box has. -/
def arrivedBit (n : Nat) : Fld := { Reg.MBX_ARRIVED_BIT with hi := n - 40, lo := n - 40 }

/-- The receiver of box `n` learns of the word: a sleeping core wakes, the host gets its event. -/
def boxAnnounced (s : State) (n : Nat) : State :=
  match boxCore n with
  | some k => if s.get Reg.MBX_CORE_STATUS_STATE k = 3 then s.put Reg.MBX_CORE_STATUS_STATE 2 k else s
  | none => s.event (arrivedBit n)

/-- A write to a full box is lost and counted. -/
def boxOverrun (s : State) (n : Nat) : State := (s.inc Reg.MBX_OVERRUNS).event Reg.MBX_BOX_STATUS_OVERRUN n

section Box
variable {s : State} {n st i j : Nat} {v : Word} {g : Fld}

theorem sendBox_full (h : s.flag Reg.MBX_BOX_STATUS_FULL n = true) : s.sendBox n st v = boxOverrun s n := if_pos h

theorem sendBox_empty (h : s.flag Reg.MBX_BOX_STATUS_FULL n = false) :
    s.sendBox n st v = boxAnnounced (boxFilled s n st v) n := if_neg (by simp [h])

/-- The bits of ARRIVED share one word. -/
theorem apart_arrivedBit (h : rowsApart Reg.MBX_ARRIVED_BIT.base Reg.MBX_ARRIVED_BIT.stride Reg.MBX_ARRIVED_BIT.count
    g.base g.stride g.count = true) : apart (arrivedBit n) g = true :=
  Bool.or_eq_true_iff.2 (.inl h)

/-- A field outside ARRIVED, STATE of the cores and the pending bits does not change when a box is announced. -/
theorem get_boxAnnounced (hcore : apart Reg.MBX_CORE_STATUS_STATE g = true)
    (harr : rowsApart Reg.MBX_ARRIVED_BIT.base Reg.MBX_ARRIVED_BIT.stride Reg.MBX_ARRIVED_BIT.count g.base g.stride g.count = true)
    (h0 : apart Reg.MSIX0_PBA g = true) (h1 : apart Reg.MSIX1_PBA g = true) (hj : j < g.count) :
    (boxAnnounced s n).get g j = s.get g j := by
  unfold boxAnnounced
  split
  · exact ite_both (P := fun t => State.get t g j = s.get g j) (get_put_apart hcore hj) rfl
  · exact event_get (apart_arrivedBit harr) hj h0 h1

/-- A field outside the box's own words does not change when the box is filled. -/
theorem get_boxFilled (hword : apart Reg.MBX_BOX_WORD g = true) (hfull : apart Reg.MBX_BOX_STATUS_FULL g = true)
    (hsender : apart Reg.MBX_BOX_STATUS_SENDER g = true) (hseq : apart Reg.MBX_BOX_STATUS_SEQ g = true) (hj : j < g.count) :
    (boxFilled s n st v).get g j = s.get g j := by
  unfold boxFilled
  dsimp only
  rw [get_setFlag_apart hseq hj, get_put_apart hsender hj, get_setFlag_apart hfull hj, get_put_apart hword hj]

theorem boxFilled_facts (hn : n < 64) (hst : st < 256) : (boxFilled s n st v).get Reg.MBX_BOX_WORD n = v.toNat ∧
    (boxFilled s n st v).flag Reg.MBX_BOX_STATUS_FULL n = true ∧ (boxFilled s n st v).get Reg.MBX_BOX_STATUS_SENDER n = st ∧
    (boxFilled s n st v).flag Reg.MBX_BOX_STATUS_SEQ n = !s.flag Reg.MBX_BOX_STATUS_SEQ n := by
  unfold boxFilled
  dsimp only
  refine ⟨?_, ?_, ?_, ?_⟩
  · rw [get_setFlag_apart (by decide) hn, get_put_apart (by decide) hn, get_setFlag_apart (by decide) hn,
      get_put_same (by decide) hn]
    exact Nat.mod_eq_of_lt v.isLt
  · rw [flag_setFlag_apart (by decide) hn, flag_put_apart (by decide) hn]
    exact flag_setFlag_same (by decide) rfl hn
  · rw [get_setFlag_apart (by decide) hn, get_put_same (by decide) hn]
    exact Nat.mod_eq_of_lt hst
  · rw [flag_setFlag_same (by decide) rfl hn, flag_put_apart (by decide) hn, flag_setFlag_apart (by decide) hn,
      flag_put_apart (by decide) hn]

theorem boxAnnounced_facts (hn : n < 64) : (boxAnnounced s n).get Reg.MBX_BOX_WORD n = s.get Reg.MBX_BOX_WORD n ∧
    (boxAnnounced s n).flag Reg.MBX_BOX_STATUS_FULL n = s.flag Reg.MBX_BOX_STATUS_FULL n ∧
    (boxAnnounced s n).get Reg.MBX_BOX_STATUS_SENDER n = s.get Reg.MBX_BOX_STATUS_SENDER n ∧
    (boxAnnounced s n).flag Reg.MBX_BOX_STATUS_SEQ n = s.flag Reg.MBX_BOX_STATUS_SEQ n := by
  have hget : ∀ g : Fld, apart Reg.MBX_CORE_STATUS_STATE g = true → rowsApart Reg.MBX_ARRIVED_BIT.base Reg.MBX_ARRIVED_BIT.stride
      Reg.MBX_ARRIVED_BIT.count g.base g.stride g.count = true → apart Reg.MSIX0_PBA g = true → apart Reg.MSIX1_PBA g = true →
      n < g.count → (boxAnnounced s n).get g n = s.get g n :=
    fun g hcore harr h0 h1 hj => get_boxAnnounced hcore harr h0 h1 hj
  refine ⟨hget _ (by decide) (by decide) (by decide) (by decide) hn, ?_,
    hget _ (by decide) (by decide) (by decide) (by decide) hn, ?_⟩ <;>
  · unfold State.flag
    rw [hget _ (by decide) (by decide) (by decide) (by decide) hn]

/-- What a write to an empty box leaves in it (19 R481). -/
theorem sendBox_fills (hn : n < 64) (hst : st < 256) (h : s.flag Reg.MBX_BOX_STATUS_FULL n = false) :
    (s.sendBox n st v).get Reg.MBX_BOX_WORD n = v.toNat ∧ (s.sendBox n st v).flag Reg.MBX_BOX_STATUS_FULL n = true ∧
    (s.sendBox n st v).get Reg.MBX_BOX_STATUS_SENDER n = st ∧
    (s.sendBox n st v).flag Reg.MBX_BOX_STATUS_SEQ n = !s.flag Reg.MBX_BOX_STATUS_SEQ n := by
  obtain ⟨hword, hfull, hsender, hseq⟩ := boxFilled_facts (s := s) (v := v) hn hst
  obtain ⟨kword, kfull, ksender, kseq⟩ := boxAnnounced_facts (s := boxFilled s n st v) hn
  rw [sendBox_empty h]
  exact ⟨kword.trans hword, kfull.trans hfull, ksender.trans hsender, kseq.trans hseq⟩

/-- What a write to a full box does (19 R481). -/
theorem boxOverrun_facts (hn : n < 64) : (boxOverrun s n).flag Reg.MBX_BOX_STATUS_OVERRUN n = true ∧
    (boxOverrun s n).get Reg.MBX_OVERRUNS = min (s.get Reg.MBX_OVERRUNS + 1) (2 ^ 32 - 1) ∧
    (boxOverrun s n).get Reg.MBX_BOX_WORD n = s.get Reg.MBX_BOX_WORD n :=
  ⟨event_flag (by decide) hn,
    (event_get (by decide) (by decide) (by decide) (by decide)).trans (get_inc_same (by decide) (by decide)),
    (event_get (by decide) hn (by decide) (by decide)).trans (get_inc_apart (by decide) hn)⟩

/-- A word for the host leaves the states of the cores alone. -/
theorem coreState_sendHost (hbox : boxCore n = none) (hj : j < 5) :
    (s.sendBox n st v).get Reg.MBX_CORE_STATUS_STATE j = s.get Reg.MBX_CORE_STATUS_STATE j := by
  cases hfull : s.flag Reg.MBX_BOX_STATUS_FULL n with
  | true =>
    rw [sendBox_full hfull]
    exact (event_get (by decide) hj (by decide) (by decide)).trans (get_inc_apart (by decide) hj)
  | false =>
    rw [sendBox_empty hfull, boxAnnounced, hbox]
    exact (event_get (apart_arrivedBit (by decide)) hj (by decide) (by decide)).trans
      (get_boxFilled (by decide) (by decide) (by decide) (by decide) hj)

end Box

end Sys2Proof.Proofs
end

section
/-!
The management cores: lockup, watchdog, restart, heartbeat, sleep, and the colophon's core (19 R475 to R479).
-/
set_option Elab.async false

namespace Sys2Proof.Proofs
open Sys2Proof Sys2Proof.Machine Sys2Proof.Laws

/-- STATE of a management core. -/
def coreState (s : State) (k : Nat) : Nat := s.get Reg.MBX_CORE_STATUS_STATE k

section Lockup
variable {s : State} {k : Fin 5} {cause : Nat} {info : Word}

theorem coreState_notice {code j n : Nat} : coreState (s.notice code j n) k.val = coreState s k.val :=
  get_of_moves mv_notice (by decide +kernel) k.isLt

theorem coreState_countLockups : coreState s.countLockups k.val = coreState s k.val :=
  get_of_moves mv_countLockups (by decide +kernel) k.isLt

theorem coreState_aosSafe : coreState s.aosSafe k.val = coreState s k.val :=
  get_of_moves mv_aosSafe (by decide +kernel) k.isLt

theorem coreState_failUnits {l : List Nat} : coreState (l.foldl State.failUnit s) k.val = coreState s k.val :=
  foldl_keeps (g := fun u : State => coreState u k.val) fun _ _ => get_of_moves mv_failUnit (by decide +kernel) k.isLt

theorem coreState_put {n : Nat} (hn : n < 8) : coreState (s.put Reg.MBX_CORE_STATUS_STATE n k.val) k.val = n :=
  (get_put_same (by decide) k.isLt).trans (Nat.mod_eq_of_lt hn)

/-- A core that is locked out waits for its restart; at the third lockup within 10 s it is FAILED. -/
def lockedOut (s : State) (k n : Nat) : State :=
  if 3 ≤ n then
    let s5 := ((s.put Reg.MBX_CORE_STATUS_STATE 6 k).notice 0x03 k n).event Reg.MBX_STATUS_CORE_FAIL_EV
    let s6 := (coreUnits k).foldl State.failUnit s5
    if k = 0 then s6.aosSafe else s6.countLockups
  else ((s.put Reg.MBX_CORE_STATUS_STATE 4 k).notice 0x01 k n).countLockups

theorem lockCore_locksOut : ∃ u, s.lockCore k.val cause info = lockedOut u k.val ((s.recentLockups k.val).length + 1) := ⟨_, rfl⟩

theorem lockedOut_waits {n : Nat} (hn : n < 3) : coreState (lockedOut s k.val n) k.val = 4 := by
  unfold lockedOut
  rw [if_neg (by omega), coreState_countLockups, coreState_notice, coreState_put (by decide)]

theorem lockedOut_fails {n : Nat} (hn : 3 ≤ n) : coreState (lockedOut s k.val n) k.val = 6 := by
  have hfail : coreState ((coreUnits k.val).foldl State.failUnit (((s.put Reg.MBX_CORE_STATUS_STATE 6 k.val).notice 0x03 k.val n).event
      Reg.MBX_STATUS_CORE_FAIL_EV)) k.val = 6 := by
    rw [coreState_failUnits]
    exact (event_get (by decide) k.isLt (by decide) (by decide)).trans (coreState_notice.trans (coreState_put (by decide)))
  unfold lockedOut
  rw [if_pos hn]
  dsimp only
  exact ite_both (P := fun t => coreState t k.val = 6) (coreState_aosSafe.trans hfail) (coreState_countLockups.trans hfail)

theorem lockCore_facts : ((s.recentLockups k.val).length < 2 → coreState (s.lockCore k.val cause info) k.val = 4) ∧
    (2 ≤ (s.recentLockups k.val).length → coreState (s.lockCore k.val cause info) k.val = 6) := by
  obtain ⟨u, hu⟩ := lockCore_locksOut (s := s) (k := k) (cause := cause) (info := info)
  rw [hu]
  exact ⟨fun h => lockedOut_waits (by omega), fun h => lockedOut_fails (by omega)⟩

theorem coreLockup_locks (hlow : 1 ≤ cause) (hhigh : cause ≤ 4) (hlive : coreState s k.val = 1 ∨ coreState s k.val = 2 ∨
    coreState s k.val = 3 ∨ coreState s k.val = 5) : execCoreLockup k cause info s = .next (s.lockCore k.val cause info) := by
  have hgo : ¬ (decide (cause < 1) || decide (4 < cause) || !(coreState s k.val == 1 || coreState s k.val == 2 || coreState s k.val == 3 ||
      coreState s k.val == 5)) = true := by
    have hcause : ¬ cause < 1 ∧ ¬ 4 < cause := by omega
    rcases hlive with h | h | h | h <;> simp [h, hcause]
  exact if_neg hgo

theorem coreWatchdogTimeout_locks (hlive : coreState s k.val = 2 ∨ coreState s k.val = 3 ∨ (coreState s k.val = 5 ∧ k.val ≠ 0)) :
    execCoreWatchdogTimeout k info s = .next (s.lockCore k.val 4 info) := by
  have hother : ¬ (decide (k.val = 0) && decide (coreState s k.val = 5)) = true := by
    rcases hlive with h | h | ⟨h, h0⟩ <;> simp [*]
  have hgo : (decide (coreState s k.val = 2) || decide (coreState s k.val = 3) || decide (coreState s k.val = 5)) = true := by
    rcases hlive with h | h | ⟨h, -⟩ <;> simp [h]
  exact (if_neg hother).trans (if_pos hgo)

end Lockup

section Restart
variable {s : State} {k : Fin 5}

/-- A core whose images are good restarts without another choice of the slot. -/
theorem coreRestart_restarts {fw0 fw1 : Bool} (hlocked : coreState s k.val = 4) (hgood : k.val ≠ 0 ∨ (fw0 = true ∧ fw1 = true)) :
    ∃ t, execCoreRestart k fw0 fw1 s = .next t ∧ coreState t k.val = 5 ∧
      t.get Reg.MBX_CORE_RESTARTS k.val = min (s.get Reg.MBX_CORE_RESTARTS k.val + 1) (2 ^ 32 - 1) := by
  have hslot : ¬ (decide (k.val = 0) && !(if s.get Reg.EFC_FW_BOOT_SLOT = 0 then fw0 else fw1)) = true := by
    rcases hgood with h | ⟨h0, h1⟩
    · simp [h]
    · simp [h0, h1]
  have hnext : execCoreRestart k fw0 fw1 s = .next ((s.put Reg.MBX_CORE_STATUS_STATE 5 k.val).inc Reg.MBX_CORE_RESTARTS k.val) := by
    unfold execCoreRestart
    rw [if_neg (by rw [← coreState, hlocked]; decide)]
    exact congrArg Host.Outcome.next (if_neg hslot)
  refine ⟨_, hnext, (get_inc_apart (by decide) k.isLt).trans (coreState_put (by decide)), (get_inc_same (by decide) k.isLt).trans ?_⟩
  rw [get_put_apart (by decide) k.isLt]
  rfl

/-- MC0's heartbeat lets FAULT_N go where the supervisor may. -/
def faultReleased (s : State) : State := if s.mayReleaseFault then { s with pwr := { s.pwr with faultLow := false } } else s

theorem faultReleased_facts : (faultReleased s).regs = s.regs ∧ (s.mayReleaseFault = true → (faultReleased s).pwr.faultLow = false) := by
  unfold faultReleased
  split
  next hmay => exact ⟨rfl, fun _ => rfl⟩
  next hno => exact ⟨rfl, fun hmay => absurd hmay hno⟩

/-- What MC0's heartbeat does beside its state, where it boots (`booted`) or restarts. -/
def heartbeat0 (s : State) (booted : Prop) [Decidable booted] : State :=
  (if booted then (faultReleased s).countStarts.bootDone else faultReleased s).countLockups

theorem heartbeat0_facts {booted : Prop} [Decidable booted] : coreState (heartbeat0 s booted) k.val = coreState s k.val ∧
    (s.mayReleaseFault = true → (heartbeat0 s booted).pwr.faultLow = false) := by
  have hstate : coreState (faultReleased s) k.val = coreState s k.val := get_regs faultReleased_facts.1
  have hboot : coreState (faultReleased s).countStarts.bootDone k.val = coreState s k.val :=
    (coreState_sendHost rfl k.isLt).trans
      ((get_of_moves mv_countStarts (by decide +kernel) k.isLt).trans hstate)
  have hpwr : (faultReleased s).countStarts.bootDone.pwr = (faultReleased s).pwr :=
    (mv_bootDone.pwr (by decide +kernel)).trans (mv_countStarts.pwr (by decide +kernel))
  unfold heartbeat0
  refine ⟨coreState_countLockups.trans (ite_both (P := fun t => coreState t k.val = coreState s k.val) hboot hstate), fun hmay => ?_⟩
  rw [mv_countLockups.pwr (by decide +kernel)]
  refine ite_both (P := fun t => (State.pwr t).faultLow = false) ?_ (faultReleased_facts.2 hmay)
  rw [hpwr]
  exact faultReleased_facts.2 hmay

/-- The core runs; a restart is reported. -/
def awoken (s : State) (k : Nat) : State :=
  let s1 := s.put Reg.MBX_CORE_STATUS_STATE 2 k
  if s.get Reg.MBX_CORE_STATUS_STATE k = 5 then s1.notice 0x02 k (s1.recentLockups k).length else s1

theorem awoken_facts : coreState (awoken s k.val) k.val = 2 ∧ (awoken s k.val).pwr = s.pwr := by
  have hput : coreState (s.put Reg.MBX_CORE_STATUS_STATE 2 k.val) k.val = 2 := coreState_put (by decide)
  exact ⟨ite_both (P := fun t => coreState t k.val = 2) (coreState_notice.trans hput) hput,
    ite_both (P := fun t => State.pwr t = s.pwr) ((mv_notice.pwr (by decide +kernel)).trans put_pwr) put_pwr⟩

/-- What a core's first heartbeat does beside its state. -/
def heartbeatWork (s : State) (k : Nat) (booted : Prop) [Decidable booted] (engines : BitVec 16) (tests : Bool) : State :=
  if k = 0 then heartbeat0 s booted else if k = 4 then (s.secSelfTest engines tests).restoreFwSlots else s

theorem coreFirstHeartbeat_next {engines : BitVec 16} {tests : Bool} (hstart : coreState s k.val = 1 ∨ coreState s k.val = 5) :
    execCoreFirstHeartbeat k engines tests s =
      .next (heartbeatWork (awoken s k.val) k.val (coreState s k.val = 1) engines tests) := by
  have hgo : ¬ (!(coreState s k.val == 1 || coreState s k.val == 5)) = true := by
    rcases hstart with h | h <;> simp [h]
  refine (if_neg hgo).trans ?_
  unfold heartbeatWork heartbeat0 faultReleased awoken coreState
  dsimp only
  by_cases h0 : k.val = 0
  · rw [if_pos h0, if_pos h0, if_pos h0, if_neg (by omega)]
  · rw [if_neg h0, if_neg h0, if_neg h0]

theorem heartbeatWork_facts {booted : Prop} [Decidable booted] {engines : BitVec 16} {tests : Bool} :
    coreState (heartbeatWork s k.val booted engines tests) k.val = coreState s k.val ∧
    (k.val = 0 → s.mayReleaseFault = true → (heartbeatWork s k.val booted engines tests).pwr.faultLow = false) := by
  unfold heartbeatWork
  split
  next h0 => exact ⟨heartbeat0_facts.1, fun _ hmay => (heartbeat0_facts (k := k)).2 hmay⟩
  next h0 =>
    refine ⟨ite_both (P := fun t => coreState t k.val = coreState s k.val) ?_ rfl, fun h => absurd h h0⟩
    exact (get_of_moves mv_restoreFwSlots (by decide +kernel) k.isLt).trans (get_of_moves mv_secSelfTest (by decide +kernel) k.isLt)

theorem mayReleaseFault_pwr {t : State} (h : t.pwr = s.pwr) : t.mayReleaseFault = s.mayReleaseFault := by
  unfold State.mayReleaseFault
  rw [h]

end Restart

section ColophonCore
variable {s : State}

/-- Lockups of the colophon's core within the last 10 s. -/
def ccRecent (s : State) : List Nat := s.col.ccLockups.filter (fun u => decide (s.get64 Reg.COL_TIME ≤ u + 10 ^ 11))

/-- A lockup of the colophon's core is remembered. -/
def ccNoted (s : State) : State := { s with col := { s.col with ccLockups := s.get64 Reg.COL_TIME :: ccRecent s } }

theorem colophonCoreLockup_next (hon : s.col.powered = true) (hlive : s.get Reg.COL_STATUS_STATE ≠ 4) :
    execColophonCoreLockup s = .next (if 3 ≤ (ccRecent s).length + 1 then (ccNoted s).put Reg.COL_STATUS_STATE 4 else ccNoted s) := by
  unfold execColophonCoreLockup
  rw [if_neg (by simp [hon, hlive])]
  rfl

theorem colophonCoreLockup_facts (hon : s.col.powered = true) (hlive : s.get Reg.COL_STATUS_STATE ≠ 4) :
    ∃ t, execColophonCoreLockup s = .next t ∧ t.col = { s.col with ccLockups := s.get64 Reg.COL_TIME :: ccRecent s } ∧
      (2 ≤ (ccRecent s).length → t.get Reg.COL_STATUS_STATE = 4) ∧ ((ccRecent s).length < 2 → t.regs = s.regs) := by
  refine ⟨_, colophonCoreLockup_next hon hlive, ?_, fun h => ?_, fun h => ?_⟩
  · exact ite_both (P := fun t => State.col t = { s.col with ccLockups := s.get64 Reg.COL_TIME :: ccRecent s }) put_col rfl
  · rw [if_pos (by omega)]
    exact get_put_same (by decide) (by decide)
  · rw [if_neg (by omega)]
    rfl

end ColophonCore

/-- Settles O49: the life of a management core, and the lockups of the colophon's. -/
theorem coresAndColophonCore : Obligations.CoresAndColophonCore := by
  unfold Obligations.CoresAndColophonCore
  refine ⟨?_, ?_, ?_, ?_, ?_, ?_⟩
  case _ =>
    intro k cause info s hlow hhigh hlive
    have hnext := coreLockup_locks (info := info) hlow hhigh hlive
    obtain ⟨hwait, hfail⟩ := lockCore_facts (s := s) (k := k) (cause := cause) (info := info)
    exact ⟨_, hnext, rfl, hwait, hfail, keeps_of_next mv_execCoreLockup hnext (by decide +kernel)⟩
  case _ =>
    intro k info s hlive
    have hnext := coreWatchdogTimeout_locks (info := info) hlive
    obtain ⟨hwait, hfail⟩ := lockCore_facts (s := s) (k := k) (cause := 4) (info := info)
    exact ⟨_, hnext, rfl, hwait, hfail, keeps_of_next mv_execCoreWatchdogTimeout hnext (by decide +kernel)⟩
  case _ =>
    intro k fw0 fw1 s hlocked hgood
    obtain ⟨t, hnext, hstate, hcount⟩ := coreRestart_restarts hlocked hgood
    exact ⟨t, hnext, hstate, hcount, keeps_of_next mv_execCoreRestart hnext (by decide +kernel)⟩
  case _ =>
    intro k engines tests s hstart
    have hnext := coreFirstHeartbeat_next (engines := engines) (tests := tests) hstart
    obtain ⟨hrun, hpwr⟩ := awoken_facts (s := s) (k := k)
    obtain ⟨hstate, hfault⟩ := heartbeatWork_facts (s := awoken s k.val) (k := k) (booted := coreState s k.val = 1)
      (engines := engines) (tests := tests)
    exact ⟨_, hnext, hstate.trans hrun, fun h0 hmay => hfault h0 ((mayReleaseFault_pwr hpwr).trans hmay),
      keeps_of_next mv_execCoreFirstHeartbeat hnext (by decide +kernel)⟩
  case _ =>
    intro k s hrun
    have hnext : execCoreSleep k s = .next (s.put Reg.MBX_CORE_STATUS_STATE 3 k.val) := if_pos hrun
    exact ⟨_, hnext, coreState_put (by decide), keeps_of_next mv_execCoreSleep hnext (by decide +kernel)⟩
  case _ =>
    intro s hon hlive
    obtain ⟨t, hnext, hcol, hfail, hkeep⟩ := colophonCoreLockup_facts hon hlive
    exact ⟨t, hnext, hcol, hfail, hkeep, keeps_of_next mv_execColophonCoreLockup hnext (by decide +kernel)⟩

end Sys2Proof.Proofs
end

section
/-!
Mailboxes and quoins (19 R480 to R486): writes, reads, notices, taking and releasing.
-/
set_option Elab.async false

namespace Sys2Proof.Proofs
open Sys2Proof Sys2Proof.Machine Sys2Proof.Laws

section Mailbox
variable {s : State} {q : Requester} {n : Fin 64} {v : Word} {st : Nat}

/-- A requester that may write a box whose core has not failed reaches the box. -/
theorem mailboxWrite_sends (hbar : s.barShut q = false) (hst : s.stamp q = some st) (hmay : mayWriteBox q n.val = true)
    (hlive : ∀ k, boxCore n.val = some k → s.get Reg.MBX_CORE_STATUS_STATE k ≠ 6) :
    execMailboxWrite q n v s = .next (s.sendBox n.val st v) := by
  unfold execMailboxWrite
  rw [if_neg (by simp [hbar]), hst]
  dsimp only
  cases hbox : boxCore n.val with
  | none => exact if_neg (by simp [hmay])
  | some k => exact if_neg (by simp [hmay, hlive k hbox])

theorem mailboxWrite_rejects (hbar : s.barShut q = false) (hst : s.stamp q = some st) (hmay : mayWriteBox q n.val = false) :
    execMailboxWrite q n v s = .next s.rejectBox := by
  unfold execMailboxWrite
  rw [if_neg (by simp [hbar]), hst]
  exact if_pos (by simp [hmay])

theorem rejectBox_facts : s.rejectBox.get Reg.MBX_REJECT = min (s.get Reg.MBX_REJECT + 1) (2 ^ 32 - 1) ∧
    s.rejectBox.flag Reg.MBX_STATUS_REJ_EV = true ∧ s.rejectBox.get Reg.MBX_BOX_WORD n.val = s.get Reg.MBX_BOX_WORD n.val ∧
    s.rejectBox.flag Reg.MBX_QUOIN_STATE_HELD n.val = s.flag Reg.MBX_QUOIN_STATE_HELD n.val :=
  ⟨(event_get (by decide) (by decide) (by decide) (by decide)).trans (get_inc_same (by decide) (by decide)),
    event_flag (by decide) (by decide),
    (event_get (by decide) n.isLt (by decide) (by decide)).trans (get_inc_apart (by decide) n.isLt),
    (flag_event_apart (by decide) n.isLt (by decide) (by decide)).trans (flag_put_apart (by decide) n.isLt)⟩

theorem mailboxRead_takes (hbar : s.barShut q = false) (hmay : mayReadBox q n.val = true)
    (hfull : s.flag Reg.MBX_BOX_STATUS_FULL n.val = true) :
    execMailboxRead q n s = .next ((s.setFlag Reg.MBX_BOX_STATUS_FULL false n.val).emit (.value (s.get Reg.MBX_BOX_WORD n.val))) := by
  unfold execMailboxRead
  rw [if_neg (by simp [hbar])]
  exact if_pos (by simp [hmay, hfull])

theorem mailboxRead_zero (hbar : s.barShut q = false) (hno : mayReadBox q n.val = false ∨ s.flag Reg.MBX_BOX_STATUS_FULL n.val = false) :
    execMailboxRead q n s = .next (s.emit (.value 0)) := by
  unfold execMailboxRead
  rw [if_neg (by simp [hbar])]
  exact if_neg (by rcases hno with h | h <;> simp [h])

/-- The queue of notices after the first has left. -/
def noticesLeft (s : State) (r : List Nat) : State := { s with mbx := { s.mbx with notices := r } }

theorem noticesLeft_facts {r : List Nat} : (noticesLeft s r).regs = s.regs ∧ (noticesLeft s r).mbx = { s.mbx with notices := r } := ⟨rfl, rfl⟩

theorem boxFilled_mbx {i : Nat} : (boxFilled s i st v).mbx = s.mbx := by
  unfold boxFilled State.setFlag
  dsimp only
  rw [put_mbx, put_mbx, put_mbx, put_mbx]

/-- The AOS posts the oldest notice in the empty box 40. -/
theorem aosNoticePost_facts {w : Nat} {r : List Nat} (hq : s.mbx.notices = w :: r) (hfull : s.flag Reg.MBX_BOX_STATUS_FULL 40 = false) :
    ∃ t, execAosNoticePost s = .next t ∧ t.mbx = { s.mbx with notices := r } ∧ t.flag Reg.MBX_BOX_STATUS_FULL 40 = true ∧
      t.get Reg.MBX_BOX_WORD 40 = w % 2 ^ 32 ∧ t.get Reg.MBX_BOX_STATUS_SENDER 40 = 0x1F := by
  have hnext : execAosNoticePost s = .next ((noticesLeft s r).sendBox 40 0x1F (BitVec.ofNat 32 w)) := by
    unfold execAosNoticePost noticesLeft
    rw [hq]
    exact if_neg (by simp [hfull])
  obtain ⟨hregs, hmbx⟩ := noticesLeft_facts (s := s) (r := r)
  have hempty : (noticesLeft s r).flag Reg.MBX_BOX_STATUS_FULL 40 = false := (flag_regs hregs).trans hfull
  obtain ⟨hword, hfilled, hsender, -⟩ := sendBox_fills (v := BitVec.ofNat 32 w) (by decide) (by decide : 0x1F < 256) hempty
  refine ⟨_, hnext, ?_, hfilled, hword.trans (BitVec.toNat_ofNat w 32), hsender⟩
  rw [sendBox_empty hempty]
  exact event_mbx.trans (boxFilled_mbx.trans hmbx)

theorem mbxCntClr_facts : ∃ t, execMbxCntClr s = .next t ∧ t.get Reg.MBX_REJECT = 0 ∧ t.get Reg.MBX_OVERRUNS = 0 ∧
    ∀ k < 5, t.get Reg.MBX_CORE_RESTARTS k = 0 := by
  refine ⟨_, rfl, ?_, ?_, fun k hk => get_fold_put (by decide) (by decide) hk (by decide)⟩
  · rw [foldl_keeps (g := fun u : State => u.get Reg.MBX_REJECT) fun _ _ => get_put_apart (by decide) (by decide),
      get_put_apart (by decide) (by decide)]
    exact get_put_same (by decide) (by decide)
  · rw [foldl_keeps (g := fun u : State => u.get Reg.MBX_OVERRUNS) fun _ _ => get_put_apart (by decide) (by decide)]
    exact get_put_same (by decide) (by decide)

end Mailbox

section Quoin
variable {s : State} {q : Requester} {n : Fin 64} {st : Nat}

/-- A free quoin goes to the requester and answers whether it was orphaned. -/
theorem quoinTake_free (hbar : s.barShut q = false) (hst : s.stamp q = some st) (hgroup : quoinGroup q n.val = true)
    (hfree : s.flag Reg.MBX_QUOIN_STATE_HELD n.val = false) (hlt : st < 256) :
    ∃ t, execQuoinTake q n s = .next t ∧ t.flag Reg.MBX_QUOIN_STATE_HELD n.val = true ∧
      t.get Reg.MBX_QUOIN_STATE_OWNER n.val = st ∧ t.flag Reg.MBX_QUOIN_STATE_ORPHANED n.val = false ∧
      t.outbox = .value (takeWord true (s.flag Reg.MBX_QUOIN_STATE_ORPHANED n.val) st) :: s.outbox := by
  have hnext : execQuoinTake q n s = .next ((((s.setFlag Reg.MBX_QUOIN_STATE_HELD true n.val).put Reg.MBX_QUOIN_STATE_OWNER st
      n.val).setFlag Reg.MBX_QUOIN_STATE_ORPHANED false n.val).emit
        (.value (takeWord true (s.flag Reg.MBX_QUOIN_STATE_ORPHANED n.val) st))) := by
    unfold execQuoinTake
    rw [if_neg (by simp [hbar]), hst]
    dsimp only
    rw [if_neg (by simp [hgroup])]
    exact if_pos (by simp [hfree])
  refine ⟨_, hnext, ?_, ?_, ?_, ?_⟩
  · rw [flag_regs emit_regs, flag_setFlag_apart (by decide) n.isLt, flag_put_apart (by decide) n.isLt]
    exact flag_setFlag_same (by decide) rfl n.isLt
  · rw [get_regs emit_regs, get_setFlag_apart (by decide) n.isLt, get_put_same (by decide) n.isLt]
    exact Nat.mod_eq_of_lt hlt
  · rw [flag_regs emit_regs]
    exact flag_setFlag_same (by decide) rfl n.isLt
  · refine congrArg (List.cons _) ?_
    rw [State.setFlag, State.setFlag, put_outbox, put_outbox, put_outbox]

/-- A quoin that another holds answers its owner. -/
theorem quoinTake_held (hbar : s.barShut q = false) (hst : s.stamp q = some st) (hgroup : quoinGroup q n.val = true)
    (hheld : s.flag Reg.MBX_QUOIN_STATE_HELD n.val = true) (hother : s.get Reg.MBX_QUOIN_STATE_OWNER n.val ≠ st) :
    execQuoinTake q n s = .next (s.emit (.value (takeWord false (s.flag Reg.MBX_QUOIN_STATE_ORPHANED n.val)
      (s.get Reg.MBX_QUOIN_STATE_OWNER n.val)))) := by
  unfold execQuoinTake
  rw [if_neg (by simp [hbar]), hst]
  dsimp only
  rw [if_neg (by simp [hgroup]), if_neg (by simp [hheld])]
  exact if_neg hother

theorem quoinRelease_owned (hbar : s.barShut q = false) (hst : s.stamp q = some st) (hgroup : quoinGroup q n.val = true)
    (hheld : s.flag Reg.MBX_QUOIN_STATE_HELD n.val = true) (hmine : s.get Reg.MBX_QUOIN_STATE_OWNER n.val = st) :
    execQuoinRelease q n s = .next (s.setFlag Reg.MBX_QUOIN_STATE_HELD false n.val) := by
  unfold execQuoinRelease
  rw [if_neg (by simp [hbar]), hst]
  dsimp only
  rw [if_neg (by simp [hgroup])]
  exact if_pos (by simp [hheld, hmine])

theorem quoinRelease_rejects (hbar : s.barShut q = false) (hst : s.stamp q = some st) (hgroup : quoinGroup q n.val = true)
    (hnot : s.flag Reg.MBX_QUOIN_STATE_HELD n.val = false ∨ s.get Reg.MBX_QUOIN_STATE_OWNER n.val ≠ st) :
    execQuoinRelease q n s = .next s.rejectBox := by
  unfold execQuoinRelease
  rw [if_neg (by simp [hbar]), hst]
  dsimp only
  rw [if_neg (by simp [hgroup])]
  exact if_neg (by rcases hnot with h | h <;> simp [h])

end Quoin

/-- Settles O50: mailboxes, the AOS's notices, quoins and the counters. -/
theorem mailboxesAndQuoins : Obligations.MailboxesAndQuoins := by
  unfold Obligations.MailboxesAndQuoins
  refine ⟨?_, ?_, ?_, ?_, ?_, ?_, ?_, ?_, ?_, ?_, ?_⟩
  case _ =>
    intro q n v st s hbar hst hmay hlive hfull hlt
    have hnext := mailboxWrite_sends (v := v) hbar hst hmay hlive
    obtain ⟨hword, hfilled, hsender, hseq⟩ := sendBox_fills (v := v) n.isLt hlt hfull
    exact ⟨_, hnext, hword, hfilled, hsender, hseq, keeps_of_next mv_execMailboxWrite hnext (by decide +kernel)⟩
  case _ =>
    intro q n v st s hbar hst hmay hlive hfull
    have hnext := (mailboxWrite_sends (v := v) hbar hst hmay hlive).trans (congrArg _ (sendBox_full hfull))
    obtain ⟨hover, hcount, hword⟩ := boxOverrun_facts (s := s) n.isLt
    exact ⟨_, hnext, hover, hcount, hword, keeps_of_next mv_execMailboxWrite hnext (by decide +kernel)⟩
  case _ =>
    intro q n v st s hbar hst hmay
    have hnext := mailboxWrite_rejects (v := v) hbar hst hmay
    obtain ⟨hcount, hev, hword, -⟩ := rejectBox_facts (s := s) (n := n)
    exact ⟨_, hnext, hcount, hev, hword, keeps_of_next mv_execMailboxWrite hnext (by decide +kernel)⟩
  case _ =>
    intro q n s hbar hmay hfull
    have hnext := mailboxRead_takes hbar hmay hfull
    exact ⟨_, hnext, rfl, (flag_regs emit_regs).trans (flag_setFlag_same (by decide) rfl n.isLt),
      keeps_of_next mv_execMailboxRead hnext (by decide +kernel)⟩
  case _ =>
    intro q n s hbar hno
    have hnext := mailboxRead_zero hbar hno
    exact ⟨_, hnext, rfl, keeps_of_next mv_execMailboxRead hnext (by decide +kernel)⟩
  case _ =>
    intro w r s hq hfull
    obtain ⟨t, hnext, hmbx, hfilled, hword, hsender⟩ := aosNoticePost_facts hq hfull
    exact ⟨t, hnext, hmbx, hfilled, hword, hsender, keeps_of_next mv_execAosNoticePost hnext (by decide +kernel)⟩
  case _ =>
    intro q n st s hbar hst hgroup hfree hlt
    obtain ⟨t, hnext, hheld, howner, horphan, hout⟩ := quoinTake_free hbar hst hgroup hfree hlt
    exact ⟨t, hnext, hheld, howner, horphan, hout, keeps_of_next mv_execQuoinTake hnext (by decide +kernel)⟩
  case _ =>
    intro q n st s hbar hst hgroup hheld hother
    have hnext := quoinTake_held hbar hst hgroup hheld hother
    exact ⟨_, hnext, rfl, keeps_of_next mv_execQuoinTake hnext (by decide +kernel)⟩
  case _ =>
    intro q n st s hbar hst hgroup hheld hmine
    have hnext := quoinRelease_owned hbar hst hgroup hheld hmine
    exact ⟨_, hnext, flag_setFlag_same (by decide) rfl n.isLt, keeps_of_next mv_execQuoinRelease hnext (by decide +kernel)⟩
  case _ =>
    intro q n st s hbar hst hgroup hnot
    have hnext := quoinRelease_rejects hbar hst hgroup hnot
    obtain ⟨hcount, hev, -, hheld⟩ := rejectBox_facts (s := s) (n := n)
    exact ⟨_, hnext, hcount, hev, hheld, keeps_of_next mv_execQuoinRelease hnext (by decide +kernel)⟩
  case _ =>
    intro s
    obtain ⟨t, hnext, hrej, hover, hrestarts⟩ := mbxCntClr_facts (s := s)
    exact ⟨t, hnext, hrej, hover, hrestarts, keeps_of_next mv_execMbxCntClr hnext (by decide +kernel)⟩

end Sys2Proof.Proofs
end

section
/-!
Calibration (20 R488 to R496): drift checks, runs, slewing and value writes.
-/
set_option Elab.async false

namespace Sys2Proof.Proofs
open Sys2Proof Sys2Proof.Machine Sys2Proof.Laws

/-- A pass over `0 … N-1` carries an invariant that says how far it has come. -/
theorem foldl_range_carries {α : Type} {f : α → Nat → α} {P : Nat → α → Prop} {a : α} {N : Nat} (h0 : P 0 a)
    (hs : ∀ n < N, ∀ u, P n u → P (n + 1) (f u n)) : P N ((List.range N).foldl f a) := by
  induction N with
  | zero => exact h0
  | succ N ih =>
    rw [List.range_succ, List.foldl_append, List.foldl_cons, List.foldl_nil]
    exact hs N (by omega) _ (ih fun n hn => hs n (by omega))

/-! ### Runs that become due -/

section Due
variable {s : State} {b : Nat}

/-- What decides that a check makes block `b` due. -/
def driftSeen (s : State) (b : Nat) : Prop := s.calDrift b = true ∧ s.flag Reg.CAL_BLK_CTL_HOLD b = false

/-- The check of one block. -/
def blockChecked (s : State) (b : Nat) : State :=
  if s.calDrift b && !s.flag Reg.CAL_BLK_CTL_HOLD b then s.setFlag Reg.CAL_BLK_STATUS_PENDING true b else s

theorem calDrift_setPending {i : Nat} (hb : b < 6) : (s.setFlag Reg.CAL_BLK_STATUS_PENDING true i).calDrift b = s.calDrift b := by
  unfold State.calDrift
  rw [get_setFlag_apart (by decide) hb, get_setFlag_apart (by decide) hb, get_setFlag_apart (by decide) (by decide)]

theorem driftSeen_blockChecked {i : Nat} (hb : b < 6) (h : driftSeen s b) : driftSeen (blockChecked s i) b := by
  unfold blockChecked
  refine ite_both (P := fun t => driftSeen t b) ⟨(calDrift_setPending hb).trans h.1, ?_⟩ h
  exact (flag_setFlag_apart (by decide) hb).trans h.2

theorem blockChecked_due (hb : b < 6) (h : driftSeen s b) : (blockChecked s b).flag Reg.CAL_BLK_STATUS_PENDING b = true := by
  unfold blockChecked
  rw [if_pos (by simp [h.1, h.2])]
  exact flag_setFlag_same (by decide) rfl hb

theorem blockChecked_stays {i : Nat} (hne : i ≠ b) (h : s.flag Reg.CAL_BLK_STATUS_PENDING b = true) :
    (blockChecked s i).flag Reg.CAL_BLK_STATUS_PENDING b = true := by
  unfold blockChecked
  refine ite_both (P := fun t => State.flag t Reg.CAL_BLK_STATUS_PENDING b = true) ?_ h
  rw [State.flag, State.setFlag, get_put_other rfl rfl (by decide) hne]
  exact h

/-- A pass over the blocks makes a drifting block due. -/
theorem blocksChecked_due {N : Nat} (hb : b < 6) (h : driftSeen s b) :
    driftSeen ((List.range N).foldl blockChecked s) b ∧
      (b < N → ((List.range N).foldl blockChecked s).flag Reg.CAL_BLK_STATUS_PENDING b = true) := by
  refine foldl_range_carries (f := blockChecked)
    (P := fun n (t : State) => driftSeen t b ∧ (b < n → t.flag Reg.CAL_BLK_STATUS_PENDING b = true)) ⟨h, by omega⟩ ?_
  rintro n - u ⟨hseen, hdue⟩
  refine ⟨driftSeen_blockChecked hb hseen, fun hlt => ?_⟩
  by_cases hne : n = b
  · subst hne
    exact blockChecked_due hb hseen
  · exact blockChecked_stays hne (hdue (by omega))

theorem calTemperatureCheck_facts {temps : List Nat} (hb : b < 6) (hrun : s.get Reg.MBX_CORE_STATUS_STATE 0 = 2)
    (hlive : s.unitFailed 16 = false) (hdrift : (s.calSense temps).calDrift b = true)
    (hhold : s.flag Reg.CAL_BLK_CTL_HOLD b = false) :
    ∃ t, execCalTemperatureCheck temps s = .next t ∧ t.flag Reg.CAL_BLK_STATUS_PENDING b = true := by
  have hcore : (s.calSense temps).get Reg.MBX_CORE_STATUS_STATE 0 = 2 :=
    (get_of_moves mv_calSense (by decide +kernel) (by decide)).trans hrun
  have hunit : (s.calSense temps).unitFailed 16 = false :=
    (congrArg (fun w : Word => w.toNat &&& 2 ^ 16 != 0) (rd_of_moves (f := Reg.TOP_UNIT_FAILED_WORD) (j := 0) mv_calSense
      (by decide +kernel) (by decide))).trans hlive
  have hheld : (s.calSense temps).flag Reg.CAL_BLK_CTL_HOLD b = false := by
    rw [State.flag, get_of_moves mv_calSense (by decide +kernel) hb]
    exact hhold
  have hnext : execCalTemperatureCheck temps s = .next ((List.range 6).foldl blockChecked (s.calSense temps)) :=
    if_neg (by simp [hcore, hunit])
  exact ⟨_, hnext, (blocksChecked_due hb ⟨hdrift, hheld⟩).2 hb⟩

/-- The due block with the lowest number starts its run. -/
theorem calRunStart_facts (hidle : 6 ≤ s.get Reg.CAL_STATUS_ACTIVE) (hmay : s.calMay = true)
    (hfind : (List.range 6).find? (fun b => s.flag Reg.CAL_BLK_STATUS_PENDING b) = some b) :
    ∃ t, execCalRunStart s = .next t ∧ t.get Reg.CAL_STATUS_ACTIVE = b ∧ t.flag Reg.CAL_BLK_STATUS_RUNNING b = true ∧
      t.flag Reg.CAL_BLK_STATUS_PENDING b = false ∧ t.get Reg.CAL_BLK_STATUS_TEMP_LAST b = s.get Reg.CAL_BLK_TEMP b := by
  have hb : b < 6 := List.mem_range.1 (List.mem_of_find?_eq_some hfind)
  have hnext : execCalRunStart s = .next ((((s.setFlag Reg.CAL_BLK_STATUS_PENDING false b).setFlag Reg.CAL_BLK_STATUS_RUNNING true
      b).put Reg.CAL_STATUS_ACTIVE b).put Reg.CAL_BLK_STATUS_TEMP_LAST
        (((s.setFlag Reg.CAL_BLK_STATUS_PENDING false b).setFlag Reg.CAL_BLK_STATUS_RUNNING true b).get Reg.CAL_BLK_TEMP b) b) := by
    unfold execCalRunStart
    rw [if_neg (by simp [hmay, hidle]), hfind]
  refine ⟨_, hnext, ?_, ?_, ?_, ?_⟩
  · rw [get_put_apart (by decide) (by decide), get_put_same (by decide) (by decide)]
    exact Nat.mod_eq_of_lt (Nat.lt_trans hb (by decide))
  · rw [flag_put_apart (by decide) hb, flag_put_apart (by decide) hb]
    exact flag_setFlag_same (by decide) rfl hb
  · rw [flag_put_apart (by decide) hb, flag_put_apart (by decide) hb, flag_setFlag_apart (by decide) hb]
    exact flag_setFlag_same (by decide) rfl hb
  · rw [get_put_same (by decide) hb, get_setFlag_apart (by decide) hb, get_setFlag_apart (by decide) hb]
    exact Nat.mod_eq_of_lt get_lt

end Due

/-! ### Value words -/

section Values
variable {s : State} {b addr k : Nat} {v : Byte} {once : Bool}

/-- The value words lie between the first block's first and the last block's last. -/
theorem calOf_bounds (h : calOf addr = some b) : b < 6 ∧ 0x1010000 ≤ addr ∧ addr < 0x1060034 := by
  have hb : b < 6 := List.mem_range.1 (List.mem_of_find?_eq_some h)
  have hin := List.find?_some h
  simp only [Bool.and_eq_true, decide_eq_true_eq] at hin
  refine ⟨hb, ?_⟩
  obtain rfl | rfl | rfl | rfl | rfl | rfl : b = 0 ∨ b = 1 ∨ b = 2 ∨ b = 3 ∨ b = 4 ∨ b = 5 := by omega
  all_goals
    simp only [calBlock] at hin
    omega

/-- Setting a code writes its own word only. -/
theorem rd_calSet_apart (h : k ≠ addr / 4 * 4) : (s.calSet addr v once).rd k = s.rd k := rd_wr_ne h

theorem rd_calSet_same : (s.calSet addr v once).rd (addr / 4 * 4) =
    setBits (s.rd (addr / 4 * 4)) (8 * (addr % 4) + 7) (8 * (addr % 4)) v.toNat := rd_wr_same

/-- A word that is no value word. -/
def offValues (k : Nat) : Prop := k < 0x1010000 ∨ 0x1060034 ≤ k

theorem rd_calResult {c : Nat × Byte} (hk : offValues k) : (s.calResult b once c).rd k = s.rd k := by
  unfold offValues at hk
  unfold State.calResult
  split
  · rfl
  next hof =>
    have hbounds := calOf_bounds (b := b) (addr := c.1) (by simpa using hof)
    have hset : ∀ w o, (s.calSet c.1 w o).rd k = s.rd k := fun w o => rd_calSet_apart (by omega)
    dsimp only
    split
    · rfl
    · split
      · exact ite_both (P := fun t => State.rd t k = s.rd k) rfl (hset _ _)
      · exact ite_both (P := fun t => State.rd t k = s.rd k) (hset _ _) rfl
      · exact hset _ _

theorem rd_calSwapAmps (hk : offValues k) : s.calSwapAmps.rd k = s.rd k := by
  unfold offValues at hk
  refine foldl_range_carries (P := fun _ (t : State) => t.rd k = s.rd k) rfl fun n hn u hu => ?_
  refine Eq.trans (rd_calSet_apart ?_) hu
  simp only [calBlock]
  omega

theorem resetRuns_calSet : (s.calSet addr v once).cal.resetRuns = s.cal.resetRuns := rfl

theorem resetRuns_calResult {c : Nat × Byte} : (s.calResult b once c).cal.resetRuns = s.cal.resetRuns := by
  unfold State.calResult
  refine ite_both (P := fun t => (State.cal t).resetRuns = s.cal.resetRuns) rfl ?_
  refine ite_both (P := fun t => (State.cal t).resetRuns = s.cal.resetRuns) rfl ?_
  split
  · exact ite_both (P := fun t => (State.cal t).resetRuns = s.cal.resetRuns) rfl resetRuns_calSet
  · exact ite_both (P := fun t => (State.cal t).resetRuns = s.cal.resetRuns) resetRuns_calSet rfl
  · exact resetRuns_calSet

end Values

/-! ### The end of a run -/

section RunEnd
variable {s : State} {b k : Nat} {codes : List (Nat × Byte)}

/-- The codes of a run become the targets; an ISENSE run swaps the amplifiers. -/
def runMeasured (s : State) (b : Nat) (codes : List (Nat × Byte)) : State :=
  let s1 := codes.foldl (fun t c => t.calResult b (s.cal.resetRuns.contains b) c) s
  if b = 5 then s1.calSwapAmps else s1

theorem rd_runMeasured (hk : offValues k) : (runMeasured s b codes).rd k = s.rd k := by
  have hfold : (codes.foldl (fun t c => t.calResult b (s.cal.resetRuns.contains b) c) s).rd k = s.rd k :=
    foldl_keeps (g := fun u : State => u.rd k) fun _ _ => rd_calResult hk
  exact ite_both (P := fun t => State.rd t k = s.rd k) ((rd_calSwapAmps hk).trans hfold) hfold

theorem resetRuns_runMeasured : (runMeasured s b codes).cal.resetRuns = s.cal.resetRuns := by
  have hfold : (codes.foldl (fun t c => t.calResult b (s.cal.resetRuns.contains b) c) s).cal.resetRuns = s.cal.resetRuns :=
    foldl_keeps (g := fun u : State => u.cal.resetRuns) fun _ _ => resetRuns_calResult
  refine ite_both (P := fun t => (State.cal t).resetRuns = s.cal.resetRuns) (Eq.trans ?_ hfold) hfold
  exact foldl_keeps (g := fun u : State => u.cal.resetRuns) fun _ _ => resetRuns_calSet

/-- The block leaves the runs that a reset asked for. -/
def runSettled (s : State) (b : Nat) (reset : Bool) : State :=
  { s with cal := { s.cal with
      resetRuns := s.cal.resetRuns.filter (· != b),
      applied := if reset then s.cal.applied.filter (fun e => calOf e.1 != some b) else s.cal.applied } }

theorem runSettled_facts {reset : Bool} : (runSettled s b reset).regs = s.regs ∧
    (runSettled s b reset).cal.resetRuns = s.cal.resetRuns.filter (· != b) := ⟨rfl, rfl⟩

/-- The block runs no more and its run is counted, timed and reported. -/
def runShown (s : State) (b : Nat) : State :=
  let s1 := (s.setFlag Reg.CAL_BLK_STATUS_RUNNING false b).put Reg.CAL_STATUS_ACTIVE 7
  let s2 := (s1.put Reg.CAL_BLK_COUNT (s1.get Reg.CAL_BLK_COUNT b + 1) b).put64 Reg.CAL_BLK_LAST s1.now b
  (s2.calSlewing b).event Reg.CAL_STATUS_RUN_EV

theorem moves_runShown : Moves 0x200000200001b80000000000000000000000000000000000000000000000000000000000100000 s (runShown s b) := by
  unfold runShown
  refine mv_event (Moves.step (g := mv_calSlewing) (mvPut64 (mvPut (mvPut (mvSetFlag Moves.refl ?_) ?_) ?_) ?_) ?_) ?_ <;> decide +kernel

/-- The report and the mark of slewing leave a field of the run's record alone. -/
theorem get_reported {g : Fld} {j : Nat} (hslew : apart Reg.CAL_BLK_STATUS_SLEWING g = true) (hev : apart Reg.CAL_STATUS_RUN_EV g = true)
    (h0 : apart Reg.MSIX0_PBA g = true) (h1 : apart Reg.MSIX1_PBA g = true) (hj : j < g.count) :
    ((s.calSlewing b).event Reg.CAL_STATUS_RUN_EV).get g j = s.get g j :=
  (event_get hev hj h0 h1).trans (get_setFlag_apart hslew hj)

theorem get64_reported (hb : b < 6) :
    ((s.calSlewing b).event Reg.CAL_STATUS_RUN_EV).get64 Reg.CAL_BLK_LAST b = s.get64 Reg.CAL_BLK_LAST b := by
  have hmoves : Moves 0x200000200000180000000000000000000000000000000000000000000000000000000000100000 s
      ((s.calSlewing b).event Reg.CAL_STATUS_RUN_EV) :=
    mv_event (Moves.refl.step mv_calSlewing (by decide +kernel)) (by decide +kernel)
  exact get64_of_moves hmoves (by decide +kernel) hb

theorem runShown_facts (hb : b < 6) : (runShown s b).get Reg.CAL_STATUS_ACTIVE = 7 ∧
    (runShown s b).flag Reg.CAL_BLK_STATUS_RUNNING b = false ∧
    (runShown s b).get Reg.CAL_BLK_COUNT b = (s.get Reg.CAL_BLK_COUNT b + 1) % 2 ^ 32 ∧
    (runShown s b).get64 Reg.CAL_BLK_LAST b = s.now % 2 ^ 64 ∧ (runShown s b).flag Reg.CAL_STATUS_RUN_EV = true ∧
    (runShown s b).cal = s.cal := by
  unfold runShown
  dsimp only
  refine ⟨?_, ?_, ?_, ?_, event_flag (by decide) (by decide), ?_⟩
  · rw [get_reported (by decide) (by decide) (by decide) (by decide) (by decide), get_put64_apart (by decide) (by decide),
      get_put_apart (by decide) (by decide)]
    exact get_put_same (by decide) (by decide)
  · rw [State.flag, get_reported (by decide) (by decide) (by decide) (by decide) hb, get_put64_apart (by decide) hb,
      get_put_apart (by decide) hb, get_put_apart (by decide) hb]
    exact flag_setFlag_same (by decide) rfl hb
  · rw [get_reported (by decide) (by decide) (by decide) (by decide) hb, get_put64_apart (by decide) hb,
      get_put_same (by decide) hb, get_put_apart (by decide) hb, get_setFlag_apart (by decide) hb]
    rfl
  · rw [get64_reported hb, get64_put64_same hb, State.now, State.setFlag, get64_put_apart (by decide) (by decide),
      get64_put_apart (by decide) (by decide), State.now]
  · rw [event_cal, State.calSlewing, State.setFlag, put_cal, put64_cal, put_cal, put_cal, State.setFlag, put_cal]

/-- A word outside CAL's page and the pending bits is left by the end of a run. -/
theorem rd_runShown (hk : k < 0x1000000 ∨ 0x1100000 ≤ k ∧ k < 0x1000F8000 ∨ 0x1000F8004 ≤ k ∧ k < 0x400008000) :
    (runShown s b).rd k = s.rd k := by
  have hkeep : Keeps [.outbox] [Reg.CAL_STATUS_WORD, Reg.CAL_BLK_STATUS_WORD, Reg.CAL_BLK_COUNT, Reg.CAL_BLK_LAST_LO, Reg.CAL_BLK_LAST_HI,
      Reg.MSIX1_PBA, Reg.MSIX0_PBA] s (runShown s b) := keeps_of moves_runShown (by decide +kernel)
  refine hkeep.regs k ?_
  intro f hf
  rintro ⟨i, hi, rfl⟩
  simp only [List.mem_cons, List.not_mem_nil, or_false] at hf
  rcases hf with rfl | rfl | rfl | rfl | rfl | rfl | rfl <;> simp only [Reg.CAL_STATUS_WORD, Reg.CAL_BLK_STATUS_WORD,
    Reg.CAL_BLK_COUNT, Reg.CAL_BLK_LAST_LO, Reg.CAL_BLK_LAST_HI, Reg.MSIX1_PBA, Reg.MSIX0_PBA] at hi hk <;> omega

theorem calRunComplete_next (hb : s.get Reg.CAL_STATUS_ACTIVE = b) (hlt : b < 6) :
    execCalRunComplete codes s = .next (runShown (runSettled (runMeasured s b codes) b (s.cal.resetRuns.contains b)) b) := by
  unfold execCalRunComplete
  rw [hb]
  exact if_neg (by omega)

theorem calRunComplete_facts (hb : s.get Reg.CAL_STATUS_ACTIVE = b) (hlt : b < 6) :
    ∃ t, execCalRunComplete codes s = .next t ∧ t.get Reg.CAL_STATUS_ACTIVE = 7 ∧ t.flag Reg.CAL_BLK_STATUS_RUNNING b = false ∧
      t.get Reg.CAL_BLK_COUNT b = (s.get Reg.CAL_BLK_COUNT b + 1) % 2 ^ 32 ∧
      t.get64 Reg.CAL_BLK_LAST b = s.now % 2 ^ 64 ∧ t.flag Reg.CAL_STATUS_RUN_EV = true ∧
      t.cal.resetRuns = s.cal.resetRuns.filter (· != b) ∧
      ∀ k, k < 0x1000000 ∨ 0x1100000 ≤ k ∧ k < 0x1000F8000 ∨ 0x1000F8004 ≤ k ∧ k < 0x400008000 → t.rd k = s.rd k := by
  obtain ⟨hregs, hruns⟩ := runSettled_facts (s := runMeasured s b codes) (b := b) (reset := s.cal.resetRuns.contains b)
  obtain ⟨hact, hrun, hcount, hlast, hev, hcal⟩ :=
    runShown_facts (s := runSettled (runMeasured s b codes) b (s.cal.resetRuns.contains b)) hlt
  have hoff : ∀ k, offValues k → (runSettled (runMeasured s b codes) b (s.cal.resetRuns.contains b)).rd k = s.rd k := fun k hk => by
    rw [State.rd, hregs]
    exact rd_runMeasured hk
  have hcount' : (runSettled (runMeasured s b codes) b (s.cal.resetRuns.contains b)).get Reg.CAL_BLK_COUNT b = s.get Reg.CAL_BLK_COUNT b := by
    rw [State.get, State.get, hoff _ (.inl ?_)]
    simp only [Reg.CAL_BLK_COUNT]
    omega
  have hnow : (runSettled (runMeasured s b codes) b (s.cal.resetRuns.contains b)).now = s.now := by
    rw [State.now, State.now, State.get64, State.get64, hoff _ (.inl (by decide)), hoff _ (.inl (by decide))]
  refine ⟨_, calRunComplete_next hb hlt, hact, hrun, hcount.trans (by rw [hcount']), hlast.trans (by rw [hnow]), hev, ?_, ?_⟩
  · rw [hcal, hruns, resetRuns_runMeasured]
  · exact fun k hk => (rd_runShown hk).trans (hoff k (by unfold offValues; omega))

end RunEnd

/-! ### A value write -/

section ValueWrite
variable {s : State} {addr b : Nat} {v w : Word}

theorem byteOf_eq_bitsOf {n : Nat} : (byteOf w n).toNat = bitsOf w (8 * n + 7) (8 * n) := by
  rw [byteOf, BitVec.toNat_ofNat, bitsOf, Nat.shiftRight_eq_div_pow, Nat.pow_mul]
  congr 2
  omega

theorem byteOf_setBits_same {n : Nat} {x : Byte} (hn : n < 4) : byteOf (setBits w (8 * n + 7) (8 * n) x.toNat) n = x := by
  refine BitVec.eq_of_toNat_eq ?_
  rw [byteOf_eq_bitsOf, bitsOf_setBits_same (by omega) (by omega), show 8 * n + 7 + 1 - 8 * n = 8 by omega]
  exact Nat.mod_eq_of_lt x.isLt

theorem byteOf_setBits_apart {n m : Nat} {x : Byte} (hn : n < 4) (hne : m ≠ n) :
    byteOf (setBits w (8 * n + 7) (8 * n) x.toNat) m = byteOf w m := by
  refine BitVec.eq_of_toNat_eq ?_
  rw [byteOf_eq_bitsOf, byteOf_eq_bitsOf, bitsOf_setBits_apart (by omega) (by omega) (by omega)]

/-- A word is its four bytes. -/
theorem eq_of_byteOf_eq (h : ∀ m < 4, byteOf v m = byteOf w m) : v = w := by
  have hbyte : ∀ m < 4, v.toNat / 256 ^ m % 256 = w.toNat / 256 ^ m % 256 := fun m hm => by
    have := congrArg BitVec.toNat (h m hm)
    rwa [byteOf, byteOf, BitVec.toNat_ofNat, BitVec.toNat_ofNat] at this
  have h0 : v.toNat / 1 % 256 = w.toNat / 1 % 256 := hbyte 0 (by decide)
  have h1 : v.toNat / 256 % 256 = w.toNat / 256 % 256 := hbyte 1 (by decide)
  have h2 : v.toNat / 65536 % 256 = w.toNat / 65536 % 256 := hbyte 2 (by decide)
  have h3 : v.toNat / 16777216 % 256 = w.toNat / 16777216 % 256 := hbyte 3 (by decide)
  have hv := v.isLt
  have hw := w.isLt
  exact BitVec.eq_of_toNat_eq (by omega)

/-- One byte of a value write. -/
def byteWritten (addr b : Nat) (w : Word) (t : State) (n : Nat) : State :=
  if byteOf w n = byteOf (t.rd addr) n then t
  else
    let p := calPlace b (addr + n)
    t.calSet (addr + n) (byteOf w n) (t.calQuiet b p.1 || t.calSpare b p.1 p.2)

variable {n k : Nat}

theorem rd_byteWritten (halign : addr % 4 = 0) (hn : n < 4) (hk : k ≠ addr) : (byteWritten addr b w s n).rd k = s.rd k :=
  ite_both (P := fun t => State.rd t k = s.rd k) rfl (rd_calSet_apart (by omega))

theorem byteOf_byteWritten_same (halign : addr % 4 = 0) (hn : n < 4) : byteOf ((byteWritten addr b w s n).rd addr) n = byteOf w n := by
  unfold byteWritten
  split
  next heq => exact heq.symm
  · have hset := rd_calSet_same (s := s) (addr := addr + n) (v := byteOf w n)
      (once := s.calQuiet b (calPlace b (addr + n)).1 || s.calSpare b (calPlace b (addr + n)).1 (calPlace b (addr + n)).2)
    rw [show (addr + n) / 4 * 4 = addr by omega, show (addr + n) % 4 = n by omega] at hset
    exact (congrArg (byteOf · n) hset).trans (byteOf_setBits_same hn)

theorem byteOf_byteWritten_apart {m : Nat} (halign : addr % 4 = 0) (hn : n < 4) (hne : m ≠ n) :
    byteOf ((byteWritten addr b w s n).rd addr) m = byteOf (s.rd addr) m := by
  unfold byteWritten
  split
  · rfl
  · have hset := rd_calSet_same (s := s) (addr := addr + n) (v := byteOf w n)
      (once := s.calQuiet b (calPlace b (addr + n)).1 || s.calSpare b (calPlace b (addr + n)).1 (calPlace b (addr + n)).2)
    rw [show (addr + n) / 4 * 4 = addr by omega, show (addr + n) % 4 = n by omega] at hset
    exact (congrArg (byteOf · m) hset).trans (byteOf_setBits_apart hn hne)

/-- The four bytes written make the word, and no other word changes. -/
theorem bytesWritten_facts (halign : addr % 4 = 0) : ((List.range 4).foldl (byteWritten addr b w) s).rd addr = w ∧
    ∀ k, k ≠ addr → ((List.range 4).foldl (byteWritten addr b w) s).rd k = s.rd k := by
  have hpass := foldl_range_carries (f := byteWritten addr b w) (a := s) (N := 4)
    (P := fun n (t : State) => (∀ m < n, byteOf (t.rd addr) m = byteOf w m) ∧ ∀ k, k ≠ addr → t.rd k = s.rd k)
    ⟨by omega, fun _ _ => rfl⟩ ?_
  · exact ⟨eq_of_byteOf_eq hpass.1, hpass.2⟩
  · rintro n hn u ⟨hbytes, hrest⟩
    refine ⟨fun m hm => ?_, fun k hk => (rd_byteWritten halign hn hk).trans (hrest k hk)⟩
    by_cases hne : m = n
    · subst hne
      exact byteOf_byteWritten_same halign hn
    · exact (byteOf_byteWritten_apart halign hn hne).trans (hbytes m (by omega))

theorem calSlewing_shows (hb : b < 6) :
    (s.calSlewing b).flag Reg.CAL_BLK_STATUS_SLEWING b = (s.calSlewing b).cal.applied.any (fun e => calOf e.1 == some b) := by
  unfold State.calSlewing
  rw [flag_setFlag_same (by decide) rfl hb, State.setFlag, put_cal]

theorem calValueWrite_facts (hof : calOf addr = some b) (halign : addr % 4 = 0) (hhere : s.absentAt addr = false)
    (hidle : s.flag Reg.CAL_BLK_STATUS_RUNNING b = false) :
    ∃ t, execCalValueWrite addr v s = .next t ∧ t.rd addr = s.written addr v ∧
      (∀ k, k ≠ addr → ¬ Reg.CAL_BLK_STATUS_SLEWING.holds k → t.rd k = s.rd k) ∧
      t.flag Reg.CAL_BLK_STATUS_SLEWING b = t.cal.applied.any (fun e => calOf e.1 == some b) := by
  obtain ⟨hb, hlow, -⟩ := calOf_bounds hof
  have hnext : execCalValueWrite addr v s =
      .next (((List.range 4).foldl (byteWritten addr b (s.written addr v)) s).calSlewing b) := by
    unfold execCalValueWrite
    rw [hof]
    dsimp only
    rw [if_neg (by simp [hhere])]
    exact if_neg (by simp [hidle])
  obtain ⟨hword, hrest⟩ := bytesWritten_facts (s := s) (b := b) (w := s.written addr v) halign
  refine ⟨_, hnext, (rd_put_apart ?_).trans hword, fun k hk hslew => (rd_put_apart hslew).trans (hrest k hk), calSlewing_shows hb⟩
  rintro ⟨i, hi, heq⟩
  simp only [Reg.CAL_BLK_STATUS_SLEWING] at hi heq
  omega

theorem calValueWrite_refused (hof : calOf addr = some b) (hhere : s.absentAt addr = false)
    (hrun : s.flag Reg.CAL_BLK_STATUS_RUNNING b = true) (hnew : s.written addr v ≠ s.rd addr) :
    execCalValueWrite addr v s = .next (s.event Reg.CAL_STATUS_CFG_REJ) := by
  unfold execCalValueWrite
  rw [hof]
  dsimp only
  rw [if_neg (by simp [hhere]), if_pos hrun, if_neg hnew]

/-- A refused write's event touches CAL.STATUS and the pending bits only. -/
theorem rd_cfgRej (hof : calOf addr = some b) : (s.event Reg.CAL_STATUS_CFG_REJ).rd addr = s.rd addr := by
  obtain ⟨-, hlow, hhigh⟩ := calOf_bounds hof
  have hmoves : Moves 0x200000200000080000000000000000000000000000000000000000000000000000000000100000 s
      (s.event Reg.CAL_STATUS_CFG_REJ) := mv_event Moves.refl (by decide +kernel)
  have hkeep : Keeps [.outbox] [Reg.CAL_STATUS_WORD, Reg.MSIX1_PBA, Reg.MSIX0_PBA] s (s.event Reg.CAL_STATUS_CFG_REJ) :=
    keeps_of hmoves (by decide +kernel)
  refine hkeep.regs addr ?_
  intro f hf
  rintro ⟨i, hi, rfl⟩
  simp only [List.mem_cons, List.not_mem_nil, or_false] at hf
  rcases hf with rfl | rfl | rfl <;> simp only [Reg.CAL_STATUS_WORD, Reg.MSIX1_PBA, Reg.MSIX0_PBA] at hi hlow hhigh <;> omega

end ValueWrite

/-- Settles O51: drift, runs, slewing and value writes of the calibration. -/
theorem calibration : Obligations.Calibration := by
  unfold Obligations.Calibration
  refine ⟨?_, ?_, ?_, ?_, ?_, ?_, ?_⟩
  case _ =>
    intro temps b s hrun hlive hdrift hhold
    obtain ⟨t, hnext, hdue⟩ := calTemperatureCheck_facts b.isLt hrun hlive hdrift hhold
    exact ⟨t, hnext, hdue, keeps_of_next mv_execCalTemperatureCheck hnext (by decide +kernel)⟩
  case _ =>
    intro b s
    exact ⟨_, rfl, flag_setFlag_same (by decide) rfl b.isLt,
      keeps_of_next (mv_execCalRunRequest (b := b)) rfl (by decide +kernel)⟩
  case _ =>
    intro b s hidle hmay hfind
    obtain ⟨t, hnext, hact, hrun, hdone, htemp⟩ := calRunStart_facts hidle hmay hfind
    exact ⟨t, hnext, hact, hrun, hdone, htemp, keeps_of_next mv_execCalRunStart hnext (by decide +kernel)⟩
  case _ =>
    intro codes s hlt
    obtain ⟨t, hnext, hact, hrun, hcount, hlast, hev, hruns, hrest⟩ := calRunComplete_facts (codes := codes) rfl hlt
    exact ⟨t, hnext, hact, hrun, hcount, hlast, hev, hruns, hrest,
      keepsParts_of_next mv_execCalRunComplete hnext (by decide +kernel)⟩
  case _ =>
    intro b s
    exact ⟨_, rfl, rfl, calSlewing_shows b.isLt, keeps_of_next (mv_execCalSlewStep (b := b)) rfl (by decide +kernel)⟩
  case _ =>
    intro addr b v s hof halign hhere hidle
    obtain ⟨t, hnext, hword, hrest, hslew⟩ := calValueWrite_facts (v := v) hof halign hhere hidle
    exact ⟨t, hnext, hword, hrest, hslew, keepsParts_of_next mv_execCalValueWrite hnext (by decide +kernel)⟩
  case _ =>
    intro addr b v s hof hhere hrun hnew
    have hnext := calValueWrite_refused hof hhere hrun hnew
    exact ⟨_, hnext, rfl, event_flag (by decide) (by decide), rd_cfgRej hof,
      keepsParts_of_next mv_execCalValueWrite hnext (by decide +kernel)⟩

end Sys2Proof.Proofs
end

section
/-!
The boundary scan and the debug port's reset (22 R530, 19 R474 and R487, 21 R504).
-/
set_option Elab.async false

namespace Sys2Proof.Proofs
open Sys2Proof Sys2Proof.Machine Sys2Proof.Laws

/-! ### The reset of the debug port -/

section TapReset
variable {s : State} {st n i : Nat}

/-- Quoin `n` is held under the stamp `st`. -/
def quoinOwned (s : State) (st n : Nat) : Prop :=
  s.flag Reg.MBX_QUOIN_STATE_HELD n = true ∧ s.get Reg.MBX_QUOIN_STATE_OWNER n = st

/-- Quoin `n` is free and marked as orphaned. -/
def quoinOrphaned (s : State) (n : Nat) : Prop :=
  s.flag Reg.MBX_QUOIN_STATE_HELD n = false ∧ s.flag Reg.MBX_QUOIN_STATE_ORPHANED n = true

/-- The look at one quoin. -/
def orphanedAt (st : Nat) (s : State) (i : Nat) : State :=
  if s.flag Reg.MBX_QUOIN_STATE_HELD i && s.get Reg.MBX_QUOIN_STATE_OWNER i == st then
    (s.setFlag Reg.MBX_QUOIN_STATE_HELD false i).setFlag Reg.MBX_QUOIN_STATE_ORPHANED true i
  else s

theorem orphanedAt_same (hn : n < 64) (h : quoinOwned s st n) : quoinOrphaned (orphanedAt st s n) n := by
  unfold orphanedAt
  rw [if_pos (by simp [h.1, h.2])]
  exact ⟨(flag_setFlag_apart (by decide) hn).trans (flag_setFlag_same (by decide) rfl hn), flag_setFlag_same (by decide) rfl hn⟩

/-- The look at another quoin leaves quoin `n` alone. -/
theorem orphanedAt_other (hne : i ≠ n) : (orphanedAt st s i).rd (Reg.MBX_QUOIN_STATE_WORD.base + Reg.MBX_QUOIN_STATE_WORD.stride * n) =
    s.rd (Reg.MBX_QUOIN_STATE_WORD.base + Reg.MBX_QUOIN_STATE_WORD.stride * n) := by
  have hput : ∀ (f : Fld) (u : State) (b : Bool), f.base = Reg.MBX_QUOIN_STATE_WORD.base → f.stride = Reg.MBX_QUOIN_STATE_WORD.stride →
      (u.setFlag f b i).rd (Reg.MBX_QUOIN_STATE_WORD.base + Reg.MBX_QUOIN_STATE_WORD.stride * n) =
        u.rd (Reg.MBX_QUOIN_STATE_WORD.base + Reg.MBX_QUOIN_STATE_WORD.stride * n) := by
    intro f u b hbase hstride
    rw [State.setFlag, State.put, hbase, hstride]
    refine ite_both (P := fun t => State.rd t _ = u.rd _) (rd_wr_ne ?_) rfl
    simp only [Reg.MBX_QUOIN_STATE_WORD]
    omega
  unfold orphanedAt
  split
  · exact (hput Reg.MBX_QUOIN_STATE_ORPHANED _ true rfl rfl).trans (hput Reg.MBX_QUOIN_STATE_HELD _ false rfl rfl)
  · rfl

theorem quoinOwned_of_rd {t : State} (h : t.rd (Reg.MBX_QUOIN_STATE_WORD.base + Reg.MBX_QUOIN_STATE_WORD.stride * n) =
    s.rd (Reg.MBX_QUOIN_STATE_WORD.base + Reg.MBX_QUOIN_STATE_WORD.stride * n)) (hs : quoinOwned s st n) : quoinOwned t st n := by
  refine ⟨Eq.trans ?_ hs.1, Eq.trans ?_ hs.2⟩
  · exact congrArg (fun w => bitsOf w Reg.MBX_QUOIN_STATE_HELD.hi Reg.MBX_QUOIN_STATE_HELD.lo != 0) h
  · exact congrArg (fun w => bitsOf w Reg.MBX_QUOIN_STATE_OWNER.hi Reg.MBX_QUOIN_STATE_OWNER.lo) h

theorem quoinOrphaned_of_rd {t : State} (h : t.rd (Reg.MBX_QUOIN_STATE_WORD.base + Reg.MBX_QUOIN_STATE_WORD.stride * n) =
    s.rd (Reg.MBX_QUOIN_STATE_WORD.base + Reg.MBX_QUOIN_STATE_WORD.stride * n)) (hs : quoinOrphaned s n) : quoinOrphaned t n := by
  refine ⟨Eq.trans ?_ hs.1, Eq.trans ?_ hs.2⟩
  · exact congrArg (fun w => bitsOf w Reg.MBX_QUOIN_STATE_HELD.hi Reg.MBX_QUOIN_STATE_HELD.lo != 0) h
  · exact congrArg (fun w => bitsOf w Reg.MBX_QUOIN_STATE_ORPHANED.hi Reg.MBX_QUOIN_STATE_ORPHANED.lo != 0) h

/-- A stamp that ends leaves each of its quoins orphaned (19 R487). -/
theorem orphan_orphans (hn : n < 64) (h : quoinOwned s st n) : quoinOrphaned (s.orphan st) n := by
  have hpass := foldl_range_carries (f := orphanedAt st) (a := s) (N := 64)
    (P := fun i (t : State) => (i ≤ n → quoinOwned t st n) ∧ (n < i → quoinOrphaned t n)) ⟨fun _ => h, by omega⟩ ?_
  · exact hpass.2 hn
  · rintro i - u ⟨howned, horphaned⟩
    by_cases hne : i = n
    · subst hne
      exact ⟨by omega, fun _ => orphanedAt_same hn (howned (Nat.le_refl i))⟩
    · exact ⟨fun hle => quoinOwned_of_rd (orphanedAt_other hne) (howned (by omega)),
        fun hlt => quoinOrphaned_of_rd (orphanedAt_other hne) (horphaned (by omega))⟩

/-- The debug port takes its next incarnation and the instruction IDCODE. -/
def tapRenewed (s : State) : State :=
  { s with mbx := { s.mbx with dbgInc := (s.mbx.dbgInc + 1) % 8 }, jtag := { s.jtag with instr := 2 } }

theorem tapRenewed_facts : (tapRenewed s).regs = s.regs ∧ (tapRenewed s).mbx = { s.mbx with dbgInc := (s.mbx.dbgInc + 1) % 8 } ∧
    (tapRenewed s).jtag = { s.jtag with instr := 2 } := ⟨rfl, rfl, rfl⟩

/-- The reset of the TAP shows. -/
def tapShown (s : State) : State := (s.setFlag Reg.DBG_STATUS_TAP_ACTIVE false).event Reg.DBG_STATUS_TAP_RESET_EV

theorem tapShown_facts : (tapShown s).mbx = s.mbx ∧ (tapShown s).jtag = s.jtag ∧ (tapShown s).flag Reg.DBG_STATUS_TAP_ACTIVE = false ∧
    (tapShown s).flag Reg.DBG_STATUS_TAP_RESET_EV = true :=
  ⟨event_mbx.trans put_mbx, event_jtag.trans put_jtag,
    (flag_event_apart (by decide) (by decide) (by decide) (by decide)).trans (flag_setFlag_same (by decide) rfl (by decide)),
    event_flag (by decide) (by decide)⟩

theorem tapShown_quoin {g : Fld} (hact : apart Reg.DBG_STATUS_TAP_ACTIVE g = true) (hev : apart Reg.DBG_STATUS_TAP_RESET_EV g = true)
    (h0 : apart Reg.MSIX0_PBA g = true) (h1 : apart Reg.MSIX1_PBA g = true) (hj : n < g.count) :
    (tapShown s).flag g n = s.flag g n :=
  (flag_event_apart hev hj h0 h1).trans (flag_setFlag_apart hact hj)

theorem tapReset_facts : ∃ t, execTapReset s = .next t ∧ t.mbx = { s.mbx with dbgInc := (s.mbx.dbgInc + 1) % 8 } ∧
    t.jtag = { s.jtag with instr := 2 } ∧ t.flag Reg.DBG_STATUS_TAP_ACTIVE = false ∧ t.flag Reg.DBG_STATUS_TAP_RESET_EV = true ∧
    ∀ n < 64, s.flag Reg.MBX_QUOIN_STATE_HELD n = true → s.get Reg.MBX_QUOIN_STATE_OWNER n = 0x02 + 32 * s.mbx.dbgInc →
      t.flag Reg.MBX_QUOIN_STATE_HELD n = false ∧ t.flag Reg.MBX_QUOIN_STATE_ORPHANED n = true := by
  have hnext : execTapReset s = .next (tapShown (tapRenewed (s.orphan (0x02 + 32 * s.mbx.dbgInc)))) := rfl
  obtain ⟨hmbx, hjtag, hactive, hev⟩ := tapShown_facts (s := tapRenewed (s.orphan (0x02 + 32 * s.mbx.dbgInc)))
  obtain ⟨kregs, kmbx, kjtag⟩ := tapRenewed_facts (s := s.orphan (0x02 + 32 * s.mbx.dbgInc))
  refine ⟨_, hnext, ?_, ?_, hactive, hev, fun n hn hheld howner => ?_⟩
  · rw [hmbx, kmbx, mv_orphan.mbx (by decide +kernel)]
  · rw [hjtag, kjtag, mv_orphan.jtag (by decide +kernel)]
  · obtain ⟨hfree, horphan⟩ := orphan_orphans hn ⟨hheld, howner⟩
    exact ⟨(tapShown_quoin (by decide) (by decide) (by decide) (by decide) hn).trans ((flag_regs kregs).trans hfree),
      (tapShown_quoin (by decide) (by decide) (by decide) (by decide) hn).trans ((flag_regs kregs).trans horphan)⟩

end TapReset

/-! ### Scans -/

section Scan
variable {s : State} {tdi : List Bool} {n l : Nat}

theorem tapInstr_facts : (s.tapInstr n).jtag = { s.jtag with instr := n } ∧ (s.tapInstr n).outbox = s.outbox ∧
    (s.tapInstr n).flag Reg.DBG_STATUS_TAP_ACTIVE = true :=
  ⟨put_jtag, put_outbox, flag_setFlag_same (by decide) rfl (by decide)⟩

theorem scanBypass_facts : (s.scanBypass tdi).regs = s.regs ∧ (s.scanBypass tdi).pwr = s.pwr ∧ (s.scanBypass tdi).mot = s.mot ∧
    (s.scanBypass tdi).jtag = { s.jtag with bypass := ((false :: tdi).drop tdi.length).headD false } ∧
    (s.scanBypass tdi).outbox = .tdo ((false :: tdi).take tdi.length) :: s.outbox := ⟨rfl, rfl, rfl, rfl, rfl⟩

/-- Bits shifted into the chain leave at its end. -/
def chainScanned (s : State) (chain tdi : List Bool) : State :=
  ({ s with jtag := { s.jtag with chain := (chain ++ tdi).drop tdi.length } } : State).emit (.tdo ((chain ++ tdi).take tdi.length))

theorem chainScanned_facts {chain : List Bool} : (chainScanned s chain tdi).regs = s.regs ∧ (chainScanned s chain tdi).pwr = s.pwr ∧
    (chainScanned s chain tdi).mot = s.mot ∧
    (chainScanned s chain tdi).jtag = { s.jtag with chain := (chain ++ tdi).drop tdi.length } ∧
    (chainScanned s chain tdi).outbox = .tdo ((chain ++ tdi).take tdi.length) :: s.outbox := ⟨rfl, rfl, rfl, rfl, rfl⟩

theorem bypass_facts : ∃ t, execBypass tdi s = .next t ∧ t.outbox = .tdo ((false :: tdi).take tdi.length) :: s.outbox ∧
    t.jtag = { s.jtag with instr := 1, bypass := ((false :: tdi).drop tdi.length).headD false } ∧
    t.flag Reg.DBG_STATUS_TAP_ACTIVE = true := by
  obtain ⟨hjtag, hout, hactive⟩ := tapInstr_facts (s := s) (n := 1)
  obtain ⟨kregs, -, -, kjtag, kout⟩ := scanBypass_facts (s := s.tapInstr 1) (tdi := tdi)
  exact ⟨_, rfl, kout.trans (by rw [hout]), kjtag.trans (by rw [hjtag]), (flag_regs kregs).trans hactive⟩

/-- As many bits as the identification has, shifted through, are the identification. -/
theorem idcode_leaves (hlen : tdi.length = 32) : (shiftThrough (bitList 32 0x14256A7B) tdi).1 = bitList 32 0x14256A7B := by
  have hbits : (bitList 32 0x14256A7B).length = 32 := by decide
  rw [shiftThrough]
  dsimp only
  rw [hlen, ← hbits]
  exact List.take_left

theorem idcode_facts (hlen : tdi.length = 32) : ∃ t, execIdcode tdi s = .next t ∧
    t.outbox = .tdo (bitList 32 0x14256A7B) :: s.outbox ∧ t.jtag = { s.jtag with instr := 2 } ∧
    t.flag Reg.DBG_STATUS_TAP_ACTIVE = true := by
  obtain ⟨hjtag, hout, hactive⟩ := tapInstr_facts (s := s) (n := 2)
  have hnext : execIdcode tdi s = .next ((s.tapInstr 2).emit (.tdo (bitList 32 0x14256A7B))) := by
    rw [execIdcode, idcode_leaves hlen]
  exact ⟨_, hnext, congrArg (List.cons _) hout, hjtag, (flag_regs emit_regs).trans hactive⟩

theorem samplePreload_facts {pins : List Bool} : ∃ t, execSamplePreload pins tdi s = .next t ∧
    t.outbox = .tdo ((pins ++ tdi).take tdi.length) :: s.outbox ∧
    t.jtag = { s.jtag with instr := 3, chain := (pins ++ tdi).drop tdi.length } ∧ t.flag Reg.DBG_STATUS_TAP_ACTIVE = true := by
  obtain ⟨hjtag, hout, hactive⟩ := tapInstr_facts (s := s) (n := 3)
  obtain ⟨kregs, -, -, kjtag, kout⟩ := chainScanned_facts (s := s.tapInstr 3) (tdi := tdi) (chain := pins)
  have hnext : execSamplePreload pins tdi s = .next (chainScanned (s.tapInstr 3) pins tdi) := rfl
  exact ⟨_, hnext, kout.trans (by rw [hout]), kjtag.trans (by rw [hjtag]), (flag_regs kregs).trans hactive⟩

end Scan

/-! ### The outputs that a test drives -/

section Outputs
variable {s : State} {tdi : List Bool} {n l : Nat}

theorem lasersOff_ldEn : s.lasersOff.pwr.ldEn = false := by
  unfold State.lasersOff
  refine (foldl_keeps (g := fun u : State => u.pwr.ldEn) fun u b => ?_).trans rfl
  rw [put_pwr, put_pwr]

theorem loopOff_ldEn : (s.loopOff l).pwr.ldEn = s.pwr.ldEn := by
  have hdrop : (s.dropJump l).pwr = s.pwr := mv_dropJump.pwr (by decide +kernel)
  have hcoil : ∀ u : State, (u.coilOff l).pwr.ldEn = u.pwr.ldEn := fun u => by
    unfold State.coilOff
    dsimp only
    rw [put_pwr]
  have hset : ∀ (u : State) (v : LoopSt), (u.setLoop l v).pwr = u.pwr := fun _ _ => rfl
  unfold State.loopOff
  dsimp only
  rw [hcoil, put_pwr, hset, hdrop]

theorem loopsOff_ldEn : s.loopsOff.pwr.ldEn = s.pwr.ldEn :=
  foldl_keeps (g := fun u : State => u.pwr.ldEn) fun _ _ => loopOff_ldEn

theorem spindleOff_facts : s.spindleOff.pwr.ldEn = s.pwr.ldEn ∧ s.spindleOff.pwr.spindleOn = false ∧
    ∀ x ∈ s.spindleOff.mot.bridges, 3 ≤ x.1 := by
  have hpwr : ((s.put Reg.MOT_SPN_STATUS_SSTATE 0).bridgesOff 0 3).pwr = s.pwr := put_pwr
  have hld : s.spindleOff.pwr.ldEn = ((s.put Reg.MOT_SPN_STATUS_SSTATE 0).bridgesOff 0 3).pwr.ldEn := rfl
  refine ⟨hld.trans (congrArg PowerSt.ldEn hpwr), rfl, fun x hx => ?_⟩
  have hkept := (List.mem_filter.1 hx).2
  simpa using hkept

theorem bridgesOff_facts : (s.bridgesOff 3 64).pwr = s.pwr ∧
    ∀ x ∈ (s.bridgesOff 3 64).mot.bridges, x ∈ s.mot.bridges ∧ (x.1 < 3 ∨ 64 ≤ x.1) := by
  refine ⟨rfl, fun x hx => ?_⟩
  obtain ⟨hold, hkept⟩ := List.mem_filter.1 hx
  exact ⟨hold, by simpa using hkept⟩

/-- The lasers and every bridge of the drives are off (22 R530). -/
def drivesOff (s : State) : Prop := s.pwr.ldEn = false ∧ s.pwr.spindleOn = false ∧ ∀ x ∈ s.mot.bridges, 64 ≤ x.1

theorem testOutputs_off : drivesOff s.testOutputs := by
  obtain ⟨hpwr, hkept⟩ := bridgesOff_facts (s := s.lasersOff.loopsOff.spindleOff)
  obtain ⟨hld, hspindle, hbridges⟩ := spindleOff_facts (s := s.lasersOff.loopsOff)
  refine ⟨?_, (congrArg PowerSt.spindleOn hpwr).trans hspindle, fun x hx => ?_⟩
  · exact (congrArg PowerSt.ldEn hpwr).trans (hld.trans (loopsOff_ldEn.trans lasersOff_ldEn))
  · obtain ⟨hold, hplace⟩ := hkept x hx
    have hlow := hbridges x hold
    omega

theorem testOutputs_keeps : s.testOutputs.jtag = s.jtag ∧
    s.testOutputs.flag Reg.DBG_STATUS_TAP_ACTIVE = s.flag Reg.DBG_STATUS_TAP_ACTIVE :=
  ⟨mv_testOutputs.jtag (by decide +kernel), flag_of_moves mv_testOutputs (by decide +kernel) (by decide)⟩

theorem drivesOff_of_eq {t : State} (hpwr : t.pwr = s.pwr) (hmot : t.mot = s.mot) (h : drivesOff s) : drivesOff t := by
  unfold drivesOff
  rw [hpwr, hmot]
  exact h

theorem extest_facts : ∃ t, execExtest tdi s = .next t ∧ t.jtag.instr = 4 ∧ t.jtag.chain = (s.jtag.chain ++ tdi).drop tdi.length ∧
    drivesOff t ∧ t.flag Reg.DBG_STATUS_TAP_ACTIVE = true := by
  obtain ⟨hjtag, -, hactive⟩ := tapInstr_facts (s := s) (n := 4)
  obtain ⟨ojtag, oactive⟩ := testOutputs_keeps (s := s.tapInstr 4)
  obtain ⟨kregs, kpwr, kmot, kjtag, -⟩ :=
    chainScanned_facts (s := (s.tapInstr 4).testOutputs) (tdi := tdi) (chain := (s.tapInstr 4).testOutputs.jtag.chain)
  have hnext : execExtest tdi s = .next (chainScanned (s.tapInstr 4).testOutputs (s.tapInstr 4).testOutputs.jtag.chain tdi) := rfl
  refine ⟨_, hnext, ?_, ?_, drivesOff_of_eq kpwr kmot testOutputs_off, (flag_regs kregs).trans (oactive.trans hactive)⟩
  · rw [kjtag, ojtag, hjtag]
  · rw [kjtag, ojtag, hjtag]

/-- CLAMP and HIGHZ: instruction `n` with the drives off and the bypass register in the scan. -/
theorem clampedScan_facts : (((s.tapInstr n).testOutputs).scanBypass tdi).jtag.instr = n ∧
    drivesOff (((s.tapInstr n).testOutputs).scanBypass tdi) ∧
    (((s.tapInstr n).testOutputs).scanBypass tdi).flag Reg.DBG_STATUS_TAP_ACTIVE = true := by
  obtain ⟨hjtag, -, hactive⟩ := tapInstr_facts (s := s) (n := n)
  obtain ⟨ojtag, oactive⟩ := testOutputs_keeps (s := s.tapInstr n)
  obtain ⟨kregs, kpwr, kmot, kjtag, -⟩ := scanBypass_facts (s := (s.tapInstr n).testOutputs) (tdi := tdi)
  refine ⟨?_, drivesOff_of_eq kpwr kmot testOutputs_off, (flag_regs kregs).trans (oactive.trans hactive)⟩
  rw [kjtag, ojtag, hjtag]

end Outputs

/-- Settles O52: the instructions of the boundary scan and the reset of the TAP. -/
theorem testAccess : Obligations.TestAccess := by
  unfold Obligations.TestAccess
  refine ⟨?_, ?_, ?_, ?_, ?_, ?_, ?_⟩
  case _ =>
    intro s
    obtain ⟨t, hnext, hmbx, hjtag, hactive, hev, horphans⟩ := tapReset_facts (s := s)
    exact ⟨t, hnext, hmbx, hjtag, hactive, hev, horphans, keeps_of_next mv_execTapReset hnext (by decide +kernel)⟩
  case _ =>
    intro tdi s
    obtain ⟨t, hnext, hout, hjtag, hactive⟩ := bypass_facts (s := s) (tdi := tdi)
    exact ⟨t, hnext, hout, hjtag, hactive, keeps_of_next mv_execBypass hnext (by decide +kernel)⟩
  case _ =>
    intro tdi s hlen
    obtain ⟨t, hnext, hout, hjtag, hactive⟩ := idcode_facts (s := s) hlen
    exact ⟨t, hnext, hout, hjtag, hactive, keeps_of_next mv_execIdcode hnext (by decide +kernel)⟩
  case _ =>
    intro pins tdi s
    obtain ⟨t, hnext, hout, hjtag, hactive⟩ := samplePreload_facts (s := s) (tdi := tdi) (pins := pins)
    exact ⟨t, hnext, hout, hjtag, hactive, keeps_of_next mv_execSamplePreload hnext (by decide +kernel)⟩
  case _ =>
    intro tdi s
    obtain ⟨t, hnext, hinstr, hchain, ⟨hld, hspindle, hbridges⟩, hactive⟩ := extest_facts (s := s) (tdi := tdi)
    exact ⟨t, hnext, hinstr, hchain, hld, hspindle, hbridges, hactive, keeps_of_next mv_execExtest hnext (by decide +kernel)⟩
  case _ =>
    intro tdi s
    obtain ⟨hinstr, ⟨hld, hspindle, hbridges⟩, hactive⟩ := clampedScan_facts (s := s) (n := 5) (tdi := tdi)
    exact ⟨_, rfl, hinstr, hld, hspindle, hbridges, hactive, keeps_of_next (mv_execClamp (tdi := tdi)) rfl (by decide +kernel)⟩
  case _ =>
    intro tdi s
    obtain ⟨hinstr, ⟨hld, hspindle, hbridges⟩, hactive⟩ := clampedScan_facts (s := s) (n := 6) (tdi := tdi)
    exact ⟨_, rfl, hinstr, hld, hspindle, hbridges, hactive, keeps_of_next (mv_execHighz (tdi := tdi)) rfl (by decide +kernel)⟩

end Sys2Proof.Proofs
end
